-- ==== Sys2Proof/Word.lean ====
section
/-! DEFINITION. The plain words the model is written in: a byte, the 32-bit word of an engine port, the
64-bit word of a channel, and the sparse table every large store of the device is kept in. -/

namespace Sys2Proof

/-- One byte of a packet or of a memory (R9, R10). -/
abbrev Byte := BitVec 8

/-- The 32-bit value a move carries (R297). -/
abbrev W32 := BitVec 32

/-- The 64-bit word of a channel (Table 11.1) and of a message. -/
abbrev W64 := BitVec 64

/-- A sparse table: key and value pairs, the keys strictly rising, no pair holding the value that an
unlisted key reads as. `Machine.SMap` gives its operations. -/
abbrev SMap (α : Type) := List (Nat × α)

end Sys2Proof
end

