-- ==== Sys2Proof/Syntax.lean ====
section
/-! DEFINITION. The commands: one constructor for each row of the opcode table, with the row's operands. A command is
one thing that reaches the block from outside (a register access, a frame, a pin, a request of a link) or one step of
a sequencer or engine of its own, at the moment it happens. `now` is the wall time of the command in ns since power-on;
`t` names a thread: 0 to 1535 a packet-engine thread by its global thread ID, 1536 + n the thread that runs on CEn. -/

namespace Sys2Proof

/-- What the self-test of a boot found: the regions whose test failed, with their failing parts, an unrepaired memory and the
failing helpers; and the responses of the regions in the logic test. -/
structure BootTests where
  failed : List (Nat × BitVec 17 × Bool × BitVec 2)
  scans : List (Nat × List (BitVec 64))
  deriving DecidableEq, Repr

/-- What the test of one region found: its failing parts, its responses in the logic test, and its engines' speeds. -/
structure RegionTest where
  fail : BitVec 17
  scan : Option (List (BitVec 64))
  speeds : List (BitVec 16)
  deriving DecidableEq, Repr

/-- What MACsec made of a frame (0 not protected, 1 good, 2 its check failed), with its packet number. -/
structure MacsecFrame where
  outcome : Fin 3
  pn : BitVec 64
  deriving DecidableEq, Repr

/-- Which SA of a port: the receive or the transmit side, and whether it counts extended packet numbers. -/
structure SaKind where
  rx : Bool
  xpn : Bool
  deriving DecidableEq, Repr

/-- How a link comes up: its speed, and the FEC that auto-negotiation resolved. -/
structure LinkMode where
  speed : BitVec 18
  fec : Fin 2
  deriving DecidableEq, Repr

/-- A thread's turn to issue, and the upset of on-die SRAM that it may meet (log entry 188). -/
structure Turn where
  thread : Fin 1544
  upset : Option (Fin 4 × BitVec 27 × Bool)
  deriving DecidableEq, Repr

/-- A read of one word: its address and its byte enables. -/
structure WordRead where
  addr : BitVec 22
  be : BitVec 4
  deriving DecidableEq, Repr

inductive Instr where
  /-- POWER_ON_RESET: VDD_AON and VDD_AON18 rise past their thresholds for 1 ms, so the always-on domain releases power-on reset and Fountainhead starts (R911) -/
  | powerOnReset (now : Nat)
  /-- RAILS_OK_RISE: RAILS_OK rises; Sequence 1.1 may start 1 ms later if RESET_N is also released (R913) -/
  | railsOkRise (now : Nat)
  /-- RAILS_OK_TIMEOUT: RAILS_OK has not risen 50 ms after CORE_EN, so Fountainhead drops CORE_EN and retries 1 s later (R913) -/
  | railsOkTimeout (now : Nat)
  /-- CORE_EN_RETRY: Fountainhead asserts CORE_EN again 1 s after it dropped it for a missing RAILS_OK (R913) -/
  | coreEnRetry (now : Nat)
  /-- RAILS_OK_FALL: RAILS_OK falls while CORE_EN is high, which acts as RESET_N held low (R914) -/
  | railsOkFall (now : Nat)
  /-- RAIL_VOLTAGE_OUT_OF_RANGE: A GAU_VOLTn reading stays outside its rail range for 100 µs, which acts as RESET_N held low (R914) -/
  | railVoltageOutOfRange (now : Nat) (monitor : Fin 16)
  /-- AON_BROWNOUT: VDD_AON or VDD_AON18 falls below its threshold; Fountainhead finishes the Wellstore word being written and holds every domain in reset (R915) -/
  | aonBrownout (now : Nat)
  /-- RESET_N_ASSERT: RESET_N is held low for 1 µs or more, which starts a device reset (R793) -/
  | resetNAssert (now : Nat)
  /-- RESET_RELEASE: The device reset is released and Sequence 1.1 starts (R913) -/
  | resetRelease (now : Nat) (qmode2 qmode3 : Fin 4)
  /-- IMAGE_VERDICT: Fountainhead finishes checking both image slots and chooses a slot or the fallback bridge (R834) -/
  | imageVerdict (now : Nat) (bist : BootTests) (slices : List (Fin 36)) (repairs : List (Nat × BitVec 16 × W32 × W32))
  /-- AUTO_NEG_TIMEOUT: No Clause 73 partner answers within 500 ms, so the fallback port tries parallel detection (R35) -/
  | autoNegTimeout (port : Fin 32)
  /-- FRAME_RECEIVE: An Ethernet frame completes on a port and is checked, staged and stamped, then given a droplet or discarded (R63) -/
  | frameReceive (now : Nat) (port : Fin 32) (stamp : Nat) (bytes : List Byte) (fcsOk cut express : Bool)
      (macsec : MacsecFrame)
  /-- PAUSE_FRAME_RECEIVE: A received PAUSE or PFC frame stops the port or its classes for the quanta given (R619) -/
  | pauseFrameReceive (now : Nat) (port : Fin 32) (pfc : Bool) (classes : BitVec 8) (quanta : List (BitVec 16))
  /-- PAUSE_QUANTA_EXPIRE: A received pause runs out and the stopped classes may send again (R619) -/
  | pauseQuantaExpire (now : Nat) (port : Fin 32) (cls : Fin 8)
  /-- T1S_FRAME_RECEIVE: A frame completes on a T1S segment and goes through step 1 of Sequence 2.1 (R759) -/
  | t1sFrameReceive (now : Nat) (seg : Fin 16) (stamp : Nat) (node : Fin 33) (bytes : List Byte) (fcsOk cut : Bool)
  /-- PLCA_BEACON_LOSS: A follower hears no beacon for two cycles and falls back to CSMA/CD (R756) -/
  | plcaBeaconLoss (seg : Fin 16)
  /-- PLCA_BEACON_RESUME: A follower hears beacons again and returns to PLCA (R756) -/
  | plcaBeaconResume (seg : Fin 16)
  /-- NODE_QUIET: A PLCA node has not transmitted for NODE_QUIET and its SEEN bit clears (R758) -/
  | nodeQuiet (now : Nat) (seg : Fin 16) (node : Fin 32)
  /-- CAN_FRAME_RECEIVE: A CAN frame completes and is stored as a CAN record (R762) -/
  | canFrameReceive (now : Nat) (ch : Fin 16) (id : W32) (format sdt vcid : Byte) (af : W32) (data : List Byte) (crcOk : Bool)
  /-- CAN_BUS_OFF: A CAN channel reaches bus-off and its link counts as down (R763) -/
  | canBusOff (ch : Fin 16)
  /-- CAN_BUS_OFF_RECOVER: With AUTO_RECOVER set, a bus-off channel recovers after 128 occurrences of 11 recessive bits (R763) -/
  | canBusOffRecover (ch : Fin 16)
  /-- PRES_DEBOUNCE_END: An input's raw level has held its new value for 5 ms; the debounced level changes and the change is latched (R767) -/
  | presDebounceEnd (now : Nat) (input : Fin 9)
  /-- PRES_LATCH_TAKE: The fabric takes the oldest latched input change and builds its event frame (R768) -/
  | presLatchTake (now : Nat) (input : Fin 9)
  /-- LINK_UP: A port or segment link comes up; on a plug source this is a plug event (R773) -/
  | linkUp (now : Nat) (src : Fin 48) (mode : LinkMode)
  /-- PORT_LINK_DOWN: A port's link goes down; its queued copies are dried and its credits reset (R597) -/
  | portLinkDown (now : Nat) (src : Fin 48) (cause : Fin 6)
  /-- LINK_HOLD_EXPIRE: A plug source's loss has lasted LINK_HOLD, so Sequence 18.2 starts (R775) -/
  | linkHoldExpire (now : Nat) (src : Fin 73)
  /-- UNPLUG_DRAINED: Every droplet from the unplugged source has been released, so the flush, DEPARTED marking and departure message follow (R125) -/
  | unplugDrained (now : Nat) (src : Fin 73)
  /-- LANE_TRAINING_FAIL: A lane fails training or retraining; retries, then a spare, then link down follow (R745) -/
  | laneTrainingFail (lane : Fin 32)
  /-- LANE_TRAINING_RETRY: With no spare left, the MAC retries training once each second (R745) -/
  | laneTrainingRetry (lane : Fin 32) (ok : Bool)
  /-- LANE_MARGIN_LOW: A lane's eye margin falls below the threshold, which starts a spare slice substitution (R737) -/
  | laneMarginLow (lane : Fin 32) (margin : BitVec 8)
  /-- SLICE_ADAPT_DONE: The spare slice has adapted, so the port holds new frames after the one being sent (R738) -/
  | sliceAdaptDone (lane : Fin 32) (ok : Bool)
  /-- SLICE_SWITCHOVER: Transmit and receive move to the spare slice and the port hold is released (R739) -/
  | sliceSwitchover (lane : Fin 32) (receiving : Bool)
  /-- PREEMPT_VERIFY_TIMEOUT: The 10 ms verify time of the MAC merge sublayer expires and verification retries or fails (R751) -/
  | preemptVerifyTimeout (port : Fin 32)
  /-- DROPLET_DISPATCH: A thread with room takes its oldest waiting droplet of the highest class (R65) -/
  | dropletDispatch (t : Fin 1536)
  /-- HOLD_EXPIRE: A slot's hold limit passes and the slot is dried with HOLD_EXPIRED (R100) -/
  | holdExpire (now : Nat) (slot : Fin 65536)
  /-- TRANSMISSION_SELECT: When the MAC can start a frame, selection picks the highest eligible class (R617) -/
  | transmissionSelect (now : Nat) (port : Fin 32)
  /-- FRAME_TRANSMIT_END: A copy's transmission ends; the last copy frees the buffers (R68) -/
  | frameTransmitEnd (now : Nat) (port : Fin 32) (express : Bool)
  /-- SHAPER_REFILL: At each whole microsecond, the token-bucket and credit-based shapers refill (R600) -/
  | shaperRefill (now : Nat)
  /-- METER_REFILL: At each whole microsecond, each meter's buckets refill (R604) -/
  | meterRefill (now : Nat)
  /-- GATE_EVENT: A gate control list entry begins at its network time and sets the gate states (R607) -/
  | gateEvent (now : Nat) (sgate : Bool) (idx : Fin 1024)
  /-- GCL_CONFIG_SWAP: The config change time is reached and the admin list becomes operational (R610) -/
  | gclConfigSwap (now : Nat) (sgate : Bool) (idx : Fin 1024)
  /-- SRF_RESET_TIMEOUT: A recovery function's reset timer reaches RESET_MS and TAKE_ANY is set (R586) -/
  | srfResetTimeout (now : Nat) (srf : Fin 4096)
  /-- FCI_EDGE: An FCI pin changes level and mapped ports stop or resume the masked classes (R620) -/
  | fciEdge (now : Nat) (n : Fin 8) (level : Bool)
  /-- QUEUE_SHUTDOWN_DONE: A shutting-down Sluice port, class or host queue empties and applies any pending enable (R598) -/
  | queueShutdownDone (kind : Fin 3) (idx : Fin 320)
  /-- TICK: The network time of TICK_DOM reaches a multiple of TICK_PERIOD (R575) -/
  | tick (now : Nat)
  /-- DELAY_EXPIRE: A delay-list entry reaches its target tick and its wait ends (R655) -/
  | delayExpire (desc : Fin 4096)
  /-- PPS_OUT_SECOND: At each whole second of PPS_DOM, PPS_OUT is asserted for WIDTH ms (R577) -/
  | ppsOutSecond (now : Nat)
  /-- PPS_IN_EDGE: A rising edge on PPS_IN captures network time into TIM_PPSIN (R577) -/
  | ppsInEdge (now : Nat)
  /-- RECIRC_CLASSIFY: Classification takes a recirculated droplet from queues 256–259 and walks and classifies it again (R444) -/
  | recircClassify
  /-- LEARN_PROCESS: The learner takes a learn request and updates the layer-2 table (R212) -/
  | learnProcess
  /-- EP_CREATE: The update unit creates or reclaims a dynamic endpoint record (R232) -/
  | epCreate
  /-- AGEING_VISIT: At each sweep interval, the scanner increments AGE on each dynamic entry and removes it at 7 (R216) -/
  | ageingVisit (table : Fin 17)
  /-- COMMIT_REQUEST: A partition writes RUL_COMMIT.GO and its commit becomes pending (R179) -/
  | commitRequest (part : Fin 5)
  /-- COMMIT_EXECUTE: The commit unit takes the next pending commit, checks it and creates the new version (R176) -/
  | commitExecute
  /-- VERSION_RETIRE: A non-ingress version reaches zero references and pins and retires (R189) -/
  | versionRetire (slot : Fin 4)
  /-- RUL_STG_WRITE: A staging WRITE command writes an entry into the partition's staging (R171) -/
  | rulStgWrite (part : Fin 5)
  /-- RUL_STG_READ: A staging READ command returns the staged or ingress value of an entry (R174) -/
  | rulStgRead (part : Fin 5)
  /-- RUL_STG_CLEAR: A staging CLEAR command discards the partition's staged blocks (R175) -/
  | rulStgClear (part : Fin 5)
  /-- RUL_PIN_PIN: The supervisor adds a pin to a live version (R193) -/
  | rulPinPin (part : Fin 4) (version : BitVec 16)
  /-- RUL_PIN_UNPIN: The supervisor removes a pin from a version (R193) -/
  | rulPinUnpin (part : Fin 4) (version : BitVec 16)
  /-- TBL_INSERT: A host INSERT command adds a static or pinned entry, or a provisioned record (R237) -/
  | tblInsert (part : Fin 4)
  /-- TBL_DELETE: A host DELETE command removes an entry (R236) -/
  | tblDelete (part : Fin 4)
  /-- TBL_READ: A host READ command returns an entry by key or index (R236) -/
  | tblRead (part : Fin 4)
  /-- TBL_UPDATE: A host UPDATE command writes STATE, CLASS and ZONE of a registry record (R238) -/
  | tblUpdate (part : Fin 4)
  /-- TBL_FLUSH: A host FLUSH command starts a background flush (R239) -/
  | tblFlush (part : Fin 4)
  /-- TBL_FLUSH_DONE: A background flush ends and FLUSH_DONE is raised (R239) -/
  | tblFlushDone (part : Fin 4)
  /-- TBL_NEXT: A host NEXT command returns the next valid entry (R236) -/
  | tblNext (part : Fin 4)
  /-- BUNDLE_ISSUE: A thread issues a bundle whose moves take effect in the order of Table 8.4 (R313) -/
  | bundleIssue (turn : Turn)
  /-- UNIT_OPERATION_COMPLETE: A unit operation completes and its result and status ports become ready (R300) -/
  | unitOperationComplete (t : Fin 1544) (unit : Fin 32)
  /-- PC_T_JUMP: The thread continues at the operand bundle address (R324) -/
  | pcTJump (t : Fin 1544) (x : W32)
  /-- PC_T_BR: The thread branches relative to the current bundle address (R325) -/
  | pcTBr (t : Fin 1544) (x : W32)
  /-- PC_T_CALL: The thread calls, pushing or linking its return address (R327) -/
  | pcTCall (t : Fin 1544) (x : W32)
  /-- PC_T_RET: The thread returns from the return stack or lnk (R327) -/
  | pcTRet (t : Fin 1544) (x : W32)
  /-- PC_T_HALT: The thread parks itself, or faults HALT_HELD (R258) -/
  | pcTHalt (t : Fin 1544) (x : W32)
  /-- LP_T_BEGIN: The thread opens a loop level (R333) -/
  | lpTBegin (t : Fin 1544) (x : W32)
  /-- LP_T_BRK: The thread closes the innermost loop level (R338) -/
  | lpTBrk (t : Fin 1544) (x : W32)
  /-- ALU_T_ADD: The ALU computes a + x (R300) -/
  | aluTAdd (t : Fin 1544) (alu : Fin 2) (x : W32)
  /-- ALU_T_SUB: The ALU computes a − x (R300) -/
  | aluTSub (t : Fin 1544) (alu : Fin 2) (x : W32)
  /-- ALU_T_AND: The ALU computes a and x (R300) -/
  | aluTAnd (t : Fin 1544) (alu : Fin 2) (x : W32)
  /-- ALU_T_OR: The ALU computes a or x (R300) -/
  | aluTOr (t : Fin 1544) (alu : Fin 2) (x : W32)
  /-- ALU_T_XOR: The ALU computes a xor x (R300) -/
  | aluTXor (t : Fin 1544) (alu : Fin 2) (x : W32)
  /-- ALU_T_ANDN: The ALU computes a and not x (R300) -/
  | aluTAndn (t : Fin 1544) (alu : Fin 2) (x : W32)
  /-- ALU_T_SHL: The ALU shifts a left (R300) -/
  | aluTShl (t : Fin 1544) (alu : Fin 2) (x : W32)
  /-- ALU_T_SHR: The ALU shifts a right logically (R300) -/
  | aluTShr (t : Fin 1544) (alu : Fin 2) (x : W32)
  /-- ALU_T_SAR: The ALU shifts a right arithmetically (R300) -/
  | aluTSar (t : Fin 1544) (alu : Fin 2) (x : W32)
  /-- ALU_T_ROTL: The ALU rotates a left (R300) -/
  | aluTRotl (t : Fin 1544) (alu : Fin 2) (x : W32)
  /-- ALU_T_MIN: The ALU returns the signed minimum (R300) -/
  | aluTMin (t : Fin 1544) (alu : Fin 2) (x : W32)
  /-- ALU_T_MAX: The ALU returns the signed maximum (R300) -/
  | aluTMax (t : Fin 1544) (alu : Fin 2) (x : W32)
  /-- ALU_T_MINU: The ALU returns the unsigned minimum (R300) -/
  | aluTMinu (t : Fin 1544) (alu : Fin 2) (x : W32)
  /-- ALU_T_MAXU: The ALU returns the unsigned maximum (R300) -/
  | aluTMaxu (t : Fin 1544) (alu : Fin 2) (x : W32)
  /-- ALU_T_MOV: The ALU returns x (R300) -/
  | aluTMov (t : Fin 1544) (alu : Fin 2) (x : W32)
  /-- BIT_T_EXTU: The bit unit extracts a field zero-extended (R366) -/
  | bitTExtu (t : Fin 1544) (x : W32)
  /-- BIT_T_EXTS: The bit unit extracts a field sign-extended (R366) -/
  | bitTExts (t : Fin 1544) (x : W32)
  /-- BIT_T_INS: The bit unit inserts a field (R366) -/
  | bitTIns (t : Fin 1544) (x : W32)
  /-- BIT_T_CLZ: The bit unit counts leading zeros (R300) -/
  | bitTClz (t : Fin 1544) (x : W32)
  /-- BIT_T_CTZ: The bit unit counts trailing zeros (R300) -/
  | bitTCtz (t : Fin 1544) (x : W32)
  /-- BIT_T_POPC: The bit unit counts set bits (R300) -/
  | bitTPopc (t : Fin 1544) (x : W32)
  /-- BIT_T_BSWAP: The bit unit reverses the bytes (R300) -/
  | bitTBswap (t : Fin 1544) (x : W32)
  /-- BIT_T_BSWAP16: The bit unit swaps the low two bytes (R300) -/
  | bitTBswap16 (t : Fin 1544) (x : W32)
  /-- BIT_T_BITREV: The bit unit reverses the bits (R300) -/
  | bitTBitrev (t : Fin 1544) (x : W32)
  /-- BIT_T_SEXT8: The bit unit sign-extends bits 7:0 (R300) -/
  | bitTSext8 (t : Fin 1544) (x : W32)
  /-- BIT_T_SEXT16: The bit unit sign-extends bits 15:0 (R300) -/
  | bitTSext16 (t : Fin 1544) (x : W32)
  /-- CMP_T_EQ: The compare unit tests a = x and may write a predicate (R367) -/
  | cmpTEq (t : Fin 1544) (x : W32)
  /-- CMP_T_NE: The compare unit tests a ≠ x (R367) -/
  | cmpTNe (t : Fin 1544) (x : W32)
  /-- CMP_T_LT: The compare unit tests a < x, signed (R367) -/
  | cmpTLt (t : Fin 1544) (x : W32)
  /-- CMP_T_LE: The compare unit tests a ≤ x, signed (R367) -/
  | cmpTLe (t : Fin 1544) (x : W32)
  /-- CMP_T_GT: The compare unit tests a > x, signed (R367) -/
  | cmpTGt (t : Fin 1544) (x : W32)
  /-- CMP_T_GE: The compare unit tests a ≥ x, signed (R367) -/
  | cmpTGe (t : Fin 1544) (x : W32)
  /-- CMP_T_LTU: The compare unit tests a < x, unsigned (R367) -/
  | cmpTLtu (t : Fin 1544) (x : W32)
  /-- CMP_T_LEU: The compare unit tests a ≤ x, unsigned (R367) -/
  | cmpTLeu (t : Fin 1544) (x : W32)
  /-- CMP_T_GTU: The compare unit tests a > x, unsigned (R367) -/
  | cmpTGtu (t : Fin 1544) (x : W32)
  /-- CMP_T_GEU: The compare unit tests a ≥ x, unsigned (R367) -/
  | cmpTGeu (t : Fin 1544) (x : W32)
  /-- CMP_T_TST: The compare unit tests (a and x) ≠ 0 (R367) -/
  | cmpTTst (t : Fin 1544) (x : W32)
  /-- MUL_T_MULU: The multiplier forms the 64-bit unsigned product (R300) -/
  | mulTMulu (t : Fin 1544) (x : W32)
  /-- MUL_T_MULS: The multiplier forms the 64-bit signed product (R300) -/
  | mulTMuls (t : Fin 1544) (x : W32)
  /-- MUL_T_DIVU: The multiplier divides, unsigned (R368) -/
  | mulTDivu (t : Fin 1544) (x : W32)
  /-- MUL_T_DIVS: The multiplier divides, signed (R368) -/
  | mulTDivs (t : Fin 1544) (x : W32)
  /-- LS_T_LD8U: The load/store unit loads 1 byte, zero-extended (R371) -/
  | lsTLd8u (t : Fin 1544) (x : W32)
  /-- LS_T_LD8S: The load/store unit loads 1 byte, sign-extended (R371) -/
  | lsTLd8s (t : Fin 1544) (x : W32)
  /-- LS_T_LD16U: The load/store unit loads 2 bytes, zero-extended (R371) -/
  | lsTLd16u (t : Fin 1544) (x : W32)
  /-- LS_T_LD16S: The load/store unit loads 2 bytes, sign-extended (R371) -/
  | lsTLd16s (t : Fin 1544) (x : W32)
  /-- LS_T_LD32: The load/store unit loads 4 bytes (R371) -/
  | lsTLd32 (t : Fin 1544) (x : W32)
  /-- LS_T_LD64: The load/store unit loads 8 bytes (R369) -/
  | lsTLd64 (t : Fin 1544) (x : W32)
  /-- LS_T_ST8: The load/store unit stores 1 byte (R370) -/
  | lsTSt8 (t : Fin 1544) (x : W32)
  /-- LS_T_ST16: The load/store unit stores 2 bytes (R370) -/
  | lsTSt16 (t : Fin 1544) (x : W32)
  /-- LS_T_ST32: The load/store unit stores 4 bytes (R370) -/
  | lsTSt32 (t : Fin 1544) (x : W32)
  /-- LS_T_ST64: The load/store unit stores 8 bytes (R370) -/
  | lsTSt64 (t : Fin 1544) (x : W32)
  /-- LS_T_PF: The line is prefetched into the side buffer (R522) -/
  | lsTPf (t : Fin 1544) (x : W32)
  /-- LS_T_CLEAN: The line is written back if dirty and kept (R532) -/
  | lsTClean (t : Fin 1544) (x : W32)
  /-- LS_T_INV: The line is invalidated without write-back (R532) -/
  | lsTInv (t : Fin 1544) (x : W32)
  /-- LS_T_CINV: The line is cleaned, then invalidated (R532) -/
  | lsTCinv (t : Fin 1544) (x : W32)
  /-- LS_T_FENCE: The dirty L1 lines written by the thread are written back (R532) -/
  | lsTFence (t : Fin 1544) (x : W32)
  /-- PW_T_LD8: The packet window reads 1 packet byte (R373) -/
  | pwTLd8 (t : Fin 1544) (x : W32)
  /-- PW_T_LD16: The packet window reads 2 packet bytes (R373) -/
  | pwTLd16 (t : Fin 1544) (x : W32)
  /-- PW_T_LD32: The packet window reads 4 packet bytes (R373) -/
  | pwTLd32 (t : Fin 1544) (x : W32)
  /-- PW_T_ST8: The packet window writes 1 packet byte (R373) -/
  | pwTSt8 (t : Fin 1544) (x : W32)
  /-- PW_T_ST16: The packet window writes 2 packet bytes (R373) -/
  | pwTSt16 (t : Fin 1544) (x : W32)
  /-- PW_T_ST32: The packet window writes 4 packet bytes (R373) -/
  | pwTSt32 (t : Fin 1544) (x : W32)
  /-- PW_T_INS: The packet window opens zero bytes in the head region (R374) -/
  | pwTIns (t : Fin 1544) (x : W32)
  /-- PW_T_DEL: The packet window removes bytes from the head region (R375) -/
  | pwTDel (t : Fin 1544) (x : W32)
  /-- PW_T_LEN: The packet window returns the current length and HEADLEN (R376) -/
  | pwTLen (t : Fin 1544) (x : W32)
  /-- DL_T_RD: A droplet word is read (R365) -/
  | dlTRd (t : Fin 1544) (x : W32)
  /-- DL_T_WR: A writable droplet word is written (R378) -/
  | dlTWr (t : Fin 1544) (x : W32)
  /-- DL_T_FLK: A first-look key word is read (R365) -/
  | dlTFlk (t : Fin 1544) (x : W32)
  /-- DL_T_KEY: A key-buffer word is read (R148) -/
  | dlTKey (t : Fin 1544) (x : W32)
  /-- DL_T_LAY: A layer slot is read (R148) -/
  | dlTLay (t : Fin 1544) (x : W32)
  /-- DL_T_PINFO: The parse end position, outcome or PARAM index is read (R148) -/
  | dlTPinfo (t : Fin 1544) (x : W32)
  /-- TL_T_L2: The table unit runs an L2_LOOKUP (R214) -/
  | tlTL2 (t : Fin 1544) (x : W32)
  /-- TL_T_EP: The table unit runs an EP_READ (R228) -/
  | tlTEp (t : Fin 1544) (x : W32)
  /-- TL_T_PARAM: The table unit reads a PARAM word of a version (R381) -/
  | tlTParam (t : Fin 1544) (x : W32)
  /-- TL_T_FFIND: The table unit runs a FLOW_FIND (R379) -/
  | tlTFfind (t : Fin 1544) (x : W32)
  /-- TL_T_FGET: The table unit runs a FLOW_GET, finding or creating the flow (R226) -/
  | tlTFget (t : Fin 1544) (x : W32)
  /-- TL_T_FREAD: The table unit runs a FLOW_READ (R223) -/
  | tlTFread (t : Fin 1544) (x : W32)
  /-- TL_T_FWRITE: The table unit runs a FLOW_WRITE (R380) -/
  | tlTFwrite (t : Fin 1544) (x : W32)
  /-- TL_T_FDEL: The table unit runs a FLOW_DELETE (R235) -/
  | tlTFdel (t : Fin 1544) (x : W32)
  /-- CH_T_PUT: A word without an end mark is appended to a channel (R441) -/
  | chTPut (t : Fin 1544) (x : W32)
  /-- CH_T_PUTL: A word with an end mark is appended and the packet becomes whole (R445) -/
  | chTPutl (t : Fin 1544) (x : W32)
  /-- CH_T_GET: The next word of a whole packet is taken (R446) -/
  | chTGet (t : Fin 1544) (x : W32)
  /-- CH_T_COUNT: The whole packets waiting are counted (R445) -/
  | chTCount (t : Fin 1544) (x : W32)
  /-- CH_T_WATCH: A watch is registered on a channel (R460) -/
  | chTWatch (t : Fin 1544) (x : W32)
  /-- CH_T_UNWATCH: A watch is removed (R463) -/
  | chTUnwatch (t : Fin 1544) (x : W32)
  /-- CH_WAIT_TIMEOUT: A channel get or put reaches ch.to and completes with TIMEOUT (R383) -/
  | chWaitTimeout (now : Nat) (t : Fin 1544)
  /-- PAUSE_REFRESH: While a channel stays ABOVE, the pause frame is repeated every 32,768 quanta (R472) -/
  | pauseRefresh (now : Nat) (port : Fin 32)
  /-- FCO_MIN_HOLD_EXPIRE: MIN_HOLD passes and a pin with no ABOVE channel deasserts (R467) -/
  | fcoMinHoldExpire (now : Nat) (n : Fin 8)
  /-- LK_T_ACQ: The thread acquires a lock, waiting as needed (R386) -/
  | lkTAcq (t : Fin 1544) (x : W32)
  /-- LK_T_TRY: The thread tries a lock without waiting (R669) -/
  | lkTTry (t : Fin 1544) (x : W32)
  /-- LK_T_REL: The thread releases a mutex or gives back semaphore units (R675) -/
  | lkTRel (t : Fin 1544) (x : W32)
  /-- LK_T_CANCEL: The thread withdraws its queued acquire (R387) -/
  | lkTCancel (t : Fin 1544) (x : W32)
  /-- LK_T_QUERY: The thread reads the lock's state (R676) -/
  | lkTQuery (t : Fin 1544) (x : W32)
  /-- LOCK_WAIT_TIMEOUT: A queued acquire's wait limit passes and it completes with TIMEOUT (R670) -/
  | lockWaitTimeout (now : Nat) (req : BitVec 16)
  /-- AT_T_ADD: An atomic adds to a 32- or 64-bit word (R390) -/
  | atTAdd (t : Fin 1544) (wide : Bool) (x : W32)
  /-- AT_T_SUB: An atomic subtracts from a word (R390) -/
  | atTSub (t : Fin 1544) (wide : Bool) (x : W32)
  /-- AT_T_SWAP: An atomic swaps a word (R390) -/
  | atTSwap (t : Fin 1544) (wide : Bool) (x : W32)
  /-- AT_T_CAS: An atomic compares and swaps a word (R390) -/
  | atTCas (t : Fin 1544) (wide : Bool) (x : W32)
  /-- AT_T_AND: An atomic ANDs into a word (R390) -/
  | atTAnd (t : Fin 1544) (wide : Bool) (x : W32)
  /-- AT_T_OR: An atomic ORs into a word (R390) -/
  | atTOr (t : Fin 1544) (wide : Bool) (x : W32)
  /-- AT_T_MIN: An atomic keeps the unsigned minimum (R390) -/
  | atTMin (t : Fin 1544) (wide : Bool) (x : W32)
  /-- AT_T_MAX: An atomic keeps the unsigned maximum (R390) -/
  | atTMax (t : Fin 1544) (wide : Bool) (x : W32)
  /-- EVT_T_WAIT: The thread waits on its selected event flags (R268) -/
  | evtTWait (t : Fin 1544) (x : W32)
  /-- EVT_T_CLR: The thread clears event flags (R392) -/
  | evtTClr (t : Fin 1544) (x : W32)
  /-- EVT_T_SIG: The thread sets SIGNAL in another thread of its engine (R269) -/
  | evtTSig (t : Fin 1544) (x : W32)
  /-- EVT_T_MGET: The thread takes its oldest control-plane message (R394) -/
  | evtTMget (t : Fin 1544) (x : W32)
  /-- TM_T_START: The thread starts its timer (R393) -/
  | tmTStart (t : Fin 1544) (x : W32)
  /-- TM_T_STOP: The thread stops its timer (R393) -/
  | tmTStop (t : Fin 1544) (x : W32)
  /-- TM_T_NOW: The thread reads the local time base (R571) -/
  | tmTNow (t : Fin 1544) (x : W32)
  /-- TM_T_NET: The thread reads the network time of a domain (R572) -/
  | tmTNet (t : Fin 1544) (x : W32)
  /-- TIMER_EXPIRE: A thread's timer expires and sets TIMER (R393) -/
  | timerExpire (now : Nat) (t : Fin 1544)
  /-- CS_T_ALLOC: The thread allocates a buffer from a pool (R488) -/
  | csTAlloc (t : Fin 1544) (x : W32)
  /-- CS_T_FREE: The thread drops a buffer reference (R496) -/
  | csTFree (t : Fin 1544) (x : W32)
  /-- CS_T_REF: The thread adds a buffer reference (R496) -/
  | csTRef (t : Fin 1544) (x : W32)
  /-- CS_T_ADDR: The thread reads a buffer's IPD address (R939) -/
  | csTAddr (t : Fin 1544) (x : W32)
  /-- CS_T_INFO: The thread reads a buffer's reference count (R939) -/
  | csTInfo (t : Fin 1544) (x : W32)
  /-- POOL_REFILL_DONE: A refill of 16 handles from the free ring reaches the handle cache (R483) -/
  | poolRefillDone (pool : Fin 256)
  /-- POOL_SPILL_DONE: A spill of 16 handles to the free ring completes (R483) -/
  | poolSpillDone (pool : Fin 256)
  /-- BUFFER_SCRUB_DONE: A buffer's scrub completes and its handle returns to the pool (R482) -/
  | bufferScrubDone (pool : Fin 256) (handle : BitVec 24)
  /-- WC_T_NEXT: The thread fetches its oldest handed droplet (R260) -/
  | wcTNext (t : Fin 1544) (x : W32)
  /-- WC_T_SEND: The thread completes a droplet with a send (R97) -/
  | wcTSend (t : Fin 1544) (x : W32)
  /-- WC_T_DRY: The thread completes a droplet as dry (R98) -/
  | wcTDry (t : Fin 1544) (x : W32)
  /-- WC_T_RECIRC: The thread recirculates a droplet (R69) -/
  | wcTRecirc (t : Fin 1544) (x : W32)
  /-- SQ_T_ORIG: The thread originates a droplet in an origin domain (R401) -/
  | sqTOrig (t : Fin 1544) (x : W32)
  /-- SQ_T_DEPTH: The thread reads the frames queued in a queue (R362) -/
  | sqTDepth (t : Fin 1544) (x : W32)
  /-- HELPER_T_CLAIM: The thread claims a helper (R413) -/
  | helperTClaim (t : Fin 1544) (h : Fin 2) (x : W32)
  /-- HELPER_T_REL: The thread gives up its helper claim (R414) -/
  | helperTRel (t : Fin 1544) (h : Fin 2) (x : W32)
  /-- HELPER_T_WR: The thread writes a helper register word (R409) -/
  | helperTWr (t : Fin 1544) (h : Fin 2) (x : W32)
  /-- HELPER_T_RD: The thread reads a helper register word (R409) -/
  | helperTRd (t : Fin 1544) (h : Fin 2) (x : W32)
  /-- HELPER_T_FEED: The thread passes packet bytes to the running stream operation (R422) -/
  | helperTFeed (t : Fin 1544) (h : Fin 2) (x : W32)
  /-- GCM_INIT: The crypto helper initialises a GCM context (R415) -/
  | gcmInit (t : Fin 1544) (x : W32)
  /-- GCM_AAD: The crypto helper opens GCM additional-data absorption (R419) -/
  | gcmAad (t : Fin 1544) (x : W32)
  /-- GCM_ENC: The crypto helper opens GCM encryption (R418) -/
  | gcmEnc (t : Fin 1544) (x : W32)
  /-- GCM_DEC: The crypto helper opens GCM decryption (R418) -/
  | gcmDec (t : Fin 1544) (x : W32)
  /-- GCM_TAG: The crypto helper computes the GCM tag (R418) -/
  | gcmTag (t : Fin 1544) (x : W32)
  /-- CMAC_INIT: The crypto helper initialises a CMAC context (R420) -/
  | cmacInit (t : Fin 1544) (x : W32)
  /-- CMAC_DATA: The crypto helper opens CMAC absorption (R420) -/
  | cmacData (t : Fin 1544) (x : W32)
  /-- CMAC_TAG: The crypto helper computes the CMAC tag (R420) -/
  | cmacTag (t : Fin 1544) (x : W32)
  /-- AES_BLK: The crypto helper encrypts one block (R416) -/
  | aesBlk (t : Fin 1544) (x : W32)
  /-- EQ: The crypto helper compares bytes in constant time (R415) -/
  | eq (t : Fin 1544) (x : W32)
  /-- CRC_OPEN: The check helper opens CRC absorption of fed bytes (R416) -/
  | crcOpen (t : Fin 1544) (x : W32)
  /-- CRC_REG: The check helper absorbs register bytes into a CRC (R416) -/
  | crcReg (t : Fin 1544) (x : W32)
  /-- CRC_END: The check helper finalises a CRC (R416) -/
  | crcEnd (t : Fin 1544) (x : W32)
  /-- CSUM_OPEN: The check helper opens checksum absorption of fed bytes (R421) -/
  | csumOpen (t : Fin 1544) (x : W32)
  /-- CSUM_REG: The check helper adds register bytes to a checksum (R415) -/
  | csumReg (t : Fin 1544) (x : W32)
  /-- CSUM_END: The check helper folds and finalises a checksum (R415) -/
  | csumEnd (t : Fin 1544) (x : W32)
  /-- HASH: The check helper computes the symmetric hash mix (R415) -/
  | hash (t : Fin 1544) (x : W32)
  /-- HELPER_ORPHAN_END: An orphan finishes, discards its result and frees the helper (R429) -/
  | helperOrphanEnd (b : Fin 12) (h : Fin 2)
  /-- HELPER_DISABLE: An EN field written 0 starts a helper shut-down (R433) -/
  | helperDisable (part : Fin 4) (b : Fin 12) (h : Fin 2)
  /-- HELPER_ENABLE: An EN field written 1 powers the helper and runs a known-answer test, or sets ENABLE_PENDING (R434) -/
  | helperEnable (part : Fin 4) (b : Fin 12) (h : Fin 2) (katPass : Bool)
  /-- HELPER_SHUTDOWN_DONE: A helper shut-down completes and any pending enable is applied (R433) -/
  | helperShutdownDone (b : Fin 12) (h : Fin 2) (katPass : Bool)
  /-- SV_T_INFO: T0 reads a thread's fault cause, state and address (R274) -/
  | svTInfo (t : Fin 1544) (x : W32)
  /-- SV_T_GETREG: T0 reads a stopped thread's register (R404) -/
  | svTGetreg (t : Fin 1544) (x : W32)
  /-- SV_T_SETREG: T0 writes a stopped thread's register (R404) -/
  | svTSetreg (t : Fin 1544) (x : W32)
  /-- SV_T_HELD: T0 reads the handle of a held droplet (R274) -/
  | svTHeld (t : Fin 1544) (x : W32)
  /-- SV_T_RESUME: T0 resumes a FAULTED thread (R405) -/
  | svTResume (t : Fin 1544) (x : W32)
  /-- SV_T_PARK: T0 parks a thread (R261) -/
  | svTPark (t : Fin 1544) (x : W32)
  /-- SV_T_ACK: T0 acknowledges a thread's fault (R405) -/
  | svTAck (t : Fin 1544) (x : W32)
  /-- SV_T_RESET: T0 resets its own engine (R284) -/
  | svTReset (t : Fin 1544) (x : W32)
  /-- FAULT_ACK_TIMEOUT: A fault not acknowledged within STILL_LIMIT escalates (R277) -/
  | faultAckTimeout (now : Nat) (t : Fin 1536)
  /-- DEADLOCK_TIMEOUT: DEADLOCK is not cleared within STILL_LIMIT, so the engine escalates (R282) -/
  | deadlockTimeout (now : Nat) (e : Fin 192)
  /-- ESCALATION_POST: A pending escalation enters the post FIFO once it has room (R279) -/
  | escalationPost (e : Fin 192)
  /-- ENGINE_RESET: One engine is reset by Sequence 7.1 (R284) -/
  | engineReset (e : Fin 192)
  /-- ENGINE_SPARE_SUBSTITUTE: The spare engine takes the failing engine's logical ID after an unplanned reset (R289) -/
  | engineSpareSubstitute (e : Fin 192)
  /-- ENGINE_FAIL_NO_SPARE: An engine fails with the basin's spare already used, so the basin goes out until reset (R293) -/
  | engineFailNoSpare (e : Fin 192)
  /-- DBG_T_BRK: The thread halts itself for the attached debugger (R891) -/
  | dbgTBrk (t : Fin 1544) (x : W32)
  /-- DBG_T_MARK: The thread adds a MARK entry to its decision log (R878) -/
  | dbgTMark (t : Fin 1544) (x : W32)
  /-- CX_T_ERET: The control-engine thread enters user mode (R348) -/
  | cxTEret (ce : Fin 8) (x : W32)
  /-- CX_T_TLBINV: The control engine invalidates one translation (R353) -/
  | cxTTlbinv (ce : Fin 8) (x : W32)
  /-- CX_T_TLBFLUSH: The control engine invalidates every translation (R353) -/
  | cxTTlbflush (ce : Fin 8) (x : W32)
  /-- PMP_T_WAIT: The control-engine thread waits on flags or a delay (R651) -/
  | pmpTWait (ce : Fin 8) (x : W32)
  /-- PMP_T_POST: The thread posts flags to a descriptor (R647) -/
  | pmpTPost (ce : Fin 8) (x : W32)
  /-- PMP_T_YIELD: The thread yields to the tail of its level (R638) -/
  | pmpTYield (ce : Fin 8) (x : W32)
  /-- PMP_T_DWR: The kernel writes a descriptor word (R631) -/
  | pmpTDwr (ce : Fin 8) (x : W32)
  /-- PMP_T_DRD: The kernel reads a descriptor word (R631) -/
  | pmpTDrd (ce : Fin 8) (x : W32)
  /-- PMP_T_START: The kernel starts a FREE descriptor (R632) -/
  | pmpTStart (ce : Fin 8) (x : W32)
  /-- PMP_T_DEL: The kernel deletes a descriptor (R633) -/
  | pmpTDel (ce : Fin 8) (x : W32)
  /-- PMP_T_SEND: The kernel sends a message to a packet-engine thread (R657) -/
  | pmpTSend (ce : Fin 8) (x : W32)
  /-- POST_FIFO_TAKE: The Pumphouse takes a post from its FIFO, ORs the flags in and wakes a matching waiter (R647) -/
  | postFifoTake
  /-- LKP_T_FORCE: The kernel forces the release of a mutex (R685) -/
  | lkpTForce (ce : Fin 8) (x : W32)
  /-- LKP_T_SETCOUNT: The kernel sets a semaphore's count (R685) -/
  | lkpTSetcount (ce : Fin 8) (x : W32)
  /-- EDG_T_TX: The control plane queues a frame for a T1S segment or CAN channel (R765) -/
  | edgTTx (ce : Fin 8) (x : W32)
  /-- EDG_T_ROOM: The control plane reads the free entries of an edge transmit queue (R766) -/
  | edgTRoom (ce : Fin 8) (x : W32)
  /-- EDG_T_TS: The control plane takes the oldest egress timestamp (R753) -/
  | edgTTs (ce : Fin 8) (x : W32)
  /-- EDGE_TRANSMIT_DONE: A T1S or CAN frame's transmission ends and the edge drops its reference (R766) -/
  | edgeTransmitDone (now : Nat) (target : Fin 32)
  /-- BASIN_SWITCH_BEGIN: Fountainhead names a new map; droplets of moving buckets stop being handed to their threads (R120) -/
  | basinSwitchBegin (map : Fin 14) (why : Fin 6)
  /-- BASIN_SWITCH_FINISH: The moving threads have drained, so the basin stops and the waiting droplets are redispatched (R120) -/
  | basinSwitchFinish
  /-- WEIR_HOLD_SUSPEND_WRITE: A write to WEIR_HOLD_SUSPEND suspends or resumes hold limits per class (R104) -/
  | weirHoldSuspendWrite (part : Fin 4) (v : W32)
  /-- BSN_ENG_RESET: The RESET command of BSN_ENG_CMD resets an engine (R286) -/
  | bsnEngReset (part : Fin 4) (e : BitVec 8)
  /-- BSN_ENG_SWAP: The SWAP command of BSN_ENG_CMD substitutes the spare (R288) -/
  | bsnEngSwap (part : Fin 4) (e : BitVec 8)
  /-- BSN_ENG_ACK_ESC: The ACK_ESC command of BSN_ENG_CMD acknowledges an escalation (R278) -/
  | bsnEngAckEsc (part : Fin 4) (e : BitVec 8)
  /-- CIS_QUOTA_WRITE: The supervisor rewrites a pool quota (R500) -/
  | cisQuotaWrite (part : Fin 4) (p : Fin 5) (v : W32)
  /-- CIS_ERR_POP: The supervisor pops the oldest error-ring entry (R503) -/
  | cisErrPop (part : Fin 4)
  /-- SLU_READ: The READ command of SLU_CMD copies an object into SLU_DATA (R623) -/
  | sluRead (part : Fin 5)
  /-- SLU_WRITE: The WRITE command of SLU_CMD writes an object's RW fields (R623) -/
  | sluWrite (part : Fin 5)
  /-- SLU_FLUSH: The FLUSH command of SLU_CMD dries the copies of a queue (R599) -/
  | sluFlush (part : Fin 5)
  /-- SLU_CLEAR: The CLEAR command of SLU_CMD clears an object's counters and blocks (R623) -/
  | sluClear (part : Fin 5)
  /-- CONFIG_CHANGE: CONFIG_CHANGE written 1 checks the admin list and fixes the change time (R609) -/
  | configChange (part : Fin 5)
  /-- TIM_SNAP: SNAP captures the local and network times at one instant (R628) -/
  | timSnap (part : Fin 4)
  /-- TIM_STEP: STEP adds TIM_OFFSET to a domain's network time (R573) -/
  | timStep (part : Fin 5) (dom : Fin 4)
  /-- TIM_RATE_WRITE: A write to TIM_RATEd changes a domain's rate (R573) -/
  | timRateWrite (part : Fin 5) (dom : Fin 4) (v : W32)
  /-- PMP_POST_WRITE: A host posts flags to a descriptor through PMP_POST (R661) -/
  | pmpPostWrite (part : Fin 4) (v : W32)
  /-- PMP_CE_RESTART: The supervisor restarts a stopped control engine (R640) -/
  | pmpCeRestart (part : Fin 4) (ce : Fin 8)
  /-- LKG_HOST_ACQ: A host request ACQ acquires a lock (R686) -/
  | lkgHostAcq (part : Fin 4) (lock : BitVec 13) (n : BitVec 16) (prio : BitVec 6) (tmo : BitVec 24)
  /-- LKG_HOST_TRY: A host request TRY tries a lock (R686) -/
  | lkgHostTry (part : Fin 4) (lock : BitVec 13) (n : BitVec 16) (prio : BitVec 6) (tmo : BitVec 24)
  /-- LKG_HOST_REL: A host request REL releases a lock (R686) -/
  | lkgHostRel (part : Fin 4) (lock : BitVec 13) (n : BitVec 16) (prio : BitVec 6) (tmo : BitVec 24)
  /-- LKG_HOST_CANCEL: A host request CANCEL withdraws the pending acquire (R686) -/
  | lkgHostCancel (part : Fin 4) (lock : BitVec 13) (n : BitVec 16) (prio : BitVec 6) (tmo : BitVec 24)
  /-- LKG_HOST_QUERY: A host request QUERY reads a lock's state (R686) -/
  | lkgHostQuery (part : Fin 4) (lock : BitVec 13) (n : BitVec 16) (prio : BitVec 6) (tmo : BitVec 24)
  /-- LKG_FORCE: The supervisor forces the release of a mutex (R682) -/
  | lkgForce (part : Fin 4) (lock : BitVec 13)
  /-- LKG_SETCOUNT: The supervisor sets a semaphore's count (R684) -/
  | lkgSetcount (part : Fin 4) (lock : BitVec 13) (v : BitVec 16)
  /-- PCIE_CONFIG_REQUEST: A configuration request reaches the endpoint (R698) -/
  | pcieConfigRequest (link : Fin 4) (write : Bool) (reg : BitVec 12) (data : W32)
  /-- BAR4_READ: A host reads the IPD window (R703) -/
  | bar4Read (part : Fin 4) (off n : Nat)
  /-- BAR4_WRITE: A host writes the IPD window (R701) -/
  | bar4Write (part : Fin 4) (off : Nat) (data : List Byte)
  /-- PCIE_ATOMICOP: A host AtomicOp on BAR4 runs in an IPD atomic unit (R692) -/
  | pcieAtomicop (part : Fin 4) (off : Nat) (op width : Fin 3) (v c : BitVec 128)
  /-- TX_DOORBELL_WRITE: A host writes a TX doorbell (R718) -/
  | txDoorbellWrite (part : Fin 4) (q : Fin 64) (v : W32)
  /-- RX_DOORBELL_WRITE: A host writes an RX doorbell (R712) -/
  | rxDoorbellWrite (part : Fin 4) (q : Fin 64) (v : W32)
  /-- TX_DESCRIPTOR_PROCESS: The device reads a fetched descriptor's frame and admits or refuses it (R715) -/
  | txDescriptorProcess (now : Nat) (part : Fin 4) (q : Fin 64) (desc frame : List Byte) (readOk : Bool)
  /-- RX_MESSAGE_DELIVER: Host delivery writes the next message into the ring once it has room (R710) -/
  | rxMessageDeliver (now : Nat) (part : Fin 4) (q : Fin 64)
  /-- HOST_QUEUE_ENABLE: EN written 1 enables a host ring or sets ENABLE_PENDING (R720) -/
  | hostQueueEnable (part : Fin 4) (tx : Bool) (q : Fin 64)
  /-- HOST_QUEUE_DISABLE: EN written 0 starts a host ring shut-down (R719) -/
  | hostQueueDisable (part : Fin 4) (tx : Bool) (q : Fin 64)
  /-- HOST_QUEUE_SHUTDOWN_DONE: A host ring shut-down completes (R719) -/
  | hostQueueShutdownDone (part : Fin 4) (tx : Bool) (q : Fin 64)
  /-- ITR_HOLD_EXPIRE: A queue vector's ITR hold ends and a coalesced raise may follow (R722) -/
  | itrHoldExpire (now : Nat) (part : Fin 4) (vec : Fin 128)
  /-- HST_LAT_WRITE: A host writes its latency tolerance (R723) -/
  | hstLatWrite (part : Fin 4) (v : BitVec 20)
  /-- HST_PRST_GO: The supervisor resets a partition (R728) -/
  | hstPrstGo (part : Fin 4) (target : BitVec 3)
  /-- PCIE_FUNCTION_LEVEL_RESET: A function-level reset resets the partition (R728) -/
  | pcieFunctionLevelReset (part : Fin 4)
  /-- PCIE_LINK_RESET: Hot reset, DL_Down or PERST_N resets the link's partition (R728) -/
  | pcieLinkReset (link : Fin 4)
  /-- EOE_LINK_DOWN_TIMEOUT: A host-over-Ethernet port's link stays down for 100 ms (R728) -/
  | eoeLinkDownTimeout (now : Nat) (part : Fin 4)
  /-- PARTITION_RESET_DRAINED: The partition's held droplets have ended, so its registers reset and PART_RESET is raised (R729) -/
  | partitionResetDrained (part : Fin 4)
  /-- EOE_FRAME_RECEIVE: A host-over-Ethernet transmit frame becomes a host droplet (R727) -/
  | eoeFrameReceive (now : Nat) (port : Fin 32) (bytes : List Byte)
  /-- EOE_MESSAGE_SEND: A receive message goes to a host-over-Ethernet host as one frame (R726) -/
  | eoeMessageSend (now : Nat) (part : Fin 4) (q : Fin 64)
  /-- EDG_LANE_RETRAIN: The RETRAIN command of EDG_LANE_CMD retrains a lane (R737) -/
  | edgLaneRetrain (part : Fin 4) (lane : Fin 32)
  /-- EDG_LANE_SPARE: The SPARE command of EDG_LANE_CMD starts a slice substitution (R737) -/
  | edgLaneSpare (part : Fin 4) (lane : Fin 32)
  /-- XNG_ISL_RESET: The supervisor resets an island 0–7 (R795) -/
  | xngIslReset (part : Fin 4) (isl : BitVec 4)
  /-- ISLAND_LEAVE_RESET: An island leaves reset and its crossings open with empty counts (R791) -/
  | islandLeaveReset (isl : Fin 13)
  /-- CLOCK_STOP: An island's clock stops; CLK_OK clears within 2 µs (R789) -/
  | clockStop (isl : Fin 11)
  /-- CLOCK_RETURN: An island's clock returns and waiting accesses complete (R788) -/
  | clockReturn (isl : Fin 11)
  /-- COUNTED_CROSSING_PULSE: A pulse at a counted crossing starts a handshake or adds to the pending count (R785) -/
  | countedCrossingPulse (isl : Fin 13) (chan : Fin 64)
  /-- COALESCED_CROSSING_PULSE: A pulse at a coalesced crossing merges into one event (R787) -/
  | coalescedCrossingPulse (isl : Fin 13) (chan : Fin 64)
  /-- SPI_READ: A management SPI READ frame reads a register (R803) -/
  | spiRead (now : Nat) (frame : List Byte)
  /-- SPI_WRITE: A management SPI WRITE frame writes an XNG_ field (R803) -/
  | spiWrite (now : Nat) (frame : List Byte)
  /-- SPI_RESET: A management SPI RESET frame starts a device reset (R794) -/
  | spiReset (now : Nat) (frame : List Byte)
  /-- SPI_FREEZE: A management SPI FREEZE frame freezes the Reflecting Pool ring (R801) -/
  | spiFreeze (now : Nat) (frame : List Byte)
  /-- SPI_DRY: A management SPI DRY frame enters DRY by the wedge-proof path (R799) -/
  | spiDry (now : Nat) (frame : List Byte)
  /-- SPI_LOCKDOWN: A management SPI LOCKDOWN frame makes the life-cycle lock-down (R800) -/
  | spiLockdown (now : Nat) (frame : List Byte)
  /-- SPI_FRAME_ERROR: A bad SPI frame has no effect and sets FRAME_ERR (R802) -/
  | spiFrameError (now : Nat) (frame : List Byte)
  /-- POWER_TARGET_EVAL: Fountainhead evaluates the power target and enters a shallower target at once (R809) -/
  | powerTargetEval (now : Nat)
  /-- DWELL_EXPIRE: A deeper target has held for DWELL ms and is entered (R810) -/
  | dwellExpire (now : Nat)
  /-- WAKE_EVENT: A wake source wakes the device from STILL or DRY (R816) -/
  | wakeEvent (now : Nat) (cause : Fin 8)
  /-- PWR_WAKE_TIMER_EXPIRE: The wake timer expires in STILL or DRY (R816) -/
  | pwrWakeTimerExpire (now : Nat)
  /-- PWR_CMD_ENTER_DRY: The ENTER_DRY command of PWR_CMD enters DRY (R799) -/
  | pwrCmdEnterDry (now : Nat) (part : Fin 4)
  /-- PWR_CMD_WAKE: The WAKE command of PWR_CMD wakes the device (R816) -/
  | pwrCmdWake (now : Nat) (part : Fin 4)
  /-- GAUGE_SAMPLE: Every 10 µs the gauges are sampled (R818) -/
  | gaugeSample (now : Nat) (temps volts speeds : List Nat)
  /-- TRIP_COOLDOWN_END: Every sensor reads 15 °C below TRIP, so boot resumes (R825) -/
  | tripCooldownEnd (now : Nat)
  /-- FLOOR_LOOP: Every 10 µs the floor loop adjusts VDD_CORE and sets FLOOR_BREACH (R819) -/
  | floorLoop (now : Nat) (ack : Bool)
  /-- SHED_INTERVAL_STEP: Each SHED_INTERVAL under breach moves the shedding step up or down (R821) -/
  | shedIntervalStep (now : Nat)
  /-- PMB_ALERT: PMB_ALERT_N is asserted and PMBUS_ERR is raised (R920) -/
  | pmbAlert (now : Nat)
  /-- FTH_NONCE: The NONCE command issues a fresh nonce (R841) -/
  | fthNonce (now : Nat) (part : Fin 4) (entropy : List Byte)
  /-- NONCE_EXPIRE: An unconsumed nonce expires 300 s after issue (R841) -/
  | nonceExpire (now : Nat)
  /-- FTH_TOKEN: The TOKEN command checks a token and starts the press wait (R842) -/
  | fthToken (now : Nat) (part : Fin 4)
  /-- SVC_BTN_PRESS: A debounced SVC_BTN press within 10 s applies the waiting token (R843) -/
  | svcBtnPress (now : Nat)
  /-- PRESS_WAIT_TIMEOUT: No press within 10 s, so TOKEN completes with TIMEOUT (R843) -/
  | pressWaitTimeout (now : Nat)
  /-- FTH_ATTEST: The ATTEST command produces a signed attestation report (R845) -/
  | fthAttest (part : Fin 4)
  /-- FTH_CONFIRM: The CONFIRM command sets counter 0 to the running image's ROLLBACK (R838) -/
  | fthConfirm (part : Fin 4)
  /-- FTH_LC_ADVANCE: The LC_ADVANCE command accepts a life-cycle transition (R839) -/
  | fthLcAdvance (part : Fin 4) (arg : BitVec 3) (entropy : List Byte)
  /-- FTH_PROVISION: The PROVISION command puts the staging record in effect at the next reset (R704) -/
  | fthProvision (part : Fin 4)
  /-- FTH_IMG_ERASE: The IMG_ERASE command zeros the first 4 KiB of a slot (R836) -/
  | fthImgErase (part : Fin 4) (slot : BitVec 3)
  /-- FTH_IMG_VERIFY: The IMG_VERIFY command checks a slot (R837) -/
  | fthImgVerify (part : Fin 4) (slot : BitVec 3)
  /-- FTH_WIN_WRITE: A window transfer with WRITE 1 writes the window to a target (R836) -/
  | fthWinWrite (part : Fin 4) (target : BitVec 4) (off : BitVec 11)
  /-- FTH_WIN_READ: A window transfer with WRITE 0 reads a target into the window (R849) -/
  | fthWinRead (part : Fin 4) (target : BitVec 4) (off : BitVec 11)
  /-- EXPORT_TRAILER_SIGNED: Fountainhead signs an export batch and appends its trailer (R846) -/
  | exportTrailerSigned
  /-- FTH_ST_REGION: The REGION command of FTH_ST_CMD starts a region test (R854) -/
  | fthStRegion (part : Fin 4) (region : BitVec 4)
  /-- FTH_ST_FULL: The FULL command of FTH_ST_CMD starts a full test with a device reset (R855) -/
  | fthStFull (part : Fin 4)
  /-- FTH_ST_ABORT: The ABORT command of FTH_ST_CMD ends a running test (R854) -/
  | fthStAbort (part : Fin 4)
  /-- SCHEDULED_TEST_START: Every TEST_PERIOD ÷ 12 the next basin's in-service test starts (R856) -/
  | scheduledTestStart (now : Nat)
  /-- DEFERRED_TEST_START: A deferred test starts once nothing forbids it (R857) -/
  | deferredTestStart (now : Nat)
  /-- BIST_COMPLETE: A basin's BIST finishes and the outcome is acted on, the store reloaded and the save set restored (R864) -/
  | bistComplete (now : Nat) (test : RegionTest) (mem loadOk : Bool) (helper : BitVec 2) (repairs : List (Nat × BitVec 16 × W32 × W32))
  /-- RESERVOIR_MAP_WRITE: A substitution or loss is written into the reservoir map (R870) -/
  | reservoirMapWrite
  /-- IPD_COMMAND_ISSUE: A pseudo-channel scheduler issues its next DRAM command (R543) -/
  | ipdCommandIssue (now : Nat) (pc : Fin 32)
  /-- IPD_ACCESS_COMPLETE: An IPD access completes to its requester (R547) -/
  | ipdAccessComplete (pc : Fin 32) (ecc : Fin 3)
  /-- REFRESH: The refresh period brings a bank refresh (R549) -/
  | refresh (pc : Fin 32) (bank : Fin 16) (periodStart : Bool)
  /-- PATROL_SCRUB: The patrol scrub reads a line and writes corrected words back (R553) -/
  | patrolScrub (line : Fin 134217728) (ecc : List (Fin 3))
  /-- TRACKING_STEP: A 5 °C temperature change moves a lane setting by one step (R559) -/
  | trackingStep (pc : Fin 32) (windowEnd : Bool)
  /-- FULL_RETRAIN_START: Full retraining of a pseudo-channel starts (R561) -/
  | fullRetrainStart (pc : Fin 32)
  /-- FULL_RETRAIN_END: Full retraining ends with or without a working setting (R562) -/
  | fullRetrainEnd (pc : Fin 32) (works : Bool) (temp margin : BitVec 8)
  /-- PC_RETIRE_START: Fountainhead names a spare pseudo-channel and trains it (R563) -/
  | pcRetireStart (pc : Fin 32) (works16 works33 : Bool)
  /-- PC_RETIRE_COMPLETE: The copy ends and the spare serves the logical pseudo-channel (R564) -/
  | pcRetireComplete (pc : Fin 32) (bad : List Nat)
  /-- CACHE_FILL_COMPLETE: A cache fill delivers its line (R520) -/
  | cacheFillComplete (cache : Fin 221) (line : Fin 134217728)
  /-- EVICTION_WRITEBACK: The eviction buffer writes a dirty line back (R516) -/
  | evictionWriteback (cache : Fin 221)
  /-- RPL_TRIGGER: The TRIGGER command of RPL_CMD starts the post window (R879) -/
  | rplTrigger (part : Fin 4)
  /-- POST_WINDOW_END: POST_MIB more MiB have been written, so the ring freezes (R879) -/
  | postWindowEnd (now : Nat)
  /-- FREEZE_PIN_EDGE: A rising edge on FREEZE freezes the ring (R880) -/
  | freezePinEdge (now : Nat)
  /-- RPL_FREEZE: The FREEZE command of RPL_CMD freezes the ring (R880) -/
  | rplFreeze (part : Fin 4)
  /-- RPL_RELEASE: The RELEASE command of RPL_CMD empties the ring and restarts recording (R881) -/
  | rplRelease (part : Fin 4)
  /-- RPL_EXPORT: The EXPORT command of RPL_CMD copies records into the export area in batches (R882) -/
  | rplExport (part : Fin 4)
  /-- RPL_REPLAY: The REPLAY command of RPL_CMD starts a replay session (R883) -/
  | rplReplay (part : Fin 4)
  /-- RPL_ABORT: The ABORT command of RPL_CMD ends a replay session (R883) -/
  | rplAbort (part : Fin 4)
  /-- REPLAY_END: A replay session ends or diverges, and the basin is restored and returned (R886) -/
  | replayEnd
  /-- DBG_HALT: The HALT command of RPL_DBG_CMD halts a target (R887) -/
  | dbgHalt (part : Fin 5)
  /-- DBG_RESUME: The RESUME command of RPL_DBG_CMD resumes a halted target (R888) -/
  | dbgResume (part : Fin 5)
  /-- DBG_STEP: The STEP command of RPL_DBG_CMD issues one bundle and halts again (R888) -/
  | dbgStep (part : Fin 5)
  /-- DBG_KILL: The KILL command of RPL_DBG_CMD parks a thread or deletes a descriptor (R889) -/
  | dbgKill (part : Fin 5)
  /-- DBG_RDREG: The RDREG command of RPL_DBG_CMD reads a halted target's register (R890) -/
  | dbgRdreg (part : Fin 5)
  /-- DBG_WRREG: The WRREG command of RPL_DBG_CMD writes a halted target's register (R890) -/
  | dbgWrreg (part : Fin 5)
  /-- DBG_BRK_SET: The BRK_SET command of RPL_DBG_CMD sets a breakpoint (R891) -/
  | dbgBrkSet (part : Fin 5)
  /-- DBG_BRK_CLR: The BRK_CLR command of RPL_DBG_CMD clears a breakpoint (R891) -/
  | dbgBrkClr (part : Fin 5)
  /-- BREAKPOINT_HIT: A thread about to issue a breakpoint bundle halts (R891) -/
  | breakpointHit (t : Fin 1536)
  /-- BAR0_PARTIAL_WRITE: A BAR0 write with incomplete byte enables is ignored and counted (R898) -/
  | bar0PartialWrite (part : Fin 4)
  /-- COUNTER_LOW_WORD_READ: A read of a 64-bit counter's low word copies the high word and clears the counter (R129) -/
  | counterLowWordRead (part : Fin 4) (read : WordRead)
  /-- RC_FIELD_READ: A read of an RC field returns it and clears it (R17) -/
  | rcFieldRead (part : Fin 4) (read : WordRead)
  /-- WEIR_DOM_STAT0_READ: A read of WEIR_DOM_STAT0 takes the domain snapshot (R128) -/
  | weirDomStat0Read (part : Fin 4)
  /-- BSN_CH_STAT0_READ: A read of BSN_CH_STAT0 takes the channel snapshot (R476) -/
  | bsnChStat0Read (part : Fin 4)
  /-- CIS_POOL_COUNT_READ: A read of CIS_POOL_COUNT takes the pool snapshot (R508) -/
  | cisPoolCountRead (part : Fin 4)
  /-- PMP_DESC_W0_READ: A read of PMP_DESC_W0 takes the descriptor snapshot (R662) -/
  | pmpDescW0Read (part : Fin 4)
  /-- FTH_FLOG_COUNT_READ: A read of FTH_FLOG_COUNT resets the fault-log cursor to the newest entry (R850) -/
  | fthFlogCountRead (part : Fin 5)
  /-- FTH_FLOG_DATA_READ: A read of FTH_FLOG_DATA returns the next fault-log word (R850) -/
  | fthFlogDataRead (part : Fin 5)
  /-- FTH_RSV_COUNT_READ: A read of FTH_RSV_COUNT resets the reservoir cursor to the oldest entry (R872) -/
  | fthRsvCountRead (part : Fin 5)
  /-- FTH_RSV_DATA_READ: A read of FTH_RSV_DATA returns the next reservoir map word (R872) -/
  | fthRsvDataRead (part : Fin 5)
  /-- REGISTER_WRITE: A write to a register with no row of its own acts as its access code gives (R14) -/
  | registerWrite (part : Fin 5) (bar2 : Bool) (addr : BitVec 22) (v : W32)
  /-- PRES_RAW_CHANGE: The raw level of a presence input or SVC_BTN changes, which updates EDG_PRES.RAW and starts or restarts the 5 ms debounce (R767) -/
  | presRawChange (now : Nat) (input : Fin 9) (level : Bool)
  /-- CAN_BUS_ERROR: A CAN channel detects a bus error, so TEC or REC moves and the channel may pass between error active and error passive (R763) -/
  | canBusError (ch : Fin 16) (tec rec : BitVec 8)
  /-- CAN_CHANNEL_RESTART: The control plane restarts a CAN channel that stays STOPPED after bus-off without AUTO_RECOVER (R763) -/
  | canChannelRestart (ch : Fin 16)
  /-- MACSEC_SA_INSTALL: The control plane installs the next MACsec SA or key on a port, which lets frames be sent again and ends the link-down treatment of R749 (R749) -/
  | macsecSaInstall (port : Fin 32) (kind : SaKind) (pn : BitVec 64)
  /-- PCIE_LINK_UP: A host's PCIe link trains and comes up, so the partition is linked again and counts in the latency-tolerance minimum (R723) -/
  | pcieLinkUp (link : Fin 4) (width rate : BitVec 4)
  /-- CROSSING_ACKNOWLEDGE: The receiving side of a crossing acknowledges a handshake; the next handshake then carries the whole pending count, or the coalesced event is taken (R785) -/
  | crossingAcknowledge (isl : Fin 13) (chan : Fin 64)
  /-- RECORD_BUCKET_REFILL: The Reflecting Pool's recording bucket refills at RATE up to its 64 KiB cap (R876) -/
  | recordBucketRefill (now : Nat)
  /-- PPS_OUT_WIDTH_END: WIDTH ms after a whole second, PPS_OUT is deasserted (R577) -/
  | ppsOutWidthEnd (now : Nat)
  deriving DecidableEq, Repr

end Sys2Proof
end

