-- ==== Sys2Proof/Decode.lean ====
section
/-! DEFINITION. Decoding. The block takes commands, and the opcode table gives no row any bits: no word spells a command. -/

namespace Sys2Proof

/-- The command that a word spells by the table's bits: none, as no row of the table has bits. -/
def decodeTableWord (_nbits _w : Nat) : Option Instr := none

end Sys2Proof
end

