-- ==== Sys2Proof/Machine/Digest.lean ====
section
/-! DEFINITION. SHAKE256 of FIPS 202 with 64 bytes of output (R830). The spec names the standard; the algorithm is the
standard's. -/

namespace Sys2Proof.Machine

/-- Lane n of a Keccak state. -/
def keccakLane (a : List (BitVec 64)) (n : Nat) : BitVec 64 := a.getD n 0

/-- Rotation offsets of the step ρ, by x + 5y. -/
def keccakRho : List Nat :=
  [0, 1, 62, 28, 27, 36, 44, 6, 55, 20, 3, 10, 43, 25, 39, 41, 45, 15, 21, 8, 18, 2, 61, 56, 14]

/-- Round constants of the step ι. -/
def keccakRc : List (BitVec 64) :=
  [0x0000000000000001, 0x0000000000008082, 0x800000000000808A, 0x8000000080008000,
   0x000000000000808B, 0x0000000080000001, 0x8000000080008081, 0x8000000000008009] ++
  [0x000000000000008A, 0x0000000000000088, 0x0000000080008009, 0x000000008000000A,
   0x000000008000808B, 0x800000000000008B, 0x8000000000008089, 0x8000000000008003] ++
  [0x8000000000008002, 0x8000000000000080, 0x000000000000800A, 0x800000008000000A,
   0x8000000080008081, 0x8000000000008080, 0x0000000080000001, 0x8000000080008008]

/-- The steps θ, ρ, π, χ and ι of one round. -/
def keccakRound (a : List (BitVec 64)) (rc : BitVec 64) : List (BitVec 64) :=
  let c := (List.range 5).map fun x =>
    keccakLane a x ^^^ keccakLane a (x + 5) ^^^ keccakLane a (x + 10) ^^^ keccakLane a (x + 15) ^^^ keccakLane a (x + 20)
  let d := (List.range 5).map fun x => keccakLane c ((x + 4) % 5) ^^^ (keccakLane c ((x + 1) % 5)).rotateLeft 1
  let t := (List.range 25).map fun n => keccakLane a n ^^^ keccakLane d (n % 5)
  let b := (List.range 25).map fun n =>
    let x := n % 5
    let y := n / 5
    let u := (x + 3 * y) % 5
    (keccakLane t (u + 5 * x)).rotateLeft (keccakRho.getD (u + 5 * x) 0)
  let e := (List.range 25).map fun n =>
    let x := n % 5
    let y := n / 5
    keccakLane b n ^^^ (~~~ (keccakLane b ((x + 1) % 5 + 5 * y)) &&& keccakLane b ((x + 2) % 5 + 5 * y))
  match e with
  | [] => []
  | h :: r => (h ^^^ rc) :: r

/-- The permutation Keccak-f[1600]. -/
def keccakF (a : List (BitVec 64)) : List (BitVec 64) := keccakRc.foldl keccakRound a

/-- Eight bytes, least significant first, as a lane. -/
def laneOf (bs : List Byte) : BitVec 64 := bs.foldr (fun b v => v <<< 8 ||| b.setWidth 64) 0

/-- A lane's eight bytes, least significant first. -/
def laneBytes (v : BitVec 64) : List Byte := (List.range 8).map fun i => (v >>> (8 * i)).setWidth 8

/-- Absorbs one block of 136 bytes. -/
def keccakAbsorb (a : List (BitVec 64)) (block : List Byte) : List (BitVec 64) :=
  keccakF ((List.range 25).map fun n =>
    if n < 17 then keccakLane a n ^^^ laneOf ((block.drop (8 * n)).take 8) else keccakLane a n)

/-- Absorbs the blocks of a padded message, at most `n` of them. -/
def keccakBlocks : Nat → List (BitVec 64) → List Byte → List (BitVec 64)
  | 0, a, _ => a
  | n + 1, a, bs => keccakBlocks n (keccakAbsorb a (bs.take 136)) (bs.drop 136)

/-- The padding of SHAKE256: suffix 1111, then pad10*1, to a multiple of 136 bytes. -/
def shakePad (bs : List Byte) : List Byte :=
  let fill := 136 - 1 - bs.length % 136
  if fill = 0 then bs ++ [0x9F] else bs ++ [0x1F] ++ List.replicate (fill - 1) 0 ++ [0x80]

/-- SHAKE256 with 64 bytes of output (R830). -/
def shake256 (bs : List Byte) : List Byte :=
  let m := shakePad bs
  (((keccakBlocks (m.length / 136) (List.replicate 25 0) m).take 8).map laneBytes).flatten

end Sys2Proof.Machine
end

