-- ==== Sys2Proof/Config.lean ====
section
/-! DEFINITION. What the spec leaves open: the free values, and the functions that a part, its manufacturer or an
external standard fixes and the spec does not give. None has a body, so no proof can rest on a value of one. -/

namespace Sys2Proof

/-- The n-th free 32-bit value a run takes, where the spec leaves a value open. -/
opaque Config.freeWord : Nat → BitVec 32

/-- Contents of a buffer byte at allocation, where the pool does not scrub (R482): by draw. -/
opaque Config.freeByte : Nat → BitVec 8

/-- ML-DSA.KeyGen of FIPS 204 on a seed: the 1,952-byte public key (R831, R832). -/
opaque Config.mlDsaPublic : List Byte → List Byte

/-- The ML-DSA-65 signature of a message under a context string, by the identity key of a seed (R830). -/
opaque Config.mlDsaSign : List Byte → List Byte → List Byte → List Byte

/-- Verification of an ML-DSA-65 signature: public key, message, signature, context string (R830). -/
opaque Config.mlDsaVerify : List Byte → List Byte → List Byte → List Byte → Bool

/-- The ROM manufacturing key (Table 21.2), and the ROM's digest (step 1 of Sequence 21.1). -/
opaque Config.romKey : List Byte
opaque Config.romDigest : List Byte

/-- The partition that a provisioning record names for the supervisor right, and the partition it binds to each strapped
PCIe link 0–3, if any; the record's layout is not given (R704, R51). -/
opaque Config.provSupervisor : List Byte → Nat
opaque Config.provLink : List Byte → Nat → Option Nat

/-- The owner keys that a provisioning record brings (R829). -/
opaque Config.provKeys : List Byte → List (List Byte)

/-- The fallback map of the ROM (Table 4.9, map 14): the thread that each bucket names. -/
opaque Config.romThread : Nat → Nat

/-- The subsystem IDs that a provisioning record gives, vendor in bits 15:0 (Table 17.1). -/
opaque Config.provSubsystem : List Byte → BitVec 32

/-- A configuration register of an endpoint that the spec does not lay out: link, dword, what software last wrote (R697). -/
opaque Config.configWord : Nat → Nat → Nat → BitVec 32

/-- What Fountainhead's ROM holds for the logic BIST of a region: the seed, and the signature for a pattern count (R852). -/
opaque Config.bistSeed : Nat → BitVec 64
opaque Config.bistSignature : Nat → Nat → BitVec 64

end Sys2Proof
end

