-- ==== Sys2Proof/Machine/StPath.lean ====
section
/-! DEFINITION. The state of the packet path: droplets and order slots (chapters "The journey of a droplet" and
"Order"), rule versions, exact-match tables, engines and threads, helpers, channels, Cistern pools, caches and the
in-package DRAM. Plain data only; every default value is the value after reset. -/

namespace Sys2Proof.Machine

/-! ### Droplets and order slots -/

/-- A droplet (R55, Table 2.1), one field for each field of the table; the flags of Table 2.3 by name. -/
structure Droplet where
  seq : Nat := 0
  oclass : Nat := 0
  pass : Nat := 0
  domain : Nat := 0
  version : Nat := 0
  arrival : Nat := 0
  hash : Nat := 0
  bucket : Nat := 0
  tsdom : Nat := 0
  thread : Nat := 0
  inPort : Nat := 0
  len : Nat := 0
  head : Nat := 0
  body : Nat := 0
  bodyPool : Nat := 0
  srcEp : Nat := 0
  parse : Nat := 0
  egress : Nat := 0
  dryReason : Nat := 0
  colour : Nat := 0
  stream : Nat := 0
  frerSeq : Nat := 0
  copy : Nat := 0
  epValid : Bool := false
  record : Bool := false
  recirc : Bool := false
  nobody : Bool := false
  macsecOk : Bool := false
  ptp : Bool := false
  express : Bool := false
  learn : Bool := false
  frerTag : Bool := false
  host : Bool := false
  prog0 : W32 := 0
  prog1 : W32 := 0
  deriving DecidableEq, Repr

/-- The parse record beside the droplet (R148): the 16 layer slots (bit 15 valid, bits 8:0 offset), the end position,
the outcome, the 64-byte key buffer, and the PARAM index of the matching ACTION (Table 9.8, dl.t.pinfo). -/
structure ParseRec where
  layers : List Nat := []
  endPos : Nat := 0
  outcome : Nat := 0
  key : List Byte := []
  param : Nat := 0
  paramValid : Bool := false
  deriving DecidableEq, Repr

/-- One order slot of the Weir's in-flight store (Table 3.1) with its droplet, first-look key and parse record. -/
structure Slot where
  d : Droplet := {}
  /-- The slot state of Table 3.1: 1 WAITING, 2 HELD, 3 CIRCULATING, 4 SENT, 5 DRIED, 6 DRIED_HELD. -/
  st : Nat := 1
  /-- Local time of admission, from which the hold limit runs (R100, R101). -/
  admitted : Nat := 0
  /-- Admission order over the device: the age of R65. -/
  age : Nat := 0
  /-- The thread that holds the droplet (Table 3.2); for a control engine's thread its descriptor at 0x1000 + descriptor. -/
  holder : Option Nat := none
  /-- Order in which droplets were handed to threads (wc.t.next takes the oldest handed). -/
  handed : Nat := 0
  /-- wc.t.next has fetched the droplet. -/
  fetched : Bool := false
  /-- The thread that completed the droplet (Table 3.2, DOUBLE). -/
  doneBy : Option Nat := none
  /-- The thread that asked for the recirculation that runs, coded as `holder` (Table 3.5). -/
  sentBy : Option Nat := none
  /-- The slot's position was released while a thread still held the droplet (R95). -/
  released : Bool := false
  /-- CRC-32C of the packet window at the completion, of a droplet with RECORD set (Table 23.1). -/
  crc : Nat := 0
  /-- The program wrote BUCKET before the recirculation request (R72). -/
  bktWritten : Bool := false
  /-- The droplet was originated by a program (R402). -/
  originated : Bool := false
  /-- The host transmit or control-plane queue of a host droplet (R156). -/
  txQueue : Nat := 0
  /-- The first-look key (Table 4.2), 64 bytes. -/
  flk : List Byte := []
  prec : ParseRec := {}
  deriving DecidableEq, Repr

/-- The Weir (chapter "Order"). -/
structure WeirSt where
  /-- The in-flight store: order slots by store index (R364), 65,536 indexes. -/
  slots : SMap Slot := []
  /-- Generation of each store index (R364). -/
  gens : SMap Nat := []
  /-- Next-sequence counter of each domain, 24 bits (R84). -/
  nextSeq : SMap Nat := []
  /-- The unreleased slots of each domain, as store indexes in SEQ order: the head is the first (R91). -/
  lines : SMap (List Nat) := []
  /-- Droplets admitted since reset: the age of the next one (R65). -/
  ageCtr : Nat := 0
  /-- Droplets handed since reset. -/
  handCtr : Nat := 0
  /-- The hold-suspension right is open (R105). -/
  suspRight : Bool := false
  /-- The right was closed by a lock-down: SUSP is held at 0 until the next device reset (R105). -/
  suspLocked : Bool := false
  /-- The map named by a running basin switch (Sequence 3.1), with the basin that leaves (16: none) and the reason. -/
  switching : Option (Nat × Nat × Nat) := none
  deriving DecidableEq, Repr

/-! ### Rule sets and versions -/

/-- The versioned tables of one rule set: MATCH, ACTION and PARAM entries as lists of 32-bit words, keyed by index;
an unlisted entry is all zeros (Table 5.1). -/
structure RuleTables where
  matches_ : SMap (List W32) := []
  actions : SMap (List W32) := []
  params : SMap (List W32) := []
  deriving DecidableEq, Repr

/-- One live version slot (RUL_VERn, RUL_VREFn): its tables, and who committed it. -/
structure VersionSt where
  number : Nat := 0
  /-- 0 free, 1 ingress, 2 draining (Table 5.11). -/
  state : Nat := 0
  owner : Nat := 0
  refs : Nat := 0
  pins : Nat := 0
  tables : RuleTables := {}
  /-- The blocks that are not the image's own, by kind × 1,024 + block: the number of the commit that made them (R171). -/
  blocks : SMap Nat := []
  deriving DecidableEq, Repr

/-- One partition's staging (R171): the entries it has written since its last commit or CLEAR, by kind × 65,536 + index.
The blocks used are those that hold a written entry. -/
structure Staging where
  entries : SMap (List W32) := []
  /-- A commit is pending (R179). -/
  pending : Bool := false
  deriving DecidableEq, Repr

/-- One entry of the version log in the Wellstore (R196). -/
structure VerLogEnt where
  boot : Nat := 0
  number : Nat := 0
  owner : Nat := 0
  switchTime : Nat := 0
  /-- Network time of retirement; none while the version is live (all ones). -/
  retireTime : Option Nat := none
  digests : List (List Byte) := []
  deriving DecidableEq, Repr

structure RulSt where
  /-- The four live version slots. -/
  vers : List VersionSt := []
  /-- Commits made since activation. -/
  commits : Nat := 0
  /-- Number given to the newest version (R181). -/
  lastNumber : Nat := 0
  /-- Staging of P0–P3 and PD. -/
  staging : SMap Staging := []
  /-- Commit requests in order of arrival (R178). -/
  queue : List Nat := []
  deriving DecidableEq, Repr

/-! ### Exact-match tables -/

/-- A layer-2 entry (Table 6.4). -/
structure L2Ent where
  mac : Nat := 0
  fid : Nat := 0
  static_ : Bool := false
  age : Nat := 0
  port : Nat := 0
  ep : Nat := 0
  epValid : Bool := false
  owner : Nat := 0
  deriving DecidableEq, Repr

/-- A flow entry (Table 6.6). -/
structure FlowEnt where
  ctx : Nat := 0
  space : Nat := 0
  pin : Bool := false
  age : Nat := 0
  tag : Nat := 0
  gen : Nat := 0
  deriving DecidableEq, Repr

/-- An endpoint record (Table 6.9), at its endpoint ID. -/
structure EpRec where
  kind : Nat := 0
  port : Nat := 0
  addr : Nat := 0
  state : Nat := 0
  prov : Bool := false
  owner : Nat := 0
  zone : Nat := 0
  cls : Nat := 0
  lastPort : Nat := 0
  plugs : Nat := 0
  seen : Nat := 0
  deriving DecidableEq, Repr

/-- A learn request (R210) or an endpoint create request (R229) in the learner queue. -/
inductive LearnReq where
  | learn (fid mac port : Nat)
  | create (kind port addr seenAt : Nat)
  deriving DecidableEq, Repr

structure TblSt where
  /-- Layer-2 entries at bucket × 4 + way, overflow entry n at 131,072 + n (R236). -/
  l2 : SMap L2Ent := []
  /-- Flow overflow entries (on die). The bucket entries and the contexts stand in the IPD (Table 6.1, Table 6.7). -/
  flowOver : SMap FlowEnt := []
  /-- Contexts withdrawn from use since an offline range took their entries, rising (R227). -/
  withdrawn : List Nat := []
  /-- Registry index entries at bucket × 4 + way, overflow entry n at 131,072 + n: the endpoint ID held there. -/
  epIdx : SMap Nat := []
  /-- Endpoint records by endpoint ID; an unlisted record is FREE. -/
  ep : SMap EpRec := []
  /-- The 16-bit eviction generators: 0 layer-2, 1 + space for flow spaces (R220); unlisted: 0xACE1. -/
  lfsr : SMap Nat := []
  /-- The learner queue (R211). -/
  queue : List LearnReq := []
  /-- The partition whose FLUSH runs, with its table, space, PORT and FID selections. -/
  flush : SMap (Nat × Nat × Option Nat × Option Nat) := []
  /-- Partitions whose command waits behind the FLUSH of another on its update unit (R240): the table, and the status that
  the command then answers. -/
  held : SMap (Nat × Nat) := []
  deriving DecidableEq, Repr

/-! ### Engines and threads -/

/-- An access of a load/store unit to one cache line, kept while the line is being filled (R519 to R521). -/
structure LineAcc where
  store : Bool := false
  /-- IPD byte address, and bytes. -/
  addr : Nat := 0
  size : Nat := 0
  sext : Bool := false
  data : Nat := 0
  /-- Writer mask bit of a store (R533). -/
  mask : Nat := 0
  deriving DecidableEq, Repr

/-- What a unit operation in flight will do when it completes (R300, R316): the ports it writes, the predicates it
writes, and what it waits for. -/
structure UnitOp where
  /-- Result and status ports, with the values they take at completion. -/
  res : List (Nat × W32) := []
  /-- A predicate the operation writes (R316). -/
  pred : Option (Nat × Bool) := none
  /-- What the operation waits for: 0 nothing (it may complete), 1 a lock grant, 2 a channel word, 3 channel room,
  4 an event flag, 5 a cache fill, 6 a Cistern refill, 7 a Cistern spill, 8 a running feed of its droplet (R423). -/
  wait : Nat := 0
  /-- Operand of the wait: lock, channel, event mask, line address or pool. -/
  arg : Nat := 0
  /-- Second operand: word to put, units asked for; of a helper's trigger, what runs in the helper: 0 nothing, 1 a .t.op,
  2 a .t.feed, 3 a .t.wr, and with a feed its range: offset × 4 + length × 2^16. -/
  arg2 : Nat := 0
  /-- The word put closes a packet. -/
  flag : Bool := false
  /-- The access that waits for a line. -/
  acc : Option LineAcc := none
  /-- Local time at which the wait limit passes. -/
  limit : Option Nat := none
  deriving DecidableEq, Repr

/-- One loop level (R333). -/
structure LoopLevel where
  start : Nat := 0
  end_ : Nat := 0
  count : Nat := 0
  deriving DecidableEq, Repr

/-- One entry of a reference table (R492): number 0 is a tombstone. `owner` tags an entry of the control-plane table
with its Pumphouse descriptor (R493). -/
structure RefEnt where
  pool : Nat := 0
  handle : Nat := 0
  number : Nat := 0
  owner : Nat := 0
  deriving DecidableEq, Repr

/-- A hardware thread (Table 7.5, R256), or the running thread of a control engine (R345). -/
structure Thr where
  /-- 0 READY or STALLED by its units, 2 WAITING, 3 FAULTED, 4 HALTED, 5 PARKED, 6 RESET (Table 7.5; STALLED is
  read from the units). -/
  state : Nat := 6
  /-- State to return to at RESUME (R888). -/
  haltedFrom : Nat := 0
  /-- Address of the next bundle. -/
  pc : Nat := 0
  /-- Registers, predicates, lnk, and operand, result and status ports, by port ID; an unlisted port holds 0
  (R256, R301, R303, R320). -/
  ports : SMap W32 := []
  /-- Operations in flight, by unit number (R300, Table 9.1). -/
  ops : SMap UnitOp := []
  /-- Return stack, newest first, at most 8 (R327). -/
  rstack : List Nat := []
  /-- Loop levels, innermost first, at most 3 (R333). -/
  loops : List LoopLevel := []
  /-- Event flags (Table 7.7), 16 bits. -/
  events : Nat := 0
  /-- Local time at which the timer expires; none when stopped (R393). -/
  timer : Option Nat := none
  /-- Control-plane messages waiting, oldest first, at most 4 (R394). -/
  msgs : List W64 := []
  /-- Last fault: cause, bundle address, local time, acknowledged (R273, R277). -/
  cause : Nat := 0
  faultPc : Nat := 0
  faultAt : Nat := 0
  acked : Bool := true
  /-- Watches: channel and condition field (R460, R461). -/
  watches : List (Nat × Nat) := []
  /-- Reference table, oldest entry first, at most 16 (R492). -/
  refs : List RefEnt := []
  /-- Bundles issued since engine reset (dbg.cnt). -/
  issued : Nat := 0
  /-- The consumer has taken part of a packet of this channel (R453). -/
  partGet : List Nat := []
  /-- The resume must issue the bundle at `pc` even if a breakpoint names it (R891). -/
  skipBrk : Bool := false
  /-- The debugger steps the thread: it halts again after one bundle (R888). -/
  stepping : Bool := false
  /-- What the last triggered operation of each unit concerns, for its decision entry: kind × 65,536 + object
  (Table 23.2). -/
  logs : SMap Nat := []
  /-- Control engines: cx.mode user, and the privileged registers of Table 8.7. -/
  user : Bool := false
  vec : W32 := 0
  fva : W32 := 0
  fpc : W32 := 0
  ptb : W32 := 0
  asid : W32 := 0
  nest : Bool := false
  /-- The fault has escalated for want of an acknowledgement (R277). -/
  late : Bool := false
  deriving DecidableEq, Repr

/-- One logical engine (Table 7.4, R262, R263, R281). -/
structure Eng where
  /-- Thread that owns the next issue opportunity (R262). -/
  owner : Nat := 0
  /-- Thread that last received an idle opportunity (R263). -/
  lastIdle : Nat := 7
  /-- Local time at which the still-water event was raised, while DEADLOCK is set (R281). -/
  stillAt : Option Nat := none
  /-- A still-water condition holds (so that a renewed one is a new occurrence). -/
  still : Bool := false
  /-- An escalation waits for the post FIFO (R279): its cause. -/
  escWait : Option Nat := none
  /-- A reset of the engine was requested through BSN_ENG_CMD and has not completed. -/
  cmdPending : Bool := false
  /-- A planned substitution of the engine waits for its basin to leave service (R290). -/
  swap : Bool := false
  /-- Local times of the engine's corrected errors of the last 24 h, newest first (Table 22.8). -/
  eccTimes : List Nat := []
  deriving DecidableEq, Repr

/-! ### Helpers -/

/-- One helper (Table 10.9): 0 crypto, 1 check, of each basin. The save slots stand in basin shared SRAM (R410). -/
structure Helper where
  /-- Registers r0–r15 as held by the live owner, 128 bits each (R406). -/
  regs : List Nat := []
  /-- Live owner, as basin-local index. -/
  live : Option Nat := none
  /-- Claim holder (R413). -/
  claim : Option Nat := none
  /-- The open streaming operation's word (R417), with the operation's own running byte count. -/
  open_ : Option W32 := none
  /-- An orphaned operation runs for this basin-local thread; true when the claim is released at its end (R431, R432). -/
  orphan : Option (Nat × Bool) := none
  /-- What the running trigger writes when it completes: the registers and the open operation (R425). -/
  next : Option (List Nat × Option W32) := none
  deriving DecidableEq, Repr

/-! ### Channels -/

/-- One word of a channel with its side bits (R442). -/
structure ChWord where
  w : W64 := 0
  end_ : Bool := false
  abort : Bool := false
  deriving DecidableEq, Repr

/-- What a ring channel or spill queue holds beside its words in memory: a ring's words stand in its slots of the basin's
shared SRAM (R439), a spill queue's middle in lines of the IPD (R457). -/
structure Chan where
  /-- Write, commit and read pointer of a ring, k + 1 bits each (R441). -/
  wp : Nat := 0
  cp : Nat := 0
  rp : Nat := 0
  /-- Side bits of a ring's slots, END + 2 × ABORT (R442). -/
  side : SMap Nat := []
  /-- The head and tail registers of a spill queue, oldest word first (R456). -/
  head : List ChWord := []
  tail : List ChWord := []
  /-- The line of the middle to be read next, and the line to be written next, counted without bound. -/
  first : Nat := 0
  last : Nat := 0
  /-- The control word of each line of the middle as it was written: what stands where the word in the IPD is lost
  (DESIGN CHOICE, log entry 191). -/
  marks : SMap Nat := []
  /-- The watermark state is ABOVE (R465). -/
  above : Bool := false
  deriving DecidableEq, Repr

/-! ### Cistern -/

/-- One pool (R483–R485, R499). -/
structure Pool where
  /-- Handle cache, next allocated first; at most 32. For pool 0, all free handles that are listed. -/
  cache : List Nat := []
  /-- The free ring: the slot of its head, and the handles it holds from there, the lost ones among them. The handles
  themselves are the ring's words in the IPD (R483). -/
  head : Nat := 0
  len : Nat := 0
  gone : Nat := 0
  /-- A refill or spill runs, with the handles it carries (R483). -/
  refill : List Nat := []
  spill : List Nat := []
  refilling : Bool := false
  spilling : Bool := false
  /-- Pool 0: its handles never yet handed out, from `fresh` to COUNT − 1 (R486). -/
  fresh : Nat := 0
  /-- Frees that wait for a spill, oldest first (R506). -/
  held : List Nat := []
  /-- Quotas of P0–P3 and PD (R499, R500). -/
  quota : SMap Nat := []
  /-- Reference counts of the buffers in use, by handle (R491). -/
  counts : SMap Nat := []
  /-- Partition each buffer is charged to (R491). -/
  charged : SMap Nat := []
  /-- USED of P0–P3 and PD (R499). -/
  used : SMap Nat := []
  /-- Lost buffers (Table 12.5). -/
  lost : List Nat := []
  /-- Buffers being scrubbed (R482). -/
  scrubbing : List Nat := []
  deriving DecidableEq, Repr

/-- One entry of the error ring (Table 12.4). -/
structure ErrEnt where
  pool : Nat := 0
  status : Nat := 0
  op : Nat := 0
  kind : Nat := 0
  handle : Nat := 0
  id : Nat := 0
  time : Nat := 0
  deriving DecidableEq, Repr

structure CisSt where
  pools : SMap Pool := []
  /-- Error ring, oldest first, at most 256 (R503). -/
  errs : List ErrEnt := []
  /-- Control-plane reference table, oldest first, at most 4,096 (R493). -/
  cpRefs : List RefEnt := []
  /-- Allocations waiting for a refill, in order: the requester (a thread, or 65,536 + the IN_PORT of an edge port), the pool,
  the charged partition (R490). -/
  waiters : List (Nat × Nat × Nat) := []
  /-- Threads whose cs.t.free waits for a spill: thread, pool, handle (R506). -/
  freers : List (Nat × Nat × Nat) := []
  deriving DecidableEq, Repr

/-! ### Caches and the in-package DRAM -/

/-- A cache line: its IPD line address, 64 bytes, dirty, writer mask (R533), marked poisoned words (R556), and the words
in which an error waits to be found, uncorrectable or correctable (R253, R526). -/
structure Line where
  addr : Nat := 0
  data : List Byte := []
  dirty : Bool := false
  mask : Nat := 0
  poison : Nat := 0
  bad : Nat := 0
  soft : Nat := 0
  deriving DecidableEq, Repr

/-- A miss entry (R519): the line, and the threads whose access joined it. -/
structure Miss where
  addr : Nat := 0
  /-- Threads waiting, in order. -/
  waiters : List Nat := []
  /-- The fill goes to the prefetch side buffer (R522). -/
  prefetch : Bool := false
  /-- The miss has one of the cache's entries, and the next level has been asked; a further miss waits for one (R519). -/
  asked : Bool := false
  /-- Maintenance operations that wait behind the fill (R534): thread, and 1 clean, 2 inv, 3 cinv, plus 4 where ls.lvl
  bit 0 is set. -/
  maint : List (Nat × Nat) := []
  deriving DecidableEq, Repr

/-- One cache of Table 13.1. -/
structure Cache where
  /-- Lines at set × ways + way; an unlisted way is invalid. -/
  lines : SMap Line := []
  /-- Tree bits of each set, as a number whose bit n is t[n] (R514). -/
  tree : SMap Nat := []
  /-- Victim cache, oldest first (R516). -/
  victims : List Line := []
  /-- Eviction buffer, oldest first: lines whose write-back has not been issued (R518). -/
  evict : List Line := []
  /-- Prefetch side buffer, oldest first (R522). -/
  side : List Line := []
  /-- Miss entries (R519). -/
  misses : List Miss := []
  deriving DecidableEq, Repr

/-- A request in a pseudo-channel's queue (R542, R543). -/
structure DramReq where
  addr : Nat := 0
  write : Bool := false
  cls : Nat := 0
  openHint : Bool := false
  /-- Local time at which the request arrived. -/
  at_ : Nat := 0
  /-- The request's eff became 0 by age and was counted (R546). -/
  promoted : Bool := false
  deriving DecidableEq, Repr

/-- One logical pseudo-channel (R543–R545, R549, R550, R558–R568). -/
structure PChan where
  /-- Requests waiting for a command, oldest first: the read queue and the write queue together. -/
  queue : List DramReq := []
  /-- Requests whose column command has been issued and whose data has not yet moved. -/
  issued : List DramReq := []
  /-- The write queue is draining (R544). -/
  draining : Bool := false
  /-- Open row of each bank (R545). -/
  openRow : SMap Nat := []
  /-- Activate table of each bank: row and count, at most 32 entries (R550). -/
  acts : SMap (List (Nat × Nat)) := []
  /-- Corrected errors since the last read of IPD_PC_CE, saturating. -/
  ce : Nat := 0
  /-- Local times of the corrected errors of the last second, newest first (R560). -/
  ceTimes : List Nat := []
  /-- Die temperature and worst lane margin at the last training. -/
  temp : Nat := 0
  margin : Nat := 0
  /-- Retirement copy (Sequence 13.2): the spare named, and the reservoir map's TRIGGER. -/
  spare : Option (Nat × Nat) := none
  deriving DecidableEq, Repr

structure MemSt where
  /-- Contents of the IPD, by byte address; an unlisted byte reads 0. -/
  ipd : List Host.Cell := []
  /-- Poisoned 8-byte words of the IPD, by word address, rising (R554). -/
  poison : List Nat := []
  /-- Head regions by pool-0 handle: the staging buffer's bytes with the extra bytes of insertions (R60, R374). -/
  staging : SMap (List Byte) := []
  /-- Basin shared SRAM by basin × 2^19 + offset. -/
  shared : List Host.Cell := []
  /-- Engine scratch by engine × 2^15 + offset. -/
  scratch : List Host.Cell := []
  /-- Scratch bytes that carry an uncorrectable error (R253), by the same address, and 8-byte words with a correctable
  one, by address / 8. -/
  scratchBad : List Nat := []
  scratchSoft : List Nat := []
  /-- Bytes of basin shared SRAM that carry an uncorrectable error (R411). -/
  sharedBad : List Nat := []
  /-- The caches: 0–191 PE L1 of logical engine e, 192 + b basin cache, 204 control cache, 205 + c CE L1 data,
  213 + c CE L1 instruction. -/
  caches : SMap Cache := []
  /-- The pseudo-channels by logical number. -/
  pcs : SMap PChan := []
  /-- Physical pseudo-channel serving each logical one; unlisted: the assignment of Table 13.3. -/
  phys : SMap Nat := []
  /-- Spare physical pseudo-channels that are failed or in use. -/
  sparesGone : List Nat := []
  /-- Pseudo-channels that wait for full retraining, in order (R561). -/
  retrainQ : List Nat := []
  /-- Spares in use of physical pseudo-channels 0–33: rows (bits 9:0), column groups (16:10), data lanes (18:17),
  command/address lane (19) (Table 22.7). -/
  pcSpares : SMap Nat := []
  /-- Rows replaced by spare rows: pseudo-channel × 2^18 + bank × 2^14 + row (R557). -/
  spareRows : List Nat := []
  /-- The scrub pass in which a row last gave a corrected error, plus one, same key (R557); the pass that runs, and the
  line it read last. -/
  scrubRows : SMap Nat := []
  scrubPass : Nat := 0
  scrubLast : Nat := 0
  /-- Pseudo-channels whose retraining ended without a working setting and that wait for retirement (R563). -/
  retireQ : List Nat := []
  deriving DecidableEq, Repr

end Sys2Proof.Machine
end

