-- ==== Sys2Proof/Machine/StQueue.lean ====
section
/-! DEFINITION. The state of the Sluice, the time unit, the Pumphouse and Lockgate. Plain data only; every default
value is the value after reset. -/

namespace Sys2Proof.Machine

/-! ### The Sluice and the time unit -/

/-- One copy of a released droplet (R77, R80). -/
structure Copy where
  d : Droplet := {}
  /-- Current length of the packet at the send completion (R376). -/
  len : Nat := 0
  /-- Step 6 of Sequence 14.1 inserts an R-TAG carrying FRER_SEQ (R585). -/
  encode : Bool := false
  /-- Step 6 removes the R-TAG (R589). -/
  strip : Bool := false
  /-- Bit 12 of FLK.TCI0, for a meter with COLOUR_SRC 2 (R605). -/
  dei : Bool := false
  /-- The journey of the released droplet that this is a copy of. -/
  jid : Nat := 0
  /-- Its queue: network port × 8 + class, 512 + HOSTQ object (Table 14.9), or 1,024 + IN_PORT of a segment. -/
  q : Nat := 0
  deriving DecidableEq, Repr

/-- A released droplet whose copies have not all left or been dried (R68, R187): its END record and its references wait
for the last. -/
structure Journey where
  d : Droplet := {}
  /-- Copies that have not ended. -/
  left : Nat := 0
  /-- One reason byte per copy, 0x00 for one that left (Table 23.1). -/
  reasons : List Nat := []
  /-- Completion status, and CRC-32C of the packet window at completion. -/
  status : Nat := 0
  crc : Nat := 0
  deriving DecidableEq, Repr

/-- A list entry of a gate list in its operational bank (Table 14.15). -/
structure GateEnt where
  interval : Nat := 0
  gates : Nat := 0
  op : Nat := 0
  octets : Nat := 0
  deriving DecidableEq, Repr

/-- The operational side of a port's gate list or of a stream gate's list (R607, R610, R936). -/
structure GateRun where
  /-- Operational list; empty until an image or a swap installs one. -/
  oper : List GateEnt := []
  /-- OPER_BASE: base of the operational cycle grid. -/
  base : Nat := 0
  /-- Bytes passed during the current entry of a stream gate (R583). -/
  octets : Nat := 0
  deriving DecidableEq, Repr

/-- The running state of a sequence recovery function beside RECOV and TAKE_ANY (R586). -/
structure SrfRun where
  hist : Nat := 0
  /-- Local time at which the reset timer runs out. -/
  timer : Option Nat := none
  deriving DecidableEq, Repr

structure SluSt where
  /-- Copies queued on each network queue, port × 8 + class, oldest first (R592). -/
  queues : SMap (List Copy) := []
  /-- Copies held in host and control-plane queues, by spill queue number, oldest first. -/
  hostCopies : SMap (List Copy) := []
  /-- The copy each MAC is sending: 2 × port for the preemptable MAC, 2 × port + 1 for the express MAC. -/
  sending : SMap Copy := []
  /-- Shaper credits in millibits, signed (R600): port p at p, class token bucket at 32 + q, class CBS at 288 + q. -/
  credit : SMap Int := []
  /-- Meter buckets in millibits (R604): Tc at 2 × m, Tp or Te at 2 × m + 1. -/
  bucket : SMap Int := []
  /-- Gate lists: port p at p, stream gate g at 32 + g. -/
  gates : SMap GateRun := []
  srf : SMap SrfRun := []
  /-- Journeys of released droplets, by admission age (R68, R187). -/
  journeys : SMap Journey := []
  /-- Local time at which the received pause of class port × 8 + class ends (R619). -/
  pause : SMap Nat := []
  /-- Levels of the pins FCI0–FCI7 (R620). -/
  fci : Nat := 0
  /-- The ports whose egress is held for a slice switchover (R738). -/
  held : List Nat := []
  deriving DecidableEq, Repr

/-- The time unit (R571, R572, R575, R577). -/
structure TimeSt where
  /-- The local time base in ns. -/
  local_ : Nat := 0
  /-- Network time of each domain in units of 2^−40 ns, modulo 2^104 (R572). -/
  net0 : Nat := 0
  net1 : Nat := 0
  net2 : Nat := 0
  net3 : Nat := 0
  /-- The tick count read by pmp.tick. -/
  ticks : Nat := 0
  /-- The multiple of TICK_PERIOD at which the tick last fired (R575), and the whole second of the last PPS_OUT edge. -/
  tickAt : Nat := 0
  ppsAt : Nat := 0
  /-- PPS_OUT is asserted, until this local time (R577). -/
  ppsOut : Option Nat := none
  deriving DecidableEq, Repr

/-! ### The Pumphouse -/

/-- A thread descriptor (Table 15.1), one field for each field of the table. -/
structure Desc where
  state : Nat := 0
  base : Nat := 0
  eff : Nat := 0
  aff : Nat := 0
  affAuto : Bool := false
  hostPart : Nat := 0
  flags : Nat := 0
  mask : Nat := 0
  wait : Nat := 0
  ce : Nat := 0
  save : Nat := 0
  /-- The boost level Lockgate last signalled (R644). -/
  boost : Option Nat := none
  /-- The part of the thread's context whose layout in the save area is the Pumphouse's own (Table 15.6, 0x0C0–0x3FF),
  and the operation its wait completes. -/
  saved : Thr := {}
  /-- State to return to at RESUME (R888). -/
  haltedFrom : Nat := 0
  deriving DecidableEq, Repr

/-- One translation of a TLB (R350, R351): virtual page, address space, page table entry of level 2. -/
structure TlbEnt where
  vpn : Nat := 0
  asid : Nat := 0
  pte : Nat := 0
  deriving DecidableEq, Repr

/-- One control engine (Table 15.11). -/
structure CeSt where
  /-- 0 idle, 1 running, 2 stopped. -/
  state : Nat := 0
  desc : Nat := 0
  /-- Local time at which its thread was last selected (R637). -/
  since : Nat := 0
  /-- The TLB's translations by entry, 0–63, and its tree bits (R351, R514). -/
  tlb : SMap TlbEnt := []
  tlbTree : Nat := 0
  deriving DecidableEq, Repr

structure PmpSt where
  descs : SMap Desc := []
  /-- Ready queue of each level, oldest first (R635). -/
  ready : SMap (List Nat) := []
  ces : SMap CeSt := []
  /-- Post FIFO, oldest first: descriptor and flags (R647). -/
  fifo : List (Nat × Nat) := []
  /-- Channel-watch posts held by their source while the FIFO is full, oldest first (R648). -/
  held : List (Nat × Nat) := []
  /-- Delay list, sorted by target tick count: target and descriptor (R655). -/
  delay : List (Nat × Nat) := []
  deriving DecidableEq, Repr

/-! ### Lockgate -/

/-- One queued wait (R667). -/
structure LkWait where
  req : Nat := 0
  prio : Nat := 0
  units : Nat := 0
  /-- Local time at which the wait limit passes. -/
  limit : Option Nat := none
  deriving DecidableEq, Repr

/-- One lock: a mutex is FREE, HELD or ABANDONED; a semaphore has a count (R666). -/
structure Lock where
  holder : Option Nat := none
  abandoned : Bool := false
  count : Nat := 0
  waiters : List LkWait := []
  deriving DecidableEq, Repr

structure LkgSt where
  locks : SMap Lock := []
  /-- Effective priority last signalled for a requester, plus one; unlisted: its base priority (R677, R680). -/
  boost : SMap Nat := []
  deriving DecidableEq, Repr

end Sys2Proof.Machine
end

