-- ==== Sys2Proof/Machine/StEdge.lean ====
section
/-! DEFINITION. The state of the host interface, the edge ports and the crossings. Plain data only; every default value
is the value after reset. -/

namespace Sys2Proof.Machine

/-! ### Hosts -/

/-- One posted write toward a host: bus address and bytes (R710, R714). -/
structure HostWrite where
  part : Nat := 0
  addr : Nat := 0
  data : List Byte := []
  deriving DecidableEq, Repr

structure HstSt where
  /-- Host memory as the device has written it, by partition × 2^64 + bus address; an unlisted byte reads 0. -/
  mem : List Host.Cell := []
  /-- Posted writes and MSI-X messages that wait for a stopped link (R732), oldest first. -/
  waiting : List HostWrite := []
  /-- MSI-X table words by partition × 8,192 + word; the reset value of a vector control word is 1 (masked). -/
  msix : SMap Nat := []
  /-- MSI-X pending bits, partition × 2,048 + vector (R721). -/
  pba : List Nat := []
  /-- End of the ITR hold of a queue vector, by partition × 128 + vector (R722). -/
  itr : SMap Nat := []
  /-- Vectors whose raise waits for the end of the hold. -/
  itrPend : List Nat := []
  /-- Descriptors that a transmit queue in shut-down had fetched and still completes, at most 16, by partition × 64 + q
  (R714, R719). -/
  fetched : SMap Nat := []
  /-- Host-over-Ethernet sequence numbers: sent at 2 × (partition × 64 + q), received at + 1 (Table 17.7). -/
  eoeSeq : SMap Nat := []
  /-- Local time at which the port of a host-over-Ethernet partition lost its link (Table 17.8). -/
  eoeDown : SMap Nat := []
  /-- The next receive queue served, by partition (R713), and the next transmit queue at 4 + partition (R718). -/
  rxNext : SMap Nat := []
  /-- Configuration space words that software has written, by link × 1,024 + word (R697). -/
  config : SMap Nat := []
  /-- The links that the fallback bridge presents, by partition (R51). -/
  bridgeLink : SMap Nat := []
  /-- The PCIe link is up, by link number (R723). -/
  linkUp : List Nat := []
  deriving DecidableEq, Repr

/-! ### The edge -/

/-- One latched input change (R768, Table 18.5). -/
structure Change where
  edge : Nat := 0
  level : Bool := false
  /-- Wall time of the debounce end, and network time of the input's domain at it. -/
  at_ : Nat := 0
  arrival : Nat := 0
  late : Bool := false
  lost : Bool := false
  count : Nat := 0
  deriving DecidableEq, Repr

/-- A presence input or SVC_BTN in the always-on domain (R767, R768). -/
structure PresIn where
  raw : Bool := false
  level : Bool := false
  /-- Wall time at which the running debounce started. -/
  since : Option Nat := none
  latch : List Change := []
  count : Nat := 0
  deriving DecidableEq, Repr

/-- A frame in an edge transmit queue (R765, R766): its buffer and bytes, in enqueue order. -/
structure EdgeTx where
  pool : Nat := 0
  handle : Nat := 0
  len : Nat := 0
  /-- CAN: the identifier offered for arbitration. -/
  id : Nat := 0
  bytes : List Byte := []
  /-- The copy of a droplet of the fallback bridge that the entry is; its references are the copy's. -/
  copy : Option Copy := none
  deriving DecidableEq, Repr

/-- A running unplug of a source (Sequence 18.2), by IN_PORT. -/
structure Unplug where
  /-- 1 the loss lasts (LINK_HOLD runs), 2 waiting for the droplets, 3 a new arrival is held. -/
  stage : Nat := 0
  since : Nat := 0
  cause : Nat := 0
  dried : Nat := 0
  deriving DecidableEq, Repr

/-- The MACsec SAs of a port: the transmit side (R749), and the next packet number expected on the receive SC (R750). -/
structure MacsecTx where
  installed : Bool := false
  xpn : Bool := false
  pn : Nat := 0
  exhausted : Bool := false
  rxNext : Nat := 0
  deriving DecidableEq, Repr

/-- A frame whose staging buffer is filled and that has no droplet yet: its body buffer is being waited for, or an earlier
frame of its source is (R490). -/
structure HeldFrame where
  d : Droplet := {}
  bytes : List Byte := []
  flk : List Byte := []
  waits : Bool := false
  deriving DecidableEq, Repr

/-- One bridge port in the spanning tree of the fallback bridge (R40; the protocol is IEEE 802.1Q's). -/
structure StpPort where
  /-- 0 disabled, 1 root, 2 designated, 3 alternate, 4 backup. -/
  role : Nat := 0
  /-- The priority vector heard: root, cost, bridge, port; and the message age it came with, in 1/256 s. -/
  heard : Option (List Nat) := none
  age : Nat := 0
  /-- Local times at which the vector ages out, the next hello is due, and the topology-change flag ends. -/
  until_ : Nat := 0
  helloAt : Nat := 0
  tcUntil : Nat := 0
  /-- The neighbour speaks the older protocol: BPDUs go out in its form. -/
  legacy : Bool := false
  /-- A proposal is to be answered with an agreement. -/
  agree : Bool := false
  deriving DecidableEq, Repr

/-- One Ethernet bridge port in the time relay of the fallback bridge (R44; the protocol is IEEE 802.1AS-2020's). Times are
network times of domain 0 in units of 2^−40 ns. -/
structure PtpPort where
  /-- The Announce vector heard: priority1, clock quality, priority2, grandmaster, steps removed, sender's port identity; with
  its path, and the local time at which it ages out. -/
  heard : Option (List Nat) := none
  path : List Byte := []
  until_ : Nat := 0
  /-- The Sync that waits for its Follow_Up: sequence number and time of arrival. -/
  sync : Option (Nat × Nat) := none
  /-- Peer delay: the sequence number of the last request, its departure, its arrival at the neighbour, and the arrival of
  the response. -/
  req : Nat := 0
  t1 : Option Nat := none
  t2 : Option Nat := none
  t4 : Option Nat := none
  /-- The mean link delay, where the neighbour has answered. -/
  delay : Option Nat := none
  /-- Requests that no complete answer has followed. -/
  missed : Nat := 0
  /-- Responses owed their follow-up: the requester's sequence number and port identity. -/
  owed : List (Nat × List Byte) := []
  /-- A Sync that this port sends: its sequence number, and the rate information and origin time of the Follow_Up to come. -/
  relay : Option (Nat × List Byte × Nat) := none
  /-- Local times of the next Announce and the next Pdelay_Req, and the sequence numbers of Announce. -/
  announceAt : Nat := 0
  delayAt : Nat := 0
  announceSeq : Nat := 0
  deriving DecidableEq, Repr

structure EdgSt where
  /-- Inputs 0–7 PRES, 8 SVC_BTN. -/
  pres : SMap PresIn := []
  /-- The sources whose PHY reports a link, by IN_PORT (R938). -/
  phy : List Nat := []
  /-- Egress timestamp ring, oldest first, at most 256 (R753). -/
  stamps : List Nat := []
  /-- Edge transmit queues by IN_PORT of the target. -/
  txq : SMap (List EdgeTx) := []
  /-- Unplugs by IN_PORT of the source. -/
  unplug : SMap Unplug := []
  /-- PLCA: local time at which a node last transmitted, by segment × 32 + node (R758). -/
  nodeAt : SMap Nat := []
  macsec : SMap MacsecTx := []
  /-- Verification attempts made by a port (R751). -/
  verifyTries : SMap Nat := []
  /-- Training retries made by a lane (R745). -/
  trainTries : SMap Nat := []
  /-- The classes that a port last announced as paused; 256 stands for PAUSE of IEEE 802.3 (R470 to R473). -/
  pauseOut : SMap Nat := []
  /-- Local time at which a port last sent that frame (R472). -/
  pauseAt : SMap Nat := []
  /-- FCO pins: local time of the last assertion (R467). -/
  fcoAt : SMap Nat := []
  /-- Auto-negotiation fell back to parallel detection, by port (R35). -/
  parallel : List Nat := []
  /-- The spanning tree and the time relay of the fallback bridge, by IN_PORT of the bridge port. -/
  stp : SMap StpPort := []
  ptp : SMap PtpPort := []
  /-- Frames of a source that wait for a body buffer, and those behind them, oldest first, by IN_PORT (R490). -/
  waiting : SMap (List HeldFrame) := []
  /-- Body buffers that have been handed out to waiting frames and not yet been taken: IN_PORT and handle; none where the pool was lost meanwhile. -/
  granted : List (Nat × Option Nat) := []
  deriving DecidableEq, Repr

/-! ### Crossings -/

/-- One event crossing (R785–R791), by island × 64 + CHAN. -/
structure Crossing where
  pending : Nat := 0
  /-- A handshake is open. -/
  open_ : Bool := false
  sat : Bool := false
  flushed : Bool := false
  /-- Total received on the far side. -/
  received : Nat := 0
  deriving DecidableEq, Repr

structure XngSt where
  cross : SMap Crossing := []
  /-- A power state has closed the fabric's side of every crossing (R792). -/
  closed : Bool := false
  deriving DecidableEq, Repr

/-- One thing that left the device through a pin, a link or a bus (the model's own record of its outputs). -/
inductive Out where
  /-- A frame sent on an Ethernet port, with the MAC that sent it (true: express). -/
  | frame (port : Nat) (express : Bool) (bytes : List Byte)
  /-- A PAUSE or PFC frame: port, MAC (true: express), class-enable vector (256: PAUSE of IEEE 802.3), quanta of each
  class. -/
  | pause (port : Nat) (express : Bool) (classes : Nat) (quanta : List Nat)
  /-- A frame sent on a T1S segment (0–15) or a CAN channel (16–31). -/
  | bus (target : Nat) (bytes : List Byte)
  /-- A completion toward a host: partition, status (0 success, 1 Unsupported Request, 3 success with the poisoned-data bit
  set, 4 Completer Abort), data. -/
  | pcie (part : Nat) (status : Nat) (data : List Byte)
  /-- A configuration completion on a PCIe link: status (0 success, 2 Configuration Request Retry Status), data. -/
  | config (link : Nat) (status : Nat) (data : W32)
  /-- An MSI-X message: partition and vector. -/
  | msix (part vec : Nat)
  /-- An LTR message: link, and tolerance in µs where the Requirement bit is set. -/
  | ltr (link : Nat) (us : Option Nat)
  /-- Bytes on MSPI_MISO. -/
  | spi (bytes : List Byte)
  /-- A VOUT_COMMAND write in mV over PMBus. -/
  | pmbus (mv : Nat)
  /-- A register value returned to a partition (4: the management SPI port or the test access port). -/
  | reg (part value : Nat)
  /-- A level driven on a pin: 0–7 FCO, 8 PPS_OUT, 9 CORE_EN. -/
  | pin (n : Nat) (level : Bool)
  deriving DecidableEq, Repr

end Sys2Proof.Machine
end

