-- ==== Sys2Proof/Machine/StAux.lean ====
section
/-! DEFINITION. The state of power and boot, Fountainhead with its Wellstore, self-test and the Reflecting Pool, and
the contents of an image. Plain data only; every default value is the value after reset. -/

namespace Sys2Proof.Machine

/-! ### The image -/

/-- One node of the parse graph (Tables 4.5 and 4.6), as the words of its encoding. -/
abbrev GraphWords := SMap W32

/-- What an image fixes (Table 21.5), as the device holds it after loading. An image with nothing in it is what the
fabric holds before activation. -/
structure Image where
  version : Nat := 0
  rollback : Nat := 0
  keySlot : Nat := 0
  /-- Uses of quads Q2 and Q3 in the lane plan, coded as Table 1.3. -/
  quad2 : Nat := 0
  quad3 : Nat := 0
  /-- Register and object fields the manual marks "from the image" (sections 2, 3, 6, 8, 9), by field key. -/
  regs : SMap Nat := []
  /-- Basin programs: bundle words by (basin × 32,768 + address) × 4 + slot; an unlisted word is 0. -/
  prog : SMap W32 := []
  /-- Instruction stores whose bundles fail their check (R320a: a bundle with an uncorrectable error), by
  basin × 32,768 + address. -/
  progBad : List Nat := []
  /-- Engine table words (Table 7.4) by engine × 16 + word. -/
  engTab : SMap Nat := []
  /-- Thread table words (Table 7.3) by thread × 4 + word. -/
  thrTab : SMap Nat := []
  /-- Parse graph words. -/
  graph : GraphWords := []
  /-- Class and hold settings of an order domain (R84–R86, R155): domain → class. -/
  domClass : SMap Nat := []
  /-- Rule tables of version 1. -/
  rules : RuleTables := {}
  /-- Regions of the versioned tables: kind × 8 + region (0–3 P0–P3, 4 PD, 5 shared) → first index × 2^20 + count. -/
  regions : SMap Nat := []
  /-- Staging quotas in blocks, by partition. -/
  stgQuota : SMap Nat := []
  /-- Dispatch maps: map × 4,096 + bucket → thread (Table 4.9). -/
  maps : SMap Nat := []
  /-- Channels: fields that no register holds, by (basin × 1,024 + index) × 16 + field. -/
  chans : SMap Nat := []
  /-- Control-plane program and data: bytes placed in the IPD. -/
  ipd : List Host.Cell := []
  /-- Initial descriptors, in the order in which the image lists them: the descriptor, and words 0 and 3 of Table 15.1. -/
  descs : List (Nat × Nat × Nat) := []
  /-- Static layer-2 entries, and provisioned endpoints with their IDs. -/
  l2 : List L2Ent := []
  eps : List (Nat × EpRec) := []
  /-- Partition bindings (R19): partition → 0 none, 1 + link for PCIe link 0–3, 16 + port for host-over-Ethernet. -/
  bind : SMap Nat := []
  /-- IPD windows of partitions (R700), host window bases, save areas and the further settings that have no register,
  by setting number. -/
  set_ : SMap Nat := []
  deriving DecidableEq, Repr, Inhabited

/-! ### Power and boot -/

structure BootSt where
  /-- The pin CORE_EN (R911, R917). -/
  coreEn : Bool := false
  railsOk : Bool := false
  /-- RESET_N is held low (true) or released. -/
  resetLow : Bool := true
  /-- Voltage monitors outside their rail's range (R914). -/
  voltBad : List Nat := []
  /-- The device is held in reset (R794). -/
  held : Bool := true
  /-- The always-on supplies are below their thresholds (R915). -/
  brownout : Bool := false
  /-- Wall time at which CORE_EN last rose, at which it was last dropped for a retry, at which RAILS_OK rose, and at
  which the running reset started. -/
  coreAt : Nat := 0
  retryAt : Option Nat := none
  railsAt : Nat := 0
  resetAt : Nat := 0
  /-- Progress of Sequence 1.1: 0 not started, 1 waiting for the verdict, 2 fallback bridge runs, 3 image runs,
  4 stopped (ROM_FAIL, SCRAPPED or the safe state). -/
  stage : Nat := 0
  /-- A thermal trip waits for its cool-down (R825). -/
  tripped : Bool := false
  /-- The safe state of R865. -/
  safe : Bool := false
  /-- The device is in DRY (or entering it, R814), and the wake held for the end of the entry. -/
  dry : Bool := false
  /-- Wake sources that the image enabled, by code (Table 20.2), held for DRY. -/
  wakeEn : Nat := 0
  /-- Droplets in flight at the entry to DRY, for the fault-log entry of its exit (R115, R799). -/
  dryInflight : Nat := 0
  /-- The boot that runs is an exit from DRY with a valid resume record (Sequence 20.3). -/
  resumeOk : Bool := false
  /-- The boot that runs makes the full test of R855. -/
  fullTest : Bool := false
  deriving DecidableEq, Repr

structure PwrSt where
  /-- Wall time since which the present target has held (R810). -/
  since : Nat := 0
  /-- Wall time since which S exceeds F + 2 × MARGIN (R819). -/
  overSince : Option Nat := none
  /-- Wall time of the last SHED_INTERVAL step. -/
  shedAt : Nat := 0
  /-- The last PMBus write failed: V is treated as VMAX (R823). -/
  vUnknown : Bool := false
  /-- Wall time of the entry to STILL or DRY, for the wake timer. -/
  sleptAt : Nat := 0
  /-- Local time at which a frame was last admitted (R809, IDLE). -/
  admitAt : Nat := 0
  /-- Basins that a power state has powered down (R808). -/
  basinsOff : List Nat := []
  deriving DecidableEq, Repr

/-! ### Fountainhead -/

/-- One fault-log entry (R848), by its fields. -/
structure FlogEnt where
  boot : Nat := 0
  kind : Nat := 0
  cause : Nat := 0
  time : Nat := 0
  /-- Bytes 16–31 as four words. -/
  data : List W32 := []
  deriving DecidableEq, Repr

/-- One reservoir map entry (Table 22.8). -/
structure RsvEnt where
  kind : Nat := 0
  trigger : Nat := 0
  unit : Nat := 0
  old : Nat := 0
  new : Nat := 0xFFFFFFFF
  boot : Nat := 0
  deriving DecidableEq, Repr

/-- The resume record (R817). -/
structure Resume where
  digest : List Byte := []
  version : Nat := 0
  counter : Nat := 0
  deriving DecidableEq, Repr

/-- A saved save set of R859. -/
structure SaveSet where
  shared : List Host.Cell := []
  /-- For each thread of the basin: reference table, waiting messages, watches. -/
  thrs : SMap (List RefEnt × List W64 × List (Nat × Nat)) := []
  deriving DecidableEq, Repr

structure FthSt where
  /-- Life-cycle state (Table 21.6). -/
  lc : Nat := 0
  lcPending : Option Nat := none
  counter0 : Nat := 0
  counter1 : Nat := 0
  bootCount : Nat := 0
  /-- Identity seed; none before MANUFACTURE and after SCRAPPED (R831, R839). -/
  seed : Option (List Byte) := none
  /-- Owner keys by slot, and the revoked slots. -/
  keys : SMap (List Byte) := []
  revoked : List Nat := []
  /-- Bytes of the Wellstore outside the fields this structure names, by Wellstore address: provisioning staging and
  the image slots, certificate chain. An unlisted byte reads 0. -/
  well : List Host.Cell := []
  /-- Provisioning record in effect: its bytes, and the partition it gives the supervisor right (R704, R23). -/
  prov : Option (List Byte) := none
  /-- The staging record is put in effect at the next device reset. -/
  provPending : Bool := false
  sup : Nat := 0
  /-- Base MAC address (GEN_BASE_MAC), 48 bits. -/
  baseMac : Nat := 0
  /-- Digest of the ROM fused at manufacture, and of the ROM itself, agree (step 1 of Sequence 21.1). -/
  romOk : Bool := true
  /-- The live nonce and the wall time at which it expires (R841). -/
  nonce : Option (List Byte × Nat) := none
  /-- The token that waits for a press (R843): its bytes, its bank, the wall time of the TOKEN write. -/
  press : Option (List Byte × Nat × Nat) := none
  /-- Fault log, newest first. -/
  flog : List FlogEnt := []
  /-- Reservoir map entries, oldest first; offline pseudo-channels; BASE_SPEED. -/
  rsv : List RsvEnt := []
  /-- Substitutions and losses not yet written into the map (R870), oldest first. -/
  rsvPending : List RsvEnt := []
  offline : Nat := 0
  baseSpeed : List Nat := []
  /-- Version log, newest first. -/
  verLog : List VerLogEnt := []
  resume : Option Resume := none
  /-- Read cursors of the fault log and of the reservoir map, in words, by bank. -/
  flogCur : SMap Nat := []
  rsvCur : SMap Nat := []
  /-- Management SPI: status code of the previous frame, and FRAME_ERR (Table 19.7). -/
  spiResult : Nat := 0
  spiErr : Bool := false
  /-- The 4 KiB windows, by bank × 4,096 + offset. -/
  win : List Host.Cell := []
  /-- Trailers signed since reset. -/
  exportSeq : Nat := 0
  /-- The save set of the basin in test or in replay. -/
  saved : SaveSet := {}
  /-- Basins whose test was missed and that come first in the rotation (R856), then the next in order. -/
  early : List Nat := []
  nextBasin : Nat := 0
  /-- Local time of the last occasion of the scheduled tests (R856). -/
  testAt : Nat := 0
  /-- Regions held in reset (R864): basins 0–11, CE n as 16 + n, SHARED as 13. -/
  heldRegions : List Nat := []
  /-- Logic BIST of the region in test: the LFSR that drives its scan chains, and the MISR of its responses (R852). -/
  lfsr : BitVec 64 := 0
  misr : BitVec 64 := 0
  /-- The three copies of the Wellstore's sector remapping: sector → physical sector, 4,096 + n for spare n (R868). -/
  remap : List (SMap Nat) := [[], [], []]
  deriving DecidableEq, Repr

/-! ### The Reflecting Pool -/

/-- One record (Table 23.1), by INDEX, with its bytes. -/
structure RplRec where
  index : Nat := 0
  kind : Nat := 0
  bytes : List Byte := []
  deriving DecidableEq, Repr

/-- One decision entry (Table 23.2). -/
structure DecEnt where
  kind : Nat := 0
  status : Nat := 0
  thread : Nat := 0
  obj : Nat := 0
  value : Nat := 0
  deriving DecidableEq, Repr

/-- The END record of a droplet, as a session compares with it (Table 23.1). -/
structure EndRec where
  index : Nat := 0
  outcome : Nat := 0
  reason : Nat := 0
  status : Nat := 0
  egress : Nat := 0
  crc : Nat := 0
  deriving DecidableEq, Repr

/-- A droplet of the replay store (R884): its ADMIT record, the thread that receives it, its window, its END record. -/
structure Replayed where
  admitIx : Nat := 0
  thread : Nat := 0
  d : Droplet := {}
  win : List Byte := []
  end_ : Option EndRec := none
  deriving DecidableEq, Repr

/-- A replay session (Sequence 23.1). -/
structure Session where
  basin : Nat := 0
  src : Nat := 0
  /-- Versions pinned by step 1. -/
  versions : List Nat := []
  /-- 2 the basin is going out, 3 it is going out and the session then ends, 4 it runs, 6 it has ended, 5 it is being
  returned. -/
  step : Nat := 2
  /-- Selected droplets not yet handed, in ADMIT order. -/
  feed : List Replayed := []
  /-- The replay store, by index: the handed droplets as the units see them, their records, their windows. -/
  slots : SMap Slot := []
  recs : SMap Replayed := []
  windows : SMap (List Byte) := []
  /-- Decision entries not yet used, by the thread that receives them. -/
  log : SMap (List DecEnt) := []
  deriving DecidableEq, Repr

structure RplSt where
  /-- Records held, oldest first. -/
  ring : List RplRec := []
  /-- Next INDEX; the bytes held; the next byte offset to write in the ring. -/
  next : Nat := 0
  held : Nat := 0
  wpos : Nat := 0
  /-- The recording bucket in sixteenths of a byte (R876). -/
  bucket : Int := 0
  /-- Local time of the last refill. -/
  bucketAt : Nat := 0
  /-- Unwritten bytes in the write buffer, and the local time to which they have been drained. -/
  unwritten : Nat := 0
  drainAt : Nat := 0
  /-- Decision entries that have not filled a record. -/
  dec : List DecEnt := []
  /-- Entries discarded since the last LOG_LOST entry; INEXACT for the next DECISION record. -/
  lost : Nat := 0
  inexact : Bool := false
  /-- Marked droplets in flight. -/
  marked : Nat := 0
  /-- Bytes the post window still allows; its cause (Table 23.7, FREEZE_CAUSE). -/
  post : Option (Nat × Nat) := none
  /-- Export progress (R882): the batches left, the first awaiting its trailer, by first record and count; and the offset
  in the export area at which the trailer goes. -/
  exp : Option (List (Nat × Nat) × Nat) := none
  /-- The replay session that runs. -/
  replay : Option Session := none
  /-- Breakpoints by engine × 4 + n: address and threads. -/
  brk : SMap (Nat × Nat) := []
  deriving DecidableEq, Repr

end Sys2Proof.Machine
end

