-- ==== Sys2Proof/Machine/State.lean ====
section
/-! DEFINITION. The state of the block: plain data, every field at its value after power-on reset by default, and the
reasons for which a step can stop. -/

namespace Sys2Proof.Machine

/-- No command of this block ends in a fault: the spec gives every one of them an effect, and a command that cannot
happen in the present state leaves the state as it is. -/
inductive Fault where
  deriving DecidableEq, Repr

/-- Why a step is refused. -/
inductive Refusal where
  /-- Raised by `exec` for a row of the opcode table that has no meaning yet. Safe: nothing can be proved of its effect. -/
  | notModelled (mnemonic : String)
  deriving DecidableEq, Repr

/-- The state of the Chrolar 192. -/
structure State where
  /-- Commands waiting, first in, first out. -/
  pending : List Instr := []
  /-- Every register field and Sluice object field that differs from its reset value, by `Fld.key`. -/
  regs : SMap Nat := []
  /-- Wall time in ns since power-on reset, as the always-on domain measures it. -/
  wall : Nat := 0
  weir : WeirSt := {}
  rul : RulSt := {}
  tbl : TblSt := {}
  /-- Threads: packet-engine threads by global thread ID, the thread running on CEn at 1536 + n. -/
  thr : SMap Thr := []
  /-- Logical engines. -/
  eng : SMap Eng := []
  /-- Helpers by basin × 2 + kind (0 crypto, 1 check). -/
  hlp : SMap Helper := []
  /-- Ring channels and spill queues, by basin × 1,024 + channel index. -/
  chan : SMap Chan := []
  cis : CisSt := {}
  mem : MemSt := {}
  slu : SluSt := {}
  time : TimeSt := {}
  pmp : PmpSt := {}
  lkg : LkgSt := {}
  hst : HstSt := {}
  edg : EdgSt := {}
  xng : XngSt := {}
  boot : BootSt := {}
  pwr : PwrSt := {}
  fth : FthSt := {}
  rpl : RplSt := {}
  /-- What the running image fixes; empty before activation and under the fallback bridge. -/
  img : Image := {}
  /-- Bridge ports that the fallback bridge's spanning tree blocks (R40). -/
  blocked : List Nat := []
  /-- Grade fused into the part (GEN_REV.GRADE). -/
  grade : Nat := 0
  /-- What the device has sent out through its links, pins and buses, newest first: the model's own record. -/
  out : List Out := []
  /-- The model's own counter of free values taken so far. -/
  fresh : Nat := 0
  deriving DecidableEq, Repr

/-- The block right after power-on reset, before Sequence 1.1 has run. -/
def State.reset : State := {}

end Sys2Proof.Machine
end

