-- ==== Sys2Proof/Machine/Image.lean ====
section
/-! DEFINITION. The contents of an image, as a function of a slot's bytes: the spec gives the header, the manifest and
the digests, and leaves the binary form of the sections' contents to Plimbioc. -/

namespace Sys2Proof

/-- What the sections of a verified slot hold. -/
opaque Config.imageContents : List Byte → Machine.Image

end Sys2Proof
end

