-- ==== Sys2Proof/Machine/RegMap.lean ====
section
/-! DEFINITION. The register map: every field of the spec's register tables and of the Sluice's object tables
(Tables 14.11 to 14.15), with its place, access code and reset value, in the order of the chapters. A field of a
register array has one instance for each index; a banked field has one for each partition (R901). Sluice objects stand
on pages 32 + KIND at offset 4 × word. 64-bit counters are one field at their low word, with the copied high word
beside it (R129). -/

namespace Sys2Proof.Machine

/-- The access codes of Table 0.7. -/
inductive Acc where
  | ro | rw | rw1c | rw1s | wo | rc | rwl
  deriving DecidableEq, Repr

/-- One field: BAR0 page, byte offset of its word in the page (index 0), low bit, width, access code, value after reset,
bytes between instances, number of instances, banked for each partition, writable by the supervisor partition only. -/
structure Fld where
  page : Nat
  off : Nat
  lo : Nat
  w : Nat
  acc : Acc
  rst : Nat
  stride : Nat
  count : Nat
  banked : Bool
  sup : Bool
  deriving DecidableEq, Repr

/-- The key of instance i of a field in bank b: all fields share one sparse store. -/
def Fld.key (f : Fld) (i b : Nat) : Nat :=
  ((f.page * 65536 + f.off) * 32 + f.lo) * 16777216 + i * 8 + b

/-! Table 3.8. -/
def Reg.WEIR_CFG_RESERVE : Fld := ⟨1, 0x0, 0, 15, .ro, 1024, 0, 1, false, true⟩

/-! Table 3.9. -/
def Reg.WEIR_STATUS_INFLIGHT : Fld := ⟨1, 0x4, 0, 17, .ro, 0, 0, 1, false, true⟩
def Reg.WEIR_STATUS_SUSP : Fld := ⟨1, 0x4, 20, 4, .ro, 0, 0, 1, false, true⟩
def Reg.WEIR_STATUS_SWITCHING : Fld := ⟨1, 0x4, 24, 1, .ro, 0, 0, 1, false, true⟩

/-! Table 3.10. -/
def Reg.WEIR_HOLD_LIMIT : Fld := ⟨1, 0x10, 0, 17, .ro, 100000, 4, 4, false, true⟩
def Reg.WEIR_HOLD_SUSPEND_SUSP : Fld := ⟨1, 0x20, 0, 4, .rwl, 0, 0, 1, false, true⟩

/-! Table 3.11. -/
def Reg.WEIR_DOM_SEL_DOMAIN : Fld := ⟨1, 0x30, 0, 16, .rw, 0, 0, 1, false, true⟩
def Reg.WEIR_DOM_STAT0_NEXT_SEQ : Fld := ⟨1, 0x34, 0, 24, .ro, 0, 0, 1, false, true⟩
def Reg.WEIR_DOM_STAT1_HEAD_SEQ : Fld := ⟨1, 0x38, 0, 24, .ro, 0, 0, 1, false, true⟩
def Reg.WEIR_DOM_STAT2_INFLIGHT : Fld := ⟨1, 0x3C, 0, 13, .ro, 0, 0, 1, false, true⟩
def Reg.WEIR_DOM_STAT2_CLASS : Fld := ⟨1, 0x3C, 16, 2, .ro, 0, 0, 1, false, true⟩
def Reg.WEIR_DOM_STAT2_HEAD_STATE : Fld := ⟨1, 0x3C, 20, 3, .ro, 0, 0, 1, false, true⟩

/-! Table 3.13. -/
def Reg.WEIR_INT_STATUS_HOLD_EXP : Fld := ⟨1, 0x200, 0, 1, .rw1c, 0, 0, 1, false, true⟩
def Reg.WEIR_INT_EN_HOLD_EXP : Fld := ⟨1, 0x204, 0, 1, .rw, 0, 0, 1, false, true⟩
def Reg.WEIR_INT_STATUS_REFUSED : Fld := ⟨1, 0x200, 1, 1, .rw1c, 0, 0, 1, false, true⟩
def Reg.WEIR_INT_EN_REFUSED : Fld := ⟨1, 0x204, 1, 1, .rw, 0, 0, 1, false, true⟩
def Reg.WEIR_INT_STATUS_ENG_DRY : Fld := ⟨1, 0x200, 2, 1, .rw1c, 0, 0, 1, false, true⟩
def Reg.WEIR_INT_EN_ENG_DRY : Fld := ⟨1, 0x204, 2, 1, .rw, 0, 0, 1, false, true⟩
def Reg.WEIR_INT_STATUS_MEM_LOST : Fld := ⟨1, 0x200, 3, 1, .rw1c, 0, 0, 1, false, true⟩
def Reg.WEIR_INT_EN_MEM_LOST : Fld := ⟨1, 0x204, 3, 1, .rw, 0, 0, 1, false, true⟩
def Reg.WEIR_INT_STATUS_SWITCH_DONE : Fld := ⟨1, 0x200, 4, 1, .rw1c, 0, 0, 1, false, true⟩
def Reg.WEIR_INT_EN_SWITCH_DONE : Fld := ⟨1, 0x204, 4, 1, .rw, 0, 0, 1, false, true⟩

/-! Table 4.13. -/
def Reg.RUN_CFG_TPID : Fld := ⟨2, 0x0, 0, 16, .ro, 33024, 0, 1, false, false⟩
def Reg.RUN_CFG_DEPTH : Fld := ⟨2, 0x0, 16, 4, .ro, 8, 0, 1, false, false⟩

/-! Table 4.14. -/
def Reg.RUN_HASH_SEED_SEED : Fld := ⟨2, 0x4, 0, 32, .ro, 0, 0, 1, false, false⟩
def Reg.RUN_ROOT_ETH : Fld := ⟨2, 0x8, 0, 8, .ro, 0, 0, 1, false, false⟩
def Reg.RUN_ROOT_CAN : Fld := ⟨2, 0x8, 8, 8, .ro, 0, 0, 1, false, false⟩
def Reg.RUN_ROOT_EVT : Fld := ⟨2, 0x8, 16, 8, .ro, 0, 0, 1, false, false⟩

/-! Table 4.15. -/
def Reg.RUN_MAP_STATUS_ACTIVE : Fld := ⟨2, 0xC, 0, 4, .ro, 0, 0, 1, false, false⟩
def Reg.RUN_MAP_STATUS_TARGET : Fld := ⟨2, 0xC, 4, 4, .ro, 0, 0, 1, false, false⟩
def Reg.RUN_DROP_MASK_DROP : Fld := ⟨2, 0x10, 1, 6, .ro, 63, 0, 1, false, false⟩

/-! Table 5.10. -/
def Reg.RUL_STATUS_INGRESS : Fld := ⟨3, 0x0, 0, 16, .ro, 0, 0, 1, false, false⟩
def Reg.RUL_STATUS_LIVE : Fld := ⟨3, 0x0, 16, 3, .ro, 0, 0, 1, false, false⟩
def Reg.RUL_COMMIT_GO : Fld := ⟨3, 0x4, 0, 1, .wo, 0, 0, 1, true, false⟩
def Reg.RUL_COMMIT_RESULT : Fld := ⟨3, 0x4, 4, 4, .ro, 0, 0, 1, true, false⟩
def Reg.RUL_COMMIT_PENDING : Fld := ⟨3, 0x4, 8, 1, .ro, 0, 0, 1, true, false⟩
def Reg.RUL_COMMIT_VERSION : Fld := ⟨3, 0x4, 16, 16, .ro, 0, 0, 1, true, false⟩

/-! Table 5.11. -/
def Reg.RUL_PIN_VERSION : Fld := ⟨3, 0x8, 0, 16, .rw, 0, 0, 1, false, true⟩
def Reg.RUL_PIN_PIN : Fld := ⟨3, 0x8, 16, 1, .wo, 0, 0, 1, false, true⟩
def Reg.RUL_PIN_UNPIN : Fld := ⟨3, 0x8, 17, 1, .wo, 0, 0, 1, false, true⟩
def Reg.RUL_PIN_RESULT : Fld := ⟨3, 0x8, 20, 4, .ro, 0, 0, 1, false, true⟩
def Reg.RUL_VER_NUMBER : Fld := ⟨3, 0x10, 0, 16, .ro, 0, 8, 4, false, false⟩
def Reg.RUL_VER_STATE : Fld := ⟨3, 0x10, 16, 2, .ro, 0, 8, 4, false, false⟩
def Reg.RUL_VER_OWNER : Fld := ⟨3, 0x10, 20, 3, .ro, 0, 8, 4, false, false⟩
def Reg.RUL_VREF_REFS : Fld := ⟨3, 0x14, 0, 24, .ro, 0, 8, 4, false, false⟩
def Reg.RUL_VREF_PINS : Fld := ⟨3, 0x14, 24, 4, .ro, 0, 8, 4, false, false⟩

/-! Table 5.12. -/
def Reg.RUL_STG_SEL_KIND : Fld := ⟨3, 0x40, 0, 2, .rw, 0, 0, 1, true, false⟩
def Reg.RUL_STG_SEL_INDEX : Fld := ⟨3, 0x40, 4, 14, .rw, 0, 0, 1, true, false⟩
def Reg.RUL_STG_CMD_CMD : Fld := ⟨3, 0x44, 0, 2, .wo, 0, 0, 1, true, false⟩
def Reg.RUL_STG_CMD_RESULT : Fld := ⟨3, 0x44, 4, 4, .ro, 0, 0, 1, true, false⟩
def Reg.RUL_STG_CMD_QUOTA_LEFT : Fld := ⟨3, 0x44, 16, 9, .ro, 0, 0, 1, true, false⟩

/-! Table 5.13. -/
def Reg.RUL_INT_STATUS_COMMITTED : Fld := ⟨3, 0x200, 0, 1, .rw1c, 0, 0, 1, true, false⟩
def Reg.RUL_INT_EN_COMMITTED : Fld := ⟨3, 0x204, 0, 1, .rw, 0, 0, 1, false, false⟩
def Reg.RUL_INT_STATUS_COMMIT_FAIL : Fld := ⟨3, 0x200, 1, 1, .rw1c, 0, 0, 1, true, false⟩
def Reg.RUL_INT_EN_COMMIT_FAIL : Fld := ⟨3, 0x204, 1, 1, .rw, 0, 0, 1, false, false⟩
def Reg.RUL_INT_STATUS_RETIRED : Fld := ⟨3, 0x200, 2, 1, .rw1c, 0, 0, 1, false, false⟩
def Reg.RUL_INT_EN_RETIRED : Fld := ⟨3, 0x204, 2, 1, .rw, 0, 0, 1, false, false⟩

/-! Table 6.18. -/
def Reg.TBL_L2_CFG_POLICY : Fld := ⟨4, 0x0, 0, 2, .ro, 0, 0, 1, false, false⟩
def Reg.TBL_L2_AGE_AGE_TIME : Fld := ⟨4, 0x4, 0, 32, .ro, 300000, 0, 1, false, false⟩
def Reg.TBL_EP_CFG_DYN_BASE : Fld := ⟨4, 0x8, 0, 16, .ro, 0, 0, 1, false, false⟩
def Reg.TBL_SEED_A_SEED : Fld := ⟨4, 0x10, 0, 32, .ro, 0, 8, 3, false, false⟩
def Reg.TBL_SEED_B_SEED : Fld := ⟨4, 0x14, 0, 32, .ro, 4294967295, 8, 3, false, false⟩
def Reg.TBL_COUNT_COUNT : Fld := ⟨4, 0x30, 0, 21, .ro, 0, 4, 3, false, false⟩

/-! Table 6.19. -/
def Reg.TBL_SEL_TABLE : Fld := ⟨4, 0x80, 0, 2, .rw, 0, 0, 1, true, false⟩
def Reg.TBL_SEL_SPACE : Fld := ⟨4, 0x80, 2, 4, .rw, 0, 0, 1, true, false⟩
def Reg.TBL_SEL_BY_INDEX : Fld := ⟨4, 0x80, 6, 1, .rw, 0, 0, 1, true, false⟩
def Reg.TBL_SEL_INDEX : Fld := ⟨4, 0x80, 8, 20, .rw, 0, 0, 1, true, false⟩
def Reg.TBL_CMD_CMD : Fld := ⟨4, 0x84, 0, 3, .wo, 0, 0, 1, true, false⟩
def Reg.TBL_CMD_RESULT : Fld := ⟨4, 0x84, 4, 4, .ro, 0, 0, 1, true, false⟩
def Reg.TBL_CMD_PENDING : Fld := ⟨4, 0x84, 8, 1, .ro, 0, 0, 1, true, false⟩
def Reg.TBL_CMD_FLUSH_BUSY : Fld := ⟨4, 0x84, 9, 1, .ro, 0, 0, 1, true, false⟩

/-! Table 6.20. -/
def Reg.TBL_SPACE_KEY_LEN : Fld := ⟨4, 0x400, 0, 6, .ro, 0, 16, 16, false, false⟩
def Reg.TBL_SPACE_POLICY : Fld := ⟨4, 0x400, 8, 2, .ro, 0, 16, 16, false, false⟩
def Reg.TBL_SPACE_OWNER : Fld := ⟨4, 0x400, 12, 3, .ro, 0, 16, 16, false, false⟩
def Reg.TBL_SPACE_EN : Fld := ⟨4, 0x400, 15, 1, .ro, 0, 16, 16, false, false⟩
def Reg.TBL_SPACE_QUOTA : Fld := ⟨4, 0x404, 0, 21, .ro, 0, 16, 16, false, false⟩
def Reg.TBL_SPACE_AGE_TIME : Fld := ⟨4, 0x408, 0, 32, .ro, 0, 16, 16, false, false⟩
def Reg.TBL_SPACE_USED : Fld := ⟨4, 0x40C, 0, 21, .ro, 0, 16, 16, false, false⟩

/-! Table 6.21. -/
def Reg.TBL_PORT_LEARN_LIMIT : Fld := ⟨4, 0x800, 0, 18, .ro, 131072, 4, 85, false, false⟩
def Reg.TBL_PORT_ADMIT : Fld := ⟨4, 0x800, 18, 2, .ro, 0, 4, 85, false, false⟩
def Reg.TBL_PORT_OWNER : Fld := ⟨4, 0x800, 20, 3, .ro, 0, 4, 85, false, false⟩

/-! Table 6.23. -/
def Reg.TBL_INT_STATUS_CMD_DONE : Fld := ⟨4, 0x200, 0, 1, .rw1c, 0, 0, 1, true, false⟩
def Reg.TBL_INT_EN_CMD_DONE : Fld := ⟨4, 0x204, 0, 1, .rw, 0, 0, 1, false, false⟩
def Reg.TBL_INT_STATUS_FLUSH_DONE : Fld := ⟨4, 0x200, 1, 1, .rw1c, 0, 0, 1, true, false⟩
def Reg.TBL_INT_EN_FLUSH_DONE : Fld := ⟨4, 0x204, 1, 1, .rw, 0, 0, 1, false, false⟩
def Reg.TBL_INT_STATUS_EP_PENDING : Fld := ⟨4, 0x200, 2, 1, .rw1c, 0, 0, 1, true, false⟩
def Reg.TBL_INT_EN_EP_PENDING : Fld := ⟨4, 0x204, 2, 1, .rw, 0, 0, 1, false, false⟩
def Reg.TBL_INT_STATUS_EP_FULL : Fld := ⟨4, 0x200, 3, 1, .rw1c, 0, 0, 1, false, false⟩
def Reg.TBL_INT_EN_EP_FULL : Fld := ⟨4, 0x204, 3, 1, .rw, 0, 0, 1, false, false⟩
def Reg.TBL_INT_STATUS_LEARN_FAIL : Fld := ⟨4, 0x200, 4, 1, .rw1c, 0, 0, 1, false, false⟩
def Reg.TBL_INT_EN_LEARN_FAIL : Fld := ⟨4, 0x204, 4, 1, .rw, 0, 0, 1, false, false⟩
def Reg.TBL_INT_STATUS_CTX_LOST : Fld := ⟨4, 0x200, 5, 1, .rw1c, 0, 0, 1, false, false⟩
def Reg.TBL_INT_EN_CTX_LOST : Fld := ⟨4, 0x204, 5, 1, .rw, 0, 0, 1, false, false⟩

/-! Table 7.11. -/
def Reg.BSN_STATUS_OUT : Fld := ⟨9, 0x0, 0, 12, .ro, 0, 0, 1, false, true⟩
def Reg.BSN_STATUS_PERM : Fld := ⟨9, 0x0, 16, 4, .ro, 15, 0, 1, false, true⟩
def Reg.BSN_BASIN_SPARE : Fld := ⟨9, 0x40, 0, 5, .ro, 16, 4, 12, false, true⟩
def Reg.BSN_BASIN_SPARE_USED : Fld := ⟨9, 0x40, 5, 1, .ro, 0, 4, 12, false, true⟩
def Reg.BSN_BASIN_WHY : Fld := ⟨9, 0x40, 6, 3, .ro, 0, 4, 12, false, true⟩

/-! Table 7.12. -/
def Reg.BSN_ENG_CMD_ENGINE : Fld := ⟨9, 0x4, 0, 8, .rw, 0, 0, 1, false, true⟩
def Reg.BSN_ENG_CMD_CMD : Fld := ⟨9, 0x4, 8, 3, .wo, 0, 0, 1, false, true⟩
def Reg.BSN_ENG_CMD_RESULT : Fld := ⟨9, 0x4, 12, 4, .ro, 0, 0, 1, false, true⟩
def Reg.BSN_ENG_CMD_PENDING : Fld := ⟨9, 0x4, 16, 1, .ro, 0, 0, 1, false, true⟩

/-! Table 7.14. -/
def Reg.BSN_ENG_PHYS : Fld := ⟨9, 0x1000, 0, 8, .ro, 0, 8, 192, false, true⟩
def Reg.BSN_ENG_ESTATE : Fld := ⟨9, 0x1000, 8, 3, .ro, 1, 8, 192, false, true⟩
def Reg.BSN_ENG_ESC_PENDING : Fld := ⟨9, 0x1000, 11, 1, .ro, 0, 8, 192, false, true⟩
def Reg.BSN_ENG_CAUSE : Fld := ⟨9, 0x1000, 12, 4, .ro, 0, 8, 192, false, true⟩
def Reg.BSN_ENG_STILL_LIMIT : Fld := ⟨9, 0x1000, 16, 14, .ro, 100, 8, 192, false, true⟩
def Reg.BSN_ENG_CALL : Fld := ⟨9, 0x1000, 30, 1, .ro, 0, 8, 192, false, true⟩
def Reg.BSN_THR_STATE : Fld := ⟨9, 0x1004, 0, 24, .ro, 14380470, 8, 192, false, true⟩

/-! Table 7.16. -/
def Reg.BSN_INT_STATUS_ESCALATED : Fld := ⟨9, 0x10, 0, 1, .rw1c, 0, 0, 1, false, true⟩
def Reg.BSN_INT_EN_ESCALATED : Fld := ⟨9, 0x14, 0, 1, .rw, 0, 0, 1, false, true⟩
def Reg.BSN_INT_STATUS_STILL_WATER : Fld := ⟨9, 0x10, 1, 1, .rw1c, 0, 0, 1, false, true⟩
def Reg.BSN_INT_EN_STILL_WATER : Fld := ⟨9, 0x14, 1, 1, .rw, 0, 0, 1, false, true⟩
def Reg.BSN_INT_STATUS_SWAPPED : Fld := ⟨9, 0x10, 2, 1, .rw1c, 0, 0, 1, false, true⟩
def Reg.BSN_INT_EN_SWAPPED : Fld := ⟨9, 0x14, 2, 1, .rw, 0, 0, 1, false, true⟩
def Reg.BSN_INT_STATUS_NO_SPARE : Fld := ⟨9, 0x10, 3, 1, .rw1c, 0, 0, 1, false, true⟩
def Reg.BSN_INT_EN_NO_SPARE : Fld := ⟨9, 0x14, 3, 1, .rw, 0, 0, 1, false, true⟩
def Reg.BSN_INT_STATUS_RESET_DONE : Fld := ⟨9, 0x10, 4, 1, .rw1c, 0, 0, 1, false, true⟩
def Reg.BSN_INT_EN_RESET_DONE : Fld := ⟨9, 0x14, 4, 1, .rw, 0, 0, 1, false, true⟩

/-! Table 10.9. -/
def Reg.BSN_HLP_CRY_EN : Fld := ⟨9, 0x80, 0, 1, .rw, 1, 4, 12, false, true⟩
def Reg.BSN_HLP_CHK_EN : Fld := ⟨9, 0x80, 1, 1, .rw, 1, 4, 12, false, true⟩
def Reg.BSN_HLP_CRY_STATE : Fld := ⟨9, 0x80, 4, 2, .ro, 0, 4, 12, false, true⟩
def Reg.BSN_HLP_CHK_STATE : Fld := ⟨9, 0x80, 6, 2, .ro, 0, 4, 12, false, true⟩
def Reg.BSN_HLP_CRY_ENABLE_PENDING : Fld := ⟨9, 0x80, 8, 1, .ro, 0, 4, 12, false, true⟩
def Reg.BSN_HLP_CHK_ENABLE_PENDING : Fld := ⟨9, 0x80, 9, 1, .ro, 0, 4, 12, false, true⟩
def Reg.BSN_HLP_CRY_OWNER : Fld := ⟨9, 0x80, 16, 8, .ro, 255, 4, 12, false, true⟩
def Reg.BSN_HLP_CHK_OWNER : Fld := ⟨9, 0x80, 24, 8, .ro, 255, 4, 12, false, true⟩

/-! Table 10.10. -/
def Reg.BSN_HLP_INT_STATUS_HLP_FAIL : Fld := ⟨9, 0xB0, 0, 12, .rw1c, 0, 0, 1, false, true⟩
def Reg.BSN_HLP_INT_EN_HLP_FAIL : Fld := ⟨9, 0xB4, 0, 12, .rw, 0, 0, 1, false, true⟩
def Reg.BSN_HLP_INT_STATUS_SLOT_LOST : Fld := ⟨9, 0xB0, 12, 1, .rw1c, 0, 0, 1, false, true⟩
def Reg.BSN_HLP_INT_EN_SLOT_LOST : Fld := ⟨9, 0xB4, 12, 1, .rw, 0, 0, 1, false, true⟩

/-! Table 11.8. -/
def Reg.BSN_CH_SEL_INDEX : Fld := ⟨9, 0x200, 0, 10, .rw, 0, 0, 1, false, true⟩
def Reg.BSN_CH_SEL_BASIN : Fld := ⟨9, 0x200, 16, 4, .rw, 0, 0, 1, false, true⟩
def Reg.BSN_CH_CAP_CAP : Fld := ⟨9, 0x204, 0, 21, .ro, 0, 0, 1, false, true⟩
def Reg.BSN_CH_HIGH_HIGH : Fld := ⟨9, 0x208, 0, 21, .ro, 0, 0, 1, false, true⟩
def Reg.BSN_CH_LOW_LOW : Fld := ⟨9, 0x20C, 0, 21, .ro, 0, 0, 1, false, true⟩
def Reg.BSN_CH_ACT_KIND : Fld := ⟨9, 0x210, 0, 3, .ro, 0, 0, 1, false, true⟩
def Reg.BSN_CH_ACT_PIN : Fld := ⟨9, 0x210, 4, 3, .ro, 0, 0, 1, false, true⟩
def Reg.BSN_CH_ACT_PORT : Fld := ⟨9, 0x210, 8, 5, .ro, 0, 0, 1, false, true⟩
def Reg.BSN_CH_ACT_PRI : Fld := ⟨9, 0x210, 16, 8, .ro, 0, 0, 1, false, true⟩
def Reg.BSN_CH_ACT_NOTIFY : Fld := ⟨9, 0x210, 24, 1, .ro, 0, 0, 1, false, true⟩
def Reg.BSN_CH_ACT_PART : Fld := ⟨9, 0x210, 25, 3, .ro, 0, 0, 1, false, true⟩
def Reg.BSN_CH_END_PROD : Fld := ⟨9, 0x214, 0, 11, .ro, 2047, 0, 1, false, true⟩
def Reg.BSN_CH_END_CONS : Fld := ⟨9, 0x214, 16, 11, .ro, 2047, 0, 1, false, true⟩

/-! Table 11.9. -/
def Reg.BSN_CH_STAT0_FILL : Fld := ⟨9, 0x218, 0, 21, .ro, 0, 0, 1, false, true⟩
def Reg.BSN_CH_STAT0_ABOVE : Fld := ⟨9, 0x218, 24, 1, .ro, 0, 0, 1, false, true⟩
def Reg.BSN_CH_STAT0_OPEN : Fld := ⟨9, 0x218, 25, 1, .ro, 0, 0, 1, false, true⟩
def Reg.BSN_CH_STAT0_HEAD_ABORTED : Fld := ⟨9, 0x218, 26, 1, .ro, 0, 0, 1, false, true⟩
def Reg.BSN_CH_STAT1_PKTS : Fld := ⟨9, 0x21C, 0, 21, .ro, 0, 0, 1, false, true⟩
def Reg.BSN_CH_INT_STATUS_ABORT : Fld := ⟨9, 0x220, 0, 1, .rw1c, 0, 0, 1, false, true⟩
def Reg.BSN_CH_INT_STATUS_DISCARD : Fld := ⟨9, 0x220, 1, 1, .rw1c, 0, 0, 1, false, true⟩
def Reg.BSN_CH_INT_STATUS_LOST : Fld := ⟨9, 0x220, 2, 1, .rw1c, 0, 0, 1, false, true⟩
def Reg.BSN_CH_INT_STATUS_FCO : Fld := ⟨9, 0x220, 3, 1, .rw1c, 0, 0, 1, false, true⟩
def Reg.BSN_FCO_POL : Fld := ⟨9, 0x280, 0, 1, .ro, 0, 4, 8, false, true⟩
def Reg.BSN_FCO_MIN_HOLD : Fld := ⟨9, 0x280, 8, 8, .ro, 0, 4, 8, false, true⟩
def Reg.BSN_FCO_STATE : Fld := ⟨9, 0x280, 16, 1, .ro, 1, 4, 8, false, true⟩

/-! Table 12.9. -/
def Reg.CIS_STATUS_ERR_COUNT : Fld := ⟨5, 0x0, 0, 9, .ro, 0, 0, 1, false, false⟩
def Reg.CIS_STATUS_LOST_ANY : Fld := ⟨5, 0x0, 16, 1, .ro, 0, 0, 1, false, false⟩
def Reg.CIS_SEL_POOL : Fld := ⟨5, 0x10, 0, 8, .rw, 0, 0, 1, true, false⟩
def Reg.CIS_POOL_CFG_SIZE : Fld := ⟨5, 0x14, 0, 7, .ro, 1, 0, 1, false, false⟩
def Reg.CIS_POOL_CFG_EN : Fld := ⟨5, 0x14, 8, 1, .ro, 0, 0, 1, false, false⟩
def Reg.CIS_POOL_CFG_SCRUB : Fld := ⟨5, 0x14, 9, 1, .ro, 0, 0, 1, false, false⟩
def Reg.CIS_POOL_COUNT_COUNT : Fld := ⟨5, 0x18, 0, 24, .ro, 0, 0, 1, false, false⟩
def Reg.CIS_POOL_FREE_FREE : Fld := ⟨5, 0x1C, 0, 24, .ro, 0, 0, 1, false, false⟩
def Reg.CIS_POOL_LOST_LOST : Fld := ⟨5, 0x20, 0, 24, .ro, 0, 0, 1, false, false⟩
def Reg.CIS_POOL_CACHE_CACHED : Fld := ⟨5, 0x24, 0, 6, .ro, 0, 0, 1, false, false⟩
def Reg.CIS_POOL_CACHE_REFILLING : Fld := ⟨5, 0x24, 8, 1, .ro, 0, 0, 1, false, false⟩
def Reg.CIS_POOL_CACHE_SPILLING : Fld := ⟨5, 0x24, 9, 1, .ro, 0, 0, 1, false, false⟩

/-! Table 12.10. -/
def Reg.CIS_QUOTA_QUOTA : Fld := ⟨5, 0x30, 0, 24, .rw, 0, 4, 5, false, true⟩
def Reg.CIS_USED_USED : Fld := ⟨5, 0x50, 0, 24, .ro, 0, 4, 5, false, false⟩
def Reg.CIS_ERR_POP_GO : Fld := ⟨5, 0x80, 0, 1, .wo, 0, 0, 1, false, true⟩
def Reg.CIS_ERR_POP_RESULT : Fld := ⟨5, 0x80, 4, 4, .ro, 0, 0, 1, false, true⟩
def Reg.CIS_ERR_DATA_DATA : Fld := ⟨5, 0x90, 0, 32, .ro, 0, 4, 4, false, false⟩

/-! Table 12.12. -/
def Reg.CIS_INT_STATUS_ERR : Fld := ⟨5, 0x200, 0, 1, .rw1c, 0, 0, 1, false, false⟩
def Reg.CIS_INT_EN_ERR : Fld := ⟨5, 0x204, 0, 1, .rw, 0, 0, 1, false, false⟩
def Reg.CIS_INT_STATUS_ERR_FULL : Fld := ⟨5, 0x200, 1, 1, .rw1c, 0, 0, 1, false, false⟩
def Reg.CIS_INT_EN_ERR_FULL : Fld := ⟨5, 0x204, 1, 1, .rw, 0, 0, 1, false, false⟩
def Reg.CIS_INT_STATUS_LOST : Fld := ⟨5, 0x200, 2, 1, .rw1c, 0, 0, 1, false, false⟩
def Reg.CIS_INT_EN_LOST : Fld := ⟨5, 0x204, 2, 1, .rw, 0, 0, 1, false, false⟩
def Reg.CIS_INT_STATUS_EMPTY : Fld := ⟨5, 0x200, 3, 1, .rw1c, 0, 0, 1, false, false⟩
def Reg.CIS_INT_EN_EMPTY : Fld := ⟨5, 0x204, 3, 1, .rw, 0, 0, 1, false, false⟩

/-! Table 13.11. -/
def Reg.IPD_STATUS_ONLINE : Fld := ⟨18, 0x0, 0, 6, .ro, 0, 0, 1, false, false⟩
def Reg.IPD_STATUS_SPARES : Fld := ⟨18, 0x0, 6, 2, .ro, 0, 0, 1, false, false⟩
def Reg.IPD_STATUS_TRAINED : Fld := ⟨18, 0x0, 8, 1, .ro, 0, 0, 1, false, false⟩
def Reg.IPD_STATUS_DEGRADED : Fld := ⟨18, 0x0, 9, 1, .ro, 0, 0, 1, false, false⟩
def Reg.IPD_STATUS_FULL_TRAIN : Fld := ⟨18, 0x0, 10, 1, .ro, 0, 0, 1, false, false⟩
def Reg.IPD_STATUS_FT_PC : Fld := ⟨18, 0x0, 11, 5, .ro, 0, 0, 1, false, false⟩
def Reg.IPD_STATUS_COPYING : Fld := ⟨18, 0x0, 16, 1, .ro, 0, 0, 1, false, false⟩
def Reg.IPD_STATUS_COPY_PC : Fld := ⟨18, 0x0, 17, 5, .ro, 0, 0, 1, false, false⟩
def Reg.IPD_CFG_AGE_LIMIT : Fld := ⟨18, 0x4, 0, 8, .ro, 20, 0, 1, false, false⟩
def Reg.IPD_CFG_SCRUB_PERIOD : Fld := ⟨18, 0x4, 8, 8, .ro, 24, 0, 1, false, false⟩
def Reg.IPD_CFG_CE_THRESH : Fld := ⟨18, 0x4, 16, 16, .ro, 256, 0, 1, false, false⟩
def Reg.IPD_NR_CFG_NR_THRESH : Fld := ⟨18, 0x8, 0, 14, .ro, 2048, 0, 1, false, false⟩
def Reg.IPD_NR_CFG_NR_DIST : Fld := ⟨18, 0x8, 16, 3, .ro, 2, 0, 1, false, false⟩
def Reg.IPD_MAP_ORDER : Fld := ⟨18, 0xC, 0, 16, .ro, 0, 0, 1, false, false⟩
def Reg.IPD_OFFLINE_PC : Fld := ⟨18, 0x10, 0, 32, .ro, 0, 0, 1, false, false⟩

/-! Table 13.12. -/
def Reg.IPD_PC_SEL_PC : Fld := ⟨18, 0x20, 0, 5, .rw, 0, 0, 1, true, false⟩
def Reg.IPD_PC_STAT_PHYS : Fld := ⟨18, 0x24, 0, 6, .ro, 0, 0, 1, false, false⟩
def Reg.IPD_PC_STAT_STATE : Fld := ⟨18, 0x24, 6, 3, .ro, 0, 0, 1, false, false⟩
def Reg.IPD_PC_STAT_TEMP : Fld := ⟨18, 0x24, 16, 8, .ro, 0, 0, 1, false, false⟩
def Reg.IPD_PC_STAT_MARGIN : Fld := ⟨18, 0x24, 24, 8, .ro, 0, 0, 1, false, false⟩
def Reg.IPD_PC_SPARE_ROWS : Fld := ⟨18, 0x28, 0, 10, .ro, 0, 0, 1, false, false⟩
def Reg.IPD_PC_SPARE_DQ_LANES : Fld := ⟨18, 0x28, 10, 2, .ro, 0, 0, 1, false, false⟩
def Reg.IPD_PC_SPARE_CA_LANE : Fld := ⟨18, 0x28, 12, 1, .ro, 0, 0, 1, false, false⟩
def Reg.IPD_PC_SPARE_COLS : Fld := ⟨18, 0x28, 13, 7, .ro, 0, 0, 1, false, false⟩
def Reg.IPD_PC_CE_COUNT : Fld := ⟨18, 0x2C, 0, 32, .rc, 0, 0, 1, false, false⟩
def Reg.IPD_POISON_LO_ADDR : Fld := ⟨18, 0x40, 3, 29, .ro, 0, 0, 1, false, false⟩
def Reg.IPD_POISON_HI_ADDR32 : Fld := ⟨18, 0x44, 0, 1, .ro, 0, 0, 1, false, false⟩
def Reg.IPD_POISON_HI_VALID : Fld := ⟨18, 0x44, 31, 1, .ro, 0, 0, 1, false, false⟩
def Reg.IPD_CACHE_SEL_CACHE : Fld := ⟨18, 0x80, 0, 4, .rw, 0, 0, 1, true, false⟩

/-! Table 13.13. -/
def Reg.IPD_INT_STATUS_CE_THRESH : Fld := ⟨18, 0x200, 0, 1, .rw1c, 0, 0, 1, false, false⟩
def Reg.IPD_INT_EN_CE_THRESH : Fld := ⟨18, 0x204, 0, 1, .rw, 0, 0, 1, false, false⟩
def Reg.IPD_INT_STATUS_UE : Fld := ⟨18, 0x200, 1, 1, .rw1c, 0, 0, 1, false, false⟩
def Reg.IPD_INT_EN_UE : Fld := ⟨18, 0x204, 1, 1, .rw, 0, 0, 1, false, false⟩
def Reg.IPD_INT_STATUS_RETRAIN_DONE : Fld := ⟨18, 0x200, 2, 1, .rw1c, 0, 0, 1, false, false⟩
def Reg.IPD_INT_EN_RETRAIN_DONE : Fld := ⟨18, 0x204, 2, 1, .rw, 0, 0, 1, false, false⟩
def Reg.IPD_INT_STATUS_RETIRED : Fld := ⟨18, 0x200, 3, 1, .rw1c, 0, 0, 1, false, false⟩
def Reg.IPD_INT_EN_RETIRED : Fld := ⟨18, 0x204, 3, 1, .rw, 0, 0, 1, false, false⟩
def Reg.IPD_INT_STATUS_OFFLINE : Fld := ⟨18, 0x200, 4, 1, .rw1c, 0, 0, 1, false, false⟩
def Reg.IPD_INT_EN_OFFLINE : Fld := ⟨18, 0x204, 4, 1, .rw, 0, 0, 1, false, false⟩
def Reg.IPD_INT_STATUS_ROW_SPARED : Fld := ⟨18, 0x200, 5, 1, .rw1c, 0, 0, 1, false, false⟩
def Reg.IPD_INT_EN_ROW_SPARED : Fld := ⟨18, 0x204, 5, 1, .rw, 0, 0, 1, false, false⟩

/-! Table 14.8. -/
def Reg.SLU_STATUS_COPIES : Fld := ⟨6, 0x0, 0, 18, .ro, 0, 0, 1, false, false⟩
def Reg.SLU_SEL_KIND : Fld := ⟨6, 0x10, 0, 4, .rw, 0, 0, 1, true, false⟩
def Reg.SLU_SEL_BANK : Fld := ⟨6, 0x10, 4, 1, .rw, 0, 0, 1, true, false⟩
def Reg.SLU_SEL_INDEX : Fld := ⟨6, 0x10, 8, 20, .rw, 0, 0, 1, true, false⟩
def Reg.SLU_CMD_CMD : Fld := ⟨6, 0x14, 0, 3, .wo, 0, 0, 1, true, false⟩
def Reg.SLU_CMD_RESULT : Fld := ⟨6, 0x14, 4, 4, .ro, 0, 0, 1, true, false⟩
def Reg.SLU_CMD_PENDING : Fld := ⟨6, 0x14, 8, 1, .ro, 0, 0, 1, true, false⟩

/-! Table 14.16. -/
def Reg.SLU_INT_STATUS_CONFIG_DONE : Fld := ⟨6, 0x200, 0, 1, .rw1c, 0, 0, 1, false, false⟩
def Reg.SLU_INT_EN_CONFIG_DONE : Fld := ⟨6, 0x204, 0, 1, .rw, 0, 0, 1, false, false⟩
def Reg.SLU_INT_STATUS_OVERRUN : Fld := ⟨6, 0x200, 1, 1, .rw1c, 0, 0, 1, false, false⟩
def Reg.SLU_INT_EN_OVERRUN : Fld := ⟨6, 0x204, 1, 1, .rw, 0, 0, 1, false, false⟩
def Reg.SLU_INT_STATUS_GATE_OVERRUN : Fld := ⟨6, 0x200, 2, 1, .rw1c, 0, 0, 1, false, false⟩
def Reg.SLU_INT_EN_GATE_OVERRUN : Fld := ⟨6, 0x204, 2, 1, .rw, 0, 0, 1, false, false⟩
def Reg.SLU_INT_STATUS_FILTER_BLOCKED : Fld := ⟨6, 0x200, 3, 1, .rw1c, 0, 0, 1, false, false⟩
def Reg.SLU_INT_EN_FILTER_BLOCKED : Fld := ⟨6, 0x204, 3, 1, .rw, 0, 0, 1, false, false⟩
def Reg.SLU_INT_STATUS_GATE_CLOSED_INVALID : Fld := ⟨6, 0x200, 4, 1, .rw1c, 0, 0, 1, false, false⟩
def Reg.SLU_INT_EN_GATE_CLOSED_INVALID : Fld := ⟨6, 0x204, 4, 1, .rw, 0, 0, 1, false, false⟩
def Reg.SLU_INT_STATUS_SRF_RESET : Fld := ⟨6, 0x200, 5, 1, .rw1c, 0, 0, 1, false, false⟩
def Reg.SLU_INT_EN_SRF_RESET : Fld := ⟨6, 0x204, 5, 1, .rw, 0, 0, 1, false, false⟩

/-! Table 14.17. -/
def Reg.TIM_CFG_DOM_EN : Fld := ⟨11, 0x0, 0, 4, .ro, 1, 0, 1, false, false⟩
def Reg.TIM_CFG_TICK_DOM : Fld := ⟨11, 0x0, 4, 2, .ro, 0, 0, 1, false, false⟩
def Reg.TIM_CFG_PPS_DOM : Fld := ⟨11, 0x0, 6, 2, .ro, 0, 0, 1, false, false⟩
def Reg.TIM_CFG_TICK_PERIOD : Fld := ⟨11, 0x0, 16, 14, .ro, 50, 0, 1, false, false⟩
def Reg.TIM_CMD_SNAP : Fld := ⟨11, 0x4, 0, 1, .wo, 0, 0, 1, true, false⟩
def Reg.TIM_CMD_STEP : Fld := ⟨11, 0x4, 1, 1, .wo, 0, 0, 1, false, true⟩
def Reg.TIM_CMD_STEP_DOM : Fld := ⟨11, 0x4, 4, 2, .rw, 0, 0, 1, false, true⟩
def Reg.TIM_CMD_RESULT : Fld := ⟨11, 0x4, 8, 4, .ro, 0, 0, 1, false, false⟩
def Reg.TIM_LOCAL_LO_TIME : Fld := ⟨11, 0x10, 0, 32, .ro, 0, 0, 1, true, false⟩
def Reg.TIM_LOCAL_HI_TIME : Fld := ⟨11, 0x14, 0, 32, .ro, 0, 0, 1, true, false⟩
def Reg.TIM_NET_LO_TIME : Fld := ⟨11, 0x20, 0, 32, .ro, 0, 8, 4, true, false⟩
def Reg.TIM_NET_HI_TIME : Fld := ⟨11, 0x24, 0, 32, .ro, 0, 8, 4, true, false⟩
def Reg.TIM_RATE_RATE : Fld := ⟨11, 0x40, 0, 32, .rw, 0, 4, 4, false, true⟩
def Reg.TIM_OFFSET_LO_OFFSET : Fld := ⟨11, 0x50, 0, 32, .rw, 0, 0, 1, false, true⟩
def Reg.TIM_OFFSET_HI_OFFSET : Fld := ⟨11, 0x54, 0, 32, .rw, 0, 0, 1, false, true⟩
def Reg.TIM_PPS_WIDTH : Fld := ⟨11, 0x60, 0, 10, .rw, 100, 0, 1, false, true⟩
def Reg.TIM_PPS_OUT_EN : Fld := ⟨11, 0x60, 10, 1, .rw, 0, 0, 1, false, true⟩
def Reg.TIM_PPS_IN_EN : Fld := ⟨11, 0x60, 11, 1, .rw, 0, 0, 1, false, true⟩
def Reg.TIM_PPSIN_LO_TIME : Fld := ⟨11, 0x70, 0, 32, .ro, 0, 0, 1, false, false⟩
def Reg.TIM_PPSIN_HI_TIME : Fld := ⟨11, 0x74, 0, 32, .ro, 0, 0, 1, false, false⟩
def Reg.TIM_INT_STATUS_STEPPED : Fld := ⟨11, 0x80, 0, 1, .rw1c, 0, 0, 1, false, false⟩
def Reg.TIM_INT_STATUS_PPS_IN : Fld := ⟨11, 0x80, 1, 1, .rw1c, 0, 0, 1, false, false⟩
def Reg.TIM_INT_EN_EN : Fld := ⟨11, 0x84, 0, 2, .rw, 0, 0, 1, false, false⟩

/-! Table 15.11. -/
def Reg.PMP_STATUS_FIFO : Fld := ⟨8, 0x0, 0, 9, .ro, 0, 0, 1, false, false⟩
def Reg.PMP_STATUS_INUSE : Fld := ⟨8, 0x0, 16, 13, .ro, 0, 0, 1, false, false⟩
def Reg.PMP_CE_CMD_CE : Fld := ⟨8, 0x4, 0, 3, .rw, 0, 0, 1, false, true⟩
def Reg.PMP_CE_CMD_RESTART : Fld := ⟨8, 0x4, 3, 1, .wo, 0, 0, 1, false, true⟩
def Reg.PMP_CE_CMD_RESULT : Fld := ⟨8, 0x4, 4, 4, .ro, 0, 0, 1, false, true⟩
def Reg.PMP_CE_STATE : Fld := ⟨8, 0x10, 0, 2, .ro, 0, 4, 8, false, false⟩
def Reg.PMP_CE_DESC : Fld := ⟨8, 0x10, 4, 12, .ro, 0, 4, 8, false, false⟩
def Reg.PMP_CE_EFF : Fld := ⟨8, 0x10, 16, 6, .ro, 0, 4, 8, false, false⟩
def Reg.PMP_POST_DESC : Fld := ⟨8, 0x40, 0, 12, .rw, 0, 0, 1, true, false⟩
def Reg.PMP_POST_FLAGS : Fld := ⟨8, 0x40, 16, 16, .wo, 0, 0, 1, true, false⟩
def Reg.PMP_POST_STAT_RESULT : Fld := ⟨8, 0x44, 0, 4, .ro, 0, 0, 1, true, false⟩
def Reg.PMP_DESC_SEL_DESC : Fld := ⟨8, 0x80, 0, 12, .rw, 0, 0, 1, true, false⟩

/-! Table 15.13. -/
def Reg.PMP_INT_STATUS_DOUBLE_FAULT : Fld := ⟨8, 0x200, 0, 1, .rw1c, 0, 0, 1, false, false⟩
def Reg.PMP_INT_EN_DOUBLE_FAULT : Fld := ⟨8, 0x204, 0, 1, .rw, 0, 0, 1, false, false⟩
def Reg.PMP_INT_STATUS_FIFO_FULL : Fld := ⟨8, 0x200, 1, 1, .rw1c, 0, 0, 1, false, false⟩
def Reg.PMP_INT_EN_FIFO_FULL : Fld := ⟨8, 0x204, 1, 1, .rw, 0, 0, 1, false, false⟩
def Reg.PMP_INT_STATUS_POST_LOST : Fld := ⟨8, 0x200, 2, 1, .rw1c, 0, 0, 1, false, false⟩
def Reg.PMP_INT_EN_POST_LOST : Fld := ⟨8, 0x204, 2, 1, .rw, 0, 0, 1, false, false⟩

/-! Table 16.5. -/
def Reg.LKG_STATUS_HELD : Fld := ⟨7, 0x0, 0, 14, .ro, 0, 0, 1, false, false⟩
def Reg.LKG_STATUS_WAITERS : Fld := ⟨7, 0x0, 16, 13, .ro, 0, 0, 1, false, false⟩
def Reg.LKG_HREQ0_LOCK : Fld := ⟨7, 0x40, 0, 13, .rw, 0, 0, 1, true, false⟩
def Reg.LKG_HREQ0_OP : Fld := ⟨7, 0x40, 13, 3, .rw, 0, 0, 1, true, false⟩
def Reg.LKG_HREQ0_N : Fld := ⟨7, 0x40, 16, 16, .rw, 0, 0, 1, true, false⟩
def Reg.LKG_HREQ1_PRIO : Fld := ⟨7, 0x44, 0, 6, .rw, 0, 0, 1, true, false⟩
def Reg.LKG_HREQ1_GO : Fld := ⟨7, 0x44, 7, 1, .wo, 0, 0, 1, true, false⟩
def Reg.LKG_HREQ1_TO : Fld := ⟨7, 0x44, 8, 24, .rw, 0, 0, 1, true, false⟩
def Reg.LKG_HRES_RESULT : Fld := ⟨7, 0x48, 0, 4, .ro, 0, 0, 1, true, false⟩
def Reg.LKG_HRES_PENDING : Fld := ⟨7, 0x48, 4, 1, .ro, 0, 0, 1, true, false⟩
def Reg.LKG_HVAL_VALUE : Fld := ⟨7, 0x4C, 0, 32, .ro, 0, 0, 1, true, false⟩
def Reg.LKG_CMD_LOCK : Fld := ⟨7, 0x50, 0, 13, .rw, 0, 0, 1, false, true⟩
def Reg.LKG_CMD_CMD : Fld := ⟨7, 0x50, 13, 3, .wo, 0, 0, 1, false, true⟩
def Reg.LKG_CMD_VALUE : Fld := ⟨7, 0x50, 16, 16, .rw, 0, 0, 1, false, true⟩
def Reg.LKG_CMD_RES_RESULT : Fld := ⟨7, 0x54, 0, 4, .ro, 0, 0, 1, false, false⟩
def Reg.LKG_GRP_PART : Fld := ⟨7, 0x1000, 0, 5, .ro, 0, 4, 128, false, false⟩
def Reg.LKG_GRP_BASIN : Fld := ⟨7, 0x1000, 16, 12, .ro, 0, 4, 128, false, false⟩
def Reg.LKG_GRP_KIND : Fld := ⟨7, 0x1000, 30, 1, .ro, 0, 4, 128, false, false⟩
def Reg.LKG_GRP_EN : Fld := ⟨7, 0x1000, 31, 1, .ro, 0, 4, 128, false, false⟩

/-! Table 16.7. -/
def Reg.LKG_INT_STATUS_HOST_DONE : Fld := ⟨7, 0x200, 0, 1, .rw1c, 0, 0, 1, true, false⟩
def Reg.LKG_INT_EN_HOST_DONE : Fld := ⟨7, 0x204, 0, 1, .rw, 0, 0, 1, false, false⟩
def Reg.LKG_INT_STATUS_ABANDONED : Fld := ⟨7, 0x200, 1, 1, .rw1c, 0, 0, 1, false, false⟩
def Reg.LKG_INT_EN_ABANDONED : Fld := ⟨7, 0x204, 1, 1, .rw, 0, 0, 1, false, false⟩
def Reg.LKG_INT_STATUS_FORCED : Fld := ⟨7, 0x200, 2, 1, .rw1c, 0, 0, 1, false, false⟩
def Reg.LKG_INT_EN_FORCED : Fld := ⟨7, 0x204, 2, 1, .rw, 0, 0, 1, false, false⟩
def Reg.LKG_INT_STATUS_CYCLE : Fld := ⟨7, 0x200, 3, 1, .rw1c, 0, 0, 1, false, false⟩
def Reg.LKG_INT_EN_CYCLE : Fld := ⟨7, 0x204, 3, 1, .rw, 0, 0, 1, false, false⟩

/-! Table 17.12. -/
def Reg.HST_PART_PART : Fld := ⟨17, 0x0, 0, 3, .ro, 0, 0, 1, true, false⟩
def Reg.HST_PART_SUP : Fld := ⟨17, 0x0, 3, 1, .ro, 0, 0, 1, true, false⟩
def Reg.HST_PART_KIND : Fld := ⟨17, 0x0, 4, 2, .ro, 0, 0, 1, true, false⟩
def Reg.HST_PART_WIDTH : Fld := ⟨17, 0x0, 8, 4, .ro, 0, 0, 1, true, false⟩
def Reg.HST_PART_RATE : Fld := ⟨17, 0x0, 12, 4, .ro, 0, 0, 1, true, false⟩
def Reg.HST_STATUS_RESET_BUSY : Fld := ⟨17, 0x4, 0, 1, .ro, 0, 0, 1, true, false⟩
def Reg.HST_LAT_LAT : Fld := ⟨17, 0x8, 0, 20, .rw, 1048575, 0, 1, true, false⟩
def Reg.HST_PRST_PART : Fld := ⟨17, 0xC, 0, 3, .rw, 0, 0, 1, true, true⟩
def Reg.HST_PRST_GO : Fld := ⟨17, 0xC, 3, 1, .wo, 0, 0, 1, true, true⟩
def Reg.HST_PRST_RESULT : Fld := ⟨17, 0xC, 4, 4, .ro, 0, 0, 1, true, true⟩

/-! Table 17.13. -/
def Reg.HST_RXQ_BASE_LO : Fld := ⟨17, 0x100, 12, 20, .rw, 0, 32, 64, true, false⟩
def Reg.HST_TXQ_BASE_LO : Fld := ⟨17, 0x900, 12, 20, .rw, 0, 32, 64, true, false⟩
def Reg.HST_RXQ_BASE_HI : Fld := ⟨17, 0x104, 0, 32, .rw, 0, 32, 64, true, false⟩
def Reg.HST_TXQ_BASE_HI : Fld := ⟨17, 0x904, 0, 32, .rw, 0, 32, 64, true, false⟩
def Reg.HST_RXQ_EN : Fld := ⟨17, 0x108, 0, 1, .rw, 0, 32, 64, true, false⟩
def Reg.HST_TXQ_EN : Fld := ⟨17, 0x908, 0, 1, .rw, 0, 32, 64, true, false⟩
def Reg.HST_RXQ_STATE : Fld := ⟨17, 0x108, 1, 2, .ro, 0, 32, 64, true, false⟩
def Reg.HST_TXQ_STATE : Fld := ⟨17, 0x908, 1, 2, .ro, 0, 32, 64, true, false⟩
def Reg.HST_RXQ_ENABLE_PENDING : Fld := ⟨17, 0x108, 3, 1, .ro, 0, 32, 64, true, false⟩
def Reg.HST_TXQ_ENABLE_PENDING : Fld := ⟨17, 0x908, 3, 1, .ro, 0, 32, 64, true, false⟩
def Reg.HST_RXQ_LOG2 : Fld := ⟨17, 0x108, 4, 5, .rw, 4, 32, 64, true, false⟩
def Reg.HST_TXQ_LOG2 : Fld := ⟨17, 0x908, 4, 5, .rw, 4, 32, 64, true, false⟩
def Reg.HST_RXQ_SLOT : Fld := ⟨17, 0x108, 9, 4, .rw, 8, 32, 64, true, false⟩
def Reg.HST_TXQ_SLOT : Fld := ⟨17, 0x908, 9, 4, .rw, 8, 32, 64, true, false⟩
def Reg.HST_RXQ_ITR : Fld := ⟨17, 0x108, 16, 8, .rw, 0, 32, 64, true, false⟩
def Reg.HST_TXQ_ITR : Fld := ⟨17, 0x908, 16, 8, .rw, 0, 32, 64, true, false⟩
def Reg.HST_RXQ_ERR : Fld := ⟨17, 0x108, 24, 1, .ro, 0, 32, 64, true, false⟩
def Reg.HST_TXQ_ERR : Fld := ⟨17, 0x908, 24, 1, .ro, 0, 32, 64, true, false⟩
def Reg.HST_RXQ_WB_LO : Fld := ⟨17, 0x10C, 2, 30, .rw, 0, 32, 64, true, false⟩
def Reg.HST_TXQ_WB_LO : Fld := ⟨17, 0x90C, 2, 30, .rw, 0, 32, 64, true, false⟩
def Reg.HST_RXQ_WB_HI : Fld := ⟨17, 0x110, 0, 32, .rw, 0, 32, 64, true, false⟩
def Reg.HST_TXQ_WB_HI : Fld := ⟨17, 0x910, 0, 32, .rw, 0, 32, 64, true, false⟩
def Reg.HST_RXQ_PROD : Fld := ⟨17, 0x114, 0, 17, .ro, 0, 32, 64, true, false⟩
def Reg.HST_TXQ_PROD : Fld := ⟨17, 0x914, 0, 17, .ro, 0, 32, 64, true, false⟩
def Reg.HST_RXQ_CONS : Fld := ⟨17, 0x118, 0, 17, .ro, 0, 32, 64, true, false⟩
def Reg.HST_TXQ_CONS : Fld := ⟨17, 0x918, 0, 17, .ro, 0, 32, 64, true, false⟩

/-! Table 17.15. -/
def Reg.HST_INT_STATUS_QUEUE_ERR : Fld := ⟨17, 0x1200, 0, 1, .rw1c, 0, 0, 1, true, false⟩
def Reg.HST_INT_EN_QUEUE_ERR : Fld := ⟨17, 0x1204, 0, 1, .rw, 0, 0, 1, true, false⟩
def Reg.HST_INT_STATUS_OVERSIZE : Fld := ⟨17, 0x1200, 1, 1, .rw1c, 0, 0, 1, true, false⟩
def Reg.HST_INT_EN_OVERSIZE : Fld := ⟨17, 0x1204, 1, 1, .rw, 0, 0, 1, true, false⟩
def Reg.HST_INT_STATUS_TX_REFUSED : Fld := ⟨17, 0x1200, 2, 1, .rw1c, 0, 0, 1, true, false⟩
def Reg.HST_INT_EN_TX_REFUSED : Fld := ⟨17, 0x1204, 2, 1, .rw, 0, 0, 1, true, false⟩
def Reg.HST_INT_STATUS_PART_RESET : Fld := ⟨17, 0x1200, 4, 4, .rw1c, 0, 0, 1, true, false⟩
def Reg.HST_INT_EN_PART_RESET : Fld := ⟨17, 0x1204, 4, 4, .rw, 0, 0, 1, true, false⟩

/-! Table 18.11. -/
def Reg.EDG_STATUS_PORTS_UP : Fld := ⟨10, 0x0, 0, 6, .ro, 0, 0, 1, false, false⟩
def Reg.EDG_STATUS_SPARES : Fld := ⟨10, 0x0, 8, 4, .ro, 15, 0, 1, false, false⟩
def Reg.EDG_LANE_CMD_LANE : Fld := ⟨10, 0x10, 0, 5, .rw, 0, 0, 1, false, true⟩
def Reg.EDG_LANE_CMD_CMD : Fld := ⟨10, 0x10, 8, 2, .wo, 0, 0, 1, false, true⟩
def Reg.EDG_LANE_CMD_RESULT : Fld := ⟨10, 0x10, 12, 4, .ro, 0, 0, 1, false, true⟩
def Reg.EDG_LANE_CMD_PENDING : Fld := ⟨10, 0x10, 16, 1, .ro, 0, 0, 1, false, true⟩
def Reg.EDG_CNT_SEL_SOURCE : Fld := ⟨10, 0x20, 0, 8, .rw, 0, 0, 1, true, false⟩
def Reg.EDG_LANE_SLICE : Fld := ⟨10, 0x100, 0, 6, .ro, 0, 4, 32, false, false⟩
def Reg.EDG_LANE_USE : Fld := ⟨10, 0x100, 6, 2, .ro, 0, 4, 32, false, false⟩
def Reg.EDG_LANE_STATE : Fld := ⟨10, 0x100, 8, 3, .ro, 0, 4, 32, false, false⟩
def Reg.EDG_LANE_MARGIN : Fld := ⟨10, 0x100, 16, 8, .ro, 0, 4, 32, false, false⟩
def Reg.EDG_QUAD_LANE : Fld := ⟨10, 0x200, 0, 5, .ro, 0, 4, 4, false, false⟩
def Reg.EDG_QUAD_SPARE_USED : Fld := ⟨10, 0x200, 5, 1, .ro, 0, 4, 4, false, false⟩
def Reg.EDG_QUAD_SPARE_FAILED : Fld := ⟨10, 0x200, 6, 1, .ro, 0, 4, 4, false, false⟩

/-! Table 18.12. -/
def Reg.EDG_PORT_MODE : Fld := ⟨10, 0x300, 0, 4, .ro, 0, 4, 32, false, false⟩
def Reg.EDG_PORT_FEC : Fld := ⟨10, 0x300, 4, 2, .ro, 0, 4, 32, false, false⟩
def Reg.EDG_PORT_LINK : Fld := ⟨10, 0x300, 6, 1, .ro, 0, 4, 32, false, false⟩
def Reg.EDG_PORT_PLUG : Fld := ⟨10, 0x300, 7, 1, .ro, 0, 4, 32, false, false⟩
def Reg.EDG_PORT_MACSEC : Fld := ⟨10, 0x300, 8, 2, .ro, 0, 4, 32, false, false⟩
def Reg.EDG_PORT_VERIFY : Fld := ⟨10, 0x300, 10, 2, .ro, 0, 4, 32, false, false⟩
def Reg.EDG_PORT_CAUSE : Fld := ⟨10, 0x300, 12, 4, .ro, 0, 4, 32, false, false⟩
def Reg.EDG_PORT_UNPLUG_BUSY : Fld := ⟨10, 0x300, 16, 1, .ro, 0, 4, 32, false, false⟩
def Reg.EDG_PORT_LINK_HOLD : Fld := ⟨10, 0x300, 24, 8, .ro, 50, 4, 32, false, false⟩
def Reg.EDG_T1S_PLCA_EN : Fld := ⟨10, 0x400, 0, 1, .ro, 0, 8, 16, false, false⟩
def Reg.EDG_T1S_ROLE : Fld := ⟨10, 0x400, 1, 1, .ro, 0, 8, 16, false, false⟩
def Reg.EDG_T1S_LINK : Fld := ⟨10, 0x400, 2, 1, .ro, 0, 8, 16, false, false⟩
def Reg.EDG_T1S_PLUG : Fld := ⟨10, 0x400, 3, 1, .ro, 0, 8, 16, false, false⟩
def Reg.EDG_T1S_NODE_ID : Fld := ⟨10, 0x400, 8, 8, .ro, 0, 8, 16, false, false⟩
def Reg.EDG_T1S_NODE_COUNT : Fld := ⟨10, 0x400, 16, 8, .ro, 32, 8, 16, false, false⟩
def Reg.EDG_T1S_BURST_CNT : Fld := ⟨10, 0x400, 24, 8, .ro, 0, 8, 16, false, false⟩
def Reg.EDG_T1S_SEEN : Fld := ⟨10, 0x404, 0, 32, .ro, 0, 8, 16, false, false⟩
def Reg.EDG_CAN_STATE : Fld := ⟨10, 0x500, 0, 2, .ro, 3, 4, 16, false, false⟩
def Reg.EDG_CAN_FD_EN : Fld := ⟨10, 0x500, 2, 1, .ro, 0, 4, 16, false, false⟩
def Reg.EDG_CAN_XL_EN : Fld := ⟨10, 0x500, 3, 1, .ro, 0, 4, 16, false, false⟩
def Reg.EDG_CAN_AUTO_RECOVER : Fld := ⟨10, 0x500, 4, 1, .ro, 0, 4, 16, false, false⟩
def Reg.EDG_CAN_TEC : Fld := ⟨10, 0x500, 8, 8, .ro, 0, 4, 16, false, false⟩
def Reg.EDG_CAN_REC : Fld := ⟨10, 0x500, 16, 8, .ro, 0, 4, 16, false, false⟩
def Reg.EDG_CAN_TXQ : Fld := ⟨10, 0x500, 24, 5, .ro, 0, 4, 16, false, false⟩
def Reg.EDG_PRES_LEVEL : Fld := ⟨10, 0x600, 0, 9, .ro, 0, 0, 1, false, false⟩
def Reg.EDG_PRES_RAW : Fld := ⟨10, 0x600, 16, 9, .ro, 0, 0, 1, false, false⟩
def Reg.EDG_PRESCFG_POL : Fld := ⟨10, 0x610, 0, 1, .ro, 0, 4, 9, false, false⟩
def Reg.EDG_PRESCFG_MODE : Fld := ⟨10, 0x610, 1, 2, .ro, 0, 4, 9, false, false⟩
def Reg.EDG_PRESCFG_EDGES : Fld := ⟨10, 0x610, 3, 2, .ro, 3, 4, 9, false, false⟩
def Reg.EDG_PRESCFG_WAKE : Fld := ⟨10, 0x610, 5, 1, .ro, 1, 4, 9, false, false⟩
def Reg.EDG_PRESCFG_TOUCH : Fld := ⟨10, 0x610, 6, 1, .ro, 0, 4, 9, false, false⟩
def Reg.EDG_PRESCFG_LATCHED : Fld := ⟨10, 0x610, 8, 3, .ro, 0, 4, 9, false, false⟩
def Reg.EDG_PRESCFG_LOST : Fld := ⟨10, 0x610, 16, 8, .ro, 0, 4, 9, false, false⟩

/-! Table 18.14. -/
def Reg.EDG_INT_STATUS_LINK_CHANGE : Fld := ⟨10, 0x80, 0, 1, .rw1c, 0, 0, 1, false, false⟩
def Reg.EDG_INT_EN_LINK_CHANGE : Fld := ⟨10, 0x84, 0, 1, .rw, 0, 0, 1, false, false⟩
def Reg.EDG_INT_STATUS_SPARE_USED : Fld := ⟨10, 0x80, 1, 1, .rw1c, 0, 0, 1, false, false⟩
def Reg.EDG_INT_EN_SPARE_USED : Fld := ⟨10, 0x84, 1, 1, .rw, 0, 0, 1, false, false⟩
def Reg.EDG_INT_STATUS_LANE_FAILED : Fld := ⟨10, 0x80, 2, 1, .rw1c, 0, 0, 1, false, false⟩
def Reg.EDG_INT_EN_LANE_FAILED : Fld := ⟨10, 0x84, 2, 1, .rw, 0, 0, 1, false, false⟩
def Reg.EDG_INT_STATUS_MACSEC_PN : Fld := ⟨10, 0x80, 3, 1, .rw1c, 0, 0, 1, false, false⟩
def Reg.EDG_INT_EN_MACSEC_PN : Fld := ⟨10, 0x84, 3, 1, .rw, 0, 0, 1, false, false⟩
def Reg.EDG_INT_STATUS_CAN_BUSOFF : Fld := ⟨10, 0x80, 4, 1, .rw1c, 0, 0, 1, false, false⟩
def Reg.EDG_INT_EN_CAN_BUSOFF : Fld := ⟨10, 0x84, 4, 1, .rw, 0, 0, 1, false, false⟩
def Reg.EDG_INT_STATUS_PRES_LOST : Fld := ⟨10, 0x80, 5, 1, .rw1c, 0, 0, 1, false, false⟩
def Reg.EDG_INT_EN_PRES_LOST : Fld := ⟨10, 0x84, 5, 1, .rw, 0, 0, 1, false, false⟩
def Reg.EDG_INT_STATUS_VERIFY_FAIL : Fld := ⟨10, 0x80, 6, 1, .rw1c, 0, 0, 1, false, false⟩
def Reg.EDG_INT_EN_VERIFY_FAIL : Fld := ⟨10, 0x84, 6, 1, .rw, 0, 0, 1, false, false⟩

/-! Table 19.11. -/
def Reg.XNG_STATUS_CLK_OK : Fld := ⟨16, 0x0, 0, 13, .ro, 6144, 0, 1, false, false⟩
def Reg.XNG_STATUS_IN_RESET : Fld := ⟨16, 0x0, 16, 13, .ro, 1023, 0, 1, false, false⟩
def Reg.XNG_RESET_CAUSE_CAUSE : Fld := ⟨16, 0x4, 0, 4, .ro, 0, 0, 1, false, false⟩
def Reg.XNG_RESET_CAUSE_HUNG : Fld := ⟨16, 0x4, 4, 1, .ro, 0, 0, 1, false, false⟩
def Reg.XNG_ISL_CMD_ISLAND : Fld := ⟨16, 0x8, 0, 4, .rw, 0, 0, 1, false, true⟩
def Reg.XNG_ISL_CMD_GO : Fld := ⟨16, 0x8, 4, 1, .wo, 0, 0, 1, false, true⟩
def Reg.XNG_ISL_CMD_RESULT : Fld := ⟨16, 0x8, 8, 4, .ro, 0, 0, 1, false, true⟩
def Reg.XNG_XSEL_ISLAND : Fld := ⟨16, 0x10, 0, 4, .rw, 0, 0, 1, true, false⟩
def Reg.XNG_XSEL_CHAN : Fld := ⟨16, 0x10, 8, 6, .rw, 0, 0, 1, true, false⟩
def Reg.XNG_XSTAT_PENDING : Fld := ⟨16, 0x14, 0, 16, .ro, 0, 0, 1, false, true⟩
def Reg.XNG_XSTAT_KIND : Fld := ⟨16, 0x14, 16, 1, .ro, 0, 0, 1, false, true⟩
def Reg.XNG_XSTAT_XING_SAT : Fld := ⟨16, 0x14, 17, 1, .rw1c, 0, 0, 1, false, true⟩
def Reg.XNG_XSTAT_FLUSHED : Fld := ⟨16, 0x14, 18, 1, .rw1c, 0, 0, 1, false, true⟩
def Reg.XNG_XSTAT_HUNG : Fld := ⟨16, 0x14, 19, 1, .ro, 0, 0, 1, false, true⟩

/-! Table 19.12. -/
def Reg.XNG_INT_STATUS_CLK_STOP : Fld := ⟨16, 0x200, 0, 1, .rw1c, 0, 0, 1, false, true⟩
def Reg.XNG_INT_EN_CLK_STOP : Fld := ⟨16, 0x204, 0, 1, .rw, 0, 0, 1, false, false⟩
def Reg.XNG_INT_STATUS_CLK_BACK : Fld := ⟨16, 0x200, 1, 1, .rw1c, 0, 0, 1, false, true⟩
def Reg.XNG_INT_EN_CLK_BACK : Fld := ⟨16, 0x204, 1, 1, .rw, 0, 0, 1, false, false⟩
def Reg.XNG_INT_STATUS_SAT : Fld := ⟨16, 0x200, 2, 1, .rw1c, 0, 0, 1, false, true⟩
def Reg.XNG_INT_EN_SAT : Fld := ⟨16, 0x204, 2, 1, .rw, 0, 0, 1, false, false⟩
def Reg.XNG_INT_STATUS_ISL_RESET_DONE : Fld := ⟨16, 0x200, 3, 1, .rw1c, 0, 0, 1, false, true⟩
def Reg.XNG_INT_EN_ISL_RESET_DONE : Fld := ⟨16, 0x204, 3, 1, .rw, 0, 0, 1, false, false⟩

/-! Table 20.5. -/
def Reg.PWR_STATUS_STATE : Fld := ⟨12, 0x0, 0, 3, .ro, 0, 0, 1, false, false⟩
def Reg.PWR_STATUS_BUSY : Fld := ⟨12, 0x0, 3, 1, .ro, 0, 0, 1, false, false⟩
def Reg.PWR_STATUS_TARGET : Fld := ⟨12, 0x0, 4, 3, .ro, 0, 0, 1, false, false⟩
def Reg.PWR_STATUS_FLOOR_BREACH : Fld := ⟨12, 0x0, 7, 1, .ro, 0, 0, 1, false, false⟩
def Reg.PWR_STATUS_SHED_STEP : Fld := ⟨12, 0x0, 8, 4, .ro, 0, 0, 1, false, false⟩
def Reg.PWR_STATUS_WAKE_CAUSE : Fld := ⟨12, 0x0, 12, 3, .ro, 0, 0, 1, false, false⟩
def Reg.PWR_CFG_EN : Fld := ⟨12, 0x4, 0, 4, .ro, 0, 0, 1, false, false⟩
def Reg.PWR_CFG_DWELL : Fld := ⟨12, 0x4, 8, 8, .ro, 10, 0, 1, false, false⟩
def Reg.PWR_CFG_IDLE : Fld := ⟨12, 0x4, 16, 16, .ro, 100, 0, 1, false, false⟩
def Reg.PWR_IMG_LAT_LAT : Fld := ⟨12, 0x8, 0, 20, .ro, 1048575, 0, 1, false, false⟩
def Reg.PWR_FLOOR_FLOOR : Fld := ⟨12, 0xC, 0, 16, .ro, 0, 0, 1, false, false⟩
def Reg.PWR_FLOOR_MARGIN : Fld := ⟨12, 0xC, 16, 16, .ro, 50, 0, 1, false, false⟩
def Reg.PWR_FLOOR_R_FLOOR_RIPPLE : Fld := ⟨12, 0x10, 0, 16, .ro, 0, 0, 1, false, false⟩
def Reg.PWR_VCORE_V : Fld := ⟨12, 0x14, 0, 12, .ro, 850, 0, 1, false, false⟩
def Reg.PWR_VCORE_VMAX : Fld := ⟨12, 0x14, 16, 12, .ro, 950, 0, 1, false, false⟩
def Reg.PWR_LOAD_LOAD : Fld := ⟨12, 0x20, 0, 17, .ro, 0, 4, 2, false, false⟩
def Reg.PWR_SHED_CLASS : Fld := ⟨12, 0x40, 0, 2, .ro, 0, 4, 8, false, false⟩
def Reg.PWR_SHED_VALID : Fld := ⟨12, 0x40, 7, 1, .ro, 0, 4, 8, false, false⟩
def Reg.PWR_WAKE_TIMER_MS : Fld := ⟨12, 0x60, 0, 32, .rw, 0, 0, 1, false, true⟩
def Reg.PWR_CMD_CMD : Fld := ⟨12, 0x64, 0, 2, .wo, 0, 0, 1, false, true⟩
def Reg.PWR_CMD_RESULT : Fld := ⟨12, 0x64, 4, 4, .ro, 0, 0, 1, false, true⟩

/-! Table 20.7. -/
def Reg.GAU_TEMP_TEMP : Fld := ⟨13, 0x0, 0, 16, .ro, 0, 4, 24, false, false⟩
def Reg.GAU_TEMP_VALID : Fld := ⟨13, 0x0, 31, 1, .ro, 0, 4, 24, false, false⟩
def Reg.GAU_VOLT_MV : Fld := ⟨13, 0x80, 0, 12, .ro, 0, 4, 16, false, false⟩
def Reg.GAU_VOLT_VALID : Fld := ⟨13, 0x80, 31, 1, .ro, 0, 4, 16, false, false⟩
def Reg.GAU_SPEED_SPEED : Fld := ⟨13, 0xC0, 0, 16, .ro, 0, 4, 12, false, false⟩
def Reg.GAU_SPEED_VALID : Fld := ⟨13, 0xC0, 31, 1, .ro, 0, 4, 12, false, false⟩
def Reg.GAU_SUMMARY_TMAX : Fld := ⟨13, 0x100, 0, 16, .ro, 0, 0, 1, false, false⟩
def Reg.GAU_SUMMARY_SMIN : Fld := ⟨13, 0x100, 16, 16, .ro, 0, 0, 1, false, false⟩
def Reg.GAU_THRESH_WARN : Fld := ⟨13, 0x104, 0, 8, .ro, 115, 0, 1, false, false⟩
def Reg.GAU_THRESH_TRIP : Fld := ⟨13, 0x104, 8, 8, .ro, 0, 0, 1, false, false⟩
def Reg.GAU_INT_STATUS_TEMP_WARN : Fld := ⟨13, 0x200, 0, 1, .rw1c, 0, 0, 1, false, false⟩
def Reg.GAU_INT_STATUS_SPEED_LOW : Fld := ⟨13, 0x200, 1, 1, .rw1c, 0, 0, 1, false, false⟩
def Reg.GAU_INT_EN_EN : Fld := ⟨13, 0x204, 0, 2, .rw, 0, 0, 1, false, false⟩

/-! Table 21.13. -/
def Reg.FTH_STATUS_LC : Fld := ⟨14, 0x0, 0, 3, .ro, 0, 0, 1, false, false⟩
def Reg.FTH_STATUS_LC_PENDING : Fld := ⟨14, 0x0, 4, 3, .ro, 7, 0, 1, false, false⟩
def Reg.FTH_STATUS_PRESS_WAIT : Fld := ⟨14, 0x0, 7, 1, .ro, 0, 0, 1, false, false⟩
def Reg.FTH_STATUS_RIGHTS : Fld := ⟨14, 0x0, 8, 4, .ro, 0, 0, 1, false, false⟩
def Reg.FTH_STATUS_LOCKDOWN : Fld := ⟨14, 0x0, 12, 1, .ro, 0, 0, 1, false, false⟩
def Reg.FTH_STATUS_SLOT_RUN : Fld := ⟨14, 0x0, 13, 2, .ro, 3, 0, 1, false, false⟩
def Reg.FTH_STATUS_DEGRADED : Fld := ⟨14, 0x0, 15, 1, .ro, 0, 0, 1, false, false⟩
def Reg.FTH_STATUS_SLOT0_CAUSE : Fld := ⟨14, 0x0, 16, 4, .ro, 15, 0, 1, false, false⟩
def Reg.FTH_STATUS_SLOT1_CAUSE : Fld := ⟨14, 0x0, 20, 4, .ro, 15, 0, 1, false, false⟩
def Reg.FTH_CMD_CMD : Fld := ⟨14, 0x4, 0, 4, .wo, 0, 0, 1, true, false⟩
def Reg.FTH_CMD_ARG : Fld := ⟨14, 0x4, 8, 3, .rw, 0, 0, 1, true, false⟩
def Reg.FTH_CMD_RESULT : Fld := ⟨14, 0x4, 12, 4, .ro, 0, 0, 1, true, false⟩
def Reg.FTH_CMD_PENDING : Fld := ⟨14, 0x4, 16, 1, .ro, 0, 0, 1, true, false⟩
def Reg.FTH_WIN_CMD_TARGET : Fld := ⟨14, 0x8, 0, 4, .rw, 0, 0, 1, true, false⟩
def Reg.FTH_WIN_CMD_WRITE : Fld := ⟨14, 0x8, 4, 1, .rw, 0, 0, 1, true, false⟩
def Reg.FTH_WIN_CMD_GO : Fld := ⟨14, 0x8, 5, 1, .wo, 0, 0, 1, true, false⟩
def Reg.FTH_WIN_CMD_RESULT : Fld := ⟨14, 0x8, 8, 4, .ro, 0, 0, 1, true, false⟩
def Reg.FTH_WIN_CMD_OFFSET : Fld := ⟨14, 0x8, 16, 11, .rw, 0, 0, 1, true, false⟩

/-! Table 21.14. -/
def Reg.FTH_COUNTER0_VALUE : Fld := ⟨14, 0x10, 0, 32, .ro, 0, 0, 1, false, false⟩
def Reg.FTH_COUNTER1_VALUE : Fld := ⟨14, 0x14, 0, 32, .ro, 0, 0, 1, false, false⟩
def Reg.FTH_BOOT_COUNT_VALUE : Fld := ⟨14, 0x18, 0, 32, .ro, 0, 0, 1, false, false⟩
def Reg.FTH_KEYS_PRESENT : Fld := ⟨14, 0x1C, 0, 4, .ro, 0, 0, 1, false, false⟩
def Reg.FTH_KEYS_REVOKED : Fld := ⟨14, 0x1C, 4, 4, .ro, 0, 0, 1, false, false⟩
def Reg.FTH_NONCE_BYTES : Fld := ⟨14, 0x20, 0, 32, .ro, 0, 4, 8, false, false⟩
def Reg.FTH_FLOG_COUNT_COUNT : Fld := ⟨14, 0x40, 0, 13, .ro, 0, 0, 1, true, false⟩
def Reg.FTH_FLOG_DATA_WORD : Fld := ⟨14, 0x44, 0, 32, .ro, 0, 0, 1, true, false⟩
def Reg.FTH_DEVICE_ID_BYTES : Fld := ⟨14, 0x80, 0, 32, .ro, 0, 4, 4, false, false⟩

/-! Table 21.15. -/
def Reg.FTH_INT_STATUS_CMD_DONE : Fld := ⟨14, 0x200, 0, 1, .rw1c, 0, 0, 1, true, false⟩
def Reg.FTH_INT_EN_CMD_DONE : Fld := ⟨14, 0x204, 0, 1, .rw, 0, 0, 1, false, false⟩
def Reg.FTH_INT_STATUS_LC_ACCEPTED : Fld := ⟨14, 0x200, 1, 1, .rw1c, 0, 0, 1, false, false⟩
def Reg.FTH_INT_EN_LC_ACCEPTED : Fld := ⟨14, 0x204, 1, 1, .rw, 0, 0, 1, false, false⟩
def Reg.FTH_INT_STATUS_UNLOCKED : Fld := ⟨14, 0x200, 2, 1, .rw1c, 0, 0, 1, false, false⟩
def Reg.FTH_INT_EN_UNLOCKED : Fld := ⟨14, 0x204, 2, 1, .rw, 0, 0, 1, false, false⟩
def Reg.FTH_INT_STATUS_LOCKDOWN : Fld := ⟨14, 0x200, 3, 1, .rw1c, 0, 0, 1, false, false⟩
def Reg.FTH_INT_EN_LOCKDOWN : Fld := ⟨14, 0x204, 3, 1, .rw, 0, 0, 1, false, false⟩
def Reg.FTH_INT_STATUS_IMAGE_REFUSED : Fld := ⟨14, 0x200, 4, 1, .rw1c, 0, 0, 1, false, false⟩
def Reg.FTH_INT_EN_IMAGE_REFUSED : Fld := ⟨14, 0x204, 4, 1, .rw, 0, 0, 1, false, false⟩

/-! Table 22.12. -/
def Reg.FTH_ST_STATUS_RUNNING : Fld := ⟨14, 0x300, 0, 1, .ro, 0, 0, 1, false, false⟩
def Reg.FTH_ST_STATUS_REGION : Fld := ⟨14, 0x300, 1, 4, .ro, 0, 0, 1, false, false⟩
def Reg.FTH_ST_STATUS_STEP : Fld := ⟨14, 0x300, 5, 3, .ro, 0, 0, 1, false, false⟩
def Reg.FTH_ST_STATUS_NEXT : Fld := ⟨14, 0x300, 8, 4, .ro, 0, 0, 1, false, false⟩
def Reg.FTH_ST_STATUS_DEFERRED : Fld := ⟨14, 0x300, 12, 1, .ro, 0, 0, 1, false, false⟩
def Reg.FTH_ST_STATUS_WHY : Fld := ⟨14, 0x300, 16, 4, .ro, 0, 0, 1, false, false⟩
def Reg.FTH_ST_CMD_CMD : Fld := ⟨14, 0x304, 0, 2, .wo, 0, 0, 1, false, false⟩
def Reg.FTH_ST_CMD_REGION : Fld := ⟨14, 0x304, 4, 4, .rw, 0, 0, 1, false, false⟩
def Reg.FTH_ST_CMD_RESULT : Fld := ⟨14, 0x304, 8, 4, .ro, 0, 0, 1, false, false⟩
def Reg.FTH_ST_RESULT_OUTCOME : Fld := ⟨14, 0x310, 0, 3, .ro, 0, 4, 15, false, false⟩
def Reg.FTH_ST_RESULT_HELPER : Fld := ⟨14, 0x310, 3, 1, .ro, 0, 4, 15, false, false⟩
def Reg.FTH_ST_RESULT_FAIL : Fld := ⟨14, 0x310, 4, 17, .ro, 0, 4, 15, false, false⟩
def Reg.FTH_ST_RESULT_MEM : Fld := ⟨14, 0x310, 21, 1, .ro, 0, 4, 15, false, false⟩
def Reg.FTH_RSV_COUNT_COUNT : Fld := ⟨14, 0x360, 0, 12, .ro, 0, 0, 1, true, false⟩
def Reg.FTH_RSV_DATA_WORD : Fld := ⟨14, 0x364, 0, 32, .ro, 0, 0, 1, true, false⟩
def Reg.FTH_ST_INT_STATUS_TEST_DONE : Fld := ⟨14, 0x380, 0, 1, .rw1c, 0, 0, 1, false, false⟩
def Reg.FTH_ST_INT_STATUS_TEST_FAIL : Fld := ⟨14, 0x380, 1, 1, .rw1c, 0, 0, 1, false, false⟩
def Reg.FTH_ST_INT_STATUS_SPARE_IN : Fld := ⟨14, 0x380, 2, 1, .rw1c, 0, 0, 1, false, false⟩
def Reg.FTH_ST_INT_STATUS_DEGRADED : Fld := ⟨14, 0x380, 3, 1, .rw1c, 0, 0, 1, false, false⟩
def Reg.FTH_ST_INT_STATUS_AGEING : Fld := ⟨14, 0x380, 4, 1, .rw1c, 0, 0, 1, false, false⟩
def Reg.FTH_ST_INT_EN_EN : Fld := ⟨14, 0x384, 0, 5, .rw, 0, 0, 1, false, false⟩

/-! Table 23.7. -/
def Reg.RPL_STATUS_RECORDING : Fld := ⟨15, 0x0, 0, 1, .ro, 0, 0, 1, false, true⟩
def Reg.RPL_STATUS_TRIGGERED : Fld := ⟨15, 0x0, 1, 1, .ro, 0, 0, 1, false, true⟩
def Reg.RPL_STATUS_FROZEN : Fld := ⟨15, 0x0, 2, 1, .ro, 0, 0, 1, false, true⟩
def Reg.RPL_STATUS_REPLAY : Fld := ⟨15, 0x0, 3, 1, .ro, 0, 0, 1, false, true⟩
def Reg.RPL_STATUS_DIVERGED : Fld := ⟨15, 0x0, 4, 1, .ro, 0, 0, 1, false, true⟩
def Reg.RPL_STATUS_FREEZE_CAUSE : Fld := ⟨15, 0x0, 8, 4, .ro, 0, 0, 1, false, true⟩
def Reg.RPL_CFG_RING_MIB : Fld := ⟨15, 0x4, 0, 11, .ro, 0, 0, 1, false, true⟩
def Reg.RPL_CFG_EXP_MIB : Fld := ⟨15, 0x4, 16, 8, .ro, 0, 0, 1, false, true⟩
def Reg.RPL_BASES_RING : Fld := ⟨15, 0x8, 0, 13, .ro, 0, 0, 1, false, true⟩
def Reg.RPL_BASES_EXP : Fld := ⟨15, 0x8, 16, 13, .ro, 0, 0, 1, false, true⟩
def Reg.RPL_RING_FIRST_INDEX : Fld := ⟨15, 0xC, 0, 32, .ro, 0, 0, 1, false, true⟩
def Reg.RPL_RING_NEXT_INDEX : Fld := ⟨15, 0x10, 0, 32, .ro, 0, 0, 1, false, true⟩
def Reg.RPL_FILT_PORT0_NP : Fld := ⟨15, 0x20, 0, 32, .rw, 0, 0, 1, false, true⟩
def Reg.RPL_FILT_PORT1_EDGE : Fld := ⟨15, 0x24, 0, 32, .rw, 0, 0, 1, false, true⟩
def Reg.RPL_FILT_PORT2_PRES : Fld := ⟨15, 0x28, 0, 9, .rw, 0, 0, 1, false, true⟩
def Reg.RPL_FILT_PORT2_HOST : Fld := ⟨15, 0x28, 9, 4, .rw, 0, 0, 1, false, true⟩
def Reg.RPL_FILT_PORT2_CP : Fld := ⟨15, 0x28, 13, 1, .rw, 0, 0, 1, false, true⟩
def Reg.RPL_DOM_FIRST : Fld := ⟨15, 0x30, 0, 16, .rw, 1, 4, 8, false, true⟩
def Reg.RPL_DOM_LAST : Fld := ⟨15, 0x30, 16, 16, .rw, 0, 4, 8, false, true⟩
def Reg.RPL_RATE_RATE : Fld := ⟨15, 0x50, 0, 9, .rw, 256, 0, 1, false, true⟩
def Reg.RPL_TRIG_DRY_MASK : Fld := ⟨15, 0x54, 1, 13, .rw, 0, 0, 1, false, true⟩
def Reg.RPL_TRIG_MARK_EN : Fld := ⟨15, 0x54, 14, 1, .rw, 0, 0, 1, false, true⟩
def Reg.RPL_TRIG_POST_MIB : Fld := ⟨15, 0x54, 16, 11, .rw, 0, 0, 1, false, true⟩
def Reg.RPL_CMD_CMD : Fld := ⟨15, 0x60, 0, 3, .wo, 0, 0, 1, false, true⟩
def Reg.RPL_CMD_RESULT : Fld := ⟨15, 0x60, 4, 4, .ro, 0, 0, 1, false, true⟩
def Reg.RPL_CMD_PENDING : Fld := ⟨15, 0x60, 8, 1, .ro, 0, 0, 1, false, true⟩
def Reg.RPL_EXP_FIRST_INDEX : Fld := ⟨15, 0x64, 0, 32, .rw, 0, 0, 1, false, true⟩
def Reg.RPL_EXP_COUNT_COUNT : Fld := ⟨15, 0x68, 0, 24, .rw, 0, 0, 1, false, true⟩
def Reg.RPL_RPY_CFG_BASIN : Fld := ⟨15, 0x70, 0, 4, .rw, 0, 0, 1, false, true⟩
def Reg.RPL_RPY_CFG_SRC : Fld := ⟨15, 0x70, 4, 4, .rw, 0, 0, 1, false, true⟩
def Reg.RPL_RPY_STAT_DONE : Fld := ⟨15, 0x74, 0, 24, .ro, 0, 0, 1, false, true⟩
def Reg.RPL_RPY_STAT_INEXACT : Fld := ⟨15, 0x74, 24, 1, .ro, 0, 0, 1, false, true⟩
def Reg.RPL_RPY_DIV_INDEX : Fld := ⟨15, 0x78, 0, 32, .ro, 0, 0, 1, false, true⟩
def Reg.RPL_DBG_SEL_TARGET : Fld := ⟨15, 0x80, 0, 12, .rw, 0, 0, 1, false, true⟩
def Reg.RPL_DBG_SEL_KIND : Fld := ⟨15, 0x80, 12, 1, .rw, 0, 0, 1, false, true⟩
def Reg.RPL_DBG_CMD_CMD : Fld := ⟨15, 0x84, 0, 4, .wo, 0, 0, 1, false, true⟩
def Reg.RPL_DBG_CMD_RESULT : Fld := ⟨15, 0x84, 4, 4, .ro, 0, 0, 1, false, true⟩
def Reg.RPL_DBG_CMD_REG : Fld := ⟨15, 0x84, 8, 11, .rw, 0, 0, 1, false, true⟩
def Reg.RPL_DBG_CMD_BRK : Fld := ⟨15, 0x84, 19, 2, .rw, 0, 0, 1, false, true⟩
def Reg.RPL_DBG_DATA_DATA : Fld := ⟨15, 0x88, 0, 32, .rw, 0, 0, 1, false, true⟩
def Reg.RPL_DBG_BRK_ADDR : Fld := ⟨15, 0x90, 0, 15, .rw, 0, 4, 4, false, true⟩
def Reg.RPL_DBG_BRK_THREADS : Fld := ⟨15, 0x90, 16, 8, .rw, 0, 4, 4, false, true⟩
def Reg.RPL_DBG_BRK_EN : Fld := ⟨15, 0x90, 31, 1, .ro, 0, 4, 4, false, true⟩
def Reg.RPL_INT_STATUS_EVENTS : Fld := ⟨15, 0x200, 0, 6, .rw1c, 0, 0, 1, false, true⟩
def Reg.RPL_INT_EN_EN : Fld := ⟨15, 0x204, 0, 6, .rw, 0, 0, 1, false, true⟩

/-! Table 24.5. -/
def Reg.GEN_ID_VENDOR : Fld := ⟨0, 0x0, 0, 16, .ro, 8103, 0, 1, false, false⟩
def Reg.GEN_ID_DEVICE : Fld := ⟨0, 0x0, 16, 16, .ro, 49554, 0, 1, false, false⟩
def Reg.GEN_REV_REV : Fld := ⟨0, 0x4, 0, 8, .ro, 176, 0, 1, false, false⟩
def Reg.GEN_REV_GRADE : Fld := ⟨0, 0x4, 8, 2, .ro, 0, 0, 1, false, false⟩
def Reg.GEN_STATUS_MODE : Fld := ⟨0, 0x8, 0, 2, .ro, 0, 0, 1, false, false⟩
def Reg.GEN_STATUS_FALLBACK_CAUSE : Fld := ⟨0, 0x8, 4, 4, .ro, 0, 0, 1, false, false⟩
def Reg.GEN_STATUS_STRAP_ERR : Fld := ⟨0, 0x8, 8, 2, .ro, 0, 0, 1, false, false⟩
def Reg.GEN_STATUS_DEGRADED : Fld := ⟨0, 0x8, 10, 1, .ro, 0, 0, 1, false, false⟩
def Reg.GEN_STATUS_PRES : Fld := ⟨0, 0x8, 16, 9, .ro, 0, 0, 1, false, false⟩
def Reg.GEN_STRAP_QMODE2 : Fld := ⟨0, 0xC, 0, 2, .ro, 0, 0, 1, false, false⟩
def Reg.GEN_STRAP_QMODE3 : Fld := ⟨0, 0xC, 2, 2, .ro, 0, 0, 1, false, false⟩
def Reg.GEN_BASE_MAC_LO_MAC : Fld := ⟨0, 0x10, 0, 32, .ro, 0, 0, 1, false, false⟩
def Reg.GEN_BASE_MAC_HI_MAC : Fld := ⟨0, 0x14, 0, 16, .ro, 0, 0, 1, false, false⟩
def Reg.GEN_SCRATCH_DATA : Fld := ⟨0, 0x20, 0, 32, .rw, 0, 0, 1, true, false⟩
def Reg.GEN_INT_STATUS_ACCESS_ERR : Fld := ⟨0, 0x200, 0, 1, .rw1c, 0, 0, 1, true, false⟩
def Reg.GEN_INT_STATUS_STRAP_ERR : Fld := ⟨0, 0x200, 1, 1, .rw1c, 0, 0, 1, true, false⟩
def Reg.GEN_INT_EN_EN : Fld := ⟨0, 0x204, 0, 2, .rw, 0, 0, 1, true, false⟩

/-! Table 11.9. -/
def Reg.BSN_CH_INT_EN_ABORT : Fld := ⟨9, 0x224, 0, 1, .rw, 0, 0, 1, false, true⟩
def Reg.BSN_CH_INT_EN_DISCARD : Fld := ⟨9, 0x224, 1, 1, .rw, 0, 0, 1, false, true⟩
def Reg.BSN_CH_INT_EN_LOST : Fld := ⟨9, 0x224, 2, 1, .rw, 0, 0, 1, false, true⟩
def Reg.BSN_CH_INT_EN_FCO : Fld := ⟨9, 0x224, 3, 1, .rw, 0, 0, 1, false, true⟩

/-! Table 20.6. -/
def Reg.PWR_INT_STATUS_STATE_CHANGE : Fld := ⟨12, 0x200, 0, 1, .rw1c, 0, 0, 1, false, false⟩
def Reg.PWR_INT_EN_STATE_CHANGE : Fld := ⟨12, 0x204, 0, 1, .rw, 0, 0, 1, false, false⟩
def Reg.PWR_INT_STATUS_FLOOR_BREACH : Fld := ⟨12, 0x200, 1, 1, .rw1c, 0, 0, 1, false, false⟩
def Reg.PWR_INT_EN_FLOOR_BREACH : Fld := ⟨12, 0x204, 1, 1, .rw, 0, 0, 1, false, false⟩
def Reg.PWR_INT_STATUS_BREACH_CLEAR : Fld := ⟨12, 0x200, 2, 1, .rw1c, 0, 0, 1, false, false⟩
def Reg.PWR_INT_EN_BREACH_CLEAR : Fld := ⟨12, 0x204, 2, 1, .rw, 0, 0, 1, false, false⟩
def Reg.PWR_INT_STATUS_PMBUS_ERR : Fld := ⟨12, 0x200, 3, 1, .rw1c, 0, 0, 1, false, false⟩
def Reg.PWR_INT_EN_PMBUS_ERR : Fld := ⟨12, 0x204, 3, 1, .rw, 0, 0, 1, false, false⟩

/-! Table 5.9. -/
def Reg.RUL_STG_DATA : Fld := ⟨3, 0x100, 0, 32, .rw, 0, 4, 36, true, false⟩

/-! Table 6.17. -/
def Reg.TBL_DATA : Fld := ⟨4, 0x100, 0, 32, .rw, 0, 4, 32, true, false⟩

/-! Table 14.7. -/
def Reg.SLU_DATA : Fld := ⟨6, 0x40, 0, 32, .rw, 0, 4, 16, true, false⟩

/-! Table 15.10. -/
def Reg.PMP_DESC_W : Fld := ⟨8, 0x84, 0, 32, .ro, 0, 4, 4, true, false⟩

/-! Table 6.17. -/
def Reg.TBL_PORT_USED : Fld := ⟨4, 0xA00, 0, 18, .ro, 0, 4, 85, false, false⟩

/-! Table 3.12. -/
def Reg.WEIR_ADMIT_CNT : Fld := ⟨1, 0x100, 0, 64, .rc, 0, 0, 1, false, true⟩
def Reg.WEIR_ADMIT_CNT_HI : Fld := ⟨1, 0x104, 0, 32, .ro, 0, 0, 1, false, true⟩
def Reg.WEIR_SEND_CNT : Fld := ⟨1, 0x108, 0, 64, .rc, 0, 0, 1, false, true⟩
def Reg.WEIR_SEND_CNT_HI : Fld := ⟨1, 0x10C, 0, 32, .ro, 0, 0, 1, false, true⟩
def Reg.WEIR_REFUSE_DEV : Fld := ⟨1, 0x110, 0, 64, .rc, 0, 0, 1, false, true⟩
def Reg.WEIR_REFUSE_DEV_HI : Fld := ⟨1, 0x114, 0, 32, .ro, 0, 0, 1, false, true⟩
def Reg.WEIR_REFUSE_DOM : Fld := ⟨1, 0x118, 0, 64, .rc, 0, 0, 1, false, true⟩
def Reg.WEIR_REFUSE_DOM_HI : Fld := ⟨1, 0x11C, 0, 32, .ro, 0, 0, 1, false, true⟩
def Reg.WEIR_LATE_CNT : Fld := ⟨1, 0x120, 0, 64, .rc, 0, 0, 1, false, true⟩
def Reg.WEIR_LATE_CNT_HI : Fld := ⟨1, 0x124, 0, 32, .ro, 0, 0, 1, false, true⟩
def Reg.WEIR_DOUBLE_CNT : Fld := ⟨1, 0x128, 0, 64, .rc, 0, 0, 1, false, true⟩
def Reg.WEIR_DOUBLE_CNT_HI : Fld := ⟨1, 0x12C, 0, 32, .ro, 0, 0, 1, false, true⟩
def Reg.WEIR_INFLIGHT_HWM : Fld := ⟨1, 0x130, 0, 64, .rc, 0, 0, 1, false, true⟩
def Reg.WEIR_INFLIGHT_HWM_HI : Fld := ⟨1, 0x134, 0, 32, .ro, 0, 0, 1, false, true⟩

/-! Table 4.12. -/
def Reg.RUN_REJECT_CNT : Fld := ⟨2, 0x138, 0, 64, .rc, 0, 0, 1, false, false⟩
def Reg.RUN_REJECT_CNT_HI : Fld := ⟨2, 0x13C, 0, 32, .ro, 0, 0, 1, false, false⟩
def Reg.RUN_OK_CNT : Fld := ⟨2, 0x140, 0, 64, .rc, 0, 0, 1, false, false⟩
def Reg.RUN_OK_CNT_HI : Fld := ⟨2, 0x144, 0, 32, .ro, 0, 0, 1, false, false⟩

/-! Table 5.9. -/
def Reg.RUL_COMMIT_CNT : Fld := ⟨3, 0x300, 0, 64, .rc, 0, 0, 1, false, false⟩
def Reg.RUL_COMMIT_CNT_HI : Fld := ⟨3, 0x304, 0, 32, .ro, 0, 0, 1, false, false⟩
def Reg.RUL_BUSY_CNT : Fld := ⟨3, 0x308, 0, 64, .rc, 0, 0, 1, false, false⟩
def Reg.RUL_BUSY_CNT_HI : Fld := ⟨3, 0x30C, 0, 32, .ro, 0, 0, 1, false, false⟩

/-! Table 6.22. -/
def Reg.TBL_LEARN_CNT : Fld := ⟨4, 0x300, 0, 64, .rc, 0, 0, 1, false, false⟩
def Reg.TBL_LEARN_CNT_HI : Fld := ⟨4, 0x304, 0, 32, .ro, 0, 0, 1, false, false⟩
def Reg.TBL_LEARN_FAIL : Fld := ⟨4, 0x308, 0, 64, .rc, 0, 0, 1, false, false⟩
def Reg.TBL_LEARN_FAIL_HI : Fld := ⟨4, 0x30C, 0, 32, .ro, 0, 0, 1, false, false⟩
def Reg.TBL_LEARN_DROP : Fld := ⟨4, 0x310, 0, 64, .rc, 0, 0, 1, false, false⟩
def Reg.TBL_LEARN_DROP_HI : Fld := ⟨4, 0x314, 0, 32, .ro, 0, 0, 1, false, false⟩
def Reg.TBL_LEARN_BAD : Fld := ⟨4, 0x318, 0, 64, .rc, 0, 0, 1, false, false⟩
def Reg.TBL_LEARN_BAD_HI : Fld := ⟨4, 0x31C, 0, 32, .ro, 0, 0, 1, false, false⟩
def Reg.TBL_LEARN_LIMIT : Fld := ⟨4, 0x320, 0, 64, .rc, 0, 0, 1, false, false⟩
def Reg.TBL_LEARN_LIMIT_HI : Fld := ⟨4, 0x324, 0, 32, .ro, 0, 0, 1, false, false⟩
def Reg.TBL_MOVE_CNT : Fld := ⟨4, 0x328, 0, 64, .rc, 0, 0, 1, false, false⟩
def Reg.TBL_MOVE_CNT_HI : Fld := ⟨4, 0x32C, 0, 32, .ro, 0, 0, 1, false, false⟩
def Reg.TBL_MOVE_DENY : Fld := ⟨4, 0x330, 0, 64, .rc, 0, 0, 1, false, false⟩
def Reg.TBL_MOVE_DENY_HI : Fld := ⟨4, 0x334, 0, 32, .ro, 0, 0, 1, false, false⟩
def Reg.TBL_AGE_CNT : Fld := ⟨4, 0x338, 0, 64, .rc, 0, 0, 1, false, false⟩
def Reg.TBL_AGE_CNT_HI : Fld := ⟨4, 0x33C, 0, 32, .ro, 0, 0, 1, false, false⟩
def Reg.TBL_EVICT_L2 : Fld := ⟨4, 0x340, 0, 64, .rc, 0, 0, 1, false, false⟩
def Reg.TBL_EVICT_L2_HI : Fld := ⟨4, 0x344, 0, 32, .ro, 0, 0, 1, false, false⟩
def Reg.TBL_EVICT_FLOW : Fld := ⟨4, 0x348, 0, 64, .rc, 0, 0, 1, false, false⟩
def Reg.TBL_EVICT_FLOW_HI : Fld := ⟨4, 0x34C, 0, 32, .ro, 0, 0, 1, false, false⟩
def Reg.TBL_FLOW_FULL : Fld := ⟨4, 0x350, 0, 64, .rc, 0, 0, 1, false, false⟩
def Reg.TBL_FLOW_FULL_HI : Fld := ⟨4, 0x354, 0, 32, .ro, 0, 0, 1, false, false⟩
def Reg.TBL_CTX_LOST : Fld := ⟨4, 0x358, 0, 64, .rc, 0, 0, 1, false, false⟩
def Reg.TBL_CTX_LOST_HI : Fld := ⟨4, 0x35C, 0, 32, .ro, 0, 0, 1, false, false⟩
def Reg.TBL_EP_FULL : Fld := ⟨4, 0x360, 0, 64, .rc, 0, 0, 1, false, false⟩
def Reg.TBL_EP_FULL_HI : Fld := ⟨4, 0x364, 0, 32, .ro, 0, 0, 1, false, false⟩

/-! Table 7.15. -/
def Reg.BSN_FAULT_CNT : Fld := ⟨9, 0x100, 0, 64, .rc, 0, 0, 1, false, true⟩
def Reg.BSN_FAULT_CNT_HI : Fld := ⟨9, 0x104, 0, 32, .ro, 0, 0, 1, false, true⟩
def Reg.BSN_ESC_CNT : Fld := ⟨9, 0x108, 0, 64, .rc, 0, 0, 1, false, true⟩
def Reg.BSN_ESC_CNT_HI : Fld := ⟨9, 0x10C, 0, 32, .ro, 0, 0, 1, false, true⟩
def Reg.BSN_STILL_CNT : Fld := ⟨9, 0x110, 0, 64, .rc, 0, 0, 1, false, true⟩
def Reg.BSN_STILL_CNT_HI : Fld := ⟨9, 0x114, 0, 32, .ro, 0, 0, 1, false, true⟩
def Reg.BSN_RESET_CNT : Fld := ⟨9, 0x118, 0, 64, .rc, 0, 0, 1, false, true⟩
def Reg.BSN_RESET_CNT_HI : Fld := ⟨9, 0x11C, 0, 32, .ro, 0, 0, 1, false, true⟩
def Reg.BSN_SWAP_CNT : Fld := ⟨9, 0x120, 0, 64, .rc, 0, 0, 1, false, true⟩
def Reg.BSN_SWAP_CNT_HI : Fld := ⟨9, 0x124, 0, 32, .ro, 0, 0, 1, false, true⟩
def Reg.BSN_ECC_CNT : Fld := ⟨9, 0x128, 0, 64, .rc, 0, 0, 1, false, true⟩
def Reg.BSN_ECC_CNT_HI : Fld := ⟨9, 0x12C, 0, 32, .ro, 0, 0, 1, false, true⟩
def Reg.BSN_PARK_CNT : Fld := ⟨9, 0x130, 0, 64, .rc, 0, 0, 1, false, true⟩
def Reg.BSN_PARK_CNT_HI : Fld := ⟨9, 0x134, 0, 32, .ro, 0, 0, 1, false, true⟩

/-! Table 10.8. -/
def Reg.BSN_HLP_SWITCH_CNT : Fld := ⟨9, 0x138, 0, 64, .rc, 0, 0, 1, false, true⟩
def Reg.BSN_HLP_SWITCH_CNT_HI : Fld := ⟨9, 0x13C, 0, 32, .ro, 0, 0, 1, false, true⟩
def Reg.BSN_HLP_ORPHAN_CNT : Fld := ⟨9, 0x140, 0, 64, .rc, 0, 0, 1, false, true⟩
def Reg.BSN_HLP_ORPHAN_CNT_HI : Fld := ⟨9, 0x144, 0, 32, .ro, 0, 0, 1, false, true⟩
def Reg.BSN_HLP_LOST_CNT : Fld := ⟨9, 0x148, 0, 64, .rc, 0, 0, 1, false, true⟩
def Reg.BSN_HLP_LOST_CNT_HI : Fld := ⟨9, 0x14C, 0, 32, .ro, 0, 0, 1, false, true⟩

/-! Table 11.7. -/
def Reg.BSN_CH_ABORT_CNT : Fld := ⟨9, 0x150, 0, 64, .rc, 0, 0, 1, false, true⟩
def Reg.BSN_CH_ABORT_CNT_HI : Fld := ⟨9, 0x154, 0, 32, .ro, 0, 0, 1, false, true⟩
def Reg.BSN_CH_DISCARD_CNT : Fld := ⟨9, 0x158, 0, 64, .rc, 0, 0, 1, false, true⟩
def Reg.BSN_CH_DISCARD_CNT_HI : Fld := ⟨9, 0x15C, 0, 32, .ro, 0, 0, 1, false, true⟩
def Reg.BSN_CH_LOST_CNT : Fld := ⟨9, 0x160, 0, 64, .rc, 0, 0, 1, false, true⟩
def Reg.BSN_CH_LOST_CNT_HI : Fld := ⟨9, 0x164, 0, 32, .ro, 0, 0, 1, false, true⟩
def Reg.BSN_CH_TIMEOUT_CNT : Fld := ⟨9, 0x168, 0, 64, .rc, 0, 0, 1, false, true⟩
def Reg.BSN_CH_TIMEOUT_CNT_HI : Fld := ⟨9, 0x16C, 0, 32, .ro, 0, 0, 1, false, true⟩

/-! Table 12.11. -/
def Reg.CIS_ALLOC_CNT : Fld := ⟨5, 0x100, 0, 64, .rc, 0, 0, 1, false, false⟩
def Reg.CIS_ALLOC_CNT_HI : Fld := ⟨5, 0x104, 0, 32, .ro, 0, 0, 1, false, false⟩
def Reg.CIS_FREE_CNT : Fld := ⟨5, 0x108, 0, 64, .rc, 0, 0, 1, false, false⟩
def Reg.CIS_FREE_CNT_HI : Fld := ⟨5, 0x10C, 0, 32, .ro, 0, 0, 1, false, false⟩
def Reg.CIS_EMPTY_CNT : Fld := ⟨5, 0x110, 0, 64, .rc, 0, 0, 1, false, false⟩
def Reg.CIS_EMPTY_CNT_HI : Fld := ⟨5, 0x114, 0, 32, .ro, 0, 0, 1, false, false⟩
def Reg.CIS_QUOTA_CNT : Fld := ⟨5, 0x118, 0, 64, .rc, 0, 0, 1, false, false⟩
def Reg.CIS_QUOTA_CNT_HI : Fld := ⟨5, 0x11C, 0, 32, .ro, 0, 0, 1, false, false⟩
def Reg.CIS_DOUBLE_CNT : Fld := ⟨5, 0x120, 0, 64, .rc, 0, 0, 1, false, false⟩
def Reg.CIS_DOUBLE_CNT_HI : Fld := ⟨5, 0x124, 0, 32, .ro, 0, 0, 1, false, false⟩
def Reg.CIS_DENIED_CNT : Fld := ⟨5, 0x128, 0, 64, .rc, 0, 0, 1, false, false⟩
def Reg.CIS_DENIED_CNT_HI : Fld := ⟨5, 0x12C, 0, 32, .ro, 0, 0, 1, false, false⟩
def Reg.CIS_LOST_CNT : Fld := ⟨5, 0x130, 0, 64, .rc, 0, 0, 1, false, false⟩
def Reg.CIS_LOST_CNT_HI : Fld := ⟨5, 0x134, 0, 32, .ro, 0, 0, 1, false, false⟩
def Reg.CIS_RECLAIM_CNT : Fld := ⟨5, 0x138, 0, 64, .rc, 0, 0, 1, false, false⟩
def Reg.CIS_RECLAIM_CNT_HI : Fld := ⟨5, 0x13C, 0, 32, .ro, 0, 0, 1, false, false⟩
def Reg.CIS_ERR_OVF_CNT : Fld := ⟨5, 0x140, 0, 64, .rc, 0, 0, 1, false, false⟩
def Reg.CIS_ERR_OVF_CNT_HI : Fld := ⟨5, 0x144, 0, 32, .ro, 0, 0, 1, false, false⟩

/-! Table 13.14. -/
def Reg.IPD_CE_CNT : Fld := ⟨18, 0x100, 0, 64, .rc, 0, 0, 1, false, false⟩
def Reg.IPD_CE_CNT_HI : Fld := ⟨18, 0x104, 0, 32, .ro, 0, 0, 1, false, false⟩
def Reg.IPD_UE_CNT : Fld := ⟨18, 0x108, 0, 64, .rc, 0, 0, 1, false, false⟩
def Reg.IPD_UE_CNT_HI : Fld := ⟨18, 0x10C, 0, 32, .ro, 0, 0, 1, false, false⟩
def Reg.IPD_POISON_CNT : Fld := ⟨18, 0x110, 0, 64, .rc, 0, 0, 1, false, false⟩
def Reg.IPD_POISON_CNT_HI : Fld := ⟨18, 0x114, 0, 32, .ro, 0, 0, 1, false, false⟩
def Reg.IPD_NREF_CNT : Fld := ⟨18, 0x118, 0, 64, .rc, 0, 0, 1, false, false⟩
def Reg.IPD_NREF_CNT_HI : Fld := ⟨18, 0x11C, 0, 32, .ro, 0, 0, 1, false, false⟩
def Reg.IPD_PROMOTE_CNT : Fld := ⟨18, 0x120, 0, 64, .rc, 0, 0, 1, false, false⟩
def Reg.IPD_PROMOTE_CNT_HI : Fld := ⟨18, 0x124, 0, 32, .ro, 0, 0, 1, false, false⟩
def Reg.IPD_TRACK_CNT : Fld := ⟨18, 0x128, 0, 64, .rc, 0, 0, 1, false, false⟩
def Reg.IPD_TRACK_CNT_HI : Fld := ⟨18, 0x12C, 0, 32, .ro, 0, 0, 1, false, false⟩
def Reg.IPD_RETRAIN_CNT : Fld := ⟨18, 0x130, 0, 64, .rc, 0, 0, 1, false, false⟩
def Reg.IPD_RETRAIN_CNT_HI : Fld := ⟨18, 0x134, 0, 32, .ro, 0, 0, 1, false, false⟩
def Reg.IPD_ROWSPARE_CNT : Fld := ⟨18, 0x138, 0, 64, .rc, 0, 0, 1, false, false⟩
def Reg.IPD_ROWSPARE_CNT_HI : Fld := ⟨18, 0x13C, 0, 32, .ro, 0, 0, 1, false, false⟩
def Reg.IPD_C_HIT : Fld := ⟨18, 0x140, 0, 64, .rc, 0, 0, 16, false, false⟩
def Reg.IPD_C_HIT_HI : Fld := ⟨18, 0x144, 0, 32, .ro, 0, 0, 16, false, false⟩
def Reg.IPD_C_MISS : Fld := ⟨18, 0x148, 0, 64, .rc, 0, 0, 16, false, false⟩
def Reg.IPD_C_MISS_HI : Fld := ⟨18, 0x14C, 0, 32, .ro, 0, 0, 16, false, false⟩
def Reg.IPD_C_WB : Fld := ⟨18, 0x150, 0, 64, .rc, 0, 0, 16, false, false⟩
def Reg.IPD_C_WB_HI : Fld := ⟨18, 0x154, 0, 32, .ro, 0, 0, 16, false, false⟩
def Reg.IPD_C_CE : Fld := ⟨18, 0x158, 0, 64, .rc, 0, 0, 16, false, false⟩
def Reg.IPD_C_CE_HI : Fld := ⟨18, 0x15C, 0, 32, .ro, 0, 0, 16, false, false⟩
def Reg.IPD_C_UE : Fld := ⟨18, 0x160, 0, 64, .rc, 0, 0, 16, false, false⟩
def Reg.IPD_C_UE_HI : Fld := ⟨18, 0x164, 0, 32, .ro, 0, 0, 16, false, false⟩

/-! Table 14.10. -/
def Reg.SLU_COPY_CNT : Fld := ⟨6, 0x100, 0, 64, .rc, 0, 0, 1, false, false⟩
def Reg.SLU_COPY_CNT_HI : Fld := ⟨6, 0x104, 0, 32, .ro, 0, 0, 1, false, false⟩
def Reg.SLU_TX_CNT : Fld := ⟨6, 0x108, 0, 64, .rc, 0, 0, 1, false, false⟩
def Reg.SLU_TX_CNT_HI : Fld := ⟨6, 0x10C, 0, 32, .ro, 0, 0, 1, false, false⟩
def Reg.SLU_OVERRUN_CNT : Fld := ⟨6, 0x110, 0, 64, .rc, 0, 0, 1, false, false⟩
def Reg.SLU_OVERRUN_CNT_HI : Fld := ⟨6, 0x114, 0, 32, .ro, 0, 0, 1, false, false⟩
def Reg.SLU_FLUSH_CNT : Fld := ⟨6, 0x118, 0, 64, .rc, 0, 0, 1, false, false⟩
def Reg.SLU_FLUSH_CNT_HI : Fld := ⟨6, 0x11C, 0, 32, .ro, 0, 0, 1, false, false⟩
def Reg.SLU_DORMANT_CNT : Fld := ⟨6, 0x120, 0, 64, .rc, 0, 0, 1, false, false⟩
def Reg.SLU_DORMANT_CNT_HI : Fld := ⟨6, 0x124, 0, 32, .ro, 0, 0, 1, false, false⟩

/-! Table 15.12. -/
def Reg.PMP_SWITCH_CNT : Fld := ⟨8, 0x100, 0, 64, .rc, 0, 0, 1, false, false⟩
def Reg.PMP_SWITCH_CNT_HI : Fld := ⟨8, 0x104, 0, 32, .ro, 0, 0, 1, false, false⟩
def Reg.PMP_PREEMPT_CNT : Fld := ⟨8, 0x108, 0, 64, .rc, 0, 0, 1, false, false⟩
def Reg.PMP_PREEMPT_CNT_HI : Fld := ⟨8, 0x10C, 0, 32, .ro, 0, 0, 1, false, false⟩
def Reg.PMP_POST_CNT : Fld := ⟨8, 0x110, 0, 64, .rc, 0, 0, 1, false, false⟩
def Reg.PMP_POST_CNT_HI : Fld := ⟨8, 0x114, 0, 32, .ro, 0, 0, 1, false, false⟩
def Reg.PMP_POST_LOST_CNT : Fld := ⟨8, 0x118, 0, 64, .rc, 0, 0, 1, false, false⟩
def Reg.PMP_POST_LOST_CNT_HI : Fld := ⟨8, 0x11C, 0, 32, .ro, 0, 0, 1, false, false⟩
def Reg.PMP_RETRY_CNT : Fld := ⟨8, 0x120, 0, 64, .rc, 0, 0, 1, false, false⟩
def Reg.PMP_RETRY_CNT_HI : Fld := ⟨8, 0x124, 0, 32, .ro, 0, 0, 1, false, false⟩
def Reg.PMP_TIMEOUT_CNT : Fld := ⟨8, 0x128, 0, 64, .rc, 0, 0, 1, false, false⟩
def Reg.PMP_TIMEOUT_CNT_HI : Fld := ⟨8, 0x12C, 0, 32, .ro, 0, 0, 1, false, false⟩

/-! Table 16.6. -/
def Reg.LKG_ACQ_CNT : Fld := ⟨7, 0x100, 0, 64, .rc, 0, 0, 1, false, false⟩
def Reg.LKG_ACQ_CNT_HI : Fld := ⟨7, 0x104, 0, 32, .ro, 0, 0, 1, false, false⟩
def Reg.LKG_WAIT_CNT : Fld := ⟨7, 0x108, 0, 64, .rc, 0, 0, 1, false, false⟩
def Reg.LKG_WAIT_CNT_HI : Fld := ⟨7, 0x10C, 0, 32, .ro, 0, 0, 1, false, false⟩
def Reg.LKG_TIMEOUT_CNT : Fld := ⟨7, 0x110, 0, 64, .rc, 0, 0, 1, false, false⟩
def Reg.LKG_TIMEOUT_CNT_HI : Fld := ⟨7, 0x114, 0, 32, .ro, 0, 0, 1, false, false⟩
def Reg.LKG_ABANDON_CNT : Fld := ⟨7, 0x118, 0, 64, .rc, 0, 0, 1, false, false⟩
def Reg.LKG_ABANDON_CNT_HI : Fld := ⟨7, 0x11C, 0, 32, .ro, 0, 0, 1, false, false⟩
def Reg.LKG_FORCE_CNT : Fld := ⟨7, 0x120, 0, 64, .rc, 0, 0, 1, false, false⟩
def Reg.LKG_FORCE_CNT_HI : Fld := ⟨7, 0x124, 0, 32, .ro, 0, 0, 1, false, false⟩
def Reg.LKG_DEPTH_CNT : Fld := ⟨7, 0x128, 0, 64, .rc, 0, 0, 1, false, false⟩
def Reg.LKG_DEPTH_CNT_HI : Fld := ⟨7, 0x12C, 0, 32, .ro, 0, 0, 1, false, false⟩
def Reg.LKG_CYCLE_CNT : Fld := ⟨7, 0x130, 0, 64, .rc, 0, 0, 1, false, false⟩
def Reg.LKG_CYCLE_CNT_HI : Fld := ⟨7, 0x134, 0, 32, .ro, 0, 0, 1, false, false⟩
def Reg.LKG_DENIED_CNT : Fld := ⟨7, 0x138, 0, 64, .rc, 0, 0, 1, false, false⟩
def Reg.LKG_DENIED_CNT_HI : Fld := ⟨7, 0x13C, 0, 32, .ro, 0, 0, 1, false, false⟩

/-! Table 17.14. -/
def Reg.HST_RX_MSG_CNT : Fld := ⟨17, 0x1100, 0, 64, .rc, 0, 0, 1, true, false⟩
def Reg.HST_RX_MSG_CNT_HI : Fld := ⟨17, 0x1104, 0, 32, .ro, 0, 0, 1, true, false⟩
def Reg.HST_RX_OVERSIZE : Fld := ⟨17, 0x1108, 0, 64, .rc, 0, 0, 1, true, false⟩
def Reg.HST_RX_OVERSIZE_HI : Fld := ⟨17, 0x110C, 0, 32, .ro, 0, 0, 1, true, false⟩
def Reg.HST_TX_MSG_CNT : Fld := ⟨17, 0x1110, 0, 64, .rc, 0, 0, 1, true, false⟩
def Reg.HST_TX_MSG_CNT_HI : Fld := ⟨17, 0x1114, 0, 32, .ro, 0, 0, 1, true, false⟩
def Reg.HST_TX_REFUSE : Fld := ⟨17, 0x1118, 0, 64, .rc, 0, 0, 1, true, false⟩
def Reg.HST_TX_REFUSE_HI : Fld := ⟨17, 0x111C, 0, 32, .ro, 0, 0, 1, true, false⟩
def Reg.HST_TX_ABORT : Fld := ⟨17, 0x1120, 0, 64, .rc, 0, 0, 1, true, false⟩
def Reg.HST_TX_ABORT_HI : Fld := ⟨17, 0x1124, 0, 32, .ro, 0, 0, 1, true, false⟩
def Reg.HST_BAR4_LOST : Fld := ⟨17, 0x1128, 0, 64, .rc, 0, 0, 1, true, false⟩
def Reg.HST_BAR4_LOST_HI : Fld := ⟨17, 0x112C, 0, 32, .ro, 0, 0, 1, true, false⟩
def Reg.HST_RESET_CNT : Fld := ⟨17, 0x1130, 0, 64, .rc, 0, 0, 1, true, false⟩
def Reg.HST_RESET_CNT_HI : Fld := ⟨17, 0x1134, 0, 32, .ro, 0, 0, 1, true, false⟩
def Reg.HST_EOE_GAP : Fld := ⟨17, 0x1138, 0, 64, .rc, 0, 0, 1, true, false⟩
def Reg.HST_EOE_GAP_HI : Fld := ⟨17, 0x113C, 0, 32, .ro, 0, 0, 1, true, false⟩
def Reg.HST_EOE_BAD : Fld := ⟨17, 0x1140, 0, 64, .rc, 0, 0, 1, true, false⟩
def Reg.HST_EOE_BAD_HI : Fld := ⟨17, 0x1144, 0, 32, .ro, 0, 0, 1, true, false⟩

/-! Table 18.13. -/
def Reg.EDG_RX_CNT : Fld := ⟨10, 0x800, 0, 64, .rc, 0, 0, 96, false, false⟩
def Reg.EDG_RX_CNT_HI : Fld := ⟨10, 0x804, 0, 32, .ro, 0, 0, 96, false, false⟩
def Reg.EDG_FCS_CNT : Fld := ⟨10, 0x808, 0, 64, .rc, 0, 0, 96, false, false⟩
def Reg.EDG_FCS_CNT_HI : Fld := ⟨10, 0x80C, 0, 32, .ro, 0, 0, 96, false, false⟩
def Reg.EDG_RUNT_CNT : Fld := ⟨10, 0x810, 0, 64, .rc, 0, 0, 96, false, false⟩
def Reg.EDG_RUNT_CNT_HI : Fld := ⟨10, 0x814, 0, 32, .ro, 0, 0, 96, false, false⟩
def Reg.EDG_LONG_CNT : Fld := ⟨10, 0x818, 0, 64, .rc, 0, 0, 96, false, false⟩
def Reg.EDG_LONG_CNT_HI : Fld := ⟨10, 0x81C, 0, 32, .ro, 0, 0, 96, false, false⟩
def Reg.EDG_MACSEC_CNT : Fld := ⟨10, 0x820, 0, 64, .rc, 0, 0, 96, false, false⟩
def Reg.EDG_MACSEC_CNT_HI : Fld := ⟨10, 0x824, 0, 32, .ro, 0, 0, 96, false, false⟩
def Reg.EDG_CUT_CNT : Fld := ⟨10, 0x828, 0, 64, .rc, 0, 0, 96, false, false⟩
def Reg.EDG_CUT_CNT_HI : Fld := ⟨10, 0x82C, 0, 32, .ro, 0, 0, 96, false, false⟩
def Reg.EDG_NOBUF_CNT : Fld := ⟨10, 0x830, 0, 64, .rc, 0, 0, 96, false, false⟩
def Reg.EDG_NOBUF_CNT_HI : Fld := ⟨10, 0x834, 0, 32, .ro, 0, 0, 96, false, false⟩
def Reg.EDG_EARLY_CNT : Fld := ⟨10, 0x838, 0, 64, .rc, 0, 0, 96, false, false⟩
def Reg.EDG_EARLY_CNT_HI : Fld := ⟨10, 0x83C, 0, 32, .ro, 0, 0, 96, false, false⟩
def Reg.EDG_TX_CNT : Fld := ⟨10, 0x840, 0, 64, .rc, 0, 0, 96, false, false⟩
def Reg.EDG_TX_CNT_HI : Fld := ⟨10, 0x844, 0, 32, .ro, 0, 0, 96, false, false⟩
def Reg.EDG_TX_DROP : Fld := ⟨10, 0x848, 0, 64, .rc, 0, 0, 96, false, false⟩
def Reg.EDG_TX_DROP_HI : Fld := ⟨10, 0x84C, 0, 32, .ro, 0, 0, 96, false, false⟩
def Reg.EDG_TS_OVF : Fld := ⟨10, 0x850, 0, 64, .rc, 0, 0, 96, false, false⟩
def Reg.EDG_TS_OVF_HI : Fld := ⟨10, 0x854, 0, 32, .ro, 0, 0, 96, false, false⟩
def Reg.EDG_PROTO_CNT : Fld := ⟨10, 0x858, 0, 64, .rc, 0, 0, 96, false, false⟩
def Reg.EDG_PROTO_CNT_HI : Fld := ⟨10, 0x85C, 0, 32, .ro, 0, 0, 96, false, false⟩
def Reg.EDG_PLUG_CNT : Fld := ⟨10, 0x860, 0, 64, .rc, 0, 0, 96, false, false⟩
def Reg.EDG_PLUG_CNT_HI : Fld := ⟨10, 0x864, 0, 32, .ro, 0, 0, 96, false, false⟩

/-! Table 19.10. -/
def Reg.XNG_LOST_CNT : Fld := ⟨16, 0x100, 0, 64, .rc, 0, 0, 1, false, false⟩
def Reg.XNG_LOST_CNT_HI : Fld := ⟨16, 0x104, 0, 32, .ro, 0, 0, 1, false, false⟩
def Reg.XNG_ISL_RESET_CNT : Fld := ⟨16, 0x108, 0, 64, .rc, 0, 0, 1, false, false⟩
def Reg.XNG_ISL_RESET_CNT_HI : Fld := ⟨16, 0x10C, 0, 32, .ro, 0, 0, 1, false, false⟩

/-! Table 20.6. -/
def Reg.PWR_ENTRY_CNT : Fld := ⟨12, 0x100, 0, 64, .rc, 0, 0, 1, false, false⟩
def Reg.PWR_ENTRY_CNT_HI : Fld := ⟨12, 0x104, 0, 32, .ro, 0, 0, 1, false, false⟩
def Reg.PWR_BREACH_CNT : Fld := ⟨12, 0x108, 0, 64, .rc, 0, 0, 1, false, false⟩
def Reg.PWR_BREACH_CNT_HI : Fld := ⟨12, 0x10C, 0, 32, .ro, 0, 0, 1, false, false⟩
def Reg.PWR_SHED_CNT : Fld := ⟨12, 0x110, 0, 64, .rc, 0, 0, 1, false, false⟩
def Reg.PWR_SHED_CNT_HI : Fld := ⟨12, 0x114, 0, 32, .ro, 0, 0, 1, false, false⟩
def Reg.PWR_VSTEP_CNT : Fld := ⟨12, 0x118, 0, 64, .rc, 0, 0, 1, false, false⟩
def Reg.PWR_VSTEP_CNT_HI : Fld := ⟨12, 0x11C, 0, 32, .ro, 0, 0, 1, false, false⟩

/-! Table 23.8. -/
def Reg.RPL_REC_CNT : Fld := ⟨15, 0x100, 0, 64, .rc, 0, 0, 1, false, true⟩
def Reg.RPL_REC_CNT_HI : Fld := ⟨15, 0x104, 0, 32, .ro, 0, 0, 1, false, true⟩
def Reg.RPL_SKIP_CNT : Fld := ⟨15, 0x108, 0, 64, .rc, 0, 0, 1, false, true⟩
def Reg.RPL_SKIP_CNT_HI : Fld := ⟨15, 0x10C, 0, 32, .ro, 0, 0, 1, false, true⟩
def Reg.RPL_LOGLOST_CNT : Fld := ⟨15, 0x110, 0, 64, .rc, 0, 0, 1, false, true⟩
def Reg.RPL_LOGLOST_CNT_HI : Fld := ⟨15, 0x114, 0, 32, .ro, 0, 0, 1, false, true⟩
def Reg.RPL_BYTES_CNT : Fld := ⟨15, 0x118, 0, 64, .rc, 0, 0, 1, false, true⟩
def Reg.RPL_BYTES_CNT_HI : Fld := ⟨15, 0x11C, 0, 32, .ro, 0, 0, 1, false, true⟩

/-! Table 24.4. -/
def Reg.GEN_ACCESS_CNT : Fld := ⟨0, 0x100, 0, 64, .rc, 0, 0, 1, true, false⟩
def Reg.GEN_ACCESS_CNT_HI : Fld := ⟨0, 0x104, 0, 32, .ro, 0, 0, 1, true, false⟩

/-! Table 3.7. -/
def Reg.WEIR_DRY_CNT : Fld := ⟨1, 0x140, 0, 64, .rc, 0, 8, 13, false, true⟩
def Reg.WEIR_DRY_CNT_HI : Fld := ⟨1, 0x144, 0, 32, .ro, 0, 8, 13, false, true⟩

/-! Table 4.12. -/
def Reg.RUN_OUTCOME_CNT : Fld := ⟨2, 0x100, 0, 64, .rc, 0, 8, 7, false, false⟩
def Reg.RUN_OUTCOME_CNT_HI : Fld := ⟨2, 0x104, 0, 32, .ro, 0, 8, 7, false, false⟩

/-! Table 14.11. -/
def Reg.SLU_PORT_EN : Fld := ⟨32, 0x0, 0, 1, .rw, 0, 0, 32, false, false⟩
def Reg.SLU_PORT_STATE : Fld := ⟨32, 0x0, 1, 2, .ro, 0, 0, 32, false, false⟩
def Reg.SLU_PORT_ENABLE_PENDING : Fld := ⟨32, 0x0, 3, 1, .ro, 0, 0, 32, false, false⟩
def Reg.SLU_PORT_LINK : Fld := ⟨32, 0x0, 4, 1, .ro, 0, 0, 32, false, false⟩
def Reg.SLU_PORT_PLUG : Fld := ⟨32, 0x0, 5, 1, .ro, 0, 0, 32, false, false⟩
def Reg.SLU_PORT_RX_PAUSE : Fld := ⟨32, 0x0, 6, 1, .rw, 0, 0, 32, false, false⟩
def Reg.SLU_PORT_PREEMPT : Fld := ⟨32, 0x0, 7, 1, .rw, 0, 0, 32, false, false⟩
def Reg.SLU_PORT_ADD_FRAG : Fld := ⟨32, 0x0, 8, 2, .rw, 0, 0, 32, false, false⟩
def Reg.SLU_PORT_FCI_EN : Fld := ⟨32, 0x0, 10, 1, .rw, 0, 0, 32, false, false⟩
def Reg.SLU_PORT_FCI_PIN : Fld := ⟨32, 0x0, 11, 3, .rw, 0, 0, 32, false, false⟩
def Reg.SLU_PORT_FCI_POL : Fld := ⟨32, 0x0, 14, 1, .rw, 0, 0, 32, false, false⟩
def Reg.SLU_PORT_FCI_MASK : Fld := ⟨32, 0x0, 16, 8, .rw, 0, 0, 32, false, false⟩
def Reg.SLU_PORT_OVERHEAD : Fld := ⟨32, 0x0, 24, 8, .rw, 20, 0, 32, false, false⟩
def Reg.SLU_PORT_SPEED : Fld := ⟨32, 0x4, 0, 18, .ro, 0, 0, 32, false, false⟩
def Reg.SLU_PORT_TB_RATE : Fld := ⟨32, 0x8, 0, 28, .rw, 0, 0, 32, false, false⟩
def Reg.SLU_PORT_TB_EN : Fld := ⟨32, 0x8, 31, 1, .rw, 0, 0, 32, false, false⟩
def Reg.SLU_PORT_TB_BURST : Fld := ⟨32, 0xC, 0, 24, .rw, 0, 0, 32, false, false⟩
def Reg.SLU_PORT_TB_CREDIT : Fld := ⟨32, 0x10, 0, 32, .ro, 0, 0, 32, false, false⟩
def Reg.SLU_PORT_GATE_EN : Fld := ⟨32, 0x14, 0, 1, .rw, 0, 0, 32, false, false⟩
def Reg.SLU_PORT_GATE_DOM : Fld := ⟨32, 0x14, 1, 2, .rw, 0, 0, 32, false, false⟩
def Reg.SLU_PORT_CONFIG_CHANGE : Fld := ⟨32, 0x14, 3, 1, .wo, 0, 0, 32, false, false⟩
def Reg.SLU_PORT_CONFIG_PENDING : Fld := ⟨32, 0x14, 4, 1, .ro, 0, 0, 32, false, false⟩
def Reg.SLU_PORT_ADMIN_LEN : Fld := ⟨32, 0x14, 16, 11, .rw, 0, 0, 32, false, false⟩
def Reg.SLU_PORT_ADMIN_CYCLE : Fld := ⟨32, 0x18, 0, 30, .rw, 0, 0, 32, false, false⟩
def Reg.SLU_PORT_ADMIN_EXT : Fld := ⟨32, 0x1C, 0, 30, .rw, 0, 0, 32, false, false⟩
def Reg.SLU_PORT_ADMIN_BASE : Fld := ⟨32, 0x20, 0, 64, .rw, 0, 0, 32, false, false⟩
def Reg.SLU_PORT_GATE_STATE : Fld := ⟨32, 0x28, 0, 8, .ro, 255, 0, 32, false, false⟩
def Reg.SLU_PORT_HOLD : Fld := ⟨32, 0x28, 8, 1, .ro, 0, 0, 32, false, false⟩
def Reg.SLU_PORT_OPER_ENTRY : Fld := ⟨32, 0x28, 16, 10, .ro, 0, 0, 32, false, false⟩
def Reg.SLU_PORT_OPER_CYCLE : Fld := ⟨32, 0x2C, 0, 30, .ro, 0, 0, 32, false, false⟩
def Reg.SLU_PORT_OPER_LEN : Fld := ⟨32, 0x30, 0, 11, .ro, 0, 0, 32, false, false⟩
def Reg.SLU_PORT_CHANGE_TIME : Fld := ⟨32, 0x34, 0, 64, .ro, 0, 0, 32, false, false⟩

/-! Table 14.12. -/
def Reg.SLU_CLASS_EN : Fld := ⟨33, 0x0, 0, 1, .rw, 0, 0, 256, false, false⟩
def Reg.SLU_CLASS_STATE : Fld := ⟨33, 0x0, 1, 2, .ro, 0, 0, 256, false, false⟩
def Reg.SLU_CLASS_ENABLE_PENDING : Fld := ⟨33, 0x0, 3, 1, .ro, 0, 0, 256, false, false⟩
def Reg.SLU_CLASS_EXPRESS : Fld := ⟨33, 0x0, 4, 1, .rw, 0, 0, 256, false, false⟩
def Reg.SLU_CLASS_CBS_EN : Fld := ⟨33, 0x0, 5, 1, .rw, 0, 0, 256, false, false⟩
def Reg.SLU_CLASS_TB_EN : Fld := ⟨33, 0x0, 6, 1, .rw, 0, 0, 256, false, false⟩
def Reg.SLU_CLASS_METER_EN : Fld := ⟨33, 0x0, 7, 1, .rw, 0, 0, 256, false, false⟩
def Reg.SLU_CLASS_METER : Fld := ⟨33, 0x0, 8, 12, .rw, 0, 0, 256, false, false⟩
def Reg.SLU_CLASS_MAX_FRAMES : Fld := ⟨33, 0x4, 0, 15, .rw, 0, 0, 256, false, false⟩
def Reg.SLU_CLASS_YELLOW_FRAMES : Fld := ⟨33, 0x4, 16, 15, .rw, 0, 0, 256, false, false⟩
def Reg.SLU_CLASS_MAX_KIB : Fld := ⟨33, 0x8, 0, 15, .rw, 0, 0, 256, false, false⟩
def Reg.SLU_CLASS_MAX_SDU : Fld := ⟨33, 0xC, 0, 14, .rw, 0, 0, 256, false, false⟩
def Reg.SLU_CLASS_TB_RATE : Fld := ⟨33, 0x10, 0, 28, .rw, 0, 0, 256, false, false⟩
def Reg.SLU_CLASS_TB_BURST : Fld := ⟨33, 0x14, 0, 24, .rw, 0, 0, 256, false, false⟩
def Reg.SLU_CLASS_CBS_IDLE : Fld := ⟨33, 0x18, 0, 28, .rw, 0, 0, 256, false, false⟩
def Reg.SLU_CLASS_CBS_HI : Fld := ⟨33, 0x1C, 0, 24, .rw, 0, 0, 256, false, false⟩
def Reg.SLU_CLASS_CBS_LO : Fld := ⟨33, 0x20, 0, 24, .rw, 0, 0, 256, false, false⟩
def Reg.SLU_CLASS_FRAMES : Fld := ⟨33, 0x24, 0, 15, .ro, 0, 0, 256, false, false⟩
def Reg.SLU_CLASS_BYTES : Fld := ⟨33, 0x28, 0, 25, .ro, 0, 0, 256, false, false⟩
def Reg.SLU_CLASS_TB_CREDIT : Fld := ⟨33, 0x2C, 0, 32, .ro, 0, 0, 256, false, false⟩
def Reg.SLU_CLASS_CBS_CREDIT : Fld := ⟨33, 0x30, 0, 32, .ro, 0, 0, 256, false, false⟩
def Reg.SLU_CLASS_TX_FRAMES : Fld := ⟨33, 0x34, 0, 32, .ro, 0, 0, 256, false, false⟩
def Reg.SLU_CLASS_DRIED : Fld := ⟨33, 0x38, 0, 32, .ro, 0, 0, 256, false, false⟩

/-! Table 14.13. -/
def Reg.SLU_HOSTQ_EN : Fld := ⟨34, 0x0, 0, 1, .rw, 0, 0, 320, false, false⟩
def Reg.SLU_HOSTQ_STATE : Fld := ⟨34, 0x0, 1, 2, .ro, 0, 0, 320, false, false⟩
def Reg.SLU_HOSTQ_ENABLE_PENDING : Fld := ⟨34, 0x0, 3, 1, .ro, 0, 0, 320, false, false⟩
def Reg.SLU_HOSTQ_METER_EN : Fld := ⟨34, 0x0, 7, 1, .rw, 0, 0, 320, false, false⟩
def Reg.SLU_HOSTQ_METER : Fld := ⟨34, 0x0, 8, 12, .rw, 0, 0, 320, false, false⟩
def Reg.SLU_HOSTQ_LIMIT : Fld := ⟨34, 0x4, 0, 21, .rw, 0, 0, 320, false, false⟩
def Reg.SLU_HOSTQ_YELLOW_LIMIT : Fld := ⟨34, 0x8, 0, 21, .rw, 0, 0, 320, false, false⟩
def Reg.SLU_HOSTQ_DELIVERED : Fld := ⟨34, 0xC, 0, 32, .ro, 0, 0, 320, false, false⟩
def Reg.SLU_HOSTQ_DRIED : Fld := ⟨34, 0x10, 0, 32, .ro, 0, 0, 320, false, false⟩
def Reg.SLU_METER_MODE : Fld := ⟨35, 0x0, 0, 1, .rw, 0, 0, 4096, false, false⟩
def Reg.SLU_METER_COLOUR_SRC : Fld := ⟨35, 0x0, 1, 2, .rw, 0, 0, 4096, false, false⟩
def Reg.SLU_METER_DROP_RED : Fld := ⟨35, 0x0, 3, 1, .rw, 0, 0, 4096, false, false⟩
def Reg.SLU_METER_ADJ : Fld := ⟨35, 0x0, 8, 8, .rw, 4, 0, 4096, false, false⟩
def Reg.SLU_METER_CIR : Fld := ⟨35, 0x4, 0, 28, .rw, 0, 0, 4096, false, false⟩
def Reg.SLU_METER_CBS : Fld := ⟨35, 0x8, 0, 24, .rw, 0, 0, 4096, false, false⟩
def Reg.SLU_METER_PIR : Fld := ⟨35, 0xC, 0, 28, .rw, 0, 0, 4096, false, false⟩
def Reg.SLU_METER_PBS : Fld := ⟨35, 0x10, 0, 24, .rw, 0, 0, 4096, false, false⟩
def Reg.SLU_METER_TC : Fld := ⟨35, 0x14, 0, 32, .ro, 0, 0, 4096, false, false⟩
def Reg.SLU_METER_TP : Fld := ⟨35, 0x18, 0, 32, .ro, 0, 0, 4096, false, false⟩
def Reg.SLU_METER_GREEN : Fld := ⟨35, 0x1C, 0, 32, .ro, 0, 0, 4096, false, false⟩
def Reg.SLU_METER_YELLOW : Fld := ⟨35, 0x20, 0, 32, .ro, 0, 0, 4096, false, false⟩
def Reg.SLU_METER_RED : Fld := ⟨35, 0x24, 0, 32, .ro, 0, 0, 4096, false, false⟩

/-! Table 14.14. -/
def Reg.SLU_FILTER_MAX_SDU : Fld := ⟨36, 0x0, 0, 14, .rw, 0, 0, 8192, false, false⟩
def Reg.SLU_FILTER_BLOCK_EN : Fld := ⟨36, 0x0, 14, 1, .rw, 0, 0, 8192, false, false⟩
def Reg.SLU_FILTER_BLOCKED : Fld := ⟨36, 0x0, 15, 1, .ro, 0, 0, 8192, false, false⟩
def Reg.SLU_FILTER_GATE : Fld := ⟨36, 0x0, 16, 10, .rw, 0, 0, 8192, false, false⟩
def Reg.SLU_FILTER_GATE_EN : Fld := ⟨36, 0x0, 26, 1, .rw, 0, 0, 8192, false, false⟩
def Reg.SLU_FILTER_EN : Fld := ⟨36, 0x0, 31, 1, .rw, 0, 0, 8192, false, false⟩
def Reg.SLU_FILTER_METER : Fld := ⟨36, 0x4, 0, 12, .rw, 0, 0, 8192, false, false⟩
def Reg.SLU_FILTER_METER_EN : Fld := ⟨36, 0x4, 12, 1, .rw, 0, 0, 8192, false, false⟩
def Reg.SLU_FILTER_SGF : Fld := ⟨36, 0x4, 16, 12, .rw, 0, 0, 8192, false, false⟩
def Reg.SLU_FILTER_SGF_EN : Fld := ⟨36, 0x4, 28, 1, .rw, 0, 0, 8192, false, false⟩
def Reg.SLU_FILTER_SRF : Fld := ⟨36, 0x8, 0, 12, .rw, 0, 0, 8192, false, false⟩
def Reg.SLU_FILTER_SRF_EN : Fld := ⟨36, 0x8, 12, 1, .rw, 0, 0, 8192, false, false⟩
def Reg.SLU_FILTER_SRF_STRIP : Fld := ⟨36, 0x8, 13, 1, .rw, 0, 0, 8192, false, false⟩
def Reg.SLU_FILTER_MATCHING : Fld := ⟨36, 0xC, 0, 32, .ro, 0, 0, 8192, false, false⟩
def Reg.SLU_FILTER_PASSING : Fld := ⟨36, 0x10, 0, 32, .ro, 0, 0, 8192, false, false⟩
def Reg.SLU_FILTER_GATE_FAIL : Fld := ⟨36, 0x14, 0, 32, .ro, 0, 0, 8192, false, false⟩
def Reg.SLU_FILTER_SDU_FAIL : Fld := ⟨36, 0x18, 0, 32, .ro, 0, 0, 8192, false, false⟩
def Reg.SLU_FILTER_RED : Fld := ⟨36, 0x1C, 0, 32, .ro, 0, 0, 8192, false, false⟩
def Reg.SLU_SGATE_EN : Fld := ⟨37, 0x0, 0, 1, .rw, 0, 0, 1024, false, false⟩
def Reg.SLU_SGATE_DOM : Fld := ⟨37, 0x0, 1, 2, .rw, 0, 0, 1024, false, false⟩
def Reg.SLU_SGATE_CONFIG_CHANGE : Fld := ⟨37, 0x0, 3, 1, .wo, 0, 0, 1024, false, false⟩
def Reg.SLU_SGATE_CONFIG_PENDING : Fld := ⟨37, 0x0, 4, 1, .ro, 0, 0, 1024, false, false⟩
def Reg.SLU_SGATE_CLOSE_INVALID : Fld := ⟨37, 0x0, 5, 1, .rw, 0, 0, 1024, false, false⟩
def Reg.SLU_SGATE_CLOSED_INVALID : Fld := ⟨37, 0x0, 6, 1, .ro, 0, 0, 1024, false, false⟩
def Reg.SLU_SGATE_OPEN : Fld := ⟨37, 0x0, 7, 1, .ro, 1, 0, 1024, false, false⟩
def Reg.SLU_SGATE_ADMIN_LEN : Fld := ⟨37, 0x0, 16, 9, .rw, 0, 0, 1024, false, false⟩
def Reg.SLU_SGATE_ADMIN_CYCLE : Fld := ⟨37, 0x4, 0, 30, .rw, 0, 0, 1024, false, false⟩
def Reg.SLU_SGATE_ADMIN_EXT : Fld := ⟨37, 0x8, 0, 30, .rw, 0, 0, 1024, false, false⟩
def Reg.SLU_SGATE_ADMIN_BASE : Fld := ⟨37, 0xC, 0, 64, .rw, 0, 0, 1024, false, false⟩
def Reg.SLU_SGATE_OPER_CYCLE : Fld := ⟨37, 0x14, 0, 30, .ro, 0, 0, 1024, false, false⟩
def Reg.SLU_SGATE_OPER_LEN : Fld := ⟨37, 0x18, 0, 9, .ro, 0, 0, 1024, false, false⟩
def Reg.SLU_SGATE_OPER_ENTRY : Fld := ⟨37, 0x18, 16, 8, .ro, 0, 0, 1024, false, false⟩
def Reg.SLU_SGATE_CHANGE_TIME : Fld := ⟨37, 0x1C, 0, 64, .ro, 0, 0, 1024, false, false⟩

/-! Table 14.15. -/
def Reg.SLU_GCL_ENTRY_INTERVAL : Fld := ⟨39, 0x0, 0, 30, .rw, 0, 0, 32768, false, false⟩
def Reg.SLU_GCL_ENTRY_GATES : Fld := ⟨39, 0x4, 0, 8, .rw, 0, 0, 32768, false, false⟩
def Reg.SLU_GCL_ENTRY_OP : Fld := ⟨39, 0x4, 8, 4, .rw, 0, 0, 32768, false, false⟩
def Reg.SLU_SGATE_ENTRY_INTERVAL : Fld := ⟨38, 0x0, 0, 30, .rw, 0, 0, 262144, false, false⟩
def Reg.SLU_SGATE_ENTRY_OPEN : Fld := ⟨38, 0x4, 0, 1, .rw, 0, 0, 262144, false, false⟩
def Reg.SLU_SGATE_ENTRY_OCTETS : Fld := ⟨38, 0x4, 8, 24, .rw, 0, 0, 262144, false, false⟩
def Reg.SLU_SGF_EN : Fld := ⟨40, 0x0, 0, 1, .rw, 0, 0, 4096, false, false⟩
def Reg.SLU_SGF_ENCODE : Fld := ⟨40, 0x0, 1, 1, .rw, 0, 0, 4096, false, false⟩
def Reg.SLU_SGF_NEXT_SEQ : Fld := ⟨40, 0x0, 16, 16, .rw, 0, 0, 4096, false, false⟩
def Reg.SLU_SGF_GENERATED : Fld := ⟨40, 0x4, 0, 32, .ro, 0, 0, 4096, false, false⟩
def Reg.SLU_SRF_EN : Fld := ⟨41, 0x0, 0, 1, .rw, 0, 0, 4096, false, false⟩
def Reg.SLU_SRF_ALGO : Fld := ⟨41, 0x0, 1, 1, .rw, 0, 0, 4096, false, false⟩
def Reg.SLU_SRF_TAKE_NO_SEQ : Fld := ⟨41, 0x0, 2, 1, .rw, 0, 0, 4096, false, false⟩
def Reg.SLU_SRF_HLEN : Fld := ⟨41, 0x0, 8, 8, .rw, 32, 0, 4096, false, false⟩
def Reg.SLU_SRF_RESET_MS : Fld := ⟨41, 0x0, 16, 16, .rw, 100, 0, 4096, false, false⟩
def Reg.SLU_SRF_RECOV : Fld := ⟨41, 0x4, 0, 16, .ro, 0, 0, 4096, false, false⟩
def Reg.SLU_SRF_TAKE_ANY : Fld := ⟨41, 0x4, 16, 1, .ro, 1, 0, 4096, false, false⟩
def Reg.SLU_SRF_PASSED : Fld := ⟨41, 0x8, 0, 32, .ro, 0, 0, 4096, false, false⟩
def Reg.SLU_SRF_DISCARDED : Fld := ⟨41, 0xC, 0, 32, .ro, 0, 0, 4096, false, false⟩
def Reg.SLU_SRF_OUT_OF_ORDER : Fld := ⟨41, 0x10, 0, 32, .ro, 0, 0, 4096, false, false⟩
def Reg.SLU_SRF_ROGUE : Fld := ⟨41, 0x14, 0, 32, .ro, 0, 0, 4096, false, false⟩
def Reg.SLU_SRF_LOST : Fld := ⟨41, 0x18, 0, 32, .ro, 0, 0, 4096, false, false⟩
def Reg.SLU_SRF_RESETS : Fld := ⟨41, 0x1C, 0, 32, .ro, 0, 0, 4096, false, false⟩

/-- Every field of BAR0 page 0 (Table 24.1). -/
def Reg.page0 : List Fld :=
  [Reg.GEN_ID_VENDOR, Reg.GEN_ID_DEVICE, Reg.GEN_REV_REV, Reg.GEN_REV_GRADE, Reg.GEN_STATUS_MODE, Reg.GEN_STATUS_FALLBACK_CAUSE, Reg.GEN_STATUS_STRAP_ERR, Reg.GEN_STATUS_DEGRADED, Reg.GEN_STATUS_PRES, Reg.GEN_STRAP_QMODE2, Reg.GEN_STRAP_QMODE3, Reg.GEN_BASE_MAC_LO_MAC] ++
  [Reg.GEN_BASE_MAC_HI_MAC, Reg.GEN_SCRATCH_DATA, Reg.GEN_INT_STATUS_ACCESS_ERR, Reg.GEN_INT_STATUS_STRAP_ERR, Reg.GEN_INT_EN_EN, Reg.GEN_ACCESS_CNT, Reg.GEN_ACCESS_CNT_HI]

/-- Every field of BAR0 page 1 (Table 24.1). -/
def Reg.page1 : List Fld :=
  [Reg.WEIR_CFG_RESERVE, Reg.WEIR_STATUS_INFLIGHT, Reg.WEIR_STATUS_SUSP, Reg.WEIR_STATUS_SWITCHING, Reg.WEIR_HOLD_LIMIT, Reg.WEIR_HOLD_SUSPEND_SUSP, Reg.WEIR_DOM_SEL_DOMAIN, Reg.WEIR_DOM_STAT0_NEXT_SEQ, Reg.WEIR_DOM_STAT1_HEAD_SEQ, Reg.WEIR_DOM_STAT2_INFLIGHT, Reg.WEIR_DOM_STAT2_CLASS, Reg.WEIR_DOM_STAT2_HEAD_STATE] ++
  [Reg.WEIR_INT_STATUS_HOLD_EXP, Reg.WEIR_INT_EN_HOLD_EXP, Reg.WEIR_INT_STATUS_REFUSED, Reg.WEIR_INT_EN_REFUSED, Reg.WEIR_INT_STATUS_ENG_DRY, Reg.WEIR_INT_EN_ENG_DRY, Reg.WEIR_INT_STATUS_MEM_LOST, Reg.WEIR_INT_EN_MEM_LOST, Reg.WEIR_INT_STATUS_SWITCH_DONE, Reg.WEIR_INT_EN_SWITCH_DONE, Reg.WEIR_ADMIT_CNT, Reg.WEIR_ADMIT_CNT_HI] ++
  [Reg.WEIR_SEND_CNT, Reg.WEIR_SEND_CNT_HI, Reg.WEIR_REFUSE_DEV, Reg.WEIR_REFUSE_DEV_HI, Reg.WEIR_REFUSE_DOM, Reg.WEIR_REFUSE_DOM_HI, Reg.WEIR_LATE_CNT, Reg.WEIR_LATE_CNT_HI, Reg.WEIR_DOUBLE_CNT, Reg.WEIR_DOUBLE_CNT_HI, Reg.WEIR_INFLIGHT_HWM, Reg.WEIR_INFLIGHT_HWM_HI] ++
  [Reg.WEIR_DRY_CNT, Reg.WEIR_DRY_CNT_HI]

/-- Every field of BAR0 page 2 (Table 24.1). -/
def Reg.page2 : List Fld :=
  [Reg.RUN_CFG_TPID, Reg.RUN_CFG_DEPTH, Reg.RUN_HASH_SEED_SEED, Reg.RUN_ROOT_ETH, Reg.RUN_ROOT_CAN, Reg.RUN_ROOT_EVT, Reg.RUN_MAP_STATUS_ACTIVE, Reg.RUN_MAP_STATUS_TARGET, Reg.RUN_DROP_MASK_DROP, Reg.RUN_REJECT_CNT, Reg.RUN_REJECT_CNT_HI, Reg.RUN_OK_CNT] ++
  [Reg.RUN_OK_CNT_HI, Reg.RUN_OUTCOME_CNT, Reg.RUN_OUTCOME_CNT_HI]

/-- Every field of BAR0 page 3 (Table 24.1). -/
def Reg.page3 : List Fld :=
  [Reg.RUL_STATUS_INGRESS, Reg.RUL_STATUS_LIVE, Reg.RUL_COMMIT_GO, Reg.RUL_COMMIT_RESULT, Reg.RUL_COMMIT_PENDING, Reg.RUL_COMMIT_VERSION, Reg.RUL_PIN_VERSION, Reg.RUL_PIN_PIN, Reg.RUL_PIN_UNPIN, Reg.RUL_PIN_RESULT, Reg.RUL_VER_NUMBER, Reg.RUL_VER_STATE] ++
  [Reg.RUL_VER_OWNER, Reg.RUL_VREF_REFS, Reg.RUL_VREF_PINS, Reg.RUL_STG_SEL_KIND, Reg.RUL_STG_SEL_INDEX, Reg.RUL_STG_CMD_CMD, Reg.RUL_STG_CMD_RESULT, Reg.RUL_STG_CMD_QUOTA_LEFT, Reg.RUL_INT_STATUS_COMMITTED, Reg.RUL_INT_EN_COMMITTED, Reg.RUL_INT_STATUS_COMMIT_FAIL, Reg.RUL_INT_EN_COMMIT_FAIL] ++
  [Reg.RUL_INT_STATUS_RETIRED, Reg.RUL_INT_EN_RETIRED, Reg.RUL_STG_DATA, Reg.RUL_COMMIT_CNT, Reg.RUL_COMMIT_CNT_HI, Reg.RUL_BUSY_CNT, Reg.RUL_BUSY_CNT_HI]

/-- Every field of BAR0 page 4 (Table 24.1). -/
def Reg.page4 : List Fld :=
  [Reg.TBL_L2_CFG_POLICY, Reg.TBL_L2_AGE_AGE_TIME, Reg.TBL_EP_CFG_DYN_BASE, Reg.TBL_SEED_A_SEED, Reg.TBL_SEED_B_SEED, Reg.TBL_COUNT_COUNT, Reg.TBL_SEL_TABLE, Reg.TBL_SEL_SPACE, Reg.TBL_SEL_BY_INDEX, Reg.TBL_SEL_INDEX, Reg.TBL_CMD_CMD, Reg.TBL_CMD_RESULT] ++
  [Reg.TBL_CMD_PENDING, Reg.TBL_CMD_FLUSH_BUSY, Reg.TBL_SPACE_KEY_LEN, Reg.TBL_SPACE_POLICY, Reg.TBL_SPACE_OWNER, Reg.TBL_SPACE_EN, Reg.TBL_SPACE_QUOTA, Reg.TBL_SPACE_AGE_TIME, Reg.TBL_SPACE_USED, Reg.TBL_PORT_LEARN_LIMIT, Reg.TBL_PORT_ADMIT, Reg.TBL_PORT_OWNER] ++
  [Reg.TBL_INT_STATUS_CMD_DONE, Reg.TBL_INT_EN_CMD_DONE, Reg.TBL_INT_STATUS_FLUSH_DONE, Reg.TBL_INT_EN_FLUSH_DONE, Reg.TBL_INT_STATUS_EP_PENDING, Reg.TBL_INT_EN_EP_PENDING, Reg.TBL_INT_STATUS_EP_FULL, Reg.TBL_INT_EN_EP_FULL, Reg.TBL_INT_STATUS_LEARN_FAIL, Reg.TBL_INT_EN_LEARN_FAIL, Reg.TBL_INT_STATUS_CTX_LOST, Reg.TBL_INT_EN_CTX_LOST] ++
  [Reg.TBL_DATA, Reg.TBL_PORT_USED, Reg.TBL_LEARN_CNT, Reg.TBL_LEARN_CNT_HI, Reg.TBL_LEARN_FAIL, Reg.TBL_LEARN_FAIL_HI, Reg.TBL_LEARN_DROP, Reg.TBL_LEARN_DROP_HI, Reg.TBL_LEARN_BAD, Reg.TBL_LEARN_BAD_HI, Reg.TBL_LEARN_LIMIT, Reg.TBL_LEARN_LIMIT_HI] ++
  [Reg.TBL_MOVE_CNT, Reg.TBL_MOVE_CNT_HI, Reg.TBL_MOVE_DENY, Reg.TBL_MOVE_DENY_HI, Reg.TBL_AGE_CNT, Reg.TBL_AGE_CNT_HI, Reg.TBL_EVICT_L2, Reg.TBL_EVICT_L2_HI, Reg.TBL_EVICT_FLOW, Reg.TBL_EVICT_FLOW_HI, Reg.TBL_FLOW_FULL, Reg.TBL_FLOW_FULL_HI] ++
  [Reg.TBL_CTX_LOST, Reg.TBL_CTX_LOST_HI, Reg.TBL_EP_FULL, Reg.TBL_EP_FULL_HI]

/-- Every field of BAR0 page 5 (Table 24.1). -/
def Reg.page5 : List Fld :=
  [Reg.CIS_STATUS_ERR_COUNT, Reg.CIS_STATUS_LOST_ANY, Reg.CIS_SEL_POOL, Reg.CIS_POOL_CFG_SIZE, Reg.CIS_POOL_CFG_EN, Reg.CIS_POOL_CFG_SCRUB, Reg.CIS_POOL_COUNT_COUNT, Reg.CIS_POOL_FREE_FREE, Reg.CIS_POOL_LOST_LOST, Reg.CIS_POOL_CACHE_CACHED, Reg.CIS_POOL_CACHE_REFILLING, Reg.CIS_POOL_CACHE_SPILLING] ++
  [Reg.CIS_QUOTA_QUOTA, Reg.CIS_USED_USED, Reg.CIS_ERR_POP_GO, Reg.CIS_ERR_POP_RESULT, Reg.CIS_ERR_DATA_DATA, Reg.CIS_INT_STATUS_ERR, Reg.CIS_INT_EN_ERR, Reg.CIS_INT_STATUS_ERR_FULL, Reg.CIS_INT_EN_ERR_FULL, Reg.CIS_INT_STATUS_LOST, Reg.CIS_INT_EN_LOST, Reg.CIS_INT_STATUS_EMPTY] ++
  [Reg.CIS_INT_EN_EMPTY, Reg.CIS_ALLOC_CNT, Reg.CIS_ALLOC_CNT_HI, Reg.CIS_FREE_CNT, Reg.CIS_FREE_CNT_HI, Reg.CIS_EMPTY_CNT, Reg.CIS_EMPTY_CNT_HI, Reg.CIS_QUOTA_CNT, Reg.CIS_QUOTA_CNT_HI, Reg.CIS_DOUBLE_CNT, Reg.CIS_DOUBLE_CNT_HI, Reg.CIS_DENIED_CNT] ++
  [Reg.CIS_DENIED_CNT_HI, Reg.CIS_LOST_CNT, Reg.CIS_LOST_CNT_HI, Reg.CIS_RECLAIM_CNT, Reg.CIS_RECLAIM_CNT_HI, Reg.CIS_ERR_OVF_CNT, Reg.CIS_ERR_OVF_CNT_HI]

/-- Every field of BAR0 page 6 (Table 24.1). -/
def Reg.page6 : List Fld :=
  [Reg.SLU_STATUS_COPIES, Reg.SLU_SEL_KIND, Reg.SLU_SEL_BANK, Reg.SLU_SEL_INDEX, Reg.SLU_CMD_CMD, Reg.SLU_CMD_RESULT, Reg.SLU_CMD_PENDING, Reg.SLU_INT_STATUS_CONFIG_DONE, Reg.SLU_INT_EN_CONFIG_DONE, Reg.SLU_INT_STATUS_OVERRUN, Reg.SLU_INT_EN_OVERRUN, Reg.SLU_INT_STATUS_GATE_OVERRUN] ++
  [Reg.SLU_INT_EN_GATE_OVERRUN, Reg.SLU_INT_STATUS_FILTER_BLOCKED, Reg.SLU_INT_EN_FILTER_BLOCKED, Reg.SLU_INT_STATUS_GATE_CLOSED_INVALID, Reg.SLU_INT_EN_GATE_CLOSED_INVALID, Reg.SLU_INT_STATUS_SRF_RESET, Reg.SLU_INT_EN_SRF_RESET, Reg.SLU_DATA, Reg.SLU_COPY_CNT, Reg.SLU_COPY_CNT_HI, Reg.SLU_TX_CNT, Reg.SLU_TX_CNT_HI] ++
  [Reg.SLU_OVERRUN_CNT, Reg.SLU_OVERRUN_CNT_HI, Reg.SLU_FLUSH_CNT, Reg.SLU_FLUSH_CNT_HI, Reg.SLU_DORMANT_CNT, Reg.SLU_DORMANT_CNT_HI]

/-- Every field of BAR0 page 7 (Table 24.1). -/
def Reg.page7 : List Fld :=
  [Reg.LKG_STATUS_HELD, Reg.LKG_STATUS_WAITERS, Reg.LKG_HREQ0_LOCK, Reg.LKG_HREQ0_OP, Reg.LKG_HREQ0_N, Reg.LKG_HREQ1_PRIO, Reg.LKG_HREQ1_GO, Reg.LKG_HREQ1_TO, Reg.LKG_HRES_RESULT, Reg.LKG_HRES_PENDING, Reg.LKG_HVAL_VALUE, Reg.LKG_CMD_LOCK] ++
  [Reg.LKG_CMD_CMD, Reg.LKG_CMD_VALUE, Reg.LKG_CMD_RES_RESULT, Reg.LKG_GRP_PART, Reg.LKG_GRP_BASIN, Reg.LKG_GRP_KIND, Reg.LKG_GRP_EN, Reg.LKG_INT_STATUS_HOST_DONE, Reg.LKG_INT_EN_HOST_DONE, Reg.LKG_INT_STATUS_ABANDONED, Reg.LKG_INT_EN_ABANDONED, Reg.LKG_INT_STATUS_FORCED] ++
  [Reg.LKG_INT_EN_FORCED, Reg.LKG_INT_STATUS_CYCLE, Reg.LKG_INT_EN_CYCLE, Reg.LKG_ACQ_CNT, Reg.LKG_ACQ_CNT_HI, Reg.LKG_WAIT_CNT, Reg.LKG_WAIT_CNT_HI, Reg.LKG_TIMEOUT_CNT, Reg.LKG_TIMEOUT_CNT_HI, Reg.LKG_ABANDON_CNT, Reg.LKG_ABANDON_CNT_HI, Reg.LKG_FORCE_CNT] ++
  [Reg.LKG_FORCE_CNT_HI, Reg.LKG_DEPTH_CNT, Reg.LKG_DEPTH_CNT_HI, Reg.LKG_CYCLE_CNT, Reg.LKG_CYCLE_CNT_HI, Reg.LKG_DENIED_CNT, Reg.LKG_DENIED_CNT_HI]

/-- Every field of BAR0 page 8 (Table 24.1). -/
def Reg.page8 : List Fld :=
  [Reg.PMP_STATUS_FIFO, Reg.PMP_STATUS_INUSE, Reg.PMP_CE_CMD_CE, Reg.PMP_CE_CMD_RESTART, Reg.PMP_CE_CMD_RESULT, Reg.PMP_CE_STATE, Reg.PMP_CE_DESC, Reg.PMP_CE_EFF, Reg.PMP_POST_DESC, Reg.PMP_POST_FLAGS, Reg.PMP_POST_STAT_RESULT, Reg.PMP_DESC_SEL_DESC] ++
  [Reg.PMP_INT_STATUS_DOUBLE_FAULT, Reg.PMP_INT_EN_DOUBLE_FAULT, Reg.PMP_INT_STATUS_FIFO_FULL, Reg.PMP_INT_EN_FIFO_FULL, Reg.PMP_INT_STATUS_POST_LOST, Reg.PMP_INT_EN_POST_LOST, Reg.PMP_DESC_W, Reg.PMP_SWITCH_CNT, Reg.PMP_SWITCH_CNT_HI, Reg.PMP_PREEMPT_CNT, Reg.PMP_PREEMPT_CNT_HI, Reg.PMP_POST_CNT] ++
  [Reg.PMP_POST_CNT_HI, Reg.PMP_POST_LOST_CNT, Reg.PMP_POST_LOST_CNT_HI, Reg.PMP_RETRY_CNT, Reg.PMP_RETRY_CNT_HI, Reg.PMP_TIMEOUT_CNT, Reg.PMP_TIMEOUT_CNT_HI]

/-- Every field of BAR0 page 9 (Table 24.1). -/
def Reg.page9 : List Fld :=
  [Reg.BSN_STATUS_OUT, Reg.BSN_STATUS_PERM, Reg.BSN_BASIN_SPARE, Reg.BSN_BASIN_SPARE_USED, Reg.BSN_BASIN_WHY, Reg.BSN_ENG_CMD_ENGINE, Reg.BSN_ENG_CMD_CMD, Reg.BSN_ENG_CMD_RESULT, Reg.BSN_ENG_CMD_PENDING, Reg.BSN_ENG_PHYS, Reg.BSN_ENG_ESTATE, Reg.BSN_ENG_ESC_PENDING] ++
  [Reg.BSN_ENG_CAUSE, Reg.BSN_ENG_STILL_LIMIT, Reg.BSN_ENG_CALL, Reg.BSN_THR_STATE, Reg.BSN_INT_STATUS_ESCALATED, Reg.BSN_INT_EN_ESCALATED, Reg.BSN_INT_STATUS_STILL_WATER, Reg.BSN_INT_EN_STILL_WATER, Reg.BSN_INT_STATUS_SWAPPED, Reg.BSN_INT_EN_SWAPPED, Reg.BSN_INT_STATUS_NO_SPARE, Reg.BSN_INT_EN_NO_SPARE] ++
  [Reg.BSN_INT_STATUS_RESET_DONE, Reg.BSN_INT_EN_RESET_DONE, Reg.BSN_HLP_CRY_EN, Reg.BSN_HLP_CHK_EN, Reg.BSN_HLP_CRY_STATE, Reg.BSN_HLP_CHK_STATE, Reg.BSN_HLP_CRY_ENABLE_PENDING, Reg.BSN_HLP_CHK_ENABLE_PENDING, Reg.BSN_HLP_CRY_OWNER, Reg.BSN_HLP_CHK_OWNER, Reg.BSN_HLP_INT_STATUS_HLP_FAIL, Reg.BSN_HLP_INT_EN_HLP_FAIL] ++
  [Reg.BSN_HLP_INT_STATUS_SLOT_LOST, Reg.BSN_HLP_INT_EN_SLOT_LOST, Reg.BSN_CH_SEL_INDEX, Reg.BSN_CH_SEL_BASIN, Reg.BSN_CH_CAP_CAP, Reg.BSN_CH_HIGH_HIGH, Reg.BSN_CH_LOW_LOW, Reg.BSN_CH_ACT_KIND, Reg.BSN_CH_ACT_PIN, Reg.BSN_CH_ACT_PORT, Reg.BSN_CH_ACT_PRI, Reg.BSN_CH_ACT_NOTIFY] ++
  [Reg.BSN_CH_ACT_PART, Reg.BSN_CH_END_PROD, Reg.BSN_CH_END_CONS, Reg.BSN_CH_STAT0_FILL, Reg.BSN_CH_STAT0_ABOVE, Reg.BSN_CH_STAT0_OPEN, Reg.BSN_CH_STAT0_HEAD_ABORTED, Reg.BSN_CH_STAT1_PKTS, Reg.BSN_CH_INT_STATUS_ABORT, Reg.BSN_CH_INT_STATUS_DISCARD, Reg.BSN_CH_INT_STATUS_LOST, Reg.BSN_CH_INT_STATUS_FCO] ++
  [Reg.BSN_FCO_POL, Reg.BSN_FCO_MIN_HOLD, Reg.BSN_FCO_STATE, Reg.BSN_CH_INT_EN_ABORT, Reg.BSN_CH_INT_EN_DISCARD, Reg.BSN_CH_INT_EN_LOST, Reg.BSN_CH_INT_EN_FCO, Reg.BSN_FAULT_CNT, Reg.BSN_FAULT_CNT_HI, Reg.BSN_ESC_CNT, Reg.BSN_ESC_CNT_HI, Reg.BSN_STILL_CNT] ++
  [Reg.BSN_STILL_CNT_HI, Reg.BSN_RESET_CNT, Reg.BSN_RESET_CNT_HI, Reg.BSN_SWAP_CNT, Reg.BSN_SWAP_CNT_HI, Reg.BSN_ECC_CNT, Reg.BSN_ECC_CNT_HI, Reg.BSN_PARK_CNT, Reg.BSN_PARK_CNT_HI, Reg.BSN_HLP_SWITCH_CNT, Reg.BSN_HLP_SWITCH_CNT_HI, Reg.BSN_HLP_ORPHAN_CNT] ++
  [Reg.BSN_HLP_ORPHAN_CNT_HI, Reg.BSN_HLP_LOST_CNT, Reg.BSN_HLP_LOST_CNT_HI, Reg.BSN_CH_ABORT_CNT, Reg.BSN_CH_ABORT_CNT_HI, Reg.BSN_CH_DISCARD_CNT, Reg.BSN_CH_DISCARD_CNT_HI, Reg.BSN_CH_LOST_CNT, Reg.BSN_CH_LOST_CNT_HI, Reg.BSN_CH_TIMEOUT_CNT, Reg.BSN_CH_TIMEOUT_CNT_HI]

/-- Every field of BAR0 page 10 (Table 24.1). -/
def Reg.page10 : List Fld :=
  [Reg.EDG_STATUS_PORTS_UP, Reg.EDG_STATUS_SPARES, Reg.EDG_LANE_CMD_LANE, Reg.EDG_LANE_CMD_CMD, Reg.EDG_LANE_CMD_RESULT, Reg.EDG_LANE_CMD_PENDING, Reg.EDG_CNT_SEL_SOURCE, Reg.EDG_LANE_SLICE, Reg.EDG_LANE_USE, Reg.EDG_LANE_STATE, Reg.EDG_LANE_MARGIN, Reg.EDG_QUAD_LANE] ++
  [Reg.EDG_QUAD_SPARE_USED, Reg.EDG_QUAD_SPARE_FAILED, Reg.EDG_PORT_MODE, Reg.EDG_PORT_FEC, Reg.EDG_PORT_LINK, Reg.EDG_PORT_PLUG, Reg.EDG_PORT_MACSEC, Reg.EDG_PORT_VERIFY, Reg.EDG_PORT_CAUSE, Reg.EDG_PORT_UNPLUG_BUSY, Reg.EDG_PORT_LINK_HOLD, Reg.EDG_T1S_PLCA_EN] ++
  [Reg.EDG_T1S_ROLE, Reg.EDG_T1S_LINK, Reg.EDG_T1S_PLUG, Reg.EDG_T1S_NODE_ID, Reg.EDG_T1S_NODE_COUNT, Reg.EDG_T1S_BURST_CNT, Reg.EDG_T1S_SEEN, Reg.EDG_CAN_STATE, Reg.EDG_CAN_FD_EN, Reg.EDG_CAN_XL_EN, Reg.EDG_CAN_AUTO_RECOVER, Reg.EDG_CAN_TEC] ++
  [Reg.EDG_CAN_REC, Reg.EDG_CAN_TXQ, Reg.EDG_PRES_LEVEL, Reg.EDG_PRES_RAW, Reg.EDG_PRESCFG_POL, Reg.EDG_PRESCFG_MODE, Reg.EDG_PRESCFG_EDGES, Reg.EDG_PRESCFG_WAKE, Reg.EDG_PRESCFG_TOUCH, Reg.EDG_PRESCFG_LATCHED, Reg.EDG_PRESCFG_LOST, Reg.EDG_INT_STATUS_LINK_CHANGE] ++
  [Reg.EDG_INT_EN_LINK_CHANGE, Reg.EDG_INT_STATUS_SPARE_USED, Reg.EDG_INT_EN_SPARE_USED, Reg.EDG_INT_STATUS_LANE_FAILED, Reg.EDG_INT_EN_LANE_FAILED, Reg.EDG_INT_STATUS_MACSEC_PN, Reg.EDG_INT_EN_MACSEC_PN, Reg.EDG_INT_STATUS_CAN_BUSOFF, Reg.EDG_INT_EN_CAN_BUSOFF, Reg.EDG_INT_STATUS_PRES_LOST, Reg.EDG_INT_EN_PRES_LOST, Reg.EDG_INT_STATUS_VERIFY_FAIL] ++
  [Reg.EDG_INT_EN_VERIFY_FAIL, Reg.EDG_RX_CNT, Reg.EDG_RX_CNT_HI, Reg.EDG_FCS_CNT, Reg.EDG_FCS_CNT_HI, Reg.EDG_RUNT_CNT, Reg.EDG_RUNT_CNT_HI, Reg.EDG_LONG_CNT, Reg.EDG_LONG_CNT_HI, Reg.EDG_MACSEC_CNT, Reg.EDG_MACSEC_CNT_HI, Reg.EDG_CUT_CNT] ++
  [Reg.EDG_CUT_CNT_HI, Reg.EDG_NOBUF_CNT, Reg.EDG_NOBUF_CNT_HI, Reg.EDG_EARLY_CNT, Reg.EDG_EARLY_CNT_HI, Reg.EDG_TX_CNT, Reg.EDG_TX_CNT_HI, Reg.EDG_TX_DROP, Reg.EDG_TX_DROP_HI, Reg.EDG_TS_OVF, Reg.EDG_TS_OVF_HI, Reg.EDG_PROTO_CNT] ++
  [Reg.EDG_PROTO_CNT_HI, Reg.EDG_PLUG_CNT, Reg.EDG_PLUG_CNT_HI]

/-- Every field of BAR0 page 11 (Table 24.1). -/
def Reg.page11 : List Fld :=
  [Reg.TIM_CFG_DOM_EN, Reg.TIM_CFG_TICK_DOM, Reg.TIM_CFG_PPS_DOM, Reg.TIM_CFG_TICK_PERIOD, Reg.TIM_CMD_SNAP, Reg.TIM_CMD_STEP, Reg.TIM_CMD_STEP_DOM, Reg.TIM_CMD_RESULT, Reg.TIM_LOCAL_LO_TIME, Reg.TIM_LOCAL_HI_TIME, Reg.TIM_NET_LO_TIME, Reg.TIM_NET_HI_TIME] ++
  [Reg.TIM_RATE_RATE, Reg.TIM_OFFSET_LO_OFFSET, Reg.TIM_OFFSET_HI_OFFSET, Reg.TIM_PPS_WIDTH, Reg.TIM_PPS_OUT_EN, Reg.TIM_PPS_IN_EN, Reg.TIM_PPSIN_LO_TIME, Reg.TIM_PPSIN_HI_TIME, Reg.TIM_INT_STATUS_STEPPED, Reg.TIM_INT_STATUS_PPS_IN, Reg.TIM_INT_EN_EN]

/-- Every field of BAR0 page 12 (Table 24.1). -/
def Reg.page12 : List Fld :=
  [Reg.PWR_STATUS_STATE, Reg.PWR_STATUS_BUSY, Reg.PWR_STATUS_TARGET, Reg.PWR_STATUS_FLOOR_BREACH, Reg.PWR_STATUS_SHED_STEP, Reg.PWR_STATUS_WAKE_CAUSE, Reg.PWR_CFG_EN, Reg.PWR_CFG_DWELL, Reg.PWR_CFG_IDLE, Reg.PWR_IMG_LAT_LAT, Reg.PWR_FLOOR_FLOOR, Reg.PWR_FLOOR_MARGIN] ++
  [Reg.PWR_FLOOR_R_FLOOR_RIPPLE, Reg.PWR_VCORE_V, Reg.PWR_VCORE_VMAX, Reg.PWR_LOAD_LOAD, Reg.PWR_SHED_CLASS, Reg.PWR_SHED_VALID, Reg.PWR_WAKE_TIMER_MS, Reg.PWR_CMD_CMD, Reg.PWR_CMD_RESULT, Reg.PWR_INT_STATUS_STATE_CHANGE, Reg.PWR_INT_EN_STATE_CHANGE, Reg.PWR_INT_STATUS_FLOOR_BREACH] ++
  [Reg.PWR_INT_EN_FLOOR_BREACH, Reg.PWR_INT_STATUS_BREACH_CLEAR, Reg.PWR_INT_EN_BREACH_CLEAR, Reg.PWR_INT_STATUS_PMBUS_ERR, Reg.PWR_INT_EN_PMBUS_ERR, Reg.PWR_ENTRY_CNT, Reg.PWR_ENTRY_CNT_HI, Reg.PWR_BREACH_CNT, Reg.PWR_BREACH_CNT_HI, Reg.PWR_SHED_CNT, Reg.PWR_SHED_CNT_HI, Reg.PWR_VSTEP_CNT] ++
  [Reg.PWR_VSTEP_CNT_HI]

/-- Every field of BAR0 page 13 (Table 24.1). -/
def Reg.page13 : List Fld :=
  [Reg.GAU_TEMP_TEMP, Reg.GAU_TEMP_VALID, Reg.GAU_VOLT_MV, Reg.GAU_VOLT_VALID, Reg.GAU_SPEED_SPEED, Reg.GAU_SPEED_VALID, Reg.GAU_SUMMARY_TMAX, Reg.GAU_SUMMARY_SMIN, Reg.GAU_THRESH_WARN, Reg.GAU_THRESH_TRIP, Reg.GAU_INT_STATUS_TEMP_WARN, Reg.GAU_INT_STATUS_SPEED_LOW] ++
  [Reg.GAU_INT_EN_EN]

/-- Every field of BAR0 page 14 (Table 24.1). -/
def Reg.page14 : List Fld :=
  [Reg.FTH_STATUS_LC, Reg.FTH_STATUS_LC_PENDING, Reg.FTH_STATUS_PRESS_WAIT, Reg.FTH_STATUS_RIGHTS, Reg.FTH_STATUS_LOCKDOWN, Reg.FTH_STATUS_SLOT_RUN, Reg.FTH_STATUS_DEGRADED, Reg.FTH_STATUS_SLOT0_CAUSE, Reg.FTH_STATUS_SLOT1_CAUSE, Reg.FTH_CMD_CMD, Reg.FTH_CMD_ARG, Reg.FTH_CMD_RESULT] ++
  [Reg.FTH_CMD_PENDING, Reg.FTH_WIN_CMD_TARGET, Reg.FTH_WIN_CMD_WRITE, Reg.FTH_WIN_CMD_GO, Reg.FTH_WIN_CMD_RESULT, Reg.FTH_WIN_CMD_OFFSET, Reg.FTH_COUNTER0_VALUE, Reg.FTH_COUNTER1_VALUE, Reg.FTH_BOOT_COUNT_VALUE, Reg.FTH_KEYS_PRESENT, Reg.FTH_KEYS_REVOKED, Reg.FTH_NONCE_BYTES] ++
  [Reg.FTH_FLOG_COUNT_COUNT, Reg.FTH_FLOG_DATA_WORD, Reg.FTH_DEVICE_ID_BYTES, Reg.FTH_INT_STATUS_CMD_DONE, Reg.FTH_INT_EN_CMD_DONE, Reg.FTH_INT_STATUS_LC_ACCEPTED, Reg.FTH_INT_EN_LC_ACCEPTED, Reg.FTH_INT_STATUS_UNLOCKED, Reg.FTH_INT_EN_UNLOCKED, Reg.FTH_INT_STATUS_LOCKDOWN, Reg.FTH_INT_EN_LOCKDOWN, Reg.FTH_INT_STATUS_IMAGE_REFUSED] ++
  [Reg.FTH_INT_EN_IMAGE_REFUSED, Reg.FTH_ST_STATUS_RUNNING, Reg.FTH_ST_STATUS_REGION, Reg.FTH_ST_STATUS_STEP, Reg.FTH_ST_STATUS_NEXT, Reg.FTH_ST_STATUS_DEFERRED, Reg.FTH_ST_STATUS_WHY, Reg.FTH_ST_CMD_CMD, Reg.FTH_ST_CMD_REGION, Reg.FTH_ST_CMD_RESULT, Reg.FTH_ST_RESULT_OUTCOME, Reg.FTH_ST_RESULT_HELPER] ++
  [Reg.FTH_ST_RESULT_FAIL, Reg.FTH_ST_RESULT_MEM, Reg.FTH_RSV_COUNT_COUNT, Reg.FTH_RSV_DATA_WORD, Reg.FTH_ST_INT_STATUS_TEST_DONE, Reg.FTH_ST_INT_STATUS_TEST_FAIL, Reg.FTH_ST_INT_STATUS_SPARE_IN, Reg.FTH_ST_INT_STATUS_DEGRADED, Reg.FTH_ST_INT_STATUS_AGEING, Reg.FTH_ST_INT_EN_EN]

/-- Every field of BAR0 page 15 (Table 24.1). -/
def Reg.page15 : List Fld :=
  [Reg.RPL_STATUS_RECORDING, Reg.RPL_STATUS_TRIGGERED, Reg.RPL_STATUS_FROZEN, Reg.RPL_STATUS_REPLAY, Reg.RPL_STATUS_DIVERGED, Reg.RPL_STATUS_FREEZE_CAUSE, Reg.RPL_CFG_RING_MIB, Reg.RPL_CFG_EXP_MIB, Reg.RPL_BASES_RING, Reg.RPL_BASES_EXP, Reg.RPL_RING_FIRST_INDEX, Reg.RPL_RING_NEXT_INDEX] ++
  [Reg.RPL_FILT_PORT0_NP, Reg.RPL_FILT_PORT1_EDGE, Reg.RPL_FILT_PORT2_PRES, Reg.RPL_FILT_PORT2_HOST, Reg.RPL_FILT_PORT2_CP, Reg.RPL_DOM_FIRST, Reg.RPL_DOM_LAST, Reg.RPL_RATE_RATE, Reg.RPL_TRIG_DRY_MASK, Reg.RPL_TRIG_MARK_EN, Reg.RPL_TRIG_POST_MIB, Reg.RPL_CMD_CMD] ++
  [Reg.RPL_CMD_RESULT, Reg.RPL_CMD_PENDING, Reg.RPL_EXP_FIRST_INDEX, Reg.RPL_EXP_COUNT_COUNT, Reg.RPL_RPY_CFG_BASIN, Reg.RPL_RPY_CFG_SRC, Reg.RPL_RPY_STAT_DONE, Reg.RPL_RPY_STAT_INEXACT, Reg.RPL_RPY_DIV_INDEX, Reg.RPL_DBG_SEL_TARGET, Reg.RPL_DBG_SEL_KIND, Reg.RPL_DBG_CMD_CMD] ++
  [Reg.RPL_DBG_CMD_RESULT, Reg.RPL_DBG_CMD_REG, Reg.RPL_DBG_CMD_BRK, Reg.RPL_DBG_DATA_DATA, Reg.RPL_DBG_BRK_ADDR, Reg.RPL_DBG_BRK_THREADS, Reg.RPL_DBG_BRK_EN, Reg.RPL_INT_STATUS_EVENTS, Reg.RPL_INT_EN_EN, Reg.RPL_REC_CNT, Reg.RPL_REC_CNT_HI, Reg.RPL_SKIP_CNT] ++
  [Reg.RPL_SKIP_CNT_HI, Reg.RPL_LOGLOST_CNT, Reg.RPL_LOGLOST_CNT_HI, Reg.RPL_BYTES_CNT, Reg.RPL_BYTES_CNT_HI]

/-- Every field of BAR0 page 16 (Table 24.1). -/
def Reg.page16 : List Fld :=
  [Reg.XNG_STATUS_CLK_OK, Reg.XNG_STATUS_IN_RESET, Reg.XNG_RESET_CAUSE_CAUSE, Reg.XNG_RESET_CAUSE_HUNG, Reg.XNG_ISL_CMD_ISLAND, Reg.XNG_ISL_CMD_GO, Reg.XNG_ISL_CMD_RESULT, Reg.XNG_XSEL_ISLAND, Reg.XNG_XSEL_CHAN, Reg.XNG_XSTAT_PENDING, Reg.XNG_XSTAT_KIND, Reg.XNG_XSTAT_XING_SAT] ++
  [Reg.XNG_XSTAT_FLUSHED, Reg.XNG_XSTAT_HUNG, Reg.XNG_INT_STATUS_CLK_STOP, Reg.XNG_INT_EN_CLK_STOP, Reg.XNG_INT_STATUS_CLK_BACK, Reg.XNG_INT_EN_CLK_BACK, Reg.XNG_INT_STATUS_SAT, Reg.XNG_INT_EN_SAT, Reg.XNG_INT_STATUS_ISL_RESET_DONE, Reg.XNG_INT_EN_ISL_RESET_DONE, Reg.XNG_LOST_CNT, Reg.XNG_LOST_CNT_HI] ++
  [Reg.XNG_ISL_RESET_CNT, Reg.XNG_ISL_RESET_CNT_HI]

/-- Every field of BAR0 page 17 (Table 24.1). -/
def Reg.page17 : List Fld :=
  [Reg.HST_PART_PART, Reg.HST_PART_SUP, Reg.HST_PART_KIND, Reg.HST_PART_WIDTH, Reg.HST_PART_RATE, Reg.HST_STATUS_RESET_BUSY, Reg.HST_LAT_LAT, Reg.HST_PRST_PART, Reg.HST_PRST_GO, Reg.HST_PRST_RESULT, Reg.HST_RXQ_BASE_LO, Reg.HST_TXQ_BASE_LO] ++
  [Reg.HST_RXQ_BASE_HI, Reg.HST_TXQ_BASE_HI, Reg.HST_RXQ_EN, Reg.HST_TXQ_EN, Reg.HST_RXQ_STATE, Reg.HST_TXQ_STATE, Reg.HST_RXQ_ENABLE_PENDING, Reg.HST_TXQ_ENABLE_PENDING, Reg.HST_RXQ_LOG2, Reg.HST_TXQ_LOG2, Reg.HST_RXQ_SLOT, Reg.HST_TXQ_SLOT] ++
  [Reg.HST_RXQ_ITR, Reg.HST_TXQ_ITR, Reg.HST_RXQ_ERR, Reg.HST_TXQ_ERR, Reg.HST_RXQ_WB_LO, Reg.HST_TXQ_WB_LO, Reg.HST_RXQ_WB_HI, Reg.HST_TXQ_WB_HI, Reg.HST_RXQ_PROD, Reg.HST_TXQ_PROD, Reg.HST_RXQ_CONS, Reg.HST_TXQ_CONS] ++
  [Reg.HST_INT_STATUS_QUEUE_ERR, Reg.HST_INT_EN_QUEUE_ERR, Reg.HST_INT_STATUS_OVERSIZE, Reg.HST_INT_EN_OVERSIZE, Reg.HST_INT_STATUS_TX_REFUSED, Reg.HST_INT_EN_TX_REFUSED, Reg.HST_INT_STATUS_PART_RESET, Reg.HST_INT_EN_PART_RESET, Reg.HST_RX_MSG_CNT, Reg.HST_RX_MSG_CNT_HI, Reg.HST_RX_OVERSIZE, Reg.HST_RX_OVERSIZE_HI] ++
  [Reg.HST_TX_MSG_CNT, Reg.HST_TX_MSG_CNT_HI, Reg.HST_TX_REFUSE, Reg.HST_TX_REFUSE_HI, Reg.HST_TX_ABORT, Reg.HST_TX_ABORT_HI, Reg.HST_BAR4_LOST, Reg.HST_BAR4_LOST_HI, Reg.HST_RESET_CNT, Reg.HST_RESET_CNT_HI, Reg.HST_EOE_GAP, Reg.HST_EOE_GAP_HI] ++
  [Reg.HST_EOE_BAD, Reg.HST_EOE_BAD_HI]

/-- Every field of BAR0 page 18 (Table 24.1). -/
def Reg.page18 : List Fld :=
  [Reg.IPD_STATUS_ONLINE, Reg.IPD_STATUS_SPARES, Reg.IPD_STATUS_TRAINED, Reg.IPD_STATUS_DEGRADED, Reg.IPD_STATUS_FULL_TRAIN, Reg.IPD_STATUS_FT_PC, Reg.IPD_STATUS_COPYING, Reg.IPD_STATUS_COPY_PC, Reg.IPD_CFG_AGE_LIMIT, Reg.IPD_CFG_SCRUB_PERIOD, Reg.IPD_CFG_CE_THRESH, Reg.IPD_NR_CFG_NR_THRESH] ++
  [Reg.IPD_NR_CFG_NR_DIST, Reg.IPD_MAP_ORDER, Reg.IPD_OFFLINE_PC, Reg.IPD_PC_SEL_PC, Reg.IPD_PC_STAT_PHYS, Reg.IPD_PC_STAT_STATE, Reg.IPD_PC_STAT_TEMP, Reg.IPD_PC_STAT_MARGIN, Reg.IPD_PC_SPARE_ROWS, Reg.IPD_PC_SPARE_DQ_LANES, Reg.IPD_PC_SPARE_CA_LANE, Reg.IPD_PC_SPARE_COLS] ++
  [Reg.IPD_PC_CE_COUNT, Reg.IPD_POISON_LO_ADDR, Reg.IPD_POISON_HI_ADDR32, Reg.IPD_POISON_HI_VALID, Reg.IPD_CACHE_SEL_CACHE, Reg.IPD_INT_STATUS_CE_THRESH, Reg.IPD_INT_EN_CE_THRESH, Reg.IPD_INT_STATUS_UE, Reg.IPD_INT_EN_UE, Reg.IPD_INT_STATUS_RETRAIN_DONE, Reg.IPD_INT_EN_RETRAIN_DONE, Reg.IPD_INT_STATUS_RETIRED] ++
  [Reg.IPD_INT_EN_RETIRED, Reg.IPD_INT_STATUS_OFFLINE, Reg.IPD_INT_EN_OFFLINE, Reg.IPD_INT_STATUS_ROW_SPARED, Reg.IPD_INT_EN_ROW_SPARED, Reg.IPD_CE_CNT, Reg.IPD_CE_CNT_HI, Reg.IPD_UE_CNT, Reg.IPD_UE_CNT_HI, Reg.IPD_POISON_CNT, Reg.IPD_POISON_CNT_HI, Reg.IPD_NREF_CNT] ++
  [Reg.IPD_NREF_CNT_HI, Reg.IPD_PROMOTE_CNT, Reg.IPD_PROMOTE_CNT_HI, Reg.IPD_TRACK_CNT, Reg.IPD_TRACK_CNT_HI, Reg.IPD_RETRAIN_CNT, Reg.IPD_RETRAIN_CNT_HI, Reg.IPD_ROWSPARE_CNT, Reg.IPD_ROWSPARE_CNT_HI, Reg.IPD_C_HIT, Reg.IPD_C_HIT_HI, Reg.IPD_C_MISS] ++
  [Reg.IPD_C_MISS_HI, Reg.IPD_C_WB, Reg.IPD_C_WB_HI, Reg.IPD_C_CE, Reg.IPD_C_CE_HI, Reg.IPD_C_UE, Reg.IPD_C_UE_HI]

/-- Every field of the Sluice object kind 0 (Table 14.9). -/
def Reg.obj0 : List Fld :=
  [Reg.SLU_PORT_EN, Reg.SLU_PORT_STATE, Reg.SLU_PORT_ENABLE_PENDING, Reg.SLU_PORT_LINK, Reg.SLU_PORT_PLUG, Reg.SLU_PORT_RX_PAUSE, Reg.SLU_PORT_PREEMPT, Reg.SLU_PORT_ADD_FRAG, Reg.SLU_PORT_FCI_EN, Reg.SLU_PORT_FCI_PIN, Reg.SLU_PORT_FCI_POL, Reg.SLU_PORT_FCI_MASK] ++
  [Reg.SLU_PORT_OVERHEAD, Reg.SLU_PORT_SPEED, Reg.SLU_PORT_TB_RATE, Reg.SLU_PORT_TB_EN, Reg.SLU_PORT_TB_BURST, Reg.SLU_PORT_TB_CREDIT, Reg.SLU_PORT_GATE_EN, Reg.SLU_PORT_GATE_DOM, Reg.SLU_PORT_CONFIG_CHANGE, Reg.SLU_PORT_CONFIG_PENDING, Reg.SLU_PORT_ADMIN_LEN, Reg.SLU_PORT_ADMIN_CYCLE] ++
  [Reg.SLU_PORT_ADMIN_EXT, Reg.SLU_PORT_ADMIN_BASE, Reg.SLU_PORT_GATE_STATE, Reg.SLU_PORT_HOLD, Reg.SLU_PORT_OPER_ENTRY, Reg.SLU_PORT_OPER_CYCLE, Reg.SLU_PORT_OPER_LEN, Reg.SLU_PORT_CHANGE_TIME]

/-- Every field of the Sluice object kind 1 (Table 14.9). -/
def Reg.obj1 : List Fld :=
  [Reg.SLU_CLASS_EN, Reg.SLU_CLASS_STATE, Reg.SLU_CLASS_ENABLE_PENDING, Reg.SLU_CLASS_EXPRESS, Reg.SLU_CLASS_CBS_EN, Reg.SLU_CLASS_TB_EN, Reg.SLU_CLASS_METER_EN, Reg.SLU_CLASS_METER, Reg.SLU_CLASS_MAX_FRAMES, Reg.SLU_CLASS_YELLOW_FRAMES, Reg.SLU_CLASS_MAX_KIB, Reg.SLU_CLASS_MAX_SDU] ++
  [Reg.SLU_CLASS_TB_RATE, Reg.SLU_CLASS_TB_BURST, Reg.SLU_CLASS_CBS_IDLE, Reg.SLU_CLASS_CBS_HI, Reg.SLU_CLASS_CBS_LO, Reg.SLU_CLASS_FRAMES, Reg.SLU_CLASS_BYTES, Reg.SLU_CLASS_TB_CREDIT, Reg.SLU_CLASS_CBS_CREDIT, Reg.SLU_CLASS_TX_FRAMES, Reg.SLU_CLASS_DRIED]

/-- Every field of the Sluice object kind 2 (Table 14.9). -/
def Reg.obj2 : List Fld :=
  [Reg.SLU_HOSTQ_EN, Reg.SLU_HOSTQ_STATE, Reg.SLU_HOSTQ_ENABLE_PENDING, Reg.SLU_HOSTQ_METER_EN, Reg.SLU_HOSTQ_METER, Reg.SLU_HOSTQ_LIMIT, Reg.SLU_HOSTQ_YELLOW_LIMIT, Reg.SLU_HOSTQ_DELIVERED, Reg.SLU_HOSTQ_DRIED]

/-- Every field of the Sluice object kind 3 (Table 14.9). -/
def Reg.obj3 : List Fld :=
  [Reg.SLU_METER_MODE, Reg.SLU_METER_COLOUR_SRC, Reg.SLU_METER_DROP_RED, Reg.SLU_METER_ADJ, Reg.SLU_METER_CIR, Reg.SLU_METER_CBS, Reg.SLU_METER_PIR, Reg.SLU_METER_PBS, Reg.SLU_METER_TC, Reg.SLU_METER_TP, Reg.SLU_METER_GREEN, Reg.SLU_METER_YELLOW] ++
  [Reg.SLU_METER_RED]

/-- Every field of the Sluice object kind 4 (Table 14.9). -/
def Reg.obj4 : List Fld :=
  [Reg.SLU_FILTER_MAX_SDU, Reg.SLU_FILTER_BLOCK_EN, Reg.SLU_FILTER_BLOCKED, Reg.SLU_FILTER_GATE, Reg.SLU_FILTER_GATE_EN, Reg.SLU_FILTER_EN, Reg.SLU_FILTER_METER, Reg.SLU_FILTER_METER_EN, Reg.SLU_FILTER_SGF, Reg.SLU_FILTER_SGF_EN, Reg.SLU_FILTER_SRF, Reg.SLU_FILTER_SRF_EN] ++
  [Reg.SLU_FILTER_SRF_STRIP, Reg.SLU_FILTER_MATCHING, Reg.SLU_FILTER_PASSING, Reg.SLU_FILTER_GATE_FAIL, Reg.SLU_FILTER_SDU_FAIL, Reg.SLU_FILTER_RED]

/-- Every field of the Sluice object kind 5 (Table 14.9). -/
def Reg.obj5 : List Fld :=
  [Reg.SLU_SGATE_EN, Reg.SLU_SGATE_DOM, Reg.SLU_SGATE_CONFIG_CHANGE, Reg.SLU_SGATE_CONFIG_PENDING, Reg.SLU_SGATE_CLOSE_INVALID, Reg.SLU_SGATE_CLOSED_INVALID, Reg.SLU_SGATE_OPEN, Reg.SLU_SGATE_ADMIN_LEN, Reg.SLU_SGATE_ADMIN_CYCLE, Reg.SLU_SGATE_ADMIN_EXT, Reg.SLU_SGATE_ADMIN_BASE, Reg.SLU_SGATE_OPER_CYCLE] ++
  [Reg.SLU_SGATE_OPER_LEN, Reg.SLU_SGATE_OPER_ENTRY, Reg.SLU_SGATE_CHANGE_TIME]

/-- Every field of the Sluice object kind 7 (Table 14.9). -/
def Reg.obj7 : List Fld :=
  [Reg.SLU_GCL_ENTRY_INTERVAL, Reg.SLU_GCL_ENTRY_GATES, Reg.SLU_GCL_ENTRY_OP]

/-- Every field of the Sluice object kind 6 (Table 14.9). -/
def Reg.obj6 : List Fld :=
  [Reg.SLU_SGATE_ENTRY_INTERVAL, Reg.SLU_SGATE_ENTRY_OPEN, Reg.SLU_SGATE_ENTRY_OCTETS]

/-- Every field of the Sluice object kind 8 (Table 14.9). -/
def Reg.obj8 : List Fld :=
  [Reg.SLU_SGF_EN, Reg.SLU_SGF_ENCODE, Reg.SLU_SGF_NEXT_SEQ, Reg.SLU_SGF_GENERATED]

/-- Every field of the Sluice object kind 9 (Table 14.9). -/
def Reg.obj9 : List Fld :=
  [Reg.SLU_SRF_EN, Reg.SLU_SRF_ALGO, Reg.SLU_SRF_TAKE_NO_SEQ, Reg.SLU_SRF_HLEN, Reg.SLU_SRF_RESET_MS, Reg.SLU_SRF_RECOV, Reg.SLU_SRF_TAKE_ANY, Reg.SLU_SRF_PASSED, Reg.SLU_SRF_DISCARDED, Reg.SLU_SRF_OUT_OF_ORDER, Reg.SLU_SRF_ROGUE, Reg.SLU_SRF_LOST] ++
  [Reg.SLU_SRF_RESETS]

/-- The fields of a BAR0 page; a page without registers has none (R897). -/
def Reg.page (n : Nat) : List Fld :=
  match n with
  | 0 => Reg.page0
  | 1 => Reg.page1
  | 2 => Reg.page2
  | 3 => Reg.page3
  | 4 => Reg.page4
  | 5 => Reg.page5
  | 6 => Reg.page6
  | 7 => Reg.page7
  | 8 => Reg.page8
  | 9 => Reg.page9
  | 10 => Reg.page10
  | 11 => Reg.page11
  | 12 => Reg.page12
  | 13 => Reg.page13
  | 14 => Reg.page14
  | 15 => Reg.page15
  | 16 => Reg.page16
  | 17 => Reg.page17
  | 18 => Reg.page18
  | _ => []

/-- The fields of a Sluice object kind; the reserved kinds have none. -/
def Reg.obj (k : Nat) : List Fld :=
  match k with
  | 0 => Reg.obj0
  | 1 => Reg.obj1
  | 2 => Reg.obj2
  | 3 => Reg.obj3
  | 4 => Reg.obj4
  | 5 => Reg.obj5
  | 7 => Reg.obj7
  | 6 => Reg.obj6
  | 8 => Reg.obj8
  | 9 => Reg.obj9
  | _ => []

end Sys2Proof.Machine
end

