-- ==== Sys2Proof/Machine/SMap.lean ====
section
/-! DEFINITION. The sparse table `SMap`: lookup, insertion that keeps the keys rising, removal, and the
default-respecting read and write every store of the device goes through. -/

namespace Sys2Proof

/-- The pair's value at key `k`, if the key is listed. -/
def SMap.find {α : Type} : SMap α → Nat → Option α
  | [], _ => none
  | (j, v) :: m, k => if j = k then some v else SMap.find m k

/-- The value at `k`, or `d` where the key is not listed. -/
def SMap.get {α : Type} (m : SMap α) (k : Nat) (d : α) : α := (m.find k).getD d

/-- Writes `v` at `k`, keeping the keys strictly rising. -/
def SMap.set {α : Type} : SMap α → Nat → α → SMap α
  | [], k, v => [(k, v)]
  | (j, u) :: m, k, v =>
    if k < j then (k, v) :: (j, u) :: m
    else if k = j then (k, v) :: m
    else (j, u) :: SMap.set m k v

/-- Removes key `k`. -/
def SMap.erase {α : Type} : SMap α → Nat → SMap α
  | [], _ => []
  | (j, u) :: m, k => if j = k then SMap.erase m k else (j, u) :: SMap.erase m k

/-- Writes `v` at `k` in a table whose unlisted keys read `d`: writing `d` removes the entry. -/
def SMap.put {α : Type} [DecidableEq α] (m : SMap α) (k : Nat) (v d : α) : SMap α :=
  if v = d then SMap.erase m k else SMap.set m k v

/-- Applies `f` to the value at `k`, in a table whose unlisted keys read `d`. -/
def SMap.upd {α : Type} [DecidableEq α] (m : SMap α) (k : Nat) (d : α) (f : α → α) : SMap α :=
  SMap.put m k (f (SMap.get m k d)) d

/-- The keys, rising. -/
def SMap.keys {α : Type} (m : SMap α) : List Nat := m.map Prod.fst

/-- The keys are strictly rising. -/
def SMap.sorted {α : Type} : SMap α → Bool
  | [] => true
  | [_] => true
  | (j, _) :: (k, u) :: m => decide (j < k) && SMap.sorted ((k, u) :: m)

/-- No listed value is the one an unlisted key reads as. -/
def SMap.proper {α : Type} [DecidableEq α] (m : SMap α) (d : α) : Bool := m.all fun e => decide (e.2 ≠ d)

end Sys2Proof
end

