-- ==== Sys2Proof/Machine/Ops.lean ====
section
/-! DEFINITION. The named operations every command is written with: register fields, counters, interrupts, time, byte
memories, and the packing of words and bytes. -/

namespace Sys2Proof.Machine

/-! ### Bits and bytes -/

/-- Bits [lo + w − 1 : lo] of a number. -/
def bits (v lo w : Nat) : Nat := v / 2 ^ lo % 2 ^ w

/-- The number with bits [lo + w − 1 : lo] replaced. -/
def setBits (v lo w x : Nat) : Nat := v - bits v lo w * 2 ^ lo + x % 2 ^ w * 2 ^ lo

/-- Bit n of a number. -/
def bitOf (v n : Nat) : Bool := v / 2 ^ n % 2 == 1

/-- The low `w` bits of a two's complement number, read with its sign. -/
def signed (w v : Nat) : Int := if v % 2 ^ w < 2 ^ (w - 1) then (v % 2 ^ w : Nat) else (v % 2 ^ w : Nat) - (2 ^ w : Nat)

/-- An integer in `w` bits of two's complement. -/
def unsigned (w : Nat) (v : Int) : Nat := (v % (2 ^ w : Nat)).toNat

/-- 1 for true. -/
def flagBit (b : Bool) : Nat := if b then 1 else 0

/-- The n bytes of a number, least significant first. -/
def leBytes : Nat → Nat → List Byte
  | 0, _ => []
  | n + 1, v => BitVec.ofNat 8 v :: leBytes n (v / 256)

/-- The number that bytes spell, least significant first. -/
def leNat : List Byte → Nat
  | [] => 0
  | b :: bs => b.toNat + 256 * leNat bs

/-- The n bytes of a number in network order (R9). -/
def beBytes (n v : Nat) : List Byte := (leBytes n v).reverse

/-- The number that bytes spell in network order (R9). -/
def beNat (bs : List Byte) : Nat := leNat bs.reverse

/-- Exactly n bytes: cut, or filled with zeros. -/
def takeBytes (n : Nat) (bs : List Byte) : List Byte := (bs ++ List.replicate n 0).take n

/-- The bytes with `new` written over them from offset `off`, as far as they reach. -/
def overwrite (bs : List Byte) (off : Nat) (new : List Byte) : List Byte :=
  (bs.take off ++ new ++ bs.drop (off + new.length)).take bs.length

/-! ### Byte memories -/

/-- The byte at an address: 0 where no byte is listed. -/
def cellGet (m : List Host.Cell) (a : Nat) : Byte := SMap.get m a 0

/-- Writes one byte, keeping the canonical form: an entry equal to 0 is removed. -/
def cellPut (m : List Host.Cell) (a : Nat) (b : Byte) : List Host.Cell := SMap.put m a b 0

/-- n bytes from an address. -/
def cellRead (m : List Host.Cell) (a n : Nat) : List Byte := (List.range n).map fun i => cellGet m (a + i)

/-- Bytes written from an address. -/
def cellWrite : List Host.Cell → Nat → List Byte → List Host.Cell
  | m, _, [] => m
  | m, a, b :: bs => cellWrite (cellPut m a b) (a + 1) bs

/-- The n bytes from an address set to 0. -/
def cellClear (m : List Host.Cell) (a n : Nat) : List Host.Cell := m.filter fun e => e.1 < a || a + n ≤ e.1

/-- The canonical form of a byte memory: addresses strictly rising, no entry equal to 0. -/
def Memory.wf (m : List Host.Cell) : Bool := SMap.sorted m && SMap.proper m 0

/-! ### Register fields -/

/-- The value of a field instance after reset. Some fields have a value for each instance or part: the physical
engine of Table 7.14, the slice of R735, MODE of PRES0 (Table 18.12) and the trip temperature of R825. -/
def Fld.reset (f : Fld) (i grade : Nat) : Nat :=
  if f = Reg.BSN_ENG_PHYS then 17 * (i / 16) + i % 16
  else if f = Reg.EDG_LANE_SLICE then 9 * (i / 8) + i % 8
  else if f = Reg.EDG_PRESCFG_MODE then (if i = 0 then 2 else 0)
  else if f = Reg.GAU_THRESH_TRIP then (if grade = 1 then 145 else 130)
  else if f = Reg.GEN_REV_GRADE then grade
  else f.rst

/-- The value of instance i of a field in bank b. -/
def State.fld (s : State) (f : Fld) (i b : Nat) : Nat := SMap.get s.regs (f.key i b) (f.reset i s.grade)

/-- The value of a field that has one instance and no banks. -/
def State.rd (s : State) (f : Fld) : Nat := s.fld f 0 0

/-- The field is nonzero. -/
def State.on (s : State) (f : Fld) (i b : Nat) : Bool := s.fld f i b != 0

/-- Sets instance i of a field in bank b, keeping its width. -/
def State.setFld (s : State) (f : Fld) (i b v : Nat) : State :=
  { s with regs := SMap.put s.regs (f.key i b) (v % 2 ^ f.w) (f.reset i s.grade) }

/-- Sets a field that has one instance and no banks. -/
def State.wr (s : State) (f : Fld) (v : Nat) : State := s.setFld f 0 0 v

/-- Adds to a counter, modulo its width (R129). -/
def State.bumpFld (s : State) (f : Fld) (i b n : Nat) : State := s.setFld f i b (s.fld f i b + n)

/-- Increments a counter that has one instance and no banks. -/
def State.bump (s : State) (f : Fld) : State := s.bumpFld f 0 0 1

/-- Sets every listed field: instance, bank, value. -/
def State.setAll (s : State) (l : List (Fld × Nat × Nat × Nat)) : State :=
  l.foldl (fun s e => s.setFld e.1 e.2.1 e.2.2.1 e.2.2.2) s

/-! ### Status codes (Table 0.6) -/

def stOk : Nat := 0
def stBusy : Nat := 1
def stEmpty : Nat := 2
def stDenied : Nat := 3
def stAbandoned : Nat := 4
def stTimeout : Nat := 5
def stInvalid : Nat := 6
def stLost : Nat := 7
def stRetry : Nat := 8
def stDouble : Nat := 9
def stOverflow : Nat := 10

/-! ### Time -/

/-- One domain's network time after dt ns of local time, in units of 2^−40 ns (R572). -/
def netAdvance (net dt rate : Nat) : Nat :=
  ((net : Int) + dt * (2 ^ 40 + signed 32 rate)).toNat % 2 ^ 104

/-- Local time and the network times after dt ns; a domain that DOM_EN does not enable holds 0 (R571, R572, R935). -/
def TimeSt.advance (t : TimeSt) (dt en r0 r1 r2 r3 : Nat) : TimeSt :=
  { t with
    local_ := (t.local_ + dt) % 2 ^ 64
    net0 := if bitOf en 0 then netAdvance t.net0 dt r0 else t.net0
    net1 := if bitOf en 1 then netAdvance t.net1 dt r1 else t.net1
    net2 := if bitOf en 2 then netAdvance t.net2 dt r2 else t.net2
    net3 := if bitOf en 3 then netAdvance t.net3 dt r3 else t.net3 }

/-- Time passes up to a wall time; a wall time already passed changes nothing. While a device reset lasts, the local
time base holds 0 (R571). -/
def State.upTo (s : State) (now : Nat) : State :=
  let dt := now - s.wall
  let s1 := { s with wall := s.wall + dt }
  if s.boot.held then s1
  else { s1 with
    time := s.time.advance dt (s.rd Reg.TIM_CFG_DOM_EN) (s.fld Reg.TIM_RATE_RATE 0 0) (s.fld Reg.TIM_RATE_RATE 1 0)
      (s.fld Reg.TIM_RATE_RATE 2 0) (s.fld Reg.TIM_RATE_RATE 3 0) }

/-- The local time base in ns. -/
def State.now (s : State) : Nat := s.time.local_

/-- The network time of a domain in units of 2^−40 ns. -/
def State.netFrac (s : State) (d : Nat) : Nat :=
  match d with
  | 0 => s.time.net0
  | 1 => s.time.net1
  | 2 => s.time.net2
  | _ => s.time.net3

/-- The network time of a domain in whole ns. -/
def State.net (s : State) (d : Nat) : Nat := s.netFrac d / 2 ^ 40

/-- The network time of a domain at an earlier wall time, in ns: the present one taken back at the present rate (R56,
DESIGN CHOICE, log entry 176). -/
def State.netAt (s : State) (d at_ : Nat) : Nat :=
  let back : Int := (s.wall - at_ : Nat) * (2 ^ 40 + signed 32 (s.fld Reg.TIM_RATE_RATE d 0))
  unsigned 64 (((s.netFrac d : Int) - back) / 2 ^ 40)

/-- Sets the network time of a domain, in units of 2^−40 ns. -/
def State.setNet (s : State) (d v : Nat) : State :=
  let v := v % 2 ^ 104
  match d with
  | 0 => { s with time := { s.time with net0 := v } }
  | 1 => { s with time := { s.time with net1 := v } }
  | 2 => { s with time := { s.time with net2 := v } }
  | _ => { s with time := { s.time with net3 := v } }

/-! ### Free values -/

/-- Takes the next free value. -/
def State.free (s : State) : W32 × State := (Config.freeWord s.fresh, { s with fresh := s.fresh + 1 })

/-! ### Outputs, partitions and interrupts -/

/-- Records what leaves the device. -/
def State.emit (s : State) (o : Out) : State := { s with out := o :: s.out }

/-- The compiled image runs (GEN_STATUS.MODE 0b10). -/
def State.imageRuns (s : State) : Bool := s.boot.stage == 3 && !s.boot.held

/-- The fallback bridge runs (GEN_STATUS.MODE 0b01). -/
def State.bridgeRuns (s : State) : Bool := s.boot.stage == 2 && !s.boot.held

/-- Data can move: an image or the fallback bridge runs, and the fabric is not in STILL or DRY (Table 20.1). -/
def State.running (s : State) : Bool :=
  (s.imageRuns || s.bridgeRuns) && s.rd Reg.PWR_STATUS_STATE < 3

/-- The partition that holds the supervisor right (R23, R704). -/
def State.supervisor (s : State) : Nat := s.fth.sup

/-- The partition holds the supervisor right. -/
def State.isSup (s : State) (p : Nat) : Bool := p == s.fth.sup

/-- The attachment of a partition: 0 none, 1 + k PCIe link k, 16 + n the port NPn (R19). -/
def State.bindOf (s : State) (p : Nat) : Nat := SMap.get s.img.bind p 0

/-- The partition is bound to no attachment (R22). -/
def State.dormant (s : State) (p : Nat) : Bool := s.bindOf p == 0

/-- The PCIe link of a partition. -/
def State.linkOf (s : State) (p : Nat) : Option Nat :=
  if s.bridgeRuns then SMap.find s.hst.bridgeLink p
  else if 1 ≤ s.bindOf p && s.bindOf p ≤ 4 then some (s.bindOf p - 1) else none

/-- A vector of Table 17.6 is raised in a partition: one message where it is unmasked, one pending bit where it is
masked or its link is stopped (R721). A host-over-Ethernet partition has no vectors (R725). -/
def State.sendVec (s : State) (p v : Nat) : State :=
  match s.linkOf p with
  | none => s
  | some k =>
    let masked := SMap.get s.hst.msix (p * 8192 + v * 4 + 3) 1 % 2 == 1
    let stopped := !bitOf (s.rd Reg.XNG_STATUS_CLK_OK) (4 + k)
    if masked || stopped then
      if s.hst.pba.contains (p * 2048 + v) then s
      else { s with hst := { s.hst with pba := (p * 2048 + v) :: s.hst.pba } }
    else s.emit (.msix p v)

/-- A vector is raised; a queue vector then holds its next raise for ITR µs (R722). -/
def State.signalVec (s : State) (p v : Nat) : State :=
  if v < 128 then
    let k := p * 128 + v
    let itr := if v < 64 then s.fld Reg.HST_RXQ_ITR v p else s.fld Reg.HST_TXQ_ITR (v - 64) p
    match SMap.find s.hst.itr k with
    | some _ =>
      if s.hst.itrPend.contains k then s else { s with hst := { s.hst with itrPend := k :: s.hst.itrPend } }
    | none =>
      let s := s.sendVec p v
      if itr = 0 then s else { s with hst := { s.hst with itr := SMap.set s.hst.itr k (s.now + itr * 1000) } }
  else s.sendVec p v

/-- The enable of an event: the bits of the enable field that stand where the event stands. -/
def State.enabled (s : State) (st en : Fld) (bank : Nat) : Bool :=
  bits (s.fld en 0 (if en.banked then bank else 0)) (st.lo - en.lo) st.w != 0

/-- The DEVICE post of an event (Table 15.4, R647, R648): to the descriptor d to which the image routes the events of the page,
setting 68 with the value d + 1. While the FIFO is full the source holds it. Log entry 133. -/
def State.devicePost (s : State) (page : Nat) : State :=
  match SMap.get s.img.set_ (68 * 16777216 + page) 0 with
  | 0 => s
  | d + 1 =>
    if 256 ≤ s.pmp.fifo.length then { s with pmp := { s.pmp with held := s.pmp.held ++ [(d, 4)] } }
    else
      let s := { s with pmp := { s.pmp with fifo := s.pmp.fifo ++ [(d, 4)] } }
      if s.pmp.fifo.length = 256 then
        let s := s.setFld Reg.PMP_INT_STATUS_FIFO_FULL 0 0 1
        if s.enabled Reg.PMP_INT_STATUS_FIFO_FULL Reg.PMP_INT_EN_FIFO_FULL 0 then
          s.signalVec s.supervisor (128 + Reg.PMP_INT_STATUS_FIFO_FULL.page)
        else s
      else s

/-- An event bit of a page is set, in the bank of a partition where it is banked, posted where the image routes the page's
events to a descriptor, and signalled to the partition on the page's vector where it is enabled. -/
def State.event (s : State) (st en : Fld) (bank p : Nat) : State :=
  let s := (s.setFld st 0 bank (2 ^ st.w - 1)).devicePost st.page
  if s.enabled st en bank then s.signalVec p (128 + st.page) else s

/-- An unbanked event, signalled to the supervisor partition. -/
def State.eventSup (s : State) (st en : Fld) : State := s.event st en 0 s.supervisor

/-- Event bit n of a field that holds several events, with its enables in a field of the same layout. -/
def State.eventBit (s : State) (st en : Fld) (n bank p : Nat) : State :=
  let v := s.fld st 0 bank
  let s := (if bitOf v n then s else s.setFld st 0 bank (v + 2 ^ n)).devicePost st.page
  if bitOf (s.fld en 0 (if en.banked then bank else 0)) n then s.signalVec p (128 + st.page) else s

/-! ### Tables of the state -/

def State.thread (s : State) (t : Nat) : Thr := SMap.get s.thr t {}

def State.setThread (s : State) (t : Nat) (v : Thr) : State := { s with thr := SMap.put s.thr t v {} }

def State.updThread (s : State) (t : Nat) (f : Thr → Thr) : State := s.setThread t (f (s.thread t))

def State.engine (s : State) (e : Nat) : Eng := SMap.get s.eng e {}

def State.setEngine (s : State) (e : Nat) (v : Eng) : State := { s with eng := SMap.put s.eng e v {} }

end Sys2Proof.Machine
end

