-- ==== Sys2Proof/Machine/Reset.lean ====
section
/-! DEFINITION. The fault log, the reset of the device and its release, and the supplies and pins that start and end it
(R793, R794, R796, R911 to R917). -/

namespace Sys2Proof.Machine

/-- Droplets in flight device-wide (WEIR_STATUS.INFLIGHT): from admission until release (R111). -/
def State.inflight (s : State) : Nat := (s.weir.slots.filter fun e => !e.2.released).length

/-- Appends a fault-log entry; with 4,096 entries in use the oldest is overwritten (R848). -/
def State.logFault (s : State) (kind cause : Nat) (data : List Nat) : State :=
  let e : FlogEnt := { boot := s.fth.bootCount, kind := kind, cause := cause, time := s.now,
                       data := (data ++ [0, 0, 0, 0]).take 4 |>.map (BitVec.ofNat 32) }
  { s with fth := { s.fth with flog := (e :: s.fth.flog).take 4096 } }

/-- The 32 bytes of a fault-log entry (R848). -/
def FlogEnt.bytes (e : FlogEnt) : List Byte :=
  leBytes 4 e.boot ++ leBytes 1 e.kind ++ leBytes 1 e.cause ++ [0, 0] ++ leBytes 8 e.time ++
    takeBytes 16 ((e.data.map fun w => leBytes 4 w.toNat).flatten)

/-- What Fountainhead keeps through a power-on reset: the Wellstore (Table 19.3). -/
def FthSt.wellstore (f : FthSt) : FthSt :=
  { f with
    nonce := none, press := none, rsvPending := [], flogCur := [], rsvCur := [], spiResult := 0, spiErr := false
    win := [], exportSeq := 0, saved := {}, early := [], nextBasin := 0
    heldRegions := [], testAt := 0, lfsr := 0, misr := 0 }

/-- What Fountainhead keeps through a device reset: everything but the press wait (R843), the exports counted since
reset (Table 21.10), the test in progress (R863) and the held regions, tested afresh at the boot (R866, R871). -/
def FthSt.deviceKept (f : FthSt) : FthSt :=
  { f with
    press := none, exportSeq := 0, saved := {}, early := [], nextBasin := 0
    heldRegions := [], testAt := 0, lfsr := 0, misr := 0 }

/-- A pending life-cycle transition takes effect; RETURN erases both image slots, the version log and the resume record
(R839). A pending provisioning record comes into effect, and with it the supervisor right (R704). -/
def FthSt.applyPending (f : FthSt) : FthSt :=
  let f :=
    match f.lcPending with
    | none => f
    | some 3 =>
      { f with lc := 3, lcPending := none, well := cellClear f.well 0x00100000 0xF00000, verLog := [], resume := none }
    | some n => { f with lc := n, lcPending := none }
  if f.provPending then
    let rec_ := cellRead f.well 0x10000 0x4000
    { f with prov := some rec_, provPending := false, sup := Config.provSupervisor rec_ }
  else f

/-- Register fields that a device reset leaves: those of the gauges, of Fountainhead and of the crossings' always-on
side (Table 19.3); `deviceReset` then sets the ones that the rules name. -/
def keptByReset (k : Nat) : Bool :=
  let page := k / 16777216 / 32 / 65536
  page == 13 || page == 14 || page == 16

/-- An access waits at a crossing under R788. -/
def State.anyHung (s : State) : Bool := !s.hst.waiting.isEmpty

/-- The level of a pin FCOn for an assertion (POL, R467). -/
def State.fcoLevel (s : State) (n : Nat) (on : Bool) : Bool := if s.on Reg.BSN_FCO_POL n 0 then on else !on

/-- Every FCO pin is asserted, as during a reset and in DRY (R468): POL and STATE hold their reset values. -/
def State.fcoAssert (s : State) : State := (List.range 8).foldl (fun s n => s.emit (.pin n (s.fcoLevel n true))) s

/-- The fabric and islands 0 to 10 as a reset leaves them, with everything the always-on domain and Fountainhead keep
(Table 19.3, R794). What lies outside the device stays: host memory, and the record of outputs. DESIGN CHOICE (log 181):
the log entries of the versions that the reset discards keep all ones as their time of retirement (R196). -/
def State.fabricReset (s : State) : State :=
  { State.reset with
    pending := s.pending
    regs := s.regs.filter fun e => keptByReset e.1
    wall := s.wall
    mem := { State.reset.mem with pcSpares := s.mem.pcSpares, spareRows := s.mem.spareRows }
    hst := { State.reset.hst with mem := s.hst.mem }
    edg := { State.reset.edg with pres := s.edg.pres }
    boot := s.boot
    fth := s.fth
    grade := s.grade
    out := s.out
    fresh := s.fresh }

/-- The fields of Fountainhead and the crossings that a device reset sets: grants and lock-down end (R844, R840), no
slot has been examined (R834), every island but 11 and 12 is in reset (R794), and the results of the last tests are
gone (R855). -/
def State.resetStatus (s : State) (cause : Nat) (hung : Bool) : State :=
  s.setAll
    ([(Reg.FTH_STATUS_PRESS_WAIT, 0, 0, 0), (Reg.FTH_STATUS_RIGHTS, 0, 0, 0), (Reg.FTH_STATUS_LOCKDOWN, 0, 0, 0),
      (Reg.FTH_STATUS_SLOT_RUN, 0, 0, 3), (Reg.FTH_STATUS_DEGRADED, 0, 0, 0), (Reg.FTH_STATUS_SLOT0_CAUSE, 0, 0, 15),
      (Reg.FTH_STATUS_SLOT1_CAUSE, 0, 0, 15)] ++
     [(Reg.FTH_STATUS_LC, 0, 0, s.fth.lc), (Reg.FTH_STATUS_LC_PENDING, 0, 0, 7),
      (Reg.FTH_ST_STATUS_RUNNING, 0, 0, 0), (Reg.FTH_ST_STATUS_REGION, 0, 0, 0), (Reg.FTH_ST_STATUS_STEP, 0, 0, 0),
      (Reg.FTH_ST_STATUS_NEXT, 0, 0, 0), (Reg.FTH_ST_STATUS_DEFERRED, 0, 0, 0), (Reg.FTH_ST_STATUS_WHY, 0, 0, 0)] ++
     [(Reg.XNG_STATUS_CLK_OK, 0, 0, 0x1800), (Reg.XNG_STATUS_IN_RESET, 0, 0, 0x07FF),
      (Reg.XNG_RESET_CAUSE_CAUSE, 0, 0, cause), (Reg.XNG_RESET_CAUSE_HUNG, 0, 0, flagBit hung)] ++
     (List.range 15).map (fun r => (Reg.FTH_ST_RESULT_OUTCOME, r, 0, 0)) ++
     (List.range 15).map (fun r => (Reg.FTH_ST_RESULT_FAIL, r, 0, 0)) ++
     (List.range 15).map (fun r => (Reg.FTH_ST_RESULT_MEM, r, 0, 0)) ++
     (List.range 15).map (fun r => (Reg.FTH_ST_RESULT_HELPER, r, 0, 0)))

/-- A device reset starts (R794): the fault log takes the cause, the in-flight count, and XNG_STATUS; pending life-cycle
and provisioning changes take effect; the fabric and islands 0 to 10 are held in reset. A reset that ends DRY asserts
CORE_EN again, but for a thermal trip (Table 25.8). `detail` is RAILS_OK and the
failing monitor of R914. A reset that meets a running one merges into it (R796). -/
def State.deviceReset (s : State) (cause detail inflight : Nat) : State :=
  if s.boot.held && s.boot.stage != 4 && !s.boot.dry then s
  else
    let status := s.rd Reg.XNG_STATUS_CLK_OK + s.rd Reg.XNG_STATUS_IN_RESET * 65536
    let hung := s.anyHung
    let up := s.boot.dry && cause != 3
    let at_ := if up then s.wall else s.boot.coreAt
    let s := s.logFault 1 cause [inflight, status, detail]
    let s := { s with fth := s.fth.deviceKept.applyPending,
                      boot := { s.boot with held := true, stage := 0, safe := false, dry := false, resetAt := s.wall,
                                            resumeOk := false, fullTest := false, coreEn := s.boot.coreEn || up,
                                            coreAt := at_ } }
    let s := (s.fabricReset.resetStatus cause hung).fcoAssert
    if up then s.emit (.pin 9 true) else s

/-! ### Supplies and pins -/

/-- POWER_ON_RESET: the always-on domain starts, keeping only the Wellstore, and Fountainhead asserts CORE_EN 1 ms later
(Sequence 25.1, steps 2 and 3). -/
def powerOnReset (s : State) (now : Nat) : State :=
  let w := max s.wall now
  let f := s.fth.wellstore.applyPending
  let s' : State := { State.reset with
    pending := s.pending, wall := w, fth := f, grade := s.grade, out := s.out, fresh := s.fresh
    mem := { State.reset.mem with pcSpares := s.mem.pcSpares, spareRows := s.mem.spareRows }
    hst := { State.reset.hst with mem := s.hst.mem }
    boot := { State.reset.boot with coreEn := true, coreAt := w + 1000000, resetAt := w } }
  ((s'.resetStatus 0 false).fcoAssert.emit (.pin 9 true))

/-- RAILS_OK rises (R913). In DRY the pin is ignored (Table 25.8). -/
def railsOkRise (s : State) (now : Nat) : State :=
  let s := s.upTo now
  if s.boot.coreEn && !s.boot.railsOk then { s with boot := { s.boot with railsOk := true, railsAt := s.wall } } else s

/-- RAILS_OK has not risen 50 ms after CORE_EN: Fountainhead drives CORE_EN low (R913). -/
def railsOkTimeout (s : State) (now : Nat) : State :=
  let s := s.upTo now
  if s.boot.coreEn && !s.boot.railsOk && s.boot.coreAt + 50000000 ≤ s.wall then
    { s with boot := { s.boot with coreEn := false, retryAt := some (s.wall + 1000000000) } }.emit (.pin 9 false)
  else s

/-- CORE_EN is asserted again 1 s after it was dropped (R913). -/
def coreEnRetry (s : State) (now : Nat) : State :=
  let s := s.upTo now
  match s.boot.retryAt with
  | some t =>
    if t ≤ s.wall then
      { s with boot := { s.boot with coreEn := true, coreAt := s.wall, retryAt := none } }.emit (.pin 9 true)
    else s
  | none => s

/-- RAILS_OK falls while CORE_EN is high: as RESET_N held low (R914). -/
def railsOkFall (s : State) (now : Nat) : State :=
  let s := s.upTo now
  if s.boot.coreEn && s.boot.railsOk then
    { s with boot := { s.boot with railsOk := false } }.deviceReset 1 0 s.inflight
  else { s with boot := { s.boot with railsOk := false } }

/-- A voltage monitor has been outside its rail's range for 100 µs: as RESET_N held low (R914). -/
def railOutOfRange (s : State) (now monitor : Nat) : State :=
  let s := s.upTo now
  if s.boot.brownout then s
  else
    let bad := if s.boot.voltBad.contains monitor then s.boot.voltBad else monitor :: s.boot.voltBad
    { s with boot := { s.boot with voltBad := bad } }.deviceReset 1 (flagBit s.boot.railsOk + (monitor + 1) * 256) s.inflight

/-- The always-on supplies fall below their thresholds: Fountainhead writes nothing more and holds every domain in reset
(R915). -/
def aonBrownout (s : State) (now : Nat) : State :=
  let s := s.upTo now
  let r := { s with boot := { s.boot with held := true, stage := 0, brownout := true, coreEn := false, railsOk := false } }
  { r.fabricReset with regs := [], edg := State.reset.edg, fth := s.fth.wellstore }

/-- RESET_N has been low for 1 µs (R793). -/
def resetNAssert (s : State) (now : Nat) : State :=
  let s := s.upTo now
  if s.boot.brownout then s
  else { s with boot := { s.boot with resetLow := true } }.deviceReset 1 (flagBit s.boot.railsOk) s.inflight

/-- What a release needs: supplies in range, 1 ms since RAILS_OK rose, no trip, no safe state, the device out of DRY, and
100 µs since the start of a reset that SPI, a trip or an exit from DRY started (R794, R913, R914, R825). -/
def State.canRelease (s : State) : Bool :=
  s.boot.held && s.boot.stage == 0 && s.boot.coreEn && s.boot.railsOk && s.boot.voltBad.isEmpty && !s.boot.brownout &&
    !s.boot.tripped && !s.boot.dry && decide (s.boot.railsAt + 1000000 ≤ s.wall) &&
    (s.rd Reg.XNG_RESET_CAUSE_CAUSE < 2 || decide (s.boot.resetAt + 100000 ≤ s.wall))

/-- The release of the device reset, and steps 1 and 2 of Sequence 21.1: the straps are sampled (R26), the ROM is checked,
the boot count rises (R828); a ROM that does not match, and SCRAPPED, stop the boot with the fabric in reset. The time
unit leaves reset and counts from 0 (R571, R935). -/
def resetRelease (s : State) (now q2 q3 : Nat) : State :=
  let s := s.upTo now
  let s := { s with boot := { s.boot with resetLow := false } }
  if !s.canRelease then s
  else
    let err := flagBit (q2 == 3) + 2 * flagBit (q3 == 3)
    let s := s.setAll [(Reg.GEN_STRAP_QMODE2, 0, 0, q2), (Reg.GEN_STRAP_QMODE3, 0, 0, q3),
                       (Reg.GEN_STATUS_STRAP_ERR, 0, 0, err), (Reg.GEN_BASE_MAC_LO_MAC, 0, 0, s.fth.baseMac % 2 ^ 32),
                       (Reg.GEN_BASE_MAC_HI_MAC, 0, 0, s.fth.baseMac / 2 ^ 32)]
    let s := if err = 0 then s
             else s.setAll ((List.range 4).map fun p => (Reg.GEN_INT_STATUS_STRAP_ERR, 0, p, 1))
    if !s.fth.romOk then
      { s.logFault 2 0 [] with boot := { s.boot with stage := 4 } }
    else
      let n := min (s.fth.bootCount + 1) 0xFFFFFFFF
      let s := { s with fth := { s.fth with bootCount := n } }
      let s := s.setAll [(Reg.FTH_BOOT_COUNT_VALUE, 0, 0, n), (Reg.FTH_COUNTER0_VALUE, 0, 0, s.fth.counter0),
                         (Reg.FTH_COUNTER1_VALUE, 0, 0, s.fth.counter1), (Reg.FTH_STATUS_LC, 0, 0, s.fth.lc)]
      if s.fth.lc = 4 then { s with boot := { s.boot with stage := 4 } }
      else
        { s with boot := { s.boot with held := false, stage := 1 }, time := {} }.setAll
          [(Reg.XNG_STATUS_IN_RESET, 0, 0, 0x03FF), (Reg.GEN_STATUS_MODE, 0, 0, 0)]

end Sys2Proof.Machine
end

