-- ==== Sys2Proof/Machine/Crossing.lean ====
section
/-! DEFINITION. The event crossings of Table 19.2, clock stops, and the flush of a crossing whose side resets
(R785 to R792). -/

namespace Sys2Proof.Machine

/-- The kind of a crossing: 0 counted, 1 coalesced; none for a CHAN that Table 19.2 does not list. -/
def crossingKind (isl chan : Nat) : Option Nat :=
  if isl < 4 then (if chan < 16 then some 0 else if chan < 24 then some 1 else none)
  else if isl < 8 then (if chan < 2 then some 1 else if chan = 2 then some 0 else none)
  else if isl < 10 then (if chan = 0 then some 0 else if chan = 1 then some 1 else none)
  else if isl = 10 then (if chan < 6 then some 0 else none)
  else if isl < 13 then (if chan < 2 then some 1 else none)
  else none

/-- The key of a crossing. -/
def crossingKey (isl chan : Nat) : Nat := isl * 64 + chan

def State.crossing (s : State) (isl chan : Nat) : Crossing := SMap.get s.xng.cross (crossingKey isl chan) {}

def State.setCrossing (s : State) (isl chan : Nat) (c : Crossing) : State :=
  { s with xng := { s.xng with cross := SMap.put s.xng.cross (crossingKey isl chan) c {} } }

/-- The island is in reset (XNG_STATUS.IN_RESET). -/
def State.islandInReset (s : State) (isl : Nat) : Bool := bitOf (s.rd Reg.XNG_STATUS_IN_RESET) isl

/-- A side of the island's crossings is in reset: the island, or the fabric that a power state has closed (R791, R792). -/
def State.sideInReset (s : State) (isl : Nat) : Bool := s.islandInReset isl || s.xng.closed

/-- The island's clock runs (XNG_STATUS.CLK_OK). -/
def State.clockOk (s : State) (isl : Nat) : Bool := bitOf (s.rd Reg.XNG_STATUS_CLK_OK) isl

/-- Sets or clears IN_RESET of an island. -/
def State.setInReset (s : State) (isl : Nat) (b : Bool) : State :=
  s.wr Reg.XNG_STATUS_IN_RESET (setBits (s.rd Reg.XNG_STATUS_IN_RESET) isl 1 (flagBit b))

/-- A pulse at a counted crossing (R785, R786): it opens a handshake that carries a count of 1, or adds 1 to the pending
count, which stops at 65,535 and then sets XING_SAT. A crossing with a side in reset carries nothing (R791). -/
def countedPulse (s : State) (isl chan : Nat) : State :=
  if crossingKind isl chan ≠ some 0 || s.sideInReset isl then s
  else
    let c := s.crossing isl chan
    if !c.open_ then s.setCrossing isl chan { c with open_ := true, received := c.received + 1 }
    else if c.pending < 65535 then s.setCrossing isl chan { c with pending := c.pending + 1 }
    else (s.setCrossing isl chan { c with sat := true }).eventSup Reg.XNG_INT_STATUS_SAT Reg.XNG_INT_EN_SAT

/-- A pulse at a coalesced crossing: one event until the receiving side takes it (R787). -/
def coalescedPulse (s : State) (isl chan : Nat) : State :=
  if crossingKind isl chan ≠ some 1 || s.sideInReset isl then s
  else s.setCrossing isl chan { s.crossing isl chan with pending := 1, open_ := true }

/-- The receiving side acknowledges: the next handshake of a counted crossing carries the whole pending count and sets it
to 0 (R785); a coalesced event is taken. -/
def crossingAck (s : State) (isl chan : Nat) : State :=
  let c := s.crossing isl chan
  match crossingKind isl chan with
  | none => s
  | some 0 =>
    if !c.open_ then s
    else if c.pending = 0 then s.setCrossing isl chan { c with open_ := false }
    else s.setCrossing isl chan { c with pending := 0, received := c.received + c.pending }
  | some _ =>
    if !c.open_ then s
    else s.setCrossing isl chan { c with pending := 0, open_ := false, received := c.received + 1 }

/-- An access waits at a crossing of the island under R788: a posted host write for a PCIe island, a request for an IPD
PHY. -/
def State.hungAt (s : State) (isl : Nat) : Bool :=
  if 4 ≤ isl && isl < 8 then s.hst.waiting.any fun w => s.linkOf w.part == some (isl - 4)
  else if isl = 8 || isl = 9 then
    !s.clockOk isl && s.mem.pcs.any fun e => e.1 / 16 == isl - 8 && !(e.2.queue.isEmpty && e.2.issued.isEmpty)
  else false

/-- The flush of every crossing of an island whose side enters reset (R790): pending counts and events are discarded,
FLUSHED is set, and XNG_LOST_CNT counts the accesses and requests that complete with LOST. -/
def State.flushIsland (s : State) (isl : Nat) : State :=
  let chans := (List.range 64).filter fun c => (crossingKind isl c).isSome
  let lostWrites := s.hst.waiting.filter fun w => 4 ≤ isl && isl < 8 && s.linkOf w.part == some (isl - 4)
  let lostReqs := (s.mem.pcs.filter fun e => (isl == 8 || isl == 9) && e.1 / 16 == isl - 8).foldl
    (fun n e => n + e.2.queue.length + e.2.issued.length) 0
  let s := chans.foldl (fun s c =>
    s.setCrossing isl c { s.crossing isl c with pending := 0, open_ := false, flushed := true }) s
  let s := { s with hst := { s.hst with waiting := s.hst.waiting.filter fun w => !(lostWrites.contains w) } }
  s.bumpFld Reg.XNG_LOST_CNT 0 0 (lostWrites.length + lostReqs)

/-- The fabric closes its crossings before a power state removes its supply: each is flushed by R790 (R792). -/
def State.closeFabric (s : State) : State :=
  let s := (List.range 13).foldl (fun (s : State) isl => s.flushIsland isl) s
  { s with xng := { s.xng with closed := true } }

/-- The fabric has been powered up and reset: its crossings open, with empty counts (R791, R792). -/
def State.openFabric (s : State) : State := { s with xng := { s.xng with closed := false } }

/-- An island's clock stops: CLK_OK clears and CLK_STOP is raised (R789). Islands 11 and 12 always read 1. -/
def clockStop (s : State) (isl : Nat) : State :=
  if isl < 11 && s.clockOk isl then
    (s.wr Reg.XNG_STATUS_CLK_OK (setBits (s.rd Reg.XNG_STATUS_CLK_OK) isl 1 0)).eventSup
      Reg.XNG_INT_STATUS_CLK_STOP Reg.XNG_INT_EN_CLK_STOP
  else s

/-- Bytes written into a partition's host memory. -/
def State.hostStore (s : State) (p addr : Nat) (data : List Byte) : State :=
  { s with hst := { s.hst with mem := cellWrite s.hst.mem (p * 2 ^ 64 + addr % 2 ^ 64) data } }

/-- The posted writes of a link that waited complete in order, and its pending unmasked vectors are sent (R788). -/
def State.releaseLink (s : State) (link : Nat) : State :=
  let mine := s.hst.waiting.filter fun w => s.linkOf w.part == some link
  let s := { s with hst := { s.hst with waiting := s.hst.waiting.filter fun w => !(s.linkOf w.part == some link) } }
  let s := mine.foldl (fun s w => s.hostStore w.part w.addr w.data) s
  let ready := s.hst.pba.filter fun k =>
    s.linkOf (k / 2048) == some link && SMap.get s.hst.msix (k / 2048 * 8192 + k % 2048 * 4 + 3) 1 % 2 == 0
  let s := { s with hst := { s.hst with pba := s.hst.pba.filter fun k => !(ready.contains k) } }
  ready.foldl (fun s k => s.emit (.msix (k / 2048) (k % 2048))) s

/-- An island's clock returns: CLK_OK is set, CLK_BACK is raised, and what waited completes (R788, R789). -/
def clockReturn (s : State) (isl : Nat) : State :=
  if isl < 11 && !s.clockOk isl then
    let s := s.wr Reg.XNG_STATUS_CLK_OK (setBits (s.rd Reg.XNG_STATUS_CLK_OK) isl 1 1)
    let s := s.eventSup Reg.XNG_INT_STATUS_CLK_BACK Reg.XNG_INT_EN_CLK_BACK
    if 4 ≤ isl && isl < 8 && !s.islandInReset isl then s.releaseLink (isl - 4) else s
  else s

/-- The use that the straps and the image give an island: an island that neither selects is held in reset (R782). PCIe
islands need their quad strapped for PCIe; the second link of a quad needs two x4 links (Table 1.3, Table 19.1). -/
def State.islandSelected (s : State) (isl : Nat) : Bool :=
  let q2 := s.rd Reg.GEN_STRAP_QMODE2
  let q3 := s.rd Reg.GEN_STRAP_QMODE3
  match isl with
  | 2 => q2 == 0 || q2 == 3
  | 3 => q3 == 0 || q3 == 3
  | 4 => q2 == 1 || q2 == 2
  | 5 => q2 == 1
  | 6 => q3 == 1 || q3 == 2
  | 7 => q3 == 1
  | _ => true

/-- An island leaves reset: its crossings open with empty counts, and ISL_RESET_DONE is raised (R791). While a device
reset lasts, and for an island that R782 holds, nothing happens. -/
def islandLeaveReset (s : State) (isl : Nat) : State :=
  if s.boot.held || !s.islandInReset isl || !s.islandSelected isl then s
  else
    let s := s.setInReset isl false
    let chans := (List.range 64).filter fun c => (crossingKind isl c).isSome
    let s := chans.foldl (fun s c => s.setCrossing isl c { s.crossing isl c with pending := 0, open_ := false }) s
    s.eventSup Reg.XNG_INT_STATUS_ISL_RESET_DONE Reg.XNG_INT_EN_ISL_RESET_DONE

end Sys2Proof.Machine
end

