-- ==== Sys2Proof/Machine/Fount.lean ====
section
/-! DEFINITION. Fountainhead: keys and identity, the check of an image slot, tokens, life cycle, attestation, the
windows into the Wellstore, the fault log and the reservoir map (R828 to R851, R869 to R872). -/

namespace Sys2Proof.Machine

/-- ASCII text as bytes. -/
def ascii (t : String) : List Byte := t.toList.map fun c => BitVec.ofNat 8 c.toNat

/-! ### Wellstore and identity -/

/-- Base of an image slot in the Wellstore (Table 21.1). -/
def slotBase (slot : Nat) : Nat := if slot = 0 then 0x00100000 else 0x00880000

/-- n bytes of a slot from an offset. -/
def State.slotBytes (s : State) (slot off n : Nat) : List Byte := cellRead s.fth.well (slotBase slot + off) n

/-- A little-endian number of a slot. -/
def State.slotNat (s : State) (slot off n : Nat) : Nat := leNat (s.slotBytes slot off n)

/-- The identity public key; none in BLANK and SCRAPPED (R831, R839). -/
def State.publicKey (s : State) : Option (List Byte) := s.fth.seed.map Config.mlDsaPublic

/-- DEVICE_ID (R832); zeros without an identity. -/
def State.deviceId (s : State) : List Byte :=
  match s.publicKey with
  | none => List.replicate 16 0
  | some k => takeBytes 16 (shake256 k)

/-- Sets FTH_DEVICE_ID0–3: DEVICE_ID, 0 in BLANK and SCRAPPED (Table 21.14). -/
def State.showDeviceId (s : State) : State :=
  let d := if s.fth.lc = 0 || s.fth.lc = 4 then List.replicate 16 (0 : Byte) else s.deviceId
  s.setAll ((List.range 4).map fun n => (Reg.FTH_DEVICE_ID_BYTES, n, 0, leNat ((d.drop (4 * n)).take 4)))

/-- An owner key is written and not revoked. -/
def State.keyLive (s : State) (slot : Nat) : Bool :=
  (SMap.find s.fth.keys slot).isSome && !s.fth.revoked.contains slot

/-- The mask of slots for which a predicate holds, slots 0–3. -/
def keyMask (f : Nat → Bool) : Nat := flagBit (f 0) + 2 * flagBit (f 1) + 4 * flagBit (f 2) + 8 * flagBit (f 3)

/-- Sets FTH_KEYS from the Wellstore. -/
def State.showKeys (s : State) : State :=
  s.setAll [(Reg.FTH_KEYS_PRESENT, 0, 0, keyMask fun k => (SMap.find s.fth.keys k).isSome),
            (Reg.FTH_KEYS_REVOKED, 0, 0, keyMask fun k => s.fth.revoked.contains k)]

/-! ### Checking a slot (R833) -/

/-- Codes of Table 1.4. -/
def causeNoImage : Nat := 1
def causeSignature : Nat := 2
def causeManifest : Nat := 3
def causeRollback : Nat := 4
def causeLanePlan : Nat := 5

/-- Check 1: MAGIC, FORMAT, NSECT, LENGTH. -/
def State.headerOk (s : State) (slot : Nat) : Bool :=
  s.slotBytes slot 0 4 == [0x43, 0x4C, 0x52, 0x49] && s.slotNat slot 4 2 == 1 &&
    1 ≤ s.slotNat slot 6 2 && s.slotNat slot 6 2 ≤ 64 && s.slotNat slot 0x10 4 ≤ 7864320

/-- The public key that a KEY_SLOT names, for an image with these FLAGS. -/
def State.imageKey (s : State) (keySlot flags : Nat) : Option (List Byte) :=
  if keySlot = 0xFF then (if bitOf flags 1 then some Config.romKey else none)
  else if s.keyLive keySlot then SMap.find s.fth.keys keySlot else none

/-- Check 2: the key, the life-cycle state, BOUND, and the signature over every byte before it. -/
def State.signatureOk (s : State) (slot : Nat) : Bool :=
  let keySlot := s.slotNat slot 0x14 1
  let flags := s.slotNat slot 0x15 1
  let sigAt := 0x40 + 80 * s.slotNat slot 6 2
  let factory := bitOf flags 1
  match s.imageKey keySlot flags with
  | none => false
  | some k =>
    !(factory && s.fth.lc == 2) &&
    (s.fth.lc != 0 || (factory && keySlot == 0xFF)) &&
    (!bitOf flags 0 || s.slotBytes slot 0x18 16 == s.deviceId) &&
    Config.mlDsaVerify k (s.slotBytes slot 0 sigAt) (s.slotBytes slot sigAt 3309) (ascii "CLR192-IMG")

/-- A manifest entry: type, target, offset, length (Table 21.4). -/
def State.section (s : State) (slot n : Nat) : Nat × Nat × Nat × Nat :=
  let a := 0x40 + 80 * n
  (s.slotNat slot a 2, s.slotNat slot (a + 2) 2, s.slotNat slot (a + 4) 4, s.slotNat slot (a + 8) 4)

/-- Two sections overlap. -/
def sectionsOverlap (a b : Nat × Nat × Nat × Nat) : Bool := a.2.2.1 < b.2.2.1 + b.2.2.2 && b.2.2.1 < a.2.2.1 + a.2.2.2

/-- Pairs of a list, earlier with later. -/
def pairsOk {α : Type} (bad : α → α → Bool) : List α → Bool
  | [] => true
  | x :: xs => xs.all (fun y => !bad x y) && pairsOk bad xs

/-- Bits of the TARGETs of the TYPE 1 sections cover B0–B11 exactly once (Table 21.5). -/
def targetsCover (ts : List Nat) : Bool :=
  (List.range 12).all fun b => (ts.filter fun t => bitOf t b).length == 1

/-- Check 4: sections, types, reserved fields and digests. -/
def State.manifestOk (s : State) (slot : Nat) : Bool :=
  let n := s.slotNat slot 6 2
  let body := 0x40 + 80 * n + 3309
  let secs := (List.range n).map (s.section slot)
  let types := secs.map fun e => e.1
  secs.all (fun e => 1 ≤ e.1 && e.1 ≤ 10 && body ≤ e.2.2.1 && e.2.2.1 % 4096 == 0 && 1 ≤ e.2.2.2 &&
      e.2.2.1 + e.2.2.2 ≤ s.slotNat slot 0x10 4 && (e.1 == 1 || e.2.1 == 0)) &&
    pairsOk sectionsOverlap secs &&
    pairsOk (fun a b => a == b && a != 1) types &&
    [1, 2, 3, 5, 7, 8, 9].all (fun t => types.contains t) &&
    targetsCover ((secs.filter fun e => e.1 == 1).map fun e => e.2.1) &&
    s.slotNat slot 0x16 2 == 0 && s.slotNat slot 0x28 24 == 0 && s.slotNat slot 0x15 1 < 4 &&
    (bitOf (s.slotNat slot 0x15 1) 0 || s.slotNat slot 0x18 16 == 0) &&
    (List.range n).all (fun i => s.slotNat slot (0x40 + 80 * i + 12) 4 == 0 &&
      s.slotBytes slot (0x40 + 80 * i + 16) 64 == shake256 (s.slotBytes slot (s.section slot i).2.2.1 (s.section slot i).2.2.2))

/-- The use of a quad by its strap: 0b11 counts as 0b00 (Table 1.3). -/
def strapUse (q : Nat) : Nat := if q = 3 then 0 else q

/-- What the sections of a slot hold. -/
def State.slotImage (s : State) (slot : Nat) : Image :=
  { Config.imageContents (s.slotBytes slot 0 (s.slotNat slot 0x10 4)) with
    version := s.slotNat slot 8 4, rollback := s.slotNat slot 0x0C 4, keySlot := s.slotNat slot 0x14 1 }

/-- Check 5: the lane plan agrees with the straps (R27). -/
def State.lanePlanOk (s : State) (slot : Nat) : Bool :=
  (s.slotImage slot).quad2 == strapUse (s.rd Reg.GEN_STRAP_QMODE2) &&
    (s.slotImage slot).quad3 == strapUse (s.rd Reg.GEN_STRAP_QMODE3)

/-- The cause of a slot by the checks of R833 in order; 0 where all pass. -/
def State.slotCause (s : State) (slot : Nat) : Nat :=
  if !s.headerOk slot then causeNoImage
  else if !s.signatureOk slot then causeSignature
  else if s.slotNat slot 8 4 < s.fth.counter0 || s.slotNat slot 8 4 < s.slotNat slot 0x0C 4 then causeRollback
  else if !s.manifestOk slot then causeManifest
  else if !s.lanePlanOk slot then causeLanePlan
  else 0

/-- The slot that R834 runs, from the two causes: the passing slot of higher VERSION, slot 0 on a tie. -/
def State.chooseSlot (s : State) (c0 c1 : Nat) : Option Nat :=
  if c0 = 0 && c1 = 0 then (if s.slotNat 0 8 4 < s.slotNat 1 8 4 then some 1 else some 0)
  else if c0 = 0 then some 0
  else if c1 = 0 then some 1
  else none

/-- The cause of the last slot checked; a slot skipped with NO_IMAGE is not checked (R834). -/
def fallbackCause (c0 c1 : Nat) : Nat := if c1 ≠ causeNoImage then c1 else c0

/-! ### Commands -/

/-- A partition reads a BAR0 page: it has a link, and the page exists under the fallback bridge (R897). -/
def State.pageReads (s : State) (p page : Nat) : Bool :=
  (s.linkOf p).isSome && (s.imageRuns || (s.bridgeRuns && (page == 0 || page == 13 || page == 14)))

/-- A partition's BAR0 writes to a page take effect: not while the partition is in reset (R902). -/
def State.pageOk (s : State) (p page : Nat) : Bool :=
  s.pageReads p page && !s.on Reg.HST_STATUS_RESET_BUSY 0 p

/-- A Fountainhead command of a bank completes: RESULT, and CMD_DONE in the bank (Table 21.15). -/
def State.fthDone (s : State) (p result : Nat) : State :=
  ((s.setFld Reg.FTH_CMD_RESULT 0 p result).setFld Reg.FTH_CMD_PENDING 0 p 0).event
    Reg.FTH_INT_STATUS_CMD_DONE Reg.FTH_INT_EN_CMD_DONE p p

/-- A command that needs the supervisor right answers DENIED without it (R849). -/
def State.fthCommand (s : State) (p : Nat) (f : State → Nat × State) : State :=
  if !s.pageOk p 14 then s
  else if !s.isSup p then s.fthDone p stDenied
  else (f s).2.fthDone p (f s).1

/-- The same with its argument, which the write sets. -/
def State.fthCommandArg (s : State) (p arg : Nat) (f : State → Nat × State) : State :=
  if !s.pageOk p 14 then s else (s.setFld Reg.FTH_CMD_ARG 0 p arg).fthCommand p f

/-- Shows the live nonce in FTH_NONCE0–7; 0 when none is live. -/
def State.showNonce (s : State) : State :=
  let n := match s.fth.nonce with
    | none => List.replicate 32 (0 : Byte)
    | some (b, _) => b
  s.setAll ((List.range 8).map fun i => (Reg.FTH_NONCE_BYTES, i, 0, leNat ((n.drop (4 * i)).take 4)))

/-- NONCE: 32 fresh bytes replace any earlier nonce, and live for 300 s (R841). -/
def fthNonce (s : State) (now p : Nat) (entropy : List Byte) : State :=
  let s := s.upTo now
  s.fthCommand p fun s =>
    (stOk, { s with fth := { s.fth with nonce := some (takeBytes 32 entropy, s.wall + 300000000000) } }.showNonce)

/-- A nonce not consumed expires 300 s after its issue (R841). -/
def nonceExpire (s : State) (now : Nat) : State :=
  let s := s.upTo now
  match s.fth.nonce with
  | some (_, t) => if t ≤ s.wall then { s with fth := { s.fth with nonce := none } }.showNonce else s
  | none => s

/-- n bytes of a bank's window. -/
def State.window (s : State) (bank off n : Nat) : List Byte := cellRead s.fth.win (bank * 4096 + off) n

/-- Writes bytes into a bank's window. -/
def State.setWindow (s : State) (bank off : Nat) (bs : List Byte) : State :=
  { s with fth := { s.fth with win := cellWrite s.fth.win (bank * 4096 + off) bs } }

/-- The digest of the provisioning staging. -/
def State.stagingDigest (s : State) : List Byte := shake256 (cellRead s.fth.well 0x10000 0x4000)

/-- The fields of Table 21.7 that must be 0 for a token's type are 0, and TYPE is one of the table. -/
def tokenForm (t : List Byte) : Bool :=
  let type := leNat ((t.drop 4).take 1)
  let rights := leNat ((t.drop 6).take 2)
  let arg := leNat ((t.drop 0x3C).take 4)
  let payload := leNat ((t.drop 0x40).take 64)
  t.take 4 == [0x43, 0x4C, 0x52, 0x54] && 1 ≤ type && type ≤ 5 &&
    (if type = 1 then rights < 16 else rights == 0) &&
    (if type = 3 then true else if type = 5 then arg < 4 else arg == 0) &&
    (type == 4 || payload == 0)

/-- The slots whose keys are written and not revoked. -/
def State.liveKeys (s : State) : List Nat := (List.range 4).filter s.keyLive

/-- The DENIED cases of R842, for a token and the nonce that was live. -/
def State.tokenDenied (s : State) (t nonce : List Byte) : Bool :=
  let type := leNat ((t.drop 4).take 1)
  let keySlot := leNat ((t.drop 5).take 1)
  let arg := leNat ((t.drop 0x3C).take 4)
  let badSig := match SMap.find s.fth.keys keySlot with
    | none => true
    | some k => !Config.mlDsaVerify k (t.take 0x80) ((t.drop 0x80).take 3309) (ascii "CLR192-TOK")
  (t.drop 8).take 16 != s.deviceId || (t.drop 0x18).take 32 != nonce || leNat ((t.drop 0x38).take 4) < s.fth.counter1 ||
    !s.keyLive keySlot || badSig ||
    (type == 5 && (s.liveKeys == [arg] || (s.imageRuns && s.img.keySlot == arg))) ||
    (type == 4 && (t.drop 0x40).take 64 != s.stagingDigest) || s.on Reg.FTH_STATUS_LOCKDOWN 0 0

/-- The status that TOKEN returns, none where the press wait starts (R842). -/
def State.tokenStatus (s : State) (t : List Byte) : Option Nat :=
  if s.fth.press.isSome then some stBusy
  else if !tokenForm t || s.fth.lc != 2 then some stInvalid
  else
    match s.fth.nonce with
    | none => some stTimeout
    | some (n, e) =>
      if e ≤ s.wall then some stTimeout
      else if s.tokenDenied t n then some stDenied
      else if leNat ((t.drop 4).take 1) = 3 then
        (if s.fth.counter1 < leNat ((t.drop 0x3C).take 4) then some stOk else some stDouble)
      else none

/-- A token is applied: the fault log takes it and UNLOCKED is raised (R848, Table 21.15). -/
def State.tokenApplied (s : State) (type : Nat) : State :=
  (s.logFault 7 type []).eventSup Reg.FTH_INT_STATUS_UNLOCKED Reg.FTH_INT_EN_UNLOCKED

/-- TOKEN: the nonce is consumed whatever the outcome (R841); then R842. -/
def fthToken (s : State) (now p : Nat) : State :=
  let s := s.upTo now
  if !s.pageOk p 14 then s
  else
    let t := s.window p 0 3437
    let st := s.tokenStatus t
    let s := { s with fth := { s.fth with nonce := none } }.showNonce
    if !s.isSup p then s.fthDone p stDenied
    else
      match st with
      | none =>
        ({ s with fth := { s.fth with press := some (t, p, s.wall) } }.setFld Reg.FTH_CMD_PENDING 0 p 1).wr
          Reg.FTH_STATUS_PRESS_WAIT 1
      | some r =>
        if r = stOk then
          let a := leNat ((t.drop 0x3C).take 4)
          ((({ s with fth := { s.fth with counter1 := a } }.wr Reg.FTH_COUNTER1_VALUE a).tokenApplied 3).fthDone p stOk)
        else s.fthDone p r

/-- A life-cycle transition is accepted: it is written to the Wellstore and shown as pending (R839). -/
def State.acceptTransition (s : State) (target : Nat) (entropy : List Byte) : State :=
  let f := { s.fth with lcPending := some target }
  let f := if target = 1 then { f with seed := some (takeBytes 32 entropy) }
           else if target = 4 then { f with seed := none, keys := [] } else f
  let s := { s with fth := f }
  let s := (s.wr Reg.FTH_STATUS_LC_PENDING target).logFault 6 target []
  s.showKeys.showDeviceId.eventSup Reg.FTH_INT_STATUS_LC_ACCEPTED Reg.FTH_INT_EN_LC_ACCEPTED

/-- The effect of a token that a press applies (R844, R839); the status with which TOKEN completes. -/
def State.applyToken (s : State) (t : List Byte) : Nat × State :=
  match leNat ((t.drop 4).take 1) with
  | 1 =>
    let rights := leNat ((t.drop 6).take 2)
    let s := s.wr Reg.FTH_STATUS_RIGHTS rights
    let s := if bitOf rights 2 && !s.weir.suspLocked then { s with weir := { s.weir with suspRight := true } } else s
    (stOk, s.tokenApplied 1)
  | 2 =>
    if s.fth.lcPending.isSome then (stBusy, s) else (stOk, (s.acceptTransition 3 []).tokenApplied 2)
  | 4 => (stOk, { s with fth := { s.fth with provPending := true } }.tokenApplied 4)
  | 5 =>
    let k := leNat ((t.drop 0x3C).take 4)
    (stOk, ({ s with fth := { s.fth with revoked := if s.fth.revoked.contains k then s.fth.revoked
                                                    else k :: s.fth.revoked } }.showKeys).tokenApplied 5)
  | _ => (stOk, s)

/-- The press wait ends with a status. -/
def State.endPress (s : State) (p r : Nat) : State :=
  ({ s with fth := { s.fth with press := none } }.wr Reg.FTH_STATUS_PRESS_WAIT 0).fthDone p r

/-- A debounced press of SVC_BTN: within 10 s of the TOKEN write it applies the waiting token (R843). -/
def svcBtnPress (s : State) (now : Nat) : State :=
  let s := s.upTo now
  match s.fth.press with
  | none => s
  | some (t, p, at_) =>
    if s.wall ≤ at_ || at_ + 10000000000 < s.wall then s
    else ((s.applyToken t).2).endPress p (s.applyToken t).1

/-- No press within 10 s: TOKEN completes with TIMEOUT (R843). -/
def pressWaitTimeout (s : State) (now : Nat) : State :=
  let s := s.upTo now
  match s.fth.press with
  | none => s
  | some (_, p, at_) => if at_ + 10000000000 ≤ s.wall then s.endPress p stTimeout else s

/-- LC_ADVANCE reaches these states (Table 21.6). -/
def lcAdvanceOk (lc target : Nat) : Bool :=
  match lc with
  | 0 => target == 1 || target == 4
  | 1 => target == 2 || target == 4
  | 3 => target == 2 || target == 4
  | _ => false

/-- LC_ADVANCE (R839). -/
def fthLcAdvance (s : State) (p target : Nat) (entropy : List Byte) : State :=
  s.fthCommandArg p target fun s =>
    if s.fth.lcPending.isSome then (stBusy, s)
    else if !lcAdvanceOk s.fth.lc target then (stInvalid, s)
    else if target = 2 && (s.liveKeys.isEmpty || s.fth.prov.isNone) then (stInvalid, s)
    else (stOk, s.acceptTransition target entropy)

/-- CONFIRM: counter 0 takes the running image's ROLLBACK (R838). -/
def fthConfirm (s : State) (p : Nat) : State :=
  s.fthCommand p fun s =>
    if !s.imageRuns then (stInvalid, s)
    else if s.img.rollback ≤ s.fth.counter0 then (stDouble, s)
    else (stOk, { s with fth := { s.fth with counter0 := s.img.rollback } }.wr Reg.FTH_COUNTER0_VALUE s.img.rollback)

/-- Puts new owner keys into empty slots, in slot order (R829); none where they do not fit. -/
def addKeys (m : SMap (List Byte)) : List (List Byte) → Option (SMap (List Byte))
  | [] => some m
  | k :: ks =>
    match (List.range 4).find? fun n => (SMap.find m n).isNone with
    | none => none
    | some n => addKeys (SMap.set m n k) ks

/-- PROVISION: in MANUFACTURE and RETURN the staging record comes into effect at the next device reset; its owner keys
go into empty slots, and a full slot set answers INVALID (Table 21.11, Table 21.13). -/
def fthProvision (s : State) (p : Nat) : State :=
  s.fthCommand p fun s =>
    if s.fth.lc = 2 then (stDenied, s)
    else if s.fth.lc = 1 || s.fth.lc = 3 then
      match addKeys s.fth.keys (Config.provKeys (cellRead s.fth.well 0x10000 0x4000)) with
      | none => (stInvalid, s)
      | some m => (stOk, { s with fth := { s.fth with provPending := true, keys := m } }.showKeys)
    else (stInvalid, s)

/-- The slot that runs, if any (FTH_STATUS.SLOT_RUN). -/
def State.slotRuns (s : State) (slot : Nat) : Bool := s.rd Reg.FTH_STATUS_SLOT_RUN == slot

/-- IMG_ERASE: zeros over the first 4 KiB of a slot (R836). -/
def fthImgErase (s : State) (p slot : Nat) : State :=
  s.fthCommandArg p slot fun s =>
    if 1 < slot then (stInvalid, s)
    else if s.slotRuns slot then (stDenied, s)
    else (stOk, { s with fth := { s.fth with well := cellClear s.fth.well (slotBase slot) 4096 } })

/-- IMG_VERIFY: the checks of R833 on a slot, its cause shown (R837). -/
def fthImgVerify (s : State) (p slot : Nat) : State :=
  s.fthCommandArg p slot fun s =>
    if 1 < slot then (stInvalid, s)
    else if s.slotRuns slot then (stDenied, s)
    else
      let c := s.slotCause slot
      let s' := s.wr (if slot = 0 then Reg.FTH_STATUS_SLOT0_CAUSE else Reg.FTH_STATUS_SLOT1_CAUSE) c
      (if c = 0 then stOk else stInvalid, s')

/-! ### Windows (Table 21.13) -/

/-- A version-log entry in R196's field order: 216 bytes. -/
def VerLogEnt.bytes (e : VerLogEnt) : List Byte :=
  leBytes 4 e.boot ++ leBytes 2 e.number ++ leBytes 1 e.owner ++ [0] ++ leBytes 8 e.switchTime ++
    leBytes 8 (e.retireTime.getD (2 ^ 64 - 1)) ++ takeBytes 192 ((e.digests.map (takeBytes 64)).flatten)

/-- The 4 KiB that a window read brings in; none for an offset beyond the target. -/
def State.windowSource (s : State) (target off : Nat) : Option (List Byte) :=
  match target with
  | 0 => if off < 1920 then some (s.slotBytes 0 (4096 * off) 4096) else none
  | 1 => if off < 1920 then some (s.slotBytes 1 (4096 * off) 4096) else none
  | 2 => if off < 4 then some (cellRead s.fth.well (0x10000 + 4096 * off) 4096) else none
  | 3 => if off < 4 then some (takeBytes 4096 ((s.fth.prov.getD []).drop (4096 * off))) else none
  | 4 => (s.fth.verLog[off]?).map fun e => takeBytes 4096 e.bytes
  | 5 => if off = 0 then some (takeBytes 4096 (s.publicKey.getD [])) else none
  | 6 => if off < 4 then some (cellRead s.fth.well (0x55000 + 4096 * off) 4096) else none
  | _ => none

/-- A window transfer of a bank completes. -/
def State.winDone (s : State) (p r : Nat) : State :=
  (s.setFld Reg.FTH_WIN_CMD_RESULT 0 p r).event Reg.FTH_INT_STATUS_CMD_DONE Reg.FTH_INT_EN_CMD_DONE p p

/-- The fields of FTH_WIN_CMD as the command writes them. -/
def State.winFields (s : State) (p target write off : Nat) : State :=
  s.setAll [(Reg.FTH_WIN_CMD_TARGET, 0, p, target), (Reg.FTH_WIN_CMD_WRITE, 0, p, write),
            (Reg.FTH_WIN_CMD_OFFSET, 0, p, off)]

/-- A window transfer with WRITE 1 (R836, R849). -/
def fthWinWrite (s : State) (p target off : Nat) : State :=
  if !s.pageOk p 14 then s
  else
    let s := s.winFields p target 1 off
    if !s.isSup p then s.winDone p stDenied
    else if target < 2 then
      if s.slotRuns target then s.winDone p stDenied
      else if 1920 ≤ off then s.winDone p stInvalid
      else { s with fth := { s.fth with
          well := cellWrite s.fth.well (slotBase target + 4096 * off) (s.window p 0 4096) } }.winDone p stOk
    else if target = 2 then
      if 4 ≤ off then s.winDone p stInvalid
      else { s with fth := { s.fth with
          well := cellWrite s.fth.well (0x10000 + 4096 * off) (s.window p 0 4096) } }.winDone p stOk
    else s.winDone p stInvalid

/-- A window transfer with WRITE 0; targets 3, 5 and 6 are open to any partition (R849). -/
def fthWinRead (s : State) (p target off : Nat) : State :=
  if !s.pageOk p 14 then s
  else
    let s := s.winFields p target 0 off
    if !s.isSup p && !(target == 3 || target == 5 || target == 6) then s.winDone p stDenied
    else
      match s.windowSource target off with
      | none => s.winDone p stInvalid
      | some bs => (s.setWindow p 0 bs).winDone p stOk

/-! ### The reservoir map and attestation -/

/-- A reservoir map entry's 16 bytes (Table 22.8). -/
def RsvEnt.bytes (e : RsvEnt) : List Byte :=
  leBytes 1 e.kind ++ leBytes 1 e.trigger ++ leBytes 2 e.unit ++ leBytes 4 e.old ++ leBytes 4 e.new ++ leBytes 4 e.boot

/-- PC_SUMMARY of the reservoir map for physical pseudo-channels 0–33: rows, column groups, data and command/address
lanes in use (Table 22.7). -/
def State.pcSummary (s : State) : List Byte := (List.range 34).map (fun n => leBytes 4 (SMap.get s.mem.pcSpares n 0)) |>.flatten

/-- Bytes 0x000 to 0x0FF + 16 × COUNT of the reservoir map (Table 22.7, R869). -/
def State.rsvBytes (s : State) : List Byte :=
  [0x43, 0x4C, 0x52, 0x4D] ++ leBytes 2 1 ++ leBytes 2 s.fth.rsv.length ++ leBytes 4 s.fth.offline ++ leBytes 4 0 ++
    takeBytes 24 ((s.fth.baseSpeed.map (leBytes 2)).flatten) ++ List.replicate 24 0 ++
    takeBytes 136 s.pcSummary ++ List.replicate 56 0 ++ (s.fth.rsv.map RsvEnt.bytes).flatten

/-- A substitution or a permanent loss waits to be written into the map (R870). -/
def State.noteRsv (s : State) (kind trigger unit old new : Nat) : State :=
  { s with fth := { s.fth with rsvPending := s.fth.rsvPending ++
      [{ kind := kind, trigger := trigger, unit := unit, old := old, new := new, boot := s.fth.bootCount }] } }

/-- The Wellstore's sector remapping takes an entry, in each of its three copies (R868). -/
def State.setRemap (s : State) (sector phys : Nat) : State :=
  { s with fth := { s.fth with remap := s.fth.remap.map fun m => SMap.set m sector phys } }

/-- The physical sector that serves a sector of the Wellstore. -/
def State.sectorPhys (s : State) (sector : Nat) : Nat := SMap.get (s.fth.remap.headD []) sector sector

/-- The lowest of the 256 spare sectors that no entry has brought in (Table 22.5). -/
def State.spareSector (s : State) : Option Nat :=
  (List.range 256).find? fun n => !((s.fth.rsv ++ s.fth.rsvPending).any fun e => e.kind == 10 && e.new == 4096 + n)

/-- A write to a sector whose read-back differs: a spare sector takes its place at once, and the write is repeated there (R867,
R868, Table 22.6). The entry's TRIGGER, which the spec does not give, is 2 (DESIGN CHOICE, log entry 194). -/
def State.sectorFails (s : State) (sector : Nat) : State :=
  match s.spareSector with
  | none => s
  | some n =>
    let s := (s.noteRsv 10 2 sector (s.sectorPhys sector) (4096 + n)).setRemap sector (4096 + n)
    s.eventSup Reg.FTH_ST_INT_STATUS_SPARE_IN Reg.FTH_ST_INT_EN_EN

/-- RESERVOIR_MAP_WRITE: the oldest waiting entry is written, unless an entry of the same KIND, UNIT and OLD stands already (R870). -/
def State.writeRsv (s : State) : State :=
  match s.fth.rsvPending with
  | [] => s
  | e :: es =>
    let f := { s.fth with rsvPending := es }
    if s.fth.rsv.any fun x => x.kind == e.kind && x.unit == e.unit && x.old == e.old then { s with fth := f }
    else
      let off := if e.kind = 7 then setBits f.offline e.unit 1 1 else f.offline
      { s with fth := { f with rsv := f.rsv ++ [e], offline := off } }
/-- DEGRADED holds: a pseudo-channel offline, a basin held, a CE held, a helper FAILED (R866), as the four bits of
FTH_ST_STATUS.WHY. -/
def State.degradedWhy (s : State) : Nat :=
  flagBit (s.rd Reg.IPD_OFFLINE_PC != 0) + 2 * flagBit (s.fth.heldRegions.any (· < 12)) +
    4 * flagBit (s.fth.heldRegions.any (16 ≤ ·)) +
    8 * flagBit ((List.range 12).any fun b => s.fld Reg.BSN_HLP_CRY_STATE b 0 == 3 || s.fld Reg.BSN_HLP_CHK_STATE b 0 == 3)

/-- Shows DEGRADED and its reasons; DEGRADED is raised where it becomes set (Table 22.12). -/
def State.showDegraded (s : State) : State :=
  let why := s.degradedWhy
  let was := s.on Reg.FTH_STATUS_DEGRADED 0 0
  let d := flagBit (why != 0)
  let s := s.setAll [(Reg.FTH_ST_STATUS_WHY, 0, 0, why), (Reg.FTH_STATUS_DEGRADED, 0, 0, d), (Reg.GEN_STATUS_DEGRADED, 0, 0, d)]
  if why != 0 && !was then s.event Reg.FTH_ST_INT_STATUS_DEGRADED Reg.FTH_ST_INT_EN_EN 0 s.supervisor else s

/-- Debug is open by the life-cycle state: BLANK, MANUFACTURE or RETURN, until lock-down (Table 21.6, R840). -/
def State.debugByState (s : State) : Bool :=
  (s.fth.lc == 0 || s.fth.lc == 1 || s.fth.lc == 3) && !s.on Reg.FTH_STATUS_LOCKDOWN 0 0

/-- Bytes 0x000–0x13F of the attestation report of a partition (Table 21.9). -/
def State.report (s : State) (p : Nat) (nonce : List Byte) : List Byte :=
  let slot := s.rd Reg.FTH_STATUS_SLOT_RUN
  let hdr := if s.imageRuns then shake256 (s.slotBytes slot 0 (0x40 + 80 * s.slotNat slot 6 2)) else List.replicate 64 0
  [0x43, 0x4C, 0x52, 0x41] ++ leBytes 2 1 ++ leBytes 1 p ++
    leBytes 1 (s.fth.lc + 128 * flagBit s.fth.lcPending.isSome) ++ s.deviceId ++ takeBytes 32 nonce ++
    leBytes 4 s.fth.bootCount ++ leBytes 4 (if s.imageRuns then s.img.version else 0) ++ hdr ++
    leBytes 1 (s.rd Reg.GEN_STATUS_MODE) ++ leBytes 1 (s.rd Reg.GEN_STATUS_FALLBACK_CAUSE) ++ leBytes 1 s.img.keySlot ++
    leBytes 1 (s.rd Reg.FTH_STATUS_RIGHTS + 64 * flagBit s.debugByState + 128 * s.rd Reg.FTH_STATUS_LOCKDOWN) ++
    leBytes 4 s.fth.counter0 ++ leBytes 4 s.fth.counter1 ++ leBytes 2 (s.rd Reg.RUL_STATUS_INGRESS) ++
    leBytes 2 (s.rd Reg.FTH_KEYS_PRESENT + 16 * s.rd Reg.FTH_KEYS_REVOKED) ++ shake256 s.rsvBytes ++
    leBytes 4 s.fth.rsv.length ++ leBytes 4 (s.rd Reg.FTH_STATUS_DEGRADED) ++ leBytes 8 (s.net 0) ++
    takeBytes 64 Config.romDigest ++ List.replicate 32 0

/-- ATTEST: any bound partition; the report and its signature come into the partition's window (R845). -/
def fthAttest (s : State) (p : Nat) : State :=
  if !s.pageOk p 14 then s
  else if s.fth.lc = 0 || s.fth.lc = 4 then s.fthDone p stInvalid
  else
    match s.fth.seed with
    | none => s.fthDone p stInvalid
    | some k =>
      let r := s.report p (s.window p 0 32)
      (s.setWindow p 0 (r ++ takeBytes 3309 (Config.mlDsaSign k r (ascii "CLR192-ATT")))).fthDone p stOk

/-! ### Read cursors (R850, R872) -/

/-- Reading FTH_FLOG_COUNT returns the number of entries and sets the bank's cursor to the newest. -/
def flogCountRead (s : State) (bank : Nat) : State :=
  if bank < 4 && !s.pageReads bank 14 then s
  else
    let n := s.fth.flog.length
    ({ s with fth := { s.fth with flogCur := SMap.put s.fth.flogCur bank 0 0 } }.setFld Reg.FTH_FLOG_COUNT_COUNT 0 bank n).emit
      (.reg bank n)

/-- Reading FTH_FLOG_DATA returns the next word, newest entry first, and after the last word 0xFFFF_FFFF once. -/
def flogDataRead (s : State) (bank : Nat) : State :=
  if bank < 4 && !s.pageReads bank 14 then s
  else
    let c := SMap.get s.fth.flogCur bank 0
    match s.fth.flog[c / 8]? with
    | some e =>
      let w := leNat ((e.bytes.drop (4 * (c % 8))).take 4)
      ({ s with fth := { s.fth with flogCur := SMap.put s.fth.flogCur bank (c + 1) 0 } }.setFld Reg.FTH_FLOG_DATA_WORD 0 bank w).emit
        (.reg bank w)
    | none =>
      ({ s with fth := { s.fth with flogCur := SMap.put s.fth.flogCur bank 0 0 } }.setFld Reg.FTH_FLOG_DATA_WORD 0 bank
        0xFFFFFFFF).emit (.reg bank 0xFFFFFFFF)

/-- Reading FTH_RSV_COUNT returns the number of entries and sets the bank's cursor to the oldest. -/
def rsvCountRead (s : State) (bank : Nat) : State :=
  if bank < 4 && !s.pageReads bank 14 then s
  else
    let n := s.fth.rsv.length
    ({ s with fth := { s.fth with rsvCur := SMap.put s.fth.rsvCur bank 0 0 } }.setFld Reg.FTH_RSV_COUNT_COUNT 0 bank n).emit
      (.reg bank n)

/-- Reading FTH_RSV_DATA returns the next word, oldest entry first, and after the last word 0xFFFF_FFFF once. -/
def rsvDataRead (s : State) (bank : Nat) : State :=
  if bank < 4 && !s.pageReads bank 14 then s
  else
    let c := SMap.get s.fth.rsvCur bank 0
    match s.fth.rsv[c / 4]? with
    | some e =>
      let w := leNat ((e.bytes.drop (4 * (c % 4))).take 4)
      ({ s with fth := { s.fth with rsvCur := SMap.put s.fth.rsvCur bank (c + 1) 0 } }.setFld Reg.FTH_RSV_DATA_WORD 0 bank w).emit
        (.reg bank w)
    | none =>
      ({ s with fth := { s.fth with rsvCur := SMap.put s.fth.rsvCur bank 0 0 } }.setFld Reg.FTH_RSV_DATA_WORD 0 bank
        0xFFFFFFFF).emit (.reg bank 0xFFFFFFFF)

end Sys2Proof.Machine
end

