-- ==== Sys2Proof/Machine/Operands.lean ====
section
/-! DEFINITION. The functional units and their ports (Tables 8.1, 8.5, 8.6 and 9.1): the numbers of the units, the
result and status ports an operation makes ready, and an operation's start, wait and completion (R299 to R303, R316,
R358, R361). An operation a unit has taken stands in the thread until it completes; its results are those it will
show. -/

namespace Sys2Proof.Machine

/-! ### Units, numbered in the order of Table 9.1 -/

def uAlu (n : Nat) : Nat := n
def uBit : Nat := 2
def uCmp : Nat := 3
def uMul : Nat := 4
def uLs : Nat := 5
def uPw : Nat := 6
def uDl : Nat := 7
def uTl : Nat := 8
def uFlow : Nat := 9
def uCh : Nat := 10
def uLk : Nat := 11
def uAt : Nat := 12
def uEvt : Nat := 13
def uTm : Nat := 14
def uCs : Nat := 15
def uWc : Nat := 16
def uSq : Nat := 17
def uHlp (h : Nat) : Nat := 18 + h
def uSv : Nat := 20
def uDbg : Nat := 21
def uPmp : Nat := 22
def uLkp : Nat := 23
def uEdg : Nat := 24

/-- The result ports of a unit (Tables 9.2 to 9.19, 15.7, 16.8 and 18.4). -/
def unitResults (u : Nat) : List Nat :=
  match u with
  | 0 => [0x081, 0x082]
  | 1 => [0x0C1, 0x0C2]
  | 2 => [0x102]
  | 3 => [0x162]
  | 4 => [0x141, 0x142]
  | 5 => [0x182, 0x183]
  | 6 => [0x202]
  | 7 => [0x242]
  | 8 => [0x283, 0x284, 0x285]
  | 9 => [0x2A4, 0x2A5, 0x2A6]
  | 10 => [0x303, 0x304, 0x305]
  | 11 => [0x342]
  | 12 => [0x384, 0x385]
  | 13 => [0x3A1, 0x3A2, 0x3A3]
  | 14 => [0x3C0, 0x3C1]
  | 15 => [0x3E1]
  | 16 => [0x422, 0x424]
  | 17 => [0x442]
  | 18 => [0x462]
  | 19 => [0x4A2]
  | 20 => [0x4E2]
  | 22 => [0x626]
  | 24 => [0x642, 0x643]
  | _ => []

/-- The status port of a unit; the ALUs, the bit unit and the compare unit have none. -/
def unitStatus (u : Nat) : Option Nat :=
  match u with
  | 4 => some 0x143
  | 5 => some 0x184
  | 6 => some 0x203
  | 7 => some 0x243
  | 8 => some 0x286
  | 9 => some 0x2A7
  | 10 => some 0x306
  | 11 => some 0x343
  | 12 => some 0x386
  | 13 => some 0x3A4
  | 14 => some 0x3C3
  | 15 => some 0x3E2
  | 16 => some 0x423
  | 17 => some 0x443
  | 18 => some 0x463
  | 19 => some 0x4A3
  | 20 => some 0x4E3
  | 21 => some 0x501
  | 22 => some 0x627
  | 23 => some 0x661
  | 24 => some 0x644
  | _ => none

/-- The unit whose result or status port this is. -/
def portUnit (p : Nat) : Option Nat :=
  (List.range 25).find? fun u => (unitResults u).contains p || unitStatus u == some p

/-- Units whose result is ready before the engine's next issue opportunity (Table 9.1). -/
def fastUnit (u : Nat) : Bool := u < 4 || u == 13 || u == 14 || u == 21

/-! ### Threads and ports -/

/-- The value of a port of a thread. -/
def Thr.port (t : Thr) (p : Nat) : W32 := SMap.get t.ports p 0

/-- Writes a port of a thread. -/
def Thr.setPort (t : Thr) (p : Nat) (v : W32) : Thr := { t with ports := SMap.put t.ports p v 0 }

/-- Writes several ports. -/
def Thr.setPorts (t : Thr) (l : List (Nat × W32)) : Thr := l.foldl (fun t e => t.setPort e.1 e.2) t

/-- An operand port of a thread, as a number. -/
def State.opnd (s : State) (t p : Nat) : Nat := ((s.thread t).port p).toNat

/-- The basin of a thread; 12 stands for the control plane. -/
def threadBasin (t : Nat) : Nat := if t < 1536 then t / 128 else 12

/-- The control engine whose thread this is. -/
def threadCe (t : Nat) : Option Nat := if t < 1536 then none else some (t - 1536)

/-- The basin of a replay session that has ended issues nothing more (R886). -/
def State.replayOver (s : State) (b : Nat) : Bool := s.rpl.replay.any fun r => r.step == 6 && r.basin == b

/-- The thread can take a trigger: it is READY and its engine runs (R257, Table 15.11). -/
def State.canIssue (s : State) (t : Nat) : Bool :=
  (s.thread t).state == 0 && s.imageRuns && !s.replayOver (threadBasin t) &&
    match threadCe t with
    | none => s.fld Reg.BSN_ENG_ESTATE (t / 8) 0 == 0
    | some c => (SMap.get s.pmp.ces c {}).state == 1

/-- A unit has an operation of the thread in flight (R358). -/
def State.opBusy (s : State) (t u : Nat) : Bool := (SMap.find (s.thread t).ops u).isSome

/-! ### Operations -/

/-- Free values for the result ports that an operation's description does not name. -/
def State.freePorts : State → List Nat → List (Nat × W32) × State
  | s, [] => ([], s)
  | s, p :: ps =>
    let (v, s) := s.free
    let (l, s) := s.freePorts ps
    ((p, v) :: l, s)

/-- The ports that an operation makes ready: those given; with a status other than OK every other result port reads 0
(R361), and with OK a result port that the operation's description does not name has a free value. -/
def State.opPorts (s : State) (u : Nat) (given : List (Nat × W32)) (st : Nat) : List (Nat × W32) × State :=
  let rest := (unitResults u).filter fun p => !(given.any fun e => e.1 == p)
  let status : List (Nat × W32) :=
    match unitStatus u with
    | none => []
    | some p => [(p, BitVec.ofNat 32 st)]
  if st = stOk then
    let (l, s) := s.freePorts rest
    (given ++ l ++ status, s)
  else (given ++ rest.map (fun p => (p, (0 : W32))) ++ status, s)

/-- An operation stands in its unit. -/
def State.putOp (s : State) (t u : Nat) (o : UnitOp) : State :=
  s.updThread t fun th => { th with ops := SMap.set th.ops u o }

/-- An operation that has all it needs: it may complete. -/
def State.startOp (s : State) (t u : Nat) (given : List (Nat × W32)) (st : Nat) : State :=
  let (l, s) := s.opPorts u given st
  s.putOp t u { res := l }

/-- An operation that waited has what it waited for. -/
def State.endWait (s : State) (t u : Nat) (given : List (Nat × W32)) (st : Nat) : State := s.startOp t u given st

/-- The completion of an operation: its result and status ports become ready (R300), and a predicate is written unless a
move has cancelled the write (R316). -/
def State.completeOp (s : State) (t u : Nat) : State :=
  match SMap.find (s.thread t).ops u with
  | none => s
  | some o =>
    if o.wait ≠ 0 then s
    else s.updThread t fun th =>
      let th := { th with ops := SMap.erase th.ops u }.setPorts o.res
      match o.pred with
      | none => th
      | some (p, b) => th.setPort (0x020 + p) (BitVec.ofNat 32 (flagBit b))

/-- Operations whose results are ready before the next issue opportunity complete. -/
def State.settle (s : State) (t : Nat) : State :=
  [0, 1, 2, 3, 13, 14, 21].foldl (fun s u => s.completeOp t u) s

/-! ### Event flags (Table 7.7) -/

def evDroplet : Nat := 0
def evTimer : Nat := 1
def evChannel : Nat := 2
def evLock : Nat := 3
def evHelper : Nat := 4
def evMsg : Nat := 5
def evSignal : Nat := 6
def evFault : Nat := 8
def evDeadlock : Nat := 9

/-- The flags that wake a waiting thread: those its mask selects, and for T0 also FAULT and DEADLOCK (R268, R270). -/
def wakeMask (t mask : Nat) : Nat := if t < 1536 && t % 8 = 0 then mask ||| 0x300 else mask

/-- A thread that waits on events goes on when a flag it waits for is set (R268): the wait returns the flags set. -/
def State.wakeThread (s : State) (t : Nat) : State :=
  let th := s.thread t
  match SMap.find th.ops uEvt with
  | none => s
  | some o =>
    if o.wait = 4 && th.events &&& wakeMask t o.arg ≠ 0 then
      let s := s.endWait t uEvt [(0x3A1, BitVec.ofNat 32 th.events)] stOk
      s.updThread t fun th => if th.state = 2 then { th with state := 0 } else th
    else s

/-- An event flag of a thread is set (R269). -/
def State.setEvent (s : State) (t n : Nat) : State :=
  (s.updThread t fun th => { th with events := th.events ||| 2 ^ n }).wakeThread t

/-- A state after a triggered operation, and the fault it raised (Table 7.8, Table 8.8); 0 for none. -/
abbrev Trig := State × Nat

def causeBundleDest : Nat := 0x01
def causePort : Nat := 0x02
def causeGuard : Nat := 0x03
def causeFetch : Nat := 0x04
def causeLoop : Nat := 0x05
def causeRstackOver : Nat := 0x06
def causeRstackUnder : Nat := 0x07
def causeAddress : Nat := 0x08
def causeAlign : Nat := 0x09
def causeScratchRight : Nat := 0x0A
def causeDropletField : Nat := 0x0B
def causeEcc : Nat := 0x0C
def causeHaltHeld : Nat := 0x0D
def causeUnit : Nat := 0x0E
def causePriv : Nat := 0x10
def causeTranslate : Nat := 0x11
def causeProtect : Nat := 0x12
def causeWalk : Nat := 0x13

end Sys2Proof.Machine
end

