-- ==== Sys2Proof/Machine/Memory.lean ====
section
/-! DEFINITION. The in-package DRAM and the caches before it: address mapping, poison and offline ranges, the scheduler
of a pseudo-channel, refresh, scrub and retraining, cache lookup, fill, replacement, write-back and maintenance
(R510 to R562). -/

namespace Sys2Proof.Machine

/-! ### Address mapping (R539, R540) -/

/-- Where an IPD address lies: pseudo-channel, bank, row. -/
def ipdPlace (order a : Nat) : Nat × Nat × Nat :=
  let row19 := bits a 19 11
  let base := 2048 * bits a 30 3
  match order with
  | 0 => (bits a 6 5, (bits a 11 2 * 4 + bits a 13 2) ^^^ (row19 % 16), base + row19)
  | 1 => (bits a 10 5, (bits a 15 2 * 4 + bits a 17 2) ^^^ (row19 % 16), base + row19)
  | 2 => (bits a 10 5, (bits a 6 2 * 4 + bits a 8 2) ^^^ (row19 % 16), base + row19)
  | _ => (bits a 25 5, bits a 10 2 * 4 + bits a 12 2, base + bits a 14 11)

/-- The place of an IPD address under the order of its region. -/
def State.place (s : State) (a : Nat) : Nat × Nat × Nat := ipdPlace (bits (s.rd Reg.IPD_MAP_ORDER) (2 * bits a 30 3) 2) a

/-- The logical pseudo-channel of an IPD address. -/
def State.pcOf (s : State) (a : Nat) : Nat := (s.place a).1

/-- No working memory stands behind the address: its pseudo-channel is offline (R565), or it lies beyond the 8 GiB. -/
def State.offlineAt (s : State) (a : Nat) : Bool := decide (2 ^ 33 ≤ a) || bitOf (s.rd Reg.IPD_OFFLINE_PC) (s.pcOf a)

/-! ### Words, poison and offline ranges (R554, R555, R566) -/

/-- A read of the 8-byte word that holds the address completes with LOST. -/
def State.wordLost (s : State) (a : Nat) : Bool := s.offlineAt a || s.mem.poison.contains (a / 8)

/-- n bytes of the IPD; bytes of a lost word read 0. -/
def State.ipdRead (s : State) (a n : Nat) : List Byte :=
  (List.range n).map fun i => if s.wordLost (a + i) then 0 else cellGet s.mem.ipd (a + i)

/-- Some word of the range is lost. -/
def State.ipdLost (s : State) (a n : Nat) : Bool := (List.range n).any fun i => s.wordLost (a + i)

/-- The whole of the 8-byte word lies in the range. -/
def wordCovered (a n w : Nat) : Bool := a ≤ 8 * w && 8 * w + 8 ≤ a + n

/-- A write to the range finds an offline address, or a poisoned word that it covers only in part. -/
def State.ipdWriteLost (s : State) (a n : Nat) : Bool :=
  (List.range n).any fun i => s.wordLost (a + i) && (s.offlineAt (a + i) || !wordCovered a n ((a + i) / 8))

/-- Bytes written to the IPD: whole words clear their poison; bytes of a word that stays lost are discarded. -/
def State.ipdWrite (s : State) (a : Nat) (bs : List Byte) : State :=
  let n := bs.length
  let s := { s with mem := { s.mem with
    poison := s.mem.poison.filter fun w => !wordCovered a n w || s.offlineAt (8 * w) } }
  let ipd := bs.zipIdx.foldl (fun m e => if s.wordLost (a + e.2) then m else cellPut m (a + e.2) e.1) s.mem.ipd
  { s with mem := { s.mem with ipd := ipd } }

/-- A number kept in a rising list. -/
def insertRising (x : Nat) : List Nat → List Nat
  | [] => [x]
  | y :: ys => if x < y then x :: y :: ys else if x = y then y :: ys else y :: insertRising x ys

/-- A word is written with the check pattern that marks it poisoned, and reported (R554). -/
def State.poisonWord (s : State) (a : Nat) : State :=
  let s := { s with mem := { s.mem with poison := insertRising (a / 8) s.mem.poison } }
  let s := (s.bump Reg.IPD_UE_CNT).bump Reg.IPD_POISON_CNT
  let s := s.setAll [(Reg.IPD_POISON_LO_ADDR, 0, 0, a / 8), (Reg.IPD_POISON_HI_ADDR32, 0, 0, a / 2 ^ 32),
                     (Reg.IPD_POISON_HI_VALID, 0, 0, 1)]
  s.eventSup Reg.IPD_INT_STATUS_UE Reg.IPD_INT_EN_UE

/-! ### Requests to the controller (Table 13.6) -/

def clsRt : Nat := 0
def clsPkt : Nat := 1
def clsTbl : Nat := 2
def clsBulk : Nat := 3

def State.pchan (s : State) (pc : Nat) : PChan := SMap.get s.mem.pcs pc {}

def State.setPchan (s : State) (pc : Nat) (p : PChan) : State :=
  { s with mem := { s.mem with pcs := SMap.put s.mem.pcs pc p {} } }

/-- The line of an address. -/
def lineOf (a : Nat) : Nat := a / 64 * 64

/-- One request enters its pseudo-channel's queue, with the class and hint of Table 13.6; a read of a line in the write
queue takes its data there (R544). -/
def State.ipdReq (s : State) (a : Nat) (write : Bool) (cls : Nat) : State :=
  if s.offlineAt a then s
  else
    let p := s.pchan (s.pcOf a)
    if !write && p.queue.any (fun q => q.write && lineOf q.addr == lineOf a) then s
    else s.setPchan (s.pcOf a) { p with queue := p.queue ++
      [{ addr := a, write := write, cls := cls, openHint := cls % 2 == 1, at_ := s.now }] }

/-- The requests of an access to n bytes, one for each line. -/
def State.ipdReqs (s : State) (a n : Nat) (write : Bool) (cls : Nat) : State :=
  (List.range ((a + n + 63) / 64 - a / 64)).foldl (fun s i => s.ipdReq (max a (lineOf a + 64 * i)) write cls) s

/-! ### The scheduler (R543 to R546, R550) -/

/-- The first n elements that satisfy a condition, and all that do not: what the queues of 64 lines hold (R544). -/
def firstOf (f : DramReq → Bool) : Nat → List DramReq → List DramReq
  | _, [] => []
  | n, q :: qs => if f q then (if n = 0 then firstOf f 0 qs else q :: firstOf f (n - 1) qs) else q :: firstOf f n qs

/-- The requests in the read queue and the write queue; what does not fit waits at its requester. -/
def PChan.queued (p : PChan) : List DramReq := firstOf (fun q => q.write) 64 (firstOf (fun q => !q.write) 64 p.queue)

/-- eff(q) of R543; the age limit in ns. -/
def DramReq.eff (q : DramReq) (now limit : Nat) : Nat := if limit ≤ now - q.at_ then 0 else q.cls

/-- The request with the lowest eff, the oldest among equals. -/
def chooseReq (now limit : Nat) : List DramReq → Option DramReq
  | [] => none
  | q :: qs =>
    match chooseReq now limit qs with
    | none => some q
    | some r => if r.eff now limit < q.eff now limit then some r else some q

/-- The least count of an activate table, and its lowest index. -/
def leastAct : List (Nat × Nat) → Nat → Nat × Nat → Nat × Nat
  | [], _, best => best
  | e :: es, i, best => leastAct es (i + 1) (if e.2 < best.1 then (e.2, i) else best)

/-- The activate table after an ACTIVATE of a row (R550), and whether the row's neighbours are refreshed. -/
def activate (thresh row : Nat) (tab : List (Nat × Nat)) : List (Nat × Nat) × Bool :=
  let hit := tab.findIdx? fun e => e.1 == row
  let (tab, i) :=
    match hit with
    | some i => (tab, i)
    | none =>
      if tab.length < 32 then (tab ++ [(row, 0)], tab.length)
      else
        let i := (leastAct tab 0 (2 ^ 32, 0)).2
        (tab.set i (row, (tab.getD i (0, 0)).2), i)
  let n := (tab.getD i (row, 0)).2 + 1
  if thresh ≤ n then (tab.set i (row, 0), true) else (tab.set i (row, n), false)

/-- The column command of a request: the request moves to those issued, and its bank is precharged after a closed hint
unless a queued request names the same row (R545). -/
def State.issueColumn (s : State) (pc : Nat) (p : PChan) (q : DramReq) : State :=
  let rest := p.queue.erase q
  let b := (s.place q.addr).2.1
  let same := rest.any fun r => (s.place r.addr).2 == (s.place q.addr).2
  let rows := if q.openHint || same then p.openRow else SMap.erase p.openRow b
  s.setPchan pc { p with queue := rest, issued := p.issued ++ [q], openRow := rows }

/-- The draining state of the write queue (R544). -/
def PChan.drain (p : PChan) : Bool :=
  let w := (p.queued.filter fun q => q.write).length
  if 48 ≤ w then true else if w ≤ 16 then false else p.draining

/-- The pseudo-channel takes requests: its clock runs, and it is neither offline nor in full retraining (R548, R561). -/
def State.pcServes (s : State) (pc : Nat) : Bool :=
  !bitOf (s.rd Reg.IPD_OFFLINE_PC) pc && s.clockOk (8 + pc / 16) && !s.islandInReset (8 + pc / 16) &&
    !(s.on Reg.IPD_STATUS_FULL_TRAIN 0 0 && s.rd Reg.IPD_STATUS_FT_PC == pc)

/-- IPD_COMMAND_ISSUE: one command for the request that R543 chooses: a precharge where another row of its bank is open,
an ACTIVATE where none is, or its read or write. Requests whose eff became 0 by age are counted once (R546). -/
def ipdCommandIssue (s : State) (now pc : Nat) : State :=
  let s := s.upTo now
  if !s.pcServes pc then s
  else
    let limit := s.rd Reg.IPD_CFG_AGE_LIMIT * 100
    let p := s.pchan pc
    let old (q : DramReq) : Bool := q.cls != 0 && limit ≤ s.now - q.at_ && !q.promoted
    let n := (p.queue.filter old).length
    let p := { p with queue := p.queue.map fun q => if old q then { q with promoted := true } else q, draining := p.drain }
    let s := (s.setPchan pc p).bumpFld Reg.IPD_PROMOTE_CNT 0 0 n
    let cand := p.queued
    let writes := cand.filter fun q => q.write
    match chooseReq s.now limit (if p.draining && !writes.isEmpty then writes else cand) with
    | none => s
    | some q =>
      let b := (s.place q.addr).2.1
      let row := (s.place q.addr).2.2
      match SMap.find p.openRow b with
      | some r => if r = row then s.issueColumn pc p q else s.setPchan pc { p with openRow := SMap.erase p.openRow b }
      | none =>
        let (tab, nref) := activate (s.rd Reg.IPD_NR_CFG_NR_THRESH) row (SMap.get p.acts b [])
        let s := s.setPchan pc { p with openRow := SMap.set p.openRow b row, acts := SMap.put p.acts b tab [] }
        if nref then s.bump Reg.IPD_NREF_CNT else s

/-! ### Errors, spare rows, retraining -/

/-- Full retraining of a pseudo-channel is asked for; requests wait in the order in which they arose (R560, R561). -/
def State.askRetrain (s : State) (pc : Nat) : State :=
  if s.mem.retrainQ.contains pc || (s.on Reg.IPD_STATUS_FULL_TRAIN 0 0 && s.rd Reg.IPD_STATUS_FT_PC == pc) then s
  else { s with mem := { s.mem with retrainQ := s.mem.retrainQ ++ [pc] } }

/-- A corrected word (R552): its counts, and R560 where CE_THRESH is passed within a second. -/
def State.corrected (s : State) (pc : Nat) : State :=
  let p := s.pchan pc
  let within := p.ceTimes.filter fun t => s.now < t + 1000000000
  let p := { p with ce := min (p.ce + 1) 0xFFFFFFFF, ceTimes := s.now :: within }
  let s := (s.setPchan pc p).bump Reg.IPD_CE_CNT
  if within.length = s.rd Reg.IPD_CFG_CE_THRESH then
    (s.eventSup Reg.IPD_INT_STATUS_CE_THRESH Reg.IPD_INT_EN_CE_THRESH).askRetrain pc
  else s

/-- The key of a row: pseudo-channel, bank, row. -/
def rowKey (pc bank row : Nat) : Nat := pc * 2 ^ 18 + bank * 2 ^ 14 + row

/-- The physical pseudo-channel that serves a logical one (Table 13.3). -/
def State.physOf (s : State) (pc : Nat) : Nat := SMap.get s.mem.phys pc (if pc < 16 then pc else pc + 1)

/-- A row is replaced with a spare row of its bank, while the bank has one (R557). -/
def State.spareRow (s : State) (a : Nat) : State :=
  let (pc, bank, row) := s.place a
  let used := (s.mem.spareRows.filter fun k => k / 2 ^ 14 == pc * 16 + bank).length
  if 32 ≤ used then s
  else
    let ph := s.physOf pc
    let s := { s with mem := { s.mem with
      spareRows := rowKey pc bank row :: s.mem.spareRows
      scrubRows := SMap.erase s.mem.scrubRows (rowKey pc bank row)
      pcSpares := SMap.put s.mem.pcSpares ph (SMap.get s.mem.pcSpares ph 0 + 1) 0 } }
    (s.bump Reg.IPD_ROWSPARE_CNT).eventSup Reg.IPD_INT_STATUS_ROW_SPARED Reg.IPD_INT_EN_ROW_SPARED

/-- A read finds a word in the given condition: 0 good, 1 corrected, 2 uncorrectable (R552, R554, R557). -/
def State.wordFound (s : State) (a ecc : Nat) : State :=
  if ecc = 1 then s.corrected (s.pcOf a)
  else if ecc = 2 then (s.poisonWord a).spareRow a
  else s

/-- IPD_ACCESS_COMPLETE: the oldest issued access of the pseudo-channel completes (R547). -/
def ipdAccessComplete (s : State) (pc ecc : Nat) : State :=
  let p := s.pchan pc
  match p.issued with
  | [] => s
  | q :: qs =>
    let s := s.setPchan pc { p with issued := qs }
    if q.write || s.offlineAt q.addr then s else s.wordFound q.addr ecc

/-- REFRESH of one bank (R549): its row closes; at the start of a refresh period every activate table is cleared (R550). -/
def refresh (s : State) (pc bank : Nat) (periodStart : Bool) : State :=
  let p := s.pchan pc
  s.setPchan pc { p with openRow := SMap.erase p.openRow bank, acts := if periodStart then [] else p.acts }

/-- PATROL_SCRUB of one line (R553): each corrected word is counted and written back, and a row that gives corrected
errors in two different passes is replaced (R557). A line at or below the last line read begins a new pass. -/
def patrolScrub (s : State) (line : Nat) (ecc : List Nat) : State :=
  let a := 64 * line
  if s.offlineAt a then s
  else
    let pass := if line ≤ s.mem.scrubLast then s.mem.scrubPass + 1 else s.mem.scrubPass
    let s := { s with mem := { s.mem with scrubPass := pass, scrubLast := line } }
    let s := s.ipdReq a false clsBulk
    let fix := (List.range 8).filter fun i => ecc.getD i 0 == 1
    let s := (List.range 8).foldl (fun s i => s.wordFound (a + 8 * i) (ecc.getD i 0)) s
    if fix.isEmpty then s
    else
      let s := s.ipdReq a true clsBulk
      let (pc, bank, row) := s.place a
      let k := rowKey pc bank row
      let before := SMap.get s.mem.scrubRows k 0
      if before ≠ 0 && before ≠ pass + 1 then s.spareRow a
      else { s with mem := { s.mem with scrubRows := SMap.put s.mem.scrubRows k (pass + 1) 0 } }

/-- TRACKING_STEP: one lane setting moves by one step (R559); at the end of the window with no working setting, full
retraining follows (R560). -/
def trackingStep (s : State) (pc : Nat) (windowEnd : Bool) : State :=
  if bitOf (s.rd Reg.IPD_OFFLINE_PC) pc then s
  else
    let s := s.bump Reg.IPD_TRACK_CNT
    if windowEnd then s.askRetrain pc else s

/-- FULL_RETRAIN_START (Sequence 13.1, step 1): the oldest request; with none waiting, Fountainhead's own (R560). At most
one runs (R561). -/
def fullRetrainStart (s : State) (pc : Nat) : State :=
  if s.on Reg.IPD_STATUS_FULL_TRAIN 0 0 || bitOf (s.rd Reg.IPD_OFFLINE_PC) pc || !s.on Reg.IPD_STATUS_TRAINED 0 0 then s
  else
    let start (s : State) : State := s.setAll [(Reg.IPD_STATUS_FULL_TRAIN, 0, 0, 1), (Reg.IPD_STATUS_FT_PC, 0, 0, pc)]
    match s.mem.retrainQ with
    | [] => start s
    | q :: qs => if q = pc then start { s with mem := { s.mem with retrainQ := qs } } else s

/-- FULL_RETRAIN_END (steps 3 to 5): every issued command has completed and every bank has been refreshed; a working
setting raises RETRAIN_DONE, none leaves the old setting and asks Fountainhead for a retirement (R563). -/
def fullRetrainEnd (s : State) (pc : Nat) (works : Bool) (temp margin : Nat) : State :=
  if !(s.on Reg.IPD_STATUS_FULL_TRAIN 0 0 && s.rd Reg.IPD_STATUS_FT_PC == pc) then s
  else
    let s := (s.wr Reg.IPD_STATUS_FULL_TRAIN 0).bump Reg.IPD_RETRAIN_CNT
    let p := { s.pchan pc with openRow := [], ceTimes := [] }
    if works then
      (s.setPchan pc { p with temp := temp, margin := margin }).eventSup
        Reg.IPD_INT_STATUS_RETRAIN_DONE Reg.IPD_INT_EN_RETRAIN_DONE
    else
      let s := s.setPchan pc p
      if s.mem.retireQ.contains pc then s else { s with mem := { s.mem with retireQ := s.mem.retireQ ++ [pc] } }

/-! ### Caches (Table 13.1) -/

/-- A cache's shape: log2 of its ways, sets, victim lines, miss entries. -/
structure CacheGeo where
  lw : Nat
  sets : Nat
  victims : Nat
  entries : Nat
  deriving DecidableEq, Repr

/-- Cache numbers: 0–191 the L1 of a logical engine, 192 + b a basin cache, 204 the control cache, 205 + c the L1 data and
213 + c the L1 instruction cache of CEc. -/
def cacheGeo (c : Nat) : CacheGeo :=
  if c < 192 then ⟨2, 64, 4, 8⟩
  else if c < 204 then ⟨4, 2048, 32, 64⟩
  else if c = 204 then ⟨4, 4096, 32, 64⟩
  else if c < 213 then ⟨4, 64, 4, 8⟩
  else ⟨4, 64, 4, 4⟩

/-- The next level: the basin cache, the control cache, or none for the IPD controller (R516). -/
def nextCache (c : Nat) : Option Nat :=
  if c < 192 then some (192 + c / 16) else if c < 205 then none else some 204

/-- The index of a cache in IPD_CACHE_SEL. -/
def cacheIdx (c : Nat) : Option Nat := if 192 ≤ c && c ≤ 204 then some (c - 192) else none

def State.cache (s : State) (c : Nat) : Cache := SMap.get s.mem.caches c {}

def State.setCache (s : State) (c : Nat) (k : Cache) : State :=
  { s with mem := { s.mem with caches := SMap.put s.mem.caches c k {} } }

/-- Counts an event of a basin or control cache. -/
def State.countCache (s : State) (c : Nat) (f : Fld) : State :=
  match cacheIdx c with
  | none => s
  | some i => s.bumpFld f i 0 1

/-- Points the tree bits away from a way (R514). -/
def treeTouch (w : Nat) : Nat → Nat → Nat → Nat
  | 0, _, tr => tr
  | l + 1, n, tr => treeTouch w l (2 * n + w / 2 ^ l % 2) (setBits tr n 1 (1 - w / 2 ^ l % 2))

/-- The node that the tree bits lead to (R514). -/
def treeVictim (tr : Nat) : Nat → Nat → Nat
  | 0, n => n
  | l + 1, n => treeVictim tr l (2 * n + bits tr n 1)

/-- The set of a line in a cache. -/
def setOf (c a : Nat) : Nat := a / 64 % (cacheGeo c).sets

/-- The slot of a line in the cache proper. -/
def Cache.slotOf (k : Cache) (c a : Nat) : Option Nat :=
  ((List.range (2 ^ (cacheGeo c).lw)).map fun w => setOf c a * 2 ^ (cacheGeo c).lw + w).find? fun i =>
    match SMap.find k.lines i with
    | none => false
    | some l => l.addr == lineOf a

/-- The way that a fill of a set takes: the lowest invalid way, or the one the tree bits name (R514). -/
def Cache.victimWay (k : Cache) (c a : Nat) : Nat :=
  let g := cacheGeo c
  match (List.range (2 ^ g.lw)).find? fun w => (SMap.find k.lines (setOf c a * 2 ^ g.lw + w)).isNone with
  | some w => w
  | none => treeVictim (SMap.get k.tree (setOf c a) 0) g.lw 1 - 2 ^ g.lw

/-- The tree bits of a set after a use of a way. -/
def Cache.touch (k : Cache) (c a w : Nat) : Cache :=
  { k with tree := SMap.put k.tree (setOf c a) (treeTouch w (cacheGeo c).lw 1 (SMap.get k.tree (setOf c a) 0)) 0 }

/-- A line is in no structure of the cache any more; a write-back not yet issued is cancelled (R532, R535). -/
def Cache.drop (k : Cache) (a : Nat) : Cache :=
  let keep (l : Line) : Bool := l.addr != lineOf a
  { k with lines := k.lines.filter fun e => keep e.2, victims := k.victims.filter keep, evict := k.evict.filter keep,
           side := k.side.filter keep }

/-- A line leaves the cache proper for the victim cache; the oldest victim makes room, to the eviction buffer where it is
dirty (R516). A dirty line of an offline pseudo-channel is discarded and counted (R567). -/
def State.toVictim (s : State) (c : Nat) (l : Line) : State :=
  let k := s.cache c
  let v := k.victims ++ [l]
  if v.length ≤ (cacheGeo c).victims then s.setCache c { k with victims := v }
  else
    match v with
    | [] => s
    | o :: vs =>
      if !o.dirty then s.setCache c { k with victims := vs }
      else if s.offlineAt o.addr then (s.setCache c { k with victims := vs }).countCache c Reg.IPD_C_UE
      else s.setCache c { k with victims := vs, evict := k.evict ++ [o] }

/-- An eviction from the control cache, or a store of a control engine, invalidates the CE L1 copies of a line; the L1
data cache of one engine is spared (R512). -/
def State.dropCeCopies (s : State) (a : Nat) (spare : Option Nat) (insn : Bool) : State :=
  let ds := (List.range 8).filter fun c => spare != some c
  let s := ds.foldl (fun s c => s.setCache (205 + c) ((s.cache (205 + c)).drop a)) s
  if insn then (List.range 8).foldl (fun s c => s.setCache (213 + c) ((s.cache (213 + c)).drop a)) s else s

/-- A line becomes the fill of its set (R514, R516, R517). -/
def State.install (s : State) (c : Nat) (l : Line) : State :=
  let k := s.cache c
  let w := k.victimWay c l.addr
  let i := setOf c l.addr * 2 ^ (cacheGeo c).lw + w
  let old := SMap.find k.lines i
  let s := s.setCache c (({ k with lines := SMap.set k.lines i l } : Cache).touch c l.addr w)
  match old with
  | none => s
  | some o =>
    let s := s.toVictim c o
    if c = 204 then s.dropCeCopies o.addr none true else s

/-- The line as some structure of the cache holds it. -/
def Cache.find (k : Cache) (a : Nat) : Option Line :=
  (k.lines.map Prod.snd ++ k.victims ++ k.side ++ k.evict).find? fun l => l.addr == lineOf a

/-- A line changed wherever the cache holds it. -/
def Cache.mapLine (k : Cache) (a : Nat) (f : Line → Line) : Cache :=
  let g (l : Line) : Line := if l.addr = lineOf a then f l else l
  { k with lines := k.lines.map fun e => (e.1, g e.2), victims := k.victims.map g, side := k.side.map g
           evict := k.evict.map g }

/-- Where a line stands: 0 nowhere, 1 the cache proper, 2 the victim cache, 3 the side buffer, 4 the eviction buffer. -/
def Cache.whereIs (k : Cache) (c a : Nat) : Nat :=
  let here (l : Line) : Bool := l.addr == lineOf a
  if (k.slotOf c a).isSome then 1
  else if k.victims.any here then 2
  else if k.side.any here then 3
  else if k.evict.any here then 4
  else 0

/-- A request that hits brings the line into the cache proper and updates the tree bits (R514, R517, R518, R524). -/
def State.bring (s : State) (c a : Nat) : State :=
  let k := s.cache c
  let here (l : Line) : Bool := l.addr == lineOf a
  match k.whereIs c a with
  | 1 =>
    match k.slotOf c a with
    | none => s
    | some i => s.setCache c (k.touch c a (i % 2 ^ (cacheGeo c).lw))
  | 2 => (s.setCache c { k with victims := k.victims.filter fun l => !here l }).install c ((k.victims.find? here).getD {})
  | 3 => (s.setCache c { k with side := k.side.filter fun l => !here l }).install c ((k.side.find? here).getD {})
  | 4 => (s.setCache c { k with evict := k.evict.filter fun l => !here l }).install c ((k.evict.find? here).getD {})
  | _ => s

/-- The line as the cache proper holds it. -/
def State.lineAt (s : State) (c a : Nat) : Line :=
  match (s.cache c).slotOf c a with
  | none => { addr := lineOf a }
  | some i => SMap.get (s.cache c).lines i { addr := lineOf a }

/-- Writes the line in its place in the cache proper. -/
def State.setLine (s : State) (c a : Nat) (l : Line) : State :=
  match (s.cache c).slotOf c a with
  | none => s
  | some i => s.setCache c { s.cache c with lines := SMap.set (s.cache c).lines i l }

/-- The words of a line that are marked as poisoned (R556). -/
def State.poisonMask (s : State) (a : Nat) : Nat :=
  (List.range 8).foldl (fun m i => m + flagBit (s.wordLost (lineOf a + 8 * i)) * 2 ^ i) 0

/-- The line as the IPD holds it. -/
def State.ipdLine (s : State) (a : Nat) : Line :=
  { addr := lineOf a, data := s.ipdRead (lineOf a) 64, poison := s.poisonMask a }

/-- Words that a mask of eight names. -/
def maskCount (m : Nat) : Nat := ((List.range 8).filter fun i => bitOf m i).length

/-- A corrected or discarded error of a packet engine (R253, R285), with its time for the thresholds of Table 22.8. -/
def State.eccEngine (s : State) (e n : Nat) : State :=
  if n = 0 then s
  else
    let g := s.engine e
    let day := g.eccTimes.filter fun t => s.now < t + 86400000000000
    (s.setEngine e { g with eccTimes := List.replicate n s.now ++ day }).bumpFld Reg.BSN_ECC_CNT 0 0 n

/-- A correctable error of a scratch word that an access of an engine's thread reads is corrected and counted (R253). -/
def State.scratchFixed (s : State) (e a n : Nat) : State :=
  let mine (w : Nat) : Bool := a / 8 ≤ w && 8 * w < a + n
  let k := (s.mem.scratchSoft.filter mine).length
  if k = 0 then s
  else { s with mem := { s.mem with scratchSoft := s.mem.scratchSoft.filter fun w => !mine w } }.eccEngine e k

/-- Corrected words of a line of a cache are counted (R253, R526). -/
def State.countSoft (s : State) (c : Nat) (l : Line) : State :=
  if c < 192 then s.eccEngine c (maskCount l.soft)
  else match cacheIdx c with
    | none => s
    | some i => s.bumpFld Reg.IPD_C_CE i 0 (maskCount l.soft)

/-- Words of a dirty line that hold an uncorrectable error are poisoned in the IPD (R526, R554). -/
def State.poisonWords (s : State) (l : Line) : State :=
  ((List.range 8).filter fun i => bitOf l.bad i).foldl (fun s i => s.poisonWord (l.addr + 8 * i)) s

/-- A line whose error has been dealt with: an uncorrectable word is marked as poisoned. -/
def Line.healed (l : Line) : Line := { l with poison := l.poison ||| l.bad, bad := 0, soft := 0 }

/-- An access to a line of a basin or control cache finds its errors (R526): corrected ones are counted; with an
uncorrectable one a clean line is invalidated, so that the access refetches it, and a dirty line's word is poisoned. -/
def State.checkLine (s : State) (c a : Nat) : State :=
  match (s.cache c).find a with
  | none => s
  | some l =>
    let s := s.countSoft c l
    if l.bad = 0 then (if l.soft = 0 then s else s.setCache c ((s.cache c).mapLine a Line.healed))
    else if !l.dirty then s.setCache c ((s.cache c).drop a)
    else (s.poisonWords l).setCache c ((s.cache c).mapLine a Line.healed)

/-- A line is written back to the IPD: its unmarked words. -/
def State.lineToIpd (s : State) (l : Line) : State :=
  (List.range 8).foldl (fun s i =>
    if bitOf l.poison i then s else s.ipdWrite (l.addr + 8 * i) ((l.data.drop (8 * i)).take 8)) s

/-- A dirty line is accepted by the next level: the basin or control cache, or the IPD controller (R516). An uncorrectable
word of a basin or control cache is poisoned in the IPD (R526). DESIGN CHOICE (log 189): an L1 line with one is discarded and
counted, as at an engine's reset (R285). -/
def State.writeBack (s : State) (c : Nat) (l : Line) : State :=
  if s.offlineAt l.addr then s.countCache c Reg.IPD_C_UE
  else if c < 192 && l.bad ≠ 0 then s.eccEngine c 1
  else
    let s := (s.countSoft c l).poisonWords l
    let l := l.healed
    match nextCache c with
    | some n =>
      if (s.cache n).whereIs n l.addr = 0 then s.install n { l with dirty := true, mask := 0 }
      else
        let s := s.bring n l.addr
        s.setLine n l.addr { l with dirty := true, mask := 0 }
    | none => ((s.lineToIpd l).countCache c Reg.IPD_C_WB).ipdReq l.addr true clsBulk

/-- EVICTION_WRITEBACK: the oldest line of the eviction buffer is written back (R516). -/
def evictionWriteback (s : State) (c : Nat) : State :=
  let k := s.cache c
  match k.evict with
  | [] => s
  | l :: ls => (s.setCache c { k with evict := ls }).writeBack c l

/-! ### Misses and fills (R519 to R524) -/

/-- A miss takes an entry: it is noted for the next level's request. -/
def Cache.noteAsked (k : Cache) (a : Nat) : Cache :=
  { k with misses := k.misses.map fun m => if m.addr = lineOf a then { m with asked := true } else m }

/-- A miss of a basin or control cache asks the IPD controller, where an entry is free; else it waits for one (R519). -/
def State.askIpd (s : State) (n a : Nat) : State :=
  let k := s.cache n
  if (k.misses.take (cacheGeo n).entries).any fun m => m.addr == lineOf a && !m.asked then
    (s.setCache n (k.noteAsked a)).ipdReq a false clsTbl
  else s

/-- A miss with a free entry asks the next level, which may hold the line, be waiting for it, or miss in turn (R519). -/
def State.askNext (s : State) (c a : Nat) : State :=
  let k := s.cache c
  if !(k.misses.take (cacheGeo c).entries).any (fun m => m.addr == lineOf a && !m.asked) then s
  else
    match nextCache c with
    | none => s.askIpd c a
    | some n =>
      let s := (s.setCache c (k.noteAsked a)).checkLine n a
      if (s.cache n).whereIs n a ≠ 0 then (s.countCache n Reg.IPD_C_HIT).bring n a
      else
        let s := s.countCache n Reg.IPD_C_MISS
        let kn := s.cache n
        if kn.misses.any fun m => m.addr == lineOf a then s
        else (s.setCache n { kn with misses := kn.misses ++ [{ addr := lineOf a }] }).askIpd n a

/-- A miss: an entry for the line, or a place in the one that stands, for a thread (or none) and a prefetch; the next level
is asked where an entry is free (R519). -/
def State.miss (s : State) (c a : Nat) (t : Option Nat) (prefetch : Bool) : State :=
  let k := s.cache c
  let ws : List Nat := match t with
    | none => []
    | some t => [t]
  let same (m : Miss) : Bool := m.addr == lineOf a
  let join (m : Miss) : Miss :=
    if same m then { m with waiters := m.waiters ++ ws, prefetch := m.prefetch && prefetch } else m
  if k.misses.any same then s.setCache c { k with misses := k.misses.map join }
  else
    let s := s.setCache c { k with misses := k.misses ++ [{ addr := lineOf a, waiters := ws, prefetch := prefetch }] }
    (s.countCache c Reg.IPD_C_MISS).askNext c a

/-- A fill has freed an entry: the misses that now have one ask for their lines. -/
def State.askWaiting (s : State) (c : Nat) : State :=
  (((s.cache c).misses.take (cacheGeo c).entries).filter fun m => !m.asked).foldl (fun s m => s.askNext c m.addr) s

/-- The line that a fill delivers, from the next level; a level that has lost it meanwhile takes it from the IPD first
(R511, R512). The request has already counted as the next level's use of the line (R514). -/
def State.fetchLine (s : State) (c a : Nat) : Line × State :=
  match nextCache c with
  | none => (s.ipdLine a, s)
  | some n =>
    let s := s.checkLine n a
    match (s.cache n).find a with
    | some l => ({ l with dirty := false, mask := 0, bad := 0, soft := 0 }, s)
    | none =>
      let l := s.ipdLine a
      (l, s.install n l)

/-- The access of a load/store unit to a line that its cache holds, or (none) to an offline line: the status, the two
result words, and the line after it (R555, R556, R566). -/
def LineAcc.run (x : LineAcc) (l : Option Line) : Nat × W32 × W32 × Option Line :=
  match l with
  | none => (stLost, 0, 0, none)
  | some l =>
    let off := x.addr % 64
    let w := off / 8
    if x.store then
      if bitOf l.poison w && x.size < 8 then (stLost, 0, 0, some l)
      else (stOk, 0, 0, some { l with data := overwrite l.data off (leBytes x.size x.data), dirty := true
                                      mask := l.mask ||| x.mask, poison := setBits l.poison w 1 0 })
    else if bitOf l.poison w then (stLost, 0, 0, some l)
    else
      let v := leNat ((l.data.drop off).take x.size)
      let v := if x.sext then unsigned 32 (signed (8 * x.size) v) else v
      (stOk, BitVec.ofNat 32 v, BitVec.ofNat 32 (v / 2 ^ 32), some l)

/-- The ports of a completed access: a 64-bit load names both result words, a shorter load ls.r only. -/
def LineAcc.ports (x : LineAcc) (st : Nat) (r rh : W32) : List (Nat × W32) :=
  if x.store || st ≠ stOk then []
  else if x.size = 8 then [(0x182, r), (0x183, rh)] else [(0x182, r)]

/-- An access to a line that the cache holds in some structure, or to an offline address: its result, and the line as it
leaves it. A CE L1 data cache is write-through: the store also reaches the control cache, and the other engines' copies
are invalidated first (R512). -/
def State.lineAccess (s : State) (c : Nat) (x : LineAcc) : (Nat × List (Nat × W32)) × State :=
  if s.offlineAt x.addr then
    ((stLost, []), s.setCache c ((s.cache c).drop x.addr))
  else
    let s := s.bring c x.addr
    let (st, r, rh, l) := x.run (some (s.lineAt c x.addr))
    let l := l.getD {}
    let l := if 205 ≤ c then { l with dirty := false, mask := 0 } else l
    let s := s.setLine c x.addr l
    let s := if 205 ≤ c && x.store && st = stOk then (s.dropCeCopies x.addr (some (c - 205)) false).writeBack c l else s
    ((st, x.ports st r rh), s)

/-! ### Maintenance (Table 13.2) -/

/-- Every dirty copy of a line in a cache is written back and kept clean. -/
def State.cleanLine (s : State) (c a : Nat) : State :=
  let k := s.cache c
  let mine (l : Line) : Bool := l.addr == lineOf a && l.dirty
  let cl (l : Line) : Line := if mine l then { l.healed with dirty := false, mask := 0 } else l
  let lost (l : Line) : Bool := mine l && c < 192 && l.bad != 0
  let dirty := (k.lines.map Prod.snd).filter mine ++ k.victims.filter mine ++ k.evict.filter mine
  let s := s.setCache c { k with
    lines := (k.lines.filter fun e => !lost e.2).map fun e => (e.1, cl e.2)
    victims := (k.victims.filter fun l => !lost l).map cl, evict := k.evict.filter fun l => !mine l }
  dirty.foldl (fun s l => s.writeBack c l) s

/-- A maintenance operation at one level: 1 clean, 2 inv, 3 cinv; it discards a side-buffer copy (R525). -/
def State.maintLevel (s : State) (c op a : Nat) : State :=
  let s := if op = 2 then s else s.cleanLine c a
  if op = 1 then s.setCache c { s.cache c with side := (s.cache c).side.filter fun l => l.addr != lineOf a }
  else s.setCache c ((s.cache c).drop a)

/-- A maintenance operation on the L1 of a thread, and on the next level where ls.lvl bit 0 is set; on a control engine it
also invalidates the instruction cache's line (R532, R536). A line that the control cache gives up stays in no CE L1
(R512). -/
def State.maintain (s : State) (c op a : Nat) (lvl : Bool) : State :=
  let s := s.maintLevel c op a
  let s := if 205 ≤ c && op ≠ 1 then s.setCache (c + 8) ((s.cache (c + 8)).drop a) else s
  match nextCache c with
  | none => s
  | some n =>
    if !lvl then s
    else
      let s := s.maintLevel n op a
      if n = 204 && op ≠ 1 then s.dropCeCopies a none true else s

/-- Every dirty line of the L1 whose writer mask holds the thread is written back and kept clean (ls.t.fence). -/
def State.fenceLines (s : State) (c bit : Nat) : State :=
  let k := s.cache c
  let mine (l : Line) : Bool := l.dirty && bitOf l.mask bit
  let addrs := (((k.lines.map Prod.snd) ++ k.victims ++ k.evict).filter mine).map fun l => l.addr
  addrs.foldl (fun s a => s.cleanLine c a) s

/-- A whole cache is written back and invalidated, and its tree bits are cleared (R515, R538). Dirty lines with an
uncorrectable error are discarded; `lose` counts each one. -/
def State.flushWith (s : State) (c : Nat) (lose : State → State) : State :=
  let k := s.cache c
  let dirty := (k.lines.map Prod.snd ++ k.victims ++ k.evict).filter fun l => l.dirty
  let s := dirty.foldl (fun s l => if l.bad ≠ 0 then lose s else s.writeBack c l) s
  s.setCache c {}

/-- The L1 of an engine at its reset (R285), or another cache alone. -/
def State.flushCache (s : State) (c : Nat) : State :=
  s.flushWith c fun s => if c < 192 then s.eccEngine c 1 else s.countCache c Reg.IPD_C_UE

/-- Every cache of a basin: each L1, then the basin cache; IPD_C_UE counts each line discarded (R538). -/
def State.flushBasin (s : State) (b : Nat) : State :=
  let lose (s : State) : State := s.countCache (192 + b) Reg.IPD_C_UE
  let s := (List.range 16).foldl (fun s n => s.flushWith (16 * b + n) lose) s
  s.flushWith (192 + b) lose

/-- Every cache of the device, as at entry to STILL (Sequence 20.1). -/
def State.flushAllCaches (s : State) : State :=
  let s := (List.range 12).foldl (fun s b => s.flushBasin b) s
  let s := (List.range 8).foldl (fun s c => (s.flushCache (205 + c)).flushCache (213 + c)) s
  s.flushCache 204

/-- The accesses that waited for a line complete in order (R520, R521). -/
def State.serveWaiters (s : State) (c : Nat) (ws : List Nat) : State :=
  ws.foldl (fun s t =>
    match SMap.find (s.thread t).ops uLs with
    | none => s
    | some o =>
      match o.acc with
      | none => s
      | some x =>
        let ((st, ps), s) := s.lineAccess c x
        s.endWait t uLs ps st) s

/-- Maintenance that waited behind a fill applies to the filled line (R534). -/
def State.serveMaint (s : State) (c a : Nat) (ms : List (Nat × Nat)) : State :=
  ms.foldl (fun s m => (s.maintain c (m.2 % 4) a (m.2 / 4 == 1)).endWait m.1 uLs [] stOk) s

/-- CACHE_FILL_COMPLETE: the fill of a line's miss entry delivers the line; accesses that joined it complete, then the
maintenance that waited behind it (R519 to R522, R534). A fill of an L1 waits for that of its next level, and only the
miss entries of Table 13.1 have a fill running. A line that a write-back or a page walk has brought in meanwhile stands, and
the fill adds no second copy (R519). -/
def cacheFillComplete (s : State) (c line : Nat) : State :=
  let a := 64 * line
  let k := s.cache c
  match (k.misses.take (cacheGeo c).entries).find? fun m => m.addr == a with
  | none => s
  | some m =>
    let blocked := match nextCache c with
      | none => false
      | some n => (s.cache n).misses.any fun x => x.addr == a
    if blocked then s
    else
      let s := (s.setCache c { k with misses := k.misses.filter fun x => x.addr != a }).askWaiting c
      if (s.cache c).whereIs c a ≠ 0 then (s.serveWaiters c m.waiters).serveMaint c a m.maint
      else if s.offlineAt a then (s.serveWaiters c m.waiters).serveMaint c a m.maint
      else
        let (l, s) := s.fetchLine c a
        let s :=
          if m.prefetch && m.waiters.isEmpty then
            let sd := (s.cache c).side ++ [l]
            s.setCache c { s.cache c with side := sd.drop (sd.length - 16) }
          else s.install c l
        (s.serveWaiters c m.waiters).serveMaint c a m.maint

/-- A miss of the control cache by one of its own agents: it joins the line's miss entry, or asks the IPD controller. -/
def State.ctrlMiss (s : State) (a : Nat) : State :=
  let s := s.countCache 204 Reg.IPD_C_MISS
  if (s.cache 204).misses.any fun m => m.addr == lineOf a then s else s.ipdReq a false clsTbl

/-- A read through the control cache, as the page walker and the Pumphouse make it: the bytes, and whether a word of them
is lost (R352, R642). -/
def State.ctrlRead (s : State) (a n : Nat) : List Byte × Bool × State :=
  if s.offlineAt a then (List.replicate n 0, true, s)
  else
    let s := s.checkLine 204 a
    let s := if (s.cache 204).whereIs 204 a = 0 then (s.ctrlMiss a).install 204 (s.ipdLine a)
             else (s.countCache 204 Reg.IPD_C_HIT).bring 204 a
    let l := s.lineAt 204 a
    let lost := (List.range n).any fun i => bitOf l.poison (a % 64 / 8 + i / 8)
    ((l.data.drop (a % 64)).take n, lost, s)

/-- Bytes written through the control cache, within one line. -/
def State.ctrlWrite (s : State) (a : Nat) (bs : List Byte) : State :=
  if s.offlineAt a then s
  else
    let s := s.checkLine 204 a
    let s := if (s.cache 204).whereIs 204 a = 0 then (s.ctrlMiss a).install 204 (s.ipdLine a)
             else (s.countCache 204 Reg.IPD_C_HIT).bring 204 a
    let l := s.lineAt 204 a
    let s := s.dropCeCopies a none false
    s.setLine 204 a { l with data := overwrite l.data (a % 64) bs, dirty := true
                             poison := (List.range 8).foldl (fun m i =>
                               if wordCovered (a % 64) bs.length i then setBits m i 1 0 else m) l.poison }

end Sys2Proof.Machine
end

