-- ==== Sys2Proof/Machine/Settings.lean ====
section
/-! DEFINITION. The settings that an image fixes and no register shows: one number for each, in the image's table of
settings, by kind and index. An absent setting is 0. -/

namespace Sys2Proof.Machine

/-- A setting of the running image. -/
def State.setting (s : State) (kind idx : Nat) : Nat := SMap.get s.img.set_ (kind * 16777216 + idx) 0

/-- The thread table entry of a thread (Table 7.3), and its fields. -/
def State.thrEntry (s : State) (t : Nat) : Nat := SMap.get s.img.thrTab (4 * t) 0

def State.thrStart (s : State) (t : Nat) : Nat := s.thrEntry t % 2 ^ 15

def State.thrEn (s : State) (t : Nat) : Bool := bitOf (s.thrEntry t) 15

def State.thrDispatch (s : State) (t : Nat) : Bool := bitOf (s.thrEntry t) 16

def State.thrTrap (s : State) (t : Nat) : Bool := bitOf (s.thrEntry t) 23

def State.thrMsg (s : State) (t : Nat) : Bool := bitOf (s.thrEntry t) 24

/-- The engine table entry of an engine (Table 7.4): 0 CALL, 1 STILL_LIMIT, 2 to 5 segment bases, 6 to 9 segment rights (1
read, 2 read and write), 10 ESC_DESC. -/
def State.engEntry (s : State) (e n : Nat) : Nat := SMap.get s.img.engTab (16 * e + n) 0

/-- The thread that a map names for a bucket (Table 4.9): map 14, the fallback map, stands in the ROM. -/
def State.mapThread (s : State) (map bucket : Nat) : Nat :=
  if map = 14 then Config.romThread bucket % 1536 else SMap.get s.img.maps (map * 4096 + bucket) 0

/-- Pool settings (Table 12.1). Pool 0 has EN 1, SIZE 1 and COUNT 65,536 (R479). -/
def State.poolEn (s : State) (p : Nat) : Bool := p == 0 || s.setting 1 p != 0

def State.poolSize (s : State) (p : Nat) : Nat := if p = 0 then 1 else s.setting 2 p

def State.poolCount (s : State) (p : Nat) : Nat := if p = 0 then 65536 else s.setting 3 p

def State.poolBase (s : State) (p : Nat) : Nat := s.setting 4 p

def State.ringBase (s : State) (p : Nat) : Nat := s.setting 5 p

def State.poolScrub (s : State) (p : Nat) : Bool := p != 0 && s.setting 6 p != 0

/-- Allocation rights of a basin's threads; 12 stands for the control plane (R481). -/
def State.mayAlloc (s : State) (basin pool : Nat) : Bool := s.setting 8 (basin * 256 + pool) != 0

/-- Charge partition of a basin (Table 12.3); the control plane charges PD. -/
def State.basinCharge (s : State) (basin : Nat) : Nat := if basin = 12 then 4 else s.setting 9 basin

/-- Charge partition and body pool of an ingress port, by IN_PORT (R60, R61). -/
def State.portCharge (s : State) (inPort : Nat) : Nat := s.setting 10 inPort

def State.portPool (s : State) (inPort : Nat) : Nat := s.setting 11 inPort

/-- Transmit body pool of a partition (R717). -/
def State.txPool (s : State) (part : Nat) : Nat := s.setting 12 part

/-- IPD addresses of the flow context region and of the flow buckets (Table 6.1, Table 6.7). -/
def State.ctxBase (s : State) : Nat := s.setting 30 0

def State.flowBase (s : State) : Nat := s.setting 30 1

/-- FID of a VID (R209): the image's table, by default the VID itself. -/
def State.fidOf (s : State) (vid : Nat) : Nat :=
  match SMap.find s.img.set_ (31 * 16777216 + vid) with
  | some f => f
  | none => vid

/-- PVID of a port, by IN_PORT (R209). -/
def State.pvid (s : State) (inPort : Nat) : Nat := s.setting 32 inPort

/-- Allowances and priority band of a region of the versioned tables, each a range: regions 0 to 3 P0–P3, 4 PD, 5 shared
(R166). -/
def State.domAllowed (s : State) (r lo hi : Nat) : Bool := s.setting 20 r ≤ lo && hi ≤ s.setting 21 r

def State.bktAllowed (s : State) (r lo hi : Nat) : Bool := s.setting 22 r ≤ lo && hi ≤ s.setting 23 r

def State.prioAllowed (s : State) (r v : Nat) : Bool := s.setting 24 r ≤ v && v ≤ s.setting 25 r

/-- The bridge ports by IN_PORT: the Ethernet lanes that carry Ethernet, and the T1S segments (R34). -/
def State.isBridgePort (s : State) (p : Nat) : Bool :=
  let ethernet (q : Nat) : Bool := q == 0 || q == 3
  p < 16 || (p < 24 && ethernet (s.rd Reg.GEN_STRAP_QMODE2)) ||
    (24 ≤ p && p < 32 && ethernet (s.rd Reg.GEN_STRAP_QMODE3)) || (32 ≤ p && p < 48)

/-- A bridge port forwards: its link is up and the spanning tree does not block it. -/
def State.bridgeForwards (s : State) (p : Nat) : Bool :=
  s.isBridgePort p && s.edg.phy.contains p && !s.blocked.contains p

/-- The target of a copy that the fallback bridge sends on a segment or a channel: no value of Table 2.4 (DESIGN CHOICE, log
entry 170). -/
def busTarget (src : Nat) : Nat := 65536 + src

/-- The member of a list of the fallback bridge for a bridge port and a priority. -/
def bridgeMember (p prio : Nat) : Nat := if p < 32 then 8 * p + prio else busTarget p

/-- The lists of the fallback bridge (DESIGN CHOICE, log entry 170): 8 × IN_PORT + priority floods a frame to every other
forwarding bridge port (R39), from 1,024 on 8 × port + priority names one bridge port. -/
def State.bridgeList (s : State) (l : Nat) : List Nat :=
  if 1024 ≤ l then [bridgeMember ((l - 1024) / 8) (l % 8)]
  else ((List.range 48).filter fun p => p != l / 8 && s.bridgeForwards p).map fun p => bridgeMember p (l % 8)

/-- Members of a replication list (R75, R77), as EGRESS values in list order: 65 settings for each list, the first the
number of members. -/
def State.members (s : State) (l : Nat) : List Nat :=
  if s.bridgeRuns then s.bridgeList l
  else (List.range (min 64 (s.setting 36 (l * 65)))).map fun i => s.setting 36 (l * 65 + 1 + i)

/-- The image names a domain as an origin domain of a basin; 12 stands for the control plane (R401). -/
def State.mayOriginate (s : State) (basin dom : Nat) : Bool := s.setting 40 (basin * 65536 + dom) != 0

/-- Transmit packet number at which a port raises MACSEC_PN (R749). -/
def State.pnThreshold (s : State) (port : Nat) : Nat := s.setting 37 port

/-- Replay window of a port's receive SC (R750). -/
def State.replayWindow (s : State) (port : Nat) : Nat := s.setting 65 port

/-- The image marks a source as Touch, by IN_PORT (R778). -/
def State.touchSource (s : State) (inPort : Nat) : Bool := s.setting 66 inPort != 0

/-- The image disables preemption verification on a port (R751). -/
def State.verifyOff (s : State) (port : Nat) : Bool := s.setting 39 port != 0

/-- The time domain of an ingress source, by IN_PORT (R57). -/
def State.tsdomOf (s : State) (inPort : Nat) : Nat := s.setting 38 inPort % 4

/-- Wake sources that the image enables beside the presence inputs (Table 20.2), its wake set of basins (Table 22.3), and the
control engines that it names for MIST (Table 20.1), each as a mask. -/
def State.wakeSources (s : State) : Nat := s.setting 62 0

def State.wakeSet (s : State) : Nat := s.setting 63 0

def State.mistCes (s : State) : Nat := s.setting 64 0

end Sys2Proof.Machine
end

