-- ==== Sys2Proof/Machine/Cistern.lean ====
section
/-! DEFINITION. Cistern: pools and their free handles, allocation, references, quotas, the error ring, and lost buffers
(R478 to R509, R939). -/

namespace Sys2Proof.Machine

def State.pool (s : State) (p : Nat) : Pool := SMap.get s.cis.pools p {}

def State.setPool (s : State) (p : Nat) (v : Pool) : State :=
  { s with cis := { s.cis with pools := SMap.put s.cis.pools p v {} } }

/-! ### Free handles (R483 to R486) -/

/-- Handles in the free ring that are not lost. -/
def Pool.ringLen (p : Pool) : Nat := p.len - p.gone

/-- FREE of a pool whose number is given (R485): what an allocation that waits will take is no longer free. -/
def State.free_ (s : State) (p : Nat) : Nat :=
  let v := s.pool p
  let owed := (s.cis.waiters.filter fun w => w.2.1 == p).length
  if p = 0 then v.cache.length + (s.poolCount 0 - v.fresh)
  else v.cache.length + v.ringLen + v.refill.length + v.spill.length - owed

/-- The handle that a slot of the free ring holds: bits 23:0 of its word (R483). -/
def State.ringWord (s : State) (p i : Nat) : Nat := leNat (s.ipdRead (s.ringBase p + 4 * i) 4) % 2 ^ 24

/-- Requests for n slots of the free ring from slot i, around its end (Table 13.6: class TBL). -/
def State.ringReqs (s : State) (p i n : Nat) (write : Bool) : State :=
  let m := min n (s.poolCount p - i)
  let s := s.ipdReqs (s.ringBase p + 4 * i) (4 * m) write clsTbl
  if n = m then s else s.ipdReqs (s.ringBase p) (4 * (n - m)) write clsTbl

/-- Moves handles from the ring head into the refill, up to n that are not lost; the first number bounds the slots. -/
def State.moveRefill (s : State) (p : Nat) : Nat → Nat → Pool → Pool
  | 0, _, v => v
  | k + 1, n, v =>
    if n = 0 || v.len = 0 then v
    else
      let h := s.ringWord p v.head
      let lost := v.lost.contains h || s.wordLost (s.ringBase p + 4 * v.head)
      let v := { v with head := (v.head + 1) % max 1 (s.poolCount p), len := v.len - 1 }
      if lost then s.moveRefill p k n { v with gone := v.gone - 1 }
      else s.moveRefill p k (n - 1) { v with refill := v.refill ++ [h] }

/-- A refill of 16 handles starts where fewer than 8 stand in the cache and the ring holds 16; for an allocation that waits, a
refill of all that the ring holds (R483, R490). Pool 0 has no ring (R486). -/
def State.startRefill (s : State) (p : Nat) (waits : Bool) : State :=
  let v := s.pool p
  if p = 0 || v.refilling then s
  else if (v.cache.length < 8 && 16 ≤ v.ringLen) || (waits && v.ringLen ≠ 0) then
    let w := s.moveRefill p (16 + v.gone) 16 v
    (s.setPool p { w with refilling := true }).ringReqs p v.head (v.len - w.len) false
  else s

/-- A spill of the 16 oldest cached handles starts after a free that leaves more than 24 in the cache (R483). -/
def State.startSpill (s : State) (p : Nat) : State :=
  let v := s.pool p
  if p = 0 || v.spilling || v.cache.length ≤ 24 then s
  else
    let keep := v.cache.length - 16
    (s.setPool p { v with cache := v.cache.take keep, spill := (v.cache.drop keep).reverse, spilling := true }).ringReqs p
      ((v.head + v.len) % max 1 (s.poolCount p)) 16 true

/-- A handle goes on top of its pool's cache (R484, R486). -/
def State.pushHandle (s : State) (p h : Nat) : State :=
  (s.setPool p { s.pool p with cache := h :: (s.pool p).cache }).startSpill p

/-! ### Allocation (Table 12.2, R488 to R491) -/

/-- A buffer is handed out: count 1, charged to the partition (R491). -/
def State.handOut (s : State) (p h part : Nat) : State :=
  let v := s.pool p
  s.setPool p { v with counts := SMap.put v.counts h 1 0, charged := SMap.set v.charged h part }

/-- The rows of Table 12.2 from the quota onward, for a requester. With OK, the handle, or none where the allocation waits for
a refill (R490). A refused request leaves no trace but its count (R489). -/
def State.allocCore (s : State) (p part who : Nat) : (Nat × Option Nat) × State :=
  let v := s.pool p
  if SMap.get v.quota part 0 ≤ SMap.get v.used part 0 then ((stEmpty, none), s.bump Reg.CIS_QUOTA_CNT)
  else if s.free_ p = 0 then
    ((stEmpty, none), (s.bump Reg.CIS_EMPTY_CNT).eventSup Reg.CIS_INT_STATUS_EMPTY Reg.CIS_INT_EN_EMPTY)
  else
    let v := { v with used := SMap.put v.used part (SMap.get v.used part 0 + 1) 0 }
    let s := (s.setPool p v).bump Reg.CIS_ALLOC_CNT
    match v.cache with
    | h :: hs => ((stOk, some h), ((s.setPool p { v with cache := hs }).handOut p h part).startRefill p false)
    | [] =>
      if p = 0 then ((stOk, some v.fresh), (s.setPool p { v with fresh := v.fresh + 1 }).handOut p v.fresh part)
      else ((stOk, none), ({ s with cis := { s.cis with waiters := s.cis.waiters ++ [(who, p, part)] } }).startRefill p true)

/-- An allocation from a pool of which the requester knows that it is in use. -/
def State.alloc (s : State) (p part who : Nat) : (Nat × Option Nat) × State :=
  if !s.poolEn p then ((stInvalid, none), s) else s.allocCore p part who

/-- An allocation of a staging buffer, which never waits (R479, R486). -/
def State.allocHead (s : State) (part : Nat) : (Nat × Nat) × State :=
  let ((st, h), s) := s.alloc 0 part 0
  ((st, h.getD 0), s)

/-- The allocation would wait: nothing refuses it, and the cache is empty (R490). -/
def State.allocWaits (s : State) (p part : Nat) : Bool :=
  let v := s.pool p
  s.poolEn p && SMap.get v.used part 0 < SMap.get v.quota part 0 && s.free_ p != 0 && v.cache.isEmpty && p != 0

/-- Allocations that wait for a refill are withdrawn with their requesters, and what they were charged goes back. -/
def State.dropWaiters (s : State) (who : Nat → Bool) : State :=
  let mine := s.cis.waiters.filter fun w => who w.1
  let s := { s with cis := { s.cis with waiters := s.cis.waiters.filter fun w => !who w.1
                                        freers := s.cis.freers.filter fun w => !who w.1 } }
  mine.foldl (fun s w =>
    let v := s.pool w.2.1
    s.setPool w.2.1 { v with used := SMap.put v.used w.2.2 (SMap.get v.used w.2.2 0 - 1) 0 }) s

/-! ### References (R492 to R498) -/

/-- The reference count of a buffer. -/
def State.refCount (s : State) (p h : Nat) : Nat := SMap.get (s.pool p).counts h 0

/-- The buffer is lost (Table 12.5). -/
def State.bufLost (s : State) (p h : Nat) : Bool := (s.pool p).lost.contains h

/-- An entry enters the error ring, or is discarded where 256 stand (R502, R503). -/
def State.cisError (s : State) (p st op kind h id : Nat) : State :=
  let s := s.bump (if st = stDouble then Reg.CIS_DOUBLE_CNT else Reg.CIS_DENIED_CNT)
  if 256 ≤ s.cis.errs.length then
    (s.bump Reg.CIS_ERR_OVF_CNT).eventSup Reg.CIS_INT_STATUS_ERR_FULL Reg.CIS_INT_EN_ERR_FULL
  else
    let e : ErrEnt := { pool := p, status := st, op := op, kind := kind, handle := h, id := id
                        time := s.now / 1000 % 2 ^ 32 }
    let s := { s with cis := { s.cis with errs := s.cis.errs ++ [e] } }
    (s.wr Reg.CIS_STATUS_ERR_COUNT s.cis.errs.length).eventSup Reg.CIS_INT_STATUS_ERR Reg.CIS_INT_EN_ERR

/-- USED of the partition a buffer is charged to goes down by one (R498). -/
def State.uncharge (s : State) (p h : Nat) : State :=
  let v := s.pool p
  let part := SMap.get v.charged h 0
  s.setPool p { v with charged := SMap.erase v.charged h, used := SMap.put v.used part (SMap.get v.used part 0 - 1) 0 }

/-- The handle returns to its pool (R498); while the cache holds 32 and a spill runs, the free waits (R506). -/
def State.returnHandle (s : State) (p h : Nat) : State :=
  let v := s.pool p
  if p ≠ 0 && v.spilling && 32 ≤ v.cache.length then s.setPool p { v with held := v.held ++ [h] }
  else ((s.pushHandle p h).uncharge p h).bump Reg.CIS_FREE_CNT

/-- One reference goes: at 0 the handle returns, after the scrub where the pool scrubs; a lost buffer's never does
(R482, R498, Table 12.5). -/
def State.dropCount (s : State) (p h : Nat) : State :=
  let v := s.pool p
  let n := SMap.get v.counts h 0 - 1
  let s := s.setPool p { v with counts := SMap.put v.counts h n 0 }
  if n ≠ 0 then s
  else if v.lost.contains h then s.uncharge p h
  else if s.poolScrub p then s.setPool p { s.pool p with scrubbing := h :: (s.pool p).scrubbing }
  else s.returnHandle p h

/-- A decrement by the Sluice (kind 6, op 6), the Weir (7, 7) or a host's transmit path (2, 8): at count 0 it is refused
with DOUBLE (R497). -/
def State.dropRef (s : State) (p h op kind id : Nat) : State :=
  if s.refCount p h = 0 then s.cisError p stDouble op kind h id else s.dropCount p h

/-- One more reference. -/
def State.addCount (s : State) (p h : Nat) : State :=
  let v := s.pool p
  s.setPool p { v with counts := SMap.put v.counts h (SMap.get v.counts h 0 + 1) 0 }

/-- BUFFER_SCRUB_DONE: the buffer holds zeros, and its handle returns (R482). -/
def bufferScrubDone (s : State) (p h : Nat) : State :=
  let v := s.pool p
  if !v.scrubbing.contains h then s
  else
    let n := s.poolSize p * 256
    let s := s.setPool p { v with scrubbing := v.scrubbing.erase h }
    let s := s.ipdWrite (s.poolBase p + h * n) (List.replicate n 0)
    if v.lost.contains h then s.uncharge p h else s.returnHandle p h

/-! ### Reference tables -/

/-- The descriptor that a control engine runs. -/
def State.ceDesc (s : State) (c : Nat) : Nat := (SMap.get s.pmp.ces c {}).desc

/-- The reference table a thread uses, its capacity, and the owner tag of its entries (R492, R493). -/
def State.refTable (s : State) (t : Nat) : List RefEnt × Nat × Nat :=
  match threadCe t with
  | none => ((s.thread t).refs, 16, 0)
  | some c => (s.cis.cpRefs, 4096, s.ceDesc c)

def State.setRefTable (s : State) (t : Nat) (l : List RefEnt) : State :=
  match threadCe t with
  | none => s.updThread t fun th => { th with refs := l }
  | some _ => { s with cis := { s.cis with cpRefs := l } }

/-- An entry of a table for a buffer, live or a tombstone. -/
def RefEnt.isFor (e : RefEnt) (p h o : Nat) : Bool := e.pool == p && e.handle == h && e.owner == o

/-- The table has a live entry for the buffer. -/
def hasLive (l : List RefEnt) (p h o : Nat) : Bool := l.any fun e => e.isFor p h o && e.number != 0

/-- The table without its oldest tombstone. -/
def dropTombstone : List RefEnt → Option (List RefEnt)
  | [] => none
  | e :: es => if e.number = 0 then some es else (dropTombstone es).map (e :: ·)

/-- A reference enters a table: into the buffer's live entry, a free entry, or in place of the oldest tombstone; none where
every entry is live (R494). -/
def addEntry (l : List RefEnt) (cap p h o : Nat) : Option (List RefEnt) :=
  if hasLive l p h o then
    some (l.map fun e => if e.isFor p h o && e.number != 0 then { e with number := e.number + 1 } else e)
  else if l.length < cap then some (l ++ [{ pool := p, handle := h, number := 1, owner := o }])
  else (dropTombstone l).map (· ++ [{ pool := p, handle := h, number := 1, owner := o }])

/-- A reference leaves the buffer's live entry; an entry with none left becomes the newest tombstone (R492). -/
def dropEntry (l : List RefEnt) (p h o : Nat) : List RefEnt :=
  match l.find? fun e => e.isFor p h o && e.number != 0 with
  | none => l
  | some e =>
    if e.number = 1 then l.erase e ++ [{ e with number := 0 }]
    else l.map fun x => if x = e then { e with number := e.number - 1 } else x

/-! ### Droplets held by threads (R365) -/

/-- Who holds a droplet for a thread: the thread, or the descriptor that a control engine runs, at 0x1000 + descriptor. -/
def State.holderOf (s : State) (t : Nat) : Nat :=
  match threadCe t with
  | none => t
  | some c => 0x1000 + s.ceDesc c

/-- Holder t is the holder of a slot, or the supervisor of the holder's engine. -/
def isHolder (t : Nat) (sl : Slot) : Bool :=
  match sl.holder with
  | none => false
  | some h => h == t || (t < 1536 && t % 8 == 0 && h / 8 == t / 8)

/-- The buffer is HEAD or BODY of a droplet. -/
def Droplet.uses (d : Droplet) (p h : Nat) : Bool :=
  (p == 0 && d.head == h) || (d.bodyPool != 0 && d.bodyPool == p && d.body == h)

/-- The buffer is covered for cs.t.ref, cs.t.addr and cs.t.info (R495). -/
def State.covered (s : State) (t p h : Nat) : Bool :=
  let (l, _, o) := s.refTable t
  hasLive l p h o || s.weir.slots.any fun e => isHolder (s.holderOf t) e.2 && e.2.d.uses p h

/-- The requester kind and ID of a thread (Table 12.3, Table 12.4). -/
def State.reqId (s : State) (t : Nat) : Nat × Nat :=
  match threadCe t with
  | none => (3, t)
  | some c => (4, s.ceDesc c)

/-! ### The engine ports (Table 9.14) -/

/-- cs.t.alloc (Table 12.2). -/
def csAlloc (s : State) (t x : Nat) : Trig :=
  let p := x % 256
  let (l, cap, o) := s.refTable t
  if p = 0 then (s.startOp t uCs [] stDenied, 0)
  else if !s.poolEn p then (s.startOp t uCs [] stInvalid, 0)
  else if !s.mayAlloc (threadBasin t) p then (s.startOp t uCs [] stDenied, 0)
  else if cap ≤ l.length && (dropTombstone l).isNone then (s.startOp t uCs [] stOverflow, 0)
  else
    match s.allocCore p (s.basinCharge (threadBasin t)) t with
    | ((st, some h), s) =>
      ((s.setRefTable t ((addEntry l cap p h o).getD l)).startOp t uCs [(0x3E1, BitVec.ofNat 32 h)] st, 0)
    | ((st, none), s) => if st = stOk then (s.putOp t uCs { wait := 6, arg := p }, 0) else (s.startOp t uCs [] st, 0)

/-- cs.t.free (R496, R497, R506). -/
def csFree (s : State) (t x : Nat) : Trig :=
  let p := s.opnd t 0x3E0 % 256
  let h := x % 2 ^ 24
  let (l, _, o) := s.refTable t
  let (kind, id) := s.reqId t
  if !s.poolEn p || s.poolCount p ≤ h then (s.startOp t uCs [] stInvalid, 0)
  else if hasLive l p h o then
    if s.refCount p h = 0 then ((s.cisError p stDouble 2 kind h id).startOp t uCs [] stDouble, 0)
    else
      let s := (s.setRefTable t (dropEntry l p h o)).dropCount p h
      if (s.pool p).held.contains h then
        (({ s with cis := { s.cis with freers := s.cis.freers ++ [(t, p, h)] } }).putOp t uCs { wait := 7, arg := p }, 0)
      else (s.startOp t uCs [] stOk, 0)
  else if l.any (fun e => e.isFor p h o) then ((s.cisError p stDouble 2 kind h id).startOp t uCs [] stDouble, 0)
  else ((s.cisError p stDenied 2 kind h id).startOp t uCs [] stDenied, 0)

/-- cs.t.ref (R494, R496). -/
def csRef (s : State) (t x : Nat) : Trig :=
  let p := s.opnd t 0x3E0 % 256
  let h := x % 2 ^ 24
  let (l, cap, o) := s.refTable t
  let (kind, id) := s.reqId t
  if !s.poolEn p || s.poolCount p ≤ h then (s.startOp t uCs [] stInvalid, 0)
  else if !s.covered t p h then ((s.cisError p stDenied 3 kind h id).startOp t uCs [] stDenied, 0)
  else if s.bufLost p h then (s.startOp t uCs [] stLost, 0)
  else if 255 ≤ s.refCount p h then (s.startOp t uCs [] stOverflow, 0)
  else
    match addEntry l cap p h o with
    | none => (s.startOp t uCs [] stOverflow, 0)
    | some l => (((s.setRefTable t l).addCount p h).startOp t uCs [] stOk, 0)

/-- cs.t.addr (R939, R397). -/
def csAddr (s : State) (t x : Nat) : Trig :=
  let p := s.opnd t 0x3E0 % 256
  let h := x % 2 ^ 24
  let (kind, id) := s.reqId t
  if !s.poolEn p || s.poolCount p ≤ h || p = 0 then (s.startOp t uCs [] stInvalid, 0)
  else if !s.covered t p h then ((s.cisError p stDenied 4 kind h id).startOp t uCs [] stDenied, 0)
  else (s.startOp t uCs [(0x3E1, BitVec.ofNat 32 (s.poolBase p / 256 + h * s.poolSize p))] stOk, 0)

/-- cs.t.info (R939). -/
def csInfo (s : State) (t x : Nat) : Trig :=
  let p := s.opnd t 0x3E0 % 256
  let h := x % 2 ^ 24
  let (kind, id) := s.reqId t
  if !s.poolEn p || s.poolCount p ≤ h then (s.startOp t uCs [] stInvalid, 0)
  else if !s.covered t p h then ((s.cisError p stDenied 5 kind h id).startOp t uCs [] stDenied, 0)
  else (s.startOp t uCs [(0x3E1, BitVec.ofNat 32 (s.refCount p h))] stOk, 0)

/-! ### Refills and spills end (R483, R484, R490, R506) -/

/-- The handle of an allocation that waited reaches a thread: its reference table, and its operation (R491). -/
def State.deliverThread (s : State) (w : Nat × Nat × Nat) (h : Nat) : State :=
  let (t, p, part) := w
  let s := s.handOut p h part
  let (l, cap, o) := s.refTable t
  (s.setRefTable t ((addEntry l cap p h o).getD l)).endWait t uCs [(0x3E1, BitVec.ofNat 32 h)] stOk

/-- The handle of an allocation that waited reaches its requester: a thread, or an edge port, whose frame then goes on
(R491). -/
def State.deliver (s : State) (w : Nat × Nat × Nat) (h : Nat) : State :=
  let (who, p, part) := w
  if 65536 ≤ who then
    let s := s.handOut p h part
    { s with edg := { s.edg with granted := s.edg.granted ++ [(who - 65536, some h)] } }
  else s.deliverThread w h

/-- Allocations that wait take handles from the cache, in order; where it runs empty another refill starts. The number bounds
them. -/
def State.serveAllocs (s : State) (p : Nat) : Nat → State
  | 0 => s
  | n + 1 =>
    match s.cis.waiters.find? fun w => w.2.1 == p with
    | none => s
    | some w =>
      match (s.pool p).cache with
      | [] => s.startRefill p true
      | h :: hs =>
        let s := { s with cis := { s.cis with waiters := s.cis.waiters.erase w } }
        ((s.setPool p { s.pool p with cache := hs }).deliver w h).serveAllocs p n

/-- The refill in progress reaches the cache, beneath the handles already there, as far as the cache's 32 places reach; the
rest of it stays in progress (DESIGN CHOICE, log entry 168). -/
def State.endRefill (s : State) (p : Nat) : State :=
  let v := s.pool p
  let room := 32 - v.cache.length
  let rest := v.refill.drop room
  let s := s.setPool p { v with cache := v.cache ++ v.refill.take room, refill := rest, refilling := !rest.isEmpty }
  s.serveAllocs p (s.cis.waiters.length + 1)

/-- Frees that waited for a spill complete, oldest first; the number bounds them. -/
def State.serveFrees (s : State) (p : Nat) : Nat → State
  | 0 => s
  | n + 1 =>
    match (s.pool p).held with
    | [] => s
    | h :: hs =>
      let s := (s.setPool p { s.pool p with held := hs }).returnHandle p h
      if (s.pool p).held.contains h then s
      else
        let mine := s.cis.freers.filter fun w => w.2.1 == p && w.2.2 == h
        let s := { s with cis := { s.cis with freers := s.cis.freers.filter fun w => !(w.2.1 == p && w.2.2 == h) } }
        (mine.foldl (fun s w => s.endWait w.1 uCs [] stOk) s).serveFrees p n

/-- The spill in progress reaches the ring tail: its handles, as 32-bit words in the ring (R483). The frees that waited for it
complete, and a refill starts where an allocation waits for one. -/
def State.endSpill (s : State) (p : Nat) : State :=
  let v := s.pool p
  let count := max 1 (s.poolCount p)
  let s := v.spill.zipIdx.foldl (fun s e => s.ipdWrite (s.ringBase p + 4 * ((v.head + v.len + e.2) % count)) (leBytes 4 e.1)) s
  let s := s.setPool p { v with spill := [], spilling := false, len := v.len + v.spill.length }
  let s := s.serveFrees p (v.held.length + 1)
  if s.cis.waiters.any (fun w => w.2.1 == p) then s.serveAllocs p (s.cis.waiters.length + 1) else s

/-- The next free handle of a pool, wherever it stands: cache, refill, ring, spill. -/
def State.nextHandle (s : State) (p : Nat) : Option Nat × State :=
  let v := s.pool p
  match v.cache, v.refill with
  | h :: hs, _ => (some h, s.setPool p { v with cache := hs })
  | [], h :: hs => (some h, s.setPool p { v with refill := hs })
  | [], [] =>
    let w := s.moveRefill p (1 + v.gone) 1 v
    match w.refill, v.spill with
    | h :: _, _ => (some h, s.setPool p { w with refill := [] })
    | [], h :: hs => (some h, s.setPool p { v with spill := hs })
    | [], [] => (none, s)

/-- The first of an allocation's waits ends at once with the next handle: the thread leaves its control engine (R641). -/
def State.hurryAlloc (s : State) (t p : Nat) : State :=
  match s.cis.waiters.find? fun w => w.1 == t && w.2.1 == p with
  | none => s
  | some w =>
    match ({ s with cis := { s.cis with waiters := s.cis.waiters.erase w } }).nextHandle p with
    | (some h, s) => s.deliverThread w h
    | (none, s) => s

/-- A free that waits for a spill ends at once, its handle going to the ring with the spill: the thread leaves its control
engine (R641). -/
def State.hurryFree (s : State) (t p : Nat) : State :=
  { s with cis := { s.cis with freers := s.cis.freers.filter fun w => !(w.1 == t && w.2.1 == p) } }.endWait t uCs [] stOk

/-- An allocation by a unit that this model does not let wait: it takes the next handle at once (DESIGN CHOICE, log
entry 171). -/
def State.allocNow (s : State) (p part : Nat) : (Nat × Nat) × State :=
  match s.alloc p part 0 with
  | ((st, some h), s) => ((st, h), s)
  | ((st, none), s) =>
    if st ≠ stOk then ((st, 0), s)
    else
      let s := { s with cis := { s.cis with waiters := s.cis.waiters.dropLast } }
      match s.nextHandle p with
      | (some h, s) => ((stOk, h), s.handOut p h part)
      | (none, s) => ((stEmpty, 0), s)

/-! ### Resets and lost memory (Table 12.5) -/

/-- Every live entry drops its references, counted in CIS_RECLAIM_CNT; a count already at 0 refuses (R497), for the requester
of the given kind and ID. -/
def State.reclaim (s : State) (l : List RefEnt) (kind id : Nat) : State :=
  l.foldl (fun s e => (List.range e.number).foldl (fun s _ =>
    if s.refCount e.pool e.handle = 0 then s.cisError e.pool stDouble 2 kind e.handle id
    else (s.dropCount e.pool e.handle).bump Reg.CIS_RECLAIM_CNT) s) s

/-- The references of an engine's threads go at step 4 of Sequence 7.1. -/
def State.reclaimEngine (s : State) (e : Nat) : State :=
  (List.range 8).foldl (fun s i =>
    let t := 8 * e + i
    let l := (s.thread t).refs
    (s.updThread t fun th => { th with refs := [] }).reclaim l 3 t) s

/-- The references of a deleted descriptor go. -/
def State.reclaimDesc (s : State) (d : Nat) : State :=
  let mine := s.cis.cpRefs.filter fun e => e.owner == d
  { s with cis := { s.cis with cpRefs := s.cis.cpRefs.filter fun e => e.owner != d } }.reclaim mine 4 d

/-- Some line of a byte range is offline. -/
def State.rangeOffline (s : State) (a n : Nat) : Bool :=
  (List.range ((n + 63) / 64)).any fun i => s.offlineAt (a + 64 * i)

/-- The slots of a pool's free ring that hold handles, head first. -/
def State.ringSlots (s : State) (p : Nat) : List Nat :=
  let v := s.pool p
  (List.range v.len).map fun i => (v.head + i) % max 1 (s.poolCount p)

/-- The buffers of a pool that lie in an offline range, and the free handles whose ring words do. -/
def State.poolLosses (s : State) (p : Nat) : List Nat :=
  let v := s.pool p
  let n := s.poolSize p * 256
  let bufs := (List.range (s.poolCount p)).filter fun h => s.rangeOffline (s.poolBase p + h * n) n
  let slots := (s.ringSlots p).filter fun i => s.offlineAt (s.ringBase p + 4 * i)
  let words := slots.map fun i => leNat (cellRead s.mem.ipd (s.ringBase p + 4 * i) 4) % 2 ^ 24
  (bufs ++ words.filter fun h => !bufs.contains h).filter fun h => !v.lost.contains h

/-- An allocation that waits for a handle that no longer is answers EMPTY, and its charge goes back. -/
def State.failAllocs (s : State) (p : Nat) : State :=
  let v := s.pool p
  if v.cache.length + v.ringLen + v.refill.length + v.spill.length ≠ 0 then s
  else
    let mine := s.cis.waiters.filter fun w => w.2.1 == p
    let s := s.dropWaiters fun who => mine.any fun w => w.1 == who
    mine.foldl (fun s w =>
      if 65536 ≤ w.1 then { s with edg := { s.edg with granted := s.edg.granted ++ [(w.1 - 65536, none)] } }
      else s.endWait w.1 uCs [] stEmpty) s

/-- An IPD range has gone offline: the buffers of one pool in it are lost (Table 12.5, R505). -/
def State.losePool (s : State) (p : Nat) : State :=
  let l := s.poolLosses p
  if l.isEmpty then s
  else
    let v := s.pool p
    let keep (h : Nat) : Bool := !l.contains h
    let lost := v.lost ++ l
    let gone := ((s.ringSlots p).filter fun i =>
      s.wordLost (s.ringBase p + 4 * i) || lost.contains (s.ringWord p i)).length
    let s := s.setPool p { v with
      lost := lost, cache := v.cache.filter keep, gone := gone
      refill := v.refill.filter keep, spill := v.spill.filter keep }
    let s := s.bumpFld Reg.CIS_LOST_CNT 0 0 l.length
    ((s.wr Reg.CIS_STATUS_LOST_ANY 1).eventSup Reg.CIS_INT_STATUS_LOST Reg.CIS_INT_EN_LOST).failAllocs p

/-- Every pool loses what lies in an offline range. -/
def State.loseBuffers (s : State) : State :=
  (List.range 256).foldl (fun s p => if p ≠ 0 && s.poolEn p then s.losePool p else s) s

/-- Every pool is rebuilt with all handles free, in handle order, with the image's quotas, and the error ring is empty
(Table 12.5, R479); ranges already offline are lost from the start (R568). -/
def State.buildPools (s : State) : State :=
  let quotas (p : Nat) : SMap Nat := (List.range 5).foldl (fun q k => SMap.put q k (s.setting 7 (p * 8 + k)) 0) []
  let s := { s with cis := {} }
  let s := (List.range 256).foldl (fun s p =>
    if !s.poolEn p then s else s.setPool p { quota := quotas p, len := if p = 0 then 0 else s.poolCount p }) s
  let s := (List.range 256).foldl (fun s p =>
    if p = 0 || !s.poolEn p then s
    else s.ipdWrite (s.ringBase p) ((List.range (s.poolCount p)).map (leBytes 4)).flatten) s
  s.loseBuffers

/-! ### Registers (R500, R503, R507, R508) -/

/-- CIS_QUOTA_WRITE: a new quota for the pool that the partition's CIS_SEL names; it takes back no buffer (R501). -/
def cisQuotaWrite (s : State) (part p v : Nat) : State :=
  if !s.pageOk part 5 || !s.isSup part then s
  else
    let k := s.fld Reg.CIS_SEL_POOL 0 part
    s.setPool k { s.pool k with quota := SMap.put (s.pool k).quota p (v % 2 ^ 24) 0 }

/-- Word w of an error ring entry (Table 12.4). -/
def ErrEnt.word (e : ErrEnt) (w : Nat) : Nat :=
  match w with
  | 0 => e.pool % 256 + e.status % 16 * 256 + e.op % 16 * 4096 + e.kind % 16 * 65536
  | 1 => e.handle % 2 ^ 24
  | 2 => e.id % 2 ^ 16
  | _ => e.time % 2 ^ 32

/-- CIS_ERR_POP.GO (R503, Table 12.10). -/
def cisErrPop (s : State) (part : Nat) : State :=
  if !s.pageOk part 5 || !s.isSup part then s
  else
    match s.cis.errs with
    | [] =>
      s.setAll ((Reg.CIS_ERR_POP_RESULT, 0, 0, stEmpty) :: (List.range 4).map fun w => (Reg.CIS_ERR_DATA_DATA, w, 0, 0))
    | e :: es =>
      { s with cis := { s.cis with errs := es } }.setAll
        ((Reg.CIS_ERR_POP_RESULT, 0, 0, stOk) :: (Reg.CIS_STATUS_ERR_COUNT, 0, 0, es.length) ::
          (List.range 4).map fun w => (Reg.CIS_ERR_DATA_DATA, w, 0, e.word w))

/-- CIS_POOL_COUNT_READ: the read takes one snapshot of the selected pool (R508). -/
def cisPoolCountRead (s : State) (part : Nat) : State :=
  if !s.pageReads part 5 then s
  else
    let p := s.fld Reg.CIS_SEL_POOL 0 part
    let v := s.pool p
    let count := if s.poolEn p then s.poolCount p else 0
    let own (n : Nat) : Nat := if p = 0 then 0 else n
    let s := s.setAll ([(Reg.CIS_POOL_COUNT_COUNT, 0, 0, count),
      (Reg.CIS_POOL_FREE_FREE, 0, 0, if s.poolEn p then s.free_ p else 0), (Reg.CIS_POOL_LOST_LOST, 0, 0, v.lost.length),
      (Reg.CIS_POOL_CACHE_CACHED, 0, 0, own v.cache.length), (Reg.CIS_POOL_CACHE_REFILLING, 0, 0, own (flagBit v.refilling)),
      (Reg.CIS_POOL_CACHE_SPILLING, 0, 0, own (flagBit v.spilling))] ++
      (List.range 5).map fun k => (Reg.CIS_USED_USED, k, 0, SMap.get v.used k 0))
    s.emit (.reg part count)

end Sys2Proof.Machine
end

