-- ==== Sys2Proof/Machine/Droplet.lean ====
section
/-! DEFINITION. The layout of a droplet (Tables 2.1 and 2.3), ingress port IDs (Table 2.2) and egress targets
(Table 2.4). -/

namespace Sys2Proof.Machine

/-- The flags of Table 2.3 as the 16 bits of the word at 0x30. -/
def Droplet.flags (d : Droplet) : Nat :=
  flagBit d.epValid + 2 * flagBit d.record + 4 * flagBit d.recirc + 8 * flagBit d.nobody + 16 * flagBit d.macsecOk +
    32 * flagBit d.ptp + 64 * flagBit d.express + 128 * flagBit d.learn + 256 * flagBit d.frerTag + 512 * flagBit d.host

/-- Word n of a droplet, at offset 4 × n (Table 2.1); reserved bits read 0. -/
def Droplet.word (d : Droplet) (n : Nat) : Nat :=
  match n with
  | 0 => d.seq % 2 ^ 24 + d.oclass % 4 * 2 ^ 24 + d.pass % 4 * 2 ^ 26
  | 1 => d.domain % 2 ^ 16 + d.version % 2 ^ 16 * 2 ^ 16
  | 2 => d.arrival % 2 ^ 32
  | 3 => d.arrival / 2 ^ 32 % 2 ^ 32
  | 4 => d.hash % 2 ^ 32
  | 5 => d.bucket % 2 ^ 12 + d.tsdom % 4 * 2 ^ 12 + d.thread % 2 ^ 11 * 2 ^ 16
  | 6 => d.inPort % 2 ^ 8 + d.len % 2 ^ 14 * 2 ^ 8
  | 7 => d.head % 2 ^ 24
  | 8 => d.body % 2 ^ 24 + d.bodyPool % 2 ^ 8 * 2 ^ 24
  | 9 => d.srcEp % 2 ^ 16 + d.parse % 2 ^ 8 * 2 ^ 16
  | 10 => d.egress % 2 ^ 16 + d.dryReason % 2 ^ 8 * 2 ^ 16 + d.colour % 4 * 2 ^ 24
  | 11 => d.stream % 2 ^ 13 + d.frerSeq % 2 ^ 16 * 2 ^ 16
  | 12 => d.copy % 2 ^ 8 + d.flags * 2 ^ 16
  | 14 => d.prog0.toNat
  | 15 => d.prog1.toNat
  | _ => 0

/-- The 64 bytes of a droplet. -/
def Droplet.bytes (d : Droplet) : List Byte := ((List.range 16).map fun n => leBytes 4 (d.word n)).flatten

/-- IN_PORT of a T1S segment, a CAN channel, a presence input or SVC_BTN (8), and a partition's transmit; 0x54 is the
control plane (Table 2.2). -/
def inPortT1s (s : Nat) : Nat := 0x20 + s
def inPortCan (c : Nat) : Nat := 0x30 + c
def inPortPres (i : Nat) : Nat := 0x40 + i
def inPortHost (p : Nat) : Nat := 0x50 + p
def inPortCp : Nat := 0x54

/-- The target of an EGRESS value (Table 2.4). -/
inductive Target where
  | port (port cls : Nat)
  | host (part q : Nat)
  | list (n : Nat)
  | cp (q : Nat)
  deriving DecidableEq, Repr

/-- EGRESS decoded; none where bits that Table 2.4 requires to be zero are not (R59). -/
def decodeEgress (e : Nat) : Option Target :=
  let lo := bits e 0 14
  match bits e 14 2 with
  | 0 => if lo < 256 then some (.port (lo / 8) (lo % 8)) else none
  | 1 => if lo < 256 then some (.host (lo / 64) (lo % 64)) else none
  | 2 => if lo < 4096 then some (.list lo) else none
  | _ => if lo < 64 then some (.cp lo) else none

/-- Dry-slot reasons (Table 3.3). -/
def dryProgramDrop : Nat := 0x01
def dryPolicedRed : Nat := 0x02
def dryHoldExpired : Nat := 0x03
def dryEngineFault : Nat := 0x04
def dryMemLost : Nat := 0x05
def dryPortGone : Nat := 0x06
def dryNoBuffer : Nat := 0x07
def dryFiltered : Nat := 0x08
def dryFrerDuplicate : Nat := 0x09
def dryParseError : Nat := 0x0A
def dryPartitionReset : Nat := 0x0B
def dryGateOverrun : Nat := 0x0C
def dryLinkLost : Nat := 0x0D

end Sys2Proof.Machine
end

