-- ==== Sys2Proof/Machine/Packet.lean ====
section
/-! DEFINITION. Where a packet's bytes live: the head region in staging, and the body buffer in the IPD; the packet as its
window shows it (R60, R61, R374 to R377). -/

namespace Sys2Proof.Machine

/-- The head region of a staging buffer. -/
def State.headOf (s : State) (h : Nat) : List Byte := SMap.get s.mem.staging h []

def State.setHead (s : State) (h : Nat) (bs : List Byte) : State :=
  { s with mem := { s.mem with staging := SMap.put s.mem.staging h bs [] } }

/-- Bytes of a droplet's frame that lie in its body buffer. -/
def Droplet.bodyLen (d : Droplet) : Nat := if d.bodyPool = 0 then 0 else d.len - 256

/-- The IPD address of a buffer. -/
def State.bufAddr (s : State) (p h : Nat) : Nat := s.poolBase p + h * s.poolSize p * 256

/-- HEADLEN and the current length (R376). -/
def State.headLen (s : State) (d : Droplet) : Nat := (s.headOf d.head).length

def State.pktLen (s : State) (d : Droplet) : Nat := s.headLen d + d.bodyLen

/-- The body of a droplet is lost, or its byte i stands in a lost word. -/
def State.bodyLost (s : State) (d : Droplet) (i : Nat) : Bool :=
  s.bufLost d.bodyPool d.body || s.wordLost (s.bufAddr d.bodyPool d.body + i)

/-- Byte i of the packet; none where it is lost. Bytes beyond the packet read 0. -/
def State.pktByte (s : State) (d : Droplet) (i : Nat) : Option Byte :=
  let n := s.headLen d
  if i < n then some ((s.headOf d.head).getD i 0)
  else if i < n + d.bodyLen then
    if s.bodyLost d (i - n) then none else some (cellGet s.mem.ipd (s.bufAddr d.bodyPool d.body + (i - n)))
  else some 0

/-- n bytes of the packet from an offset; none where one of them is lost. -/
def State.pktBytes (s : State) (d : Droplet) : Nat → Nat → Option (List Byte)
  | _, 0 => some []
  | off, n + 1 =>
    match s.pktByte d off, s.pktBytes d (off + 1) n with
    | some b, some bs => some (b :: bs)
    | _, _ => none

/-- The whole packet, a lost byte reading 0. -/
def State.packet (s : State) (d : Droplet) : List Byte :=
  s.headOf d.head ++ (List.range d.bodyLen).map fun i =>
    if s.bodyLost d i then 0 else cellGet s.mem.ipd (s.bufAddr d.bodyPool d.body + i)

/-- A byte of the packet is lost. -/
def State.packetLost (s : State) (d : Droplet) : Bool := (List.range d.bodyLen).any fun i => s.bodyLost d i

/-- HEAD or BODY of a droplet is lost or lies in an offline range (Table 3.5). -/
def State.buffersLost (s : State) (d : Droplet) : Bool :=
  d.bodyPool != 0 && (s.bufLost d.bodyPool d.body ||
    (List.range (s.poolSize d.bodyPool * 4)).any fun i => s.offlineAt (s.bufAddr d.bodyPool d.body + 64 * i))

/-- One more reference on HEAD and BODY each; the Sluice makes no copy whose increment would pass 255 (R79). -/
def State.refRoom (s : State) (d : Droplet) : Bool :=
  s.refCount 0 d.head < 255 && (d.bodyPool == 0 || s.refCount d.bodyPool d.body < 255)

def State.addRefs (s : State) (d : Droplet) : State :=
  let s := s.addCount 0 d.head
  if d.bodyPool = 0 then s else s.addCount d.bodyPool d.body

/-- One decrement each (R68, R94), by the Sluice (op 6, kind 6), the Weir (7, 7) or a host's transmit path (8, 2). -/
def State.dropRefs (s : State) (d : Droplet) (op kind id : Nat) : State :=
  let s := s.dropRef 0 d.head op kind id
  let s := if s.refCount 0 d.head = 0 then s.setHead d.head [] else s
  if d.bodyPool = 0 then s else s.dropRef d.bodyPool d.body op kind id

/-- A frame's bytes go into staging and, beyond 256, into the body buffer (R60, R61). -/
def State.storeFrame (s : State) (d : Droplet) (bs : List Byte) : State :=
  let s := s.setHead d.head (bs.take 256)
  if d.bodyPool = 0 then s
  else
    let a := s.bufAddr d.bodyPool d.body
    (s.ipdWrite a (bs.drop 256)).ipdReqs a (bs.length - 256) true clsPkt

end Sys2Proof.Machine
end

