-- ==== Sys2Proof/Machine/Crc.lean ====
section
/-! DEFINITION. Cyclic redundancy checks of any width, and the presets of Table 10.3. -/

namespace Sys2Proof.Machine

/-- Parameters of a CRC: width, polynomial, initial value, reflected in and out, final XOR. -/
structure CrcParams where
  w : Nat
  poly : Nat
  init : Nat
  refl : Bool
  xorOut : Nat
  deriving DecidableEq, Repr

/-- The presets of Table 10.3; the reserved ones have none. -/
def crcPreset (sel : Nat) : Option CrcParams :=
  match sel with
  | 0 => some ⟨8, 0x1D, 0xFF, false, 0xFF⟩
  | 1 => some ⟨8, 0x2F, 0xFF, false, 0xFF⟩
  | 2 => some ⟨16, 0x1021, 0xFFFF, false, 0⟩
  | 3 => some ⟨32, 0x04C11DB7, 0xFFFFFFFF, true, 0xFFFFFFFF⟩
  | 4 => some ⟨32, 0xF4ACFB13, 0xFFFFFFFF, true, 0xFFFFFFFF⟩
  | 5 => some ⟨32, 0x1EDC6F41, 0xFFFFFFFF, true, 0xFFFFFFFF⟩
  | 6 => some ⟨64, 0x42F0E1EBA9EA3693, 0xFFFFFFFFFFFFFFFF, true, 0xFFFFFFFFFFFFFFFF⟩
  | _ => none

/-- The low w bits of a number in reverse order. -/
def bitRev : Nat → Nat → Nat
  | 0, _ => 0
  | w + 1, v => v % 2 * 2 ^ w + bitRev w (v / 2)

/-- One bit into the register, most significant first. -/
def crcBit (p : CrcParams) (r : Nat) (b : Bool) : Nat :=
  let top := r / 2 ^ (p.w - 1) % 2 == 1
  let r2 := r * 2 % 2 ^ p.w
  if top != b then r2 ^^^ p.poly else r2

/-- One byte into the register, its bits in the order that reflection gives. -/
def crcByte (p : CrcParams) (r : Nat) (b : Byte) : Nat :=
  let v := if p.refl then bitRev 8 b.toNat else b.toNat
  [7, 6, 5, 4, 3, 2, 1, 0].foldl (fun r i => crcBit p r (bitOf v i)) r

/-- Bytes into the register. -/
def crcUpdate (p : CrcParams) (r : Nat) (bs : List Byte) : Nat := bs.foldl (crcByte p) r

/-- The CRC that a register stands for. -/
def crcFinal (p : CrcParams) (r : Nat) : Nat := (if p.refl then bitRev p.w r else r) ^^^ p.xorOut

/-- The CRC of bytes. -/
def crcOf (p : CrcParams) (bs : List Byte) : Nat := crcFinal p (crcUpdate p p.init bs)

/-- CRC-32C of bytes (preset 5). -/
def crc32c (bs : List Byte) : Nat := crcOf ⟨32, 0x1EDC6F41, 0xFFFFFFFF, true, 0xFFFFFFFF⟩ bs

/-- CRC-8/SAE-J1850 of bytes (preset 0). -/
def crc8 (bs : List Byte) : Nat := crcOf ⟨8, 0x1D, 0xFF, false, 0xFF⟩ bs

end Sys2Proof.Machine
end

