-- ==== Sys2Proof/Machine/Record.lean ====
section
/-! DEFINITION. The Reflecting Pool's recorder: marking, records, decision entries, triggers and freezes
(R874 to R881). -/

namespace Sys2Proof.Machine

/-- The ring records: it is laid out, not frozen, and the writer runs. -/
def State.recording (s : State) : Bool := s.on Reg.RPL_STATUS_RECORDING 0 0 && s.rd Reg.RPL_CFG_RING_MIB != 0

/-- Unwritten bytes of the write buffer now: the writer takes 16 bytes in each ns (R876). -/
def State.unwritten (s : State) : Nat := s.rpl.unwritten - 16 * (s.now - s.rpl.drainAt)

/-- Event n of RPL_INT_STATUS (Table 23.7). -/
def State.rplEvent (s : State) (n : Nat) : State := s.eventBit Reg.RPL_INT_STATUS_EVENTS Reg.RPL_INT_EN_EN n 0 s.supervisor

/-- Drops the oldest records until `held` bytes fit in `size`. -/
def trimRing (size : Nat) : List RplRec → Nat → List RplRec × Nat
  | [], held => ([], held)
  | r :: rs, held => if held ≤ size then (r :: rs, held) else trimRing size rs (held - r.bytes.length)

/-- Bytes written into the ring's IPD range from an offset, wrapping at its end. -/
def ringWrite (m : List Host.Cell) (base size off : Nat) (bs : List Byte) : List Host.Cell :=
  let first := bs.take (size - off)
  cellWrite (cellWrite m (base + off) first) base (bs.drop (size - off))

/-- One record enters the ring: header (KIND, FLAGS, LEN, INDEX, TIME) and body; the oldest records make room. The bytes
count against the write buffer and against a running post window. -/
def State.putRecord (s : State) (kind : Nat) (body : List Byte) : State :=
  let r := s.rpl
  let bytes := leBytes 1 kind ++ leBytes 1 (flagBit r.inexact) ++ leBytes 2 ((body.length + 16) / 16) ++
    leBytes 4 r.next ++ leBytes 8 s.now ++ body
  let n := bytes.length
  let size := s.rd Reg.RPL_CFG_RING_MIB * 1048576
  let t := trimRing size (r.ring ++ [{ index := r.next, kind := kind, bytes := bytes }]) (r.held + n)
  let first := match t.1 with
    | [] => (r.next + 1) % 2 ^ 32
    | x :: _ => x.index
  let s := { s with
    rpl := { r with ring := t.1, held := t.2, next := (r.next + 1) % 2 ^ 32, wpos := (r.wpos + n) % (max size 1),
                    unwritten := s.unwritten + n, drainAt := s.now, inexact := r.inexact && kind != 3,
                    post := r.post.map fun (p : Nat × Nat) => (p.1 - n, p.2) }
    mem := { s.mem with ipd := ringWrite s.mem.ipd (s.rd Reg.RPL_BASES_RING * 1048576) size r.wpos bytes } }
  let s := (s.wr Reg.RPL_RING_FIRST_INDEX first).wr Reg.RPL_RING_NEXT_INDEX s.rpl.next
  (s.bump Reg.RPL_REC_CNT).bumpFld Reg.RPL_BYTES_CNT 0 0 n

/-- RPL_FILT_PORT selects an IN_PORT (R874). -/
def State.filtersPort (s : State) (p : Nat) : Bool :=
  if p < 0x20 then bitOf (s.rd Reg.RPL_FILT_PORT0_NP) p
  else if p < 0x40 then bitOf (s.rd Reg.RPL_FILT_PORT1_EDGE) (p - 0x20)
  else if p < 0x49 then bitOf (s.rd Reg.RPL_FILT_PORT2_PRES) (p - 0x40)
  else if 0x50 ≤ p && p < 0x54 then bitOf (s.rd Reg.RPL_FILT_PORT2_HOST) (p - 0x50)
  else if p = 0x54 then s.on Reg.RPL_FILT_PORT2_CP 0 0
  else false

/-- A range RPL_DOMn holds a domain (R875). -/
def State.filtersDomain (s : State) (d : Nat) : Bool :=
  (List.range 8).any fun n => s.fld Reg.RPL_DOM_FIRST n 0 ≤ d && d ≤ s.fld Reg.RPL_DOM_LAST n 0

/-- The charge of R876: 480 bytes, when the bucket holds them and the write buffer keeps its reservation. A charge that
fails counts in RPL_SKIP_CNT. -/
def State.charge (s : State) : Bool × State :=
  let ok := s.recording && (480 * 16 : Int) ≤ s.rpl.bucket && s.unwritten + 128 * s.rpl.marked < 1048576
  if ok then (true, { s with rpl := { s.rpl with bucket := s.rpl.bucket - 480 * 16, marked := s.rpl.marked + 1 } })
  else (false, s.bump Reg.RPL_SKIP_CNT)

/-- RECORD of a droplet by its IN_PORT (R874) or, still clear, by its DOMAIN (R875). -/
def State.mark (s : State) (selected : Bool) (d : Droplet) : Droplet × State :=
  if d.record || !selected then (d, s)
  else ({ d with record := s.charge.1 }, s.charge.2)

/-- The ADMIT record of a marked droplet: the droplet, the active map, the physical engine, and the staging buffer with
zeros beyond LEN (Table 23.1). -/
def State.recordAdmit (s : State) (d : Droplet) (staging : List Byte) : State :=
  if !d.record || !s.recording then s
  else
    let phys := s.fld Reg.BSN_ENG_PHYS (d.thread / 8) 0
    s.putRecord 1 (d.bytes ++ leBytes 1 (s.rd Reg.RUN_MAP_STATUS_ACTIVE) ++ leBytes 1 phys ++ List.replicate 14 0 ++
      takeBytes 256 (staging.take (min d.len 256)))

/-- A post window starts, for a cause of FREEZE_CAUSE (R879). False where the trigger has no effect. -/
def State.startPost (s : State) (cause : Nat) : Bool × State :=
  if !s.recording || s.rpl.post.isSome then (false, s)
  else
    let s := { s with rpl := { s.rpl with post := some (s.rd Reg.RPL_TRIG_POST_MIB * 1048576, cause) } }
    (true, (s.wr Reg.RPL_STATUS_TRIGGERED 1).rplEvent 0)

/-- The END record of a marked droplet (R877): outcome 1 sent, 2 dried slot, 3 refused. The droplet leaves the count of
marked droplets in flight. -/
def State.recordEnd (s : State) (d : Droplet) (outcome reason status crc : Nat) (reasons : List Nat) : State :=
  if !d.record then s
  else
    let s := { s with rpl := { s.rpl with marked := s.rpl.marked - 1 } }
    if !s.recording then s
    else
      let head := leBytes 2 d.domain ++ leBytes 1 d.pass ++ leBytes 1 outcome ++ leBytes 4 d.seq ++ leBytes 1 reason ++
        leBytes 1 status ++ leBytes 2 d.egress ++ leBytes 4 crc ++ leBytes 2 d.thread ++ leBytes 1 reasons.length ++
        List.replicate 13 0
      let tail := reasons.map (BitVec.ofNat 8)
      s.putRecord 2 (head ++ takeBytes (if reasons.length ≤ 16 then 16 else 80) tail)

/-- A marked droplet completes as dry: a reason of RPL_TRIG.DRY_MASK triggers (R879). -/
def State.dryTrigger (s : State) (d : Droplet) (reason : Nat) : State :=
  if d.record && 1 ≤ reason && bitOf (s.rd Reg.RPL_TRIG_DRY_MASK) (reason - 1) then (s.startPost 4).2 else s

/-- An entry's 16 bytes (Table 23.2). -/
def DecEnt.bytes (e : DecEnt) : List Byte :=
  leBytes 1 e.kind ++ leBytes 1 e.status ++ leBytes 2 e.thread ++ leBytes 2 e.obj ++ [0, 0] ++ leBytes 8 e.value

/-- Seven entries make one DECISION record; it draws on the bucket when it is written (R876). -/
def State.flushDec (s : State) : State :=
  if s.rpl.dec.length < 7 then s
  else
    let body := ((s.rpl.dec.take 7).map DecEnt.bytes).flatten
    let s := { s with rpl := { s.rpl with dec := s.rpl.dec.drop 7, bucket := s.rpl.bucket - 128 * 16 } }
    s.putRecord 3 body

/-- A thread holds a droplet with RECORD set. -/
def State.holdsRecorded (s : State) (t : Nat) : Bool :=
  s.weir.slots.any fun e => e.2.holder == some t && e.2.d.record

/-- One decision entry of a thread that holds a marked droplet (R878); without room outside the reservation of R876 it is
discarded, and one LOG_LOST entry stands for those discarded. -/
def State.logDecision (s : State) (t kind status obj value : Nat) : State :=
  if !s.recording || !s.holdsRecorded t then s
  else if 1048576 ≤ s.unwritten + 128 * s.rpl.marked + 128 then
    { s with rpl := { s.rpl with lost := s.rpl.lost + 1, inexact := true } }.bump Reg.RPL_LOGLOST_CNT
  else
    let e : DecEnt := { kind := kind, status := status, thread := t, obj := obj, value := value }
    let pre : List DecEnt := if s.rpl.lost = 0 then [] else [{ kind := 9, thread := t, value := s.rpl.lost }]
    { s with rpl := { s.rpl with dec := s.rpl.dec ++ pre ++ [e], lost := 0 } }.flushDec

/-- A LOCK, HELPER or TIMER entry: the thread's dbg.cnt and the result word (Table 23.2). -/
def State.logFlagEvent (s : State) (t kind status obj : Nat) (word : W32) : State :=
  s.logDecision t kind status obj ((s.thread t).issued % 2 ^ 32 + word.toNat * 2 ^ 32)

/-- The ring freezes: a FREEZE record is the last write (R880). A ring that is frozen, or not laid out, stays as it is. -/
def State.freeze (s : State) (cause : Nat) : Bool × State :=
  if !s.recording then (false, s)
  else
    let s := { s with rpl := { s.rpl with bucket := s.rpl.bucket - 32 * 16 } }
    let s := s.putRecord 4 (leBytes 1 cause ++ [0, 0, 0] ++ leBytes 4 s.rpl.marked ++ List.replicate 8 0)
    let s := { s with rpl := { s.rpl with marked := 0, post := none } }
    let s := s.setAll [(Reg.RPL_STATUS_RECORDING, 0, 0, 0), (Reg.RPL_STATUS_TRIGGERED, 0, 0, 0),
                       (Reg.RPL_STATUS_FROZEN, 0, 0, 1), (Reg.RPL_STATUS_FREEZE_CAUSE, 0, 0, cause)]
    (true, s.rplEvent 1)

/-- RECORD_BUCKET_REFILL: RATE sixteenths of a byte for each ns since the last refill, up to 64 KiB (R876). -/
def recordBucketRefill (s : State) (now : Nat) : State :=
  let s := s.upTo now
  let dt := s.now - s.rpl.bucketAt
  { s with rpl := { s.rpl with
      bucket := min (s.rpl.bucket + dt * s.rd Reg.RPL_RATE_RATE) (65536 * 16), bucketAt := s.now
      unwritten := s.unwritten, drainAt := s.now } }

/-- POST_WINDOW_END: POST_MIB MiB have been written since the trigger, and the ring freezes (R879). -/
def postWindowEnd (s : State) (now : Nat) : State :=
  let s := s.upTo now
  match s.rpl.post with
  | some (0, cause) => (s.freeze cause).2
  | _ => s

/-- A rising edge on the pin FREEZE (R880). -/
def freezePinEdge (s : State) (now : Nat) : State := ((s.upTo now).freeze 1).2

end Sys2Proof.Machine
end

