-- ==== Sys2Proof/Machine/Rules.lean ====
section
/-! DEFINITION. Rule sets and versions: regions, staging, commits, live versions with their references and pins, the
lookups of classification, and the version log (R165 to R201). -/

namespace Sys2Proof.Machine

/-! ### Kinds and entries (Tables 5.1 to 5.3) -/

/-- Entries of a kind; kind 3 has none. -/
def kindEntries (k : Nat) : Nat := if k < 2 then 16384 else if k = 2 then 8192 else 0

/-- Words of an entry. -/
def kindWords (k : Nat) : Nat := if k = 0 then 36 else if k = 1 then 8 else 16

/-- Physical blocks of 64 entries. -/
def kindBlocks (k : Nat) : Nat := if k < 2 then 512 else 256

/-- An entry of zeros. -/
def zeroEntry (k : Nat) : List W32 := List.replicate (kindWords k) 0

/-- The table of a kind. -/
def RuleTables.table (r : RuleTables) (k : Nat) : SMap (List W32) :=
  if k = 0 then r.matches_ else if k = 1 then r.actions else r.params

/-- An entry of a kind. -/
def RuleTables.entry (r : RuleTables) (k i : Nat) : List W32 := SMap.get (r.table k) i (zeroEntry k)

/-- An entry replaced. -/
def RuleTables.setEntry (r : RuleTables) (k i : Nat) (e : List W32) : RuleTables :=
  if k = 0 then { r with matches_ := SMap.put r.matches_ i e (zeroEntry k) }
  else if k = 1 then { r with actions := SMap.put r.actions i e (zeroEntry k) }
  else { r with params := SMap.put r.params i e (zeroEntry k) }

/-- Word n of an entry, as a number. -/
def entryWord (e : List W32) (n : Nat) : Nat := (e.getD n 0).toNat

/-- The 64 bytes of a key as 16 words (R8). -/
def keyWords (key : List Byte) : List W32 :=
  (List.range 16).map fun n => BitVec.ofNat 32 (leNat ((key.drop (4 * n)).take 4))

/-- A MATCH entry matches a key and an IN_PORT (R169). -/
def matchEntry (e : List W32) (key : List W32) (inPort : Nat) : Bool :=
  let w := entryWord e 32
  bitOf w 31 && (bits w 0 8 &&& bits w 8 8) == (inPort % 256 &&& bits w 8 8) &&
    (List.range 16).all fun n => (key.getD n 0 &&& e.getD (16 + n) 0) == (e.getD n 0 &&& e.getD (16 + n) 0)

/-- The matching rule with the highest PRIO, and among equals the lowest index: its index and entry (R169). -/
def bestMatch (m : SMap (List W32)) (key : List W32) (inPort : Nat) : Option (Nat × List W32) :=
  m.foldl (fun best e =>
    if !matchEntry e.2 key inPort then best
    else
      match best with
      | none => some e
      | some b => if entryWord b.2 33 % 65536 < entryWord e.2 33 % 65536 then some e else best) none

/-! ### Live versions -/

/-- The four slots. -/
def State.versions (s : State) : List VersionSt := (s.rul.vers ++ List.replicate 4 ({} : VersionSt)).take 4

def State.version (s : State) (n : Nat) : VersionSt := s.versions.getD n {}

def State.setVersion (s : State) (n : Nat) (v : VersionSt) : State :=
  { s with rul := { s.rul with vers := s.versions.set n v } }

/-- The slot of a live version, by its number. -/
def State.slotOfVersion (s : State) (num : Nat) : Option Nat :=
  s.versions.findIdx? fun v => v.state != 0 && v.number == num

/-- The slot of the ingress version. -/
def State.ingressSlot (s : State) : Option Nat := s.versions.findIdx? fun v => v.state == 1

/-- Live versions. -/
def State.liveCount (s : State) : Nat := (s.versions.filter fun v => v.state != 0).length

/-- The tables of a live version; none for VERSION 0 (R182). -/
def State.tablesOf (s : State) (num : Nat) : RuleTables :=
  match s.slotOfVersion num with
  | none => {}
  | some n => (s.version n).tables

/-- RUL_STATUS.INGRESS and LIVE. -/
def State.showRules (s : State) : State :=
  let num := match s.ingressSlot with
    | none => 0
    | some n => (s.version n).number
  s.setAll [(Reg.RUL_STATUS_INGRESS, 0, 0, num), (Reg.RUL_STATUS_LIVE, 0, 0, s.liveCount)]

/-- A droplet takes a reference on its version (R186). -/
def State.takeVersion (s : State) (num : Nat) : State :=
  match s.slotOfVersion num with
  | none => s
  | some n => s.setVersion n { s.version n with refs := (s.version n).refs + 1 }

/-- And releases it (R187, R188). -/
def State.dropVersion (s : State) (num : Nat) : State :=
  match s.slotOfVersion num with
  | none => s
  | some n => s.setVersion n { s.version n with refs := (s.version n).refs - 1 }

/-- One more pin on a version (R192, R193). -/
def State.pinVersion (s : State) (num : Nat) : Nat × State :=
  match s.slotOfVersion num with
  | none => (stLost, s)
  | some n =>
    let v := s.version n
    if 15 ≤ v.pins then (stOverflow, s) else (stOk, s.setVersion n { v with pins := v.pins + 1 })

/-- One pin less (R193). -/
def State.unpinVersion (s : State) (num : Nat) : Nat × State :=
  match s.slotOfVersion num with
  | none => (stDouble, s)
  | some n =>
    let v := s.version n
    if v.pins = 0 then (stDouble, s) else (stOk, s.setVersion n { v with pins := v.pins - 1 })

/-- RUL_PIN, for the supervisor partition (R192, R193, R200). -/
def rulPin (s : State) (p num : Nat) (f : State → Nat → Nat × State) : State :=
  if !s.pageOk p 3 || !s.isSup p then s
  else
    let r := f (s.wr Reg.RUL_PIN_VERSION num) num
    r.2.wr Reg.RUL_PIN_RESULT r.1

def rulPinPin (s : State) (p num : Nat) : State := rulPin s p num State.pinVersion

def rulPinUnpin (s : State) (p num : Nat) : State := rulPin s p num State.unpinVersion

/-! ### The version log (R196) -/

/-- The contents of a kind in entry order, as bytes. -/
def RuleTables.bytes (r : RuleTables) (k : Nat) : List Byte :=
  ((List.range (kindEntries k)).map fun i => ((r.entry k i).map fun w => leBytes 4 w.toNat).flatten).flatten

/-- A new version's entry in the log of the last 256. -/
def State.logVersion (s : State) (v : VersionSt) : State :=
  let e : VerLogEnt := {
    boot := s.fth.bootCount, number := v.number, owner := v.owner, switchTime := s.net 0
    digests := (List.range 3).map fun k => shake256 (v.tables.bytes k) }
  { s with fth := { s.fth with verLog := (e :: s.fth.verLog).take 256 } }

/-- The time of retirement goes into the entry of a version of this boot. -/
def State.logRetired (s : State) (num : Nat) : State :=
  { s with fth := { s.fth with verLog := s.fth.verLog.map fun e =>
      if e.boot = s.fth.bootCount && e.number = num && e.retireTime.isNone then
        { e with retireTime := some (s.net 0) }
      else e } }

/-- VERSION_RETIRE: a draining version with no reference and no pin frees its slot and its blocks; RETIRED is raised in
every partition (R189, R190). -/
def versionRetire (s : State) (n : Nat) : State :=
  let v := s.version n
  if v.state ≠ 2 || v.refs ≠ 0 || v.pins ≠ 0 then s
  else
    let s := ((s.setVersion n {}).logRetired v.number).showRules
    (List.range 4).foldl (fun s p => s.event Reg.RUL_INT_STATUS_RETIRED Reg.RUL_INT_EN_RETIRED 0 p) s

/-! ### Regions and staging (R165 to R168, R171 to R175) -/

/-- The region of an index: 0 to 3 P0–P3, 4 PD, 5 shared. -/
def State.regionOf (s : State) (k i : Nat) : Nat :=
  match (List.range 5).find? fun r =>
    let v := SMap.get s.img.regions (k * 8 + r) 0
    v / 2 ^ 20 ≤ i && i < v / 2 ^ 20 + v % 2 ^ 20 with
  | some r => r
  | none => 5

/-- The partition may stage the index (R168). -/
def State.mayStage (s : State) (p k i : Nat) : Bool :=
  let r := s.regionOf k i
  r == p || (r == 5 && s.isSup p)

def State.staging (s : State) (p : Nat) : Staging := SMap.get s.rul.staging p {}

def State.setStaging (s : State) (p : Nat) (v : Staging) : State :=
  { s with rul := { s.rul with staging := SMap.put s.rul.staging p v {} } }

/-- The blocks of a kind that hold an entry which the partition has written. -/
def Staging.blocks (g : Staging) (k : Nat) : List Nat :=
  ((g.entries.filter fun e => e.1 / 65536 == k).map fun e => e.1 % 65536 / 64).eraseDups

/-- Staging blocks of a kind that the partition's quota still allows. -/
def State.quotaLeft (s : State) (p k : Nat) : Nat :=
  SMap.get s.img.stgQuota (p * 4 + k) 0 - ((s.staging p).blocks k).length

/-- Blocks that the live versions use for one range of 64 entries: those made by different commits count once each. -/
def State.usedAt (s : State) (k b : Nat) : Nat :=
  (((s.versions.filter fun v => v.state != 0).map fun v => SMap.get v.blocks (k * 1024 + b) 0).eraseDups).length

/-- Free blocks of a kind (R172, R189). -/
def State.freeBlocks (s : State) (k : Nat) : Nat :=
  let live := (List.range (kindEntries k / 64)).foldl (fun n b => n + s.usedAt k b) 0
  let staged := (List.range 5).foldl (fun n p => n + ((s.staging p).blocks k).length) 0
  kindBlocks k - live - staged

/-- The status of a staged READ or WRITE (Table 5.4). -/
def State.stageStatus (s : State) (p k i : Nat) (write : Bool) : Nat :=
  let g := s.staging p
  if s.bridgeRuns then stInvalid
  else if kindEntries k ≤ i then stInvalid
  else if g.pending then stRetry
  else if !s.mayStage p k i then stDenied
  else if write && !(g.blocks k).contains (i / 64) && (s.quotaLeft p k = 0 || s.freeBlocks k = 0) then stOverflow
  else stOk

/-- A staging command reaches the device: a partition's page answers, or the control plane runs. Under the fallback bridge
the unit answers INVALID (Tables 5.4 and 5.5, log 76). -/
def State.rulReach (s : State) (p : Nat) : Bool :=
  if p < 4 then (s.linkOf p).isSome && !s.on Reg.HST_STATUS_RESET_BUSY 0 p && (s.imageRuns || s.bridgeRuns)
  else s.imageRuns

/-- The entry that RUL_STG_SEL names. -/
def State.stageSel (s : State) (p : Nat) : Nat × Nat := (s.fld Reg.RUL_STG_SEL_KIND 0 p, s.fld Reg.RUL_STG_SEL_INDEX 0 p)

/-- RUL_STG_CMD WRITE (R171 to R173). -/
def rulStgWrite (s : State) (p : Nat) : State :=
  if !s.rulReach p then s
  else
    let (k, i) := s.stageSel p
    let st := s.stageStatus p k i true
    let s := s.setFld Reg.RUL_STG_CMD_RESULT 0 p st
    if st ≠ stOk then s
    else
      let g := s.staging p
      let e := (List.range (kindWords k)).map fun n => BitVec.ofNat 32 (s.fld Reg.RUL_STG_DATA n p)
      s.setStaging p { g with entries := SMap.set g.entries (k * 65536 + i) e }

/-- RUL_STG_CMD READ (R173, R174). -/
def rulStgRead (s : State) (p : Nat) : State :=
  if !s.rulReach p then s
  else
    let (k, i) := s.stageSel p
    let st := s.stageStatus p k i false
    let s := s.setFld Reg.RUL_STG_CMD_RESULT 0 p st
    if st ≠ stOk then s
    else
      let e := match SMap.find (s.staging p).entries (k * 65536 + i) with
        | some e => e
        | none =>
          match s.ingressSlot with
          | none => zeroEntry k
          | some n => (s.version n).tables.entry k i
      s.setAll ((List.range (kindWords k)).map fun n => (Reg.RUL_STG_DATA, n, p, entryWord e n))

/-- RUL_STG_CMD CLEAR: the partition's staged blocks return to the free blocks (R173, R175). -/
def rulStgClear (s : State) (p : Nat) : State :=
  if !s.rulReach p then s
  else
    let g := s.staging p
    let st := if s.bridgeRuns then stInvalid else if g.pending then stRetry else stOk
    let s := s.setFld Reg.RUL_STG_CMD_RESULT 0 p st
    if st ≠ stOk then s else s.setStaging p { g with entries := [] }

/-! ### Commit (R176 to R181, Table 5.5, Sequence 5.1) -/

/-- An entry has a nonzero reserved field (Tables 5.2 and 5.3). -/
def reservedSet (k : Nat) (e : List W32) : Bool :=
  if k = 0 then
    bitOf (entryWord e 32) 30 || entryWord e 33 / 65536 != 0 || entryWord e 34 != 0 || entryWord e 35 != 0
  else if k = 1 then
    entryWord e 1 / 2 ^ 19 != 0 || entryWord e 2 / 2 ^ 14 != 0 || (List.range 5).any fun n => entryWord e (3 + n) != 0
  else false

/-- A staged entry fails a check of Table 5.5. -/
def State.entryRefused (s : State) (p k i : Nat) (e : List W32) : Bool :=
  let r := s.regionOf k i
  if reservedSet k e then true
  else if k = 0 then
    bitOf (entryWord e 32) 31 &&
      (!s.prioAllowed r (entryWord e 33 % 65536) || !s.mayStage p 1 (bits (entryWord e 32) 16 14))
  else if k = 1 then
    let dom := bits (entryWord e 0) 0 16
    let bkt := bits (entryWord e 0) 20 12
    (bitOf (entryWord e 2) 13 && !s.mayStage p 2 (bits (entryWord e 2) 0 13)) ||
      !s.domAllowed r dom (dom + 2 ^ bits (entryWord e 0) 16 4 - 1) ||
      !s.bktAllowed r bkt (bkt + 2 ^ bits (entryWord e 1) 0 4 - 1)
  else false

/-- The status of a commit (Table 5.5). -/
def State.commitStatus (s : State) (p : Nat) : Nat :=
  let g := s.staging p
  if s.bridgeRuns then stInvalid
  else if g.entries.isEmpty then stDouble
  else if s.liveCount = 4 then stBusy
  else if g.entries.any fun e => s.entryRefused p (e.1 / 65536) (e.1 % 65536) e.2 then stInvalid
  else stOk

/-- The next version number: 0 and the live numbers are skipped (R181). -/
def State.nextNumber (s : State) : Nat → Nat → Nat
  | 0, n => n
  | k + 1, n =>
    let m := (n + 1) % 65536
    if m = 0 || (s.slotOfVersion m).isSome then s.nextNumber k m else m

/-- The ingress tables with the staged entries in place (R176). -/
def commitTables (r : RuleTables) (entries : SMap (List W32)) : RuleTables :=
  entries.foldl (fun r e => r.setEntry (e.1 / 65536) (e.1 % 65536) e.2) r

/-- The block map with the staged blocks in place. -/
def commitBlocks (b : SMap Nat) (g : Staging) (id : Nat) : SMap Nat :=
  (List.range 3).foldl (fun b k => (g.blocks k).foldl (fun b i => SMap.set b (k * 1024 + i) id) b) b

/-- RUL_COMMIT.GO: the request waits for the commit unit; one that meets a pending commit answers DOUBLE (R178, R179).
DESIGN CHOICE (log 77): that answer raises no COMMIT_FAIL, since the pending commit is not refused. -/
def commitRequest (s : State) (p : Nat) : State :=
  if !s.rulReach p then s
  else if (s.staging p).pending then s.setFld Reg.RUL_COMMIT_RESULT 0 p stDouble
  else
    let s := (s.setStaging p { s.staging p with pending := true }).setFld Reg.RUL_COMMIT_PENDING 0 p 1
    { s with rul := { s.rul with queue := s.rul.queue ++ [p] } }

/-- Steps 4 to 7 of Sequence 5.1: the new version, in a free slot, becomes the ingress version. -/
def State.commitOk (s : State) (p : Nat) : State :=
  let old := match s.ingressSlot with
    | none => 4
    | some n => n
  let base := s.versions.getD old {}
  let g := s.staging p
  let num := s.nextNumber 6 s.rul.lastNumber
  let free := (s.versions.findIdx? fun v => v.state == 0).getD 0
  let id := s.rul.commits + 1
  let v : VersionSt := { number := num, state := 1, owner := p
                         tables := commitTables base.tables g.entries, blocks := commitBlocks base.blocks g id }
  let s := s.setVersion old { base with state := 2 }
  let s := (s.setVersion free v).setStaging p {}
  let s := { s with rul := { s.rul with lastNumber := num, commits := id } }
  let s := s.setAll [(Reg.RUL_COMMIT_RESULT, 0, p, stOk), (Reg.RUL_COMMIT_VERSION, 0, p, num),
                     (Reg.RUL_COMMIT_PENDING, 0, p, 0)]
  let s := (s.showRules.bump Reg.RUL_COMMIT_CNT).event Reg.RUL_INT_STATUS_COMMITTED Reg.RUL_INT_EN_COMMITTED p p
  s.logVersion v

/-- COMMIT_EXECUTE: the commit unit takes the oldest request, checks it, and commits or refuses it (R178, R180). -/
def commitExecute (s : State) : State :=
  match s.rul.queue with
  | [] => s
  | p :: ps =>
    let s := { s with rul := { s.rul with queue := ps } }
    let st := s.commitStatus p
    if st = stOk then s.commitOk p
    else
      let s := s.setStaging p { s.staging p with pending := false }
      let s := s.setAll [(Reg.RUL_COMMIT_RESULT, 0, p, st), (Reg.RUL_COMMIT_PENDING, 0, p, 0)]
      let s := if st = stBusy then s.bump Reg.RUL_BUSY_CNT else s
      s.event Reg.RUL_INT_STATUS_COMMIT_FAIL Reg.RUL_INT_EN_COMMIT_FAIL p p

/-- A partition reset discards the partition's staging and its waiting commit, whose RESULT is LOST, also after the reset
(Table 5.6); a LOST of an earlier reset then goes. -/
def State.loseStaging (s : State) (p : Nat) : State :=
  let waits := s.rul.queue.contains p
  let s := { s with rul := { s.rul with queue := s.rul.queue.filter (· != p), staging := SMap.erase s.rul.staging p } }
  if waits then s.setAll [(Reg.RUL_COMMIT_RESULT, 0, p, stLost), (Reg.RUL_COMMIT_PENDING, 0, p, 0)]
  else if s.fld Reg.RUL_COMMIT_RESULT 0 p = stLost then s.setFld Reg.RUL_COMMIT_RESULT 0 p 0
  else s

/-- The image's tables become version 1 (step 5b of Sequence 1.1). -/
def State.startRules (s : State) : State :=
  let v : VersionSt := { number := 1, state := 1, owner := 7, tables := s.img.rules }
  let s := { s with rul := { vers := [v], lastNumber := 1 } }
  s.showRules.logVersion v

/-- Classification under a version: the ACTION entry that it uses (R169, R170). -/
def State.classify (s : State) (num : Nat) (key : List Byte) (inPort : Nat) : List W32 :=
  let r := s.tablesOf num
  let i := match bestMatch r.matches_ (keyWords key) inPort with
    | none => 0
    | some e => bits (entryWord e.2 32) 16 14
  r.entry 1 i

end Sys2Proof.Machine
end

