-- ==== Sys2Proof/Machine/Journey.lean ====
section
/-! DEFINITION. A released droplet and its copies: the copies that have not ended, what each ending does to the buffers,
the counters and the records, and the entry of a copy in a host or control-plane queue (R68, R77 to R80, R96, R109,
R110, R706, R707). -/

namespace Sys2Proof.Machine

/-- A 32-bit object counter increments and stops at its largest value (R625). -/
def State.satBump (s : State) (f : Fld) (i n : Nat) : State :=
  s.setFld f i 0 (min (s.fld f i 0 + n) (2 ^ 32 - 1))

/-- n droplets or copies are dried with a reason (R109). -/
def State.countDry (s : State) (reason n : Nat) : State :=
  if reason = 0 then s else s.bumpFld Reg.WEIR_DRY_CNT (reason - 1) 0 n

def State.journey (s : State) (j : Nat) : Journey := SMap.get s.slu.journeys j {}

def State.setJourney (s : State) (j : Nat) (v : Journey) : State :=
  { s with slu := { s.slu with journeys := SMap.set s.slu.journeys j v } }

/-- A journey ends with its last copy: the version reference goes (R96, R187), and a marked droplet gets its END record
(R877). -/
def State.journeyEnd (s : State) (j : Nat) : State :=
  let v := s.journey j
  if v.left ≠ 0 then s
  else
    let s := { s with slu := { s.slu with journeys := SMap.erase s.slu.journeys j } }
    (s.dropVersion v.d.version).recordEnd v.d 1 0 v.status v.crc v.reasons

/-- One copy of a journey has left (reason 0) or been dried: its reason takes its place in the list, and its references to
the buffers go (R68), by the Sluice, or by host delivery for a message that has been delivered (Table 12.4). -/
def State.copyEnds (s : State) (c : Copy) (reason : Nat) : State :=
  let s := if reason = 0 && 512 ≤ c.q && c.q < 768 then s.dropRefs c.d 8 2 ((c.q - 512) / 64) else s.dropRefs c.d 6 6 0
  match SMap.find s.slu.journeys c.jid with
  | none => s
  | some v =>
    (s.setJourney c.jid { v with left := v.left - 1, reasons := v.reasons.set (c.d.copy - 1) reason }).journeyEnd c.jid

/-- A copy is dried: counted by its reason and on its queue, and a trigger where it is marked (R80, R109, R879). -/
def State.dryCopy (s : State) (c : Copy) (reason : Nat) : State :=
  let s := s.countDry reason 1
  let s := if c.q < 512 then s.satBump Reg.SLU_CLASS_DRIED c.q 1
           else if c.q < 1024 then s.satBump Reg.SLU_HOSTQ_DRIED (c.q - 512) 1
           else s.bumpFld Reg.EDG_TX_DROP (c.q - 1024) 0 1
  let s := if reason = dryGateOverrun then s.eventSup Reg.SLU_INT_STATUS_GATE_OVERRUN Reg.SLU_INT_EN_GATE_OVERRUN else s
  (s.copyEnds c reason).dryTrigger c.d reason

/-! ### Entries of host and control-plane queues -/

/-- The five words of a queued copy (Table 17.16). -/
def Copy.words (c : Copy) : List W64 :=
  let d := c.d
  [d.head % 2 ^ 24 + d.bodyPool % 256 * 2 ^ 24 + d.body % 2 ^ 24 * 2 ^ 32 + d.copy % 256 * 2 ^ 56,
   c.len % 2 ^ 14 + d.colour % 4 * 2 ^ 14 + d.inPort % 256 * 2 ^ 16 + flagBit d.epValid * 2 ^ 24 +
     d.srcEp % 2 ^ 16 * 2 ^ 32 + d.domain % 2 ^ 16 * 2 ^ 48,
   d.seq % 2 ^ 24 + d.tsdom % 4 * 2 ^ 24, d.arrival % 2 ^ 64, d.prog0.toNat + d.prog1.toNat * 2 ^ 32].map
    (BitVec.ofNat 64)

/-- The copies in the spill queue of a host or control-plane queue, oldest first. -/
def State.hostCopies (s : State) (q : Nat) : List Copy := SMap.get s.slu.hostCopies q []

def State.setHostCopies (s : State) (q : Nat) (l : List Copy) : State :=
  { s with slu := { s.slu with hostCopies := SMap.put s.slu.hostCopies q l [] } }

/-- The oldest copy of a queue leaves it. -/
def State.popCopy (s : State) (q : Nat) : Option Copy × State :=
  match s.hostCopies q with
  | [] => (none, s)
  | c :: cs => (some c, s.setHostCopies q cs)

/-- The control-plane reference table has n entries available (R494). -/
def State.cpRoom (s : State) (n : Nat) : Bool :=
  n ≤ (4096 - s.cis.cpRefs.length) + (s.cis.cpRefs.filter fun e => e.number == 0).length

/-- The references of an entry whose last word a control-plane thread takes pass to the control-plane reference table,
tagged with the thread's descriptor, and the copy has left (R707). -/
def State.takeEntry (s : State) (q desc : Nat) : State :=
  match s.popCopy q with
  | (none, s) => s
  | (some c, s) =>
    let l := (addEntry s.cis.cpRefs 4096 0 c.d.head desc).getD s.cis.cpRefs
    let l := if c.d.bodyPool = 0 then l else (addEntry l 4096 c.d.bodyPool c.d.body desc).getD l
    let s := { s with cis := { s.cis with cpRefs := l } }
    match SMap.find s.slu.journeys c.jid with
    | none => s
    | some v => (s.setJourney c.jid { v with left := v.left - 1 }).journeyEnd c.jid

end Sys2Proof.Machine
end

