-- ==== Sys2Proof/Machine/Pump.lean ====
section
/-! DEFINITION. The Pumphouse: descriptors, ready queues, selection and preemption, the switch of a control engine between
threads, posts and the ends of waits (R630 to R656). -/

namespace Sys2Proof.Machine

def State.desc (s : State) (d : Nat) : Desc := SMap.get s.pmp.descs d {}

def State.setDesc (s : State) (d : Nat) (v : Desc) : State :=
  { s with pmp := { s.pmp with descs := SMap.put s.pmp.descs d v {} } }

def State.ce (s : State) (c : Nat) : CeSt := SMap.get s.pmp.ces c {}

def State.setCe (s : State) (c : Nat) (v : CeSt) : State :=
  { s with pmp := { s.pmp with ces := SMap.put s.pmp.ces c v {} } }

/-- The ready queue of a level. -/
def State.readyAt (s : State) (l : Nat) : List Nat := SMap.get s.pmp.ready l []

def State.setReady (s : State) (l : Nat) (q : List Nat) : State :=
  { s with pmp := { s.pmp with ready := SMap.put s.pmp.ready l q [] } }

/-! ### The save area (Table 15.6) -/

/-- The IPD address of a descriptor's save area. -/
def Desc.saveAddr (d : Desc) : Nat := d.save * 1024

/-- The words of the loop levels, outermost first: START, END, remaining count. -/
def loopWords (l : List LoopLevel) : List Nat :=
  let o := l.reverse
  ((List.range 3).map fun i => let v := o.getD i {}
                               [v.start, v.end_, v.count]).flatten

/-- Bytes 0x000 to 0x0BF of a save area. -/
def Thr.context (th : Thr) : List Byte :=
  let regs := (List.range 32).map fun n => (th.port n).toNat
  let preds := (List.range 4).foldl (fun m n => m + (th.port (0x020 + n)).toNat % 2 * 2 ^ n) 0
  ((regs ++ [preds, (th.port 0x049).toNat, th.pc, flagBit th.user + 2 * flagBit th.nest] ++ loopWords th.loops ++
    [th.asid.toNat, th.ptb.toNat, th.vec.toNat]).map (leBytes 4)).flatten

/-- Loop levels from the save area's words; a level with count 0 is not active. -/
def loopsFrom (w : Nat → Nat) : List LoopLevel :=
  (((List.range 3).map fun i => ({ start := w (36 + 3 * i), end_ := w (37 + 3 * i), count := w (38 + 3 * i) } : LoopLevel)).filter
    fun l => l.count ≠ 0).reverse

/-- The thread that a save area and the Pumphouse's own part of it describe. -/
def Thr.fromContext (saved : Thr) (bs : List Byte) : Thr :=
  let w (n : Nat) : Nat := leNat ((bs.drop (4 * n)).take 4)
  let th := { saved with
    state := if (SMap.find saved.ops uEvt).any (fun (o : UnitOp) => o.wait == 4) then 2 else 0
    pc := w 34, user := bitOf (w 35) 0, nest := bitOf (w 35) 1, loops := loopsFrom w
    asid := BitVec.ofNat 32 (w 45) &&& 0xFF, ptb := BitVec.ofNat 32 (w 46) &&& 0x0FFFFFFF, vec := BitVec.ofNat 32 (w 47) }
  let th := (List.range 32).foldl (fun t n => t.setPort n (BitVec.ofNat 32 (w n))) th
  let th := (List.range 4).foldl (fun t n => t.setPort (0x020 + n) (BitVec.ofNat 32 (flagBit (bitOf (w 32) n)))) th
  th.setPort 0x049 (BitVec.ofNat 32 (w 33))

/-- Writes and reads a context through the control cache (R642). -/
def State.saveContext (s : State) (d : Nat) (th : Thr) : State :=
  let bs := th.context
  let a := (s.desc d).saveAddr
  let s := (List.range 3).foldl (fun s i => s.ctrlWrite (a + 64 * i) ((bs.drop (64 * i)).take 64)) s
  s.setDesc d { s.desc d with saved := th }

def State.loadContext (s : State) (d : Nat) : Thr × State :=
  let a := (s.desc d).saveAddr
  let (b0, _, s) := s.ctrlRead a 64
  let (b1, _, s) := s.ctrlRead (a + 64) 64
  let (b2, _, s) := s.ctrlRead (a + 128) 64
  (Thr.fromContext (s.desc d).saved (b0 ++ b1 ++ b2), s)

/-! ### The switch (R641) -/

/-- An operation that the outgoing thread has started completes before the switch: a load or store takes its line at
once, an allocation its handle, and a free waits no longer; a blocking wait stays (Table 15.5). -/
def State.drainOp (s : State) (t u : Nat) (o : UnitOp) : State :=
  if o.wait = 0 then s.completeOp t u
  else if o.wait = 6 then (s.hurryAlloc t o.arg).completeOp t u
  else if o.wait = 7 then (s.hurryFree t o.arg).completeOp t u
  else if o.wait = 5 then
    match o.acc, threadCe t with
    | some x, some c =>
      let k := 205 + c
      let a := lineOf x.addr
      let s := s.setCache k { s.cache k with misses := (s.cache k).misses.filter fun m => m.addr != a }
      let s := if s.offlineAt a || (s.cache k).whereIs k a ≠ 0 then s
               else let (l, s) := s.fetchLine k a
                    s.install k l
      let ((st, ps), s) := s.lineAccess k x
      (s.endWait t u ps st).completeOp t u
    | _, _ => (s.endWait t u [] stOk).completeOp t u
  else s

def State.drainOps (s : State) (t : Nat) : State :=
  (s.thread t).ops.foldl (fun s e => s.drainOp t e.1 e.2) s

/-- A control engine runs a descriptor's thread. -/
def State.runOn (s : State) (c d : Nat) : State :=
  let (th, s) := s.loadContext d
  let v := s.desc d
  let s := s.setDesc d { v with state := 2, ce := c, aff := if v.affAuto then c else v.aff, saved := {} }
  ((s.setThread (1536 + c) th).setCe c { s.ce c with state := 1, desc := d, since := s.now }).bump Reg.PMP_SWITCH_CNT

/-- The context of the thread that a control engine runs is saved; the engine is idle. -/
def State.leaveCe (s : State) (c : Nat) : State :=
  let t := 1536 + c
  let s := s.drainOps t
  let s := s.saveContext (s.ce c).desc (s.thread t)
  (s.setThread t {}).setCe c { s.ce c with state := 0 }

/-! ### Ready queues and selection (R635 to R638) -/

/-- The highest level whose ready queue is not empty. -/
def State.topLevel (s : State) : Option Nat := ((List.range 64).reverse).find? fun l => !(s.readyAt l).isEmpty

/-- A descriptor leaves its ready queue. -/
def State.unready (s : State) (d : Nat) : State :=
  { s with pmp := { s.pmp with ready := s.pmp.ready.foldl (fun r e => SMap.put r e.1 (e.2.filter (· != d)) []) [] } }

/-- A descriptor becomes READY at the tail of level EFF, or at its head (R638). -/
def State.makeReady (s : State) (d : Nat) (head : Bool) : State :=
  let v := s.desc d
  let q := s.readyAt v.eff
  (s.setDesc d { v with state := 1 }).setReady v.eff (if head then d :: q else q ++ [d])

/-- A control engine selects (R635). -/
def State.select (s : State) (c : Nat) : State :=
  match s.topLevel with
  | none => s
  | some l =>
    let q := s.readyAt l
    let pick := match (q.take 4).find? fun d => (s.desc d).aff == c with
      | some d => d
      | none => q.headD 0
    (s.unready pick).runOn c pick

/-- The control engines in a state. -/
def State.cesIn (s : State) (st : Nat) : List Nat := (List.range 8).filter fun c => (s.ce c).state == st

/-- A control engine has power: in MIST, only those that the image names (Table 20.1). -/
def State.cePowered (s : State) (c : Nat) : Bool := s.rd Reg.PWR_STATUS_STATE != 2 || bitOf s.mistCes c

/-- The engine that R637 preempts: the lowest EFF, then the shortest run, then the lowest number. -/
def State.preemptee (s : State) : List Nat → Option Nat
  | [] => none
  | c :: cs =>
    match s.preemptee cs with
    | none => some c
    | some b =>
      let ec := (s.desc (s.ce c).desc).eff
      let eb := (s.desc (s.ce b).desc).eff
      if eb < ec || (eb = ec && (s.ce c).since < (s.ce b).since) then some b else some c

/-- One engine takes a descriptor by R636 or R637, if one should. -/
def State.scheduleOne (s : State) : State :=
  match s.topLevel with
  | none => s
  | some l =>
    match (s.cesIn 0).filter s.cePowered with
    | c0 :: cs =>
      let d := (s.readyAt l).headD 0
      let c := if (c0 :: cs).contains (s.desc d).aff then (s.desc d).aff else c0
      (s.unready d).runOn c d
    | [] =>
      match s.preemptee (s.cesIn 1) with
      | none => s
      | some c =>
        let d := (s.ce c).desc
        if (s.desc d).eff < l then
          let s := (s.leaveCe c).bump Reg.PMP_PREEMPT_CNT
          (s.makeReady d true).select c
        else s

/-- The Pumphouse hands ready descriptors to engines, while the fabric runs (R636, R637). -/
def State.schedule (s : State) : State :=
  if !s.imageRuns || 3 ≤ s.rd Reg.PWR_STATUS_STATE then s
  else (List.range 16).foldl (fun s _ => s.scheduleOne) s

/-- EFF follows BASE and the last boost level (R644); a READY descriptor moves to the tail of its new level (R646). -/
def State.setEff (s : State) (d : Nat) : State :=
  let v := s.desc d
  let e := match v.boost with
    | none => v.base
    | some b => max v.base b
  if e = v.eff then s
  else if v.state = 1 then ((s.unready d).setDesc d { v with eff := e }).makeReady d false
  else s.setDesc d { v with eff := e }

/-! ### Waits of control-engine threads -/

/-- Inserts an entry in the delay list after those with the same target (R655). -/
def insertDelay (e : Nat × Nat) : List (Nat × Nat) → List (Nat × Nat)
  | [] => [e]
  | x :: xs => if e.1 < x.1 then e :: x :: xs else x :: insertDelay e xs

/-- The descriptor leaves the delay list. -/
def State.undelay (s : State) (d : Nat) : State :=
  { s with pmp := { s.pmp with delay := s.pmp.delay.filter fun e => e.2 != d } }

/-- The thread of a control engine begins a wait of Table 15.5 and the engine selects again. -/
def State.blockCe (s : State) (c kind mask : Nat) : State :=
  let d := (s.ce c).desc
  let n := s.opnd (1536 + c) 0x622 % 2 ^ 24
  let s := s.leaveCe c
  let s := s.setDesc d { s.desc d with state := 3, wait := kind, mask := mask }
  let s := if n = 0 then s
           else { s with pmp := { s.pmp with delay := insertDelay (s.time.ticks + n, d) s.pmp.delay } }
  s.select c

/-- A wait of a descriptor ends: the operation's ports take their values, and the descriptor becomes READY at the tail of
level EFF (R638); one that the debugger has halted stays halted. -/
def State.endDescWait (s : State) (d u : Nat) (given : List (Nat × W32)) (st : Nat) : State :=
  let s := s.undelay d
  let (l, s) := s.opPorts u given st
  let v := s.desc d
  let th := { v.saved with ops := SMap.erase v.saved.ops u }.setPorts l
  let s := s.setDesc d { v with saved := th, wait := 0, mask := 0 }
  if v.state = 3 then s.makeReady d false
  else s.setDesc d { s.desc d with haltedFrom := if v.haltedFrom = 3 then 1 else v.haltedFrom }

/-! ### Posts (R647 to R650) -/

/-- A post enters the FIFO; FIFO_FULL is raised when it becomes full. -/
def State.post (s : State) (d flags : Nat) : State :=
  if 256 ≤ s.pmp.fifo.length then s
  else
    let s := { s with pmp := { s.pmp with fifo := s.pmp.fifo ++ [(d, flags)] } }
    if s.pmp.fifo.length = 256 then s.eventSup Reg.PMP_INT_STATUS_FIFO_FULL Reg.PMP_INT_EN_FIFO_FULL else s

/-- A post of a hardware source, held by the source while the FIFO is full (R648). -/
def State.postHeld (s : State) (d flags : Nat) : State :=
  if 256 ≤ s.pmp.fifo.length then { s with pmp := { s.pmp with held := s.pmp.held ++ [(d, flags)] } } else s.post d flags

/-- The FIFO is full (R648). -/
def State.fifoFull (s : State) : Bool := 256 ≤ s.pmp.fifo.length

/-- A flags wait ends when a selected flag is set: it returns the selected flags that are set and clears them (R652). -/
def State.endFlagWait (s : State) (d : Nat) : State :=
  let v := s.desc d
  let got := v.flags &&& v.mask
  if v.wait = 1 && got ≠ 0 then
    (s.setDesc d { v with flags := v.flags - got }).endDescWait d uPmp [(0x626, BitVec.ofNat 32 got)] stOk
  else s

/-- POST_FIFO_TAKE (R647, R649); a post to a HALTED descriptor only sets flags (R650). -/
def postFifoTake (s : State) : State :=
  match s.pmp.fifo with
  | [] => s
  | (d, f) :: rest =>
    let s := { s with pmp := { s.pmp with fifo := rest ++ s.pmp.held.take 1, held := s.pmp.held.drop 1 } }
    let v := s.desc d
    if v.state = 0 then
      (s.bump Reg.PMP_POST_LOST_CNT).eventSup Reg.PMP_INT_STATUS_POST_LOST Reg.PMP_INT_EN_POST_LOST
    else
      let s := (s.setDesc d { v with flags := v.flags ||| f }).bump Reg.PMP_POST_CNT
      (if v.state = 5 then s else s.endFlagWait d).schedule

/-! ### The device's other users of the Pumphouse -/

/-- Every control-plane thread is WAITING, FAULTED, HALTED or FREE, and every engine is idle or stopped: the control plane
has nothing to run (R809). -/
def State.cpIdle (s : State) : Bool :=
  (s.cesIn 1).isEmpty && s.topLevel.isNone && s.pmp.fifo.isEmpty

/-- Contexts are saved at entry to STILL (Sequence 20.1); the running descriptors wait at the head of their levels. -/
def State.saveCeContexts (s : State) : State :=
  (s.cesIn 1).foldl (fun s c =>
    let d := (s.ce c).desc
    (s.leaveCe c).makeReady d true) s

/-- In MIST an engine without power runs nothing: its descriptor waits at the head of its level for another engine. -/
def State.restCes (s : State) : State :=
  (((s.cesIn 1).filter fun c => !s.cePowered c).foldl (fun s c =>
    let d := (s.ce c).desc
    (s.leaveCe c).makeReady d true) s).schedule

/-- And they run again after it (Sequence 20.2). -/
def State.restoreCeContexts (s : State) : State := s.schedule

/-- The boost level that Lockgate signals for a descriptor, or its withdrawal (R644, R679). -/
def State.signalDesc (s : State) (d : Nat) (level : Option Nat) : State :=
  (s.setDesc d { s.desc d with boost := level }).setEff d

/-- A descriptor is started: its context is loaded from its save area when it first runs; EFF is BASE (R632). -/
def State.startDesc (s : State) (d : Nat) : State :=
  let v := s.desc d
  (s.setDesc d { v with eff := v.base, flags := 0, mask := 0, wait := 0, boost := none, saved := {} }).makeReady d false

/-! ### Control-engine faults (R345 to R349, R640) -/

/-- A control engine stops with a double fault; its thread becomes FAULTED. -/
def State.stopCe (s : State) (c : Nat) : State :=
  let d := (s.ce c).desc
  let s := s.leaveCe c
  let s := (s.setDesc d { s.desc d with state := 4 }).setCe c { s.ce c with state := 2 }
  s.eventSup Reg.PMP_INT_STATUS_DOUBLE_FAULT Reg.PMP_INT_EN_DOUBLE_FAULT

/-- A control-engine fault: the thread enters kernel mode at cx.vec, with the cause, the address that faulted and the
bundle's address saved; with cx.nest set the engine stops (R346 to R349). -/
def State.ceFault (s : State) (c cause pc fva : Nat) : State :=
  let t := 1536 + c
  if (s.thread t).nest then s.stopCe c
  else s.updThread t fun th => { th with
    cause := cause, fpc := BitVec.ofNat 32 pc, fva := BitVec.ofNat 32 fva, nest := true, user := false, pc := th.vec.toNat }

end Sys2Proof.Machine
end

