-- ==== Sys2Proof/Machine/Lockgate.lean ====
section
/-! DEFINITION. Lockgate: rights, acquisition and release, waiters, inheritance, abandonment and forced release, and the
requests of hosts (R664 to R688, R695, R696). -/

namespace Sys2Proof.Machine

/-! ### Requesters and rights -/

def reqDesc (d : Nat) : Nat := 0x1000 + d
def reqHost (p : Nat) : Nat := 0x2000 + p

/-- The requester ID of a thread. -/
def State.reqThread (s : State) (t : Nat) : Nat :=
  match threadCe t with
  | none => t
  | some c => reqDesc (s.ceDesc c)

def State.lock (s : State) (l : Nat) : Lock := SMap.get s.lkg.locks l {}

def State.setLock (s : State) (l : Nat) (v : Lock) : State :=
  { s with lkg := { s.lkg with locks := SMap.put s.lkg.locks l v {} } }

/-- The lock's group is in use; it holds semaphores (R664). -/
def State.lockEn (s : State) (l : Nat) : Bool := s.on Reg.LKG_GRP_EN (l / 64) 0

def State.isSem (s : State) (l : Nat) : Bool := s.on Reg.LKG_GRP_KIND (l / 64) 0

/-- The group right of a requester (R665). -/
def State.lockRight (s : State) (l r : Nat) : Bool :=
  if r < 1536 then bitOf (s.fld Reg.LKG_GRP_BASIN (l / 64) 0) (r / 128)
  else if r < 0x2000 then bitOf (s.fld Reg.LKG_GRP_PART (l / 64) 0) 4
  else bitOf (s.fld Reg.LKG_GRP_PART (l / 64) 0) (r - 0x2000)

/-! ### Priorities (R667, R677) -/

/-- PRIO of a packet-engine thread (Table 7.3). -/
def State.threadPrio (s : State) (t : Nat) : Nat := bits (SMap.get s.img.thrTab (4 * t) 0) 17 6

/-- Base priority of a requester; a host has none. -/
def State.basePrio (s : State) (r : Nat) : Nat :=
  if r < 1536 then s.threadPrio r else if r < 0x2000 then (s.desc (r - 0x1000)).base else 0

/-- The current effective priority of a requester: the last one signalled for a packet-engine thread, EFF of a
descriptor. -/
def State.effPrio (s : State) (r : Nat) : Nat :=
  if r < 1536 then
    match SMap.find s.lkg.boost r with
    | some e => e - 1
    | none => s.threadPrio r
  else if r < 0x2000 then (s.desc (r - 0x1000)).eff
  else 0

/-- The boost of a mutex: the highest effective priority among its waiters; a host waits at its waiter priority. -/
def State.mutexBoost (s : State) (v : Lock) : Option Nat :=
  v.waiters.foldl (fun m w =>
    let e := if w.req < 0x2000 then s.effPrio w.req else w.prio
    some (match m with
      | none => e
      | some x => max x e)) none

/-- The target of a requester: the highest boost among the mutexes that it holds. -/
def State.target (s : State) (r : Nat) : Option Nat :=
  s.lkg.locks.foldl (fun m e =>
    if e.2.holder = some r then
      match m, s.mutexBoost e.2 with
      | none, b => b
      | some x, none => some x
      | some x, some y => some (max x y)
    else m) none

/-- Recomputes a holder's effective priority and signals a change (R677, R679): to the issue selector of a thread's engine,
or to the Pumphouse for a descriptor. -/
def State.signalHolder (s : State) (r : Nat) : State :=
  let base := s.basePrio r
  let lvl := match s.target r with
    | none => none
    | some x => if base < x then some x else none
  if r < 1536 then
    { s with lkg := { s.lkg with boost :=
      match lvl with
      | none => SMap.erase s.lkg.boost r
      | some x => SMap.set s.lkg.boost r (x + 1) } }
  else if r < 0x2000 then
    if (s.desc (r - 0x1000)).boost = lvl then s else s.signalDesc (r - 0x1000) lvl
  else s

/-- The mutex that a requester waits on. -/
def State.waitsOn (s : State) (r : Nat) : Option Nat :=
  match s.lkg.locks.find? fun e => !s.isSem e.1 && e.2.waiters.any (fun w => w.req == r) with
  | none => none
  | some e => some e.1

/-- The walk of R678 from a mutex, with the holders left before depth 4 and the mutexes visited. -/
def State.walk : State → Nat → Nat → List Nat → State
  | s, 0, m, _ => if (s.lock m).holder.isSome then s.bump Reg.LKG_DEPTH_CNT else s
  | s, n + 1, m, seen =>
    match (s.lock m).holder with
    | none => s
    | some h =>
      let s := s.signalHolder h
      match s.waitsOn h with
      | none => s
      | some m2 =>
        if (m :: seen).contains m2 then
          (s.bump Reg.LKG_CYCLE_CNT).eventSup Reg.LKG_INT_STATUS_CYCLE Reg.LKG_INT_EN_CYCLE
        else s.walk n m2 (m :: seen)

/-- Recomputes the chain from an affected mutex; inheritance applies to mutexes only (R678). -/
def State.rechain (s : State) (m : Nat) : State := if s.isSem m then s else s.walk 4 m []

/-- Recomputes a requester that no longer holds a mutex, and the chain above it. -/
def State.rechainFrom (s : State) (r : Nat) : State :=
  let s := s.signalHolder r
  match s.waitsOn r with
  | none => s
  | some m => s.rechain m

/-! ### Completion of waits -/

/-- The value of R676. -/
def State.lockValue (s : State) (l : Nat) : Nat :=
  let v := s.lock l
  let low := if s.isSem l then v.count else v.holder.getD 0
  low % 65536 + 65536 * flagBit v.holder.isSome + 131072 * flagBit v.abandoned + 262144 * flagBit (s.isSem l) +
    min v.waiters.length 255 * 2 ^ 24

/-- lk.r of an operation on a semaphore: the count after it; of a mutex the spec names no value. -/
def State.lockResult (s : State) (l : Nat) : List (Nat × W32) :=
  if s.isSem l then [(0x342, BitVec.ofNat 32 (s.lock l).count)] else []

/-- A host's request completes (R687). -/
def State.hostLockDone (s : State) (p st value : Nat) : State :=
  (s.setAll [(Reg.LKG_HRES_RESULT, 0, p, st), (Reg.LKG_HRES_PENDING, 0, p, 0), (Reg.LKG_HVAL_VALUE, 0, p, value)]).event
    Reg.LKG_INT_STATUS_HOST_DONE Reg.LKG_INT_EN_HOST_DONE p p

/-- HVAL after an operation: the count of a semaphore, the value of R676 for a mutex. -/
def State.hostValue (s : State) (l : Nat) : Nat := if s.isSem l then (s.lock l).count else s.lockValue l

/-- A queued wait ends for its requester with a status (R386, R670, R687); a thread's LOCK flag is set. -/
def State.endLockWait (s : State) (l r st : Nat) : State :=
  let s := if st = stDenied then s.bump Reg.LKG_DENIED_CNT else s
  if r < 1536 then
    let s := s.endWait r uLk (if st = stOk then s.lockResult l else []) st
    let word := (s.lockResult l).headD (0, 0)
    (s.setEvent r evLock).logFlagEvent r 1 st l word.2
  else if r < 0x2000 then
    let v := s.desc (r - 0x1000)
    let s := s.setDesc (r - 0x1000) { v with saved := { v.saved with events := v.saved.events ||| 2 ^ evLock } }
    s.endDescWait (r - 0x1000) uLk (if st = stOk then s.lockResult l else []) st
  else s.hostLockDone (r - 0x2000) st (s.hostValue l)

/-- Grants to the head of a lock's queue, as long as R671 allows; the number bounds the grants. -/
def State.grant : State → Nat → Nat → State
  | s, 0, _ => s
  | s, n + 1, l =>
    let v := s.lock l
    match v.waiters with
    | [] => s
    | w :: ws =>
      if s.isSem l then
        if v.count < w.units then s
        else
          let s := (s.setLock l { v with count := v.count - w.units, waiters := ws }).bump Reg.LKG_ACQ_CNT
          (s.endLockWait l w.req stOk).grant n l
      else if v.holder.isSome then s
      else
        let st := if v.abandoned then stAbandoned else stOk
        let s := (s.setLock l { v with holder := some w.req, abandoned := false, waiters := ws }).bump Reg.LKG_ACQ_CNT
        (s.endLockWait l w.req st).rechain l

/-- Grants whatever a change of the lock makes grantable (R670, R671). -/
def State.grantAll (s : State) (l : Nat) : State := s.grant ((s.lock l).waiters.length) l

/-- A wait leaves the queue (R670): the chain is recomputed and what became grantable is granted. -/
def State.leaveQueue (s : State) (l r : Nat) : State :=
  let v := s.lock l
  ((s.setLock l { v with waiters := v.waiters.filter fun w => w.req != r }).rechain l).grantAll l

/-- The lock in whose queue a requester stands; a requester has at most one wait (R358, R686). -/
def State.queuedOn (s : State) (r : Nat) : Option Nat :=
  match s.lkg.locks.find? fun e => e.2.waiters.any (fun w => w.req == r) with
  | none => none
  | some e => some e.1

/-! ### Operations -/

/-- Inserts a waiter by priority, after its equals (R667). -/
def insertWait (w : LkWait) : List LkWait → List LkWait
  | [] => [w]
  | x :: xs => if x.prio < w.prio then w :: x :: xs else x :: insertWait w xs

/-- An acquire or try, by Table 16.1: the status, none where it queues. -/
def State.acquire (s : State) (l r n prio : Nat) (try_ : Bool) (limit : Option Nat) : Option Nat × State :=
  let v := s.lock l
  if !s.lockEn l then (some stInvalid, s)
  else if !s.lockRight l r then (some stDenied, s.bump Reg.LKG_DENIED_CNT)
  else if v.holder = some r then (some stInvalid, s)
  else if s.isSem l && n ≤ v.count && v.waiters.all (fun w => w.prio < prio) then
    (some stOk, (s.setLock l { v with count := v.count - n }).bump Reg.LKG_ACQ_CNT)
  else if !s.isSem l && v.holder.isNone && v.waiters.isEmpty then
    let s := (s.setLock l { v with holder := some r, abandoned := false }).bump Reg.LKG_ACQ_CNT
    (some (if v.abandoned then stAbandoned else stOk), s.rechain l)
  else if try_ then (some stBusy, s)
  else
    let w : LkWait := { req := r, prio := prio, units := n, limit := limit }
    let s := (s.setLock l { v with waiters := insertWait w v.waiters }).bump Reg.LKG_WAIT_CNT
    (none, s.rechain l)

/-- A release (R675, R388, R389). -/
def State.release (s : State) (l r n : Nat) : Nat × State :=
  let v := s.lock l
  if s.isSem l then
    if !s.lockRight l r then (stDenied, s.bump Reg.LKG_DENIED_CNT)
    else if !s.lockEn l then (stInvalid, s)
    else if 65535 < v.count + n then (stOverflow, s)
    else (stOk, (s.setLock l { v with count := v.count + n }).grantAll l)
  else if v.holder = some r then
    (stOk, ((s.setLock l { v with holder := none }).rechainFrom r).grantAll l)
  else (stDenied, s.bump Reg.LKG_DENIED_CNT)

/-- A mutex's holder is lost (R681): ABANDONED, boosts withdrawn, the head waiter granted. -/
def State.abandon (s : State) (l : Nat) : State :=
  let v := s.lock l
  match v.holder with
  | none => s
  | some h =>
    let s := (s.setLock l { v with holder := none, abandoned := true }).rechainFrom h
    let s := (s.grantAll l).bump Reg.LKG_ABANDON_CNT
    s.eventSup Reg.LKG_INT_STATUS_ABANDONED Reg.LKG_INT_EN_ABANDONED

/-- A requester is lost: its queued wait is removed and every mutex it holds is abandoned (R681). -/
def State.loseRequester (s : State) (r : Nat) : State :=
  let s := match s.queuedOn r with
    | none => s
    | some l => s.leaveQueue l r
  ((s.lkg.locks.filter fun e => e.2.holder == some r).map Prod.fst).foldl (fun s l => s.abandon l) s

/-- FORCE (R682): as though the holder were lost; the holder's own wait, which it still reads, ends with LOST. -/
def State.forceLock (s : State) (l : Nat) : Nat × State :=
  if s.isSem l then (stInvalid, s)
  else
    match (s.lock l).holder with
    | none => (stDouble, s)
    | some h =>
      let s := match s.queuedOn h with
        | none => s
        | some m => (s.leaveQueue m h).endLockWait m h stLost
      let s := (s.abandon l).bump Reg.LKG_FORCE_CNT
      (stOk, s.eventSup Reg.LKG_INT_STATUS_FORCED Reg.LKG_INT_EN_FORCED)

/-- SETCOUNT (R684). -/
def State.setCount (s : State) (l v : Nat) : Nat × State :=
  if !s.isSem l then (stInvalid, s) else (stOk, (s.setLock l { s.lock l with count := v % 65536 }).grantAll l)

/-! ### The engine ports (Table 9.11) -/

/-- The units that lk.n names; 0 means 1. -/
def unitsOf (n : Nat) : Nat := if n % 65536 = 0 then 1 else n % 65536

/-- The waiter priority of a thread (R667). -/
def State.waitPrio (s : State) (t : Nat) : Nat :=
  match threadCe t with
  | none => s.threadPrio t
  | some c => (s.desc (s.ceDesc c)).eff

/-- lk.t.acq and lk.t.try (R386, R651, R669). A grant of an acquire sets LOCK, at once or later. A control-engine thread's wait takes its time-out from the Pumphouse. -/
def lkAcquire (s : State) (t x : Nat) (try_ : Bool) : Trig :=
  let l := x % 8192
  let lim := s.opnd t 0x340 % 2 ^ 24
  let limit := if lim = 0 || (threadCe t).isSome then none else some (s.now + 1000 * lim)
  let (st, s) := s.acquire l (s.reqThread t) (unitsOf (s.opnd t 0x341)) (s.waitPrio t) try_ limit
  match st with
  | none => (s.putOp t uLk { wait := 1, arg := l, limit := limit }, 0)
  | some st =>
    let s := if !try_ && (st = stOk || st = stAbandoned) then s.setEvent t evLock else s
    (s.startOp t uLk (if st = stOk then s.lockResult l else []) st, 0)

/-- lk.t.rel. -/
def lkRelease (s : State) (t x : Nat) : Trig :=
  let l := x % 8192
  let (st, s) := s.release l (s.reqThread t) (unitsOf (s.opnd t 0x341))
  (s.startOp t uLk (if st = stOk then s.lockResult l else []) st, 0)

/-- lk.t.cancel: the queued acquire completes with LOST and the cancel with OK; with nothing queued, EMPTY (R387). -/
def lkCancel (s : State) (t : Nat) : Trig :=
  match s.queuedOn (s.reqThread t) with
  | none => (s.startOp t uLk [] stEmpty, 0)
  | some l =>
    let s := (s.leaveQueue l (s.reqThread t)).endLockWait l (s.reqThread t) stLost
    (s.startOp t uLk [] stOk, 0)

/-- lk.t.query (R676). -/
def lkQuery (s : State) (t x : Nat) : Trig :=
  let l := x % 8192
  if !s.lockRight l (s.reqThread t) then ((s.bump Reg.LKG_DENIED_CNT).startOp t uLk [] stDenied, 0)
  else (s.startOp t uLk [(0x342, BitVec.ofNat 32 (s.lockValue l))] stOk, 0)

/-- LOCK_WAIT_TIMEOUT: the wait limit of a queued acquire has passed (R670). -/
def lockWaitTimeout (s : State) (now r : Nat) : State :=
  let s := s.upTo now
  match s.queuedOn r with
  | none => s
  | some l =>
    match (s.lock l).waiters.find? fun w => w.req == r with
    | none => s
    | some w =>
      match w.limit with
      | none => s
      | some e =>
        if s.now < e then s
        else ((s.bump Reg.LKG_TIMEOUT_CNT).endLockWait l r stTimeout).leaveQueue l r |>.schedule

/-! ### Hosts (R686, R687) and the supervisor's commands -/

/-- The fields of a host request, as the host writes them. -/
def State.hostReq (s : State) (p lock op n prio tmo : Nat) : State :=
  s.setAll [(Reg.LKG_HREQ0_LOCK, 0, p, lock), (Reg.LKG_HREQ0_OP, 0, p, op), (Reg.LKG_HREQ0_N, 0, p, n),
            (Reg.LKG_HREQ1_PRIO, 0, p, prio), (Reg.LKG_HREQ1_TO, 0, p, tmo)]

/-- LKG_HREQ1.GO: the operation that the bank's registers name. While a request runs, GO answers BUSY, except CANCEL, which
ends it with LOST (R686). -/
def State.hostLockGo (s : State) (p : Nat) : State :=
  let l := s.fld Reg.LKG_HREQ0_LOCK 0 p
  let op := s.fld Reg.LKG_HREQ0_OP 0 p
  let n := unitsOf (s.fld Reg.LKG_HREQ0_N 0 p)
  let prio := s.fld Reg.LKG_HREQ1_PRIO 0 p
  let lim := s.fld Reg.LKG_HREQ1_TO 0 p
  let r := reqHost p
  let pending := s.on Reg.LKG_HRES_PENDING 0 p
  if op = 4 then
    match s.queuedOn r with
    | none => s.hostLockDone p stEmpty (s.hostValue l)
    | some m => ((s.leaveQueue m r).endLockWait m r stLost).hostLockDone p stOk (s.hostValue m)
  else if pending then s.setFld Reg.LKG_HRES_RESULT 0 p stBusy
  else
    match op with
    | 1 =>
      match s.acquire l r n prio false (if lim = 0 then none else some (s.now + 1000 * lim)) with
      | (none, s) => s.setFld Reg.LKG_HRES_PENDING 0 p 1
      | (some st, s) => s.hostLockDone p st (s.hostValue l)
    | 2 =>
      match s.acquire l r n prio true none with
      | (none, s) => s
      | (some st, s) => s.hostLockDone p st (s.hostValue l)
    | 3 =>
      let (st, s) := s.release l r n
      s.hostLockDone p st (s.hostValue l)
    | 5 =>
      if s.lockRight l r then s.hostLockDone p stOk (s.lockValue l)
      else (s.bump Reg.LKG_DENIED_CNT).hostLockDone p stDenied 0
    | _ => s.hostLockDone p stInvalid (s.hostValue l)

/-- A host request with its operation: the two registers are written, the second with GO. A running request keeps its
own lock, priority and limit. -/
def lkgHostRequest (s : State) (p op lock n prio tmo : Nat) : State :=
  if !s.pageOk p 7 then s
  else ((s.hostReq p lock op n prio tmo).hostLockGo p).schedule

/-- LKG_CMD FORCE and SETCOUNT by the supervisor (R682, R684). -/
def lkgForce (s : State) (p lock : Nat) : State :=
  if !s.pageOk p 7 || !s.isSup p then s
  else
    let (st, s) := (s.wr Reg.LKG_CMD_LOCK lock).forceLock lock
    (s.wr Reg.LKG_CMD_RES_RESULT st).schedule

def lkgSetcount (s : State) (p lock v : Nat) : State :=
  if !s.pageOk p 7 || !s.isSup p then s
  else
    let (st, s) := ((s.wr Reg.LKG_CMD_LOCK lock).wr Reg.LKG_CMD_VALUE v).setCount lock v
    (s.wr Reg.LKG_CMD_RES_RESULT st).schedule

/-- The privileged ports of Table 16.8 (R685). -/
def lkpForce (s : State) (c x : Nat) : Trig :=
  let t := 1536 + c
  if 8192 ≤ x then (s.startOp t uLkp [] stInvalid, 0)
  else
    let (st, s) := s.forceLock x
    (s.startOp t uLkp [] st, 0)

def lkpSetcount (s : State) (c x : Nat) : Trig :=
  let t := 1536 + c
  if 8192 ≤ x then (s.startOp t uLkp [] stInvalid, 0)
  else
    let (st, s) := s.setCount x (s.opnd t 0x660)
    (s.startOp t uLkp [] st, 0)

/-- R688: a partition reset cancels its pending request and abandons its mutexes. -/
def State.loseHostLocks (s : State) (p : Nat) : State :=
  (s.loseRequester (reqHost p)).setFld Reg.LKG_HRES_PENDING 0 p 0

end Sys2Proof.Machine
end

