-- ==== Sys2Proof/Machine/Channels.lean ====
section
/-! DEFINITION. Ring channels and spill queues: puts and gets, whole and open packets, aborts, watches, watermarks and
their actions (R439 to R477). -/

namespace Sys2Proof.Machine

/-! ### Channels and their settings -/

/-- The key of a spill queue; ring channel i of basin b is b × 1,024 + i. -/
def spillKey (q : Nat) : Nat := 12 * 1024 + 0x200 + q

/-- The key that ch.id names for a thread; none for a value outside Table 9.10. A control engine has no ring channels
(R444). -/
def chanKey (t id : Nat) : Option Nat :=
  if 0x200 ≤ id && id < 0x400 then some (12 * 1024 + id)
  else if id < 0x100 && t < 1536 then some (threadBasin t * 1024 + id)
  else none

/-- The channel is a spill queue. -/
def isSpill (k : Nat) : Bool := 12 * 1024 ≤ k

/-- A setting of a channel that the image fixes (Table 11.8). -/
def State.chanSet (s : State) (k f : Nat) : Nat := SMap.get s.img.chans (k * 16 + f) 0

def State.chCap (s : State) (k : Nat) : Nat := s.chanSet k 0
def State.chHigh (s : State) (k : Nat) : Nat := s.chanSet k 1
def State.chLow (s : State) (k : Nat) : Nat := s.chanSet k 2
def State.chKind (s : State) (k : Nat) : Nat := s.chanSet k 3
def State.chPin (s : State) (k : Nat) : Nat := s.chanSet k 4
def State.chPort (s : State) (k : Nat) : Nat := s.chanSet k 5
def State.chPri (s : State) (k : Nat) : Nat := s.chanSet k 6
def State.chNotify (s : State) (k : Nat) : Bool := s.chanSet k 7 != 0
def State.chPart (s : State) (k : Nat) : Nat := s.chanSet k 8

/-- Producer and consumer (R443, R449): those of Table 11.2, or as the image names them; 0x7FF none. -/
def State.chProd (s : State) (k : Nat) : Nat :=
  let q := k - spillKey 0
  if !isSpill k || 324 ≤ q then SMap.get s.img.chans (k * 16 + 9) 0x7FF
  else if 256 ≤ q && q < 260 then 0x7F1 else 0x7F0

def State.chCons (s : State) (k : Nat) : Nat :=
  let q := k - spillKey 0
  if !isSpill k || 324 ≤ q then SMap.get s.img.chans (k * 16 + 10) 0x7FF
  else if q < 256 then 0x7F3 else if q < 260 then 0x7F2 else 0x7F4

def State.chan_ (s : State) (k : Nat) : Chan := SMap.get s.chan k {}

def State.setChan (s : State) (k : Nat) (c : Chan) : State := { s with chan := SMap.put s.chan k c {} }

/-! ### The words of a channel -/

/-- A stored word with its side bits, END in bit 0 and ABORT in bit 1 (R442, R457). -/
def sideWord (v side : Nat) : ChWord := { w := BitVec.ofNat 64 v, end_ := bitOf side 0, abort := bitOf side 1 }

/-- The side bits of a word. -/
def ChWord.side (w : ChWord) : Nat := flagBit w.end_ + 2 * flagBit w.abort

/-- The word slot of a ring's pointer, and its address: RING_BASE is setting 11 of the channel (R439). -/
def State.ringSlot (s : State) (k p : Nat) : Nat := p % max 1 (s.chCap k)

def State.ringAddr (s : State) (k p : Nat) : Nat := k / 1024 * 2 ^ 19 + s.chanSet k 11 + 8 * s.ringSlot k p

/-- A ring's pointer moves on (R441). -/
def State.ringStep (s : State) (k p n : Nat) : Nat := (p + n) % (2 * max 1 (s.chCap k))

/-- Lines of the middle of a spill queue, and the address of a line: SPILL_BASE is setting 11 (R457). -/
def State.spillLines (s : State) (k : Nat) : Nat := (s.chCap k - 32 + 6) / 7

def State.lineAddr (s : State) (k n : Nat) : Nat := s.chanSet k 11 + 64 * (n % max 1 (s.spillLines k))

/-- The control word of a line: two side bits for each of its words, from bit 0 (R457). -/
def State.lineMarks (s : State) (k n : Nat) : Nat :=
  let a := s.lineAddr k n + 56
  if s.ipdLost a 8 then SMap.get (s.chan_ k).marks n 0 else leNat (s.ipdRead a 8)

/-- The seven words of a line, each with whether it is lost. -/
def State.lineWords (s : State) (k n : Nat) : List (ChWord × Bool) :=
  (List.range 7).map fun i =>
    let a := s.lineAddr k n + 8 * i
    (sideWord (leNat (s.ipdRead a 8)) (bits (s.lineMarks k n) (2 * i) 2), s.ipdLost a 8)

/-- The words of a channel, oldest first, each with whether it is lost; those after the last END are the open packet. -/
def State.chHeld (s : State) (k : Nat) : List (ChWord × Bool) :=
  let c := s.chan_ k
  let kept (l : List ChWord) : List (ChWord × Bool) := l.map fun w => (w, false)
  if isSpill k then
    kept c.head ++ ((List.range (c.last - c.first)).map fun i => s.lineWords k (c.first + i)).flatten ++ kept c.tail
  else
    kept ((List.range (s.ringStep k c.wp (2 * max 1 (s.chCap k) - c.rp))).map fun i =>
      sideWord (leNat (cellRead s.mem.shared (s.ringAddr k (c.rp + i)) 8)) (SMap.get c.side (s.ringSlot k (c.rp + i)) 0))

def State.chWords (s : State) (k : Nat) : List ChWord := (s.chHeld k).map Prod.fst

/-- Words held, the open packet included (R441). -/
def State.chFill (s : State) (k : Nat) : Nat :=
  let c := s.chan_ k
  if isSpill k then c.head.length + 7 * (c.last - c.first) + c.tail.length
  else s.ringStep k c.wp (2 * max 1 (s.chCap k) - c.rp)

/-- Whole packets waiting (R445). -/
def State.chWhole (s : State) (k : Nat) : Nat := ((s.chWords k).filter fun w => w.end_).length

/-- A get may take a word: on a ring, R differs from P (R441). -/
def State.chReady (s : State) (k : Nat) : Bool :=
  if isSpill k then s.chWhole k != 0 else (s.chan_ k).rp != (s.chan_ k).cp

/-- The words of the open packet. -/
def State.chOpen (s : State) (k : Nat) : List ChWord := ((s.chWords k).reverse.takeWhile fun w => !w.end_).reverse

/-- The length of the first whole packet, its end mark included. -/
def State.chFirst (s : State) (k : Nat) : Nat :=
  min (s.chFill k) (((s.chWords k).takeWhile fun w => !w.end_).length + 1)

/-- The next whole packet is aborted. -/
def State.headAborted (s : State) (k : Nat) : Bool :=
  match (s.chWords k).find? fun w => w.end_ with
  | none => false
  | some w => w.abort

/-- The service class of a spill queue's lines: that of R458, or the image's, setting 12. -/
def State.chClass (s : State) (k : Nat) : Nat :=
  match k - spillKey 0 with
  | 256 | 257 => clsRt
  | 258 => clsPkt
  | 259 => clsBulk
  | _ => s.chanSet k 12 % 4

/-! ### Watermark actions (Table 11.4) -/

/-- The channels in state ABOVE. -/
def State.above (s : State) : List Nat := (s.chan.filter fun e => e.2.above).map Prod.fst

/-- An FCO pin follows the channels that name it: asserted while one is ABOVE, and for at least MIN_HOLD (R467). -/
def State.fcoUpdate (s : State) (n : Nat) : State :=
  let want := s.above.any fun k => s.chKind k == 1 && s.chPin k == n
  let is := s.on Reg.BSN_FCO_STATE n 0
  if want && !is then
    let s := { s.setFld Reg.BSN_FCO_STATE n 0 1 with edg := { s.edg with fcoAt := SMap.put s.edg.fcoAt n s.now 0 } }
    (s.emit (.pin n (s.fcoLevel n true))).eventSup Reg.BSN_CH_INT_STATUS_FCO Reg.BSN_CH_INT_EN_FCO
  else if !want && is && SMap.get s.edg.fcoAt n 0 + 1000 * s.fld Reg.BSN_FCO_MIN_HOLD n 0 ≤ s.now then
    (s.setFld Reg.BSN_FCO_STATE n 0 0).emit (.pin n (s.fcoLevel n false))
  else s

/-- FCO_MIN_HOLD_EXPIRE (Sequence 11.1, step 4). -/
def fcoMinHoldExpire (s : State) (now n : Nat) : State :=
  let s := s.upTo now
  if s.imageRuns then s.fcoUpdate n else s

/-- The classes that the channels mapped to a port pause now; 256 for PAUSE. -/
def State.pauseUnion (s : State) (port : Nat) : Nat :=
  s.above.foldl (fun m k =>
    if s.chPort k = port then
      if s.chKind k = 2 then m ||| 256 else if s.chKind k = 3 then m ||| s.chPri k else m
    else m) 0

/-- The frame that announces a set of paused classes, with time 0 for the classes that stop being paused (R470, R473). It
goes out on the express MAC, the only MAC of a port without preemption (R474). -/
def State.sendPause (s : State) (port old new : Nat) : State :=
  let s := { s with edg := { s.edg with pauseOut := SMap.put s.edg.pauseOut port new 0
                                        pauseAt := SMap.put s.edg.pauseAt port s.now 0 } }
  if old = 256 || new = 256 then s.emit (.pause port true 256 [if new = 256 then 0xFFFF else 0])
  else
    s.emit (.pause port true (old ||| new) ((List.range 8).map fun n => if bitOf new n then 0xFFFF else 0))

/-- A port announces a channel that has become ABOVE (R470), and a change of its union at once (R472). -/
def State.pauseUpdate (s : State) (port : Nat) (rose : Bool) : State :=
  let old := SMap.get s.edg.pauseOut port 0
  let new := s.pauseUnion port
  if old = new && !rose then s else s.sendPause port old new

/-- 32,768 quanta of 512 bit times at the rate of a port, in ns (R472). -/
def State.pauseInterval (s : State) (port : Nat) : Nat := 32768 * 512000 / max 1 (s.fld Reg.SLU_PORT_SPEED port 0)

/-- PAUSE_REFRESH: the frame is repeated every 32,768 quanta while a mapped channel stays ABOVE (R472). -/
def pauseRefresh (s : State) (now port : Nat) : State :=
  let s := s.upTo now
  let m := s.pauseUnion port
  if m = 0 || s.now < SMap.get s.edg.pauseAt port 0 + s.pauseInterval port then s else s.sendPause port 0 m

/-- The notification of a watermark change to partition PART (R475): the queue's vector for a receive queue, vector 147 for
others. -/
def State.chNotifyNow (s : State) (k : Nat) : State :=
  if !s.chNotify k then s
  else
    let q := k - spillKey 0
    s.signalVec (s.chPart k) (if isSpill k && q < 256 then q % 64 else 147)

/-- The action and notification after a change of the watermark state. -/
def State.chAction (s : State) (k : Nat) : State :=
  let s := if s.chKind k = 1 then s.fcoUpdate (s.chPin k)
           else if s.chKind k = 2 || s.chKind k = 3 then s.pauseUpdate (s.chPort k) (s.chan_ k).above else s
  s.chNotifyNow k

/-! ### Watches (Table 11.3) -/

/-- The conditions of a channel that hold, as the four bits of a watch. -/
def State.chConds (s : State) (k : Nat) : Nat :=
  let c := s.chan_ k
  flagBit (s.chReady k) + 2 * flagBit (s.chFill k < s.chCap k) + 4 * flagBit c.above + 8 * flagBit (!c.above)

/-- The channel that a watch of a thread names. -/
def watchKey (t id : Nat) : Nat := (chanKey t id).getD 0

/-- CHANNEL is set in a thread; a control-engine thread's watch posts it to the descriptor (R460, Table 15.4). -/
def State.watchThread (s : State) (t : Nat) : State :=
  match threadCe t with
  | none => s.setEvent t evChannel
  | some c => s.postHeld (s.ceDesc c) 2

/-- Conditions of a channel have become true: the threads that watch one are told (R460). -/
def State.tellWatchers (s : State) (k became : Nat) : State :=
  if became = 0 then s
  else
    let hit (t : Nat) (th : Thr) : Bool := th.watches.any fun w => watchKey t w.1 == k && w.2 &&& became ≠ 0
    let ts := (s.thr.filter fun e => hit e.1 e.2).map Prod.fst
    let ds := (s.pmp.descs.filter fun e => hit 1536 e.2.saved).map Prod.fst
    let s := ts.foldl (fun s t => s.watchThread t) s
    ds.foldl (fun s d => s.postHeld d 2) s

/-- What follows every put and get: the watermark test (R465), then the watches whose conditions became true. -/
def State.chAfter (s : State) (k before : Nat) : State :=
  let c := s.chan_ k
  let high := s.chHigh k
  let s :=
    if high ≠ 0 && !c.above && high ≤ s.chFill k then (s.setChan k { c with above := true }).chAction k
    else if c.above && s.chFill k ≤ s.chLow k then (s.setChan k { c with above := false }).chAction k
    else s
  s.tellWatchers k (s.chConds k &&& (15 - before))

/-! ### Side bits, and lines that are lost (R442, R451, R459) -/

/-- The control word of a line is written anew where its side bits have changed. -/
def State.markLine (s : State) (k n : Nat) (ws : List ChWord) : State :=
  let ctl := ((ws.map ChWord.side).zipIdx.map fun e => e.1 * 4 ^ e.2).sum
  if ctl = s.lineMarks k n then s
  else
    let a := s.lineAddr k n + 56
    let s := (s.ipdWrite a (leBytes 8 ctl)).ipdReq a true (s.chClass k)
    s.setChan k { s.chan_ k with marks := SMap.set (s.chan_ k).marks n ctl }

/-- The words of a channel take the side bits of a list, the words themselves staying. -/
def State.putSides (s : State) (k : Nat) (ws : List ChWord) : State :=
  let c := s.chan_ k
  if isSpill k then
    let h := c.head.length
    let n := c.last - c.first
    let s := (List.range n).foldl (fun s i => s.markLine k (c.first + i) ((ws.drop (h + 7 * i)).take 7)) s
    s.setChan k { s.chan_ k with head := ws.take h, tail := ws.drop (h + 7 * n) }
  else
    s.setChan k { c with
      side := ws.zipIdx.foldl (fun m e => SMap.put m (s.ringSlot k (c.rp + e.2)) e.1.side 0) c.side }

/-- Marks the packets that have a lost word: their end mark gets ABORT, an open packet an end mark too. The list holds each
word with whether it is lost. -/
def markLost : List (ChWord × Bool) → Bool → List ChWord
  | [], _ => []
  | [(w, l)], bad => if bad || l then [{ w with end_ := true, abort := true }] else [w]
  | (w, l) :: rest, bad =>
    let bad := bad || l
    (if w.end_ then { w with abort := w.abort || bad } else w) :: markLost rest (bad && !w.end_)

/-- Packets of a list of words that are aborted. -/
def abortedOf (ws : List ChWord) : Nat := (ws.filter fun w => w.abort).length

/-- A spill queue's packets with a lost word become aborted, as R451 gives, and are counted (R459). -/
def State.loseLines (s : State) (k : Nat) : State :=
  let ws := markLost (s.chHeld k) false
  let n := abortedOf ws - abortedOf (s.chWords k)
  if n = 0 then s
  else
    let s := ((s.putSides k ws).bumpFld Reg.BSN_CH_ABORT_CNT 0 0 n).bumpFld Reg.BSN_CH_LOST_CNT 0 0 n
    let s := s.eventSup Reg.BSN_CH_INT_STATUS_ABORT Reg.BSN_CH_INT_EN_ABORT
    s.eventSup Reg.BSN_CH_INT_STATUS_LOST Reg.BSN_CH_INT_EN_LOST

/-! ### The tail, the middle and the head of a spill queue (R456 to R458; when a line moves: DESIGN CHOICE, log entry 191) -/

/-- While the middle is empty and the head has room, words pass from the tail straight to the head. -/
def State.spillPass (s : State) (k : Nat) : State :=
  let c := s.chan_ k
  let room := 16 - c.head.length
  if c.first < c.last then s
  else s.setChan k { c with head := c.head ++ c.tail.take room, tail := c.tail.drop room }

/-- A line of the middle is read into the head, where the head has room for its seven words. -/
def State.spillLoad (s : State) (k : Nat) : State :=
  let c := s.chan_ k
  if c.last ≤ c.first || 9 < c.head.length then s
  else
    let s := s.loseLines k
    let ws := (s.lineWords k c.first).map Prod.fst
    let s := s.ipdReq (s.lineAddr k c.first) false (s.chClass k)
    let c := s.chan_ k
    s.setChan k { c with head := c.head ++ ws, first := c.first + 1, marks := SMap.erase c.marks c.first }

/-- Seven words of a full tail are written to the next line of the middle, where one is free. -/
def State.spillStore (s : State) (k : Nat) : State :=
  let c := s.chan_ k
  if c.tail.length ≤ 16 || s.spillLines k ≤ c.last - c.first then s
  else
    let ws := c.tail.take 7
    let ctl := ((ws.map ChWord.side).zipIdx.map fun e => e.1 * 4 ^ e.2).sum
    let a := s.lineAddr k c.last
    let s := s.ipdWrite a ((ws.map fun w => leBytes 8 w.w.toNat).flatten ++ leBytes 8 ctl)
    let s := s.ipdReq a true (s.chClass k)
    let s := s.setChan k { c with tail := c.tail.drop 7, last := c.last + 1, marks := SMap.set c.marks c.last ctl }
    if s.offlineAt a then s.loseLines k else s

/-- What follows every change of a spill queue's head or tail. -/
def State.spillSettle (s : State) (k : Nat) : State := (((s.spillPass k).spillLoad k).spillStore k).spillPass k

/-- The first n words of a spill queue leave it. -/
def State.spillDrop (s : State) (k : Nat) : Nat → State
  | 0 => s
  | n + 1 =>
    let c := s.chan_ k
    ((s.setChan k { c with head := c.head.drop 1 }).spillSettle k).spillDrop k n

/-- A spill queue keeps the first n words of its head, and no other. -/
def State.spillKeep (s : State) (k n : Nat) : State :=
  let c := s.chan_ k
  s.setChan k { c with head := c.head.take n, tail := [], first := c.last, marks := [] }

/-! ### Puts and gets (R441, R445, R446) -/

/-- A word is written behind the others: into the tail, or into slot W of a ring, whose P follows an end mark. -/
def State.chPush (s : State) (k : Nat) (w : W64) (end_ : Bool) : State :=
  let c := s.chan_ k
  if isSpill k then (s.setChan k { c with tail := c.tail ++ [{ w := w, end_ := end_ }] }).spillSettle k
  else
    let a := s.ringAddr k c.wp
    let wp := s.ringStep k c.wp 1
    let side := SMap.put c.side (s.ringSlot k c.wp) (flagBit end_) 0
    { s with mem := { s.mem with
        shared := cellWrite s.mem.shared a (leBytes 8 w.toNat)
        sharedBad := s.mem.sharedBad.filter fun x => !(a ≤ x && x < a + 8) } }.setChan k
      { c with side := side, wp := wp, cp := if end_ then wp else c.cp }

/-- A word is appended. -/
def State.chAppend (s : State) (k : Nat) (w : W64) (end_ : Bool) : State :=
  let before := s.chConds k
  (s.chPush k w end_).chAfter k before

/-- A whole packet of words is appended, the last with the end mark. -/
def State.chAppendPacket (s : State) (k : Nat) : List W64 → State
  | [] => s
  | [w] => s.chAppend k w true
  | w :: ws => (s.chAppend k w false).chAppendPacket k ws

/-- The first n words leave a channel. -/
def State.chDrop (s : State) (k n : Nat) : State :=
  let before := s.chConds k
  let c := s.chan_ k
  (if isSpill k then s.spillDrop k n else s.setChan k { c with rp := s.ringStep k c.rp n }).chAfter k before

/-- The ports of a get that took a word: ch.r, ch.rh, ch.em. -/
def ChWord.ports (w : ChWord) : List (Nat × W32) :=
  [(0x303, BitVec.ofNat 32 w.w.toNat), (0x304, BitVec.ofNat 32 (w.w.toNat / 2 ^ 32)),
   (0x305, BitVec.ofNat 32 (flagBit w.end_))]

/-- The consumer has, or no longer has, taken part of a packet of the channel (R453). -/
def setPart (th : Thr) (k : Nat) (on : Bool) : Thr :=
  { th with partGet := if on then (if th.partGet.contains k then th.partGet else k :: th.partGet)
                       else th.partGet.filter (· != k) }

/-- The control-plane queue that a channel is, as its spill queue number. -/
def cpQueue (k : Nat) : Option Nat :=
  if isSpill k && 260 ≤ k - spillKey 0 && k - spillKey 0 < 324 then some (k - spillKey 0) else none

/-- The copy whose packet is discarded from a control-plane queue ends: dried with MEM_LOST where the packet was aborted,
and else as one that has left. -/
def State.dropEntryCopy (s : State) (k : Nat) (aborted : Bool) : State :=
  match cpQueue k with
  | none => s
  | some q =>
    match s.popCopy q with
    | (none, s) => s
    | (some c, s) => if aborted then s.dryCopy c dryMemLost else s.copyEnds c 0

/-- A get that finds a whole packet: its next word, or LOST with the packet discarded where it is aborted (R452, R385). A
get of a control-plane queue's first word needs two entries of the control-plane reference table, and its last word
brings the references of the entry to descriptor `desc` (R707). -/
def State.chTake (s : State) (k desc : Nat) (begun : Bool) : (Nat × ChWord) × State :=
  if s.headAborted k then ((stLost, {}), (s.chDrop k (s.chFirst k)).dropEntryCopy k true)
  else if !begun && (cpQueue k).isSome && !s.cpRoom 2 then ((stOverflow, {}), s)
  else
    let w := (s.chWords k).headD {}
    let s := s.chDrop k 1
    match cpQueue k with
    | some q => ((stOk, w), if w.end_ then s.takeEntry q desc else s)
    | none => ((stOk, w), s)

/-- A thread's operation that waits on the channel with the given kind of wait. -/
def waitsFor (th : Thr) (k kind : Nat) : Bool :=
  match SMap.find th.ops uCh with
  | none => false
  | some o => o.wait == kind && o.arg == k

/-- A thread's get completes with what `chTake` gave, logged by R878. -/
def State.endGet (s : State) (t k st : Nat) (w : ChWord) : State :=
  let s := s.updThread t fun th => setPart th k (st = stOk && !w.end_)
  let s := s.endWait t uCh (if st = stOk then w.ports else []) st
  if t < 1536 then s.logDecision t 2 st (k % 1024) (if st = stOk then w.w.toNat else 0) else s

/-- A waiting get is served once a whole packet stands (R383, R446), and a waiting put once there is room; the number
bounds the rounds. -/
def State.chServe : State → Nat → Nat → State
  | s, 0, _ => s
  | s, n + 1, k =>
    let getter := if !s.chReady k then none else (s.thr.find? fun e => waitsFor e.2 k 2).map Prod.fst
    let dgetter := if !s.chReady k then none
                   else (s.pmp.descs.find? fun e => e.2.wait == 3 && waitsFor e.2.saved k 2).map Prod.fst
    let putter := if s.chCap k ≤ s.chFill k then none else (s.thr.find? fun e => waitsFor e.2 k 3).map Prod.fst
    match getter, dgetter, putter with
    | some t, _, _ =>
      let ((st, w), s) := s.chTake k (s.ceDesc (t - 1536)) ((s.thread t).partGet.contains k)
      (s.endGet t k st w).chServe n k
    | none, some d, _ =>
      let ((st, w), s) := s.chTake k d ((s.desc d).saved.partGet.contains k)
      let s := s.setDesc d { s.desc d with saved := setPart (s.desc d).saved k (st = stOk && !w.end_) }
      (s.endDescWait d uCh (if st = stOk then w.ports else []) st).chServe n k
    | none, none, some t =>
      match SMap.find (s.thread t).ops uCh with
      | none => s
      | some o => ((s.chAppend k (BitVec.ofNat 64 o.arg2) o.flag).endWait t uCh [] stOk).chServe n k
    | none, none, none => s

/-- Every thread and descriptor that waits on the channel and can be served is served. -/
def State.chServeAll (s : State) (k : Nat) : State := s.chServe (s.thr.length + s.pmp.descs.length) k

/-! ### The engine ports (Table 9.10) -/

/-- The thread is the producer, or the consumer, that a setting names; 0x7F4 is the control plane. -/
def isParty (t p : Nat) : Bool := p == t || (p == 0x7F4 && 1536 ≤ t)

/-- ch.t.put and ch.t.putl (R382 to R384, R448). -/
def chPut (s : State) (t x : Nat) (end_ : Bool) : Trig :=
  match chanKey t (s.opnd t 0x300) with
  | none => (s.startOp t uCh [] stInvalid, 0)
  | some k =>
    let word := s.opnd t 0x301 * 2 ^ 32 + x % 2 ^ 32
    let lim := s.opnd t 0x302 % 2 ^ 24
    if !isParty t (s.chProd k) then (s.startOp t uCh [] stDenied, 0)
    else if !end_ && s.chCap k ≤ (s.chOpen k).length + 1 then (s.startOp t uCh [] stOverflow, 0)
    else if s.chCap k ≤ s.chFill k then
      if isSpill k then (s.startOp t uCh [] stOverflow, 0)
      else
        (s.putOp t uCh { wait := 3, arg := k, arg2 := word, flag := end_
                         limit := if lim = 0 then none else some (s.now + 1000 * lim) }, 0)
    else (((s.chAppend k (BitVec.ofNat 64 word) end_).startOp t uCh [] stOk).chServeAll k, 0)

/-- ch.t.get (R383, R446). A control-engine thread waits as Table 15.5 gives. -/
def chGet (s : State) (t : Nat) : Trig :=
  match chanKey t (s.opnd t 0x300) with
  | none => (s.startOp t uCh [] stInvalid, 0)
  | some k =>
    let lim := s.opnd t 0x302 % 2 ^ 24
    if !isParty t (s.chCons k) then (s.startOp t uCh [] stDenied, 0)
    else if !s.chReady k then
      (s.putOp t uCh { wait := 2, arg := k
                       limit := if lim = 0 || 1536 ≤ t then none else some (s.now + 1000 * lim) }, 0)
    else
      let ((st, w), s) := s.chTake k (s.ceDesc (t - 1536)) ((s.thread t).partGet.contains k)
      ((s.endGet t k st w).chServeAll k, 0)

/-- ch.t.count (R445). -/
def chCount (s : State) (t : Nat) : Trig :=
  match chanKey t (s.opnd t 0x300) with
  | none => (s.startOp t uCh [] stInvalid, 0)
  | some k => (s.startOp t uCh [(0x303, BitVec.ofNat 32 (s.chWhole k))] stOk, 0)

/-- ch.t.watch (R460 to R462). -/
def chWatch (s : State) (t x : Nat) : Trig :=
  let id := x % 1024
  let cond := bits x 12 4
  match chanKey t id with
  | none => (s.startOp t uCh [] stInvalid, 0)
  | some k =>
    let others := (s.thread t).watches.filter fun w => w.1 != id
    if cond = 0 then (s.startOp t uCh [] stInvalid, 0)
    else if !(isParty t (s.chProd k) || isParty t (s.chCons k)) then (s.startOp t uCh [] stDenied, 0)
    else if 4 ≤ others.length then (s.startOp t uCh [] stOverflow, 0)
    else
      let s := s.updThread t fun th => { th with watches := others ++ [(id, cond)] }
      let s := s.startOp t uCh [] stOk
      (if s.chConds k &&& cond ≠ 0 then s.watchThread t else s, 0)

/-- ch.t.unwatch (R463). -/
def chUnwatch (s : State) (t x : Nat) : Trig :=
  ((s.updThread t fun th => { th with watches := th.watches.filter fun w => w.1 != x % 1024 }).startOp t uCh [] stOk, 0)

/-- CH_WAIT_TIMEOUT: the wait has reached ch.to and completes with TIMEOUT (R383). -/
def chWaitTimeout (s : State) (now t : Nat) : State :=
  let s := s.upTo now
  match SMap.find (s.thread t).ops uCh with
  | none => s
  | some o =>
    match o.limit with
    | none => s
    | some e =>
      if s.now < e || o.wait = 0 then s
      else (s.endWait t uCh [] stTimeout).bump Reg.BSN_CH_TIMEOUT_CNT

/-! ### Aborts and discards (R451, R453, R455, R459) -/

/-- The open packet of a channel gets END and ABORT on its last word, and P follows it (R451). -/
def State.chAbort (s : State) (k : Nat) : State :=
  match (s.chWords k).reverse with
  | [] => s
  | w :: ws =>
    if w.end_ then s
    else
      let before := s.chConds k
      let s := s.putSides k (({ w with end_ := true, abort := true } : ChWord) :: ws).reverse
      let s := s.setChan k { s.chan_ k with cp := (s.chan_ k).wp }
      let s := (s.bump Reg.BSN_CH_ABORT_CNT).eventSup Reg.BSN_CH_INT_STATUS_ABORT Reg.BSN_CH_INT_EN_ABORT
      (s.chAfter k before).chServeAll k

/-- The rest of a packet that the lost consumer had begun is discarded (R453). -/
def State.chDiscard (s : State) (k : Nat) : State :=
  let s := (s.chDrop k (s.chFirst k)).dropEntryCopy k (s.headAborted k)
  ((s.bump Reg.BSN_CH_DISCARD_CNT).eventSup Reg.BSN_CH_INT_STATUS_DISCARD Reg.BSN_CH_INT_EN_DISCARD).chServeAll k

/-- A thread that is lost no longer waits on a channel. -/
def State.leaveWaits (s : State) (t : Nat) : State := s.updThread t fun th => { th with ops := SMap.erase th.ops uCh }

/-- A thread is lost to its channels: open packets it produces are aborted, packets it has begun to take are discarded, its
wait and its watches go (R261, R451, R453, R463). -/
def State.loseChannels (s : State) (t : Nat) : State :=
  let part := (s.thread t).partGet
  let s := (s.leaveWaits t).updThread t fun th => { th with watches := [], partGet := [] }
  let mine := (s.chan.filter fun e => s.chProd e.1 == t).map Prod.fst
  let s := mine.foldl (fun s k => s.chAbort k) s
  part.foldl (fun s k => s.chDiscard k) s

/-- A basin's ring channels are cleared when it is powered down (R455). -/
def State.clearRings (s : State) (b : Nat) : State :=
  let mine := s.chan.filter fun e => e.1 / 1024 == b
  let n := mine.foldl (fun n e => n + s.chFill e.1) 0
  let pins := (mine.filter fun e => e.2.above).map Prod.fst
  let s := { s with chan := s.chan.filter fun e => e.1 / 1024 != b }
  let s := pins.foldl (fun s k => s.chAction k) s
  if n = 0 then s
  else (s.bumpFld Reg.BSN_CH_DISCARD_CNT 0 0 n).eventSup Reg.BSN_CH_INT_STATUS_DISCARD Reg.BSN_CH_INT_EN_DISCARD

/-- A range has gone offline: a spill queue's packets in it are aborted, and who watches or waits is told (R459, R460). -/
def State.loseSpill (s : State) (k : Nat) : State :=
  let before := s.chConds k
  ((s.loseLines k).chAfter k before).chServeAll k

def State.loseSpills (s : State) : State :=
  ((s.chan.filter fun e => isSpill e.1).map Prod.fst).foldl (fun s k => s.loseSpill k) s

/-- BSN_CH_STAT0_READ: the read takes one snapshot of the channel that BSN_CH_SEL names (R476). -/
def bsnChStat0Read (s : State) (part : Nat) : State :=
  if !s.pageReads part 9 then s
  else
    let id := s.rd Reg.BSN_CH_SEL_INDEX
    let k := if 0x200 ≤ id then 12 * 1024 + id else s.rd Reg.BSN_CH_SEL_BASIN * 1024 + id
    let fill := s.chFill k
    let above := flagBit (s.chan_ k).above
    let open_ := flagBit (!(s.chOpen k).isEmpty)
    let aborted := flagBit (s.headAborted k)
    let s := s.setAll [(Reg.BSN_CH_STAT0_FILL, 0, 0, fill), (Reg.BSN_CH_STAT0_ABOVE, 0, 0, above),
      (Reg.BSN_CH_STAT0_OPEN, 0, 0, open_), (Reg.BSN_CH_STAT0_HEAD_ABORTED, 0, 0, aborted),
      (Reg.BSN_CH_STAT1_PKTS, 0, 0, s.chWhole k)]
    s.emit (.reg part (fill + 2 ^ 24 * above + 2 ^ 25 * open_ + 2 ^ 26 * aborted))

end Sys2Proof.Machine
end

