-- ==== Sys2Proof/Machine/Hash.lean ====
section
/-! DEFINITION. The hash of R141, used by Runnel-1 and by the exact-match tables (R208). -/

namespace Sys2Proof.Machine

/-- The loop and final step of R141, started from a seed. -/
def mixHash (seed : W32) (words : List W32) : W32 :=
  let h := words.foldl (fun h w => (h ^^^ w).rotateLeft 13 + 0x6B43A9B5) seed
  h ^^^ (h >>> 16)

end Sys2Proof.Machine
end

