-- ==== Sys2Proof/Machine/Tables.lean ====
section
/-! DEFINITION. The exact-match tables: candidate buckets, placement, eviction, the layer-2 table with its learner, the
flow table with its contexts, the endpoint registry, ageing, and the commands of engines and hosts (R202 to R243, R379 to
R381). -/

namespace Sys2Proof.Machine

/-! ### The shared design (R202 to R208, R219, R220) -/

/-- Buckets of a table: 0 layer-2, 1 flow, 2 registry; overflow entries stand from 4 × buckets on. -/
def tblBuckets (k : Nat) : Nat := if k = 1 then 262144 else 32768

def tblOver (k : Nat) : Nat := 4 * tblBuckets k

def tblOverCount (k : Nat) : Nat := if k = 0 then 2048 else if k = 1 then 16384 else 1024

/-- Hash h_a of a key's words in a table. -/
def State.tblHash (s : State) (k : Nat) (ws : List W32) : W32 := mixHash (BitVec.ofNat 32 (s.fld Reg.TBL_SEED_A_SEED k 0)) ws

/-- The two candidate buckets (R208). -/
def State.buckets (s : State) (k : Nat) (ws : List W32) : Nat × Nat :=
  let n := tblBuckets k
  let b1 := (s.tblHash k ws).toNat % n
  let b2 := (mixHash (BitVec.ofNat 32 (s.fld Reg.TBL_SEED_B_SEED k 0)) ws).toNat % n
  (b1, if b2 = b1 then b1 ^^^ 1 else b2)

/-- The slots of the two candidate buckets, in the order of a lookup (R203). -/
def candidates (b : Nat × Nat) : List Nat :=
  (List.range 4).map (fun w => 4 * b.1 + w) ++ (List.range 4).map fun w => 4 * b.2 + w

/-- The lowest number from n on that a rising list does not hold. -/
def lowestFree : List Nat → Nat → Nat
  | [], n => n
  | k :: ks, n => if k < n then lowestFree ks n else if k = n then lowestFree ks (n + 1) else n

/-- The slot that holds what a lookup looks for (R203): first bucket, second bucket, overflow. -/
def tblFind {α : Type} (m : SMap α) (k : Nat) (b : Nat × Nat) (p : α → Bool) : Option Nat :=
  let hit (i : Nat) : Bool := match SMap.find m i with
    | some e => p e
    | none => false
  match (candidates b).find? hit with
  | some i => some i
  | none => (m.find? fun e => tblOver k ≤ e.1 && p e.2).map Prod.fst

/-- The free way of a bucket that an insert takes, and how many ways of it are valid. -/
def bucketRoom {α : Type} (m : SMap α) (b : Nat) : Option Nat × Nat :=
  let used := (List.range 4).filter fun w => (SMap.find m (4 * b + w)).isSome
  (((List.range 4).find? fun w => !used.contains w).map fun w => 4 * b + w, used.length)

/-- Where an insert goes (R206): the emptier candidate bucket, the first on a tie, or the lowest free overflow entry. -/
def tblPlace {α : Type} (m : SMap α) (k : Nat) (b : Nat × Nat) : Option Nat :=
  let r1 := bucketRoom m b.1
  let r2 := bucketRoom m b.2
  let pick := if r1.2 ≤ r2.2 then r1.1 else r2.1
  match pick with
  | some i => some i
  | none =>
    let i := lowestFree (SMap.keys m) (tblOver k)
    if i < tblOver k + tblOverCount k then some i else none

/-- The step of R219's shift register. -/
def lfsrStep (v : Nat) : Nat :=
  let bit := (bits v 15 1 + bits v 13 1 + bits v 12 1 + bits v 10 1) % 2
  (2 * v + bit) % 65536

/-- The first candidate with the largest AGE. -/
def oldestOf : List (Nat × Nat) → Option (Nat × Nat)
  | [] => none
  | e :: es =>
    match oldestOf es with
    | none => some e
    | some o => if e.2 < o.2 then some o else some e

/-- R219: the victim among the candidates, each a slot with its AGE; `g` numbers the shift register. -/
def State.victim (s : State) (policy g : Nat) (cands : List (Nat × Nat)) : Option Nat × State :=
  if cands.isEmpty then (none, s)
  else if policy = 2 then ((oldestOf cands).map Prod.fst, s)
  else if policy = 1 then
    let v := lfsrStep (SMap.get s.tbl.lfsr g 0xACE1)
    (cands[v % cands.length]?.map Prod.fst, { s with tbl := { s.tbl with lfsr := SMap.put s.tbl.lfsr g v 0xACE1 } })
  else (none, s)

/-! ### The layer-2 table -/

/-- The hash words of a layer-2 key (Table 6.2). -/
def l2Words (fid mac : Nat) : List W32 :=
  [BitVec.ofNat 32 (fid % 4096 * 65536 + mac / 2 ^ 32 % 65536), BitVec.ofNat 32 mac]

def L2Ent.isKey (e : L2Ent) (fid mac : Nat) : Bool := e.fid == fid % 4096 && e.mac == mac % 2 ^ 48

/-- The slot of a layer-2 key. -/
def State.l2Slot (s : State) (fid mac : Nat) : Option Nat :=
  tblFind s.tbl.l2 0 (s.buckets 0 (l2Words fid mac)) fun e => e.isKey fid mac

def State.setL2 (s : State) (i : Nat) (e : L2Ent) : State := { s with tbl := { s.tbl with l2 := SMap.set s.tbl.l2 i e } }

/-- A destination lookup: AGE of a static entry becomes 0 (R214). -/
def State.l2Lookup (s : State) (fid mac : Nat) : Option L2Ent × State :=
  match s.l2Slot fid mac with
  | none => (none, s)
  | some i =>
    let e := SMap.get s.tbl.l2 i {}
    (some e, if e.static_ then s.setL2 i { e with age := 0 } else s)

/-- Dynamic entries on a port (TBL_PORT_USED). -/
def State.portUsed (s : State) (port : Nat) : Nat :=
  (s.tbl.l2.filter fun e => !e.2.static_ && e.2.port == port).length

/-- The dynamic entries of a key's candidate buckets with their AGE (R219). -/
def State.l2Cands (s : State) (b : Nat × Nat) : List (Nat × Nat) :=
  (candidates b).filterMap fun i =>
    match SMap.find s.tbl.l2 i with
    | some e => if e.static_ then none else some (i, e.age)
    | none => none

/-- An insert of an absent key: its slot, with a victim's slot where there is no room. -/
def State.l2Room (s : State) (fid mac : Nat) : Option Nat × State :=
  let b := s.buckets 0 (l2Words fid mac)
  match tblPlace s.tbl.l2 0 b with
  | some i => (some i, s)
  | none =>
    match s.victim (s.rd Reg.TBL_L2_CFG_POLICY) 0 (s.l2Cands b) with
    | (some i, s) => (some i, s.bump Reg.TBL_EVICT_L2)
    | (none, s) => (none, s)

/-- A request enters the learner queue (R210, R211, R229). -/
def State.learnAsk (s : State) (r : LearnReq) : State :=
  if 1024 ≤ s.tbl.queue.length then s.bump Reg.TBL_LEARN_DROP
  else { s with tbl := { s.tbl with queue := s.tbl.queue ++ [r] } }

/-- One learn request (Table 6.5). -/
def State.learn (s : State) (fid mac port : Nat) : State :=
  let below := s.portUsed port < s.fld Reg.TBL_PORT_LEARN_LIMIT port 0
  if bitOf mac 40 || mac % 2 ^ 48 = 0 then s.bump Reg.TBL_LEARN_BAD
  else
    match s.l2Slot fid mac with
    | some i =>
      let e := SMap.get s.tbl.l2 i {}
      if e.port = port then s.setL2 i { e with age := 0 }
      else if e.static_ then s.bump Reg.TBL_MOVE_DENY
      else if below then (s.setL2 i { e with port := port, age := 0 }).bump Reg.TBL_MOVE_CNT
      else s.bump Reg.TBL_LEARN_LIMIT
    | none =>
      if !below then s.bump Reg.TBL_LEARN_LIMIT
      else
        match s.l2Room fid mac with
        | (some i, s) =>
          (s.setL2 i { mac := mac % 2 ^ 48, fid := fid % 4096, port := port, owner := 4 }).bump Reg.TBL_LEARN_CNT
        | (none, s) => (s.bump Reg.TBL_LEARN_FAIL).eventSup Reg.TBL_INT_STATUS_LEARN_FAIL Reg.TBL_INT_EN_LEARN_FAIL

/-- LEARN_PROCESS: the learner takes the request at the head of its queue (R212). -/
def learnProcess (s : State) : State :=
  match s.tbl.queue with
  | .learn fid mac port :: rest => { s with tbl := { s.tbl with queue := rest } }.learn fid mac port
  | _ => s

/-- Dynamic entries go, by port and by FID where they are named (R215, R239). -/
def State.flushL2 (s : State) (port fid : Option Nat) : State :=
  let goes (e : L2Ent) : Bool :=
    !e.static_ && (match port with | some p => e.port == p | none => true) &&
      match fid with | some f => e.fid == f | none => true
  { s with tbl := { s.tbl with l2 := s.tbl.l2.filter fun e => !goes e.2 } }

/-! ### The flow table -/

/-- The hash words of a flow key (Table 6.2). -/
def flowWords (space keyLen : Nat) (key : List Byte) : List W32 :=
  BitVec.ofNat 32 (0xF000 + space * 256 + keyLen) ::
    (List.range ((keyLen + 3) / 4)).map fun n => BitVec.ofNat 32 (beNat (takeBytes 4 (((key.take keyLen).drop (4 * n)).take 4)))

/-- The 64 bits of an entry (Table 6.6), and back. -/
def FlowEnt.word (e : FlowEnt) : Nat :=
  e.ctx % 2 ^ 20 + e.space % 16 * 2 ^ 20 + 2 ^ 24 + flagBit e.pin * 2 ^ 25 + e.age % 8 * 2 ^ 26 + e.tag % 2 ^ 16 * 2 ^ 32 +
    e.gen % 2 ^ 16 * 2 ^ 48

def flowOfWord (w : Nat) : Option FlowEnt :=
  if bitOf w 24 then
    some { ctx := bits w 0 20, space := bits w 20 4, pin := bitOf w 25, age := bits w 26 3, tag := bits w 32 16
           gen := bits w 48 16 }
  else none

/-- The IPD address of a bucket entry, and of a context. -/
def State.flowAddr (s : State) (i : Nat) : Nat := s.flowBase + 16 * i

def State.ctxAddr (s : State) (n : Nat) : Nat := s.ctxBase + 128 * n

/-- A bucket line, or a context, is lost (R227). -/
def State.bucketLost (s : State) (b : Nat) : Bool := s.ipdLost (s.flowAddr (4 * b)) 64

def State.ctxLost (s : State) (n : Nat) : Bool := s.ipdLost (s.ctxAddr n) 128

/-- Entry i of the flow table: bucket × 4 + way, or an overflow entry. -/
def State.flowAt (s : State) (i : Nat) : Option FlowEnt :=
  if tblOver 1 ≤ i then SMap.find s.tbl.flowOver i
  else if s.bucketLost (i / 4) then none
  else flowOfWord (leNat (s.ipdRead (s.flowAddr i) 8))

/-- Writes an entry, or removes it. -/
def State.setFlow (s : State) (i : Nat) (e : Option FlowEnt) : State :=
  if tblOver 1 ≤ i then
    { s with tbl := { s.tbl with flowOver :=
      match e with
      | none => SMap.erase s.tbl.flowOver i
      | some e => SMap.set s.tbl.flowOver i e } }
  else
    let w := match e with
      | none => 0
      | some e => e.word
    (s.ipdWrite (s.flowAddr i) (leBytes 16 w)).ipdReq (s.flowAddr i) true clsTbl

/-- The indexes of the valid bucket entries, from the bytes that hold VALID. -/
def State.flowListed (s : State) : List Nat :=
  s.mem.ipd.filterMap fun c =>
    if s.flowBase ≤ c.1 && c.1 < s.flowBase + 16 * tblOver 1 && (c.1 - s.flowBase) % 16 == 3 && bitOf c.2.toNat 0 then
      some ((c.1 - s.flowBase) / 16)
    else none

/-- Every valid entry with its index. -/
def State.flowEntries (s : State) : List (Nat × FlowEnt) :=
  (s.flowListed.filterMap fun i => (s.flowAt i).map fun e => (i, e)) ++ s.tbl.flowOver

/-- Contexts in use by a space (TBL_SPACE USED). -/
def State.spaceUsed (s : State) (sp : Nat) : Nat := (s.flowEntries.filter fun e => e.2.space == sp).length

/-- The words of a context (Table 6.7). -/
def State.ctxWord (s : State) (n w : Nat) : Nat := leNat (s.ipdRead (s.ctxAddr n + 4 * w) 4)

def State.setCtxWord (s : State) (n w v : Nat) : State :=
  (s.ipdWrite (s.ctxAddr n + 4 * w) (leBytes 4 v)).ipdReq (s.ctxAddr n + 4 * w) true clsTbl

def State.ctxGen (s : State) (n : Nat) : Nat := bits (s.ctxWord n 12) 0 16

/-- Key length of a space. -/
def State.keyLen (s : State) (sp : Nat) : Nat := min (s.fld Reg.TBL_SPACE_KEY_LEN sp 0) 48

/-- The key that a lookup compares: KEY_LEN bytes, zero beyond. -/
def State.flowKey (s : State) (sp : Nat) (key : List Byte) : List Byte := takeBytes 48 (key.take (s.keyLen sp))

/-- A lookup (R203, R227): the entry's index, or LOST where the context of a matching TAG is lost or the key stands in no
entry and a candidate line is lost, or EMPTY. -/
def State.flowSlot (s : State) (sp : Nat) (key : List Byte) : Nat × Nat :=
  let ws := flowWords sp (s.keyLen sp) key
  let b := s.buckets 1 ws
  let tag := (s.tblHash 1 ws).toNat / 65536
  let like (e : FlowEnt) : Bool := e.space == sp && e.tag == tag
  let slots := candidates b ++ (s.tbl.flowOver.map Prod.fst)
  let near := slots.filter fun i => match s.flowAt i with
    | some e => like e
    | none => false
  let ctxOf (i : Nat) : Nat := ((s.flowAt i).getD {}).ctx
  match near.find? fun i => !s.ctxLost (ctxOf i) && s.ipdRead (s.ctxAddr (ctxOf i)) 48 == s.flowKey sp key with
  | some i => (stOk, i)
  | none =>
    if (near.any fun i => s.ctxLost (ctxOf i)) || s.bucketLost b.1 || s.bucketLost b.2 then (stLost, 0) else (stEmpty, 0)

/-- A key that no lookup finds may yet stand in the table: the context of a matching TAG, or a candidate line outside the
offline ranges, is lost. No second entry is then made for it (R202, R227). -/
def State.flowHidden (s : State) (sp : Nat) (key : List Byte) : Bool :=
  let ws := flowWords sp (s.keyLen sp) key
  let b := s.buckets 1 ws
  let tag := (s.tblHash 1 ws).toNat / 65536
  let lostCtx (i : Nat) : Bool := match s.flowAt i with
    | some e => e.space == sp && e.tag == tag && s.ctxLost e.ctx
    | none => false
  let poisoned (k : Nat) : Bool := s.bucketLost k && !s.offlineAt (s.flowAddr (4 * k))
  poisoned b.1 || poisoned b.2 || (candidates b ++ s.tbl.flowOver.map Prod.fst).any lostCtx

/-- A hit: PKTS, LAST and AGE (R234). -/
def State.flowHit (s : State) (i : Nat) : State :=
  match s.flowAt i with
  | none => s
  | some e =>
    let s := s.setCtxWord e.ctx 13 (min (s.ctxWord e.ctx 13 + 1) 0xFFFFFFFF)
    let s := (s.setCtxWord e.ctx 14 (s.now % 2 ^ 32)).setCtxWord e.ctx 15 (s.now / 2 ^ 32)
    s.setFlow i (some { e with age := 0 })

/-- A new context (Table 6.7): STATE 1, the space's OWNER; PKTS, LAST and PROG as given. -/
def State.fillCtx (s : State) (n sp gen : Nat) (key : List Byte) (pkts last : Nat) (prog : List Byte) : State :=
  let w12 := gen % 65536 + sp * 2 ^ 16 + s.keyLen sp * 2 ^ 20 + 2 ^ 26 + s.fld Reg.TBL_SPACE_OWNER sp 0 * 2 ^ 28
  (s.ipdWrite (s.ctxAddr n) (s.flowKey sp key ++ leBytes 4 w12 ++ leBytes 4 pkts ++ leBytes 8 last ++ takeBytes 64 prog)).ipdReqs
    (s.ctxAddr n) 128 true clsTbl

/-- The lowest free context index (R222): contexts in use, those withdrawn, and those that stand in an offline range, are
passed over (R227). -/
def State.freeCtx (s : State) : Option Nat :=
  let used := s.flowEntries.foldl (fun l e => insertRising e.2.ctx l) s.tbl.withdrawn
  let lost (n : Nat) : Bool := s.offlineAt (s.ctxAddr n) || s.offlineAt (s.ctxAddr n + 64)
  let rec go : Nat → Nat → Option Nat
    | 0, _ => none
    | k + 1, n =>
      let n := lowestFree used n
      if 1048576 ≤ n then none else if lost n then go k (n + 1) else some n
  go 1048576 0

/-- Where a new flow's entry goes: a lost bucket counts as full (R206, R227). -/
def State.flowPlace (s : State) (b : Nat × Nat) : Option Nat :=
  let room (k : Nat) : Option Nat × Nat :=
    if s.bucketLost k then (none, 4)
    else
      let used := (List.range 4).filter fun w => (s.flowAt (4 * k + w)).isSome
      (((List.range 4).find? fun w => !used.contains w).map fun w => 4 * k + w, used.length)
  let r1 := room b.1
  let r2 := room b.2
  match if r1.2 ≤ r2.2 then r1.1 else r2.1 with
  | some i => some i
  | none =>
    let i := lowestFree (SMap.keys s.tbl.flowOver) (tblOver 1)
    if i < tblOver 1 + tblOverCount 1 then some i else none

/-- The creation of a flow for an absent key (R206, R219, R222, R226): the entry's index, or none where there is no room.
A victim's context is reused with its GEN incremented. -/
def State.flowCreate (s : State) (sp : Nat) (key : List Byte) (pin : Bool) (pkts last : Nat) (prog : List Byte) :
    Option Nat × State :=
  let ws := flowWords sp (s.keyLen sp) key
  let b := s.buckets 1 ws
  let tag := (s.tblHash 1 ws).toNat / 65536
  let room := if s.spaceUsed sp < s.fld Reg.TBL_SPACE_QUOTA sp 0 then s.flowPlace b else none
  match room, s.freeCtx with
  | some i, some n =>
    let gen := s.ctxGen n
    let s := s.setFlow i (some { ctx := n, space := sp, pin := pin, tag := tag, gen := gen })
    (some i, s.fillCtx n sp gen key pkts last prog)
  | _, _ =>
    let cands := (candidates b).filterMap fun i =>
      match s.flowAt i with
      | some e => if e.space = sp && !e.pin then some (i, e.age) else none
      | none => none
    match s.victim (s.fld Reg.TBL_SPACE_POLICY sp 0) (1 + sp) cands with
    | (none, s) => (none, s.bump Reg.TBL_FLOW_FULL)
    | (some i, s) =>
      let n := ((s.flowAt i).getD {}).ctx
      let gen := (s.ctxGen n + 1) % 65536
      let s := (s.bump Reg.TBL_EVICT_FLOW).setFlow i (some { ctx := n, space := sp, pin := pin, tag := tag, gen := gen })
      (some i, s.fillCtx n sp gen key pkts last prog)

/-- An entry goes and its context is freed: GEN rises, STATE is 0 (R235). -/
def State.flowRemove (s : State) (i : Nat) : State :=
  match s.flowAt i with
  | none => s
  | some e =>
    let w := s.ctxWord e.ctx 12
    let s := s.setFlow i none
    s.setCtxWord e.ctx 12 (setBits (setBits w 26 2 0) 0 16 (bits w 0 16 + 1))

/-- The index of the entry that holds a context. -/
def State.flowOfCtx (s : State) (n : Nat) : Option Nat := (s.flowEntries.find? fun e => e.2.ctx == n).map Prod.fst

/-- A handle names a flow (R223): none where its context is lost, in no entry, or of another GEN. -/
def State.flowHandle (s : State) (n gen : Nat) : Option Nat :=
  if s.ctxLost n || s.ctxGen n ≠ gen % 65536 then none else s.flowOfCtx n

/-- An IPD range has gone offline (R227): the entries whose bucket line or context lies in it are removed and counted, and
their contexts are withdrawn from use. -/
def State.loseFlows (s : State) : State :=
  let gone (i : Nat) : Bool := s.offlineAt (s.flowAddr (i / 4 * 4))
  let inBad := s.flowListed.filter gone
  let bad := s.flowEntries.filter fun e => s.offlineAt (s.ctxAddr e.2.ctx) || s.offlineAt (s.ctxAddr e.2.ctx + 64)
  let ctxs := inBad.filterMap fun i => (flowOfWord (leNat (cellRead s.mem.ipd (s.flowAddr i) 8))).map FlowEnt.ctx
  let gone := (ctxs ++ bad.map fun e => e.2.ctx).foldl (fun l n => insertRising n l) s.tbl.withdrawn
  let ipd := inBad.foldl (fun m i => cellClear m (s.flowAddr i) 16) s.mem.ipd
  let s := { s with mem := { s.mem with ipd := ipd }, tbl := { s.tbl with withdrawn := gone } }
  let s := bad.foldl (fun s e => s.setFlow e.1 none) s
  let n := inBad.length + bad.length
  if n = 0 then s
  else (s.bumpFld Reg.TBL_CTX_LOST 0 0 n).eventSup Reg.TBL_INT_STATUS_CTX_LOST Reg.TBL_INT_EN_CTX_LOST

/-! ### The endpoint registry -/

/-- The hash words of a registry key (Table 6.2). -/
def epWords (kind port addr : Nat) : List W32 :=
  [BitVec.ofNat 32 (kind * 2 ^ 24 + port * 2 ^ 16 + addr / 2 ^ 32 % 2 ^ 16), BitVec.ofNat 32 addr]

def State.epRec (s : State) (id : Nat) : EpRec := SMap.get s.tbl.ep id {}

def State.setEp (s : State) (id : Nat) (r : EpRec) : State := { s with tbl := { s.tbl with ep := SMap.put s.tbl.ep id r {} } }

def EpRec.isKey (r : EpRec) (kind port addr : Nat) : Bool := r.state != 0 && r.kind == kind && r.port == port && r.addr == addr

/-- The endpoint ID of a key. -/
def State.epFind (s : State) (kind port addr : Nat) : Option Nat :=
  match tblFind s.tbl.epIdx 2 (s.buckets 2 (epWords kind port addr)) fun id => (s.epRec id).isKey kind port addr with
  | none => none
  | some i => SMap.find s.tbl.epIdx i

/-- A record and its index entry go. -/
def State.epFree (s : State) (id : Nat) : State :=
  { s with tbl := { s.tbl with ep := SMap.erase s.tbl.ep id, epIdx := s.tbl.epIdx.filter fun e => e.2 != id } }

/-- The record that R232 reclaims: DEPARTED, not provisioned, oldest SEEN. DESIGN CHOICE (log 183): of several with the same
SEEN, the one of the lowest endpoint ID. -/
def reclaimable : SMap EpRec → Option (Nat × Nat)
  | [] => none
  | (id, r) :: rest =>
    let best := reclaimable rest
    if r.state = 5 && !r.prov then
      match best with
      | none => some (id, r.seen)
      | some b => if b.2 < r.seen then some b else some (id, r.seen)
    else best

/-- The ID that a new record takes (R232). -/
def State.newEpId (s : State) : Option Nat :=
  let id := lowestFree (SMap.keys s.tbl.ep) (s.rd Reg.TBL_EP_CFG_DYN_BASE)
  if id < 65536 then some id else (reclaimable s.tbl.ep).map Prod.fst

/-- A record stands at an ID with an index entry; none where the index has no room (R206). -/
def State.epPlace (s : State) (id : Nat) (r : EpRec) : Option State :=
  let s := s.epFree id
  match tblPlace s.tbl.epIdx 2 (s.buckets 2 (epWords r.kind r.port r.addr)) with
  | none => none
  | some i => some ({ s with tbl := { s.tbl with epIdx := SMap.set s.tbl.epIdx i id } }.setEp id r)

/-- The state that a new or revived record takes (R230). DESIGN CHOICE (log 182): a record that a plug event makes at a
port whose ADMIT is NONE, which the rule does not name, takes REFUSED. -/
def admitState (code : Nat) : Nat := if code = 1 then 3 else if code = 2 then 2 else 4

/-- EP_PENDING in the owning partition. -/
def State.epPending (s : State) (r : EpRec) : State :=
  if r.state = 2 && r.owner < 5 then s.event Reg.TBL_INT_STATUS_EP_PENDING Reg.TBL_INT_EN_EP_PENDING r.owner r.owner else s

/-- Creates or revives the record of a key seen at an IN_PORT (R229 to R232): its endpoint ID. -/
def State.epSeen (s : State) (kind port addr at_ : Nat) : Option Nat × State :=
  let st := admitState (s.fld Reg.TBL_PORT_ADMIT at_ 0)
  let seen := s.net 0 % 2 ^ 64
  match s.epFind kind port addr with
  | some id =>
    let r := s.epRec id
    let r := { r with state := if r.state = 1 then 3 else st, lastPort := at_, plugs := min (r.plugs + 1) 65535, seen := seen }
    (some id, (s.setEp id r).epPending r)
  | none =>
    let r : EpRec := { kind := kind, port := port, addr := addr, state := st, owner := s.fld Reg.TBL_PORT_OWNER at_ 0
                       lastPort := at_, plugs := 1, seen := seen }
    let full := (s.bump Reg.TBL_EP_FULL).eventSup Reg.TBL_INT_STATUS_EP_FULL Reg.TBL_INT_EN_EP_FULL
    match s.newEpId with
    | none => (none, full)
    | some id =>
      match s.epPlace id r with
      | none => (none, full)
      | some s => (some id, s.epPending r)

/-- EP_CREATE: a create request at the head of the learner queue (R229). -/
def epCreate (s : State) : State :=
  match s.tbl.queue with
  | .create kind port addr at_ :: rest => ({ s with tbl := { s.tbl with queue := rest } }.epSeen kind port addr at_).2
  | _ => s

/-- The lookup of classification (R228): the ID of an admitted record. A miss on a port that admits, a departed record on
one, and a provisioned record not yet seen send a create request (R229 to R231). -/
def State.epLookup (s : State) (kind port addr at_ : Nat) : Option Nat × State :=
  let ask := s.learnAsk (.create kind port addr at_)
  let admits := s.on Reg.TBL_PORT_ADMIT at_ 0
  match s.epFind kind port addr with
  | none => (none, if admits then ask else s)
  | some id =>
    let st := (s.epRec id).state
    if st = 3 then (some id, s)
    else (none, if st = 1 || (st = 5 && admits) then ask else s)

/-- The departure of a source (R215, R233): the dynamic layer-2 entries of a port go; the records seen there depart. -/
def State.departTables (s : State) (at_ : Nat) : State :=
  let s := if at_ < 0x30 then s.flushL2 (some at_) none else s
  let mine (r : EpRec) : Bool :=
    ((r.kind == 4 || r.kind == 5) && r.port == at_) || (1 ≤ r.kind && r.kind ≤ 3 && r.lastPort == at_ && r.state != 1)
  let depart (e : Nat × EpRec) : Nat × EpRec :=
    if mine e.2 && e.2.state != 0 then (e.1, { e.2 with state := 5, seen := s.net 0 % 2 ^ 64 }) else e
  { s with tbl := { s.tbl with ep := s.tbl.ep.map depart } }

/-! ### Ageing (R216 to R218) -/

/-- AGEING_VISIT: one sweep of the layer-2 table (0) or of flow space n − 1. -/
def ageingVisit (s : State) (k : Nat) : State :=
  if k = 0 then
    if s.rd Reg.TBL_L2_AGE_AGE_TIME = 0 then s
    else
      let old := (s.tbl.l2.filter fun e => !e.2.static_ && 6 ≤ e.2.age).length
      let l2 := (s.tbl.l2.filter fun e => e.2.static_ || e.2.age < 6).map fun e =>
        if e.2.static_ then e else (e.1, { e.2 with age := e.2.age + 1 })
      { s with tbl := { s.tbl with l2 := l2 } }.bumpFld Reg.TBL_AGE_CNT 0 0 old
  else if s.fld Reg.TBL_SPACE_AGE_TIME (k - 1) 0 = 0 then s
  else
    let mine := s.flowEntries.filter fun e => e.2.space == k - 1 && !e.2.pin
    mine.foldl (fun s e =>
      if 6 ≤ e.2.age then (s.flowRemove e.1).bump Reg.TBL_AGE_CNT
      else s.setFlow e.1 (some { e.2 with age := e.2.age + 1 })) s

/-! ### The engine ports (Table 9.9) -/

/-- Word 0x08 of a record (Table 6.9). -/
def EpRec.word2 (r : EpRec) : Nat :=
  r.state % 8 + flagBit r.prov * 8 + r.owner % 8 * 16 + r.zone % 8 * 256 + r.cls % 256 * 65536 + r.lastPort % 256 * 2 ^ 24

/-- tl.t.l2. -/
def tlL2 (s : State) (t x : Nat) : Trig :=
  match s.l2Lookup (s.opnd t 0x280 % 4096) (s.opnd t 0x281 % 65536 * 2 ^ 32 + x % 2 ^ 32) with
  | (none, s) => (s.startOp t uTl [] stEmpty, 0)
  | (some e, s) =>
    let ep := e.ep % 65536 + flagBit e.epValid * 2 ^ 16 + flagBit e.static_ * 2 ^ 17
    (s.startOp t uTl [(0x283, BitVec.ofNat 32 e.port), (0x284, BitVec.ofNat 32 ep)] stOk, 0)

/-- tl.t.ep. -/
def tlEp (s : State) (t x : Nat) : Trig :=
  let r := s.epRec (x % 65536)
  if r.state = 0 then (s.startOp t uTl [] stEmpty, 0)
  else (s.startOp t uTl [(0x284, BitVec.ofNat 32 r.word2)] stOk, 0)

/-- tl.t.param (R381). -/
def tlParam (s : State) (t x : Nat) : Trig :=
  match s.slotOfVersion (s.opnd t 0x282 % 65536) with
  | none => (s.startOp t uTl [] stLost, 0)
  | some n =>
    let i := bits x 0 13
    if 8191 < i then (s.startOp t uTl [] stInvalid, 0)
    else (s.startOp t uTl [(0x285, ((s.version n).tables.entry 2 i).getD (bits x 13 4) 0)] stOk, 0)

/-- The scratch address of a thread's own word (Table 7.2). -/
def threadScratch (t a : Nat) : Nat := t / 8 * 32768 + t % 8 * 4096 + a

/-- The key that a flow operation reads from scratch (R379); none where it is INVALID. -/
def State.flowOperand (s : State) (t x : Nat) : Option (Nat × List Byte) :=
  let sp := s.opnd t 0x2A0 % 16
  let n := s.keyLen sp
  if x % 4 ≠ 0 || 0x1000 < x + n || !s.on Reg.TBL_SPACE_EN sp 0 || 1536 ≤ t then none
  else some (sp, cellRead s.mem.scratch (threadScratch t x) n)

/-- The key in scratch carries an uncorrectable error: the operation faults ECC (R253). -/
def State.flowKeyBad (s : State) (t x sp : Nat) : Bool :=
  (List.range (s.keyLen sp)).any fun i => s.mem.scratchBad.contains (threadScratch t x + i)

/-- The result ports of a flow operation (Table 9.9). -/
def flowPorts (ctx gen r : Nat) : List (Nat × W32) :=
  [(0x2A4, BitVec.ofNat 32 ctx), (0x2A5, BitVec.ofNat 32 gen), (0x2A6, BitVec.ofNat 32 r)]

/-- tl.t.ffind and tl.t.fget (R226, R234, R379). -/
def tlFind (s : State) (t x : Nat) (create : Bool) : Trig :=
  match s.flowOperand t x with
  | none => (s.startOp t uFlow [] stInvalid, 0)
  | some (sp, key) =>
    if s.flowKeyBad t x sp then (s, causeEcc)
    else
    let s := s.scratchFixed (t / 8) (threadScratch t x) (s.keyLen sp)
    let (st, i) := s.flowSlot sp key
    let done (s : State) (i new : Nat) : Trig :=
      let e := (s.flowAt i).getD {}
      (s.startOp t uFlow (flowPorts (e.ctx + new * 2 ^ 31) (s.ctxGen e.ctx) 0) stOk, 0)
    let b := s.buckets 1 (flowWords sp (s.keyLen sp) key)
    let s := (s.ipdReq (s.flowAddr (4 * b.1)) false clsTbl).ipdReq (s.flowAddr (4 * b.2)) false clsTbl
    if st = stOk then done (s.flowHit i) i 0
    else if !create then (s.startOp t uFlow [] st, 0)
    else if s.flowHidden sp key then (s.startOp t uFlow [] stLost, 0)
    else
      match s.flowCreate sp key false 1 s.now [] with
      | (some i, s) => done s i 1
      | (none, s) => (s.startOp t uFlow [] stOverflow, 0)

/-- The handle operands. -/
def State.flowOpnd (s : State) (t : Nat) : Nat × Nat := (s.opnd t 0x2A1 % 2 ^ 20, s.opnd t 0x2A2 % 65536)

/-- tl.t.fread. -/
def tlRead (s : State) (t x : Nat) : Trig :=
  let (n, gen) := s.flowOpnd t
  match s.flowHandle n gen with
  | none => (s.startOp t uFlow [] stLost, 0)
  | some _ =>
    let s := s.ipdReq (s.ctxAddr n + 4 * (x % 32)) false clsTbl
    (s.startOp t uFlow (flowPorts n gen (s.ctxWord n (x % 32))) stOk, 0)

/-- tl.t.fwrite (R224, R380). -/
def tlWrite (s : State) (t x : Nat) : Trig :=
  let (n, gen) := s.flowOpnd t
  let w := x % 32
  let d := s.opnd t 0x2A3
  match s.flowHandle n gen with
  | none => (s.startOp t uFlow [] stLost, 0)
  | some _ =>
    if 16 ≤ w then ((s.setCtxWord n w d).startOp t uFlow (flowPorts n gen 0) stOk, 0)
    else if w = 12 then
      ((s.setCtxWord n 12 (setBits (s.ctxWord n 12) 26 2 (bits d 26 2))).startOp t uFlow (flowPorts n gen 0) stOk, 0)
    else (s.startOp t uFlow [] stDenied, 0)

/-- tl.t.fdel (R235). -/
def tlDelete (s : State) (t : Nat) : Trig :=
  let (n, gen) := s.flowOpnd t
  match s.flowHandle n gen with
  | none => (s.startOp t uFlow [] stLost, 0)
  | some i => ((s.flowRemove i).startOp t uFlow (flowPorts n gen 0) stOk, 0)

/-! ### Host commands (Tables 6.12 to 6.14) -/

/-- Word n of the partition's TBL_DATA. -/
def State.tblData (s : State) (p n : Nat) : Nat := s.fld Reg.TBL_DATA n p

def State.setTblData (s : State) (p : Nat) (ws : List Nat) : State :=
  s.setAll (ws.zipIdx.map fun e => (Reg.TBL_DATA, e.2, p, e.1))

/-- A layer-2 entry as four words (Table 6.4), and from them. -/
def L2Ent.words (e : L2Ent) : List Nat :=
  let v := e.mac % 2 ^ 48 + e.fid % 4096 * 2 ^ 48 + 2 ^ 60 + flagBit e.static_ * 2 ^ 61 + e.age % 8 * 2 ^ 63 +
    e.port % 256 * 2 ^ 66 + e.ep % 65536 * 2 ^ 74 + flagBit e.epValid * 2 ^ 90 + e.owner % 8 * 2 ^ 91
  (List.range 4).map fun n => bits v (32 * n) 32

def l2OfWords (v : Nat) : L2Ent :=
  { mac := bits v 0 48, fid := bits v 48 12, static_ := true, port := bits v 66 8, ep := bits v 74 16
    epValid := bitOf v 90, owner := bits v 91 3 }

/-- A registry record as eight words (Table 6.9). -/
def EpRec.words (r : EpRec) : List Nat :=
  let k := r.kind % 256 * 2 ^ 56 + r.port % 256 * 2 ^ 48 + r.addr % 2 ^ 48
  [k % 2 ^ 32, k / 2 ^ 32, r.word2, r.plugs % 65536, r.seen % 2 ^ 32, r.seen / 2 ^ 32 % 2 ^ 32, 0, 0]

/-- The right of Table 6.14: command 1 INSERT, 2 DELETE, 3 READ, 4 UPDATE, 5 FLUSH, 6 NEXT. `own` is the owner of the flow
space or of the record. -/
def State.tblRight (s : State) (p table cmd own : Nat) : Bool :=
  if s.isSup p then true
  else if table = 0 then cmd == 3 || cmd == 6
  else if table = 1 then own == p
  else cmd == 3 || cmd == 6 || (cmd == 4 && own == p)

/-- A command of a partition answers: RESULT and CMD_DONE. -/
def State.tblAnswer (s : State) (p st : Nat) : State :=
  (s.setFld Reg.TBL_CMD_RESULT 0 p st).event Reg.TBL_INT_STATUS_CMD_DONE Reg.TBL_INT_EN_CMD_DONE p p

/-- Another partition's FLUSH runs on the update unit of a table. -/
def State.flushAhead (s : State) (p table : Nat) : Bool := s.tbl.flush.any fun e => e.1 != p && e.2.1 == table

/-- A command of a partition has had its effect, in the order of its update unit (R204). Behind the FLUSH of another
partition on that unit it stays PENDING and answers when the FLUSH ends (R240). -/
def State.tblDone (s : State) (p st : Nat) : State :=
  let table := s.fld Reg.TBL_SEL_TABLE 0 p
  if s.flushAhead p table then
    { s with tbl := { s.tbl with held := SMap.set s.tbl.held p (table, st) } }.setFld Reg.TBL_CMD_PENDING 0 p 1
  else s.tblAnswer p st

/-- Commands that no FLUSH is ahead of any more answer. -/
def State.tblRelease (s : State) : State :=
  s.tbl.held.foldl (fun s e =>
    if s.flushAhead e.1 e.2.1 then s
    else ({ s with tbl := { s.tbl with held := SMap.erase s.tbl.held e.1 } }.setFld Reg.TBL_CMD_PENDING 0 e.1 0).tblAnswer e.1
      e.2.2) s

/-- The index that a command found. -/
def State.tblIndex (s : State) (p i : Nat) : State := s.setFld Reg.TBL_SEL_INDEX 0 p i

/-- INDEX lies beyond the table. -/
def tblIndexBad (table i : Nat) : Bool :=
  if table = 0 then 133120 ≤ i else if table = 1 then 1048576 ≤ i else 65536 ≤ i

/-- The key bytes of a host's flow command. -/
def State.hostFlowKey (s : State) (p sp : Nat) : List Byte :=
  (((List.range 12).map fun n => leBytes 4 (s.tblData p n)).flatten).take (s.keyLen sp)

/-- The key of a host's registry command. -/
def State.hostEpKey (s : State) (p : Nat) : Nat × Nat × Nat :=
  let k := s.tblData p 0 + s.tblData p 1 * 2 ^ 32
  (bits k 56 8, bits k 48 8, bits k 0 48)

/-- The entry that a command selects, as the index of R236 (layer-2 and registry) or the flow entry's own index; with LOST
for a flow whose lines are lost. -/
def State.tblSelected (s : State) (p table : Nat) : Option Nat × Bool :=
  let byIdx := s.on Reg.TBL_SEL_BY_INDEX 0 p
  let idx := s.fld Reg.TBL_SEL_INDEX 0 p
  let sp := s.fld Reg.TBL_SEL_SPACE 0 p
  if table = 0 then
    let k := s.tblData p 0 + s.tblData p 1 * 2 ^ 32
    (if byIdx then (SMap.find s.tbl.l2 idx).map fun _ => idx else s.l2Slot (bits k 48 12) (bits k 0 48), false)
  else if table = 1 then
    if byIdx then ((s.flowEntries.find? fun e => e.2.ctx == idx && e.2.space == sp).map Prod.fst, false)
    else
      let (st, i) := s.flowSlot sp (s.hostFlowKey p sp)
      (if st = stOk then some i else none, st == stLost)
  else
    let k := s.hostEpKey p
    (if byIdx then (if (s.epRec idx).state = 0 then none else some idx) else s.epFind k.1 k.2.1 k.2.2, false)

/-- The checks of Table 6.13 down to the rights; `f` is the rest of the command. -/
def State.tblCommand (s : State) (p cmd : Nat) (f : State → Nat → State) : State :=
  let table := s.fld Reg.TBL_SEL_TABLE 0 p
  let sp := s.fld Reg.TBL_SEL_SPACE 0 p
  let idx := s.fld Reg.TBL_SEL_INDEX 0 p
  let st := bits (s.tblData p 2) 0 3
  let usesIdx := cmd == 6 || (s.on Reg.TBL_SEL_BY_INDEX 0 p && cmd != 5 && !(cmd == 1 && table < 2))
  let own := if table = 1 then s.fld Reg.TBL_SPACE_OWNER sp 0
             else match s.tblSelected p table with
               | (some i, _) => if table = 2 then (s.epRec i).owner else 8
               | (none, _) => 8
  if !s.pageOk p 4 then s
  else if s.on Reg.TBL_CMD_FLUSH_BUSY 0 p then s.tblAnswer p stBusy
  else if table == 3 || cmd == 7 || (usesIdx && tblIndexBad table idx) || (cmd == 5 && table == 2) ||
      (cmd == 4 && (table != 2 || !(st == 3 || st == 4))) then s.tblAnswer p stInvalid
  else if !s.tblRight p table cmd own then s.tblAnswer p stDenied
  else f s table

/-- INSERT of a registry record (R237): a provisioning write. -/
def State.insertEp (s : State) (p : Nat) : State :=
  let (kind, port, addr) := s.hostEpKey p
  let w := s.tblData p 2
  let give (r : EpRec) : EpRec := { r with prov := true, owner := bits w 4 3, zone := bits w 8 3, cls := bits w 16 8 }
  match s.epFind kind port addr with
  | some id =>
    if (s.epRec id).prov then s.tblDone p stDouble
    else ((s.setEp id (give (s.epRec id))).tblIndex p id).tblDone p stOk
  | none =>
    let r := give { kind := kind, port := port, addr := addr, state := 1 }
    let idx := s.fld Reg.TBL_SEL_INDEX 0 p
    let id := if s.on Reg.TBL_SEL_BY_INDEX 0 p then (if (s.epRec idx).state = 0 then some idx else none) else s.newEpId
    match id with
    | none => s.tblDone p stOverflow
    | some id =>
      match s.epPlace id r with
      | none => s.tblDone p stOverflow
      | some s => (s.tblIndex p id).tblDone p stOk

/-- INSERT of a layer-2 entry: static, in place of a dynamic entry of the key (R237). -/
def State.insertL2 (s : State) (p : Nat) : State :=
  let e := l2OfWords ((List.range 4).foldr (fun n v => s.tblData p n * 2 ^ (32 * n) + v) 0)
  match s.l2Slot e.fid e.mac with
  | some i =>
    if (SMap.get s.tbl.l2 i {}).static_ then s.tblDone p stDouble
    else ((s.setL2 i e).tblIndex p i).tblDone p stOk
  | none =>
    match s.l2Room e.fid e.mac with
    | (none, s) => s.tblDone p stOverflow
    | (some i, s) => ((s.setL2 i e).tblIndex p i).tblDone p stOk

/-- INSERT of a flow: pinned, in place of an unpinned entry of the key (R237); LOST where the key may stand in a lost entry,
or both its buckets lie in an offline range (Table 6.13). -/
def State.insertFlow (s : State) (p : Nat) : State :=
  let sp := s.fld Reg.TBL_SEL_SPACE 0 p
  let key := s.hostFlowKey p sp
  let prog := ((List.range 16).map fun n => leBytes 4 (s.tblData p (16 + n))).flatten
  match s.flowSlot sp key with
  | (0, i) =>
    match s.flowAt i with
    | none => s.tblDone p stLost
    | some e =>
      if e.pin then s.tblDone p stDouble
      else
        let s := s.setFlow i (some { e with pin := true, age := 0 })
        ((s.ipdWrite (s.ctxAddr e.ctx + 64) prog).tblIndex p e.ctx).tblDone p stOk
  | _ =>
    let b := s.buckets 1 (flowWords sp (s.keyLen sp) key)
    if s.flowHidden sp key || (s.offlineAt (s.flowAddr (4 * b.1)) && s.offlineAt (s.flowAddr (4 * b.2))) then s.tblDone p stLost
    else
      match s.flowCreate sp key true 0 0 prog with
      | (none, s) => s.tblDone p stOverflow
      | (some i, s) => (s.tblIndex p ((s.flowAt i).getD {}).ctx).tblDone p stOk

/-- TBL_CMD INSERT. -/
def tblInsert (s : State) (p : Nat) : State :=
  s.tblCommand p 1 fun s table =>
    if table = 0 then s.insertL2 p else if table = 1 then s.insertFlow p else s.insertEp p

/-- TBL_CMD DELETE. -/
def tblDelete (s : State) (p : Nat) : State :=
  s.tblCommand p 2 fun s table =>
    match s.tblSelected p table with
    | (none, lost) => s.tblDone p (if lost then stLost else stEmpty)
    | (some i, _) =>
      let s := if table = 0 then { s with tbl := { s.tbl with l2 := SMap.erase s.tbl.l2 i } }
               else if table = 1 then s.flowRemove i else s.epFree i
      s.tblDone p stOk

/-- The data of an entry in TBL_DATA, and its index in TBL_SEL (R236). -/
def State.tblShow (s : State) (p table i : Nat) : State :=
  if table = 0 then (s.setTblData p (SMap.get s.tbl.l2 i {}).words).tblIndex p i
  else if table = 1 then
    let n := ((s.flowAt i).getD {}).ctx
    (s.setTblData p ((List.range 32).map fun w => s.ctxWord n w)).tblIndex p n
  else (s.setTblData p (s.epRec i).words).tblIndex p i

/-- TBL_CMD READ. -/
def tblRead (s : State) (p : Nat) : State :=
  s.tblCommand p 3 fun s table =>
    match s.tblSelected p table with
    | (none, lost) => s.tblDone p (if lost then stLost else stEmpty)
    | (some i, _) => (s.tblShow p table i).tblDone p stOk

/-- TBL_CMD UPDATE (R238): STATE, CLASS and ZONE, and SEEN as the time of a change of STATE (Table 6.9). -/
def tblUpdate (s : State) (p : Nat) : State :=
  s.tblCommand p 4 fun s table =>
    match s.tblSelected p table with
    | (none, _) => s.tblDone p stEmpty
    | (some i, _) =>
      let w := s.tblData p 2
      let r := s.epRec i
      let seen := if r.state = bits w 0 3 then r.seen else s.net 0 % 2 ^ 64
      (s.setEp i { r with state := bits w 0 3, zone := bits w 8 3, cls := bits w 16 8, seen := seen }).tblDone p stOk

/-- The reserved CMD 7: INVALID, behind the row before it (Table 6.13). -/
def tblReserved (s : State) (p : Nat) : State := s.tblCommand p 7 fun s _ => s

/-- The entries of a FLUSH go: dynamic layer-2 entries by R215, or the unpinned entries of a flow space (R239). -/
def State.flushJob (s : State) (table sp : Nat) (port fid : Option Nat) : State :=
  if table = 0 then s.flushL2 port fid
  else (s.flowEntries.filter fun e => e.2.space == sp && !e.2.pin).foldl (fun s e => s.flowRemove e.1) s

/-- TBL_CMD FLUSH (R239). Its entries go at its place in the order of the update unit, so that what reaches the unit later
acts on the table without them (R204); FLUSH_BUSY and PENDING stay until the background run ends. -/
def tblFlush (s : State) (p : Nat) : State :=
  s.tblCommand p 5 fun s table =>
    let d := s.tblData p 0
    let job := (table, s.fld Reg.TBL_SEL_SPACE 0 p, if bitOf d 31 then some (bits d 0 8) else none,
                if bitOf d 30 then some (bits d 8 12) else none)
    let s := s.flushJob table job.2.1 job.2.2.1 job.2.2.2
    let s := { s with tbl := { s.tbl with flush := SMap.set s.tbl.flush p job } }
    ((s.setFld Reg.TBL_CMD_RESULT 0 p stOk).setFld Reg.TBL_CMD_FLUSH_BUSY 0 p 1).setFld Reg.TBL_CMD_PENDING 0 p 1

/-- TBL_FLUSH_DONE: FLUSH_DONE is raised (R239), and commands that waited behind the FLUSH answer. -/
def tblFlushDone (s : State) (p : Nat) : State :=
  match SMap.find s.tbl.flush p with
  | none => s
  | some _ =>
    let s := { s with tbl := { s.tbl with flush := SMap.erase s.tbl.flush p } }
    let s := (s.setFld Reg.TBL_CMD_FLUSH_BUSY 0 p 0).setFld Reg.TBL_CMD_PENDING 0 p 0
    (s.event Reg.TBL_INT_STATUS_FLUSH_DONE Reg.TBL_INT_EN_FLUSH_DONE p p).tblRelease

/-- The first valid entry after INDEX: the index of R236, and the entry's own. -/
def State.tblAfter (s : State) (p table : Nat) : Option Nat :=
  let idx := s.fld Reg.TBL_SEL_INDEX 0 p
  let sp := s.fld Reg.TBL_SEL_SPACE 0 p
  if table = 0 then (SMap.keys s.tbl.l2).find? (idx < ·)
  else if table = 1 then
    let ctxs := s.flowEntries.foldl (fun l e => if e.2.space = sp then insertRising e.2.ctx l else l) []
    match ctxs.find? (idx < ·) with
    | none => none
    | some n => s.flowOfCtx n
  else (SMap.keys s.tbl.ep).find? (idx < ·)

/-- TBL_CMD NEXT. -/
def tblNext (s : State) (p : Nat) : State :=
  s.tblCommand p 6 fun s table =>
    match s.tblAfter p table with
    | none => s.tblDone p stEmpty
    | some i => (s.tblShow p table i).tblDone p stOk

/-- A partition reset discards the partition's command (R241). -/
def State.loseTblCommand (s : State) (p : Nat) : State :=
  let t := { s.tbl with flush := SMap.erase s.tbl.flush p, held := SMap.erase s.tbl.held p }
  (({ s with tbl := t }.setFld Reg.TBL_CMD_FLUSH_BUSY 0 p 0).setFld Reg.TBL_CMD_PENDING 0 p 0).tblRelease

/-- The image's static layer-2 entries and provisioned endpoints are placed (step 5b of Sequence 1.1). -/
def State.startTables (s : State) : State :=
  let s := s.img.l2.foldl (fun s e =>
    match tblPlace s.tbl.l2 0 (s.buckets 0 (l2Words e.fid e.mac)) with
    | some i => s.setL2 i { e with static_ := true }
    | none => s) s
  s.img.eps.foldl (fun s e => (s.epPlace e.1 { e.2 with prov := true, state := 1 }).getD s) s

end Sys2Proof.Machine
end

