-- ==== Sys2Proof/Machine/Runnel.lean ====
section
/-! DEFINITION. Runnel: the first-look key and the hash, the parse graph walk, and classification (R131 to R164). -/

namespace Sys2Proof.Machine

/-! ### Runnel-1: the first-look key (Tables 4.1 and 4.2) -/

/-- What Runnel-1 finds in the first 64 bytes of a frame. -/
structure Look where
  etype : Nat := 0
  tci0 : Nat := 0
  tci1 : Nat := 0
  tags : Nat := 0
  kind : Nat := 2
  proto : Nat := 0
  l3 : Nat := 0
  l4 : Nat := 0
  rtag : Bool := false
  frerSeq : Nat := 0
  frag : Bool := false
  opts : Bool := false
  badSum : Bool := false
  trunc : Bool := false
  sport : Nat := 0
  dport : Nat := 0
  tos : Nat := 0
  ttl : Nat := 0
  src : List Byte := []
  dst : List Byte := []
  ptp : Bool := false
  deriving DecidableEq, Repr

/-- The first 64 bytes, from which Runnel-1 reads. -/
abbrev First := List Byte

/-- n bytes at an offset, as a big-endian number; none where they do not lie within. -/
def First.num (f : First) (off n : Nat) : Option Nat := if off + n ≤ f.length then some (beNat ((f.drop off).take n)) else none

def First.bytes (f : First) (off n : Nat) : Option (List Byte) := if off + n ≤ f.length then some ((f.drop off).take n) else none

/-- A field's value, 0 where it is absent (R136). -/
def zeroIf (v : Option Nat) : Nat := v.getD 0

/-- The TPIDs of Table 4.1. -/
def State.isTpid (s : State) (v : Nat) : Bool := v == 0x88A8 || v == 0x8100 || v == s.rd Reg.RUN_CFG_TPID

/-- One VLAN tag at the position of an EtherType: its TCI, and the EtherType after it. -/
def lookTag (f : First) (at_ : Nat) : Option Nat × Option Nat := (f.num (at_ + 2) 2, f.num (at_ + 4) 2)

/-- The ones' complement sum of an IPv4 header is right. -/
def ipSumOk (bs : List Byte) : Bool :=
  let t := (List.range (bs.length / 2)).foldl (fun n i => n + beNat ((bs.drop (2 * i)).take 2)) 0
  let t := t % 65536 + t / 65536
  (t % 65536 + t / 65536) == 0xFFFF

/-- The ports of TCP or UDP at an offset (Table 4.1, last row). DESIGN CHOICE (log 177): where the ports lie beyond the
first 64 bytes the header counts as absent (R136), so L4OFF is 0 although its offset is known. -/
def lookPorts (f : First) (k : Look) (l4 : Nat) : Look :=
  if k.proto = 6 || k.proto = 17 then
    let a := f.num l4 2
    let b := f.num (l4 + 2) 2
    { k with l4 := if a.isSome then l4 else 0, sport := zeroIf a, dport := zeroIf b
             trunc := k.trunc || a.isNone || b.isNone }
  else k

/-- The IPv4 header at an offset (R135, R137). DESIGN CHOICE (log 178): the checksum of a header that does not lie
wholly in the first 64 bytes is not judged, and FLAGS bit 5 stays clear. -/
def lookV4 (f : First) (k : Look) (l3 : Nat) : Look :=
  match f.num l3 1 with
  | none => { k with kind := 4, l3 := l3, trunc := true }
  | some v =>
    let ihl := v % 16
    if v / 16 ≠ 4 || ihl < 5 then k
    else
      let frag := f.num (l3 + 6) 2
      let tos := f.num (l3 + 1) 1
      let ttl := f.num (l3 + 8) 1
      let proto := f.num (l3 + 9) 1
      let src := f.bytes (l3 + 12) 4
      let dst := f.bytes (l3 + 16) 4
      let isFrag := zeroIf frag % 16384 != 0
      let bad := match f.bytes l3 (4 * ihl) with
        | none => false
        | some bs => !ipSumOk bs
      let k := { k with
        kind := 4, l3 := l3, tos := zeroIf tos, ttl := zeroIf ttl, proto := zeroIf proto
        src := src.getD [], dst := dst.getD [], frag := isFrag, opts := 5 < ihl, badSum := bad
        trunc := k.trunc || frag.isNone || tos.isNone || ttl.isNone || proto.isNone || src.isNone || dst.isNone }
      if isFrag || proto.isNone then k else lookPorts f k (l3 + 4 * ihl)

/-- The IPv6 header at an offset (R135, R137). -/
def lookV6 (f : First) (k : Look) (l3 : Nat) : Look :=
  match f.num l3 1 with
  | none => { k with kind := 6, l3 := l3, trunc := true }
  | some v =>
    if v / 16 ≠ 6 then k
    else
      let w := f.num l3 2
      let proto := f.num (l3 + 6) 1
      let ttl := f.num (l3 + 7) 1
      let src := f.bytes (l3 + 8) 16
      let dst := f.bytes (l3 + 24) 16
      let k := { k with
        kind := 6, l3 := l3, tos := zeroIf w / 16 % 256, ttl := zeroIf ttl, proto := zeroIf proto
        src := src.getD [], dst := dst.getD []
        trunc := k.trunc || w.isNone || proto.isNone || ttl.isNone || src.isNone || dst.isNone }
      if proto.isNone then k else lookPorts f k (l3 + 40)

/-- Runnel-1's reading of an Ethernet frame. -/
def State.look (s : State) (frame : List Byte) : Look :=
  let f : First := frame.take 64
  match f.num 12 2 with
  | none => { trunc := true }
  | some e0 =>
    -- up to two VLAN tags: the position of the EtherType reached, and what stood in them
    let (k, at_, e) : Look × Nat × Option Nat :=
      if !s.isTpid e0 then ({}, 12, some e0)
      else
        let (t0, e1) := lookTag f 12
        let k : Look := { tags := 1, tci0 := zeroIf t0, trunc := t0.isNone }
        match e1 with
        | none => ({ k with trunc := true, etype := e0 }, 16, none)
        | some v =>
          if !s.isTpid v then (k, 16, some v)
          else
            let (t1, e2) := lookTag f 16
            let k := { k with tags := 2, tci1 := zeroIf t1, trunc := k.trunc || t1.isNone || e2.isNone }
            (if e2.isNone then { k with etype := v } else k, 20, e2)
    match e with
    | none => k
    | some e =>
      let (k, at_, e) : Look × Nat × Option Nat :=
        if e ≠ 0xF1C1 then (k, at_, some e)
        else
          let q := f.num (at_ + 4) 2
          let n := f.num (at_ + 6) 2
          ({ k with rtag := true, frerSeq := zeroIf q, etype := e, trunc := k.trunc || q.isNone || n.isNone }, at_ + 6, n)
      match e with
      | none => k
      | some e =>
        let k := { k with etype := e }
        if e = 0x0800 then lookV4 f k (at_ + 2)
        else if e = 0x86DD then lookV6 f k (at_ + 2)
        else if e = 0x88F7 then { k with ptp := match f.num (at_ + 2) 1 with
                                        | some v => v % 16 < 4
                                        | none => false }
        else k

/-- FLK.FLAGS. -/
def Look.flags (k : Look) : Nat :=
  k.tags + 4 * flagBit k.rtag + 8 * flagBit k.frag + 16 * flagBit k.opts + 32 * flagBit k.badSum + 64 * flagBit k.trunc

/-- The 64 bytes of the first-look key, each multi-byte field in network order (Table 4.2, R140). -/
def Look.flk (k : Look) (frame : List Byte) : List Byte :=
  takeBytes 6 frame ++ takeBytes 6 (frame.drop 6) ++ beBytes 2 k.etype ++ beBytes 2 k.tci0 ++ beBytes 2 k.tci1 ++
    beBytes 1 k.kind ++ beBytes 1 k.proto ++ beBytes 1 k.l3 ++ beBytes 1 k.l4 ++ beBytes 2 k.flags ++
    beBytes 2 k.sport ++ beBytes 2 k.dport ++ beBytes 1 k.tos ++ beBytes 1 k.ttl ++ [0, 0] ++
    takeBytes 16 k.src ++ takeBytes 16 k.dst

/-- The first-look key of a CAN frame, and of a presence or button event (R138). -/
def canFlk (ident channel : Nat) : List Byte :=
  List.replicate 18 0 ++ [0x0C] ++ List.replicate 13 0 ++ beBytes 4 ident ++ List.replicate 12 0 ++ beBytes 1 channel ++
    List.replicate 15 0

def eventFlk (inPort : Nat) : List Byte :=
  List.replicate 18 0 ++ [0x0D] ++ List.replicate 29 0 ++ beBytes 1 inPort ++ List.replicate 15 0

/-- A big-endian field of the first-look key. -/
def flkNum (flk : List Byte) (off n : Nat) : Nat := beNat ((flk.drop off).take n)

/-- The hash input words (Table 4.3). -/
def hashWords (flk : List Byte) : List W32 :=
  let n (off k : Nat) : Nat := flkNum flk off k
  let ports := (n 0x18 2 ^^^ n 0x1A 2) * 65536 + (n 0x18 2 + n 0x1A 2) % 65536
  let ws : List Nat :=
    match n 0x12 1 with
    | 0x04 => [n 0x20 4 ^^^ n 0x30 4, ports, 0x400 + n 0x13 1]
    | 0x06 => ((List.range 4).map fun i => n (0x20 + 4 * i) 4 ^^^ n (0x30 + 4 * i) 4) ++ [ports, 0x600 + n 0x13 1]
    | 0x0C => [n 0x20 4, 0xC00 + n 0x30 1]
    | 0x0D => [n 0x30 1, 0xD00]
    | _ => [n 0 4 ^^^ n 6 4, (n 4 2 ^^^ n 10 2) * 65536 + n 0x0C 2, 0x200]
  ws.map (BitVec.ofNat 32)

/-- HASH of a first-look key (R141). -/
def State.hashOf (s : State) (flk : List Byte) : Nat :=
  (mixHash (BitVec.ofNat 32 (s.rd Reg.RUN_HASH_SEED_SEED)) (hashWords flk)).toNat

/-! ### Runnel-2: the walk (Tables 4.5 to 4.7, R145) -/

/-- Word w of node n, and of edge e, in the image's graph: nodes first, edges from word 1,024. -/
def State.nodeWord (s : State) (n w : Nat) : Nat := (SMap.get s.img.graph (4 * n + w) 0).toNat

def State.edgeWord (s : State) (e w : Nat) : Nat := (SMap.get s.img.graph (1024 + 2 * e + w) 0).toNat

/-- A walk in progress or ended. -/
structure Walk where
  pos : Nat := 0
  tags : Nat := 0
  tunnels : Nat := 0
  layers : List Nat := List.replicate 16 0
  key : List Byte := List.replicate 64 0
  outcome : Nat := 0
  drop : Bool := false
  deriving DecidableEq, Repr

/-- A 16-bit value of the packet; none where it is lost. -/
def State.read16 (s : State) (d : Droplet) (a : Nat) : Option Nat := (s.pktBytes d a 2).map beNat

/-- How a visit goes on: the action (0 GOTO, 1 ACCEPT, 2 REJECT, 3 NO_MATCH), what it names, and DROP. -/
def State.nextOf (s : State) (node sel : Nat) : Nat × Nat × Bool :=
  let w2 := s.nodeWord node 2
  let edges := (List.range (bits w2 10 5)).map fun i => bits w2 0 10 + i
  let hit (e : Nat) : Bool := (sel &&& s.edgeWord e 0 / 65536) == s.edgeWord e 0 % 65536
  match if bits (s.nodeWord node 1) 12 5 = 0 then none else edges.find? hit with
  | some e =>
    let w := s.edgeWord e 1
    let act := bits w 8 4
    (if act = 0 then 0 else if act = 1 then 1 else if act = 2 then 2 else 3, bits w 0 8, bitOf w 12)
  | none =>
    let act := bits w2 24 4
    (if act = 0 then 0 else if act = 1 then 1 else 3, bits w2 16 8, false)

/-- The loop of R145, with the visits left, from a node. At its end the slots and the key hold what the walk had written
by then (R146). -/
def State.walk2 (s : State) (d : Droplet) (len depth : Nat) : Nat → Nat → Walk → Walk
  | 0, _, w => { w with outcome := 3 }
  | n + 1, node, w =>
    let w0 := s.nodeWord node 0
    let w1 := s.nodeWord node 1
    let w3 := s.nodeWord node 3
    let w := { w with tags := w.tags + bits w1 22 1 }
    if 8 < w.tags then { w with outcome := 4 }
    else
      let w := { w with tunnels := w.tunnels + bits w1 23 1 }
      if 4 < w.tunnels then { w with outcome := 5 }
      else
        let fix := bits w0 0 8
        match if bits w0 20 4 = 0 then some 0 else s.read16 d (w.pos + bits w0 8 8) with
        | none => { w with outcome := 7 }
        | some lv =>
          let var := lv / 2 ^ bits w0 16 4 % 2 ^ bits w0 20 4 * 2 ^ bits w0 24 3
          let hl := if bitOf w0 27 then max fix var else fix + var
          if len < w.pos + hl then { w with outcome := 2 }
          else if depth < w.pos + hl then { w with outcome := 1 }
          else
            let layer := bits w1 17 5
            let w := if layer < 16 then { w with layers := w.layers.set layer (0x8000 + w.pos % 512) } else w
            match s.pktBytes d (w.pos + bits w3 0 8) (bits w3 8 5) with
            | none => { w with outcome := 7 }
            | some x =>
              let w := { w with key := overwrite w.key (bits w3 16 6) x }
              match if bits w1 12 5 = 0 then some 0 else s.read16 d (w.pos + bits w1 0 8) with
              | none => { w with outcome := 7 }
              | some sv =>
                let sel := sv / 2 ^ bits w1 8 4 % 2 ^ bits w1 12 5
                let w := { w with pos := w.pos + hl }
                match s.nextOf node sel with
                | (0, next, _) => s.walk2 d len depth n next w
                | (1, _, _) => w
                | (2, code, drop) => { w with outcome := 0x80 + code % 128, drop := drop }
                | (_, _, _) => { w with outcome := 6 }

/-- The root node of a droplet's source (R149). DESIGN CHOICE (log 179): a droplet of a control-plane queue (IN_PORT
0x54), for which the spec names no root of its own, starts at the Ethernet root. -/
def State.rootOf (s : State) (inPort : Nat) : Nat :=
  if 0x30 ≤ inPort && inPort < 0x40 then s.rd Reg.RUN_ROOT_CAN
  else if 0x40 ≤ inPort && inPort < 0x50 then s.rd Reg.RUN_ROOT_EVT
  else s.rd Reg.RUN_ROOT_ETH

/-- The walk of a droplet's packet. LEN is the droplet's on its first pass, and then the packet's as the program left
it (R145). -/
def State.walkOf (s : State) (d : Droplet) (first : Bool) : Walk :=
  s.walk2 d (if first then d.len else s.pktLen d) (64 * s.rd Reg.RUN_CFG_DEPTH) 32 (s.rootOf d.inPort) {}

/-- The outcome is a drop (R150). -/
def State.isDrop (s : State) (w : Walk) : Bool :=
  if w.outcome = 0 then false
  else if w.outcome = 7 then true
  else if w.outcome < 7 then bitOf (s.rd Reg.RUN_DROP_MASK_DROP) (w.outcome - 1)
  else w.drop

/-- The outcome's counter (R153). -/
def State.countOutcome (s : State) (o : Nat) : State :=
  if o = 0 then s.bump Reg.RUN_OK_CNT
  else if o < 8 then s.bumpFld Reg.RUN_OUTCOME_CNT (o - 1) 0 1
  else s.bump Reg.RUN_REJECT_CNT

/-! ### Classification (R152 to R158, R210, R228) -/

/-- The settings of an exception route: DOMAIN and BUCKET by outcome 1 to 7, 8 for every image reject (R152). -/
def State.routeDomain (s : State) (o : Nat) : Nat := s.setting 33 (min o 8)

def State.routeBucket (s : State) (o : Nat) : Nat := s.setting 34 (min o 8)

/-- The fixed domain of a host transmit queue, or of a control-plane queue at 256 + q (R156). -/
def State.fixedDomain (s : State) (q : Nat) : Nat := s.setting 35 q

/-- The order class of a domain (R155). -/
def State.classOfDomain (s : State) (dom : Nat) : Nat := SMap.get s.img.domClass dom 3 % 4

/-- The registry key of a droplet's source, as classification looks it up (Table 6.8): the SA, or the CAN identifier. -/
def sourceKey (inPort : Nat) (sa ident : Nat) : Option (Nat × Nat × Nat) :=
  if inPort < 0x30 || 0x50 ≤ inPort then some (1, 0, sa)
  else if inPort < 0x40 then some (2, inPort, ident)
  else none

/-- The FID of a packet on a pass (R209, R210). -/
def State.packetFid (s : State) (inPort : Nat) (bs : List Byte) : Nat :=
  let vid := beNat ((bs.drop 14).take 2) % 4096
  if s.isTpid (beNat ((bs.drop 12).take 2)) && vid != 0 then s.fidOf vid else s.fidOf (s.pvid inPort)

/-- Steps 3 of Sequence 2.1 for one pass: the walk, its counter, and the fields that classification writes. `q` is the
host or control-plane queue of a host droplet, `first` the first pass, `keepBucket` a bucket that the program wrote
(R72). A host or control-plane droplet takes its queue's fixed domain whatever its outcome (R156 over R152, log 62).
The result has the droplet, its parse record, and whether the outcome is a drop. -/
def State.classifyPass (s : State) (d : Droplet) (flk : List Byte) (q : Nat) (first keepBucket : Bool) :
    (Droplet × ParseRec × Bool) × State :=
  let w := s.walkOf d first
  let s := s.countOutcome w.outcome
  let rec_ : ParseRec := { layers := w.layers, endPos := w.pos, outcome := w.outcome, key := w.key }
  let fixed := 0x50 ≤ d.inPort
  let place (dom : Nat) : Nat := if !first then d.domain else if fixed then s.fixedDomain q else dom
  if w.outcome ≠ 0 then
    let dom := place (s.routeDomain w.outcome)
    let d := { d with
      parse := w.outcome, domain := dom, bucket := if keepBucket then d.bucket else s.routeBucket w.outcome
      oclass := if first then s.classOfDomain dom else d.oclass, stream := 0, srcEp := 0, epValid := false, learn := false }
    ((d, rec_, s.isDrop w), s)
  else
    let a := s.classify d.version w.key d.inPort
    let w0 := entryWord a 0
    let w1 := entryWord a 1
    let w2 := entryWord a 2
    let dom := (bits w0 0 16 + d.hash / 65536 % 2 ^ bits w0 16 4) % 65536
    let bkt := (bits w0 20 12 + d.hash % 2 ^ bits w1 0 4) % 4096
    let dom := place dom
    let bs := (s.pktBytes d 0 16).getD []
    let sa := beNat ((bs.drop 6).take 6)
    let (ep, s) : Option Nat × State :=
      if bitOf w1 18 then
        match sourceKey d.inPort sa (flkNum flk 0x20 4) with
        | some (k, p, a) => s.epLookup k p a d.inPort
        | none => (none, s)
      else (none, s)
    let learn := bitOf w1 17
    let s := if learn && d.inPort < 0x30 then s.learnAsk (.learn (s.packetFid d.inPort bs) sa d.inPort) else s
    let d := { d with
      parse := 0, domain := dom, bucket := if keepBucket then d.bucket else bkt
      oclass := if first then s.classOfDomain dom else d.oclass, stream := bits w1 4 13
      srcEp := ep.getD 0, epValid := ep.isSome, learn := learn }
    ((d, { rec_ with param := bits w2 0 13, paramValid := bitOf w2 13 }, false), s)

end Sys2Proof.Machine
end

