-- ==== Sys2Proof/Machine/Stream.lean ====
section
/-! DEFINITION. The Sluice's stream stage: gate control lists of ports and stream gates, meters, sequence recovery and
generation, and the order of R580 (R579 to R591, R604 to R616, R936). -/

namespace Sys2Proof.Machine

/-! ### Gate control lists -/

/-- The key of a gate list: port p, or stream gate g at 32 + g. -/
def gateKey (sg : Bool) (i : Nat) : Nat := if sg then 32 + i else i

def State.gateRun (s : State) (sg : Bool) (i : Nat) : GateRun := SMap.get s.slu.gates (gateKey sg i) {}

def State.setGateRun (s : State) (sg : Bool) (i : Nat) (g : GateRun) : State :=
  { s with slu := { s.slu with gates := SMap.put s.slu.gates (gateKey sg i) g {} } }

def State.gateDom (s : State) (sg : Bool) (i : Nat) : Nat :=
  s.fld (if sg then Reg.SLU_SGATE_DOM else Reg.SLU_PORT_GATE_DOM) i 0

/-- The operational list runs: GATE_EN or EN is set and a list has been installed (R607, R616, R936). -/
def State.gateRuns (s : State) (sg : Bool) (i : Nat) : Bool :=
  s.on (if sg then Reg.SLU_SGATE_EN else Reg.SLU_PORT_GATE_EN) i 0 && !(s.gateRun sg i).oper.isEmpty

def State.operCycle (s : State) (sg : Bool) (i : Nat) : Nat :=
  max 1 (s.fld (if sg then Reg.SLU_SGATE_OPER_CYCLE else Reg.SLU_PORT_OPER_CYCLE) i 0)

/-- The pending change time, and the extension before it (R609, R610). -/
def State.gateChange (s : State) (sg : Bool) (i : Nat) : Option (Nat × Nat) :=
  if sg then
    if s.on Reg.SLU_SGATE_CONFIG_PENDING i 0 then
      some (s.fld Reg.SLU_SGATE_CHANGE_TIME i 0, s.fld Reg.SLU_SGATE_ADMIN_EXT i 0)
    else none
  else if s.on Reg.SLU_PORT_CONFIG_PENDING i 0 then
    some (s.fld Reg.SLU_PORT_CHANGE_TIME i 0, s.fld Reg.SLU_PORT_ADMIN_EXT i 0)
  else none

/-- The offset into the running cycle at network time n, on the grid base + k × cycle; a cycle due to start within the
extension before a pending change does not start (R607, R610, R936). -/
def cycleOffset (base cycle n : Nat) (change : Option (Nat × Nat)) : Nat :=
  let off := (((n : Int) - base) % (cycle : Int)).toNat
  match change with
  | none => off
  | some (cct, ext) =>
    let start : Int := (n : Int) - off
    if n < cct && (cct : Int) - start < ext then
      let lim : Int := (cct : Int) - ext
      ((n : Int) - (lim - (lim - base) % (cycle : Int))).toNat
    else off

/-- The entry that holds at an offset; the last one holds beyond the list's end (R607). -/
def entryAt : List GateEnt → Nat → Nat
  | [], _ => 0
  | [_], _ => 0
  | e :: es, off => if off < e.interval then 0 else 1 + entryAt es (off - e.interval)

/-- The offset and the entry of a running list now. -/
def State.gateOffset (s : State) (sg : Bool) (i : Nat) : Nat :=
  cycleOffset (s.gateRun sg i).base (s.operCycle sg i) (s.net (s.gateDom sg i)) (s.gateChange sg i)

def State.gateEntry (s : State) (sg : Bool) (i : Nat) : Nat := entryAt (s.gateRun sg i).oper (s.gateOffset sg i)

/-- The cycle's segments in order, as duration and gates: entries cut at the cycle end, the last held to it (R607). -/
def segments : List GateEnt → Nat → List (Nat × Nat)
  | [], _ => []
  | [e], left => [(left, e.gates)]
  | e :: es, left => if left ≤ e.interval then [(left, e.gates)] else (e.interval, e.gates) :: segments es (left - e.interval)

/-- Time for which class c stays open over segments from an offset; none where no segment closes it. -/
def openFor (c : Nat) : List (Nat × Nat) → Nat → Option Nat
  | [], _ => none
  | (d, g) :: rest, off =>
    if d ≤ off then openFor c rest (off - d)
    else if !bitOf g c then some 0
    else (openFor c rest 0).map (d - off + ·)

/-- The time until gate c of a port next closes (R613); none where it does not. -/
def State.gateLeft (s : State) (p c : Nat) : Option Nat :=
  if !s.gateRuns false p then none
  else
    let segs := segments (s.gateRun false p).oper (s.operCycle false p)
    openFor c (segs ++ segs ++ segs) (s.gateOffset false p)

/-- The longest run of open time of class c over segments, with the run so far (R614). -/
def longestRun (c : Nat) : List (Nat × Nat) → Nat → Nat
  | [], run => run
  | (d, g) :: rest, run => if bitOf g c then longestRun c rest (run + d) else max run (longestRun c rest 0)

/-- The longest open interval of class c; none where the gate never closes. -/
def State.longestOpen (s : State) (p c : Nat) : Option Nat :=
  if !s.gateRuns false p then none
  else
    let segs := segments (s.gateRun false p).oper (s.operCycle false p)
    if segs.all fun e => bitOf e.2 c then none else some (longestRun c (segs ++ segs) 0)

/-- A class's gate is open now. -/
def State.gateOpen (s : State) (p c : Nat) : Bool := bitOf (s.fld Reg.SLU_PORT_GATE_STATE p 0) c

/-- A frame being sent whose gate has closed is counted (R615). -/
def State.countOverrun (s : State) (p before after : Nat) : State :=
  [2 * p, 2 * p + 1].foldl (fun s m =>
    match SMap.find s.slu.sending m with
    | none => s
    | some c =>
      if bitOf before (c.q % 8) && !bitOf after (c.q % 8) then
        (s.bump Reg.SLU_OVERRUN_CNT).eventSup Reg.SLU_INT_STATUS_OVERRUN Reg.SLU_INT_EN_OVERRUN
      else s) s

/-- A port's gates, hold and entry take the states of the entry that now holds (R607, R608). -/
def State.portGates (s : State) (p : Nat) : State :=
  let before := s.fld Reg.SLU_PORT_GATE_STATE p 0
  if !s.gateRuns false p then
    s.setAll [(Reg.SLU_PORT_GATE_STATE, p, 0, 255), (Reg.SLU_PORT_HOLD, p, 0, 0), (Reg.SLU_PORT_OPER_ENTRY, p, 0, 0)]
  else
    let n := s.gateEntry false p
    let e := (s.gateRun false p).oper.getD n {}
    let hold := if e.op = 1 then 1 else if e.op = 2 then 0 else s.fld Reg.SLU_PORT_HOLD p 0
    (s.setAll [(Reg.SLU_PORT_GATE_STATE, p, 0, e.gates), (Reg.SLU_PORT_HOLD, p, 0, hold),
      (Reg.SLU_PORT_OPER_ENTRY, p, 0, n)]).countOverrun p before e.gates

/-- A stream gate takes the state of the entry that now holds; with EN clear it is open, and closed by CLOSE_INVALID it stays
closed (R583, R616). A new entry starts with no bytes passed. -/
def State.streamGate (s : State) (g : Nat) (fresh : Bool) : State :=
  let run := s.gateRun true g
  let n := if s.gateRuns true g then s.gateEntry true g else 0
  let e := run.oper.getD n {}
  let open_ := if s.gateRuns true g then bitOf e.gates 0 && !s.on Reg.SLU_SGATE_CLOSED_INVALID g 0 else true
  let octets := if fresh || n ≠ s.fld Reg.SLU_SGATE_OPER_ENTRY g 0 then 0 else run.octets
  (s.setGateRun true g { run with octets := octets }).setAll
    [(Reg.SLU_SGATE_OPEN, g, 0, flagBit open_), (Reg.SLU_SGATE_OPER_ENTRY, g, 0, n)]

/-- GATE_EVENT: the next entry of a list takes effect (R607, R608, R616). -/
def gateEvent (s : State) (now : Nat) (sg : Bool) (i : Nat) : State :=
  let s := s.upTo now
  if !s.imageRuns then s
  else if sg then s.streamGate i true
  else if i < 32 then s.portGates i else s

/-- Entry n of an admin list. -/
def State.adminEntry (s : State) (sg : Bool) (i n : Nat) : GateEnt :=
  if sg then
    let k := i * 256 + n
    { interval := s.fld Reg.SLU_SGATE_ENTRY_INTERVAL k 0, gates := s.fld Reg.SLU_SGATE_ENTRY_OPEN k 0, op := 0
      octets := s.fld Reg.SLU_SGATE_ENTRY_OCTETS k 0 }
  else
    let k := i * 1024 + n
    { interval := s.fld Reg.SLU_GCL_ENTRY_INTERVAL k 0, gates := s.fld Reg.SLU_GCL_ENTRY_GATES k 0
      op := s.fld Reg.SLU_GCL_ENTRY_OP k 0, octets := 0 }

def State.adminLen (s : State) (sg : Bool) (i : Nat) : Nat :=
  s.fld (if sg then Reg.SLU_SGATE_ADMIN_LEN else Reg.SLU_PORT_ADMIN_LEN) i 0

def State.adminCycle (s : State) (sg : Bool) (i : Nat) : Nat :=
  s.fld (if sg then Reg.SLU_SGATE_ADMIN_CYCLE else Reg.SLU_PORT_ADMIN_CYCLE) i 0

def State.adminBase (s : State) (sg : Bool) (i : Nat) : Nat :=
  s.fld (if sg then Reg.SLU_SGATE_ADMIN_BASE else Reg.SLU_PORT_ADMIN_BASE) i 0

/-- The admin list and its parameters become operational on the grid of a base (R610, R936). -/
def State.installList (s : State) (sg : Bool) (i base : Nat) : State :=
  let len := s.adminLen sg i
  let s := s.setGateRun sg i { oper := (List.range len).map fun n => s.adminEntry sg i n, base := base, octets := 0 }
  let s := if sg then
      s.setAll [(Reg.SLU_SGATE_OPER_CYCLE, i, 0, s.adminCycle true i), (Reg.SLU_SGATE_OPER_LEN, i, 0, len),
        (Reg.SLU_SGATE_CONFIG_PENDING, i, 0, 0), (Reg.SLU_SGATE_CHANGE_TIME, i, 0, base)]
    else
      s.setAll [(Reg.SLU_PORT_OPER_CYCLE, i, 0, s.adminCycle false i), (Reg.SLU_PORT_OPER_LEN, i, 0, len),
        (Reg.SLU_PORT_CONFIG_PENDING, i, 0, 0), (Reg.SLU_PORT_CHANGE_TIME, i, 0, base)]
  if sg then s.streamGate i true else s.portGates i

/-- GCL_CONFIG_SWAP: at its change time a pending list becomes operational (R610). -/
def gclConfigSwap (s : State) (now : Nat) (sg : Bool) (i : Nat) : State :=
  let s := s.upTo now
  if !s.imageRuns || (!sg && 32 ≤ i) then s
  else
    match s.gateChange sg i with
    | none => s
    | some (cct, _) =>
      if s.net (s.gateDom sg i) < cct then s
      else (s.installList sg i cct).eventSup Reg.SLU_INT_STATUS_CONFIG_DONE Reg.SLU_INT_EN_CONFIG_DONE

/-- The change time of a request at network time n (R609). -/
def changeTime (n base cycle : Nat) : Nat :=
  if n + 2000 ≤ base then base else base + (n + 2000 - base + cycle - 1) / cycle * cycle

/-- The admin parameters pass the check of R609. -/
def State.adminOk (s : State) (sg : Bool) (i : Nat) : Bool :=
  let len := s.adminLen sg i
  let cycle := s.adminCycle sg i
  let ext := s.fld (if sg then Reg.SLU_SGATE_ADMIN_EXT else Reg.SLU_PORT_ADMIN_EXT) i 0
  len != 0 && len ≤ (if sg then 256 else 1024) && 1000 ≤ cycle && cycle ≤ 1000000000 && ext < cycle &&
    (List.range len).all fun n => 16 ≤ (s.adminEntry sg i n).interval

/-- CONFIG_CHANGE takes effect: the change time is fixed (R609). -/
def State.configChange (s : State) (sg : Bool) (i : Nat) : State :=
  let cct := changeTime (s.net (s.gateDom sg i)) (s.adminBase sg i) (s.adminCycle sg i)
  if sg then s.setAll [(Reg.SLU_SGATE_CONFIG_PENDING, i, 0, 1), (Reg.SLU_SGATE_CHANGE_TIME, i, 0, cct)]
  else s.setAll [(Reg.SLU_PORT_CONFIG_PENDING, i, 0, 1), (Reg.SLU_PORT_CHANGE_TIME, i, 0, cct)]

/-! ### Meters (R604 to R606) -/

/-- Bucket of a meter in millibits: 0 committed, 1 peak or excess. -/
def State.meterBucket (s : State) (m n : Nat) : Int := SMap.get s.slu.bucket (2 * m + n) 0

def State.setMeterBucket (s : State) (m n : Nat) (v : Int) : State :=
  { s with slu := { s.slu with bucket := SMap.put s.slu.bucket (2 * m + n) v 0 } }

/-- The fields of a meter that bank 0 holds as written and bank 1 as they are in effect: a write takes effect at the next
refill (R606). -/
def meterFields : List Fld :=
  [Reg.SLU_METER_MODE, Reg.SLU_METER_COLOUR_SRC, Reg.SLU_METER_DROP_RED, Reg.SLU_METER_ADJ]

def State.latchMeter (s : State) (m : Nat) : State := meterFields.foldl (fun s f => s.setFld f m 1 (s.fld f m 0)) s

/-- A red result of a meter dries the frame. -/
def State.dropsRed (s : State) (m : Nat) : Bool := s.on Reg.SLU_METER_DROP_RED m 1

/-- One refill of a meter (R604); a bucket above a new cap is clipped here (R606). -/
def State.meterRefillOne (s : State) (m : Nat) : State :=
  let s := s.latchMeter m
  let c := min (s.meterBucket m 0 + s.fld Reg.SLU_METER_CIR m 0) (s.fld Reg.SLU_METER_CBS m 0 * 8000)
  let p := min (s.meterBucket m 1 + s.fld Reg.SLU_METER_PIR m 0) (s.fld Reg.SLU_METER_PBS m 0 * 8000)
  (s.setMeterBucket m 0 c).setMeterBucket m 1 p

/-- The meters that have tokens to gain or to lose: those with a nonzero field or bucket. -/
def State.metersInUse (s : State) : List Nat :=
  let named := s.regs.filterMap fun e =>
    let w := e.1 / 16777216 / 32
    if w / 65536 = 35 then some (e.1 % 16777216 / 8) else none
  (named ++ s.slu.bucket.map fun (e : Nat × Int) => e.1 / 2).eraseDups

/-- METER_REFILL: each whole microsecond (R604). -/
def meterRefill (s : State) (now : Nat) : State :=
  let s := s.upTo now
  if !s.imageRuns then s else s.metersInUse.foldl (fun s m => s.meterRefillOne m) s

/-- What a meter gives a frame of B millibits and an input colour: the colour and the buckets (R604, R605). -/
def meterOutcome (mode : Nat) (input : Nat) (b c p : Int) : Nat × Int × Int :=
  if input = 2 then (2, c, p)
  else if mode = 0 then
    if p < b then (2, c, p)
    else if input = 1 || c < b then (1, c, p - b)
    else (0, c - b, p - b)
  else if input = 0 && b ≤ c then (0, c - b, p)
  else if b ≤ p then (1, c, p - b)
  else (2, c, p)

/-- A meter measures a frame: its colour, counted (R604, R605). -/
def State.meter (s : State) (m len colour : Nat) (dei : Bool) : Nat × State :=
  let b : Int := ((len : Int) + signed 8 (s.fld Reg.SLU_METER_ADJ m 1)) * 8000
  let src := s.fld Reg.SLU_METER_COLOUR_SRC m 1
  let input := if src = 1 then colour else if src = 2 then flagBit dei else 0
  let (out, c, p) := meterOutcome (s.fld Reg.SLU_METER_MODE m 1) input b (s.meterBucket m 0) (s.meterBucket m 1)
  let s := (s.setMeterBucket m 0 c).setMeterBucket m 1 p
  (out, s.satBump (if out = 0 then Reg.SLU_METER_GREEN else if out = 1 then Reg.SLU_METER_YELLOW else Reg.SLU_METER_RED) m 1)

/-! ### Sequence recovery (R586 to R590) -/

def State.srfRun (s : State) (f : Nat) : SrfRun := SMap.get s.slu.srf f {}

def State.setSrfRun (s : State) (f : Nat) (r : SrfRun) : State :=
  { s with slu := { s.slu with srf := SMap.put s.slu.srf f r {} } }

/-- Unset bits among bits [hi − 1 : lo] of a history. -/
def unsetBits (h lo n : Nat) : Nat := ((List.range n).filter fun i => !bitOf h (lo + i)).length

/-- A pass: counted, and the reset timer restarts. -/
def State.srfPass (s : State) (f hist recov : Nat) : State :=
  let s := s.setSrfRun f { hist := hist, timer := some (s.now + s.fld Reg.SLU_SRF_RESET_MS f 0 * 1000000) }
  (s.setFld Reg.SLU_SRF_RECOV f 0 recov).satBump Reg.SLU_SRF_PASSED f 1

/-- A recovery function on a droplet's sequence number: whether it passes (R586, R587). -/
def State.recover (s : State) (f n : Nat) : Bool × State :=
  let hlen := s.fld Reg.SLU_SRF_HLEN f 0
  let recov := s.fld Reg.SLU_SRF_RECOV f 0
  let hist := (s.srfRun f).hist
  if s.on Reg.SLU_SRF_ALGO f 0 then
    if s.on Reg.SLU_SRF_TAKE_ANY f 0 || n ≠ recov then
      (true, (s.setFld Reg.SLU_SRF_TAKE_ANY f 0 0).srfPass f hist n)
    else (false, s.satBump Reg.SLU_SRF_DISCARDED f 1)
  else if s.on Reg.SLU_SRF_TAKE_ANY f 0 then (true, (s.setFld Reg.SLU_SRF_TAKE_ANY f 0 0).srfPass f 1 n)
  else
    let d : Int := ((n : Int) - recov + 32768) % 65536 - 32768
    if (hlen : Int) ≤ d || d ≤ -(hlen : Int) then
      (false, (s.satBump Reg.SLU_SRF_ROGUE f 1).satBump Reg.SLU_SRF_DISCARDED f 1)
    else if 0 < d then
      let k := d.toNat
      let s := s.satBump Reg.SLU_SRF_LOST f (unsetBits hist (hlen - k) k)
      let s := if 1 < k then s.satBump Reg.SLU_SRF_OUT_OF_ORDER f 1 else s
      (true, s.srfPass f (hist * 2 ^ k % 2 ^ hlen + 1) n)
    else
      let k := (-d).toNat
      if bitOf hist k then (false, s.satBump Reg.SLU_SRF_DISCARDED f 1)
      else (true, (s.satBump Reg.SLU_SRF_OUT_OF_ORDER f 1).srfPass f (hist + 2 ^ k) recov)

/-- SRF_RESET_TIMEOUT: RESET_MS ms after the last pass, TAKE_ANY is set (R586). -/
def srfResetTimeout (s : State) (now f : Nat) : State :=
  let s := s.upTo now
  match (s.srfRun f).timer with
  | none => s
  | some t =>
    if s.now < t then s
    else
      let s := (s.setSrfRun f { s.srfRun f with timer := none }).setFld Reg.SLU_SRF_TAKE_ANY f 0 1
      (s.satBump Reg.SLU_SRF_RESETS f 1).eventSup Reg.SLU_INT_STATUS_SRF_RESET Reg.SLU_INT_EN_SRF_RESET

/-! ### The stream functions of one droplet (R580) -/

/-- What the stream stage makes of a droplet: the reason it is dried with (0: it passes), the droplet, and whether step 6 of
Sequence 14.1 inserts or removes an R-TAG. -/
structure Streamed where
  reason : Nat := 0
  d : Droplet := {}
  encode : Bool := false
  strip : Bool := false
  deriving DecidableEq, Repr

/-- Step 1: sequence recovery. -/
def State.streamRecover (s : State) (d : Droplet) : Nat × State :=
  let f := d.stream
  let r := s.fld Reg.SLU_FILTER_SRF f 0
  if !s.on Reg.SLU_FILTER_SRF_EN f 0 || !s.on Reg.SLU_SRF_EN r 0 then (0, s)
  else if d.frerTag then
    let (pass, s) := s.recover r d.frerSeq
    (if pass then 0 else dryFrerDuplicate, s)
  else (if s.on Reg.SLU_SRF_TAKE_NO_SEQ r 0 then 0 else dryFiltered, s)

/-- Step 2: the size check (R582). -/
def State.streamSize (s : State) (f len : Nat) : Nat × State :=
  if s.on Reg.SLU_FILTER_BLOCKED f 0 then (dryFiltered, s)
  else
    let m := s.fld Reg.SLU_FILTER_MAX_SDU f 0
    if m = 0 || len ≤ m then (0, s)
    else
      let s := s.satBump Reg.SLU_FILTER_SDU_FAIL f 1
      (dryFiltered,
        if s.on Reg.SLU_FILTER_BLOCK_EN f 0 then
          (s.setFld Reg.SLU_FILTER_BLOCKED f 0 1).eventSup Reg.SLU_INT_STATUS_FILTER_BLOCKED Reg.SLU_INT_EN_FILTER_BLOCKED
        else s)

/-- Step 3: the stream gate (R583). -/
def State.streamGateCheck (s : State) (f len : Nat) : Nat × State :=
  let g := s.fld Reg.SLU_FILTER_GATE f 0
  if !s.on Reg.SLU_FILTER_GATE_EN f 0 || !s.on Reg.SLU_SGATE_EN g 0 then (0, s)
  else if !s.on Reg.SLU_SGATE_OPEN g 0 then
    let s := s.satBump Reg.SLU_FILTER_GATE_FAIL f 1
    (dryFiltered,
      if s.on Reg.SLU_SGATE_CLOSE_INVALID g 0 && !s.on Reg.SLU_SGATE_CLOSED_INVALID g 0 then
        (s.setFld Reg.SLU_SGATE_CLOSED_INVALID g 0 1).eventSup Reg.SLU_INT_STATUS_GATE_CLOSED_INVALID
          Reg.SLU_INT_EN_GATE_CLOSED_INVALID
      else s)
  else
    let run := s.gateRun true g
    let lim := if s.gateRuns true g then (run.oper.getD (s.fld Reg.SLU_SGATE_OPER_ENTRY g 0) {}).octets else 0
    if lim ≠ 0 && lim < run.octets + len then (dryFiltered, s.satBump Reg.SLU_FILTER_GATE_FAIL f 1)
    else (0, s.setGateRun true g { run with octets := run.octets + len })

/-- Step 4: the flow meter (R584): the reason and the colour. -/
def State.streamMeter (s : State) (d : Droplet) (len : Nat) (dei : Bool) : Nat × Nat × State :=
  let f := d.stream
  if !s.on Reg.SLU_FILTER_METER_EN f 0 then (0, d.colour, s)
  else
    let m := s.fld Reg.SLU_FILTER_METER f 0
    let (out, s) := s.meter m len d.colour dei
    let s := if out = 2 then s.satBump Reg.SLU_FILTER_RED f 1 else s
    (if out = 2 && s.dropsRed m then dryPolicedRed else 0, out, s)

/-- Step 5: sequence generation (R585). -/
def State.streamGenerate (s : State) (d : Droplet) : Streamed × State :=
  let f := d.stream
  let g := s.fld Reg.SLU_FILTER_SGF f 0
  let strip := s.on Reg.SLU_FILTER_SRF_EN f 0 && s.on Reg.SLU_FILTER_SRF_STRIP f 0
  if !s.on Reg.SLU_FILTER_SGF_EN f 0 || !s.on Reg.SLU_SGF_EN g 0 then ({ d := d, strip := strip }, s)
  else
    let n := s.fld Reg.SLU_SGF_NEXT_SEQ g 0
    ({ d := { d with frerSeq := n }, encode := s.on Reg.SLU_SGF_ENCODE g 0, strip := strip },
      (s.setFld Reg.SLU_SGF_NEXT_SEQ g 0 (n + 1)).satBump Reg.SLU_SGF_GENERATED g 1)

/-- The stream stage on a released droplet of current length `len` (R580); a droplet whose filter has EN clear passes with
COLOUR 0. -/
def State.streamStage (s : State) (d : Droplet) (len : Nat) (dei : Bool) : Streamed × State :=
  let f := d.stream
  let d := { d with colour := 0 }
  if !s.on Reg.SLU_FILTER_EN f 0 then ({ d := d }, s)
  else
    let s := s.satBump Reg.SLU_FILTER_MATCHING f 1
    match s.streamRecover d with
    | (0, s) =>
      match s.streamSize f len with
      | (0, s) =>
        match s.streamGateCheck f len with
        | (0, s) =>
          match s.streamMeter d len dei with
          | (0, colour, s) => ({ d with colour := colour } |> (s.satBump Reg.SLU_FILTER_PASSING f 1).streamGenerate)
          | (r, colour, s) => ({ reason := r, d := { d with colour := colour } }, s)
        | (r, s) => ({ reason := r, d := d }, s)
      | (r, s) => ({ reason := r, d := d }, s)
    | (r, s) => ({ reason := r, d := d }, s)

end Sys2Proof.Machine
end

