-- ==== Sys2Proof/Machine/Sluice.lean ====
section
/-! DEFINITION. The Sluice from release to the wire: copies, queues, transmission selection, shapers, pause, and what a
link loss, a flush or a reset does to queued copies (Sequence 14.1, R592 to R603, R613 to R621, R749 to R753). -/

namespace Sys2Proof.Machine

/-! ### Queues -/

/-- The copies of a network queue, oldest first. -/
def State.queueOf (s : State) (q : Nat) : List Copy := SMap.get s.slu.queues q []

def State.setQueue (s : State) (q : Nat) (l : List Copy) : State :=
  { s with slu := { s.slu with queues := SMap.put s.slu.queues q l [] } }

/-- Copies queued on network ports (R594). -/
def State.copiesQueued (s : State) : Nat := s.slu.queues.foldl (fun n e => n + e.2.length) 0

/-- Bytes queued: the current lengths of the copies. -/
def queueBytes (l : List Copy) : Nat := l.foldl (fun n c => n + c.len) 0

/-- The spill queue of a HOSTQ object (Tables 11.2 and 14.9), and the object of a spill queue. -/
def hostSpill (i : Nat) : Nat := if i < 256 then i else i + 4

/-- The port exists in the lane plan (Table 18.12). -/
def State.portExists (s : State) (p : Nat) : Bool := s.on Reg.EDG_PORT_MODE p 0

/-- The transmit side of a port's MACsec SA. -/
def State.macsec (s : State) (p : Nat) : MacsecTx := SMap.get s.edg.macsec p {}

/-- The port's link is down, as the Sluice sees it: an exhausted packet number counts as a link that is down (R749). -/
def State.linkDown (s : State) (p : Nat) : Bool := !s.on Reg.SLU_PORT_LINK p 0 || (s.macsec p).exhausted

/-- The reason with which a port without link dries copies (R126). -/
def State.linkReason (s : State) (p : Nat) : Nat := if s.on Reg.SLU_PORT_PLUG p 0 then dryPortGone else dryLinkLost

/-- The queue's meter on a copy: the reason of a red result that the meter drops, and the copy with its colour (R596). -/
def State.queueMeter (s : State) (c : Copy) (en mt : Fld) (i : Nat) : Nat × Copy × State :=
  if !s.on en i 0 then (0, c, s)
  else
    let m := s.fld mt i 0
    let (out, s) := s.meter m c.len c.d.colour c.dei
    (if out = 2 && s.dropsRed m then dryPolicedRed else 0, { c with d := { c.d with colour := out } }, s)

/-- A network queue takes frames: port and class are up; the fallback bridge has every one up. -/
def State.netUp (s : State) (q : Nat) : Bool :=
  s.bridgeRuns || (s.fld Reg.SLU_PORT_STATE (q / 8) 0 == 1 && s.fld Reg.SLU_CLASS_STATE q 0 == 1)

/-- A network queue has no room for a copy (R594, Table 14.2); under the fallback bridge only the device's limit holds
(DESIGN CHOICE, log entry 170). -/
def State.netFull (s : State) (q : Nat) (c : Copy) : Bool :=
  let l := s.queueOf q
  131072 ≤ s.copiesQueued || (!s.bridgeRuns && (s.fld Reg.SLU_CLASS_MAX_FRAMES q 0 ≤ l.length ||
    s.fld Reg.SLU_CLASS_MAX_KIB q 0 * 1024 < queueBytes l + c.len ||
    (c.d.colour = 1 && s.fld Reg.SLU_CLASS_YELLOW_FRAMES q 0 ≤ l.length)))

/-- The queue stage for a network queue (Table 14.2): admits the copy or dries it. -/
def State.admitNet (s : State) (c : Copy) : State :=
  let q := c.q
  let p := q / 8
  let sdu := s.fld Reg.SLU_CLASS_MAX_SDU q 0
  if s.linkDown p then s.dryCopy c (s.linkReason p)
  else if !s.netUp q then s.dryCopy c dryFiltered
  else if sdu ≠ 0 && sdu < c.len then s.dryCopy c dryGateOverrun
  else
    match s.queueMeter c Reg.SLU_CLASS_METER_EN Reg.SLU_CLASS_METER q with
    | (0, c, s) => if s.netFull q c then s.dryCopy c dryNoBuffer else s.setQueue q (s.queueOf q ++ [c])
    | (r, c, s) => s.dryCopy c r

/-- Frames queued on a bus, by IN_PORT of the segment or channel (R765, R766). -/
def State.txQueue (s : State) (src : Nat) : List EdgeTx := SMap.get s.edg.txq src []

def State.setTxQueue (s : State) (src : Nat) (l : List EdgeTx) : State :=
  let s := { s with edg := { s.edg with txq := SMap.put s.edg.txq src l [] } }
  if 48 ≤ src then s.setFld Reg.EDG_CAN_TXQ (src - 48) 0 l.length else s

/-- Room of a target's transmit queue. -/
def State.txRoom (s : State) (src : Nat) : Nat := (if src < 48 then 8 else 16) - (s.txQueue src).length

/-- The queue of a segment, for a copy of the fallback bridge. -/
def State.admitBus (s : State) (c : Copy) : State :=
  let src := c.q - 1024
  if !s.edg.phy.contains src then s.dryCopy c dryLinkLost
  else if s.txRoom src = 0 then s.dryCopy c dryNoBuffer
  else s.setTxQueue src (s.txQueue src ++ [{ handle := c.d.head, len := c.len, bytes := s.packet c.d, copy := some c }])

/-- The queue stage for a host or control-plane queue, HOSTQ object i (Table 14.2, R706). -/
def State.admitHost (s : State) (c : Copy) (i : Nat) : State :=
  let p := i / 64
  let k := spillKey (hostSpill i)
  if i < 256 && s.on Reg.HST_STATUS_RESET_BUSY 0 p then s.dryCopy c dryPartitionReset
  else if i < 256 && s.dormant p then (s.bump Reg.SLU_DORMANT_CNT).dryCopy c dryFiltered
  else if s.fld Reg.SLU_HOSTQ_STATE i 0 ≠ 1 then s.dryCopy c dryFiltered
  else
    match s.queueMeter c Reg.SLU_HOSTQ_METER_EN Reg.SLU_HOSTQ_METER i with
    | (0, c, s) =>
      let fill := s.chFill k + 5
      if s.fld Reg.SLU_HOSTQ_LIMIT i 0 < fill || s.chCap k < fill ||
          (c.d.colour = 1 && s.fld Reg.SLU_HOSTQ_YELLOW_LIMIT i 0 < fill) then s.dryCopy c dryNoBuffer
      else
        let s := s.setHostCopies (hostSpill i) (s.hostCopies (hostSpill i) ++ [c])
        ((s.satBump Reg.SLU_HOSTQ_DELIVERED i 1).chAppendPacket k c.words).chServeAll k
    | (r, c, s) => s.dryCopy c r

/-- The queue stage: a copy is admitted to its queue or dried (R593). -/
def State.admitCopy (s : State) (c : Copy) : State :=
  if c.q < 512 then s.admitNet c else if c.q < 1024 then s.admitHost c (c.q - 512) else s.admitBus c

/-! ### From release to the queues (Sequence 14.1, steps 2 to 4) -/

/-- The queue of an EGRESS value that names one queue: network port × 8 + class, 512 + HOSTQ object, or a segment's. -/
def egressQueue (e : Nat) : Nat :=
  if busTarget 0 ≤ e then 1024 + (e - busTarget 0)
  else
    match decodeEgress e with
    | some (.port p c) => p * 8 + c
    | some (.host p q) => 512 + p * 64 + q
    | some (.cp q) => 512 + 256 + q
    | _ => 0

/-- The EGRESS values of a droplet's copies: its own, or the members of its list (R77). -/
def State.copyTargets (s : State) (e : Nat) : List Nat :=
  match decodeEgress e with
  | some (.list n) => s.members n
  | _ => [e]

/-- The copies of a droplet: each after the first takes a reference to each buffer, or is not made (R78, R79). The list holds
each target with its COPY number. -/
def State.makeCopies (s : State) (c : Copy) : List (Nat × Nat) → Bool → List Copy × State
  | [], _ => ([], s)
  | (e, n) :: rest, first =>
    if !first && !s.refRoom c.d then
      let v := s.journey c.jid
      let s := (s.countDry dryNoBuffer 1).setJourney c.jid { v with reasons := v.reasons.set (n - 1) dryNoBuffer }
      (s.dryTrigger c.d dryNoBuffer).makeCopies c rest first
    else
      let s := if first then s else s.addRefs c.d
      let (l, s) := (s.bump Reg.SLU_COPY_CNT).makeCopies c rest false
      ({ c with d := { c.d with copy := n }, q := egressQueue e } :: l, s)

/-- A released SENT slot enters the Sluice (R92): the stream stage, the copies and the queue stage. -/
def State.sluiceTake (s : State) (sl : Slot) : State :=
  let d := sl.d
  let len := s.pktLen d
  let dei := bitOf (flkNum sl.flk 0x0E 2) 12
  let targets := s.copyTargets d.egress
  let n := targets.length
  let list := match decodeEgress d.egress with
    | some (.list _) => true
    | _ => false
  let (st, s) := s.streamStage d len dei
  let zeros (r : Nat) : List Nat := List.replicate n r
  if st.reason ≠ 0 then
    let s := ((s.countDry st.reason n).setJourney sl.age
      { d := st.d, left := 0, reasons := zeros st.reason, status := 0, crc := sl.crc }).journeyEnd sl.age
    (s.dropRefs d 6 6 0).dryTrigger d st.reason
  else
    let s := s.setJourney sl.age { d := st.d, left := n, reasons := zeros 0, status := 0, crc := sl.crc }
    let c : Copy := { d := st.d, len := len, encode := st.encode, strip := st.strip, dei := dei, jid := sl.age }
    let (copies, s) := s.makeCopies c (targets.zipIdx.map fun e => (e.1, if list then e.2 + 1 else 0)) true
    let s := s.setJourney sl.age { s.journey sl.age with left := copies.length }
    let s := if copies.isEmpty then (s.dropRefs d 6 6 0).journeyEnd sl.age else s
    copies.foldl (fun s c => s.admitCopy c) s

/-! ### The frame on the wire (R585, R589, R600) -/

/-- The offset after the last VLAN tag, or after the source address; the number bounds the tags. -/
def State.tagEnd (s : State) (bs : List Byte) : Nat → Nat → Nat
  | 0, p => p
  | n + 1, p => if p + 4 ≤ bs.length && s.isTpid (beNat ((bs.drop p).take 2)) then s.tagEnd bs n (p + 4) else p

/-- The frame as the port sends it, without MACsec and FCS: an R-TAG removed or placed (R585, R589). -/
def State.wireBytes (s : State) (c : Copy) : List Byte :=
  let bs := s.packet c.d
  if !c.encode && !c.strip then bs
  else
    let p := s.tagEnd bs bs.length 12
    let has := p + 6 ≤ bs.length && (bs.drop p).take 2 == beBytes 2 0xF1C1
    let rest := bs.drop (if has then p + 6 else p)
    bs.take p ++ (if c.encode then beBytes 2 0xF1C1 ++ [0, 0] ++ beBytes 2 c.d.frerSeq else []) ++ rest

/-- Bytes from the destination address to the FCS inclusive: a SecTAG with its SCI and an ICV, 16 bytes each, where the port
protects the frame. -/
def State.wireLen (s : State) (p : Nat) (c : Copy) : Nat :=
  (s.wireBytes c).length + 4 + if (s.macsec p).installed then 32 else 0

/-- Duration of a frame in ns at the port's speed, its preamble included; rounded up. -/
def State.frameNs (s : State) (p : Nat) (c : Copy) : Nat :=
  let v := max 1 (s.fld Reg.SLU_PORT_SPEED p 0)
  ((s.wireLen p c + 8) * 8000 + v - 1) / v

/-! ### Shapers (R600 to R603) -/

/-- Credit of a shaper in millibits: port p at p, a class's token bucket at 32 + q, its credit-based shaper at 288 + q. -/
def State.credit (s : State) (k : Nat) : Int := SMap.get s.slu.credit k 0

def State.setCredit (s : State) (k : Nat) (v : Int) : State :=
  { s with slu := { s.slu with credit := SMap.put s.slu.credit k v 0 } }

/-- A class has a frame in transmission. -/
def State.sendsClass (s : State) (q : Nat) : Bool :=
  [2 * (q / 8), 2 * (q / 8) + 1].any fun m =>
    match SMap.find s.slu.sending m with
    | some c => c.q == q
    | none => false

/-- One class's shapers at a refill (R601, R602); CBS_LO takes effect here (R603), and stands in bank 1. -/
def State.classRefill (s : State) (q : Nat) : State :=
  let s := s.setCredit (32 + q)
    (min (s.credit (32 + q) + s.fld Reg.SLU_CLASS_TB_RATE q 0) (s.fld Reg.SLU_CLASS_TB_BURST q 0 * 8000))
  let s := s.setFld Reg.SLU_CLASS_CBS_LO q 1 (s.fld Reg.SLU_CLASS_CBS_LO q 0)
  let c := s.credit (288 + q)
  let idle : Int := s.fld Reg.SLU_CLASS_CBS_IDLE q 0
  if !s.gateOpen (q / 8) (q % 8) then s
  else if (s.queueOf q).isEmpty && !s.sendsClass q then s.setCredit (288 + q) (if c < 0 then min (c + idle) 0 else 0)
  else s.setCredit (288 + q) (min (c + idle) (s.fld Reg.SLU_CLASS_CBS_HI q 0 * 8000))

/-- SHAPER_REFILL: each whole microsecond (R600). -/
def shaperRefill (s : State) (now : Nat) : State :=
  let s := s.upTo now
  if !s.imageRuns then s
  else
    let s := (List.range 32).foldl (fun s p => s.setCredit p
      (min (s.credit p + s.fld Reg.SLU_PORT_TB_RATE p 0) (s.fld Reg.SLU_PORT_TB_BURST p 0 * 8000))) s
    (List.range 256).foldl (fun s q => s.classRefill q) s

/-- The credits at the start of a frame (R600 to R602). -/
def State.chargeFrame (s : State) (p : Nat) (c : Copy) : State :=
  let q := c.q
  let cost : Int := (s.wireLen p c + s.fld Reg.SLU_PORT_OVERHEAD p 0) * 8000
  let s := if s.on Reg.SLU_PORT_TB_EN p 0 then s.setCredit p (s.credit p - cost) else s
  let s := if s.on Reg.SLU_CLASS_TB_EN q 0 then s.setCredit (32 + q) (s.credit (32 + q) - cost) else s
  if s.on Reg.SLU_CLASS_CBS_EN q 0 then
    s.setCredit (288 + q) (max (s.credit (288 + q) - cost) (-((s.fld Reg.SLU_CLASS_CBS_LO q 1 : Int) * 8000)))
  else s

/-! ### Transmission selection (R613 to R621) -/

/-- The pin FCIn is asserted for a port (R620). -/
def State.fciStops (s : State) (p c : Nat) : Bool :=
  let level := bitOf s.slu.fci (s.fld Reg.SLU_PORT_FCI_PIN p 0)
  s.on Reg.SLU_PORT_FCI_EN p 0 && bitOf (s.fld Reg.SLU_PORT_FCI_MASK p 0) c && level != s.on Reg.SLU_PORT_FCI_POL p 0

/-- Preemption is active on a port: enabled, and verified or without verification (R617, R751, R752). -/
def State.preempts (s : State) (p : Nat) : Bool :=
  let v := s.fld Reg.EDG_PORT_VERIFY p 0
  s.on Reg.SLU_PORT_PREEMPT p 0 && (v == 2 || (v == 0 && s.verifyOff p))

/-- A class may send its head frame (R617). -/
def State.eligible (s : State) (p c : Nat) : Bool :=
  let q := 8 * p + c
  match s.queueOf q with
  | [] => false
  | f :: _ =>
    s.gateOpen p c &&
    (match s.gateLeft p c with
     | none => true
     | some t => s.frameNs p f ≤ t) &&
    (SMap.find s.slu.pause q).isNone && !s.fciStops p c &&
    (!s.on Reg.SLU_CLASS_TB_EN q 0 || 0 ≤ s.credit (32 + q)) && (!s.on Reg.SLU_CLASS_CBS_EN q 0 || 0 ≤ s.credit (288 + q)) &&
    (!s.on Reg.SLU_PORT_TB_EN p 0 || 0 ≤ s.credit p)

/-- The head frame of a class cannot fit its longest open interval (R614), or its body is lost (R621): the reason. -/
def State.headDry (s : State) (p c : Nat) : Nat :=
  match s.queueOf (8 * p + c) with
  | [] => 0
  | f :: _ =>
    match s.longestOpen p c with
    | some t => if t < s.frameNs p f then dryGateOverrun else 0
    | none => 0

/-- Heads that can never be sent are dried; the number bounds them. -/
def State.dryHeads (s : State) (p c : Nat) : Nat → State
  | 0 => s
  | n + 1 =>
    let r := s.headDry p c
    if r = 0 then s
    else
      match s.queueOf (8 * p + c) with
      | [] => s
      | f :: fs => ((s.setQueue (8 * p + c) fs).dryCopy f r).dryHeads p c n

/-- The MAC m starts the head frame of a class; a body that is lost dries the copy before its first bit (R621), and then
nothing has started. -/
def State.startFrame (s : State) (p c m : Nat) : Bool × State :=
  match s.queueOf (8 * p + c) with
  | [] => (false, s)
  | f :: fs =>
    let s := s.setQueue (8 * p + c) fs
    if s.packetLost f.d then (false, s.dryCopy f dryMemLost)
    else
      let s := s.chargeFrame p f
      (true, { s with slu := { s.slu with sending := SMap.set s.slu.sending m f } })

/-- The highest class of those that may be sent on a MAC. -/
def State.choose (s : State) (p : Nat) (may : Nat → Bool) : Option Nat :=
  (List.range 8).reverse.find? fun c => may c && s.eligible p c

/-- Selection on one MAC; a copy dried with MEM_LOST leaves the choice to the next, and the number bounds the rounds. -/
def State.selectMac (s : State) (p m : Nat) (may : Nat → Bool) : Nat → Bool × State
  | 0 => (false, s)
  | n + 1 =>
    match s.choose p may with
    | none => (false, s)
    | some c =>
      match s.startFrame p c m with
      | (true, s) => (true, s)
      | (false, s) => s.selectMac p m may n

/-- TRANSMISSION_SELECT: the port's MAC starts its next frame, where one may start (R617, R618). -/
def transmissionSelect (s : State) (now p : Nat) : State :=
  let s := s.upTo now
  if !(s.imageRuns || s.bridgeRuns) || s.linkDown p || !s.edg.phy.contains p || s.slu.held.contains p then s
  else
    let n := (List.range 8).foldl (fun n c => n + (s.queueOf (8 * p + c)).length) 0
    let s := (List.range 8).foldl (fun s c => s.dryHeads p c n) s
    let busyE := (SMap.find s.slu.sending (2 * p + 1)).isSome
    let busyP := (SMap.find s.slu.sending (2 * p)).isSome
    let express (c : Nat) : Bool := s.on Reg.SLU_CLASS_EXPRESS (8 * p + c) 0
    if !s.preempts p then
      if busyE || busyP then s else (s.selectMac p (2 * p + 1) (fun _ => true) (n + 1)).2
    else if busyE then s
    else
      match s.selectMac p (2 * p + 1) express (n + 1) with
      | (true, s) => s
      | (false, s) =>
        if busyP || s.on Reg.SLU_PORT_HOLD p 0 then s else (s.selectMac p (2 * p) (fun c => !express c) (n + 1)).2

/-- A frame is a gPTP event frame: EtherType 0x88F7 behind any tags, messageType 0 to 3. -/
def State.isGptpEvent (s : State) (bs : List Byte) : Bool :=
  let p := s.tagEnd bs bs.length 12
  beNat ((bs.drop p).take 2) == 0x88F7 && (bs.getD (p + 2) 0).toNat % 16 < 4 && p + 2 < bs.length

/-- The egress timestamp of a frame goes to the ring; a full ring loses its oldest entry (R753). -/
def State.stamp (s : State) (p : Nat) : State :=
  let s := if s.edg.stamps.length < 256 then s else s.bumpFld Reg.EDG_TS_OVF 0 0 1
  let l := if s.edg.stamps.length < 256 then s.edg.stamps else s.edg.stamps.drop 1
  { s with edg := { s.edg with stamps := l ++ [s.net (s.tsdomOf p)] } }

/-- A protected frame takes a packet number (R749): at the threshold MACSEC_PN is raised, at the largest the SA is exhausted. -/
def State.takePn (s : State) (p : Nat) : State :=
  let m := s.macsec p
  if !m.installed then s
  else
    let pn := m.pn + 1
    let top := if m.xpn then 2 ^ 64 - 1 else 2 ^ 32 - 1
    let s := { s with edg := { s.edg with macsec := SMap.set s.edg.macsec p { m with pn := pn, exhausted := top ≤ pn } } }
    if pn = s.pnThreshold p then s.eventSup Reg.EDG_INT_STATUS_MACSEC_PN Reg.EDG_INT_EN_MACSEC_PN else s

/-! ### Drying what is queued -/

/-- Every copy in a network queue is dried. -/
def State.dryQueue (s : State) (q reason : Nat) : State :=
  let l := s.queueOf q
  l.foldl (fun s c => s.dryCopy c reason) (s.setQueue q [])

/-- The copies of a host or control-plane queue are dried, and their packets leave the spill queue. A packet of which a
thread has taken part stays (R599). -/
def State.dryHostQueue (s : State) (i reason : Nat) : State :=
  let q := hostSpill i
  let k := spillKey q
  let part := s.chFill k % 5
  let l := s.hostCopies q
  let keep := if part = 0 then 0 else 1
  let before := s.chConds k
  let s := ((s.spillKeep k part).setHostCopies q (l.take keep)).chAfter k before
  (l.drop keep).foldl (fun s c => s.dryCopy c reason) s

/-- A port's link goes down: its copies are dried and its credits set to 0 (R597). -/
def State.portLinkLost (s : State) (p : Nat) : State :=
  let r := s.linkReason p
  (List.range 8).foldl (fun s c => ((s.dryQueue (8 * p + c) r).setCredit (32 + 8 * p + c) 0).setCredit (288 + 8 * p + c) 0)
    (s.setCredit p 0)

/-- Copies whose buffers lie in an offline range are dried with MEM_LOST (Table 3.5). The packet of such a copy in a host or
control-plane queue is marked aborted, and its copy is dried where the mark is met. -/
def State.loseCopies (s : State) : State :=
  let s := s.slu.queues.foldl (fun s e =>
    let bad := e.2.filter fun c => s.buffersLost c.d
    bad.foldl (fun s c => s.dryCopy c dryMemLost) (s.setQueue e.1 (e.2.filter fun c => !s.buffersLost c.d))) s
  s.slu.hostCopies.foldl (fun s e =>
    let k := spillKey e.1
    let ws := s.chWords k
    let part := ws.length % 5
    let first := if part = 0 then 5 else part
    let lost (n : Nat) : Bool := match e.2[n]? with
      | some x => s.buffersLost x.d
      | none => false
    let mark (w : ChWord × Nat) : ChWord :=
      if w.1.end_ && lost (if w.2 < first then 0 else (w.2 - first) / 5 + 1) then { w.1 with abort := true } else w.1
    s.putSides k (ws.zipIdx.map mark)) s

/-- FRAME_TRANSMIT_END: the last bit of a MAC's frame has left (R68): counted, stamped, and its copy ends. -/
def frameTransmitEnd (s : State) (now p : Nat) (express : Bool) : State :=
  let s := s.upTo now
  let m := 2 * p + flagBit express
  match SMap.find s.slu.sending m with
  | none => s
  | some c =>
    let bs := s.wireBytes c
    let s := { s with slu := { s.slu with sending := SMap.erase s.slu.sending m } }
    let s := s.emit (.frame p express bs)
    let s := ((s.bump Reg.SLU_TX_CNT).satBump Reg.SLU_CLASS_TX_FRAMES c.q 1).bumpFld Reg.EDG_TX_CNT p 0 1
    let s := if s.isGptpEvent bs then s.stamp p else s
    let s := (s.takePn p).copyEnds c 0
    if (s.macsec p).exhausted then
      (s.portLinkLost p).setAll [(Reg.EDG_PORT_CAUSE, p, 0, 4), (Reg.EDG_PORT_LINK, p, 0, 0)]
    else s

/-! ### Pause and FCI (R619, R620) -/

/-- PAUSE_FRAME_RECEIVE: one pause quantum is 512 bit times. -/
def pauseFrameReceive (s : State) (now p : Nat) (pfc : Bool) (classes : Nat) (quanta : List (BitVec 16)) : State :=
  let s := s.upTo now
  if !s.imageRuns || !s.on Reg.SLU_PORT_RX_PAUSE p 0 then s
  else
    let v := max 1 (s.fld Reg.SLU_PORT_SPEED p 0)
    let set (s : State) (c : Nat) : State :=
      let n := (quanta.getD (if pfc then c else 0) 0).toNat
      let k := 8 * p + c
      if pfc && !bitOf classes c then s
      else if n = 0 then { s with slu := { s.slu with pause := SMap.erase s.slu.pause k } }
      else { s with slu := { s.slu with pause := SMap.set s.slu.pause k (s.now + n * 512000 / v) } }
    (List.range 8).foldl set s

/-- PAUSE_QUANTA_EXPIRE: a received pause has run out. -/
def pauseQuantaExpire (s : State) (now p c : Nat) : State :=
  let s := s.upTo now
  match SMap.find s.slu.pause (8 * p + c) with
  | none => s
  | some t => if s.now < t then s else { s with slu := { s.slu with pause := SMap.erase s.slu.pause (8 * p + c) } }

/-- FCI_EDGE: the level of a pin that has lasted at least 40 ns (R620). -/
def fciEdge (s : State) (now n : Nat) (level : Bool) : State :=
  let s := s.upTo now
  { s with slu := { s.slu with fci := setBits s.slu.fci n 1 (flagBit level) } }

/-! ### Shut-downs (R598) -/

/-- The queues that an object of a shut-down covers hold no copy: kind 0 PORT, 1 CLASS, 2 HOSTQ. -/
def State.drained (s : State) (kind i : Nat) : Bool :=
  if kind = 0 then (List.range 8).all fun c => (s.queueOf (8 * i + c)).isEmpty
  else if kind = 1 then (s.queueOf i).isEmpty
  else (s.hostCopies (hostSpill i)).isEmpty

/-- EN, STATE and ENABLE_PENDING of an object. -/
def shutFields (kind : Nat) : Fld × Fld × Fld :=
  if kind = 0 then (Reg.SLU_PORT_EN, Reg.SLU_PORT_STATE, Reg.SLU_PORT_ENABLE_PENDING)
  else if kind = 1 then (Reg.SLU_CLASS_EN, Reg.SLU_CLASS_STATE, Reg.SLU_CLASS_ENABLE_PENDING)
  else (Reg.SLU_HOSTQ_EN, Reg.SLU_HOSTQ_STATE, Reg.SLU_HOSTQ_ENABLE_PENDING)

/-- A write of EN to a port, class or host queue (R598). -/
def State.writeEn (s : State) (kind i : Nat) (en : Bool) : State :=
  let (fe, fs, fp) := shutFields kind
  let st := s.fld fs i 0
  let s := s.setFld fe i 0 (flagBit en)
  if en then
    if st = 0 then s.setFld fs i 0 1 else if st = 2 then s.setFld fp i 0 1 else s
  else if st = 1 then s.setFld fs i 0 2
  else s.setFld fp i 0 0

/-- QUEUE_SHUTDOWN_DONE: the queue holds no copy, and the shut-down completes (R598). -/
def queueShutdownDone (s : State) (kind i : Nat) : State :=
  let (_, fs, fp) := shutFields kind
  if s.fld fs i 0 ≠ 2 || !s.drained kind i then s
  else s.setAll [(fs, i, 0, s.fld fp i 0), (fp, i, 0, 0)]

end Sys2Proof.Machine
end

