-- ==== Sys2Proof/Machine/SluCommands.lean ====
section
/-! DEFINITION. The Sluice's object commands: READ, WRITE, FLUSH and CLEAR of an object, and the CONFIG_CHANGE of a gate list
(R576, R590, R598, R599, R606, R608, R609, R611, R622 to R625; Tables 14.6 to 14.15). -/

namespace Sys2Proof.Machine

/-- The Sluice's registers answer a partition, or the control plane (4). -/
def State.sluReach (s : State) (p : Nat) : Bool := if p < 4 then s.pageOk p 6 else s.imageRuns

/-- A signed credit in millibits, in bytes rounded down. -/
def creditBytes (v : Int) : Nat := unsigned 32 (v / 8000)

/-- The value of a field of an object: some are counted or measured when they are read. -/
def State.objField (s : State) (i : Nat) (f : Fld) : Nat :=
  if f = Reg.SLU_CLASS_FRAMES then (s.queueOf i).length
  else if f = Reg.SLU_CLASS_BYTES then queueBytes (s.queueOf i)
  else if f = Reg.SLU_CLASS_TB_CREDIT then creditBytes (s.credit (32 + i))
  else if f = Reg.SLU_CLASS_CBS_CREDIT then creditBytes (s.credit (288 + i))
  else if f = Reg.SLU_PORT_TB_CREDIT then creditBytes (s.credit i)
  else if f = Reg.SLU_METER_TC then creditBytes (s.meterBucket i 0)
  else if f = Reg.SLU_METER_TP then creditBytes (s.meterBucket i 1)
  else if f.acc = .wo then 0
  else s.fld f i 0

/-- The entry of a list as it runs (R608): gate states, stream gate entries. -/
def State.operField (s : State) (kind i : Nat) (f : Fld) : Nat :=
  let e := if kind = 7 then (s.gateRun false (i / 1024)).oper.getD (i % 1024) {}
           else (s.gateRun true (i / 256)).oper.getD (i % 256) {}
  if f.off = 0 then e.interval
  else if f = Reg.SLU_SGATE_ENTRY_OCTETS then e.octets
  else if f = Reg.SLU_GCL_ENTRY_OP then e.op
  else e.gates

/-- Object words as one number, word n at bit 32 × n. -/
def State.objNat (s : State) (kind bank i : Nat) : Nat :=
  (Reg.obj kind).foldl (fun n f =>
    let v := if bank = 1 && (kind = 6 || kind = 7) then s.operField kind i f else s.objField i f
    n + v % 2 ^ f.w * 2 ^ (8 * f.off + f.lo)) 0

/-- The value that SLU_DATA holds for a field of the selected object. -/
def State.sluData (s : State) (p : Nat) (f : Fld) : Nat :=
  let w := f.off / 4
  bits (s.fld Reg.SLU_DATA w p + s.fld Reg.SLU_DATA (w + 1) p * 2 ^ 32) f.lo f.w

/-- The selection of a partition: kind, bank and index. -/
def State.sluSel (s : State) (p : Nat) : Nat × Nat × Nat :=
  (s.fld Reg.SLU_SEL_KIND 0 p, s.fld Reg.SLU_SEL_BANK 0 p, s.fld Reg.SLU_SEL_INDEX 0 p)

/-- The selection names no object. -/
def sluBad (kind i : Nat) : Bool :=
  match Reg.obj kind with
  | [] => true
  | f :: _ => decide (f.count ≤ i)

/-- Every RW field in SLU_DATA lies in its range (Tables 14.5, 14.11 to 14.15; R576, R605, R608). -/
def State.sluRange (s : State) (p kind i : Nat) : Bool :=
  let v := s.sluData p
  let kept := fun (d : Nat) => bitOf (s.rd Reg.TIM_CFG_DOM_EN) d
  match kind with
  | 0 => v Reg.SLU_PORT_ADMIN_LEN ≤ 1024 && kept (v Reg.SLU_PORT_GATE_DOM)
  | 1 => v Reg.SLU_CLASS_MAX_FRAMES ≤ 16384 && v Reg.SLU_CLASS_MAX_KIB ≤ 16384
  | 2 => v Reg.SLU_HOSTQ_LIMIT ≤ s.chCap (spillKey (hostSpill i))
  | 3 => v Reg.SLU_METER_COLOUR_SRC != 3
  | 5 => v Reg.SLU_SGATE_ADMIN_LEN ≤ 256 && kept (v Reg.SLU_SGATE_DOM)
  | 7 => v Reg.SLU_GCL_ENTRY_OP ≤ 2
  | 9 => 1 ≤ v Reg.SLU_SRF_HLEN && v Reg.SLU_SRF_HLEN ≤ 128 && 1 ≤ v Reg.SLU_SRF_RESET_MS
  | _ => true

/-- The right of R622 to change an object. -/
def State.sluRight (s : State) (p kind i : Nat) : Bool :=
  s.isSup p || p == 4 || (kind == 2 && i / 64 == p)

/-- The admin parameters that a pending swap protects (R611). -/
def adminFields (sg : Bool) : List Fld :=
  if sg then [Reg.SLU_SGATE_ADMIN_LEN, Reg.SLU_SGATE_ADMIN_CYCLE, Reg.SLU_SGATE_ADMIN_EXT, Reg.SLU_SGATE_ADMIN_BASE,
    Reg.SLU_SGATE_DOM]
  else [Reg.SLU_PORT_ADMIN_LEN, Reg.SLU_PORT_ADMIN_CYCLE, Reg.SLU_PORT_ADMIN_EXT, Reg.SLU_PORT_ADMIN_BASE,
    Reg.SLU_PORT_GATE_DOM]

/-- The WRITE asks for a swap. -/
def State.asksChange (s : State) (p kind : Nat) : Bool :=
  (kind == 0 && s.sluData p Reg.SLU_PORT_CONFIG_CHANGE == 1) ||
    (kind == 5 && s.sluData p Reg.SLU_SGATE_CONFIG_CHANGE == 1)

/-- R611 refuses the WRITE. -/
def State.sluBusy (s : State) (p kind bank i : Nat) : Bool :=
  match kind with
  | 0 | 5 =>
    (s.gateChange (kind == 5) i).isSome &&
      (s.asksChange p kind || (adminFields (kind == 5)).any fun f => s.sluData p f != s.fld f i 0)
  | 6 => bank == 0 && (s.gateChange true (i / 256)).isSome
  | 7 => bank == 0 && (s.gateChange false (i / 1024)).isSome
  | _ => false

/-- The RW fields take their values in one step; EN by R598. -/
def State.sluTake (s : State) (p kind i : Nat) : State :=
  let vals := (Reg.obj kind).filterMap fun f =>
    if f.acc = .rw && !(kind < 3 && f.off = 0 && f.lo = 0) then some (f, s.sluData p f) else none
  let en := match Reg.obj kind with
    | f :: _ => s.sluData p f == 1
    | [] => false
  let s := vals.foldl (fun s e => s.setFld e.1 i 0 e.2) s
  match kind with
  | 0 => (s.writeEn 0 i en).portGates i
  | 1 | 2 => s.writeEn kind i en
  | 5 => s.streamGate i false
  | 9 => (s.setSrfRun i { s.srfRun i with hist := 0 }).setFld Reg.SLU_SRF_TAKE_ANY i 0 1
  | _ => s

/-- A command ends with a status. -/
def State.sluDone (s : State) (p st : Nat) : State := s.setFld Reg.SLU_CMD_RESULT 0 p st

/-- The checks that Table 14.6 puts before every command. -/
def State.sluCheck (s : State) (p cmd : Nat) : Nat :=
  let (kind, _, i) := s.sluSel p
  if sluBad kind i || (cmd == 3 && 2 < kind) || (cmd == 2 && !s.sluRange p kind i) then stInvalid
  else if cmd != 1 && !s.sluRight p kind i then stDenied
  else stOk

/-- The reserved codes 5 to 7 of SLU_CMD: INVALID (Table 14.6). -/
def sluReserved (s : State) (p : Nat) : State := if s.sluReach p then s.sluDone p stInvalid else s

/-- SLU_READ: one snapshot of every word, unused words 0 (R623). -/
def sluRead (s : State) (p : Nat) : State :=
  if !s.sluReach p then s
  else
    let (kind, bank, i) := s.sluSel p
    let st := s.sluCheck p 1
    if st ≠ stOk then s.sluDone p st
    else
      let v := s.objNat kind bank i
      (s.setAll ((List.range 16).map fun n => (Reg.SLU_DATA, n, p, bits v (32 * n) 32))).sluDone p stOk

/-- SLU_WRITE (R623, R624): a CONFIG_CHANGE whose check fails changes nothing (R609). A list entry of the operational bank
has no RW field. -/
def sluWrite (s : State) (p : Nat) : State :=
  if !s.sluReach p then s
  else
    let (kind, bank, i) := s.sluSel p
    let st := s.sluCheck p 2
    if st ≠ stOk then s.sluDone p st
    else if s.sluBusy p kind bank i then s.sluDone p stBusy
    else if bank = 1 && (kind = 6 || kind = 7) then s.sluDone p stOk
    else
      let t := s.sluTake p kind i
      if s.asksChange p kind then
        if t.adminOk (kind == 5) i then (t.configChange (kind == 5) i).sluDone p stOk else s.sluDone p stInvalid
      else t.sluDone p stOk

/-- CONFIG_CHANGE: a WRITE of a PORT or SGATE object that writes CONFIG_CHANGE as 1 (R609). -/
def sluConfigChange (s : State) (p : Nat) : State :=
  if s.asksChange p (s.sluSel p).1 then sluWrite s p else s

/-- SLU_FLUSH (R599): every copy of the queue, or of all eight classes of a port, is dried with FILTERED. -/
def sluFlush (s : State) (p : Nat) : State :=
  if !s.sluReach p then s
  else
    let (kind, _, i) := s.sluSel p
    let st := s.sluCheck p 3
    if st ≠ stOk then s.sluDone p st
    else
      let n (s : State) : Nat := s.copiesQueued + (s.hostCopies (hostSpill i)).length
      let t := match kind with
        | 0 => (List.range 8).foldl (fun (s : State) c => s.dryQueue (8 * i + c) dryFiltered) s
        | 1 => s.dryQueue i dryFiltered
        | _ => s.dryHostQueue i dryFiltered
      (t.bumpFld Reg.SLU_FLUSH_CNT 0 0 (n s - n t)).sluDone p stOk

/-- The counter fields of an object kind, and the flags that CLEAR clears (R623). -/
def clearFields (kind : Nat) : List Fld :=
  match kind with
  | 1 => [Reg.SLU_CLASS_TX_FRAMES, Reg.SLU_CLASS_DRIED]
  | 2 => [Reg.SLU_HOSTQ_DELIVERED, Reg.SLU_HOSTQ_DRIED]
  | 3 => [Reg.SLU_METER_GREEN, Reg.SLU_METER_YELLOW, Reg.SLU_METER_RED]
  | 4 => [Reg.SLU_FILTER_MATCHING, Reg.SLU_FILTER_PASSING, Reg.SLU_FILTER_GATE_FAIL, Reg.SLU_FILTER_SDU_FAIL,
      Reg.SLU_FILTER_RED, Reg.SLU_FILTER_BLOCKED]
  | 5 => [Reg.SLU_SGATE_CLOSED_INVALID]
  | 8 => [Reg.SLU_SGF_GENERATED]
  | 9 => [Reg.SLU_SRF_PASSED, Reg.SLU_SRF_DISCARDED, Reg.SLU_SRF_OUT_OF_ORDER, Reg.SLU_SRF_ROGUE, Reg.SLU_SRF_LOST,
      Reg.SLU_SRF_RESETS]
  | _ => []

/-- SLU_CLEAR (R623). -/
def sluClear (s : State) (p : Nat) : State :=
  if !s.sluReach p then s
  else
    let (kind, _, i) := s.sluSel p
    let st := s.sluCheck p 4
    if st ≠ stOk then s.sluDone p st
    else
      let s := (clearFields kind).foldl (fun s f => s.setFld f i 0 0) s
      (if kind = 5 then s.streamGate i false else s).sluDone p stOk

end Sys2Proof.Machine
end

