-- ==== Sys2Proof/Machine/Clock.lean ====
section
/-! DEFINITION. The time unit: the tick, PPS, snapshots, steps and rates of network time (R571 to R577, R612, R627 to R629,
Table 14.17). -/

namespace Sys2Proof.Machine

/-! ### The tick (R575) -/

/-- TICK_PERIOD in ns. -/
def State.tickPeriod (s : State) : Nat := max 1 (s.rd Reg.TIM_CFG_TICK_PERIOD * 1000)

/-- The multiple of the tick period that the network time of TICK_DOM has reached. -/
def State.tickNow (s : State) : Nat := s.net (s.rd Reg.TIM_CFG_TICK_DOM) / s.tickPeriod

/-- One tick: the count that the Pumphouse's delay list runs on. -/
def State.fireTick (s : State) (at_ : Nat) : State :=
  { s with time := { s.time with ticks := (s.time.ticks + 1) % 2 ^ 32, tickAt := at_ } }

/-- TICK: the network time of TICK_DOM has reached the next whole multiple of TICK_PERIOD. -/
def tick (s : State) (now : Nat) : State :=
  let s := s.upTo now
  if (s.imageRuns || s.bridgeRuns) && s.time.tickAt < s.tickNow then s.fireTick (s.time.tickAt + 1) else s

/-- The tick after a step of its domain: a forward step over a tick instant fires one at once, and after a backward step the
next multiple is the next tick. -/
def State.tickStepped (s : State) (d : Nat) : State :=
  if d ≠ s.rd Reg.TIM_CFG_TICK_DOM then s
  else if s.time.tickAt < s.tickNow then (if s.imageRuns || s.bridgeRuns then s.fireTick s.tickNow else s)
  else { s with time := { s.time with tickAt := s.tickNow } }

/-! ### PPS (R577) -/

/-- The whole second of the network time of PPS_DOM. -/
def State.ppsNow (s : State) : Nat := s.net (s.rd Reg.TIM_CFG_PPS_DOM) / 10 ^ 9

/-- PPS_OUT_SECOND: PPS_OUT is asserted at a whole second while OUT_EN is set, for WIDTH ms. -/
def ppsOutSecond (s : State) (now : Nat) : State :=
  let s := s.upTo now
  if s.boot.held || s.ppsNow ≤ s.time.ppsAt then s
  else
    let s := { s with time := { s.time with ppsAt := s.ppsNow } }
    if s.on Reg.TIM_PPS_OUT_EN 0 0 then
      ({ s with time := { s.time with ppsOut := some (s.now + s.rd Reg.TIM_PPS_WIDTH * 10 ^ 6) } }).emit (.pin 8 true)
    else s

/-- PPS_OUT_WIDTH_END: the width has passed. -/
def ppsOutWidthEnd (s : State) (now : Nat) : State :=
  let s := s.upTo now
  match s.time.ppsOut with
  | none => s
  | some e => if e ≤ s.now then ({ s with time := { s.time with ppsOut := none } }).emit (.pin 8 false) else s

/-- An event of TIM_INT_STATUS (R629). -/
def State.timEvent (s : State) (f : Fld) (n : Nat) : State :=
  let s := (s.setFld f 0 0 1).devicePost f.page
  if bitOf (s.rd Reg.TIM_INT_EN_EN) n then s.signalVec s.supervisor (128 + f.page) else s

/-- PPS_IN_EDGE: a rising edge captures the network time of PPS_DOM while IN_EN is set. -/
def ppsInEdge (s : State) (now : Nat) : State :=
  let s := s.upTo now
  if s.boot.held || !s.on Reg.TIM_PPS_IN_EN 0 0 then s
  else
    let n := s.net (s.rd Reg.TIM_CFG_PPS_DOM)
    let s := s.setAll [(Reg.TIM_PPSIN_LO_TIME, 0, 0, n), (Reg.TIM_PPSIN_HI_TIME, 0, 0, n / 2 ^ 32)]
    s.timEvent Reg.TIM_INT_STATUS_PPS_IN 1

/-! ### Commands (R573, R627, R628) -/

/-- The time registers answer a partition, or the control plane (4). -/
def State.timReach (s : State) (p : Nat) : Bool := if p < 4 then s.pageOk p 11 else s.imageRuns

/-- TIM_SNAP: the local time base and every enabled domain's network time, in the partition's bank. -/
def timSnap (s : State) (p : Nat) : State :=
  if !s.timReach p then s
  else
    let s := s.setAll [(Reg.TIM_LOCAL_LO_TIME, 0, p, s.now), (Reg.TIM_LOCAL_HI_TIME, 0, p, s.now / 2 ^ 32)]
    (List.range 4).foldl (fun s d =>
      let n := if bitOf (s.rd Reg.TIM_CFG_DOM_EN) d then s.net d else 0
      s.setAll [(Reg.TIM_NET_LO_TIME, d, p, n), (Reg.TIM_NET_HI_TIME, d, p, n / 2 ^ 32)]) s

/-- The lists that run on a domain go on at the entry that the new network time gives (R612). -/
def State.gatesStepped (s : State) (d : Nat) : State :=
  let s := (List.range 32).foldl (fun s p => if s.gateRuns false p && s.gateDom false p == d then s.portGates p else s) s
  (s.slu.gates.filter fun e => decide (32 ≤ e.1)).foldl (fun s e =>
    let g := e.1 - 32
    if s.gateRuns true g && s.gateDom true g == d then s.streamGate g false else s) s

/-- TIM_STEP: TIM_OFFSET is added to the network time of a domain; INVALID for a disabled one. -/
def timStep (s : State) (p d : Nat) : State :=
  if !s.timReach p || !(s.isSup p || p == 4) then s
  else
    let s := s.wr Reg.TIM_CMD_STEP_DOM d
    if !bitOf (s.rd Reg.TIM_CFG_DOM_EN) d then s.wr Reg.TIM_CMD_RESULT stInvalid
    else
      let off := signed 64 (s.rd Reg.TIM_OFFSET_LO_OFFSET + s.rd Reg.TIM_OFFSET_HI_OFFSET * 2 ^ 32)
      let s := s.setNet d (unsigned 104 ((s.netFrac d : Int) + off * 2 ^ 40))
      let s := if d = s.rd Reg.TIM_CFG_PPS_DOM then { s with time := { s.time with ppsAt := s.ppsNow } } else s
      let s := (s.tickStepped d).gatesStepped d
      let s := s.timEvent Reg.TIM_INT_STATUS_STEPPED 0
      s.wr Reg.TIM_CMD_RESULT stOk

/-- TIM_RATE_WRITE: the rate of a domain from now on. -/
def timRateWrite (s : State) (p d v : Nat) : State :=
  if !s.timReach p || !(s.isSup p || p == 4) then s else s.setFld Reg.TIM_RATE_RATE d 0 v

end Sys2Proof.Machine
end

