-- ==== Sys2Proof/Machine/Weir.lean ====
section
/-! DEFINITION. The Weir: admission, order slots, dispatch, completions, hold limits, release, recirculation, origination,
and how recovery ends droplets (R64 to R74, R84 to R130, R364, R365, R397 to R402, Sequence 3.1). -/

namespace Sys2Proof.Machine

/-! ### The in-flight store (R364) -/

def State.slot (s : State) (i : Nat) : Option Slot := SMap.find s.weir.slots i

def State.setSlot (s : State) (i : Nat) (v : Slot) : State :=
  { s with weir := { s.weir with slots := SMap.set s.weir.slots i v } }

def State.eraseSlot (s : State) (i : Nat) : State :=
  { s with weir := { s.weir with slots := SMap.erase s.weir.slots i } }

/-- The generation of an index in use. -/
def State.genOf (s : State) (i : Nat) : Nat := SMap.get s.weir.gens i 0

/-- The handle of a store index. -/
def State.handleOf (s : State) (i : Nat) : Nat := i + 65536 * s.genOf i

/-- The droplet that a handle names. -/
def State.resolve (s : State) (h : Nat) : Option (Nat × Slot) :=
  if 2 ^ 24 ≤ h || s.genOf (h % 65536) ≠ h / 65536 then none else (s.slot (h % 65536)).map fun sl => (h % 65536, sl)

/-- What a unit that names a droplet finds (R365): INVALID, DENIED, or the droplet that the thread holds. -/
def State.heldBy (s : State) (t h : Nat) : Nat × Nat × Slot :=
  match s.resolve h with
  | none => (stInvalid, 0, {})
  | some (i, sl) => if isHolder (s.holderOf t) sl then (stOk, i, sl) else (stDenied, 0, {})

/-- Droplets that a holder holds. -/
def State.heldCount (s : State) (h : Nat) : Nat := (s.weir.slots.filter fun e => e.2.holder == some h).length

/-- The lowest index that is free, in rising store order. -/
def freeIndex : SMap Slot → Nat → Nat
  | [], n => n
  | (i, _) :: m, n => if i = n then freeIndex m (n + 1) else n

/-- The slots of a domain, head first. -/
def State.domLine (s : State) (dom : Nat) : List Nat := SMap.get s.weir.lines dom []

def State.setDomLine (s : State) (dom : Nat) (l : List Nat) : State :=
  { s with weir := { s.weir with lines := SMap.put s.weir.lines dom l [] } }

/-! ### Release (R91 to R96) -/

/-- The head of a domain is released where its state allows it. -/
def State.releaseHead (s : State) (dom i : Nat) (sl : Slot) (rest : List Nat) : State :=
  let s := s.setDomLine dom rest
  if sl.st = 4 then ((s.bump Reg.WEIR_SEND_CNT).eraseSlot i).sluiceTake sl
  else
    let s := s.recordEnd sl.d 2 sl.d.dryReason (if sl.st = 6 then stLost else stOk) sl.crc []
    if sl.st = 5 then ((s.dropRefs sl.d 7 7 0).dropVersion sl.d.version).eraseSlot i
    else if sl.holder.isNone then (s.dropVersion sl.d.version).eraseSlot i
    else s.setSlot i { sl with released := true }

/-- The release loop of a domain (R91); the number bounds the slots looked at. -/
def State.releaseLine (s : State) (dom : Nat) : Nat → State
  | 0 => s
  | n + 1 =>
    match s.domLine dom with
    | [] => s
    | i :: rest =>
      match s.slot i with
      | none => (s.setDomLine dom rest).releaseLine dom n
      | some sl => if sl.st < 4 then s else (s.releaseHead dom i sl rest).releaseLine dom n

/-- Everything of a domain that can be released is released. -/
def State.advance (s : State) (dom : Nat) : State := s.releaseLine dom (s.domLine dom).length

/-- The event bit of a dry reason (Table 3.13). -/
def State.dryEvent (s : State) (reason : Nat) : State :=
  if reason = dryHoldExpired then s.eventSup Reg.WEIR_INT_STATUS_HOLD_EXP Reg.WEIR_INT_EN_HOLD_EXP
  else if reason = dryEngineFault then s.eventSup Reg.WEIR_INT_STATUS_ENG_DRY Reg.WEIR_INT_EN_ENG_DRY
  else if reason = dryMemLost then s.eventSup Reg.WEIR_INT_STATUS_MEM_LOST Reg.WEIR_INT_EN_MEM_LOST
  else s

/-- The Weir dries a slot in state WAITING, HELD or CIRCULATING (R103, R109). -/
def State.drySlot (s : State) (i reason : Nat) : State :=
  match s.slot i with
  | none => s
  | some sl =>
    if sl.st = 0 || 4 ≤ sl.st then s
    else
      let d := { sl.d with dryReason := reason }
      let s := s.setSlot i { sl with d := d, st := if sl.st = 2 then 6 else 5 }
      (((s.countDry reason 1).dryEvent reason).dryTrigger d reason).advance d.domain

/-- A DRIED_HELD droplet leaves its thread: its buffers are freed (R95), and with the slot released its version reference goes
(R96). -/
def State.letGo (s : State) (i : Nat) : State :=
  match s.slot i with
  | none => s
  | some sl =>
    let s := s.dropRefs sl.d 7 7 0
    if sl.released then (s.dropVersion sl.d.version).eraseSlot i
    else s.setSlot i { sl with holder := none, fetched := false }

/-- The circulating droplets that threads sent round are dried with ENGINE_FAULT: the reset of their engine (Table 3.5). -/
def State.dryCirculating (s : State) (who : Nat → Bool) : State :=
  (s.weir.slots.filter fun e => e.2.st == 3 && e.2.sentBy.any who).foldl (fun s e => s.drySlot e.1 dryEngineFault) s

/-- A thread or a whole engine lets go of what it holds, dried with ENGINE_FAULT (R261, Sequence 7.1 step 2). -/
def State.dryHeld (s : State) (who : Nat → Bool) : State :=
  let mine := s.weir.slots.filter fun e => match e.2.holder with
    | some h => who h
    | none => false
  mine.foldl (fun s e => (s.drySlot e.1 dryEngineFault).letGo e.1) s

/-! ### Admission (R84 to R90, R108, R111 to R114) -/

/-- Shedding step k names the order class in its entries 0 to k − 1 (R821). -/
def State.sheds (s : State) (cls : Nat) : Bool :=
  (List.range (min 8 (s.rd Reg.PWR_STATUS_SHED_STEP))).any fun n =>
    s.on Reg.PWR_SHED_VALID n 0 && s.fld Reg.PWR_SHED_CLASS n 0 == cls

/-- Admission is refused: true for the device limit, the reservation or shedding, false for the domain limit (R112, R113,
R821). Where released droplets whose slots a thread still holds leave no index of the 65,536, that is the device limit too
(DESIGN CHOICE, log entry 180). -/
def State.refuses (s : State) (dom cls : Nat) : Option Bool :=
  let n := s.inflight
  if s.sheds cls || 65536 ≤ n || 65536 ≤ s.weir.slots.length || (2 ≤ cls && 65536 - s.rd Reg.WEIR_CFG_RESERVE ≤ n) then some true
  else if 4096 ≤ (s.domLine dom).length then some false
  else none

/-- THREAD from the active map (Sequence 2.1, step 4). -/
def State.threadFor (s : State) (bucket : Nat) : Nat := s.mapThread (s.rd Reg.RUN_MAP_STATUS_ACTIVE) bucket

/-- A new slot: store index, generation, SEQ, age, and its place in the line; counters follow. -/
def State.newSlot (s : State) (sl : Slot) : Nat × State :=
  let i := freeIndex s.weir.slots 0
  let gen := match SMap.find s.weir.gens i with
    | none => 0
    | some g => (g + 1) % 256
  let dom := sl.d.domain
  let seq := SMap.get s.weir.nextSeq dom 0
  let sl := { sl with d := { sl.d with seq := seq }, admitted := s.now, age := s.weir.ageCtr }
  let s := (s.setSlot i sl).setDomLine dom (s.domLine dom ++ [i])
  let s := { s with
    weir := { s.weir with gens := SMap.set s.weir.gens i gen, nextSeq := SMap.put s.weir.nextSeq dom ((seq + 1) % 2 ^ 24) 0
                          ageCtr := s.weir.ageCtr + 1 }
    pwr := { s.pwr with admitAt := s.now } }
  let s := s.bump Reg.WEIR_ADMIT_CNT
  (i, s.wr Reg.WEIR_INFLIGHT_HWM (max (s.rd Reg.WEIR_INFLIGHT_HWM) s.inflight))

/-- A refused droplet: counted, its buffers and its version reference given back (R113, R114, R188, R821). -/
def State.refuse (s : State) (d : Droplet) (dev : Bool) : State :=
  let s := if s.sheds d.oclass then s.bump Reg.PWR_SHED_CNT else s
  let s := s.bump (if dev then Reg.WEIR_REFUSE_DEV else Reg.WEIR_REFUSE_DOM)
  let s := (s.countDry dryNoBuffer 1).eventSup Reg.WEIR_INT_STATUS_REFUSED Reg.WEIR_INT_EN_REFUSED
  let s := ((s.dropRefs d 7 7 0).recordEnd d 3 dryNoBuffer 0 0 []).dropVersion d.version
  s.dryTrigger d dryNoBuffer

/-- Step 4 of Sequence 2.1 for a classified droplet; `drop` says that its parse outcome is a drop (R108). -/
def State.takeIn (s : State) (sl : Slot) (drop : Bool) : State :=
  let d := sl.d
  match s.refuses d.domain d.oclass with
  | some dev => s.refuse d dev
  | none =>
    let d := { d with thread := s.threadFor d.bucket }
    let (i, s) := s.newSlot { sl with d := d, st := 1 }
    let d := match s.slot i with
      | some x => x.d
      | none => d
    let s := s.recordAdmit d (s.headOf d.head)
    if d.nobody then s.drySlot i dryNoBuffer
    else if drop then s.drySlot i (if d.parse = 7 then dryMemLost else dryParseError)
    else s

/-! ### Dispatch (R65, R66, R260, R121) -/

/-- The bucket moves in the basin switch that runs (Sequence 3.1). -/
def State.moving (s : State) (bucket : Nat) : Bool :=
  match s.weir.switching with
  | none => false
  | some (map, _, _) => s.mapThread map bucket != s.threadFor bucket

/-- The better of two waiting droplets: the higher class, then the older (R65). -/
def better (a b : Nat × Slot) : Bool :=
  a.2.d.oclass < b.2.d.oclass || (a.2.d.oclass == b.2.d.oclass && a.2.age < b.2.age)

/-- The droplet that a thread takes next. -/
def State.nextFor (s : State) (t : Nat) : Option (Nat × Slot) :=
  s.weir.slots.foldl (fun best e =>
    if e.2.st ≠ 1 || e.2.d.thread ≠ t || s.moving e.2.d.bucket then best
    else
      match best with
      | none => some e
      | some b => if better e b then some e else some b) none

/-- The Weir may hand the thread a droplet (R260). -/
def State.mayTake (s : State) (t : Nat) : Bool :=
  s.thrDispatch t && (s.thread t).state < 5 && s.heldCount t < 4

/-- DROPLET_DISPATCH: a thread takes its next droplet. -/
def dropletDispatch (s : State) (t : Nat) : State :=
  if !s.imageRuns || !s.mayTake t then s
  else
    match s.nextFor t with
    | none => s
    | some (i, sl) =>
      let s := s.setSlot i { sl with st := 2, holder := some t, handed := s.weir.handCtr, fetched := false }
      ({ s with weir := { s.weir with handCtr := s.weir.handCtr + 1 } }).setEvent t evDroplet

/-! ### Completions (Table 3.2, R97 to R99, R398 to R400) -/

/-- EGRESS names a target that exists (R59). -/
def State.egressOk (s : State) (e : Nat) : Bool :=
  match decodeEgress e with
  | some (.port p _) => s.portExists p
  | some (.list n) => !(s.members n).isEmpty
  | some _ => true
  | none => false

/-- The reasons that a program may give (R98). -/
def programReason (r : Nat) : Nat := if [1, 2, 5, 7, 8, 0xA].contains r then r else dryProgramDrop

/-- The completer of a slot is the thread, or a thread of its engine that it supervises. -/
def doneByMe (t : Nat) (sl : Slot) : Bool := isHolder t { sl with holder := sl.doneBy }

/-- What a completion or a recirculation request finds (Table 3.2): the status, and the slot where the thread holds it. -/
def State.completionOf (s : State) (t h : Nat) : Nat × Nat × Slot :=
  match s.resolve h with
  | none => (stInvalid, 0, {})
  | some (i, sl) =>
    if isHolder (s.holderOf t) sl then (if sl.st = 2 then stOk else stLost, i, sl)
    else if doneByMe (s.holderOf t) sl then (stDouble, 0, {})
    else (stDenied, 0, {})

/-- A held slot is completed: SENT with EGRESS, or DRIED with a reason. -/
def State.complete (s : State) (i : Nat) (sl : Slot) (d : Droplet) : State :=
  let crc := if d.record then crc32c (s.packet d) else 0
  let s := s.setSlot i { sl with d := d, st := if d.dryReason = 0 then 4 else 5, doneBy := sl.holder, holder := none
                                 crc := crc }
  let s := if d.dryReason = 0 then s
           else ((s.countDry d.dryReason 1).dryEvent d.dryReason).dryTrigger d d.dryReason
  s.advance d.domain

/-- A completion of a DRIED_HELD droplet is late (Table 3.2). -/
def State.late (s : State) (i : Nat) (sl : Slot) : State :=
  let s := s.setSlot i { sl with doneBy := sl.holder }
  (s.bump Reg.WEIR_LATE_CNT).letGo i

/-- The ports of a Weir completion: wc.n reads the droplets that the thread holds, whatever the status. -/
def State.wcEnd (s : State) (t : Nat) (ports : List (Nat × W32)) (st : Nat) : State :=
  s.startOp t uWc (ports ++ [(0x424, BitVec.ofNat 32 (s.heldCount (s.holderOf t)))]) st

/-- A completion by the rules of Table 3.2, with the droplet it would make. -/
def State.completion (s : State) (t h : Nat) (f : Droplet → Droplet) : State :=
  match s.completionOf t h with
  | (st, i, sl) =>
    let s := if st = stOk then s.complete i sl (f sl.d)
             else if st = stLost then s.late i sl
             else if st = stDouble then s.bump Reg.WEIR_DOUBLE_CNT
             else s
    s.wcEnd t [] st

/-- wc.t.send (R97, R59, R398). -/
def wcSend (s : State) (t x : Nat) : Trig :=
  let e := s.opnd t 0x420 % 65536
  (s.completion t x (fun d => if s.egressOk e then { d with egress := e, dryReason := 0 }
                              else { d with egress := e, dryReason := dryProgramDrop }), 0)

/-- wc.t.dry (R97, R98). -/
def wcDry (s : State) (t x : Nat) : Trig :=
  (s.completion t x (fun d => { d with dryReason := programReason (s.opnd t 0x421 % 256) }), 0)

/-- wc.t.next: the oldest droplet handed to the thread and not yet fetched. -/
def wcNext (s : State) (t : Nat) : Trig :=
  let me := s.holderOf t
  let first := s.weir.slots.foldl (fun (best : Option (Nat × Slot)) e =>
    if e.2.holder ≠ some me || e.2.fetched || e.2.originated then best
    else
      match best with
      | none => some e
      | some b => if e.2.handed < b.2.handed then some e else some b) none
  match first with
  | none => (s.wcEnd t [] stEmpty, 0)
  | some (i, sl) =>
    ((s.setSlot i { sl with fetched := true }).wcEnd t [(0x422, BitVec.ofNat 32 (s.handleOf i))] stOk, 0)

/-- wc.t.recirc (R69 to R74, R399, R400). -/
def wcRecirc (s : State) (t x : Nat) : Trig :=
  match s.completionOf t x with
  | (st, i, sl) =>
    if st = stLost then ((s.late i sl).wcEnd t [] st, 0)
    else if st = stDouble then ((s.bump Reg.WEIR_DOUBLE_CNT).wcEnd t [] st, 0)
    else if st ≠ stOk then (s.wcEnd t [] st, 0)
    else
      let k := spillKey (256 + sl.d.oclass)
      if 3 ≤ sl.d.pass then (s.wcEnd t [] stOverflow, 0)
      else if s.chCap k ≤ s.chFill k then (s.wcEnd t [] stRetry, 0)
      else
        let s := s.setSlot i { sl with d := { sl.d with pass := sl.d.pass + 1, recirc := true }, st := 3, holder := none
                                       fetched := false, originated := false, sentBy := sl.holder }
        ((s.chAppend k (BitVec.ofNat 64 (s.handleOf i)) true).wcEnd t [] stOk, 0)

/-! ### Recirculation (R70 to R74, R103) -/

/-- A recirculated droplet comes back to classification. -/
def State.reclassify (s : State) (i : Nat) (sl : Slot) : State :=
  let ((d, prec, drop), s) := s.classifyPass sl.d sl.flk sl.txQueue false sl.bktWritten
  let d := { d with thread := s.threadFor d.bucket }
  let s := s.setSlot i { sl with d := d, prec := prec, st := 1, bktWritten := false }
  if drop then s.drySlot i (if d.parse = 7 then dryMemLost else dryParseError) else s

/-- RECIRC_CLASSIFY: the next droplet of the spill queues 256 to 259, in class order; one that has been dried meanwhile is
discarded (R103). -/
def recircClassify (s : State) : State :=
  if !s.imageRuns then s
  else
    match (List.range 4).find? fun c => s.chReady (spillKey (256 + c)) with
    | none => s
    | some c =>
      let k := spillKey (256 + c)
      let w := ((s.chWords k).headD {}).w.toNat
      let lost := s.headAborted k
      let s := s.chDrop k (s.chFirst k)
      match s.resolve w with
      | none => s
      | some (i, sl) =>
        if sl.st ≠ 3 then s
        else if lost then s.drySlot i dryMemLost
        else s.reclassify i sl

/-! ### Hold limits (R88, R99 to R106) -/

/-- A completion request: its thread, and the droplet's handle. -/
def completionBy : Instr → Option (Nat × Nat)
  | .wcTSend t x => some (t.val, x.toNat)
  | .wcTDry t x => some (t.val, x.toNat)
  | _ => none

/-- The holder's completion of a slot reaches it at this same moment: in the queue, nothing but completions stands before it
(R99; DEDUCED, log entry 169). -/
def State.completedNow (s : State) (i : Nat) (sl : Slot) : Bool :=
  (s.pending.takeWhile fun c => (completionBy c).isSome).any fun c =>
    match completionBy c with
    | none => false
    | some (t, h) => h == s.handleOf i && isHolder (s.holderOf t) sl

/-- The hold limit of a slot has passed. -/
def State.expired (s : State) (sl : Slot) : Bool := sl.admitted + 100 * s.fld Reg.WEIR_HOLD_LIMIT sl.d.oclass 0 ≤ s.now

/-- HOLD_EXPIRE (R99, R100, R102, R104). -/
def holdExpire (s : State) (now i : Nat) : State :=
  let s := s.upTo now
  match s.slot i with
  | none => s
  | some sl =>
    if s.expired sl && !bitOf (s.rd Reg.WEIR_HOLD_SUSPEND_SUSP) sl.d.oclass && !s.completedNow i sl then
      s.drySlot i dryHoldExpired
    else s

/-- Suspensions that end: every slot of those classes whose limit has passed is dried at once, in SEQ order within each
domain (R106). -/
def State.endSuspension (s : State) (classes : Nat) : State :=
  (s.weir.lines.map fun e => e.2).flatten.foldl (fun s i =>
    match s.slot i with
    | none => s
    | some sl => if bitOf classes sl.d.oclass && s.expired sl then s.drySlot i dryHoldExpired else s) s

/-- WEIR_HOLD_SUSPEND takes a value. -/
def State.setSuspend (s : State) (v : Nat) : State :=
  let old := s.rd Reg.WEIR_HOLD_SUSPEND_SUSP
  let v := v % 16
  ((s.wr Reg.WEIR_HOLD_SUSPEND_SUSP v).wr Reg.WEIR_STATUS_SUSP v).endSuspension (old &&& (15 - v))

/-- The hold-suspension right is open: by the life-cycle state, or by a DEBUG token in FIELD; a lock-down closes it (R105,
Table 23.4). -/
def State.suspOpen (s : State) : Bool := (s.debugByState || s.weir.suspRight) && !s.weir.suspLocked

/-- WEIR_HOLD_SUSPEND_WRITE: ignored while the right is closed, and from a partition without the supervisor right (R105,
R127). -/
def weirHoldSuspendWrite (s : State) (part v : Nat) : State :=
  if !s.pageOk part 1 || !s.isSup part || !s.suspOpen then s else s.setSuspend v

/-- WEIR_DOM_STAT0_READ: one snapshot of the domain that WEIR_DOM_SEL names (R128). -/
def weirDomStat0Read (s : State) (part : Nat) : State :=
  if !s.pageReads part 1 then s
  else
    let dom := s.rd Reg.WEIR_DOM_SEL_DOMAIN
    let next := SMap.get s.weir.nextSeq dom 0
    let l := s.domLine dom
    let head := match l with
      | [] => none
      | i :: _ => s.slot i
    let hseq := match head with
      | some sl => sl.d.seq
      | none => next
    let hst := match head with
      | some sl => sl.st
      | none => 0
    (s.setAll [(Reg.WEIR_DOM_STAT0_NEXT_SEQ, 0, 0, next), (Reg.WEIR_DOM_STAT1_HEAD_SEQ, 0, 0, hseq),
      (Reg.WEIR_DOM_STAT2_INFLIGHT, 0, 0, l.length), (Reg.WEIR_DOM_STAT2_CLASS, 0, 0, s.classOfDomain dom),
      (Reg.WEIR_DOM_STAT2_HEAD_STATE, 0, 0, hst)]).emit (.reg part next)

/-! ### Origination (R401, R402) -/

/-- sq.t.orig. -/
def sqOrig (s : State) (t x : Nat) : Trig :=
  let me := s.holderOf t
  let dom := x % 65536
  let len := s.opnd t 0x440 % 2 ^ 14
  let b := s.opnd t 0x441
  let pool := b / 2 ^ 24 % 256
  let h := b % 2 ^ 24
  let cls := s.classOfDomain dom
  let (l, _, o) := s.refTable t
  if 4 ≤ s.heldCount me then (s.startOp t uSq [] stBusy, 0)
  else if !s.mayOriginate (threadBasin t) dom then (s.startOp t uSq [] stDenied, 0)
  else if len = 0 || (256 < len && (b = 0 || !hasLive l pool h o || s.poolSize pool * 256 < len - 256)) ||
      (len ≤ 256 && b ≠ 0) then (s.startOp t uSq [] stInvalid, 0)
  else
    -- R401 tests the empty pool before the limits of R112 and R113; the refusal of an allocation counts (R489)
    match s.allocHead (s.basinCharge (threadBasin t)) with
    | ((st, head), s1) =>
      if st ≠ stOk then (s1.startOp t uSq [] stEmpty, 0)
      else if (s.refuses dom cls).isSome then (s.startOp t uSq [] stRetry, 0)
      else
        let s := if b = 0 then s1 else s1.setRefTable t (dropEntry l pool h o)
        let ver := match s.ingressSlot with
          | some n => (s.version n).number
          | none => 0
        let d : Droplet := { oclass := cls, domain := dom, version := ver, arrival := s.net 0, inPort := inPortCp, len := len
                             head := head, body := if b = 0 then 0 else h, bodyPool := if b = 0 then 0 else pool, host := true
                             thread := if t < 1536 then t else 0 }
        let s := s.setHead head (List.replicate (min len 256) 0)
        let sl : Slot := { d := d, st := 2, holder := some me, handed := s.weir.handCtr, fetched := true, originated := true
                           flk := List.replicate 64 0
                           prec := { layers := List.replicate 16 0, key := List.replicate 64 0 } }
        let (i, s) := (s.takeVersion ver).newSlot sl
        (s.startOp t uSq [(0x442, BitVec.ofNat 32 (s.handleOf i))] stOk, 0)

/-- sq.t.depth: frames queued in a network or host queue. -/
def sqDepth (s : State) (t x : Nat) : Trig :=
  match decodeEgress (x % 65536) with
  | some (.port p c) =>
    if s.portExists p then (s.startOp t uSq [(0x442, BitVec.ofNat 32 (s.queueOf (8 * p + c)).length)] stOk, 0)
    else (s.startOp t uSq [] stInvalid, 0)
  | some (.host p q) => (s.startOp t uSq [(0x442, BitVec.ofNat 32 (s.hostCopies (64 * p + q)).length)] stOk, 0)
  | _ => (s.startOp t uSq [] stInvalid, 0)

/-! ### Recovery (Table 3.5) -/

/-- The WAITING droplets of a source are dried: those of a partition whose host is reset. -/
def State.dryWaiting (s : State) (inPort reason : Nat) : State :=
  (s.weir.slots.filter fun e => e.2.st == 1 && e.2.d.inPort == inPort).foldl (fun s e => s.drySlot e.1 reason) s

/-- Droplets whose buffers have gone offline: those WAITING or CIRCULATING are dried with MEM_LOST. -/
def State.loseDroplets (s : State) : State :=
  (s.weir.slots.filter fun e => (e.2.st == 1 || e.2.st == 3) && s.buffersLost e.2.d).foldl
    (fun s e => s.drySlot e.1 dryMemLost) s

/-! ### The basin switch, as the Weir sees it (Sequence 3.1) -/

/-- Steps 1 and 2: the new map is named; droplets of moving buckets stay WAITING. -/
def State.switchName (s : State) (map basin why : Nat) : State :=
  let s := { s with weir := { s.weir with switching := some (map, basin, why) } }
  s.setAll [(Reg.WEIR_STATUS_SWITCHING, 0, 0, 1), (Reg.RUN_MAP_STATUS_TARGET, 0, 0, map)]

/-- A map names a thread of a basin. -/
def State.mapUses (s : State) (map b : Nat) : Bool := (List.range 4096).any fun k => s.mapThread map k / 128 == b

/-- A thread of a basin that leaves in a switch: the basin named, or one that MIST's map leaves unused (R811). -/
def State.leaves (s : State) (map basin h : Nat) : Bool :=
  h < 1536 && (h / 128 == basin || (map == 13 && !s.mapUses 13 (h / 128)))

/-- Step 3 is done: no thread holds a HELD droplet of a moving bucket, and the leaving basins hold none at all. -/
def State.switchDrained (s : State) (map basin : Nat) : Bool :=
  s.weir.slots.all fun e =>
    match e.2.holder with
    | none => true
    | some h => e.2.st != 2 || !(s.leaves map basin h || (s.moving e.2.d.bucket && !e.2.originated))

/-- Step 5: THREAD of each WAITING droplet from the new map, which becomes active. -/
def State.switchDone (s : State) (map : Nat) : State :=
  let redo (sl : Slot) : Slot :=
    if sl.st = 1 then { sl with d := { sl.d with thread := s.mapThread map sl.d.bucket } } else sl
  let s := { s with weir := { s.weir with slots := s.weir.slots.map fun (e : Nat × Slot) => (e.1, redo e.2), switching := none } }
  let s := s.setAll [(Reg.WEIR_STATUS_SWITCHING, 0, 0, 0), (Reg.RUN_MAP_STATUS_ACTIVE, 0, 0, map),
                     (Reg.RUN_MAP_STATUS_TARGET, 0, 0, map)]
  s.eventSup Reg.WEIR_INT_STATUS_SWITCH_DONE Reg.WEIR_INT_EN_SWITCH_DONE

end Sys2Proof.Machine
end

