-- ==== Sys2Proof/Machine/Staging.lean ====
section
/-! DEFINITION. Step 1 of Sequence 2.1 up to the droplet's buffers: the longest frame of a source, the body buffer of a staged
frame, and the droplets of the device's own frames (R60 to R64, R490, R774). -/

namespace Sys2Proof.Machine

/-- The longest frame of a source (R63), bounded by Table 2.5. -/
def State.maxFrame (s : State) (src : Nat) : Nat := if s.bridgeRuns then 16383 else min 16383 (s.setting 43 src)

/-- Frames of a source that are staged and have no droplet yet, oldest first. -/
def State.heldFrames (s : State) (src : Nat) : List HeldFrame := SMap.get s.edg.waiting src []

def State.setHeldFrames (s : State) (src : Nat) (l : List HeldFrame) : State :=
  { s with edg := { s.edg with waiting := SMap.put s.edg.waiting src l [] } }

/-- The body buffer of a staged frame (R61, R64): the droplet with it, or with NOBODY, or none where the allocation waits
(R490). -/
def State.giveBody (s : State) (d : Droplet) (bytes : List Byte) : Option Droplet × State :=
  let src := d.inPort
  let p := s.portPool src
  if bytes.length ≤ 256 then (some d, s)
  else
    match s.alloc p (s.portCharge src) (65536 + src) with
    | ((st, h), s) =>
      if st ≠ stOk then (some { d with nobody := true }, s) else (h.map fun b => { d with body := b, bodyPool := p }, s)

/-- The number of the ingress version, 0 under the fallback bridge (R182). -/
def State.entryVersion (s : State) : Nat :=
  match s.ingressSlot with
  | some n => (s.version n).number
  | none => 0

/-- A frame of the device's own becomes a droplet of a domain, and is sent at once; without a buffer or a place it is
dried. -/
def State.sendOwn (s : State) (dom cls egress : Nat) (bytes : List Byte) : State :=
  match s.allocHead 4 with
  | ((st, head), s) =>
    if st ≠ stOk then s.countDry dryNoBuffer 1
    else
      let d : Droplet := { oclass := cls, domain := dom, version := s.entryVersion, arrival := s.net 0, inPort := inPortCp
                           len := bytes.length, head := head, host := true }
      let s := (s.setHead head bytes).takeVersion d.version
      match s.refuses dom d.oclass with
      | some dev => s.refuse d dev
      | none =>
        let (i, s) := s.newSlot { d := d, st := 2 }
        match s.slot i with
        | none => s
        | some sl =>
          s.complete i sl { sl.d with egress := egress, dryReason := if s.egressOk egress then 0 else dryProgramDrop }

end Sys2Proof.Machine
end

