-- ==== Sys2Proof/Machine/Spanning.lean ====
section
/-! DEFINITION. The spanning tree of the fallback bridge (R40, R215). The spec names the protocol and its priority; the
priority vectors, the roles and the layout of BPDUs are IEEE 802.1Q's (PRESUMED, log entry 136). A root or designated port
forwards at once (R29, R31). -/

namespace Sys2Proof.Machine

/-- The device's base MAC address. -/
def State.baseMac (s : State) : Nat := s.fth.baseMac % 2 ^ 48

def State.stpPort (s : State) (p : Nat) : StpPort := SMap.get s.edg.stp p {}

def State.updStp (s : State) (p : Nat) (f : StpPort → StpPort) : State :=
  { s with edg := { s.edg with stp := SMap.put s.edg.stp p (f (s.stpPort p)) {} } }

/-- The first of two priority vectors is the better. -/
def vecLess : List Nat → List Nat → Bool
  | a :: as, b :: bs => a < b || (a == b && vecLess as bs)
  | _, _ => false

/-- Bridge priority 61,440 and the base MAC address (R40). -/
def State.bridgeId (s : State) : Nat := 61440 * 2 ^ 48 + s.baseMac

/-- Port priority 128 and the port number. -/
def stpPortId (p : Nat) : Nat := 0x8000 + p + 1

/-- Path cost: 20,000,000 over the speed in Mbit/s. -/
def State.stpCost (s : State) (p : Nat) : Nat :=
  20000000 / (if p < 32 then max 1 (s.fld Reg.SLU_PORT_SPEED p 0) else 10)

/-- The bridge ports, and those whose link is up. -/
def State.bridgePorts (s : State) : List Nat := (List.range 48).filter s.isBridgePort

def State.bridgeUp (s : State) : List Nat := s.bridgePorts.filter fun p => s.edg.phy.contains p

/-- The path to a root that a port offers: none where the port hears the bridge itself. -/
def State.stpOffer (s : State) (p : Nat) : Option (List Nat) :=
  match (s.stpPort p).heard with
  | some [root, cost, br, port] => if br = s.bridgeId then none else some [root, cost + s.stpCost p, br, port, stpPortId p]
  | _ => none

/-- The root's vector, and the root port where another bridge is root. -/
def State.stpRoot (s : State) : List Nat × Option Nat :=
  s.bridgeUp.foldl (fun best p =>
    match s.stpOffer p with
    | some v => if vecLess v best.1 then (v, some p) else best
    | none => best) ([s.bridgeId, 0, s.bridgeId, 0, 0], none)

/-- The vector that a port announces. -/
def State.stpTold (s : State) (root : List Nat) (p : Nat) : List Nat :=
  [root.getD 0 0, root.getD 1 0, s.bridgeId, stpPortId p]

/-- The role that a port takes: 0 disabled, 1 root, 2 designated, 3 alternate, 4 backup. -/
def State.stpRole (s : State) (root : List Nat × Option Nat) (p : Nat) : Nat :=
  if !s.edg.phy.contains p then 0
  else if root.2 = some p then 1
  else
    match (s.stpPort p).heard with
    | none => 2
    | some h => if vecLess (s.stpTold root.1 p) h then 2 else if h.getD 2 0 = s.bridgeId then 4 else 3

/-- A role with which a port forwards. -/
def stpForwards (role : Nat) : Bool := role == 1 || role == 2

/-- The BPDU of a port: of the rapid protocol, or of the older one. -/
def State.stpBpdu (s : State) (p : Nat) : List Byte :=
  let v := s.stpPort p
  let root := s.stpRoot
  let told := s.stpTold root.1 p
  let age := match root.2 with
    | some r => (s.stpPort r).age + 256
    | none => 0
  let tc := flagBit (s.now < v.tcUntil)
  let code := if v.role = 1 then 2 else if v.role = 2 then 3 else 1
  let flags := if v.legacy then tc else tc + code * 4 + flagBit (stpForwards v.role) * 48 + flagBit v.agree * 64
  let version := if v.legacy then 0 else 2
  let body := beBytes 2 0 ++ beBytes 1 version ++ beBytes 1 version ++ beBytes 1 flags ++ beBytes 8 (told.getD 0 0) ++
    beBytes 4 (told.getD 1 0) ++ beBytes 8 s.bridgeId ++ beBytes 2 (stpPortId p) ++ beBytes 2 age ++ beBytes 2 (20 * 256) ++
    beBytes 2 (2 * 256) ++ beBytes 2 (15 * 256) ++ if v.legacy then [] else [0]
  takeBytes 60 (beBytes 6 0x0180C2000000 ++ beBytes 6 s.baseMac ++ beBytes 2 (3 + body.length) ++ [0x42, 0x42, 3] ++ body)

/-- The EGRESS value of one bridge port. -/
def bridgeEgress (p prio : Nat) : Nat := if p < 32 then 8 * p + prio else 0x8000 + 1024 + 8 * p + prio

/-- A BPDU goes out on a port, in class 7; the next hello is due in 2 s. -/
def State.stpSend (s : State) (p : Nat) : State :=
  (s.sendOwn inPortCp 3 (bridgeEgress p 7) (s.stpBpdu p)).updStp p fun v =>
    { v with agree := false, helloAt := s.now + 2 * 10 ^ 9 }

/-- Every designated port tells its vector; the root port sends while it has a topology change to tell. -/
def State.stpTellAll (s : State) : State :=
  s.bridgeUp.foldl (fun s p =>
    let v := s.stpPort p
    if v.role = 2 || (v.role = 1 && s.now < v.tcUntil) then s.stpSend p else s) s

/-- A topology change that port p has seen: the addresses of every other port are flushed (R215), and the ports given tell of
the change for 3 s. -/
def State.stpTopology (s : State) (p : Nat) (tell : List Nat) : State :=
  let s := (s.bridgePorts.filter (· != p)).foldl (fun s q => s.flushL2 (some q) none) s
  tell.foldl (fun s q => s.updStp q fun v => { v with tcUntil := s.now + 3 * 10 ^ 9 }) s

/-- The ports that forward. -/
def State.stpForwarding (s : State) : List Nat := s.bridgePorts.filter fun p => stpForwards (s.stpPort p).role

/-- The spanning tree settles anew (R40): roles, the ports it blocks, the flush of every port whose role changes and the
topology change of every port that comes to forward (R215), and the messages that follow. -/
def State.stpSettle (s : State) : State :=
  let root := s.stpRoot
  let moves := s.bridgePorts.map fun p => (p, (s.stpPort p).role, s.stpRole root p)
  let changed := moves.filter fun m => m.2.1 != m.2.2
  let s := changed.foldl (fun s m => (s.flushL2 (some m.1) none).updStp m.1 fun v =>
    if m.2.2 = 0 then {} else { v with role := m.2.2 }) s
  let s := { s with blocked := (moves.filter fun m => 3 ≤ m.2.2).map fun m => m.1 }
  let gained := changed.filter fun m => stpForwards m.2.2 && !stpForwards m.2.1
  let s := gained.foldl (fun s m => s.stpTopology m.1 s.stpForwarding) s
  if changed.isEmpty then s else s.stpTellAll

/-- A vector heard on a port: it is kept where it is no worse than the one kept or comes from the same sender, for three hello
times; a designated port answers a worse one. -/
def State.stpHear (s : State) (p : Nat) (vec : List Nat) (age : Nat) (propose : Bool) : State :=
  let v := s.stpPort p
  let keep := match v.heard with
    | none => true
    | some h => !vecLess h vec || h.drop 2 == vec.drop 2
  if keep then
    let s := s.updStp p fun v =>
      { v with heard := some vec, age := age, until_ := s.now + 6 * 10 ^ 9, agree := propose }
    let s := s.stpSettle
    if (s.stpPort p).role = 1 && propose then s.stpSend p
    else if (s.stpPort p).role = 2 then s.stpSend p
    else s
  else if v.role = 2 then s.stpSend p
  else s

/-- A BPDU arrives on a port, as the frame from its destination address. -/
def State.stpReceive (s : State) (p : Nat) (bs : List Byte) : State :=
  let b := bs.drop 17
  let num (off n : Nat) : Nat := beNat ((b.drop off).take n)
  let type := num 3 1
  let flags := num 4 1
  let tell := s.stpForwarding.filter (· != p)
  if (bs.drop 14).take 3 != [0x42, 0x42, 3] || num 0 2 ≠ 0 then s
  else if type = 0x80 then (s.updStp p fun v => { v with legacy := true }).stpTopology p tell
  else if (type ≠ 0 && type ≠ 2) || b.length < 35 then s
  else
    let s := s.updStp p fun v => { v with legacy := type == 0 }
    let role := if type = 0 then 3 else bits flags 2 2
    let s := if role = 3 && num 27 2 < num 29 2 then
        s.stpHear p [num 5 8, num 13 4, num 17 8, num 25 2] (num 27 2) (type == 2 && bitOf flags 1)
      else s
    if bitOf flags 0 then s.stpTopology p tell else s

/-- What time brings: vectors age out, and hellos are due. -/
def State.stpTimers (s : State) : State :=
  let old := s.bridgePorts.filter fun p => (s.stpPort p).heard.isSome && (s.stpPort p).until_ ≤ s.now
  let s := if old.isEmpty then s
           else (old.foldl (fun (s : State) p => s.updStp p fun v => { v with heard := none }) s).stpSettle
  (s.bridgeUp.filter fun p => (s.stpPort p).helloAt ≤ s.now).foldl (fun (s : State) p =>
    let v := s.stpPort p
    if v.role = 2 || (v.role = 1 && s.now < v.tcUntil) then s.stpSend p else s) s

end Sys2Proof.Machine
end

