-- ==== Sys2Proof/Machine/Gptp.lean ====
section
/-! DEFINITION. The time relay of the fallback bridge (R44, R45, R574): domain 0 on every Ethernet bridge port, priority1 255.
The spec names the protocol; the message layouts, the choice of the best clock and the intervals are IEEE 802.1AS-2020's
(PRESUMED, log entry 172). Times of messages are network times of domain 0 in units of 2^−40 ns. -/

namespace Sys2Proof.Machine

def State.ptpPort (s : State) (p : Nat) : PtpPort := SMap.get s.edg.ptp p {}

def State.updPtp (s : State) (p : Nat) (f : PtpPort → PtpPort) : State :=
  { s with edg := { s.edg with ptp := SMap.put s.edg.ptp p (f (s.ptpPort p)) {} } }

/-- The clock identity, and the identity of a port. -/
def State.clockId (s : State) : Nat := s.baseMac / 2 ^ 24 * 2 ^ 40 + 0xFFFE * 2 ^ 24 + s.baseMac % 2 ^ 24

def State.ptpPortId (s : State) (p : Nat) : List Byte := beBytes 8 s.clockId ++ beBytes 2 (p + 1)

/-- A timestamp of a message: seconds and nanoseconds. -/
def ptpStamp (t : Nat) : List Byte := beBytes 6 (t / 2 ^ 40 / 10 ^ 9) ++ beBytes 4 (t / 2 ^ 40 % 10 ^ 9)

def stampTime (bs : List Byte) : Nat := (beNat (bs.take 6) * 10 ^ 9 + beNat ((bs.drop 6).take 4)) * 2 ^ 40

/-- A correction field, in units of 2^−16 ns. -/
def ptpCorrection (bs : List Byte) : Int := signed 64 (beNat bs) * 2 ^ 24

/-- A message that port p sends. -/
def State.ptpMessage (s : State) (p type seq : Nat) (correction : Int) (ctl interval : Nat) (body : List Byte) : List Byte :=
  let flags := if type = 0 || type = 3 then 0x0200 else if type = 2 then 0 else 0x0008
  let bs := beBytes 6 0x0180C200000E ++ beBytes 6 s.baseMac ++ beBytes 2 0x88F7 ++ beBytes 1 (0x10 + type) ++ [0x12] ++
    beBytes 2 (34 + body.length) ++ [0, 0] ++ beBytes 2 flags ++ beBytes 8 (unsigned 64 (correction / 2 ^ 24)) ++
    [0, 0, 0, 0] ++ s.ptpPortId p ++ beBytes 2 seq ++ beBytes 1 ctl ++ beBytes 1 interval ++ body
  bs ++ List.replicate (60 - bs.length) 0

def State.ptpSend (s : State) (p : Nat) (bs : List Byte) : State := s.sendOwn inPortCp 3 (bridgeEgress p 7) bs

/-- The Ethernet bridge ports whose link is up. -/
def State.ptpUp (s : State) : List Nat := s.bridgeUp.filter (· < 32)

/-! ### The best clock -/

/-- The device's own vector: priority1 255, so that it is never grandmaster (R44). -/
def State.ownClock (s : State) : List Nat := [255, 0xF8FE436A, 248, s.clockId, 0, 0]

/-- The best vector, and the slave port where a neighbour gives it. -/
def State.bestClock (s : State) : List Nat × Option Nat :=
  s.ptpUp.foldl (fun best p =>
    let v := s.ptpPort p
    match v.heard with
    | some h => if v.delay.isSome && vecLess h best.1 then (h, some p) else best
    | none => best) (s.ownClock, none)

/-- The slave port of a present grandmaster (R45: without one, time runs free). -/
def State.ptpSlave (s : State) : Option Nat := if s.bestClock.1.getD 0 255 = 255 then none else s.bestClock.2

/-- The vector that port p announces. -/
def State.ptpTold (s : State) (p : Nat) : List Nat :=
  let (b, via) := s.bestClock
  b.take 4 ++ [b.getD 4 0 + flagBit via.isSome, beNat (s.ptpPortId p)]

/-- Port p is a master port. -/
def State.ptpMaster (s : State) (p : Nat) : Bool :=
  s.bestClock.2 != some p &&
    match (s.ptpPort p).heard with
    | none => true
    | some h => vecLess (s.ptpTold p) h

/-- The Announce message of a port, with the path of the best clock. -/
def State.ptpAnnounce (s : State) (p : Nat) : List Byte :=
  let v := s.ptpTold p
  let path := (match s.bestClock.2 with
    | some q => (s.ptpPort q).path
    | none => []) ++ beBytes 8 s.clockId
  s.ptpMessage p 0xB (s.ptpPort p).announceSeq 0 5 0 (List.replicate 10 0 ++ beBytes 2 0 ++ [0] ++ beBytes 1 (v.getD 0 0) ++
    beBytes 4 (v.getD 1 0) ++ beBytes 1 (v.getD 2 0) ++ beBytes 8 (v.getD 3 0) ++ beBytes 2 (v.getD 4 0) ++ [0xA0] ++
    beBytes 2 8 ++ beBytes 2 path.length ++ path)

/-! ### Messages that arrive -/

/-- Network time of domain 0 follows a grandmaster: at the time `t` of a Sync's arrival it was `origin` there. The phase
is stepped; the rate that the ROM program then sets is not given (log entry 172). -/
def State.ptpFollow (s : State) (t origin : Nat) : State :=
  let s := s.setNet 0 (unsigned 104 ((s.netFrac 0 : Int) + ((origin : Int) - t)))
  let s := (s.setFld Reg.TIM_RATE_RATE 0 0 (Config.freeWord s.fresh).toNat).tickStepped 0
  { s with fresh := s.fresh + 1
           time := if s.rd Reg.TIM_CFG_PPS_DOM = 0 then { s.time with ppsAt := s.ppsNow } else s.time }

/-- The time goes on to every master port: a Sync, whose Follow_Up waits for its departure. -/
def State.ptpRelay (s : State) (from_ seq origin : Nat) (info : List Byte) : State :=
  (s.ptpUp.filter fun p => p != from_ && s.ptpMaster p && (s.ptpPort p).delay.isSome).foldl (fun (s : State) p =>
    (s.updPtp p fun v => { v with relay := some (seq, info, origin) }).ptpSend p
      (s.ptpMessage p 0 seq 0 0 0xFD (List.replicate 10 0))) s

/-- A message for the relay on port p, which arrived at network time `t`; `bs` is the frame from its destination address. -/
def State.ptpReceive (s : State) (p t : Nat) (bs : List Byte) : State :=
  let m := bs.drop 14
  let num (off n : Nat) : Nat := beNat ((m.drop off).take n)
  let v := s.ptpPort p
  let seq := num 30 2
  let body := m.drop 34
  let mine := (body.drop 10).take 10 == s.ptpPortId p && seq == v.req
  let corr := ptpCorrection ((m.drop 8).take 8)
  if num 0 1 / 16 ≠ 1 || num 4 1 ≠ 0 || m.length < 44 || num 20 8 = s.clockId then s
  else
    match num 0 1 % 16 with
    | 0 => if s.ptpSlave = some p then s.updPtp p fun v => { v with sync := some (seq, t) } else s
    | 2 =>
      let who := (m.drop 20).take 10
      (s.updPtp p fun v => { v with owed := v.owed ++ [(seq, who)] }).ptpSend p
        (s.ptpMessage p 3 seq 0 5 0x7F (ptpStamp t ++ who))
    | 3 => if mine then s.updPtp p fun v => { v with t2 := some (stampTime body), t4 := some t } else s
    | 8 =>
      match v.sync, v.delay with
      | some (n, at_), some d =>
        if n ≠ seq || s.ptpSlave ≠ some p then s
        else
          let origin := stampTime body
          let here := ((origin : Int) + corr + d).toNat
          let s := (s.updPtp p fun v => { v with sync := none }).ptpFollow at_ here
          s.ptpRelay p seq origin ((body.drop 10).take 32)
      | _, _ => s
    | 0xA =>
      match v.t1, v.t2, v.t4 with
      | some t1, some t2, some t4 =>
        if !mine then s
        else
          let t3 := (stampTime body : Int) + corr
          let d := (((t4 : Int) - t1) - (t3 - t2)) / 2
          s.updPtp p fun v => { v with delay := some d.toNat, missed := 0, t1 := none, t2 := none, t4 := none }
      | _, _, _ => s
    | 0xB =>
      let vec := [num 47 1, num 48 4, num 52 1, num 53 8, num 61 2, num 20 10]
      let path := (m.drop 68).take (num 66 2)
      let looped := (List.range (path.length / 8)).any fun i => beNat ((path.drop (8 * i)).take 8) == s.clockId
      let keep := match v.heard with
        | none => true
        | some h => !vecLess h vec || h.drop 5 == vec.drop 5
      if m.length < 64 || 255 ≤ num 61 2 || num 53 8 = s.clockId || looped || !keep then s
      else s.updPtp p fun v => { v with heard := some vec, path := path, until_ := s.now + 3 * 10 ^ 9 }
    | _ => s

/-! ### Messages that leave, and what time brings -/

/-- A frame of the relay has left port p now: what its departure time is needed for. -/
def State.ptpSent (s : State) (p : Nat) (bs : List Byte) : State :=
  let m := bs.drop 14
  let num (off n : Nat) : Nat := beNat ((m.drop off).take n)
  let t := s.netFrac 0
  let seq := num 30 2
  let v := s.ptpPort p
  if beNat (bs.take 6) ≠ 0x0180C200000E || num 20 10 ≠ beNat (s.ptpPortId p) then s
  else
    match num 0 1 % 16 with
    | 0 =>
      match v.relay with
      | some (n, info, origin) =>
        if n ≠ seq then s
        else
          (s.updPtp p fun v => { v with relay := none }).ptpSend p
            (s.ptpMessage p 8 seq ((t : Int) - origin) 2 0xFD (ptpStamp origin ++ info))
      | none => s
    | 2 => if seq = v.req then s.updPtp p fun v => { v with t1 := some t } else s
    | 3 =>
      match v.owed.find? fun o => o.1 == seq with
      | none => s
      | some o =>
        (s.updPtp p fun v => { v with owed := v.owed.erase o }).ptpSend p
          (s.ptpMessage p 0xA seq (t % 2 ^ 40 : Nat) 5 0x7F (ptpStamp t ++ o.2))
    | _ => s

/-- Each second a port asks for its peer delay; nine requests without an answer make the delay unknown. -/
def State.ptpAsk (s : State) (p : Nat) : State :=
  let s := s.updPtp p fun v =>
    { v with req := (v.req + 1) % 65536, missed := v.missed + 1, delayAt := s.now + 10 ^ 9, t1 := none, t2 := none, t4 := none
             delay := if 9 ≤ v.missed then none else v.delay }
  s.ptpSend p (s.ptpMessage p 2 (s.ptpPort p).req 0 5 0 (List.replicate 20 0))

/-- Announce intervals, peer-delay intervals and the ageing of what was heard. -/
def State.ptpTimers (s : State) : State :=
  s.ptpUp.foldl (fun (s : State) p =>
    let v := s.ptpPort p
    let s := if v.heard.isSome && v.until_ ≤ s.now then s.updPtp p fun v => { v with heard := none, path := [] } else s
    let s := if v.delayAt ≤ s.now then s.ptpAsk p else s
    if v.announceAt ≤ s.now then
      let s := s.updPtp p fun v => { v with announceAt := s.now + 10 ^ 9, announceSeq := (v.announceSeq + 1) % 65536 }
      if s.ptpMaster p then s.ptpSend p (s.ptpAnnounce p) else s
    else s) s

/-- A port whose link goes down forgets its neighbour. -/
def State.ptpForget (s : State) (p : Nat) : State := s.updPtp p fun _ => {}

end Sys2Proof.Machine
end

