-- ==== Sys2Proof/Machine/Bridge.lean ====
section
/-! DEFINITION. The fallback bridge (R34 to R52, R158): the droplet of a frame, and what the ROM's program does with it:
learning and forwarding, flooding, the spanning tree, the time relay and the CAN tunnel. The ROM program of the droplet's
thread acts in the step that admits it (DESIGN CHOICE, log entry 170). The byte layouts of IEEE 1722 (NTSCF, ACF_CAN) are
PRESUMED (log entry 137). -/

namespace Sys2Proof.Machine

/-- The tag of a frame under R37: priority, VID, and the frame without its tag. -/
def bridgeTag (bs : List Byte) : Nat × Nat × List Byte :=
  if beNat ((bs.drop 12).take 2) = 0x8100 then
    let tci := beNat ((bs.drop 14).take 2)
    (tci / 8192, if tci % 4096 = 0 then 1 else tci % 4096, bs.take 12 ++ bs.drop 16)
  else (0, 1, bs)

/-- The frame as a bridge port sends it: VID 1 untagged, every other VID tagged, with bit 12 of the tag (DEI) 0 whatever it
was (DESIGN CHOICE, log entry 173). -/
def bridgeOut (prio vid : Nat) (bs : List Byte) : List Byte :=
  if vid = 1 then bs else bs.take 12 ++ beBytes 2 0x8100 ++ beBytes 2 (prio * 8192 + vid) ++ bs.drop 12

/-! ### The CAN tunnel (R47 to R49) -/

/-- The group 91-E0-F0-00-FE-C0. -/
def tunnelGroup : Nat := 0x91E0F000FEC0

/-- A CAN frame from a record of Table 18.2, as one ACF_CAN message with can_bus_id n. -/
def acfCan (n : Nat) (rec_ : List Byte) : List Byte :=
  let data := rec_.drop 16
  let pad := (4 - data.length % 4) % 4
  let id := beNat (rec_.take 4)
  let fmt := (rec_.getD 4 0).toNat
  let len := 4 + (data.length + pad) / 4
  let flags := pad * 64 + flagBit (bitOf fmt 6) * 16 + flagBit (bitOf id 29) * 8 + flagBit (bitOf fmt 4) * 4 +
    flagBit (fmt % 4 == 1) * 2 + flagBit (bitOf fmt 5)
  beBytes 2 (1 * 512 + len) ++ beBytes 1 flags ++ beBytes 1 (n % 32) ++ List.replicate 8 0 ++ beBytes 4 (id % 2 ^ 29) ++
    data ++ List.replicate pad 0

/-- The NTSCF frame that carries a CAN frame of CXn (R47); its sequence_num is 0 (DESIGN CHOICE, log entry 174). -/
def State.ntscf (s : State) (n : Nat) (rec_ : List Byte) : List Byte :=
  let m := acfCan n rec_
  beBytes 6 tunnelGroup ++ beBytes 6 s.baseMac ++ beBytes 2 0x22F0 ++ beBytes 2 (0x8280 + m.length / 256) ++
    beBytes 1 (m.length % 256) ++ [0] ++ beBytes 6 s.baseMac ++ beBytes 2 n ++ m

/-- The record of Table 18.2 of one ACF_CAN message for CXn. -/
def acfRecord (n : Nat) (m : List Byte) : List Byte :=
  let flags := (m.getD 2 0).toNat
  let len := beNat (m.take 2) % 512 * 4
  let data := (m.drop 16).take (len - 16 - flags / 64)
  let fd := bitOf flags 1
  let id := beNat ((m.drop 12).take 4) % 2 ^ 29 + flagBit (bitOf flags 3) * 2 ^ 29
  let fmt := flagBit fd + flagBit (bitOf flags 2) * 16 + flagBit (bitOf flags 0) * 32 + flagBit (bitOf flags 4) * 64
  beBytes 4 id ++ beBytes 1 fmt ++ beBytes 1 n ++ beBytes 2 data.length ++ List.replicate 8 0 ++ data

/-- A CAN frame of the tunnel goes into the channel's transmit queue, in a buffer of the device's own; without a buffer or
room, or on a channel that is bus-off, it is dropped and counted as the edge's transmission does (R766). -/
def State.canSend (s : State) (n : Nat) (rec_ : List Byte) : State :=
  let src := 48 + n
  if 2 ≤ s.fld Reg.EDG_CAN_STATE n 0 || s.txRoom src = 0 then s.bumpFld Reg.EDG_TX_DROP src 0 1
  else
    match s.allocHead 4 with
    | ((st, head), s) =>
      if st ≠ stOk then s.bumpFld Reg.EDG_TX_DROP src 0 1
      else
        let f : EdgeTx :=
          { handle := head, len := rec_.length, id := beNat (rec_.take 4) % 2 ^ 29, bytes := rec_ }
        (s.setHead head rec_).setTxQueue src (s.txQueue src ++ [f])

/-- The ACF messages of an NTSCF frame go out on their CAN channels; a message whose identifier is 16 to 31 is discarded and
counted in EDG_PROTO_CNT of the ingress port (R48 names no counter: DESIGN CHOICE, log entry 175). A message of another kind,
or too short for ACF_CAN, is passed over. The number bounds the messages. -/
def State.untunnel (s : State) (p : Nat) : Nat → List Byte → State
  | 0, _ => s
  | k + 1, m =>
    let len := beNat (m.take 2) % 512 * 4
    if m.length < 4 || len = 0 || m.length < len then s
    else
      let n := (m.getD 3 0).toNat % 32
      let s := if beNat (m.take 2) / 512 ≠ 1 || len < 16 then s
               else if n < 16 then s.canSend n (acfRecord n m)
               else s.bumpFld Reg.EDG_PROTO_CNT p 0 1
      s.untunnel p k (m.drop len)

/-- An NTSCF frame, and the ACF messages it holds: as many bytes as ntscf_data_length says. -/
def isNtscf (bs : List Byte) : Bool := beNat ((bs.drop 12).take 2) == 0x22F0 && (bs.getD 14 0).toNat == 0x82

def ntscfData (bs : List Byte) : List Byte := (bs.drop 26).take (beNat ((bs.drop 15).take 2) % 2048)

/-! ### The program of the ROM -/

/-- What the program does with a frame: EGRESS, or none where it drops the frame, and the packet's new head region. -/
def State.bridgeFrame (s : State) (d : Droplet) : Option (Nat × List Byte) × State :=
  let p := d.inPort
  let (prio, vid, raw) := bridgeTag (s.packet d)
  let da := beNat (raw.take 6)
  let sa := beNat ((raw.drop 6).take 6)
  if da / 16 = 0x0180C200000 then
    (none, if da % 16 = 0 then s.stpReceive p raw
           else if da % 16 = 14 && p < 32 && beNat ((raw.drop 12).take 2) == 0x88F7 then
             s.ptpReceive p (d.arrival * 2 ^ 40) raw
           else s)
  else if !s.bridgeForwards p || vid = 4095 || (isNtscf raw && sa = s.baseMac) then (none, s)
  else
    let s := s.learnAsk (.learn vid sa p)
    let s := if isNtscf raw && da = tunnelGroup then s.untunnel p raw.length (ntscfData raw) else s
    let head := bridgeOut prio vid (bridgeTag (s.headOf d.head)).2.2
    let head := head ++ List.replicate (60 - head.length - d.bodyLen) 0
    let flood := 0x8000 + 8 * p + prio
    if bitOf da 40 then (some (flood, head), s)
    else
      match s.l2Lookup vid da with
      | (some e, s) =>
        (if e.port = p || !s.bridgeForwards e.port then none else some (bridgeEgress e.port prio, head), s)
      | (none, s) => (some (flood, head), s)

/-- A CAN frame in its NTSCF frame, for every forwarding bridge port at traffic class 7 (R47). -/
def State.bridgeCan (s : State) (d : Droplet) : Nat × List Byte :=
  let bs := s.ntscf (d.inPort - 48) (s.packet d)
  (0x8000 + 8 * d.inPort + 7, bs ++ List.replicate (60 - bs.length) 0)

/-- The program completes the droplet of a slot that it holds. -/
def State.bridgeProgram (s : State) (i : Nat) : State :=
  match s.slot i with
  | none => s
  | some sl =>
    let (out, s) : Option (Nat × List Byte) × State :=
      if 48 ≤ sl.d.inPort then (some (s.bridgeCan sl.d), s) else s.bridgeFrame sl.d
    match out with
    | none => s.complete i sl { sl.d with dryReason := dryProgramDrop }
    | some (e, head) =>
      (s.setHead sl.d.head head).complete i sl
        { sl.d with egress := e, dryReason := if s.egressOk e then 0 else dryProgramDrop }

/-- A staged frame of the fallback bridge becomes a droplet (R142, R155, R158): DOMAIN from IN_PORT, BUCKET from HASH bits
11:0, every domain Bulk; its thread takes it and the program runs. -/
def State.bridgeEnter (s : State) (d : Droplet) (flk : List Byte) : State :=
  let hash := s.hashOf flk
  let bucket := hash % 4096
  let d := { d with hash := hash, domain := d.inPort, bucket := bucket, oclass := 3, thread := s.threadFor bucket
                    learn := d.inPort < 48 }
  match s.refuses d.domain d.oclass with
  | some dev => s.refuse d dev
  | none =>
    let (i, s) := s.newSlot { d := d, flk := flk, st := 1 }
    if d.nobody then s.drySlot i dryNoBuffer
    else
      match s.slot i with
      | none => s
      | some sl =>
        let s := s.setSlot i { sl with st := 2, holder := some d.thread, handed := s.weir.handCtr, fetched := true }
        ({ s with weir := { s.weir with handCtr := s.weir.handCtr + 1 } }).bridgeProgram i

/-! ### Time -/

/-- TICK: under the fallback bridge the timers of its protocols run on it as well. -/
def tickBoth (s : State) (now : Nat) : State :=
  let s := tick s now
  if s.bridgeRuns then s.stpTimers.ptpTimers else s

/-- FRAME_TRANSMIT_END: under the fallback bridge the departure of a message of the time relay is noted. -/
def frameSent (s : State) (now p : Nat) (express : Bool) : State :=
  let t := frameTransmitEnd s now p express
  match SMap.find s.slu.sending (2 * p + flagBit express) with
  | none => t
  | some c => if t.bridgeRuns then t.ptpSent p (s.wireBytes c) else t

/-- What the fallback bridge does when the link of a bridge port changes: the copies queued for a port without link are dried,
and the spanning tree settles anew. -/
def State.bridgeLinkChange (s : State) (p : Nat) : State :=
  let s :=
    if s.edg.phy.contains p then s
    else if p < 32 then (s.portLinkLost p).ptpForget p
    else
      (s.txQueue p).foldl (fun (s : State) f =>
        match f.copy with
        | some c => s.dryCopy c dryLinkLost
        | none => s.dropRef f.pool f.handle 6 1 p) (s.setTxQueue p [])
  s.stpSettle

end Sys2Proof.Machine
end

