-- ==== Sys2Proof/Machine/Intake.lean ====
section
/-! DEFINITION. The edge's way in: a frame that passed its checks gets its buffers and its droplet, and goes through Runnel,
classification and admission, or through the fallback bridge; the plug and unplug messages and the ends of an unplug (R56 to
R64, R132 to R164, R773 to R777, Sequence 2.1, Sequence 18.2). -/

namespace Sys2Proof.Machine

/-- Steps 2 to 4 of Sequence 2.1 for a droplet whose buffers hold its frame; `q` is the queue of a host droplet. -/
def State.enterPath (s : State) (d : Droplet) (flk : List Byte) (q : Nat) : State :=
  if s.bridgeRuns then s.bridgeEnter d flk
  else
    let s := s.takeVersion s.entryVersion
    let d := { d with version := s.entryVersion, hash := s.hashOf flk }
    let (d, s) := s.mark (s.filtersPort d.inPort) d
    let ((d, prec, drop), s) := s.classifyPass d flk q true false
    let (d, s) := s.mark (s.filtersDomain d.domain) d
    s.takeIn { d := d, flk := flk, prec := prec, txQueue := q } drop

/-- Step 1: the staging buffer, the body buffer where the frame is longer than 256 bytes, and the stored bytes
(R60, R61, R63, R64, R780). A frame whose body buffer is waited for holds back the later frames of its source (R490). -/
def State.intake (s : State) (d : Droplet) (bytes flk : List Byte) : State :=
  let src := d.inPort
  match s.allocHead (s.portCharge src) with
  | ((st, head), s) =>
    if st ≠ stOk then (s.bumpFld Reg.EDG_NOBUF_CNT src 0 1).countDry dryNoBuffer 1
    else
      let d := { d with len := bytes.length, head := head, tsdom := s.tsdomOf src }
      let s := s.bumpFld Reg.EDG_RX_CNT src 0 1
      let held := s.heldFrames src
      if !held.isEmpty then s.setHeldFrames src (held ++ [{ d := d, bytes := bytes, flk := flk }])
      else
        match s.giveBody d bytes with
        | (some d, s) => (s.storeFrame d bytes).enterPath d flk 0
        | (none, s) => s.setHeldFrames src [{ d := d, bytes := bytes, flk := flk, waits := true }]

/-- The frames of a source that stood behind one whose buffer has come go on, until one waits for its own; the number bounds
them. -/
def State.resumeFrames (s : State) (src : Nat) : Nat → State
  | 0 => s
  | n + 1 =>
    match s.heldFrames src with
    | [] => s
    | f :: fs =>
      match s.giveBody f.d f.bytes with
      | (some d, s) => (((s.setHeldFrames src fs).storeFrame d f.bytes).enterPath d f.flk 0).resumeFrames src n
      | (none, s) => s.setHeldFrames src ({ f with waits := true } :: fs)

/-- The frames whose body buffers have been handed out go on; the number bounds them. -/
def State.resumeIntake (s : State) : Nat → State
  | 0 => s
  | n + 1 =>
    match s.edg.granted with
    | [] => s
    | (src, h) :: gs =>
      let s := { s with edg := { s.edg with granted := gs } }
      match s.heldFrames src with
      | [] => s.resumeIntake n
      | f :: fs =>
        let d := match h with
          | some b => { f.d with body := b, bodyPool := s.portPool src }
          | none => { f.d with nobody := true }
        let s := ((s.setHeldFrames src fs).storeFrame d f.bytes).enterPath d f.flk 0
        (s.resumeFrames src fs.length).resumeIntake n

/-- POOL_REFILL_DONE: the refill reaches the cache, the allocations that waited complete, and the frames go on (R483, R490). -/
def poolRefillDone (s : State) (p : Nat) : State :=
  if !(s.pool p).refilling then s
  else
    let s := s.endRefill p
    s.resumeIntake (s.edg.granted.length + 1)

/-- POOL_SPILL_DONE: the spill reaches the ring, and what waited for it goes on (R483, R506). -/
def poolSpillDone (s : State) (p : Nat) : State :=
  if !(s.pool p).spilling then s
  else
    let s := s.endSpill p
    s.resumeIntake (s.edg.granted.length + 1)

/-- An Ethernet frame of a port or segment: Runnel-1's key, and the flags of step 1 and 2. `stamp` is the wall time of the
message timestamp point; ARRIVAL is the network time of the source's domain at it (R56, R57). -/
def State.intakeEthernet (s : State) (src stamp : Nat) (bytes : List Byte) (express macsecOk : Bool) : State :=
  let k := s.look bytes
  s.intake { inPort := src, arrival := s.netAt (s.tsdomOf src) stamp, express := express, macsecOk := macsecOk, ptp := k.ptp
             frerTag := k.rtag, frerSeq := k.frerSeq } bytes (k.flk bytes)

/-! ### Plug and unplug -/

/-- The owner of a source (R773). -/
def State.srcOwner (s : State) (src : Nat) : Nat := s.fld Reg.TBL_PORT_OWNER src 0

/-- The bytes of a plug record (Table 18.6). -/
def State.plugRecord (s : State) (kind src ep cause node dried : Nat) : List Byte :=
  leBytes 1 kind ++ leBytes 1 src ++ leBytes 2 ep ++ leBytes 1 cause ++ leBytes 1 node ++ [0, 0] ++
    leBytes 8 (s.net 0) ++ leBytes 4 dried ++ List.replicate 12 0

/-- A plug or unplug message: a droplet of the partition's fixed plug domain, sent to the owner's plug queue (R774, R119). -/
def State.plugMessage (s : State) (src : Nat) (bytes : List Byte) : State :=
  let p := s.srcOwner src
  let dom := s.setting 47 p
  let q := s.setting 46 p % 64
  s.sendOwn dom (s.classOfDomain dom) (if p < 4 then 0x4000 + p * 64 + q else 0xC000 + q) bytes

/-- A plug event (R773, R229 to R232): the registry acts, then the arrival message goes to the owner. `kind` and `addr` are
the registry key of Table 6.8. -/
def State.arrive (s : State) (src kind addr cause : Nat) : State :=
  let (ep, s) := s.epSeen kind src addr src
  let s := s.bumpFld Reg.EDG_PLUG_CNT src 0 1
  s.plugMessage src (s.plugRecord 1 src (ep.getD 0xFFFF) cause (if kind = 3 then addr else 0) 0)

/-- LINK_HOLD of a source in ns (R775). -/
def State.linkHold (s : State) (src : Nat) : Nat :=
  (if src < 32 then s.fld Reg.EDG_PORT_LINK_HOLD src 0
   else match SMap.find s.img.set_ (45 * 16777216 + src) with
     | some v => v
     | none => 50) * 1000000

/-- The source sends plug events: a plug port, a plug segment, or an input in MODE 2 or 3. -/
def State.isPlug (s : State) (src : Nat) : Bool :=
  s.imageRuns &&
    (if src < 32 then s.on Reg.EDG_PORT_PLUG src 0
     else if src < 48 then s.on Reg.EDG_T1S_PLUG (src - 32) 0
     else 0x40 ≤ src && src < 0x49 && 2 ≤ s.fld Reg.EDG_PRESCFG_MODE (src - 0x40) 0)

/-- The registry kind of a plug source, and the cause of its arrival. -/
def plugKind (src : Nat) : Nat := if 0x40 ≤ src then 4 else 5

def arrivalCause (src : Nat) : Nat := if 0x40 ≤ src then 2 else 1

def State.unplugOf (s : State) (src : Nat) : Option Unplug := SMap.find s.edg.unplug src

def State.setUnplug (s : State) (src : Nat) (u : Option Unplug) : State :=
  { s with edg := { s.edg with unplug := match u with
    | none => SMap.erase s.edg.unplug src
    | some u => SMap.set s.edg.unplug src u } }

/-- Frames of the source are discarded: its Sequence 18.2 has begun and its next arrival message has not been sent
(R776, R938). -/
def State.plugHeld (s : State) (src : Nat) : Bool :=
  match s.unplugOf src with
  | none => false
  | some u => 2 ≤ u.stage

/-- A port's link as the Sluice sees it. -/
def State.setLink (s : State) (p : Nat) (up : Bool) : State :=
  (s.setFld Reg.SLU_PORT_LINK p 0 (flagBit up)).setFld Reg.EDG_PORT_LINK p 0 (flagBit up)

/-- A source is lost: LINK_HOLD starts (R775). A loss while an arrival is held withdraws that arrival. -/
def State.plugLost (s : State) (src cause : Nat) : State :=
  match s.unplugOf src with
  | none => s.setUnplug src (some { stage := 1, since := s.now, cause := cause })
  | some u => if u.stage = 3 then s.setUnplug src (some { u with stage := 2 }) else s

/-- A plug source is back: within LINK_HOLD without a message, during Sequence 18.2 held, else a plug event. The answer says
whether the Sluice may see the link up. -/
def State.plugBack (s : State) (src : Nat) : Bool × State :=
  match s.unplugOf src with
  | some u =>
    if u.stage = 1 then (true, s.setUnplug src none) else (false, s.setUnplug src (some { u with stage := 3 }))
  | none => (true, s.arrive src (plugKind src) 0 (arrivalCause src))

/-- LINK_HOLD_EXPIRE: steps 1 and 2 of Sequence 18.2. -/
def linkHoldExpire (s : State) (now src : Nat) : State :=
  let s := s.upTo now
  match s.unplugOf src with
  | none => s
  | some u =>
    if u.stage ≠ 1 || s.now < u.since + s.linkHold src then s
    else if 32 ≤ src then s.setUnplug src (some { u with stage := 2 })
    else
      let n := (List.range 8).foldl (fun n c => n + (s.queueOf (8 * src + c)).length) 0
      let s := s.setUnplug src (some { u with stage := 2, dried := n })
      ((s.setLink src false).setFld Reg.EDG_PORT_UNPLUG_BUSY src 0 1).portLinkLost src

/-- Nothing of the source is in flight: every droplet with it as IN_PORT has been released, no frame of it is staged, and every
copy queued for the port has left or been dried (R125). -/
def State.srcDrained (s : State) (src : Nat) : Bool :=
  (s.heldFrames src).isEmpty && s.weir.slots.all (fun e => e.2.released || e.2.d.inPort != src) &&
    (32 ≤ src || ((List.range 8).all (fun c => (s.queueOf (8 * src + c)).isEmpty) &&
      (SMap.find s.slu.sending (2 * src)).isNone && (SMap.find s.slu.sending (2 * src + 1)).isNone))

/-- UNPLUG_DRAINED: steps 3 to 5 of Sequence 18.2, and the arrival that was held (R776). -/
def unplugDrained (s : State) (now src : Nat) : State :=
  let s := s.upTo now
  match s.unplugOf src with
  | none => s
  | some u =>
    if u.stage < 2 || !s.srcDrained src then s
    else
      let ep := (s.epFind (plugKind src) src 0).getD 0xFFFF
      let s := s.departTables src
      let s := s.plugMessage src (s.plugRecord 2 src ep u.cause 0 u.dried)
      let s := s.setUnplug src none
      let s := if src < 32 then s.setFld Reg.EDG_PORT_UNPLUG_BUSY src 0 0 else s
      if u.stage = 3 then
        let s := s.arrive src (plugKind src) 0 (arrivalCause src)
        if src < 32 then s.setLink src true else s
      else s

end Sys2Proof.Machine
end

