-- ==== Sys2Proof/Machine/Retire.lean ====
section
/-! DEFINITION. Spare pseudo-channels: Sequence 13.2, and what a range that goes offline takes with it (R563 to R568,
Table 3.5, Table 12.5, R227, R459). -/

namespace Sys2Proof.Machine

/-- The spares in the order in which Sequence 13.2 tries them: physical 16 on the die of logical 0 to 15, 33 on the other
(Table 13.3). -/
def spareOrder (pc : Nat) : List Nat := if pc < 16 then [16, 33] else [33, 16]

/-- Everything that lies in an offline range is lost (Table 3.5, Table 12.5, R227, R459). Frames whose pool has nothing left to
wait for go on without a body (R490). -/
def State.loseRanges (s : State) : State :=
  let s := ((((s.loseBuffers).loseFlows).loseSpills).loseDroplets).loseCopies
  s.resumeIntake (s.edg.granted.length + 1)

/-- IPD_STATUS shows the logical pseudo-channels online and the spares free (Table 13.11). -/
def State.showIpd (s : State) : State :=
  let off := s.rd Reg.IPD_OFFLINE_PC
  let n := ((List.range 32).filter fun p => bitOf off p).length
  s.setAll [(Reg.IPD_STATUS_ONLINE, 0, 0, 32 - n), (Reg.IPD_STATUS_DEGRADED, 0, 0, flagBit (off != 0)),
            (Reg.IPD_STATUS_SPARES, 0, 0, ([16, 33].filter fun sp => !s.mem.sparesGone.contains sp).length)]

/-- A logical pseudo-channel goes offline (R565): requests that wait complete with LOST (R566). -/
def State.goOffline (s : State) (pc trigger : Nat) : State :=
  let s := s.wr Reg.IPD_OFFLINE_PC (setBits (s.rd Reg.IPD_OFFLINE_PC) pc 1 1)
  let s := s.setPchan pc { s.pchan pc with queue := [], issued := [], draining := false }
  let s := s.showIpd.eventSup Reg.IPD_INT_STATUS_OFFLINE Reg.IPD_INT_EN_OFFLINE
  ((s.noteRsv 7 trigger pc (s.physOf pc) 0xFFFFFFFF).showDegraded).loseRanges

/-- Steps 1 and 2 of Sequence 13.2: each spare is trained; one without a working setting is marked failed. -/
def State.trySpares (s : State) (pc trigger : Nat) (works : Nat → Bool) : List Nat → Option Nat × State
  | [] => (none, s)
  | sp :: rest =>
    if s.mem.sparesGone.contains sp then s.trySpares pc trigger works rest
    else if works sp then (some sp, s)
    else
      let s := { s with mem := { s.mem with sparesGone := s.mem.sparesGone ++ [sp] } }
      (s.showIpd.noteRsv 6 trigger pc sp 0xFFFFFFFF).trySpares pc trigger works rest

/-- PC_RETIRE_START: Fountainhead names a spare (R563), or the pseudo-channel goes offline (R565). A pseudo-channel whose
retraining failed comes first; for another, a threshold of Table 22.6 was crossed. -/
def pcRetireStart (s : State) (pc : Nat) (works16 works33 : Bool) : State :=
  if s.boot.held || !s.on Reg.IPD_STATUS_TRAINED 0 0 || s.on Reg.IPD_STATUS_COPYING 0 0 ||
      bitOf (s.rd Reg.IPD_OFFLINE_PC) pc then s
  else
    let trigger := if s.mem.retireQ.contains pc then 6 else 2
    let s := { s with mem := { s.mem with retireQ := s.mem.retireQ.filter (· != pc) } }
    match s.trySpares pc trigger (fun sp => if sp = 16 then works16 else works33) (spareOrder pc) with
    | (none, s) => s.goOffline pc trigger
    | (some sp, s) =>
      let s := s.setPchan pc { s.pchan pc with spare := some (sp, trigger) }
      s.setAll [(Reg.IPD_STATUS_COPYING, 0, 0, 1), (Reg.IPD_STATUS_COPY_PC, 0, 0, pc)]

/-- PC_RETIRE_COMPLETE: the copy ends; `bad` lists the words (IPD word addresses) found uncorrectable, which are written to the
spare as poisoned (R564). The spare then serves the logical pseudo-channel. -/
def pcRetireComplete (s : State) (pc : Nat) (bad : List Nat) : State :=
  match (s.pchan pc).spare with
  | none => s
  | some (sp, trigger) =>
    let old := s.physOf pc
    let mine := bad.filter fun w => w < 2 ^ 30 && s.pcOf (8 * w) == pc
    let s := mine.foldl (fun (s : State) w => s.poisonWord (8 * w)) s
    let s := s.setPchan pc { s.pchan pc with spare := none, openRow := [], acts := [], ceTimes := [] }
    let s := { s with mem := { s.mem with phys := SMap.set s.mem.phys pc sp, sparesGone := s.mem.sparesGone ++ [sp]
                                          spareRows := s.mem.spareRows.filter fun r => r / 2 ^ 18 != pc } }
    let s := (s.setAll [(Reg.IPD_STATUS_COPYING, 0, 0, 0), (Reg.IPD_STATUS_COPY_PC, 0, 0, 0)]).noteRsv 5 trigger pc old sp
    let s := s.showIpd.eventSup Reg.FTH_ST_INT_STATUS_SPARE_IN Reg.FTH_ST_INT_EN_EN
    s.eventSup Reg.IPD_INT_STATUS_RETIRED Reg.IPD_INT_EN_RETIRED

end Sys2Proof.Machine
end

