-- ==== Sys2Proof/Machine/Edge.lean ====
section
/-! DEFINITION. Edge ports: Ethernet frames and links, lanes and spare slices, preemption verification, MACsec, T1S segments,
CAN channels, presence inputs and SVC_BTN (R735 to R772, R938). -/

namespace Sys2Proof.Machine

/-! ### Ethernet frames -/

/-- A frame counts in one of the source's counters and gets no droplet (R63). -/
def State.discard (s : State) (cnt : Fld) (src : Nat) : State := s.bumpFld cnt src 0 1

/-- Step 1's checks that every Ethernet frame meets, in this order: cut short, before activation or during a plug hold, FCS,
minimum, maximum. -/
def State.checkFrame (s : State) (src len : Nat) (fcsOk cut : Bool) : Option Fld :=
  if cut then some Reg.EDG_CUT_CNT
  else if !s.running || s.plugHeld src then some Reg.EDG_EARLY_CNT
  else if !fcsOk then some Reg.EDG_FCS_CNT
  else if len < 60 then some Reg.EDG_RUNT_CNT
  else if s.maxFrame src < len then some Reg.EDG_LONG_CNT
  else none

/-- The frame is EAPOL, which uses the uncontrolled port (R748). -/
def isEapol (bs : List Byte) : Bool := beNat ((bs.drop 12).take 2) == 0x888E

/-- A verify response of the MAC merge sublayer: a preemptable frame of 60 zero bytes while the port verifies (R751). -/
def State.isVerifyResponse (s : State) (p : Nat) (bytes : List Byte) (express : Bool) : Bool :=
  s.fld Reg.EDG_PORT_VERIFY p 0 == 1 && !express && bytes == List.replicate 60 0

/-- What MACsec makes of a frame of a port (R748, R750): whether it is discarded, whether it counts as validated, and the next
packet number expected. `macsec` is 0 for an unprotected frame, 1 for a protected frame whose check value is right, 2 for one
whose check value is wrong; `pn` is its packet number. A number below the replay window fails validation. -/
def State.macsecIn (s : State) (p macsec pn : Nat) (bytes : List Byte) : Bool × Bool × State :=
  let m := s.macsec p
  let ok := macsec == 1 && m.rxNext - s.replayWindow p ≤ pn
  if s.fld Reg.EDG_PORT_MACSEC p 0 = 0 then (false, false, s)
  else if ok then
    (false, true, { s with edg := { s.edg with macsec := SMap.set s.edg.macsec p { m with rxNext := max m.rxNext (pn + 1) } } })
  else (s.fld Reg.EDG_PORT_MACSEC p 0 == 2 && !(macsec == 0 && isEapol bytes), false, s)

/-- FRAME_RECEIVE. -/
def frameReceive (s : State) (now p stamp : Nat) (bytes : List Byte) (fcsOk cut express : Bool) (macsec pn : Nat) : State :=
  let s := s.upTo now
  if s.boot.held || !(s.edg.phy.contains p || cut) then s
  else
    match s.checkFrame p bytes.length fcsOk cut with
    | some f => s.discard f p
    | none =>
      if s.isVerifyResponse p bytes express then s.setFld Reg.EDG_PORT_VERIFY p 0 2
      else if s.bridgeRuns then (if s.isBridgePort p then s.intakeEthernet p stamp bytes express false else s)
      else
        match s.macsecIn p macsec pn bytes with
        | (true, _, s) => s.discard Reg.EDG_MACSEC_CNT p
        | (false, ok, s) => s.intakeEthernet p stamp bytes express ok

/-! ### Links -/

/-- PORTS_UP of EDG_STATUS. -/
def State.countPorts (s : State) : State :=
  s.wr Reg.EDG_STATUS_PORTS_UP ((List.range 32).filter fun p => s.on Reg.EDG_PORT_LINK p 0).length

/-- LINK_CHANGE (Table 18.14). -/
def State.linkChange (s : State) : State :=
  s.countPorts.eventSup Reg.EDG_INT_STATUS_LINK_CHANGE Reg.EDG_INT_EN_LINK_CHANGE

/-- The lanes of a port. -/
def State.lanesOf (s : State) (p : Nat) : List Nat :=
  let m := s.fld Reg.EDG_PORT_MODE p 0
  (List.range (if m = 7 then 2 else if m = 8 then 4 else 1)).map fun i => p + i

def State.setLanes (s : State) (p st : Nat) : State :=
  s.setAll ((s.lanesOf p).map fun l => (Reg.EDG_LANE_STATE, l, 0, st))

/-- The MAC verifies the link partner anew (R751, R752). -/
def State.startVerify (s : State) (p : Nat) : State :=
  if s.on Reg.SLU_PORT_PREEMPT p 0 && !s.verifyOff p then
    { s.setFld Reg.EDG_PORT_VERIFY p 0 1 with edg := { s.edg with verifyTries := SMap.erase s.edg.verifyTries p } }
  else s.setFld Reg.EDG_PORT_VERIFY p 0 0

/-- The mode and FEC that a fallback port takes at a speed, `fec` the FEC that auto-negotiation resolved (R35, R36). -/
def bridgeMode (speed fec : Nat) : Nat × Nat :=
  if speed = 50000 then (6, 2) else if speed = 25000 then (5, fec % 2) else if speed = 10000 then (4, 0)
  else if speed = 2500 then (2, 0) else (1, 0)

/-- The speeds at which a fallback port can come up (R35): those that it advertises, and after 500 ms without a Clause 73
partner those of parallel detection. -/
def State.bridgeSpeeds (s : State) (p : Nat) : List Nat :=
  if s.edg.parallel.contains p then [25000, 10000, 2500, 1000] else [50000, 25000, 10000]

/-- The PHY of a source reports its link. -/
def State.setPhy (s : State) (src : Nat) (up : Bool) : State :=
  { s with edg := { s.edg with phy := if up then insertRising src s.edg.phy else s.edg.phy.filter (· != src)
                               parallel := s.edg.parallel.filter (· != src) } }

/-- The link of a port or segment is up, at a speed and with a FEC (R31, R36, R752, R773, R775, R776). -/
def State.linkComesUp (s : State) (src speed fec : Nat) : State :=
  let s := s.setPhy src true
  if src < 32 then
    let s := s.setLanes src 2
    let s := if s.bridgeRuns then
        s.setAll [(Reg.EDG_PORT_MODE, src, 0, (bridgeMode speed fec).1), (Reg.EDG_PORT_FEC, src, 0, (bridgeMode speed fec).2)]
      else if s.imageRuns then s
      else s.setFld Reg.EDG_PORT_FEC src 0 fec
    let s := s.setFld Reg.SLU_PORT_SPEED src 0 speed
    if s.bridgeRuns then ((s.setLink src true).bridgeLinkChange src).linkChange
    else if !s.imageRuns || !s.portExists src then s
    else
      let s := s.startVerify src
      let (see, s) := if s.isPlug src then s.plugBack src else (true, s)
      let s := { s with hst := { s.hst with eoeDown := s.hst.eoeDown.filter fun e => s.bindOf e.1 != 16 + src } }
      ((if see && !(s.macsec src).exhausted then s.setLink src true else s)).linkChange
  else
    let s := s.setFld Reg.EDG_T1S_LINK (src - 32) 0 1
    let s := if s.bridgeRuns then s.bridgeLinkChange src else s
    (if s.isPlug src then (s.plugBack src).2 else s).linkChange

/-- LINK_UP of a port or segment: `fec` is the FEC that auto-negotiation resolved at 25 Gbit/s, 0 none or 1 RS(528,514)
(R35, R36). -/
def linkUp (s : State) (now src speed fec : Nat) : State :=
  let s := s.upTo now
  if s.boot.held || s.edg.phy.contains src || (src < 32 && s.islandInReset (src / 8)) ||
      (src < 32 && s.bridgeRuns && !(s.bridgeSpeeds src).contains speed) then s
  else s.linkComesUp src speed fec

/-- A host-over-Ethernet partition's port has lost its link (Table 17.8). -/
def State.eoePortDown (s : State) (p : Nat) : State :=
  { s with hst := { s.hst with eoeDown := (List.range 4).foldl (fun m k =>
      if s.bindOf k = 16 + p && !(SMap.find m k).isSome then SMap.set m k s.now else m) s.hst.eoeDown } }

/-- PORT_LINK_DOWN (R597, R775, R745): a plug source's loss waits for LINK_HOLD, another port's copies are dried at once. -/
def portLinkDown (s : State) (now src cause : Nat) : State :=
  let s := s.upTo now
  if !s.edg.phy.contains src then s
  else
    let s := s.setPhy src false
    if src < 32 then
      let s := (s.setLanes src 0).setFld Reg.EDG_PORT_CAUSE src 0 cause
      if s.bridgeRuns then ((s.setLink src false).bridgeLinkChange src).linkChange
      else if !s.imageRuns then s
      else
        let s := s.eoePortDown src
        if s.isPlug src then (s.plugLost src 4).linkChange
        else ((s.setLink src false).portLinkLost src).linkChange
    else
      let s := s.setFld Reg.EDG_T1S_LINK (src - 32) 0 0
      let s := if s.bridgeRuns then s.bridgeLinkChange src else s
      (if s.isPlug src then s.plugLost src 4 else s).linkChange

/-- AUTO_NEG_TIMEOUT: no Clause 73 partner has answered, so a fallback port tries parallel detection (R35). -/
def autoNegTimeout (s : State) (p : Nat) : State :=
  if s.bridgeRuns && s.isBridgePort p && !s.edg.phy.contains p then
    { s with edg := { s.edg with parallel := insertRising p s.edg.parallel } }
  else s

/-- PREEMPT_VERIFY_TIMEOUT: three attempts of 10 ms (R751, R752). -/
def preemptVerifyTimeout (s : State) (p : Nat) : State :=
  if s.fld Reg.EDG_PORT_VERIFY p 0 ≠ 1 then s
  else
    let n := SMap.get s.edg.verifyTries p 0 + 1
    let s := { s with edg := { s.edg with verifyTries := SMap.set s.edg.verifyTries p n } }
    if n < 3 then s
    else (s.setFld Reg.EDG_PORT_VERIFY p 0 3).eventSup Reg.EDG_INT_STATUS_VERIFY_FAIL Reg.EDG_INT_EN_VERIFY_FAIL

/-- A port whose SA is exhausted is down to the Sluice (R749): on a plug port LINK_HOLD starts, with cause 6. -/
def State.macsecCheck (s : State) (p : Nat) : State :=
  if !(s.macsec p).exhausted || !s.on Reg.EDG_PORT_LINK p 0 then s
  else
    let s := s.setFld Reg.EDG_PORT_CAUSE p 0 4
    if s.isPlug p then (s.setFld Reg.EDG_PORT_LINK p 0 0).plugLost p 6
    else ((s.setFld Reg.EDG_PORT_LINK p 0 0).portLinkLost p).linkChange

/-- MACSEC_SA_INSTALL: on the receive side the next packet number expected is given (R750); on the transmit side frames may be
sent again (R747, R749). -/
def macsecSaInstall (s : State) (p : Nat) (rx xpn : Bool) (pn : Nat) : State :=
  if !s.imageRuns then s
  else if rx then { s with edg := { s.edg with macsec := SMap.set s.edg.macsec p { s.macsec p with rxNext := pn } } }
  else
    let was := (s.macsec p).exhausted
    let s := { s with edg := { s.edg with
      macsec := SMap.set s.edg.macsec p { s.macsec p with installed := true, xpn := xpn, pn := pn, exhausted := false } } }
    if was && s.edg.phy.contains p then
      let (see, s) := if s.isPlug p && (s.unplugOf p).isSome then s.plugBack p else (true, s)
      (if see then s.setLink p true else s).linkChange
    else s

/-! ### Lanes and the spare slice (R735 to R741, R745, Sequence 18.1) -/

def quadOf (lane : Nat) : Nat := lane / 8

/-- The quad's spare is free. -/
def State.spareFree (s : State) (q : Nat) : Bool :=
  !s.on Reg.EDG_QUAD_SPARE_USED q 0 && !s.on Reg.EDG_QUAD_SPARE_FAILED q 0

/-- The Ethernet port to which a lane belongs. -/
def State.portOfLane (s : State) (l : Nat) : Option Nat :=
  [l, l / 2 * 2, l / 4 * 4].find? fun p => s.portExists p && (s.lanesOf p).contains l

/-- Step 1: the spare is named. -/
def State.sparing (s : State) (l : Nat) : State :=
  (s.setFld Reg.EDG_LANE_STATE l 0 3).setFld Reg.EDG_QUAD_LANE (quadOf l) 0 l

/-- A lane stays down: its port keeps CAUSE TRAIN_FAIL (R745). -/
def State.laneFails (s : State) (l : Nat) : State :=
  let s := s.setFld Reg.EDG_LANE_STATE l 0 4
  let s := match s.portOfLane l with
    | none => s
    | some p => s.setFld Reg.EDG_PORT_CAUSE p 0 3
  (s.wr Reg.EDG_LANE_CMD_PENDING 0).eventSup Reg.EDG_INT_STATUS_LANE_FAILED Reg.EDG_INT_EN_LANE_FAILED

/-- LANE_TRAINING_FAIL: three retries, then the spare, then the lane stays down (R745). -/
def laneTrainingFail (s : State) (l : Nat) : State :=
  if s.boot.held || s.fld Reg.EDG_LANE_USE l 0 = 0 then s
  else
    let n := SMap.get s.edg.trainTries l 0
    if n < 3 then
      { s.setFld Reg.EDG_LANE_STATE l 0 1 with edg := { s.edg with trainTries := SMap.set s.edg.trainTries l (n + 1) } }
    else
      let s := { s with edg := { s.edg with trainTries := SMap.erase s.edg.trainTries l } }
      if s.spareFree (quadOf l) then s.sparing l else s.laneFails l

/-- LANE_TRAINING_RETRY: the retry of each second on a lane that stays down, or a training that a command started (R745). -/
def laneTrainingRetry (s : State) (l : Nat) (ok : Bool) : State :=
  let st := s.fld Reg.EDG_LANE_STATE l 0
  if st ≠ 1 && st ≠ 4 then s
  else if !ok then s
  else
    let s := { s with edg := { s.edg with trainTries := SMap.erase s.edg.trainTries l } }
    (s.setFld Reg.EDG_LANE_STATE l 0 2).wr Reg.EDG_LANE_CMD_PENDING 0

/-- LANE_MARGIN_LOW: an eye margin below 20/256 UI starts a substitution (R737, Table 22.6). -/
def laneMarginLow (s : State) (l margin : Nat) : State :=
  if s.boot.held || s.fld Reg.EDG_LANE_USE l 0 = 0 then s
  else
    let s := s.setFld Reg.EDG_LANE_MARGIN l 0 margin
    if margin < 20 && s.fld Reg.EDG_LANE_STATE l 0 = 2 && s.spareFree (quadOf l) then s.sparing l else s

/-- SLICE_ADAPT_DONE: the port holds new frames (step 3), or the spare has failed (R740). -/
def sliceAdaptDone (s : State) (l : Nat) (ok : Bool) : State :=
  if s.fld Reg.EDG_LANE_STATE l 0 ≠ 3 then s
  else if ok then
    match s.portOfLane l with
    | none => s
    | some p => { s with slu := { s.slu with held := insertRising p s.slu.held } }
  else
    let q := quadOf l
    let s := (s.setFld Reg.EDG_QUAD_SPARE_FAILED q 0 1).noteRsv 4 3 l (9 * q + 8) 0xFFFFFFFF
    let s := s.wr Reg.EDG_STATUS_SPARES (setBits (s.rd Reg.EDG_STATUS_SPARES) q 1 0)
    let s := s.setAll [(Reg.EDG_LANE_CMD_PENDING, 0, 0, 0), (Reg.EDG_LANE_CMD_RESULT, 0, 0, stEmpty)]
    let up := match s.portOfLane l with
      | none => true
      | some p => s.edg.phy.contains p
    if up then s.setFld Reg.EDG_LANE_STATE l 0 2 else s.laneFails l

/-- SLICE_SWITCHOVER: steps 4 and 5; a frame being received is cut short (R738, R739). -/
def sliceSwitchover (s : State) (l : Nat) (receiving : Bool) : State :=
  if s.fld Reg.EDG_LANE_STATE l 0 ≠ 3 then s
  else
    let q := quadOf l
    let old := s.fld Reg.EDG_LANE_SLICE l 0
    let port := s.portOfLane l
    let s := s.setAll [(Reg.EDG_LANE_SLICE, l, 0, 9 * q + 8), (Reg.EDG_LANE_STATE, l, 0, 2),
      (Reg.EDG_QUAD_SPARE_USED, q, 0, 1), (Reg.EDG_QUAD_LANE, q, 0, l),
      (Reg.EDG_STATUS_SPARES, 0, 0, setBits (s.rd Reg.EDG_STATUS_SPARES) q 1 0)]
    let s := match port with
      | none => s
      | some p =>
        let s := if receiving then s.bumpFld Reg.EDG_CUT_CNT p 0 1 else s
        { s with slu := { s.slu with held := s.slu.held.filter (· != p) } }
    let s := s.noteRsv 3 (if s.on Reg.EDG_LANE_CMD_PENDING 0 0 then 5 else 3) l old (9 * q + 8)
    let s := if s.on Reg.EDG_LANE_CMD_PENDING 0 0 then
        s.setAll [(Reg.EDG_LANE_CMD_PENDING, 0, 0, 0), (Reg.EDG_LANE_CMD_RESULT, 0, 0, stOk)] else s
    s.eventSup Reg.EDG_INT_STATUS_SPARE_USED Reg.EDG_INT_EN_SPARE_USED

/-- EDG_LANE_CMD (R737, R779): the checks that both commands share. -/
def State.laneCommand (s : State) (part lane : Nat) (f : State → State) : State :=
  if !s.pageOk part 10 || !s.isSup part then s
  else
    let s := s.wr Reg.EDG_LANE_CMD_LANE lane
    if s.on Reg.EDG_LANE_CMD_PENDING 0 0 then s.wr Reg.EDG_LANE_CMD_RESULT stBusy
    else if s.fld Reg.EDG_LANE_USE lane 0 = 0 then s.wr Reg.EDG_LANE_CMD_RESULT stInvalid
    else f s

/-- EDG_LANE_RETRAIN. -/
def edgLaneRetrain (s : State) (part lane : Nat) : State :=
  s.laneCommand part lane fun s =>
    s.setAll [(Reg.EDG_LANE_CMD_PENDING, 0, 0, 1), (Reg.EDG_LANE_CMD_RESULT, 0, 0, stOk), (Reg.EDG_LANE_STATE, lane, 0, 1)]

/-- EDG_LANE_SPARE. -/
def edgLaneSpare (s : State) (part lane : Nat) : State :=
  s.laneCommand part lane fun s =>
    if !s.spareFree (quadOf lane) then s.wr Reg.EDG_LANE_CMD_RESULT stEmpty
    else (s.setAll [(Reg.EDG_LANE_CMD_PENDING, 0, 0, 1), (Reg.EDG_LANE_CMD_RESULT, 0, 0, stOk)]).sparing lane

/-! ### T1S segments (R755 to R759) -/

/-- T1S_FRAME_RECEIVE; `node` is the node in whose transmit opportunity the frame came, 32 where there is none. -/
def t1sFrameReceive (s : State) (now seg stamp node : Nat) (bytes : List Byte) (fcsOk cut : Bool) : State :=
  let s := s.upTo now
  let src := 32 + seg
  if s.boot.held || !(s.edg.phy.contains src || cut) then s
  else
    match s.checkFrame src bytes.length fcsOk cut with
    | some f => s.discard f src
    | none =>
      let coord := s.on Reg.EDG_T1S_PLCA_EN seg 0 && !s.on Reg.EDG_T1S_ROLE seg 0
      let seen := s.fld Reg.EDG_T1S_SEEN seg 0
      let s := if node < 32 && coord then
          { s with edg := { s.edg with nodeAt := SMap.set s.edg.nodeAt (seg * 32 + node) s.now } } else s
      let s := if node < 32 && coord && !bitOf seen node then
          let s := s.setFld Reg.EDG_T1S_SEEN seg 0 (seen + 2 ^ node)
          if s.imageRuns then s.arrive src 3 node 3 else s
        else s
      s.intakeEthernet src stamp bytes false false

/-- PLCA_BEACON_LOSS and PLCA_BEACON_RESUME of a follower (R756). -/
def plcaBeaconLoss (s : State) (seg : Nat) : State :=
  if s.on Reg.EDG_T1S_ROLE seg 0 then s.setFld Reg.EDG_T1S_PLCA_EN seg 0 0 else s

def plcaBeaconResume (s : State) (seg : Nat) : State :=
  if s.on Reg.EDG_T1S_ROLE seg 0 then s.setFld Reg.EDG_T1S_PLCA_EN seg 0 1 else s

/-- NODE_QUIET in ns (R758): 10 s where the image does not say. -/
def State.nodeQuiet (s : State) (seg : Nat) : Nat :=
  (if s.setting 48 seg = 0 then 10 else s.setting 48 seg) * 1000000000

def nodeQuietExpire (s : State) (now seg node : Nat) : State :=
  let s := s.upTo now
  let seen := s.fld Reg.EDG_T1S_SEEN seg 0
  if bitOf seen node && SMap.get s.edg.nodeAt (seg * 32 + node) 0 + s.nodeQuiet seg ≤ s.now then
    s.setFld Reg.EDG_T1S_SEEN seg 0 (setBits seen node 1 0)
  else s

/-! ### CAN channels (R760 to R764) -/

/-- The record of Table 18.2. -/
def canRecord (ch id format sdt vcid af : Nat) (data : List Byte) : List Byte :=
  let xl := format % 4 = 2
  beBytes 4 (id % 2 ^ 31) ++ beBytes 1 (format &&& 0x73) ++ beBytes 1 ch ++ beBytes 2 data.length ++
    beBytes 1 (if xl then sdt else 0) ++ beBytes 1 (if xl then vcid else 0) ++ beBytes 4 (if xl then af else 0) ++ [0, 0] ++ data

/-- The longest data of a CAN format. -/
def canMax (format : Nat) : Nat := if format % 4 = 0 then 8 else if format % 4 = 1 then 64 else 2048

/-- The channel takes frames of the format. -/
def State.canTakes (s : State) (ch format : Nat) : Bool :=
  format % 4 == 0 || (format % 4 == 1 && s.on Reg.EDG_CAN_FD_EN ch 0) || (format % 4 == 2 && s.on Reg.EDG_CAN_XL_EN ch 0)

/-- CAN_FRAME_RECEIVE. -/
def canFrameReceive (s : State) (now ch id format sdt vcid af : Nat) (data : List Byte) (crcOk : Bool) : State :=
  let s := s.upTo now
  let src := 48 + ch
  let r := canRecord ch id format sdt vcid af data
  if s.boot.held then s
  else if !s.running then s.discard Reg.EDG_EARLY_CNT src
  else if 2 ≤ s.fld Reg.EDG_CAN_STATE ch 0 then s
  else if !crcOk then s.discard Reg.EDG_FCS_CNT src
  else if !s.canTakes ch format then s.discard Reg.EDG_PROTO_CNT src
  else if canMax format < data.length || s.maxFrame src < r.length then s.discard Reg.EDG_LONG_CNT src
  else if s.bridgeRuns && format % 4 = 2 then s.discard Reg.EDG_PROTO_CNT src
  else s.intake { inPort := src, arrival := s.net (s.tsdomOf src) } r (canFlk (id % 2 ^ 31) ch)

/-- The edge drops its reference to a frame's buffer; a copy of the fallback bridge ends. -/
def State.dropTx (s : State) (src : Nat) (f : EdgeTx) : State :=
  match f.copy with
  | some c => s.copyEnds c 0
  | none => s.dropRef f.pool f.handle 6 1 src

/-- CAN_BUS_OFF: with AUTO_RECOVER the queue stays, without it the frames are discarded and the channel is STOPPED. -/
def canBusOff (s : State) (ch : Nat) : State :=
  if 2 ≤ s.fld Reg.EDG_CAN_STATE ch 0 then s
  else
    let src := 48 + ch
    let auto := s.on Reg.EDG_CAN_AUTO_RECOVER ch 0
    let s := s.setAll [(Reg.EDG_CAN_STATE, ch, 0, if auto then 2 else 3), (Reg.EDG_CAN_TEC, ch, 0, 255)]
    let l := s.txQueue src
    let s := if auto then s
             else (l.foldl (fun s f => s.dropTx src f) (s.setTxQueue src [])).bumpFld Reg.EDG_TX_DROP src 0 l.length
    s.eventSup Reg.EDG_INT_STATUS_CAN_BUSOFF Reg.EDG_INT_EN_CAN_BUSOFF

/-- A channel is error active again, its counts 0. -/
def State.canActive (s : State) (ch : Nat) : State :=
  s.setAll [(Reg.EDG_CAN_STATE, ch, 0, 0), (Reg.EDG_CAN_TEC, ch, 0, 0), (Reg.EDG_CAN_REC, ch, 0, 0)]

/-- CAN_BUS_OFF_RECOVER and CAN_CHANNEL_RESTART (R763). -/
def canBusOffRecover (s : State) (ch : Nat) : State :=
  if s.fld Reg.EDG_CAN_STATE ch 0 = 2 && s.on Reg.EDG_CAN_AUTO_RECOVER ch 0 then s.canActive ch else s

def canChannelRestart (s : State) (ch : Nat) : State :=
  if s.running && s.fld Reg.EDG_CAN_STATE ch 0 = 3 then s.canActive ch else s

/-- CAN_BUS_ERROR: the counts move, and with them the error state. -/
def canBusError (s : State) (ch tec rec_ : Nat) : State :=
  if 2 ≤ s.fld Reg.EDG_CAN_STATE ch 0 then s
  else s.setAll [(Reg.EDG_CAN_TEC, ch, 0, tec), (Reg.EDG_CAN_REC, ch, 0, rec_),
                 (Reg.EDG_CAN_STATE, ch, 0, if 128 ≤ tec || 128 ≤ rec_ then 1 else 0)]

/-! ### Transmission on T1S and CAN (Table 18.3, R765, R766) -/

/-- The bytes are a record of Table 18.2 that the channel may send. -/
def State.canValid (s : State) (ch : Nat) (bs : List Byte) : Bool :=
  let fmt := (bs.getD 4 0).toNat
  let id := beNat (bs.take 4)
  let n := beNat ((bs.drop 6).take 2)
  let ext := bitOf id 29 && !bitOf id 30
  16 ≤ bs.length && bs.length == 16 + n && id < 2 ^ 31 && fmt % 4 < 3 && bitOf id 30 == (fmt % 4 == 2) &&
    fmt &&& 0x8C == 0 && (bs.getD 5 0).toNat == ch && n ≤ canMax fmt && s.canTakes ch fmt &&
    (ext || id % 2 ^ 29 < 2 ^ 11) && (fmt % 4 == 2 || (bs.drop 8).take 6 == List.replicate 6 0) &&
    (bs.drop 14).take 2 == [0, 0]

/-- The bytes of a buffer. -/
def State.bufBytes (s : State) (p h n : Nat) : List Byte :=
  if p = 0 then takeBytes n (s.headOf h) else s.ipdRead (s.bufAddr p h) n

/-- edg.t.tx. -/
def edgTx (s : State) (c x : Nat) : Trig :=
  let t := 1536 + c
  let tgt := x % 256
  let b := s.opnd t 0x640
  let p := b / 2 ^ 24 % 256
  let h := b % 2 ^ 24
  let n := s.opnd t 0x641 % 2 ^ 14
  let (l, _, o) := s.refTable t
  let bs := s.bufBytes p h n
  let down := if tgt < 48 then !s.edg.phy.contains tgt else 2 ≤ s.fld Reg.EDG_CAN_STATE (tgt - 48) 0
  if !hasLive l p h o then (s.startOp t uEdg [] stDenied, 0)
  else if tgt < 32 || 64 ≤ tgt || s.poolSize p * 256 < n ||
      !(if tgt < 48 then 60 ≤ n && n ≤ s.maxFrame tgt else s.canValid (tgt - 48) bs) then (s.startOp t uEdg [] stInvalid, 0)
  else if down then (s.startOp t uEdg [] stLost, 0)
  else if s.txRoom tgt = 0 then (s.startOp t uEdg [] stRetry, 0)
  else
    let s := s.setRefTable t (dropEntry l p h o)
    let f : EdgeTx := { pool := p, handle := h, len := n, id := beNat (bs.take 4) % 2 ^ 29, bytes := bs }
    ((s.setTxQueue tgt (s.txQueue tgt ++ [f])).startOp t uEdg [] stOk, 0)

/-- edg.t.room. -/
def edgRoom (s : State) (c x : Nat) : Trig :=
  let t := 1536 + c
  let tgt := x % 256
  if tgt < 32 || 64 ≤ tgt then (s.startOp t uEdg [] stInvalid, 0)
  else (s.startOp t uEdg [(0x642, BitVec.ofNat 32 (s.txRoom tgt))] stOk, 0)

/-- edg.t.ts (R753). -/
def edgTs (s : State) (c : Nat) : Trig :=
  let t := 1536 + c
  match s.edg.stamps with
  | [] => (s.startOp t uEdg [] stEmpty, 0)
  | v :: vs =>
    (({ s with edg := { s.edg with stamps := vs } }).startOp t uEdg
      [(0x642, BitVec.ofNat 32 v), (0x643, BitVec.ofNat 32 (v / 2 ^ 32))] stOk, 0)

/-- The frame that a bus sends next: the head on a segment, the lowest identifier on a channel, first come among equals. -/
def nextTx (can : Bool) : List EdgeTx → Option EdgeTx
  | [] => none
  | f :: fs =>
    if !can then some f
    else match nextTx can fs with
      | none => some f
      | some g => if g.id < f.id then some g else some f

/-- EDGE_TRANSMIT_DONE: the frame has left, and the edge drops its reference. -/
def edgeTransmitDone (s : State) (now target : Nat) : State :=
  let s := s.upTo now
  let src := 32 + target
  let down := if src < 48 then !s.edg.phy.contains src else 2 ≤ s.fld Reg.EDG_CAN_STATE (src - 48) 0
  match nextTx (48 ≤ src) (s.txQueue src) with
  | none => s
  | some f =>
    if down then s
    else
      let s := s.setTxQueue src ((s.txQueue src).erase f)
      ((s.emit (.bus target f.bytes)).bumpFld Reg.EDG_TX_CNT src 0 1).dropTx src f

/-! ### Presence inputs and SVC_BTN (R767 to R772) -/

def State.presIn (s : State) (i : Nat) : PresIn := SMap.get s.edg.pres i {}

def State.setPresIn (s : State) (i : Nat) (v : PresIn) : State :=
  { s with edg := { s.edg with pres := SMap.put s.edg.pres i v {} } }

/-- The raw level after POL. -/
def State.rawLevel (s : State) (i : Nat) : Bool := (s.presIn i).raw != s.on Reg.EDG_PRESCFG_POL i 0

/-- PRES_RAW_CHANGE: a raw level that differs from the debounced one starts its 5 ms anew, one that equals it ends them. -/
def presRawChange (s : State) (now i : Nat) (level : Bool) : State :=
  let s := s.upTo now
  let v := s.presIn i
  if s.boot.brownout || v.raw = level then s
  else
    let s := s.setPresIn i { v with raw := level }
    let since := if s.rawLevel i = v.level then none else some s.wall
    s.setPresIn i { s.presIn i with since := since }

/-- The fabric delivers input changes: an image runs and the fabric is awake. -/
def State.takesInputs (s : State) : Bool := s.imageRuns && s.rd Reg.PWR_STATUS_STATE < 3

/-- The plug side of an input's change (R773, R775). -/
def State.presPlug (s : State) (i : Nat) (level : Bool) : State :=
  let src := 0x40 + i
  if !s.isPlug src then s
  else if level then (s.plugBack src).2
  else s.plugLost src 5

/-- The change of an input's debounced level is latched; into a full latch it replaces the fourth entry (R768). -/
def State.latchChange (s : State) (i : Nat) (level : Bool) : State :=
  let v := s.presIn i
  let full := 4 ≤ v.latch.length
  let c : Change := { edge := if level then 1 else 2, level := level, at_ := s.wall
                      arrival := s.net (s.tsdomOf (0x40 + i)), late := !s.takesInputs, lost := full, count := v.count }
  let latch := if full then v.latch.take 3 ++ [c] else v.latch ++ [c]
  let s := (s.setPresIn i { v with latch := latch }).setFld Reg.EDG_PRESCFG_LATCHED i 0 latch.length
  if full then
    (s.setFld Reg.EDG_PRESCFG_LOST i 0 (min 255 (s.fld Reg.EDG_PRESCFG_LOST i 0 + 1))).eventSup
      Reg.EDG_INT_STATUS_PRES_LOST Reg.EDG_INT_EN_PRES_LOST
  else s

/-- PRES_DEBOUNCE_END: the level changes, and the change is latched (R767, R768). Under the fallback bridge it shows in
GEN_STATUS.PRES and wakes only (R53). -/
def presDebounceEnd (s : State) (now i : Nat) : State :=
  let s := s.upTo now
  let v := s.presIn i
  match v.since with
  | none => s
  | some t =>
    if s.wall < t + 5000000 then s
    else
      let level := !v.level
      let s := s.setPresIn i { v with level := level, since := none, count := (v.count + 1) % 2 ^ 32 }
      if s.bridgeRuns then s
      else
        let s := s.latchChange i level
        if s.takesInputs then s.presPlug i level else s

/-- The event frame of a change (Table 18.5); DELAY runs from the debounce end to now. -/
def State.eventFrame (s : State) (i : Nat) (c : Change) : List Byte :=
  beBytes 1 (0x40 + i) ++ beBytes 1 c.edge ++ beBytes 1 (flagBit c.level) ++ beBytes 1 (flagBit c.late + 2 * flagBit c.lost) ++
    beBytes 4 c.count ++ beBytes 4 (min (2 ^ 32 - 1) ((s.wall - c.at_) / 1000)) ++ [0, 0, 0, 0]

/-- An input with TOUCH set has a change to be read (R778). -/
def State.touchInput (s : State) : Bool :=
  (List.range 9).any fun i => s.on Reg.EDG_PRESCFG_TOUCH i 0 && !(s.presIn i).latch.isEmpty

/-- PRES_LATCH_TAKE: the oldest change leaves the latch and becomes an event frame where MODE and EDGES select it (R768 to
R770, R778); one that was latched while the fabric could not act on it has its plug effect now. -/
def presLatchTake (s : State) (now i : Nat) : State :=
  let s := s.upTo now
  let v := s.presIn i
  match v.latch with
  | [] => s
  | c :: rest =>
    if !s.takesInputs || (s.touchInput && !s.on Reg.EDG_PRESCFG_TOUCH i 0) then s
    else
      let s := (s.setPresIn i { v with latch := rest }).setFld Reg.EDG_PRESCFG_LATCHED i 0 rest.length
      let s := if c.late then s.presPlug i c.level else s
      let src := 0x40 + i
      let mode := s.fld Reg.EDG_PRESCFG_MODE i 0
      if mode % 2 = 1 && bitOf (s.fld Reg.EDG_PRESCFG_EDGES i 0) (c.edge - 1) then
        let arr := if c.late then (s.net (s.tsdomOf src) + 2 ^ 64 - (s.wall - c.at_) % 2 ^ 64) % 2 ^ 64 else c.arrival
        s.intake { inPort := src, arrival := arr } (s.eventFrame i c) (eventFlk src)
      else s

end Sys2Proof.Machine
end

