-- ==== Sys2Proof/Machine/Aes.lean ====
section
/-! DEFINITION. AES of FIPS 197 and the hash of GCM (Table 10.2): block values in network order, byte 0 in bits 127:120
(R407). The spec names the algorithms; their text is the standards'. -/

namespace Sys2Proof.Machine

/-- The S-box, value 0 in the most significant byte. -/
def aesBox : Nat :=
  0x637c777bf26b6fc53001672bfed7ab76ca82c97dfa5947f0add4a2af9ca472c0b7fd9326363ff7cc34a5e5f171d8311504c723c31896059a071280e2eb27b27509832c1a1b6e5aa0523bd6b329e32f8453d100ed20fcb15b6acbbe394a4c58cfd0efaafb434d338545f9027f503c9fa851a3408f929d38f5bcb6da2110fff3d2cd0c13ec5f974417c4a77e3d645d197360814fdc222a908846eeb814de5e0bdbe0323a0a4906245cc2d3ac629195e479e7c8376d8dd54ea96c56f4ea657aae08ba78252e1ca6b4c6e8dd741f4bbd8b8a703eb5664803f60e613557b986c11d9ee1f8981169d98e949b1e87e9ce5528df8ca1890dbfe6426841992d0fb054bb16

/-- SubBytes of one byte. -/
def aesSub (b : Nat) : Nat := bits aesBox (8 * (255 - b % 256)) 8

/-- Multiplication by x in GF(2^8). -/
def aesDouble (b : Nat) : Nat := if b < 128 then 2 * b else (2 * b) % 256 ^^^ 0x1B

/-- The 16 bytes of a block, byte 0 first. -/
def blockBytes (v : Nat) : List Nat := (List.range 16).map fun i => bits v (8 * (15 - i)) 8

/-- The block of 16 bytes. -/
def blockOf (l : List Nat) : Nat := l.foldl (fun v b => v * 256 + b) 0

/-- MixColumns of one column. -/
def aesMix (a b c d : Nat) : List Nat :=
  let m := fun (p q r t : Nat) => aesDouble p ^^^ (aesDouble q ^^^ q) ^^^ r ^^^ t
  [m a b c d, m b c d a, m c d a b, m d a b c]

/-- SubBytes and ShiftRows. -/
def aesShift (l : List Nat) : List Nat :=
  [0, 5, 10, 15, 4, 9, 14, 3, 8, 13, 2, 7, 12, 1, 6, 11].map fun i => aesSub (l.getD i 0)

/-- MixColumns of four columns. -/
def aesColumns (l : List Nat) : List Nat :=
  ([0, 4, 8, 12].map fun i => aesMix (l.getD i 0) (l.getD (i + 1) 0) (l.getD (i + 2) 0) (l.getD (i + 3) 0)).flatten

/-- SubWord of the key schedule. -/
def aesSubWord (w : Nat) : Nat :=
  ((aesSub (bits w 24 8) * 256 + aesSub (bits w 16 8)) * 256 + aesSub (bits w 8 8)) * 256 + aesSub (bits w 0 8)

/-- RotWord of the key schedule. -/
def aesRotWord (w : Nat) : Nat := w % 2 ^ 24 * 256 + w / 2 ^ 24

/-- The key schedule: words newest first, the word number, the round constant, and the words still to make. -/
def aesExpand (nk : Nat) : Nat → Nat → Nat → List Nat → List Nat
  | 0, _, _, ws => ws.reverse
  | n + 1, i, rc, ws =>
    let last := ws.headD 0
    let old := ws.getD (nk - 1) 0
    let t := if i % nk = 0 then aesSubWord (aesRotWord last) ^^^ rc * 2 ^ 24
      else if nk = 8 && i % 8 = 4 then aesSubWord last else last
    aesExpand nk n (i + 1) (if i % nk = 0 then aesDouble rc else rc) ((old ^^^ t) :: ws)

/-- The round keys as blocks, from a key of nk words. -/
def aesKeys (nk key : Nat) : List Nat :=
  let rounds := nk + 7
  let first := ((List.range nk).map fun i => bits key (32 * (nk - 1 - i)) 32).reverse
  let ws := aesExpand nk (4 * rounds - nk) nk 1 first
  (List.range rounds).map fun r =>
    (List.range 4).foldl (fun v i => v * 2 ^ 32 + ws.getD (4 * r + i) 0) 0

/-- The rounds after the first key addition; the last leaves MixColumns out. -/
def aesRounds : List Nat → Nat → Nat
  | [], v => v
  | [k], v => blockOf (aesShift (blockBytes v)) ^^^ k
  | k :: ks, v => aesRounds ks (blockOf (aesColumns (aesShift (blockBytes v))) ^^^ k)

/-- AES of a block, under a key of 4 or 8 words. -/
def aesEncrypt (nk key block : Nat) : Nat :=
  match aesKeys nk key with
  | [] => block
  | k :: ks => aesRounds ks (block ^^^ k)

/-- The product in the field of GCM: n bits of x are left, from bit 127 down. -/
def ghashMul (x : Nat) : Nat → Nat → Nat → Nat
  | 0, _, z => z
  | n + 1, v, z =>
    ghashMul x n (if v % 2 = 1 then v / 2 ^^^ 0xE1 * 2 ^ 120 else v / 2) (if bitOf x n then z ^^^ v else z)

/-- One block absorbed by GHASH under a hash key. -/
def ghash (h acc block : Nat) : Nat := ghashMul (acc ^^^ block) 128 h 0

/-- Bytes as blocks of 16, the last filled with zeros; at most n blocks. -/
def blocksOf : Nat → List Byte → List Nat
  | 0, _ => []
  | n + 1, bs => if bs.isEmpty then [] else beNat (takeBytes 16 bs) :: blocksOf n (bs.drop 16)

/-- The doubling dbl of RFC 4493. -/
def cmacDouble (v : Nat) : Nat := if bitOf v 127 then (2 * v) % 2 ^ 128 ^^^ 0x87 else 2 * v

/-- Counter-mode encryption of bytes, the counter's low 32 bits starting at c (GCM); at most n blocks. -/
def gcmCrypt (nk key j0 : Nat) : Nat → Nat → List Byte → List Byte
  | 0, _, _ => []
  | n + 1, c, bs =>
    if bs.isEmpty then []
    else
      let ks := beBytes 16 (aesEncrypt nk key (j0 / 2 ^ 32 * 2 ^ 32 + (j0 + c) % 2 ^ 32))
      List.zipWith (· ^^^ ·) (bs.take 16) ks ++ gcmCrypt nk key j0 n (c + 1) (bs.drop 16)

end Sys2Proof.Machine
end

