-- ==== Sys2Proof/Machine/Window.lean ====
section
/-! DEFINITION. The packet window and the droplet-access ports (Tables 9.7 and 9.8, R365, R373 to R378). -/

namespace Sys2Proof.Machine

/-! ### The packet window -/

/-- A feed of the thread runs on the droplet of a handle, over a range that overlaps n bytes at an offset (R423). -/
def State.feedBlocks (s : State) (t hd off n : Nat) : Bool :=
  [0, 1].any fun h =>
    match SMap.find (s.thread t).ops (18 + h) with
    | none => false
    | some o =>
      let start := o.arg2 / 4 % 2 ^ 14
      o.arg2 % 4 == 2 && o.arg == hd && decide (off < start + o.arg2 / 2 ^ 16) && decide (start < off + n)

/-- An operation on the packet of the droplet in pw.h: INVALID and DENIED by R365. Behind a running feed of the droplet, an
operation on the given bytes completes only when the feed has (R423). -/
def State.packetOp (s : State) (t off n : Nat) (f : Nat → Slot → State) : Trig :=
  let hd := s.opnd t 0x200
  match s.heldBy t hd with
  | (st, i, sl) =>
    if st ≠ stOk then (s.startOp t uPw [] st, 0)
    else
      let s' := f i sl
      match SMap.find (s'.thread t).ops uPw with
      | none => (s', 0)
      | some o => (if s.feedBlocks t hd off n then s'.putOp t uPw { o with wait := 8, arg := hd } else s', 0)

/-- The IPD request of an access that reaches body bytes. -/
def State.bodyReq (s : State) (d : Droplet) (off n : Nat) (write : Bool) : State :=
  let h := s.headLen d
  if off + n ≤ h then s else s.ipdReqs (s.bufAddr d.bodyPool d.body + (off - h)) n write clsPkt

/-- pw.t.ld8, ld16, ld32: n bytes at an offset, in network order (R373, R377). -/
def pwLoad (s : State) (t x n : Nat) : Trig :=
  s.packetOp t (x % 2 ^ 15) n fun _ sl =>
    let off := x % 2 ^ 15
    if s.pktLen sl.d < off + n then s.startOp t uPw [] stInvalid
    else
      match s.pktBytes sl.d off n with
      | none => s.startOp t uPw [] stLost
      | some bs => (s.bodyReq sl.d off n false).startOp t uPw [(0x202, BitVec.ofNat 32 (beNat bs))] stOk

/-- Bytes written into the packet: into the head region as far as it reaches, and into the body beyond. -/
def State.writePacket (s : State) (d : Droplet) (off : Nat) (bs : List Byte) : State :=
  let h := s.headLen d
  let inHead := bs.take (h - off)
  let inBody := bs.drop (h - off)
  let s := if inHead.isEmpty then s else s.setHead d.head (overwrite (s.headOf d.head) off inHead)
  if inBody.isEmpty then s else s.ipdWrite (s.bufAddr d.bodyPool d.body + (off - h)) inBody

/-- pw.t.st8, st16, st32: the low n bytes of pw.d, most significant first (R373, R377). -/
def pwStore (s : State) (t x n : Nat) : Trig :=
  s.packetOp t (x % 2 ^ 15) n fun _ sl =>
    let off := x % 2 ^ 15
    if s.pktLen sl.d < off + n then s.startOp t uPw [] stInvalid
    else if (s.pktBytes sl.d off n).isNone then s.startOp t uPw [] stLost
    else ((s.writePacket sl.d off (beBytes n (s.opnd t 0x201))).bodyReq sl.d off n true).startOp t uPw [] stOk

/-- pw.t.ins (R374, R376). -/
def pwIns (s : State) (t x : Nat) : Trig :=
  s.packetOp t 0 (2 ^ 15) fun _ sl =>
    let off := x % 512
    let n := bits x 16 7
    let bs := s.headOf sl.d.head
    if n = 0 || 64 < n || bs.length < off then s.startOp t uPw [] stInvalid
    else if 320 < bs.length + n then s.startOp t uPw [] stOverflow
    else (s.setHead sl.d.head (bs.take off ++ List.replicate n 0 ++ bs.drop off)).startOp t uPw [] stOk

/-- pw.t.del (R375, R376). -/
def pwDel (s : State) (t x : Nat) : Trig :=
  s.packetOp t 0 (2 ^ 15) fun _ sl =>
    let off := x % 512
    let n := bits x 16 7
    let bs := s.headOf sl.d.head
    if n = 0 || 64 < n || bs.length < off + n then s.startOp t uPw [] stInvalid
    else (s.setHead sl.d.head (bs.take off ++ bs.drop (off + n))).startOp t uPw [] stOk

/-- pw.t.len: current length and HEADLEN. -/
def pwLen (s : State) (t : Nat) : Trig :=
  s.packetOp t 0 0 fun _ sl =>
    s.startOp t uPw [(0x202, BitVec.ofNat 32 (s.pktLen sl.d % 2 ^ 15 + s.headLen sl.d * 65536))] stOk

/-! ### Droplet access -/

/-- An operation on the droplet in dl.h that reads one word. -/
def State.dropletRead (s : State) (t : Nat) (f : Slot → Nat) : Trig :=
  match s.heldBy t (s.opnd t 0x240) with
  | (st, _, sl) =>
    (if st = stOk then s.startOp t uDl [(0x242, BitVec.ofNat 32 (f sl))] stOk else s.startOp t uDl [] st, 0)

/-- dl.t.rd (Table 2.1). -/
def dlRd (s : State) (t x : Nat) : Trig := s.dropletRead t fun sl => sl.d.word (x % 16)

/-- dl.t.flk (Table 4.2). -/
def dlFlk (s : State) (t x : Nat) : Trig := s.dropletRead t fun sl => flkNum sl.flk (4 * (x % 16)) 4

/-- dl.t.key (R148). -/
def dlKey (s : State) (t x : Nat) : Trig := s.dropletRead t fun sl => flkNum sl.prec.key (4 * (x % 16)) 4

/-- dl.t.lay (R148). -/
def dlLay (s : State) (t x : Nat) : Trig := s.dropletRead t fun sl => sl.prec.layers.getD (x % 16) 0

/-- dl.t.pinfo: 0 end position and PARSE, 1 the ACTION's PARAM index; any other operand is INVALID. -/
def dlPinfo (s : State) (t x : Nat) : Trig :=
  match s.heldBy t (s.opnd t 0x240) with
  | (st, _, sl) =>
    if st ≠ stOk then (s.startOp t uDl [] st, 0)
    else if x = 0 then
      (s.startOp t uDl [(0x242, BitVec.ofNat 32 (sl.prec.endPos % 1024 + sl.d.parse * 65536))] stOk, 0)
    else if x = 1 then
      (s.startOp t uDl [(0x242, BitVec.ofNat 32 (sl.prec.param % 8192 + 32768 * flagBit sl.prec.paramValid))] stOk, 0)
    else (s.startOp t uDl [] stInvalid, 0)

/-- The slot after a write of droplet word n that R378 accepts; none for any other. -/
def writeWord (sl : Slot) (n : Nat) (v : W32) : Option Slot :=
  let d := sl.d
  let x := v.toNat
  if n = 4 then some { sl with d := { d with hash := x } }
  else if n = 5 && x < 4096 then some { sl with d := { d with bucket := x }, bktWritten := true }
  else if n = 10 && x < 2 ^ 24 then some { sl with d := { d with egress := x % 65536, dryReason := x / 65536 } }
  else if n = 14 then some { sl with d := { d with prog0 := v } }
  else if n = 15 then some { sl with d := { d with prog1 := v } }
  else none

/-- dl.t.wr: the handle is checked first; a word or a bit that the program may not write faults DROPLET_FIELD (R58, R378). -/
def dlWr (s : State) (t x : Nat) : Trig :=
  match s.heldBy t (s.opnd t 0x240) with
  | (st, i, sl) =>
    if st ≠ stOk then (s.startOp t uDl [] st, 0)
    else
      match writeWord sl (x % 16) ((s.thread t).port 0x241) with
      | none => (s, causeDropletField)
      | some sl => ((s.setSlot i sl).startOp t uDl [] stOk, 0)

end Sys2Proof.Machine
end

