-- ==== Sys2Proof/Machine/Helpers.lean ====
section
/-! DEFINITION. The helpers (chapter "Helpers"): claims, the lazy state switch, the operations of Table 10.2, feeds,
squashed operations and orphans, disable and enable. A trigger's registers are written when it completes (R425); the
packet bytes of a feed are read and written when it starts, and a later packet-window operation on them completes behind it
(R423). -/

namespace Sys2Proof.Machine

/-! ### Helpers and their registers -/

def State.helper (s : State) (b h : Nat) : Helper := SMap.get s.hlp (2 * b + h) {}

def State.setHelper (s : State) (b h : Nat) (v : Helper) : State := { s with hlp := SMap.put s.hlp (2 * b + h) v {} }

/-- Sixteen registers, an absent one 0. -/
def fullRegs (l : List Nat) : List Nat := (List.range 16).map fun i => l.getD i 0

/-- Register r of a register set. -/
def hreg (l : List Nat) (r : Nat) : Nat := l.getD r 0

def setHreg (l : List Nat) (r v : Nat) : List Nat := (fullRegs l).set r (v % 2 ^ 128)

/-- The CRY or CHK field of BSN_HLPb. -/
def hlpEn (h : Nat) : Fld := if h = 0 then Reg.BSN_HLP_CRY_EN else Reg.BSN_HLP_CHK_EN

def hlpState (h : Nat) : Fld := if h = 0 then Reg.BSN_HLP_CRY_STATE else Reg.BSN_HLP_CHK_STATE

def hlpPend (h : Nat) : Fld := if h = 0 then Reg.BSN_HLP_CRY_ENABLE_PENDING else Reg.BSN_HLP_CHK_ENABLE_PENDING

def hlpOwner (h : Nat) : Fld := if h = 0 then Reg.BSN_HLP_CRY_OWNER else Reg.BSN_HLP_CHK_OWNER

/-- The claim holder changes, and OWNER with it (Table 10.9). -/
def State.setClaim (s : State) (b h : Nat) (k : Option Nat) : State :=
  (s.setHelper b h { s.helper b h with claim := k }).setFld (hlpOwner h) b 0 (k.getD 0xFF)

/-- First port of a helper (Table 9.17). -/
def hlpPort (h n : Nat) : Nat := 0x460 + 0x40 * h + n

/-! ### Claims and the lazy switch -/

/-- .t.claim (R413, R431). A control engine's thread has no helper. -/
def hlpClaim (s : State) (t h : Nat) : Trig :=
  let b := threadBasin t
  let k := t % 128
  let x := s.helper b h
  if 1536 ≤ t then (s.startOp t (uHlp h) [] stDenied, 0)
  else if x.orphan.isSome then (s.startOp t (uHlp h) [] stBusy, 0)
  else
    match x.claim with
    | some j => (s.startOp t (uHlp h) [] (if j = k then stDouble else stBusy), 0)
    | none => ((s.setClaim b h (some k)).startOp t (uHlp h) [] stOk, 0)

/-- A trigger other than .t.claim reaches the helper: BUSY under an orphan of the thread (R431), DENIED without the claim
(R403), and where it needs a running helper, DENIED while the helper is disabled or shutting down (R427). -/
def State.hlpGate (s : State) (t h : Nat) (needs : Bool) (f : Nat → Nat → State) : Trig :=
  let b := threadBasin t
  let k := t % 128
  let x := s.helper b h
  if 1536 ≤ t then (s.startOp t (uHlp h) [] stDenied, 0)
  else if (x.orphan.map fun o => o.1) = some k then (s.startOp t (uHlp h) [] stBusy, 0)
  else if x.claim ≠ some k then (s.startOp t (uHlp h) [] stDenied, 0)
  else if needs && s.fld (hlpState h) b 0 != 1 then (s.startOp t (uHlp h) [] stDenied, 0)
  else (f b k, 0)

/-- .t.rel (R414): the open streaming operation ends with it (R417). -/
def hlpRel (s : State) (t h : Nat) : Trig :=
  s.hlpGate t h false fun b _ =>
    ((s.setClaim b h none).setHelper b h { (s.setClaim b h none).helper b h with open_ := none }).startOp t (uHlp h) [] stOk

/-- The address in mem.shared of a thread's save slot: SAVE_BASE is setting 67 of the image (R410). -/
def State.slotAddr (s : State) (b h k : Nat) : Nat := b * 2 ^ 19 + s.setting 67 0 + 0x8000 * h + 256 * k

/-- The sixteen registers that a save slot holds: register r at byte 16 × r, its words in order 0 to 3. -/
def State.slotRegs (s : State) (b h k : Nat) : List Nat :=
  (List.range 16).map fun r => leNat (cellRead s.mem.shared (s.slotAddr b h k + 16 * r) 16)

/-- A save slot has an uncorrectable error. -/
def State.slotLost (s : State) (b h k : Nat) : Bool :=
  s.mem.sharedBad.any fun a => s.slotAddr b h k ≤ a && a < s.slotAddr b h k + 256

/-- Registers written to a save slot. -/
def State.saveSlot (s : State) (b h k : Nat) (regs : List Nat) : State :=
  let a := s.slotAddr b h k
  { s with mem := { s.mem with
    shared := cellWrite s.mem.shared a (((fullRegs regs).map fun v => leBytes 16 v).flatten)
    sharedBad := s.mem.sharedBad.filter fun x => !(a ≤ x && x < a + 256) } }

/-- The live registers go to their owner's save slot. -/
def State.saveLive (s : State) (b h : Nat) : State :=
  match (s.helper b h).live with
  | none => s
  | some j => s.saveSlot b h j (s.helper b h).regs

/-- The lazy state switch (R409); true where the slot of the claim holder was lost (R411). -/
def State.hlpSwitch (s : State) (b h k : Nat) : Bool × State :=
  if (s.helper b h).live = some k then (false, s)
  else
    let s := s.saveLive b h
    let c := s.helper b h
    if s.slotLost b h k then
      let s := s.setHelper b h { c with live := some k, regs := [] }
      (true, (s.bump Reg.BSN_HLP_LOST_CNT).eventSup Reg.BSN_HLP_INT_STATUS_SLOT_LOST Reg.BSN_HLP_INT_EN_SLOT_LOST)
    else
      (false, (s.setHelper b h { c with live := some k, regs := s.slotRegs b h k }).bump Reg.BSN_HLP_SWITCH_CNT)

/-- A trigger that works on the thread's registers, after the switch. -/
def State.hlpWork (s : State) (t h : Nat) (f : State → Nat → Helper → State) : Trig :=
  s.hlpGate t h true fun b k =>
    match s.hlpSwitch b h k with
    | (true, s) => s.startOp t (uHlp h) [] stLost
    | (false, s) => f s b (s.helper b h)

/-- What runs in the helper for the thread's trigger: 1 a .t.op, 2 a .t.feed with its range, 3 a .t.wr. -/
def State.hlpRunning (s : State) (t h what : Nat) : State :=
  match SMap.find (s.thread t).ops (uHlp h) with
  | none => s
  | some o => s.putOp t (uHlp h) { o with arg2 := what }

/-- A trigger that runs in the helper: the registers and the open operation that it writes when it completes (R425), and its
status. -/
def State.hlpRun (s : State) (t h b what : Nat) (regs : List Nat) (opened : Option W32) (st : Nat) : State :=
  ((s.setHelper b h { s.helper b h with next := some (regs, opened) }).startOp t (uHlp h) [] st).hlpRunning t h what

/-- .t.wr: the word that .sel selects (R406). -/
def hlpWr (s : State) (t h x : Nat) : Trig :=
  let sel := s.opnd t (hlpPort h 0) % 64
  s.hlpWork t h fun s b c =>
    let v := setBits (hreg c.regs (sel / 4)) (32 * (sel % 4)) 32 x
    s.hlpRun t h b 3 (setHreg c.regs (sel / 4) v) c.open_ stOk

/-- .t.rd: the word that the operand selects. -/
def hlpRd (s : State) (t h x : Nat) : Trig :=
  s.hlpWork t h fun s _ c =>
    let v := bits (hreg c.regs (x % 64 / 4)) (32 * (x % 4)) 32
    s.startOp t (uHlp h) [(hlpPort h 2, BitVec.ofNat 32 v)] stOk

/-! ### The operation word (Table 10.1) -/

def opCode (x : Nat) : Nat := x % 64
def opA (x : Nat) : Nat := bits x 6 4
def opB (x : Nat) : Nat := bits x 10 4
def opD (x : Nat) : Nat := bits x 14 4
def opCnt (x : Nat) : Nat := if bits x 18 4 = 0 then 16 else bits x 18 4
def opSel (x : Nat) : Nat := bits x 22 4
def opInit (x : Nat) : Bool := bitOf x 26

/-- A GCM or CMAC operation, which has a key in A and a context of four registers at B. -/
def opContext (op : Nat) : Bool := (1 ≤ op && op ≤ 5) || (8 ≤ op && op ≤ 10)

/-- The operation word is one that Table 10.2 allows for the helper (R415, R416). -/
def opWordOk (h x : Nat) : Bool :=
  let op := opCode x
  let known := if h = 0 then opContext op || op == 0x0C || op == 0x0F
    else (0x10 ≤ op && op ≤ 0x12) || (0x14 ≤ op && op ≤ 0x16) || op == 0x18
  let keyed := opContext op || op == 0x0C
  known && x / 2 ^ 27 == 0 && (h == 1 || opSel x < 2) &&
    !(keyed && opSel x == 1 && opA x == 15) && !(opContext op && 12 < opB x) &&
    !(0x10 ≤ op && op ≤ 0x12 && 6 < opSel x) &&
    !(op == 0x18 && (8 < opCnt x || (4 < opCnt x && opB x == 15)))

/-- The counts of B+2 (R418): additional data and text. -/
def ctxAad (r : List Nat) (x : Nat) : Nat := hreg r (opB x + 2) / 2 ^ 64

def ctxText (r : List Nat) (x : Nat) : Nat := hreg r (opB x + 2) % 2 ^ 64

/-- The context allows the operation (R419, R420). -/
def contextOk (r : List Nat) (x : Nat) : Bool :=
  match opCode x with
  | 2 => ctxAad r x % 16 == 0 && ctxText r x == 0
  | 3 | 4 => ctxText r x % 16 == 0
  | 9 => hreg r (opB x + 2) % 16 == 0
  | _ => true

/-- Key words, and the key (Table 10.1, SEL). -/
def hlpKeyWords (x : Nat) : Nat := if opSel x = 1 then 8 else 4

def keyOf (r : List Nat) (x : Nat) : Nat :=
  if opSel x = 1 then hreg r (opA x) * 2 ^ 128 + hreg r (opA x + 1) else hreg r (opA x)

/-- AES under the operation's key. -/
def aesOf (r : List Nat) (x v : Nat) : Nat := aesEncrypt (hlpKeyWords x) (keyOf r x) v

/-- Bytes 0 to CNT − 1 of a register (R407). -/
def regBytes (r : List Nat) (n c : Nat) : List Byte := (beBytes 16 (hreg r n)).take c

/-! ### CRCs and checksums -/

/-- The CRC accumulator in register A as the CRC register: a reflected preset keeps it reflected (R416). -/
def crcLoad (p : CrcParams) (v : Nat) : Nat := if p.refl then bitRev p.w (v % 2 ^ p.w) else v % 2 ^ p.w

def crcStore (p : CrcParams) (v : Nat) : Nat := if p.refl then bitRev p.w v else v

/-- Bytes absorbed into a CRC accumulator; the register's bits above the words it uses stay (R407). -/
def crcAbsorb (r : List Nat) (x : Nat) (init : Bool) (bs : List Byte) : List Nat :=
  match crcPreset (opSel x) with
  | none => r
  | some p =>
    let start := if init then p.init else crcLoad p (hreg r (opA x))
    setHreg r (opA x) (setBits (hreg r (opA x)) 0 (max 32 p.w) (crcStore p (crcUpdate p start bs)))

/-- Bytes added as 16-bit words in network order with end-around carry into 32 bits; an odd last byte is padded with a zero
byte (R421). At most n words. -/
def csumAdd : Nat → Nat → List Byte → Nat
  | 0, acc, _ => acc
  | n + 1, acc, bs =>
    if bs.isEmpty then acc
    else
      let v := acc + beNat (takeBytes 2 bs)
      csumAdd n (v % 2 ^ 32 + v / 2 ^ 32) (bs.drop 2)

/-- A sum folded to 16 bits. -/
def csumFold (v : Nat) : Nat :=
  let a := v % 2 ^ 16 + v / 2 ^ 16
  a % 2 ^ 16 + a / 2 ^ 16

def csumAbsorb (r : List Nat) (x : Nat) (init : Bool) (bs : List Byte) : List Nat :=
  let v := hreg r (opA x)
  setHreg r (opA x) (setBits v 0 32 (csumAdd bs.length (if init then 0 else v % 2 ^ 32) bs))

/-! ### GCM and CMAC contexts -/

/-- The tag of GCM: AES_K(J0) with the hash over the length block. -/
def gcmTag (r : List Nat) (x : Nat) : Nat :=
  let b := opB x
  let lens := ctxAad r x * 8 % 2 ^ 64 * 2 ^ 64 + ctxText r x * 8 % 2 ^ 64
  aesOf r x (hreg r b) ^^^ ghash (hreg r (b + 3)) (hreg r (b + 1)) lens

/-- The tag of AES-CMAC (RFC 4493): the held block under K1, the padded partial block under K2 (R420). -/
def cmacTag (r : List Nat) (x : Nat) : Nat :=
  let b := opB x
  let n := hreg r (b + 2)
  let k1 := hreg r (b + 1)
  let k2 := cmacDouble k1
  let last := if n = 0 then 2 ^ 127 ^^^ k2 else if n % 16 = 0 then hreg r (b + 3) ^^^ k1 else hreg r (b + 3) ^^^ k2
  aesOf r x (hreg r b ^^^ last)

/-- Blocks absorbed by CMAC: each block held before is absorbed, and the new one is held (R420). -/
def cmacBlocks (r : List Nat) (x : Nat) : List Nat → Bool → Nat → Nat → Nat × Nat
  | [], _, acc, held => (acc, held)
  | v :: vs, first, acc, held =>
    cmacBlocks r x vs false (if first then acc else aesOf r x (acc ^^^ held)) v

/-- The last block of a CMAC feed of n bytes, padded where it is partial. -/
def cmacPad (bs : List Byte) : List Byte :=
  if bs.length % 16 = 0 then bs else bs ++ [0x80] ++ List.replicate (15 - bs.length % 16) 0

/-- A CMAC feed. -/
def cmacFeed (r : List Nat) (x : Nat) (bs : List Byte) : List Nat :=
  let b := opB x
  let n := hreg r (b + 2)
  let ps := cmacPad bs
  let (acc, held) := cmacBlocks r x (blocksOf (ps.length / 16) ps) (n == 0) (hreg r b) (hreg r (b + 3))
  setHreg (setHreg (setHreg r b acc) (b + 2) (n + bs.length)) (b + 3) held

/-- Bytes absorbed by GHASH, zero-padded to blocks. -/
def ghashBytes (r : List Nat) (x : Nat) (bs : List Byte) : List Nat :=
  let b := opB x
  let h := hreg r (b + 3)
  setHreg r (b + 1) ((blocksOf (bs.length / 16 + 1) bs).foldl (ghash h) (hreg r (b + 1)))

/-- The bytes that a text feed writes in place: encrypted or decrypted, which counter mode makes one operation. -/
def gcmText (r : List Nat) (x : Nat) (bs : List Byte) : List Byte :=
  gcmCrypt (hlpKeyWords x) (keyOf r x) (hreg r (opB x)) (bs.length / 16 + 1) (ctxText r x / 16 + 1) bs

/-! ### .t.op -/

/-- A .t.op or .t.feed sets HELPER when it completes (R426); of a feed, the handle it reads is kept. -/
def State.hlpMark (s : State) (t h : Nat) (feed : Option Nat) : State :=
  match SMap.find (s.thread t).ops (uHlp h) with
  | none => s
  | some o => s.putOp t (uHlp h) { o with flag := true, arg := feed.getD 0 }

/-- An operation of Table 10.2: INVALID by R415, R419 and R420, else registers as its row gives them. -/
def State.hlpOp (s : State) (t h x : Nat) (f : List Nat → List Nat) (opens : Bool) : Trig :=
  let (s, c) := s.hlpWork t h fun s b c =>
    if !opWordOk h x || !contextOk c.regs x then s.startOp t (uHlp h) [] stInvalid
    else s.hlpRun t h b 1 (f c.regs) (if opens then some (BitVec.ofNat 32 x) else none) stOk
  (s.hlpMark t h none, c)

/-- Stores of a one-register result, and of D word 0 alone. -/
def toD (x v : Nat) (r : List Nat) : List Nat := setHreg r (opD x) v

def opGcmInit (s : State) (t x : Nat) : Trig :=
  s.hlpOp t 0 x (fun r =>
    let b := opB x
    setHreg (setHreg (setHreg (setHreg r b (hreg r b / 2 ^ 32 * 2 ^ 32 + 1)) (b + 1) 0) (b + 2) 0) (b + 3) (aesOf r x 0)) false

def opGcmAad (s : State) (t x : Nat) : Trig := s.hlpOp t 0 x id true

def opGcmEnc (s : State) (t x : Nat) : Trig := s.hlpOp t 0 x id true

def opGcmDec (s : State) (t x : Nat) : Trig := s.hlpOp t 0 x id true

def opGcmTag (s : State) (t x : Nat) : Trig := s.hlpOp t 0 x (fun r => toD x (gcmTag r x) r) false

def opCmacInit (s : State) (t x : Nat) : Trig :=
  s.hlpOp t 0 x (fun r =>
    let b := opB x
    setHreg (setHreg (setHreg (setHreg r b 0) (b + 1) (cmacDouble (aesOf r x 0))) (b + 2) 0) (b + 3) 0) false

def opCmacData (s : State) (t x : Nat) : Trig := s.hlpOp t 0 x id true

def opCmacTag (s : State) (t x : Nat) : Trig := s.hlpOp t 0 x (fun r => toD x (cmacTag r x) r) false

def opAesBlk (s : State) (t x : Nat) : Trig := s.hlpOp t 0 x (fun r => toD x (aesOf r x (hreg r (opB x))) r) false

/-- EQ: 1 in D word 0 when the first CNT bytes are equal. -/
def opEq (s : State) (t x : Nat) : Trig :=
  s.hlpOp t 0 x (fun r => toD x (flagBit (regBytes r (opA x) (opCnt x) == regBytes r (opB x) (opCnt x))) r) false

def opCrcOpen (s : State) (t x : Nat) : Trig := s.hlpOp t 1 x (fun r => crcAbsorb r x (opInit x) []) true

def opCrcReg (s : State) (t x : Nat) : Trig :=
  s.hlpOp t 1 x (fun r => crcAbsorb r x (opInit x) (regBytes r (opB x) (opCnt x))) false

def opCrcEnd (s : State) (t x : Nat) : Trig :=
  s.hlpOp t 1 x (fun r =>
    match crcPreset (opSel x) with
    | none => r
    | some p =>
      let start := if opInit x then p.init else crcLoad p (hreg r (opA x))
      setHreg r (opA x) (crcFinal p start)) false

def opCsumOpen (s : State) (t x : Nat) : Trig := s.hlpOp t 1 x (fun r => csumAbsorb r x (opInit x) []) true

def opCsumReg (s : State) (t x : Nat) : Trig :=
  s.hlpOp t 1 x (fun r => csumAbsorb r x (opInit x) (regBytes r (opB x) (opCnt x))) false

def opCsumEnd (s : State) (t x : Nat) : Trig :=
  s.hlpOp t 1 x (fun r =>
    let v := csumFold (if opInit x then 0 else hreg r (opA x) % 2 ^ 32)
    setHreg r (opA x) (v * 2 ^ 16 + (2 ^ 16 - 1 - v))) false

/-- The words of HASH: B from word 3 down to word 0, then B + 1. -/
def hlpHashWords (r : List Nat) (x : Nat) : List W32 :=
  (List.range (opCnt x)).map fun i => BitVec.ofNat 32 (bits (hreg r (opB x + i / 4)) (32 * (3 - i % 4)) 32)

def opHash (s : State) (t x : Nat) : Trig :=
  s.hlpOp t 1 x (fun r =>
    let v := (mixHash (BitVec.ofNat 32 (hreg r (opA x))) (hlpHashWords r x)).toNat
    toD x (setBits (hreg r (opD x)) 0 32 v) r) false

/-- The operation word of a row of Table 10.2: its OP field is the row's, whatever the operand has there. -/
def withOp (op x : Nat) : Nat := setBits x 0 6 op

def rowWord (op : Nat) (x : W32) : W32 := BitVec.ofNat 32 (withOp op x.toNat)

/-- .t.op with any word: the operation it names; an unknown one is INVALID (R415). -/
def hlpOpAny (s : State) (t h x : Nat) : Trig :=
  match h, opCode x with
  | 0, 1 => opGcmInit s t x
  | 0, 5 => opGcmTag s t x
  | 0, 8 => opCmacInit s t x
  | 0, 10 => opCmacTag s t x
  | 0, 0x0C => opAesBlk s t x
  | 0, 0x0F => opEq s t x
  | 1, 0x10 => opCrcOpen s t x
  | 1, 0x11 => opCrcReg s t x
  | 1, 0x12 => opCrcEnd s t x
  | 1, 0x14 => opCsumOpen s t x
  | 1, 0x15 => opCsumReg s t x
  | 1, 0x16 => opCsumEnd s t x
  | 1, 0x18 => opHash s t x
  | _, _ => s.hlpOp t h x id true

/-! ### .t.feed -/

/-- A feed of the open operation x: the registers and whether the operation stays open, and bytes written in place; none
where it is INVALID (R418 to R421). -/
def feedOf (r : List Nat) (x : Nat) (bs : List Byte) : Option (List Nat × Bool × Option (List Byte)) :=
  let n := bs.length
  let whole := n % 16 == 0
  let b := opB x
  match opCode x with
  | 2 =>
    some (setHreg (ghashBytes r x bs) (b + 2) ((ctxAad r x + n) % 2 ^ 64 * 2 ^ 64 + ctxText r x), whole, none)
  | 3 =>
    if 2 ^ 36 - 32 < ctxText r x + n then none
    else
      let out := gcmText r x bs
      some (setHreg (ghashBytes r x out) (b + 2) (hreg r (b + 2) + n), whole, some out)
  | 4 =>
    if 2 ^ 36 - 32 < ctxText r x + n then none
    else some (setHreg (ghashBytes r x bs) (b + 2) (hreg r (b + 2) + n), whole, some (gcmText r x bs))
  | 9 => some (cmacFeed r x bs, whole, none)
  | 0x10 => some (crcAbsorb r x false bs, true, none)
  | 0x14 => some (csumAbsorb r x false bs, n % 2 == 0, none)
  | _ => none

/-- The bytes of a range of the packet before the first lost one. -/
def State.pktBefore (s : State) (d : Droplet) : Nat → Nat → List Byte
  | _, 0 => []
  | off, n + 1 =>
    match s.pktByte d off with
    | none => []
    | some b => b :: s.pktBefore d (off + 1) n

/-- A feed with the droplet it reads (R422). One that reaches a lost byte closes the operation, and what GCM_ENC or GCM_DEC had
written before that byte stays (R424). -/
def State.feedDroplet (s : State) (t h b x : Nat) (c : Helper) (d : Droplet) (w : W32) : State :=
  let off := x % 2 ^ 14
  let n := bits x 16 14
  if n = 0 || s.pktLen d < off + n then s.startOp t (uHlp h) [] stInvalid
  else
    let what := 2 + 4 * off + 2 ^ 16 * n
    match s.pktBytes d off n with
    | none =>
      match feedOf c.regs w.toNat (s.pktBefore d off n) with
      | some (_, _, some out) =>
        ((s.writePacket d off out).bump Reg.BSN_HLP_LOST_CNT).hlpRun t h b what c.regs none stLost
      | _ => (s.bump Reg.BSN_HLP_LOST_CNT).hlpRun t h b what c.regs none stLost
    | some bs =>
      match feedOf c.regs w.toNat bs with
      | none => s.startOp t (uHlp h) [] stInvalid
      | some (regs, opened, out) =>
        let s := s.bodyReq d off n out.isSome
        let s := match out with
          | none => s
          | some o => s.writePacket d off o
        s.hlpRun t h b what regs (if opened then some w else none) stOk

/-- .t.feed (R417, R422): the handle in .src by R365. -/
def hlpFeed (s : State) (t h x : Nat) : Trig :=
  let hd := s.opnd t (hlpPort h 1)
  let (s, c) := s.hlpWork t h fun s b c =>
    match s.heldBy t hd with
    | (st, _, sl) =>
      if st ≠ stOk then s.startOp t (uHlp h) [] st
      else
        match c.open_ with
        | none => s.startOp t (uHlp h) [] stInvalid
        | some w => s.feedDroplet t h b x c sl.d w
  (s.hlpMark t h (some hd), c)

/-! ### Completion, squash and orphans -/

/-- A packet-window operation that no feed of its droplet stands before any more may complete (R423). -/
def State.freeWindow (s : State) (t : Nat) : State :=
  match SMap.find (s.thread t).ops uPw with
  | none => s
  | some o => if o.wait = 8 && !s.feedBlocks t o.arg 0 (2 ^ 15) then s.putOp t uPw { o with wait := 0 } else s

/-- The helper's trigger of a thread completes (R426); one that ran in the helper writes its registers now (R425). -/
def State.hlpDone (s : State) (t h : Nat) : State :=
  let b := threadBasin t
  match SMap.find (s.thread t).ops (uHlp h) with
  | none => s
  | some o =>
    let c := s.helper b h
    let s := match c.next with
      | none => s
      | some (regs, opened) =>
        if o.arg2 = 0 then s else s.setHelper b h { c with regs := fullRegs regs, open_ := opened, next := none }
    let s := (s.completeOp t (uHlp h)).freeWindow t
    if o.flag then s.setEvent t evHelper else s

/-- The claim of a helper that a thread holds ends, and with it the open operation. -/
def State.hlpGiveUp (s : State) (b h k : Nat) : State :=
  let c := s.helper b h
  if c.claim = some k then (s.setHelper b h { c with open_ := none }).setClaim b h none else s

/-- The running .t.op or .t.feed of a thread is squashed and becomes an orphan (R428, R429); `releases` where the thread is
parked or its engine is being reset (R432). A trigger that does not run in the helper only completes, and the claim ends. -/
def State.hlpSquash (s : State) (t h : Nat) (releases : Bool) : State :=
  let b := threadBasin t
  let k := t % 128
  let c := s.helper b h
  match SMap.find (s.thread t).ops (uHlp h) with
  | some o =>
    if o.arg2 % 4 = 1 || o.arg2 % 4 = 2 then
      let s := (s.updThread t fun th => { th with ops := SMap.erase th.ops (uHlp h) }).freeWindow t
      (s.setHelper b h { c with next := none, orphan := some (k, releases) }).bump Reg.BSN_HLP_ORPHAN_CNT
    else
      let s := s.hlpDone t h
      if releases then s.hlpGiveUp b h k else s
  | none =>
    if !releases then s
    else if (c.orphan.map fun o => o.1) = some k then s.setHelper b h { c with orphan := some (k, true) }
    else s.hlpGiveUp b h k

/-- The thread leaves both helpers of its basin (R414, R432). -/
def State.hlpLeave (s : State) (t : Nat) : State :=
  if 1536 ≤ t then s else (s.hlpSquash t 0 true).hlpSquash t 1 true

/-- A feed whose droplet its thread has completed or recirculated is squashed (R428). -/
def State.hlpStale (s : State) (t h : Nat) : State :=
  match SMap.find (s.thread t).ops (uHlp h) with
  | none => s
  | some o => if o.arg2 % 4 = 2 && (s.heldBy t o.arg).1 ≠ stOk then s.hlpSquash t h false else s

/-- The feeds of the threads of an engine are looked at after a completion or recirculation. -/
def State.hlpStaleAll (s : State) (t : Nat) : State :=
  if 1536 ≤ t then s
  else (List.range 8).foldl (fun s n => (s.hlpStale (t / 8 * 8 + n) 0).hlpStale (t / 8 * 8 + n) 1) s

/-- An orphan ends (R429, R431, R432). -/
def helperOrphanEnd (s : State) (b h : Nat) : State :=
  let c := s.helper b h
  match c.orphan with
  | none => s
  | some (_, false) => s.setHelper b h { c with orphan := none }
  | some (k, true) => (s.setHelper b h { c with orphan := none }).hlpGiveUp b h k

/-- An engine reset clears the save slots of the engine's threads, and the live registers where one of them owns them
(R412). -/
def State.hlpClear (s : State) (e : Nat) : State :=
  [0, 1].foldl (fun s h =>
    let b := e / 16
    let s := (List.range 8).foldl (fun s i => s.saveSlot b h (8 * (e % 16) + i) []) s
    let c := s.helper b h
    match c.live with
    | none => s
    | some k => if k / 8 = e % 16 then s.setHelper b h { c with live := none, regs := [] } else s) s

/-! ### Disable and enable -/

/-- A basin that serves: an image runs, and the basin is neither out through a map nor powered down. -/
def State.inService (s : State) (b : Nat) : Bool :=
  s.imageRuns && !bitOf (s.rd Reg.BSN_STATUS_OUT) b && !s.pwr.basinsOff.contains b

/-- A helper powers up and runs its known-answer test (R434). -/
def State.hlpPowerUp (s : State) (b h : Nat) (pass : Bool) : State :=
  if pass then s.setFld (hlpState h) b 0 1
  else (s.setFld (hlpState h) b 0 3).eventBit Reg.BSN_HLP_INT_STATUS_HLP_FAIL Reg.BSN_HLP_INT_EN_HLP_FAIL b 0 s.supervisor

/-- EN is written 0 by the supervisor partition (R433, R435). -/
def helperDisable (s : State) (part b h : Nat) : State :=
  if !s.isSup part then s
  else
    let s := (s.setFld (hlpEn h) b 0 0).setFld (hlpPend h) b 0 0
    if s.fld (hlpState h) b 0 = 1 then s.setFld (hlpState h) b 0 2 else s

/-- EN is written 1 by the supervisor partition (R434, R435). A basin out of service keeps its helpers down (R436). -/
def helperEnable (s : State) (part b h : Nat) (katPass : Bool) : State :=
  if !s.isSup part then s
  else
    let s := s.setFld (hlpEn h) b 0 1
    match s.fld (hlpState h) b 0 with
    | 0 => if s.inService b then s.hlpPowerUp b h katPass else s
    | 2 => s.setFld (hlpPend h) b 0 1
    | _ => s

/-- Whether a trigger still runs in a helper. -/
def State.hlpRuns (s : State) (b h : Nat) : Bool :=
  (s.helper b h).orphan.isSome || (List.range 128).any fun k => s.opBusy (b * 128 + k) (uHlp h)

/-- A shut-down completes once the helper's trigger has completed: the live registers go to their save slot, and a pending
enable is applied, unless the basin has left service meanwhile (R433, R435, R436). -/
def helperShutdownDone (s : State) (b h : Nat) (katPass : Bool) : State :=
  if s.fld (hlpState h) b 0 ≠ 2 || s.hlpRuns b h then s
  else
    let s := s.saveLive b h
    let s := s.setHelper b h { s.helper b h with live := none, regs := [] }
    let s := s.setFld (hlpState h) b 0 0
    if s.on (hlpPend h) b 0 && s.inService b then (s.setFld (hlpPend h) b 0 0).hlpPowerUp b h katPass else s

/-- The helpers of a basin that leaves service shut down (R436). -/
def State.hlpBasinDown (s : State) (b : Nat) : State :=
  [0, 1].foldl (fun s h => if s.fld (hlpState h) b 0 = 1 then s.setFld (hlpState h) b 0 2 else s) s

/-- The helpers of a basin that returns are enabled as R434 gives, one whose shut-down still runs behind it (R435, R436): the
known-answer test ends as a free value says. -/
def State.hlpBasinUp (s : State) (b : Nat) : State :=
  let (kat, s) := s.free
  [0, 1].foldl (fun s h =>
    if !s.on (hlpEn h) b 0 then s
    else if s.fld (hlpState h) b 0 = 0 then (s.setFld (hlpPend h) b 0 0).hlpPowerUp b h (bitOf kat.toNat h)
    else if s.fld (hlpState h) b 0 = 2 then s.setFld (hlpPend h) b 0 1
    else s) s

end Sys2Proof.Machine
end

