-- ==== Sys2Proof/Machine/Flags.lean ====
section
/-! DEFINITION. The computations of the engines' arithmetic units on 32-bit words: the carry and borrow flag of the ALUs, the
conditions of the compare unit, the field operations of the bit unit and the results of the multiplier (Tables 9.2 to
9.5, R366 to R368). -/

namespace Sys2Proof.Machine

/-- A flag as a word. -/
def flagWord (b : Bool) : W32 := BitVec.ofNat 32 (flagBit b)

/-- Carry out of a + x. -/
def carryOut (a x : W32) : Bool := decide (2 ^ 32 ≤ a.toNat + x.toNat)

/-- Borrow of a − x. -/
def borrowOut (a x : W32) : Bool := decide (a.toNat < x.toNat)

/-- The shift count: x bits 4:0. -/
def shiftCount (x : W32) : Nat := x.toNat % 32

/-- Signed and unsigned order of words. -/
def sLess (a x : W32) : Bool := decide (a.toInt < x.toInt)

def uLess (a x : W32) : Bool := decide (a.toNat < x.toNat)

/-- Position and length of a field specification (Table 9.3). -/
def fieldPos (x : W32) : Nat := x.toNat % 32

def fieldLen (x : W32) : Nat := bits x.toNat 8 6

/-- The specification names a field of the word (R366). -/
def fieldOk (x : W32) : Bool := 1 ≤ fieldLen x && fieldLen x ≤ 32 && fieldPos x + fieldLen x ≤ 32

/-- The field of a that x specifies, zero-extended, sign-extended, or replaced by the low bits of b. -/
def fieldU (a x : W32) : W32 := BitVec.ofNat 32 (bits a.toNat (fieldPos x) (fieldLen x))

def fieldS (a x : W32) : W32 := BitVec.ofInt 32 (signed (fieldLen x) (bits a.toNat (fieldPos x) (fieldLen x)))

def fieldIns (a b x : W32) : W32 := BitVec.ofNat 32 (setBits a.toNat (fieldPos x) (fieldLen x) b.toNat)

/-- Leading and trailing zeros of a word, and its set bits. -/
def leadZeros (x : W32) : Nat := ((List.range 32).reverse.takeWhile fun i => !x.getLsbD i).length

def trailZeros (x : W32) : Nat := ((List.range 32).takeWhile fun i => !x.getLsbD i).length

def setBitCount (x : W32) : Nat := ((List.range 32).filter fun i => x.getLsbD i).length

/-- The four bytes of a word reversed, its low two bytes exchanged, its bits reversed. -/
def swapBytes (x : W32) : W32 := BitVec.ofNat 32 (beNat (leBytes 4 x.toNat))

def swapLow (x : W32) : W32 := BitVec.ofNat 32 (beNat (leBytes 2 x.toNat))

def revBits (x : W32) : W32 :=
  BitVec.ofNat 32 ((List.range 32).foldl (fun v i => v * 2 + flagBit (x.getLsbD i)) 0)

/-- The low n bits sign-extended. -/
def signExt (n : Nat) (x : W32) : W32 := BitVec.ofInt 32 (signed n x.toNat)

/-- The 64-bit products, as low and high word. -/
def productU (a x : W32) : W32 × W32 :=
  (BitVec.ofNat 32 (a.toNat * x.toNat), BitVec.ofNat 32 (a.toNat * x.toNat / 2 ^ 32))

def productS (a x : W32) : W32 × W32 :=
  let p := unsigned 64 (a.toInt * x.toInt)
  (BitVec.ofNat 32 p, BitVec.ofNat 32 (p / 2 ^ 32))

/-- Quotient and remainder; the signed quotient is truncated toward zero and the remainder takes the sign of a (R368). -/
def quotU (a x : W32) : W32 × W32 := (BitVec.ofNat 32 (a.toNat / x.toNat), BitVec.ofNat 32 (a.toNat % x.toNat))

def quotS (a x : W32) : W32 × W32 :=
  (BitVec.ofInt 32 (a.toInt.tdiv x.toInt), BitVec.ofInt 32 (a.toInt.tmod x.toInt))

end Sys2Proof.Machine
end

