-- ==== Sys2Proof/Machine/Loadstore.lean ====
section
/-! DEFINITION. The load/store unit, the atomic units and the translation of control engines (Tables 7.2, 8.7 to 8.9, 9.6
and 9.12; R249 to R254, R350 to R353, R369 to R372, R390, R391, R689 to R691). -/

namespace Sys2Proof.Machine

/-! ### Translation (R350 to R353) -/

/-- A TLB's entry for a virtual page. -/
def CeSt.tlbFind (c : CeSt) (vpn asid : Nat) : Option (Nat × TlbEnt) :=
  c.tlb.find? fun e => e.2.vpn == vpn && e.2.asid == asid

/-- A translation enters the TLB: the lowest free entry, or the one that the tree bits name. -/
def CeSt.tlbAdd (c : CeSt) (e : TlbEnt) : CeSt :=
  let w := match (List.range 64).find? fun i => (SMap.find c.tlb i).isNone with
    | some i => i
    | none => treeVictim c.tlbTree 6 1 - 64
  { c with tlb := SMap.set c.tlb w e, tlbTree := treeTouch w 6 1 c.tlbTree }

/-- The page-table entry of a virtual address, from the TLB or by a walk through the control cache; a fault cause, 0 for
none. -/
def State.pteOf (s : State) (c va : Nat) : (Nat × Nat) × State :=
  let th := s.thread (1536 + c)
  let vpn := va / 4096
  let asid := th.asid.toNat
  match (s.ce c).tlbFind vpn asid with
  | some (w, e) => ((0, e.pte), s.setCe c { s.ce c with tlbTree := treeTouch w 6 1 (s.ce c).tlbTree })
  | none =>
    let (b1, lost1, s) := s.ctrlRead (th.ptb.toNat * 4096 + 4 * bits va 22 10) 4
    let e1 := leNat b1
    if lost1 then ((causeWalk, 0), s)
    else if e1 % 16 ≠ 1 then ((causeTranslate, 0), s)
    else
      let (b2, lost2, s) := s.ctrlRead (e1 / 16 * 4096 + 4 * bits va 12 10) 4
      let e2 := leNat b2
      if lost2 then ((causeWalk, 0), s)
      else if e2 % 2 = 0 then ((causeTranslate, 0), s)
      else ((0, e2), s.setCe c ((s.ce c).tlbAdd { vpn := vpn, asid := asid, pte := e2 }))

/-- Translation of a load (0), a store (1) or a fetch (2): a fault cause or 0, and the physical address. An address beyond the
8 GiB of the IPD faults ADDRESS. -/
def State.translate (s : State) (c va kind : Nat) : (Nat × Nat) × State :=
  match s.pteOf c va with
  | ((cause, e), s) =>
    let denied := (kind == 1 && !bitOf e 1) || (kind == 2 && !bitOf e 2) || ((s.thread (1536 + c)).user && !bitOf e 3)
    let pa := e / 16 * 4096 + va % 4096
    if cause ≠ 0 then ((cause, 0), s)
    else if denied then ((causeProtect, 0), s)
    else if 2 ^ 33 ≤ pa then ((causeAddress, 0), s)
    else ((0, pa), s)

/-- cx.t.tlbinv and cx.t.tlbflush (R353). -/
def cxTlbinv (s : State) (c x : Nat) : Trig :=
  let asid := (s.thread (1536 + c)).asid.toNat
  (s.setCe c { s.ce c with tlb := (s.ce c).tlb.filter fun e => !(e.2.vpn == x / 4096 && e.2.asid == asid) }, 0)

def cxTlbflush (s : State) (c : Nat) : Trig := (s.setCe c { s.ce c with tlb := [] }, 0)

/-! ### Addresses (Table 7.2) -/

/-- Where an access goes. -/
inductive Place where
  | scratch (a : Nat)
  | shared (a : Nat)
  | ipd (a : Nat)
  | fault (cause : Nat)
  deriving DecidableEq, Repr

/-- Kind of a page of basin shared SRAM (R252): 0 RESERVED, 1 PLAIN, 2 given to the atomic unit. -/
def State.pageKind (s : State) (b off : Nat) : Nat := s.setting 42 (b * 128 + off / 4096)

/-- The right of a segment: 0 none, 1 read, 2 read and write (Table 7.4). -/
def State.segRight (s : State) (e x : Nat) : Nat := s.engEntry e (6 + bits x 29 2)

/-- The IPD address of an address of the IPD window (R250). -/
def State.segAddr (s : State) (e x : Nat) : Nat := s.engEntry e (2 + bits x 29 2) + x % 2 ^ 29

/-- Table 7.2 for a packet engine's thread. -/
def State.pePlace (s : State) (t x : Nat) (write : Bool) : Place :=
  let e := t / 8
  let off := x - 0x100000
  if x < 0x1000 then .scratch (e * 2 ^ 15 + t % 8 * 4096 + x)
  else if 0x10000 ≤ x && x < 0x18000 then
    if t % 8 = 0 then .scratch (e * 2 ^ 15 + (x - 0x10000)) else .fault causeScratchRight
  else if 0x100000 ≤ x && x < 0x180000 then
    if s.pageKind (e / 16) off = 1 then .shared (e / 16 * 2 ^ 19 + off) else .fault causeAddress
  else if 2 ^ 31 ≤ x then
    if (if write then 2 else 1) ≤ s.segRight e x then .ipd (s.segAddr e x) else .fault causeAddress
  else .fault causeAddress

/-- Where an access of a thread goes. -/
def State.placeOf (s : State) (t x : Nat) (write : Bool) : Place × State :=
  match threadCe t with
  | none => (s.pePlace t x write, s)
  | some c =>
    match s.translate c x (if write then 1 else 0) with
    | ((0, pa), s) => (.ipd pa, s)
    | ((cause, _), s) => (.fault cause, s)

/-- The L1 of a thread. -/
def l1Of (t : Nat) : Nat := if t < 1536 then t / 8 else 205 + (t - 1536)

/-- Result ports of a load from bytes. -/
def loadPorts (size : Nat) (sext : Bool) (bs : List Byte) : List (Nat × W32) :=
  let v := leNat bs
  let v := if sext then unsigned 32 (signed (8 * size) v) else v
  if size = 8 then [(0x182, BitVec.ofNat 32 v), (0x183, BitVec.ofNat 32 (v / 2 ^ 32))] else [(0x182, BitVec.ofNat 32 v)]

/-- One of the n bytes from a on has an uncorrectable error. -/
def spoiled (bads : List Nat) (a n : Nat) : Bool := (List.range n).any fun i => bads.contains (a + i)

/-- The bytes that keep their errors when the n bytes from a on are written. -/
def unspoiled (bads : List Nat) (a n : Nat) : List Nat := bads.filter fun x => !(a ≤ x && x < a + n)

/-- An access to scratch or shared SRAM. An uncorrectable error of scratch faults ECC (R253); DESIGN CHOICE (log 190): one of
shared SRAM, which R411 names, faults likewise. A store of a whole word replaces what it held. -/
def State.sramAccess (s : State) (t : Nat) (scratch : Bool) (x : LineAcc) : Trig :=
  let m := if scratch then s.mem.scratch else s.mem.shared
  let bads := if scratch then s.mem.scratchBad else s.mem.sharedBad
  if spoiled bads x.addr x.size && !(x.store && x.size == 8) then (s, causeEcc)
  else
    let s := if scratch then s.scratchFixed (t / 8) x.addr x.size else s
    if x.store then
      let m := cellWrite m x.addr (leBytes x.size x.data)
      let left := unspoiled bads x.addr x.size
      let s := if scratch then { s with mem := { s.mem with scratch := m, scratchBad := left } }
               else { s with mem := { s.mem with shared := m, sharedBad := left } }
      (s.startOp t uLs [] stOk, 0)
    else (s.startOp t uLs (loadPorts x.size x.sext (cellRead m x.addr x.size)) stOk, 0)

/-- An access of a packet engine finds an uncorrectable error in the L1's word; a store of the whole word reads none. -/
def State.l1Bad (s : State) (c : Nat) (x : LineAcc) : Bool :=
  decide (c < 192) && !(x.store && x.size == 8) &&
    match (s.cache c).find x.addr with
    | some l => bitOf l.bad (x.addr % 64 / 8)
    | none => false

/-- The word that an access of a packet engine names, as the L1 holds it: a correctable error is corrected and counted, and
what a store of the whole word overwrites is gone (R253). -/
def State.l1Fixed (s : State) (c : Nat) (x : LineAcc) : State :=
  if 192 ≤ c then s
  else
    match (s.cache c).find x.addr with
    | none => s
    | some l =>
      let w := x.addr % 64 / 8
      if !bitOf l.soft w && !bitOf l.bad w then s
      else (s.setCache c ((s.cache c).mapLine x.addr fun l =>
        { l with soft := setBits l.soft w 1 0, bad := setBits l.bad w 1 0 })).eccEngine c (flagBit (bitOf l.soft w))

/-- An access to the IPD through the L1: a hit completes, a miss waits for its line (R370, R371, R519 to R521). A hit on a
word with an uncorrectable error faults ECC (R253). -/
def State.ipdAccess (s : State) (t : Nat) (x : LineAcc) : Trig :=
  let c := l1Of t
  if s.offlineAt x.addr || (s.cache c).whereIs c x.addr ≠ 0 then
    if !s.offlineAt x.addr && s.l1Bad c x then (s, causeEcc)
    else
      let ((st, ps), s) := (s.l1Fixed c x).lineAccess c x
      (s.startOp t uLs ps st, 0)
  else ((s.miss c x.addr (some t) false).putOp t uLs { wait := 5, arg := lineOf x.addr, acc := some x }, 0)

/-- A load or store of 1, 2, 4 or 8 bytes: the address checks, then alignment (R251), then the access. -/
def State.access (s : State) (t x : Nat) (acc : LineAcc) : Trig :=
  match s.placeOf t x acc.store with
  | (.fault cause, s) => (s, cause)
  | (p, s) =>
    if x % acc.size ≠ 0 then (s, causeAlign)
    else
      match p with
      | .scratch a => s.sramAccess t true { acc with addr := a }
      | .shared a => s.sramAccess t false { acc with addr := a }
      | .ipd a => s.ipdAccess t { acc with addr := a }
      | .fault cause => (s, cause)

def lsLoad (s : State) (t x n : Nat) (sext : Bool) : Trig := s.access t x { size := n, sext := sext }

/-- ls.t.st8 to st64: the low bytes of ls.data, or ls.datah:ls.data. -/
def lsStore (s : State) (t x n : Nat) : Trig :=
  s.access t x { store := true, size := n, data := (s.opnd t 0x180 + s.opnd t 0x181 * 2 ^ 32) % 2 ^ (8 * n),
                 mask := 2 ^ (t % 8) }

/-- ls.t.pf (R372, R522, R523): it never faults, and has no effect where the address cannot be read. -/
def lsPf (s : State) (t x : Nat) : Trig :=
  let c := l1Of t
  match s.placeOf t x false with
  | (.ipd a, s) =>
    let k := s.cache c
    let s := if s.offlineAt a || k.whereIs c a ≠ 0 || k.misses.any fun m => m.addr == lineOf a then s
             else s.miss c a none true
    (s.startOp t uLs [] stOk, 0)
  | (_, s) => (s.startOp t uLs [] stOk, 0)

/-- An address of the IPD window: any address of a control engine (R372). -/
def inWindow (t x : Nat) : Bool := 1536 ≤ t || 2 ^ 31 ≤ x

/-- ls.t.clean (1), ls.t.inv (2), ls.t.cinv (3): on the IPD window only; behind a fill of the line they wait for it
(R532, R534). -/
def State.lsMaint (s : State) (t x op : Nat) : Trig :=
  let lvl := bitOf (s.opnd t 0x185) 0
  let c := l1Of t
  if !inWindow t x then (s.startOp t uLs [] stOk, 0)
  else
    match s.placeOf t x false with
    | (.ipd a, s) =>
      let k := s.cache c
      let here := fun (m : Miss) => m.addr == lineOf a
      if k.misses.any here then
        let add := fun (m : Miss) => bif here m then { m with maint := m.maint ++ [(t, op + 4 * flagBit lvl)] } else m
        ((s.setCache c { k with misses := k.misses.map add }).putOp t uLs { wait := 5, arg := lineOf a }, 0)
      else ((s.maintain c op a lvl).startOp t uLs [] stOk, 0)
    | (.fault cause, s) => (s, cause)
    | (_, s) => (s.startOp t uLs [] stOk, 0)

def lsClean (s : State) (t x : Nat) : Trig := s.lsMaint t x 1

def lsInv (s : State) (t x : Nat) : Trig := s.lsMaint t x 2

def lsCinv (s : State) (t x : Nat) : Trig := s.lsMaint t x 3

/-- ls.t.fence: the thread's dirty L1 lines are written back (R532). A control engine's stores are written through. -/
def lsFence (s : State) (t : Nat) : Trig :=
  let s := if t < 1536 then s.fenceLines (t / 8) (t % 8) else s
  (s.startOp t uLs [] stOk, 0)

/-! ### Atomics (R390, R391) -/

/-- The new value of an atomic operation: 0 add, 1 sub, 2 swap, 3 cas, 4 and, 5 or, 6 min, 7 max. -/
def atomicNew (op w old v c : Nat) : Nat :=
  match op with
  | 0 => (old + v) % 2 ^ w
  | 1 => (old + 2 ^ w - v) % 2 ^ w
  | 2 => v
  | 3 => if old = c then v else old
  | 4 => old &&& v
  | 5 => old ||| v
  | 6 => min old v
  | _ => max old v

/-- An atomic on a word of the IPD, past every cache: the old value, none where the word is lost. -/
def State.ipdAtomic (s : State) (a n op v c : Nat) : Option Nat × State :=
  if s.ipdLost a n then (none, s)
  else
    let old := leNat (s.ipdRead a n)
    (some old, (s.ipdWrite a (leBytes n (atomicNew op (8 * n) old v c))).ipdReq a true clsTbl)

/-- Where an atomic goes (R391, R691). -/
def State.atomicPlace (s : State) (t x : Nat) : Place × State :=
  let e := t / 8
  let off := x - 0x100000
  if t < 1536 && 0x100000 ≤ x && x < 0x180000 then
    (if s.pageKind (e / 16) off = 2 then .shared (e / 16 * 2 ^ 19 + off) else .fault causeAddress, s)
  else if t < 1536 && x < 2 ^ 31 then (.fault causeAddress, s)
  else s.placeOf t x true

/-- The result ports of an atomic. -/
def atomicPorts (wide : Bool) (old : Nat) : List (Nat × W32) :=
  [(0x384, BitVec.ofNat 32 old), (0x385, if wide then BitVec.ofNat 32 (old / 2 ^ 32) else 0)]

/-- An atomic trigger; an uncorrectable error of its word of shared SRAM faults as a load's does (log 190). -/
def State.atomic (s : State) (t x op : Nat) (wide : Bool) : Trig :=
  let n := if wide then 8 else 4
  let v := (s.opnd t 0x380 + s.opnd t 0x381 * 2 ^ 32) % 2 ^ (8 * n)
  let c := (s.opnd t 0x382 + s.opnd t 0x383 * 2 ^ 32) % 2 ^ (8 * n)
  match s.atomicPlace t x with
  | (.fault cause, s) => (s, cause)
  | (p, s) =>
    if x % n ≠ 0 then (s, causeAlign)
    else
      match p with
      | .ipd a =>
        match s.ipdAtomic a n op v c with
        | (none, s) => (s.startOp t uAt [] stLost, 0)
        | (some old, s) => (s.startOp t uAt (atomicPorts wide old) stOk, 0)
      | .shared a =>
        if spoiled s.mem.sharedBad a n then (s, causeEcc)
        else
          let old := leNat (cellRead s.mem.shared a n)
          let m := cellWrite s.mem.shared a (leBytes n (atomicNew op (8 * n) old v c))
          (({ s with mem := { s.mem with shared := m } }).startOp t uAt (atomicPorts wide old) stOk, 0)
      | _ => (s, causeAddress)

def atAdd (s : State) (t x : Nat) (wide : Bool) : Trig := s.atomic t x 0 wide
def atSub (s : State) (t x : Nat) (wide : Bool) : Trig := s.atomic t x 1 wide
def atSwap (s : State) (t x : Nat) (wide : Bool) : Trig := s.atomic t x 2 wide
def atCas (s : State) (t x : Nat) (wide : Bool) : Trig := s.atomic t x 3 wide
def atAnd (s : State) (t x : Nat) (wide : Bool) : Trig := s.atomic t x 4 wide
def atOr (s : State) (t x : Nat) (wide : Bool) : Trig := s.atomic t x 5 wide
def atMin (s : State) (t x : Nat) (wide : Bool) : Trig := s.atomic t x 6 wide
def atMax (s : State) (t x : Nat) (wide : Bool) : Trig := s.atomic t x 7 wide

end Sys2Proof.Machine
end

