-- ==== Sys2Proof/Machine/Plan.lean ====
section
/-! DEFINITION. The next bundle of a thread: the port map, the encoding of moves, their guards, and the decision whether the
bundle issues, faults or waits (R265, R297 to R313, R318, R319; Tables 8.1 to 8.6). -/

namespace Sys2Proof.Machine

/-! ### The port map (Tables 8.1, 8.5 to 8.7, 9.2 to 9.19, 15.7, 16.8 and 18.4) -/

inductive PortKind where
  | reg
  | operand
  | trigger
  | result
  | status
  | state
  deriving DecidableEq, Repr

/-- Operand ports. -/
def operandPorts : List Nat :=
  [0x060, 0x080, 0x0C0, 0x100, 0x101, 0x140, 0x160, 0x161, 0x180, 0x181, 0x185, 0x200, 0x201, 0x240, 0x241] ++
  [0x280, 0x281, 0x282, 0x2A0, 0x2A1, 0x2A2, 0x2A3, 0x300, 0x301, 0x302, 0x340, 0x341, 0x380, 0x381, 0x382, 0x383] ++
  [0x3E0, 0x420, 0x421, 0x440, 0x441, 0x460, 0x461, 0x4A0, 0x4A1, 0x4E0, 0x4E1] ++
  [0x620, 0x621, 0x622, 0x623, 0x624, 0x625, 0x640, 0x641, 0x660]

/-- Trigger ports, as first ID and count. -/
def triggerPorts : List (Nat × Nat) :=
  [(0x040, 5), (0x061, 2), (0x090, 15), (0x0D0, 15), (0x110, 11), (0x150, 4), (0x170, 11), (0x190, 6), (0x198, 4)] ++
  [(0x1A0, 1), (0x1A8, 3), (0x1AF, 1), (0x210, 3), (0x214, 3), (0x218, 3), (0x250, 6), (0x290, 3), (0x2B0, 5)] ++
  [(0x310, 6), (0x350, 5), (0x390, 16), (0x3B0, 4), (0x3D0, 4), (0x3F0, 5), (0x430, 4), (0x450, 2), (0x470, 6)] ++
  [(0x4B0, 6), (0x4F0, 8), (0x510, 2), (0x601, 1), (0x608, 2), (0x630, 8), (0x650, 3), (0x668, 2)]

/-- State ports. -/
def statePorts : List Nat :=
  [0x048, 0x04A, 0x068, 0x069, 0x3A0, 0x3C2, 0x500, 0x600, 0x603, 0x604, 0x605, 0x60A, 0x628, 0x629] ++
  (List.range 9).map fun n => 0x070 + n

/-- The kind of a port; none for an ID that no table defines (R318). -/
def portKind (p : Nat) : Option PortKind :=
  if p < 0x024 || p = 0x049 || p = 0x602 || p = 0x606 || p = 0x607 then some .reg
  else if operandPorts.contains p then some .operand
  else if triggerPorts.any fun e => e.1 ≤ p && p < e.1 + e.2 then some .trigger
  else if statePorts.contains p then some .state
  else if (List.range 25).any fun u => (unitResults u).contains p then some .result
  else if (List.range 25).any fun u => unitStatus u == some p then some .status
  else none

/-- A move may read a port of this kind, or write it (Table 8.1). -/
def readable (p : Nat) : Bool :=
  match portKind p with
  | some .reg | some .result | some .status | some .state => true
  | _ => false

def writable (p : Nat) : Bool :=
  match portKind p with
  | some .reg | some .operand | some .trigger => true
  | _ => false

def isTrigger (p : Nat) : Bool := portKind p == some .trigger

/-- The control-flow group (R314). -/
def isFlow (p : Nat) : Bool := (0x040 ≤ p && p ≤ 0x044) || p == 0x061 || p == 0x062 || p == 0x601

/-- The unit of a trigger port; none for the control-flow and translation ports. -/
def triggerUnit (p : Nat) : Option Nat :=
  if p < 0x080 then none
  else if p < 0x0C0 then some 0
  else if p < 0x100 then some 1
  else if p < 0x140 then some uBit
  else if p < 0x160 then some uMul
  else if p < 0x180 then some uCmp
  else if p < 0x200 then some uLs
  else if p < 0x240 then some uPw
  else if p < 0x280 then some uDl
  else if p < 0x2A0 then some uTl
  else if p < 0x300 then some uFlow
  else if p < 0x340 then some uCh
  else if p < 0x380 then some uLk
  else if p < 0x3A0 then some uAt
  else if p < 0x3C0 then some uEvt
  else if p < 0x3E0 then some uTm
  else if p < 0x420 then some uCs
  else if p < 0x440 then some uWc
  else if p < 0x460 then some uSq
  else if p < 0x4A0 then some (uHlp 0)
  else if p < 0x4E0 then some (uHlp 1)
  else if p < 0x500 then some uSv
  else if p < 0x600 then some uDbg
  else if p < 0x620 then none
  else if p < 0x640 then some uPmp
  else if p < 0x660 then some uEdg
  else some uLkp

/-! ### Moves (Tables 8.2 and 8.3) -/

/-- Where a move takes its value from. -/
inductive Src where
  | imm (v : W32)
  | port (p : Nat)
  deriving DecidableEq, Repr

/-- One move of a bundle. -/
structure Move where
  slot : Nat := 0
  neg : Bool := false
  gsel : Nat := 0
  src : Src := .imm 0
  dst : Nat := 0
  /-- SRC bits 15:11 of a move with IMM 0 are not all 0 (R307). -/
  bad : Bool := false
  deriving DecidableEq, Repr

/-- A word that takes the following slot as its immediate (R306, R341). -/
def isLong (w : W32) : Bool := !bitOf w.toNat 27 && w.toNat % 65536 == 0x7FF

/-- The move of a word (R305). -/
def moveOf (slot : Nat) (w : W32) : Move :=
  let v := w.toNat
  let imm := bitOf v 27
  { slot := slot, neg := bitOf v 31, gsel := bits v 28 3, dst := bits v 16 11
    src := if imm then .imm (BitVec.ofNat 32 (unsigned 32 (signed 16 (v % 65536)))) else .port (v % 2048)
    bad := !imm && bits v 11 5 != 0 }

/-- The moves of a bundle, two slots at a time. -/
def movesOf : Nat → List W32 → List Move
  | n, a :: b :: rest =>
    (if isLong a then [{ moveOf n a with src := .imm b, bad := false }] else [moveOf n a, moveOf (n + 1) b]) ++
      movesOf (n + 2) rest
  | _, _ => []

/-- Supervisor ports belong to T0 of a packet engine, the privileged range to control engines (R319). -/
def portAllowed (t p : Nat) : Bool :=
  if 0x4E0 ≤ p && p < 0x500 then t < 1536 && t % 8 == 0 else p < 0x600 || 1536 ≤ t

/-- The ports that a move names. -/
def Move.named (m : Move) : List Nat :=
  match m.src with
  | .port p => [p, m.dst]
  | .imm _ => [m.dst]

/-- The decode fault of a move, 0 for none: PRIV of R345, PORT of R298, R307, R318 and R319, GUARD of R311. -/
def Move.decodeFault (m : Move) (t : Nat) (user : Bool) : Nat :=
  let srcOk := match m.src with
    | .imm _ => true
    | .port p => !m.bad && readable p && portAllowed t p
  if user && m.named.any fun p => 0x600 ≤ p && p ≤ 0x7FE then causePriv
  else if !srcOk || !writable m.dst || !portAllowed t m.dst then causePort
  else if m.gsel = 7 then causeGuard
  else 0

/-- The cause of the earliest faulting slot. -/
def firstCause : List Nat → Nat
  | [] => 0
  | c :: cs => if c ≠ 0 then c else firstCause cs

/-! ### Guards (Table 8.3) -/

/-- ?hbusy: a helper that the thread claims still runs an operation of it. -/
def State.helperBusy (s : State) (t : Nat) : Bool :=
  decide (t < 1536) && [0, 1].any fun h =>
    let c := s.helper (t / 128) h
    (c.claim == some (t % 128) && s.opBusy t (18 + h)) ||
      match c.orphan with
      | some (k, _) => k == t % 128
      | none => false

/-- A unit write to a predicate is pending (R316). -/
def Thr.predPending (th : Thr) (p : Nat) : Bool :=
  th.ops.any fun e => match e.2.pred with
    | some (q, _) => q == p
    | none => false

/-- The selector is true. -/
def State.selector (s : State) (t g : Nat) : Bool :=
  let th := s.thread t
  match g with
  | 0 => true
  | 5 => match th.loops with
    | l :: _ => l.count == 1
    | [] => false
  | 6 => s.helperBusy t
  | g => th.port (0x020 + (g - 1)) == 1

/-- The move passes its guard (R309). -/
def State.passes (s : State) (t : Nat) (m : Move) : Bool := s.selector t m.gsel != m.neg

/-- A guard that names a predicate with a pending write (R312). -/
def State.guardWaits (s : State) (t : Nat) (m : Move) : Bool :=
  1 ≤ m.gsel && m.gsel ≤ 4 && (s.thread t).predPending (m.gsel - 1)

/-! ### The decision on a bundle -/

/-- What the next issue opportunity of a thread finds. -/
inductive Plan where
  /-- The bundle waits; the thread is STALLED (R265). -/
  | hold
  /-- The bundle faults before any move takes effect. -/
  | fault (cause : Nat)
  /-- The passing moves take effect. -/
  | go (moves : List Move)
  deriving DecidableEq, Repr

/-- A list holds one value twice. -/
def twice : List Nat → Bool
  | [] => false
  | x :: xs => xs.contains x || twice xs

/-- A source is ready (Table 8.1): a predicate with a pending unit write and a port of a running operation are not. -/
def State.srcReady (s : State) (t : Nat) : Src → Bool
  | .imm _ => true
  | .port p =>
    if 0x020 ≤ p && p < 0x024 then !(s.thread t).predPending (p - 0x020)
    else match portUnit p with
      | some u => !s.opBusy t u
      | none => true

/-- An acquire of the thread is queued for its lock. -/
def State.lockQueued (s : State) (t : Nat) : Bool := (SMap.find (s.thread t).ops uLk).any fun (o : UnitOp) => o.wait == 1

/-- A trigger can accept (R358, R648); lk.t.cancel accepts beside the queued acquire that it cancels (R387). -/
def State.accepts (s : State) (t p : Nat) : Bool :=
  match triggerUnit p with
  | none => true
  | some u => (!s.opBusy t u || (p == 0x353 && s.lockQueued t)) && !(p == 0x631 && s.fifoFull)

/-- Two triggers of one unit in a bundle: the second can accept only where the first ends before the next issue
opportunity, and evt.t.wait may not. -/
def pairBlocks : List Nat → Bool
  | [] => false
  | p :: ps =>
    let clash := fun (q : Nat) => (triggerUnit p).isSome && triggerUnit p == triggerUnit q &&
      (!fastUnit ((triggerUnit p).getD 0) || p == 0x3B0)
    ps.any clash || pairBlocks ps

/-- Steps 1 to 4 of Table 8.4. -/
def State.plan (s : State) (t : Nat) (words : List W32) : Plan :=
  let ms := movesOf 0 words
  let cause := firstCause (ms.map fun m => m.decodeFault t (s.thread t).user)
  if cause ≠ 0 then .fault cause
  else if ms.any fun m => s.guardWaits t m then .hold
  else
    let go := ms.filter fun m => s.passes t m
    let dsts := go.map fun m => m.dst
    if twice dsts || 2 ≤ (dsts.filter fun p => isFlow p).length then .fault causeBundleDest
    else if (go.all fun m => s.srcReady t m.src && (!isTrigger m.dst || s.accepts t m.dst)) &&
        !pairBlocks (dsts.filter fun p => isTrigger p) then .go go
    else .hold

/-! ### Fetch -/

/-- The basin whose program a basin runs: during a replay session the quarantine basin runs the recorded basin's. -/
def State.progOf (s : State) (b : Nat) : Nat :=
  match s.rpl.replay with
  | some r => if r.step = 4 && r.basin = b then r.src else b
  | none => b

/-- The bundle of a packet engine at an address of its basin's program: its words, or a fault (R304, R326). -/
def State.peFetch (s : State) (t a : Nat) : Nat × List W32 :=
  let b := s.progOf (t / 128)
  if s.setting 41 b ≤ a then (causeFetch, [])
  else if s.img.progBad.contains (b * 2 ^ 15 + a) then (causeEcc, [])
  else (0, (List.range 2).map fun n => SMap.get s.img.prog ((b * 2 ^ 15 + a) * 4 + n) 0)

/-- What a packet-engine thread finds at its next bundle. -/
def State.pePlan (s : State) (t : Nat) : Plan :=
  let (cause, ws) := s.peFetch t (s.thread t).pc
  if cause ≠ 0 then .fault cause else s.plan t ws

end Sys2Proof.Machine
end

