-- ==== Sys2Proof/Machine/Engines.lean ====
section
/-! DEFINITION. Hardware threads and engines: the completion of unit operations with their decision entries, faults and
escalations, the still-water event, parking, engine reset, and the event, timer, supervisor and debug ports (chapter
"Basins, packet engines and hardware threads"; Tables 9.13, 9.18 and 9.19; R878). -/

namespace Sys2Proof.Machine

/-! ### Completion of unit operations -/

/-- The result words of an operation, low and high. -/
def UnitOp.result (o : UnitOp) (lo hi : Nat) : Nat :=
  let w := fun (p : Nat) => (((o.res.find? fun e => e.1 == p).map fun e => e.2.toNat).getD 0)
  w lo + w hi * 2 ^ 32

/-- The status that an operation will show. -/
def UnitOp.status (o : UnitOp) (u : Nat) : Nat :=
  match unitStatus u with
  | none => 0
  | some p => ((o.res.find? fun e => e.1 == p).map fun e => e.2.toNat).getD 0

/-- The decision entry of a completing operation of a thread that holds a marked droplet (Table 23.2, R878). -/
def State.logOp (s : State) (t u : Nat) (o : UnitOp) : State :=
  match SMap.find (s.thread t).logs u with
  | none => s
  | some k =>
    let kind := k / 65536
    let obj := k % 65536
    let st := o.status u
    if kind = 1 then
      if st = stOk || st = stAbandoned || st = stTimeout then
        s.logFlagEvent t 1 st obj (BitVec.ofNat 32 (o.result 0x342 0)) else s
    else if kind = 2 then
      if st = stOk then s.logDecision t 2 st obj (o.result 0x303 0x304) else s
    else if kind = 3 then s.logFlagEvent t 3 st obj (BitVec.ofNat 32 (o.result (hlpPort obj 2) 0))
    else if kind = 4 then
      s.logDecision t 4 st obj (if obj < 0x2A0 then (if obj = 0x292 then o.result 0x285 0 else o.result 0x283 0x284)
                                else if obj = 0x2B2 then o.result 0x2A6 0 else o.result 0x2A4 0x2A5)
    else if kind = 5 then s.logDecision t 5 st obj (o.result 0x384 0x385)
    else if kind = 6 then (if st = stOk then s.logDecision t 6 st obj (o.result 0x3A2 0x3A3) else s)
    else s

/-- An operation completes: its decision entry, a helper's registers and event, its ports. -/
def State.finishOp (s : State) (t u : Nat) : State :=
  match SMap.find (s.thread t).ops u with
  | none => s
  | some o =>
    if o.wait ≠ 0 then s
    else
      let s := if t < 1536 then s.logOp t u o else s
      let s := s.updThread t fun th => { th with logs := SMap.erase th.logs u }
      if u = 18 then s.hlpDone t 0 else if u = 19 then s.hlpDone t 1 else s.completeOp t u

/-- Operations whose results are ready before the next issue opportunity complete. -/
def State.settleFast (s : State) (t : Nat) : State := [0, 1, 2, 3, 13, 14, 21].foldl (fun s u => s.finishOp t u) s

/-! ### Escalations (R276 to R279) -/

def engOf (t : Nat) : Nat := t / 8

/-- STILL_LIMIT of an engine in ns. -/
def State.stillLimit (s : State) (e : Nat) : Nat := s.fld Reg.BSN_ENG_STILL_LIMIT e 0 * 1000

/-- The engine escalates; one that comes while an escalation is pending is coalesced into it (R278). -/
def State.escalate (s : State) (e cause : Nat) : State :=
  if s.on Reg.BSN_ENG_ESC_PENDING e 0 then s
  else
    let s := (s.setFld Reg.BSN_ENG_ESC_PENDING e 0 1).setFld Reg.BSN_ENG_CAUSE e 0 cause
    let s := s.setEngine e { s.engine e with escWait := some cause }
    s.eventSup Reg.BSN_INT_STATUS_ESCALATED Reg.BSN_INT_EN_ESCALATED

/-- ESCALATION_POST: the pending escalation enters the post FIFO once it has room (R278, R279). -/
def escalationPost (s : State) (e : Nat) : State :=
  match (s.engine e).escWait with
  | none => s
  | some _ =>
    if s.fifoFull then s
    else
      let s := s.setEngine e { s.engine e with escWait := none }
      (s.post (s.engEntry e 10 % 4096) 1).bump Reg.BSN_ESC_CNT

/-! ### The still-water event (R280 to R283) -/

/-- The event flags that count as armed for a thread (Table 7.7). -/
def State.armedFlags (s : State) (t : Nat) : Nat :=
  let th := s.thread t
  flagBit (s.thrDispatch t) + 2 * flagBit th.timer.isSome + 4 * flagBit (!th.watches.isEmpty) +
    8 * flagBit (match SMap.find th.ops uLk with
      | none => false
      | some o => o.wait == 1) +
    16 * flagBit (s.opBusy t 18 || s.opBusy t 19) + 32 * flagBit (s.thrMsg t)

/-- A thread cannot go on by itself: PARKED, FAULTED, or WAITING with no selected flag armed. -/
def State.stuck (s : State) (t : Nat) : Bool :=
  let th := s.thread t
  match th.state with
  | 3 | 5 => true
  | 2 =>
    match SMap.find th.ops uEvt with
    | none => false
    | some o => o.arg &&& s.armedFlags t == 0
  | _ => false

/-- The still-water condition of an engine. -/
def State.stillCond (s : State) (e : Nat) : Bool :=
  s.fld Reg.BSN_ENG_ESTATE e 0 == 0 && (List.range 8).all fun i => s.stuck (8 * e + i)

/-- The condition is looked at after each command of the engine: where it has become true, the event is raised, unless
DEADLOCK is still set from an earlier one (R281, R282). -/
def State.stillCheck (s : State) (e : Nat) : State :=
  let cond := s.stillCond e
  let g := s.engine e
  if !cond then (if g.still then s.setEngine e { g with still := false } else s)
  else if g.still then s
  else
    let t0 := s.thread (8 * e)
    let s := s.setEngine e { g with still := true }
    if bitOf t0.events evDeadlock then s
    else
      let s := (s.bump Reg.BSN_STILL_CNT).eventSup Reg.BSN_INT_STATUS_STILL_WATER Reg.BSN_INT_EN_STILL_WATER
      let dead := t0.state = 3 || t0.state = 5
      let s := s.setEngine e { s.engine e with stillAt := if dead then none else some s.now }
      let s := s.setEvent (8 * e) evDeadlock
      let s := if dead then s.escalate e 0xF else s
      s.setEngine e { s.engine e with still := s.stillCond e }

/-- DEADLOCK_TIMEOUT: T0 has not cleared DEADLOCK within STILL_LIMIT (R282). -/
def deadlockTimeout (s : State) (now e : Nat) : State :=
  let s := s.upTo now
  match (s.engine e).stillAt with
  | none => s
  | some at_ =>
    if at_ + s.stillLimit e ≤ s.now && bitOf (s.thread (8 * e)).events evDeadlock then
      (s.setEngine e { s.engine e with stillAt := none }).escalate e 0xF
    else s

/-! ### Faults (R272 to R277) -/

/-- A packet-engine thread faults at a bundle: it becomes FAULTED, and FAULT is set in T0 (R273); T0's own fault also
escalates (R276). -/
def State.peFault (s : State) (t cause pc : Nat) : State :=
  let s := s.bump Reg.BSN_FAULT_CNT
  let t0 := t % 8 == 0
  let s := s.updThread t fun th => { th with
    state := 3, cause := cause, faultPc := pc, pc := pc, faultAt := s.now, acked := t0, late := false }
  let s := s.setEvent (t / 8 * 8) evFault
  let s := if t0 then s.escalate (engOf t) cause else s
  s.stillCheck (engOf t)

/-- A fault of a thread at a bundle, for an operation with operand `va`; on a control engine by R346, where a translation
fault gives cx.fva the address that the access used. -/
def State.faultAt (s : State) (t cause pc va : Nat) : State :=
  match threadCe t with
  | none => s.peFault t cause pc
  | some c => s.ceFault c cause pc (if 0x11 ≤ cause && cause ≤ 0x13 then va else 0)

/-- A fault that no access to an address causes: cx.fva reads 0 (R347). -/
def State.fault (s : State) (t cause pc : Nat) : State := s.faultAt t cause pc 0

/-- FAULT_ACK_TIMEOUT: T0 has not acknowledged a fault within STILL_LIMIT (R277). -/
def faultAckTimeout (s : State) (now t : Nat) : State :=
  let s := s.upTo now
  let th := s.thread t
  if th.state = 3 && !th.acked && !th.late && th.faultAt + s.stillLimit (engOf t) ≤ s.now then
    (s.updThread t fun th => { th with late := true }).escalate (engOf t) th.cause
  else s

/-! ### Parking (R258 to R261) -/

/-- A packet-engine thread becomes PARKED. -/
def State.park (s : State) (t : Nat) : State :=
  let s := s.hlpLeave t
  let s := s.loseRequester t
  let s := s.loseChannels t
  let s := s.dryHeld fun h => h == t
  let s := s.dropWaiters fun w => w == t
  let s := s.updThread t fun th => { th with state := 5, timer := none, ops := [], logs := [], watches := [] }
  (s.bump Reg.BSN_PARK_CNT).stillCheck (engOf t)

/-! ### Engine reset (Sequence 7.1) -/

/-- A thread at the start of its engine, by R256; what Cistern keeps for it stays. -/
def State.startThread (s : State) (t : Nat) : State :=
  s.setThread t { state := if s.thrEn t then 0 else 5, pc := s.thrStart t }

/-- Steps 1 to 5 of Sequence 7.1. The L1 keeps nothing, its lines with an uncorrectable error being discarded and counted
(R285); scratch and helper states read 0. -/
def State.engineDown (s : State) (e : Nat) : State :=
  let ts := (List.range 8).map fun i => 8 * e + i
  let s := ts.foldl (fun s t => s.hlpLeave t) s
  let s := (s.dryHeld fun h => h < 1536 && h / 8 == e).dryCirculating fun h => h < 1536 && h / 8 == e
  let s := ts.foldl (fun s t => s.leaveWaits t) s
  let s := ts.foldl (fun s t => (s.loseRequester t).loseChannels t) s
  let orphans := fun (h : Nat) => match (s.helper (e / 16) h).orphan with
    | some (k, _) => k / 8 == e % 16
    | none => false
  let s := [0, 1].foldl (fun s h => if orphans h then helperOrphanEnd s (e / 16) h else s) s
  let s := s.reclaimEngine e
  let s := s.dropWaiters fun w => w / 8 == e
  let s := s.flushCache e
  let s := { s with mem := { s.mem with scratch := cellClear s.mem.scratch (e * 2 ^ 15) (2 ^ 15)
                                        scratchBad := s.mem.scratchBad.filter fun a => a / 2 ^ 15 != e
                                        scratchSoft := s.mem.scratchSoft.filter fun w => w / 2 ^ 12 != e } }
  let s := s.hlpClear e
  let g := s.engine e
  let s := s.setEngine e { escWait := g.escWait, cmdPending := g.cmdPending, swap := g.swap, eccTimes := g.eccTimes }
  ts.foldl (fun s t => s.setThread t {}) s

/-- Step 6: the threads start. -/
def State.engineStart (s : State) (e : Nat) : State :=
  let s := (List.range 8).foldl (fun s i => s.startThread (8 * e + i)) s
  s.setFld Reg.BSN_ENG_ESTATE e 0 0

/-- Step 1 alone: the engine stops issuing, its threads are RESET. -/
def State.engineHold (s : State) (e : Nat) : State :=
  let s := (List.range 8).foldl (fun s i => s.updThread (8 * e + i) fun th => { th with state := 6 }) s
  s.setFld Reg.BSN_ENG_ESTATE e 0 1

/-- ENGINE_RESET: Sequence 7.1 runs to its end, on an engine that runs or whose reset was requested (R284). The end of a
reset that BSN_ENG_CMD requested raises RESET_DONE. An engine of a basin out of service stays held. -/
def engineReset (s : State) (e : Nat) : State :=
  if !s.imageRuns || !s.inService (e / 16) || 1 < s.fld Reg.BSN_ENG_ESTATE e 0 then s
  else
    let s := ((s.engineHold e).engineDown e).engineStart e
    let s := s.bump Reg.BSN_RESET_CNT
    if (s.engine e).cmdPending then
      let s := s.setEngine e { s.engine e with cmdPending := false }
      (s.wr Reg.BSN_ENG_CMD_PENDING 0).eventSup Reg.BSN_INT_STATUS_RESET_DONE Reg.BSN_INT_EN_RESET_DONE
    else s

/-! ### Events (Table 9.13) -/

/-- evt.t.wait (R268, R270, R271): with a flag set it completes at once, else the thread is WAITING; one that a trigger of the
same bundle halted stays HALTED, and waits when it goes on (R887). -/
def evtWait (s : State) (t x : Nat) : Trig :=
  let m := x % 65536
  let th := s.thread t
  if th.events &&& wakeMask t m ≠ 0 then (s.startOp t uEvt [(0x3A1, BitVec.ofNat 32 th.events)] stOk, 0)
  else
    let s := s.putOp t uEvt { wait := 4, arg := m }
    (s.updThread t fun th => { th with state := if th.state = 4 then 4 else 2 }, 0)

/-- evt.t.clr (R392); clearing DEADLOCK ends the still-water limit (R281). -/
def evtClr (s : State) (t x : Nat) : Trig :=
  let m := x % 65536
  let s := s.updThread t fun th => { th with events := th.events &&& (0xFFFF - m) }
  let s := if t < 1536 && t % 8 = 0 && bitOf m evDeadlock then
      s.setEngine (engOf t) { s.engine (engOf t) with stillAt := none } else s
  (s.startOp t uEvt [] stOk, 0)

/-- evt.t.sig: SIGNAL in a thread of the same engine (R269). A control engine has one thread: itself. -/
def evtSig (s : State) (t x : Nat) : Trig :=
  let u := if t < 1536 then t / 8 * 8 + x % 8 else t
  ((s.setEvent u evSignal).startOp t uEvt [] stOk, 0)

/-- evt.t.mget (R394). -/
def evtMget (s : State) (t : Nat) : Trig :=
  match (s.thread t).msgs with
  | [] => (s.startOp t uEvt [] stEmpty, 0)
  | m :: ms =>
    let s := s.updThread t fun th => { th with msgs := ms }
    (s.startOp t uEvt [(0x3A2, m.setWidth 32), (0x3A3, (m >>> 32).setWidth 32)] stOk, 0)

/-! ### Timer -/

/-- tm.t.start: with 0 it sets TIMER at once (R393). -/
def tmStart (s : State) (t x : Nat) : Trig :=
  let s := if x = 0 then (s.updThread t fun th => { th with timer := none }).setEvent t evTimer
           else s.updThread t fun th => { th with timer := some (s.now + x) }
  (s.startOp t uTm [] stOk, 0)

def tmStop (s : State) (t : Nat) : Trig := ((s.updThread t fun th => { th with timer := none }).startOp t uTm [] stOk, 0)

/-- A 64-bit time in tm.r and tm.rh. -/
def timePorts (v : Nat) : List (Nat × W32) := [(0x3C0, BitVec.ofNat 32 v), (0x3C1, BitVec.ofNat 32 (v / 2 ^ 32))]

def tmNow (s : State) (t : Nat) : Trig := (s.startOp t uTm (timePorts s.now) stOk, 0)

/-- tm.t.net: INVALID for a domain that the image does not use. -/
def tmNet (s : State) (t x : Nat) : Trig :=
  let d := x % 4
  (if bitOf (s.rd Reg.TIM_CFG_DOM_EN) d then s.startOp t uTm (timePorts (s.net d)) stOk else s.startOp t uTm [] stInvalid, 0)

/-- TIMER_EXPIRE (R393): TIMER is set, and the position logged for a marked droplet (Table 23.2). -/
def timerExpire (s : State) (now t : Nat) : State :=
  let s := s.upTo now
  match (s.thread t).timer with
  | none => s
  | some at_ =>
    if at_ ≤ s.now then
      let s := if t < 1536 then s.logFlagEvent t 7 stOk 0 0 else s
      (s.updThread t fun th => { th with timer := none }).setEvent t evTimer
    else s

/-! ### Supervisor ports (Table 9.18, R404, R405) -/

/-- The thread that sv.thr names. -/
def State.svTarget (s : State) (t : Nat) : Nat := t / 8 * 8 + s.opnd t 0x4E0 % 8

/-- State of a thread as software sees it (Table 7.5): STALLED where its next bundle reads a result not yet ready or writes a
trigger that cannot yet accept (R257, R265). -/
def State.thrState (s : State) (t : Nat) : Nat :=
  let th := s.thread t
  if th.state = 0 && s.pePlan t == .hold then 1 else th.state

def svInfo (s : State) (t : Nat) : Trig :=
  let g := s.svTarget t
  let th := s.thread g
  let v := th.cause % 256 + s.thrState g * 256 + th.faultPc % 2 ^ 15 * 65536
  (s.startOp t uSv [(0x4E2, BitVec.ofNat 32 v)] stOk, 0)

/-- The port IDs that the supervisor and the debugger reach: g0 to g31, p0 to p3, lnk (R404). -/
def openReg (p : Nat) : Bool := p < 0x024 || p == 0x049

/-- A write of a register by ID; a predicate takes bit 0 (R321). -/
def Thr.setReg (th : Thr) (p : Nat) (v : W32) : Thr :=
  th.setPort p (if 0x020 ≤ p && p < 0x024 then BitVec.ofNat 32 (v.toNat % 2) else v)

/-- The target is stopped: FAULTED, HALTED or PARKED. -/
def State.svStopped (s : State) (g : Nat) : Bool := 3 ≤ (s.thread g).state && (s.thread g).state ≤ 5

def svGetreg (s : State) (t x : Nat) : Trig :=
  let g := s.svTarget t
  if !openReg x then (s.startOp t uSv [] stInvalid, 0)
  else if !s.svStopped g then (s.startOp t uSv [] stBusy, 0)
  else (s.startOp t uSv [(0x4E2, (s.thread g).port x)] stOk, 0)

def svSetreg (s : State) (t x : Nat) : Trig :=
  let g := s.svTarget t
  if !openReg x then (s.startOp t uSv [] stInvalid, 0)
  else if !s.svStopped g then (s.startOp t uSv [] stBusy, 0)
  else ((s.updThread g fun th => th.setReg x ((s.thread t).port 0x4E1)).startOp t uSv [] stOk, 0)

/-- The slots that a thread holds, oldest handed first. -/
def State.heldSlots (s : State) (g : Nat) : List (Nat × Slot) :=
  (s.weir.slots.filter fun e => e.2.holder == some g).mergeSort fun a b => a.2.handed ≤ b.2.handed

def svHeld (s : State) (t x : Nat) : Trig :=
  match (s.heldSlots (s.svTarget t))[x % 4]? with
  | none => (s.startOp t uSv [] stEmpty, 0)
  | some (i, _) => (s.startOp t uSv [(0x4E2, BitVec.ofNat 32 (s.handleOf i))] stOk, 0)

/-- sv.t.resume: the FAULTED target goes on at a bundle address, its registers as they stand. -/
def svResume (s : State) (t x : Nat) : Trig :=
  let g := s.svTarget t
  if (s.thread g).state ≠ 3 then (s.startOp t uSv [] stInvalid, 0)
  else ((s.updThread g fun th => { th with state := 0, pc := x % 2 ^ 15, acked := true }).startOp t uSv [] stOk, 0)

/-- sv.t.park. -/
def svPark (s : State) (t : Nat) : Trig :=
  let g := s.svTarget t
  if g % 8 = 0 then (s.startOp t uSv [] stInvalid, 0)
  else if (s.thread g).state = 5 then (s.startOp t uSv [] stOk, 0)
  else ((s.park g).startOp t uSv [] stOk, 0)

/-- sv.t.ack (R405), also of a target that has been parked since its fault. -/
def svAck (s : State) (t : Nat) : Trig :=
  let g := s.svTarget t
  let th := s.thread g
  if g % 8 = 0 then (s.startOp t uSv [] stInvalid, 0)
  else if th.acked then (s.startOp t uSv [] stDouble, 0)
  else ((s.updThread g fun th => { th with acked := true }).startOp t uSv [] stOk, 0)

/-- sv.t.reset: step 1 of Sequence 7.1 of the own engine; ENGINE_RESET runs the rest. -/
def svReset (s : State) (t : Nat) : Trig := ((s.startOp t uSv [] stOk).engineHold (engOf t), 0)

/-! ### Debug (Table 9.19, R887 to R891) -/

/-- Debug of packet-engine threads (bit 0) or of descriptors (bit 1) is open (Table 23.4). -/
def State.debugOpen (s : State) (bit : Nat) : Bool :=
  s.debugByState || (s.fth.lc == 2 && !s.on Reg.FTH_STATUS_LOCKDOWN 0 0 && bitOf (s.rd Reg.FTH_STATUS_RIGHTS) bit)

/-- A packet-engine thread halts; a halt is always at a bundle boundary (R317, R887). -/
def State.haltThread (s : State) (t : Nat) : State :=
  (s.updThread t fun th => { th with haltedFrom := th.state, state := 4 }).rplEvent 5

/-- dbg.t.brk: the thread halts for the debugger, or EMPTY where debug is closed. A control engine's thread is not a
packet-engine thread, and EMPTY is its answer. -/
def dbgBrk (s : State) (t : Nat) : Trig :=
  if 1536 ≤ t || !s.debugOpen 0 then (s.startOp t uDbg [] stEmpty, 0)
  else ((s.startOp t uDbg [] stOk).haltThread t, 0)

/-- dbg.t.mark: a MARK entry of a recorded thread; with bit 31 set it triggers where MARK_EN is set (R878, R879). -/
def dbgMark (s : State) (t x : Nat) : Trig :=
  let hit := t < 1536 && s.recording && s.holdsRecorded t
  let s := if t < 1536 then s.logDecision t 8 0 0 x else s
  let s := if hit && bitOf x 31 && s.on Reg.RPL_TRIG_MARK_EN 0 0 then (s.startPost 5).2 else s
  (s.startOp t uDbg [] stOk, 0)

end Sys2Proof.Machine
end

