-- ==== Sys2Proof/Machine/Basin.lean ====
section
/-! DEFINITION. Basins: the basin switch of Sequence 3.1, stopping and starting a basin, spare engines, and the commands of
BSN_ENG_CMD (R120 to R123, R161, R286 to R294, R436, R455, R538, R694, Tables 7.11 to 7.13). -/

namespace Sys2Proof.Machine

/-! ### Stopping and starting a basin -/

/-- The engines of a basin. -/
def basinEngines (b : Nat) : List Nat := (List.range 16).map fun n => 16 * b + n

/-- The threads of a basin. -/
def basinThreads (b : Nat) : List Nat := (List.range 128).map fun k => 128 * b + k

/-- Step 4 of Sequence 3.1: the leaving basin stops. Its units' operations complete, the droplets its threads still hold
(DRIED_HELD) give their buffers back, its helpers shut down, and its threads are RESET; reference tables, messages and
watches stay (R454, Table 12.5, R859). -/
def State.basinStop (s : State) (b estate : Nat) : State :=
  let s := (basinThreads b).foldl (fun s t => (s.hlpDone t 0).hlpDone t 1) s
  let s := s.dryHeld fun h => h < 1536 && h / 128 == b
  let s := s.hlpBasinDown b
  let s := [0, 1].foldl (fun s h => helperShutdownDone s b h true) s
  let s := (basinThreads b).foldl (fun s t =>
    match s.queuedOn t with
    | none => s
    | some l => s.leaveQueue l t) s
  let s := s.dropWaiters fun w => decide (w < 1536) && threadBasin w == b
  let s := (basinThreads b).foldl (fun s t =>
    let th := s.thread t
    s.setThread t { refs := th.refs, msgs := th.msgs, watches := th.watches, partGet := th.partGet }) s
  (basinEngines b).foldl (fun s e =>
    if s.fld Reg.BSN_ENG_ESTATE e 0 = 2 then s
    else (s.setFld Reg.BSN_ENG_ESTATE e 0 estate).setEngine e { escWait := (s.engine e).escWait, swap := (s.engine e).swap }) s

/-- A basin starts: every engine that is served starts its threads by R256, with what the basin kept for them; its scratch
reads 0, and its helpers are enabled (R436). -/
def State.basinStart (s : State) (b : Nat) : State :=
  let s := { s with mem := { s.mem with scratch := cellClear s.mem.scratch (b * 2 ^ 19) (2 ^ 19) } }
  let s := (basinEngines b).foldl (fun s e =>
    if s.fld Reg.BSN_ENG_ESTATE e 0 = 2 then s
    else
      let s := (List.range 8).foldl (fun s i =>
        let t := 8 * e + i
        let th := s.thread t
        s.setThread t { state := if s.thrEn t then 0 else 5, pc := s.thrStart t, refs := th.refs, msgs := th.msgs
                        watches := th.watches, partGet := th.partGet }) s
      s.setFld Reg.BSN_ENG_ESTATE e 0 0) s
  s.hlpBasinUp b

/-- A power state powers a basin down: its caches are flushed, and its ring channels, its shared SRAM with the atomic words,
its messages and its watches are gone (R455, R538, R694). -/
def State.basinPowerDown (s : State) (b : Nat) : State :=
  let s := s.basinStop b 3
  let s := (s.flushBasin b).clearRings b
  let s := { s with mem := { s.mem with shared := cellClear s.mem.shared (b * 2 ^ 19) (2 ^ 19) } }
  let s := (basinThreads b).foldl (fun s t => s.setThread t { refs := (s.thread t).refs }) s
  (s.setFld Reg.BSN_BASIN_WHY b 0 3).wr Reg.BSN_STATUS_OUT (setBits (s.rd Reg.BSN_STATUS_OUT) b 1 1)

/-- A basin that a power state powered down, or that was out through a map, comes back, unless it is out for good. One that
R294 keeps waiting comes back with its failed engine in reset, and leaves as soon as R161 allows. -/
def State.basinPowerUp (s : State) (b : Nat) : State :=
  if s.rd Reg.BSN_STATUS_PERM = b then s
  else
    let s := (s.setFld Reg.BSN_BASIN_WHY b 0 0).wr Reg.BSN_STATUS_OUT (setBits (s.rd Reg.BSN_STATUS_OUT) b 1 0)
    s.basinStart b

/-! ### The switch -/

/-- Fountainhead may take a basin out through maps 1–12 (R161): map 0 is active, no switch runs (R123), and no basin is out
for good. -/
def State.switchAllowed (s : State) : Bool :=
  s.imageRuns && s.rd Reg.PWR_STATUS_STATE < 2 && !s.on Reg.PWR_STATUS_BUSY 0 0 &&
    s.rd Reg.RUN_MAP_STATUS_ACTIVE == 0 && s.weir.switching.isNone && s.rd Reg.BSN_STATUS_PERM == 15

/-- Steps 1 and 2 of Sequence 3.1. `basin` is the basin that leaves, 16 for none. -/
def State.switchBegin (s : State) (map basin why : Nat) : State :=
  if s.weir.switching.isSome then s else s.switchName map basin why

/-- BASIN_SWITCH_BEGIN: map 1 + b takes Bb out for a reason of Table 7.11, map 0 brings the device back to every basin,
and map 13 belongs to MIST (R120, R161). -/
def basinSwitchBegin (s : State) (map why : Nat) : State :=
  if !s.imageRuns || 3 ≤ s.rd Reg.PWR_STATUS_STATE then s
  else if 1 ≤ map && map ≤ 12 then (if s.switchAllowed then s.switchBegin map (map - 1) why else s)
  else if map = 0 then
    (if s.rd Reg.BSN_STATUS_PERM = 15 && s.rd Reg.RUN_MAP_STATUS_ACTIVE ≠ 0 then s.switchBegin 0 16 0 else s)
  else if 1 ≤ s.rd Reg.RUN_MAP_STATUS_ACTIVE then s
  else s.switchBegin 13 16 3

/-- The map to which the device returns: 0, or the out map of a basin that is out for good. -/
def State.returnMap (s : State) : Nat := if s.rd Reg.BSN_STATUS_PERM < 12 then 1 + s.rd Reg.BSN_STATUS_PERM else 0

/-- Steps 4 and 5 of Sequence 3.1 for a basin that leaves. -/
def State.switchLeave (s : State) (map basin why : Nat) : State :=
  let s := if basin < 12 then
      let s := s.basinStop basin 1
      let s := (s.setFld Reg.BSN_BASIN_WHY basin 0 why).wr Reg.BSN_STATUS_OUT (setBits (s.rd Reg.BSN_STATUS_OUT) basin 1 1)
      s.flushBasin basin
    else s
  s.switchDone map

/-- The basins that return when map 0 becomes active: they start, and then the droplets of the new map go to them. -/
def State.switchReturn (s : State) : State :=
  let s := (List.range 12).foldl (fun s b =>
    if bitOf (s.rd Reg.BSN_STATUS_OUT) b && s.rd Reg.BSN_STATUS_PERM ≠ b then s.basinPowerUp b else s) s
  s.switchDone s.returnMap

/-! ### Spare engines (R288 to R294) -/

/-- The spare takes a logical engine: PHYS names it, no spare is left, and its errors are counted from none. `trigger` is the
reservoir map's (Table 22.8). -/
def State.takeSpare (s : State) (e trigger : Nat) : State :=
  let b := e / 16
  let spare := s.fld Reg.BSN_BASIN_SPARE b 0
  let old := s.fld Reg.BSN_ENG_PHYS e 0
  let new := 17 * b + spare
  let s := (s.noteRsv 1 trigger e old new).setEngine e { s.engine e with eccTimes := [] }
  let s := s.setAll [(Reg.BSN_ENG_PHYS, e, 0, new), (Reg.BSN_BASIN_SPARE, b, 0, 0x1F), (Reg.BSN_BASIN_SPARE_USED, b, 0, 1)]
  let s := (s.bump Reg.BSN_SWAP_CNT).eventSup Reg.BSN_INT_STATUS_SWAPPED Reg.BSN_INT_EN_SWAPPED
  s.eventSup Reg.FTH_ST_INT_STATUS_SPARE_IN Reg.FTH_ST_INT_EN_EN

/-- The basin has a spare. -/
def State.hasSpare (s : State) (b : Nat) : Bool := s.fld Reg.BSN_BASIN_SPARE b 0 != 0x1F

/-- ENGINE_SPARE_SUBSTITUTE: an unplanned substitution (R289). -/
def engineSpareSubstitute (s : State) (e : Nat) : State :=
  if !s.imageRuns || !s.inService (e / 16) || !s.hasSpare (e / 16) || 1 < s.fld Reg.BSN_ENG_ESTATE e 0 then s
  else
    let s := ((s.engineHold e).engineDown e).takeSpare e 2
    (s.bump Reg.BSN_RESET_CNT).engineStart e

/-- The basin of a failed engine goes out for good, as soon as R161 allows (R293, R294). -/
def State.takeFailedOut (s : State) : State :=
  match (List.range 192).find? fun e => s.fld Reg.BSN_ENG_ESTATE e 0 == 2 && s.inService (e / 16) with
  | none => s
  | some e => if s.switchAllowed then s.switchBegin (1 + e / 16) (e / 16) 5 else s

/-- ENGINE_FAIL_NO_SPARE: the engine fails with the basin's spare used. It stays in reset, NO_SPARE is raised, and the
basin goes out until the next device reset (R293, R294). -/
def engineFailNoSpare (s : State) (e : Nat) : State :=
  if !s.imageRuns || s.hasSpare (e / 16) || 1 < s.fld Reg.BSN_ENG_ESTATE e 0 then s
  else
    let s := (s.engineHold e).engineDown e
    let s := s.setFld Reg.BSN_ENG_ESTATE e 0 2
    let s := { s with fth := { s.fth with heldRegions := s.fth.heldRegions ++ [e / 16] } }
    let s := (s.noteRsv 11 2 (e / 16) (e / 16) 0xFFFFFFFF).showDegraded
    (s.eventSup Reg.BSN_INT_STATUS_NO_SPARE Reg.BSN_INT_EN_NO_SPARE).takeFailedOut

/-- A basin that leaves for good: PERM names it (R293). -/
def State.setPerm (s : State) (b : Nat) : State := s.wr Reg.BSN_STATUS_PERM b

/-- Corrected errors of an engine in the last 24 h (Table 22.6). -/
def State.eccDay (s : State) (e : Nat) : Nat := ((s.engine e).eccTimes.filter fun t => s.now < t + 86400000000000).length

/-- An engine that has reached 64 errors in 24 h is substituted at once, by the planned switch of Sequence 3.1, as soon as R161
allows (R288, R290, Table 22.6). -/
def State.wearCheck (s : State) : State :=
  match (s.eng.map Prod.fst).find? fun e => 64 ≤ s.eccDay e && s.hasSpare (e / 16) with
  | none => s
  | some e =>
    if s.switchAllowed then (s.setEngine e { s.engine e with swap := true }).switchBegin (1 + e / 16) (e / 16) 4 else s

/-- The engines of a basin whose planned substitution waited for it: each takes the spare (R290), for its error rate or on
request. -/
def State.plannedSwaps (s : State) (b : Nat) : State :=
  (basinEngines b).foldl (fun s e =>
    if (s.engine e).swap then
      let s := s.setEngine e { s.engine e with swap := false }
      if s.hasSpare b then s.takeSpare e (if 64 ≤ s.eccDay e then 2 else 5) else s
    else s) s

/-! ### BSN_ENG_CMD (Tables 7.12 and 7.13) -/

/-- The result of a command of BSN_ENG_CMD. -/
def State.engResult (s : State) (st : Nat) : State := s.wr Reg.BSN_ENG_CMD_RESULT st

/-- A command reaches BSN_ENG_CMD from the supervisor partition, with BUSY and INVALID decided. -/
def State.engCmd (s : State) (p e : Nat) (f : State → State) : State :=
  if !s.isSup p || !s.imageRuns then s
  else
    let busy := s.on Reg.BSN_ENG_CMD_PENDING 0 0
    let s := s.wr Reg.BSN_ENG_CMD_ENGINE e
    if busy then s.engResult stBusy else if 191 < e then s.engResult stInvalid else f s

/-- RESET: it runs until ENGINE_RESET; DOUBLE for an engine in reset (R286). -/
def bsnEngReset (s : State) (p e : Nat) : State :=
  s.engCmd p e fun s =>
    if s.fld Reg.BSN_ENG_ESTATE e 0 = 1 then s.engResult stDouble
    else if s.fld Reg.BSN_ENG_ESTATE e 0 ≠ 0 then s.engResult stOk
    else
      let s := (s.engResult stOk).wr Reg.BSN_ENG_CMD_PENDING 1
      let s := s.setEngine e { s.engine e with cmdPending := true }
      s.engineHold e

/-- SWAP: a planned substitution through the basin's out map (R288, R290). -/
def bsnEngSwap (s : State) (p e : Nat) : State :=
  s.engCmd p e fun s =>
    if !s.hasSpare (e / 16) then s.engResult stEmpty
    else if !s.switchAllowed then s.engResult stRetry
    else
      let s := (s.engResult stOk).wr Reg.BSN_ENG_CMD_PENDING 1
      let s := s.setEngine e { s.engine e with swap := true }
      s.switchBegin (1 + e / 16) (e / 16) 4

/-- ACK_ESC (R278): DOUBLE with no escalation pending; CAUSE keeps its value. -/
def bsnEngAckEsc (s : State) (p e : Nat) : State :=
  s.engCmd p e fun s =>
    if !s.on Reg.BSN_ENG_ESC_PENDING e 0 then s.engResult stDouble
    else ((s.engResult stOk).setFld Reg.BSN_ENG_ESC_PENDING e 0 0).setEngine e { s.engine e with escWait := none }

end Sys2Proof.Machine
end

