-- ==== Sys2Proof/Machine/Power.lean ====
section
/-! DEFINITION. Power states, the choice among them, entry and exit, the gauges, the floor loop and shedding
(R806 to R827, R913 to R920). -/

namespace Sys2Proof.Machine

/-! ### The target (R809) -/

/-- Exit latency of a state in µs (Table 20.1). -/
def exitLatency (st : Nat) : Nat :=
  match st with
  | 1 => 50
  | 2 => 400
  | 3 => 2500
  | 4 => 40000
  | _ => 0

/-- A partition counts in the tolerance minimum: bound, not dormant, linked and not in reset (R723). -/
def State.countsLat (s : State) (p : Nat) : Bool :=
  !s.on Reg.HST_STATUS_RESET_BUSY 0 p &&
    match s.linkOf p with
    | none => false
    | some k => s.hst.linkUp.contains k

/-- T: the smallest tolerance in µs; 0xFFFFF stands for no requirement (R723). -/
def State.tolerance (s : State) : Nat :=
  (List.range 4).foldl (fun m p => if s.countsLat p then min m (s.fld Reg.HST_LAT_LAT 0 p) else m)
    (s.rd Reg.PWR_IMG_LAT_LAT)

/-- Every Sluice queue and every spill queue is empty, and nothing is being sent. -/
def State.sluiceEmpty (s : State) : Bool :=
  s.slu.queues.isEmpty && s.slu.sending.isEmpty && (List.range 324).all fun q => s.chFill (spillKey q) == 0

/-- fits(s) of R809. -/
def State.fits (s : State) (st : Nat) : Bool :=
  if st = 1 || st = 2 then
    s.inflight ≤ s.fld Reg.PWR_LOAD_LOAD (st - 1) 0 && !s.on Reg.PWR_STATUS_FLOOR_BREACH 0 0
  else
    s.inflight == 0 && s.sluiceEmpty && s.cpIdle && s.pwr.admitAt + s.rd Reg.PWR_CFG_IDLE * 1000000 ≤ s.now

/-- T permits the state: its exit latency is at most T, and no requirement permits all. -/
def latencyOk (t st : Nat) : Bool := t == 0xFFFFF || exitLatency st ≤ t

/-- The target of R809; a breach in RIPPLE or MIST makes it FLOW (R820). -/
def State.powerTarget (s : State) : Nat :=
  if s.on Reg.PWR_STATUS_FLOOR_BREACH 0 0 && (s.rd Reg.PWR_STATUS_STATE == 1 || s.rd Reg.PWR_STATUS_STATE == 2) then 0
  else
    [1, 2, 3, 4].foldl (fun t st =>
      if bitOf (s.rd Reg.PWR_CFG_EN) (st - 1) && latencyOk s.tolerance st && s.fits st then st else t) 0

/-! ### PMBus -/

/-- One VOUT_COMMAND write (R918); a write that fails raises PMBUS_ERR, and V counts as VMAX until one succeeds (R823). -/
def State.pmbusWrite (s : State) (mv : Nat) (ack : Bool) : State :=
  let s := (s.wr Reg.PWR_VCORE_V mv).bump Reg.PWR_VSTEP_CNT
  let s := s.emit (.pmbus mv)
  if ack then { s with pwr := { s.pwr with vUnknown := false } }
  else { s with pwr := { s.pwr with vUnknown := true } }.eventSup Reg.PWR_INT_STATUS_PMBUS_ERR Reg.PWR_INT_EN_PMBUS_ERR

/-- PMB_ALERT_N is asserted (R920). -/
def pmbAlert (s : State) (now : Nat) : State :=
  let s := s.upTo now
  if !s.boot.coreEn then s
  else { s with pwr := { s.pwr with vUnknown := true } }.eventSup Reg.PWR_INT_STATUS_PMBUS_ERR Reg.PWR_INT_EN_PMBUS_ERR

/-! ### Entry and exit -/

/-- The LTR message of each link that is up, at a change of state (R724, R812). -/
def State.sendLtr (s : State) (st : Nat) : State :=
  let v := if st < 2 then some 2 else if st = 2 then some 20 else none
  s.hst.linkUp.foldl (fun s k => s.emit (.ltr k v)) s

/-- The device is in a new state: PWR_STATUS.STATE, the entry count, STATE_CHANGE and the LTR. -/
def State.enterState (s : State) (st : Nat) : State :=
  let s := (s.setAll [(Reg.PWR_STATUS_STATE, 0, 0, st), (Reg.PWR_STATUS_BUSY, 0, 0, 0)]).bump Reg.PWR_ENTRY_CNT
  (s.sendLtr st).eventSup Reg.PWR_INT_STATUS_STATE_CHANGE Reg.PWR_INT_EN_STATE_CHANGE

/-- MIST cannot be entered while a basin is out through maps 1–12, or while a permanent loss stands in a basin that map
13 uses (R811). -/
def State.mistBlocked (s : State) : Bool :=
  (1 ≤ s.rd Reg.RUN_MAP_STATUS_ACTIVE && s.rd Reg.RUN_MAP_STATUS_ACTIVE ≤ 12) ||
    (let b := s.rd Reg.BSN_STATUS_PERM
     b < 12 && s.mapUses 13 b)

/-- The resume record written at entry to DRY (R817). -/
def State.writeResume (s : State) : State :=
  let slot := s.rd Reg.FTH_STATUS_SLOT_RUN
  if slot < 2 then
    let m := shake256 (s.slotBytes slot 0x40 (80 * s.slotNat slot 6 2))
    { s with fth := { s.fth with resume := some { digest := m, version := s.img.version, counter := s.fth.counter0 } } }
  else { s with fth := { s.fth with resume := none } }

/-- Entry to DRY: the resume record, then the fabric loses power and CORE_EN goes low; droplets in flight are discarded
(R792, R799, R814, R817, R916). -/
def State.enterDry (s : State) : State :=
  let n := s.inflight
  let s := if s.imageRuns then s.writeResume else s
  let s := s.enterState 4
  let s := { s.closeFabric with boot := { s.boot with held := true, stage := 0, dry := true, coreEn := false, railsOk := false,
                                                      dryInflight := n } }
  let s' := { s.fabricReset with xng := s.xng }
  let s' := s'.setAll [(Reg.XNG_STATUS_CLK_OK, 0, 0, 0x1800), (Reg.XNG_STATUS_IN_RESET, 0, 0, 0x07FF),
              (Reg.PWR_STATUS_STATE, 0, 0, 4), (Reg.PWR_ENTRY_CNT, 0, 0, s.rd Reg.PWR_ENTRY_CNT),
              (Reg.PWR_WAKE_TIMER_MS, 0, 0, s.rd Reg.PWR_WAKE_TIMER_MS), (Reg.FTH_ST_STATUS_RUNNING, 0, 0, 0),
              (Reg.FTH_ST_STATUS_STEP, 0, 0, 0), (Reg.FTH_ST_STATUS_REGION, 0, 0, 0), (Reg.FTH_ST_STATUS_DEFERRED, 0, 0, 0)]
  let s' := { s' with fth := { s'.fth with saved := {} } }.fcoAssert
  { s'.emit (.pin 9 false) with pwr := { s'.pwr with sleptAt := s'.wall } }

/-- The requests that wait in the pseudo-channels have been served: what step 1 of Sequence 20.1 writes back is in the DRAM
before the crossings close. -/
def State.ipdServed (s : State) : State :=
  { s with mem := { s.mem with
    pcs := s.mem.pcs.map fun e => (e.1, { e.2 with queue := [], issued := [], draining := false }) } }

/-- Entry to STILL (Sequence 20.1): the caches are written back and invalidated, CE contexts are saved, the crossings close
(R792), the fabric is gated with what Table 20.1 retains, VDD_CORE goes to 0.60 V. -/
def State.enterStill (s : State) : State :=
  let s := s.flushAllCaches
  let s := s.saveCeContexts.ipdServed.closeFabric
  let s := (List.range 12).foldl (fun s b => s.basinPowerDown b) s
  let s := { s with pwr := { s.pwr with sleptAt := s.wall, basinsOff := List.range 12 } }
  (s.pmbusWrite 600 true).enterState 3

/-- A deeper state is entered (R810, R811). MIST starts a basin switch to map 13 and is entered when it completes. -/
def State.enterDeeper (s : State) (st : Nat) : State :=
  if st = 1 then (s.pmbusWrite 600 true).enterState 1
  else if st = 2 then
    if s.mistBlocked || s.weir.switching.isSome then s
    else (s.wr Reg.PWR_STATUS_BUSY 1).switchBegin 13 16 0
  else if s.on Reg.FTH_ST_STATUS_RUNNING 0 0 then s
  else if st = 3 then s.enterStill
  else if st = 4 then s.enterDry
  else s

/-- RIPPLE and MIST are left for FLOW: the voltage of FLOW, and from MIST the powered-down basins come back and the
dispatch switches to map 0 (Table 20.1, Sequence 3.1). -/
def State.leaveToFlow (s : State) : State :=
  let st := s.rd Reg.PWR_STATUS_STATE
  let s := if st = 1 then s.pmbusWrite 700 true else s
  if st = 2 then
    let s := s.pwr.basinsOff.foldl (fun s b => s.basinPowerUp b) s
    let s := { s with pwr := { s.pwr with basinsOff := [] } }
    ((s.wr Reg.PWR_STATUS_BUSY 1).switchBegin s.returnMap 16 0)
  else s.enterState 0

/-- POWER_TARGET_EVAL: the target is evaluated; a shallower target is entered at once (R809, R810). -/
def powerTargetEval (s : State) (now : Nat) : State :=
  let s := s.upTo now
  if !s.imageRuns || 3 ≤ s.rd Reg.PWR_STATUS_STATE || s.on Reg.PWR_STATUS_BUSY 0 0 then s
  else
    let t := s.powerTarget
    let s := if t = s.rd Reg.PWR_STATUS_TARGET then s
             else { s.wr Reg.PWR_STATUS_TARGET t with pwr := { s.pwr with since := s.wall } }
    let st := s.rd Reg.PWR_STATUS_STATE
    if t < st then s.leaveToFlow else s

/-- DWELL_EXPIRE: a deeper target that has held for DWELL ms is entered (R810). -/
def dwellExpire (s : State) (now : Nat) : State :=
  let s := s.upTo now
  if !s.imageRuns || 3 ≤ s.rd Reg.PWR_STATUS_STATE || s.on Reg.PWR_STATUS_BUSY 0 0 then s
  else
    let t := s.rd Reg.PWR_STATUS_TARGET
    if s.powerTarget = t && s.rd Reg.PWR_STATUS_STATE < t &&
        s.pwr.since + s.rd Reg.PWR_CFG_DWELL * 1000000 ≤ s.wall then s.enterDeeper t
    else s

/-- The basins that a wake leaves untested come first in the rotation of tests (R856). -/
def State.untestedFirst (s : State) : State :=
  let early := (List.range 12).filter fun b => !bitOf s.wakeSet b
  { s with fth := { s.fth with early := early } }.wr Reg.FTH_ST_STATUS_NEXT (early.headD s.fth.nextBasin)

/-- Exit from STILL (Sequence 20.2): VDD_CORE 0.70 V, the crossings open, threads start by R256, CE contexts are restored, map
0. A basin whose engine failed meanwhile leaves (R294). -/
def State.exitStill (s : State) (cause : Nat) : State :=
  let s := s.wr Reg.PWR_STATUS_WAKE_CAUSE cause
  let s := (s.pmbusWrite 700 true).openFabric
  let s := (List.range 12).foldl (fun s b => s.basinPowerUp b) s
  let s := { s with pwr := { s.pwr with basinsOff := [] } }.untestedFirst
  let s := s.setAll [(Reg.RUN_MAP_STATUS_ACTIVE, 0, 0, s.returnMap), (Reg.RUN_MAP_STATUS_TARGET, 0, 0, s.returnMap)]
  ((s.wr Reg.PWR_STATUS_TARGET 0).enterState 0).restoreCeContexts.takeFailedOut

/-- Exit from DRY: CORE_EN is asserted, and the exit is a device reset (R799, R817, Sequence 20.3). -/
def State.exitDry (s : State) (cause : Nat) : State :=
  let r := s.fth.resume.isSome
  let s := s.deviceReset 4 0 s.boot.dryInflight
  let s := s.wr Reg.PWR_STATUS_WAKE_CAUSE cause
  { s with boot := { s.boot with resumeOk := r } }

/-- A wake leaves STILL or DRY (R816). -/
def State.wake (s : State) (cause : Nat) : State :=
  if s.boot.brownout then s
  else if s.boot.dry then s.exitDry cause
  else if s.rd Reg.PWR_STATUS_STATE = 3 then s.exitStill cause
  else s

/-- The image enables a wake source (Table 20.2): a presence input by its WAKE field, the others by the image. In DRY
under the fallback bridge the presence inputs wake (R53). -/
def State.wakeEnabled (s : State) (cause : Nat) : Bool :=
  if cause = 1 then (List.range 9).any fun i => s.on Reg.EDG_PRESCFG_WAKE i 0
  else if cause = 6 || cause = 7 then true
  else bitOf s.boot.wakeEn cause

/-- WAKE_EVENT (R816). -/
def wakeEvent (s : State) (now cause : Nat) : State :=
  let s := s.upTo now
  if 1 ≤ cause && cause ≤ 7 && s.wakeEnabled cause then s.wake cause else s

/-- The wake timer, or the earliest delay-list target, is reached in STILL or DRY (Table 20.2, code 6). -/
def wakeTimerExpire (s : State) (now : Nat) : State :=
  let s := s.upTo now
  let ms := s.rd Reg.PWR_WAKE_TIMER_MS
  let timer := ms != 0 && s.pwr.sleptAt + ms * 1000000 ≤ s.wall
  let delay := s.rd Reg.PWR_STATUS_STATE == 3 && match s.pmp.delay with
    | [] => false
    | (t, _) :: _ => t ≤ s.time.ticks
  if (s.boot.dry || s.rd Reg.PWR_STATUS_STATE == 3) && (timer || delay) then s.wake 6 else s

/-- PWR_CMD ENTER_DRY: entry to DRY by the wedge-proof path (R799); DOUBLE when already in or entering DRY. -/
def pwrEnterDry (s : State) (now p : Nat) : State :=
  let s := s.upTo now
  if !s.isSup p || (s.linkOf p).isNone || !s.imageRuns then s
  else if s.boot.dry then s.wr Reg.PWR_CMD_RESULT stDouble
  else (s.wr Reg.PWR_CMD_RESULT stOk).enterDry

/-- PWR_CMD WAKE; DOUBLE in FLOW. -/
def pwrWake (s : State) (now p : Nat) : State :=
  let s := s.upTo now
  if !s.isSup p || (s.linkOf p).isNone || !s.imageRuns then s
  else if s.rd Reg.PWR_STATUS_STATE = 0 then s.wr Reg.PWR_CMD_RESULT stDouble
  else
    let s := s.wr Reg.PWR_CMD_RESULT stOk
    if s.rd Reg.PWR_STATUS_STATE = 3 then s.wake 7
    else if s.on Reg.PWR_STATUS_BUSY 0 0 then s
    else (s.wr Reg.PWR_STATUS_WAKE_CAUSE 7).leaveToFlow

/-! ### Gauges -/

/-- Range of a voltage monitor in mV × 1,000 (Table 25.4): VDD_CORE is the request ± 15 mV, the others their nominal
value ± 3 or 5 %. -/
def State.voltRange (s : State) (n : Nat) : Nat × Nat :=
  let pct (nom tol : Nat) : Nat × Nat := (nom * (1000 - tol), nom * (1000 + tol))
  match n with
  | 0 | 1 | 2 | 3 => ((s.rd Reg.PWR_VCORE_V - 15) * 1000, (s.rd Reg.PWR_VCORE_V + 15) * 1000)
  | 4 => pct 750 30
  | 5 => pct 800 50
  | 6 => pct 1800 50
  | 7 => pct 800 30
  | 8 => pct 750 30
  | 9 => pct 750 30
  | 10 => pct 1200 30
  | 11 => pct 1100 30
  | 12 => pct 750 30
  | 13 => pct 1800 50
  | 14 => pct 1800 50
  | _ => pct 1800 50

/-- The thermal trip: a device reset with CORE_EN held low (R825). -/
def State.thermalTrip (s : State) : State :=
  let n := s.inflight
  let s := s.logFault 5 0 [s.rd Reg.GAU_SUMMARY_TMAX]
  let s := s.deviceReset 3 0 n
  { s with boot := { s.boot with tripped := true, coreEn := false, railsOk := false } }.emit (.pin 9 false)

/-- BASE_SPEED is taken at the first sample with VDD_CORE 0.85 V in FIELD; a basin at least 8 % below it at that voltage
raises AGEING (Tables 22.6 and 22.7). -/
def State.ageing (s : State) (speeds : List Nat) : State :=
  if s.rd Reg.PWR_VCORE_V ≠ 850 then s
  else if s.fth.baseSpeed.isEmpty then
    if s.fth.lc = 2 then { s with fth := { s.fth with baseSpeed := (List.range 12).map fun b => speeds.getD b 0 % 65536 } } else s
  else if (List.range 12).any fun b =>
      !s.pwr.basinsOff.contains b && speeds.getD b 0 % 65536 * 100 ≤ s.fth.baseSpeed.getD b 0 * 92 then
    s.eventSup Reg.FTH_ST_INT_STATUS_AGEING Reg.FTH_ST_INT_EN_EN
  else s

/-- GAUGE_SAMPLE: 24 temperatures in 1/16 °C, 16 voltages in mV, 12 speeds in M bundles/s; a speed monitor of an
unpowered basin reads VALID 0 (R818). Then the thresholds of R824, R825, SPEED_LOW and Table 22.6. -/
def gaugeSample (s : State) (now : Nat) (temps volts speeds : List Nat) : State :=
  let s := s.upTo now
  if s.boot.brownout then s
  else
    let oldMax := signed 16 (s.rd Reg.GAU_SUMMARY_TMAX)
    let oldMin := s.rd Reg.GAU_SUMMARY_SMIN
    let powered (b : Nat) : Bool := s.boot.coreEn && s.boot.railsOk && !s.pwr.basinsOff.contains b
    let s := s.setAll ((List.range 24).map fun n => (Reg.GAU_TEMP_TEMP, n, 0, temps.getD n 0))
    let s := s.setAll ((List.range 24).map fun n => (Reg.GAU_TEMP_VALID, n, 0, 1))
    let s := s.setAll ((List.range 16).map fun n => (Reg.GAU_VOLT_MV, n, 0, volts.getD n 0))
    let s := s.setAll ((List.range 16).map fun n => (Reg.GAU_VOLT_VALID, n, 0, 1))
    let s := s.setAll ((List.range 12).map fun b => (Reg.GAU_SPEED_SPEED, b, 0, speeds.getD b 0))
    let s := s.setAll ((List.range 12).map fun b => (Reg.GAU_SPEED_VALID, b, 0, flagBit (powered b)))
    let ts := (List.range 24).map fun n => signed 16 (temps.getD n 0)
    let tmax := ts.foldl max (ts.headD 0)
    let ss := ((List.range 12).filter powered).map fun b => speeds.getD b 0 % 65536
    let smin := ss.foldl min (ss.headD 0)
    let s := s.setAll [(Reg.GAU_SUMMARY_TMAX, 0, 0, unsigned 16 tmax), (Reg.GAU_SUMMARY_SMIN, 0, 0, smin)]
    let warn : Int := 16 * s.rd Reg.GAU_THRESH_WARN
    let trip : Int := 16 * s.rd Reg.GAU_THRESH_TRIP
    let lim := s.rd Reg.PWR_FLOOR_FLOOR + s.rd Reg.PWR_FLOOR_MARGIN
    let s := if warn ≤ tmax && oldMax < warn then s.eventSup Reg.GAU_INT_STATUS_TEMP_WARN Reg.GAU_INT_EN_EN else s
    let s := if smin < lim && lim ≤ oldMin && !ss.isEmpty then
               s.eventSup Reg.GAU_INT_STATUS_SPEED_LOW Reg.GAU_INT_EN_EN else s
    let inRange (n : Nat) : Bool :=
      (s.voltRange n).1 ≤ volts.getD n 0 * 1000 && volts.getD n 0 * 1000 ≤ (s.voltRange n).2
    let s := { s with boot := { s.boot with voltBad := s.boot.voltBad.filter fun n => !inRange n } }
    let s := (s.ageing speeds).wearCheck
    if trip ≤ tmax && !s.boot.tripped then s.thermalTrip else s

/-- Every sensor reads 15 °C or more below TRIP: start-up resumes with CORE_EN (R825). -/
def tripCooldownEnd (s : State) (now : Nat) : State :=
  let s := s.upTo now
  let trip : Int := 16 * s.rd Reg.GAU_THRESH_TRIP
  let cool := (List.range 24).all fun n => signed 16 (s.fld Reg.GAU_TEMP_TEMP n 0) ≤ trip - 240
  if s.boot.tripped && cool then
    { s with boot := { s.boot with tripped := false, coreEn := true, coreAt := s.wall } }.emit (.pin 9 true)
  else s

/-! ### The floor loop -/

/-- The floor of the current state: FLOOR, and FLOOR_RIPPLE in RIPPLE. -/
def State.floorOf (s : State) : Nat :=
  if s.rd Reg.PWR_STATUS_STATE = 1 then s.rd Reg.PWR_FLOOR_R_FLOOR_RIPPLE else s.rd Reg.PWR_FLOOR_FLOOR

/-- VMIN of the state in mV (Table 20.1, Table 20.4). -/
def State.vMin (s : State) : Nat := if s.rd Reg.PWR_STATUS_STATE = 1 then 600 else 700

/-- V as the floor loop sees it (R823). -/
def State.vSeen (s : State) : Nat := if s.pwr.vUnknown then s.rd Reg.PWR_VCORE_VMAX else s.rd Reg.PWR_VCORE_V

/-- FLOOR_LOOP: one run of the first three statements of R819. The fallback bridge declares no floor (R54). -/
def floorLoop (s : State) (now : Nat) (ack : Bool) : State :=
  let s := s.upTo now
  if !s.imageRuns || 3 ≤ s.rd Reg.PWR_STATUS_STATE then s
  else
    let sp := s.rd Reg.GAU_SUMMARY_SMIN
    let f := s.floorOf
    let m := s.rd Reg.PWR_FLOOR_MARGIN
    let v := s.vSeen
    let vmax := s.rd Reg.PWR_VCORE_VMAX
    let above := f + 2 * m < sp
    let since := if above then some (s.pwr.overSince.getD s.wall) else none
    let s := { s with pwr := { s.pwr with overSince := since } }
    let held1ms := match since with
      | none => false
      | some t => t + 1000000 ≤ s.wall
    let s := if sp < f + m && v < vmax then s.pmbusWrite (min (v + 10) vmax) ack
             else if held1ms && s.vMin < v then s.pmbusWrite (v - 5) ack
             else s
    if sp < f && !s.on Reg.PWR_STATUS_FLOOR_BREACH 0 0 then
      let s := (s.setAll [(Reg.PWR_STATUS_FLOOR_BREACH, 0, 0, 1), (Reg.PWR_STATUS_SHED_STEP, 0, 0, 1)]).bump Reg.PWR_BREACH_CNT
      { s with pwr := { s.pwr with shedAt := s.wall } }.eventSup Reg.PWR_INT_STATUS_FLOOR_BREACH Reg.PWR_INT_EN_FLOOR_BREACH
    else s

/-- PWR_SHED_LEN: the valid shedding entries. -/
def State.shedLen (s : State) : Nat := ((List.range 8).filter fun n => s.on Reg.PWR_SHED_VALID n 0).length

/-- SHED_INTERVAL_STEP: one step of the shedding ladder under a breach (R819). -/
def shedIntervalStep (s : State) (now : Nat) : State :=
  let s := s.upTo now
  if !s.on Reg.PWR_STATUS_FLOOR_BREACH 0 0 then s
  else
    let sp := s.rd Reg.GAU_SUMMARY_SMIN
    let lim := s.floorOf + s.rd Reg.PWR_FLOOR_MARGIN
    let k := s.rd Reg.PWR_STATUS_SHED_STEP
    let k' := if sp < lim && k < s.shedLen then k + 1 else if lim ≤ sp && 0 < k then k - 1 else k
    let s := s.wr Reg.PWR_STATUS_SHED_STEP k'
    if k' = 0 && lim ≤ sp then
      (s.wr Reg.PWR_STATUS_FLOOR_BREACH 0).eventSup Reg.PWR_INT_STATUS_BREACH_CLEAR Reg.PWR_INT_EN_BREACH_CLEAR
    else s

end Sys2Proof.Machine
end

