-- ==== Sys2Proof/Machine/Hosts.lean ====
section
/-! DEFINITION. Hosts and partitions: the PCIe endpoints and the IPD window, receive and transmit rings, interrupts, the
host-over-Ethernet attachment, and the partition reset (R692, R697 to R734, R904, R937; Tables 17.1 to 17.17). -/

namespace Sys2Proof.Machine

/-! ### Host memory -/

/-- The clock of a partition's link runs. -/
def State.linkRuns (s : State) (p : Nat) : Bool :=
  match s.linkOf p with
  | some k => bitOf (s.rd Reg.XNG_STATUS_CLK_OK) (4 + k)
  | none => false

/-- A posted write to host memory; while the link's clock is stopped it waits (R732, R788), and while its island is in reset
it is lost (R791). -/
def State.hostWrite (s : State) (p addr : Nat) (data : List Byte) : State :=
  match s.linkOf p with
  | none => s
  | some k =>
    if s.islandInReset (4 + k) then s.bump Reg.XNG_LOST_CNT
    else if s.linkRuns p then s.hostStore p addr data
    else { s with hst := { s.hst with waiting := s.hst.waiting ++ [{ part := p, addr := addr, data := data }] } }

/-- A completion toward a partition's host. -/
def State.complete_ (s : State) (p status : Nat) (data : List Byte) : State := s.emit (.pcie p status data)

/-! ### Configuration space (R697, R698) -/

/-- Writable bits of a dword of the standard header: the command register, the base addresses. -/
def configMask (dw : Nat) : Nat :=
  match dw with
  | 1 => 0xFFFF
  | 4 => 0xFFC00000
  | 5 => 0xFFFFFFFF
  | 6 => 0xFFF00000
  | 7 => 0xFFFFFFFF
  | 8 => 0x80000000
  | 9 => 0xFFFFFFFF
  | _ => 0

/-- A dword of an endpoint's configuration space. -/
def State.configRead (s : State) (link dw : Nat) : W32 :=
  let put := SMap.get s.hst.config (link * 1024 + dw) 0
  match dw with
  | 0 => 0xC1921FA7
  | 1 => BitVec.ofNat 32 (0x00100000 + put % 65536)
  | 2 => 0x028000B0
  | 4 => BitVec.ofNat 32 (0x4 + (put &&& configMask 4))
  | 5 | 7 | 9 => BitVec.ofNat 32 put
  | 6 => BitVec.ofNat 32 (0x4 + (put &&& configMask 6))
  | 8 => BitVec.ofNat 32 (0xC + (put &&& configMask 8))
  | 11 => match s.fth.prov with
    | some rec_ => Config.provSubsystem rec_
    | none => 0x00001FA7
  | _ => Config.configWord link dw put

/-- PCIE_CONFIG_REQUEST: Configuration Request Retry Status before step 3 of Sequence 1.1. -/
def pcieConfigRequest (s : State) (link : Nat) (write : Bool) (reg data : Nat) : State :=
  let dw := reg / 4
  if !s.islandSelected (4 + link) || s.boot.brownout then s
  else if s.boot.held || s.boot.stage < 2 then s.emit (.config link 2 0)
  else if write then
    ({ s with hst := { s.hst with config := SMap.put s.hst.config (link * 1024 + dw) data 0 } }).emit (.config link 0 0)
  else s.emit (.config link 0 (s.configRead link dw))

/-! ### The IPD window (R692, R700 to R703) -/

/-- Base, size and right of a partition's window: 0 none, 1 read, 2 read and write. -/
def State.winBase (s : State) (p : Nat) : Nat := s.setting 50 p
def State.winSize (s : State) (p : Nat) : Nat := s.setting 51 p
def State.winRight (s : State) (p : Nat) : Nat := s.setting 52 p

/-- The request lies in the window of a partition under a running image. -/
def State.winOk (s : State) (p off n : Nat) (write : Bool) : Bool :=
  s.imageRuns && decide (0 < n) && decide (off + n ≤ s.winSize p) && decide ((if write then 2 else 1) ≤ s.winRight p)

/-- The link of the partition carries a request, and wakes the device from STILL. -/
def State.bar4Ready (s : State) (p : Nat) : Bool := (s.linkOf p).isSome && s.linkRuns p

/-- A host access ends STILL (Table 20.2, code 4; R903). -/
def State.hostWakes (s : State) : State :=
  if s.rd Reg.PWR_STATUS_STATE = 3 then wakeEvent s s.wall 4 else s

/-- BAR4_READ: a lost word reads 0 and sets the poisoned-data bit. -/
def bar4Read (s : State) (p off n : Nat) : State :=
  if !s.bar4Ready p then s
  else
    let s := s.hostWakes
    if !s.winOk p off n false then s.complete_ p 1 []
    else
      let a := s.winBase p + off
      let bs := (List.range n).map fun i => if s.wordLost (a + i) then (0 : Byte) else (s.ipdRead (a + i) 1).headD 0
      (s.ipdReqs a n false clsBulk).complete_ p (if s.ipdLost a n then 3 else 0) bs

/-- BAR4_WRITE: what meets an offline address is discarded. -/
def bar4Write (s : State) (p off : Nat) (data : List Byte) : State :=
  let n := data.length
  if !s.bar4Ready p then s
  else
    let s := s.hostWakes
    if !s.winOk p off n true then s.complete_ p 1 []
    else
      let a := s.winBase p + off
      let lost := (List.range n).any fun i => s.offlineAt (a + i)
      let s := (s.ipdWrite a data).ipdReqs a n true clsBulk
      if lost then s.bumpFld Reg.HST_BAR4_LOST 0 p 1 else s

/-- PCIE_ATOMICOP: FetchAdd (0), Swap (1) and CAS (2) of 32 (0) or 64 (1) bits. -/
def pcieAtomicop (s : State) (p off op width : Nat) (v c : Nat) : State :=
  let n := if width = 0 then 4 else 8
  if !s.bar4Ready p then s
  else
    let s := s.hostWakes
    if 1 < width || off % n ≠ 0 || !s.winOk p off n true then s.complete_ p 1 []
    else
      let code := if op = 0 then 0 else if op = 1 then 2 else 3
      match s.ipdAtomic (s.winBase p + off) n code (v % 2 ^ (8 * n)) (c % 2 ^ (8 * n)) with
      | (none, s) => s.complete_ p 4 []
      | (some old, s) => s.complete_ p 0 (leBytes n old)

/-! ### Rings -/

/-- A field of a receive or transmit queue. -/
def ringFld (tx : Bool) (rx t : Fld) : Fld := if tx then t else rx

def State.ringState (s : State) (tx : Bool) (q p : Nat) : Nat := s.fld (ringFld tx Reg.HST_RXQ_STATE Reg.HST_TXQ_STATE) q p

def State.ringErr (s : State) (tx : Bool) (q p : Nat) : Bool := s.on (ringFld tx Reg.HST_RXQ_ERR Reg.HST_TXQ_ERR) q p

def State.ringProd (s : State) (tx : Bool) (q p : Nat) : Nat := s.fld (ringFld tx Reg.HST_RXQ_PROD Reg.HST_TXQ_PROD) q p

def State.ringCons (s : State) (tx : Bool) (q p : Nat) : Nat := s.fld (ringFld tx Reg.HST_RXQ_CONS Reg.HST_TXQ_CONS) q p

def State.ringLog (s : State) (tx : Bool) (q p : Nat) : Nat := s.fld (ringFld tx Reg.HST_RXQ_LOG2 Reg.HST_TXQ_LOG2) q p

def State.queueBase (s : State) (tx : Bool) (q p : Nat) : Nat :=
  s.fld (ringFld tx Reg.HST_RXQ_BASE_LO Reg.HST_TXQ_BASE_LO) q p * 4096 +
    s.fld (ringFld tx Reg.HST_RXQ_BASE_HI Reg.HST_TXQ_BASE_HI) q p * 2 ^ 32

/-- The write-back of an index: four bytes. -/
def State.writeBackIdx (s : State) (tx : Bool) (q p v : Nat) : State :=
  let a := s.fld (ringFld tx Reg.HST_RXQ_WB_LO Reg.HST_TXQ_WB_LO) q p * 4 +
    s.fld (ringFld tx Reg.HST_RXQ_WB_HI Reg.HST_TXQ_WB_HI) q p * 2 ^ 32
  s.hostWrite p a (leBytes 4 v)

/-- Indexes count modulo 2^17. -/
def idxDiff (a b : Nat) : Nat := (a + 2 ^ 17 - b) % 2 ^ 17

/-- The vector of a queue (Table 17.6). -/
def queueVec (tx : Bool) (q : Nat) : Nat := if tx then 64 + q else q

/-- A queue sets ERR. -/
def State.ringFails (s : State) (tx : Bool) (q p : Nat) : State :=
  let s := s.setFld (ringFld tx Reg.HST_RXQ_ERR Reg.HST_TXQ_ERR) q p 1
  (s.event Reg.HST_INT_STATUS_QUEUE_ERR Reg.HST_INT_EN_QUEUE_ERR p p).signalVec p (queueVec tx q)

/-- The queue is enabled: indexes 0, no error (R712, R720). -/
def State.ringStart (s : State) (tx : Bool) (q p : Nat) : State :=
  s.setAll [(ringFld tx Reg.HST_RXQ_STATE Reg.HST_TXQ_STATE, q, p, 1),
    (ringFld tx Reg.HST_RXQ_ENABLE_PENDING Reg.HST_TXQ_ENABLE_PENDING, q, p, 0),
    (ringFld tx Reg.HST_RXQ_PROD Reg.HST_TXQ_PROD, q, p, 0), (ringFld tx Reg.HST_RXQ_CONS Reg.HST_TXQ_CONS, q, p, 0),
    (ringFld tx Reg.HST_RXQ_ERR Reg.HST_TXQ_ERR, q, p, 0)]

/-- Descriptors fetched ahead: a number from 0 to 16 that the spec leaves open, bounded by the descriptors there are
(R714). -/
def State.fetchedNow (s : State) (q p : Nat) : Nat × State :=
  let m := min 16 (idxDiff (s.ringProd true q p) (s.ringCons true q p))
  if s.ringState true q p = 0 || s.ringErr true q p then (0, s)
  else
    let (v, s) := s.free
    (v.toNat % (m + 1), s)

/-- EN written as 1 (R719, R720). -/
def State.ringEnable (s : State) (tx : Bool) (q p : Nat) : State :=
  let s' := s.setFld (ringFld tx Reg.HST_RXQ_EN Reg.HST_TXQ_EN) q p 1
  match s.ringState tx q p with
  | 0 => s'.ringStart tx q p
  | 2 => s'.setFld (ringFld tx Reg.HST_RXQ_ENABLE_PENDING Reg.HST_TXQ_ENABLE_PENDING) q p 1
  | _ => s'

/-- EN written as 0: an enabled queue shuts down, a pending enable is cancelled. -/
def State.ringDisable (s : State) (tx : Bool) (q p : Nat) : State :=
  let st := s.ringState tx q p
  let s := s.setFld (ringFld tx Reg.HST_RXQ_EN Reg.HST_TXQ_EN) q p 0
  if st = 1 then
    let (n, s) := if tx then s.fetchedNow q p else (0, s)
    let s := { s with hst := { s.hst with fetched := SMap.put s.hst.fetched (p * 64 + q) n 0 } }
    s.setFld (ringFld tx Reg.HST_RXQ_STATE Reg.HST_TXQ_STATE) q p 2
  else s.setFld (ringFld tx Reg.HST_RXQ_ENABLE_PENDING Reg.HST_TXQ_ENABLE_PENDING) q p 0

/-- A write of a partition to its host registers takes effect (R902). -/
def State.hstReach (s : State) (p : Nat) : Bool := s.pageOk p 17

/-- HOST_QUEUE_ENABLE and HOST_QUEUE_DISABLE. -/
def hostQueueEnable (s : State) (p : Nat) (tx : Bool) (q : Nat) : State :=
  if s.hstReach p then s.ringEnable tx q p else s

def hostQueueDisable (s : State) (p : Nat) (tx : Bool) (q : Nat) : State :=
  if s.hstReach p then s.ringDisable tx q p else s

/-- HOST_QUEUE_SHUTDOWN_DONE: what the queue had begun is done; it reads DISABLED, or takes its pending enable. -/
def hostQueueShutdownDone (s : State) (p : Nat) (tx : Bool) (q : Nat) : State :=
  if s.ringState tx q p ≠ 2 || (tx && SMap.get s.hst.fetched (p * 64 + q) 0 != 0) then s
  else
    let pend := s.on (ringFld tx Reg.HST_RXQ_ENABLE_PENDING Reg.HST_TXQ_ENABLE_PENDING) q p
    let s := s.setFld (ringFld tx Reg.HST_RXQ_STATE Reg.HST_TXQ_STATE) q p 0
    let s := if pend then s.ringStart tx q p else s
    s.signalVec p (queueVec tx q)

/-- RX_DOORBELL_WRITE (R712, R904). -/
def rxDoorbellWrite (s : State) (p q v : Nat) : State :=
  if !s.hstReach p || s.ringState false q p ≠ 1 || s.ringErr false q p then s
  else
    let x := v % 2 ^ 17
    let cons := s.ringCons false q p
    if idxDiff (s.ringProd false q p) cons < idxDiff x cons then s.ringFails false q p
    else s.setFld Reg.HST_RXQ_CONS q p x

/-- TX_DOORBELL_WRITE (R718, R904). -/
def txDoorbellWrite (s : State) (p q v : Nat) : State :=
  if !s.hstReach p || s.ringState true q p ≠ 1 || s.ringErr true q p then s
  else
    let x := v % 2 ^ 17
    let s' := s.setFld Reg.HST_TXQ_PROD q p x
    if 2 ^ s.ringLog true q p < idxDiff x (s.ringCons true q p) then s'.ringFails true q p else s'

/-! ### Receive (R706 to R713) -/

/-- The header of a message (Table 17.3). -/
def Copy.header (c : Copy) (phase : Nat) : List Byte :=
  let d := c.d
  leBytes 4 (c.len % 2 ^ 14 + d.inPort % 256 * 2 ^ 16 + flagBit d.epValid * 2 ^ 24 + d.colour % 4 * 2 ^ 25 + phase * 2 ^ 27) ++
    leBytes 4 (d.srcEp % 2 ^ 16 + d.domain % 2 ^ 16 * 2 ^ 16) ++ leBytes 4 (d.seq % 2 ^ 24 + d.copy % 256 * 2 ^ 24) ++
    leBytes 4 0 ++ leBytes 8 d.arrival ++ leBytes 4 d.prog0.toNat ++ leBytes 4 d.prog1.toNat

/-- The copy at the head of a partition's receive queue, once its packet stands whole in the spill queue. -/
def State.rxHead (s : State) (p q : Nat) : Option Copy :=
  let i := hostSpill (64 * p + q)
  if s.chReady (spillKey i) then (s.hostCopies i).head? else none

/-- The copy at the head of a receive queue is lost: its buffers, or words of its entry in the spill queue (Table 3.5,
R459). -/
def State.copyLost (s : State) (p q : Nat) (c : Copy) : Bool :=
  s.buffersLost c.d || s.headAborted (spillKey (hostSpill (64 * p + q)))

/-- Slots of a message (R708). -/
def State.msgSlots (s : State) (p q len : Nat) : Nat :=
  let sz := 2 ^ s.fld Reg.HST_RXQ_SLOT q p
  (32 + len + sz - 1) / sz

/-- Host delivery can act on the head of a queue: it fits, or it can never fit, or it is lost. -/
def State.rxReady (s : State) (p q : Nat) : Bool :=
  s.ringState false q p == 1 && !s.ringErr false q p &&
    match s.rxHead p q with
    | none => false
    | some c =>
      let n := s.msgSlots p q c.len
      let size := 2 ^ s.ringLog false q p
      decide (size < n) || s.copyLost p q c ||
        decide (idxDiff (s.ringProd false q p) (s.ringCons false q p) + n ≤ size)

/-- The first queue from the next one in turn that has work. -/
def State.inTurn (s : State) (key : Nat) (f : Nat → Bool) : Option Nat :=
  ((List.range 64).map fun i => (SMap.get s.hst.rxNext key 0 + i) % 64).find? f

def State.setTurn (s : State) (key q : Nat) : State :=
  { s with hst := { s.hst with rxNext := SMap.put s.hst.rxNext key ((q + 1) % 64) 0 } }

/-- The head message leaves the spill queue. -/
def State.rxTake (s : State) (p q : Nat) : State :=
  let i := hostSpill (64 * p + q)
  let s := s.chDrop (spillKey i) (s.chFirst (spillKey i))
  (s.popCopy i).2

/-- Bytes go into the ring from a byte offset, wrapping at its end. -/
def State.ringBytes (s : State) (p base size off : Nat) (bs : List Byte) : State :=
  let off := off % size
  let n := size - off
  let s := s.hostWrite p (base + off) (bs.take n)
  if n < bs.length then s.hostWrite p base (bs.drop n) else s

/-- RX_MESSAGE_DELIVER: frame bytes, header, PROD to the write-back address, then the vector (R710). -/
def rxMessageDeliver (s : State) (now p q : Nat) : State :=
  let s := s.upTo now
  if !s.imageRuns || !s.linkRuns p || s.on Reg.HST_STATUS_RESET_BUSY 0 p || s.inTurn p (s.rxReady p) != some q then s
  else
    match s.rxHead p q with
    | none => s
    | some c =>
      let n := s.msgSlots p q c.len
      let k := s.ringLog false q p
      let prod := s.ringProd false q p
      let sz := 2 ^ s.fld Reg.HST_RXQ_SLOT q p
      let lost := s.copyLost p q c
      let s := (s.rxTake p q).setTurn p q
      if lost then s.dryCopy c dryMemLost
      else if 2 ^ k < n then
        let s := (s.dryCopy c dryNoBuffer).bumpFld Reg.HST_RX_OVERSIZE 0 p 1
        s.event Reg.HST_INT_STATUS_OVERSIZE Reg.HST_INT_EN_OVERSIZE p p
      else
        let base := s.queueBase false q p
        let off := prod % 2 ^ k * sz
        let size := 2 ^ k * sz
        let s := s.ringBytes p base size (off + 32) ((s.packet c.d).take c.len)
        let s := s.ringBytes p base size off (c.header (1 - prod / 2 ^ k % 2))
        let s := s.setFld Reg.HST_RXQ_PROD q p (prod + n)
        let s := s.writeBackIdx false q p (s.ringProd false q p)
        let s := (s.copyEnds c 0).bumpFld Reg.HST_RX_MSG_CNT 0 p 1
        s.signalVec p q

/-! ### Transmit (R714 to R718) -/

/-- A host frame gets its buffers, charged to the queue's partition, and its droplet: the status of Table 17.5 (Table 12.3). -/
def State.hostFrame (s : State) (p q : Nat) (len : Nat) (frame : List Byte) (readOk : Bool) (prog0 prog1 : W32) :
    Nat × State :=
  let pool := s.txPool p
  if len = 0 || 16383 < len || 256 + s.poolSize pool * 256 < len then (stInvalid, s)
  else
    match s.allocHead p with
    | ((st, head), s) =>
      if st ≠ stOk then (stEmpty, s)
      else
        let ((bst, body), s) := if len ≤ 256 then ((stOk, 0), s) else s.allocNow pool p
        let bodyPool := if len ≤ 256 then 0 else pool
        if bst ≠ stOk then (stEmpty, s.dropRef 0 head 8 2 p)
        else
          let d : Droplet := { inPort := inPortHost p, host := true, len := len, head := head, body := body
                               bodyPool := bodyPool, arrival := s.net 0 % 2 ^ 64, prog0 := prog0, prog1 := prog1 }
          if !readOk then (stLost, s.dropRefs d 8 2 p)
          else
            let bs := takeBytes len frame
            let s := s.storeFrame d bs
            let before := s.rd Reg.WEIR_ADMIT_CNT
            let s := s.enterPath d ((s.look bs).flk bs) (64 * p + q)
            (if s.rd Reg.WEIR_ADMIT_CNT = before then stRetry else stOk, s)

/-- The counters and events of a host frame's outcome. -/
def State.txCount (s : State) (p st : Nat) : State :=
  if st = stOk then s.bumpFld Reg.HST_TX_MSG_CNT 0 p 1
  else (s.bumpFld Reg.HST_TX_REFUSE 0 p 1).event Reg.HST_INT_STATUS_TX_REFUSED Reg.HST_INT_EN_TX_REFUSED p p

/-- A transmit queue has a descriptor to take. -/
def State.txReady (s : State) (p q : Nat) : Bool :=
  (s.ringState true q p == 1 && !s.ringErr true q p && s.ringProd true q p != s.ringCons true q p) ||
    (s.ringState true q p == 2 && SMap.get s.hst.fetched (p * 64 + q) 0 != 0)

/-- A Touch-marked partition other than p has a descriptor to be taken (R778). -/
def State.touchHost (s : State) (p : Nat) : Bool :=
  (List.range 4).any fun k => k != p && s.touchSource (inPortHost k) && s.linkRuns k && (s.inTurn (4 + k) (s.txReady k)).isSome

/-- TX_DESCRIPTOR_PROCESS: the next descriptor in ring order is admitted or refused, its STATUS and DONE are written and then
CONS (R714 to R717). A descriptor whose body buffer is waited for stays where it is, and a refill starts (R490); one of a
partition that is not Touch waits for those of Touch partitions (R778). -/
def txDescriptorProcess (s : State) (now p q : Nat) (desc frame : List Byte) (readOk : Bool) : State :=
  let s := s.upTo now
  let w := fun (n : Nat) => leNat ((takeBytes 32 desc).drop (4 * n) |>.take 4)
  let len := w 2 % 2 ^ 14
  if !s.imageRuns || !s.linkRuns p || s.on Reg.HST_STATUS_RESET_BUSY 0 p || s.inTurn (4 + p) (s.txReady p) != some q then s
  else if s.touchHost p && !s.touchSource (inPortHost p) then s
  else if 256 < len && s.allocWaits (s.txPool p) p then s.startRefill (s.txPool p) true
  else
    let (st, s) :=
      if w 2 / 2 ^ 14 ≠ 0 || w 3 / 2 ≠ 0 then (stInvalid, s)
      else s.hostFrame p q len frame readOk (BitVec.ofNat 32 (w 6)) (BitVec.ofNat 32 (w 7))
    let s := (s.txCount p st).setTurn (4 + p) q
    let left := SMap.put s.hst.fetched (p * 64 + q) (SMap.get s.hst.fetched (p * 64 + q) 0 - 1) 0
    let s := { s with hst := { s.hst with fetched := left } }
    let cons := s.ringCons true q p
    let s := s.hostWrite p (s.queueBase true q p + cons % 2 ^ s.ringLog true q p * 32 + 0x10) (leBytes 4 (st + 2 ^ 31))
    let s := s.setFld Reg.HST_TXQ_CONS q p (cons + 1)
    let s := s.writeBackIdx true q p (s.ringCons true q p)
    if bitOf (w 3) 0 then s.signalVec p (64 + q) else s

/-! ### Interrupt holds and latency (R722, R723) -/

/-- ITR_HOLD_EXPIRE: the hold ends, and a raise that came meanwhile follows. -/
def itrHoldExpire (s : State) (now p vec : Nat) : State :=
  let s := s.upTo now
  let k := p * 128 + vec
  match SMap.find s.hst.itr k with
  | none => s
  | some at_ =>
    if s.now < at_ then s
    else
      let pend := s.hst.itrPend.contains k
      let s := { s with hst := { s.hst with itr := SMap.erase s.hst.itr k, itrPend := s.hst.itrPend.filter (· != k) } }
      if pend then s.signalVec p vec else s

/-- HST_LAT_WRITE. -/
def hstLatWrite (s : State) (p v : Nat) : State := if s.hstReach p then s.setFld Reg.HST_LAT_LAT 0 p v else s

/-! ### Host-over-Ethernet (R725 to R727) -/

/-- The MAC address of a partition's host. -/
def State.hostMac (s : State) (p : Nat) : Nat := s.setting 53 p

/-- The partition bound to a port. -/
def State.eoePart (s : State) (port : Nat) : Option Nat := (List.range 4).find? fun p => s.bindOf p == 16 + port

/-- A frame of a bound port's host. -/
def State.isEoe (s : State) (port : Nat) (bs : List Byte) : Bool :=
  s.imageRuns &&
    match s.eoePart port with
    | none => false
    | some p => beNat ((bs.drop 6).take 6) == s.hostMac p && beNat ((bs.drop 12).take 2) == 0x88B5 && 30 ≤ bs.length

/-- EOE_FRAME_RECEIVE: a transmit message becomes a host droplet; a first frame makes no gap. -/
def eoeFrameReceive (s : State) (now port : Nat) (bs : List Byte) : State :=
  let s := s.upTo now
  if !s.isEoe port bs then s
  else
    match s.eoePart port with
    | none => s
    | some p =>
      let h := fun (n : Nat) => ((bs.drop (14 + n)).headD 0).toNat
      let q := h 2
      if s.on Reg.HST_STATUS_RESET_BUSY 0 p then s
      else if h 0 ≠ 1 || h 1 ≠ p || 63 < q || h 3 ≠ 2 then s.bumpFld Reg.HST_EOE_BAD 0 p 1
      else
        let n := beNat ((bs.drop 18).take 4)
        let k := 2 * (p * 64 + q) + 1
        let s := match SMap.find s.hst.eoeSeq k with
          | some last => if n = (last + 1) % 2 ^ 32 then s else s.bumpFld Reg.HST_EOE_GAP 0 p 1
          | none => s
        let s := { s with hst := { s.hst with eoeSeq := SMap.set s.hst.eoeSeq k n } }
        let frame := bs.drop 30
        let full := s.free_ 0 = 0
        let (st, s) := s.hostFrame p q frame.length frame true (BitVec.ofNat 32 (beNat ((bs.drop 26).take 4)))
          (BitVec.ofNat 32 (beNat ((bs.drop 22).take 4)))
        let s := if full && st = stEmpty then (s.bumpFld Reg.EDG_NOBUF_CNT port 0 1).countDry dryNoBuffer 1 else s
        s.txCount p st

/-- A received frame of a host-over-Ethernet host that passed the edge's checks, MACsec among them, goes to the host
interface (R63, R727). -/
def frameIn (s : State) (now p stamp : Nat) (bytes : List Byte) (fcsOk cut express : Bool) (macsec pn : Nat) : State :=
  let t := s.upTo now
  if t.running && t.isEoe p bytes && (t.checkFrame p bytes.length fcsOk cut).isNone then
    match t.macsecIn p macsec pn bytes with
    | (true, _, t) => t.discard Reg.EDG_MACSEC_CNT p
    | (false, _, t) => eoeFrameReceive t now p bytes
  else frameReceive s now p stamp bytes fcsOk cut express macsec pn

/-- The frame that carries a message to an Ethernet host. -/
def State.eoeFrame (s : State) (p q seq : Nat) (c : Copy) : List Byte :=
  beBytes 6 (s.hostMac p) ++ beBytes 6 s.fth.baseMac ++ beBytes 2 0x88B5 ++
    [1, BitVec.ofNat 8 p, BitVec.ofNat 8 q, 1] ++ beBytes 4 seq ++
    beBytes 8 (c.d.prog0.toNat + c.d.prog1.toNat * 2 ^ 32) ++ c.header 1 ++ (s.packet c.d).take c.len

/-- EOE_MESSAGE_SEND: the message goes as one frame into the class queue of the bound port; without a buffer it waits. -/
def eoeMessageSend (s : State) (now p q : Nat) : State :=
  let s := s.upTo now
  if !s.imageRuns || s.bindOf p < 16 || s.on Reg.HST_STATUS_RESET_BUSY 0 p then s
  else
    match s.rxHead p q with
    | none => s
    | some c =>
      let port := s.bindOf p - 16
      let k := 2 * (p * 64 + q)
      let seq := SMap.get s.hst.eoeSeq k 0
      let bs := s.eoeFrame p q seq c
      if s.copyLost p q c then (s.rxTake p q).dryCopy c dryMemLost
      else
        match s.allocHead p with
        | ((st, head), s) =>
          if st ≠ stOk then s
          else
            let ((bst, body), s) := if bs.length ≤ 256 then ((stOk, 0), s) else s.allocNow (s.txPool p) p
            if bst ≠ stOk then s.dropRef 0 head 8 2 p
            else
              let d : Droplet := { inPort := inPortHost p, host := true, len := bs.length, head := head, body := body
                                   bodyPool := if bs.length ≤ 256 then 0 else s.txPool p }
              let s := (s.storeFrame d bs).rxTake p q
              let s := { s with hst := { s.hst with eoeSeq := SMap.put s.hst.eoeSeq k ((seq + 1) % 2 ^ 32) 0 } }
              let s := (s.copyEnds c 0).bumpFld Reg.HST_RX_MSG_CNT 0 p 1
              s.admitCopy { d := d, len := bs.length, q := 8 * port + s.setting 54 (p * 64 + q) % 8, jid := 2 ^ 64 }

/-! ### Partition reset (R728 to R731, Sequence 17.1) -/

/-- Fetched descriptors of a partition are abandoned. -/
def State.abandonTx (s : State) (p : Nat) : State :=
  (List.range 64).foldl (fun s q =>
    let (n, s) := if s.ringState true q p = 2 then (SMap.get s.hst.fetched (p * 64 + q) 0, s) else s.fetchedNow q p
    ({ s with hst := { s.hst with fetched := SMap.erase s.hst.fetched (p * 64 + q) } }).bumpFld Reg.HST_TX_ABORT 0 p n) s

/-- Steps 1 to 4; a reset that runs takes a further one in (R731). -/
def State.partReset (s : State) (p : Nat) : State :=
  if s.on Reg.HST_STATUS_RESET_BUSY 0 p then s
  else
    let s := (s.abandonTx p).setFld Reg.HST_STATUS_RESET_BUSY 0 p 1
    let s := s.dryWaiting (inPortHost p) dryPartitionReset
    let s := (List.range 64).foldl (fun s q => s.dryHostQueue (64 * p + q) dryPartitionReset) s
    ((s.loseHostLocks p).loseStaging p).loseTblCommand p

/-- HST_PRST_GO. -/
def hstPrstGo (s : State) (p target : Nat) : State :=
  if !s.hstReach p || !s.isSup p then s
  else
    let s := s.setFld Reg.HST_PRST_PART 0 p target
    if 3 < target then s.setFld Reg.HST_PRST_RESULT 0 p stInvalid
    else if s.on Reg.HST_STATUS_RESET_BUSY 0 target then s.setFld Reg.HST_PRST_RESULT 0 p stDouble
    else (s.setFld Reg.HST_PRST_RESULT 0 p stOk).partReset target

/-- PCIE_FUNCTION_LEVEL_RESET. -/
def pcieFunctionLevelReset (s : State) (p : Nat) : State :=
  if (s.linkOf p).isSome && (s.imageRuns || s.bridgeRuns) then s.partReset p else s

/-- The partition on a link. -/
def State.partOf (s : State) (link : Nat) : Option Nat := (List.range 4).find? fun p => s.linkOf p == some link

/-- PCIE_LINK_RESET: hot reset, DL_Down or PERST_N takes the link down and resets its partition. -/
def pcieLinkReset (s : State) (link : Nat) : State :=
  let s := { s with hst := { s.hst with linkUp := s.hst.linkUp.filter (· != link) } }
  if !(s.imageRuns || s.bridgeRuns) then s
  else
    match s.partOf link with
    | none => s
    | some p => s.partReset p

/-- PCIE_LINK_UP (R723). -/
def pcieLinkUp (s : State) (link width rate : Nat) : State :=
  if s.boot.held || !s.islandSelected (4 + link) || s.islandInReset (4 + link) then s
  else
    let ups := if s.hst.linkUp.contains link then s.hst.linkUp else link :: s.hst.linkUp
    let s := { s with hst := { s.hst with linkUp := ups } }
    match s.partOf link with
    | none => s
    | some p => s.setAll [(Reg.HST_PART_WIDTH, 0, p, width), (Reg.HST_PART_RATE, 0, p, rate)]

/-- EOE_LINK_DOWN_TIMEOUT: the bound port's link has been down for 100 ms. -/
def eoeLinkDownTimeout (s : State) (now p : Nat) : State :=
  let s := s.upTo now
  match SMap.find s.hst.eoeDown p with
  | none => s
  | some at_ =>
    if !s.imageRuns || s.now < at_ + 10 ^ 8 then s
    else ({ s with hst := { s.hst with eoeDown := SMap.erase s.hst.eoeDown p } }).partReset p

/-- The banked fields that a partition reset returns to their reset values: all but the counters and the identity of the
partition. -/
def bankedFields : List Fld :=
  (List.range 19).flatMap fun n => (Reg.page n).filter fun f => f.banked && f.acc != .rc && !(f.page == 17 && f.off == 0)

/-- No droplet of the partition is held by a thread or circulating (step 5). -/
def State.partDrained (s : State) (p : Nat) : Bool :=
  !s.weir.slots.any fun e => e.2.d.inPort == inPortHost p && (e.2.st == 2 || e.2.st == 3)

/-- PARTITION_RESET_DRAINED: step 6. -/
def partitionResetDrained (s : State) (p : Nat) : State :=
  if !s.on Reg.HST_STATUS_RESET_BUSY 0 p || !s.partDrained p then s
  else
    let keys := bankedFields.map fun f => f.key 0 0 / 2 ^ 24
    let lost (e : Nat × Nat) : Bool := e.1 == Reg.RUL_COMMIT_RESULT.key 0 p && e.2 == stLost
    let kept := s.regs.filter fun e => lost e || !(e.1 % 8 == p && keys.contains (e.1 / 2 ^ 24))
    let s := { s with
      regs := kept
      hst := { s.hst with
        msix := s.hst.msix.filter fun e => e.1 / 8192 != p
        pba := s.hst.pba.filter fun v => v / 2048 != p
        itr := s.hst.itr.filter fun e => e.1 / 128 != p
        itrPend := s.hst.itrPend.filter fun v => v / 128 != p
        rxNext := SMap.erase (SMap.erase s.hst.rxNext p) (4 + p)
        eoeSeq := s.hst.eoeSeq.filter fun e => e.1 / 128 != p } }
    let s := s.bumpFld Reg.HST_RESET_CNT 0 p 1
    s.eventBit Reg.HST_INT_STATUS_PART_RESET Reg.HST_INT_EN_PART_RESET p s.supervisor s.supervisor

end Sys2Proof.Machine
end

