-- ==== Sys2Proof/Machine/SelfTest.lean ====
section
/-! DEFINITION. Self-test: the in-service test of a basin, commanded tests, outcomes and the safe state (R852 to R867,
Sequence 22.1, Table 22.4). -/

namespace Sys2Proof.Machine

/-- The image's TEST_PERIOD in ns (R856), and CE_MIN (Table 22.4). -/
def State.testPeriod (s : State) : Nat := s.setting 60 0 * 1000000

def State.ceMin (s : State) : Nat := s.setting 61 0

/-! ### Logic BIST (R852) -/

/-- One step of the 64-bit LFSR with feedback polynomial x^64 + x^63 + x^61 + x^60 + 1. -/
def scanStep (x : BitVec 64) : BitVec 64 :=
  let fb := (x.getLsbD 63 ^^ x.getLsbD 62) ^^ (x.getLsbD 60 ^^ x.getLsbD 59)
  (x <<< 1) ||| BitVec.ofNat 64 (flagBit fb)

/-- The MISR takes one word of responses: a step of its feedback, which the spec does not give and which is the LFSR's here, and
the word (DESIGN CHOICE, log entry 192). -/
def misrStep (m r : BitVec 64) : BitVec 64 := scanStep m ^^^ r

/-- The MISR's value after a region's responses. -/
def misrOf (rs : List (BitVec 64)) : BitVec 64 := rs.foldl misrStep 0

/-- Patterns of a region's test (Table 22.1): those of the full test, or of a region test. -/
def State.bistPatterns (s : State) : Nat := if s.boot.fullTest then 1048576 else 4096

/-- A region's scan chains start from the ROM's seed. -/
def State.scanBegin (s : State) (r : Nat) : State :=
  { s with fth := { s.fth with lfsr := Config.bistSeed r, misr := 0 } }

/-- The scan of a region ends, its responses compacted; it passes where the MISR equals the ROM's signature. A region of which
no responses are given has answered with that signature. -/
def State.scanEnd (s : State) (r : Nat) (responses : Option (List (BitVec 64))) : Bool × State :=
  match responses with
  | none => (true, { s with fth := { s.fth with misr := Config.bistSignature r s.bistPatterns } })
  | some rs =>
    (misrOf rs == Config.bistSignature r s.bistPatterns,
     { s with fth := { s.fth with lfsr := rs.foldl (fun l _ => scanStep l) s.fth.lfsr, misr := misrOf rs } })

/-! ### Save sets (R859) -/

/-- The save set of a basin is taken: its shared SRAM, and its threads' reference tables, waiting messages and watches. A
test then destroys the shared SRAM (R853). -/
def State.saveBasin (s : State) (b : Nat) (test : Bool) : State :=
  let lo := b * 2 ^ 19
  let cells := s.mem.shared.filter fun e => lo ≤ e.1 && e.1 < lo + 2 ^ 19
  let mine := s.thr.filter fun e => e.1 < 1536 && e.1 / 128 == b
  let saved : SaveSet := { shared := cells, thrs := mine.map fun (e : Nat × Thr) => (e.1, e.2.refs, e.2.msgs, e.2.watches) }
  let s := { s with fth := { s.fth with saved := saved } }
  let s := if test then { s with mem := { s.mem with shared := cellClear s.mem.shared lo (2 ^ 19) } } else s
  mine.foldl (fun s e => s.setThread e.1 { e.2 with refs := [], msgs := [], watches := [] }) s

/-- The save set is restored; messages that came meanwhile stay behind the saved ones. -/
def State.restoreBasin (s : State) (b : Nat) : State :=
  let sv := s.fth.saved
  let lo := b * 2 ^ 19
  let shared := sv.shared.foldl (fun m e => cellPut m e.1 e.2) (cellClear s.mem.shared lo (2 ^ 19))
  let s := { s with mem := { s.mem with shared := shared }, fth := { s.fth with saved := {} } }
  sv.thrs.foldl (fun s e =>
    let th := s.thread e.1
    s.setThread e.1 { th with refs := e.2.1 ++ th.refs, msgs := e.2.2.1 ++ th.msgs, watches := e.2.2.2 ++ th.watches }) s

/-! ### The rotation (R856, R857) -/

/-- The next basin in rotation. -/
def State.nextTest (s : State) : Nat := s.fth.early.headD s.fth.nextBasin

/-- The next basin's turn is taken. -/
def State.takeTurn (s : State) : State :=
  let f := match s.fth.early with
    | _ :: rest => { s.fth with early := rest }
    | [] => { s.fth with nextBasin := (s.fth.nextBasin + 1) % 12 }
  let s := { s with fth := f }
  s.wr Reg.FTH_ST_STATUS_NEXT s.nextTest

/-- An in-service test of the basin may start (R857, R161). -/
def State.testAllowed (s : State) (b : Nat) : Bool :=
  s.switchAllowed && !s.on Reg.PWR_STATUS_FLOOR_BREACH 0 0 && s.inService b && !s.on Reg.FTH_ST_STATUS_RUNNING 0 0

/-- Step 1 of Sequence 22.1: the basin goes out with map 1 + b. -/
def State.testBegin (s : State) (b : Nat) : State :=
  let s := s.setAll [(Reg.FTH_ST_STATUS_RUNNING, 0, 0, 1), (Reg.FTH_ST_STATUS_REGION, 0, 0, b), (Reg.FTH_ST_STATUS_STEP, 0, 0, 1)]
  s.switchBegin (1 + b) b 1

/-- SCHEDULED_TEST_START: the next basin's test, or its deferral (R856, R857). -/
def scheduledTestStart (s : State) (now : Nat) : State :=
  let s := s.upTo now
  let due := s.fth.testAt + s.testPeriod / 12
  if !s.imageRuns || s.testPeriod = 0 || s.now < due then s
  else
    let s := { s with fth := { s.fth with testAt := due } }
    let b := s.nextTest
    if s.on Reg.FTH_ST_STATUS_DEFERRED 0 0 then s
    else if s.testAllowed b then s.takeTurn.testBegin b
    else s.wr Reg.FTH_ST_STATUS_DEFERRED 1

/-- DEFERRED_TEST_START (R857). -/
def deferredTestStart (s : State) (now : Nat) : State :=
  let s := s.upTo now
  let b := s.nextTest
  if s.on Reg.FTH_ST_STATUS_DEFERRED 0 0 && s.testAllowed b then
    (s.wr Reg.FTH_ST_STATUS_DEFERRED 0).takeTurn.testBegin b
  else s

/-! ### Ends and outcomes -/

/-- The result of a region's last test. -/
def State.testResult (s : State) (r outcome fail : Nat) (mem helper : Bool) : State :=
  s.setAll [(Reg.FTH_ST_RESULT_OUTCOME, r, 0, outcome), (Reg.FTH_ST_RESULT_HELPER, r, 0, flagBit helper),
            (Reg.FTH_ST_RESULT_FAIL, r, 0, fail), (Reg.FTH_ST_RESULT_MEM, r, 0, flagBit mem)]

/-- A test ends: TEST_DONE, and TEST_FAIL for any outcome but PASS (Table 22.12). -/
def State.testEnds (s : State) : State :=
  let r := s.rd Reg.FTH_ST_STATUS_REGION
  let o := s.fld Reg.FTH_ST_RESULT_OUTCOME r 0
  let s := s.setAll [(Reg.FTH_ST_STATUS_RUNNING, 0, 0, 0), (Reg.FTH_ST_STATUS_REGION, 0, 0, 0), (Reg.FTH_ST_STATUS_STEP, 0, 0, 0)]
  let s := s.eventSup Reg.FTH_ST_INT_STATUS_TEST_DONE Reg.FTH_ST_INT_EN_EN
  if o = 1 then s else s.eventSup Reg.FTH_ST_INT_STATUS_TEST_FAIL Reg.FTH_ST_INT_EN_EN

/-- The safe state (R865): islands 0 to 10 and the fabric in reset, every FCO pin asserted, until the next device reset. -/
def State.safeState (s : State) : State :=
  let s := { s with boot := { s.boot with held := true, stage := 4, safe := true }, fth := { s.fth with saved := {} } }
  (s.fabricReset.setAll [(Reg.XNG_STATUS_CLK_OK, 0, 0, 0x1800), (Reg.XNG_STATUS_IN_RESET, 0, 0, 0x07FF),
    (Reg.FTH_STATUS_DEGRADED, 0, 0, 1), (Reg.FTH_ST_STATUS_RUNNING, 0, 0, 0), (Reg.FTH_ST_STATUS_REGION, 0, 0, 0),
    (Reg.FTH_ST_STATUS_STEP, 0, 0, 0)]).fcoAssert

/-- What the test repaired, as KIND, unit, old and new: SRAM rows (8) and table banks (9) by its own spares (R861, R870); a
sector of the Wellstore whose read-back differed (10) by the next spare sector (R867). -/
def State.repaired (s : State) (l : List (Nat × BitVec 16 × W32 × W32)) : State :=
  l.foldl (fun s e =>
    if e.1 = 8 || e.1 = 9 then
      (s.noteRsv e.1 1 e.2.1.toNat e.2.2.1.toNat e.2.2.2.toNat).eventSup Reg.FTH_ST_INT_STATUS_SPARE_IN Reg.FTH_ST_INT_EN_EN
    else if e.1 = 10 then s.sectorFails (e.2.1.toNat % 4096)
    else s) s

/-- A failure's fault-log entry (R864, R848): the outcome, the region, the failing parts. -/
def State.logTest (s : State) (outcome r fail mem : Nat) : State := s.logFault 4 outcome [r, fail, mem]

/-- A basin is held in reset until the next device reset (Table 22.4, R293). -/
def State.holdBasin (s : State) (b : Nat) : State :=
  let s := { s with fth := { s.fth with heldRegions := s.fth.heldRegions ++ [b] } }
  let s := (s.setFld Reg.BSN_BASIN_WHY b 0 5).wr Reg.BSN_STATUS_OUT (setBits (s.rd Reg.BSN_STATUS_OUT) b 1 1)
  ((s.setPerm b).noteRsv 11 1 b b 0xFFFFFFFF).showDegraded

/-- A basin goes out for want of a spare (R293). -/
def State.noSpare (s : State) : State := s.eventSup Reg.BSN_INT_STATUS_NO_SPARE Reg.BSN_INT_EN_NO_SPARE

/-- Table 22.4 for a basin: the outcome, and the state after it. `fail` names the physical engines that failed, `shared` a
failure of a shared part. -/
def State.basinOutcome (s : State) (b fail : Nat) (shared : Bool) : Nat × State :=
  let bad := (basinEngines b).filter fun e => bitOf fail (s.fld Reg.BSN_ENG_PHYS e 0 - 17 * b)
  let spare := s.fld Reg.BSN_BASIN_SPARE b 0
  let spareBad := s.hasSpare b && bitOf fail spare
  match shared, bad with
  | false, [] =>
    if spareBad then
      (1, ((s.setFld Reg.BSN_BASIN_SPARE b 0 0x1F).noteRsv 2 1 b (17 * b + spare) 0xFFFFFFFF).logTest 1 b fail 0)
    else (1, s)
  | false, [e] =>
    if s.hasSpare b && !spareBad then (2, (s.takeSpare e 1).logTest 2 b fail 0)
    else (3, ((s.holdBasin b).noSpare).logTest 3 b fail 0)
  | false, _ => (3, ((s.holdBasin b).noSpare).logTest 3 b fail 0)
  | true, _ => (3, (s.holdBasin b).logTest 3 b fail 1)

/-- The engines of a basin whose test-mode speed is at least 10 % below the median of its engines, the median of sixteen being
the mean of the middle two (Table 22.6; DESIGN CHOICE, log entry 193). `speeds` lists the physical engines; none where the
test took no speeds. -/
def State.slowEngines (s : State) (b : Nat) (speeds : List Nat) : List Nat :=
  let v (e : Nat) : Nat := speeds.getD (s.fld Reg.BSN_ENG_PHYS e 0 - 17 * b) 0
  let sorted := ((basinEngines b).map v).mergeSort
  if speeds.isEmpty then []
  else (basinEngines b).filter fun e => 20 * v e ≤ 9 * (sorted.getD 7 0 + sorted.getD 8 0)

/-- The planned substitution at a basin's test: an engine with 16 errors in 24 h, or a slow one (R288, R860, Table 22.6). -/
def State.wearSwap (s : State) (b : Nat) (speeds : List Nat) : State :=
  let slow := s.slowEngines b speeds
  match (basinEngines b).find? fun e => 16 ≤ s.eccDay e || slow.contains e with
  | none => s
  | some e => if s.hasSpare b then s.takeSpare e (if 16 ≤ s.eccDay e then 2 else 4) else s

/-- The helpers of a basin whose test failed become FAILED (R434): bit 0 crypto, bit 1 check. -/
def State.helpersFailed (s : State) (b : Nat) (helper : BitVec 2) : State :=
  let s := if helper.toNat % 2 = 1 then s.hlpPowerUp b 0 false else s
  let s := if helper.toNat / 2 = 1 then s.hlpPowerUp b 1 false else s
  if helper = 0 then s else (s.logTest 1 b 0 0).showDegraded

/-- Table 22.4 for the control engines; true where the safe state follows. -/
def State.ceOutcome (s : State) (fail : Nat) : Nat × Bool × State :=
  let bad := (List.range 8).filter fun c => bitOf fail c
  if bad.isEmpty then (1, false, s)
  else
    let s := bad.foldl (fun (s : State) c =>
      let s := { s with fth := { s.fth with heldRegions := s.fth.heldRegions ++ [16 + c] } }
      (s.setCe c { s.ce c with state := 2 }).noteRsv 12 1 c c 0xFFFFFFFF) s
    (3, decide (8 - bad.length < s.ceMin), (s.showDegraded).logTest 3 12 fail 0)

/-- Table 22.4 for SerDes slices: a spare takes the lane of a failing slice; a failing spare is marked; with no spare the lane
stays down (R745). -/
def State.sliceOutcome (s : State) (sl : Nat) : State :=
  let q := sl / 9
  if sl % 9 = 8 then
    if s.on Reg.EDG_QUAD_SPARE_FAILED q 0 || s.on Reg.EDG_QUAD_SPARE_USED q 0 then s
    else ((s.setFld Reg.EDG_QUAD_SPARE_FAILED q 0 1).noteRsv 4 1 q sl 0xFFFFFFFF).wr Reg.EDG_STATUS_SPARES
      (setBits (s.rd Reg.EDG_STATUS_SPARES) q 1 0)
  else
    match (List.range 32).find? fun l => s.fld Reg.EDG_LANE_SLICE l 0 == sl with
    | none => s
    | some l =>
      if s.spareFree q then
        let s := s.setAll [(Reg.EDG_LANE_SLICE, l, 0, 9 * q + 8), (Reg.EDG_QUAD_SPARE_USED, q, 0, 1), (Reg.EDG_QUAD_LANE, q, 0, l),
                           (Reg.EDG_STATUS_SPARES, 0, 0, setBits (s.rd Reg.EDG_STATUS_SPARES) q 1 0)]
        (s.noteRsv 3 1 l sl (9 * q + 8)).logTest 2 14 sl 0
      else (s.laneFails l).logTest 3 14 sl 0

/-- The end of a control-engine test: its outcome, and the safe state where too few remain. -/
def State.ceTestEnds (s : State) (fail : Nat) (mem : Bool) : State :=
  match s.ceOutcome fail with
  | (o, safe, s) =>
    let s := (s.testResult 12 o fail mem false).testEnds
    if safe then s.safeState else s

/-- The end of a basin's test: the outcome is acted on, the save set restored, and the basin returns or stays out. -/
def State.basinTestEnds (s : State) (b fail : Nat) (mem shared : Bool) (helper : BitVec 2) (speeds : List Nat) : State :=
  let held := s.fth.heldRegions.any fun x => x < 12 && x != b
  match s.basinOutcome b fail shared with
  | (o, s) =>
    let s := (s.testResult b o fail mem (helper != 0)).restoreBasin b
    let s := if o = 3 then s else (s.wearSwap b speeds).helpersFailed b helper
    if o = 3 && held then s.safeState
    else if o = 3 || !s.imageRuns then s.testEnds
    else (s.wr Reg.FTH_ST_STATUS_STEP 7).switchBegin s.returnMap 16 0

/-- BIST_COMPLETE (Sequence 22.1, steps 5 to 7). A region that fails its logic test with no part named fails as a whole: every
control engine, or what a basin's engines share (DESIGN CHOICE, log entry 192). -/
def bistComplete (s : State) (now fail : Nat) (mem loadOk : Bool) (helper : BitVec 2)
    (repairs : List (Nat × BitVec 16 × W32 × W32)) (scan : Option (List (BitVec 64))) (speeds : List Nat) : State :=
  let s := s.upTo now
  if !s.on Reg.FTH_ST_STATUS_RUNNING 0 0 || s.rd Reg.FTH_ST_STATUS_STEP ≠ 4 then s
  else
    let r := s.rd Reg.FTH_ST_STATUS_REGION
    match (s.repaired repairs).scanEnd r scan with
    | (pass, s) =>
      if r = 12 then s.ceTestEnds (if !pass && fail % 256 = 0 then 255 else fail % 256) mem
      else s.basinTestEnds r fail mem (mem || !loadOk || (!pass && fail = 0)) helper speeds

/-- A running test ends at the next step boundary: ABORTED, the save set restored, the basin returned (R862). While the
basin is still going out, it returns as soon as it is out. -/
def State.testAbort (s : State) : State :=
  if !s.on Reg.FTH_ST_STATUS_RUNNING 0 0 then s
  else
    let r := s.rd Reg.FTH_ST_STATUS_REGION
    let step := s.rd Reg.FTH_ST_STATUS_STEP
    if step = 7 then s
    else
      let s := (s.testResult r 4 0 false false).wr Reg.FTH_ST_STATUS_STEP 7
      if step = 1 then s
      else if !s.imageRuns then s.testEnds
      else (s.restoreBasin r).switchBegin s.returnMap 16 0

/-! ### FTH_ST_CMD (R854, R855, Table 22.12) -/

/-- A command reaches FTH_ST_CMD: DENIED without the supervisor right (R849). -/
def State.stCommand (s : State) (p : Nat) (f : State → Nat × State) : State :=
  if !s.pageOk p 14 then s
  else if !s.isSup p then s.wr Reg.FTH_ST_CMD_RESULT stDenied
  else
    let r := f s
    r.2.wr Reg.FTH_ST_CMD_RESULT r.1

/-- The life-cycle state's answer to a test command (R854). -/
def State.testLc (s : State) : Nat := if s.fth.lc = 2 then stDenied else if s.fth.lc = 4 then stInvalid else stOk

/-- REGION: a basin in service is tested by Sequence 22.1; under the fallback bridge, which uses no basin and no control
engine, their tests start at once. Regions that cannot be isolated are INVALID. -/
def fthStRegion (s : State) (p region : Nat) : State :=
  s.stCommand p fun s =>
    let s := s.wr Reg.FTH_ST_CMD_REGION region
    if s.testLc ≠ stOk then (s.testLc, s)
    else if s.on Reg.FTH_ST_STATUS_RUNNING 0 0 then (stBusy, s)
    else if s.imageRuns then
      if 12 ≤ region then (stInvalid, s)
      else if s.testAllowed region then (stOk, s.testBegin region)
      else (stBusy, s)
    else if 13 ≤ region then (stInvalid, s)
    else
      (stOk, (s.scanBegin region).setAll [(Reg.FTH_ST_STATUS_RUNNING, 0, 0, 1), (Reg.FTH_ST_STATUS_REGION, 0, 0, region),
                       (Reg.FTH_ST_STATUS_STEP, 0, 0, 4)])

/-- FULL: a device reset whose boot makes the full test (R855). XNG_RESET_CAUSE has no code
for it: a free value. -/
def fthStFull (s : State) (p : Nat) : State :=
  s.stCommand p fun s =>
    if s.testLc ≠ stOk then (s.testLc, s)
    else if s.on Reg.FTH_ST_STATUS_RUNNING 0 0 then (stBusy, s)
    else
      let (v, s) := s.free
      let s := s.deviceReset (v.toNat % 16) (flagBit s.boot.railsOk) s.inflight
      (stOk, { s with boot := { s.boot with fullTest := true } })

/-- ABORT: the running test ends by R862; DOUBLE with no test. -/
def fthStAbort (s : State) (p : Nat) : State :=
  s.stCommand p fun s =>
    if !s.on Reg.FTH_ST_STATUS_RUNNING 0 0 then (stDouble, s) else (stOk, s.testAbort)

end Sys2Proof.Machine
end

