-- ==== Sys2Proof/Machine/Replay.lean ====
section
/-! DEFINITION. The Reflecting Pool's commands, export, and replay in a quarantined basin (R879 to R886, R893, R894,
Sequence 23.1, Tables 23.1 to 23.3). -/

namespace Sys2Proof.Machine

/-! ### Records as a session reads them (Tables 2.1, 23.1 and 23.2) -/

/-- n bytes of a record from an offset, as a number. -/
def recNum (bs : List Byte) (off n : Nat) : Nat := leNat ((bs.drop off).take n)

/-- The droplet that 64 bytes spell (Table 2.1). -/
def dropletOf (bs : List Byte) : Droplet :=
  let w := fun (n : Nat) => recNum bs (4 * n) 4
  let f := fun (n : Nat) => bitOf (w 12) (16 + n)
  { seq := bits (w 0) 0 24, oclass := bits (w 0) 24 2, pass := bits (w 0) 26 2
    domain := bits (w 1) 0 16, version := bits (w 1) 16 16
    arrival := w 2 + w 3 * 2 ^ 32, hash := w 4
    bucket := bits (w 5) 0 12, tsdom := bits (w 5) 12 2, thread := bits (w 5) 16 11
    inPort := bits (w 6) 0 8, len := bits (w 6) 8 14
    head := bits (w 7) 0 24, body := bits (w 8) 0 24, bodyPool := bits (w 8) 24 8
    srcEp := bits (w 9) 0 16, parse := bits (w 9) 16 8
    egress := bits (w 10) 0 16, dryReason := bits (w 10) 16 8, colour := bits (w 10) 24 2
    stream := bits (w 11) 0 13, frerSeq := bits (w 11) 16 16, copy := bits (w 12) 0 8
    epValid := f 0, record := f 1, recirc := f 2, nobody := f 3, macsecOk := f 4, ptp := f 5, express := f 6, learn := f 7
    frerTag := f 8, host := f 9
    prog0 := BitVec.ofNat 32 (w 14), prog1 := BitVec.ofNat 32 (w 15) }

/-- An END record, with the droplet's domain and SEQ. -/
def endOf (r : RplRec) : Nat × Nat × EndRec :=
  let b := r.bytes.drop 16
  (recNum b 0 2, recNum b 4 4,
    { index := r.index, outcome := recNum b 3 1, reason := recNum b 8 1, status := recNum b 9 1, egress := recNum b 10 2
      crc := recNum b 12 4 })

/-- The seven entries of a DECISION record. -/
def entriesOf (r : RplRec) : List DecEnt :=
  (List.range 7).map fun n =>
    let b := r.bytes.drop (16 + 16 * n)
    { kind := recNum b 0 1, status := recNum b 1 1, thread := recNum b 2 2, obj := recNum b 4 2, value := recNum b 8 8 }

/-- The records FIRST to FIRST + COUNT − 1 of the ring, if it holds them all. -/
def State.selected (s : State) : Option (List RplRec) :=
  let n := s.rd Reg.RPL_EXP_COUNT_COUNT
  match s.rpl.ring with
  | [] => if n = 0 then some [] else none
  | r :: rs =>
    let off := (s.rd Reg.RPL_EXP_FIRST_INDEX + 2 ^ 32 - r.index) % 2 ^ 32
    if off + n ≤ (r :: rs).length then some (((r :: rs).drop off).take n) else none

/-! ### Commands (R894, Table 23.7) -/

def State.rplReach (s : State) (p : Nat) : Bool := s.pageOk p 15 && s.isSup p

def State.rplResult (s : State) (st : Nat) : State := s.wr Reg.RPL_CMD_RESULT st

/-- RPL_TRIGGER (R879). -/
def rplTrigger (s : State) (p : Nat) : State :=
  if !s.rplReach p then s
  else
    let r := s.startPost 6
    r.2.rplResult (if r.1 then stOk else stDouble)

/-- RPL_FREEZE (R880). -/
def rplFreeze (s : State) (p : Nat) : State :=
  if !s.rplReach p then s
  else
    let r := s.freeze 3
    r.2.rplResult (if r.1 then stOk else stDouble)

/-- RPL_RELEASE (R881): the ring is empty, INDEX is 0 and recording starts again. -/
def rplRelease (s : State) (p : Nat) : State :=
  if !s.rplReach p then s
  else if !s.on Reg.RPL_STATUS_FROZEN 0 0 then s.rplResult stDouble
  else if s.rpl.exp.isSome || s.rpl.replay.isSome then s.rplResult stBusy
  else
    let s := { s with rpl := { s.rpl with
      ring := [], next := 0, held := 0, wpos := 0, dec := [], lost := 0, inexact := false, marked := 0, post := none } }
    (s.setAll [(Reg.RPL_STATUS_FROZEN, 0, 0, 0), (Reg.RPL_STATUS_FREEZE_CAUSE, 0, 0, 0), (Reg.RPL_STATUS_RECORDING, 0, 0, 1),
      (Reg.RPL_RING_FIRST_INDEX, 0, 0, 0), (Reg.RPL_RING_NEXT_INDEX, 0, 0, 0)]).rplResult stOk

/-! ### Export (R882, R846, R847, Table 21.10) -/

/-- Batches of at most 1 MiB of whole records, as first record and count. -/
def batchesOf : List RplRec → Nat → Nat → Nat → List (Nat × Nat)
  | [], first, n, _ => if n = 0 then [] else [(first, n)]
  | r :: rs, first, n, size =>
    if n = 0 then batchesOf rs r.index 1 r.bytes.length
    else if 1048576 < size + r.bytes.length then (first, n) :: batchesOf rs r.index 1 r.bytes.length
    else batchesOf rs first (n + 1) (size + r.bytes.length)

/-- The bytes of a batch. -/
def State.batchBytes (s : State) (first n : Nat) : List Byte :=
  ((s.rpl.ring.filter fun r => (r.index + 2 ^ 32 - first) % 2 ^ 32 < n).map fun r => r.bytes).flatten

/-- The next batch is written into the export area, behind the last trailer. -/
def State.writeBatch (s : State) (batches : List (Nat × Nat)) (off : Nat) : State :=
  match batches with
  | [] =>
    let s := { s with rpl := { s.rpl with exp := none } }
    (s.wr Reg.RPL_CMD_PENDING 0).rplEvent 2
  | (first, n) :: _ =>
    let bs := s.batchBytes first n
    let a := s.rd Reg.RPL_BASES_EXP * 1048576 + off
    let s := (s.ipdWrite a bs).ipdReqs a bs.length true clsBulk
    { s with rpl := { s.rpl with exp := some (batches, off + bs.length) } }

/-- RPL_EXPORT. A batch list that the export area cannot hold is a range that cannot be exported: INVALID. -/
def rplExport (s : State) (p : Nat) : State :=
  if !s.rplReach p then s
  else if !s.on Reg.RPL_STATUS_FROZEN 0 0 || s.rpl.exp.isSome || s.rpl.replay.isSome then s.rplResult stBusy
  else
    match s.selected with
    | none => s.rplResult stInvalid
    | some rs =>
      let batches := batchesOf rs 0 0 0
      let size := rs.foldl (fun n r => n + r.bytes.length) 0 + 3437 * batches.length
      if s.rd Reg.RPL_CFG_EXP_MIB * 1048576 < size then s.rplResult stInvalid
      else if s.fth.lc = 0 || s.fth.lc = 4 then s.rplResult stLost
      else ((s.rplResult stOk).wr Reg.RPL_CMD_PENDING 1).writeBatch batches 0

/-- The trailer of a batch (Table 21.10). -/
def State.trailer (s : State) (seed : List Byte) (n : Nat) (batch : List Byte) : List Byte :=
  let head := [0x43, 0x4C, 0x52, 0x52] ++ leBytes 4 (s.fth.exportSeq + 1) ++ s.deviceId ++ leBytes 4 s.fth.bootCount ++ leBytes 4 n ++
    shake256 batch ++ List.replicate 32 0
  head ++ takeBytes 3309 (Config.mlDsaSign seed head (ascii "CLR192-RPL"))

/-- EXPORT_TRAILER_SIGNED: the trailer follows its batch, and the next batch begins; after the last, EXPORT_DONE. -/
def exportTrailerSigned (s : State) : State :=
  match s.rpl.exp, s.fth.seed with
  | some ((first, n) :: rest, off), some seed =>
    let t := s.trailer seed n (s.batchBytes first n)
    let a := s.rd Reg.RPL_BASES_EXP * 1048576 + off
    let s := (s.ipdWrite a t).ipdReqs a t.length true clsBulk
    { s with fth := { s.fth with exportSeq := s.fth.exportSeq + 1 } }.writeBatch rest (off + t.length)
  | _, _ => s

/-! ### A session (Sequence 23.1) -/

/-- Step 1: pins every version; the status, LOST where one is not live (R194). -/
def State.pinAll : State → List Nat → Nat × State
  | s, [] => (stOk, s)
  | s, v :: vs =>
    match s.pinVersion v with
    | (st, s) =>
      if st ≠ stOk then (st, s)
      else
        match s.pinAll vs with
        | (st, s) => if st = stOk then (stOk, s) else (st, (s.unpinVersion v).2)

/-- The pins of a session are given back. -/
def State.unpinAll (s : State) (vs : List Nat) : State := vs.foldl (fun (s : State) v => (s.unpinVersion v).2) s

/-- The replayed droplets of the selected records: the marked droplets of SRC, each with its END record. -/
def replayedOf (ring sel : List RplRec) (basin src : Nat) : List Replayed :=
  let ends := (ring.filter fun r => r.kind == 2).map endOf
  (sel.filter fun r => r.kind == 1).filterMap fun r =>
    let d := dropletOf ((r.bytes.drop 16).take 64)
    if d.thread / 128 ≠ src then none
    else
      let t := basin * 128 + d.thread % 128
      let e := ends.find? fun e => e.1 == d.domain && e.2.1 == d.seq && (e.2.2.index + 2 ^ 32 - r.index) % 2 ^ 32 < 2 ^ 31
      some { admitIx := r.index, thread := t, d := d, win := ((r.bytes.drop 96).take 256).take d.len, end_ := e.map fun x => x.2.2 }

/-- The decision entries of SRC's threads in the selected records, by the thread that receives them. -/
def logsOf (sel : List RplRec) (basin src : Nat) : SMap (List DecEnt) :=
  let es := ((sel.filter fun r => r.kind == 3).map entriesOf).flatten
  es.foldl (fun m e =>
    if e.kind = 0 || e.kind = 9 || e.thread / 128 ≠ src then m
    else
      let t := basin * 128 + e.thread % 128
      SMap.put m t (SMap.get m t [] ++ [e]) []) []

/-- RPL_REPLAY (R883, R894). -/
def rplReplay (s : State) (p : Nat) : State :=
  if !s.rplReach p then s
  else if !s.on Reg.RPL_STATUS_FROZEN 0 0 || s.rpl.replay.isSome || s.rpl.exp.isSome then s.rplResult stBusy
  else
    let b := s.rd Reg.RPL_RPY_CFG_BASIN
    let src := s.rd Reg.RPL_RPY_CFG_SRC
    match s.selected with
    | none => s.rplResult stInvalid
    | some sel =>
      if 12 ≤ b || 12 ≤ src then s.rplResult stInvalid
      else if !s.switchAllowed || !s.inService b then s.rplResult stRetry
      else
        let versions := ((sel.filter fun r => r.kind == 1).map fun r => (dropletOf ((r.bytes.drop 16).take 64)).version).eraseDups
        match s.pinAll versions with
        | (st, s) =>
          if st ≠ stOk then s.rplResult st
          else
            let inexact := sel.any fun r => bitOf (recNum r.bytes 1 1) 0
            let r : Session := { basin := b, src := src, versions := versions, feed := replayedOf s.rpl.ring sel b src
                                 log := logsOf sel b src }
            let s := { s with rpl := { s.rpl with replay := some r } }
            let s := s.setAll [(Reg.RPL_STATUS_REPLAY, 0, 0, 1), (Reg.RPL_STATUS_DIVERGED, 0, 0, 0), (Reg.RPL_CMD_PENDING, 0, 0, 1),
              (Reg.RPL_RPY_STAT_DONE, 0, 0, 0), (Reg.RPL_RPY_STAT_INEXACT, 0, 0, flagBit inexact)]
            (s.rplResult stOk).switchBegin (1 + b) b 2

def State.setSession (s : State) (r : Session) : State := { s with rpl := { s.rpl with replay := some r } }

/-- RPL_ABORT: the session ends at step 5, once its basin is out; DOUBLE with no session to end. -/
def rplAbort (s : State) (p : Nat) : State :=
  if !s.rplReach p then s
  else
    match s.rpl.replay with
    | none => s.rplResult stDouble
    | some r =>
      if r.step = 2 then (s.setSession { r with step := 3 }).rplResult stOk
      else if r.step = 4 then (s.setSession { r with step := 6 }).rplResult stOk
      else s.rplResult stDouble

/-- Steps 2 and 3, once the basin is out: its save set is kept, and its threads start on SRC's program. -/
def State.sessionStart (s : State) (r : Session) : State :=
  let s := s.saveBasin r.basin false
  (s.setSession { r with step := 4 }).basinStart r.basin

/-- Step 5 up to the switch back. -/
def State.sessionReturn (s : State) (r : Session) : State :=
  let s := s.basinStop r.basin 1
  let s := (s.flushBasin r.basin).restoreBasin r.basin
  (s.setSession { r with step := 5, feed := [], slots := [], recs := [], windows := [], log := [] }).switchBegin s.returnMap 16 0

/-- Step 5 ends: the basin is back, the pins are given back, REPLAY_DONE is raised. -/
def State.sessionDone (s : State) (r : Session) : State :=
  let s := { s with rpl := { s.rpl with replay := none } }.unpinAll r.versions
  (s.setAll [(Reg.RPL_STATUS_REPLAY, 0, 0, 0), (Reg.RPL_CMD_PENDING, 0, 0, 0)]).rplEvent 3

/-- REPLAY_END: every selected droplet has completed, or the session has diverged or been aborted (R886). -/
def replayEnd (s : State) : State :=
  match s.rpl.replay with
  | none => s
  | some r =>
    if s.weir.switching.isSome then s
    else if r.step = 6 || (r.step = 4 && r.feed.isEmpty && r.slots.isEmpty) then s.sessionReturn r
    else s

/-! ### The replay store (R884) -/

/-- The thread runs in the quarantined basin of a session. -/
def State.replays (s : State) (t : Nat) : Bool :=
  s.rpl.replay.any fun r => (r.step == 4 || r.step == 6) && t < 1536 && t / 128 == r.basin

/-- The first-look key of a recorded droplet, from its window. -/
def State.flkOfWindow (s : State) (d : Droplet) (bs : List Byte) : List Byte :=
  if 0x30 ≤ d.inPort && d.inPort < 0x40 then canFlk (beNat ((bs.drop 0).take 4) % 2 ^ 31) (d.inPort - 0x30)
  else if 0x40 ≤ d.inPort && d.inPort < 0x50 then eventFlk d.inPort
  else (s.look bs).flk bs

/-- The replay store hands the next droplet in ADMIT order to its thread, which holds fewer than 4; the store has room for
4,096. -/
def State.replayHand (s : State) (r : Session) (t : Nat) : State :=
  match r.feed with
  | [] => s
  | x :: rest =>
    let held := (r.slots.filter fun e => e.2.holder == some t).length
    if r.step ≠ 4 || x.thread ≠ t || 4 ≤ held || 4096 ≤ r.slots.length || 5 ≤ (s.thread t).state then s
    else
      let i := freeIndex r.slots 0
      let d := { x.d with head := i }
      let sl : Slot := { d := d, st := 2, holder := some t, handed := s.weir.handCtr, flk := s.flkOfWindow x.d x.win }
      let look : State := { s with mem := { s.mem with staging := SMap.put [] i x.win [] } }
      let len := if d.pass = 0 then d.len else x.win.length + d.bodyLen
      let w := look.walkOf { d with bodyPool := 0, len := len } true
      let a := s.classify d.version w.key d.inPort
      let w2 := if w.outcome = 0 then entryWord a 2 else 0
      let sl := { sl with prec := { layers := w.layers, endPos := w.pos, outcome := w.outcome, key := w.key, param := bits w2 0 13
                                    paramValid := bitOf w2 13 } }
      let r := { r with feed := rest, slots := SMap.set r.slots i sl, recs := SMap.set r.recs i x
                        windows := SMap.put r.windows i x.win [] }
      ({ s.setSession r with weir := { s.weir with handCtr := s.weir.handCtr + 1 } }).setEvent t evDroplet

/-- An operation sees the replay store in place of the Weir and of staging. -/
def State.inStore (s : State) (r : Session) (f : State → Trig) : Trig :=
  let v := f { s with weir := { s.weir with slots := r.slots, gens := [] }, mem := { s.mem with staging := r.windows } }
  let s' := v.1
  let r' := { r with slots := s'.weir.slots, windows := s'.mem.staging }
  ({ s' with weir := { s'.weir with slots := s.weir.slots, gens := s.weir.gens }
             mem := { s'.mem with staging := s.mem.staging } }.setSession r', v.2)

/-- The session diverges at a record (R886). -/
def State.diverge (s : State) (index : Nat) : State :=
  match s.rpl.replay with
  | none => s
  | some r =>
    ((s.setSession { r with step := 6 }).setAll
      [(Reg.RPL_STATUS_DIVERGED, 0, 0, 1), (Reg.RPL_RPY_DIV_INDEX, 0, 0, index)]).rplEvent 4

/-- The ADMIT record of a droplet that the thread holds. -/
def Session.admitOf (r : Session) (t : Nat) : Nat :=
  match r.slots.find? fun e => e.2.holder == some t with
  | none => 0
  | some e => (SMap.get r.recs e.1 {}).admitIx

/-- Takes the first entry of a kind and object out of a log. -/
def logEntry (kind obj : Nat) : List DecEnt → Option (DecEnt × List DecEnt)
  | [] => none
  | e :: es =>
    if e.kind = kind && e.obj = obj then some (e, es)
    else (logEntry kind obj es).map fun x => (x.1, e :: x.2)

/-- An operation is served from the log (R885); without a further entry the session diverges (R886). -/
def State.fromLog (s : State) (r : Session) (t kind obj : Nat) (f : State → DecEnt → State) : Trig :=
  match logEntry kind obj (SMap.get r.log t []) with
  | none => (s.diverge (r.admitOf t), 0)
  | some (e, rest) => (f (s.setSession { r with log := SMap.put r.log t rest [] }) e, 0)

/-- The words of a logged value. -/
def DecEnt.lo (e : DecEnt) : W32 := BitVec.ofNat 32 e.value
def DecEnt.hi (e : DecEnt) : W32 := BitVec.ofNat 32 (e.value / 2 ^ 32)

/-- The result ports of a tl operation. -/
def tablePorts (p : Nat) (e : DecEnt) : List (Nat × W32) :=
  if p = 0x292 then [(0x285, e.lo)]
  else if p < 0x2A0 then [(0x283, e.lo), (0x284, e.hi)]
  else if p = 0x2B2 then [(0x2A6, e.lo)]
  else [(0x2A4, e.lo), (0x2A5, e.hi)]

/-- The completion answers as the END record shows, and is compared with it: kind, EGRESS, reason, and the window's CRC of a
packet that the record holds whole (R884, R886). -/
def State.replayEndOf (s : State) (r : Session) (t h : Nat) (sent : Bool) (egress reason : Nat) : State :=
  match SMap.find r.slots h with
  | none => s.startOp t uWc [] stInvalid
  | some sl =>
    if sl.holder ≠ some t then s.startOp t uWc [] stDenied
    else
      let x := SMap.get r.recs h {}
      let win := SMap.get r.windows h []
      let r' := { r with slots := SMap.erase r.slots h, recs := SMap.erase r.recs h, windows := SMap.erase r.windows h }
      let s := (s.setSession r').bumpFld Reg.RPL_RPY_STAT_DONE 0 0 1
      let left := (r'.slots.filter fun e => e.2.holder == some t).length
      let answer (s : State) (st : Nat) : State := s.startOp t uWc [(0x424, BitVec.ofNat 32 left)] st
      match x.end_ with
      | none => answer s stOk
      | some e =>
        let same := if sent then e.outcome == 1 && e.egress == egress else e.outcome == 2 && e.reason == reason
        let crc := x.win.length != x.d.len || e.crc == crc32c win
        let s := answer s e.status
        if e.status ≠ stOk || (same && crc) then s else s.diverge e.index

/-- A trigger of a replayed thread: the packet and the droplet come from the replay store, the events of Table 23.2 from the
log, and stores, flow writes, atomics and puts go nowhere (R884, R885). Everything else runs for real. -/
def State.replayTrig (s : State) (r : Session) (t p x : Nat) (f : State → Trig) : Trig :=
  let u := if 0x200 ≤ p && p < 0x240 then uPw else if 0x240 ≤ p && p < 0x280 then uDl
    else if 0x280 ≤ p && p < 0x2A0 then uTl else if 0x2A0 ≤ p && p < 0x300 then uFlow
    else if 0x380 ≤ p && p < 0x3A0 then uAt else 32
  let real := f s
  if real.2 ≠ 0 then real
  else if r.step = 6 then (s, 0)
  else if u = uPw then
    let i := s.opnd t 0x200
    let n := SMap.get r.windows i []
    let d := (SMap.get r.recs i {}).d
    let size := if p = 0x210 || p = 0x214 then 1 else if p = 0x211 || p = 0x215 then 2 else 4
    let mine := (SMap.find r.slots i).any fun (sl : Slot) => sl.holder == some t
    if mine && p < 0x218 && n.length < x % 2 ^ 15 + size && x % 2 ^ 15 + size ≤ n.length + d.bodyLen then
      (s.startOp t uPw [] stLost, 0)
    else s.inStore r f
  else if p = 0x250 && x % 16 = 7 then
    match SMap.find r.slots (s.opnd t 0x240) with
    | some sl =>
      if sl.holder = some t then
        (s.startOp t uDl [(0x242, BitVec.ofNat 32 (SMap.get r.recs (s.opnd t 0x240) {}).d.head)] stOk, 0)
      else s.inStore r f
    | none => s.inStore r f
  else if u = uDl then s.inStore r f
  else if p = 0x430 then s.inStore r f
  else if p = 0x431 then
    let e := s.opnd t 0x420 % 65536
    (s.replayEndOf r t x (s.egressOk e) e dryProgramDrop, 0)
  else if p = 0x432 then (s.replayEndOf r t x false 0 (programReason (s.opnd t 0x421 % 256)), 0)
  else if p = 0x433 then
    match SMap.find r.slots x with
    | some sl =>
      if sl.holder ≠ some t then (s.startOp t uWc [] stDenied, 0)
      else
        let r := { r with slots := SMap.erase r.slots x, recs := SMap.erase r.recs x, windows := SMap.erase r.windows x }
        ((s.setSession r).startOp t uWc [] stOk, 0)
    | none => (s.startOp t uWc [] stInvalid, 0)
  else if p = 0x450 then (s.startOp t uSq [] stEmpty, 0)
  else if 0x198 ≤ p && p < 0x19C then
    match s.pePlace t x true with
    | .ipd _ => (s.startOp t uLs [] stOk, 0)
    | _ => real
  else if u = uTl || u = uFlow then
    s.fromLog r t 4 p fun s e => s.startOp t u (tablePorts p e) e.status
  else if u = uAt then s.fromLog r t 5 0 fun s e => s.startOp t uAt [(0x384, e.lo), (0x385, e.hi)] e.status
  else if p = 0x350 || p = 0x351 then
    s.fromLog r t 1 (x % 8192) fun s e => (s.startOp t uLk [(0x342, e.hi)] e.status).setEvent t evLock
  else if p = 0x352 || p = 0x353 then (s.startOp t uLk [] stOk, 0)
  else if p = 0x312 then
    s.fromLog r t 2 (s.opnd t 0x300 % 65536) fun s e => s.startOp t uCh [(0x303, e.lo), (0x304, e.hi)] e.status
  else if p = 0x310 || p = 0x311 || p = 0x314 || p = 0x315 then (s.startOp t uCh [] stOk, 0)
  else if p = 0x3B3 then
    match logEntry 6 0 (SMap.get r.log t []) with
    | none => (s.startOp t uEvt [] stEmpty, 0)
    | some (e, rest) =>
      ((s.setSession { r with log := SMap.put r.log t rest [] }).startOp t uEvt [(0x3A2, e.lo), (0x3A3, e.hi)] e.status, 0)
  else real

end Sys2Proof.Machine
end

