-- ==== Sys2Proof/Machine/Supervise.lean ====
section
/-! DEFINITION. What Fountainhead does across the fabric: the end of a basin switch, the failure of an engine during a test,
and the reset of an island (Sequence 3.1, R293, R294, R795, R796, R862). -/

namespace Sys2Proof.Machine

/-- The basins that no bucket of a map uses. -/
def State.unusedBasins (s : State) (map : Nat) : List Nat := (List.range 12).filter fun b => !s.mapUses map b

/-- The switch to MIST ends: unused basins are powered down (Table 20.1), map 13 is active. -/
def State.mistEntered (s : State) : State :=
  let off := (s.unusedBasins 13).filter fun b => s.rd Reg.BSN_STATUS_PERM != b
  let s := off.foldl (fun (s : State) b => s.basinPowerDown b) s
  let s := { s with pwr := { s.pwr with basinsOff := off } }
  ((s.switchDone 13).enterState 2).restCes

/-- A basin is out (steps 4 and 5 of Sequence 3.1): what it left for begins. -/
def State.basinIsOut (s : State) (map basin why : Nat) : State :=
  let s := s.switchLeave map basin why
  if why = 5 then s.setPerm basin
  else if why = 4 then
    let s := (s.plannedSwaps basin).wr Reg.BSN_ENG_CMD_PENDING 0
    s.switchBegin s.returnMap 16 0
  else if why = 1 && s.on Reg.FTH_ST_STATUS_RUNNING 0 0 then
    if s.rd Reg.FTH_ST_STATUS_STEP = 7 then s.switchBegin s.returnMap 16 0
    else ((s.saveBasin basin true).scanBegin basin).wr Reg.FTH_ST_STATUS_STEP 4
  else if why = 2 then
    match s.rpl.replay with
    | none => s
    | some r =>
      if r.step = 2 then s.sessionStart r
      else if r.step = 3 then (s.saveBasin basin false).sessionReturn r
      else s
  else s

/-- The device is back on the map of every basin in service. -/
def State.allBack (s : State) : State :=
  let s := s.switchReturn
  let s := if s.on Reg.FTH_ST_STATUS_RUNNING 0 0 && s.rd Reg.FTH_ST_STATUS_STEP = 7 then s.testEnds else s
  let s := match s.rpl.replay with
    | none => s
    | some r => if r.step = 5 then s.sessionDone r else s
  let s := if s.on Reg.PWR_STATUS_BUSY 0 0 then (s.enterState 0).schedule else s
  s.takeFailedOut.wearCheck

/-- BASIN_SWITCH_FINISH: once the moving threads hold no droplet (step 3), the switch ends. -/
def basinSwitchFinish (s : State) : State :=
  match s.weir.switching with
  | none => s
  | some (map, basin, why) =>
    if !s.imageRuns || !s.switchDrained map basin then s
    else if map = 13 then s.mistEntered
    else if basin < 12 then s.basinIsOut map basin why
    else s.allBack

/-- ENGINE_FAIL_NO_SPARE; the failure of an engine of another basin ends a test that runs (R862). -/
def engineFails (s : State) (e : Nat) : State :=
  let t := engineFailNoSpare s e
  let failed := t.fld Reg.BSN_ENG_ESTATE e 0 == 2 && s.fld Reg.BSN_ENG_ESTATE e 0 != 2
  if failed && t.rd Reg.FTH_ST_STATUS_REGION ≠ e / 16 then t.testAbort else t

/-- DROPLET_DISPATCH: the Weir hands a thread its next droplet; to a replayed thread the replay store does (R65, R883). -/
def dispatch (s : State) (t : Nat) : State :=
  match s.rpl.replay with
  | none => dropletDispatch s t
  | some r => if s.replays t then s.replayHand r t else dropletDispatch s t

/-! ### Island resets (R795, R796) -/

/-- A quad enters reset: each link in it goes down (R745, Table 14.2). The manual names no CAUSE for it. -/
def State.quadDown (s : State) (q : Nat) : State :=
  ((List.range 8).map fun i => 8 * q + i).foldl (fun (s : State) p =>
    if s.edg.phy.contains p then
      let (v, s) := s.free
      portLinkDown s s.wall p (v.toNat % 6)
    else s) s

/-- XNG_ISL_CMD: an island 0 to 7 is reset; INVALID above 7 or where R782 holds the island, DOUBLE where it is in reset
already. -/
def State.islCmd (s : State) (isl : Nat) : State :=
  let s := s.wr Reg.XNG_ISL_CMD_ISLAND isl
  let done (s : State) (st : Nat) : State := s.wr Reg.XNG_ISL_CMD_RESULT st
  if 8 ≤ isl || !s.islandSelected isl then done s stInvalid
  else if s.islandInReset isl then done s stDouble
  else
    let s := (((s.setInReset isl true).flushIsland isl).bump Reg.XNG_ISL_RESET_CNT)
    let s := if isl < 4 then s.quadDown isl else pcieLinkReset s (isl - 4)
    done s stOk

/-- XNG_ISL_RESET by a host: the supervisor's alone (R795, R804). -/
def xngIslReset (s : State) (part isl : Nat) : State :=
  if !s.pageOk part 16 || !s.isSup part then s else s.islCmd isl

end Sys2Proof.Machine
end

