-- ==== Sys2Proof/Machine/Boot.lean ====
section
/-! DEFINITION. The end of Sequence 1.1: Fountainhead's verdict on the image slots, the boot-time self-test, and what becomes
active, the compiled image or the fallback bridge (R27 to R54, R468, R634, R770, R817, R833 to R835, R852 to R866, R871,
R934 to R936). -/

namespace Sys2Proof.Machine

/-! ### The choice of a slot -/

/-- The slot that the resume record names: the stored image and the counter match it, and the lane plan the straps (R817,
R27). -/
def State.resumeSlot (s : State) : Option Nat :=
  if !s.boot.resumeOk then none
  else
    match s.fth.resume with
    | none => none
    | some r => [0, 1].find? fun n =>
        shake256 (s.slotBytes n 0x40 (80 * s.slotNat n 6 2)) == r.digest && s.slotNat n 8 4 == r.version &&
          s.fth.counter0 == r.counter && s.lanePlanOk n

/-- A slot that fails a check of R833 after NO_IMAGE is refused: the fault log takes it, and IMAGE_REFUSED is raised (R848,
Table 21.15). -/
def State.refuseSlot (s : State) (slot cause : Nat) : State :=
  if cause < 2 then s
  else (s.logFault 3 cause [slot]).eventSup Reg.FTH_INT_STATUS_IMAGE_REFUSED Reg.FTH_INT_EN_IMAGE_REFUSED

/-- Both slots are checked in order, and their causes are shown; the answer is the slot to run (R834). -/
def State.checkSlots (s : State) : Option Nat × State :=
  let c0 := s.slotCause 0
  let c1 := s.slotCause 1
  let s := s.setAll [(Reg.FTH_STATUS_SLOT0_CAUSE, 0, 0, c0), (Reg.FTH_STATUS_SLOT1_CAUSE, 0, 0, c1)]
  let s := (s.refuseSlot 0 c0).refuseSlot 1 c1
  match s.chooseSlot c0 c1 with
  | some n => (some n, s)
  | none => (none, s.wr Reg.GEN_STATUS_FALLBACK_CAUSE (fallbackCause c0 c1))

/-- The slot to run: after an exit from DRY, the resumed one (R817). -/
def State.findSlot (s : State) : Option Nat × State :=
  match s.resumeSlot with
  | some n => (some n, s.wr (if n = 0 then Reg.FTH_STATUS_SLOT0_CAUSE else Reg.FTH_STATUS_SLOT1_CAUSE) 0)
  | none => ({ s with boot := { s.boot with resumeOk := false } }).checkSlots

/-! ### The reservoir map (R871) -/

/-- One entry of the map is applied. A basin or a CE that was held is tested afresh; a repaired row or bank serves. -/
def State.applyRsv (s : State) (e : RsvEnt) : State :=
  match e.kind with
  | 1 => s.setAll [(Reg.BSN_ENG_PHYS, e.unit, 0, e.new), (Reg.BSN_BASIN_SPARE, e.unit / 16, 0, 0x1F),
                   (Reg.BSN_BASIN_SPARE_USED, e.unit / 16, 0, 1)]
  | 2 => s.setFld Reg.BSN_BASIN_SPARE e.unit 0 0x1F
  | 3 =>
    let q := e.unit / 8
    s.setAll [(Reg.EDG_LANE_SLICE, e.unit, 0, e.new), (Reg.EDG_QUAD_SPARE_USED, q, 0, 1), (Reg.EDG_QUAD_LANE, q, 0, e.unit),
              (Reg.EDG_STATUS_SPARES, 0, 0, setBits (s.rd Reg.EDG_STATUS_SPARES) q 1 0)]
  | 4 =>
    let q := e.old / 9
    s.setAll [(Reg.EDG_QUAD_SPARE_FAILED, q, 0, 1),
              (Reg.EDG_STATUS_SPARES, 0, 0, setBits (s.rd Reg.EDG_STATUS_SPARES) q 1 0)]
  | 5 => { s with mem := { s.mem with phys := SMap.set s.mem.phys e.unit e.new, sparesGone := s.mem.sparesGone ++ [e.new] } }
  | 6 => { s with mem := { s.mem with sparesGone := s.mem.sparesGone ++ [e.old] } }
  | 7 => s.wr Reg.IPD_OFFLINE_PC (setBits (s.rd Reg.IPD_OFFLINE_PC) e.unit 1 1)
  | 10 => s.setRemap e.unit e.new
  | _ => s

/-- Every entry, and the IPD trained with what it leaves. -/
def State.applyMap (s : State) : State :=
  let s := s.wr Reg.IPD_OFFLINE_PC s.fth.offline
  let s := s.fth.rsv.foldl (fun s e => s.applyRsv e) s
  (s.wr Reg.IPD_STATUS_TRAINED 1).showIpd

/-! ### The boot-time self-test (R852, R855, Tables 22.3 and 22.4) -/

/-- The outcome of one region's test at boot; true where the safe state follows. -/
def State.bootRegion (s : State) (r fail : Nat) (mem pass : Bool) (helper : BitVec 2) : Bool × State :=
  if r < 12 then
    let held := s.fth.heldRegions.any (· < 12)
    match s.basinOutcome r fail (mem || (!pass && fail = 0)) with
    | (o, s) =>
      let s := s.testResult r o fail mem (helper != 0)
      if o = 3 then (held, s) else (false, s.helpersFailed r helper)
  else if r = 12 then
    let fail := if !pass && fail % 256 = 0 then 255 else fail % 256
    match s.ceOutcome fail with
    | (o, safe, s) => (safe, s.testResult 12 o fail mem false)
  else
    let bad := fail != 0 || mem || !pass
    let s := s.testResult r (if bad then 3 else 1) fail mem false
    (r == 13 && bad, if bad then s.logTest 3 r fail (flagBit mem) else s)

/-- The responses that the operands list for a region. -/
def scanOf (scans : List (Nat × List (BitVec 64))) (r : Nat) : Option (List (BitVec 64)) :=
  (scans.find? fun e => e.1 == r).map Prod.snd

/-- Every region of a test at boot, in order; a region that the operands do not list has passed. Regions outside the wake set
are not tested at an exit from DRY. -/
def State.bootTests (s : State) (bist : List (Nat × BitVec 17 × Bool × BitVec 2)) (scans : List (Nat × List (BitVec 64))) :
    Bool × State :=
  let all := if s.boot.resumeOk then (List.range 12).filter (bitOf s.wakeSet) ++ [12, 13] else List.range 15
  all.foldl (fun (a : Bool × State) r =>
    let (fail, mem, helper) : BitVec 17 × Bool × BitVec 2 := match bist.find? fun e => e.1 == r with
      | some e => e.2
      | none => (0, false, 0)
    let (pass, s) := (a.2.scanBegin r).scanEnd r (scanOf scans r)
    let (safe, s) := s.bootRegion r fail.toNat mem pass helper
    (a.1 || safe, s)) (false, s)

/-- The self-test of step 5b, or the full test of R855, with the rows it repaired and the slices that failed. -/
def State.selfTest (s : State) (bist : List (Nat × BitVec 17 × Bool × BitVec 2)) (slices : List (Fin 36))
    (repairs : List (Nat × BitVec 16 × W32 × W32)) (scans : List (Nat × List (BitVec 64))) : Bool × State :=
  let s := s.repaired repairs
  let s := slices.foldl (fun (s : State) sl => s.sliceOutcome sl.val) s
  s.bootTests bist scans

/-! ### The compiled image (step 5b) -/

/-- The pages whose fields no image sets: identity, gauges, Fountainhead and crossings. -/
def imageMaySet (k : Nat) : Bool :=
  let page := k / 16777216 / 32 / 65536
  page != 0 && !keptByReset k

/-- The image's values of register fields and Sluice objects. -/
def State.loadRegs (s : State) : State :=
  { s with regs := s.img.regs.foldl (fun m e => if imageMaySet e.1 then SMap.set m e.1 e.2 else m) s.regs }

/-- Ports, classes and host queues that the image enables are up (R598). -/
def State.startQueues (s : State) : State :=
  let up (s : State) (kind n : Nat) : State :=
    let f := shutFields kind
    s.setAll ((List.range n).map fun i => (f.2.1, i, 0, s.fld f.1 i 0))
  up (up (up s 0 32) 1 256) 2 320

/-- Meter buckets start full, and the fields that a refill latches are in effect (R604, R603). -/
def State.startMeters (s : State) : State :=
  let s := s.metersInUse.foldl (fun (s : State) m =>
    let s := s.latchMeter m
    (s.setMeterBucket m 0 (s.fld Reg.SLU_METER_CBS m 0 * 8000 : Nat)).setMeterBucket m 1
      (s.fld Reg.SLU_METER_PBS m 0 * 8000 : Nat)) s
  s.setAll ((List.range 256).map fun q => (Reg.SLU_CLASS_CBS_LO, q, 1, s.fld Reg.SLU_CLASS_CBS_LO q 0))

/-- Gate lists of enabled ports and stream gates run at once on the grid of ADMIN_BASE (R936). -/
def State.startGates (s : State) : State :=
  let s := (List.range 32).foldl (fun (s : State) p =>
    if s.on Reg.SLU_PORT_GATE_EN p 0 then s.installList false p (s.adminBase false p) else s) s
  (List.range 1024).foldl (fun (s : State) g =>
    if s.on Reg.SLU_SGATE_EN g 0 then s.installList true g (s.adminBase true g) else s) s

/-- Each further enabled domain of network time starts from the local time base (R935); ticks and PPS edges are those to
come. -/
def State.startTime (s : State) : State :=
  let s := [1, 2, 3].foldl (fun (s : State) d =>
    if bitOf (s.rd Reg.TIM_CFG_DOM_EN) d then (s.setFld Reg.TIM_RATE_RATE d 0 0).setNet d (s.now * 2 ^ 40) else s) s
  { s with time := { s.time with tickAt := s.tickNow, ppsAt := s.ppsNow } }

/-- A semaphore starts with its count (R666). -/
def State.startLocks (s : State) : State :=
  (List.range 8192).foldl (fun (s : State) l =>
    if s.isSem l && s.setting 44 l ≠ 0 then s.setLock l { count := s.setting 44 l } else s) s

/-- The initial descriptors start in the order in which the image, or the ROM's table, lists them (R632, R634). -/
def State.startDescs (s : State) : State :=
  let s := s.img.descs.foldl (fun (s : State) e =>
    let (d, w0, w3) := e
    (s.setDesc d { base := bits w0 4 6, aff := bits w0 16 4, affAuto := bitOf w0 20, hostPart := bits w0 21 3
                   save := bits w3 0 23 }).startDesc d) s
  s.schedule

/-- Every basin that is not held starts, its helpers with it (R256, R436); a held one is out with its out map (R293). -/
def State.startBasins (s : State) : State :=
  let s := (List.range 12).foldl (fun (s : State) b => if s.fth.heldRegions.contains b then s else s.basinStart b) s
  s.setAll [(Reg.RUN_MAP_STATUS_ACTIVE, 0, 0, s.returnMap), (Reg.RUN_MAP_STATUS_TARGET, 0, 0, s.returnMap)]

/-- FCO pins are deasserted: no channel is ABOVE (R468). -/
def State.fcoRelease (s : State) : State :=
  (List.range 8).foldl (fun (s : State) n => (s.setFld Reg.BSN_FCO_STATE n 0 0).emit (.pin n (s.fcoLevel n false))) s

/-- The changes latched before activation are delivered with LATE set (R770). -/
def State.latePresence (s : State) : State :=
  (List.range 9).foldl (fun (s : State) i =>
    let v := s.presIn i
    let latch := v.latch.map fun (c : Change) => { c with late := true }
    (s.setPresIn i { v with latch := latch }).setFld Reg.EDG_PRESCFG_LATCHED i 0 latch.length) s

/-- Links that came up before anything was active are seen now (R31). -/
def State.seeLinks (s : State) : State :=
  let up := s.edg.phy
  up.foldl (fun (s : State) src => (s.setPhy src false).linkComesUp src (s.fld Reg.SLU_PORT_SPEED src 0) (s.fld Reg.EDG_PORT_FEC src 0)) s

/-- The recording starts at activation, with a ring (R876). -/
def State.startRecording (s : State) : State :=
  { s.wr Reg.RPL_STATUS_RECORDING (flagBit (s.rd Reg.RPL_CFG_RING_MIB != 0)) with
    rpl := { s.rpl with bucketAt := s.now, drainAt := s.now } }

/-- The image of a slot becomes active: its sections are loaded, the tables cleared, version 1 active, the MACs open. -/
def State.activate (s : State) (slot : Nat) : State :=
  let s := { s.loadRegs with
    boot := { s.boot with stage := 3, resumeOk := false, fullTest := false, wakeEn := s.wakeSources }
    mem := { s.mem with ipd := s.img.ipd.foldl (fun (m : List Host.Cell) (e : Host.Cell) => cellPut m e.1 e.2) s.mem.ipd }
    fth := { s.fth with testAt := s.now }
    pwr := { s.pwr with since := s.wall, admitAt := s.now } }
  let s := s.setAll [(Reg.FTH_STATUS_SLOT_RUN, 0, 0, slot), (Reg.GEN_STATUS_MODE, 0, 0, 2),
                     (Reg.GEN_STATUS_FALLBACK_CAUSE, 0, 0, 0)]
  let s := s.startTime.buildPools.startRules.startTables
  let s := s.startQueues.startMeters.startGates.startLocks
  let s := s.setAll ((List.range 16).map fun c => (Reg.EDG_CAN_STATE, c, 0, 0))
  let s := s.startBasins.startDescs.startRecording
  s.fcoRelease.latePresence.seeLinks.showDegraded

/-! ### The fallback bridge (step 5a) -/

/-- The PCIe links that the straps provide, in link order: Q2 first, lane 0 first (R51, Table 1.3). -/
def State.strapLinks (s : State) : List Nat :=
  let q2 := s.rd Reg.GEN_STRAP_QMODE2
  let q3 := s.rd Reg.GEN_STRAP_QMODE3
  (if q2 = 1 then [0, 1] else if q2 = 2 then [0] else []) ++ (if q3 = 1 then [2, 3] else if q3 = 2 then [2] else [])

/-- The partition to which the provisioning record binds a link (R51). -/
def State.recordLink (s : State) (k : Nat) : Option Nat :=
  match s.fth.prov with
  | none => none
  | some r => (Config.provLink r k).filter (· < 4)

/-- The link that each partition presents: first those that the record binds, then the lowest partitions that no link
holds (R51). -/
def State.bridgeLinks (s : State) : SMap Nat :=
  let bound := s.strapLinks.foldl (fun (m : SMap Nat) k =>
    match s.recordLink k with
    | none => m
    | some p => if (SMap.find m p).isSome then m else SMap.set m p k) []
  (s.strapLinks.filter fun k => !(bound.any fun e => e.2 == k)).foldl (fun (m : SMap Nat) k =>
    match (List.range 4).find? fun p => (SMap.find m p).isNone with
    | none => m
    | some p => SMap.set m p k) bound

/-- The tables of the ROM that stand in an image's place (DESIGN CHOICE, log entry 170): pool 1 is the body pool of every bridge
port, with 64 buffers of 16 KiB; P0 is charged for frames, PD for the device's own; one descriptor runs the control
program. -/
def romImage : Image :=
  let set (k i v : Nat) : Nat × Nat := (k * 16777216 + i, v)
  { descs := [(0, 0x00100010, 0)]
    set_ := [set 1 1 1, set 2 1 64, set 3 1 64, set 4 1 0x1000, set 5 1 0, set 7 0 65536, set 7 4 65536, set 7 8 64] ++
      (List.range 48).map fun p => set 11 p 1 }

/-- The fallback bridge becomes active: its pools, its map (Table 4.9) and its hold limit of 10 ms (R52), PLCA coordinators
(R43), CAN controllers (R46), no flow-control pin asserted (R468), empty input latches (R770), its control program (R634), and
ports whose link is up forward (R29). -/
def State.startBridge (s : State) : State :=
  let s := { s with
    boot := { s.boot with stage := 2, resumeOk := false, fullTest := false, wakeEn := 0 }
    img := romImage
    hst := { s.hst with bridgeLink := s.bridgeLinks }
    edg := { s.edg with stp := [], ptp := [], waiting := [], granted := [] } }
  let s := s.setAll [(Reg.FTH_STATUS_SLOT_RUN, 0, 0, 3), (Reg.GEN_STATUS_MODE, 0, 0, 1),
                     (Reg.RUN_MAP_STATUS_ACTIVE, 0, 0, 14), (Reg.RUN_MAP_STATUS_TARGET, 0, 0, 14),
                     (Reg.WEIR_HOLD_LIMIT, 3, 0, 100000)]
  let s := (List.range 16).foldl (fun (s : State) n =>
    s.setAll [(Reg.EDG_T1S_PLCA_EN, n, 0, 1), (Reg.EDG_T1S_ROLE, n, 0, 0), (Reg.EDG_T1S_NODE_ID, n, 0, 0),
              (Reg.EDG_T1S_NODE_COUNT, n, 0, 32), (Reg.EDG_T1S_BURST_CNT, n, 0, 0), (Reg.EDG_CAN_STATE, n, 0, 0),
              (Reg.EDG_CAN_FD_EN, n, 0, 1), (Reg.EDG_CAN_XL_EN, n, 0, 0)]) s
  let s := (List.range 9).foldl (fun (s : State) i =>
    (s.setPresIn i { s.presIn i with latch := [] }).setFld Reg.EDG_PRESCFG_LATCHED i 0 0) s
  s.buildPools.startDescs.fcoRelease.seeLinks.stpSettle.showDegraded

/-! ### The verdict -/

/-- IMAGE_VERDICT (R834): `bist` lists the regions whose test failed, with the failing parts, an unrepaired memory and the
failing helpers; `slices` the failing SerDes slices; `repairs` the spares that the test brought in; `scans` the responses of
the regions in the logic test. -/
def imageVerdict (s : State) (now : Nat) (bist : List (Nat × BitVec 17 × Bool × BitVec 2)) (slices : List (Fin 36))
    (repairs : List (Nat × BitVec 16 × W32 × W32)) (scans : List (Nat × List (BitVec 64))) : State :=
  let s := s.upTo now
  if s.boot.held || s.boot.stage ≠ 1 then s
  else
    let s := s.showKeys.showDeviceId.applyMap
    let (slot, s) := s.findSlot
    match slot with
    | none =>
      let (safe, s) := if s.boot.fullTest then s.selfTest bist slices repairs scans else (false, s)
      if safe then s.safeState else s.startBridge
    | some n =>
      let s := { s with img := s.slotImage n }
      let (safe, s) := s.selfTest bist slices repairs scans
      if safe then s.safeState else s.activate n

end Sys2Proof.Machine
end

