-- ==== Sys2Proof/Machine/Alu.lean ====
section
/-! DEFINITION. The triggers of the ALUs, the bit unit, the compare unit and the multiplier (Tables 9.2 to 9.5). -/

namespace Sys2Proof.Machine

/-- An ALU operation: its result and its carry flag. -/
def State.aluOp (s : State) (t n : Nat) (f : W32 → W32) (cy : W32 → Bool) : Trig :=
  let a := (s.thread t).port (0x080 + 0x40 * n)
  (s.startOp t (uAlu n) [(0x081 + 0x40 * n, f a), (0x082 + 0x40 * n, flagWord (cy a))] stOk, 0)

def aluAdd (s : State) (t n : Nat) (x : W32) : Trig := s.aluOp t n (fun a => a + x) fun a => carryOut a x
def aluSub (s : State) (t n : Nat) (x : W32) : Trig := s.aluOp t n (fun a => a - x) fun a => borrowOut a x
def aluAnd (s : State) (t n : Nat) (x : W32) : Trig := s.aluOp t n (fun a => a &&& x) fun _ => false
def aluOr (s : State) (t n : Nat) (x : W32) : Trig := s.aluOp t n (fun a => a ||| x) fun _ => false
def aluXor (s : State) (t n : Nat) (x : W32) : Trig := s.aluOp t n (fun a => a ^^^ x) fun _ => false
def aluAndn (s : State) (t n : Nat) (x : W32) : Trig := s.aluOp t n (fun a => a &&& ~~~x) fun _ => false
def aluShl (s : State) (t n : Nat) (x : W32) : Trig := s.aluOp t n (fun a => a <<< shiftCount x) fun _ => false
def aluShr (s : State) (t n : Nat) (x : W32) : Trig := s.aluOp t n (fun a => a >>> shiftCount x) fun _ => false
def aluSar (s : State) (t n : Nat) (x : W32) : Trig := s.aluOp t n (fun a => a.sshiftRight (shiftCount x)) fun _ => false
def aluRotl (s : State) (t n : Nat) (x : W32) : Trig := s.aluOp t n (fun a => a.rotateLeft (shiftCount x)) fun _ => false
def aluMin (s : State) (t n : Nat) (x : W32) : Trig := s.aluOp t n (fun a => if sLess a x then a else x) fun _ => false
def aluMax (s : State) (t n : Nat) (x : W32) : Trig := s.aluOp t n (fun a => if sLess a x then x else a) fun _ => false
def aluMinu (s : State) (t n : Nat) (x : W32) : Trig := s.aluOp t n (fun a => if uLess a x then a else x) fun _ => false
def aluMaxu (s : State) (t n : Nat) (x : W32) : Trig := s.aluOp t n (fun a => if uLess a x then x else a) fun _ => false
def aluMov (s : State) (t n : Nat) (x : W32) : Trig := s.aluOp t n (fun _ => x) fun _ => false

/-- A bit-unit operation that reads only x. -/
def State.bitOp (s : State) (t : Nat) (v : W32) : Trig := (s.startOp t uBit [(0x102, v)] stOk, 0)

/-- A field operation; it faults UNIT by R366. -/
def State.fieldOp (s : State) (t : Nat) (x v : W32) : Trig := if fieldOk x then s.bitOp t v else (s, causeUnit)

def bitExtu (s : State) (t : Nat) (x : W32) : Trig := s.fieldOp t x (fieldU ((s.thread t).port 0x100) x)
def bitExts (s : State) (t : Nat) (x : W32) : Trig := s.fieldOp t x (fieldS ((s.thread t).port 0x100) x)
def bitIns (s : State) (t : Nat) (x : W32) : Trig :=
  s.fieldOp t x (fieldIns ((s.thread t).port 0x100) ((s.thread t).port 0x101) x)
def bitClz (s : State) (t : Nat) (x : W32) : Trig := s.bitOp t (BitVec.ofNat 32 (leadZeros x))
def bitCtz (s : State) (t : Nat) (x : W32) : Trig := s.bitOp t (BitVec.ofNat 32 (trailZeros x))
def bitPopc (s : State) (t : Nat) (x : W32) : Trig := s.bitOp t (BitVec.ofNat 32 (setBitCount x))
def bitBswap (s : State) (t : Nat) (x : W32) : Trig := s.bitOp t (swapBytes x)
def bitBswap16 (s : State) (t : Nat) (x : W32) : Trig := s.bitOp t (swapLow x)
def bitBitrev (s : State) (t : Nat) (x : W32) : Trig := s.bitOp t (revBits x)
def bitSext8 (s : State) (t : Nat) (x : W32) : Trig := s.bitOp t (signExt 8 x)
def bitSext16 (s : State) (t : Nat) (x : W32) : Trig := s.bitOp t (signExt 16 x)

/-- A compare: the result, and the predicate that cmp.pd names when the operation completes; 5 to 7 fault UNIT (R367). -/
def State.cmpOp (s : State) (t : Nat) (f : W32 → Bool) : Trig :=
  let c := f ((s.thread t).port 0x160)
  let pd := s.opnd t 0x161 % 8
  if 4 < pd then (s, causeUnit)
  else
    let s := s.startOp t uCmp [(0x162, flagWord c)] stOk
    if pd = 0 then (s, 0)
    else (s.updThread t fun th => { th with ops := th.ops.map fun (e : Nat × UnitOp) =>
      (e.1, { e.2 with pred := bif e.1 == uCmp then some (pd - 1, c) else e.2.pred }) }, 0)

def cmpEq (s : State) (t : Nat) (x : W32) : Trig := s.cmpOp t fun a => a == x
def cmpNe (s : State) (t : Nat) (x : W32) : Trig := s.cmpOp t fun a => a != x
def cmpLt (s : State) (t : Nat) (x : W32) : Trig := s.cmpOp t fun a => sLess a x
def cmpLe (s : State) (t : Nat) (x : W32) : Trig := s.cmpOp t fun a => !sLess x a
def cmpGt (s : State) (t : Nat) (x : W32) : Trig := s.cmpOp t fun a => sLess x a
def cmpGe (s : State) (t : Nat) (x : W32) : Trig := s.cmpOp t fun a => !sLess a x
def cmpLtu (s : State) (t : Nat) (x : W32) : Trig := s.cmpOp t fun a => uLess a x
def cmpLeu (s : State) (t : Nat) (x : W32) : Trig := s.cmpOp t fun a => !uLess x a
def cmpGtu (s : State) (t : Nat) (x : W32) : Trig := s.cmpOp t fun a => uLess x a
def cmpGeu (s : State) (t : Nat) (x : W32) : Trig := s.cmpOp t fun a => !uLess a x
def cmpTst (s : State) (t : Nat) (x : W32) : Trig := s.cmpOp t fun a => a &&& x != 0

/-- A multiplier operation with OK. -/
def State.mulOp (s : State) (t : Nat) (v : W32 × W32) : Trig := (s.startOp t uMul [(0x141, v.1), (0x142, v.2)] stOk, 0)

/-- A division; by zero it completes with INVALID, the result all ones and the remainder a (R368). -/
def State.divOp (s : State) (t : Nat) (x : W32) (f : W32 → W32 → W32 × W32) : Trig :=
  let a := (s.thread t).port 0x140
  if x = 0 then (s.startOp t uMul [(0x141, 0xFFFFFFFF), (0x142, a)] stInvalid, 0) else s.mulOp t (f a x)

def mulMulu (s : State) (t : Nat) (x : W32) : Trig := s.mulOp t (productU ((s.thread t).port 0x140) x)
def mulMuls (s : State) (t : Nat) (x : W32) : Trig := s.mulOp t (productS ((s.thread t).port 0x140) x)
def mulDivu (s : State) (t : Nat) (x : W32) : Trig := s.divOp t x quotU
def mulDivs (s : State) (t : Nat) (x : W32) : Trig := s.divOp t x quotS

end Sys2Proof.Machine
end

