-- ==== Sys2Proof/Machine/Flow.lean ====
section
/-! DEFINITION. Control flow: the ports of the program-counter and loop units, and the choice of the next bundle (R322 to
R339, R343, R344, R348). The bundle at the thread's pc is the one that triggers. -/

namespace Sys2Proof.Machine

/-- Distance from one bundle address to the next: 1 on a packet engine, 16 bytes on a control engine (R343). -/
def bundleStep (t : Nat) : Nat := if t < 1536 then 1 else 16

/-- The address after a bundle; a control engine's addresses have 32 bits. -/
def bundleAfter (t a : Nat) : Nat := if t < 1536 then a + 1 else (a + 16) % 2 ^ 32

/-- Bundles of the program that a basin runs. -/
def State.progLen (s : State) (b : Nat) : Nat := s.setting 41 (s.progOf b)

/-- The engine's call mode is link (R330); a control engine's always is (R344). -/
def State.linkMode (s : State) (t : Nat) : Bool := 1536 ≤ t || s.engEntry (t / 8) 0 == 1

/-- The fault of an operand that names a bundle: UNIT on a packet engine, ALIGN on a control engine (R324, R343). -/
def targetFault (t x : Nat) : Nat :=
  if t < 1536 then (if 2 ^ 15 ≤ x then causeUnit else 0) else (if x % 16 ≠ 0 then causeAlign else 0)

/-- The thread continues at a jump's target; at the innermost level's END the level closes (R323, R337). -/
def State.jumpTo (s : State) (t target : Nat) : State :=
  s.updThread t fun th =>
    let rest := match th.loops with
      | [] => []
      | l :: ls => if l.end_ = th.pc then ls else l :: ls
    { th with pc := target, loops := rest }

/-- pc.t.jump (R324). -/
def pcJump (s : State) (t : Nat) (x : W32) : Trig :=
  if targetFault t x.toNat ≠ 0 then (s, targetFault t x.toNat) else (s.jumpTo t x.toNat, 0)

/-- pc.t.br (R325, R343). -/
def pcBr (s : State) (t : Nat) (x : W32) : Trig :=
  let a : Int := (s.thread t).pc
  let d := a + signed 32 x.toNat
  if t < 1536 then
    if d < 0 || 32767 < d then (s, causeUnit) else (s.jumpTo t d.toNat, 0)
  else (s.jumpTo t (unsigned 32 (a + 16 * signed 32 x.toNat)), 0)

/-- pc.t.call in stack mode (R327, R328) or link mode (R330, R331). -/
def pcCall (s : State) (t : Nat) (x : W32) : Trig :=
  let th := s.thread t
  let ret := bundleAfter t th.pc
  if targetFault t x.toNat ≠ 0 then (s, targetFault t x.toNat)
  else if s.linkMode t then
    ((s.updThread t fun th => th.setPort 0x049 (BitVec.ofNat 32 ret)).jumpTo t x.toNat, 0)
  else if 8 ≤ th.rstack.length && s.thrTrap t then (s, causeRstackOver)
  else ((s.updThread t fun th => { th with rstack := (ret :: th.rstack).take 8 }).jumpTo t x.toNat, 0)

/-- pc.t.ret (R327, R329, R330). -/
def pcRet (s : State) (t : Nat) : Trig :=
  let th := s.thread t
  if s.linkMode t then
    let a := (th.port 0x049).toNat
    if targetFault t a ≠ 0 then (s, targetFault t a) else (s.jumpTo t a, 0)
  else
    match th.rstack with
    | [] => (s, causeRstackUnder)
    | a :: rest => ((s.updThread t fun th => { th with rstack := rest }).jumpTo t a, 0)

/-- The fault of pc.t.halt (R258, R259): none on a control engine, where no thread parks. -/
def State.haltFault (s : State) (t : Nat) : Nat :=
  if t < 1536 && (t % 8 == 0 || s.heldCount t != 0) then causeHaltHeld else 0

/-- pc.t.halt. A control engine's thread has no PARKED state: it goes on at the following bundle. -/
def pcHalt (s : State) (t : Nat) : Trig :=
  if s.haltFault t ≠ 0 then (s, s.haltFault t)
  else if t < 1536 then (s.park t, 0)
  else (s.updThread t fun th => { th with pc := bundleAfter t th.pc }, 0)

/-- The conditions of R335 under which lp.t.begin faults LOOP. -/
def State.loopRefused (s : State) (t x : Nat) : Bool :=
  let th := s.thread t
  3 ≤ th.loops.length || 2 ^ 24 ≤ s.opnd t 0x060 || x < bundleAfter t th.pc ||
    (decide (t < 1536) && (decide (2 ^ 15 ≤ x) || decide (s.progLen (threadBasin t) ≤ x))) ||
    match th.loops with
    | [] => false
    | l :: _ => l.end_ < x

/-- lp.t.begin (R333 to R335, R343). -/
def lpBegin (s : State) (t : Nat) (x : W32) : Trig :=
  let start := bundleAfter t (s.thread t).pc
  let e := x.toNat
  let n := s.opnd t 0x060
  if 1536 ≤ t && e % 16 ≠ 0 then (s, causeAlign)
  else if s.loopRefused t e then (s, causeLoop)
  else if n = 0 then (s.updThread t fun th => { th with pc := bundleAfter t e }, 0)
  else
    (s.updThread t fun th =>
      { th with pc := start, loops := { start := start, end_ := e, count := n } :: th.loops }, 0)

/-- lp.t.brk (R338). -/
def lpBrk (s : State) (t : Nat) : Trig :=
  match (s.thread t).loops with
  | [] => (s, causeLoop)
  | l :: rest => (s.updThread t fun th => { th with pc := bundleAfter t l.end_, loops := rest }, 0)

/-- cx.t.eret (R343, R348). -/
def cxEret (s : State) (c : Nat) (x : W32) : Trig :=
  if x.toNat % 16 ≠ 0 then (s, causeAlign)
  else (s.updThread (1536 + c) fun th => { th with pc := x.toNat, user := true, nest := false }, 0)

/-- The next bundle after one at `a` with no passing control-flow trigger (R336), and the levels that stay active. -/
def loopNext (t a : Nat) : List LoopLevel → Nat × List LoopLevel
  | [] => (bundleAfter t a, [])
  | l :: ls =>
    if a = l.end_ then
      if 1 < l.count then (l.start, { l with count := l.count - 1 } :: ls) else loopNext t a ls
    else (bundleAfter t a, l :: ls)

/-- The thread moves to its next bundle (R322, R336). -/
def State.advancePc (s : State) (t : Nat) : State :=
  s.updThread t fun th =>
    let n := loopNext t th.pc th.loops
    { th with pc := n.1, loops := n.2 }

end Sys2Proof.Machine
end

