-- ==== Sys2Proof/Machine/PumpPorts.lean ====
section
/-! DEFINITION. The Pumphouse's ports and host registers: waits and yields, posts, descriptor reads and writes, start and
delete, messages, time-outs and the restart of a stopped control engine (R631 to R633, R638, R640, R647 to R662). -/

namespace Sys2Proof.Machine

/-! ### Descriptor words (Table 15.1) -/

/-- Ticks left before the wait's time-out. -/
def State.toLeft (s : State) (d : Nat) : Nat :=
  match s.pmp.delay.find? fun e => e.2 == d with
  | none => 0
  | some (target, _) => target - s.time.ticks

/-- Word n of a descriptor. -/
def State.descWord (s : State) (d n : Nat) : Nat :=
  let v := s.desc d
  match n with
  | 0 => v.state + v.base * 2 ^ 4 + v.eff * 2 ^ 10 + v.aff * 2 ^ 16 + flagBit v.affAuto * 2 ^ 20 + v.hostPart * 2 ^ 21
  | 1 => v.flags + v.mask * 2 ^ 16
  | 2 => s.toLeft d + v.wait * 2 ^ 24 + v.ce * 2 ^ 28
  | _ => v.save

/-- A write of word n by the kernel: none where it holds a reserved value or a reserved bit (R631). -/
def State.descWrite (s : State) (d n x : Nat) : Option State :=
  let v := s.desc d
  match n with
  | 0 =>
    let aff := bits x 16 4
    let part := bits x 21 3
    if bitOf x 3 || (8 ≤ aff && aff ≤ 14) || (4 ≤ part && part ≤ 6) || bits x 24 8 ≠ 0 then none
    else
      some ((s.setDesc d { v with base := bits x 4 6, aff := aff, affAuto := bitOf x 20, hostPart := part }).setEff d)
  | 3 =>
    if bits x 23 9 ≠ 0 then none
    else if v.state = 0 then some (s.setDesc d { v with save := bits x 0 23 }) else some s
  | _ => some s

/-! ### Waits (Table 15.5) -/

/-- A yield: the thread goes to the tail of its level and the engine selects again (R638, R653). -/
def State.yieldCe (s : State) (c : Nat) : State :=
  let d := (s.ce c).desc
  ((s.leaveCe c).makeReady d false).select c

/-- pmp.t.yield (R638). -/
def pmpYield (s : State) (c : Nat) : Trig := ((s.startOp (1536 + c) uPmp [] stOk).yieldCe c, 0)

/-- pmp.t.wait (R651 to R653): the flags already set, a wait on flags, a delay, or a yield. -/
def pmpWait (s : State) (c x : Nat) : Trig :=
  let t := 1536 + c
  let d := (s.ce c).desc
  let mask := x % 65536
  let v := s.desc d
  let got := v.flags &&& mask
  if mask = 0 then
    if s.opnd t 0x622 % 2 ^ 24 = 0 then pmpYield s c
    else ((s.putOp t uPmp { wait := 7 }).blockCe c 4 0, 0)
  else if got ≠ 0 then
    ((s.setDesc d { v with flags := v.flags - got }).startOp t uPmp [(0x626, BitVec.ofNat 32 got)] stOk, 0)
  else ((s.putOp t uPmp { wait := 7, arg := mask }).blockCe c 1 mask, 0)

/-- DELAY_EXPIRE (R651, R654, R655): the head of the delay list has reached its target. A delay ends with OK, another wait
with TIMEOUT, a lock wait withdrawn from Lockgate. -/
def delayExpire (s : State) (d : Nat) : State :=
  match s.pmp.delay with
  | [] => s
  | (target, h) :: _ =>
    if h ≠ d || s.time.ticks < target then s
    else
      match (s.desc d).wait with
      | 2 =>
        let s := s.bump Reg.PMP_TIMEOUT_CNT
        let s := match s.queuedOn (0x1000 + d) with
          | none => s
          | some l => s.leaveQueue l (0x1000 + d)
        (s.endDescWait d uLk [] stTimeout).schedule
      | 3 => ((s.bump Reg.PMP_TIMEOUT_CNT).endDescWait d uCh [] stTimeout).schedule
      | 4 => (s.endDescWait d uPmp [(0x626, 0)] stOk).schedule
      | _ => ((s.bump Reg.PMP_TIMEOUT_CNT).endDescWait d uPmp [] stTimeout).schedule

/-! ### Posts -/

/-- The operand names a descriptor (R659). -/
def isDesc (x : Nat) : Bool := x < 4096

/-- pmp.t.post: the post enters the FIFO, which has room (R647, R648). -/
def pmpPost (s : State) (c x : Nat) : Trig :=
  let t := 1536 + c
  if !isDesc x then (s.startOp t uPmp [] stInvalid, 0)
  else ((s.post x (s.opnd t 0x623 % 65536)).startOp t uPmp [] stOk, 0)

/-- PMP_POST_WRITE (R648, R649, R661): FLAGS 0 only sets DESC. -/
def pmpPostWrite (s : State) (p : Nat) (v : Nat) : State :=
  if !s.pageOk p 8 then s
  else
    let d := v % 4096
    let f := bits v 16 16
    let s := s.setFld Reg.PMP_POST_DESC 0 p d
    if f = 0 then s
    else
      let result (s : State) (st : Nat) : State := s.setFld Reg.PMP_POST_STAT_RESULT 0 p st
      let w := s.desc d
      if w.state = 0 || f % 256 ≠ 0 then result s stInvalid
      else if w.hostPart ≠ p && !s.isSup p then result s stDenied
      else if s.fifoFull then result (s.bump Reg.PMP_RETRY_CNT) stRetry
      else result (s.post d f) stOk

/-! ### Descriptors -/

/-- pmp.t.dwr and pmp.t.drd (R631). -/
def pmpDwr (s : State) (c x : Nat) : Trig :=
  let t := 1536 + c
  match s.descWrite (s.opnd t 0x620 % 4096) (x % 4) (s.opnd t 0x621) with
  | none => (s.startOp t uPmp [] stInvalid, 0)
  | some s => (s.startOp t uPmp [] stOk, 0)

def pmpDrd (s : State) (c x : Nat) : Trig :=
  let t := 1536 + c
  (s.startOp t uPmp [(0x626, BitVec.ofNat 32 (s.descWord (s.opnd t 0x620 % 4096) (x % 4)))] stOk, 0)

/-- pmp.t.start (R632). -/
def pmpStart (s : State) (c x : Nat) : Trig :=
  let t := 1536 + c
  if !isDesc x then (s.startOp t uPmp [] stInvalid, 0)
  else if (s.desc x).state ≠ 0 then (s.startOp t uPmp [] stDouble, 0)
  else ((s.startDesc x).startOp t uPmp [] stOk, 0)

/-- A descriptor is freed: what the kernel wrote stays (R633). -/
def State.freeDesc (s : State) (d : Nat) : State :=
  let s := (s.unready d).undelay d
  let s := s.loseRequester (0x1000 + d)
  let s := s.reclaimDesc d
  let v := s.desc d
  s.setDesc d { base := v.base, aff := v.aff, affAuto := v.affAuto, hostPart := v.hostPart, save := v.save, ce := v.ce }

/-- pmp.t.del (R633). -/
def pmpDel (s : State) (c x : Nat) : Trig :=
  let t := 1536 + c
  if !isDesc x then (s.startOp t uPmp [] stInvalid, 0)
  else if x = (s.ce c).desc then
    let s := (s.setThread t {}).setCe c { s.ce c with state := 0 }
    ((s.freeDesc x).select c, 0)
  else if (s.desc x).state = 2 then (s.startOp t uPmp [] stBusy, 0)
  else ((s.freeDesc x).startOp t uPmp [] stOk, 0)

/-- pmp.t.send (R657). -/
def pmpSend (s : State) (c x : Nat) : Trig :=
  let t := 1536 + c
  let g := x % 2048
  if 1535 < g then (s.startOp t uPmp [] stInvalid, 0)
  else if !s.thrMsg g then (s.startOp t uPmp [] stDenied, 0)
  else if 4 ≤ (s.thread g).msgs.length then (s.startOp t uPmp [] stRetry, 0)
  else
    let m : W64 := BitVec.ofNat 64 (s.opnd t 0x624 + s.opnd t 0x625 * 2 ^ 32)
    let s := (s.updThread g fun th => { th with msgs := th.msgs ++ [m] }).setEvent g evMsg
    ((s.stillCheck (engOf g)).startOp t uPmp [] stOk, 0)

/-! ### Registers (R640, R662) -/

/-- PMP_CE_RESTART: a stopped engine selects again; DOUBLE where it is not stopped, or is held
by a test (Table 22.4). -/
def pmpCeRestart (s : State) (p c : Nat) : State :=
  if !s.pageOk p 8 || !s.isSup p then s
  else
    let s := s.wr Reg.PMP_CE_CMD_CE c
    if (s.ce c).state ≠ 2 || s.fth.heldRegions.contains (16 + c) then s.wr Reg.PMP_CE_CMD_RESULT stDouble
    else (((s.wr Reg.PMP_CE_CMD_RESULT stOk).setCe c { s.ce c with state := 0 }).select c).schedule

/-- PMP_DESC_W0_READ: one snapshot of the four words of the selected descriptor (R662). -/
def pmpDescRead (s : State) (p : Nat) : State :=
  if !s.pageReads p 8 then s
  else
    let d := s.fld Reg.PMP_DESC_SEL_DESC 0 p
    let s := s.setAll ((List.range 4).map fun n => (Reg.PMP_DESC_W, n, p, s.descWord d n))
    s.emit (.reg p (s.descWord d 0))

end Sys2Proof.Machine
end

