-- ==== Sys2Proof/Machine/Bundle.lean ====
section
/-! DEFINITION. Bundles: the order of effects in a bundle, and the issue of bundles by packet engines and control engines
(R253, R262 to R266, R313 to R322, R336, R340 to R349; Tables 8.4 to 8.6). -/

namespace Sys2Proof.Machine

/-! ### Fetch by a control engine -/

/-- The bundle of a control engine at its thread's pc, through the MMU and the L1 instruction cache; a line not yet
there is asked for and the thread waits (R343, R350). -/
def State.ceFetch (s : State) (c : Nat) : Option (Nat × List W32) × State :=
  let va := (s.thread (1536 + c)).pc
  match s.translate c va 2 with
  | ((0, pa), s) =>
    let k := 213 + c
    if s.offlineAt pa then (some (0, List.replicate 4 0), s)
    else if (s.cache k).whereIs k pa = 0 then
      if (s.cache k).misses.any fun m => m.addr == lineOf pa then (none, s) else (none, s.miss k pa none false)
    else
      let s := s.bring k pa
      let l := s.lineAt k pa
      let off := pa % 64
      if bitOf l.poison (off / 8) || bitOf l.poison (off / 8 + 1) then (some (causeEcc, []), s)
      else (some (0, (List.range 4).map fun n => BitVec.ofNat 32 (leNat ((l.data.drop (off + 4 * n)).take 4))), s)
  | ((cause, _), s) => (some (cause, []), s)

/-! ### The opportunity (R262 to R264) -/

/-- The threads of an engine in cyclic order from one of them. -/
def cyclic (e start : Nat) : List Nat := (List.range 8).map fun i => 8 * e + (start + i) % 8

/-- The thread is READY: it can take an opportunity, and its next bundle issues. -/
def State.ready (s : State) (t : Nat) : Bool := s.canIssue t && s.pePlan t != .hold

/-- The boosted READY thread of highest effective priority, the first in round-robin order among equals. -/
def bestBoost (s : State) : List Nat → Option Nat
  | [] => none
  | t :: ts =>
    match bestBoost s ts with
    | none => if s.threadPrio t < s.effPrio t then some t else none
    | some b => if s.threadPrio t < s.effPrio t && s.effPrio b ≤ s.effPrio t then some t else some b

/-- The owner of the next opportunity, and the thread that issues in it. -/
def State.opportunity (s : State) (e : Nat) : Option (Nat × Nat) :=
  match (cyclic e (s.engine e).owner).find? fun t => (s.thread t).state != 5 with
  | none => none
  | some o =>
    if s.ready o then some (o, o)
    else
      let rest := (cyclic e ((s.engine e).lastIdle + 1)).filter fun t => s.ready t
      match bestBoost s rest with
      | some t => some (o, t)
      | none => rest.head?.map fun t => (o, t)

/-! ### The triggers of a bundle -/

def trigAlu (s : State) (t n i : Nat) (x : W32) : Trig :=
  match i with
  | 0 => aluAdd s t n x
  | 1 => aluSub s t n x
  | 2 => aluAnd s t n x
  | 3 => aluOr s t n x
  | 4 => aluXor s t n x
  | 5 => aluAndn s t n x
  | 6 => aluShl s t n x
  | 7 => aluShr s t n x
  | 8 => aluSar s t n x
  | 9 => aluRotl s t n x
  | 10 => aluMin s t n x
  | 11 => aluMax s t n x
  | 12 => aluMinu s t n x
  | 13 => aluMaxu s t n x
  | _ => aluMov s t n x

def trigBit (s : State) (t i : Nat) (x : W32) : Trig :=
  match i with
  | 0 => bitExtu s t x
  | 1 => bitExts s t x
  | 2 => bitIns s t x
  | 3 => bitClz s t x
  | 4 => bitCtz s t x
  | 5 => bitPopc s t x
  | 6 => bitBswap s t x
  | 7 => bitBswap16 s t x
  | 8 => bitBitrev s t x
  | 9 => bitSext8 s t x
  | _ => bitSext16 s t x

def trigMul (s : State) (t i : Nat) (x : W32) : Trig :=
  match i with
  | 0 => mulMulu s t x
  | 1 => mulMuls s t x
  | 2 => mulDivu s t x
  | _ => mulDivs s t x

def trigCmp (s : State) (t i : Nat) (x : W32) : Trig :=
  match i with
  | 0 => cmpEq s t x
  | 1 => cmpNe s t x
  | 2 => cmpLt s t x
  | 3 => cmpLe s t x
  | 4 => cmpGt s t x
  | 5 => cmpGe s t x
  | 6 => cmpLtu s t x
  | 7 => cmpLeu s t x
  | 8 => cmpGtu s t x
  | 9 => cmpGeu s t x
  | _ => cmpTst s t x

def trigLs (s : State) (t i x : Nat) : Trig :=
  match i with
  | 0x10 => lsLoad s t x 1 false
  | 0x11 => lsLoad s t x 1 true
  | 0x12 => lsLoad s t x 2 false
  | 0x13 => lsLoad s t x 2 true
  | 0x14 => lsLoad s t x 4 false
  | 0x15 => lsLoad s t x 8 false
  | 0x18 => lsStore s t x 1
  | 0x19 => lsStore s t x 2
  | 0x1A => lsStore s t x 4
  | 0x1B => lsStore s t x 8
  | 0x20 => lsPf s t x
  | 0x28 => lsClean s t x
  | 0x29 => lsInv s t x
  | 0x2A => lsCinv s t x
  | _ => lsFence s t

def trigPw (s : State) (t i x : Nat) : Trig :=
  match i with
  | 0x10 => pwLoad s t x 1
  | 0x11 => pwLoad s t x 2
  | 0x12 => pwLoad s t x 4
  | 0x14 => pwStore s t x 1
  | 0x15 => pwStore s t x 2
  | 0x16 => pwStore s t x 4
  | 0x18 => pwIns s t x
  | 0x19 => pwDel s t x
  | _ => pwLen s t

def trigDl (s : State) (t i x : Nat) : Trig :=
  match i with
  | 0 => dlRd s t x
  | 1 => dlWr s t x
  | 2 => dlFlk s t x
  | 3 => dlKey s t x
  | 4 => dlLay s t x
  | _ => dlPinfo s t x

def trigTl (s : State) (t i x : Nat) : Trig :=
  match i with
  | 0x10 => tlL2 s t x
  | 0x11 => tlEp s t x
  | 0x12 => tlParam s t x
  | 0x30 => tlFind s t x false
  | 0x31 => tlFind s t x true
  | 0x32 => tlRead s t x
  | 0x33 => tlWrite s t x
  | _ => tlDelete s t

def trigCh (s : State) (t i x : Nat) : Trig :=
  match i with
  | 0 => chPut s t x false
  | 1 => chPut s t x true
  | 2 => chGet s t
  | 3 => chCount s t
  | 4 => chWatch s t x
  | _ => chUnwatch s t x

def trigLk (s : State) (t i x : Nat) : Trig :=
  match i with
  | 0 => lkAcquire s t x false
  | 1 => lkAcquire s t x true
  | 2 => lkRelease s t x
  | 3 => lkCancel s t
  | _ => lkQuery s t x

def trigAt (s : State) (t i x : Nat) : Trig :=
  let wide := decide (8 ≤ i)
  match i % 8 with
  | 0 => atAdd s t x wide
  | 1 => atSub s t x wide
  | 2 => atSwap s t x wide
  | 3 => atCas s t x wide
  | 4 => atAnd s t x wide
  | 5 => atOr s t x wide
  | 6 => atMin s t x wide
  | _ => atMax s t x wide

def trigEvt (s : State) (t i x : Nat) : Trig :=
  match i with
  | 0 => evtWait s t x
  | 1 => evtClr s t x
  | 2 => evtSig s t x
  | _ => evtMget s t

def trigTm (s : State) (t i x : Nat) : Trig :=
  match i with
  | 0 => tmStart s t x
  | 1 => tmStop s t
  | 2 => tmNow s t
  | _ => tmNet s t x

def trigCs (s : State) (t i x : Nat) : Trig :=
  match i with
  | 0 => csAlloc s t x
  | 1 => csFree s t x
  | 2 => csRef s t x
  | 3 => csAddr s t x
  | _ => csInfo s t x

def trigWc (s : State) (t i x : Nat) : Trig :=
  match i with
  | 0 => wcNext s t
  | 1 => wcSend s t x
  | 2 => wcDry s t x
  | _ => wcRecirc s t x

def trigHlp (s : State) (t h i x : Nat) : Trig :=
  match i with
  | 0 => hlpClaim s t h
  | 1 => hlpRel s t h
  | 2 => hlpWr s t h x
  | 3 => hlpRd s t h x
  | 4 => hlpOpAny s t h x
  | _ => hlpFeed s t h x

def trigSv (s : State) (t i x : Nat) : Trig :=
  match i with
  | 0 => svInfo s t
  | 1 => svGetreg s t x
  | 2 => svSetreg s t x
  | 3 => svHeld s t x
  | 4 => svResume s t x
  | 5 => svPark s t
  | 6 => svAck s t
  | _ => svReset s t

def trigPmp (s : State) (c i x : Nat) : Trig :=
  match i with
  | 0 => pmpWait s c x
  | 1 => pmpPost s c x
  | 2 => pmpYield s c
  | 3 => pmpDwr s c x
  | 4 => pmpDrd s c x
  | 5 => pmpStart s c x
  | 6 => pmpDel s c x
  | _ => pmpSend s c x

/-- The operation that a trigger port starts; the control-flow group is not among them. -/
def State.runTrig (s : State) (t p : Nat) (v : W32) : Trig :=
  let x := v.toNat
  let c := t - 1536
  if p < 0x0C0 then trigAlu s t 0 (p - 0x090) v
  else if p < 0x100 then trigAlu s t 1 (p - 0x0D0) v
  else if p < 0x140 then trigBit s t (p - 0x110) v
  else if p < 0x160 then trigMul s t (p - 0x150) v
  else if p < 0x180 then trigCmp s t (p - 0x170) v
  else if p < 0x200 then trigLs s t (p - 0x180) x
  else if p < 0x240 then trigPw s t (p - 0x200) x
  else if p < 0x280 then trigDl s t (p - 0x250) x
  else if p < 0x300 then trigTl s t (p - 0x280) x
  else if p < 0x340 then trigCh s t (p - 0x310) x
  else if p < 0x380 then trigLk s t (p - 0x350) x
  else if p < 0x3A0 then trigAt s t (p - 0x390) x
  else if p < 0x3C0 then trigEvt s t (p - 0x3B0) x
  else if p < 0x3E0 then trigTm s t (p - 0x3D0) x
  else if p < 0x420 then trigCs s t (p - 0x3F0) x
  else if p < 0x440 then trigWc s t (p - 0x430) x
  else if p < 0x460 then (if p = 0x450 then sqOrig s t x else sqDepth s t x)
  else if p < 0x4A0 then trigHlp s t 0 (p - 0x470) x
  else if p < 0x4E0 then trigHlp s t 1 (p - 0x4B0) x
  else if p < 0x500 then trigSv s t (p - 0x4F0) x
  else if p < 0x600 then (if p = 0x510 then dbgBrk s t else dbgMark s t x)
  else if p = 0x608 then cxTlbinv s c x
  else if p = 0x609 then cxTlbflush s c
  else if p < 0x640 then trigPmp s c (p - 0x630) x
  else if p = 0x650 then edgTx s c x
  else if p = 0x651 then edgRoom s c x
  else if p = 0x652 then edgTs s c
  else if p = 0x668 then lkpForce s c x
  else lkpSetcount s c x

/-- What the decision log keeps of a triggered operation: entry kind × 65,536 + object (Table 23.2). -/
def logOf (p opnd x : Nat) : Option Nat :=
  if p = 0x350 || p = 0x351 then some (1 * 65536 + x % 8192)
  else if p = 0x312 then some (2 * 65536 + opnd % 65536)
  else if p = 0x474 || p = 0x475 then some (3 * 65536)
  else if p = 0x4B4 || p = 0x4B5 then some (3 * 65536 + 1)
  else if triggerUnit p = some uTl || triggerUnit p = some uFlow then some (4 * 65536 + p)
  else if triggerUnit p = some uAt then some (5 * 65536)
  else if p = 0x3B3 then some (6 * 65536)
  else none

/-- One triggered operation of a thread, with its note for the decision log: an operation that already waits for a lock is
logged at the end of its wait (R878). A replayed thread is served by the session (R885). -/
def State.trig (s : State) (t p : Nat) (v : W32) (f : State → Trig) : Trig :=
  let (s, cause) := match s.rpl.replay with
    | some r => if s.replays t then s.replayTrig r t p v.toNat f else f s
    | none => f s
  if cause ≠ 0 then (s, cause)
  else
    match triggerUnit p with
    | none => (s, 0)
    | some u =>
      let s := if u = uWc then s.hlpStaleAll t else s
      match logOf p (s.opnd t 0x300) v.toNat with
      | none => (s, 0)
      | some l =>
        let waits := match SMap.find (s.thread t).ops u with
          | some o => o.wait == 1
          | none => true
        if t < 1536 && !waits then (s.updThread t fun th => { th with logs := SMap.set th.logs u l }, 0) else (s, 0)

/-! ### Steps 5 to 8 -/

/-- The value of a state port or another source, as it stands before the bundle; the registers of an inactive loop level
have free values. -/
def State.readPort (s : State) (t p : Nat) : W32 × State :=
  let th := s.thread t
  let n (v : Nat) : W32 := BitVec.ofNat 32 v
  if p = 0x048 then (n th.pc, s)
  else if p = 0x04A then (n (if s.linkMode t then 0 else th.rstack.length), s)
  else if p = 0x068 then (n th.loops.length, s)
  else if p = 0x069 then (n ((th.loops.map fun l => l.count).headD 0), s)
  else if 0x070 ≤ p && p < 0x079 then
    match th.loops.reverse[(p - 0x070) / 3]? with
    | none => s.free
    | some l => (n (if (p - 0x070) % 3 = 0 then l.start else if (p - 0x070) % 3 = 1 then l.end_ else l.count), s)
  else if p = 0x3A0 then (n th.events, s)
  else if p = 0x3C2 then
    (n (match th.timer with
      | some at_ => at_ - s.now
      | none => 0), s)
  else if p = 0x500 then (n th.issued, s)
  else if p = 0x600 then (n (flagBit th.user), s)
  else if p = 0x602 then (th.vec, s)
  else if p = 0x603 then (n th.cause, s)
  else if p = 0x604 then (th.fva, s)
  else if p = 0x605 then (th.fpc, s)
  else if p = 0x606 then (th.ptb, s)
  else if p = 0x607 then (th.asid, s)
  else if p = 0x60A then (n (flagBit th.nest), s)
  else if p = 0x628 then (n (s.ce (t - 1536)).desc, s)
  else if p = 0x629 then (n s.time.ticks, s)
  else (th.port p, s)

/-- Step 5: the values of the passing moves. -/
def State.readMoves : State → Nat → List Move → List (Move × W32) × State
  | s, _, [] => ([], s)
  | s, t, m :: ms =>
    let (v, s) := match m.src with
      | .imm v => (v, s)
      | .port p => s.readPort t p
    let (rest, s) := s.readMoves t ms
    ((m, v) :: rest, s)

/-- A move to a register or operand port; one to a predicate cancels the pending unit writes to it (R316, R321). -/
def Thr.land (th : Thr) (p : Nat) (v : W32) : Thr :=
  if 0x020 ≤ p && p < 0x024 then
    let cancel := fun (o : UnitOp) => match o.pred with
      | some (q, _) => bif q == p - 0x020 then { o with pred := none } else o
      | none => o
    { th with ops := th.ops.map fun (e : Nat × UnitOp) => (e.1, cancel e.2) }.setReg p v
  else if p = 0x602 then { th with vec := v }
  else if p = 0x606 then { th with ptb := v &&& 0x0FFFFFFF }
  else if p = 0x607 then { th with asid := v &&& 0xFF }
  else th.setPort p v

/-- Step 6. -/
def State.landMoves (s : State) (t : Nat) (ms : List (Move × W32)) : State :=
  s.updThread t fun th => (ms.filter fun e => !isTrigger e.1.dst).foldl (fun th e => th.land e.1.dst e.2) th

/-- A control-engine trigger after which the thread no longer runs; it takes effect behind the bundle's others. -/
def leaves (s : State) (t p x : Nat) : Bool :=
  decide (1536 ≤ t) && (p == 0x630 || p == 0x632 || (p == 0x636 && x == (s.ce (t - 1536)).desc))

/-- The control-flow trigger of a bundle; pc.t.halt of a packet engine only has its check here. -/
def State.flowTrig (s : State) (t p : Nat) (x : W32) : Trig :=
  match p with
  | 0x040 => pcJump s t x
  | 0x041 => pcBr s t x
  | 0x042 => pcCall s t x
  | 0x043 => pcRet s t
  | 0x044 => if t < 1536 then (s, s.haltFault t) else pcHalt s t
  | 0x061 => lpBegin s t x
  | 0x062 => lpBrk s t
  | _ => (s, 0)

/-- The other triggers in slot order, each with its slot, cause and operand: an operation of a fast unit ends before the
unit's next. -/
def State.runMoves : State → Nat → List (Move × W32) → List (Nat × Nat × Nat) × State
  | s, _, [] => ([], s)
  | s, t, (m, v) :: ms =>
    let s := match triggerUnit m.dst with
      | some u => if m.dst = 0x353 then s else s.finishOp t u
      | none => s
    let (s, cause) := s.trig t m.dst v fun s => s.runTrig t m.dst v
    let (rest, s) := s.runMoves t ms
    ((m.slot, cause, v.toNat) :: rest, s)

/-- The fault in the earliest slot (R315): its cause, 0 for none, and the operand that its trigger had. -/
def earliest (l : List (Nat × Nat × Nat)) : Nat × Nat :=
  let at_ := fun (n : Nat) => l.find? fun (e : Nat × Nat × Nat) => e.1 == n && e.2.1 != 0
  (((List.range 4).filterMap at_).head?.map fun e => e.2).getD (0, 0)

/-- A wait of a control engine's lock or channel operation takes the thread off the engine (Table 15.5). -/
def State.ceBlocks (s : State) (t : Nat) : State :=
  match threadCe t with
  | none => s
  | some c =>
    let waits := fun (u w : Nat) => match SMap.find (s.thread t).ops u with
      | some o => o.wait == w
      | none => false
    if (s.ce c).state ≠ 1 then s
    else if waits uLk 1 then s.blockCe c 2 0
    else if waits uCh 2 then s.blockCe c 3 0
    else s

/-- The bundle that STEP asked for has issued. -/
def State.noStep (s : State) (t : Nat) : State :=
  if (s.thread t).stepping then s.updThread t fun th => { th with stepping := false } else s

/-- A descriptor becomes HALTED, keeping its waits (R887, R891). -/
def State.haltDesc (s : State) (d : Nat) : State :=
  let v := s.desc d
  if v.state = 2 then
    let s := s.leaveCe v.ce
    ((s.setDesc d { s.desc d with state := 5, haltedFrom := 1 }).rplEvent 5).select v.ce
  else ((s.unready d).setDesc d { v with state := 5, haltedFrom := v.state }).rplEvent 5

/-- A stepped thread, or the stepped descriptor d, halts again after its bundle; a fault leaves it FAULTED (R888). -/
def State.stepEnds (s : State) (t d : Nat) (was : Bool) : State :=
  if !was then s
  else if t < 1536 then (if (s.thread t).state = 0 || (s.thread t).state = 2 then s.haltThread t else s)
  else if 1 ≤ (s.desc d).state && (s.desc d).state ≤ 3 then s.haltDesc d
  else s

/-- What follows every command of a thread: fast operations complete, blocking waits leave the engine, the still-water
condition is looked at and the Pumphouse schedules. -/
def State.afterIssue (s : State) (t : Nat) : State :=
  let s := (s.settleFast t).ceBlocks t
  let s := if t < 1536 then s.stillCheck (t / 8) else s
  s.schedule

/-- Steps 5 to 8 of Table 8.4 for the passing moves of the bundle at the thread's pc. The triggers start in slot order; those
behind a halt or a return from a fault follow it (R342). A fault leaves the loop levels as they stood before the bundle's own
advance (R332), and gives cx.fva the address of the earliest slot (R346). -/
def State.runBundle (s : State) (t : Nat) (moves : List Move) : State :=
  let a := (s.thread t).pc
  let was := (s.thread t).stepping
  let d := (s.ce (t - 1536)).desc
  let s := s.noStep t
  let (vals, s1) := s.readMoves t moves
  let s1 := s1.updThread t fun th => { th with issued := (th.issued + 1) % 2 ^ 32, skipBrk := false }
  let s1 := s1.landMoves t vals
  let trigs := vals.filter fun e => isTrigger e.1.dst
  let flow := trigs.find? fun e => isFlow e.1.dst
  let rest := trigs.filter fun e => !isFlow e.1.dst
  let (s2, flowCause) := match flow with
    | none => (s1.advancePc t, 0)
    | some (m, v) => if m.dst = 0x601 then s1.flowTrig t 0 v else if m.dst = 0x044 then (s1, 0) else s1.flowTrig t m.dst v
  let away := fun (e : Move × W32) => leaves s t e.1.dst e.2.toNat
  let behind := fun (e : Move × W32) => match flow with
    | some (m, _) => (m.dst == 0x044 || m.dst == 0x601) && decide (m.slot < e.1.slot)
    | none => false
  let (l1, s3) := s2.runMoves t (rest.filter fun e => !away e && !behind e)
  let (s3, flowCause) := match flow with
    | some (m, v) =>
      if m.dst = 0x044 then s3.flowTrig t 0x044 v
      else if m.dst = 0x601 then cxEret s3 (t - 1536) v
      else (s3, flowCause)
    | none => (s3, flowCause)
  let (l2, s3) := s3.runMoves t (rest.filter fun e => !away e && behind e)
  let causes := l1 ++ l2 ++ (match flow with
    | some (m, v) => [(m.slot, flowCause, v.toNat)]
    | none => [])
  let (cause, va) := earliest causes
  let s4 :=
    if causes.any fun (e : Nat × Nat × Nat) => e.2.1 == causeLoop || e.2.1 == causeEcc then s.faultAt t cause a va
    else
      let back := fun (th : Thr) => if flow.isNone then { th with loops := (s.thread t).loops } else th
      let s := if cause ≠ 0 then (s3.updThread t back).faultAt t cause a va else s3
      let parks := match flow with
        | some (m, _) => decide (m.dst = 0x044) && flowCause == 0 && decide (t < 1536) && cause == 0
        | none => false
      let s := if parks then s.park t else s
      if (rest.any away) && (s.ce (t - 1536)).state = 1 then (s.runMoves t (rest.filter away)).2 else s
  (s4.stepEnds t d was).afterIssue t

/-- The next bundle of a thread: it issues, or faults, or waits. -/
def State.issue (s : State) (t : Nat) : Plan → State
  | .hold => s
  | .fault cause =>
    (((s.noStep t).updThread t fun th => { th with skipBrk := false }).fault t cause (s.thread t).pc).afterIssue t
  | .go ms => s.runBundle t ms

/-- A breakpoint of the thread's engine names its next bundle (R891). -/
def State.atBreakpoint (s : State) (t : Nat) : Bool :=
  let th := s.thread t
  decide (t < 1536) && !th.skipBrk && (List.range 4).any fun n =>
    match SMap.find s.rpl.brk (t / 8 * 4 + n) with
    | some (a, ts) => a == th.pc && bitOf ts (t % 8)
    | none => false

/-- BREAKPOINT_HIT: a thread about to issue a breakpoint bundle halts before it. -/
def breakpointHit (s : State) (t : Nat) : State :=
  if s.canIssue t && s.atBreakpoint t then (s.haltThread t).stillCheck (t / 8) else s

/-- The bundle reads a register of the thread's register file. -/
def readsFile (ms : List Move) : Bool := ms.any fun m => match m.src with
  | .port p => p < 0x024 || p == 0x049
  | .imm _ => false

/-- What the bundle of a packet engine comes to when the register file that it reads has an error (R253): a corrected one is
counted, an uncorrectable one faults ECC. -/
def State.fileError (s : State) (t : Nat) (err : Option Bool) (p : Plan) : Plan × State :=
  match p, err with
  | .go ms, some hard =>
    if !readsFile ms then (p, s) else if hard then (.fault causeEcc, s) else (p, s.eccEngine (t / 8) 1)
  | _, _ => (p, s)

/-- The opportunity of an engine none of whose threads is READY: its ownership advances all the same (R262). -/
def State.idleOpportunity (s : State) (e : Nat) : State :=
  match (cyclic e (s.engine e).owner).find? fun t => (s.thread t).state < 5 with
  | none => s
  | some o => s.setEngine e { s.engine e with owner := (o + 1) % 8 }

/-- BUNDLE_ISSUE on a packet engine: the opportunity is the thread's own, or idle and given to it. -/
def State.peIssue (s : State) (t : Nat) (err : Option Bool) : State :=
  let e := t / 8
  let s := (cyclic e 0).foldl (fun s u => s.settleFast u) s
  match s.opportunity e with
  | none => s.idleOpportunity e
  | some (o, u) =>
    if u ≠ t then s
    else
      let g := s.engine e
      let s := s.setEngine e { g with owner := (o + 1) % 8, lastIdle := if o = t then g.lastIdle else t % 8 }
      if s.atBreakpoint t then breakpointHit s t
      else
        let (p, s) := s.fileError t err (s.pePlan t)
        s.issue t p

/-- BUNDLE_ISSUE on a control engine: a fault of the fetch has its own address in cx.fva (R347). -/
def State.ceIssue (s : State) (c : Nat) : State :=
  let t := 1536 + c
  let s := s.settleFast t
  let pc := (s.thread t).pc
  match s.ceFetch c with
  | (none, s) => s
  | (some (cause, ws), s) =>
    if cause = 0 then s.issue t (s.plan t ws)
    else ((s.noStep t).ceFault c cause pc (if cause = causeEcc then 0 else pc)).schedule

/-- An upset strikes (R253, R411, R526): in an 8-byte word of scratch (1) or of basin shared SRAM (2), by address / 8, or in
a cache (3), by cache × 2^19 + slot × 8 + word. It waits in the state until an access finds it. -/
def State.strike (s : State) (kind place : Nat) (hard : Bool) : State :=
  let bytes := (List.range 8).map fun i => 8 * place + i
  match kind with
  | 1 =>
    if hard then { s with mem := { s.mem with scratchBad := bytes.foldl (fun l a => insertRising a l) s.mem.scratchBad } }
    else { s with mem := { s.mem with scratchSoft := insertRising place s.mem.scratchSoft } }
  | 2 =>
    if hard then { s with mem := { s.mem with sharedBad := bytes.foldl (fun l a => insertRising a l) s.mem.sharedBad } } else s
  | 3 =>
    let c := place / 2 ^ 19
    let i := place / 8 % 65536
    let w := 2 ^ (place % 8)
    match SMap.find (s.cache c).lines i with
    | none => s
    | some l =>
      if 205 ≤ c then s
      else
        let l := if hard then { l with bad := l.bad ||| w } else { l with soft := l.soft ||| w }
        s.setCache c { s.cache c with lines := SMap.set (s.cache c).lines i l }
  | _ => s

/-- The upset that a command brings strikes before its effect. -/
def State.upset (s : State) : Option (Fin 4 × BitVec 27 × Bool) → State
  | none => s
  | some (k, p, hard) => s.strike k.val p.toNat hard

/-- The upset is one of the register file that the bundle reads (0). -/
def fileUpset : Option (Fin 4 × BitVec 27 × Bool) → Option Bool
  | some (k, _, hard) => if k.val = 0 then some hard else none
  | none => none

/-- BUNDLE_ISSUE (R313), with the upset that strikes before it. -/
def bundleIssue (s : State) (t : Nat) (u : Option (Fin 4 × BitVec 27 × Bool)) : State :=
  let s := s.upset u
  match threadCe t with
  | none => if s.imageRuns && s.fld Reg.BSN_ENG_ESTATE (t / 8) 0 = 0 then s.peIssue t (fileUpset u) else s
  | some c => if s.canIssue t then s.ceIssue c else s

/-! ### Rows of single triggers -/

/-- The row of one trigger: the thread's bundle starts the operation with operand `v`, where the unit can accept. It faults
at the bundle at the thread's pc; a port that the thread may not name faults PORT or PRIV. -/
def State.trigRow (s : State) (t p : Nat) (v : W32) (f : State → Trig) : State :=
  if !s.canIssue t then s
  else
    let s := s.settleFast t
    let pc := (s.thread t).pc
    if (s.thread t).user && 0x600 ≤ p then (s.fault t causePriv pc).afterIssue t
    else if !portAllowed t p then (s.fault t causePort pc).afterIssue t
    else if !s.accepts t p then s
    else
      let (s', cause) := s.trig t p v f
      (if cause = 0 then s' else if cause = causeLoop || cause = causeEcc then s.faultAt t cause pc v.toNat
        else s'.faultAt t cause pc v.toNat).afterIssue t

/-- UNIT_OPERATION_COMPLETE (R300). -/
def unitOperationComplete (s : State) (t u : Nat) : State :=
  if (s.thread t).state = 6 then s else ((s.finishOp t u).ceBlocks t).schedule

end Sys2Proof.Machine
end

