-- ==== Sys2Proof/Machine/Debug.lean ====
section
/-! DEFINITION. The debugger: the commands of RPL_DBG_CMD (Table 23.4, R887 to R892), and what lock-down does to debug
(R800, R840). -/

namespace Sys2Proof.Machine

/-- The debug registers answer: to the supervisor partition, or (4) to the test access port while it is open
(Table 23.4). -/
def State.dbgReach (s : State) (p : Nat) : Bool :=
  s.imageRuns && s.rd Reg.PWR_STATUS_STATE < 3 &&
    (if p = 4 then s.debugOpen 3 else s.pageOk p 15 && s.isSup p)

/-- The target is a descriptor. -/
def State.dbgDesc (s : State) : Bool := s.on Reg.RPL_DBG_SEL_KIND 0 0

def State.dbgTarget (s : State) : Nat := s.rd Reg.RPL_DBG_SEL_TARGET

def State.dbgResult (s : State) (st : Nat) : State := s.wr Reg.RPL_DBG_CMD_RESULT st

/-- The checks that the commands share: DENIED while the action is not open, INVALID for a target that does not exist. The
command has one form for a thread and one for a descriptor. -/
def State.dbgCommand (s : State) (p : Nat) (thread desc : State → Nat → State) : State :=
  if !s.dbgReach p then s
  else
    let s := s.wr Reg.RPL_DBG_CMD_CMD 0
    let g := s.dbgTarget
    if s.dbgDesc then (if s.debugOpen 1 then desc s g else s.dbgResult stDenied)
    else if !s.debugOpen 0 then s.dbgResult stDenied
    else if 1536 ≤ g then s.dbgResult stInvalid
    else thread s g

/-- HALT (R887): DOUBLE for a target that does not run. -/
def dbgHalt (s : State) (p : Nat) : State :=
  s.dbgCommand p
    (fun (s : State) g =>
      if 3 ≤ (s.thread g).state then s.dbgResult stDouble
      else ((s.dbgResult stOk).haltThread g).stillCheck (g / 8))
    fun (s : State) d =>
      let st := (s.desc d).state
      if st = 0 || 4 ≤ st then s.dbgResult stDouble else ((s.dbgResult stOk).haltDesc d).schedule

/-- A HALTED thread goes on in the state that its conditions give; a breakpoint at its address does not halt it at once
(R888, R891). -/
def State.resumeThread (s : State) (t : Nat) (step : Bool) : State :=
  let th := s.thread t
  let waits := (SMap.find th.ops uEvt).any fun (o : UnitOp) => o.wait == 4
  (s.setThread t { th with state := if waits then 2 else 0, haltedFrom := 0, skipBrk := true, stepping := step }).stillCheck
    (t / 8)

/-- A HALTED descriptor goes on: READY at the tail of its level, or WAITING while its wait lasts (R888). -/
def State.resumeDesc (s : State) (d : Nat) (step : Bool) : State :=
  let v := s.desc d
  let v := { v with haltedFrom := 0, saved := { v.saved with stepping := step } }
  let s := if v.wait = 0 then (s.setDesc d v).makeReady d false else (s.setDesc d { v with state := 3 }).endFlagWait d
  s.schedule

/-- RESUME (R888); DOUBLE for a target that is not HALTED. -/
def dbgResume (s : State) (p : Nat) : State :=
  s.dbgCommand p
    (fun (s : State) g =>
      if (s.thread g).state ≠ 4 then s.dbgResult stDouble else (s.dbgResult stOk).resumeThread g false)
    fun (s : State) d =>
      if (s.desc d).state ≠ 5 then s.dbgResult stDouble else (s.dbgResult stOk).resumeDesc d false

/-- STEP (R888): one bundle, then HALTED again. -/
def dbgStep (s : State) (p : Nat) : State :=
  s.dbgCommand p
    (fun (s : State) g =>
      if (s.thread g).state ≠ 4 then s.dbgResult stDouble else (s.dbgResult stOk).resumeThread g true)
    fun (s : State) d =>
      if (s.desc d).state ≠ 5 then s.dbgResult stDouble else (s.dbgResult stOk).resumeDesc d true

/-- KILL (R889): a packet-engine thread is parked, a descriptor is deleted as by pmp.t.del. -/
def dbgKill (s : State) (p : Nat) : State :=
  s.dbgCommand p
    (fun (s : State) g =>
      if 5 ≤ (s.thread g).state then s.dbgResult stDouble else (s.dbgResult stOk).park g)
    fun (s : State) d =>
      if (s.desc d).state = 2 then s.dbgResult stBusy else (s.freeDesc d).dbgResult stOk

/-- The context of a HALTED descriptor, as its next run will load it. -/
def State.descContext (s : State) (d : Nat) : Thr × State := s.loadContext d

/-- A port that RDREG and WRREG accept (R404, R890). -/
def dbgPort (p : Nat) : Bool := openReg p || p == 0x048

/-- RDREG (R890). -/
def dbgRdreg (s : State) (p : Nat) : State :=
  s.dbgCommand p
    (fun (s : State) g =>
      let r := s.rd Reg.RPL_DBG_CMD_REG
      if !dbgPort r then s.dbgResult stInvalid
      else if (s.thread g).state ≠ 4 then s.dbgResult stBusy
      else
        let v := if r = 0x048 then (s.thread g).pc else ((s.thread g).port r).toNat
        (s.dbgResult stOk).wr Reg.RPL_DBG_DATA_DATA v)
    fun (s : State) d =>
      let r := s.rd Reg.RPL_DBG_CMD_REG
      if !dbgPort r then s.dbgResult stInvalid
      else if (s.desc d).state ≠ 5 then s.dbgResult stBusy
      else
        let (th, s) := s.descContext d
        (s.dbgResult stOk).wr Reg.RPL_DBG_DATA_DATA (if r = 0x048 then th.pc else (th.port r).toNat)

/-- A register or the pc of a thread takes a value. -/
def Thr.dbgWrite (th : Thr) (r : Nat) (v : W32) : Thr := if r = 0x048 then { th with pc := v.toNat } else th.setReg r v

/-- WRREG (R890). -/
def dbgWrreg (s : State) (p : Nat) : State :=
  s.dbgCommand p
    (fun (s : State) g =>
      let r := s.rd Reg.RPL_DBG_CMD_REG
      let v : W32 := BitVec.ofNat 32 (s.rd Reg.RPL_DBG_DATA_DATA)
      if !dbgPort r then s.dbgResult stInvalid
      else if (s.thread g).state ≠ 4 then s.dbgResult stBusy
      else (s.dbgResult stOk).updThread g fun th => if r = 0x048 then { th with pc := v.toNat % 2 ^ 15 } else th.setReg r v)
    fun (s : State) d =>
      let r := s.rd Reg.RPL_DBG_CMD_REG
      let v : W32 := BitVec.ofNat 32 (s.rd Reg.RPL_DBG_DATA_DATA)
      if !dbgPort r then s.dbgResult stInvalid
      else if (s.desc d).state ≠ 5 then s.dbgResult stBusy
      else
        let (th, s) := s.descContext d
        (s.saveContext d (th.dbgWrite r v)).dbgResult stOk

/-- The breakpoint that BRK of RPL_DBG_CMD names, of the target's engine. -/
def State.brkKey (s : State) (g : Nat) : Nat := g / 8 * 4 + s.rd Reg.RPL_DBG_CMD_BRK

/-- BRK_SET (R891): the breakpoint takes ADDR and THREADS of RPL_DBG_BRKn. Engines have breakpoints, descriptors none. -/
def dbgBrkSet (s : State) (p : Nat) : State :=
  s.dbgCommand p
    (fun (s : State) g =>
      let n := s.rd Reg.RPL_DBG_CMD_BRK
      let b := (s.fld Reg.RPL_DBG_BRK_ADDR n 0, s.fld Reg.RPL_DBG_BRK_THREADS n 0)
      { s with rpl := { s.rpl with brk := SMap.set s.rpl.brk (s.brkKey g) b } }.dbgResult stOk)
    fun (s : State) _ => s.dbgResult stInvalid

/-- BRK_CLR (R891). -/
def dbgBrkClr (s : State) (p : Nat) : State :=
  s.dbgCommand p
    (fun (s : State) g =>
      { s with rpl := { s.rpl with brk := SMap.erase s.rpl.brk (s.brkKey g) } }.dbgResult stOk)
    fun (s : State) _ => s.dbgResult stInvalid

/-! ### Lock-down (R800, R840, R892) -/

/-- Every halted target is resumed and every breakpoint cleared (R892). -/
def State.endDebug (s : State) : State :=
  let s := { s with rpl := { s.rpl with brk := [] } }
  let ts := (s.thr.filter fun e => e.1 < 1536 && e.2.state == 4).map Prod.fst
  let s := ts.foldl (fun (s : State) t => s.resumeThread t false) s
  let ds := (s.pmp.descs.filter fun e => e.2.state == 5).map Prod.fst
  ds.foldl (fun (s : State) d => s.resumeDesc d false) s

/-- The life-cycle lock-down: debug closes, hold suspension ends and stays 0, a press wait ends with DENIED, and the fault
log takes an entry (R800, R840, R843, R848). -/
def State.lockdown (s : State) : State :=
  if s.on Reg.FTH_STATUS_LOCKDOWN 0 0 then s
  else
    let s := s.logFault 8 0 []
    let s := (s.setAll [(Reg.FTH_STATUS_LOCKDOWN, 0, 0, 1), (Reg.FTH_STATUS_RIGHTS, 0, 0, 0)])
    let s := match s.fth.press with
      | none => s
      | some (_, p, _) => s.endPress p stDenied
    let s := { s with weir := { s.weir with suspRight := false, suspLocked := true } }
    let s := if s.boot.held then s else (s.setSuspend 0).endDebug
    s.eventSup Reg.FTH_INT_STATUS_LOCKDOWN Reg.FTH_INT_EN_LOCKDOWN

end Sys2Proof.Machine
end

