-- ==== Sys2Proof/Machine/Views.lean ====
section
/-! DEFINITION. What a read of a register returns: the word at a BAR0 offset from its fields, and the fields that show the
state of their block instead of holding a value of their own (Tables 3.9 to 24.2). -/

namespace Sys2Proof.Machine

/-! ### Fields of a word -/

/-- The instance of a field whose word stands at an offset of its page. -/
def Fld.inst (f : Fld) (off : Nat) : Option Nat :=
  if f.stride = 0 then (if off = f.off then some 0 else none)
  else if f.off ≤ off && (off - f.off) % f.stride == 0 && (off - f.off) / f.stride < f.count then
    some ((off - f.off) / f.stride)
  else none

/-- The fields of a word of a page, with their instances. -/
def wordFields (page off : Nat) : List (Fld × Nat) := (Reg.page page).filterMap fun f => (f.inst off).map fun i => (f, i)

/-- The bank of a field that a reader or writer reaches (R901). -/
def Fld.bank (f : Fld) (p : Nat) : Nat := if f.banked then p else 0

/-- The high word of a 64-bit counter, 4 bytes above its low word (R129). -/
def Fld.high (f : Fld) : Fld := { f with off := f.off + 4, lo := 0, w := 32, acc := .ro, stride := f.stride }

/-- Counters of a selected source or cache (EDG_CNT_SEL, IPD_CACHE_SEL): the instance that a reader sees, none for a
selection that reads 0. -/
def State.cntSelected (s : State) (p : Nat) (f : Fld) (i : Nat) : Option Nat :=
  if f.stride ≠ 0 || f.count = 1 || f.acc ≠ .rc then some i
  else if f.page = 10 then
    (if s.fld Reg.EDG_CNT_SEL_SOURCE 0 p ≤ 0x48 then some (s.fld Reg.EDG_CNT_SEL_SOURCE 0 p) else none)
  else if s.fld Reg.IPD_CACHE_SEL_CACHE 0 p ≤ 12 then some (s.fld Reg.IPD_CACHE_SEL_CACHE 0 p)
  else none

/-! ### Fields that show the state of their block -/

/-- Pages 3 and 4: live versions, staging, table counts. -/
def State.viewRules (s : State) (p : Nat) (f : Fld) (i : Nat) : Option Nat :=
  let v := s.version i
  if f = Reg.RUL_VER_NUMBER then some v.number
  else if f = Reg.RUL_VER_STATE then some v.state
  else if f = Reg.RUL_VER_OWNER then some v.owner
  else if f = Reg.RUL_VREF_REFS then some v.refs
  else if f = Reg.RUL_VREF_PINS then some v.pins
  else if f = Reg.RUL_STG_CMD_QUOTA_LEFT then some (s.quotaLeft p (s.fld Reg.RUL_STG_SEL_KIND 0 p))
  else if f = Reg.TBL_COUNT_COUNT then
    some (if i = 0 then s.tbl.l2.length else if i = 1 then s.flowEntries.length else s.tbl.epIdx.length)
  else if f = Reg.TBL_SPACE_USED then some (s.spaceUsed i)
  else if f = Reg.TBL_PORT_USED then some (s.portUsed i)
  else none

/-- Page 5: the pool that CIS_SEL of the reader selects. -/
def State.viewCistern (s : State) (p : Nat) (f : Fld) (i : Nat) : Option Nat :=
  let n := s.fld Reg.CIS_SEL_POOL 0 p
  if f = Reg.CIS_POOL_CFG_SIZE then some (s.poolSize n)
  else if f = Reg.CIS_POOL_CFG_EN then some (flagBit (s.poolEn n))
  else if f = Reg.CIS_POOL_CFG_SCRUB then some (flagBit (s.poolScrub n))
  else if f = Reg.CIS_QUOTA_QUOTA then some (SMap.get (s.pool n).quota i 0)
  else none

/-- Pages 7 and 8: locks held and waits, control engines. -/
def State.viewControl (s : State) (f : Fld) (i : Nat) : Option Nat :=
  if f = Reg.LKG_STATUS_HELD then
    some (s.lkg.locks.filter fun e => !s.isSem e.1 && e.2.holder.isSome && !e.2.abandoned).length
  else if f = Reg.LKG_STATUS_WAITERS then some (s.lkg.locks.foldl (fun n e => n + e.2.waiters.length) 0)
  else if f = Reg.PMP_STATUS_FIFO then some s.pmp.fifo.length
  else if f = Reg.PMP_STATUS_INUSE then some (s.pmp.descs.filter fun e => e.2.state != 0).length
  else if f = Reg.PMP_CE_STATE then some (s.ce i).state
  else if f = Reg.PMP_CE_DESC then some (s.ce i).desc
  else if f = Reg.PMP_CE_EFF then some (s.desc (s.ce i).desc).eff
  else none

/-- Page 9: engines with the states of their threads, and the channel that BSN_CH_SEL selects. -/
def State.viewBasin (s : State) (f : Fld) (i : Nat) : Option Nat :=
  let id := s.rd Reg.BSN_CH_SEL_INDEX
  let k := if 0x200 ≤ id then 12 * 1024 + id else s.rd Reg.BSN_CH_SEL_BASIN * 1024 + id
  if f = Reg.BSN_ENG_CALL then some (s.engEntry i 0)
  else if f = Reg.BSN_THR_STATE then some ((List.range 8).foldl (fun n t => n + s.thrState (8 * i + t) * 8 ^ t) 0)
  else if f = Reg.BSN_CH_CAP_CAP then some (s.chCap k)
  else if f = Reg.BSN_CH_HIGH_HIGH then some (s.chHigh k)
  else if f = Reg.BSN_CH_LOW_LOW then some (s.chLow k)
  else if f = Reg.BSN_CH_ACT_KIND then some (s.chKind k)
  else if f = Reg.BSN_CH_ACT_PIN then some (s.chPin k)
  else if f = Reg.BSN_CH_ACT_PORT then some (s.chPort k)
  else if f = Reg.BSN_CH_ACT_PRI then some (s.chPri k)
  else if f = Reg.BSN_CH_ACT_NOTIFY then some (flagBit (s.chNotify k))
  else if f = Reg.BSN_CH_ACT_PART then some (s.chPart k)
  else if f = Reg.BSN_CH_END_PROD then some (s.chProd k)
  else if f = Reg.BSN_CH_END_CONS then some (s.chCons k)
  else none

/-- The state of a pseudo-channel (IPD_PC_STAT.STATE); tracking takes no time in this model. -/
def State.pcState (s : State) (pc : Nat) : Nat :=
  if bitOf (s.rd Reg.IPD_OFFLINE_PC) pc then 4
  else if s.on Reg.IPD_STATUS_COPYING 0 0 && s.rd Reg.IPD_STATUS_COPY_PC == pc then 3
  else if s.on Reg.IPD_STATUS_FULL_TRAIN 0 0 && s.rd Reg.IPD_STATUS_FT_PC == pc then 2
  else 0

/-- Page 18: the pseudo-channel that IPD_PC_SEL of the reader selects. -/
def State.viewIpd (s : State) (p : Nat) (f : Fld) : Option Nat :=
  let pc := s.fld Reg.IPD_PC_SEL_PC 0 p
  let sp := SMap.get s.mem.pcSpares (s.physOf pc) 0
  if f = Reg.IPD_PC_STAT_PHYS then some (s.physOf pc)
  else if f = Reg.IPD_PC_STAT_STATE then some (s.pcState pc)
  else if f = Reg.IPD_PC_STAT_TEMP then some (s.pchan pc).temp
  else if f = Reg.IPD_PC_STAT_MARGIN then some (s.pchan pc).margin
  else if f = Reg.IPD_PC_SPARE_ROWS then some (bits sp 0 10)
  else if f = Reg.IPD_PC_SPARE_COLS then some (bits sp 10 7)
  else if f = Reg.IPD_PC_SPARE_DQ_LANES then some (bits sp 17 2)
  else if f = Reg.IPD_PC_SPARE_CA_LANE then some (bits sp 19 1)
  else if f = Reg.IPD_PC_CE_COUNT then some (s.pchan pc).ce
  else none

/-- The debounced levels, and the raw levels, of PRES0–PRES7 and SVC_BTN. -/
def State.presLevels (s : State) : Nat := (List.range 9).foldl (fun n i => n + flagBit (s.presIn i).level * 2 ^ i) 0

def State.presRaw (s : State) : Nat := (List.range 9).foldl (fun n i => n + flagBit (s.rawLevel i) * 2 ^ i) 0

/-- Page 16: the crossing that XNG_XSEL of the reader selects. -/
def State.viewCrossing (s : State) (p : Nat) (f : Fld) : Option Nat :=
  let isl := s.fld Reg.XNG_XSEL_ISLAND 0 p
  let chan := s.fld Reg.XNG_XSEL_CHAN 0 p
  let c := s.crossing isl chan
  if f = Reg.XNG_XSTAT_PENDING then some c.pending
  else if f = Reg.XNG_XSTAT_KIND then some ((crossingKind isl chan).getD 0)
  else if f = Reg.XNG_XSTAT_XING_SAT then some (flagBit c.sat)
  else if f = Reg.XNG_XSTAT_FLUSHED then some (flagBit c.flushed)
  else if f = Reg.XNG_XSTAT_HUNG then some (flagBit (s.hungAt isl))
  else none

/-- Page 17: the identity of the reading partition. -/
def State.viewHost (s : State) (p : Nat) (f : Fld) : Option Nat :=
  if f = Reg.HST_PART_PART then some p
  else if f = Reg.HST_PART_SUP then some (flagBit (s.isSup p))
  else if f = Reg.HST_PART_KIND then some (if s.bindOf p = 0 then 0 else if s.bindOf p ≤ 4 then 1 else 2)
  else none

/-- The fields that show the state of their block. -/
def State.view (s : State) (p : Nat) (f : Fld) (i : Nat) : Option Nat :=
  match f.page with
  | 0 => if f = Reg.GEN_STATUS_PRES then some s.presLevels else none
  | 1 => if f = Reg.WEIR_STATUS_INFLIGHT then some s.inflight else none
  | 3 | 4 => s.viewRules p f i
  | 5 => s.viewCistern p f i
  | 6 => if f = Reg.SLU_STATUS_COPIES then some s.copiesQueued else none
  | 7 | 8 => s.viewControl f i
  | 9 => s.viewBasin f i
  | 10 =>
    if f = Reg.EDG_PRES_LEVEL then some s.presLevels else if f = Reg.EDG_PRES_RAW then some s.presRaw else none
  | 15 =>
    if f = Reg.RPL_DBG_BRK_EN then some (flagBit (SMap.find s.rpl.brk (s.dbgTarget / 8 * 4 + i)).isSome) else none
  | 16 => s.viewCrossing p f
  | 17 => s.viewHost p f
  | 18 => s.viewIpd p f
  | _ => none

/-- What a read of a field returns: WO fields return 0 (R14). -/
def State.fieldRead (s : State) (p : Nat) (f : Fld) (i : Nat) : Nat :=
  if f.acc = .wo then 0
  else
    match s.view p f i with
    | some v => v
    | none =>
      match s.cntSelected p f i with
      | some j => s.fld f j (f.bank p)
      | none => 0

/-- The word at an offset of a page, as a reader of bank p sees it; an offset without register reads 0 (R897). -/
def State.wordRead (s : State) (p page off : Nat) : Nat :=
  if page = 14 && 0x1000 ≤ off && off < 0x2000 then leNat (s.window p (off - 0x1000) 4)
  else (wordFields page off).foldl (fun n e => n + s.fieldRead p e.1 e.2 % 2 ^ min 32 e.1.w * 2 ^ e.1.lo) 0 % 2 ^ 32

/-- The read effect of one field: an RC field clears, a 64-bit counter first copies its high word; WEIR_INFLIGHT_HWM takes
the current INFLIGHT (R17, R129). -/
def State.readEffect (s : State) (p : Nat) (f : Fld) (i : Nat) : State :=
  if f.acc ≠ .rc then s
  else if f = Reg.IPD_PC_CE_COUNT then
    let pc := s.fld Reg.IPD_PC_SEL_PC 0 p
    s.setPchan pc { s.pchan pc with ce := 0 }
  else
    match s.cntSelected p f i with
    | none => s.setFld f.high i (f.bank p) 0
    | some j =>
      let v := s.fld f j (f.bank p)
      let s := if f.w = 64 then s.setFld f.high i (f.bank p) (v / 2 ^ 32) else s
      s.setFld f j (f.bank p) (if f = Reg.WEIR_INFLIGHT_HWM then s.inflight else 0)

/-- A read of a word: its value, and the state after its read effects. -/
def State.wordTake (s : State) (p page off : Nat) : Nat × State :=
  (s.wordRead p page off, (wordFields page off).foldl (fun s e => s.readEffect p e.1 e.2) s)

end Sys2Proof.Machine
end

