-- ==== Sys2Proof/Machine/RegAccess.lean ====
section
/-! DEFINITION. Accesses to the register map: reads with their effects, writes by access code, and the command words
(Table 0.7, R14 to R18, R897 to R904, R934). -/

namespace Sys2Proof.Machine

/-! ### How a host access reaches the device (R902, R903) -/

/-- Pages that answer from the always-on domain and retained state in STILL. -/
def alwaysOnPage (page : Nat) : Bool := [0, 12, 13, 14, 16, 17].contains page

/-- A host access in STILL first wakes the device; a page outside the always-on domain answers only in FLOW (R903). -/
def State.hostAccess (s : State) (page : Nat) (f : State → State) : State :=
  let s := s.hostWakes
  if s.rd Reg.PWR_STATUS_STATE = 3 && !alwaysOnPage page then s else f s

/-- A host write to a page reaches it (R897, R902). -/
def State.hostWr (s : State) (p page : Nat) (f : State → State) : State := if s.pageOk p page then s.hostAccess page f else s

/-- An access of a host that a reset of the partition does not stop: a read, or a write outside BAR0 (R897, R902). -/
def State.hostRd (s : State) (p page : Nat) (f : State → State) : State := if s.pageReads p page then s.hostAccess page f else s

/-- A command that a partition writes; part 4 stands for the control plane or the test access port. -/
def State.hostCmd (s : State) (p page : Nat) (f : State → State) : State := if p < 4 then s.hostWr p page f else f s

/-- A staging or commit command of a partition. Under the fallback bridge its page answers nothing (R897), yet the command
answers INVALID in RESULT (Tables 5.4 and 5.5, log 76). -/
def State.ruleCmd (s : State) (p : Nat) (f : State → State) : State :=
  if s.bridgeRuns && p < 4 then (if (s.linkOf p).isSome && !s.on Reg.HST_STATUS_RESET_BUSY 0 p then f s else s)
  else s.hostCmd p 3 f

/-- A read with an effect of its own; part 4 stands for the management SPI port. -/
def State.hostGet (s : State) (p page : Nat) (f : State → State) : State := if p < 4 then s.hostRd p page f else f s

/-! ### Reads -/

/-- A read of one word by a partition, or by the management SPI port as bank 4: snapshots, cursors and RC fields take
effect (R128, R129, R476, R508, R662, R850, R872). -/
def State.readWord (s : State) (p page off : Nat) : State :=
  match page, off with
  | 1, 0x34 => weirDomStat0Read s p
  | 5, 0x18 => cisPoolCountRead s p
  | 8, 0x84 => pmpDescRead s p
  | 9, 0x218 => bsnChStat0Read s p
  | 14, 0x40 => flogCountRead s p
  | 14, 0x44 => flogDataRead s p
  | 14, 0x360 => rsvCountRead s p
  | 14, 0x364 => rsvDataRead s p
  | _, _ => ((s.wordTake p page off).2).emit (.reg p (s.wordTake p page off).1)

/-- A read whose byte enables are not all set returns the word without its read effects: no RC field clears, no cursor
advances and no snapshot is taken (R899). -/
def State.readMasked (s : State) (be : Nat) (f : State → State) : State :=
  if be % 16 = 15 then f s else { s with out := (f s).out, fresh := (f s).fresh }

/-- RC_FIELD_READ: a 32-bit read of BAR0 with its byte enables. A word without RC fields is returned without effect. -/
def rcFieldRead (s : State) (p addr be : Nat) : State :=
  if addr % 4 ≠ 0 then s
  else s.hostRd p (addr / 65536) fun s => s.readMasked be fun s => s.readWord p (addr / 65536) (addr % 65536)

/-- The word holds the low word of a 64-bit counter. -/
def counterWord (page off : Nat) : Bool := (wordFields page off).any fun e => e.1.w == 64

/-- COUNTER_LOW_WORD_READ: the low word of a 64-bit counter is returned, the high word is copied, the counter clears
(R129), where the byte enables are all set (R899). -/
def counterLowWordRead (s : State) (p addr be : Nat) : State :=
  if addr % 4 ≠ 0 || !counterWord (addr / 65536) (addr % 65536) then s
  else
    s.hostRd p (addr / 65536) fun s => s.readMasked be fun s =>
      let (v, s') := s.wordTake p (addr / 65536) (addr % 65536)
      s'.emit (.reg p v)

/-- BAR0_PARTIAL_WRITE: ignored, counted, and raised in the partition's bank (R898). -/
def bar0PartialWrite (s : State) (p : Nat) : State :=
  s.hostWr p 0 fun s =>
    (s.bumpFld Reg.GEN_ACCESS_CNT 0 p 1).event Reg.GEN_INT_STATUS_ACCESS_ERR Reg.GEN_INT_EN_EN p p

/-! ### Writes by access code -/

/-- A field of a receive or transmit ring that may be written: only of a DISABLED queue, LOG2 from 4 to 16, SLOT from 8 to
14 (R720, Table 17.10). -/
def State.ringWritable (s : State) (p : Nat) (f : Fld) (i x : Nat) : Bool :=
  let rx := [Reg.HST_RXQ_BASE_LO, Reg.HST_RXQ_BASE_HI, Reg.HST_RXQ_WB_LO, Reg.HST_RXQ_WB_HI, Reg.HST_RXQ_LOG2, Reg.HST_RXQ_SLOT]
  let tx := [Reg.HST_TXQ_BASE_LO, Reg.HST_TXQ_BASE_HI, Reg.HST_TXQ_WB_LO, Reg.HST_TXQ_WB_HI, Reg.HST_TXQ_LOG2, Reg.HST_TXQ_SLOT]
  (!rx.contains f || s.fld Reg.HST_RXQ_STATE i p == 0) && (!tx.contains f || s.fld Reg.HST_TXQ_STATE i p == 0) &&
    (!(f == Reg.HST_RXQ_LOG2 || f == Reg.HST_TXQ_LOG2) || (decide (4 ≤ x) && decide (x ≤ 16))) &&
    (!(f == Reg.HST_RXQ_SLOT || f == Reg.HST_TXQ_SLOT) || (decide (8 ≤ x) && decide (x ≤ 14)))

/-- The write of a value to a field that the device ignores by a rule of its own. -/
def State.writeIgnored (s : State) (p : Nat) (f : Fld) (i x : Nat) : Bool :=
  (f.sup && !s.isSup p && p != 4) || !s.ringWritable p f i x || (f == Reg.RPL_RATE_RATE && decide (256 < x))

/-- An event that becomes enabled while its bit is set is signalled (R906 and its like): RETIRED to every partition (R189,
R201). -/
def State.signalEnabled (s : State) (p : Nat) (en : Fld) (old new : Nat) : State :=
  ((wordFields en.page (en.off - 4)).filter fun e => e.1.acc == .rw1c).foldl (fun (s : State) e =>
    let st := e.1
    let on (v : Nat) : Nat := bits (v * 2 ^ en.lo) st.lo st.w
    let fresh := on new - (on new &&& on old)
    let banks := if !st.banked then [0] else if en.banked then [p] else [0, 1, 2, 3]
    let told (b : Nat) : List Nat :=
      if st.banked then [b] else if st == Reg.RUL_INT_STATUS_RETIRED then [0, 1, 2, 3] else [s.supervisor]
    banks.foldl (fun (s : State) b =>
      if s.fld st 0 b &&& fresh = 0 then s
      else (told b).foldl (fun (s : State) q => s.signalVec q (128 + en.page)) s) s) s

/-- The offsets of the event enables: 4 above a word of RW1C fields. -/
def isEnable (f : Fld) : Bool := 4 ≤ f.off && (wordFields f.page (f.off - 4)).any fun e => e.1.acc == .rw1c

/-- The write of one field by its access code (Table 0.7). -/
def State.fieldWrite (s : State) (p : Nat) (f : Fld) (i v : Nat) : State :=
  let x := bits v f.lo f.w
  let b := f.bank p
  let old := s.fld f i b
  if s.writeIgnored p f i x then s
  else
    match f.acc with
    | .rw =>
      let s := s.setFld f i b x
      if isEnable f then s.signalEnabled p f old x else s
    | .rw1c => s.setFld f i b (old - (old &&& x))
    | .rw1s => s.setFld f i b (old ||| x)
    | _ => s

/-- The write of a word, field by field. -/
def State.fieldsWrite (s : State) (p page off v : Nat) : State :=
  (wordFields page off).foldl (fun s e => s.fieldWrite p e.1 e.2 v) s

/-- XNG_XSTAT: RW1C bits of the crossing that XNG_XSEL of the writer selects, for the supervisor alone (R804). -/
def State.xstatWrite (s : State) (p v : Nat) : State :=
  if !s.isSup p && p ≠ 4 then s
  else
    let isl := s.fld Reg.XNG_XSEL_ISLAND 0 p
    let chan := s.fld Reg.XNG_XSEL_CHAN 0 p
    let c := s.crossing isl chan
    s.setCrossing isl chan { c with sat := c.sat && !bitOf v 17, flushed := c.flushed && !bitOf v 18 }

/-! ### Command words -/

/-- Free bytes for a command whose entropy a write does not carry. -/
def State.entropy : State → Nat → List Byte × State
  | s, 0 => ([], s)
  | s, n + 1 =>
    let (v, s) := s.free
    let (l, s) := s.entropy n
    (leBytes 4 v.toNat ++ l, s)

/-- FTH_CMD (Table 21.13): 0 starts nothing, a code above 8 answers INVALID. -/
def State.fthCmdWrite (s : State) (p v : Nat) : State :=
  let arg := bits v 8 3
  let bank (s : State) : State := s.setFld Reg.FTH_CMD_ARG 0 p arg
  match bits v 0 4 with
  | 0 => s
  | 1 =>
    let (e, s) := (bank s).entropy 8
    fthNonce s s.wall p e
  | 2 => fthToken (bank s) s.wall p
  | 3 => fthAttest (bank s) p
  | 4 => fthConfirm (bank s) p
  | 5 =>
    let (e, s) := s.entropy 8
    fthLcAdvance s p arg e
  | 6 => fthProvision (bank s) p
  | 7 => fthImgErase s p arg
  | 8 => fthImgVerify s p arg
  | _ => s.fthCommandArg p arg fun s => (stInvalid, s)

/-- FTH_WIN_CMD: GO starts the transfer; without it the fields are set. -/
def State.winCmdWrite (s : State) (p v : Nat) : State :=
  let target := bits v 0 4
  let off := bits v 16 11
  if !bitOf v 5 then s.winFields p target (bits v 4 1) off
  else if bitOf v 4 then fthWinWrite s p target off
  else fthWinRead s p target off

/-- RUL_STG_CMD, TBL_CMD and SLU_CMD. A reserved code answers INVALID, and 0 starts nothing. -/
def State.tableCmdWrite (s : State) (p page v : Nat) : State :=
  match page, v with
  | 3, 1 => rulStgWrite s p
  | 3, 2 => rulStgRead s p
  | 3, 3 => rulStgClear s p
  | 4, 1 => tblInsert s p
  | 4, 2 => tblDelete s p
  | 4, 3 => tblRead s p
  | 4, 4 => tblUpdate s p
  | 4, 5 => tblFlush s p
  | 4, 6 => tblNext s p
  | 4, 7 => tblReserved s p
  | 6, 1 => sluRead s p
  | 6, 2 => sluWrite s p
  | 6, 3 => sluFlush s p
  | 6, 4 => sluClear s p
  | 6, 5 => sluReserved s p
  | 6, 6 => sluReserved s p
  | 6, 7 => sluReserved s p
  | _, _ => s

/-- RUL_PIN: PIN and UNPIN of VERSION. -/
def State.pinWrite (s : State) (p v : Nat) : State :=
  let s := s.fieldsWrite p 3 0x8 v
  let s := if bitOf v 16 then rulPinPin s p (bits v 0 16) else s
  if bitOf v 17 then rulPinUnpin s p (bits v 0 16) else s

/-- LKG_HREQ1: GO starts the request of LKG_HREQ0 and LKG_HREQ1. -/
def State.hreqWrite (s : State) (p v : Nat) : State :=
  let s := s.fieldsWrite p 7 0x44 v
  if bitOf v 7 then
    lkgHostRequest s p (s.fld Reg.LKG_HREQ0_OP 0 p) (s.fld Reg.LKG_HREQ0_LOCK 0 p) (s.fld Reg.LKG_HREQ0_N 0 p) (bits v 0 6)
      (bits v 8 24)
  else s

/-- LKG_CMD: 1 FORCE, 2 SETCOUNT. -/
def State.lkgCmdWrite (s : State) (p v : Nat) : State :=
  match bits v 13 3 with
  | 0 => s
  | 1 => lkgForce (s.fieldsWrite p 7 0x50 v) p (bits v 0 13)
  | 2 => lkgSetcount (s.fieldsWrite p 7 0x50 v) p (bits v 0 13) (bits v 16 16)
  | _ => s.fieldsWrite p 7 0x50 v

/-- BSN_ENG_CMD: 1 RESET, 2 SWAP, 3 ACK_ESC, others INVALID (Table 7.13). -/
def State.engCmdWrite (s : State) (p v : Nat) : State :=
  let e := bits v 0 8
  match bits v 8 3 with
  | 0 => s
  | 1 => bsnEngReset (s.fieldsWrite p 9 0x4 v) p e
  | 2 => bsnEngSwap (s.fieldsWrite p 9 0x4 v) p e
  | 3 => bsnEngAckEsc (s.fieldsWrite p 9 0x4 v) p e
  | _ => (s.fieldsWrite p 9 0x4 v).engCmd p e fun s => s.engResult stInvalid

/-- BSN_HLPb: both enable requests; the known-answer test of a helper that powers up ends as a free value says. -/
def State.hlpEnWrite (s : State) (p b v : Nat) : State :=
  let (kat, s) := s.free
  let one (s : State) (h : Nat) : State :=
    if bitOf v h then helperEnable s p b h (bitOf kat.toNat h) else helperDisable s p b h
  one (one s 0) 1

/-- TIM_CMD: SNAP, and STEP for the supervisor. -/
def State.timCmdWrite (s : State) (p v : Nat) : State :=
  let s := s.fieldsWrite p 11 0x4 v
  let s := if bitOf v 0 then timSnap s p else s
  if bitOf v 1 then timStep s p (bits v 4 2) else s

/-- RPL_CMD. -/
def State.rplCmdWrite (s : State) (p v : Nat) : State :=
  match bits v 0 3 with
  | 1 => rplTrigger s p
  | 2 => rplFreeze s p
  | 3 => rplRelease s p
  | 4 => rplExport s p
  | 5 => rplReplay s p
  | 6 => rplAbort s p
  | _ => s

/-- RPL_DBG_CMD. -/
def State.dbgCmdWrite (s : State) (p v : Nat) : State :=
  match bits v 0 4 with
  | 1 => dbgHalt (s.fieldsWrite p 15 0x84 v) p
  | 2 => dbgResume (s.fieldsWrite p 15 0x84 v) p
  | 3 => dbgStep (s.fieldsWrite p 15 0x84 v) p
  | 4 => dbgKill (s.fieldsWrite p 15 0x84 v) p
  | 5 => dbgRdreg (s.fieldsWrite p 15 0x84 v) p
  | 6 => dbgWrreg (s.fieldsWrite p 15 0x84 v) p
  | 7 => dbgBrkSet (s.fieldsWrite p 15 0x84 v) p
  | 8 => dbgBrkClr (s.fieldsWrite p 15 0x84 v) p
  | _ => s

/-- FTH_ST_CMD. -/
def State.stCmdWrite (s : State) (p v : Nat) : State :=
  match bits v 0 2 with
  | 1 => fthStRegion s p (bits v 4 4)
  | 2 => fthStFull (s.fieldsWrite p 14 0x304 v) p
  | 3 => fthStAbort (s.fieldsWrite p 14 0x304 v) p
  | _ => s

/-- Word 2 of a ring: its fields, then EN. -/
def State.ringWrite (s : State) (p off v : Nat) : State :=
  let tx := 0x900 ≤ off
  let q := (off - (if tx then 0x908 else 0x108)) / 32
  let s := ((wordFields 17 off).filter fun e => e.1.lo != 0).foldl (fun s e => s.fieldWrite p e.1 e.2 v) s
  if bitOf v 0 then hostQueueEnable s p tx q else hostQueueDisable s p tx q

/-- The command words of pages 1 to 9; none for another word. -/
def State.commandLow (s : State) (p page off v : Nat) : Option State :=
  match page, off with
  | 1, 0x20 => some (weirHoldSuspendWrite s p v)
  | 3, 0x4 => some (if bitOf v 0 then commitRequest s p else s)
  | 3, 0x8 => some (s.pinWrite p v)
  | 3, 0x44 => some (s.tableCmdWrite p 3 (bits v 0 2))
  | 4, 0x84 => some (s.tableCmdWrite p 4 (bits v 0 3))
  | 5, 0x80 => some (if bitOf v 0 then cisErrPop s p else s)
  | 6, 0x14 => some (s.tableCmdWrite p 6 (bits v 0 3))
  | 7, 0x44 => some (s.hreqWrite p v)
  | 7, 0x50 => some (s.lkgCmdWrite p v)
  | 8, 0x4 =>
    let t := s.fieldsWrite p 8 0x4 v
    some (if bitOf v 3 then pmpCeRestart t p (bits v 0 3) else t)
  | 8, 0x40 => some (pmpPostWrite s p v)
  | 9, 0x4 => some (s.engCmdWrite p v)
  | _, _ =>
    if page = 5 && 0x30 ≤ off && off < 0x44 then some (cisQuotaWrite s p ((off - 0x30) / 4) v)
    else if page = 9 && 0x80 ≤ off && off < 0xB0 then some (s.hlpEnWrite p ((off - 0x80) / 4) v)
    else none

/-- The command words of pages 10 to 17; none for another word. -/
def State.commandHigh (s : State) (p page off v : Nat) : Option State :=
  match page, off with
  | 10, 0x10 =>
    some (match bits v 8 2 with
      | 1 => edgLaneRetrain (s.fieldsWrite p 10 0x10 v) p (bits v 0 5)
      | 2 => edgLaneSpare (s.fieldsWrite p 10 0x10 v) p (bits v 0 5)
      | _ => s)
  | 11, 0x4 => some (s.timCmdWrite p v)
  | 12, 0x64 =>
    some (match bits v 0 2 with
      | 1 => pwrEnterDry s s.wall p
      | 2 => pwrWake s s.wall p
      | _ => s)
  | 14, 0x4 => some (s.fthCmdWrite p v)
  | 14, 0x8 => some (s.winCmdWrite p v)
  | 14, 0x304 => some (s.stCmdWrite p v)
  | 15, 0x60 => some (s.rplCmdWrite p v)
  | 15, 0x84 => some (s.dbgCmdWrite p v)
  | 16, 0x8 => some (if bitOf v 4 then xngIslReset s p (bits v 0 4) else s.fieldsWrite p 16 0x8 v)
  | 16, 0x14 => some (s.xstatWrite p v)
  | 17, 0x8 => some (hstLatWrite s p (bits v 0 20))
  | 17, 0xC =>
    let t := s.fieldsWrite p 17 0xC v
    some (if bitOf v 3 then hstPrstGo t p (bits v 0 3) else t)
  | _, _ =>
    if page = 11 && 0x40 ≤ off && off < 0x50 then some (timRateWrite s p ((off - 0x40) / 4) v)
    else if page = 14 && 0x1000 ≤ off && off < 0x2000 then some (s.setWindow p (off - 0x1000) (leBytes 4 v))
    else if page = 17 && 0x100 ≤ off && off < 0x1100 && off % 32 = 8 then some (s.ringWrite p off v)
    else none

/-- A 32-bit write to a word of BAR0. -/
def State.wordWrite (s : State) (p page off v : Nat) : State :=
  match (if page < 10 then s.commandLow p page off v else s.commandHigh p page off v) with
  | some t => t
  | none => s.fieldsWrite p page off v

/-! ### BAR2 (R721, R904) -/

/-- A word of the MSI-X table. Unmasking a vector sends its pending message (R721). -/
def State.msixWrite (s : State) (p w v : Nat) : State :=
  let k := p * 8192 + w
  let s := { s with hst := { s.hst with msix := SMap.put s.hst.msix k v (if w % 4 = 3 then 1 else 0) } }
  let pend := p * 2048 + w / 4
  let open_ := w % 4 == 3 && v % 2 == 0 && s.linkRuns p
  if open_ && s.hst.pba.contains pend then
    { s with hst := { s.hst with pba := s.hst.pba.filter (· != pend) } }.emit (.msix p (w / 4))
  else s

/-- A 32-bit write to BAR2: the doorbells, then the MSI-X table (R699, R904). -/
def State.bar2Write (s : State) (p addr v : Nat) : State :=
  if addr < 0x40000 then (if addr % 4096 = 0 then txDoorbellWrite s p (addr / 4096) v else s)
  else if addr < 0x80000 then (if addr % 4096 = 0 then rxDoorbellWrite s p (addr / 4096 - 64) v else s)
  else if addr < 0x88000 then s.msixWrite p ((addr - 0x80000) / 4) v
  else s

/-- REGISTER_WRITE: a whole 32-bit write by a partition, to BAR0 or BAR2. A reset of the partition stops its BAR0 writes
(R902) and its doorbells (Sequence 17.1), but not a write to the MSI-X table. Part 4 is the control plane through its
privileged ports: it reaches its own bank of the rule page, to stage PD's region (R168), and the time page (R627); DEDUCED,
log 184. -/
def registerWrite (s : State) (p : Nat) (bar2 : Bool) (addr v : Nat) : State :=
  if addr % 4 ≠ 0 then s
  else if bar2 then
    if addr < 0x80000 then s.hostWr p 17 fun s => s.bar2Write p addr v else s.hostRd p 17 fun s => s.bar2Write p addr v
  else if p < 4 then s.hostWr p (addr / 65536) fun s => s.wordWrite p (addr / 65536) (addr % 65536) v
  else if s.imageRuns && (addr / 65536 = 3 || addr / 65536 = 11) then s.wordWrite p (addr / 65536) (addr % 65536) v
  else s

end Sys2Proof.Machine
end

