-- ==== Sys2Proof/Machine/Spi.lean ====
section
/-! DEFINITION. The management SPI port: frames, the status byte, reads and writes of registers, and the actions (R798 to
R803, R905; Tables 19.6 and 19.7). -/

namespace Sys2Proof.Machine

/-! ### Frames -/

/-- Byte n of a frame. -/
def frameByte (f : List Byte) (n : Nat) : Nat := (f.getD n 0).toNat

/-- Length of a frame with an opcode; none for an opcode that Table 19.6 does not list. -/
def spiLength (op : Nat) : Option Nat :=
  if op = 1 then some 10 else if op = 2 || (0x20 ≤ op && op ≤ 0x23) then some 9 else none

/-- The frame has its opcode's length, its CRC, and for an action its confirmation (R802). -/
def spiGood (f : List Byte) : Bool :=
  match spiLength (frameByte f 0) with
  | none => false
  | some n =>
    f.length == n && frameByte f (n - 1) == crc8 (f.take (n - 1)) &&
      (frameByte f 0 < 0x20 || (f.drop 4).take 4 == [0x5A, 0xF0, 0x00, f.getD 0 0])

/-- The byte address of a READ or WRITE. -/
def spiAddr (f : List Byte) : Nat := beNat ((f.drop 1).take 3)

/-- An SPI action is still completing: the reset that RESET started. -/
def State.spiBusy (s : State) : Bool :=
  s.boot.held && s.boot.stage == 0 && !s.boot.dry && s.rd Reg.XNG_RESET_CAUSE_CAUSE == 2

/-- The status byte (Table 19.7). -/
def State.spiStatus (s : State) : Nat :=
  s.fth.spiResult % 16 + 16 * flagBit s.fth.spiErr + 32 * flagBit (!s.boot.held) +
    64 * s.rd Reg.FTH_STATUS_DEGRADED + 128 * flagBit s.spiBusy

/-- The bytes of MISO: the status byte, and the further bytes of a READ. -/
def State.miso (s s0 : State) (more : List Byte) : State := s.emit (.spi (BitVec.ofNat 8 s0.spiStatus :: more))

/-- A frame ends with a result. -/
def State.spiDone (s : State) (r : Nat) : State := { s with fth := { s.fth with spiResult := r, spiErr := false } }

/-- A frame that reached a sleeping device wakes it, where the image enables the source (Table 20.2, code 5). -/
def State.spiWakes (s s0 : State) : State :=
  let slept (x : State) : Bool := x.boot.dry || x.rd Reg.PWR_STATUS_STATE == 3
  if slept s0 && slept s then wakeEvent s s.wall 5 else s

/-- A frame of one opcode: nothing while the always-on supplies are low, FRAME_ERR for a bad frame (R802), else the effect
`f` on a good frame with its opcode, which answers the result and the bytes after the status byte. -/
def State.spiFrame (s : State) (now op : Nat) (frame : List Byte) (f : State → Nat × List Byte × State) : State :=
  let s := s.upTo now
  if s.boot.brownout then s
  else if frameByte frame 0 ≠ op then s.miso s []
  else if !spiGood frame then ({ s with fth := { s.fth with spiErr := true } }).miso s []
  else
    let (r, more, t) := f s
    ((t.spiDone r).miso s more).spiWakes s

/-! ### READ and WRITE (R803) -/

/-- Pages that a READ reaches. -/
def spiReadPage (page : Nat) : Bool := [0, 13, 14, 16].contains page

/-- Words that read 0 over the port: GEN_SCRATCH, GEN_ACCESS_CNT and the GEN_ interrupt registers (R905). -/
def spiReadsZero (page off : Nat) : Bool := page == 0 && [0x20, 0x100, 0x104, 0x200, 0x204].contains off

/-- Words whose read moves a cursor, and which show their value afterwards. -/
def cursorWord (page off : Nat) : Bool := page == 14 && [0x40, 0x44, 0x360, 0x364].contains off

/-- The value of a READ, and the state after its read effects. -/
def State.spiWord (s : State) (page off : Nat) : Nat × State :=
  if spiReadsZero page off then (0, s)
  else
    let t := s.readWord 4 page off
    ((if cursorWord page off then t else s).wordRead 4 page off, { t with out := s.out })

/-- SPI_READ: data bytes, most significant first, then their CRC. -/
def spiRead (s : State) (now : Nat) (frame : List Byte) : State :=
  s.spiFrame now 1 frame fun s =>
    let a := spiAddr frame
    if a % 4 ≠ 0 || !spiReadPage (a / 65536) then
      (stDenied, [0, 0, 0, 0, BitVec.ofNat 8 (crc8 [0, 0, 0, 0])], s)
    else
      let (v, t) := s.spiWord (a / 65536) (a % 65536)
      (stOk, beBytes 4 v ++ [BitVec.ofNat 8 (crc8 (beBytes 4 v))], t)

/-- Words of the XNG_ page that a supervisor host may write. -/
def spiWritable (off : Nat) : Bool := [0x8, 0x10, 0x14, 0x200, 0x204].contains off

/-- SPI_WRITE to an XNG_ word: as a supervisor host writes it. -/
def spiWrite (s : State) (now : Nat) (frame : List Byte) : State :=
  s.spiFrame now 2 frame fun s =>
    let a := spiAddr frame
    let off := a % 65536
    let v := beNat ((frame.drop 4).take 4)
    if a / 65536 ≠ 16 || !spiWritable off then (stDenied, [], s)
    else if off = 0x8 then
      (stOk, [], if bitOf v 4 then s.islCmd (bits v 0 4) else s.wr Reg.XNG_ISL_CMD_ISLAND (bits v 0 4))
    else if off = 0x14 then (stOk, [], s.xstatWrite 4 v)
    else (stOk, [], s.fieldsWrite 4 16 off v)

/-! ### Actions (R794, R799 to R801) -/

/-- An action: BUSY while one is still completing (Table 19.7). -/
def State.spiAction (s : State) (now op : Nat) (frame : List Byte) (f : State → Nat × State) : State :=
  s.spiFrame now op frame fun s =>
    if s.spiBusy then (stBusy, [], s)
    else
      let (r, t) := f s
      (r, [], t)

/-- SPI_RESET: a device reset with cause 2; DOUBLE where one runs already, into which it merges (R796). -/
def spiReset (s : State) (now : Nat) (frame : List Byte) : State :=
  s.spiAction now 0x20 frame fun s =>
    if s.boot.held && s.boot.stage != 4 && !s.boot.dry then (stDouble, s) else (stOk, s.deviceReset 2 0 s.inflight)

/-- SPI_FREEZE: the ring freezes (R880); DOUBLE where it does not record. -/
def spiFreeze (s : State) (now : Nat) (frame : List Byte) : State :=
  s.spiAction now 0x21 frame fun s => (if (s.freeze 2).1 then stOk else stDouble, (s.freeze 2).2)

/-- SPI_DRY: entry to DRY by the wedge-proof path; DOUBLE in DRY. -/
def spiDry (s : State) (now : Nat) (frame : List Byte) : State :=
  s.spiAction now 0x22 frame fun s => if s.boot.dry then (stDouble, s) else (stOk, s.enterDry)

/-- SPI_LOCKDOWN: the life-cycle lock-down; DOUBLE where it was made since the reset. -/
def spiLockdown (s : State) (now : Nat) (frame : List Byte) : State :=
  s.spiAction now 0x23 frame fun s =>
    (if s.on Reg.FTH_STATUS_LOCKDOWN 0 0 then stDouble else stOk, s.lockdown)

/-- SPI_FRAME_ERROR: a frame with a bad length, CRC or confirmation sets FRAME_ERR and has no other effect; a frame with an
opcode that Table 19.6 does not list has none. -/
def spiFrameError (s : State) (now : Nat) (frame : List Byte) : State :=
  let s := s.upTo now
  if s.boot.brownout || spiGood frame then s
  else if (spiLength (frameByte frame 0)).isNone then s.miso s []
  else ({ s with fth := { s.fth with spiErr := true } }).miso s []

end Sys2Proof.Machine
end

