-- ==== Sys2Proof/Machine/ExecControl.lean ====
section
/-! DEFINITION. The meanings of the commands of Lockgate, engines, the Pumphouse, helpers and basins, one definition for each row of the opcode table. -/

namespace Sys2Proof.Machine

/-- CH_WAIT_TIMEOUT (R383). -/
def execChWaitTimeout (now : Nat) (t : Fin 1544) (s : State) : Host.Outcome State Fault Refusal :=
  .next (chWaitTimeout s now t.val)

/-- LOCK_WAIT_TIMEOUT (R670). -/
def execLockWaitTimeout (now : Nat) (req : BitVec 16) (s : State) : Host.Outcome State Fault Refusal :=
  .next (lockWaitTimeout s now req.toNat)

/-- TIMER_EXPIRE (R393). -/
def execTimerExpire (now : Nat) (t : Fin 1544) (s : State) : Host.Outcome State Fault Refusal :=
  .next (timerExpire s now t.val)

/-- HELPER_ORPHAN_END (R429). -/
def execHelperOrphanEnd (b : Fin 12) (h : Fin 2) (s : State) : Host.Outcome State Fault Refusal :=
  .next (helperOrphanEnd s b.val h.val)

/-- HELPER_DISABLE (R433). -/
def execHelperDisable (part : Fin 4) (b : Fin 12) (h : Fin 2) (s : State) : Host.Outcome State Fault Refusal :=
  .next (s.hostCmd part.val 9 fun s => helperDisable s part.val b.val h.val)

/-- HELPER_ENABLE (R434). -/
def execHelperEnable (part : Fin 4) (b : Fin 12) (h : Fin 2) (katPass : Bool)
    (s : State) : Host.Outcome State Fault Refusal :=
  .next (s.hostCmd part.val 9 fun s => helperEnable s part.val b.val h.val katPass)

/-- HELPER_SHUTDOWN_DONE (R433). -/
def execHelperShutdownDone (b : Fin 12) (h : Fin 2) (katPass : Bool) (s : State) : Host.Outcome State Fault Refusal :=
  .next (helperShutdownDone s b.val h.val katPass)

/-- FAULT_ACK_TIMEOUT (R277). -/
def execFaultAckTimeout (now : Nat) (t : Fin 1536) (s : State) : Host.Outcome State Fault Refusal :=
  .next (faultAckTimeout s now t.val)

/-- DEADLOCK_TIMEOUT (R282). -/
def execDeadlockTimeout (now : Nat) (e : Fin 192) (s : State) : Host.Outcome State Fault Refusal :=
  .next (deadlockTimeout s now e.val)

/-- ESCALATION_POST (R279). -/
def execEscalationPost (e : Fin 192) (s : State) : Host.Outcome State Fault Refusal :=
  .next (escalationPost s e.val)

/-- ENGINE_RESET (R284). -/
def execEngineReset (e : Fin 192) (s : State) : Host.Outcome State Fault Refusal :=
  .next (engineReset s e.val)

/-- ENGINE_SPARE_SUBSTITUTE (R289). -/
def execEngineSpareSubstitute (e : Fin 192) (s : State) : Host.Outcome State Fault Refusal :=
  .next (engineSpareSubstitute s e.val)

/-- ENGINE_FAIL_NO_SPARE (R293). -/
def execEngineFailNoSpare (e : Fin 192) (s : State) : Host.Outcome State Fault Refusal :=
  .next (engineFails s e.val)

/-- POST_FIFO_TAKE (R647). -/
def execPostFifoTake (s : State) : Host.Outcome State Fault Refusal :=
  .next (postFifoTake s)

/-- BASIN_SWITCH_BEGIN (R120). -/
def execBasinSwitchBegin (map : Fin 14) (why : Fin 6) (s : State) : Host.Outcome State Fault Refusal :=
  .next (basinSwitchBegin s map.val why.val)

/-- BASIN_SWITCH_FINISH (R120). -/
def execBasinSwitchFinish (s : State) : Host.Outcome State Fault Refusal :=
  .next (basinSwitchFinish s)

/-- BSN_ENG_RESET (R286). -/
def execBsnEngReset (part : Fin 4) (e : BitVec 8) (s : State) : Host.Outcome State Fault Refusal :=
  .next (s.hostCmd part.val 9 fun s => bsnEngReset s part.val e.toNat)

/-- BSN_ENG_SWAP (R288). -/
def execBsnEngSwap (part : Fin 4) (e : BitVec 8) (s : State) : Host.Outcome State Fault Refusal :=
  .next (s.hostCmd part.val 9 fun s => bsnEngSwap s part.val e.toNat)

/-- BSN_ENG_ACK_ESC (R278). -/
def execBsnEngAckEsc (part : Fin 4) (e : BitVec 8) (s : State) : Host.Outcome State Fault Refusal :=
  .next (s.hostCmd part.val 9 fun s => bsnEngAckEsc s part.val e.toNat)

/-- PMP_POST_WRITE (R661). -/
def execPmpPostWrite (part : Fin 4) (v : W32) (s : State) : Host.Outcome State Fault Refusal :=
  .next (s.hostCmd part.val 8 fun s => pmpPostWrite s part.val v.toNat)

/-- PMP_CE_RESTART (R640). -/
def execPmpCeRestart (part : Fin 4) (ce : Fin 8) (s : State) : Host.Outcome State Fault Refusal :=
  .next (s.hostCmd part.val 8 fun s => pmpCeRestart s part.val ce.val)

/-- LKG_HOST_ACQ (R686). -/
def execLkgHostAcq (part : Fin 4) (lock : BitVec 13) (n : BitVec 16) (prio : BitVec 6) (tmo : BitVec 24)
    (s : State) : Host.Outcome State Fault Refusal :=
  .next (s.hostCmd part.val 7 fun s => lkgHostRequest s part.val 1 lock.toNat n.toNat prio.toNat tmo.toNat)

/-- LKG_HOST_TRY (R686). -/
def execLkgHostTry (part : Fin 4) (lock : BitVec 13) (n : BitVec 16) (prio : BitVec 6) (tmo : BitVec 24)
    (s : State) : Host.Outcome State Fault Refusal :=
  .next (s.hostCmd part.val 7 fun s => lkgHostRequest s part.val 2 lock.toNat n.toNat prio.toNat tmo.toNat)

/-- LKG_HOST_REL (R686). -/
def execLkgHostRel (part : Fin 4) (lock : BitVec 13) (n : BitVec 16) (prio : BitVec 6) (tmo : BitVec 24)
    (s : State) : Host.Outcome State Fault Refusal :=
  .next (s.hostCmd part.val 7 fun s => lkgHostRequest s part.val 3 lock.toNat n.toNat prio.toNat tmo.toNat)

/-- LKG_HOST_CANCEL (R686). -/
def execLkgHostCancel (part : Fin 4) (lock : BitVec 13) (n : BitVec 16) (prio : BitVec 6) (tmo : BitVec 24)
    (s : State) : Host.Outcome State Fault Refusal :=
  .next (s.hostCmd part.val 7 fun s => lkgHostRequest s part.val 4 lock.toNat n.toNat prio.toNat tmo.toNat)

/-- LKG_HOST_QUERY (R686). -/
def execLkgHostQuery (part : Fin 4) (lock : BitVec 13) (n : BitVec 16) (prio : BitVec 6) (tmo : BitVec 24)
    (s : State) : Host.Outcome State Fault Refusal :=
  .next (s.hostCmd part.val 7 fun s => lkgHostRequest s part.val 5 lock.toNat n.toNat prio.toNat tmo.toNat)

/-- LKG_FORCE (R682). -/
def execLkgForce (part : Fin 4) (lock : BitVec 13) (s : State) : Host.Outcome State Fault Refusal :=
  .next (s.hostCmd part.val 7 fun s => lkgForce s part.val lock.toNat)

/-- LKG_SETCOUNT (R684). -/
def execLkgSetcount (part : Fin 4) (lock : BitVec 13) (v : BitVec 16) (s : State) : Host.Outcome State Fault Refusal :=
  .next (s.hostCmd part.val 7 fun s => lkgSetcount s part.val lock.toNat v.toNat)

end Sys2Proof.Machine
end

