-- ==== Sys2Proof/Machine/ExecCore.lean ====
section
/-! DEFINITION. The meanings of the commands of bundles, control flow and the arithmetic units, one definition for each row of the opcode table. -/

namespace Sys2Proof.Machine

/-- BUNDLE_ISSUE (R313). -/
def execBundleIssue (turn : Turn) (s : State) : Host.Outcome State Fault Refusal :=
  .next (bundleIssue s turn.thread.val turn.upset)

/-- UNIT_OPERATION_COMPLETE (R300). -/
def execUnitOperationComplete (t : Fin 1544) (unit : Fin 32) (s : State) : Host.Outcome State Fault Refusal :=
  .next (unitOperationComplete s t.val unit.val)

/-- PC_T_JUMP (R324). -/
def execPcTJump (t : Fin 1544) (x : W32) (s : State) : Host.Outcome State Fault Refusal :=
  .next (s.trigRow t.val 0x040 x fun s => pcJump s t.val x)

/-- PC_T_BR (R325). -/
def execPcTBr (t : Fin 1544) (x : W32) (s : State) : Host.Outcome State Fault Refusal :=
  .next (s.trigRow t.val 0x041 x fun s => pcBr s t.val x)

/-- PC_T_CALL (R327). -/
def execPcTCall (t : Fin 1544) (x : W32) (s : State) : Host.Outcome State Fault Refusal :=
  .next (s.trigRow t.val 0x042 x fun s => pcCall s t.val x)

/-- PC_T_RET (R327). -/
def execPcTRet (t : Fin 1544) (x : W32) (s : State) : Host.Outcome State Fault Refusal :=
  .next (s.trigRow t.val 0x043 x fun s => pcRet s t.val)

/-- PC_T_HALT (R258). -/
def execPcTHalt (t : Fin 1544) (x : W32) (s : State) : Host.Outcome State Fault Refusal :=
  .next (s.trigRow t.val 0x044 x fun s => pcHalt s t.val)

/-- LP_T_BEGIN (R333). -/
def execLpTBegin (t : Fin 1544) (x : W32) (s : State) : Host.Outcome State Fault Refusal :=
  .next (s.trigRow t.val 0x061 x fun s => lpBegin s t.val x)

/-- LP_T_BRK (R338). -/
def execLpTBrk (t : Fin 1544) (x : W32) (s : State) : Host.Outcome State Fault Refusal :=
  .next (s.trigRow t.val 0x062 x fun s => lpBrk s t.val)

/-- ALU_T_ADD (R300). -/
def execAluTAdd (t : Fin 1544) (alu : Fin 2) (x : W32) (s : State) : Host.Outcome State Fault Refusal :=
  .next (s.trigRow t.val (0x090 + 0x040 * alu.val + 0) x fun s => aluAdd s t.val alu.val x)

/-- ALU_T_SUB (R300). -/
def execAluTSub (t : Fin 1544) (alu : Fin 2) (x : W32) (s : State) : Host.Outcome State Fault Refusal :=
  .next (s.trigRow t.val (0x090 + 0x040 * alu.val + 1) x fun s => aluSub s t.val alu.val x)

/-- ALU_T_AND (R300). -/
def execAluTAnd (t : Fin 1544) (alu : Fin 2) (x : W32) (s : State) : Host.Outcome State Fault Refusal :=
  .next (s.trigRow t.val (0x090 + 0x040 * alu.val + 2) x fun s => aluAnd s t.val alu.val x)

/-- ALU_T_OR (R300). -/
def execAluTOr (t : Fin 1544) (alu : Fin 2) (x : W32) (s : State) : Host.Outcome State Fault Refusal :=
  .next (s.trigRow t.val (0x090 + 0x040 * alu.val + 3) x fun s => aluOr s t.val alu.val x)

/-- ALU_T_XOR (R300). -/
def execAluTXor (t : Fin 1544) (alu : Fin 2) (x : W32) (s : State) : Host.Outcome State Fault Refusal :=
  .next (s.trigRow t.val (0x090 + 0x040 * alu.val + 4) x fun s => aluXor s t.val alu.val x)

/-- ALU_T_ANDN (R300). -/
def execAluTAndn (t : Fin 1544) (alu : Fin 2) (x : W32) (s : State) : Host.Outcome State Fault Refusal :=
  .next (s.trigRow t.val (0x090 + 0x040 * alu.val + 5) x fun s => aluAndn s t.val alu.val x)

/-- ALU_T_SHL (R300). -/
def execAluTShl (t : Fin 1544) (alu : Fin 2) (x : W32) (s : State) : Host.Outcome State Fault Refusal :=
  .next (s.trigRow t.val (0x090 + 0x040 * alu.val + 6) x fun s => aluShl s t.val alu.val x)

/-- ALU_T_SHR (R300). -/
def execAluTShr (t : Fin 1544) (alu : Fin 2) (x : W32) (s : State) : Host.Outcome State Fault Refusal :=
  .next (s.trigRow t.val (0x090 + 0x040 * alu.val + 7) x fun s => aluShr s t.val alu.val x)

/-- ALU_T_SAR (R300). -/
def execAluTSar (t : Fin 1544) (alu : Fin 2) (x : W32) (s : State) : Host.Outcome State Fault Refusal :=
  .next (s.trigRow t.val (0x090 + 0x040 * alu.val + 8) x fun s => aluSar s t.val alu.val x)

/-- ALU_T_ROTL (R300). -/
def execAluTRotl (t : Fin 1544) (alu : Fin 2) (x : W32) (s : State) : Host.Outcome State Fault Refusal :=
  .next (s.trigRow t.val (0x090 + 0x040 * alu.val + 9) x fun s => aluRotl s t.val alu.val x)

/-- ALU_T_MIN (R300). -/
def execAluTMin (t : Fin 1544) (alu : Fin 2) (x : W32) (s : State) : Host.Outcome State Fault Refusal :=
  .next (s.trigRow t.val (0x090 + 0x040 * alu.val + 10) x fun s => aluMin s t.val alu.val x)

/-- ALU_T_MAX (R300). -/
def execAluTMax (t : Fin 1544) (alu : Fin 2) (x : W32) (s : State) : Host.Outcome State Fault Refusal :=
  .next (s.trigRow t.val (0x090 + 0x040 * alu.val + 11) x fun s => aluMax s t.val alu.val x)

/-- ALU_T_MINU (R300). -/
def execAluTMinu (t : Fin 1544) (alu : Fin 2) (x : W32) (s : State) : Host.Outcome State Fault Refusal :=
  .next (s.trigRow t.val (0x090 + 0x040 * alu.val + 12) x fun s => aluMinu s t.val alu.val x)

/-- ALU_T_MAXU (R300). -/
def execAluTMaxu (t : Fin 1544) (alu : Fin 2) (x : W32) (s : State) : Host.Outcome State Fault Refusal :=
  .next (s.trigRow t.val (0x090 + 0x040 * alu.val + 13) x fun s => aluMaxu s t.val alu.val x)

/-- ALU_T_MOV (R300). -/
def execAluTMov (t : Fin 1544) (alu : Fin 2) (x : W32) (s : State) : Host.Outcome State Fault Refusal :=
  .next (s.trigRow t.val (0x090 + 0x040 * alu.val + 14) x fun s => aluMov s t.val alu.val x)

/-- BIT_T_EXTU (R366). -/
def execBitTExtu (t : Fin 1544) (x : W32) (s : State) : Host.Outcome State Fault Refusal :=
  .next (s.trigRow t.val 0x110 x fun s => bitExtu s t.val x)

/-- BIT_T_EXTS (R366). -/
def execBitTExts (t : Fin 1544) (x : W32) (s : State) : Host.Outcome State Fault Refusal :=
  .next (s.trigRow t.val 0x111 x fun s => bitExts s t.val x)

/-- BIT_T_INS (R366). -/
def execBitTIns (t : Fin 1544) (x : W32) (s : State) : Host.Outcome State Fault Refusal :=
  .next (s.trigRow t.val 0x112 x fun s => bitIns s t.val x)

/-- BIT_T_CLZ (R300). -/
def execBitTClz (t : Fin 1544) (x : W32) (s : State) : Host.Outcome State Fault Refusal :=
  .next (s.trigRow t.val 0x113 x fun s => bitClz s t.val x)

/-- BIT_T_CTZ (R300). -/
def execBitTCtz (t : Fin 1544) (x : W32) (s : State) : Host.Outcome State Fault Refusal :=
  .next (s.trigRow t.val 0x114 x fun s => bitCtz s t.val x)

/-- BIT_T_POPC (R300). -/
def execBitTPopc (t : Fin 1544) (x : W32) (s : State) : Host.Outcome State Fault Refusal :=
  .next (s.trigRow t.val 0x115 x fun s => bitPopc s t.val x)

/-- BIT_T_BSWAP (R300). -/
def execBitTBswap (t : Fin 1544) (x : W32) (s : State) : Host.Outcome State Fault Refusal :=
  .next (s.trigRow t.val 0x116 x fun s => bitBswap s t.val x)

/-- BIT_T_BSWAP16 (R300). -/
def execBitTBswap16 (t : Fin 1544) (x : W32) (s : State) : Host.Outcome State Fault Refusal :=
  .next (s.trigRow t.val 0x117 x fun s => bitBswap16 s t.val x)

/-- BIT_T_BITREV (R300). -/
def execBitTBitrev (t : Fin 1544) (x : W32) (s : State) : Host.Outcome State Fault Refusal :=
  .next (s.trigRow t.val 0x118 x fun s => bitBitrev s t.val x)

/-- BIT_T_SEXT8 (R300). -/
def execBitTSext8 (t : Fin 1544) (x : W32) (s : State) : Host.Outcome State Fault Refusal :=
  .next (s.trigRow t.val 0x119 x fun s => bitSext8 s t.val x)

/-- BIT_T_SEXT16 (R300). -/
def execBitTSext16 (t : Fin 1544) (x : W32) (s : State) : Host.Outcome State Fault Refusal :=
  .next (s.trigRow t.val 0x11A x fun s => bitSext16 s t.val x)

/-- CMP_T_EQ (R367). -/
def execCmpTEq (t : Fin 1544) (x : W32) (s : State) : Host.Outcome State Fault Refusal :=
  .next (s.trigRow t.val 0x170 x fun s => cmpEq s t.val x)

/-- CMP_T_NE (R367). -/
def execCmpTNe (t : Fin 1544) (x : W32) (s : State) : Host.Outcome State Fault Refusal :=
  .next (s.trigRow t.val 0x171 x fun s => cmpNe s t.val x)

/-- CMP_T_LT (R367). -/
def execCmpTLt (t : Fin 1544) (x : W32) (s : State) : Host.Outcome State Fault Refusal :=
  .next (s.trigRow t.val 0x172 x fun s => cmpLt s t.val x)

/-- CMP_T_LE (R367). -/
def execCmpTLe (t : Fin 1544) (x : W32) (s : State) : Host.Outcome State Fault Refusal :=
  .next (s.trigRow t.val 0x173 x fun s => cmpLe s t.val x)

/-- CMP_T_GT (R367). -/
def execCmpTGt (t : Fin 1544) (x : W32) (s : State) : Host.Outcome State Fault Refusal :=
  .next (s.trigRow t.val 0x174 x fun s => cmpGt s t.val x)

/-- CMP_T_GE (R367). -/
def execCmpTGe (t : Fin 1544) (x : W32) (s : State) : Host.Outcome State Fault Refusal :=
  .next (s.trigRow t.val 0x175 x fun s => cmpGe s t.val x)

/-- CMP_T_LTU (R367). -/
def execCmpTLtu (t : Fin 1544) (x : W32) (s : State) : Host.Outcome State Fault Refusal :=
  .next (s.trigRow t.val 0x176 x fun s => cmpLtu s t.val x)

/-- CMP_T_LEU (R367). -/
def execCmpTLeu (t : Fin 1544) (x : W32) (s : State) : Host.Outcome State Fault Refusal :=
  .next (s.trigRow t.val 0x177 x fun s => cmpLeu s t.val x)

/-- CMP_T_GTU (R367). -/
def execCmpTGtu (t : Fin 1544) (x : W32) (s : State) : Host.Outcome State Fault Refusal :=
  .next (s.trigRow t.val 0x178 x fun s => cmpGtu s t.val x)

/-- CMP_T_GEU (R367). -/
def execCmpTGeu (t : Fin 1544) (x : W32) (s : State) : Host.Outcome State Fault Refusal :=
  .next (s.trigRow t.val 0x179 x fun s => cmpGeu s t.val x)

/-- CMP_T_TST (R367). -/
def execCmpTTst (t : Fin 1544) (x : W32) (s : State) : Host.Outcome State Fault Refusal :=
  .next (s.trigRow t.val 0x17A x fun s => cmpTst s t.val x)

/-- MUL_T_MULU (R300). -/
def execMulTMulu (t : Fin 1544) (x : W32) (s : State) : Host.Outcome State Fault Refusal :=
  .next (s.trigRow t.val 0x150 x fun s => mulMulu s t.val x)

/-- MUL_T_MULS (R300). -/
def execMulTMuls (t : Fin 1544) (x : W32) (s : State) : Host.Outcome State Fault Refusal :=
  .next (s.trigRow t.val 0x151 x fun s => mulMuls s t.val x)

/-- MUL_T_DIVU (R368). -/
def execMulTDivu (t : Fin 1544) (x : W32) (s : State) : Host.Outcome State Fault Refusal :=
  .next (s.trigRow t.val 0x152 x fun s => mulDivu s t.val x)

/-- MUL_T_DIVS (R368). -/
def execMulTDivs (t : Fin 1544) (x : W32) (s : State) : Host.Outcome State Fault Refusal :=
  .next (s.trigRow t.val 0x153 x fun s => mulDivs s t.val x)

/-- BREAKPOINT_HIT (R891). -/
def execBreakpointHit (t : Fin 1536) (s : State) : Host.Outcome State Fault Refusal :=
  .next (breakpointHit s t.val)

end Sys2Proof.Machine
end

