-- ==== Sys2Proof/Machine/ExecData.lean ====
section
/-! DEFINITION. The meanings of the commands of the data units: loads and stores, packet windows, tables, channels, atomics, events, timers, buffers, one definition for each row of the opcode table. -/

namespace Sys2Proof.Machine

/-- LS_T_LD8U (R371). -/
def execLsTLd8u (t : Fin 1544) (x : W32) (s : State) : Host.Outcome State Fault Refusal :=
  .next (s.trigRow t.val 0x190 x fun s => lsLoad s t.val x.toNat 1 false)

/-- LS_T_LD8S (R371). -/
def execLsTLd8s (t : Fin 1544) (x : W32) (s : State) : Host.Outcome State Fault Refusal :=
  .next (s.trigRow t.val 0x191 x fun s => lsLoad s t.val x.toNat 1 true)

/-- LS_T_LD16U (R371). -/
def execLsTLd16u (t : Fin 1544) (x : W32) (s : State) : Host.Outcome State Fault Refusal :=
  .next (s.trigRow t.val 0x192 x fun s => lsLoad s t.val x.toNat 2 false)

/-- LS_T_LD16S (R371). -/
def execLsTLd16s (t : Fin 1544) (x : W32) (s : State) : Host.Outcome State Fault Refusal :=
  .next (s.trigRow t.val 0x193 x fun s => lsLoad s t.val x.toNat 2 true)

/-- LS_T_LD32 (R371). -/
def execLsTLd32 (t : Fin 1544) (x : W32) (s : State) : Host.Outcome State Fault Refusal :=
  .next (s.trigRow t.val 0x194 x fun s => lsLoad s t.val x.toNat 4 false)

/-- LS_T_LD64 (R369). -/
def execLsTLd64 (t : Fin 1544) (x : W32) (s : State) : Host.Outcome State Fault Refusal :=
  .next (s.trigRow t.val 0x195 x fun s => lsLoad s t.val x.toNat 8 false)

/-- LS_T_ST8 (R370). -/
def execLsTSt8 (t : Fin 1544) (x : W32) (s : State) : Host.Outcome State Fault Refusal :=
  .next (s.trigRow t.val 0x198 x fun s => lsStore s t.val x.toNat 1)

/-- LS_T_ST16 (R370). -/
def execLsTSt16 (t : Fin 1544) (x : W32) (s : State) : Host.Outcome State Fault Refusal :=
  .next (s.trigRow t.val 0x199 x fun s => lsStore s t.val x.toNat 2)

/-- LS_T_ST32 (R370). -/
def execLsTSt32 (t : Fin 1544) (x : W32) (s : State) : Host.Outcome State Fault Refusal :=
  .next (s.trigRow t.val 0x19A x fun s => lsStore s t.val x.toNat 4)

/-- LS_T_ST64 (R370). -/
def execLsTSt64 (t : Fin 1544) (x : W32) (s : State) : Host.Outcome State Fault Refusal :=
  .next (s.trigRow t.val 0x19B x fun s => lsStore s t.val x.toNat 8)

/-- LS_T_PF (R522). -/
def execLsTPf (t : Fin 1544) (x : W32) (s : State) : Host.Outcome State Fault Refusal :=
  .next (s.trigRow t.val 0x1A0 x fun s => lsPf s t.val x.toNat)

/-- LS_T_CLEAN (R532). -/
def execLsTClean (t : Fin 1544) (x : W32) (s : State) : Host.Outcome State Fault Refusal :=
  .next (s.trigRow t.val 0x1A8 x fun s => lsClean s t.val x.toNat)

/-- LS_T_INV (R532). -/
def execLsTInv (t : Fin 1544) (x : W32) (s : State) : Host.Outcome State Fault Refusal :=
  .next (s.trigRow t.val 0x1A9 x fun s => lsInv s t.val x.toNat)

/-- LS_T_CINV (R532). -/
def execLsTCinv (t : Fin 1544) (x : W32) (s : State) : Host.Outcome State Fault Refusal :=
  .next (s.trigRow t.val 0x1AA x fun s => lsCinv s t.val x.toNat)

/-- LS_T_FENCE (R532). -/
def execLsTFence (t : Fin 1544) (x : W32) (s : State) : Host.Outcome State Fault Refusal :=
  .next (s.trigRow t.val 0x1AF x fun s => lsFence s t.val)

/-- PW_T_LD8 (R373). -/
def execPwTLd8 (t : Fin 1544) (x : W32) (s : State) : Host.Outcome State Fault Refusal :=
  .next (s.trigRow t.val 0x210 x fun s => pwLoad s t.val x.toNat 1)

/-- PW_T_LD16 (R373). -/
def execPwTLd16 (t : Fin 1544) (x : W32) (s : State) : Host.Outcome State Fault Refusal :=
  .next (s.trigRow t.val 0x211 x fun s => pwLoad s t.val x.toNat 2)

/-- PW_T_LD32 (R373). -/
def execPwTLd32 (t : Fin 1544) (x : W32) (s : State) : Host.Outcome State Fault Refusal :=
  .next (s.trigRow t.val 0x212 x fun s => pwLoad s t.val x.toNat 4)

/-- PW_T_ST8 (R373). -/
def execPwTSt8 (t : Fin 1544) (x : W32) (s : State) : Host.Outcome State Fault Refusal :=
  .next (s.trigRow t.val 0x214 x fun s => pwStore s t.val x.toNat 1)

/-- PW_T_ST16 (R373). -/
def execPwTSt16 (t : Fin 1544) (x : W32) (s : State) : Host.Outcome State Fault Refusal :=
  .next (s.trigRow t.val 0x215 x fun s => pwStore s t.val x.toNat 2)

/-- PW_T_ST32 (R373). -/
def execPwTSt32 (t : Fin 1544) (x : W32) (s : State) : Host.Outcome State Fault Refusal :=
  .next (s.trigRow t.val 0x216 x fun s => pwStore s t.val x.toNat 4)

/-- PW_T_INS (R374). -/
def execPwTIns (t : Fin 1544) (x : W32) (s : State) : Host.Outcome State Fault Refusal :=
  .next (s.trigRow t.val 0x218 x fun s => pwIns s t.val x.toNat)

/-- PW_T_DEL (R375). -/
def execPwTDel (t : Fin 1544) (x : W32) (s : State) : Host.Outcome State Fault Refusal :=
  .next (s.trigRow t.val 0x219 x fun s => pwDel s t.val x.toNat)

/-- PW_T_LEN (R376). -/
def execPwTLen (t : Fin 1544) (x : W32) (s : State) : Host.Outcome State Fault Refusal :=
  .next (s.trigRow t.val 0x21A x fun s => pwLen s t.val)

/-- DL_T_RD (R365). -/
def execDlTRd (t : Fin 1544) (x : W32) (s : State) : Host.Outcome State Fault Refusal :=
  .next (s.trigRow t.val 0x250 x fun s => dlRd s t.val x.toNat)

/-- DL_T_WR (R378). -/
def execDlTWr (t : Fin 1544) (x : W32) (s : State) : Host.Outcome State Fault Refusal :=
  .next (s.trigRow t.val 0x251 x fun s => dlWr s t.val x.toNat)

/-- DL_T_FLK (R365). -/
def execDlTFlk (t : Fin 1544) (x : W32) (s : State) : Host.Outcome State Fault Refusal :=
  .next (s.trigRow t.val 0x252 x fun s => dlFlk s t.val x.toNat)

/-- DL_T_KEY (R148). -/
def execDlTKey (t : Fin 1544) (x : W32) (s : State) : Host.Outcome State Fault Refusal :=
  .next (s.trigRow t.val 0x253 x fun s => dlKey s t.val x.toNat)

/-- DL_T_LAY (R148). -/
def execDlTLay (t : Fin 1544) (x : W32) (s : State) : Host.Outcome State Fault Refusal :=
  .next (s.trigRow t.val 0x254 x fun s => dlLay s t.val x.toNat)

/-- DL_T_PINFO (R148). -/
def execDlTPinfo (t : Fin 1544) (x : W32) (s : State) : Host.Outcome State Fault Refusal :=
  .next (s.trigRow t.val 0x255 x fun s => dlPinfo s t.val x.toNat)

/-- TL_T_L2 (R214). -/
def execTlTL2 (t : Fin 1544) (x : W32) (s : State) : Host.Outcome State Fault Refusal :=
  .next (s.trigRow t.val 0x290 x fun s => tlL2 s t.val x.toNat)

/-- TL_T_EP (R228). -/
def execTlTEp (t : Fin 1544) (x : W32) (s : State) : Host.Outcome State Fault Refusal :=
  .next (s.trigRow t.val 0x291 x fun s => tlEp s t.val x.toNat)

/-- TL_T_PARAM (R381). -/
def execTlTParam (t : Fin 1544) (x : W32) (s : State) : Host.Outcome State Fault Refusal :=
  .next (s.trigRow t.val 0x292 x fun s => tlParam s t.val x.toNat)

/-- TL_T_FFIND (R379). -/
def execTlTFfind (t : Fin 1544) (x : W32) (s : State) : Host.Outcome State Fault Refusal :=
  .next (s.trigRow t.val 0x2B0 x fun s => tlFind s t.val x.toNat false)

/-- TL_T_FGET (R226). -/
def execTlTFget (t : Fin 1544) (x : W32) (s : State) : Host.Outcome State Fault Refusal :=
  .next (s.trigRow t.val 0x2B1 x fun s => tlFind s t.val x.toNat true)

/-- TL_T_FREAD (R223). -/
def execTlTFread (t : Fin 1544) (x : W32) (s : State) : Host.Outcome State Fault Refusal :=
  .next (s.trigRow t.val 0x2B2 x fun s => tlRead s t.val x.toNat)

/-- TL_T_FWRITE (R380). -/
def execTlTFwrite (t : Fin 1544) (x : W32) (s : State) : Host.Outcome State Fault Refusal :=
  .next (s.trigRow t.val 0x2B3 x fun s => tlWrite s t.val x.toNat)

/-- TL_T_FDEL (R235). -/
def execTlTFdel (t : Fin 1544) (x : W32) (s : State) : Host.Outcome State Fault Refusal :=
  .next (s.trigRow t.val 0x2B4 x fun s => tlDelete s t.val)

/-- CH_T_PUT (R441). -/
def execChTPut (t : Fin 1544) (x : W32) (s : State) : Host.Outcome State Fault Refusal :=
  .next (s.trigRow t.val 0x310 x fun s => chPut s t.val x.toNat false)

/-- CH_T_PUTL (R445). -/
def execChTPutl (t : Fin 1544) (x : W32) (s : State) : Host.Outcome State Fault Refusal :=
  .next (s.trigRow t.val 0x311 x fun s => chPut s t.val x.toNat true)

/-- CH_T_GET (R446). -/
def execChTGet (t : Fin 1544) (x : W32) (s : State) : Host.Outcome State Fault Refusal :=
  .next (s.trigRow t.val 0x312 x fun s => chGet s t.val)

/-- CH_T_COUNT (R445). -/
def execChTCount (t : Fin 1544) (x : W32) (s : State) : Host.Outcome State Fault Refusal :=
  .next (s.trigRow t.val 0x313 x fun s => chCount s t.val)

/-- CH_T_WATCH (R460). -/
def execChTWatch (t : Fin 1544) (x : W32) (s : State) : Host.Outcome State Fault Refusal :=
  .next (s.trigRow t.val 0x314 x fun s => chWatch s t.val x.toNat)

/-- CH_T_UNWATCH (R463). -/
def execChTUnwatch (t : Fin 1544) (x : W32) (s : State) : Host.Outcome State Fault Refusal :=
  .next (s.trigRow t.val 0x315 x fun s => chUnwatch s t.val x.toNat)

/-- AT_T_ADD (R390). -/
def execAtTAdd (t : Fin 1544) (wide : Bool) (x : W32) (s : State) : Host.Outcome State Fault Refusal :=
  .next (s.trigRow t.val (0x390 + 8 * flagBit wide + 0) x fun s => atAdd s t.val x.toNat wide)

/-- AT_T_SUB (R390). -/
def execAtTSub (t : Fin 1544) (wide : Bool) (x : W32) (s : State) : Host.Outcome State Fault Refusal :=
  .next (s.trigRow t.val (0x390 + 8 * flagBit wide + 1) x fun s => atSub s t.val x.toNat wide)

/-- AT_T_SWAP (R390). -/
def execAtTSwap (t : Fin 1544) (wide : Bool) (x : W32) (s : State) : Host.Outcome State Fault Refusal :=
  .next (s.trigRow t.val (0x390 + 8 * flagBit wide + 2) x fun s => atSwap s t.val x.toNat wide)

/-- AT_T_CAS (R390). -/
def execAtTCas (t : Fin 1544) (wide : Bool) (x : W32) (s : State) : Host.Outcome State Fault Refusal :=
  .next (s.trigRow t.val (0x390 + 8 * flagBit wide + 3) x fun s => atCas s t.val x.toNat wide)

/-- AT_T_AND (R390). -/
def execAtTAnd (t : Fin 1544) (wide : Bool) (x : W32) (s : State) : Host.Outcome State Fault Refusal :=
  .next (s.trigRow t.val (0x390 + 8 * flagBit wide + 4) x fun s => atAnd s t.val x.toNat wide)

/-- AT_T_OR (R390). -/
def execAtTOr (t : Fin 1544) (wide : Bool) (x : W32) (s : State) : Host.Outcome State Fault Refusal :=
  .next (s.trigRow t.val (0x390 + 8 * flagBit wide + 5) x fun s => atOr s t.val x.toNat wide)

/-- AT_T_MIN (R390). -/
def execAtTMin (t : Fin 1544) (wide : Bool) (x : W32) (s : State) : Host.Outcome State Fault Refusal :=
  .next (s.trigRow t.val (0x390 + 8 * flagBit wide + 6) x fun s => atMin s t.val x.toNat wide)

/-- AT_T_MAX (R390). -/
def execAtTMax (t : Fin 1544) (wide : Bool) (x : W32) (s : State) : Host.Outcome State Fault Refusal :=
  .next (s.trigRow t.val (0x390 + 8 * flagBit wide + 7) x fun s => atMax s t.val x.toNat wide)

/-- EVT_T_WAIT (R268). -/
def execEvtTWait (t : Fin 1544) (x : W32) (s : State) : Host.Outcome State Fault Refusal :=
  .next (s.trigRow t.val 0x3B0 x fun s => evtWait s t.val x.toNat)

/-- EVT_T_CLR (R392). -/
def execEvtTClr (t : Fin 1544) (x : W32) (s : State) : Host.Outcome State Fault Refusal :=
  .next (s.trigRow t.val 0x3B1 x fun s => evtClr s t.val x.toNat)

/-- EVT_T_SIG (R269). -/
def execEvtTSig (t : Fin 1544) (x : W32) (s : State) : Host.Outcome State Fault Refusal :=
  .next (s.trigRow t.val 0x3B2 x fun s => evtSig s t.val x.toNat)

/-- EVT_T_MGET (R394). -/
def execEvtTMget (t : Fin 1544) (x : W32) (s : State) : Host.Outcome State Fault Refusal :=
  .next (s.trigRow t.val 0x3B3 x fun s => evtMget s t.val)

/-- TM_T_START (R393). -/
def execTmTStart (t : Fin 1544) (x : W32) (s : State) : Host.Outcome State Fault Refusal :=
  .next (s.trigRow t.val 0x3D0 x fun s => tmStart s t.val x.toNat)

/-- TM_T_STOP (R393). -/
def execTmTStop (t : Fin 1544) (x : W32) (s : State) : Host.Outcome State Fault Refusal :=
  .next (s.trigRow t.val 0x3D1 x fun s => tmStop s t.val)

/-- TM_T_NOW (R571). -/
def execTmTNow (t : Fin 1544) (x : W32) (s : State) : Host.Outcome State Fault Refusal :=
  .next (s.trigRow t.val 0x3D2 x fun s => tmNow s t.val)

/-- TM_T_NET (R572). -/
def execTmTNet (t : Fin 1544) (x : W32) (s : State) : Host.Outcome State Fault Refusal :=
  .next (s.trigRow t.val 0x3D3 x fun s => tmNet s t.val x.toNat)

/-- CS_T_ALLOC (R488). -/
def execCsTAlloc (t : Fin 1544) (x : W32) (s : State) : Host.Outcome State Fault Refusal :=
  .next (s.trigRow t.val 0x3F0 x fun s => csAlloc s t.val x.toNat)

/-- CS_T_FREE (R496). -/
def execCsTFree (t : Fin 1544) (x : W32) (s : State) : Host.Outcome State Fault Refusal :=
  .next (s.trigRow t.val 0x3F1 x fun s => csFree s t.val x.toNat)

/-- CS_T_REF (R496). -/
def execCsTRef (t : Fin 1544) (x : W32) (s : State) : Host.Outcome State Fault Refusal :=
  .next (s.trigRow t.val 0x3F2 x fun s => csRef s t.val x.toNat)

/-- CS_T_ADDR (R939). -/
def execCsTAddr (t : Fin 1544) (x : W32) (s : State) : Host.Outcome State Fault Refusal :=
  .next (s.trigRow t.val 0x3F3 x fun s => csAddr s t.val x.toNat)

/-- CS_T_INFO (R939). -/
def execCsTInfo (t : Fin 1544) (x : W32) (s : State) : Host.Outcome State Fault Refusal :=
  .next (s.trigRow t.val 0x3F4 x fun s => csInfo s t.val x.toNat)

end Sys2Proof.Machine
end

