-- ==== Sys2Proof/Machine/ExecEdge.lean ====
section
/-! DEFINITION. The meanings of the commands of the edge ports, one definition for each row of the opcode table. -/

namespace Sys2Proof.Machine

/-- AUTO_NEG_TIMEOUT (R35). -/
def execAutoNegTimeout (port : Fin 32) (s : State) : Host.Outcome State Fault Refusal :=
  .next (autoNegTimeout s port.val)

/-- FRAME_RECEIVE (R63). -/
def execFrameReceive (now : Nat) (port : Fin 32) (stamp : Nat) (bytes : List Byte) (fcsOk cut express : Bool)
    (macsec : MacsecFrame) (s : State) : Host.Outcome State Fault Refusal :=
  .next (frameIn s now port.val stamp bytes fcsOk cut express macsec.outcome.val macsec.pn.toNat)

/-- T1S_FRAME_RECEIVE (R759). -/
def execT1sFrameReceive (now : Nat) (seg : Fin 16) (stamp : Nat) (node : Fin 33) (bytes : List Byte) (fcsOk cut : Bool)
    (s : State) : Host.Outcome State Fault Refusal :=
  .next (t1sFrameReceive s now seg.val stamp node.val bytes fcsOk cut)

/-- PLCA_BEACON_LOSS (R756). -/
def execPlcaBeaconLoss (seg : Fin 16) (s : State) : Host.Outcome State Fault Refusal :=
  .next (plcaBeaconLoss s seg.val)

/-- PLCA_BEACON_RESUME (R756). -/
def execPlcaBeaconResume (seg : Fin 16) (s : State) : Host.Outcome State Fault Refusal :=
  .next (plcaBeaconResume s seg.val)

/-- NODE_QUIET (R758). -/
def execNodeQuiet (now : Nat) (seg : Fin 16) (node : Fin 32) (s : State) : Host.Outcome State Fault Refusal :=
  .next (nodeQuietExpire s now seg.val node.val)

/-- CAN_FRAME_RECEIVE (R762). -/
def execCanFrameReceive (now : Nat) (ch : Fin 16) (id : W32) (format sdt vcid : Byte) (af : W32) (data : List Byte)
    (crcOk : Bool) (s : State) : Host.Outcome State Fault Refusal :=
  .next (canFrameReceive s now ch.val id.toNat format.toNat sdt.toNat vcid.toNat af.toNat data crcOk)

/-- CAN_BUS_OFF (R763). -/
def execCanBusOff (ch : Fin 16) (s : State) : Host.Outcome State Fault Refusal :=
  .next (canBusOff s ch.val)

/-- CAN_BUS_OFF_RECOVER (R763). -/
def execCanBusOffRecover (ch : Fin 16) (s : State) : Host.Outcome State Fault Refusal :=
  .next (canBusOffRecover s ch.val)

/-- PRES_DEBOUNCE_END (R767). -/
def execPresDebounceEnd (now : Nat) (input : Fin 9) (s : State) : Host.Outcome State Fault Refusal :=
  .next (presDebounceEnd s now input.val)

/-- PRES_LATCH_TAKE (R768). -/
def execPresLatchTake (now : Nat) (input : Fin 9) (s : State) : Host.Outcome State Fault Refusal :=
  .next (presLatchTake s now input.val)

/-- LINK_UP (R773). -/
def execLinkUp (now : Nat) (src : Fin 48) (mode : LinkMode) (s : State) : Host.Outcome State Fault Refusal :=
  .next (linkUp s now src.val mode.speed.toNat mode.fec.val)

/-- PORT_LINK_DOWN (R597). -/
def execPortLinkDown (now : Nat) (src : Fin 48) (cause : Fin 6) (s : State) : Host.Outcome State Fault Refusal :=
  .next (portLinkDown s now src.val cause.val)

/-- LINK_HOLD_EXPIRE (R775). -/
def execLinkHoldExpire (now : Nat) (src : Fin 73) (s : State) : Host.Outcome State Fault Refusal :=
  .next (linkHoldExpire s now src.val)

/-- UNPLUG_DRAINED (R125). -/
def execUnplugDrained (now : Nat) (src : Fin 73) (s : State) : Host.Outcome State Fault Refusal :=
  .next (unplugDrained s now src.val)

/-- LANE_TRAINING_FAIL (R745). -/
def execLaneTrainingFail (lane : Fin 32) (s : State) : Host.Outcome State Fault Refusal :=
  .next (laneTrainingFail s lane.val)

/-- LANE_TRAINING_RETRY (R745). -/
def execLaneTrainingRetry (lane : Fin 32) (ok : Bool) (s : State) : Host.Outcome State Fault Refusal :=
  .next (laneTrainingRetry s lane.val ok)

/-- LANE_MARGIN_LOW (R737). -/
def execLaneMarginLow (lane : Fin 32) (margin : BitVec 8) (s : State) : Host.Outcome State Fault Refusal :=
  .next (laneMarginLow s lane.val margin.toNat)

/-- SLICE_ADAPT_DONE (R738). -/
def execSliceAdaptDone (lane : Fin 32) (ok : Bool) (s : State) : Host.Outcome State Fault Refusal :=
  .next (sliceAdaptDone s lane.val ok)

/-- SLICE_SWITCHOVER (R739). -/
def execSliceSwitchover (lane : Fin 32) (receiving : Bool) (s : State) : Host.Outcome State Fault Refusal :=
  .next (sliceSwitchover s lane.val receiving)

/-- PREEMPT_VERIFY_TIMEOUT (R751). -/
def execPreemptVerifyTimeout (port : Fin 32) (s : State) : Host.Outcome State Fault Refusal :=
  .next (preemptVerifyTimeout s port.val)

/-- EDGE_TRANSMIT_DONE (R766). -/
def execEdgeTransmitDone (now : Nat) (target : Fin 32) (s : State) : Host.Outcome State Fault Refusal :=
  .next (edgeTransmitDone s now target.val)

/-- EDG_LANE_RETRAIN (R737). -/
def execEdgLaneRetrain (part : Fin 4) (lane : Fin 32) (s : State) : Host.Outcome State Fault Refusal :=
  .next (s.hostCmd part.val 10 fun s => edgLaneRetrain s part.val lane.val)

/-- EDG_LANE_SPARE (R737). -/
def execEdgLaneSpare (part : Fin 4) (lane : Fin 32) (s : State) : Host.Outcome State Fault Refusal :=
  .next (s.hostCmd part.val 10 fun s => edgLaneSpare s part.val lane.val)

/-- PRES_RAW_CHANGE (R767). -/
def execPresRawChange (now : Nat) (input : Fin 9) (level : Bool) (s : State) : Host.Outcome State Fault Refusal :=
  .next (presRawChange s now input.val level)

/-- CAN_BUS_ERROR (R763). -/
def execCanBusError (ch : Fin 16) (tec rec : BitVec 8) (s : State) : Host.Outcome State Fault Refusal :=
  .next (canBusError s ch.val tec.toNat rec.toNat)

/-- CAN_CHANNEL_RESTART (R763). -/
def execCanChannelRestart (ch : Fin 16) (s : State) : Host.Outcome State Fault Refusal :=
  .next (canChannelRestart s ch.val)

/-- MACSEC_SA_INSTALL (R749). -/
def execMacsecSaInstall (port : Fin 32) (kind : SaKind) (pn : BitVec 64) (s : State) : Host.Outcome State Fault Refusal :=
  .next (macsecSaInstall s port.val kind.rx kind.xpn pn.toNat)

end Sys2Proof.Machine
end

