-- ==== Sys2Proof/Machine/ExecHost.lean ====
section
/-! DEFINITION. The meanings of the commands of hosts and partitions, one definition for each row of the opcode table. -/

namespace Sys2Proof.Machine

/-- PCIE_CONFIG_REQUEST (R698). -/
def execPcieConfigRequest (link : Fin 4) (write : Bool) (reg : BitVec 12) (data : W32)
    (s : State) : Host.Outcome State Fault Refusal :=
  .next (pcieConfigRequest s link.val write reg.toNat data.toNat)

/-- BAR4_READ (R703). -/
def execBar4Read (part : Fin 4) (off n : Nat) (s : State) : Host.Outcome State Fault Refusal :=
  .next (bar4Read s part.val off n)

/-- BAR4_WRITE (R701). -/
def execBar4Write (part : Fin 4) (off : Nat) (data : List Byte) (s : State) : Host.Outcome State Fault Refusal :=
  .next (bar4Write s part.val off data)

/-- PCIE_ATOMICOP (R692). -/
def execPcieAtomicop (part : Fin 4) (off : Nat) (op width : Fin 3) (v c : BitVec 128)
    (s : State) : Host.Outcome State Fault Refusal :=
  .next (pcieAtomicop s part.val off op.val width.val v.toNat c.toNat)

/-- TX_DOORBELL_WRITE (R718). -/
def execTxDoorbellWrite (part : Fin 4) (q : Fin 64) (v : W32) (s : State) : Host.Outcome State Fault Refusal :=
  .next (s.hostCmd part.val 17 fun s => txDoorbellWrite s part.val q.val v.toNat)

/-- RX_DOORBELL_WRITE (R712). -/
def execRxDoorbellWrite (part : Fin 4) (q : Fin 64) (v : W32) (s : State) : Host.Outcome State Fault Refusal :=
  .next (s.hostCmd part.val 17 fun s => rxDoorbellWrite s part.val q.val v.toNat)

/-- TX_DESCRIPTOR_PROCESS (R715). -/
def execTxDescriptorProcess (now : Nat) (part : Fin 4) (q : Fin 64) (desc frame : List Byte) (readOk : Bool)
    (s : State) : Host.Outcome State Fault Refusal :=
  .next (txDescriptorProcess s now part.val q.val desc frame readOk)

/-- RX_MESSAGE_DELIVER (R710). -/
def execRxMessageDeliver (now : Nat) (part : Fin 4) (q : Fin 64) (s : State) : Host.Outcome State Fault Refusal :=
  .next (rxMessageDeliver s now part.val q.val)

/-- HOST_QUEUE_ENABLE (R720). -/
def execHostQueueEnable (part : Fin 4) (tx : Bool) (q : Fin 64) (s : State) : Host.Outcome State Fault Refusal :=
  .next (s.hostCmd part.val 17 fun s => hostQueueEnable s part.val tx q.val)

/-- HOST_QUEUE_DISABLE (R719). -/
def execHostQueueDisable (part : Fin 4) (tx : Bool) (q : Fin 64) (s : State) : Host.Outcome State Fault Refusal :=
  .next (s.hostCmd part.val 17 fun s => hostQueueDisable s part.val tx q.val)

/-- HOST_QUEUE_SHUTDOWN_DONE (R719). -/
def execHostQueueShutdownDone (part : Fin 4) (tx : Bool) (q : Fin 64) (s : State) : Host.Outcome State Fault Refusal :=
  .next (hostQueueShutdownDone s part.val tx q.val)

/-- ITR_HOLD_EXPIRE (R722). -/
def execItrHoldExpire (now : Nat) (part : Fin 4) (vec : Fin 128) (s : State) : Host.Outcome State Fault Refusal :=
  .next (itrHoldExpire s now part.val vec.val)

/-- HST_LAT_WRITE (R723). -/
def execHstLatWrite (part : Fin 4) (v : BitVec 20) (s : State) : Host.Outcome State Fault Refusal :=
  .next (s.hostCmd part.val 17 fun s => hstLatWrite s part.val v.toNat)

/-- HST_PRST_GO (R728). -/
def execHstPrstGo (part : Fin 4) (target : BitVec 3) (s : State) : Host.Outcome State Fault Refusal :=
  .next (s.hostCmd part.val 17 fun s => hstPrstGo s part.val target.toNat)

/-- PCIE_FUNCTION_LEVEL_RESET (R728). -/
def execPcieFunctionLevelReset (part : Fin 4) (s : State) : Host.Outcome State Fault Refusal :=
  .next (pcieFunctionLevelReset s part.val)

/-- PCIE_LINK_RESET (R728). -/
def execPcieLinkReset (link : Fin 4) (s : State) : Host.Outcome State Fault Refusal :=
  .next (pcieLinkReset s link.val)

/-- EOE_LINK_DOWN_TIMEOUT (R728). -/
def execEoeLinkDownTimeout (now : Nat) (part : Fin 4) (s : State) : Host.Outcome State Fault Refusal :=
  .next (eoeLinkDownTimeout s now part.val)

/-- PARTITION_RESET_DRAINED (R729). -/
def execPartitionResetDrained (part : Fin 4) (s : State) : Host.Outcome State Fault Refusal :=
  .next (partitionResetDrained s part.val)

/-- EOE_FRAME_RECEIVE (R727). -/
def execEoeFrameReceive (now : Nat) (port : Fin 32) (bytes : List Byte) (s : State) : Host.Outcome State Fault Refusal :=
  .next (eoeFrameReceive s now port.val bytes)

/-- EOE_MESSAGE_SEND (R726). -/
def execEoeMessageSend (now : Nat) (part : Fin 4) (q : Fin 64) (s : State) : Host.Outcome State Fault Refusal :=
  .next (eoeMessageSend s now part.val q.val)

/-- PCIE_LINK_UP (R723). -/
def execPcieLinkUp (link : Fin 4) (width rate : BitVec 4) (s : State) : Host.Outcome State Fault Refusal :=
  .next (pcieLinkUp s link.val width.toNat rate.toNat)

end Sys2Proof.Machine
end

