-- ==== Sys2Proof/Machine/ExecMemory.lean ====
section
/-! DEFINITION. The meanings of the commands of Cistern, caches and the in-package DRAM, one definition for each row of the opcode table. -/

namespace Sys2Proof.Machine

/-- POOL_REFILL_DONE (R483). -/
def execPoolRefillDone (pool : Fin 256) (s : State) : Host.Outcome State Fault Refusal :=
  .next (poolRefillDone s pool.val)

/-- POOL_SPILL_DONE (R483). -/
def execPoolSpillDone (pool : Fin 256) (s : State) : Host.Outcome State Fault Refusal :=
  .next (poolSpillDone s pool.val)

/-- BUFFER_SCRUB_DONE (R482). -/
def execBufferScrubDone (pool : Fin 256) (handle : BitVec 24) (s : State) : Host.Outcome State Fault Refusal :=
  .next (bufferScrubDone s pool.val handle.toNat)

/-- CIS_QUOTA_WRITE (R500). -/
def execCisQuotaWrite (part : Fin 4) (p : Fin 5) (v : W32) (s : State) : Host.Outcome State Fault Refusal :=
  .next (s.hostCmd part.val 5 fun s => cisQuotaWrite s part.val p.val v.toNat)

/-- CIS_ERR_POP (R503). -/
def execCisErrPop (part : Fin 4) (s : State) : Host.Outcome State Fault Refusal :=
  .next (s.hostCmd part.val 5 fun s => cisErrPop s part.val)

/-- IPD_COMMAND_ISSUE (R543). -/
def execIpdCommandIssue (now : Nat) (pc : Fin 32) (s : State) : Host.Outcome State Fault Refusal :=
  .next (ipdCommandIssue s now pc.val)

/-- IPD_ACCESS_COMPLETE (R547). -/
def execIpdAccessComplete (pc : Fin 32) (ecc : Fin 3) (s : State) : Host.Outcome State Fault Refusal :=
  .next (ipdAccessComplete s pc.val ecc.val)

/-- REFRESH (R549). -/
def execRefresh (pc : Fin 32) (bank : Fin 16) (periodStart : Bool) (s : State) : Host.Outcome State Fault Refusal :=
  .next (refresh s pc.val bank.val periodStart)

/-- PATROL_SCRUB (R553). -/
def execPatrolScrub (line : Fin 134217728) (ecc : List (Fin 3)) (s : State) : Host.Outcome State Fault Refusal :=
  .next (patrolScrub s line.val (ecc.map Fin.val))

/-- TRACKING_STEP (R559). -/
def execTrackingStep (pc : Fin 32) (windowEnd : Bool) (s : State) : Host.Outcome State Fault Refusal :=
  .next (trackingStep s pc.val windowEnd)

/-- FULL_RETRAIN_START (R561). -/
def execFullRetrainStart (pc : Fin 32) (s : State) : Host.Outcome State Fault Refusal :=
  .next (fullRetrainStart s pc.val)

/-- FULL_RETRAIN_END (R562). -/
def execFullRetrainEnd (pc : Fin 32) (works : Bool) (temp margin : BitVec 8)
    (s : State) : Host.Outcome State Fault Refusal :=
  .next (fullRetrainEnd s pc.val works temp.toNat margin.toNat)

/-- PC_RETIRE_START (R563). -/
def execPcRetireStart (pc : Fin 32) (works16 works33 : Bool) (s : State) : Host.Outcome State Fault Refusal :=
  .next (pcRetireStart s pc.val works16 works33)

/-- PC_RETIRE_COMPLETE (R564). -/
def execPcRetireComplete (pc : Fin 32) (bad : List Nat) (s : State) : Host.Outcome State Fault Refusal :=
  .next (pcRetireComplete s pc.val bad)

/-- CACHE_FILL_COMPLETE (R520). -/
def execCacheFillComplete (cache : Fin 221) (line : Fin 134217728) (s : State) : Host.Outcome State Fault Refusal :=
  .next (cacheFillComplete s cache.val line.val)

/-- EVICTION_WRITEBACK (R516). -/
def execEvictionWriteback (cache : Fin 221) (s : State) : Host.Outcome State Fault Refusal :=
  .next (evictionWriteback s cache.val)

/-- CIS_POOL_COUNT_READ (R508). -/
def execCisPoolCountRead (part : Fin 4) (s : State) : Host.Outcome State Fault Refusal :=
  .next (s.hostGet part.val 5 fun s => cisPoolCountRead s part.val)

end Sys2Proof.Machine
end

