-- ==== Sys2Proof/Machine/ExecPath.lean ====
section
/-! DEFINITION. The meanings of the commands of order, the Sluice and time, one definition for each row of the opcode table. -/

namespace Sys2Proof.Machine

/-- PAUSE_FRAME_RECEIVE (R619). -/
def execPauseFrameReceive (now : Nat) (port : Fin 32) (pfc : Bool) (classes : BitVec 8) (quanta : List (BitVec 16))
    (s : State) : Host.Outcome State Fault Refusal :=
  .next (pauseFrameReceive s now port.val pfc classes.toNat quanta)

/-- PAUSE_QUANTA_EXPIRE (R619). -/
def execPauseQuantaExpire (now : Nat) (port : Fin 32) (cls : Fin 8) (s : State) : Host.Outcome State Fault Refusal :=
  .next (pauseQuantaExpire s now port.val cls.val)

/-- DROPLET_DISPATCH (R65). -/
def execDropletDispatch (t : Fin 1536) (s : State) : Host.Outcome State Fault Refusal :=
  .next (dispatch s t.val)

/-- HOLD_EXPIRE (R100). -/
def execHoldExpire (now : Nat) (slot : Fin 65536) (s : State) : Host.Outcome State Fault Refusal :=
  .next (holdExpire s now slot.val)

/-- TRANSMISSION_SELECT (R617). -/
def execTransmissionSelect (now : Nat) (port : Fin 32) (s : State) : Host.Outcome State Fault Refusal :=
  .next (transmissionSelect s now port.val)

/-- FRAME_TRANSMIT_END (R68). -/
def execFrameTransmitEnd (now : Nat) (port : Fin 32) (express : Bool) (s : State) : Host.Outcome State Fault Refusal :=
  .next ((frameSent s now port.val express).macsecCheck port.val)

/-- SHAPER_REFILL (R600). -/
def execShaperRefill (now : Nat) (s : State) : Host.Outcome State Fault Refusal :=
  .next (shaperRefill s now)

/-- METER_REFILL (R604). -/
def execMeterRefill (now : Nat) (s : State) : Host.Outcome State Fault Refusal :=
  .next (meterRefill s now)

/-- GATE_EVENT (R607). -/
def execGateEvent (now : Nat) (sgate : Bool) (idx : Fin 1024) (s : State) : Host.Outcome State Fault Refusal :=
  .next (gateEvent s now sgate idx.val)

/-- GCL_CONFIG_SWAP (R610). -/
def execGclConfigSwap (now : Nat) (sgate : Bool) (idx : Fin 1024) (s : State) : Host.Outcome State Fault Refusal :=
  .next (gclConfigSwap s now sgate idx.val)

/-- SRF_RESET_TIMEOUT (R586). -/
def execSrfResetTimeout (now : Nat) (srf : Fin 4096) (s : State) : Host.Outcome State Fault Refusal :=
  .next (srfResetTimeout s now srf.val)

/-- FCI_EDGE (R620). -/
def execFciEdge (now : Nat) (n : Fin 8) (level : Bool) (s : State) : Host.Outcome State Fault Refusal :=
  .next (fciEdge s now n.val level)

/-- QUEUE_SHUTDOWN_DONE (R598). -/
def execQueueShutdownDone (kind : Fin 3) (idx : Fin 320) (s : State) : Host.Outcome State Fault Refusal :=
  .next (queueShutdownDone s kind.val idx.val)

/-- TICK (R575). -/
def execTick (now : Nat) (s : State) : Host.Outcome State Fault Refusal :=
  .next (tickBoth s now)

/-- DELAY_EXPIRE (R655). -/
def execDelayExpire (desc : Fin 4096) (s : State) : Host.Outcome State Fault Refusal :=
  .next (delayExpire s desc.val)

/-- PPS_OUT_SECOND (R577). -/
def execPpsOutSecond (now : Nat) (s : State) : Host.Outcome State Fault Refusal :=
  .next (ppsOutSecond s now)

/-- PPS_IN_EDGE (R577). -/
def execPpsInEdge (now : Nat) (s : State) : Host.Outcome State Fault Refusal :=
  .next (ppsInEdge s now)

/-- RECIRC_CLASSIFY (R444). -/
def execRecircClassify (s : State) : Host.Outcome State Fault Refusal :=
  .next (recircClassify s)

/-- PAUSE_REFRESH (R472). -/
def execPauseRefresh (now : Nat) (port : Fin 32) (s : State) : Host.Outcome State Fault Refusal :=
  .next (pauseRefresh s now port.val)

/-- FCO_MIN_HOLD_EXPIRE (R467). -/
def execFcoMinHoldExpire (now : Nat) (n : Fin 8) (s : State) : Host.Outcome State Fault Refusal :=
  .next (fcoMinHoldExpire s now n.val)

/-- SLU_READ (R623). -/
def execSluRead (part : Fin 5) (s : State) : Host.Outcome State Fault Refusal :=
  .next (s.hostCmd part.val 6 fun s => sluRead s part.val)

/-- SLU_WRITE (R623). -/
def execSluWrite (part : Fin 5) (s : State) : Host.Outcome State Fault Refusal :=
  .next (s.hostCmd part.val 6 fun s => sluWrite s part.val)

/-- SLU_FLUSH (R599). -/
def execSluFlush (part : Fin 5) (s : State) : Host.Outcome State Fault Refusal :=
  .next (s.hostCmd part.val 6 fun s => sluFlush s part.val)

/-- SLU_CLEAR (R623). -/
def execSluClear (part : Fin 5) (s : State) : Host.Outcome State Fault Refusal :=
  .next (s.hostCmd part.val 6 fun s => sluClear s part.val)

/-- CONFIG_CHANGE (R609). -/
def execConfigChange (part : Fin 5) (s : State) : Host.Outcome State Fault Refusal :=
  .next (s.hostCmd part.val 6 fun s => sluConfigChange s part.val)

/-- TIM_SNAP (R628). -/
def execTimSnap (part : Fin 4) (s : State) : Host.Outcome State Fault Refusal :=
  .next (s.hostCmd part.val 11 fun s => timSnap s part.val)

/-- TIM_STEP (R573). -/
def execTimStep (part : Fin 5) (dom : Fin 4) (s : State) : Host.Outcome State Fault Refusal :=
  .next (s.hostCmd part.val 11 fun s => timStep s part.val dom.val)

/-- TIM_RATE_WRITE (R573). -/
def execTimRateWrite (part : Fin 5) (dom : Fin 4) (v : W32) (s : State) : Host.Outcome State Fault Refusal :=
  .next (s.hostCmd part.val 11 fun s => timRateWrite s part.val dom.val v.toNat)

/-- PPS_OUT_WIDTH_END (R577). -/
def execPpsOutWidthEnd (now : Nat) (s : State) : Host.Outcome State Fault Refusal :=
  .next (ppsOutWidthEnd s now)

end Sys2Proof.Machine
end

