-- ==== Sys2Proof/Machine/ExecRegister.lean ====
section
/-! DEFINITION. The meanings of the commands of register reads and writes, one definition for each row of the opcode table. -/

namespace Sys2Proof.Machine

/-- WEIR_HOLD_SUSPEND_WRITE (R104). -/
def execWeirHoldSuspendWrite (part : Fin 4) (v : W32) (s : State) : Host.Outcome State Fault Refusal :=
  .next (s.hostCmd part.val 1 fun s => weirHoldSuspendWrite s part.val v.toNat)

/-- BAR0_PARTIAL_WRITE (R898). -/
def execBar0PartialWrite (part : Fin 4) (s : State) : Host.Outcome State Fault Refusal :=
  .next (bar0PartialWrite s part.val)

/-- COUNTER_LOW_WORD_READ (R129). -/
def execCounterLowWordRead (part : Fin 4) (read : WordRead) (s : State) : Host.Outcome State Fault Refusal :=
  .next (counterLowWordRead s part.val read.addr.toNat read.be.toNat)

/-- RC_FIELD_READ (R17). -/
def execRcFieldRead (part : Fin 4) (read : WordRead) (s : State) : Host.Outcome State Fault Refusal :=
  .next (rcFieldRead s part.val read.addr.toNat read.be.toNat)

/-- WEIR_DOM_STAT0_READ (R128). -/
def execWeirDomStat0Read (part : Fin 4) (s : State) : Host.Outcome State Fault Refusal :=
  .next (s.hostGet part.val 1 fun s => weirDomStat0Read s part.val)

/-- BSN_CH_STAT0_READ (R476). -/
def execBsnChStat0Read (part : Fin 4) (s : State) : Host.Outcome State Fault Refusal :=
  .next (s.hostGet part.val 9 fun s => bsnChStat0Read s part.val)

/-- PMP_DESC_W0_READ (R662). -/
def execPmpDescW0Read (part : Fin 4) (s : State) : Host.Outcome State Fault Refusal :=
  .next (s.hostGet part.val 8 fun s => pmpDescRead s part.val)

/-- REGISTER_WRITE (R14). -/
def execRegisterWrite (part : Fin 5) (bar2 : Bool) (addr : BitVec 22) (v : W32)
    (s : State) : Host.Outcome State Fault Refusal :=
  .next (registerWrite s part.val bar2 addr.toNat v.toNat)

end Sys2Proof.Machine
end

