-- ==== Sys2Proof/Machine/ExecReplay.lean ====
section
/-! DEFINITION. The meanings of the commands of the Reflecting Pool, replay and debug, one definition for each row of the opcode table. -/

namespace Sys2Proof.Machine

/-- RPL_TRIGGER (R879). -/
def execRplTrigger (part : Fin 4) (s : State) : Host.Outcome State Fault Refusal :=
  .next (s.hostCmd part.val 15 fun s => rplTrigger s part.val)

/-- POST_WINDOW_END (R879). -/
def execPostWindowEnd (now : Nat) (s : State) : Host.Outcome State Fault Refusal :=
  .next (postWindowEnd s now)

/-- FREEZE_PIN_EDGE (R880). -/
def execFreezePinEdge (now : Nat) (s : State) : Host.Outcome State Fault Refusal :=
  .next (freezePinEdge s now)

/-- RPL_FREEZE (R880). -/
def execRplFreeze (part : Fin 4) (s : State) : Host.Outcome State Fault Refusal :=
  .next (s.hostCmd part.val 15 fun s => rplFreeze s part.val)

/-- RPL_RELEASE (R881). -/
def execRplRelease (part : Fin 4) (s : State) : Host.Outcome State Fault Refusal :=
  .next (s.hostCmd part.val 15 fun s => rplRelease s part.val)

/-- RPL_EXPORT (R882). -/
def execRplExport (part : Fin 4) (s : State) : Host.Outcome State Fault Refusal :=
  .next (s.hostCmd part.val 15 fun s => rplExport s part.val)

/-- RPL_REPLAY (R883). -/
def execRplReplay (part : Fin 4) (s : State) : Host.Outcome State Fault Refusal :=
  .next (s.hostCmd part.val 15 fun s => rplReplay s part.val)

/-- RPL_ABORT (R883). -/
def execRplAbort (part : Fin 4) (s : State) : Host.Outcome State Fault Refusal :=
  .next (s.hostCmd part.val 15 fun s => rplAbort s part.val)

/-- REPLAY_END (R886). -/
def execReplayEnd (s : State) : Host.Outcome State Fault Refusal :=
  .next (replayEnd s)

/-- DBG_HALT (R887). -/
def execDbgHalt (part : Fin 5) (s : State) : Host.Outcome State Fault Refusal :=
  .next (s.hostCmd part.val 15 fun s => dbgHalt s part.val)

/-- DBG_RESUME (R888). -/
def execDbgResume (part : Fin 5) (s : State) : Host.Outcome State Fault Refusal :=
  .next (s.hostCmd part.val 15 fun s => dbgResume s part.val)

/-- DBG_STEP (R888). -/
def execDbgStep (part : Fin 5) (s : State) : Host.Outcome State Fault Refusal :=
  .next (s.hostCmd part.val 15 fun s => dbgStep s part.val)

/-- DBG_KILL (R889). -/
def execDbgKill (part : Fin 5) (s : State) : Host.Outcome State Fault Refusal :=
  .next (s.hostCmd part.val 15 fun s => dbgKill s part.val)

/-- DBG_RDREG (R890). -/
def execDbgRdreg (part : Fin 5) (s : State) : Host.Outcome State Fault Refusal :=
  .next (s.hostCmd part.val 15 fun s => dbgRdreg s part.val)

/-- DBG_WRREG (R890). -/
def execDbgWrreg (part : Fin 5) (s : State) : Host.Outcome State Fault Refusal :=
  .next (s.hostCmd part.val 15 fun s => dbgWrreg s part.val)

/-- DBG_BRK_SET (R891). -/
def execDbgBrkSet (part : Fin 5) (s : State) : Host.Outcome State Fault Refusal :=
  .next (s.hostCmd part.val 15 fun s => dbgBrkSet s part.val)

/-- DBG_BRK_CLR (R891). -/
def execDbgBrkClr (part : Fin 5) (s : State) : Host.Outcome State Fault Refusal :=
  .next (s.hostCmd part.val 15 fun s => dbgBrkClr s part.val)

/-- RECORD_BUCKET_REFILL (R876). -/
def execRecordBucketRefill (now : Nat) (s : State) : Host.Outcome State Fault Refusal :=
  .next (recordBucketRefill s now)

end Sys2Proof.Machine
end

