-- ==== Sys2Proof/Machine/ExecReset.lean ====
section
/-! DEFINITION. The meanings of the commands of supplies, resets, boot and crossings, one definition for each row of the opcode table. -/

namespace Sys2Proof.Machine

/-- POWER_ON_RESET (R911). -/
def execPowerOnReset (now : Nat) (s : State) : Host.Outcome State Fault Refusal :=
  .next (powerOnReset s now)

/-- RAILS_OK_RISE (R913). -/
def execRailsOkRise (now : Nat) (s : State) : Host.Outcome State Fault Refusal :=
  .next (railsOkRise s now)

/-- RAILS_OK_TIMEOUT (R913). -/
def execRailsOkTimeout (now : Nat) (s : State) : Host.Outcome State Fault Refusal :=
  .next (railsOkTimeout s now)

/-- CORE_EN_RETRY (R913). -/
def execCoreEnRetry (now : Nat) (s : State) : Host.Outcome State Fault Refusal :=
  .next (coreEnRetry s now)

/-- RAILS_OK_FALL (R914). -/
def execRailsOkFall (now : Nat) (s : State) : Host.Outcome State Fault Refusal :=
  .next (railsOkFall s now)

/-- RAIL_VOLTAGE_OUT_OF_RANGE (R914). -/
def execRailVoltageOutOfRange (now : Nat) (monitor : Fin 16) (s : State) : Host.Outcome State Fault Refusal :=
  .next (railOutOfRange s now monitor.val)

/-- AON_BROWNOUT (R915). -/
def execAonBrownout (now : Nat) (s : State) : Host.Outcome State Fault Refusal :=
  .next (aonBrownout s now)

/-- RESET_N_ASSERT (R793). -/
def execResetNAssert (now : Nat) (s : State) : Host.Outcome State Fault Refusal :=
  .next (resetNAssert s now)

/-- RESET_RELEASE (R913). -/
def execResetRelease (now : Nat) (qmode2 qmode3 : Fin 4) (s : State) : Host.Outcome State Fault Refusal :=
  .next (resetRelease s now qmode2.val qmode3.val)

/-- IMAGE_VERDICT (R834). -/
def execImageVerdict (now : Nat) (bist : BootTests) (slices : List (Fin 36)) (repairs : List (Nat × BitVec 16 × W32 × W32))
    (s : State) : Host.Outcome State Fault Refusal :=
  .next (imageVerdict s now bist.failed slices repairs bist.scans)

/-- XNG_ISL_RESET (R795). -/
def execXngIslReset (part : Fin 4) (isl : BitVec 4) (s : State) : Host.Outcome State Fault Refusal :=
  .next (s.hostCmd part.val 16 fun s => xngIslReset s part.val isl.toNat)

/-- ISLAND_LEAVE_RESET (R791). -/
def execIslandLeaveReset (isl : Fin 13) (s : State) : Host.Outcome State Fault Refusal :=
  .next (islandLeaveReset s isl.val)

/-- CLOCK_STOP (R789). -/
def execClockStop (isl : Fin 11) (s : State) : Host.Outcome State Fault Refusal :=
  .next (clockStop s isl.val)

/-- CLOCK_RETURN (R788). -/
def execClockReturn (isl : Fin 11) (s : State) : Host.Outcome State Fault Refusal :=
  .next (clockReturn s isl.val)

/-- COUNTED_CROSSING_PULSE (R785). -/
def execCountedCrossingPulse (isl : Fin 13) (chan : Fin 64) (s : State) : Host.Outcome State Fault Refusal :=
  .next (countedPulse s isl.val chan.val)

/-- COALESCED_CROSSING_PULSE (R787). -/
def execCoalescedCrossingPulse (isl : Fin 13) (chan : Fin 64) (s : State) : Host.Outcome State Fault Refusal :=
  .next (coalescedPulse s isl.val chan.val)

/-- CROSSING_ACKNOWLEDGE (R785). -/
def execCrossingAcknowledge (isl : Fin 13) (chan : Fin 64) (s : State) : Host.Outcome State Fault Refusal :=
  .next (crossingAck s isl.val chan.val)

end Sys2Proof.Machine
end

