-- ==== Sys2Proof/Machine/ExecRules.lean ====
section
/-! DEFINITION. The meanings of the commands of rule versions and exact-match tables, one definition for each row of the opcode table. -/

namespace Sys2Proof.Machine

/-- LEARN_PROCESS (R212). -/
def execLearnProcess (s : State) : Host.Outcome State Fault Refusal :=
  .next (learnProcess s)

/-- EP_CREATE (R232). -/
def execEpCreate (s : State) : Host.Outcome State Fault Refusal :=
  .next (epCreate s)

/-- AGEING_VISIT (R216). -/
def execAgeingVisit (table : Fin 17) (s : State) : Host.Outcome State Fault Refusal :=
  .next (ageingVisit s table.val)

/-- COMMIT_REQUEST (R179). -/
def execCommitRequest (part : Fin 5) (s : State) : Host.Outcome State Fault Refusal :=
  .next (s.ruleCmd part.val fun s => commitRequest s part.val)

/-- COMMIT_EXECUTE (R176). -/
def execCommitExecute (s : State) : Host.Outcome State Fault Refusal :=
  .next (commitExecute s)

/-- VERSION_RETIRE (R189). -/
def execVersionRetire (slot : Fin 4) (s : State) : Host.Outcome State Fault Refusal :=
  .next (versionRetire s slot.val)

/-- RUL_STG_WRITE (R171). -/
def execRulStgWrite (part : Fin 5) (s : State) : Host.Outcome State Fault Refusal :=
  .next (s.ruleCmd part.val fun s => rulStgWrite s part.val)

/-- RUL_STG_READ (R174). -/
def execRulStgRead (part : Fin 5) (s : State) : Host.Outcome State Fault Refusal :=
  .next (s.ruleCmd part.val fun s => rulStgRead s part.val)

/-- RUL_STG_CLEAR (R175). -/
def execRulStgClear (part : Fin 5) (s : State) : Host.Outcome State Fault Refusal :=
  .next (s.ruleCmd part.val fun s => rulStgClear s part.val)

/-- RUL_PIN_PIN (R193). -/
def execRulPinPin (part : Fin 4) (version : BitVec 16) (s : State) : Host.Outcome State Fault Refusal :=
  .next (s.hostCmd part.val 3 fun s => rulPinPin s part.val version.toNat)

/-- RUL_PIN_UNPIN (R193). -/
def execRulPinUnpin (part : Fin 4) (version : BitVec 16) (s : State) : Host.Outcome State Fault Refusal :=
  .next (s.hostCmd part.val 3 fun s => rulPinUnpin s part.val version.toNat)

/-- TBL_INSERT (R237). -/
def execTblInsert (part : Fin 4) (s : State) : Host.Outcome State Fault Refusal :=
  .next (s.hostCmd part.val 4 fun s => tblInsert s part.val)

/-- TBL_DELETE (R236). -/
def execTblDelete (part : Fin 4) (s : State) : Host.Outcome State Fault Refusal :=
  .next (s.hostCmd part.val 4 fun s => tblDelete s part.val)

/-- TBL_READ (R236). -/
def execTblRead (part : Fin 4) (s : State) : Host.Outcome State Fault Refusal :=
  .next (s.hostCmd part.val 4 fun s => tblRead s part.val)

/-- TBL_UPDATE (R238). -/
def execTblUpdate (part : Fin 4) (s : State) : Host.Outcome State Fault Refusal :=
  .next (s.hostCmd part.val 4 fun s => tblUpdate s part.val)

/-- TBL_FLUSH (R239). -/
def execTblFlush (part : Fin 4) (s : State) : Host.Outcome State Fault Refusal :=
  .next (s.hostCmd part.val 4 fun s => tblFlush s part.val)

/-- TBL_FLUSH_DONE (R239). -/
def execTblFlushDone (part : Fin 4) (s : State) : Host.Outcome State Fault Refusal :=
  .next (tblFlushDone s part.val)

/-- TBL_NEXT (R236). -/
def execTblNext (part : Fin 4) (s : State) : Host.Outcome State Fault Refusal :=
  .next (s.hostCmd part.val 4 fun s => tblNext s part.val)

end Sys2Proof.Machine
end

