-- ==== Sys2Proof/Machine/ExecSupervise.lean ====
section
/-! DEFINITION. The meanings of the commands of the management SPI port, power, Fountainhead and self-test, one definition for each row of the opcode table. -/

namespace Sys2Proof.Machine

/-- SPI_READ (R803). -/
def execSpiRead (now : Nat) (frame : List Byte) (s : State) : Host.Outcome State Fault Refusal :=
  .next (spiRead s now frame)

/-- SPI_WRITE (R803). -/
def execSpiWrite (now : Nat) (frame : List Byte) (s : State) : Host.Outcome State Fault Refusal :=
  .next (spiWrite s now frame)

/-- SPI_RESET (R794). -/
def execSpiReset (now : Nat) (frame : List Byte) (s : State) : Host.Outcome State Fault Refusal :=
  .next (spiReset s now frame)

/-- SPI_FREEZE (R801). -/
def execSpiFreeze (now : Nat) (frame : List Byte) (s : State) : Host.Outcome State Fault Refusal :=
  .next (spiFreeze s now frame)

/-- SPI_DRY (R799). -/
def execSpiDry (now : Nat) (frame : List Byte) (s : State) : Host.Outcome State Fault Refusal :=
  .next (spiDry s now frame)

/-- SPI_LOCKDOWN (R800). -/
def execSpiLockdown (now : Nat) (frame : List Byte) (s : State) : Host.Outcome State Fault Refusal :=
  .next (spiLockdown s now frame)

/-- SPI_FRAME_ERROR (R802). -/
def execSpiFrameError (now : Nat) (frame : List Byte) (s : State) : Host.Outcome State Fault Refusal :=
  .next (spiFrameError s now frame)

/-- POWER_TARGET_EVAL (R809). -/
def execPowerTargetEval (now : Nat) (s : State) : Host.Outcome State Fault Refusal :=
  .next (powerTargetEval s now)

/-- DWELL_EXPIRE (R810). -/
def execDwellExpire (now : Nat) (s : State) : Host.Outcome State Fault Refusal :=
  .next (dwellExpire s now)

/-- WAKE_EVENT (R816). -/
def execWakeEvent (now : Nat) (cause : Fin 8) (s : State) : Host.Outcome State Fault Refusal :=
  .next (wakeEvent s now cause.val)

/-- PWR_WAKE_TIMER_EXPIRE (R816). -/
def execPwrWakeTimerExpire (now : Nat) (s : State) : Host.Outcome State Fault Refusal :=
  .next (wakeTimerExpire s now)

/-- PWR_CMD_ENTER_DRY (R799). -/
def execPwrCmdEnterDry (now : Nat) (part : Fin 4) (s : State) : Host.Outcome State Fault Refusal :=
  .next (s.hostCmd part.val 12 fun s => pwrEnterDry s now part.val)

/-- PWR_CMD_WAKE (R816). -/
def execPwrCmdWake (now : Nat) (part : Fin 4) (s : State) : Host.Outcome State Fault Refusal :=
  .next (s.hostCmd part.val 12 fun s => pwrWake s now part.val)

/-- GAUGE_SAMPLE (R818). -/
def execGaugeSample (now : Nat) (temps volts speeds : List Nat) (s : State) : Host.Outcome State Fault Refusal :=
  .next (gaugeSample s now temps volts speeds)

/-- TRIP_COOLDOWN_END (R825). -/
def execTripCooldownEnd (now : Nat) (s : State) : Host.Outcome State Fault Refusal :=
  .next (tripCooldownEnd s now)

/-- FLOOR_LOOP (R819). -/
def execFloorLoop (now : Nat) (ack : Bool) (s : State) : Host.Outcome State Fault Refusal :=
  .next (floorLoop s now ack)

/-- SHED_INTERVAL_STEP (R821). -/
def execShedIntervalStep (now : Nat) (s : State) : Host.Outcome State Fault Refusal :=
  .next (shedIntervalStep s now)

/-- PMB_ALERT (R920). -/
def execPmbAlert (now : Nat) (s : State) : Host.Outcome State Fault Refusal :=
  .next (pmbAlert s now)

/-- FTH_NONCE (R841). -/
def execFthNonce (now : Nat) (part : Fin 4) (entropy : List Byte) (s : State) : Host.Outcome State Fault Refusal :=
  .next (s.hostCmd part.val 14 fun s => fthNonce s now part.val entropy)

/-- NONCE_EXPIRE (R841). -/
def execNonceExpire (now : Nat) (s : State) : Host.Outcome State Fault Refusal :=
  .next (nonceExpire s now)

/-- FTH_TOKEN (R842). -/
def execFthToken (now : Nat) (part : Fin 4) (s : State) : Host.Outcome State Fault Refusal :=
  .next (s.hostCmd part.val 14 fun s => fthToken s now part.val)

/-- SVC_BTN_PRESS (R843). -/
def execSvcBtnPress (now : Nat) (s : State) : Host.Outcome State Fault Refusal :=
  .next (svcBtnPress s now)

/-- PRESS_WAIT_TIMEOUT (R843). -/
def execPressWaitTimeout (now : Nat) (s : State) : Host.Outcome State Fault Refusal :=
  .next (pressWaitTimeout s now)

/-- FTH_ATTEST (R845). -/
def execFthAttest (part : Fin 4) (s : State) : Host.Outcome State Fault Refusal :=
  .next (s.hostCmd part.val 14 fun s => fthAttest s part.val)

/-- FTH_CONFIRM (R838). -/
def execFthConfirm (part : Fin 4) (s : State) : Host.Outcome State Fault Refusal :=
  .next (s.hostCmd part.val 14 fun s => fthConfirm s part.val)

/-- FTH_LC_ADVANCE (R839). -/
def execFthLcAdvance (part : Fin 4) (arg : BitVec 3) (entropy : List Byte) (s : State) : Host.Outcome State Fault Refusal :=
  .next (s.hostCmd part.val 14 fun s => fthLcAdvance s part.val arg.toNat entropy)

/-- FTH_PROVISION (R704). -/
def execFthProvision (part : Fin 4) (s : State) : Host.Outcome State Fault Refusal :=
  .next (s.hostCmd part.val 14 fun s => fthProvision s part.val)

/-- FTH_IMG_ERASE (R836). -/
def execFthImgErase (part : Fin 4) (slot : BitVec 3) (s : State) : Host.Outcome State Fault Refusal :=
  .next (s.hostCmd part.val 14 fun s => fthImgErase s part.val slot.toNat)

/-- FTH_IMG_VERIFY (R837). -/
def execFthImgVerify (part : Fin 4) (slot : BitVec 3) (s : State) : Host.Outcome State Fault Refusal :=
  .next (s.hostCmd part.val 14 fun s => fthImgVerify s part.val slot.toNat)

/-- FTH_WIN_WRITE (R836). -/
def execFthWinWrite (part : Fin 4) (target : BitVec 4) (off : BitVec 11) (s : State) : Host.Outcome State Fault Refusal :=
  .next (s.hostCmd part.val 14 fun s => fthWinWrite s part.val target.toNat off.toNat)

/-- FTH_WIN_READ (R849). -/
def execFthWinRead (part : Fin 4) (target : BitVec 4) (off : BitVec 11) (s : State) : Host.Outcome State Fault Refusal :=
  .next (s.hostCmd part.val 14 fun s => fthWinRead s part.val target.toNat off.toNat)

/-- EXPORT_TRAILER_SIGNED (R846). -/
def execExportTrailerSigned (s : State) : Host.Outcome State Fault Refusal :=
  .next (exportTrailerSigned s)

/-- FTH_ST_REGION (R854). -/
def execFthStRegion (part : Fin 4) (region : BitVec 4) (s : State) : Host.Outcome State Fault Refusal :=
  .next (s.hostCmd part.val 14 fun s => fthStRegion s part.val region.toNat)

/-- FTH_ST_FULL (R855). -/
def execFthStFull (part : Fin 4) (s : State) : Host.Outcome State Fault Refusal :=
  .next (s.hostCmd part.val 14 fun s => fthStFull s part.val)

/-- FTH_ST_ABORT (R854). -/
def execFthStAbort (part : Fin 4) (s : State) : Host.Outcome State Fault Refusal :=
  .next (s.hostCmd part.val 14 fun s => fthStAbort s part.val)

/-- SCHEDULED_TEST_START (R856). -/
def execScheduledTestStart (now : Nat) (s : State) : Host.Outcome State Fault Refusal :=
  .next (scheduledTestStart s now)

/-- DEFERRED_TEST_START (R857). -/
def execDeferredTestStart (now : Nat) (s : State) : Host.Outcome State Fault Refusal :=
  .next (deferredTestStart s now)

/-- BIST_COMPLETE (R864). -/
def execBistComplete (now : Nat) (test : RegionTest) (mem loadOk : Bool) (helper : BitVec 2)
    (repairs : List (Nat × BitVec 16 × W32 × W32)) (s : State) : Host.Outcome State Fault Refusal :=
  .next (bistComplete s now test.fail.toNat mem loadOk helper repairs test.scan (test.speeds.map BitVec.toNat))

/-- RESERVOIR_MAP_WRITE (R870). -/
def execReservoirMapWrite (s : State) : Host.Outcome State Fault Refusal :=
  .next (s.writeRsv)

/-- FTH_FLOG_COUNT_READ (R850). -/
def execFthFlogCountRead (part : Fin 5) (s : State) : Host.Outcome State Fault Refusal :=
  .next (s.hostGet part.val 14 fun s => flogCountRead s part.val)

/-- FTH_FLOG_DATA_READ (R850). -/
def execFthFlogDataRead (part : Fin 5) (s : State) : Host.Outcome State Fault Refusal :=
  .next (s.hostGet part.val 14 fun s => flogDataRead s part.val)

/-- FTH_RSV_COUNT_READ (R872). -/
def execFthRsvCountRead (part : Fin 5) (s : State) : Host.Outcome State Fault Refusal :=
  .next (s.hostGet part.val 14 fun s => rsvCountRead s part.val)

/-- FTH_RSV_DATA_READ (R872). -/
def execFthRsvDataRead (part : Fin 5) (s : State) : Host.Outcome State Fault Refusal :=
  .next (s.hostGet part.val 14 fun s => rsvDataRead s part.val)

end Sys2Proof.Machine
end

