-- ==== Sys2Proof/Machine/ExecUnits.lean ====
section
/-! DEFINITION. The meanings of the commands of the completion, Lockgate, helper, supervision and control-engine units, one definition for each row of the opcode table. -/

namespace Sys2Proof.Machine

/-- LK_T_ACQ (R386). -/
def execLkTAcq (t : Fin 1544) (x : W32) (s : State) : Host.Outcome State Fault Refusal :=
  .next (s.trigRow t.val 0x350 x fun s => lkAcquire s t.val x.toNat false)

/-- LK_T_TRY (R669). -/
def execLkTTry (t : Fin 1544) (x : W32) (s : State) : Host.Outcome State Fault Refusal :=
  .next (s.trigRow t.val 0x351 x fun s => lkAcquire s t.val x.toNat true)

/-- LK_T_REL (R675). -/
def execLkTRel (t : Fin 1544) (x : W32) (s : State) : Host.Outcome State Fault Refusal :=
  .next (s.trigRow t.val 0x352 x fun s => lkRelease s t.val x.toNat)

/-- LK_T_CANCEL (R387). -/
def execLkTCancel (t : Fin 1544) (x : W32) (s : State) : Host.Outcome State Fault Refusal :=
  .next (s.trigRow t.val 0x353 x fun s => lkCancel s t.val)

/-- LK_T_QUERY (R676). -/
def execLkTQuery (t : Fin 1544) (x : W32) (s : State) : Host.Outcome State Fault Refusal :=
  .next (s.trigRow t.val 0x354 x fun s => lkQuery s t.val x.toNat)

/-- WC_T_NEXT (R260). -/
def execWcTNext (t : Fin 1544) (x : W32) (s : State) : Host.Outcome State Fault Refusal :=
  .next (s.trigRow t.val 0x430 x fun s => wcNext s t.val)

/-- WC_T_SEND (R97). -/
def execWcTSend (t : Fin 1544) (x : W32) (s : State) : Host.Outcome State Fault Refusal :=
  .next (s.trigRow t.val 0x431 x fun s => wcSend s t.val x.toNat)

/-- WC_T_DRY (R98). -/
def execWcTDry (t : Fin 1544) (x : W32) (s : State) : Host.Outcome State Fault Refusal :=
  .next (s.trigRow t.val 0x432 x fun s => wcDry s t.val x.toNat)

/-- WC_T_RECIRC (R69). -/
def execWcTRecirc (t : Fin 1544) (x : W32) (s : State) : Host.Outcome State Fault Refusal :=
  .next (s.trigRow t.val 0x433 x fun s => wcRecirc s t.val x.toNat)

/-- SQ_T_ORIG (R401). -/
def execSqTOrig (t : Fin 1544) (x : W32) (s : State) : Host.Outcome State Fault Refusal :=
  .next (s.trigRow t.val 0x450 x fun s => sqOrig s t.val x.toNat)

/-- SQ_T_DEPTH (R362). -/
def execSqTDepth (t : Fin 1544) (x : W32) (s : State) : Host.Outcome State Fault Refusal :=
  .next (s.trigRow t.val 0x451 x fun s => sqDepth s t.val x.toNat)

/-- HELPER_T_CLAIM (R413). -/
def execHelperTClaim (t : Fin 1544) (h : Fin 2) (x : W32) (s : State) : Host.Outcome State Fault Refusal :=
  .next (s.trigRow t.val (0x470 + 0x040 * h.val + 0) x fun s => hlpClaim s t.val h.val)

/-- HELPER_T_REL (R414). -/
def execHelperTRel (t : Fin 1544) (h : Fin 2) (x : W32) (s : State) : Host.Outcome State Fault Refusal :=
  .next (s.trigRow t.val (0x470 + 0x040 * h.val + 1) x fun s => hlpRel s t.val h.val)

/-- HELPER_T_WR (R409). -/
def execHelperTWr (t : Fin 1544) (h : Fin 2) (x : W32) (s : State) : Host.Outcome State Fault Refusal :=
  .next (s.trigRow t.val (0x470 + 0x040 * h.val + 2) x fun s => hlpWr s t.val h.val x.toNat)

/-- HELPER_T_RD (R409). -/
def execHelperTRd (t : Fin 1544) (h : Fin 2) (x : W32) (s : State) : Host.Outcome State Fault Refusal :=
  .next (s.trigRow t.val (0x470 + 0x040 * h.val + 3) x fun s => hlpRd s t.val h.val x.toNat)

/-- HELPER_T_FEED (R422). -/
def execHelperTFeed (t : Fin 1544) (h : Fin 2) (x : W32) (s : State) : Host.Outcome State Fault Refusal :=
  .next (s.trigRow t.val (0x470 + 0x040 * h.val + 5) x fun s => hlpFeed s t.val h.val x.toNat)

/-- GCM_INIT (R415). -/
def execGcmInit (t : Fin 1544) (x : W32) (s : State) : Host.Outcome State Fault Refusal :=
  .next (s.trigRow t.val 0x474 (rowWord 0x01 x) fun s => opGcmInit s t.val (rowWord 0x01 x).toNat)

/-- GCM_AAD (R419). -/
def execGcmAad (t : Fin 1544) (x : W32) (s : State) : Host.Outcome State Fault Refusal :=
  .next (s.trigRow t.val 0x474 (rowWord 0x02 x) fun s => opGcmAad s t.val (rowWord 0x02 x).toNat)

/-- GCM_ENC (R418). -/
def execGcmEnc (t : Fin 1544) (x : W32) (s : State) : Host.Outcome State Fault Refusal :=
  .next (s.trigRow t.val 0x474 (rowWord 0x03 x) fun s => opGcmEnc s t.val (rowWord 0x03 x).toNat)

/-- GCM_DEC (R418). -/
def execGcmDec (t : Fin 1544) (x : W32) (s : State) : Host.Outcome State Fault Refusal :=
  .next (s.trigRow t.val 0x474 (rowWord 0x04 x) fun s => opGcmDec s t.val (rowWord 0x04 x).toNat)

/-- GCM_TAG (R418). -/
def execGcmTag (t : Fin 1544) (x : W32) (s : State) : Host.Outcome State Fault Refusal :=
  .next (s.trigRow t.val 0x474 (rowWord 0x05 x) fun s => opGcmTag s t.val (rowWord 0x05 x).toNat)

/-- CMAC_INIT (R420). -/
def execCmacInit (t : Fin 1544) (x : W32) (s : State) : Host.Outcome State Fault Refusal :=
  .next (s.trigRow t.val 0x474 (rowWord 0x08 x) fun s => opCmacInit s t.val (rowWord 0x08 x).toNat)

/-- CMAC_DATA (R420). -/
def execCmacData (t : Fin 1544) (x : W32) (s : State) : Host.Outcome State Fault Refusal :=
  .next (s.trigRow t.val 0x474 (rowWord 0x09 x) fun s => opCmacData s t.val (rowWord 0x09 x).toNat)

/-- CMAC_TAG (R420). -/
def execCmacTag (t : Fin 1544) (x : W32) (s : State) : Host.Outcome State Fault Refusal :=
  .next (s.trigRow t.val 0x474 (rowWord 0x0A x) fun s => opCmacTag s t.val (rowWord 0x0A x).toNat)

/-- AES_BLK (R416). -/
def execAesBlk (t : Fin 1544) (x : W32) (s : State) : Host.Outcome State Fault Refusal :=
  .next (s.trigRow t.val 0x474 (rowWord 0x0C x) fun s => opAesBlk s t.val (rowWord 0x0C x).toNat)

/-- EQ (R415). -/
def execEq (t : Fin 1544) (x : W32) (s : State) : Host.Outcome State Fault Refusal :=
  .next (s.trigRow t.val 0x474 (rowWord 0x0F x) fun s => opEq s t.val (rowWord 0x0F x).toNat)

/-- CRC_OPEN (R416). -/
def execCrcOpen (t : Fin 1544) (x : W32) (s : State) : Host.Outcome State Fault Refusal :=
  .next (s.trigRow t.val 0x4B4 (rowWord 0x10 x) fun s => opCrcOpen s t.val (rowWord 0x10 x).toNat)

/-- CRC_REG (R416). -/
def execCrcReg (t : Fin 1544) (x : W32) (s : State) : Host.Outcome State Fault Refusal :=
  .next (s.trigRow t.val 0x4B4 (rowWord 0x11 x) fun s => opCrcReg s t.val (rowWord 0x11 x).toNat)

/-- CRC_END (R416). -/
def execCrcEnd (t : Fin 1544) (x : W32) (s : State) : Host.Outcome State Fault Refusal :=
  .next (s.trigRow t.val 0x4B4 (rowWord 0x12 x) fun s => opCrcEnd s t.val (rowWord 0x12 x).toNat)

/-- CSUM_OPEN (R421). -/
def execCsumOpen (t : Fin 1544) (x : W32) (s : State) : Host.Outcome State Fault Refusal :=
  .next (s.trigRow t.val 0x4B4 (rowWord 0x14 x) fun s => opCsumOpen s t.val (rowWord 0x14 x).toNat)

/-- CSUM_REG (R415). -/
def execCsumReg (t : Fin 1544) (x : W32) (s : State) : Host.Outcome State Fault Refusal :=
  .next (s.trigRow t.val 0x4B4 (rowWord 0x15 x) fun s => opCsumReg s t.val (rowWord 0x15 x).toNat)

/-- CSUM_END (R415). -/
def execCsumEnd (t : Fin 1544) (x : W32) (s : State) : Host.Outcome State Fault Refusal :=
  .next (s.trigRow t.val 0x4B4 (rowWord 0x16 x) fun s => opCsumEnd s t.val (rowWord 0x16 x).toNat)

/-- HASH (R415). -/
def execHash (t : Fin 1544) (x : W32) (s : State) : Host.Outcome State Fault Refusal :=
  .next (s.trigRow t.val 0x4B4 (rowWord 0x18 x) fun s => opHash s t.val (rowWord 0x18 x).toNat)

/-- SV_T_INFO (R274). -/
def execSvTInfo (t : Fin 1544) (x : W32) (s : State) : Host.Outcome State Fault Refusal :=
  .next (s.trigRow t.val 0x4F0 x fun s => svInfo s t.val)

/-- SV_T_GETREG (R404). -/
def execSvTGetreg (t : Fin 1544) (x : W32) (s : State) : Host.Outcome State Fault Refusal :=
  .next (s.trigRow t.val 0x4F1 x fun s => svGetreg s t.val x.toNat)

/-- SV_T_SETREG (R404). -/
def execSvTSetreg (t : Fin 1544) (x : W32) (s : State) : Host.Outcome State Fault Refusal :=
  .next (s.trigRow t.val 0x4F2 x fun s => svSetreg s t.val x.toNat)

/-- SV_T_HELD (R274). -/
def execSvTHeld (t : Fin 1544) (x : W32) (s : State) : Host.Outcome State Fault Refusal :=
  .next (s.trigRow t.val 0x4F3 x fun s => svHeld s t.val x.toNat)

/-- SV_T_RESUME (R405). -/
def execSvTResume (t : Fin 1544) (x : W32) (s : State) : Host.Outcome State Fault Refusal :=
  .next (s.trigRow t.val 0x4F4 x fun s => svResume s t.val x.toNat)

/-- SV_T_PARK (R261). -/
def execSvTPark (t : Fin 1544) (x : W32) (s : State) : Host.Outcome State Fault Refusal :=
  .next (s.trigRow t.val 0x4F5 x fun s => svPark s t.val)

/-- SV_T_ACK (R405). -/
def execSvTAck (t : Fin 1544) (x : W32) (s : State) : Host.Outcome State Fault Refusal :=
  .next (s.trigRow t.val 0x4F6 x fun s => svAck s t.val)

/-- SV_T_RESET (R284). -/
def execSvTReset (t : Fin 1544) (x : W32) (s : State) : Host.Outcome State Fault Refusal :=
  .next (s.trigRow t.val 0x4F7 x fun s => svReset s t.val)

/-- DBG_T_BRK (R891). -/
def execDbgTBrk (t : Fin 1544) (x : W32) (s : State) : Host.Outcome State Fault Refusal :=
  .next (s.trigRow t.val 0x510 x fun s => dbgBrk s t.val)

/-- DBG_T_MARK (R878). -/
def execDbgTMark (t : Fin 1544) (x : W32) (s : State) : Host.Outcome State Fault Refusal :=
  .next (s.trigRow t.val 0x511 x fun s => dbgMark s t.val x.toNat)

/-- CX_T_ERET (R348). -/
def execCxTEret (ce : Fin 8) (x : W32) (s : State) : Host.Outcome State Fault Refusal :=
  .next (s.trigRow (1536 + ce.val) 0x601 x fun s => cxEret s ce.val x)

/-- CX_T_TLBINV (R353). -/
def execCxTTlbinv (ce : Fin 8) (x : W32) (s : State) : Host.Outcome State Fault Refusal :=
  .next (s.trigRow (1536 + ce.val) 0x608 x fun s => cxTlbinv s ce.val x.toNat)

/-- CX_T_TLBFLUSH (R353). -/
def execCxTTlbflush (ce : Fin 8) (x : W32) (s : State) : Host.Outcome State Fault Refusal :=
  .next (s.trigRow (1536 + ce.val) 0x609 x fun s => cxTlbflush s ce.val)

/-- PMP_T_WAIT (R651). -/
def execPmpTWait (ce : Fin 8) (x : W32) (s : State) : Host.Outcome State Fault Refusal :=
  .next (s.trigRow (1536 + ce.val) 0x630 x fun s => pmpWait s ce.val x.toNat)

/-- PMP_T_POST (R647). -/
def execPmpTPost (ce : Fin 8) (x : W32) (s : State) : Host.Outcome State Fault Refusal :=
  .next (s.trigRow (1536 + ce.val) 0x631 x fun s => pmpPost s ce.val x.toNat)

/-- PMP_T_YIELD (R638). -/
def execPmpTYield (ce : Fin 8) (x : W32) (s : State) : Host.Outcome State Fault Refusal :=
  .next (s.trigRow (1536 + ce.val) 0x632 x fun s => pmpYield s ce.val)

/-- PMP_T_DWR (R631). -/
def execPmpTDwr (ce : Fin 8) (x : W32) (s : State) : Host.Outcome State Fault Refusal :=
  .next (s.trigRow (1536 + ce.val) 0x633 x fun s => pmpDwr s ce.val x.toNat)

/-- PMP_T_DRD (R631). -/
def execPmpTDrd (ce : Fin 8) (x : W32) (s : State) : Host.Outcome State Fault Refusal :=
  .next (s.trigRow (1536 + ce.val) 0x634 x fun s => pmpDrd s ce.val x.toNat)

/-- PMP_T_START (R632). -/
def execPmpTStart (ce : Fin 8) (x : W32) (s : State) : Host.Outcome State Fault Refusal :=
  .next (s.trigRow (1536 + ce.val) 0x635 x fun s => pmpStart s ce.val x.toNat)

/-- PMP_T_DEL (R633). -/
def execPmpTDel (ce : Fin 8) (x : W32) (s : State) : Host.Outcome State Fault Refusal :=
  .next (s.trigRow (1536 + ce.val) 0x636 x fun s => pmpDel s ce.val x.toNat)

/-- PMP_T_SEND (R657). -/
def execPmpTSend (ce : Fin 8) (x : W32) (s : State) : Host.Outcome State Fault Refusal :=
  .next (s.trigRow (1536 + ce.val) 0x637 x fun s => pmpSend s ce.val x.toNat)

/-- LKP_T_FORCE (R685). -/
def execLkpTForce (ce : Fin 8) (x : W32) (s : State) : Host.Outcome State Fault Refusal :=
  .next (s.trigRow (1536 + ce.val) 0x668 x fun s => lkpForce s ce.val x.toNat)

/-- LKP_T_SETCOUNT (R685). -/
def execLkpTSetcount (ce : Fin 8) (x : W32) (s : State) : Host.Outcome State Fault Refusal :=
  .next (s.trigRow (1536 + ce.val) 0x669 x fun s => lkpSetcount s ce.val x.toNat)

/-- EDG_T_TX (R765). -/
def execEdgTTx (ce : Fin 8) (x : W32) (s : State) : Host.Outcome State Fault Refusal :=
  .next (s.trigRow (1536 + ce.val) 0x650 x fun s => edgTx s ce.val x.toNat)

/-- EDG_T_ROOM (R766). -/
def execEdgTRoom (ce : Fin 8) (x : W32) (s : State) : Host.Outcome State Fault Refusal :=
  .next (s.trigRow (1536 + ce.val) 0x651 x fun s => edgRoom s ce.val x.toNat)

/-- EDG_T_TS (R753). -/
def execEdgTTs (ce : Fin 8) (x : W32) (s : State) : Host.Outcome State Fault Refusal :=
  .next (s.trigRow (1536 + ce.val) 0x652 x fun s => edgTs s ce.val)

end Sys2Proof.Machine
end

