-- ==== Sys2Proof/Machine/Dispatch.lean ====
section
/-! DEFINITION. The dispatcher: one arm for each command, a direct call of its meaning. -/

namespace Sys2Proof.Machine

/-- The effect of a command on everything but the queue. -/
def exec (i : Instr) (s : State) : Host.Outcome State Fault Refusal :=
  match i with
  | .powerOnReset now => Sys2Proof.Machine.execPowerOnReset now s
  | .railsOkRise now => Sys2Proof.Machine.execRailsOkRise now s
  | .railsOkTimeout now => Sys2Proof.Machine.execRailsOkTimeout now s
  | .coreEnRetry now => Sys2Proof.Machine.execCoreEnRetry now s
  | .railsOkFall now => Sys2Proof.Machine.execRailsOkFall now s
  | .railVoltageOutOfRange now monitor => Sys2Proof.Machine.execRailVoltageOutOfRange now monitor s
  | .aonBrownout now => Sys2Proof.Machine.execAonBrownout now s
  | .resetNAssert now => Sys2Proof.Machine.execResetNAssert now s
  | .resetRelease now qmode2 qmode3 => Sys2Proof.Machine.execResetRelease now qmode2 qmode3 s
  | .imageVerdict now bist slices repairs => Sys2Proof.Machine.execImageVerdict now bist slices repairs s
  | .autoNegTimeout port => Sys2Proof.Machine.execAutoNegTimeout port s
  | .frameReceive now port stamp bytes fcsOk cut express macsec => Sys2Proof.Machine.execFrameReceive now port stamp bytes fcsOk cut express macsec s
  | .pauseFrameReceive now port pfc classes quanta => Sys2Proof.Machine.execPauseFrameReceive now port pfc classes quanta s
  | .pauseQuantaExpire now port cls => Sys2Proof.Machine.execPauseQuantaExpire now port cls s
  | .t1sFrameReceive now seg stamp node bytes fcsOk cut => Sys2Proof.Machine.execT1sFrameReceive now seg stamp node bytes fcsOk cut s
  | .plcaBeaconLoss seg => Sys2Proof.Machine.execPlcaBeaconLoss seg s
  | .plcaBeaconResume seg => Sys2Proof.Machine.execPlcaBeaconResume seg s
  | .nodeQuiet now seg node => Sys2Proof.Machine.execNodeQuiet now seg node s
  | .canFrameReceive now ch id format sdt vcid af data crcOk => Sys2Proof.Machine.execCanFrameReceive now ch id format sdt vcid af data crcOk s
  | .canBusOff ch => Sys2Proof.Machine.execCanBusOff ch s
  | .canBusOffRecover ch => Sys2Proof.Machine.execCanBusOffRecover ch s
  | .presDebounceEnd now input => Sys2Proof.Machine.execPresDebounceEnd now input s
  | .presLatchTake now input => Sys2Proof.Machine.execPresLatchTake now input s
  | .linkUp now src mode => Sys2Proof.Machine.execLinkUp now src mode s
  | .portLinkDown now src cause => Sys2Proof.Machine.execPortLinkDown now src cause s
  | .linkHoldExpire now src => Sys2Proof.Machine.execLinkHoldExpire now src s
  | .unplugDrained now src => Sys2Proof.Machine.execUnplugDrained now src s
  | .laneTrainingFail lane => Sys2Proof.Machine.execLaneTrainingFail lane s
  | .laneTrainingRetry lane ok => Sys2Proof.Machine.execLaneTrainingRetry lane ok s
  | .laneMarginLow lane margin => Sys2Proof.Machine.execLaneMarginLow lane margin s
  | .sliceAdaptDone lane ok => Sys2Proof.Machine.execSliceAdaptDone lane ok s
  | .sliceSwitchover lane receiving => Sys2Proof.Machine.execSliceSwitchover lane receiving s
  | .preemptVerifyTimeout port => Sys2Proof.Machine.execPreemptVerifyTimeout port s
  | .dropletDispatch t => Sys2Proof.Machine.execDropletDispatch t s
  | .holdExpire now slot => Sys2Proof.Machine.execHoldExpire now slot s
  | .transmissionSelect now port => Sys2Proof.Machine.execTransmissionSelect now port s
  | .frameTransmitEnd now port express => Sys2Proof.Machine.execFrameTransmitEnd now port express s
  | .shaperRefill now => Sys2Proof.Machine.execShaperRefill now s
  | .meterRefill now => Sys2Proof.Machine.execMeterRefill now s
  | .gateEvent now sgate idx => Sys2Proof.Machine.execGateEvent now sgate idx s
  | .gclConfigSwap now sgate idx => Sys2Proof.Machine.execGclConfigSwap now sgate idx s
  | .srfResetTimeout now srf => Sys2Proof.Machine.execSrfResetTimeout now srf s
  | .fciEdge now n level => Sys2Proof.Machine.execFciEdge now n level s
  | .queueShutdownDone kind idx => Sys2Proof.Machine.execQueueShutdownDone kind idx s
  | .tick now => Sys2Proof.Machine.execTick now s
  | .delayExpire desc => Sys2Proof.Machine.execDelayExpire desc s
  | .ppsOutSecond now => Sys2Proof.Machine.execPpsOutSecond now s
  | .ppsInEdge now => Sys2Proof.Machine.execPpsInEdge now s
  | .recircClassify => Sys2Proof.Machine.execRecircClassify s
  | .learnProcess => Sys2Proof.Machine.execLearnProcess s
  | .epCreate => Sys2Proof.Machine.execEpCreate s
  | .ageingVisit table => Sys2Proof.Machine.execAgeingVisit table s
  | .commitRequest part => Sys2Proof.Machine.execCommitRequest part s
  | .commitExecute => Sys2Proof.Machine.execCommitExecute s
  | .versionRetire slot => Sys2Proof.Machine.execVersionRetire slot s
  | .rulStgWrite part => Sys2Proof.Machine.execRulStgWrite part s
  | .rulStgRead part => Sys2Proof.Machine.execRulStgRead part s
  | .rulStgClear part => Sys2Proof.Machine.execRulStgClear part s
  | .rulPinPin part version => Sys2Proof.Machine.execRulPinPin part version s
  | .rulPinUnpin part version => Sys2Proof.Machine.execRulPinUnpin part version s
  | .tblInsert part => Sys2Proof.Machine.execTblInsert part s
  | .tblDelete part => Sys2Proof.Machine.execTblDelete part s
  | .tblRead part => Sys2Proof.Machine.execTblRead part s
  | .tblUpdate part => Sys2Proof.Machine.execTblUpdate part s
  | .tblFlush part => Sys2Proof.Machine.execTblFlush part s
  | .tblFlushDone part => Sys2Proof.Machine.execTblFlushDone part s
  | .tblNext part => Sys2Proof.Machine.execTblNext part s
  | .bundleIssue turn => Sys2Proof.Machine.execBundleIssue turn s
  | .unitOperationComplete t unit => Sys2Proof.Machine.execUnitOperationComplete t unit s
  | .pcTJump t x => Sys2Proof.Machine.execPcTJump t x s
  | .pcTBr t x => Sys2Proof.Machine.execPcTBr t x s
  | .pcTCall t x => Sys2Proof.Machine.execPcTCall t x s
  | .pcTRet t x => Sys2Proof.Machine.execPcTRet t x s
  | .pcTHalt t x => Sys2Proof.Machine.execPcTHalt t x s
  | .lpTBegin t x => Sys2Proof.Machine.execLpTBegin t x s
  | .lpTBrk t x => Sys2Proof.Machine.execLpTBrk t x s
  | .aluTAdd t alu x => Sys2Proof.Machine.execAluTAdd t alu x s
  | .aluTSub t alu x => Sys2Proof.Machine.execAluTSub t alu x s
  | .aluTAnd t alu x => Sys2Proof.Machine.execAluTAnd t alu x s
  | .aluTOr t alu x => Sys2Proof.Machine.execAluTOr t alu x s
  | .aluTXor t alu x => Sys2Proof.Machine.execAluTXor t alu x s
  | .aluTAndn t alu x => Sys2Proof.Machine.execAluTAndn t alu x s
  | .aluTShl t alu x => Sys2Proof.Machine.execAluTShl t alu x s
  | .aluTShr t alu x => Sys2Proof.Machine.execAluTShr t alu x s
  | .aluTSar t alu x => Sys2Proof.Machine.execAluTSar t alu x s
  | .aluTRotl t alu x => Sys2Proof.Machine.execAluTRotl t alu x s
  | .aluTMin t alu x => Sys2Proof.Machine.execAluTMin t alu x s
  | .aluTMax t alu x => Sys2Proof.Machine.execAluTMax t alu x s
  | .aluTMinu t alu x => Sys2Proof.Machine.execAluTMinu t alu x s
  | .aluTMaxu t alu x => Sys2Proof.Machine.execAluTMaxu t alu x s
  | .aluTMov t alu x => Sys2Proof.Machine.execAluTMov t alu x s
  | .bitTExtu t x => Sys2Proof.Machine.execBitTExtu t x s
  | .bitTExts t x => Sys2Proof.Machine.execBitTExts t x s
  | .bitTIns t x => Sys2Proof.Machine.execBitTIns t x s
  | .bitTClz t x => Sys2Proof.Machine.execBitTClz t x s
  | .bitTCtz t x => Sys2Proof.Machine.execBitTCtz t x s
  | .bitTPopc t x => Sys2Proof.Machine.execBitTPopc t x s
  | .bitTBswap t x => Sys2Proof.Machine.execBitTBswap t x s
  | .bitTBswap16 t x => Sys2Proof.Machine.execBitTBswap16 t x s
  | .bitTBitrev t x => Sys2Proof.Machine.execBitTBitrev t x s
  | .bitTSext8 t x => Sys2Proof.Machine.execBitTSext8 t x s
  | .bitTSext16 t x => Sys2Proof.Machine.execBitTSext16 t x s
  | .cmpTEq t x => Sys2Proof.Machine.execCmpTEq t x s
  | .cmpTNe t x => Sys2Proof.Machine.execCmpTNe t x s
  | .cmpTLt t x => Sys2Proof.Machine.execCmpTLt t x s
  | .cmpTLe t x => Sys2Proof.Machine.execCmpTLe t x s
  | .cmpTGt t x => Sys2Proof.Machine.execCmpTGt t x s
  | .cmpTGe t x => Sys2Proof.Machine.execCmpTGe t x s
  | .cmpTLtu t x => Sys2Proof.Machine.execCmpTLtu t x s
  | .cmpTLeu t x => Sys2Proof.Machine.execCmpTLeu t x s
  | .cmpTGtu t x => Sys2Proof.Machine.execCmpTGtu t x s
  | .cmpTGeu t x => Sys2Proof.Machine.execCmpTGeu t x s
  | .cmpTTst t x => Sys2Proof.Machine.execCmpTTst t x s
  | .mulTMulu t x => Sys2Proof.Machine.execMulTMulu t x s
  | .mulTMuls t x => Sys2Proof.Machine.execMulTMuls t x s
  | .mulTDivu t x => Sys2Proof.Machine.execMulTDivu t x s
  | .mulTDivs t x => Sys2Proof.Machine.execMulTDivs t x s
  | .lsTLd8u t x => Sys2Proof.Machine.execLsTLd8u t x s
  | .lsTLd8s t x => Sys2Proof.Machine.execLsTLd8s t x s
  | .lsTLd16u t x => Sys2Proof.Machine.execLsTLd16u t x s
  | .lsTLd16s t x => Sys2Proof.Machine.execLsTLd16s t x s
  | .lsTLd32 t x => Sys2Proof.Machine.execLsTLd32 t x s
  | .lsTLd64 t x => Sys2Proof.Machine.execLsTLd64 t x s
  | .lsTSt8 t x => Sys2Proof.Machine.execLsTSt8 t x s
  | .lsTSt16 t x => Sys2Proof.Machine.execLsTSt16 t x s
  | .lsTSt32 t x => Sys2Proof.Machine.execLsTSt32 t x s
  | .lsTSt64 t x => Sys2Proof.Machine.execLsTSt64 t x s
  | .lsTPf t x => Sys2Proof.Machine.execLsTPf t x s
  | .lsTClean t x => Sys2Proof.Machine.execLsTClean t x s
  | .lsTInv t x => Sys2Proof.Machine.execLsTInv t x s
  | .lsTCinv t x => Sys2Proof.Machine.execLsTCinv t x s
  | .lsTFence t x => Sys2Proof.Machine.execLsTFence t x s
  | .pwTLd8 t x => Sys2Proof.Machine.execPwTLd8 t x s
  | .pwTLd16 t x => Sys2Proof.Machine.execPwTLd16 t x s
  | .pwTLd32 t x => Sys2Proof.Machine.execPwTLd32 t x s
  | .pwTSt8 t x => Sys2Proof.Machine.execPwTSt8 t x s
  | .pwTSt16 t x => Sys2Proof.Machine.execPwTSt16 t x s
  | .pwTSt32 t x => Sys2Proof.Machine.execPwTSt32 t x s
  | .pwTIns t x => Sys2Proof.Machine.execPwTIns t x s
  | .pwTDel t x => Sys2Proof.Machine.execPwTDel t x s
  | .pwTLen t x => Sys2Proof.Machine.execPwTLen t x s
  | .dlTRd t x => Sys2Proof.Machine.execDlTRd t x s
  | .dlTWr t x => Sys2Proof.Machine.execDlTWr t x s
  | .dlTFlk t x => Sys2Proof.Machine.execDlTFlk t x s
  | .dlTKey t x => Sys2Proof.Machine.execDlTKey t x s
  | .dlTLay t x => Sys2Proof.Machine.execDlTLay t x s
  | .dlTPinfo t x => Sys2Proof.Machine.execDlTPinfo t x s
  | .tlTL2 t x => Sys2Proof.Machine.execTlTL2 t x s
  | .tlTEp t x => Sys2Proof.Machine.execTlTEp t x s
  | .tlTParam t x => Sys2Proof.Machine.execTlTParam t x s
  | .tlTFfind t x => Sys2Proof.Machine.execTlTFfind t x s
  | .tlTFget t x => Sys2Proof.Machine.execTlTFget t x s
  | .tlTFread t x => Sys2Proof.Machine.execTlTFread t x s
  | .tlTFwrite t x => Sys2Proof.Machine.execTlTFwrite t x s
  | .tlTFdel t x => Sys2Proof.Machine.execTlTFdel t x s
  | .chTPut t x => Sys2Proof.Machine.execChTPut t x s
  | .chTPutl t x => Sys2Proof.Machine.execChTPutl t x s
  | .chTGet t x => Sys2Proof.Machine.execChTGet t x s
  | .chTCount t x => Sys2Proof.Machine.execChTCount t x s
  | .chTWatch t x => Sys2Proof.Machine.execChTWatch t x s
  | .chTUnwatch t x => Sys2Proof.Machine.execChTUnwatch t x s
  | .chWaitTimeout now t => Sys2Proof.Machine.execChWaitTimeout now t s
  | .pauseRefresh now port => Sys2Proof.Machine.execPauseRefresh now port s
  | .fcoMinHoldExpire now n => Sys2Proof.Machine.execFcoMinHoldExpire now n s
  | .lkTAcq t x => Sys2Proof.Machine.execLkTAcq t x s
  | .lkTTry t x => Sys2Proof.Machine.execLkTTry t x s
  | .lkTRel t x => Sys2Proof.Machine.execLkTRel t x s
  | .lkTCancel t x => Sys2Proof.Machine.execLkTCancel t x s
  | .lkTQuery t x => Sys2Proof.Machine.execLkTQuery t x s
  | .lockWaitTimeout now req => Sys2Proof.Machine.execLockWaitTimeout now req s
  | .atTAdd t wide x => Sys2Proof.Machine.execAtTAdd t wide x s
  | .atTSub t wide x => Sys2Proof.Machine.execAtTSub t wide x s
  | .atTSwap t wide x => Sys2Proof.Machine.execAtTSwap t wide x s
  | .atTCas t wide x => Sys2Proof.Machine.execAtTCas t wide x s
  | .atTAnd t wide x => Sys2Proof.Machine.execAtTAnd t wide x s
  | .atTOr t wide x => Sys2Proof.Machine.execAtTOr t wide x s
  | .atTMin t wide x => Sys2Proof.Machine.execAtTMin t wide x s
  | .atTMax t wide x => Sys2Proof.Machine.execAtTMax t wide x s
  | .evtTWait t x => Sys2Proof.Machine.execEvtTWait t x s
  | .evtTClr t x => Sys2Proof.Machine.execEvtTClr t x s
  | .evtTSig t x => Sys2Proof.Machine.execEvtTSig t x s
  | .evtTMget t x => Sys2Proof.Machine.execEvtTMget t x s
  | .tmTStart t x => Sys2Proof.Machine.execTmTStart t x s
  | .tmTStop t x => Sys2Proof.Machine.execTmTStop t x s
  | .tmTNow t x => Sys2Proof.Machine.execTmTNow t x s
  | .tmTNet t x => Sys2Proof.Machine.execTmTNet t x s
  | .timerExpire now t => Sys2Proof.Machine.execTimerExpire now t s
  | .csTAlloc t x => Sys2Proof.Machine.execCsTAlloc t x s
  | .csTFree t x => Sys2Proof.Machine.execCsTFree t x s
  | .csTRef t x => Sys2Proof.Machine.execCsTRef t x s
  | .csTAddr t x => Sys2Proof.Machine.execCsTAddr t x s
  | .csTInfo t x => Sys2Proof.Machine.execCsTInfo t x s
  | .poolRefillDone pool => Sys2Proof.Machine.execPoolRefillDone pool s
  | .poolSpillDone pool => Sys2Proof.Machine.execPoolSpillDone pool s
  | .bufferScrubDone pool handle => Sys2Proof.Machine.execBufferScrubDone pool handle s
  | .wcTNext t x => Sys2Proof.Machine.execWcTNext t x s
  | .wcTSend t x => Sys2Proof.Machine.execWcTSend t x s
  | .wcTDry t x => Sys2Proof.Machine.execWcTDry t x s
  | .wcTRecirc t x => Sys2Proof.Machine.execWcTRecirc t x s
  | .sqTOrig t x => Sys2Proof.Machine.execSqTOrig t x s
  | .sqTDepth t x => Sys2Proof.Machine.execSqTDepth t x s
  | .helperTClaim t h x => Sys2Proof.Machine.execHelperTClaim t h x s
  | .helperTRel t h x => Sys2Proof.Machine.execHelperTRel t h x s
  | .helperTWr t h x => Sys2Proof.Machine.execHelperTWr t h x s
  | .helperTRd t h x => Sys2Proof.Machine.execHelperTRd t h x s
  | .helperTFeed t h x => Sys2Proof.Machine.execHelperTFeed t h x s
  | .gcmInit t x => Sys2Proof.Machine.execGcmInit t x s
  | .gcmAad t x => Sys2Proof.Machine.execGcmAad t x s
  | .gcmEnc t x => Sys2Proof.Machine.execGcmEnc t x s
  | .gcmDec t x => Sys2Proof.Machine.execGcmDec t x s
  | .gcmTag t x => Sys2Proof.Machine.execGcmTag t x s
  | .cmacInit t x => Sys2Proof.Machine.execCmacInit t x s
  | .cmacData t x => Sys2Proof.Machine.execCmacData t x s
  | .cmacTag t x => Sys2Proof.Machine.execCmacTag t x s
  | .aesBlk t x => Sys2Proof.Machine.execAesBlk t x s
  | .eq t x => Sys2Proof.Machine.execEq t x s
  | .crcOpen t x => Sys2Proof.Machine.execCrcOpen t x s
  | .crcReg t x => Sys2Proof.Machine.execCrcReg t x s
  | .crcEnd t x => Sys2Proof.Machine.execCrcEnd t x s
  | .csumOpen t x => Sys2Proof.Machine.execCsumOpen t x s
  | .csumReg t x => Sys2Proof.Machine.execCsumReg t x s
  | .csumEnd t x => Sys2Proof.Machine.execCsumEnd t x s
  | .hash t x => Sys2Proof.Machine.execHash t x s
  | .helperOrphanEnd b h => Sys2Proof.Machine.execHelperOrphanEnd b h s
  | .helperDisable part b h => Sys2Proof.Machine.execHelperDisable part b h s
  | .helperEnable part b h katPass => Sys2Proof.Machine.execHelperEnable part b h katPass s
  | .helperShutdownDone b h katPass => Sys2Proof.Machine.execHelperShutdownDone b h katPass s
  | .svTInfo t x => Sys2Proof.Machine.execSvTInfo t x s
  | .svTGetreg t x => Sys2Proof.Machine.execSvTGetreg t x s
  | .svTSetreg t x => Sys2Proof.Machine.execSvTSetreg t x s
  | .svTHeld t x => Sys2Proof.Machine.execSvTHeld t x s
  | .svTResume t x => Sys2Proof.Machine.execSvTResume t x s
  | .svTPark t x => Sys2Proof.Machine.execSvTPark t x s
  | .svTAck t x => Sys2Proof.Machine.execSvTAck t x s
  | .svTReset t x => Sys2Proof.Machine.execSvTReset t x s
  | .faultAckTimeout now t => Sys2Proof.Machine.execFaultAckTimeout now t s
  | .deadlockTimeout now e => Sys2Proof.Machine.execDeadlockTimeout now e s
  | .escalationPost e => Sys2Proof.Machine.execEscalationPost e s
  | .engineReset e => Sys2Proof.Machine.execEngineReset e s
  | .engineSpareSubstitute e => Sys2Proof.Machine.execEngineSpareSubstitute e s
  | .engineFailNoSpare e => Sys2Proof.Machine.execEngineFailNoSpare e s
  | .dbgTBrk t x => Sys2Proof.Machine.execDbgTBrk t x s
  | .dbgTMark t x => Sys2Proof.Machine.execDbgTMark t x s
  | .cxTEret ce x => Sys2Proof.Machine.execCxTEret ce x s
  | .cxTTlbinv ce x => Sys2Proof.Machine.execCxTTlbinv ce x s
  | .cxTTlbflush ce x => Sys2Proof.Machine.execCxTTlbflush ce x s
  | .pmpTWait ce x => Sys2Proof.Machine.execPmpTWait ce x s
  | .pmpTPost ce x => Sys2Proof.Machine.execPmpTPost ce x s
  | .pmpTYield ce x => Sys2Proof.Machine.execPmpTYield ce x s
  | .pmpTDwr ce x => Sys2Proof.Machine.execPmpTDwr ce x s
  | .pmpTDrd ce x => Sys2Proof.Machine.execPmpTDrd ce x s
  | .pmpTStart ce x => Sys2Proof.Machine.execPmpTStart ce x s
  | .pmpTDel ce x => Sys2Proof.Machine.execPmpTDel ce x s
  | .pmpTSend ce x => Sys2Proof.Machine.execPmpTSend ce x s
  | .postFifoTake => Sys2Proof.Machine.execPostFifoTake s
  | .lkpTForce ce x => Sys2Proof.Machine.execLkpTForce ce x s
  | .lkpTSetcount ce x => Sys2Proof.Machine.execLkpTSetcount ce x s
  | .edgTTx ce x => Sys2Proof.Machine.execEdgTTx ce x s
  | .edgTRoom ce x => Sys2Proof.Machine.execEdgTRoom ce x s
  | .edgTTs ce x => Sys2Proof.Machine.execEdgTTs ce x s
  | .edgeTransmitDone now target => Sys2Proof.Machine.execEdgeTransmitDone now target s
  | .basinSwitchBegin map why => Sys2Proof.Machine.execBasinSwitchBegin map why s
  | .basinSwitchFinish => Sys2Proof.Machine.execBasinSwitchFinish s
  | .weirHoldSuspendWrite part v => Sys2Proof.Machine.execWeirHoldSuspendWrite part v s
  | .bsnEngReset part e => Sys2Proof.Machine.execBsnEngReset part e s
  | .bsnEngSwap part e => Sys2Proof.Machine.execBsnEngSwap part e s
  | .bsnEngAckEsc part e => Sys2Proof.Machine.execBsnEngAckEsc part e s
  | .cisQuotaWrite part p v => Sys2Proof.Machine.execCisQuotaWrite part p v s
  | .cisErrPop part => Sys2Proof.Machine.execCisErrPop part s
  | .sluRead part => Sys2Proof.Machine.execSluRead part s
  | .sluWrite part => Sys2Proof.Machine.execSluWrite part s
  | .sluFlush part => Sys2Proof.Machine.execSluFlush part s
  | .sluClear part => Sys2Proof.Machine.execSluClear part s
  | .configChange part => Sys2Proof.Machine.execConfigChange part s
  | .timSnap part => Sys2Proof.Machine.execTimSnap part s
  | .timStep part dom => Sys2Proof.Machine.execTimStep part dom s
  | .timRateWrite part dom v => Sys2Proof.Machine.execTimRateWrite part dom v s
  | .pmpPostWrite part v => Sys2Proof.Machine.execPmpPostWrite part v s
  | .pmpCeRestart part ce => Sys2Proof.Machine.execPmpCeRestart part ce s
  | .lkgHostAcq part lock n prio tmo => Sys2Proof.Machine.execLkgHostAcq part lock n prio tmo s
  | .lkgHostTry part lock n prio tmo => Sys2Proof.Machine.execLkgHostTry part lock n prio tmo s
  | .lkgHostRel part lock n prio tmo => Sys2Proof.Machine.execLkgHostRel part lock n prio tmo s
  | .lkgHostCancel part lock n prio tmo => Sys2Proof.Machine.execLkgHostCancel part lock n prio tmo s
  | .lkgHostQuery part lock n prio tmo => Sys2Proof.Machine.execLkgHostQuery part lock n prio tmo s
  | .lkgForce part lock => Sys2Proof.Machine.execLkgForce part lock s
  | .lkgSetcount part lock v => Sys2Proof.Machine.execLkgSetcount part lock v s
  | .pcieConfigRequest link write reg data => Sys2Proof.Machine.execPcieConfigRequest link write reg data s
  | .bar4Read part off n => Sys2Proof.Machine.execBar4Read part off n s
  | .bar4Write part off data => Sys2Proof.Machine.execBar4Write part off data s
  | .pcieAtomicop part off op width v c => Sys2Proof.Machine.execPcieAtomicop part off op width v c s
  | .txDoorbellWrite part q v => Sys2Proof.Machine.execTxDoorbellWrite part q v s
  | .rxDoorbellWrite part q v => Sys2Proof.Machine.execRxDoorbellWrite part q v s
  | .txDescriptorProcess now part q desc frame readOk => Sys2Proof.Machine.execTxDescriptorProcess now part q desc frame readOk s
  | .rxMessageDeliver now part q => Sys2Proof.Machine.execRxMessageDeliver now part q s
  | .hostQueueEnable part tx q => Sys2Proof.Machine.execHostQueueEnable part tx q s
  | .hostQueueDisable part tx q => Sys2Proof.Machine.execHostQueueDisable part tx q s
  | .hostQueueShutdownDone part tx q => Sys2Proof.Machine.execHostQueueShutdownDone part tx q s
  | .itrHoldExpire now part vec => Sys2Proof.Machine.execItrHoldExpire now part vec s
  | .hstLatWrite part v => Sys2Proof.Machine.execHstLatWrite part v s
  | .hstPrstGo part target => Sys2Proof.Machine.execHstPrstGo part target s
  | .pcieFunctionLevelReset part => Sys2Proof.Machine.execPcieFunctionLevelReset part s
  | .pcieLinkReset link => Sys2Proof.Machine.execPcieLinkReset link s
  | .eoeLinkDownTimeout now part => Sys2Proof.Machine.execEoeLinkDownTimeout now part s
  | .partitionResetDrained part => Sys2Proof.Machine.execPartitionResetDrained part s
  | .eoeFrameReceive now port bytes => Sys2Proof.Machine.execEoeFrameReceive now port bytes s
  | .eoeMessageSend now part q => Sys2Proof.Machine.execEoeMessageSend now part q s
  | .edgLaneRetrain part lane => Sys2Proof.Machine.execEdgLaneRetrain part lane s
  | .edgLaneSpare part lane => Sys2Proof.Machine.execEdgLaneSpare part lane s
  | .xngIslReset part isl => Sys2Proof.Machine.execXngIslReset part isl s
  | .islandLeaveReset isl => Sys2Proof.Machine.execIslandLeaveReset isl s
  | .clockStop isl => Sys2Proof.Machine.execClockStop isl s
  | .clockReturn isl => Sys2Proof.Machine.execClockReturn isl s
  | .countedCrossingPulse isl chan => Sys2Proof.Machine.execCountedCrossingPulse isl chan s
  | .coalescedCrossingPulse isl chan => Sys2Proof.Machine.execCoalescedCrossingPulse isl chan s
  | .spiRead now frame => Sys2Proof.Machine.execSpiRead now frame s
  | .spiWrite now frame => Sys2Proof.Machine.execSpiWrite now frame s
  | .spiReset now frame => Sys2Proof.Machine.execSpiReset now frame s
  | .spiFreeze now frame => Sys2Proof.Machine.execSpiFreeze now frame s
  | .spiDry now frame => Sys2Proof.Machine.execSpiDry now frame s
  | .spiLockdown now frame => Sys2Proof.Machine.execSpiLockdown now frame s
  | .spiFrameError now frame => Sys2Proof.Machine.execSpiFrameError now frame s
  | .powerTargetEval now => Sys2Proof.Machine.execPowerTargetEval now s
  | .dwellExpire now => Sys2Proof.Machine.execDwellExpire now s
  | .wakeEvent now cause => Sys2Proof.Machine.execWakeEvent now cause s
  | .pwrWakeTimerExpire now => Sys2Proof.Machine.execPwrWakeTimerExpire now s
  | .pwrCmdEnterDry now part => Sys2Proof.Machine.execPwrCmdEnterDry now part s
  | .pwrCmdWake now part => Sys2Proof.Machine.execPwrCmdWake now part s
  | .gaugeSample now temps volts speeds => Sys2Proof.Machine.execGaugeSample now temps volts speeds s
  | .tripCooldownEnd now => Sys2Proof.Machine.execTripCooldownEnd now s
  | .floorLoop now ack => Sys2Proof.Machine.execFloorLoop now ack s
  | .shedIntervalStep now => Sys2Proof.Machine.execShedIntervalStep now s
  | .pmbAlert now => Sys2Proof.Machine.execPmbAlert now s
  | .fthNonce now part entropy => Sys2Proof.Machine.execFthNonce now part entropy s
  | .nonceExpire now => Sys2Proof.Machine.execNonceExpire now s
  | .fthToken now part => Sys2Proof.Machine.execFthToken now part s
  | .svcBtnPress now => Sys2Proof.Machine.execSvcBtnPress now s
  | .pressWaitTimeout now => Sys2Proof.Machine.execPressWaitTimeout now s
  | .fthAttest part => Sys2Proof.Machine.execFthAttest part s
  | .fthConfirm part => Sys2Proof.Machine.execFthConfirm part s
  | .fthLcAdvance part arg entropy => Sys2Proof.Machine.execFthLcAdvance part arg entropy s
  | .fthProvision part => Sys2Proof.Machine.execFthProvision part s
  | .fthImgErase part slot => Sys2Proof.Machine.execFthImgErase part slot s
  | .fthImgVerify part slot => Sys2Proof.Machine.execFthImgVerify part slot s
  | .fthWinWrite part target off => Sys2Proof.Machine.execFthWinWrite part target off s
  | .fthWinRead part target off => Sys2Proof.Machine.execFthWinRead part target off s
  | .exportTrailerSigned => Sys2Proof.Machine.execExportTrailerSigned s
  | .fthStRegion part region => Sys2Proof.Machine.execFthStRegion part region s
  | .fthStFull part => Sys2Proof.Machine.execFthStFull part s
  | .fthStAbort part => Sys2Proof.Machine.execFthStAbort part s
  | .scheduledTestStart now => Sys2Proof.Machine.execScheduledTestStart now s
  | .deferredTestStart now => Sys2Proof.Machine.execDeferredTestStart now s
  | .bistComplete now test mem loadOk helper repairs => Sys2Proof.Machine.execBistComplete now test mem loadOk helper repairs s
  | .reservoirMapWrite => Sys2Proof.Machine.execReservoirMapWrite s
  | .ipdCommandIssue now pc => Sys2Proof.Machine.execIpdCommandIssue now pc s
  | .ipdAccessComplete pc ecc => Sys2Proof.Machine.execIpdAccessComplete pc ecc s
  | .refresh pc bank periodStart => Sys2Proof.Machine.execRefresh pc bank periodStart s
  | .patrolScrub line ecc => Sys2Proof.Machine.execPatrolScrub line ecc s
  | .trackingStep pc windowEnd => Sys2Proof.Machine.execTrackingStep pc windowEnd s
  | .fullRetrainStart pc => Sys2Proof.Machine.execFullRetrainStart pc s
  | .fullRetrainEnd pc works temp margin => Sys2Proof.Machine.execFullRetrainEnd pc works temp margin s
  | .pcRetireStart pc works16 works33 => Sys2Proof.Machine.execPcRetireStart pc works16 works33 s
  | .pcRetireComplete pc bad => Sys2Proof.Machine.execPcRetireComplete pc bad s
  | .cacheFillComplete cache line => Sys2Proof.Machine.execCacheFillComplete cache line s
  | .evictionWriteback cache => Sys2Proof.Machine.execEvictionWriteback cache s
  | .rplTrigger part => Sys2Proof.Machine.execRplTrigger part s
  | .postWindowEnd now => Sys2Proof.Machine.execPostWindowEnd now s
  | .freezePinEdge now => Sys2Proof.Machine.execFreezePinEdge now s
  | .rplFreeze part => Sys2Proof.Machine.execRplFreeze part s
  | .rplRelease part => Sys2Proof.Machine.execRplRelease part s
  | .rplExport part => Sys2Proof.Machine.execRplExport part s
  | .rplReplay part => Sys2Proof.Machine.execRplReplay part s
  | .rplAbort part => Sys2Proof.Machine.execRplAbort part s
  | .replayEnd => Sys2Proof.Machine.execReplayEnd s
  | .dbgHalt part => Sys2Proof.Machine.execDbgHalt part s
  | .dbgResume part => Sys2Proof.Machine.execDbgResume part s
  | .dbgStep part => Sys2Proof.Machine.execDbgStep part s
  | .dbgKill part => Sys2Proof.Machine.execDbgKill part s
  | .dbgRdreg part => Sys2Proof.Machine.execDbgRdreg part s
  | .dbgWrreg part => Sys2Proof.Machine.execDbgWrreg part s
  | .dbgBrkSet part => Sys2Proof.Machine.execDbgBrkSet part s
  | .dbgBrkClr part => Sys2Proof.Machine.execDbgBrkClr part s
  | .breakpointHit t => Sys2Proof.Machine.execBreakpointHit t s
  | .bar0PartialWrite part => Sys2Proof.Machine.execBar0PartialWrite part s
  | .counterLowWordRead part read => Sys2Proof.Machine.execCounterLowWordRead part read s
  | .rcFieldRead part read => Sys2Proof.Machine.execRcFieldRead part read s
  | .weirDomStat0Read part => Sys2Proof.Machine.execWeirDomStat0Read part s
  | .bsnChStat0Read part => Sys2Proof.Machine.execBsnChStat0Read part s
  | .cisPoolCountRead part => Sys2Proof.Machine.execCisPoolCountRead part s
  | .pmpDescW0Read part => Sys2Proof.Machine.execPmpDescW0Read part s
  | .fthFlogCountRead part => Sys2Proof.Machine.execFthFlogCountRead part s
  | .fthFlogDataRead part => Sys2Proof.Machine.execFthFlogDataRead part s
  | .fthRsvCountRead part => Sys2Proof.Machine.execFthRsvCountRead part s
  | .fthRsvDataRead part => Sys2Proof.Machine.execFthRsvDataRead part s
  | .registerWrite part bar2 addr v => Sys2Proof.Machine.execRegisterWrite part bar2 addr v s
  | .presRawChange now input level => Sys2Proof.Machine.execPresRawChange now input level s
  | .canBusError ch tec rec => Sys2Proof.Machine.execCanBusError ch tec rec s
  | .canChannelRestart ch => Sys2Proof.Machine.execCanChannelRestart ch s
  | .macsecSaInstall port kind pn => Sys2Proof.Machine.execMacsecSaInstall port kind pn s
  | .pcieLinkUp link width rate => Sys2Proof.Machine.execPcieLinkUp link width rate s
  | .crossingAcknowledge isl chan => Sys2Proof.Machine.execCrossingAcknowledge isl chan s
  | .recordBucketRefill now => Sys2Proof.Machine.execRecordBucketRefill now s
  | .ppsOutWidthEnd now => Sys2Proof.Machine.execPpsOutWidthEnd now s

end Sys2Proof.Machine
end

