-- ==== Sys2Proof/Safety.lean ====
section
/-! DEFINITION. What the claims call sound: the conditions that every state of the block meets, and what a later state
keeps of an earlier one. -/

namespace Sys2Proof

open Machine

/-- The rank of a life-cycle state in Table 21.6: BLANK, MANUFACTURE, then FIELD and RETURN, between which a part may
go both ways, then SCRAPPED. -/
def lifeRank (lc : Nat) : Nat :=
  match lc with
  | 0 => 0
  | 1 => 1
  | 2 => 2
  | 3 => 2
  | _ => 3

/-- Every memory of bytes is in its canonical form: the IPD, the shared and the scratch memory, the Wellstore's bytes,
the 4 KiB windows and the memories of the hosts. -/
structure Canonical (s : State) : Prop where
  ipd : Memory.wf s.mem.ipd = true
  shared : Memory.wf s.mem.shared = true
  scratch : Memory.wf s.mem.scratch = true
  well : Memory.wf s.fth.well = true
  win : Memory.wf s.fth.win = true
  host : Memory.wf s.hst.mem = true

/-- The conditions that every state of the block meets: the life-cycle state and a pending transition are states of
Table 21.6 and the transition goes on, not back (R839); a token that waits for a press waits in FIELD (R843); the
boot count fits its register (R828); the memories are in their canonical form; the boot stands at one of its stages. -/
structure Sound (s : State) : Prop where
  life : s.fth.lc ≤ 4
  next : ∀ n, s.fth.lcPending = some n → n ≤ 4 ∧ lifeRank s.fth.lc ≤ lifeRank n
  press : s.fth.press.isSome = true → s.fth.lc = 2
  count : s.fth.bootCount < 2 ^ 32
  mems : Canonical s
  stage : s.boot.stage ≤ 4

/-- What no command takes back: the life cycle does not return to an earlier rank (R839), a revoked owner key stays
revoked (R829), the anti-rollback counters and the boot count do not fall (R838, R828), and the part keeps its grade. -/
structure Keeps (o s : State) : Prop where
  life : lifeRank o.fth.lc ≤ lifeRank s.fth.lc
  revoked : ∀ k, k ∈ o.fth.revoked → k ∈ s.fth.revoked
  counter0 : o.fth.counter0 ≤ s.fth.counter0
  counter1 : o.fth.counter1 ≤ s.fth.counter1
  boots : o.fth.bootCount ≤ s.fth.bootCount
  grade : s.grade = o.grade

/-- What the operation of a unit that serves one thread leaves as it was in o: the queue, the wall time, the rule sets, the
tables, the channels, the Sluice, the time unit, the locks, the edges, the crossings, boot and power, the Fountainhead, the
image, the commands that wait, the grade, and the bytes of scratch and of shared SRAM. -/
structure Stays (o s : State) : Prop where
  pending : s.pending = o.pending
  wall : s.wall = o.wall
  rul : s.rul = o.rul
  tbl : s.tbl = o.tbl
  chan : s.chan = o.chan
  slu : s.slu = o.slu
  time : s.time = o.time
  lkg : s.lkg = o.lkg
  edg : s.edg = o.edg
  xng : s.xng = o.xng
  boot : s.boot = o.boot
  pwr : s.pwr = o.pwr
  fth : s.fth = o.fth
  img : s.img = o.img
  blocked : s.blocked = o.blocked
  grade : s.grade = o.grade
  scratch : s.mem.scratch = o.mem.scratch
  shared : s.mem.shared = o.mem.shared

/-- From o to s, helper h of basin b may have written its live registers to the save slot of the thread that owned them
(R409, R410): no byte of shared SRAM outside that slot has changed, and the rest is as `Stays` says. -/
def SavesOnly (o s : State) (b h : Nat) : Prop :=
  ∃ m, Stays { o with mem := { o.mem with shared := m } } s ∧
    ∀ a, (∀ j, (o.helper b h).live = some j → a < o.slotAddr b h j ∨ o.slotAddr b h j + 256 ≤ a) →
      cellGet m a = cellGet o.mem.shared a

/-- Thread t takes a trigger at port p in s: it is READY and its engine runs (R257), the port is one its engine has and its
mode may use (R319, R345), the unit is free or the port needs none (R358), and no replay session serves it (R885). What
stood in the units of one step has completed before (Table 9.1). -/
structure MayTrigger (s : State) (t p : Nat) : Prop where
  issue : s.canIssue t = true
  mode : ((s.settleFast t).thread t).user = true → p < 0x600
  has : portAllowed t p = true
  free : (s.settleFast t).accepts t p = true
  live : (s.settleFast t).rpl.replay = none

/-- What follows the effect s' of a trigger at port p of thread t in u: the note for the decision log, the operations of one
step that complete, and what the engines and the scheduler do of their own. -/
def Machine.State.issued (u : State) (t p : Nat) (x : W32) (s' : State) : State :=
  ((u.trig t p x fun _ => (s', 0)).1).afterIssue t

/-- The state in which a host's access is served: the access wakes the device (R903). Bank 4 is the management SPI's. -/
def Machine.State.woken (s : State) (p : Nat) : State := if p < 4 then s.hostWakes else s

/-- A write through bank p reaches the page (R897, R902, R903). -/
structure MayWrite (s : State) (p page : Nat) : Prop where
  reaches : p < 4 → s.pageOk p page = true
  served : p < 4 → s.hostWakes.rd Reg.PWR_STATUS_STATE = 3 → alwaysOnPage page = true
  page : p < 4 → (s.woken p).pageOk p page = true

/-- A read through bank p reaches the page. -/
structure MayRead (s : State) (p page : Nat) : Prop where
  reaches : p < 4 → s.pageReads p page = true
  served : p < 4 → s.hostWakes.rd Reg.PWR_STATUS_STATE = 3 → alwaysOnPage page = true
  page : p < 4 → (s.woken p).pageReads p page = true

/-- A safe outcome: the machine goes on, in a sound state that keeps what the earlier one had. -/
def SafeStep (s : State) : Prop := ∃ t, step s = .next t ∧ Sound t ∧ Keeps s t

end Sys2Proof
end

