-- ==== Sys2Proof/Certificates/Slice0/Obligations.lean ====
section
/-! DEFINITION. The statements for the provers. Those of the rows of the opcode table say which next state a row
answers where nothing turns it away; the others say what every command, or every access of a kind, does and leaves.
-/

namespace Sys2Proof

open Machine

/-- Where thread t takes a trigger at port p, the row c answers the state s' and what follows it. -/
def Issues (s : State) (t p : Nat) (x : W32) (c : Instr) (s' : State) : Prop :=
  MayTrigger s t p → exec c s = .next ((s.settleFast t).issued t p x s')

/-- The state in which a trigger of thread t is taken starts an operation of unit u that completes with these ports. -/
def Starts (s : State) (t p : Nat) (x : W32) (c : Instr) (u : Nat) (ports : List (Nat × W32)) (st : Nat) : Prop :=
  Issues s t p x c ((s.settleFast t).startOp t u ports st)

/-- The operation i of ALU k starts: the result port gets r and the carry port the flag c. -/
def AluStarts (s : State) (t : Fin 1544) (k : Fin 2) (i : Nat) (x : W32) (i' : Instr) (r : W32) (c : Bool) : Prop :=
  Starts s t.val (0x090 + 0x040 * k.val + i) x i' (uAlu k.val)
    [(0x081 + 0x40 * k.val, r), (0x082 + 0x40 * k.val, flagWord c)] stOk

/-- The compare i starts: the result port gets the flag c, and the operation writes predicate cmp.pd - 1 where cmp.pd is 1
to 4. -/
def CmpStarts (s : State) (t : Fin 1544) (i : Nat) (x : W32) (i' : Instr) (c : Bool) : Prop :=
  let u := s.settleFast t.val
  let pd := ((u.thread t.val).port 0x161).toNat % 8
  let v := u.startOp t.val uCmp [(0x162, flagWord c)] stOk
  (pd = 0 → Issues s t.val (0x170 + i) x i' v) ∧
  (0 < pd → pd ≤ 4 → Issues s t.val (0x170 + i) x i' (v.updThread t.val fun th => { th with
    ops := th.ops.map fun (e : Nat × UnitOp) => (e.1, { e.2 with pred := bif e.1 == uCmp then some (pd - 1, c) else e.2.pred }) }))

/-- A load of n bytes at x by a trigger at port p: from scratch or shared SRAM the bytes of the place, as a number whose
first byte is least significant, sign-extended where sext is set, the corrected errors of its words of scratch counted; from
the IPD, what the L1 answers, or a wait for its line. -/
def LoadRow (s : State) (t : Fin 1544) (p n : Nat) (sext : Bool) (x : W32) (c : Instr) : Prop :=
  let u := s.settleFast t.val
  let word (bs : List Byte) : Nat := if sext then unsigned 32 (signed (8 * n) (leNat bs)) else leNat bs
  let ports (bs : List Byte) : List (Nat × W32) :=
    if n = 8 then [(0x182, BitVec.ofNat 32 (word bs)), (0x183, BitVec.ofNat 32 (word bs / 2 ^ 32))]
    else [(0x182, BitVec.ofNat 32 (word bs))]
  x.toNat % n = 0 → ∀ (a : Nat) (v : State),
    (u.placeOf t.val x.toNat false = (.scratch a, v) → spoiled v.mem.scratchBad a n = false →
      Issues s t.val p x c ((v.scratchFixed (t.val / 8) a n).startOp t.val uLs (ports (cellRead v.mem.scratch a n)) stOk)) ∧
    (u.placeOf t.val x.toNat false = (.shared a, v) → spoiled v.mem.sharedBad a n = false →
      Issues s t.val p x c (v.startOp t.val uLs (ports (cellRead v.mem.shared a n)) stOk)) ∧
    (u.placeOf t.val x.toNat false = (.ipd a, v) → v.l1Bad (l1Of t.val) { addr := a, size := n, sext := sext } = false →
      Issues s t.val p x c (v.ipdAccess t.val { addr := a, size := n, sext := sext }).1)

/-- A store of the low n bytes of the data operands at x: the bytes of the place change, and no others, unless a part of a
word with an uncorrectable error is stored to; to the IPD, what the L1 answers, or a wait for its line. -/
def StoreRow (s : State) (t : Fin 1544) (p n : Nat) (x : W32) (c : Instr) : Prop :=
  let u := s.settleFast t.val
  x.toNat % n = 0 → ∀ (a : Nat) (v : State),
    let data := ((u.opnd t.val 0x180) + (u.opnd t.val 0x181) * 2 ^ 32) % 2 ^ (8 * n)
    (u.placeOf t.val x.toNat true = (.scratch a, v) → n = 8 ∨ spoiled v.mem.scratchBad a n = false →
      let w := v.scratchFixed (t.val / 8) a n
      Issues s t.val p x c (({ w with mem := { w.mem with
        scratch := cellWrite v.mem.scratch a (leBytes n data)
        scratchBad := unspoiled v.mem.scratchBad a n } }).startOp t.val uLs [] stOk)) ∧
    (u.placeOf t.val x.toNat true = (.shared a, v) → n = 8 ∨ spoiled v.mem.sharedBad a n = false →
      Issues s t.val p x c (({ v with mem := { v.mem with
        shared := cellWrite v.mem.shared a (leBytes n data)
        sharedBad := unspoiled v.mem.sharedBad a n } }).startOp t.val uLs [] stOk)) ∧
    (u.placeOf t.val x.toNat true = (.ipd a, v) →
      let acc : LineAcc := { store := true, addr := a, size := n, data := data, mask := 2 ^ (t.val % 8) }
      v.l1Bad (l1Of t.val) acc = false → Issues s t.val p x c (v.ipdAccess t.val acc).1)

/-- A line operation of the load/store unit: outside the IPD window it completes with no effect; on a line of the IPD for
which no fill is under way it is done in the L1, and on the level behind it where ls.lvl says so; behind a fill it waits. -/
def LineRow (s : State) (t : Fin 1544) (p op : Nat) (x : W32) (c : Instr) : Prop :=
  let u := s.settleFast t.val
  (inWindow t.val x.toNat = false → Starts s t.val p x c uLs [] stOk) ∧
  ∀ (a : Nat) (v : State), inWindow t.val x.toNat = true → u.placeOf t.val x.toNat false = (.ipd a, v) →
    ((v.cache (l1Of t.val)).misses.any fun m => m.addr == lineOf a) = false →
    Issues s t.val p x c ((v.maintain (l1Of t.val) op a (bitOf (u.opnd t.val 0x185) 0)).startOp t.val uLs [] stOk)

/-- An atomic on shared SRAM or on the IPD: the new value of the word of w bits takes the place of old, which the result
ports get. -/
def AtomicRow (s : State) (t : Fin 1544) (wide : Bool) (i : Nat) (x : W32) (i' : Instr) : Prop :=
  let u := s.settleFast t.val
  let n := if wide then 8 else 4
  let d := (u.opnd t.val 0x380 + u.opnd t.val 0x381 * 2 ^ 32) % 2 ^ (8 * n)
  let e := (u.opnd t.val 0x382 + u.opnd t.val 0x383 * 2 ^ 32) % 2 ^ (8 * n)
  x.toNat % n = 0 → ∀ (a : Nat) (v : State),
    (u.atomicPlace t.val x.toNat = (.shared a, v) → spoiled v.mem.sharedBad a n = false →
      let old := leNat (cellRead v.mem.shared a n)
      Issues s t.val (0x390 + 8 * flagBit wide + i) x i' (({ v with mem := { v.mem with
        shared := cellWrite v.mem.shared a (leBytes n (atomicNew i (8 * n) old d e)) } }).startOp t.val uAt (atomicPorts wide old) stOk)) ∧
    (u.atomicPlace t.val x.toNat = (.ipd a, v) → v.ipdLost a n = false →
      let old := leNat (v.ipdRead a n)
      Issues s t.val (0x390 + 8 * flagBit wide + i) x i' (((v.ipdWrite a (leBytes n (atomicNew i (8 * n) old d e))).ipdReq a true clsTbl).startOp
        t.val uAt (atomicPorts wide old) stOk))

/-- The operation of thread t on n bytes at an offset of the droplet in pw.h, its effect done in v: behind a feed of the
thread that runs on those bytes it completes only when the feed has (R423). -/
def behindFeed (u : State) (t off n : Nat) (v : State) : State :=
  match SMap.find (v.thread t).ops uPw with
  | none => v
  | some o => if u.feedBlocks t (u.opnd t 0x200) off n then v.putOp t uPw { o with wait := 8, arg := u.opnd t 0x200 } else v

/-- The state in which the buckets of a flow key have been read. -/
def bucketsRead (u : State) (sp : Nat) (key : List Byte) : State :=
  let b := u.buckets 1 (flowWords sp (u.keyLen sp) key)
  (u.ipdReq (u.flowAddr (4 * b.1)) false clsTbl).ipdReq (u.flowAddr (4 * b.2)) false clsTbl

/-- A flow operation ends with the context, its generation and a word. -/
def flowEnds (v : State) (t : Nat) (ctx gen d : Nat) : State := v.startOp t uFlow (flowPorts ctx gen d) stOk

/-- The droplet handed longest ago to a holder that it has not fetched and that came to it from the Weir. -/
def firstHanded (s : State) (holder : Nat) : Option (Nat × Slot) :=
  s.weir.slots.foldl (fun (best : Option (Nat × Slot)) e =>
    if e.2.holder ≠ some holder || e.2.fetched || e.2.originated then best
    else
      match best with
      | none => some e
      | some b => if e.2.handed < b.2.handed then some e else some b) none

/-- The depth of the egress queue that an egress code names, where it names one. -/
def Machine.State.queueDepth (s : State) (code : Nat) : Option Nat :=
  match decodeEgress code with
  | some (.port p c) => if s.portExists p then some (s.queueOf (8 * p + c)).length else none
  | some (.host p q) => some (s.hostCopies (64 * p + q)).length
  | _ => none

/-- Helper h of thread t's basin works for the thread: the thread claims it, no orphaned operation of its own is in the
helper, the helper is UP, and the thread's registers are live in it or its save slot is not lost (R409, R411). -/
structure HelperWorks (u : State) (t h : Nat) : Prop where
  engine : t < 1536
  noOrphan : ((u.helper (threadBasin t) h).orphan.map fun o => o.1) ≠ some (t % 128)
  claimed : (u.helper (threadBasin t) h).claim = some (t % 128)
  up : u.fld (hlpState h) (threadBasin t) 0 = 1
  context : (u.hlpSwitch (threadBasin t) h (t % 128)).1 = false

/-- The row c of the operation code op: where thread t takes the trigger, the helper works for it, the operation word is well
formed and the context allows it, exec answers the state in which the operation runs in the helper. When it completes the
registers become f of what they are, and the word opens a stream where opens is set. -/
def HelperOp (s : State) (t : Fin 1544) (h op : Nat) (x : W32) (c : Instr) (f : List Nat → List Nat) (opens : Bool) : Prop :=
  let u := s.settleFast t.val
  let b := threadBasin t.val
  let v := (u.hlpSwitch b h (t.val % 128)).2
  let regs := (v.helper b h).regs
  let word := rowWord op x
  MayTrigger s t.val (0x474 + 0x40 * h) → HelperWorks u t.val h → opWordOk h word.toNat = true → contextOk regs word.toNat = true →
    exec c s = .next (u.issued t.val (0x474 + 0x40 * h) word
      ((v.hlpRun t.val h b 1 (f regs) (if opens then some word else none) stOk).hlpMark t.val h none))

/-- The end of a CRC: the register that holds it gets the final value of the preset. -/
def crcEnds (n : Nat) (r : List Nat) : List Nat :=
  match crcPreset (opSel n) with
  | none => r
  | some p => setHreg r (opA n) (crcFinal p (if opInit n then p.init else crcLoad p (hreg r (opA n))))

/-- A change of the program counter of thread t: everything else about the thread stays. -/
def goesOn (u : State) (t pc : Nat) : State := u.updThread t fun th => { th with pc := pc }

/-- The command c in s answers the state t. -/
def Runs (s : State) (c : Instr) (t : State) : Prop := exec c s = .next t

/-- The write c through bank p, where it reaches its page, answers the state t. -/
def Served (s : State) (p page : Nat) (c : Instr) (t : State) : Prop := MayWrite s p page → exec c s = .next t

/-- The checks of Table 6.13 let a command of partition p through, on the table it selects. -/
def TblPasses (v : State) (p cmd : Nat) : Prop :=
  ∀ f : State → Nat → State, v.tblCommand p cmd f = f v (v.fld Reg.TBL_SEL_TABLE 0 p)

/-- A debug command of partition p in v reaches thread g of a packet engine: debug of packet engines is open (R887). -/
structure DebugsThread (v : State) (p g : Nat) : Prop where
  reach : v.dbgReach p = true
  target : (v.wr Reg.RPL_DBG_CMD_CMD 0).dbgTarget = g
  thread : (v.wr Reg.RPL_DBG_CMD_CMD 0).dbgDesc = false
  opens : (v.wr Reg.RPL_DBG_CMD_CMD 0).debugOpen 0 = true
  exists_ : g < 1536

/-- A debug command of partition p in v reaches descriptor d: debug of control engines is open. -/
structure DebugsDesc (v : State) (p d : Nat) : Prop where
  reach : v.dbgReach p = true
  target : (v.wr Reg.RPL_DBG_CMD_CMD 0).dbgTarget = d
  desc : (v.wr Reg.RPL_DBG_CMD_CMD 0).dbgDesc = true
  opens : (v.wr Reg.RPL_DBG_CMD_CMD 0).debugOpen 1 = true

/-- In v, thread t stands faulted with this cause at this bundle, and its return stack is that of u. -/
def FaultedAt (u : State) (t cause pc : Nat) (v : State) : Prop :=
  (v.thread t).state = 3 ∧ (v.thread t).cause = cause ∧ (v.thread t).pc = pc ∧ (v.thread t).rstack = (u.thread t).rstack

/-- Where thread t takes a trigger at port p, the row c answers the fault with this cause at its bundle, and nothing else of
the operation. -/
def Faults (s : State) (t p : Nat) (c : Instr) (cause : Nat) : Prop :=
  MayTrigger s t p →
    exec c s = .next (((s.settleFast t).fault t cause ((s.settleFast t).thread t).pc).afterIssue t)

/-- The multiplier's operation of thread t completes: mul.r, mul.rh and mul.st read r, h and st, and the unit is free. -/
def MulGives (v : State) (t : Nat) (r h : W32) (st : Nat) : Prop :=
  let th := (v.completeOp t uMul).thread t
  th.port 0x141 = r ∧ th.port 0x142 = h ∧ th.port 0x143 = BitVec.ofNat 32 st ∧ SMap.find th.ops uMul = none

/-- The cursors of the other banks are as before. -/
def OthersKeep (old new : SMap Nat) (bank : Nat) : Prop := ∀ b, b ≠ bank → SMap.get new b 0 = SMap.get old b 0

/-- What the row c of a trigger of thread t at port p answers where it is turned away: a thread that may not issue, and a
trigger whose unit is not free, leave the state (what stood in the units of one step has completed before); a privileged
port named in user mode faults PRIV, and a supervisor port named by a thread other than T0, or a privileged port named on a
packet engine, faults PORT. -/
def TurnedAway (s : State) (t p : Nat) (c : Instr) : Prop :=
  let u := s.settleFast t
  let th := u.thread t
  (s.canIssue t = false → exec c s = .next s) ∧
  (s.canIssue t = true →
    (th.user = true → 0x600 ≤ p → exec c s = .next ((u.fault t causePriv th.pc).afterIssue t)) ∧
    ((th.user = false ∨ p < 0x600) →
      (0x4E0 ≤ p → p < 0x500 → ¬(t < 1536 ∧ t % 8 = 0) → exec c s = .next ((u.fault t causePort th.pc).afterIssue t)) ∧
      (0x600 ≤ p → t < 1536 → exec c s = .next ((u.fault t causePort th.pc).afterIssue t)) ∧
      (portAllowed t p = true → u.accepts t p = false → exec c s = .next u)))

/-- The row c answers a next state that leaves the state outside its thread's units as it was. -/
def LeavesRest (s : State) (c : Instr) : Prop := ∃ v, exec c s = .next v ∧ Stays s v

/-- The row c of a helper of thread t's basin answers a next state that leaves the state outside its thread's units as it
was, but for the save slot of the thread that owns the helper's live registers (R409). -/
def LeavesSlots (s : State) (t h : Nat) (c : Instr) : Prop :=
  ∃ v m, exec c s = .next v ∧ Stays { s with mem := { s.mem with shared := m } } v ∧
    ∀ a, (∀ j, ((s.settleFast t).helper (threadBasin t) h).live = some j →
      a < s.slotAddr (threadBasin t) h j ∨ s.slotAddr (threadBasin t) h j + 256 ≤ a) →
      cellGet m a = cellGet s.mem.shared a

/-- A store of n bytes at x, where it lands in a memory of the engine and meets no uncorrectable error that it does not write
over whole: the state outside its thread's units and that memory
is as it was in s, the n bytes at the place are the data, every other byte is as it was, and so is every byte of another
engine's scratch, of another thread's part of it unless the thread is T0, and of another basin's shared SRAM. -/
def StoresOnly (s : State) (t p n : Nat) (x : W32) (c : Instr) : Prop :=
  let u := s.settleFast t
  let data := ((u.opnd t 0x180) + (u.opnd t 0x181) * 2 ^ 32) % 2 ^ (8 * n)
  x.toNat % n = 0 → MayTrigger s t p → ∀ a : Nat,
    ((u.placeOf t x.toNat true).1 = .scratch a → n = 8 ∨ spoiled u.mem.scratchBad a n = false → ∃ w, exec c s = .next w ∧
      Stays { s with mem := { s.mem with scratch := cellWrite s.mem.scratch a (leBytes n data) } } w ∧
      (∀ i < n, cellGet w.mem.scratch (a + i) = BitVec.ofNat 8 (data / 256 ^ i)) ∧
      (∀ b, b < a ∨ a + n ≤ b → cellGet w.mem.scratch b = cellGet s.mem.scratch b) ∧
      (∀ b, b / 2 ^ 15 ≠ t / 8 ∨ (t % 8 ≠ 0 ∧ b / 4096 ≠ t) → cellGet w.mem.scratch b = cellGet s.mem.scratch b)) ∧
    ((u.placeOf t x.toNat true).1 = .shared a → n = 8 ∨ spoiled u.mem.sharedBad a n = false → ∃ w, exec c s = .next w ∧
      Stays { s with mem := { s.mem with shared := cellWrite s.mem.shared a (leBytes n data) } } w ∧
      (∀ i < n, cellGet w.mem.shared (a + i) = BitVec.ofNat 8 (data / 256 ^ i)) ∧
      (∀ b, b < a ∨ a + n ≤ b → cellGet w.mem.shared b = cellGet s.mem.shared b) ∧
      (∀ b, b / 2 ^ 19 ≠ t / 128 → cellGet w.mem.shared b = cellGet s.mem.shared b))

/-- An atomic on n bytes of shared SRAM at x that have no uncorrectable error: the state outside its thread's units and that memory is as it was in s, and so
is every byte outside the n bytes at the place. -/
def AtomicOnly (s : State) (t : Nat) (wide : Bool) (i : Nat) (x : W32) (c : Instr) : Prop :=
  let u := s.settleFast t
  let n := if wide then 8 else 4
  x.toNat % n = 0 → MayTrigger s t (0x390 + 8 * flagBit wide + i) → ∀ a : Nat, (u.atomicPlace t x.toNat).1 = .shared a → spoiled u.mem.sharedBad a n = false →
    ∃ w, exec c s = .next w ∧ (∃ m, Stays { s with mem := { s.mem with shared := m } } w) ∧
      (∀ b, b < a ∨ a + n ≤ b → cellGet w.mem.shared b = cellGet s.mem.shared b) ∧
      (∀ b, b / 2 ^ 19 ≠ t / 128 → cellGet w.mem.shared b = cellGet s.mem.shared b)

end Sys2Proof

open Sys2Proof Sys2Proof.Machine

/-- Where thread t takes the trigger, each of the fifteen rows of an ALU answers the next state in which that ALU
has the operation of Table 9.2: with a the operand port's word and x the trigger's, the result port gets the sum,
difference, conjunction, disjunction, exclusive or, a and not x, shifts and rotation by bits 4:0 of x, the signed
and unsigned minimum and maximum, or x; the carry port gets the carry of the sum, the borrow of the difference, and
0 for the others. -/
def Obligations.AluTriggersStartTheirOperation : Prop :=
  ∀ (s : State) (t : Fin 1544) (k : Fin 2) (x : W32),
    let a := ((s.settleFast t.val).thread t.val).port (0x080 + 0x40 * k.val)
    AluStarts s t k 0 x (.aluTAdd t k x) (a + x) (decide (2 ^ 32 ≤ a.toNat + x.toNat)) ∧
    AluStarts s t k 1 x (.aluTSub t k x) (a - x) (decide (a.toNat < x.toNat)) ∧
    AluStarts s t k 2 x (.aluTAnd t k x) (a &&& x) (false) ∧
    AluStarts s t k 3 x (.aluTOr t k x) (a ||| x) (false) ∧
    AluStarts s t k 4 x (.aluTXor t k x) (a ^^^ x) (false) ∧
    AluStarts s t k 5 x (.aluTAndn t k x) (a &&& ~~~x) (false) ∧
    AluStarts s t k 6 x (.aluTShl t k x) (a <<< (x.toNat % 32)) (false) ∧
    AluStarts s t k 7 x (.aluTShr t k x) (a >>> (x.toNat % 32)) (false) ∧
    AluStarts s t k 8 x (.aluTSar t k x) (a.sshiftRight (x.toNat % 32)) (false) ∧
    AluStarts s t k 9 x (.aluTRotl t k x) (a.rotateLeft (x.toNat % 32)) (false) ∧
    AluStarts s t k 10 x (.aluTMin t k x) (if decide (a.toInt < x.toInt) then a else x) (false) ∧
    AluStarts s t k 11 x (.aluTMax t k x) (if decide (a.toInt < x.toInt) then x else a) (false) ∧
    AluStarts s t k 12 x (.aluTMinu t k x) (if decide (a.toNat < x.toNat) then a else x) (false) ∧
    AluStarts s t k 13 x (.aluTMaxu t k x) (if decide (a.toNat < x.toNat) then x else a) (false) ∧
    AluStarts s t k 14 x (.aluTMov t k x) (x) (false)

/-- Where thread t takes the trigger, each of the eleven rows of the bit unit answers the next state in which the
unit has the operation of Table 9.3. The field rows use position x[4:0] and length x[13:8] of a field that lies in
the word: zero-extended, sign-extended, or inserted from the second operand. The others count leading zeros,
trailing zeros or set bits of x, reverse its bytes, exchange its low two bytes, reverse its bits, or extend the sign
of its low 8 or 16 bits. -/
def Obligations.BitUnitTriggersStartTheirOperation : Prop :=
  ∀ (s : State) (t : Fin 1544) (x : W32),
    let a := ((s.settleFast t.val).thread t.val).port 0x100
    let b := ((s.settleFast t.val).thread t.val).port 0x101
    let len := x.toNat / 2 ^ 8 % 2 ^ 6
    (fieldOk x → Starts s t 0x110 x (.bitTExtu t x) uBit [(0x102, BitVec.ofNat 32 (a.toNat / 2 ^ (x.toNat % 32) % 2 ^ len))] stOk) ∧
    (fieldOk x → Starts s t 0x111 x (.bitTExts t x) uBit
      [(0x102, BitVec.ofInt 32 (signed len (a.toNat / 2 ^ (x.toNat % 32) % 2 ^ len)))] stOk) ∧
    (fieldOk x → Starts s t 0x112 x (.bitTIns t x) uBit [(0x102, BitVec.ofNat 32 (setBits a.toNat (x.toNat % 32) len b.toNat))] stOk) ∧
    Starts s t 0x113 x (.bitTClz t x) uBit [(0x102, BitVec.ofNat 32 (leadZeros x))] stOk ∧
    Starts s t 0x114 x (.bitTCtz t x) uBit [(0x102, BitVec.ofNat 32 (trailZeros x))] stOk ∧
    Starts s t 0x115 x (.bitTPopc t x) uBit [(0x102, BitVec.ofNat 32 (setBitCount x))] stOk ∧
    Starts s t 0x116 x (.bitTBswap t x) uBit [(0x102, swapBytes x)] stOk ∧
    Starts s t 0x117 x (.bitTBswap16 t x) uBit [(0x102, swapLow x)] stOk ∧
    Starts s t 0x118 x (.bitTBitrev t x) uBit [(0x102, revBits x)] stOk ∧
    Starts s t 0x119 x (.bitTSext8 t x) uBit [(0x102, signExt 8 x)] stOk ∧
    Starts s t 0x11A x (.bitTSext16 t x) uBit [(0x102, signExt 16 x)] stOk

/-- The functions that the rows of the bit unit name: the count of leading zeros is the place of the highest set bit
counted from the top, 32 for 0; the count of trailing zeros is the place of the lowest set bit, 32 for 0; byte
reversal makes byte i byte 3 - i; the exchange of the low two bytes gives them, zero-extended; bit reversal makes
bit i bit 31 - i; extension of the low n bits, n 8 or 16, copies bit n - 1 into every higher bit. -/
def Obligations.BitUnitFunctionsAreThoseOfItsTable : Prop :=
  ∀ (x : W32),
    (leadZeros x ≤ 32 ∧ (∀ i < leadZeros x, x.getLsbD (31 - i) = false) ∧
      (leadZeros x < 32 → x.getLsbD (31 - leadZeros x) = true)) ∧
    (trailZeros x ≤ 32 ∧ (∀ i < trailZeros x, x.getLsbD i = false) ∧
      (trailZeros x < 32 → x.getLsbD (trailZeros x) = true)) ∧
    (∀ i < 32, (swapBytes x).getLsbD i = x.getLsbD (8 * (3 - i / 8) + i % 8)) ∧
    (∀ i < 16, (swapLow x).getLsbD i = x.getLsbD (8 * (1 - i / 8) + i % 8)) ∧ (∀ i, 16 ≤ i → (swapLow x).getLsbD i = false) ∧
    (∀ i < 32, (revBits x).getLsbD i = x.getLsbD (31 - i)) ∧
    (∀ i < 32, (signExt 8 x).getLsbD i = x.getLsbD (min i 7)) ∧ (∀ i < 32, (signExt 16 x).getLsbD i = x.getLsbD (min i 15))

/-- Where thread t takes the trigger, each of the eleven rows of the compare unit answers the next state in which
the unit has the compare of Table 9.4 between the operand a and x: equal, not equal, the signed and unsigned orders,
or a common set bit. The result port gets 1 or 0. With cmp.pd 0 no predicate is written; with cmp.pd 1 to 4 the
operation writes predicate p0 to p3 when it completes. -/
def Obligations.CompareTriggersStartTheirOperation : Prop :=
  ∀ (s : State) (t : Fin 1544) (x : W32),
    let a := ((s.settleFast t.val).thread t.val).port 0x160
    CmpStarts s t 0 x (.cmpTEq t x) (a == x) ∧
    CmpStarts s t 1 x (.cmpTNe t x) (a != x) ∧
    CmpStarts s t 2 x (.cmpTLt t x) (decide (a.toInt < x.toInt)) ∧
    CmpStarts s t 3 x (.cmpTLe t x) (decide (a.toInt ≤ x.toInt)) ∧
    CmpStarts s t 4 x (.cmpTGt t x) (decide (x.toInt < a.toInt)) ∧
    CmpStarts s t 5 x (.cmpTGe t x) (decide (x.toInt ≤ a.toInt)) ∧
    CmpStarts s t 6 x (.cmpTLtu t x) (decide (a.toNat < x.toNat)) ∧
    CmpStarts s t 7 x (.cmpTLeu t x) (decide (a.toNat ≤ x.toNat)) ∧
    CmpStarts s t 8 x (.cmpTGtu t x) (decide (x.toNat < a.toNat)) ∧
    CmpStarts s t 9 x (.cmpTGeu t x) (decide (x.toNat ≤ a.toNat)) ∧
    CmpStarts s t 10 x (.cmpTTst t x) (a &&& x != 0)

/-- Where thread t takes the trigger, each of the four rows of the multiplier answers the next state in which the
unit has the operation of Table 9.5: the low and the high word of the unsigned or signed product of the operand a
and x, or the quotient and the remainder, the signed quotient truncated toward zero and the remainder with the sign
of a. A division by zero completes with INVALID, the result all ones and the remainder a. -/
def Obligations.MultiplierTriggersStartTheirOperation : Prop :=
  ∀ (s : State) (t : Fin 1544) (x : W32),
    let a := ((s.settleFast t.val).thread t.val).port 0x140
    Starts s t 0x150 x (.mulTMulu t x) uMul
      [(0x141, BitVec.ofNat 32 (a.toNat * x.toNat)), (0x142, BitVec.ofNat 32 (a.toNat * x.toNat / 2 ^ 32))] stOk ∧
    Starts s t 0x151 x (.mulTMuls t x) uMul
      [(0x141, BitVec.ofInt 32 (a.toInt * x.toInt)), (0x142, BitVec.ofInt 32 (a.toInt * x.toInt / 2 ^ 32))] stOk ∧
    (x ≠ 0 → Starts s t 0x152 x (.mulTDivu t x) uMul
      [(0x141, BitVec.ofNat 32 (a.toNat / x.toNat)), (0x142, BitVec.ofNat 32 (a.toNat % x.toNat))] stOk) ∧
    (x ≠ 0 → Starts s t 0x153 x (.mulTDivs t x) uMul
      [(0x141, BitVec.ofInt 32 (a.toInt.tdiv x.toInt)), (0x142, BitVec.ofInt 32 (a.toInt.tmod x.toInt))] stOk) ∧
    (x = 0 → Starts s t 0x152 x (.mulTDivu t x) uMul [(0x141, 0xFFFFFFFF), (0x142, a)] stInvalid) ∧
    (x = 0 → Starts s t 0x153 x (.mulTDivs t x) uMul [(0x141, 0xFFFFFFFF), (0x142, a)] stInvalid)

/-- Where thread t takes the trigger and the address is aligned, each of the six loads of Table 9.6 answers the next
state in which the load/store unit completes with the bytes at the place of the address (Table 7.2): from scratch or
shared SRAM the number whose first byte is the least significant, of 1, 2, 4 or 8 bytes, sign-extended for the
signed rows, in one result port or, for 8 bytes, in two; from the IPD what the thread's L1 answers. -/
def Obligations.LoadsReadTheirBytes : Prop :=
  ∀ (s : State) (t : Fin 1544) (x : W32),
    LoadRow s t 0x190 1 false x (.lsTLd8u t x) ∧
    LoadRow s t 0x191 1 true x (.lsTLd8s t x) ∧
    LoadRow s t 0x192 2 false x (.lsTLd16u t x) ∧
    LoadRow s t 0x193 2 true x (.lsTLd16s t x) ∧
    LoadRow s t 0x194 4 false x (.lsTLd32 t x) ∧
    LoadRow s t 0x195 8 false x (.lsTLd64 t x)

/-- Where thread t takes the trigger and the address is aligned, each of the four stores of Table 9.6 answers the
next state in which the 1, 2, 4 or 8 bytes at the place of the address are the low bytes of ls.datah:ls.data, least
significant first, and the unit completes with OK; from the IPD, what the thread's L1 answers. No other byte of the
scratch or shared SRAM changes. A store of less than 8 bytes is stated where none of its bytes has an uncorrectable
error; one of 8 bytes ends the errors of its bytes. -/
def Obligations.StoresWriteTheirBytes : Prop :=
  ∀ (s : State) (t : Fin 1544) (x : W32),
    StoreRow s t 0x198 1 x (.lsTSt8 t x) ∧
    StoreRow s t 0x199 2 x (.lsTSt16 t x) ∧
    StoreRow s t 0x19A 4 x (.lsTSt32 t x) ∧
    StoreRow s t 0x19B 8 x (.lsTSt64 t x)

/-- Where thread t takes the trigger: ls.t.pf starts a fill of a line of the IPD that neither is present nor is
being filled, and completes with OK in every case; ls.t.clean, ls.t.inv and ls.t.cinv complete with no effect
outside the IPD window, and on a line of the IPD that is not being filled act on the thread's L1, and on the level
behind where bit 0 of ls.lvl is set; ls.t.fence writes back the dirty lines of the L1 that the thread of a packet
engine wrote, and completes with OK. -/
def Obligations.LineOperationsAndFence : Prop :=
  ∀ (s : State) (t : Fin 1544) (x : W32),
    let u := s.settleFast t.val
    (∀ (a : Nat) (v : State), u.placeOf t.val x.toNat false = (.ipd a, v) → v.offlineAt a = false →
      (v.cache (l1Of t.val)).whereIs (l1Of t.val) a = 0 → ((v.cache (l1Of t.val)).misses.any fun m => m.addr == lineOf a) = false →
      Issues s t.val 0x1A0 x (.lsTPf t x) ((v.miss (l1Of t.val) a none true).startOp t.val uLs [] stOk)) ∧
    (∀ (a : Nat) (v : State), u.placeOf t.val x.toNat false = (.scratch a, v) →
      Issues s t.val 0x1A0 x (.lsTPf t x) (v.startOp t.val uLs [] stOk)) ∧
    LineRow s t 0x1A8 1 x (.lsTClean t x) ∧ LineRow s t 0x1A9 2 x (.lsTInv t x) ∧ LineRow s t 0x1AA 3 x (.lsTCinv t x) ∧
    (t.val < 1536 → Issues s t.val 0x1AF x (.lsTFence t x) ((u.fenceLines (t.val / 8) (t.val % 8)).startOp t.val uLs [] stOk)) ∧
    (1536 ≤ t.val → Starts s t.val 0x1AF x (.lsTFence t x) uLs [] stOk)

/-- Where thread t takes the trigger and the address is aligned to the width of 4 or 8 bytes, each of the eight rows
of the atomic unit answers the next state in which the word at the place of the address, in shared SRAM or in the
IPD, is the sum, the difference, the data, the data where the word equals the compare operand, the conjunction, the
disjunction, the minimum or the maximum of the old word and the data operand (Table 9.12), and the unit completes
with the old word. -/
def Obligations.AtomicsReplaceTheWordAndAnswerTheOldOne : Prop :=
  ∀ (s : State) (t : Fin 1544) (wide : Bool) (x : W32),
    (∀ (wide : Bool) (old : Nat), atomicPorts wide old =
      [(0x384, BitVec.ofNat 32 old), (0x385, if wide then BitVec.ofNat 32 (old / 2 ^ 32) else 0)]) ∧
    (∀ w o v c : Nat, atomicNew 0 w o v c = ((o + v) % 2 ^ w) ∧ atomicNew 1 w o v c = ((o + 2 ^ w - v) % 2 ^ w) ∧ atomicNew 2 w o v c = (v) ∧ atomicNew 3 w o v c = (if o = c then v else o) ∧ atomicNew 4 w o v c = (o &&& v) ∧ atomicNew 5 w o v c = (o ||| v) ∧ atomicNew 6 w o v c = (min o v) ∧ atomicNew 7 w o v c = (max o v)) ∧
    AtomicRow s t wide 0 x (.atTAdd t wide x) ∧
    AtomicRow s t wide 1 x (.atTSub t wide x) ∧
    AtomicRow s t wide 2 x (.atTSwap t wide x) ∧
    AtomicRow s t wide 3 x (.atTCas t wide x) ∧
    AtomicRow s t wide 4 x (.atTAnd t wide x) ∧
    AtomicRow s t wide 5 x (.atTOr t wide x) ∧
    AtomicRow s t wide 6 x (.atTMin t wide x) ∧
    AtomicRow s t wide 7 x (.atTMax t wide x)

/-- Where thread t takes the trigger and pw.h names a droplet that it holds, each of the nine rows of the packet
window answers the next state of Table 9.7: a load gets the 1, 2 or 4 bytes at the offset in network order, a store
writes the low bytes of pw.d there, most significant first, an insertion of 1 to 64 bytes opens a gap of zeros in
the header region of at most 320 bytes, a deletion closes one, and pw.t.len gives the packet's length and the length
of its head. An access that reaches the body also asks the memory for it. An operation on bytes on which a feed of
the thread runs completes when the feed has (R423). -/
def Obligations.PacketWindowTriggersOnAHeldDroplet : Prop :=
  ∀ (s : State) (t : Fin 1544) (x : W32) (i : Nat) (sl : Slot),
    let u := s.settleFast t.val
    let off := x.toNat % 2 ^ 15
    let n := bits x.toNat 16 7
    let at_ := x.toNat % 512
    let head := u.headOf sl.d.head
    u.heldBy t.val (u.opnd t.val 0x200) = (stOk, i, sl) →
    (∀ bs, off + 1 ≤ u.pktLen sl.d → u.pktBytes sl.d off 1 = some bs → Issues s t.val 0x210 x (.pwTLd8 t x)
      (behindFeed u t.val off 1 ((u.bodyReq sl.d off 1 false).startOp t.val uPw [(0x202, BitVec.ofNat 32 (beNat bs))] stOk))) ∧
    (∀ bs, off + 2 ≤ u.pktLen sl.d → u.pktBytes sl.d off 2 = some bs → Issues s t.val 0x211 x (.pwTLd16 t x)
      (behindFeed u t.val off 2 ((u.bodyReq sl.d off 2 false).startOp t.val uPw [(0x202, BitVec.ofNat 32 (beNat bs))] stOk))) ∧
    (∀ bs, off + 4 ≤ u.pktLen sl.d → u.pktBytes sl.d off 4 = some bs → Issues s t.val 0x212 x (.pwTLd32 t x)
      (behindFeed u t.val off 4 ((u.bodyReq sl.d off 4 false).startOp t.val uPw [(0x202, BitVec.ofNat 32 (beNat bs))] stOk))) ∧
    (∀ bs, off + 1 ≤ u.pktLen sl.d → u.pktBytes sl.d off 1 = some bs → Issues s t.val 0x214 x (.pwTSt8 t x)
      (behindFeed u t.val off 1
        (((u.writePacket sl.d off (beBytes 1 (u.opnd t.val 0x201))).bodyReq sl.d off 1 true).startOp t.val uPw [] stOk))) ∧
    (∀ bs, off + 2 ≤ u.pktLen sl.d → u.pktBytes sl.d off 2 = some bs → Issues s t.val 0x215 x (.pwTSt16 t x)
      (behindFeed u t.val off 2
        (((u.writePacket sl.d off (beBytes 2 (u.opnd t.val 0x201))).bodyReq sl.d off 2 true).startOp t.val uPw [] stOk))) ∧
    (∀ bs, off + 4 ≤ u.pktLen sl.d → u.pktBytes sl.d off 4 = some bs → Issues s t.val 0x216 x (.pwTSt32 t x)
      (behindFeed u t.val off 4
        (((u.writePacket sl.d off (beBytes 4 (u.opnd t.val 0x201))).bodyReq sl.d off 4 true).startOp t.val uPw [] stOk))) ∧
    (0 < n → n ≤ 64 → at_ ≤ head.length → head.length + n ≤ 320 → Issues s t.val 0x218 x (.pwTIns t x)
      (behindFeed u t.val 0 (2 ^ 15)
        ((u.setHead sl.d.head (head.take at_ ++ List.replicate n 0 ++ head.drop at_)).startOp t.val uPw [] stOk))) ∧
    (0 < n → n ≤ 64 → at_ + n ≤ head.length → Issues s t.val 0x219 x (.pwTDel t x)
      (behindFeed u t.val 0 (2 ^ 15)
        ((u.setHead sl.d.head (head.take at_ ++ head.drop (at_ + n))).startOp t.val uPw [] stOk))) ∧
    Issues s t.val 0x21A x (.pwTLen t x) (behindFeed u t.val 0 0
      (u.startOp t.val uPw [(0x202, BitVec.ofNat 32 (u.pktLen sl.d % 2 ^ 15 + u.headLen sl.d * 65536))] stOk))

/-- Where thread t takes the trigger and dl.h names a droplet that it holds, each of the six rows of the
droplet-access unit answers the next state of Table 9.8: the word of the droplet descriptor, of the flow-key record,
of the key or of the layer list that the operand names; the end position and the parse status, or the parameter
index and its validity; and a write of a word that the program may write changes it in the droplet's slot. -/
def Obligations.DropletAccessTriggersOnAHeldDroplet : Prop :=
  ∀ (s : State) (t : Fin 1544) (x : W32) (i : Nat) (sl : Slot),
    let u := s.settleFast t.val
    u.heldBy t.val (u.opnd t.val 0x240) = (stOk, i, sl) →
    Starts s t.val 0x250 x (.dlTRd t x) uDl [(0x242, BitVec.ofNat 32 (sl.d.word (x.toNat % 16)))] stOk ∧
    Starts s t.val 0x252 x (.dlTFlk t x) uDl [(0x242, BitVec.ofNat 32 (flkNum sl.flk (4 * (x.toNat % 16)) 4))] stOk ∧
    Starts s t.val 0x253 x (.dlTKey t x) uDl [(0x242, BitVec.ofNat 32 (flkNum sl.prec.key (4 * (x.toNat % 16)) 4))] stOk ∧
    Starts s t.val 0x254 x (.dlTLay t x) uDl [(0x242, BitVec.ofNat 32 (sl.prec.layers.getD (x.toNat % 16) 0))] stOk ∧
    (∀ sl2, writeWord sl (x.toNat % 16) ((u.thread t.val).port 0x241) = some sl2 →
      Issues s t.val 0x251 x (.dlTWr t x) ((u.setSlot i sl2).startOp t.val uDl [] stOk)) ∧
    (x.toNat = 0 → Starts s t.val 0x255 x (.dlTPinfo t x) uDl
      [(0x242, BitVec.ofNat 32 (sl.prec.endPos % 1024 + sl.d.parse * 65536))] stOk) ∧
    (x.toNat = 1 → Starts s t.val 0x255 x (.dlTPinfo t x) uDl
      [(0x242, BitVec.ofNat 32 (sl.prec.param % 8192 + 32768 * flagBit sl.prec.paramValid))] stOk)

/-- Where thread t takes the trigger, tl.t.l2 answers the port and the endpoint of the entry that the L2 table has
for the FID and MAC of its operands, or EMPTY where it has none; tl.t.ep answers word 2 of the endpoint record, or
EMPTY where the record is free; tl.t.param answers the word of the parameter table of the rule version that tl.ver
names, where that version is resident. -/
def Obligations.TableLookupTriggersAnswerFromTheirTables : Prop :=
  ∀ (s : State) (t : Fin 1544) (x : W32),
    let u := s.settleFast t.val
    (∀ (e : L2Ent) (v : State), u.l2Lookup (u.opnd t.val 0x280 % 4096) (u.opnd t.val 0x281 % 65536 * 2 ^ 32 + x.toNat) = (some e, v) →
      Issues s t.val 0x290 x (.tlTL2 t x) (v.startOp t.val uTl [(0x283, BitVec.ofNat 32 e.port),
        (0x284, BitVec.ofNat 32 (e.ep % 65536 + flagBit e.epValid * 2 ^ 16 + flagBit e.static_ * 2 ^ 17))] stOk)) ∧
    (∀ v, u.l2Lookup (u.opnd t.val 0x280 % 4096) (u.opnd t.val 0x281 % 65536 * 2 ^ 32 + x.toNat) = (none, v) →
      Issues s t.val 0x290 x (.tlTL2 t x) (v.startOp t.val uTl [] stEmpty)) ∧
    ((u.epRec (x.toNat % 65536)).state ≠ 0 → Starts s t.val 0x291 x (.tlTEp t x) uTl
      [(0x284, BitVec.ofNat 32 (u.epRec (x.toNat % 65536)).word2)] stOk) ∧
    ((u.epRec (x.toNat % 65536)).state = 0 → Starts s t.val 0x291 x (.tlTEp t x) uTl [] stEmpty) ∧
    (∀ n, u.slotOfVersion (u.opnd t.val 0x282 % 65536) = some n → Starts s t.val 0x292 x (.tlTParam t x) uTl
      [(0x285, ((u.version n).tables.entry 2 (bits x.toNat 0 13)).getD (bits x.toNat 13 4) 0)] stOk)

/-- Where thread t takes the trigger: with a key operand whose bytes of scratch have no uncorrectable error,
tl.t.ffind answers the context and generation of the entry that holds the key, or the status of the search;
tl.t.fget does so too, and where there is none and an entry can be created answers the new one with its NEW bit, and
LOST where the key stands in a word that is lost. With the handle of a live context, tl.t.fread answers a word of
it, tl.t.fwrite writes a word 16 to 31, or the two writable bits of word 12, and is DENIED any other word; tl.t.fdel
removes the entry. With the handle of no live context the three complete with LOST. -/
def Obligations.FlowTriggersActOnTheFlowTable : Prop :=
  ∀ (s : State) (t : Fin 1544) (x : W32),
    let u := s.settleFast t.val
    (∀ sp key i, u.flowOperand t.val x.toNat = some (sp, key) → u.flowKeyBad t.val x.toNat sp = false →
      let z := u.scratchFixed (t.val / 8) (threadScratch t.val x.toNat) (u.keyLen sp)
      z.flowSlot sp key = (stOk, i) →
      let v := (bucketsRead z sp key).flowHit i
      let e := (v.flowAt i).getD {}
      Issues s t.val 0x2B0 x (.tlTFfind t x) (flowEnds v t.val (e.ctx + 0 * 2 ^ 31) (v.ctxGen e.ctx) 0) ∧
      Issues s t.val 0x2B1 x (.tlTFget t x) (flowEnds v t.val (e.ctx + 0 * 2 ^ 31) (v.ctxGen e.ctx) 0)) ∧
    (∀ sp key st i, u.flowOperand t.val x.toNat = some (sp, key) → u.flowKeyBad t.val x.toNat sp = false →
      let z := u.scratchFixed (t.val / 8) (threadScratch t.val x.toNat) (u.keyLen sp)
      z.flowSlot sp key = (st, i) → st ≠ stOk →
      Issues s t.val 0x2B0 x (.tlTFfind t x) ((bucketsRead z sp key).startOp t.val uFlow [] st) ∧
      ((bucketsRead z sp key).flowHidden sp key = true →
        Issues s t.val 0x2B1 x (.tlTFget t x) ((bucketsRead z sp key).startOp t.val uFlow [] stLost)) ∧
      (∀ j v, (bucketsRead z sp key).flowHidden sp key = false →
        (bucketsRead z sp key).flowCreate sp key false 1 (bucketsRead z sp key).now [] = (some j, v) →
        let e := (v.flowAt j).getD {}
        Issues s t.val 0x2B1 x (.tlTFget t x) (flowEnds v t.val (e.ctx + 1 * 2 ^ 31) (v.ctxGen e.ctx) 0))) ∧
    (∀ n gen e, u.flowOpnd t.val = (n, gen) → u.flowHandle n gen = some e →
      let v := u.ipdReq (u.ctxAddr n + 4 * (x.toNat % 32)) false clsTbl
      Issues s t.val 0x2B2 x (.tlTFread t x) (flowEnds v t.val n gen (v.ctxWord n (x.toNat % 32))) ∧
      (16 ≤ x.toNat % 32 → Issues s t.val 0x2B3 x (.tlTFwrite t x)
        (flowEnds (u.setCtxWord n (x.toNat % 32) (u.opnd t.val 0x2A3)) t.val n gen 0)) ∧
      (x.toNat % 32 = 12 → Issues s t.val 0x2B3 x (.tlTFwrite t x)
        (flowEnds (u.setCtxWord n 12 (setBits (u.ctxWord n 12) 26 2 (bits (u.opnd t.val 0x2A3) 26 2))) t.val n gen 0)) ∧
      (x.toNat % 32 < 16 → x.toNat % 32 ≠ 12 → Starts s t.val 0x2B3 x (.tlTFwrite t x) uFlow [] stDenied) ∧
      Issues s t.val 0x2B4 x (.tlTFdel t x) (flowEnds (u.flowRemove e) t.val n gen 0)) ∧
    (∀ n gen, u.flowOpnd t.val = (n, gen) → u.flowHandle n gen = none →
      Starts s t.val 0x2B2 x (.tlTFread t x) uFlow [] stLost ∧ Starts s t.val 0x2B3 x (.tlTFwrite t x) uFlow [] stLost ∧
      Starts s t.val 0x2B4 x (.tlTFdel t x) uFlow [] stLost)

/-- Where thread t takes the trigger and ch.id names a channel to which it is the party that the row needs: ch.t.put
and ch.t.putl append the word of ch.data and the operand, the second as the end of a packet, or wait while the
channel is full, for the time of ch.tmo; ch.t.get takes the oldest word, or waits while none is there; ch.t.count
answers the whole words in it; ch.t.watch enters a watch on up to four channels, whose event is set at once if a
watched condition holds, and ch.t.unwatch removes one. On a ring the word stands at RING_BASE + 8 (W mod C) of the
basin's shared SRAM, least significant byte first, W goes on by one modulo 2C, and an end mark takes P to it. -/
def Obligations.ChannelTriggersPutGetCountAndWatch : Prop :=
  ∀ (s : State) (t : Fin 1544) (x : W32),
    let u := s.settleFast t.val
    let word := u.opnd t.val 0x301 * 2 ^ 32 + x.toNat % 2 ^ 32
    let lim := u.opnd t.val 0x302 % 2 ^ 24
    (∀ k, chanKey t.val (u.opnd t.val 0x300) = some k → isParty t.val (u.chProd k) = true →
      ((u.chOpen k).length + 1 < u.chCap k → u.chCap k ≤ u.chFill k → isSpill k = false → Issues s t.val 0x310 x (.chTPut t x) (u.putOp t.val uCh
          { wait := 3, arg := k, arg2 := word, flag := false,
            limit := if lim = 0 then none else some (u.now + 1000 * lim) })) ∧
      ((u.chOpen k).length + 1 < u.chCap k → u.chFill k < u.chCap k → Issues s t.val 0x310 x (.chTPut t x)
        (((u.chAppend k (BitVec.ofNat 64 word) false).startOp t.val uCh [] stOk).chServeAll k))) ∧
    (∀ k, chanKey t.val (u.opnd t.val 0x300) = some k → isParty t.val (u.chProd k) = true →
      (u.chCap k ≤ u.chFill k → isSpill k = false → Issues s t.val 0x311 x (.chTPutl t x) (u.putOp t.val uCh
          { wait := 3, arg := k, arg2 := word, flag := true,
            limit := if lim = 0 then none else some (u.now + 1000 * lim) })) ∧
      (u.chFill k < u.chCap k → Issues s t.val 0x311 x (.chTPutl t x)
        (((u.chAppend k (BitVec.ofNat 64 word) true).startOp t.val uCh [] stOk).chServeAll k))) ∧
    (∀ k, chanKey t.val (u.opnd t.val 0x300) = some k → isParty t.val (u.chCons k) = true →
      (u.chReady k = false → Issues s t.val 0x312 x (.chTGet t x) (u.putOp t.val uCh
        { wait := 2, arg := k, limit := if lim = 0 || 1536 ≤ t.val then none else some (u.now + 1000 * lim) })) ∧
      (∀ st w v, u.chReady k = true →
        u.chTake k (u.ceDesc (t.val - 1536)) ((u.thread t.val).partGet.contains k) = ((st, w), v) →
        Issues s t.val 0x312 x (.chTGet t x) ((v.endGet t.val k st w).chServeAll k))) ∧
    (∀ k, chanKey t.val (u.opnd t.val 0x300) = some k →
      Starts s t.val 0x313 x (.chTCount t x) uCh [(0x303, BitVec.ofNat 32 (u.chWhole k))] stOk) ∧
    (∀ k, chanKey t.val (x.toNat % 1024) = some k → bits x.toNat 12 4 ≠ 0 →
      (isParty t.val (u.chProd k) || isParty t.val (u.chCons k)) = true →
      ((u.thread t.val).watches.filter fun w => w.1 != x.toNat % 1024).length < 4 →
      let v := (u.updThread t.val fun th => { th with watches :=
        ((u.thread t.val).watches.filter fun w => w.1 != x.toNat % 1024) ++ [(x.toNat % 1024, bits x.toNat 12 4)] }).startOp
          t.val uCh [] stOk
      Issues s t.val 0x314 x (.chTWatch t x) (if v.chConds k &&& bits x.toNat 12 4 ≠ 0 then v.watchThread t.val else v)) ∧
    Issues s t.val 0x315 x (.chTUnwatch t x) ((u.updThread t.val fun th =>
      { th with watches := th.watches.filter fun w => w.1 != x.toNat % 1024 }).startOp t.val uCh [] stOk) ∧
    (∀ (v : State) (k : Nat) (w : W64) (e : Bool), isSpill k = false →
      cellRead (v.chPush k w e).mem.shared (v.ringAddr k (v.chan_ k).wp) 8 = leBytes 8 w.toNat ∧
      ((v.chPush k w e).chan_ k).wp = v.ringStep k (v.chan_ k).wp 1 ∧ ((v.chPush k w e).chan_ k).rp = (v.chan_ k).rp ∧
      ((v.chPush k w e).chan_ k).cp = if e then v.ringStep k (v.chan_ k).wp 1 else (v.chan_ k).cp)

/-- Where thread t takes the trigger: evt.t.wait answers the event flags where one of the mask is set, and else
leaves the thread WAITING; evt.t.clr clears the flags of the mask; evt.t.sig sets the SIGNAL flag of the thread of
its engine that bits 2:0 name, on a control engine its own; evt.t.mget takes the oldest message, or is EMPTY.
tm.t.start sets the thread's timer to the time now plus the operand, and for 0 sets the TIMER flag at once;
tm.t.stop clears it; tm.t.now answers device time and tm.t.net the time of an enabled domain, INVALID for another.
-/
def Obligations.EventAndTimerTriggers : Prop :=
  ∀ (s : State) (t : Fin 1544) (x : W32),
    let u := s.settleFast t.val
    let th := u.thread t.val
    let m := x.toNat % 65536
    (th.events &&& wakeMask t.val m ≠ 0 → Starts s t.val 0x3B0 x (.evtTWait t x) uEvt [(0x3A1, BitVec.ofNat 32 th.events)] stOk) ∧
    (th.events &&& wakeMask t.val m = 0 → Issues s t.val 0x3B0 x (.evtTWait t x)
      ((u.putOp t.val uEvt { wait := 4, arg := m }).updThread t.val fun th => { th with state := if th.state = 4 then 4 else 2 })) ∧
    (let v := u.updThread t.val fun th => { th with events := th.events &&& (0xFFFF - m) }
      let w := if t.val < 1536 && t.val % 8 = 0 && bitOf m evDeadlock then
        v.setEngine (engOf t.val) { v.engine (engOf t.val) with stillAt := none } else v
      Issues s t.val 0x3B1 x (.evtTClr t x) (w.startOp t.val uEvt [] stOk)) ∧
    (t.val < 1536 → Issues s t.val 0x3B2 x (.evtTSig t x)
      ((u.setEvent (t.val / 8 * 8 + x.toNat % 8) evSignal).startOp t.val uEvt [] stOk)) ∧
    (1536 ≤ t.val → Issues s t.val 0x3B2 x (.evtTSig t x) ((u.setEvent t.val evSignal).startOp t.val uEvt [] stOk)) ∧
    (th.msgs = [] → Starts s t.val 0x3B3 x (.evtTMget t x) uEvt [] stEmpty) ∧
    (∀ m ms, th.msgs = m :: ms → Issues s t.val 0x3B3 x (.evtTMget t x) ((u.updThread t.val fun th => { th with msgs := ms }).startOp
      t.val uEvt [(0x3A2, m.setWidth 32), (0x3A3, (m >>> 32).setWidth 32)] stOk)) ∧
    (x.toNat ≠ 0 → Issues s t.val 0x3D0 x (.tmTStart t x)
      ((u.updThread t.val fun th => { th with timer := some (u.now + x.toNat) }).startOp t.val uTm [] stOk)) ∧
    (x.toNat = 0 → Issues s t.val 0x3D0 x (.tmTStart t x)
      (((u.updThread t.val fun th => { th with timer := none }).setEvent t.val evTimer).startOp t.val uTm [] stOk)) ∧
    Issues s t.val 0x3D1 x (.tmTStop t x) ((u.updThread t.val fun th => { th with timer := none }).startOp t.val uTm [] stOk) ∧
    Starts s t.val 0x3D2 x (.tmTNow t x) uTm (timePorts u.now) stOk ∧
    (bitOf (u.rd Reg.TIM_CFG_DOM_EN) (x.toNat % 4) = true →
      Starts s t.val 0x3D3 x (.tmTNet t x) uTm (timePorts (u.net (x.toNat % 4))) stOk) ∧
    (bitOf (u.rd Reg.TIM_CFG_DOM_EN) (x.toNat % 4) = false → Starts s t.val 0x3D3 x (.tmTNet t x) uTm [] stInvalid)

/-- Where thread t takes the trigger: cs.t.alloc on an enabled pool other than 0 that its basin may use, with room
in its reference table, answers the handle that the pool gives and enters it in the table, or waits for a refill
where the pool's cache is empty; cs.t.free of a buffer that the table holds and that has a reference removes the
entry and one reference, and waits where the handle comes back while the pool's cache is full and a spill runs;
cs.t.ref of a covered buffer with fewer than 255 references adds both; cs.t.addr answers the address of a covered
buffer in units of 256 bytes, and cs.t.info its count of references. -/
def Obligations.CisternTriggersAllocateAndReferToBuffers : Prop :=
  ∀ (s : State) (t : Fin 1544) (x : W32),
    let u := s.settleFast t.val
    let p := x.toNat % 256
    let q := u.opnd t.val 0x3E0 % 256
    let h := x.toNat % 2 ^ 24
    (∀ l cap o h v, p ≠ 0 → u.refTable t.val = (l, cap, o) → u.poolEn p = true → u.mayAlloc (threadBasin t.val) p = true →
      (l.length < cap ∨ (dropTombstone l).isSome = true) →
      (u.allocCore p (u.basinCharge (threadBasin t.val)) t.val = ((stOk, some h), v) →
        Issues s t.val 0x3F0 x (.csTAlloc t x) ((v.setRefTable t.val ((addEntry l cap p h o).getD l)).startOp t.val uCs
          [(0x3E1, BitVec.ofNat 32 h)] stOk)) ∧
      (u.allocCore p (u.basinCharge (threadBasin t.val)) t.val = ((stOk, none), v) →
        Issues s t.val 0x3F0 x (.csTAlloc t x) (v.putOp t.val uCs { wait := 6, arg := p }))) ∧
    (∀ l cap o, u.refTable t.val = (l, cap, o) → u.poolEn q = true → h < u.poolCount q → hasLive l q h o = true → u.refCount q h ≠ 0 →
      let v := (u.setRefTable t.val (dropEntry l q h o)).dropCount q h
      ((v.pool q).held.contains h = false → Issues s t.val 0x3F1 x (.csTFree t x) (v.startOp t.val uCs [] stOk)) ∧
      ((v.pool q).held.contains h = true → Issues s t.val 0x3F1 x (.csTFree t x)
        (({ v with cis := { v.cis with freers := v.cis.freers ++ [(t.val, q, h)] } }).putOp t.val uCs { wait := 7, arg := q }))) ∧
    (∀ l l2 cap o, u.refTable t.val = (l, cap, o) → u.poolEn q = true → h < u.poolCount q → u.covered t.val q h = true →
      u.bufLost q h = false → u.refCount q h < 255 → addEntry l cap q h o = some l2 →
      Issues s t.val 0x3F2 x (.csTRef t x) (((u.setRefTable t.val l2).addCount q h).startOp t.val uCs [] stOk)) ∧
    (q ≠ 0 → u.poolEn q = true → h < u.poolCount q → u.covered t.val q h = true →
      Starts s t.val 0x3F3 x (.csTAddr t x) uCs
        [(0x3E1, BitVec.ofNat 32 (u.poolBase q / 256 + h * u.poolSize q))] stOk) ∧
    (u.poolEn q = true → h < u.poolCount q → u.covered t.val q h = true →
      Starts s t.val 0x3F4 x (.csTInfo t x) uCs [(0x3E1, BitVec.ofNat 32 (u.refCount q h))] stOk)

/-- Where thread t takes the trigger: lk.t.acq and lk.t.try ask for the lock that bits 12:0 name, with the units and
the time limit of their operands, and complete with the status of the request, or, acq alone, wait in the lock's
queue, and a grant of acq sets the LOCK flag; lk.t.rel gives the lock back and completes with the status of the
release; lk.t.cancel takes the thread out of the queue in which it stands, whose wait ends with LOST, or is EMPTY;
lk.t.query answers the state of a lock to which the thread has the right. -/
def Obligations.LockTriggersAnswerForTheirLock : Prop :=
  ∀ (s : State) (t : Fin 1544) (x : W32),
    let u := s.settleFast t.val
    let l := x.toNat % 8192
    let r := u.reqThread t.val
    let units := unitsOf (u.opnd t.val 0x341)
    let lim := u.opnd t.val 0x340 % 2 ^ 24
    let limit := if lim = 0 || (threadCe t.val).isSome then none else some (u.now + 1000 * lim)
    (∀ v, u.acquire l r units (u.waitPrio t.val) false limit = (none, v) →
      Issues s t.val 0x350 x (.lkTAcq t x) (v.putOp t.val uLk { wait := 1, arg := l, limit := limit })) ∧
    (∀ st v, u.acquire l r units (u.waitPrio t.val) false limit = (some st, v) →
      let w := if st = stOk ∨ st = stAbandoned then v.setEvent t.val evLock else v
      Issues s t.val 0x350 x (.lkTAcq t x) (w.startOp t.val uLk (if st = stOk then w.lockResult l else []) st)) ∧
    (∀ v, u.acquire l r units (u.waitPrio t.val) true limit = (none, v) →
      Issues s t.val 0x351 x (.lkTTry t x) (v.putOp t.val uLk { wait := 1, arg := l, limit := limit })) ∧
    (∀ st v, u.acquire l r units (u.waitPrio t.val) true limit = (some st, v) →
      let w := v
      Issues s t.val 0x351 x (.lkTTry t x) (w.startOp t.val uLk (if st = stOk then w.lockResult l else []) st)) ∧
    (∀ st v, u.release l r units = (st, v) →
      Issues s t.val 0x352 x (.lkTRel t x) (v.startOp t.val uLk (if st = stOk then v.lockResult l else []) st)) ∧
    (u.queuedOn r = none → Starts s t.val 0x353 x (.lkTCancel t x) uLk [] stEmpty) ∧
    (∀ m, u.queuedOn r = some m → Issues s t.val 0x353 x (.lkTCancel t x)
      (((u.leaveQueue m r).endLockWait m r stLost).startOp t.val uLk [] stOk)) ∧
    (u.lockRight l r = true → Starts s t.val 0x354 x (.lkTQuery t x) uLk [(0x342, BitVec.ofNat 32 (u.lockValue l))] stOk)

/-- Where thread t takes the trigger: wc.t.next fetches the droplet handed longest ago, or is EMPTY; with the handle
of a droplet that the thread holds and has not completed, wc.t.send completes it to a valid egress, wc.t.dry with
the program's reason, and wc.t.recirc, with fewer than three passes and room in the recirculation channel, gives it
back there with its pass count raised. sq.t.orig with the right, fewer than four droplets held, 1 to 256 bytes and
no body buffer, or more and a buffer of the thread that holds the rest, makes a droplet of zeros in the head whose
handle it answers, the buffer's reference going to the droplet; sq.t.depth answers the depth of the queue that an
egress code names. -/
def Obligations.CompletionAndOriginationTriggers : Prop :=
  ∀ (s : State) (t : Fin 1544) (x : W32),
    let u := s.settleFast t.val
    let me := u.holderOf t.val
    let dom := x.toNat % 65536
    let len := u.opnd t.val 0x440 % 2 ^ 14
    let body := u.opnd t.val 0x441
    let pool := body / 2 ^ 24 % 256
    let h := body % 2 ^ 24
    ((firstHanded u (u.holderOf t.val)) = none → Issues s t.val 0x430 x (.wcTNext t x) (u.wcEnd t.val [] stEmpty)) ∧
    (∀ i sl, firstHanded u (u.holderOf t.val) = some (i, sl) → Issues s t.val 0x430 x (.wcTNext t x)
      ((u.setSlot i { sl with fetched := true }).wcEnd t.val [(0x422, BitVec.ofNat 32 (u.handleOf i))] stOk)) ∧
    (∀ i sl, u.completionOf t.val x.toNat = (stOk, i, sl) → u.egressOk (u.opnd t.val 0x420 % 65536) = true →
      Issues s t.val 0x431 x (.wcTSend t x) ((u.complete i sl { sl.d with
        egress := u.opnd t.val 0x420 % 65536, dryReason := 0 }).wcEnd t.val [] stOk)) ∧
    (∀ i sl, u.completionOf t.val x.toNat = (stOk, i, sl) → Issues s t.val 0x432 x (.wcTDry t x)
      ((u.complete i sl { sl.d with dryReason := programReason (u.opnd t.val 0x421 % 256) }).wcEnd t.val [] stOk)) ∧
    (∀ i sl, u.completionOf t.val x.toNat = (stOk, i, sl) → sl.d.pass < 3 →
      u.chFill (spillKey (256 + sl.d.oclass)) < u.chCap (spillKey (256 + sl.d.oclass)) →
      let v := u.setSlot i
        { sl with d := { sl.d with pass := sl.d.pass + 1, recirc := true }, st := 3, holder := none, fetched := false,
                  originated := false, sentBy := sl.holder }
      Issues s t.val 0x433 x (.wcTRecirc t x) ((v.chAppend (spillKey (256 + sl.d.oclass)) (BitVec.ofNat 64 (v.handleOf i))
        true).wcEnd t.val [] stOk)) ∧
    (∀ n, u.queueDepth (x.toNat % 65536) = some n →
      Starts s t.val 0x451 x (.sqTDepth t x) uSq [(0x442, BitVec.ofNat 32 n)] stOk) ∧
    (∀ l cap o head v1, u.heldCount me < 4 → u.mayOriginate (threadBasin t.val) dom = true →
      u.refTable t.val = (l, cap, o) → 0 < len →
      (len ≤ 256 ∧ body = 0) ∨ (256 < len ∧ body ≠ 0 ∧ hasLive l pool h o = true ∧ len - 256 ≤ u.poolSize pool * 256) →
      u.allocHead (u.basinCharge (threadBasin t.val)) = ((stOk, head), v1) → u.refuses dom (u.classOfDomain dom) = none →
      let v := if body = 0 then v1 else v1.setRefTable t.val (dropEntry l pool h o)
      let ver := match v.ingressSlot with
        | some n => (v.version n).number
        | none => 0
      let d : Droplet := { oclass := u.classOfDomain dom, domain := dom, version := ver, arrival := v.net 0, inPort := inPortCp,
                           len := len, head := head, body := if body = 0 then 0 else h,
                           bodyPool := if body = 0 then 0 else pool, host := true,
                           thread := if t.val < 1536 then t.val else 0 }
      let w := v.setHead head (List.replicate (min len 256) 0)
      let sl : Slot :=
        { d := d, st := 2, holder := some me, handed := w.weir.handCtr, fetched := true, originated := true,
          flk := List.replicate 64 0, prec := { layers := List.replicate 16 0, key := List.replicate 64 0 } }
      let r := (w.takeVersion ver).newSlot sl
      Issues s t.val 0x450 x (.sqTOrig t x) (r.2.startOp t.val uSq [(0x442, BitVec.ofNat 32 (r.2.handleOf r.1))] stOk))

/-- Where thread t of a packet engine takes the trigger: helper.t.claim takes a helper of its basin that no thread
claims and no orphaned operation holds, and helper.t.rel gives back one that it claims and closes its stream. While
the helper is UP and works for the thread, helper.t.wr writes the word that its operand selects of the sixteen
128-bit registers, helper.t.rd reads one, and helper.t.feed, with a stream open, feeds bytes of a droplet that the
thread holds. An operation that runs in the helper writes its registers and opens or closes its stream when it
completes (R425). A trigger of a thread whose registers are not live first writes the live ones to the save slot of
the thread that owns them, 16 registers of 16 bytes, least significant byte first, and reads its own from its slot
(R409, R410). -/
def Obligations.HelperPortTriggersClaimReleaseAndMoveData : Prop :=
  ∀ (s : State) (t : Fin 1544) (h : Fin 2) (x : W32),
    let u := s.settleFast t.val
    let b := threadBasin t.val
    (t.val < 1536 → (u.helper b h.val).orphan = none → (u.helper b h.val).claim = none →
      Issues s t.val (0x470 + 0x40 * h.val) x (.helperTClaim t h x)
        ((u.setClaim b h.val (some (t.val % 128))).startOp t.val (uHlp h.val) [] stOk)) ∧
    (t.val < 1536 → ((u.helper b h.val).orphan.map fun o => o.1) ≠ some (t.val % 128) →
      (u.helper b h.val).claim = some (t.val % 128) →
      let v := u.setClaim b h.val none
      Issues s t.val (0x470 + 0x40 * h.val + 1) x (.helperTRel t h x)
        ((v.setHelper b h.val { v.helper b h.val with open_ := none }).startOp t.val (uHlp h.val) [] stOk)) ∧
    (HelperWorks u t.val h.val →
      let v := (u.hlpSwitch b h.val (t.val % 128)).2
      let c := v.helper b h.val
      let sel := u.opnd t.val (hlpPort h.val 0) % 64
      Issues s t.val (0x470 + 0x40 * h.val + 2) x (.helperTWr t h x)
        (v.hlpRun t.val h.val b 3 (setHreg c.regs (sel / 4) (setBits (hreg c.regs (sel / 4)) (32 * (sel % 4)) 32 x.toNat))
          c.open_ stOk)) ∧
    (HelperWorks u t.val h.val →
      let v := (u.hlpSwitch b h.val (t.val % 128)).2
      Issues s t.val (0x470 + 0x40 * h.val + 3) x (.helperTRd t h x)
        (v.startOp t.val (uHlp h.val) [(hlpPort h.val 2, BitVec.ofNat 32
          (bits (hreg (v.helper b h.val).regs (x.toNat % 64 / 4)) (32 * (x.toNat % 4)) 32))] stOk)) ∧
    (∀ i sl w, HelperWorks u t.val h.val →
      let v := (u.hlpSwitch b h.val (t.val % 128)).2
      v.heldBy t.val (u.opnd t.val (hlpPort h.val 1)) = (stOk, i, sl) → (v.helper b h.val).open_ = some w →
      Issues s t.val (0x470 + 0x40 * h.val + 5) x (.helperTFeed t h x)
        ((v.feedDroplet t.val h.val b x.toNat (v.helper b h.val) sl.d w).hlpMark t.val h.val (some (u.opnd t.val (hlpPort h.val 1))))) ∧
    (∀ (v : State) (o : UnitOp) (regs : List Nat) (opened : Option W32), SMap.find (v.thread t.val).ops (uHlp h.val) = some o →
      o.arg2 ≠ 0 → (v.helper b h.val).next = some (regs, opened) →
      ((v.hlpDone t.val h.val).helper b h.val).regs = fullRegs regs ∧ ((v.hlpDone t.val h.val).helper b h.val).open_ = opened) ∧
    (∀ (v : State) (k : Nat), (v.helper b h.val).live ≠ some k →
      let w := v.saveLive b h.val
      (w.slotLost b h.val k = false → (v.hlpSwitch b h.val k).1 = false ∧
        ((v.hlpSwitch b h.val k).2.helper b h.val).live = some k ∧
        ((v.hlpSwitch b h.val k).2.helper b h.val).regs = w.slotRegs b h.val k ∧
        (v.hlpSwitch b h.val k).2.mem.shared = w.mem.shared) ∧
      (∀ j, (v.helper b h.val).live = some j → w.mem.shared = cellWrite v.mem.shared (v.slotAddr b h.val j)
        (((fullRegs (v.helper b h.val).regs).map fun r => leBytes 16 r).flatten)))

/-- Where thread t takes the trigger with a well-formed operation word on helper 0, which works for it, each of the
ten operations answers the next state in which the operation will leave the registers as Table 10.2 says: GCM_INIT
the counter block, the cleared sums and the hash key, GCM_TAG the tag, CMAC_INIT the cleared state and the subkey,
CMAC_TAG the tag, AES_BLK the block, EQ the verdict; GCM_AAD, GCM_ENC, GCM_DEC and CMAC_DATA leave the registers and
open a stream. -/
def Obligations.CipherHelperOperationsSetTheirRegisters : Prop :=
  ∀ (s : State) (t : Fin 1544) (x : W32),
    HelperOp s t 0 0x01 x (.gcmInit t x) (let n := (rowWord 0x01 x).toNat; fun r => setHreg (setHreg (setHreg (setHreg r (opB n) (hreg r (opB n) / 2 ^ 32 * 2 ^ 32 + 1)) (opB n + 1) 0) (opB n + 2) 0)
      (opB n + 3) (aesOf r n 0)) false ∧
    HelperOp s t 0 0x02 x (.gcmAad t x) id true ∧
    HelperOp s t 0 0x03 x (.gcmEnc t x) id true ∧
    HelperOp s t 0 0x04 x (.gcmDec t x) id true ∧
    HelperOp s t 0 0x05 x (.gcmTag t x) (let n := (rowWord 0x05 x).toNat; fun r => toD n (gcmTag r n) r) false ∧
    HelperOp s t 0 0x08 x (.cmacInit t x) (let n := (rowWord 0x08 x).toNat; fun r => setHreg (setHreg (setHreg (setHreg r (opB n) 0) (opB n + 1) (cmacDouble (aesOf r n 0))) (opB n + 2) 0)
      (opB n + 3) 0) false ∧
    HelperOp s t 0 0x09 x (.cmacData t x) id true ∧
    HelperOp s t 0 0x0A x (.cmacTag t x) (let n := (rowWord 0x0A x).toNat; fun r => toD n (cmacTag r n) r) false ∧
    HelperOp s t 0 0x0C x (.aesBlk t x) (let n := (rowWord 0x0C x).toNat; fun r => toD n (aesOf r n (hreg r (opB n))) r) false ∧
    HelperOp s t 0 0x0F x (.eq t x) (let n := (rowWord 0x0F x).toNat; fun r => toD n (flagBit (regBytes r (opA n) (opCnt n) == regBytes r (opB n) (opCnt n))) r) false

/-- Where thread t takes the trigger with a well-formed operation word on helper 1, which works for it, each of the
seven operations answers the next state in which the operation will leave the registers as Table 10.2 says: CRC_OPEN
and CSUM_OPEN the initial value where bit INIT is set and a stream open, CRC_REG and CSUM_REG the value after the
bytes of the registers, CRC_END and CSUM_END the final value, HASH the hash. -/
def Obligations.CheckHelperOperationsSetTheirRegisters : Prop :=
  ∀ (s : State) (t : Fin 1544) (x : W32),
    HelperOp s t 1 0x10 x (.crcOpen t x) (let n := (rowWord 0x10 x).toNat; fun r => crcAbsorb r n (opInit n) []) true ∧
    HelperOp s t 1 0x11 x (.crcReg t x) (let n := (rowWord 0x11 x).toNat; fun r => crcAbsorb r n (opInit n) (regBytes r (opB n) (opCnt n))) false ∧
    HelperOp s t 1 0x12 x (.crcEnd t x) (let n := (rowWord 0x12 x).toNat; crcEnds n) false ∧
    HelperOp s t 1 0x14 x (.csumOpen t x) (let n := (rowWord 0x14 x).toNat; fun r => csumAbsorb r n (opInit n) []) true ∧
    HelperOp s t 1 0x15 x (.csumReg t x) (let n := (rowWord 0x15 x).toNat; fun r => csumAbsorb r n (opInit n) (regBytes r (opB n) (opCnt n))) false ∧
    HelperOp s t 1 0x16 x (.csumEnd t x) (let n := (rowWord 0x16 x).toNat; fun r => setHreg r (opA n) (csumFold (if opInit n then 0 else hreg r (opA n) % 2 ^ 32) * 2 ^ 16 +
      (2 ^ 16 - 1 - csumFold (if opInit n then 0 else hreg r (opA n) % 2 ^ 32)))) false ∧
    HelperOp s t 1 0x18 x (.hash t x) (let n := (rowWord 0x18 x).toNat; fun r => toD n (setBits (hreg r (opD n)) 0 32
      (mixHash (BitVec.ofNat 32 (hreg r (opA n))) (hlpHashWords r n)).toNat) r) false

/-- Where thread t takes the trigger and its operand is one the sequencer takes: pc.t.jump continues at its target;
pc.t.br at the bundle its displacement names; pc.t.call saves the following bundle in lnk in link mode, on the
return stack in stack mode, and continues at its target; pc.t.ret continues at lnk, or at the newest return address,
which leaves the stack; pc.t.halt parks a thread of a packet engine that holds no droplet, other than thread 0, and
a control engine goes on; lp.t.begin opens a loop level, or passes the loop where the count is 0; lp.t.brk closes
the innermost level and continues behind it. -/
def Obligations.SequencingTriggersMoveTheProgramCounter : Prop :=
  ∀ (s : State) (t : Fin 1544) (x : W32),
    let u := s.settleFast t.val
    let th := u.thread t.val
    let ret := bundleAfter t.val th.pc
    (targetFault t.val x.toNat = 0 → Issues s t.val 0x040 x (.pcTJump t x) (u.jumpTo t.val x.toNat)) ∧
    (t.val < 1536 → 0 ≤ (th.pc : Int) + signed 32 x.toNat → (th.pc : Int) + signed 32 x.toNat ≤ 32767 →
      Issues s t.val 0x041 x (.pcTBr t x) (u.jumpTo t.val ((th.pc : Int) + signed 32 x.toNat).toNat)) ∧
    (1536 ≤ t.val → Issues s t.val 0x041 x (.pcTBr t x)
      (u.jumpTo t.val (unsigned 32 ((th.pc : Int) + 16 * signed 32 x.toNat)))) ∧
    (targetFault t.val x.toNat = 0 → u.linkMode t.val = true → Issues s t.val 0x042 x (.pcTCall t x)
      ((u.updThread t.val fun th => th.setPort 0x049 (BitVec.ofNat 32 ret)).jumpTo t.val x.toNat)) ∧
    (targetFault t.val x.toNat = 0 → u.linkMode t.val = false → th.rstack.length < 8 → Issues s t.val 0x042 x (.pcTCall t x)
      ((u.updThread t.val fun th => { th with rstack := ret :: th.rstack }).jumpTo t.val x.toNat)) ∧
    (u.linkMode t.val = true → targetFault t.val (th.port 0x049).toNat = 0 → Issues s t.val 0x043 x (.pcTRet t x)
      (u.jumpTo t.val (th.port 0x049).toNat)) ∧
    (∀ a rest, u.linkMode t.val = false → th.rstack = a :: rest → Issues s t.val 0x043 x (.pcTRet t x)
      ((u.updThread t.val fun th => { th with rstack := rest }).jumpTo t.val a)) ∧
    (t.val < 1536 → t.val % 8 ≠ 0 → u.heldCount t.val = 0 → Issues s t.val 0x044 x (.pcTHalt t x) (u.park t.val)) ∧
    (1536 ≤ t.val → Issues s t.val 0x044 x (.pcTHalt t x) (goesOn u t.val ret)) ∧
    ((t.val < 1536 ∨ x.toNat % 16 = 0) → u.loopRefused t.val x.toNat = false →
      Issues s t.val 0x061 x (.lpTBegin t x) (if u.opnd t.val 0x060 = 0 then goesOn u t.val (bundleAfter t.val x.toNat)
        else u.updThread t.val fun th => { th with
          pc := ret, loops := { start := ret, end_ := x.toNat, count := u.opnd t.val 0x060 } :: th.loops })) ∧
    (∀ l rest, th.loops = l :: rest → Issues s t.val 0x062 x (.lpTBrk t x)
      (u.updThread t.val fun th => { th with pc := bundleAfter t.val l.end_, loops := rest }))

/-- Where thread t takes the trigger, with g the thread of its own engine that sv.thr names: sv.t.info answers the
cause, the state and the faulting bundle of g; sv.t.getreg and sv.t.setreg read and write an open register of g
while g is stopped; sv.t.held answers the handle of a droplet g holds; sv.t.resume lets g, FAULTED, go on at a
bundle; sv.t.park parks g; sv.t.ack acknowledges the fault of g; sv.t.reset begins the reset of the engine.
dbg.t.brk halts thread t where debug is open, and dbg.t.mark puts a MARK entry into the decision log of its droplet.
-/
def Obligations.SupervisorAndDebugTriggersActOnTheirTarget : Prop :=
  ∀ (s : State) (t : Fin 1544) (x : W32),
    let u := s.settleFast t.val
    let g := u.svTarget t.val
    let th := u.thread g
    Starts s t.val 0x4F0 x (.svTInfo t x) uSv
      [(0x4E2, BitVec.ofNat 32 (th.cause % 256 + u.thrState g * 256 + th.faultPc % 2 ^ 15 * 65536))] stOk ∧
    (openReg x.toNat = true → u.svStopped g = true →
      Starts s t.val 0x4F1 x (.svTGetreg t x) uSv [(0x4E2, th.port x.toNat)] stOk) ∧
    (openReg x.toNat = true → u.svStopped g = true → Issues s t.val 0x4F2 x (.svTSetreg t x)
      ((u.updThread g fun th => th.setReg x.toNat ((u.thread t.val).port 0x4E1)).startOp t.val uSv [] stOk)) ∧
    (∀ i sl, (u.heldSlots g)[x.toNat % 4]? = some (i, sl) →
      Starts s t.val 0x4F3 x (.svTHeld t x) uSv [(0x4E2, BitVec.ofNat 32 (u.handleOf i))] stOk) ∧
    (th.state = 3 → Issues s t.val 0x4F4 x (.svTResume t x)
      ((u.updThread g fun th => { th with state := 0, pc := x.toNat % 2 ^ 15, acked := true }).startOp t.val uSv [] stOk)) ∧
    (g % 8 ≠ 0 → th.state ≠ 5 → Issues s t.val 0x4F5 x (.svTPark t x) ((u.park g).startOp t.val uSv [] stOk)) ∧
    (g % 8 ≠ 0 → th.acked = false → Issues s t.val 0x4F6 x (.svTAck t x)
      ((u.updThread g fun th => { th with acked := true }).startOp t.val uSv [] stOk)) ∧
    Issues s t.val 0x4F7 x (.svTReset t x) ((u.startOp t.val uSv [] stOk).engineHold (engOf t.val)) ∧
    (t.val < 1536 → u.debugOpen 0 = true → Issues s t.val 0x510 x (.dbgTBrk t x) ((u.startOp t.val uDbg [] stOk).haltThread t.val)) ∧
    (t.val < 1536 → (u.recording && u.holdsRecorded t.val && bitOf x.toNat 31) = false →
      Issues s t.val 0x511 x (.dbgTMark t x) ((u.logDecision t.val 8 0 0 x.toNat).startOp t.val uDbg [] stOk))

/-- Where the thread of control engine c takes the trigger: cx.t.eret continues at its target in user mode;
cx.t.tlbinv and cx.t.tlbflush drop one page's or all translations; pmp.t.wait takes the flags of its mask that are
set, or else blocks the descriptor on them; pmp.t.post posts flags; pmp.t.yield gives the engine up; pmp.t.dwr and
pmp.t.drd write and read a descriptor word; pmp.t.start and pmp.t.del start and free a descriptor; pmp.t.send puts a
message into a thread's inbox; lkp.t.force and lkp.t.setcount act on a lock; edg.t.tx queues a frame on a port,
giving up the reference; edg.t.room and edg.t.ts answer the free places and the oldest time stamp. -/
def Obligations.ControlEngineTriggersActForTheirThread : Prop :=
  ∀ (s : State) (c : Fin 8) (x : W32),
    let t := 1536 + c.val
    let u := s.settleFast t
    let d := (u.ce c.val).desc
    let got := (u.desc d).flags &&& (x.toNat % 65536)
    (x.toNat % 16 = 0 → Issues s t 0x601 x (.cxTEret c x)
      (u.updThread t fun th => { th with pc := x.toNat, user := true, nest := false })) ∧
    Issues s t 0x608 x (.cxTTlbinv c x) (u.setCe c.val { u.ce c.val with
      tlb := (u.ce c.val).tlb.filter fun e => !(e.2.vpn == x.toNat / 4096 && e.2.asid == (u.thread t).asid.toNat) }) ∧
    Issues s t 0x609 x (.cxTTlbflush c x) (u.setCe c.val { u.ce c.val with tlb := [] }) ∧
    (x.toNat % 65536 ≠ 0 → got ≠ 0 → Issues s t 0x630 x (.pmpTWait c x)
      ((u.setDesc d { u.desc d with flags := (u.desc d).flags - got }).startOp t uPmp [(0x626, BitVec.ofNat 32 got)] stOk)) ∧
    (x.toNat % 65536 ≠ 0 → got = 0 → Issues s t 0x630 x (.pmpTWait c x)
      ((u.putOp t uPmp { wait := 7, arg := x.toNat % 65536 }).blockCe c.val 1 (x.toNat % 65536))) ∧
    (isDesc x.toNat = true → Issues s t 0x631 x (.pmpTPost c x)
      ((u.post x.toNat (u.opnd t 0x623 % 65536)).startOp t uPmp [] stOk)) ∧
    Issues s t 0x632 x (.pmpTYield c x) ((u.startOp t uPmp [] stOk).yieldCe c.val) ∧
    (∀ v, u.descWrite (u.opnd t 0x620 % 4096) (x.toNat % 4) (u.opnd t 0x621) = some v →
      Issues s t 0x633 x (.pmpTDwr c x) (v.startOp t uPmp [] stOk)) ∧
    Starts s t 0x634 x (.pmpTDrd c x) uPmp
      [(0x626, BitVec.ofNat 32 (u.descWord (u.opnd t 0x620 % 4096) (x.toNat % 4)))] stOk ∧
    (isDesc x.toNat = true → (u.desc x.toNat).state = 0 → Issues s t 0x635 x (.pmpTStart c x)
      ((u.startDesc x.toNat).startOp t uPmp [] stOk)) ∧
    (isDesc x.toNat = true → x.toNat ≠ (u.ce c.val).desc → (u.desc x.toNat).state ≠ 2 →
      Issues s t 0x636 x (.pmpTDel c x) ((u.freeDesc x.toNat).startOp t uPmp [] stOk)) ∧
    (isDesc x.toNat = true → x.toNat = (u.ce c.val).desc → Issues s t 0x636 x (.pmpTDel c x)
      ((((u.setThread t {}).setCe c.val { u.ce c.val with state := 0 }).freeDesc x.toNat).select c.val)) ∧
    (let n := x.toNat % 2048
      let m : W64 := BitVec.ofNat 64 (u.opnd t 0x624 + u.opnd t 0x625 * 2 ^ 32)
      n ≤ 1535 → u.thrMsg n = true → (u.thread n).msgs.length < 4 → Issues s t 0x637 x (.pmpTSend c x)
        ((((u.updThread n fun th => { th with msgs := th.msgs ++ [m] }).setEvent n evMsg).stillCheck (engOf n)).startOp t
          uPmp [] stOk)) ∧
    (x.toNat < 8192 → Issues s t 0x668 x (.lkpTForce c x)
      ((u.forceLock x.toNat).2.startOp t uLkp [] (u.forceLock x.toNat).1)) ∧
    (x.toNat < 8192 → Issues s t 0x669 x (.lkpTSetcount c x)
      ((u.setCount x.toNat (u.opnd t 0x660)).2.startOp t uLkp [] (u.setCount x.toNat (u.opnd t 0x660)).1)) ∧
    (let b := u.opnd t 0x640
      let pool := b / 2 ^ 24 % 256
      let n := u.opnd t 0x641 % 2 ^ 14
      let port := x.toNat % 256
      let bytes := u.bufBytes pool (b % 2 ^ 24) n
      hasLive (u.refTable t).1 pool (b % 2 ^ 24) (u.refTable t).2.2 = true → 32 ≤ port → port < 48 →
      n ≤ u.poolSize pool * 256 → 60 ≤ n → n ≤ u.maxFrame port → u.edg.phy.contains port = true → u.txRoom port ≠ 0 →
      let v := u.setRefTable t (dropEntry (u.refTable t).1 pool (b % 2 ^ 24) (u.refTable t).2.2)
      Issues s t 0x650 x (.edgTTx c x) ((v.setTxQueue port (v.txQueue port ++ [
        { pool := pool, handle := b % 2 ^ 24, len := n, id := beNat (bytes.take 4) % 2 ^ 29, bytes := bytes }])).startOp t
          uEdg [] stOk)) ∧
    (32 ≤ x.toNat % 256 → x.toNat % 256 < 64 →
      Starts s t 0x651 x (.edgTRoom c x) uEdg [(0x642, BitVec.ofNat 32 (u.txRoom (x.toNat % 256)))] stOk) ∧
    (∀ v vs, u.edg.stamps = v :: vs → Issues s t 0x652 x (.edgTTs c x)
      (({ u with edg := { u.edg with stamps := vs } }).startOp t uEdg
        [(0x642, BitVec.ofNat 32 v), (0x643, BitVec.ofNat 32 (v / 2 ^ 32))] stOk))

/-- Power-on reset keeps the Wellstore, the outside and nothing else and asserts CORE_EN; RAILS_OK rising with
CORE_EN high is recorded, 50 ms without it drives CORE_EN low, and CORE_EN is tried again; RAILS_OK falling, a rail
out of its range and RESET_N low reset the device; a brownout of the always-on supplies holds every domain in reset;
a release samples the straps, counts the boot and lets the block run stage 1; the verdict on the images starts the
fallback bridge where no slot is valid, else activates the image after the self-tests. -/
def Obligations.SuppliesPinsAndBootStartAndEndTheReset : Prop :=
  ∀ (s : State) (now : Nat) (monitor : Fin 16) (q2 q3 : Fin 4) (bist : List (Nat × BitVec 17 × Bool × BitVec 2))
      (slices : List (Fin 36)) (repairs : List (Nat × BitVec 16 × W32 × W32))
      (scans : List (Nat × List (BitVec 64))),
    let u := s.upTo now
    let v : State := { u with boot := { u.boot with resetLow := false } }
    Runs s (.powerOnReset now) (((({ State.reset with
      pending := s.pending, wall := max s.wall now, fth := s.fth.wellstore.applyPending, grade := s.grade
      mem := { State.reset.mem with pcSpares := s.mem.pcSpares, spareRows := s.mem.spareRows }
      hst := { State.reset.hst with mem := s.hst.mem }, out := s.out, fresh := s.fresh
      boot := { State.reset.boot with
        coreEn := true, coreAt := max s.wall now + 1000000, resetAt := max s.wall now } } : State).resetStatus 0 false).fcoAssert).emit
          (.pin 9 true)) ∧
    (u.boot.coreEn = true → u.boot.railsOk = false →
      Runs s (.railsOkRise now) { u with boot := { u.boot with railsOk := true, railsAt := u.wall } }) ∧
    (u.boot.coreEn = true → u.boot.railsOk = false → u.boot.coreAt + 50000000 ≤ u.wall → Runs s (.railsOkTimeout now)
      ({ u with boot := { u.boot with coreEn := false, retryAt := some (u.wall + 1000000000) } }.emit (.pin 9 false))) ∧
    (∀ t, u.boot.retryAt = some t → t ≤ u.wall → Runs s (.coreEnRetry now)
      ({ u with boot := { u.boot with coreEn := true, coreAt := u.wall, retryAt := none } }.emit (.pin 9 true))) ∧
    (u.boot.coreEn = true → u.boot.railsOk = true → Runs s (.railsOkFall now)
      ({ u with boot := { u.boot with railsOk := false } }.deviceReset 1 0 u.inflight)) ∧
    (u.boot.brownout = false → u.boot.voltBad.contains monitor.val = false → Runs s (.railVoltageOutOfRange now monitor)
      ({ u with boot := { u.boot with voltBad := monitor.val :: u.boot.voltBad } }.deviceReset 1
        (flagBit u.boot.railsOk + (monitor.val + 1) * 256) u.inflight)) ∧
    Runs s (.aonBrownout now) { ({ u with boot := { u.boot with
      held := true, stage := 0, brownout := true, coreEn := false, railsOk := false } }).fabricReset with
        regs := [], edg := State.reset.edg, fth := u.fth.wellstore } ∧
    (u.boot.brownout = false → Runs s (.resetNAssert now)
      ({ u with boot := { u.boot with resetLow := true } }.deviceReset 1 (flagBit u.boot.railsOk) u.inflight)) ∧
    (v.canRelease = true → u.fth.romOk = true → u.fth.lc ≠ 4 →
      ∃ t, Runs s (.resetRelease now q2 q3) t ∧ t.boot = { v.boot with held := false, stage := 1 } ∧ t.time = {} ∧
        t.fth = { u.fth with bootCount := min (u.fth.bootCount + 1) 0xFFFFFFFF }) ∧
    (∀ v, u.boot.held = false → u.boot.stage = 1 → u.showKeys.showDeviceId.applyMap.findSlot = (none, v) →
      v.boot.fullTest = false → Runs s (.imageVerdict now ⟨bist, scans⟩ slices repairs) v.startBridge) ∧
    (∀ n v w, u.boot.held = false → u.boot.stage = 1 → u.showKeys.showDeviceId.applyMap.findSlot = (some n, v) →
      ({ v with img := v.slotImage n } : State).selfTest bist slices repairs scans = (false, w) →
      Runs s (.imageVerdict now ⟨bist, scans⟩ slices repairs) (w.activate n))

/-- XNG_ISL_RESET of the supervisor partition acts on its island; an island that leaves reset opens its crossings
with empty counts and raises ISL_RESET_DONE; a clock that stops clears CLK_OK and raises CLK_STOP, one that returns
sets it and raises CLK_BACK; a pulse at a counted crossing opens a handshake that carries 1, or adds 1 to the
pending count, which stops at 65,535 with SAT; a coalesced crossing holds one event; the acknowledge lets the next
handshake of a counted crossing carry the whole pending count. -/
def Obligations.ClocksAndCrossingsOfTheIslands : Prop :=
  ∀ (s : State) (p : Fin 4) (isl : BitVec 4) (i : Fin 13) (j : Fin 11) (ch : Fin 64),
    let v := s.woken p.val
    let c := s.crossing i.val ch.val
    (v.isSup p.val = true → Served s p.val 16 (.xngIslReset p isl) (v.islCmd isl.toNat)) ∧
    (s.boot.held = false → s.islandInReset i.val = true → s.islandSelected i.val = true →
      let w := s.setInReset i.val false
      Runs s (.islandLeaveReset i) ((((List.range 64).filter fun c => (crossingKind i.val c).isSome).foldl
        (fun s c => s.setCrossing i.val c { s.crossing i.val c with pending := 0, open_ := false }) w).eventSup
          Reg.XNG_INT_STATUS_ISL_RESET_DONE Reg.XNG_INT_EN_ISL_RESET_DONE)) ∧
    (s.clockOk j.val = true → Runs s (.clockStop j)
      ((s.wr Reg.XNG_STATUS_CLK_OK (setBits (s.rd Reg.XNG_STATUS_CLK_OK) j.val 1 0)).eventSup
        Reg.XNG_INT_STATUS_CLK_STOP Reg.XNG_INT_EN_CLK_STOP)) ∧
    (s.clockOk j.val = false → (j.val < 4 ∨ 8 ≤ j.val) → Runs s (.clockReturn j)
      ((s.wr Reg.XNG_STATUS_CLK_OK (setBits (s.rd Reg.XNG_STATUS_CLK_OK) j.val 1 1)).eventSup
        Reg.XNG_INT_STATUS_CLK_BACK Reg.XNG_INT_EN_CLK_BACK)) ∧
    (crossingKind i.val ch.val = some 0 → s.sideInReset i.val = false → c.open_ = false → Runs s (.countedCrossingPulse i ch)
      (s.setCrossing i.val ch.val { c with open_ := true, received := c.received + 1 })) ∧
    (crossingKind i.val ch.val = some 0 → s.sideInReset i.val = false → c.open_ = true → c.pending < 65535 →
      Runs s (.countedCrossingPulse i ch) (s.setCrossing i.val ch.val { c with pending := c.pending + 1 })) ∧
    (crossingKind i.val ch.val = some 0 → s.sideInReset i.val = false → c.open_ = true → 65535 ≤ c.pending →
      Runs s (.countedCrossingPulse i ch) ((s.setCrossing i.val ch.val { c with sat := true }).eventSup
        Reg.XNG_INT_STATUS_SAT Reg.XNG_INT_EN_SAT)) ∧
    (crossingKind i.val ch.val = some 1 → s.sideInReset i.val = false → Runs s (.coalescedCrossingPulse i ch)
      (s.setCrossing i.val ch.val { c with pending := 1, open_ := true })) ∧
    (crossingKind i.val ch.val = some 0 → c.open_ = true → Runs s (.crossingAcknowledge i ch) (s.setCrossing i.val ch.val
      (if c.pending = 0 then { c with open_ := false } else { c with pending := 0, received := c.received + c.pending }))) ∧
    (crossingKind i.val ch.val = some 1 → c.open_ = true → Runs s (.crossingAcknowledge i ch)
      (s.setCrossing i.val ch.val { c with pending := 0, open_ := false, received := c.received + 1 }))

/-- A link that comes up trains the lanes of its port and sets its speed; under the fallback bridge only at a speed
that the port tries, where the port gets its mode and FEC and the spanning tree settles anew, under an image the
Sluice sees the link up unless its MACsec numbers are used up. A link that goes down dries the copies of its port,
or begins LINK_HOLD for a plug port. A fallback port without a partner tries parallel detection; three verify
attempts without an answer fail the verification; a new receive association sets the next packet number, a new
transmit one lets frames be sent. Lane training is retried three times, then the spare slice takes over; a low
margin moves a lane to the free spare; the commands retrain a lane or move it. -/
def Obligations.PortsLanesAndSlicesComeUpAndGoDown : Prop :=
  ∀ (s : State) (now : Nat) (p : Fin 32) (g : Fin 16) (speed : BitVec 18) (fec : Fin 2) (cause : Fin 6) (xpn rx : Bool) (pn : BitVec 64)
      (margin : BitVec 8) (part : Fin 4),
    let u := s.upTo now
    let w := (u.setPhy p.val true).setLanes p.val 2
    let x := if w.bridgeRuns then w.setAll [(Reg.EDG_PORT_MODE, p.val, 0, (bridgeMode speed.toNat fec.val).1),
      (Reg.EDG_PORT_FEC, p.val, 0, (bridgeMode speed.toNat fec.val).2)]
      else if w.imageRuns then w else w.setFld Reg.EDG_PORT_FEC p.val 0 fec.val
    let y := x.setFld Reg.SLU_PORT_SPEED p.val 0 speed.toNat
    let wg := (u.setPhy (32 + g.val) true).setFld Reg.EDG_T1S_LINK g.val 0 1
    let dn := ((u.setPhy p.val false).setLanes p.val 0).setFld Reg.EDG_PORT_CAUSE p.val 0 cause.val
    let m := s.woken part.val
    let mc := m.wr Reg.EDG_LANE_CMD_LANE p.val
    (u.boot.held = false → u.edg.phy.contains p.val = false → u.islandInReset (p.val / 8) = false →
      (u.bridgeRuns = true → (u.bridgeSpeeds p.val).contains speed.toNat = true) → y.bridgeRuns = true →
      Runs s (.linkUp now (p.castLE (by decide)) ⟨speed, fec⟩) (((y.setLink p.val true).bridgeLinkChange p.val).linkChange)) ∧
    (u.boot.held = false → u.edg.phy.contains p.val = false → u.bridgeRuns = true →
      (u.bridgeSpeeds p.val).contains speed.toNat = false → Runs s (.linkUp now (p.castLE (by decide)) ⟨speed, fec⟩) u) ∧
    (u.boot.held = false → u.edg.phy.contains p.val = false → u.islandInReset (p.val / 8) = false →
      (u.bridgeRuns = true → (u.bridgeSpeeds p.val).contains speed.toNat = true) → y.bridgeRuns = false → y.imageRuns = true → y.portExists p.val = true → (y.startVerify p.val).isPlug p.val = false →
      let z : State := { y.startVerify p.val with hst := { (y.startVerify p.val).hst with
        eoeDown := (y.startVerify p.val).hst.eoeDown.filter fun e => (y.startVerify p.val).bindOf e.1 != 16 + p.val } }
      Runs s (.linkUp now (p.castLE (by decide)) ⟨speed, fec⟩)
        (if (z.macsec p.val).exhausted then z else z.setLink p.val true).linkChange) ∧
    (u.boot.held = false → u.edg.phy.contains (32 + g.val) = false →
      let x := if wg.bridgeRuns then wg.bridgeLinkChange (32 + g.val) else wg
      Runs s (.linkUp now ⟨32 + g.val, by omega⟩ ⟨speed, fec⟩) (if x.isPlug (32 + g.val) then (x.plugBack (32 + g.val)).2 else x).linkChange) ∧
    (u.edg.phy.contains p.val = true → dn.bridgeRuns = true →
      Runs s (.portLinkDown now (p.castLE (by decide)) cause) (((dn.setLink p.val false).bridgeLinkChange p.val).linkChange)) ∧
    (u.edg.phy.contains (32 + g.val) = true →
      let v := (u.setPhy (32 + g.val) false).setFld Reg.EDG_T1S_LINK g.val 0 0
      let x := if v.bridgeRuns then v.bridgeLinkChange (32 + g.val) else v
      Runs s (.portLinkDown now ⟨32 + g.val, by omega⟩ cause) (if x.isPlug (32 + g.val) then x.plugLost (32 + g.val) 4 else x).linkChange) ∧
    (u.edg.phy.contains p.val = true → dn.bridgeRuns = false → dn.imageRuns = true →
      Runs s (.portLinkDown now (p.castLE (by decide)) cause) (if (dn.eoePortDown p.val).isPlug p.val
        then ((dn.eoePortDown p.val).plugLost p.val 4).linkChange
        else (((dn.eoePortDown p.val).setLink p.val false).portLinkLost p.val).linkChange)) ∧
    (s.bridgeRuns = true → s.isBridgePort p.val = true → s.edg.phy.contains p.val = false → Runs s (.autoNegTimeout p)
      { s with edg := { s.edg with parallel := insertRising p.val s.edg.parallel } }) ∧
    (s.fld Reg.EDG_PORT_VERIFY p.val 0 = 1 →
      let n := SMap.get s.edg.verifyTries p.val 0 + 1
      let v : State := { s with edg := { s.edg with verifyTries := SMap.set s.edg.verifyTries p.val n } }
      Runs s (.preemptVerifyTimeout p) (if n < 3 then v
        else (v.setFld Reg.EDG_PORT_VERIFY p.val 0 3).eventSup Reg.EDG_INT_STATUS_VERIFY_FAIL Reg.EDG_INT_EN_VERIFY_FAIL)) ∧
    (s.imageRuns = true →
      Runs s (.macsecSaInstall p ⟨true, xpn⟩ pn) { s with edg := { s.edg with
        macsec := SMap.set s.edg.macsec p.val { s.macsec p.val with rxNext := pn.toNat } } }) ∧
    (s.imageRuns = true →
      let v : State := { s with edg := { s.edg with
        macsec := SMap.set s.edg.macsec p.val
          { s.macsec p.val with installed := true, xpn := xpn, pn := pn.toNat, exhausted := false } } }
      (((s.macsec p.val).exhausted && v.edg.phy.contains p.val) = false → Runs s (.macsecSaInstall p ⟨false, xpn⟩ pn) v) ∧
      (((s.macsec p.val).exhausted && v.edg.phy.contains p.val) = true → (v.isPlug p.val && (v.unplugOf p.val).isSome) = false →
        Runs s (.macsecSaInstall p ⟨false, xpn⟩ pn) ((v.setLink p.val true).linkChange))) ∧
    (s.boot.held = false → s.fld Reg.EDG_LANE_USE p.val 0 ≠ 0 →
      let n := SMap.get s.edg.trainTries p.val 0
      let v : State := { s with edg := { s.edg with trainTries := SMap.erase s.edg.trainTries p.val } }
      Runs s (.laneTrainingFail p) (if n < 3
        then { s.setFld Reg.EDG_LANE_STATE p.val 0 1 with edg := { s.edg with trainTries := SMap.set s.edg.trainTries p.val (n + 1) } }
        else if v.spareFree (quadOf p.val) then v.sparing p.val else v.laneFails p.val)) ∧
    ((s.fld Reg.EDG_LANE_STATE p.val 0 = 1 ∨ s.fld Reg.EDG_LANE_STATE p.val 0 = 4) → Runs s (.laneTrainingRetry p true)
      ((({ s with edg := { s.edg with trainTries := SMap.erase s.edg.trainTries p.val } } : State).setFld
        Reg.EDG_LANE_STATE p.val 0 2).wr Reg.EDG_LANE_CMD_PENDING 0)) ∧
    (s.boot.held = false → s.fld Reg.EDG_LANE_USE p.val 0 ≠ 0 →
      let v := s.setFld Reg.EDG_LANE_MARGIN p.val 0 margin.toNat
      Runs s (.laneMarginLow p margin) (if margin.toNat < 20 ∧ v.fld Reg.EDG_LANE_STATE p.val 0 = 2 ∧
        v.spareFree (quadOf p.val) = true then v.sparing p.val else v)) ∧
    (∀ r, s.fld Reg.EDG_LANE_STATE p.val 0 = 3 → s.portOfLane p.val = some r → Runs s (.sliceAdaptDone p true)
      { s with slu := { s.slu with held := insertRising r s.slu.held } }) ∧
    (s.fld Reg.EDG_LANE_STATE p.val 0 = 3 → s.portOfLane p.val = none → Runs s (.sliceAdaptDone p true) s) ∧
    (s.fld Reg.EDG_LANE_STATE p.val 0 = 3 → s.portOfLane p.val = none → s.on Reg.EDG_LANE_CMD_PENDING 0 0 = false →
      let v := s.setAll [(Reg.EDG_LANE_SLICE, p.val, 0, 9 * quadOf p.val + 8), (Reg.EDG_LANE_STATE, p.val, 0, 2),
        (Reg.EDG_QUAD_SPARE_USED, quadOf p.val, 0, 1), (Reg.EDG_QUAD_LANE, quadOf p.val, 0, p.val),
        (Reg.EDG_STATUS_SPARES, 0, 0, setBits (s.rd Reg.EDG_STATUS_SPARES) (quadOf p.val) 1 0)]
      let w := v.noteRsv 3 (if v.on Reg.EDG_LANE_CMD_PENDING 0 0 then 5 else 3) p.val (s.fld Reg.EDG_LANE_SLICE p.val 0)
        (9 * quadOf p.val + 8)
      w.on Reg.EDG_LANE_CMD_PENDING 0 0 = false →
      Runs s (.sliceSwitchover p rx) (w.eventSup Reg.EDG_INT_STATUS_SPARE_USED Reg.EDG_INT_EN_SPARE_USED)) ∧
    (m.isSup part.val = true → mc.on Reg.EDG_LANE_CMD_PENDING 0 0 = false → mc.fld Reg.EDG_LANE_USE p.val 0 ≠ 0 →
      Served s part.val 10 (.edgLaneRetrain part p) (mc.setAll [(Reg.EDG_LANE_CMD_PENDING, 0, 0, 1),
        (Reg.EDG_LANE_CMD_RESULT, 0, 0, stOk), (Reg.EDG_LANE_STATE, p.val, 0, 1)])) ∧
    (m.isSup part.val = true → mc.on Reg.EDG_LANE_CMD_PENDING 0 0 = false → mc.fld Reg.EDG_LANE_USE p.val 0 ≠ 0 →
      Served s part.val 10 (.edgLaneSpare part p) (if mc.spareFree (quadOf p.val)
        then (mc.setAll [(Reg.EDG_LANE_CMD_PENDING, 0, 0, 1), (Reg.EDG_LANE_CMD_RESULT, 0, 0, stOk)]).sparing p.val
        else mc.wr Reg.EDG_LANE_CMD_RESULT stEmpty))

/-- A frame that fails a check of step 1 counts in that check's counter; one that passes is taken in at a bridge
port under the fallback bridge, and under an image unless MACsec discards it; a protected frame below the replay
window fails validation, and one that passes raises the next packet number expected; a frame of a host over Ethernet
goes to the host interface. A T1S follower that loses the beacon clears PLCA_EN and sets it when the beacon resumes;
a node that has been quiet leaves SEEN. A CAN frame with a bad CRC, or of a format the channel does not take, is
counted, another is taken in; bus-off keeps or drops the queued frames, and recovery and restart make the channel
error active. A frame sent on a bus leaves its queue. A raw input level starts 5 ms, at whose end the level changes
and, but for the fallback bridge, is latched, in a full latch in place of the newest; the oldest latched change
becomes an event frame. LINK_HOLD that expires dries a plug source, and a drained source departs. -/
def Obligations.FramesSegmentsChannelsAndInputsOfTheEdge : Prop :=
  ∀ (s : State) (now : Nat) (p : Fin 32) (g : Fin 16) (stamp : Nat) (node : Fin 33) (bytes data : List Byte) (tg : Fin 32)
      (fcsOk cut express level : Bool) (macsec : Fin 3) (pn : BitVec 64) (id af : W32) (format sdt vcid : Byte) (tec rec_ : BitVec 8)
      (i : Fin 9) (src : Fin 73),
    let u := s.upTo now
    (u.boot.held = false → u.edg.phy.contains p.val = true →
      (∀ f, u.checkFrame p.val bytes.length fcsOk cut = some f →
        Runs s (.frameReceive now p stamp bytes fcsOk cut express ⟨macsec, pn⟩) (u.discard f p.val)) ∧
      (u.checkFrame p.val bytes.length fcsOk cut = none → (u.running && u.isEoe p.val bytes) = false →
        u.isVerifyResponse p.val bytes express = false →
        (u.bridgeRuns = true → Runs s (.frameReceive now p stamp bytes fcsOk cut express ⟨macsec, pn⟩)
          (if u.isBridgePort p.val then u.intakeEthernet p.val stamp bytes express false else u)) ∧
        (u.bridgeRuns = false → ∀ ok v, (u.macsecIn p.val macsec.val pn.toNat bytes = (true, ok, v) →
            Runs s (.frameReceive now p stamp bytes fcsOk cut express ⟨macsec, pn⟩) (v.discard Reg.EDG_MACSEC_CNT p.val)) ∧
          (u.macsecIn p.val macsec.val pn.toNat bytes = (false, ok, v) →
            Runs s (.frameReceive now p stamp bytes fcsOk cut express ⟨macsec, pn⟩)
              (v.intakeEthernet p.val stamp bytes express ok)))) ∧
      (u.checkFrame p.val bytes.length fcsOk cut = none → (u.running && u.isEoe p.val bytes) = true →
        ∀ ok v, (u.macsecIn p.val macsec.val pn.toNat bytes = (true, ok, v) →
            Runs s (.frameReceive now p stamp bytes fcsOk cut express ⟨macsec, pn⟩) (v.discard Reg.EDG_MACSEC_CNT p.val)) ∧
          (u.macsecIn p.val macsec.val pn.toNat bytes = (false, ok, v) →
            Runs s (.frameReceive now p stamp bytes fcsOk cut express ⟨macsec, pn⟩) (eoeFrameReceive v now p.val bytes)))) ∧
    (u.fld Reg.EDG_PORT_MACSEC p.val 0 ≠ 0 →
      (macsec.val = 1 → (u.macsec p.val).rxNext - u.replayWindow p.val ≤ pn.toNat →
        u.macsecIn p.val macsec.val pn.toNat bytes = (false, true, { u with edg := { u.edg with
          macsec := SMap.set u.edg.macsec p.val
            { u.macsec p.val with rxNext := max (u.macsec p.val).rxNext (pn.toNat + 1) } } })) ∧
      (macsec.val ≠ 1 ∨ pn.toNat < (u.macsec p.val).rxNext - u.replayWindow p.val →
        u.macsecIn p.val macsec.val pn.toNat bytes =
          (u.fld Reg.EDG_PORT_MACSEC p.val 0 == 2 && !(macsec.val == 0 && isEapol bytes), false, u))) ∧
    (∀ f, u.boot.held = false → u.edg.phy.contains (32 + g.val) = true →
      u.checkFrame (32 + g.val) bytes.length fcsOk cut = some f →
      Runs s (.t1sFrameReceive now g stamp node bytes fcsOk cut) (u.discard f (32 + g.val))) ∧
    (u.boot.held = false → u.edg.phy.contains (32 + g.val) = true →
      u.checkFrame (32 + g.val) bytes.length fcsOk cut = none →
      (u.on Reg.EDG_T1S_PLCA_EN g.val 0 && !u.on Reg.EDG_T1S_ROLE g.val 0) = false →
      Runs s (.t1sFrameReceive now g stamp node bytes fcsOk cut) 
        (u.intakeEthernet (32 + g.val) stamp bytes false false)) ∧
    (s.on Reg.EDG_T1S_ROLE g.val 0 = true → Runs s (.plcaBeaconLoss g) (s.setFld Reg.EDG_T1S_PLCA_EN g.val 0 0) ∧
      Runs s (.plcaBeaconResume g) (s.setFld Reg.EDG_T1S_PLCA_EN g.val 0 1)) ∧
    (∀ n : Fin 32, bitOf (u.fld Reg.EDG_T1S_SEEN g.val 0) n.val = true →
      SMap.get u.edg.nodeAt (g.val * 32 + n.val) 0 + u.nodeQuiet g.val ≤ u.now →
      Runs s (.nodeQuiet now g n) (u.setFld Reg.EDG_T1S_SEEN g.val 0 (setBits (u.fld Reg.EDG_T1S_SEEN g.val 0) n.val 1 0))) ∧
    (u.boot.held = false → u.running = true → u.fld Reg.EDG_CAN_STATE g.val 0 < 2 →
      let r := canRecord g.val id.toNat format.toNat sdt.toNat vcid.toNat af.toNat data
      Runs s (.canFrameReceive now g id format sdt vcid af data false) (u.discard Reg.EDG_FCS_CNT (48 + g.val)) ∧
      (u.canTakes g.val format.toNat = false →
        Runs s (.canFrameReceive now g id format sdt vcid af data true) (u.discard Reg.EDG_PROTO_CNT (48 + g.val))) ∧
      (u.canTakes g.val format.toNat = true → data.length ≤ canMax format.toNat → r.length ≤ u.maxFrame (48 + g.val) →
        Runs s (.canFrameReceive now g id format sdt vcid af data true)
          (if u.bridgeRuns && format.toNat % 4 = 2 then u.discard Reg.EDG_PROTO_CNT (48 + g.val)
          else u.intake { inPort := 48 + g.val, arrival := u.net (u.tsdomOf (48 + g.val)) } r
            (canFlk (id.toNat % 2 ^ 31) g.val)))) ∧
    (s.fld Reg.EDG_CAN_STATE g.val 0 < 2 → s.on Reg.EDG_CAN_AUTO_RECOVER g.val 0 = true → Runs s (.canBusOff g)
      ((s.setAll [(Reg.EDG_CAN_STATE, g.val, 0, 2), (Reg.EDG_CAN_TEC, g.val, 0, 255)]).eventSup
        Reg.EDG_INT_STATUS_CAN_BUSOFF Reg.EDG_INT_EN_CAN_BUSOFF)) ∧
    (s.fld Reg.EDG_CAN_STATE g.val 0 < 2 → s.on Reg.EDG_CAN_AUTO_RECOVER g.val 0 = false →
      let v := s.setAll [(Reg.EDG_CAN_STATE, g.val, 0, 3), (Reg.EDG_CAN_TEC, g.val, 0, 255)]
      Runs s (.canBusOff g) ((((v.txQueue (48 + g.val)).foldl (fun s f => s.dropTx (48 + g.val) f)
        (v.setTxQueue (48 + g.val) [])).bumpFld Reg.EDG_TX_DROP (48 + g.val) 0 (v.txQueue (48 + g.val)).length).eventSup
          Reg.EDG_INT_STATUS_CAN_BUSOFF Reg.EDG_INT_EN_CAN_BUSOFF)) ∧
    (s.fld Reg.EDG_CAN_STATE g.val 0 = 2 → s.on Reg.EDG_CAN_AUTO_RECOVER g.val 0 = true →
      Runs s (.canBusOffRecover g) (s.canActive g.val)) ∧
    (s.fld Reg.EDG_CAN_STATE g.val 0 = 3 → s.running = true → Runs s (.canChannelRestart g) (s.canActive g.val)) ∧
    (s.fld Reg.EDG_CAN_STATE g.val 0 < 2 → Runs s (.canBusError g tec rec_)
      (s.setAll [(Reg.EDG_CAN_TEC, g.val, 0, tec.toNat), (Reg.EDG_CAN_REC, g.val, 0, rec_.toNat),
        (Reg.EDG_CAN_STATE, g.val, 0, if 128 ≤ tec.toNat || 128 ≤ rec_.toNat then 1 else 0)])) ∧
    (∀ f, nextTx (48 ≤ 32 + tg.val) (u.txQueue (32 + tg.val)) = some f →
      (if 32 + tg.val < 48 then !u.edg.phy.contains (32 + tg.val)
        else 2 ≤ u.fld Reg.EDG_CAN_STATE (32 + tg.val - 48) 0 : Bool) = false →
      let v := u.setTxQueue (32 + tg.val) ((u.txQueue (32 + tg.val)).erase f)
      Runs s (.edgeTransmitDone now tg) (((v.emit (.bus tg.val f.bytes)).bumpFld Reg.EDG_TX_CNT (32 + tg.val) 0 1).dropTx
        (32 + tg.val) f)) ∧
    (u.boot.brownout = false → (u.presIn i.val).raw ≠ level →
      let v := u.setPresIn i.val { u.presIn i.val with raw := level }
      Runs s (.presRawChange now i level) (v.setPresIn i.val { v.presIn i.val with
        since := if v.rawLevel i.val = (u.presIn i.val).level then none else some v.wall })) ∧
    (∀ t, (u.presIn i.val).since = some t → t + 5000000 ≤ u.wall →
      let lv := !(u.presIn i.val).level
      let v := u.setPresIn i.val
        { u.presIn i.val with level := lv, since := none, count := ((u.presIn i.val).count + 1) % 2 ^ 32 }
      (v.bridgeRuns = true → Runs s (.presDebounceEnd now i) v) ∧
      (v.bridgeRuns = false → Runs s (.presDebounceEnd now i)
        (if (v.latchChange i.val lv).takesInputs then (v.latchChange i.val lv).presPlug i.val lv else v.latchChange i.val lv))) ∧
    (∀ (v : State) (lv : Bool),
      let ch : Change := { edge := if lv then 1 else 2, level := lv, at_ := v.wall, arrival := v.net (v.tsdomOf (0x40 + i.val)),
                           late := !v.takesInputs, lost := decide (4 ≤ (v.presIn i.val).latch.length), count := (v.presIn i.val).count }
      ((v.presIn i.val).latch.length < 4 → v.latchChange i.val lv =
        (v.setPresIn i.val { v.presIn i.val with latch := (v.presIn i.val).latch ++ [ch] }).setFld Reg.EDG_PRESCFG_LATCHED i.val 0
          ((v.presIn i.val).latch ++ [ch]).length) ∧
      (4 ≤ (v.presIn i.val).latch.length →
        let w := (v.setPresIn i.val { v.presIn i.val with latch := (v.presIn i.val).latch.take 3 ++ [ch] }).setFld
          Reg.EDG_PRESCFG_LATCHED i.val 0 ((v.presIn i.val).latch.take 3 ++ [ch]).length
        v.latchChange i.val lv = (w.setFld Reg.EDG_PRESCFG_LOST i.val 0
          (min 255 (w.fld Reg.EDG_PRESCFG_LOST i.val 0 + 1))).eventSup Reg.EDG_INT_STATUS_PRES_LOST Reg.EDG_INT_EN_PRES_LOST)) ∧
    (∀ ch rest, (u.presIn i.val).latch = ch :: rest → u.takesInputs = true →
      (u.touchInput && !u.on Reg.EDG_PRESCFG_TOUCH i.val 0) = false →
      let v := (u.setPresIn i.val { u.presIn i.val with latch := rest }).setFld Reg.EDG_PRESCFG_LATCHED i.val 0 rest.length
      let w := if ch.late then v.presPlug i.val ch.level else v
      let arr := if ch.late then (w.net (w.tsdomOf (0x40 + i.val)) + 2 ^ 64 - (w.wall - ch.at_) % 2 ^ 64) % 2 ^ 64 else ch.arrival
      Runs s (.presLatchTake now i) (if w.fld Reg.EDG_PRESCFG_MODE i.val 0 % 2 = 1 &&
          bitOf (w.fld Reg.EDG_PRESCFG_EDGES i.val 0) (ch.edge - 1)
        then w.intake { inPort := 0x40 + i.val, arrival := arr } (w.eventFrame i.val ch) (eventFlk (0x40 + i.val))
        else w)) ∧
    (∀ w, u.unplugOf src.val = some w → w.stage = 1 → w.since + u.linkHold src.val ≤ u.now → 32 ≤ src.val →
      Runs s (.linkHoldExpire now src) (u.setUnplug src.val (some { w with stage := 2 }))) ∧
    (∀ w, u.unplugOf src.val = some w → w.stage = 1 → w.since + u.linkHold src.val ≤ u.now → src.val < 32 →
      let n := (List.range 8).foldl (fun n c => n + (u.queueOf (8 * src.val + c)).length) 0
      Runs s (.linkHoldExpire now src) ((((u.setUnplug src.val (some { w with stage := 2, dried := n })).setLink
        src.val false).setFld Reg.EDG_PORT_UNPLUG_BUSY src.val 0 1).portLinkLost src.val)) ∧
    (∀ w, u.unplugOf src.val = some w → w.stage = 2 → u.srcDrained src.val = true → 32 ≤ src.val →
      let v := u.departTables src.val
      Runs s (.unplugDrained now src) ((v.plugMessage src.val (v.plugRecord 2 src.val
        ((u.epFind (plugKind src.val) src.val 0).getD 0xFFFF) w.cause 0 w.dried)).setUnplug src.val none))

/-- A pause frame sets how long each class it names is paused, and a pause runs out. A port that is up and not held
selects its next frame; a frame that ends leaves its MAC, is counted, stamped and releases its copy. Each
microsecond refills the shapers and the meters. Gate events turn gates; a pending list becomes operational at its
change time; a sequence recovery function that has been quiet takes any number; a flow-control input sets its bit; a
queue that has drained shuts down. SLU_READ gives a snapshot of the selected object, SLU_WRITE takes its RW fields,
SLU_FLUSH dries a queue, SLU_CLEAR clears the counters, and a write that asks for a change of lists starts it. -/
def Obligations.SluicePausesShapesGatesAndServesItsObjects : Prop :=
  ∀ (s : State) (now : Nat) (p : Fin 32) (pfc level express sg : Bool) (cls : BitVec 8) (quanta : List (BitVec 16)) (k : Fin 8)
      (ix : Fin 1024) (f : Fin 4096) (kind : Fin 3) (qi : Fin 320) (part : Fin 5),
    let u := s.upTo now
    let waiting := (List.range 8).foldl (fun n c => n + (u.queueOf (8 * p.val + c)).length) 0
    let dry := (List.range 8).foldl (fun v c => v.dryHeads p.val c waiting) u
    let mac := 2 * p.val + flagBit express
    let m := s.woken part.val
    let tk := m.sluTake part.val (m.sluSel part.val).1 (m.sluSel part.val).2.2
    (u.imageRuns = true → u.on Reg.SLU_PORT_RX_PAUSE p.val 0 = true → Runs s (.pauseFrameReceive now p pfc cls quanta)
      ((List.range 8).foldl (fun v c =>
        let n := (quanta.getD (if pfc then c else 0) 0).toNat
        if pfc && !bitOf cls.toNat c then v
        else if n = 0 then { v with slu := { v.slu with pause := SMap.erase v.slu.pause (8 * p.val + c) } }
        else
          let till := v.now + n * 512000 / max 1 (u.fld Reg.SLU_PORT_SPEED p.val 0)
          { v with slu := { v.slu with pause := SMap.set v.slu.pause (8 * p.val + c) till } }) u)) ∧
    (∀ t, SMap.find u.slu.pause (8 * p.val + k.val) = some t → t ≤ u.now → Runs s (.pauseQuantaExpire now p k)
      { u with slu := { u.slu with pause := SMap.erase u.slu.pause (8 * p.val + k.val) } }) ∧
    ((u.imageRuns || u.bridgeRuns) = true → u.linkDown p.val = false → u.edg.phy.contains p.val = true → u.slu.held.contains p.val = false →
      dry.preempts p.val = false → SMap.find dry.slu.sending (2 * p.val + 1) = none → SMap.find dry.slu.sending (2 * p.val) = none →
      Runs s (.transmissionSelect now p) (dry.selectMac p.val (2 * p.val + 1) (fun _ => true) (waiting + 1)).2) ∧
    ((u.imageRuns || u.bridgeRuns) = true → u.linkDown p.val = false → u.edg.phy.contains p.val = true → u.slu.held.contains p.val = false →
      dry.preempts p.val = true → SMap.find dry.slu.sending (2 * p.val + 1) = none →
      let go := dry.selectMac p.val (2 * p.val + 1) (fun c => dry.on Reg.SLU_CLASS_EXPRESS (8 * p.val + c) 0) (waiting + 1)
      go.1 = true → Runs s (.transmissionSelect now p) go.2) ∧
    (∀ c, SMap.find u.slu.sending mac = some c →
      let bs := u.wireBytes c
      let v0 : State := { u with slu := { u.slu with sending := SMap.erase u.slu.sending mac } }
      let v1 := ((((v0.emit (.frame p.val express bs)).bump Reg.SLU_TX_CNT).satBump Reg.SLU_CLASS_TX_FRAMES c.q 1).bumpFld
        Reg.EDG_TX_CNT p.val 0 1)
      let v2 := ((if v1.isGptpEvent bs then v1.stamp p.val else v1).takePn p.val).copyEnds c 0
      (v2.macsec p.val).exhausted = false →
      (v2.bridgeRuns = false → Runs s (.frameTransmitEnd now p express) v2) ∧
      (v2.bridgeRuns = true →
        Runs s (.frameTransmitEnd now p express) ((v2.ptpSent p.val (s.wireBytes c)).macsecCheck p.val))) ∧
    (u.imageRuns = true → Runs s (.shaperRefill now) ((List.range 256).foldl (fun v q => v.classRefill q)
      ((List.range 32).foldl (fun v p => v.setCredit p
        (min (v.credit p + v.fld Reg.SLU_PORT_TB_RATE p 0) (v.fld Reg.SLU_PORT_TB_BURST p 0 * 8000))) u))) ∧
    (u.imageRuns = true → Runs s (.meterRefill now) (u.metersInUse.foldl (fun v m => v.meterRefillOne m) u)) ∧
    (u.imageRuns = true → Runs s (.gateEvent now true ix) (u.streamGate ix.val true) ∧
      (ix.val < 32 → Runs s (.gateEvent now false ix) (u.portGates ix.val))) ∧
    (∀ cct ct, u.imageRuns = true → (sg = true ∨ ix.val < 32) → u.gateChange sg ix.val = some (cct, ct) →
      cct ≤ u.net (u.gateDom sg ix.val) → Runs s (.gclConfigSwap now sg ix)
        ((u.installList sg ix.val cct).eventSup Reg.SLU_INT_STATUS_CONFIG_DONE Reg.SLU_INT_EN_CONFIG_DONE)) ∧
    (∀ t, (u.srfRun f.val).timer = some t → t ≤ u.now →
      let v := (u.setSrfRun f.val { u.srfRun f.val with timer := none }).setFld Reg.SLU_SRF_TAKE_ANY f.val 0 1
      Runs s (.srfResetTimeout now f)
        ((v.satBump Reg.SLU_SRF_RESETS f.val 1).eventSup Reg.SLU_INT_STATUS_SRF_RESET Reg.SLU_INT_EN_SRF_RESET)) ∧
    Runs s (.fciEdge now k level) { u with slu := { u.slu with fci := setBits u.slu.fci k.val 1 (flagBit level) } } ∧
    (s.fld (shutFields kind.val).2.1 qi.val 0 = 2 → s.drained kind.val qi.val = true → Runs s (.queueShutdownDone kind qi)
      (s.setAll [((shutFields kind.val).2.1, qi.val, 0, s.fld (shutFields kind.val).2.2 qi.val 0),
        ((shutFields kind.val).2.2, qi.val, 0, 0)])) ∧
    ((4 ≤ part.val → m.imageRuns = true) → m.sluCheck part.val 1 = stOk → Served s part.val 6 (.sluRead part)
      ((m.setAll ((List.range 16).map fun n => (Reg.SLU_DATA, n, part.val,
        bits (m.objNat (m.sluSel part.val).1 (m.sluSel part.val).2.1 (m.sluSel part.val).2.2) (32 * n) 32))).sluDone part.val stOk)) ∧
    ((4 ≤ part.val → m.imageRuns = true) → m.sluCheck part.val 2 = stOk →
      m.sluBusy part.val (m.sluSel part.val).1 (m.sluSel part.val).2.1 (m.sluSel part.val).2.2 = false →
      ((m.sluSel part.val).2.1 ≠ 1 ∨ (m.sluSel part.val).1 < 6) → m.asksChange part.val (m.sluSel part.val).1 = false →
      Served s part.val 6 (.sluWrite part)
        ((m.sluTake part.val (m.sluSel part.val).1 (m.sluSel part.val).2.2).sluDone part.val stOk)) ∧
    ((4 ≤ part.val → m.imageRuns = true) → m.sluCheck part.val 3 = stOk → (m.sluSel part.val).1 = 1 →
      let t := m.dryQueue (m.sluSel part.val).2.2 dryFiltered
      let n (v : State) : Nat := v.copiesQueued + (v.hostCopies (hostSpill (m.sluSel part.val).2.2)).length
      Served s part.val 6 (.sluFlush part) ((t.bumpFld Reg.SLU_FLUSH_CNT 0 0 (n m - n t)).sluDone part.val stOk)) ∧
    ((4 ≤ part.val → m.imageRuns = true) → m.sluCheck part.val 4 = stOk → (m.sluSel part.val).1 ≠ 5 →
      Served s part.val 6 (.sluClear part) (((clearFields (m.sluSel part.val).1).foldl
        (fun v f => v.setFld f (m.sluSel part.val).2.2 0 0) m).sluDone part.val stOk)) ∧
    ((4 ≤ part.val → m.imageRuns = true) → m.sluCheck part.val 2 = stOk →
      m.sluBusy part.val (m.sluSel part.val).1 (m.sluSel part.val).2.1 (m.sluSel part.val).2.2 = false →
      ((m.sluSel part.val).2.1 ≠ 1 ∨ (m.sluSel part.val).1 < 6) → m.asksChange part.val (m.sluSel part.val).1 = true →
      tk.adminOk ((m.sluSel part.val).1 == 5) (m.sluSel part.val).2.2 = true →
      Served s part.val 6 (.configChange part)
        ((tk.configChange ((m.sluSel part.val).1 == 5) (m.sluSel part.val).2.2).sluDone part.val stOk))

/-- With no replay, the Weir hands a thread that may take one its next droplet, sets its DROPLET event and counts
the hand-over; a droplet whose hold limit has passed is dried unless its order class is suspended; the next
recirculated droplet is classified anew. HOLD_SUSPEND is the supervisor partition's to write while the right is
open. A tick counts up; the head of the delay list ends its wait, a delay with OK and a wait for flags with TIMEOUT.
PPS_OUT is asserted at a whole second and deasserted after its width, a PPS_IN edge captures the network time,
TIM_SNAP shows the times in the partition's bank, TIM_STEP adds the offset to a domain's time and TIM_RATE sets its
rate. FCO pins and pause frames follow the channels that are above their threshold. -/
def Obligations.TheWeirAndTheTimeUnitAct : Prop :=
  ∀ (s : State) (now : Nat) (te : Fin 1536) (slot : Fin 65536) (p : Fin 32) (k : Fin 8) (d : Fin 4096) (part : Fin 4)
      (pc : Fin 5) (dom : Fin 4) (w : W32),
    let u := s.upTo now
    let m := s.woken part.val
    let m4 := s.woken pc.val
    (s.rpl.replay = none → s.imageRuns = true → s.mayTake te.val = true → ∀ i sl, s.nextFor te.val = some (i, sl) →
      let v := s.setSlot i { sl with st := 2, holder := some te.val, handed := s.weir.handCtr, fetched := false }
      Runs s (.dropletDispatch te)
        (({ v with weir := { v.weir with handCtr := v.weir.handCtr + 1 } } : State).setEvent te.val evDroplet)) ∧
    (∀ sl, u.slot slot.val = some sl → u.expired sl = true → bitOf (u.rd Reg.WEIR_HOLD_SUSPEND_SUSP) sl.d.oclass = false →
      u.completedNow slot.val sl = false → Runs s (.holdExpire now slot) (u.drySlot slot.val dryHoldExpired)) ∧
    (∀ c : Nat, s.imageRuns = true → ((List.range 4).find? fun c => s.chReady (spillKey (256 + c))) = some c →
      let q := spillKey (256 + c)
      let v := s.chDrop q (s.chFirst q)
      ∀ i sl, v.resolve ((s.chWords q).headD {}).w.toNat = some (i, sl) → sl.st = 3 → Runs s .recircClassify
        (if s.headAborted q then v.drySlot i dryMemLost else v.reclassify i sl)) ∧
    (m.isSup part.val = true → m.suspOpen = true →
      Served s part.val 1 (.weirHoldSuspendWrite part w) (m.setSuspend w.toNat)) ∧
    (u.imageRuns = true → Runs s (.fcoMinHoldExpire now k) (u.fcoUpdate k.val)) ∧
    (u.pauseUnion p.val ≠ 0 → SMap.get u.edg.pauseAt p.val 0 + u.pauseInterval p.val ≤ u.now →
      Runs s (.pauseRefresh now p) (u.sendPause p.val 0 (u.pauseUnion p.val))) ∧
    ((u.imageRuns || u.bridgeRuns) = true → u.time.tickAt < u.tickNow →
      let v : State := { u with time := { u.time with ticks := (u.time.ticks + 1) % 2 ^ 32, tickAt := u.time.tickAt + 1 } }
      Runs s (.tick now) (if v.bridgeRuns then v.stpTimers.ptpTimers else v)) ∧
    (∀ at_ rest, s.pmp.delay = (at_, d.val) :: rest → at_ ≤ s.time.ticks → (s.desc d.val).wait = 4 →
      Runs s (.delayExpire d) (s.endDescWait d.val uPmp [(0x626, 0)] stOk).schedule) ∧
    (∀ at_ rest, s.pmp.delay = (at_, d.val) :: rest → at_ ≤ s.time.ticks → (s.desc d.val).wait = 1 →
      Runs s (.delayExpire d) ((s.bump Reg.PMP_TIMEOUT_CNT).endDescWait d.val uPmp [] stTimeout).schedule) ∧
    (u.boot.held = false → u.time.ppsAt < u.ppsNow →
      let v : State := { u with time := { u.time with ppsAt := u.ppsNow } }
      v.on Reg.TIM_PPS_OUT_EN 0 0 = true → Runs s (.ppsOutSecond now) (({ v with time := { v.time with
        ppsOut := some (v.now + v.rd Reg.TIM_PPS_WIDTH * 10 ^ 6) } } : State).emit (.pin 8 true))) ∧
    (∀ e, u.time.ppsOut = some e → e ≤ u.now → Runs s (.ppsOutWidthEnd now)
      (({ u with time := { u.time with ppsOut := none } } : State).emit (.pin 8 false))) ∧
    (u.boot.held = false → u.on Reg.TIM_PPS_IN_EN 0 0 = true →
      let n := u.net (u.rd Reg.TIM_CFG_PPS_DOM)
      Runs s (.ppsInEdge now) ((u.setAll [(Reg.TIM_PPSIN_LO_TIME, 0, 0, n),
        (Reg.TIM_PPSIN_HI_TIME, 0, 0, n / 2 ^ 32)]).timEvent Reg.TIM_INT_STATUS_PPS_IN 1)) ∧
    Served s part.val 11 (.timSnap part) ((List.range 4).foldl (fun v d =>
        let n := if bitOf (v.rd Reg.TIM_CFG_DOM_EN) d then v.net d else 0
        v.setAll [(Reg.TIM_NET_LO_TIME, d, part.val, n), (Reg.TIM_NET_HI_TIME, d, part.val, n / 2 ^ 32)])
      (m.setAll [(Reg.TIM_LOCAL_LO_TIME, 0, part.val, m.now), (Reg.TIM_LOCAL_HI_TIME, 0, part.val, m.now / 2 ^ 32)])) ∧
    ((m4.isSup pc.val = true ∨ pc.val = 4) → (4 ≤ pc.val → m4.imageRuns = true) →
      let v := m4.wr Reg.TIM_CMD_STEP_DOM dom.val
      bitOf (v.rd Reg.TIM_CFG_DOM_EN) dom.val = true →
      let off := signed 64 (v.rd Reg.TIM_OFFSET_LO_OFFSET + v.rd Reg.TIM_OFFSET_HI_OFFSET * 2 ^ 32)
      let w := v.setNet dom.val (unsigned 104 ((v.netFrac dom.val : Int) + off * 2 ^ 40))
      let y := if dom.val = w.rd Reg.TIM_CFG_PPS_DOM then { w with time := { w.time with ppsAt := w.ppsNow } } else w
      Served s pc.val 11 (.timStep pc dom)
        ((((y.tickStepped dom.val).gatesStepped dom.val).timEvent Reg.TIM_INT_STATUS_STEPPED 0).wr Reg.TIM_CMD_RESULT stOk)) ∧
    ((m4.isSup pc.val = true ∨ pc.val = 4) → (4 ≤ pc.val → m4.imageRuns = true) →
      Served s pc.val 11 (.timRateWrite pc dom w) (m4.setFld Reg.TIM_RATE_RATE dom.val 0 w.toNat))

/-- A thread whose opportunity it is issues the passing moves of its next bundle, after the memory upset that the
command may bring; where no thread of its engine can issue the opportunity is idle; at a breakpoint a thread halts.
A unit operation completes. Waits on a channel or a lock that reach their limit end with TIMEOUT; a thread timer
sets TIMER. An orphaned helper operation ends and frees the helper; a helper is disabled and enabled by the
supervisor partition, and shut down once its trigger has completed. A fault not acknowledged and a deadlock not
cleared within STILL_LIMIT escalate, and the escalation is posted; an engine is reset, replaced by the spare, or
fails without one. The post FIFO hands its oldest post to its descriptor. A basin switch begins, and ends once its
threads hold no droplet. -/
def Obligations.EnginesHelpersAndBasinsIssueFaultAndRecover : Prop :=
  ∀ (s : State) (now : Nat) (t : Fin 1544) (te : Fin 1536) (un : Fin 32) (rq : BitVec 16) (b : Fin 12) (h : Fin 2) (kat : Bool)
      (part : Fin 4) (e : Fin 192) (mp : Fin 14) (why : Fin 6)
      (up : Option (Fin 4 × BitVec 27 × Bool)),
    let u := s.upTo now
    let m := s.woken part.val
    let ready := s.upset up
    let calm := (cyclic (t.val / 8) 0).foldl (fun v x => v.settleFast x) ready
    let hc := s.helper b.val h.val
    (t.val < 1536 → ready.imageRuns = true → ready.fld Reg.BSN_ENG_ESTATE (t.val / 8) 0 = 0 →
      (calm.opportunity (t.val / 8) = none → Runs s (.bundleIssue ⟨t, up⟩) (calm.idleOpportunity (t.val / 8))) ∧
      (∀ o k, calm.opportunity (t.val / 8) = some (o, k) → k ≠ t.val → Runs s (.bundleIssue ⟨t, up⟩) calm) ∧
      (∀ o moves w, calm.opportunity (t.val / 8) = some (o, t.val) →
        let v := calm.setEngine (t.val / 8) { calm.engine (t.val / 8) with
          owner := (o + 1) % 8, lastIdle := if o = t.val then (calm.engine (t.val / 8)).lastIdle else t.val % 8 }
        v.atBreakpoint t.val = false → v.fileError t.val (fileUpset up) (v.pePlan t.val) = (.go moves, w) →
        Runs s (.bundleIssue ⟨t, up⟩) (w.runBundle t.val moves))) ∧
    (∀ (v : State) (p : Plan), v.fileError t.val none p = (p, v)) ∧
    (∀ c ws v moves, threadCe t.val = some c → ready.canIssue t.val = true →
      (ready.settleFast (1536 + c)).ceFetch c = (some (0, ws), v) → v.plan (1536 + c) ws = .go moves →
      Runs s (.bundleIssue ⟨t, up⟩) (v.runBundle (1536 + c) moves)) ∧
    (s.canIssue te.val = true → s.atBreakpoint te.val = true →
      Runs s (.breakpointHit te) ((s.haltThread te.val).stillCheck (te.val / 8))) ∧
    ((s.thread t.val).state ≠ 6 →
      Runs s (.unitOperationComplete t un) ((s.finishOp t.val un.val).ceBlocks t.val).schedule) ∧
    (∀ o e, SMap.find (u.thread t.val).ops uCh = some o → o.limit = some e → e ≤ u.now → o.wait ≠ 0 →
      Runs s (.chWaitTimeout now t) ((u.endWait t.val uCh [] stTimeout).bump Reg.BSN_CH_TIMEOUT_CNT)) ∧
    (∀ l wt e, u.queuedOn rq.toNat = some l → (u.lock l).waiters.find? (fun w => w.req == rq.toNat) = some wt →
      wt.limit = some e → e ≤ u.now → Runs s (.lockWaitTimeout now rq)
        (((u.bump Reg.LKG_TIMEOUT_CNT).endLockWait l rq.toNat stTimeout).leaveQueue l rq.toNat).schedule) ∧
    (∀ at_, (u.thread t.val).timer = some at_ → at_ ≤ u.now → Runs s (.timerExpire now t)
      (((if t.val < 1536 then u.logFlagEvent t.val 7 stOk 0 0 else u).updThread t.val
        fun th => { th with timer := none }).setEvent t.val evTimer)) ∧
    ((hc.orphan = none → Runs s (.helperOrphanEnd b h) s) ∧
      (∀ k, hc.orphan = some (k, false) → Runs s (.helperOrphanEnd b h) (s.setHelper b.val h.val { hc with orphan := none })) ∧
      (∀ k, hc.orphan = some (k, true) → Runs s (.helperOrphanEnd b h)
        ((s.setHelper b.val h.val { hc with orphan := none }).hlpGiveUp b.val h.val k))) ∧
    (m.isSup part.val = true →
      let v := (m.setFld (hlpEn h.val) b.val 0 0).setFld (hlpPend h.val) b.val 0 0
      Served s part.val 9 (.helperDisable part b h)
        (if v.fld (hlpState h.val) b.val 0 = 1 then v.setFld (hlpState h.val) b.val 0 2 else v)) ∧
    (m.isSup part.val = true →
      let v := m.setFld (hlpEn h.val) b.val 0 1
      (v.fld (hlpState h.val) b.val 0 = 0 → v.inService b.val = true →
        Served s part.val 9 (.helperEnable part b h kat) (v.hlpPowerUp b.val h.val kat)) ∧
      (v.fld (hlpState h.val) b.val 0 = 2 →
        Served s part.val 9 (.helperEnable part b h kat) (v.setFld (hlpPend h.val) b.val 0 1))) ∧
    (s.fld (hlpState h.val) b.val 0 = 2 → s.hlpRuns b.val h.val = false →
      let saved := s.saveLive b.val h.val
      let v := (saved.setHelper b.val h.val { saved.helper b.val h.val with live := none, regs := [] }).setFld
        (hlpState h.val) b.val 0 0
      Runs s (.helperShutdownDone b h kat)
        (if v.on (hlpPend h.val) b.val 0 && v.inService b.val then (v.setFld (hlpPend h.val) b.val 0 0).hlpPowerUp b.val h.val kat else v)) ∧
    ((u.thread te.val).state = 3 → (u.thread te.val).acked = false → (u.thread te.val).late = false →
      (u.thread te.val).faultAt + u.stillLimit (engOf te.val) ≤ u.now → Runs s (.faultAckTimeout now te)
        ((u.updThread te.val fun th => { th with late := true }).escalate (engOf te.val) (u.thread te.val).cause)) ∧
    (∀ at_, (u.engine e.val).stillAt = some at_ → at_ + u.stillLimit e.val ≤ u.now →
      bitOf (u.thread (8 * e.val)).events evDeadlock = true → Runs s (.deadlockTimeout now e)
        ((u.setEngine e.val { u.engine e.val with stillAt := none }).escalate e.val 0xF)) ∧
    (∀ x, (s.engine e.val).escWait = some x → s.fifoFull = false →
      let v := s.setEngine e.val { s.engine e.val with escWait := none }
      Runs s (.escalationPost e) ((v.post (v.engEntry e.val 10 % 4096) 1).bump Reg.BSN_ESC_CNT)) ∧
    (s.imageRuns = true → s.inService (e.val / 16) = true → s.fld Reg.BSN_ENG_ESTATE e.val 0 ≤ 1 →
      let v := (((s.engineHold e.val).engineDown e.val).engineStart e.val).bump Reg.BSN_RESET_CNT
      Runs s (.engineReset e) (if (v.engine e.val).cmdPending
        then ((v.setEngine e.val { v.engine e.val with cmdPending := false }).wr Reg.BSN_ENG_CMD_PENDING 0).eventSup
          Reg.BSN_INT_STATUS_RESET_DONE Reg.BSN_INT_EN_RESET_DONE
        else v)) ∧
    (s.imageRuns = true → s.inService (e.val / 16) = true → s.hasSpare (e.val / 16) = true →
      s.fld Reg.BSN_ENG_ESTATE e.val 0 ≤ 1 → Runs s (.engineSpareSubstitute e)
        (((((s.engineHold e.val).engineDown e.val).takeSpare e.val 2).bump Reg.BSN_RESET_CNT).engineStart e.val)) ∧
    (s.imageRuns = true → s.hasSpare (e.val / 16) = false → s.fld Reg.BSN_ENG_ESTATE e.val 0 ≤ 1 →
      let v := ((s.engineHold e.val).engineDown e.val).setFld Reg.BSN_ENG_ESTATE e.val 0 2
      let w : State := { v with fth := { v.fth with heldRegions := v.fth.heldRegions ++ [e.val / 16] } }
      let y := (((w.noteRsv 11 2 (e.val / 16) (e.val / 16) 0xFFFFFFFF).showDegraded).eventSup Reg.BSN_INT_STATUS_NO_SPARE
        Reg.BSN_INT_EN_NO_SPARE).takeFailedOut
      y.rd Reg.FTH_ST_STATUS_REGION = e.val / 16 → Runs s (.engineFailNoSpare e) y) ∧
    (∀ dd f rest, s.pmp.fifo = (dd, f) :: rest → (s.desc dd).state ≠ 0 → (s.desc dd).state ≠ 5 →
      let v : State := { s with pmp := { s.pmp with fifo := rest ++ s.pmp.held.take 1, held := s.pmp.held.drop 1 } }
      Runs s .postFifoTake
        ((((v.setDesc dd { v.desc dd with flags := (v.desc dd).flags ||| f }).bump Reg.PMP_POST_CNT).endFlagWait dd).schedule)) ∧
    (s.imageRuns = true → s.rd Reg.PWR_STATUS_STATE < 3 → 1 ≤ mp.val → mp.val ≤ 12 → s.switchAllowed = true →
      Runs s (.basinSwitchBegin mp why) (s.switchBegin mp.val (mp.val - 1) why.val)) ∧
    (∀ map basin y, s.weir.switching = some (map, basin, y) → s.imageRuns = true → s.switchDrained map basin = true →
      Runs s .basinSwitchFinish
        (if map = 13 then s.mistEntered else if basin < 12 then s.basinIsOut map basin y else s.allBack))

/-- The learner takes the request at the head of its queue; an ageing visit ages the entries that are not static and
removes those that are old. A partition that reaches the rules stages an entry, reads it back, or clears what it
staged; a commit request waits for the commit unit, which commits the oldest request or refuses it; under the
fallback bridge they answer INVALID, and nothing is staged; a draining version with no reference and no pin retires;
the supervisor partition pins and unpins a version. A table command that passes the checks inserts, deletes, reads,
updates or walks an entry of the selected table; a flush takes its entries out of the table at its place in the
order of commands, runs on in the background and ends with FLUSH_DONE, when the commands that waited behind it
answer. -/
def Obligations.RulesAndTablesAreStagedCommittedAndServed : Prop :=
  ∀ (s : State) (pr : Fin 5) (p : Fin 4) (num : BitVec 16),
    let m := s.woken pr.val
    let mp := s.woken p.val
    let k := m.stageSel pr.val
    let table := mp.fld Reg.TBL_SEL_TABLE 0 p.val
    let older := (s.tbl.l2.filter fun e => e.2.static_ || decide (e.2.age < 6)).map fun e =>
      if e.2.static_ then e else (e.1, { e.2 with age := e.2.age + 1 })
    (∀ fid mac port rest, s.tbl.queue = .learn fid mac port :: rest → Runs s .learnProcess
      (({ s with tbl := { s.tbl with queue := rest } } : State).learn fid mac port)) ∧
    (∀ kind port addr at_ rest, s.tbl.queue = .create kind port addr at_ :: rest → Runs s .epCreate
      (({ s with tbl := { s.tbl with queue := rest } } : State).epSeen kind port addr at_).2) ∧
    (s.rd Reg.TBL_L2_AGE_AGE_TIME ≠ 0 → Runs s (.ageingVisit 0)
      (({ s with tbl := { s.tbl with l2 := older } } : State).bumpFld Reg.TBL_AGE_CNT 0 0
          (s.tbl.l2.filter fun e => !e.2.static_ && decide (6 ≤ e.2.age)).length)) ∧
    (∀ k : Fin 17, k.val ≠ 0 → s.fld Reg.TBL_SPACE_AGE_TIME (k.val - 1) 0 ≠ 0 → Runs s (.ageingVisit k)
      ((s.flowEntries.filter fun e => e.2.space == k.val - 1 && !e.2.pin).foldl (fun v e =>
        if 6 ≤ e.2.age then (v.flowRemove e.1).bump Reg.TBL_AGE_CNT
        else v.setFlow e.1 (some { e.2 with age := e.2.age + 1 })) s)) ∧
    (m.rulReach pr.val = true → (m.staging pr.val).pending = false →
      let v := (m.setStaging pr.val { m.staging pr.val with pending := true }).setFld Reg.RUL_COMMIT_PENDING 0 pr.val 1
      Served s pr.val 3 (.commitRequest pr) { v with rul := { v.rul with queue := v.rul.queue ++ [pr.val] } }) ∧
    (∀ r rs, s.rul.queue = r :: rs →
      let v : State := { s with rul := { s.rul with queue := rs } }
      (v.commitStatus r = stOk → Runs s .commitExecute (v.commitOk r)) ∧
      (v.commitStatus r ≠ stOk → v.commitStatus r ≠ stBusy → Runs s .commitExecute
        (((v.setStaging r { v.staging r with pending := false }).setAll [(Reg.RUL_COMMIT_RESULT, 0, r, v.commitStatus r),
          (Reg.RUL_COMMIT_PENDING, 0, r, 0)]).event Reg.RUL_INT_STATUS_COMMIT_FAIL Reg.RUL_INT_EN_COMMIT_FAIL r r))) ∧
    (∀ n : Fin 4, (s.version n.val).state = 2 → (s.version n.val).refs = 0 → (s.version n.val).pins = 0 →
      Runs s (.versionRetire n) ((List.range 4).foldl (fun v p => v.event Reg.RUL_INT_STATUS_RETIRED Reg.RUL_INT_EN_RETIRED 0 p)
        ((s.setVersion n.val {}).logRetired (s.version n.val).number).showRules)) ∧
    (m.rulReach pr.val = true → m.stageStatus pr.val k.1 k.2 true = stOk →
      let v := m.setFld Reg.RUL_STG_CMD_RESULT 0 pr.val stOk
      let e := (List.range (kindWords k.1)).map fun n => BitVec.ofNat 32 (v.fld Reg.RUL_STG_DATA n pr.val)
      Served s pr.val 3 (.rulStgWrite pr) (v.setStaging pr.val
        { v.staging pr.val with entries := SMap.set (v.staging pr.val).entries (k.1 * 65536 + k.2) e })) ∧
    (∀ e, m.rulReach pr.val = true → m.stageStatus pr.val k.1 k.2 false = stOk →
      let v := m.setFld Reg.RUL_STG_CMD_RESULT 0 pr.val stOk
      SMap.find (v.staging pr.val).entries (k.1 * 65536 + k.2) = some e → Served s pr.val 3 (.rulStgRead pr)
        (v.setAll ((List.range (kindWords k.1)).map fun n => (Reg.RUL_STG_DATA, n, pr.val, entryWord e n)))) ∧
    (m.rulReach pr.val = true → m.bridgeRuns = false → (m.staging pr.val).pending = false →
      Served s pr.val 3 (.rulStgClear pr) ((m.setFld Reg.RUL_STG_CMD_RESULT 0 pr.val stOk).setStaging pr.val
        { m.staging pr.val with entries := [] })) ∧
    (s.bridgeRuns = true → (s.linkOf p.val).isSome = true → s.on Reg.HST_STATUS_RESET_BUSY 0 p.val = false →
      let v := s.setFld Reg.RUL_STG_CMD_RESULT 0 p.val stInvalid
      Runs s (.rulStgWrite p.castSucc) v ∧ Runs s (.rulStgRead p.castSucc) v ∧ Runs s (.rulStgClear p.castSucc) v ∧
      s.commitStatus p.val = stInvalid) ∧
    (mp.isSup p.val = true →
      let pin := (mp.wr Reg.RUL_PIN_VERSION num.toNat).pinVersion num.toNat
      let unpin := (mp.wr Reg.RUL_PIN_VERSION num.toNat).unpinVersion num.toNat
      Served s p.val 3 (.rulPinPin p num) (pin.2.wr Reg.RUL_PIN_RESULT pin.1) ∧
      Served s p.val 3 (.rulPinUnpin p num) (unpin.2.wr Reg.RUL_PIN_RESULT unpin.1)) ∧
    (TblPasses mp p.val 1 → Served s p.val 4 (.tblInsert p)
      (if table = 0 then mp.insertL2 p.val else if table = 1 then mp.insertFlow p.val else mp.insertEp p.val)) ∧
    (∀ i b, TblPasses mp p.val 2 → mp.tblSelected p.val table = (some i, b) → Served s p.val 4 (.tblDelete p)
      ((if table = 0 then { mp with tbl := { mp.tbl with l2 := SMap.erase mp.tbl.l2 i } }
        else if table = 1 then mp.flowRemove i else mp.epFree i).tblDone p.val stOk)) ∧
    (∀ i b, TblPasses mp p.val 3 → mp.tblSelected p.val table = (some i, b) →
      Served s p.val 4 (.tblRead p) ((mp.tblShow p.val table i).tblDone p.val stOk)) ∧
    (∀ i b, TblPasses mp p.val 4 → mp.tblSelected p.val table = (some i, b) →
      let w := mp.tblData p.val 2
      let seen := if (mp.epRec i).state = bits w 0 3 then (mp.epRec i).seen else mp.net 0 % 2 ^ 64
      Served s p.val 4 (.tblUpdate p) ((mp.setEp i { mp.epRec i with
        state := bits w 0 3, zone := bits w 8 3, cls := bits w 16 8, seen := seen }).tblDone p.val stOk)) ∧
    (TblPasses mp p.val 5 →
      let d := mp.tblData p.val 0
      let job := (table, mp.fld Reg.TBL_SEL_SPACE 0 p.val, if bitOf d 31 then some (bits d 0 8) else none,
        if bitOf d 30 then some (bits d 8 12) else none)
      let v := mp.flushJob table job.2.1 job.2.2.1 job.2.2.2
      Served s p.val 4 (.tblFlush p) (((({ v with tbl := { v.tbl with flush := SMap.set v.tbl.flush p.val job } } : State).setFld
        Reg.TBL_CMD_RESULT 0 p.val stOk).setFld Reg.TBL_CMD_FLUSH_BUSY 0 p.val 1).setFld Reg.TBL_CMD_PENDING 0 p.val 1)) ∧
    (∀ (v : State) (sp : Nat) (port fid : Option Nat), v.flushJob 0 sp port fid = v.flushL2 port fid ∧
      v.flushJob 1 sp port fid = (v.flowEntries.filter fun e => e.2.space == sp && !e.2.pin).foldl (fun v e => v.flowRemove e.1) v) ∧
    (∀ job, SMap.find s.tbl.flush p.val = some job →
      let v : State := { s with tbl := { s.tbl with flush := SMap.erase s.tbl.flush p.val } }
      Runs s (.tblFlushDone p) ((((v.setFld Reg.TBL_CMD_FLUSH_BUSY 0 p.val 0).setFld Reg.TBL_CMD_PENDING 0 p.val 0).event
        Reg.TBL_INT_STATUS_FLUSH_DONE Reg.TBL_INT_EN_FLUSH_DONE p.val p.val).tblRelease)) ∧
    (∀ i, TblPasses mp p.val 6 → mp.tblAfter p.val table = some i →
      Served s p.val 4 (.tblNext p) ((mp.tblShow p.val table i).tblDone p.val stOk))

/-- A refill and a spill of a pool end, and the frames that waited for them go on; a scrubbed buffer holds zeros and
its handle returns; the supervisor partition sets a quota and pops the error log, and a read of a pool's count takes
one snapshot. The IPD issues the command that its chosen request needs: the column access where its row is open, a
precharge where another row is, an ACTIVATE where none is; the oldest issued access completes; a refresh closes its
bank's row; the patrol scrub reads a line; a tracking step is counted; a full retraining starts, one at a time, and
ends with or without a working setting; a retirement names a spare, and ends with the spare in the channel's place.
A cache fill delivers its line to what waits for it, and the oldest evicted line is written back. -/
def Obligations.TheMemorySystemMovesLinesAndKeepsItsChannels : Prop :=
  ∀ (s : State) (now : Nat) (pool : Fin 256) (hd : BitVec 24) (part : Fin 4) (p5 : Fin 5) (w : W32) (pc : Fin 32) (ecc : Fin 3)
      (bank : Fin 16) (ps w16 w33 : Bool) (line : Fin 134217728) (ecs : List (Fin 3)) (tmp mrg : BitVec 8) (bad : List Nat)
      (ca : Fin 221),
    let u := s.upTo now
    let m := s.woken part.val
    let limit := u.rd Reg.IPD_CFG_AGE_LIMIT * 100
    let old (r : DramReq) : Bool := r.cls != 0 && limit ≤ u.now - r.at_ && !r.promoted
    let aged : PChan := { u.pchan pc.val with
      queue := (u.pchan pc.val).queue.map (fun r => if old r then { r with promoted := true } else r),
      draining := (u.pchan pc.val).drain }
    let u1 := (u.setPchan pc.val aged).bumpFld Reg.IPD_PROMOTE_CNT 0 0 ((u.pchan pc.val).queue.filter old).length
    let writes := aged.queued.filter fun r => r.write
    let dram (r : DramReq) : Prop :=
      chooseReq u1.now limit (if aged.draining && !writes.isEmpty then writes else aged.queued) = some r
    ((s.pool pool.val).refilling = true → let v := s.endRefill pool.val
      Runs s (.poolRefillDone pool) (v.resumeIntake (v.edg.granted.length + 1))) ∧
    ((s.pool pool.val).spilling = true → let v := s.endSpill pool.val
      Runs s (.poolSpillDone pool) (v.resumeIntake (v.edg.granted.length + 1))) ∧
    ((s.pool pool.val).scrubbing.contains hd.toNat = true →
      let n := s.poolSize pool.val * 256
      let v := s.setPool pool.val { s.pool pool.val with scrubbing := (s.pool pool.val).scrubbing.erase hd.toNat }
      let w := v.ipdWrite (v.poolBase pool.val + hd.toNat * n) (List.replicate n 0)
      Runs s (.bufferScrubDone pool hd) (if (s.pool pool.val).lost.contains hd.toNat then w.uncharge pool.val hd.toNat
        else w.returnHandle pool.val hd.toNat)) ∧
    (m.isSup part.val = true →
      let k := m.fld Reg.CIS_SEL_POOL 0 part.val
      Served s part.val 5 (.cisQuotaWrite part p5 w)
        (m.setPool k { m.pool k with quota := SMap.put (m.pool k).quota p5.val (w.toNat % 2 ^ 24) 0 })) ∧
    (∀ e es, m.isSup part.val = true → m.cis.errs = e :: es → Served s part.val 5 (.cisErrPop part)
      (({ m with cis := { m.cis with errs := es } } : State).setAll ((Reg.CIS_ERR_POP_RESULT, 0, 0, stOk) ::
        (Reg.CIS_STATUS_ERR_COUNT, 0, 0, es.length) ::
          (List.range 4).map fun n => (Reg.CIS_ERR_DATA_DATA, n, 0, e.word n)))) ∧
    (m.isSup part.val = true → m.cis.errs = [] → Served s part.val 5 (.cisErrPop part)
      (m.setAll ((Reg.CIS_ERR_POP_RESULT, 0, 0, stEmpty) :: (List.range 4).map fun n => (Reg.CIS_ERR_DATA_DATA, n, 0, 0)))) ∧
    (MayRead s part.val 5 →
      let k := m.fld Reg.CIS_SEL_POOL 0 part.val
      let count := if m.poolEn k then m.poolCount k else 0
      let own (n : Nat) : Nat := if k = 0 then 0 else n
      Runs s (.cisPoolCountRead part) ((m.setAll ([(Reg.CIS_POOL_COUNT_COUNT, 0, 0, count),
        (Reg.CIS_POOL_FREE_FREE, 0, 0, if m.poolEn k then m.free_ k else 0),
        (Reg.CIS_POOL_LOST_LOST, 0, 0, (m.pool k).lost.length), (Reg.CIS_POOL_CACHE_CACHED, 0, 0, own (m.pool k).cache.length),
        (Reg.CIS_POOL_CACHE_REFILLING, 0, 0, own (flagBit (m.pool k).refilling)),
        (Reg.CIS_POOL_CACHE_SPILLING, 0, 0, own (flagBit (m.pool k).spilling))] ++
          (List.range 5).map fun n => (Reg.CIS_USED_USED, n, 0, SMap.get (m.pool k).used n 0))).emit (.reg part.val count))) ∧
    (∀ r, u.pcServes pc.val = true → dram r → ∀ x, SMap.find aged.openRow (u1.place r.addr).2.1 = some x →
      Runs s (.ipdCommandIssue now pc) (if x = (u1.place r.addr).2.2 then u1.issueColumn pc.val aged r
        else u1.setPchan pc.val { aged with openRow := SMap.erase aged.openRow (u1.place r.addr).2.1 })) ∧
    (∀ r, u.pcServes pc.val = true → dram r → SMap.find aged.openRow (u1.place r.addr).2.1 = none →
      let act := activate (u1.rd Reg.IPD_NR_CFG_NR_THRESH) (u1.place r.addr).2.2 (SMap.get aged.acts (u1.place r.addr).2.1 [])
      let v := u1.setPchan pc.val { aged with
        openRow := SMap.set aged.openRow (u1.place r.addr).2.1 (u1.place r.addr).2.2
        acts := SMap.put aged.acts (u1.place r.addr).2.1 act.1 [] }
      Runs s (.ipdCommandIssue now pc) (if act.2 then v.bump Reg.IPD_NREF_CNT else v)) ∧
    (∀ r rs, (s.pchan pc.val).issued = r :: rs →
      let v := s.setPchan pc.val { s.pchan pc.val with issued := rs }
      Runs s (.ipdAccessComplete pc ecc) (if r.write || v.offlineAt r.addr then v else v.wordFound r.addr ecc.val)) ∧
    Runs s (.refresh pc bank ps) (s.setPchan pc.val { s.pchan pc.val with
      openRow := SMap.erase (s.pchan pc.val).openRow bank.val, acts := if ps then [] else (s.pchan pc.val).acts }) ∧
    (s.offlineAt (64 * line.val) = false → ((List.range 8).filter fun i => (ecs.map Fin.val).getD i 0 == 1) = [] →
      let v : State := { s with mem := { s.mem with
        scrubPass := if line.val ≤ s.mem.scrubLast then s.mem.scrubPass + 1 else s.mem.scrubPass, scrubLast := line.val } }
      Runs s (.patrolScrub line ecs) ((List.range 8).foldl
        (fun v i => v.wordFound (64 * line.val + 8 * i) ((ecs.map Fin.val).getD i 0)) (v.ipdReq (64 * line.val) false clsBulk))) ∧
    (bitOf (s.rd Reg.IPD_OFFLINE_PC) pc.val = false → Runs s (.trackingStep pc ps)
      (if ps then (s.bump Reg.IPD_TRACK_CNT).askRetrain pc.val else s.bump Reg.IPD_TRACK_CNT)) ∧
    (s.on Reg.IPD_STATUS_FULL_TRAIN 0 0 = false → bitOf (s.rd Reg.IPD_OFFLINE_PC) pc.val = false →
      s.on Reg.IPD_STATUS_TRAINED 0 0 = true →
      (s.mem.retrainQ = [] → Runs s (.fullRetrainStart pc)
        (s.setAll [(Reg.IPD_STATUS_FULL_TRAIN, 0, 0, 1), (Reg.IPD_STATUS_FT_PC, 0, 0, pc.val)])) ∧
      (∀ qs, s.mem.retrainQ = pc.val :: qs → Runs s (.fullRetrainStart pc)
        (({ s with mem := { s.mem with retrainQ := qs } } : State).setAll
          [(Reg.IPD_STATUS_FULL_TRAIN, 0, 0, 1), (Reg.IPD_STATUS_FT_PC, 0, 0, pc.val)]))) ∧
    ((s.on Reg.IPD_STATUS_FULL_TRAIN 0 0 && s.rd Reg.IPD_STATUS_FT_PC == pc.val) = true →
      let v := (s.wr Reg.IPD_STATUS_FULL_TRAIN 0).bump Reg.IPD_RETRAIN_CNT
      let calm : PChan := { v.pchan pc.val with openRow := [], ceTimes := [] }
      let w := v.setPchan pc.val calm
      Runs s (.fullRetrainEnd pc true tmp mrg) ((v.setPchan pc.val { calm with
        temp := tmp.toNat, margin := mrg.toNat }).eventSup Reg.IPD_INT_STATUS_RETRAIN_DONE Reg.IPD_INT_EN_RETRAIN_DONE) ∧
      Runs s (.fullRetrainEnd pc false tmp mrg) (if w.mem.retireQ.contains pc.val then w
        else { w with mem := { w.mem with retireQ := w.mem.retireQ ++ [pc.val] } })) ∧
    (∀ sp v, s.boot.held = false → s.on Reg.IPD_STATUS_TRAINED 0 0 = true → s.on Reg.IPD_STATUS_COPYING 0 0 = false →
      bitOf (s.rd Reg.IPD_OFFLINE_PC) pc.val = false →
      let why := if s.mem.retireQ.contains pc.val then 6 else 2
      ({ s with mem := { s.mem with retireQ := s.mem.retireQ.filter (· != pc.val) } } : State).trySpares pc.val why
        (fun x => if x = 16 then w16 else w33) (spareOrder pc.val) = (some sp, v) →
      Runs s (.pcRetireStart pc w16 w33) ((v.setPchan pc.val { v.pchan pc.val with spare := some (sp, why) }).setAll
        [(Reg.IPD_STATUS_COPYING, 0, 0, 1), (Reg.IPD_STATUS_COPY_PC, 0, 0, pc.val)])) ∧
    (∀ sp why, (s.pchan pc.val).spare = some (sp, why) → bad.filter (fun x => decide (x < 2 ^ 30) && s.pcOf (8 * x) == pc.val) = [] →
      let v := s.setPchan pc.val { s.pchan pc.val with spare := none, openRow := [], acts := [], ceTimes := [] }
      let w : State := { v with mem := { v.mem with
        phys := SMap.set v.mem.phys pc.val sp, sparesGone := v.mem.sparesGone ++ [sp]
        spareRows := v.mem.spareRows.filter fun r => r / 2 ^ 18 != pc.val } }
      Runs s (.pcRetireComplete pc bad) ((((w.setAll [(Reg.IPD_STATUS_COPYING, 0, 0, 0),
        (Reg.IPD_STATUS_COPY_PC, 0, 0, 0)]).noteRsv 5 why pc.val (s.physOf pc.val) sp).showIpd.eventSup
          Reg.FTH_ST_INT_STATUS_SPARE_IN Reg.FTH_ST_INT_EN_EN).eventSup Reg.IPD_INT_STATUS_RETIRED Reg.IPD_INT_EN_RETIRED)) ∧
    (∀ me, ((s.cache ca.val).misses.take (cacheGeo ca.val).entries).find? (fun x => x.addr == 64 * line.val) = some me →
      nextCache ca.val = none →
      let v := (s.setCache ca.val { s.cache ca.val with
        misses := (s.cache ca.val).misses.filter fun x => x.addr != 64 * line.val }).askWaiting ca.val
      (v.cache ca.val).whereIs ca.val (64 * line.val) = 0 → v.offlineAt (64 * line.val) = false → (me.prefetch && me.waiters.isEmpty) = false →
      let got := v.fetchLine ca.val (64 * line.val)
      Runs s (.cacheFillComplete ca line) (((got.2.install ca.val got.1).serveWaiters ca.val me.waiters).serveMaint ca.val
        (64 * line.val) me.maint)) ∧
    (∀ l ls, (s.cache ca.val).evict = l :: ls → Runs s (.evictionWriteback ca)
      ((s.setCache ca.val { s.cache ca.val with evict := ls }).writeBack ca.val l))

/-- A command of the supervisor partition to a packet engine, with none running, resets it, swaps it through its
basin's out map, or acknowledges its escalation. A host posts flags of its own byte to a descriptor of its partition
while the post FIFO has room; the supervisor restarts a stopped control engine. A host's request acquires a lock, or
waits, tries it, releases it, cancels its wait, or queries it, and the supervisor partition forces a lock free or
sets its count; each answers in the result registers, and the Pumphouse schedules. -/
def Obligations.HostCommandsToEnginesDescriptorsAndLocks : Prop :=
  ∀ (s : State) (part : Fin 4) (e : BitVec 8) (w : W32) (ce : Fin 8) (lock : BitVec 13) (n : BitVec 16) (prio : BitVec 6)
      (tmo : BitVec 24),
    let m := s.woken part.val
    let me := m.wr Reg.BSN_ENG_CMD_ENGINE e.toNat
    (m.isSup part.val = true → m.imageRuns = true → m.on Reg.BSN_ENG_CMD_PENDING 0 0 = false → e.toNat ≤ 191 →
      me.fld Reg.BSN_ENG_ESTATE e.toNat 0 = 0 →
      let v := (me.engResult stOk).wr Reg.BSN_ENG_CMD_PENDING 1
      Served s part.val 9 (.bsnEngReset part e)
        ((v.setEngine e.toNat { v.engine e.toNat with cmdPending := true }).engineHold e.toNat)) ∧
    (m.isSup part.val = true → m.imageRuns = true → m.on Reg.BSN_ENG_CMD_PENDING 0 0 = false → e.toNat ≤ 191 →
      me.hasSpare (e.toNat / 16) = true → me.switchAllowed = true →
      let v := (me.engResult stOk).wr Reg.BSN_ENG_CMD_PENDING 1
      Served s part.val 9 (.bsnEngSwap part e) ((v.setEngine e.toNat { v.engine e.toNat with swap := true }).switchBegin
        (1 + e.toNat / 16) (e.toNat / 16) 4)) ∧
    (m.isSup part.val = true → m.imageRuns = true → m.on Reg.BSN_ENG_CMD_PENDING 0 0 = false → e.toNat ≤ 191 →
      me.on Reg.BSN_ENG_ESC_PENDING e.toNat 0 = true →
      let v := (me.engResult stOk).setFld Reg.BSN_ENG_ESC_PENDING e.toNat 0 0
      Served s part.val 9 (.bsnEngAckEsc part e) (v.setEngine e.toNat { (me.engine e.toNat) with escWait := none })) ∧
    (let d := w.toNat % 4096
      let f := bits w.toNat 16 16
      let v := m.setFld Reg.PMP_POST_DESC 0 part.val d
      f ≠ 0 → f % 256 = 0 → (v.desc d).state ≠ 0 → ((v.desc d).hostPart = part.val ∨ v.isSup part.val = true) →
      v.fifoFull = false → Served s part.val 8 (.pmpPostWrite part w)
        ((v.post d f).setFld Reg.PMP_POST_STAT_RESULT 0 part.val stOk)) ∧
    (m.isSup part.val = true →
      let v := m.wr Reg.PMP_CE_CMD_CE ce.val
      (v.ce ce.val).state = 2 → v.fth.heldRegions.contains (16 + ce.val) = false → Served s part.val 8 (.pmpCeRestart part ce)
        (((v.wr Reg.PMP_CE_CMD_RESULT stOk).setCe ce.val { v.ce ce.val with state := 0 }).select ce.val).schedule) ∧
    (
      let v := m.hostReq part.val lock.toNat 1 n.toNat prio.toNat tmo.toNat
      let l := v.fld Reg.LKG_HREQ0_LOCK 0 part.val
      v.fld Reg.LKG_HREQ0_OP 0 part.val = 1 → v.on Reg.LKG_HRES_PENDING 0 part.val = false →
      Served s part.val 7 (.lkgHostAcq part lock n prio tmo)
        (match v.acquire l (reqHost part.val) (unitsOf (v.fld Reg.LKG_HREQ0_N 0 part.val)) (v.fld Reg.LKG_HREQ1_PRIO 0 part.val) false
          (if v.fld Reg.LKG_HREQ1_TO 0 part.val = 0 then none else some (v.now + 1000 * v.fld Reg.LKG_HREQ1_TO 0 part.val)) with
        | (none, w) => w.setFld Reg.LKG_HRES_PENDING 0 part.val 1
        | (some st, w) => w.hostLockDone part.val st (w.hostValue l)).schedule) ∧
    (
      let v := m.hostReq part.val lock.toNat 2 n.toNat prio.toNat tmo.toNat
      let l := v.fld Reg.LKG_HREQ0_LOCK 0 part.val
      v.fld Reg.LKG_HREQ0_OP 0 part.val = 2 → v.on Reg.LKG_HRES_PENDING 0 part.val = false → ∀ st w,
      v.acquire l (reqHost part.val) (unitsOf (v.fld Reg.LKG_HREQ0_N 0 part.val)) (v.fld Reg.LKG_HREQ1_PRIO 0 part.val) true none = (some st, w) →
      Served s part.val 7 (.lkgHostTry part lock n prio tmo)
        (w.hostLockDone part.val st (w.hostValue l)).schedule) ∧
    (
      let v := m.hostReq part.val lock.toNat 3 n.toNat prio.toNat tmo.toNat
      let l := v.fld Reg.LKG_HREQ0_LOCK 0 part.val
      v.fld Reg.LKG_HREQ0_OP 0 part.val = 3 → v.on Reg.LKG_HRES_PENDING 0 part.val = false →
      Served s part.val 7 (.lkgHostRel part lock n prio tmo)
        (let r := v.release l (reqHost part.val) (unitsOf (v.fld Reg.LKG_HREQ0_N 0 part.val))
        (r.2.hostLockDone part.val r.1 (r.2.hostValue l)).schedule)) ∧
    (
      let v := m.hostReq part.val lock.toNat 4 n.toNat prio.toNat tmo.toNat
      v.fld Reg.LKG_HREQ0_OP 0 part.val = 4 → ∀ k, v.queuedOn (reqHost part.val) = some k →
      Served s part.val 7 (.lkgHostCancel part lock n prio tmo)
        (((v.leaveQueue k (reqHost part.val)).endLockWait k (reqHost part.val) stLost).hostLockDone part.val stOk
          (v.hostValue k)).schedule) ∧
    (
      let v := m.hostReq part.val lock.toNat 5 n.toNat prio.toNat tmo.toNat
      let l := v.fld Reg.LKG_HREQ0_LOCK 0 part.val
      v.fld Reg.LKG_HREQ0_OP 0 part.val = 5 → v.on Reg.LKG_HRES_PENDING 0 part.val = false → v.lockRight l (reqHost part.val) = true →
      Served s part.val 7 (.lkgHostQuery part lock n prio tmo)
        (v.hostLockDone part.val stOk (v.lockValue l)).schedule) ∧
    (m.isSup part.val = true → Served s part.val 7 (.lkgForce part lock)
      ((((m.wr Reg.LKG_CMD_LOCK lock.toNat).forceLock lock.toNat).2.wr Reg.LKG_CMD_RES_RESULT
        ((m.wr Reg.LKG_CMD_LOCK lock.toNat).forceLock lock.toNat).1).schedule)) ∧
    (m.isSup part.val = true →
      let v := ((m.wr Reg.LKG_CMD_LOCK lock.toNat).wr Reg.LKG_CMD_VALUE n.toNat).setCount lock.toNat n.toNat
      Served s part.val 7 (.lkgSetcount part lock n) ((v.2.wr Reg.LKG_CMD_RES_RESULT v.1).schedule))

/-- Where debug of the target's kind is open and the command reaches it: HALT halts a thread or descriptor that
runs; RESUME lets one that is halted go on, STEP for one bundle; KILL parks a thread and frees a descriptor; RDREG
and WRREG read and write a register or the pc of a halted target; BRK_SET gives an engine's breakpoint its address
and threads, BRK_CLR clears it. The result is OK. -/
def Obligations.DebugCommandsHaltReadAndSetTheirTarget : Prop :=
  ∀ (s : State) (part : Fin 5) (g : Nat),
    let m := s.woken part.val
    let w := m.wr Reg.RPL_DBG_CMD_CMD 0
    let r := w.rd Reg.RPL_DBG_CMD_REG
    let brk := (w.fld Reg.RPL_DBG_BRK_ADDR (w.rd Reg.RPL_DBG_CMD_BRK) 0, w.fld Reg.RPL_DBG_BRK_THREADS (w.rd Reg.RPL_DBG_CMD_BRK) 0)
    let x : W32 := BitVec.ofNat 32 (w.rd Reg.RPL_DBG_DATA_DATA)
    (DebugsThread m part.val g → (w.thread g).state < 3 → Served s part.val 15 (.dbgHalt part)
      (((w.dbgResult stOk).haltThread g).stillCheck (g / 8))) ∧
    (DebugsDesc m part.val g → (w.desc g).state ≠ 0 → (w.desc g).state < 4 → Served s part.val 15 (.dbgHalt part)
      (((w.dbgResult stOk).haltDesc g).schedule)) ∧
    (DebugsThread m part.val g → (w.thread g).state = 4 → Served s part.val 15 (.dbgResume part)
      ((w.dbgResult stOk).resumeThread g false)) ∧
    (DebugsDesc m part.val g → (w.desc g).state = 5 → Served s part.val 15 (.dbgResume part)
      ((w.dbgResult stOk).resumeDesc g false)) ∧
    (DebugsThread m part.val g → (w.thread g).state = 4 → Served s part.val 15 (.dbgStep part)
      ((w.dbgResult stOk).resumeThread g true)) ∧
    (DebugsDesc m part.val g → (w.desc g).state = 5 → Served s part.val 15 (.dbgStep part)
      ((w.dbgResult stOk).resumeDesc g true)) ∧
    (DebugsThread m part.val g → (w.thread g).state < 5 → Served s part.val 15 (.dbgKill part)
      ((w.dbgResult stOk).park g)) ∧
    (DebugsDesc m part.val g → (w.desc g).state ≠ 2 → Served s part.val 15 (.dbgKill part)
      ((w.freeDesc g).dbgResult stOk)) ∧
    (DebugsThread m part.val g → dbgPort r = true → (w.thread g).state = 4 → Served s part.val 15 (.dbgRdreg part)
      ((w.dbgResult stOk).wr Reg.RPL_DBG_DATA_DATA (if r = 0x048 then (w.thread g).pc else ((w.thread g).port r).toNat))) ∧
    (DebugsDesc m part.val g → dbgPort r = true → (w.desc g).state = 5 → Served s part.val 15 (.dbgRdreg part)
      (((w.descContext g).2.dbgResult stOk).wr Reg.RPL_DBG_DATA_DATA
        (if r = 0x048 then (w.descContext g).1.pc else ((w.descContext g).1.port r).toNat))) ∧
    (DebugsThread m part.val g → dbgPort r = true → (w.thread g).state = 4 → Served s part.val 15 (.dbgWrreg part)
      ((w.dbgResult stOk).updThread g fun th => if r = 0x048 then { th with pc := x.toNat % 2 ^ 15 } else th.setReg r x)) ∧
    (DebugsDesc m part.val g → dbgPort r = true → (w.desc g).state = 5 → Served s part.val 15 (.dbgWrreg part)
      ((((w.descContext g).2.saveContext g ((w.descContext g).1.dbgWrite r x)).dbgResult stOk))) ∧
    (DebugsThread m part.val g → Served s part.val 15 (.dbgBrkSet part)
      (({ w with rpl := { w.rpl with brk := SMap.set w.rpl.brk (w.brkKey g) brk } } : State).dbgResult stOk)) ∧
    (DebugsThread m part.val g → Served s part.val 15 (.dbgBrkClr part)
      (({ w with rpl := { w.rpl with brk := SMap.erase w.rpl.brk (w.brkKey g) } } : State).dbgResult stOk))

/-- A trigger starts the post window and answers OK, or DOUBLE where one runs; a command, the pin and the end of the
post window freeze the ring. A frozen ring that is neither exported nor replayed is released empty, recording again;
the selected records that fit the export area are exported; a replay pins the versions of the selected droplets,
takes its basin out and begins. An abort ends a session at step 5, and a session that has nothing left, or was
aborted, returns. Each refill adds to the bandwidth bucket, up to 64 KiB. -/
def Obligations.TheRecordFreezesExportsAndReplays : Prop :=
  ∀ (s : State) (now : Nat) (part : Fin 4),
    let u := s.upTo now
    let m := s.woken part.val
    let dt : Nat := u.now - u.rpl.bucketAt
    let pinned (sel : List RplRec) : List Nat :=
      ((sel.filter fun r => r.kind == 1).map fun r => (dropletOf ((r.bytes.drop 16).take 64)).version).eraseDups
    ((m.isSup part.val = true → Served s part.val 15 (.rplTrigger part)
        ((m.startPost 6).2.rplResult (if (m.startPost 6).1 then stOk else stDouble))) ∧
      (m.isSup part.val = true → Served s part.val 15 (.rplFreeze part)
        ((m.freeze 3).2.rplResult (if (m.freeze 3).1 then stOk else stDouble)))) ∧
    (∀ k, u.rpl.post = some (0, k) → Runs s (.postWindowEnd now) (u.freeze k).2) ∧
    Runs s (.freezePinEdge now) (u.freeze 1).2 ∧
    (m.isSup part.val = true → m.on Reg.RPL_STATUS_FROZEN 0 0 = true → m.rpl.exp = none → m.rpl.replay = none →
      let v : State := { m with rpl := { m.rpl with
        ring := [], next := 0, held := 0, wpos := 0, dec := [], lost := 0, inexact := false, marked := 0, post := none } }
      Served s part.val 15 (.rplRelease part) ((v.setAll [(Reg.RPL_STATUS_FROZEN, 0, 0, 0), (Reg.RPL_STATUS_FREEZE_CAUSE, 0, 0, 0),
        (Reg.RPL_STATUS_RECORDING, 0, 0, 1), (Reg.RPL_RING_FIRST_INDEX, 0, 0, 0),
        (Reg.RPL_RING_NEXT_INDEX, 0, 0, 0)]).rplResult stOk)) ∧
    (∀ rs, m.isSup part.val = true → m.on Reg.RPL_STATUS_FROZEN 0 0 = true → m.rpl.exp = none → m.rpl.replay = none →
      m.selected = some rs →
      rs.foldl (fun n r => n + r.bytes.length) 0 + 3437 * (batchesOf rs 0 0 0).length ≤ m.rd Reg.RPL_CFG_EXP_MIB * 1048576 →
      m.fth.lc ≠ 0 → m.fth.lc ≠ 4 → Served s part.val 15 (.rplExport part)
        (((m.rplResult stOk).wr Reg.RPL_CMD_PENDING 1).writeBatch (batchesOf rs 0 0 0) 0)) ∧
    (∀ sel v, m.isSup part.val = true → m.on Reg.RPL_STATUS_FROZEN 0 0 = true → m.rpl.exp = none → m.rpl.replay = none →
      m.selected = some sel → m.rd Reg.RPL_RPY_CFG_BASIN < 12 → m.rd Reg.RPL_RPY_CFG_SRC < 12 → m.switchAllowed = true →
      m.inService (m.rd Reg.RPL_RPY_CFG_BASIN) = true → m.pinAll (pinned sel) = (stOk, v) →
      let ses : Session := { basin := m.rd Reg.RPL_RPY_CFG_BASIN, src := m.rd Reg.RPL_RPY_CFG_SRC, versions := pinned sel,
                             feed := replayedOf v.rpl.ring sel (m.rd Reg.RPL_RPY_CFG_BASIN) (m.rd Reg.RPL_RPY_CFG_SRC),
                             log := logsOf sel (m.rd Reg.RPL_RPY_CFG_BASIN) (m.rd Reg.RPL_RPY_CFG_SRC) }
      let y : State := { v with rpl := { v.rpl with replay := some ses } }
      Served s part.val 15 (.rplReplay part) (((y.setAll [(Reg.RPL_STATUS_REPLAY, 0, 0, 1), (Reg.RPL_STATUS_DIVERGED, 0, 0, 0),
        (Reg.RPL_CMD_PENDING, 0, 0, 1), (Reg.RPL_RPY_STAT_DONE, 0, 0, 0), (Reg.RPL_RPY_STAT_INEXACT, 0, 0,
          flagBit (sel.any fun r => bitOf (recNum r.bytes 1 1) 0))]).rplResult stOk).switchBegin
            (1 + m.rd Reg.RPL_RPY_CFG_BASIN) (m.rd Reg.RPL_RPY_CFG_BASIN) 2)) ∧
    (∀ ses, m.isSup part.val = true → m.rpl.replay = some ses →
      (ses.step = 2 → Served s part.val 15 (.rplAbort part) ((m.setSession { ses with step := 3 }).rplResult stOk)) ∧
      (ses.step = 4 → Served s part.val 15 (.rplAbort part) ((m.setSession { ses with step := 6 }).rplResult stOk))) ∧
    (∀ ses, s.rpl.replay = some ses → s.weir.switching = none →
      (ses.step = 6 ∨ ses.step = 4 ∧ ses.feed = [] ∧ ses.slots = []) → Runs s .replayEnd (s.sessionReturn ses)) ∧
    Runs s (.recordBucketRefill now) { u with rpl := { u.rpl with
      bucket := min (u.rpl.bucket + dt * u.rd Reg.RPL_RATE_RATE) (65536 * 16), bucketAt := u.now,
      unwritten := u.unwritten, drainAt := u.now } }

/-- Before step 3 of the start sequence a configuration request is answered with a retry status; afterwards a write
is kept and a read gives the dword. A read, a write or an AtomicOp in the partition's window completes with the
bytes of the IPD or with the old value, after waking the device from STILL; a word lost reads 0 with the poisoned
status, and what is written to an offline address is discarded and counted. A function-level reset or a link reset
starts the partition's reset: its descriptors are abandoned, RESET_BUSY is set, its waiting frames and host queues
are dried, its locks and staged updates are lost; a reset already running takes a further one in. A link that comes
up sets the width and rate of its partition. -/
def Obligations.LinksAndWindowsServeTheirHosts : Prop :=
  ∀ (s : State) (part link : Fin 4) (reg : BitVec 12) (data : W32) (off n : Nat) (bytes : List Byte) (op : Fin 3)
      (x y : BitVec 128) (width rate : BitVec 4),
    (
      let r := fun (w : Bool) => Instr.pcieConfigRequest link w reg data
      s.islandSelected (4 + link.val) = true → s.boot.brownout = false →
      ((s.boot.held = true ∨ s.boot.stage < 2) → ∀ w, Runs s (r w) (s.emit (.config link.val 2 0))) ∧
      (s.boot.held = false → 2 ≤ s.boot.stage →
        Runs s (r true) (({ s with hst := { s.hst with
          config := SMap.put s.hst.config (link.val * 1024 + reg.toNat / 4) data.toNat 0 } }).emit (.config link.val 0 0)) ∧
        Runs s (r false) (s.emit (.config link.val 0 (s.configRead link.val (reg.toNat / 4)))))) ∧
    (s.bar4Ready part.val = true → s.hostWakes.winOk part.val off n false = true →
      let v := s.hostWakes
      let a := v.winBase part.val + off
      Runs s (.bar4Read part off n) ((v.ipdReqs a n false clsBulk).complete_ part.val (if v.ipdLost a n then 3 else 0)
        ((List.range n).map fun i => if v.wordLost (a + i) then (0 : Byte) else (v.ipdRead (a + i) 1).headD 0))) ∧
    (s.bar4Ready part.val = true → s.hostWakes.winOk part.val off bytes.length true = true →
      let v := s.hostWakes
      let a := v.winBase part.val + off
      let w := (v.ipdWrite a bytes).ipdReqs a bytes.length true clsBulk
      Runs s (.bar4Write part off bytes) (if (List.range bytes.length).any fun i => v.offlineAt (a + i)
        then w.bumpFld Reg.HST_BAR4_LOST 0 part.val 1 else w)) ∧
    (∀ (k : Fin 2) (old : Nat) (w : State),
      let z := if k.val = 0 then 4 else 8
      s.bar4Ready part.val = true → off % z = 0 → s.hostWakes.winOk part.val off z true = true →
      s.hostWakes.ipdAtomic (s.hostWakes.winBase part.val + off) z (if op = 0 then 0 else if op = 1 then 2 else 3)
        (x.toNat % 2 ^ (8 * z)) (y.toNat % 2 ^ (8 * z)) = (some old, w) →
      Runs s (.pcieAtomicop part off op (Fin.castSucc k) x y) (w.complete_ part.val 0 (leBytes z old))) ∧
    (s.rd Reg.PWR_STATUS_STATE = 3 → s.hostWakes = wakeEvent s s.wall 4) ∧
    (s.rd Reg.PWR_STATUS_STATE ≠ 3 → s.hostWakes = s) ∧
    ((s.linkOf part.val).isSome = true → (s.imageRuns || s.bridgeRuns) = true →
      Runs s (.pcieFunctionLevelReset part) (s.partReset part.val)) ∧
    ((s.imageRuns || s.bridgeRuns) = true →
      let v := { s with hst := { s.hst with linkUp := s.hst.linkUp.filter (· != link.val) } }
      ∀ p, v.partOf link.val = some p → Runs s (.pcieLinkReset link) (v.partReset p)) ∧
    (s.boot.held = false → s.islandSelected (4 + link.val) = true → s.islandInReset (4 + link.val) = false →
      let v := { s with hst := { s.hst with linkUp := if s.hst.linkUp.contains link.val then s.hst.linkUp else link.val :: s.hst.linkUp } }
      ∀ p, v.partOf link.val = some p → Runs s (.pcieLinkUp link width rate)
        (v.setAll [(Reg.HST_PART_WIDTH, 0, p, width.toNat), (Reg.HST_PART_RATE, 0, p, rate.toNat)])) ∧
    (s.on Reg.HST_STATUS_RESET_BUSY 0 part.val = false →
      let v := (s.abandonTx part.val).setFld Reg.HST_STATUS_RESET_BUSY 0 part.val 1
      let w := ((List.range 64).foldl (fun s q => s.dryHostQueue (64 * part.val + q) dryPartitionReset)
        (v.dryWaiting (inPortHost part.val) dryPartitionReset))
      s.partReset part.val = ((w.loseHostLocks part.val).loseStaging part.val).loseTblCommand part.val) ∧
    (s.on Reg.HST_STATUS_RESET_BUSY 0 part.val = true → s.partReset part.val = s)

/-- A host enables a queue, which starts with its indexes 0 or, while it shuts down, once its shutdown ends; it
disables one, which shuts down and then reads DISABLED and raises its vector. A receive doorbell sets the consumer
index and a transmit doorbell the producer index of an enabled queue without error; an index that the ring cannot
hold sets ERR. The hold of a vector ends, with a raise that came meanwhile. The supervisor resets a partition by
HST_PRST; a bound port 100 ms down resets it too. Once no droplet of the partition is held or circulates, its banked
registers, its vector table and pending bits, its holds and turns return to reset, its reset is counted and
PART_RESET is raised. -/
def Obligations.HostQueuesAreEnabledShutDownAndReset : Prop :=
  ∀ (s : State) (part : Fin 4) (lat : BitVec 20) (tx : Bool) (q : Fin 64) (w : W32) (now : Nat) (vec : Fin 128)
      (target : BitVec 3),
    let m := s.woken part.val
    let u := s.upTo now
    (Served s part.val 17 (.hstLatWrite part lat)
      (m.setFld Reg.HST_LAT_LAT 0 part.val lat.toNat)) ∧
    (Served s part.val 17 (.hostQueueEnable part tx q)
      (let v := m.setFld (ringFld tx Reg.HST_RXQ_EN Reg.HST_TXQ_EN) q.val part.val 1
      if m.ringState tx q.val part.val = 0 then v.ringStart tx q.val part.val
      else if m.ringState tx q.val part.val = 2 then
        v.setFld (ringFld tx Reg.HST_RXQ_ENABLE_PENDING Reg.HST_TXQ_ENABLE_PENDING) q.val part.val 1
      else v)) ∧
    (Served s part.val 17 (.hostQueueDisable part tx q)
      (
      let v := m.setFld (ringFld tx Reg.HST_RXQ_EN Reg.HST_TXQ_EN) q.val part.val 0
      let r := if tx then v.fetchedNow q.val part.val else (0, v)
      if m.ringState tx q.val part.val = 1 then
        ({ r.2 with hst := { r.2.hst with fetched := SMap.put r.2.hst.fetched (part.val * 64 + q.val) r.1 0 } }).setFld
          (ringFld tx Reg.HST_RXQ_STATE Reg.HST_TXQ_STATE) q.val part.val 2
      else v.setFld (ringFld tx Reg.HST_RXQ_ENABLE_PENDING Reg.HST_TXQ_ENABLE_PENDING) q.val part.val 0)) ∧
    (m.ringState false q.val part.val = 1 → m.ringErr false q.val part.val = false → Served s part.val 17 (.rxDoorbellWrite part q w)
      (let x := w.toNat % 2 ^ 17
      let c := m.ringCons false q.val part.val
      if idxDiff (m.ringProd false q.val part.val) c < idxDiff x c then m.ringFails false q.val part.val
      else m.setFld Reg.HST_RXQ_CONS q.val part.val x)) ∧
    (m.ringState true q.val part.val = 1 → m.ringErr true q.val part.val = false → Served s part.val 17 (.txDoorbellWrite part q w)
      (let x := w.toNat % 2 ^ 17
      let v := m.setFld Reg.HST_TXQ_PROD q.val part.val x
      if 2 ^ m.ringLog true q.val part.val < idxDiff x (m.ringCons true q.val part.val) then v.ringFails true q.val part.val
      else v)) ∧
    (s.ringState tx q.val part.val = 2 → (tx = true → SMap.get s.hst.fetched (part.val * 64 + q.val) 0 = 0) →
      let v := s.setFld (ringFld tx Reg.HST_RXQ_STATE Reg.HST_TXQ_STATE) q.val part.val 0
      Runs s (.hostQueueShutdownDone part tx q)
        ((if s.on (ringFld tx Reg.HST_RXQ_ENABLE_PENDING Reg.HST_TXQ_ENABLE_PENDING) q.val part.val
          then v.ringStart tx q.val part.val else v).signalVec part.val (queueVec tx q.val))) ∧
    (∀ e, SMap.find u.hst.itr (part.val * 128 + vec.val) = some e → e ≤ u.now →
      let k := part.val * 128 + vec.val
      let v := { u with hst := { u.hst with itr := SMap.erase u.hst.itr k, itrPend := u.hst.itrPend.filter (· != k) } }
      Runs s (.itrHoldExpire now part vec) (if u.hst.itrPend.contains k then v.signalVec part.val vec.val else v)) ∧
    (m.isSup part.val = true → target.toNat ≤ 3 →
      let v := m.setFld Reg.HST_PRST_PART 0 part.val target.toNat
      v.on Reg.HST_STATUS_RESET_BUSY 0 target.toNat = false → Served s part.val 17 (.hstPrstGo part target)
        ((v.setFld Reg.HST_PRST_RESULT 0 part.val stOk).partReset target.toNat)) ∧
    (s.on Reg.HST_STATUS_RESET_BUSY 0 part.val = true → s.partDrained part.val = true →
      let keys := bankedFields.map fun f => f.key 0 0 / 2 ^ 24
      let v := { s with
        regs := s.regs.filter fun e => (e.1 == Reg.RUL_COMMIT_RESULT.key 0 part.val && e.2 == stLost) ||
          !(e.1 % 8 == part.val && keys.contains (e.1 / 2 ^ 24))
        hst := { s.hst with
          msix := s.hst.msix.filter fun e => e.1 / 8192 != part.val
          pba := s.hst.pba.filter fun v => v / 2048 != part.val
          itr := s.hst.itr.filter fun e => e.1 / 128 != part.val
          itrPend := s.hst.itrPend.filter fun v => v / 128 != part.val
          rxNext := SMap.erase (SMap.erase s.hst.rxNext part.val) (4 + part.val)
          eoeSeq := s.hst.eoeSeq.filter fun e => e.1 / 128 != part.val } }
      let w := v.bumpFld Reg.HST_RESET_CNT 0 part.val 1
      Runs s (.partitionResetDrained part)
        (w.eventBit Reg.HST_INT_STATUS_PART_RESET Reg.HST_INT_EN_PART_RESET part.val w.supervisor w.supervisor)) ∧
    (∀ e, SMap.find u.hst.eoeDown part.val = some e → u.imageRuns = true → e + 10 ^ 8 ≤ u.now →
      Runs s (.eoeLinkDownTimeout now part)
        (({ u with hst := { u.hst with eoeDown := SMap.erase u.hst.eoeDown part.val } }).partReset part.val))

/-- Under a running image and a running link, the queue in turn whose head message fits gets its bytes, then its
header, then its producer index, in its slots and at the write-back address, and its vector is raised. The transmit
queue in turn has its next descriptor, of a legal form, admitted or refused, once the frames of Touch sources have
gone before it and its pool has a buffer; the status and DONE are written back, then the consumer index. For a host
bound to a port, a well-formed frame of its address carries a transmit message, with a gap of the sequence numbers
counted; and a receive message goes as one frame into the class queue of the bound port, when it gets its buffers.
-/
def Obligations.HostMessagesCrossTheLinks : Prop :=
  ∀ (s : State) (now : Nat) (part : Fin 4) (q : Fin 64) (port : Fin 32) (bytes desc : List Byte) (ok : Bool),
    let u := s.upTo now
    let word := fun (n : Nat) => leNat ((takeBytes 32 desc).drop (4 * n) |>.take 4)
    (∀ c, u.imageRuns = true → u.linkRuns part.val = true → u.on Reg.HST_STATUS_RESET_BUSY 0 part.val = false →
      u.inTurn part.val (u.rxReady part.val) = some q.val → u.rxHead part.val q.val = some c →
      let slots := u.msgSlots part.val q.val c.len
      let k := u.ringLog false q.val part.val
      let prod := u.ringProd false q.val part.val
      let slot := 2 ^ u.fld Reg.HST_RXQ_SLOT q.val part.val
      let v := (u.rxTake part.val q.val).setTurn part.val q.val
      u.copyLost part.val q.val c = false → slots ≤ 2 ^ k →
      let base := v.queueBase false q.val part.val
      let offset := prod % 2 ^ k * slot
      let size := 2 ^ k * slot
      let v := v.ringBytes part.val base size (offset + 32) ((v.packet c.d).take c.len)
      let v := v.ringBytes part.val base size offset (c.header (1 - prod / 2 ^ k % 2))
      let v := v.setFld Reg.HST_RXQ_PROD q.val part.val (prod + slots)
      let v := v.writeBackIdx false q.val part.val (v.ringProd false q.val part.val)
      Runs s (.rxMessageDeliver now part q)
        (((v.copyEnds c 0).bumpFld Reg.HST_RX_MSG_CNT 0 part.val 1).signalVec part.val q.val)) ∧
    (∀ (st : Nat) (v : State), u.imageRuns = true → u.linkRuns part.val = true →
      u.on Reg.HST_STATUS_RESET_BUSY 0 part.val = false →
      u.inTurn (4 + part.val) (u.txReady part.val) = some q.val → word 2 < 2 ^ 14 → word 3 < 2 →
      (u.touchHost part.val && !u.touchSource (inPortHost part.val)) = false →
      (256 < word 2 && u.allocWaits (u.txPool part.val) part.val) = false →
      u.hostFrame part.val q.val (word 2) bytes ok (BitVec.ofNat 32 (word 6)) (BitVec.ofNat 32 (word 7)) = (st, v) →
      let v := (v.txCount part.val st).setTurn (4 + part.val) q.val
      let k := part.val * 64 + q.val
      let v := { v with hst := { v.hst with fetched := SMap.put v.hst.fetched k (SMap.get v.hst.fetched k 0 - 1) 0 } }
      let cons := v.ringCons true q.val part.val
      let v := v.hostWrite part.val (v.queueBase true q.val part.val + cons % 2 ^ v.ringLog true q.val part.val * 32 + 0x10)
        (leBytes 4 (st + 2 ^ 31))
      let v := v.setFld Reg.HST_TXQ_CONS q.val part.val (cons + 1)
      let v := v.writeBackIdx true q.val part.val (v.ringCons true q.val part.val)
      Runs s (.txDescriptorProcess now part q desc bytes ok)
        (if bitOf (word 3) 0 then v.signalVec part.val (64 + q.val) else v)) ∧
    (u.imageRuns = true → u.linkRuns part.val = true → u.on Reg.HST_STATUS_RESET_BUSY 0 part.val = false →
      u.inTurn (4 + part.val) (u.txReady part.val) = some q.val →
      ((u.touchHost part.val && !u.touchSource (inPortHost part.val)) = true →
        Runs s (.txDescriptorProcess now part q desc bytes ok) u) ∧
      ((u.touchHost part.val && !u.touchSource (inPortHost part.val)) = false →
        (256 < word 2 % 2 ^ 14 && u.allocWaits (u.txPool part.val) part.val) = true →
        Runs s (.txDescriptorProcess now part q desc bytes ok) (u.startRefill (u.txPool part.val) true))) ∧
    (∀ p, u.isEoe port.val bytes = true → u.eoePart port.val = some p → u.on Reg.HST_STATUS_RESET_BUSY 0 p = false →
      let h := fun (n : Nat) => ((bytes.drop (14 + n)).headD 0).toNat
      h 0 = 1 → h 1 = p → h 2 ≤ 63 → h 3 = 2 →
      let k := 2 * (p * 64 + h 2) + 1
      let n := beNat ((bytes.drop 18).take 4)
      let g := match SMap.find u.hst.eoeSeq k with
        | some last => if n = (last + 1) % 2 ^ 32 then u else u.bumpFld Reg.HST_EOE_GAP 0 p 1
        | none => u
      let g := { g with hst := { g.hst with eoeSeq := SMap.set g.hst.eoeSeq k n } }
      let r := g.hostFrame p (h 2) (bytes.drop 30).length
        (bytes.drop 30) true (BitVec.ofNat 32 (beNat ((bytes.drop 26).take 4))) (BitVec.ofNat 32 (beNat ((bytes.drop 22).take 4)))
      Runs s (.eoeFrameReceive now port bytes) ((if g.free_ 0 = 0 ∧ r.1 = stEmpty
        then (r.2.bumpFld Reg.EDG_NOBUF_CNT port.val 0 1).countDry dryNoBuffer 1 else r.2).txCount p r.1)) ∧
    (∀ (c : Copy) (head body : Nat) (w w' : State), u.imageRuns = true → 16 ≤ u.bindOf part.val →
      u.on Reg.HST_STATUS_RESET_BUSY 0 part.val = false →
      u.rxHead part.val q.val = some c → u.copyLost part.val q.val c = false →
      let k := 2 * (part.val * 64 + q.val)
      let bs := u.eoeFrame part.val q.val (SMap.get u.hst.eoeSeq k 0) c
      u.allocHead part.val = ((stOk, head), w) →
      (if bs.length ≤ 256 then ((stOk, 0), w) else w.allocNow (w.txPool part.val) part.val) =
        ((stOk, body), w') →
      let d : Droplet := { inPort := inPortHost part.val, host := true, len := bs.length, head := head, body := body
                           bodyPool := if bs.length ≤ 256 then 0 else w'.txPool part.val }
      let v := (w'.storeFrame d bs).rxTake part.val q.val
      let z := ((({ v with hst := { v.hst with eoeSeq := SMap.put v.hst.eoeSeq k ((SMap.get u.hst.eoeSeq k 0 + 1) % 2 ^ 32) 0 }
        }).copyEnds c 0).bumpFld Reg.HST_RX_MSG_CNT 0 part.val 1)
      let n := 8 * (u.bindOf part.val - 16) + z.setting 54 (part.val * 64 + q.val) % 8
      Runs s (.eoeMessageSend now part q) (z.admitCopy { d := d, len := bs.length, jid := 2 ^ 64, q := n }))

/-- Each frame shifts out a status byte. A good READ of a readable page answers the word and its CRC; a good WRITE
of an Xing word that the port may write has the effect of that write; the actions, with their confirmation, start a
device reset of cause 2, freeze the ring, enter DRY or lock the life cycle down, where none still completes; the
result is kept for the next status byte, and the access wakes the device as the port does. A frame with a bad
length, CRC or confirmation sets FRAME_ERR and does nothing else. -/
def Obligations.ManagementFramesAreServed : Prop :=
  ∀ (s : State) (now : Nat) (frame : List Byte),
    let u := s.upTo now
    let a := spiAddr frame
    let x := beNat ((frame.drop 4).take 4)
    (u.boot.brownout = false → frameByte frame 0 = 1 → spiGood frame = true → a % 4 = 0 → spiReadPage (a / 65536) = true → ∀ v t,
      u.spiWord (a / 65536) (a % 65536) = (v, t) →
      Runs s (.spiRead now frame)
        (((t.spiDone stOk).miso u (beBytes 4 v ++ [BitVec.ofNat 8 (crc8 (beBytes 4 v))])).spiWakes u)) ∧
    (u.boot.brownout = false → frameByte frame 0 = 2 → spiGood frame = true → a / 65536 = 16 → spiWritable (a % 65536) = true →
      (a % 65536 ≠ 0x8 → a % 65536 ≠ 0x14 → Runs s (.spiWrite now frame)
        ((((u.fieldsWrite 4 16 (a % 65536) x).spiDone stOk).miso u []).spiWakes u)) ∧
      (a % 65536 = 0x14 → Runs s (.spiWrite now frame) ((((u.xstatWrite 4 x).spiDone stOk).miso u []).spiWakes u)) ∧
      (a % 65536 = 0x8 → bitOf x 4 = true →
        Runs s (.spiWrite now frame) ((((u.islCmd (bits x 0 4)).spiDone stOk).miso u []).spiWakes u))) ∧
    (u.boot.brownout = false → frameByte frame 0 = 0x20 → spiGood frame = true → u.spiBusy = false → (u.boot.held && u.boot.stage != 4 && !u.boot.dry) = false → 
      Runs s (.spiReset now frame) ((((u.deviceReset 2 0 u.inflight).spiDone stOk).miso u []).spiWakes u)) ∧
    (u.boot.brownout = false → frameByte frame 0 = 0x21 → spiGood frame = true → u.spiBusy = false → (u.freeze 2).1 = true → 
      Runs s (.spiFreeze now frame) (((((u.freeze 2).2).spiDone stOk).miso u []).spiWakes u)) ∧
    (u.boot.brownout = false → frameByte frame 0 = 0x22 → spiGood frame = true → u.spiBusy = false → u.boot.dry = false → 
      Runs s (.spiDry now frame) ((((u.enterDry).spiDone stOk).miso u []).spiWakes u)) ∧
    (u.boot.brownout = false → frameByte frame 0 = 0x23 → spiGood frame = true → u.spiBusy = false → u.on Reg.FTH_STATUS_LOCKDOWN 0 0 = false → 
      Runs s (.spiLockdown now frame) ((((u.lockdown).spiDone stOk).miso u []).spiWakes u)) ∧
    (u.boot.brownout = false → spiGood frame = false → (spiLength (frameByte frame 0)).isNone = false →
      Runs s (.spiFrameError now frame) (({ u with fth := { u.fth with spiErr := true } }).miso u []))

/-- Under a running image and below STILL, a changed target is noted with its time and a shallower one is left for
at once; a deeper one that held for DWELL is entered. An enabled source, the wake timer or the WAKE command wakes
the device, and ENTER_DRY enters DRY. The floor loop raises the voltage by 10 mV up to VMAX while the slowest speed
is below FLOOR plus MARGIN, lowers it by 5 mV after 1 ms above, and below FLOOR starts the shedding ladder, which
steps while speed is below and back while it is not. A gauge sample fills the gauges and their summary, raises what
crosses the thresholds, ages the engines, replaces one with 64 corrected errors in 24 h, and trips at TRIP; once all
sensors have cooled by 15 °C, CORE_EN rises. -/
def Obligations.PowerStatesAndGaugesFollowTheirRules : Prop :=
  ∀ (s : State) (now : Nat) (part : Fin 4) (cause : Fin 8) (ack : Bool) (temps volts speeds : List Nat),
    let u := s.upTo now
    let m := (s.woken part.val).upTo now
    let speed := u.rd Reg.GAU_SUMMARY_SMIN
    let margin := u.rd Reg.PWR_FLOOR_MARGIN
    (u.imageRuns = true → u.rd Reg.PWR_STATUS_STATE < 3 → u.on Reg.PWR_STATUS_BUSY 0 0 = false →
      (u.powerTarget = u.rd Reg.PWR_STATUS_TARGET → Runs s (.powerTargetEval now)
        (if u.powerTarget < u.rd Reg.PWR_STATUS_STATE then u.leaveToFlow else u)) ∧
      (u.powerTarget ≠ u.rd Reg.PWR_STATUS_TARGET →
        let v := u.wr Reg.PWR_STATUS_TARGET u.powerTarget
        let w := { v with pwr := { u.pwr with since := u.wall } }
        Runs s (.powerTargetEval now) (if u.powerTarget < w.rd Reg.PWR_STATUS_STATE then w.leaveToFlow else w))) ∧
    (u.imageRuns = true → u.rd Reg.PWR_STATUS_STATE < 3 → u.on Reg.PWR_STATUS_BUSY 0 0 = false →
      let t := u.rd Reg.PWR_STATUS_TARGET
      u.powerTarget = t → u.rd Reg.PWR_STATUS_STATE < t → u.pwr.since + u.rd Reg.PWR_CFG_DWELL * 1000000 ≤ u.wall →
      Runs s (.dwellExpire now) (u.enterDeeper t)) ∧
    (1 ≤ cause.val → u.wakeEnabled cause.val = true → Runs s (.wakeEvent now cause) (u.wake cause.val)) ∧
    ((u.boot.dry = true ∨ u.rd Reg.PWR_STATUS_STATE = 3) → u.rd Reg.PWR_WAKE_TIMER_MS ≠ 0 →
      u.pwr.sleptAt + u.rd Reg.PWR_WAKE_TIMER_MS * 1000000 ≤ u.wall → Runs s (.pwrWakeTimerExpire now) (u.wake 6)) ∧
    (m.isSup part.val = true → (m.linkOf part.val).isNone = false → m.imageRuns = true → m.boot.dry = false →
      Served s part.val 12 (.pwrCmdEnterDry now part) ((m.wr Reg.PWR_CMD_RESULT stOk).enterDry)) ∧
    (m.isSup part.val = true → (m.linkOf part.val).isNone = false → m.imageRuns = true → m.rd Reg.PWR_STATUS_STATE ≠ 0 →
      let v := m.wr Reg.PWR_CMD_RESULT stOk
      (v.rd Reg.PWR_STATUS_STATE = 3 → Served s part.val 12 (.pwrCmdWake now part) (v.wake 7)) ∧
      (v.rd Reg.PWR_STATUS_STATE ≠ 3 → v.on Reg.PWR_STATUS_BUSY 0 0 = false →
        Served s part.val 12 (.pwrCmdWake now part) (v.wr Reg.PWR_STATUS_WAKE_CAUSE 7).leaveToFlow)) ∧
    (u.boot.coreEn = true → Runs s (.pmbAlert now) (({ u with pwr := { u.pwr with vUnknown := true } }).eventSup
      Reg.PWR_INT_STATUS_PMBUS_ERR Reg.PWR_INT_EN_PMBUS_ERR)) ∧
    (u.boot.tripped = true → (∀ n < 24, signed 16 (u.fld Reg.GAU_TEMP_TEMP n 0) ≤ 16 * (u.rd Reg.GAU_THRESH_TRIP : Int) - 240) →
      Runs s (.tripCooldownEnd now)
        (({ u with boot := { u.boot with tripped := false, coreEn := true, coreAt := u.wall } }).emit (.pin 9 true))) ∧
    (u.on Reg.PWR_STATUS_FLOOR_BREACH 0 0 = true →
      let lim := u.floorOf + margin
      let k := u.rd Reg.PWR_STATUS_SHED_STEP
      let k' := if speed < lim ∧ k < u.shedLen then k + 1 else if lim ≤ speed ∧ 0 < k then k - 1 else k
      let v := u.wr Reg.PWR_STATUS_SHED_STEP k'
      Runs s (.shedIntervalStep now) (if k' = 0 ∧ lim ≤ speed then
        (v.wr Reg.PWR_STATUS_FLOOR_BREACH 0).eventSup Reg.PWR_INT_STATUS_BREACH_CLEAR Reg.PWR_INT_EN_BREACH_CLEAR else v)) ∧
    (u.imageRuns = true → u.rd Reg.PWR_STATUS_STATE < 3 →
      let top := u.rd Reg.PWR_VCORE_VMAX
      let since := if u.floorOf + 2 * margin < speed then some (u.pwr.overSince.getD u.wall) else none
      let v := { u with pwr := { u.pwr with overSince := since } }
      let w := if speed < u.floorOf + margin ∧ u.vSeen < top then v.pmbusWrite (min (u.vSeen + 10) top) ack
        else if since.any (fun t => decide (t + 1000000 ≤ u.wall)) = true ∧ v.vMin < u.vSeen then v.pmbusWrite (u.vSeen - 5) ack else v
      let z := (w.setAll [(Reg.PWR_STATUS_FLOOR_BREACH, 0, 0, 1), (Reg.PWR_STATUS_SHED_STEP, 0, 0, 1)]).bump Reg.PWR_BREACH_CNT
      Runs s (.floorLoop now ack) (if speed < u.floorOf ∧ w.on Reg.PWR_STATUS_FLOOR_BREACH 0 0 = false then
        ({ z with pwr := { z.pwr with shedAt := w.wall } }).eventSup Reg.PWR_INT_STATUS_FLOOR_BREACH Reg.PWR_INT_EN_FLOOR_BREACH
        else w)) ∧
    (u.boot.brownout = false →
      let on (b : Nat) : Bool := u.boot.coreEn && u.boot.railsOk && !u.pwr.basinsOff.contains b
      let v := (((((u.setAll ((List.range 24).map fun n => (Reg.GAU_TEMP_TEMP, n, 0, temps.getD n 0))).setAll
        ((List.range 24).map fun n => (Reg.GAU_TEMP_VALID, n, 0, 1))).setAll
        ((List.range 16).map fun n => (Reg.GAU_VOLT_MV, n, 0, volts.getD n 0))).setAll
        ((List.range 16).map fun n => (Reg.GAU_VOLT_VALID, n, 0, 1))).setAll
        ((List.range 12).map fun b => (Reg.GAU_SPEED_SPEED, b, 0, speeds.getD b 0))).setAll
        ((List.range 12).map fun b => (Reg.GAU_SPEED_VALID, b, 0, flagBit (on b)))
      let ts := (List.range 24).map fun n => signed 16 (temps.getD n 0)
      let tmax := ts.foldl max (ts.headD 0)
      let ss := ((List.range 12).filter on).map fun b => speeds.getD b 0 % 65536
      let smin := ss.foldl min (ss.headD 0)
      let v := v.setAll [(Reg.GAU_SUMMARY_TMAX, 0, 0, unsigned 16 tmax), (Reg.GAU_SUMMARY_SMIN, 0, 0, smin)]
      let lim := v.rd Reg.PWR_FLOOR_FLOOR + v.rd Reg.PWR_FLOOR_MARGIN
      let v' := if 16 * (v.rd Reg.GAU_THRESH_WARN : Int) ≤ tmax ∧
          signed 16 (u.rd Reg.GAU_SUMMARY_TMAX) < 16 * (v.rd Reg.GAU_THRESH_WARN : Int)
        then v.eventSup Reg.GAU_INT_STATUS_TEMP_WARN Reg.GAU_INT_EN_EN else v
      let w := if smin < lim ∧ lim ≤ u.rd Reg.GAU_SUMMARY_SMIN ∧ ss.isEmpty = false
        then v'.eventSup Reg.GAU_INT_STATUS_SPEED_LOW Reg.GAU_INT_EN_EN else v'
      let w' := { w with boot := { w.boot with voltBad := w.boot.voltBad.filter fun n =>
        !(decide ((w.voltRange n).1 ≤ volts.getD n 0 * 1000) && decide (volts.getD n 0 * 1000 ≤ (w.voltRange n).2)) } }
      let z := (w'.ageing speeds).wearCheck
      Runs s (.gaugeSample now temps volts speeds)
        (if 16 * (v.rd Reg.GAU_THRESH_TRIP : Int) ≤ tmax ∧ z.boot.tripped = false then z.thermalTrip else z))

/-- NONCE shows 32 fresh bytes for 300 s. TOKEN consumes the nonce and completes with the status of the token, or
waits for a press of the button within 10 s, which applies it, or ends in TIMEOUT. ATTEST signs the report of the
partition's 32 bytes; CONFIRM raises the rollback counter; LC_ADVANCE takes a legal step of the life cycle;
PROVISION takes the staged record for the next reset. Of a slot that does not run, IMG_ERASE clears the first 4 KiB
and IMG_VERIFY shows the cause. A window transfer moves 4 KiB between the window and its target. Each command
completes with its result in the partition's bank. -/
def Obligations.FountainheadCommandsCompleteByTheirRules : Prop :=
  ∀ (s : State) (now : Nat) (part : Fin 4) (entropy : List Byte) (arg slot : BitVec 3) (target : BitVec 4) (offset : BitVec 11),
    let u := s.upTo now
    let w := s.woken part.val
    let m := w.upTo now
    (m.isSup part.val = true → Served s part.val 14 (.fthNonce now part entropy)
      ((({ m with fth := { m.fth with nonce := some (takeBytes 32 entropy, m.wall + 300000000000) } }).showNonce).fthDone
        part.val stOk)) ∧
    (∀ b e, u.fth.nonce = some (b, e) → e ≤ u.wall →
      Runs s (.nonceExpire now) (({ u with fth := { u.fth with nonce := none } }).showNonce)) ∧
    (
      let t := m.window part.val 0 3437
      let v := ({ m with fth := { m.fth with nonce := none } }).showNonce
      v.isSup part.val = true →
      (m.tokenStatus t = none → Served s part.val 14 (.fthToken now part)
        ((({ v with fth := { v.fth with press := some (t, part.val, v.wall) } }).setFld Reg.FTH_CMD_PENDING 0 part.val 1).wr
          Reg.FTH_STATUS_PRESS_WAIT 1)) ∧
      (m.tokenStatus t = some stOk →
        let a := leNat ((t.drop 0x3C).take 4)
        Served s part.val 14 (.fthToken now part)
          ((((({ v with fth := { v.fth with counter1 := a } }).wr Reg.FTH_COUNTER1_VALUE a).tokenApplied 3).fthDone part.val
            stOk))) ∧
      (∀ r, m.tokenStatus t = some r → r ≠ stOk → Served s part.val 14 (.fthToken now part) (v.fthDone part.val r))) ∧
    (∀ t p e, u.fth.press = some (t, p, e) → e < u.wall → u.wall ≤ e + 10000000000 →
      Runs s (.svcBtnPress now) ((u.applyToken t).2.endPress p (u.applyToken t).1)) ∧
    (∀ t p e, u.fth.press = some (t, p, e) → e + 10000000000 ≤ u.wall → Runs s (.pressWaitTimeout now) (u.endPress p stTimeout)) ∧
    (∀ k, w.fth.lc ≠ 0 → w.fth.lc ≠ 4 → w.fth.seed = some k →
      let r := w.report part.val (w.window part.val 0 32)
      Served s part.val 14 (.fthAttest part)
        ((w.setWindow part.val 0 (r ++ takeBytes 3309 (Config.mlDsaSign k r (ascii "CLR192-ATT")))).fthDone part.val stOk)) ∧
    (w.isSup part.val = true → w.imageRuns = true → w.fth.counter0 < w.img.rollback →
      Served s part.val 14 (.fthConfirm part) ((({ w with fth := { w.fth with
        counter0 := w.img.rollback } }).wr Reg.FTH_COUNTER0_VALUE w.img.rollback).fthDone part.val stOk)) ∧
    (
      let v := w.setFld Reg.FTH_CMD_ARG 0 part.val arg.toNat
      v.pageOk part.val 14 = true → v.isSup part.val = true → v.fth.lcPending.isSome = false →
      lcAdvanceOk v.fth.lc arg.toNat = true → (arg.toNat = 2 → v.liveKeys.isEmpty = false ∧ v.fth.prov.isNone = false) →
      Served s part.val 14 (.fthLcAdvance part arg entropy) ((v.acceptTransition arg.toNat entropy).fthDone part.val stOk)) ∧
    (w.isSup part.val = true → (w.fth.lc = 1 ∨ w.fth.lc = 3) → ∀ k, addKeys w.fth.keys (Config.provKeys (cellRead w.fth.well 0x10000 0x4000)) = some k →
      Served s part.val 14 (.fthProvision part) ((({ w with fth := { w.fth with provPending := true, keys := k } }).showKeys).fthDone part.val stOk)) ∧
    (
      let v := w.setFld Reg.FTH_CMD_ARG 0 part.val slot.toNat
      v.pageOk part.val 14 = true → v.isSup part.val = true → slot.toNat ≤ 1 → v.slotRuns slot.toNat = false →
      Served s part.val 14 (.fthImgErase part slot) (({ v with fth := { v.fth with
        well := cellClear v.fth.well (slotBase slot.toNat) 4096 } }).fthDone part.val stOk)) ∧
    (
      let v := w.setFld Reg.FTH_CMD_ARG 0 part.val slot.toNat
      v.pageOk part.val 14 = true → v.isSup part.val = true → slot.toNat ≤ 1 → v.slotRuns slot.toNat = false →
      Served s part.val 14 (.fthImgVerify part slot) ((v.wr (if slot.toNat = 0 then Reg.FTH_STATUS_SLOT0_CAUSE
        else Reg.FTH_STATUS_SLOT1_CAUSE) (v.slotCause slot.toNat)).fthDone part.val
          (if v.slotCause slot.toNat = 0 then stOk else stInvalid))) ∧
    (
      let v := w.winFields part.val target.toNat 1 offset.toNat
      v.isSup part.val = true →
      (target.toNat < 2 → v.slotRuns target.toNat = false → offset.toNat < 1920 → Served s part.val 14 (.fthWinWrite part target offset)
        (({ v with fth := { v.fth with
          well := cellWrite v.fth.well (slotBase target.toNat + 4096 * offset.toNat) (v.window part.val 0 4096) } }).winDone
            part.val stOk)) ∧
      (target.toNat = 2 → offset.toNat < 4 → Served s part.val 14 (.fthWinWrite part target offset)
        (({ v with fth := { v.fth with
          well := cellWrite v.fth.well (0x10000 + 4096 * offset.toNat) (v.window part.val 0 4096) } }).winDone part.val stOk))) ∧
    (
      let v := w.winFields part.val target.toNat 0 offset.toNat
      (v.isSup part.val = true ∨ target.toNat = 3 ∨ target.toNat = 5 ∨ target.toNat = 6) →
      ∀ bs, v.windowSource target.toNat offset.toNat = some bs → Served s part.val 14 (.fthWinRead part target offset)
        ((v.setWindow part.val 0 bs).winDone part.val stOk))

/-- A test command of the supervisor starts the test of a basin in service by taking it out of use, or at once of
any region under the fallback bridge, makes a device reset with the full test, or aborts the running test. A
scheduled test starts its basin in turn, or is deferred until it may. When the BIST completes, its responses are
compacted and compared with the signature of the region's ROM; a region whose signature differs while no part is
named fails as a whole, which is the model's choice (log entry 192). The outcome of the region acts, its result is
recorded, and the basin returns, with a worn or slow engine replaced, or stays out; too little left enters the safe
state. A sector of the Wellstore that reads back different is remapped to the lowest free spare sector, and its
entry waits for the map; the trigger it is entered with is the model's choice (log entry 194). A waiting reservoir
entry is written unless one of its kind, unit and old row stands. A count read answers the number of entries and
resets the bank's cursor; a data read answers the next word, and all ones after the last. A signed export trailer
follows its batch. -/
def Obligations.SelfTestsAndLogsCompleteByTheirRules : Prop :=
  ∀ (s : State) (now : Nat) (part : Fin 4) (bank : Fin 5) (region : BitVec 4) (fail : BitVec 17) (mem loadOk : Bool)
      (helper : BitVec 2) (repairs : List (Nat × BitVec 16 × W32 × W32)) (scan : Option (List (BitVec 64)))
      (speeds : List (BitVec 16)),
    let u := s.upTo now
    let w := s.woken part.val
    let r := s.woken bank.val
    let v := w.wr Reg.FTH_ST_CMD_REGION region.toNat
    (w.isSup part.val = true → v.testLc = stOk → v.on Reg.FTH_ST_STATUS_RUNNING 0 0 = false → region.toNat < 12 →
      v.imageRuns = true → v.testAllowed region.toNat = true →
      Served s part.val 14 (.fthStRegion part region) ((v.testBegin region.toNat).wr Reg.FTH_ST_CMD_RESULT stOk)) ∧
    (w.isSup part.val = true → v.testLc = stOk → v.on Reg.FTH_ST_STATUS_RUNNING 0 0 = false → region.toNat < 13 →
      v.imageRuns = false →
      Served s part.val 14 (.fthStRegion part region) (((v.scanBegin region.toNat).setAll [(Reg.FTH_ST_STATUS_RUNNING, 0, 0, 1),
        (Reg.FTH_ST_STATUS_REGION, 0, 0, region.toNat), (Reg.FTH_ST_STATUS_STEP, 0, 0, 4)]).wr Reg.FTH_ST_CMD_RESULT stOk)) ∧
    (w.isSup part.val = true → w.testLc = stOk → w.on Reg.FTH_ST_STATUS_RUNNING 0 0 = false →
      let z := w.free.2.deviceReset (w.free.1.toNat % 16) (flagBit w.free.2.boot.railsOk) w.free.2.inflight
      Served s part.val 14 (.fthStFull part) (({ z with boot := { z.boot with fullTest := true } }).wr Reg.FTH_ST_CMD_RESULT stOk)) ∧
    (w.isSup part.val = true → w.on Reg.FTH_ST_STATUS_RUNNING 0 0 = true →
      Served s part.val 14 (.fthStAbort part) (w.testAbort.wr Reg.FTH_ST_CMD_RESULT stOk)) ∧
    (u.imageRuns = true → u.testPeriod ≠ 0 → u.fth.testAt + u.testPeriod / 12 ≤ u.now →
      let z := { u with fth := { u.fth with testAt := u.fth.testAt + u.testPeriod / 12 } }
      z.on Reg.FTH_ST_STATUS_DEFERRED 0 0 = false → Runs s (.scheduledTestStart now)
        (if z.testAllowed z.nextTest then z.takeTurn.testBegin z.nextTest else z.wr Reg.FTH_ST_STATUS_DEFERRED 1)) ∧
    (u.on Reg.FTH_ST_STATUS_DEFERRED 0 0 = true → u.testAllowed u.nextTest = true → Runs s (.deferredTestStart now)
      ((u.wr Reg.FTH_ST_STATUS_DEFERRED 0).takeTurn.testBegin u.nextTest)) ∧
    (u.on Reg.FTH_ST_STATUS_RUNNING 0 0 = true → u.rd Reg.FTH_ST_STATUS_STEP = 4 →
      let r := u.rd Reg.FTH_ST_STATUS_REGION
      ∀ pass z, (u.repaired repairs).scanEnd r scan = (pass, z) →
      let ces := if !pass && fail.toNat % 256 = 0 then 255 else fail.toNat % 256
      (r = 12 → ∀ o safe y, z.ceOutcome ces = (o, safe, y) →
        Runs s (.bistComplete now ⟨fail, scan, speeds⟩ mem loadOk helper repairs)
          (if safe then ((y.testResult 12 o ces mem false).testEnds).safeState
           else (y.testResult 12 o ces mem false).testEnds)) ∧
      (r ≠ 12 → ∀ o y, z.basinOutcome r fail.toNat (mem || !loadOk || (!pass && fail.toNat = 0)) = (o, y) →
        let held := z.fth.heldRegions.any fun x => x < 12 && x != r
        let x := (y.testResult r o fail.toNat mem (helper != 0)).restoreBasin r
        let a := (x.wearSwap r (speeds.map BitVec.toNat)).helpersFailed r helper
        (o = 3 → Runs s (.bistComplete now ⟨fail, scan, speeds⟩ mem loadOk helper repairs) (if held then x.safeState else x.testEnds)) ∧
        (o ≠ 3 → a.imageRuns = true → Runs s (.bistComplete now ⟨fail, scan, speeds⟩ mem loadOk helper repairs)
          ((a.wr Reg.FTH_ST_STATUS_STEP 7).switchBegin a.returnMap 16 0)) ∧
        (o ≠ 3 → a.imageRuns = false → Runs s (.bistComplete now ⟨fail, scan, speeds⟩ mem loadOk helper repairs)
          a.testEnds))) ∧
    (∀ (z : State) (n : Nat) (rs : List (BitVec 64)), (z.scanEnd n (some rs)).1 =
      (misrOf rs == Config.bistSignature n z.bistPatterns)) ∧
    (∀ n k, s.spareSector = some k → s.sectorFails n = ((s.noteRsv 10 2 n (s.sectorPhys n) (4096 + k)).setRemap n
      (4096 + k)).eventSup Reg.FTH_ST_INT_STATUS_SPARE_IN Reg.FTH_ST_INT_EN_EN) ∧
    (∀ (x : State) (n : BitVec 16) (o y : W32) (l : List (Nat × BitVec 16 × W32 × W32)),
      x.repaired ((10, n, o, y) :: l) = (x.sectorFails (n.toNat % 4096)).repaired l) ∧
    (∀ e es, s.fth.rsvPending = e :: es →
      let f := { s.fth with rsvPending := es }
      ((s.fth.rsv.any fun x => x.kind == e.kind && x.unit == e.unit && x.old == e.old) = true →
        Runs s .reservoirMapWrite { s with fth := f }) ∧
      ((s.fth.rsv.any fun x => x.kind == e.kind && x.unit == e.unit && x.old == e.old) = false →
        Runs s .reservoirMapWrite { s with fth := { f with
          rsv := f.rsv ++ [e], offline := if e.kind = 7 then setBits f.offline e.unit 1 1 else f.offline } })) ∧
    (∀ (first n : Nat) (rest : List (Nat × Nat)) (offset : Nat) (seed : List Byte),
      s.rpl.exp = some ((first, n) :: rest, offset) → s.fth.seed = some seed →
      let t := s.trailer seed n (s.batchBytes first n)
      let a := s.rd Reg.RPL_BASES_EXP * 1048576 + offset
      let z := (s.ipdWrite a t).ipdReqs a t.length true clsBulk
      Runs s .exportTrailerSigned
        (({ z with fth := { z.fth with exportSeq := z.fth.exportSeq + 1 } }).writeBatch rest (offset + t.length))) ∧
    (
      let z := r.fth.flog.length
      MayRead s bank.val 14 → Runs s (.fthFlogCountRead bank)
        ((({ r with fth := { r.fth with flogCur := SMap.put r.fth.flogCur bank.val 0 0 } }).setFld Reg.FTH_FLOG_COUNT_COUNT 0 bank.val
          z).emit (.reg bank.val z))) ∧
    (
      let c := SMap.get r.fth.flogCur bank.val 0
      MayRead s bank.val 14 →
      (∀ e, r.fth.flog[c / 8]? = some e →
        let z := leNat ((e.bytes.drop (4 * (c % 8))).take 4)
        Runs s (.fthFlogDataRead bank) ((({ r with fth := { r.fth with flogCur := SMap.put r.fth.flogCur bank.val (c + 1) 0 } }).setFld
          Reg.FTH_FLOG_DATA_WORD 0 bank.val z).emit (.reg bank.val z))) ∧
      (r.fth.flog[c / 8]? = none →
        Runs s (.fthFlogDataRead bank) ((({ r with fth := { r.fth with flogCur := SMap.put r.fth.flogCur bank.val 0 0 } }).setFld
          Reg.FTH_FLOG_DATA_WORD 0 bank.val 0xFFFFFFFF).emit (.reg bank.val 0xFFFFFFFF)))) ∧
    (
      let z := r.fth.rsv.length
      MayRead s bank.val 14 → Runs s (.fthRsvCountRead bank)
        ((({ r with fth := { r.fth with rsvCur := SMap.put r.fth.rsvCur bank.val 0 0 } }).setFld Reg.FTH_RSV_COUNT_COUNT 0 bank.val
          z).emit (.reg bank.val z))) ∧
    (
      let c := SMap.get r.fth.rsvCur bank.val 0
      MayRead s bank.val 14 →
      (∀ e, r.fth.rsv[c / 4]? = some e →
        let z := leNat ((e.bytes.drop (4 * (c % 4))).take 4)
        Runs s (.fthRsvDataRead bank) ((({ r with fth := { r.fth with rsvCur := SMap.put r.fth.rsvCur bank.val (c + 1) 0 } }).setFld
          Reg.FTH_RSV_DATA_WORD 0 bank.val z).emit (.reg bank.val z))) ∧
      (r.fth.rsv[c / 4]? = none →
        Runs s (.fthRsvDataRead bank) ((({ r with fth := { r.fth with rsvCur := SMap.put r.fth.rsvCur bank.val 0 0 } }).setFld
          Reg.FTH_RSV_DATA_WORD 0 bank.val 0xFFFFFFFF).emit (.reg bank.val 0xFFFFFFFF))))

/-- An aligned 32-bit write to BAR0 is the command its word carries, or writes the fields of the word one by one; in
BAR2 it is a doorbell of its queue or a word of the vector table. A partial write changes nothing but its count and
the ACCESS_ERR of its bank. A word written by the control plane reaches its bank of the rule page and the time page
while an image runs, which the model deduces (log entry 184). A read of a counter's low word, or of a word with
read-to-clear fields, returns the word and, where its byte enables are all set, applies the read effects of its
fields. The reads of a domain's, a channel's and a descriptor's status take one snapshot of what their select
register names. -/
def Obligations.RegisterAccessesReachTheirFields : Prop :=
  ∀ (s : State) (part : Fin 4) (addr : BitVec 22) (be : BitVec 4) (w : W32),
    let m := s.woken part.val
    let a := addr.toNat
    let page := a / 65536
    let off := a % 65536
    (a % 4 = 0 → Served s part.val page (.registerWrite part.castSucc false addr w)
      (match (if page < 10 then m.commandLow part.val page off w.toNat else m.commandHigh part.val page off w.toNat) with
        | some t => t
        | none => (wordFields page off).foldl (fun s e => s.fieldWrite part.val e.1 e.2 w.toNat) m)) ∧
    (a % 4 = 0 → s.imageRuns = true → page = 3 ∨ page = 11 →
      Runs s (.registerWrite 4 false addr w) (s.wordWrite 4 page off w.toNat)) ∧
    (a % 4 = 0 →
      (a < 0x40000 → a % 4096 = 0 → Served s part.val 17 (.registerWrite part.castSucc true addr w) (txDoorbellWrite m part.val (a / 4096) w.toNat)) ∧
      (0x40000 ≤ a → a < 0x80000 → a % 4096 = 0 →
        Served s part.val 17 (.registerWrite part.castSucc true addr w) (rxDoorbellWrite m part.val (a / 4096 - 64) w.toNat)) ∧
      (0x80000 ≤ a → a < 0x88000 → MayRead s part.val 17 →
        Runs s (.registerWrite part.castSucc true addr w) (m.msixWrite part.val ((a - 0x80000) / 4) w.toNat))) ∧
    (Served s part.val 0 (.bar0PartialWrite part)
      ((m.bumpFld Reg.GEN_ACCESS_CNT 0 part.val 1).event Reg.GEN_INT_STATUS_ACCESS_ERR Reg.GEN_INT_EN_EN part.val part.val)) ∧
    (a % 4 = 0 → counterWord page off = true → MayRead s part.val page → Runs s (.counterLowWordRead part ⟨addr, be⟩)
      (m.readMasked be.toNat fun v => (v.wordTake part.val page off).2.emit (.reg part.val (v.wordRead part.val page off)))) ∧
    (a % 4 = 0 → MayRead s part.val page → Runs s (.rcFieldRead part ⟨addr, be⟩)
      (m.readMasked be.toNat fun v => v.readWord part.val page off)) ∧
    (∀ (v : State) (f : State → State), (be = 15 → v.readMasked be.toNat f = f v) ∧
      (be ≠ 15 → v.readMasked be.toNat f = { v with out := (f v).out, fresh := (f v).fresh })) ∧
    (m.wordTake part.val page off = (m.wordRead part.val page off,
      (wordFields page off).foldl (fun s e => s.readEffect part.val e.1 e.2) m)) ∧
    (MayRead s part.val 1 →
      let dom := m.rd Reg.WEIR_DOM_SEL_DOMAIN
      let next := SMap.get m.weir.nextSeq dom 0
      ∀ hseq hst : Nat,
        (m.domLine dom = [] → hseq = next ∧ hst = 0) →
        (∀ i l, m.domLine dom = i :: l → (m.slot i = none → hseq = next ∧ hst = 0) ∧
          (∀ x, m.slot i = some x → hseq = x.d.seq ∧ hst = x.st)) →
        Runs s (.weirDomStat0Read part)
          ((m.setAll [(Reg.WEIR_DOM_STAT0_NEXT_SEQ, 0, 0, next), (Reg.WEIR_DOM_STAT1_HEAD_SEQ, 0, 0, hseq),
            (Reg.WEIR_DOM_STAT2_INFLIGHT, 0, 0, (m.domLine dom).length),
            (Reg.WEIR_DOM_STAT2_CLASS, 0, 0, m.classOfDomain dom),
            (Reg.WEIR_DOM_STAT2_HEAD_STATE, 0, 0, hst)]).emit (.reg part.val next))) ∧
    (MayRead s part.val 9 →
      let id := m.rd Reg.BSN_CH_SEL_INDEX
      let k := if 0x200 ≤ id then 12 * 1024 + id else m.rd Reg.BSN_CH_SEL_BASIN * 1024 + id
      let v := m.setAll [(Reg.BSN_CH_STAT0_FILL, 0, 0, m.chFill k), (Reg.BSN_CH_STAT0_ABOVE, 0, 0, flagBit (m.chan_ k).above),
        (Reg.BSN_CH_STAT0_OPEN, 0, 0, flagBit (!(m.chOpen k).isEmpty)),
        (Reg.BSN_CH_STAT0_HEAD_ABORTED, 0, 0, flagBit (m.headAborted k)), (Reg.BSN_CH_STAT1_PKTS, 0, 0, m.chWhole k)]
      Runs s (.bsnChStat0Read part) (v.emit (.reg part.val (m.chFill k + 2 ^ 24 * flagBit (m.chan_ k).above +
        2 ^ 25 * flagBit (!(m.chOpen k).isEmpty) + 2 ^ 26 * flagBit (m.headAborted k))))) ∧
    (MayRead s part.val 8 →
      let d := m.fld Reg.PMP_DESC_SEL_DESC 0 part.val
      let v := m.setAll ((List.range 4).map fun n => (Reg.PMP_DESC_W, n, part.val, m.descWord d n))
      Runs s (.pmpDescW0Read part) (v.emit (.reg part.val (v.descWord d 0))))

/-- In every state that is sound, reachable or not, a step answers a next state: no fault and no refusal. That state
is sound again: the life cycle and a pending transition are among the states of Table 21.6 and the transition goes
on, a token waits for a press only in FIELD, the boot count fits its 32 bits, every memory of bytes is in its
canonical form, the boot stands at one of its stages. And it keeps what no command may take back: the rank of the
life cycle, the revoked owner keys, the two anti-rollback counters, the boot count, and the grade of the part (R828,
R829, R838, R839, R843). -/
def Obligations.EveryStepFromASoundStateIsSafe : Prop :=
  ∀ s : State, Sound s → ∃ t, step s = .next t ∧ Sound t ∧ Keeps s t

/-- No command ends the run: in every sound state every row of the opcode table, with any operands its types admit,
answers a next state. It leaves the queue alone, so that the commands that wait are taken in their order, and the
state it answers is sound. -/
def Obligations.EveryCommandAnswersAndLeavesTheQueue : Prop :=
  ∀ (c : Instr) (s : State), Sound s → ∃ t, exec c s = .next t ∧ t.pending = s.pending ∧ Sound t

/-- The state after reset is sound and its queue is empty. Every field of the register map reads its reset value
there: so the reserve of the Weir is 0x400 and its hold limits 100,000, the recording rate is 256, no life-cycle
transition is pending (7), no slot runs (3) and neither slot has been examined (0xF). No byte of the IPD, of scratch
or of shared SRAM is listed, no thread and no engine has a state of its own, and no droplet is in flight. Model's
choices, not the spec's: the values of fields to which the spec gives none (log entries 8, 11 and 16), the state of
units without a register (12), the byte that unlisted memory reads as (13) and the grade of the part (10). -/
def Obligations.ResetHoldsItsRegisterValues : Prop :=
  Sound State.reset ∧ State.reset.pending = [] ∧ (∀ (f : Fld) (i b : Nat), State.reset.fld f i b = f.reset i State.reset.grade) ∧
    State.reset.rd Reg.WEIR_CFG_RESERVE = 0x400 ∧ (∀ n < 4, State.reset.fld Reg.WEIR_HOLD_LIMIT n 0 = 100000) ∧
    State.reset.rd Reg.RPL_RATE_RATE = 256 ∧ State.reset.rd Reg.FTH_STATUS_LC_PENDING = 7 ∧
    State.reset.rd Reg.FTH_STATUS_SLOT_RUN = 3 ∧ State.reset.rd Reg.FTH_STATUS_SLOT0_CAUSE = 0xF ∧
    State.reset.rd Reg.FTH_STATUS_SLOT1_CAUSE = 0xF ∧ State.reset.mem.ipd = [] ∧ State.reset.mem.scratch = [] ∧
    State.reset.mem.shared = [] ∧ State.reset.thr = [] ∧ State.reset.eng = [] ∧ State.reset.inflight = 0

/-- Where command c stands at the front of the queue, the step is exec of c on the state whose queue is the rest. On
an empty queue the step answers the state itself: that the block idles then, and that time passes only as commands
carry it, is the model's choice (log entry 1), no rule of the spec. -/
def Obligations.StepRunsTheCommandInFront : Prop :=
  ∀ s : State, (∀ c rest, s.pending = c :: rest → step s = exec c { s with pending := rest }) ∧ (s.pending = [] → step s = .next s)

/-- Of a memory of bytes in canonical form, a write of some bytes at an address leaves the canonical form, reads
back those bytes at that address, and leaves every byte outside them; clearing a range makes its bytes read 0 and
leaves the others. Two memories in canonical form that read alike at every address are equal. -/
def Obligations.MemoriesReadBackWhatIsWritten : Prop :=
  ∀ (m : List Host.Cell) (a : Nat) (bs : List Byte) (n : Nat), Memory.wf m = true →
    (Memory.wf (cellWrite m a bs) = true ∧ cellRead (cellWrite m a bs) a bs.length = bs ∧
      (∀ x, x < a ∨ a + bs.length ≤ x → cellGet (cellWrite m a bs) x = cellGet m x)) ∧
    (Memory.wf (cellClear m a n) = true ∧ (∀ x, a ≤ x → x < a + n → cellGet (cellClear m a n) x = 0) ∧
      (∀ x, x < a ∨ a + n ≤ x → cellGet (cellClear m a n) x = cellGet m x)) ∧
    (∀ m', Memory.wf m' = true → (∀ x, cellGet m x = cellGet m' x) → m = m')

/-- A write of an instance of a field in a bank makes that instance read the value written, in the field's width. It
leaves every other instance, every other bank, and every other field of any word of any page; so no two fields of
the register map share a place. The fields of the map stand in words of their 64 KiB page and begin in one of a
word's 32 bits. -/
def Obligations.RegisterFieldsStandApart : Prop :=
  (∀ p < 19, ∀ f ∈ Reg.page p, f.off < 65536 ∧ f.lo < 32) ∧
  ∀ (s : State) (f g : Fld) (i j b c v : Nat), f.off < 65536 → f.lo < 32 → g.off < 65536 → g.lo < 32 → i < 2 ^ 20 → j < 2 ^ 20 →
    b < 8 → c < 8 → (s.setFld f i b v).fld f i b = v % 2 ^ f.w ∧
      ((f.page, f.off, f.lo, i, b) ≠ (g.page, g.off, g.lo, j, c) → (s.setFld f i b v).fld g j c = s.fld g j c)

/-- Where no rule of its own has the device ignore the write, and the field enables no event, the write of a field
in a word sets an RW field to the bits of the word, makes each bit of an RW1C field that is written as 1 read 0 and
keeps the others, makes each bit of an RW1S field written as 1 read 1 and keeps the others; a write of a field with
another access code, or of a supervisor's field by another partition, changes nothing. An event sets every bit of
its status field, enters a DEVICE post for the descriptor to which the image routes the events of its page, a
routing whose form is the model's choice (log entry 133), and signals its vector where its enable is set. -/
def Obligations.FieldWritesFollowTheirAccessCode : Prop :=
  ∀ (s : State) (p : Nat) (f : Fld) (i v : Nat),
    let old := s.fld f i (f.bank p)
    let x := bits v f.lo f.w
    let t := s.fieldWrite p f i v
    (s.writeIgnored p f i x = false → isEnable f = false →
      (f.acc = .rw → t.fld f i (f.bank p) = x) ∧
      (f.acc = .rw1c → ∀ n < f.w, bitOf (t.fld f i (f.bank p)) n = (bitOf old n && !bitOf x n)) ∧
      (f.acc = .rw1s → ∀ n < f.w, bitOf (t.fld f i (f.bank p)) n = (bitOf old n || bitOf x n))) ∧
    (f.acc ≠ .rw → f.acc ≠ .rw1c → f.acc ≠ .rw1s → t = s) ∧
    (f.sup = true → s.isSup p = false → p ≠ 4 → t = s) ∧
    (∀ (st en : Fld) (b q : Nat),
      let z := s.setFld st 0 b (2 ^ st.w - 1)
      let y := z.devicePost st.page
      s.event st en b q = (if y.enabled st en b then y.signalVec q (128 + st.page) else y) ∧ z.fld st 0 b = 2 ^ st.w - 1) ∧
    (∀ (z : State) (page d : Nat), (SMap.get z.img.set_ (68 * 2 ^ 24 + page) 0 = 0 → z.devicePost page = z) ∧
      (SMap.get z.img.set_ (68 * 2 ^ 24 + page) 0 = d + 1 → z.pmp.fifo.length < 255 →
        z.devicePost page = { z with pmp := { z.pmp with fifo := z.pmp.fifo ++ [(d, 4)] } }))

/-- For a thread of a packet engine, the first 4 KiB are the thread's own scratch; the 32 KiB from 0x1_0000 are the
whole engine's scratch, for T0 alone, where others fault SCRATCH_RIGHT; the 512 KiB from 0x10_0000 are the basin's
shared SRAM where the image marks the page PLAIN, and fault ADDRESS elsewhere; from 0x8000_0000 the address goes to
the IPD by its segment where the segment's right allows the access, and faults ADDRESS elsewhere; every other
address faults ADDRESS. -/
def Obligations.EngineAddressesGoWhereTheMapPutsThem : Prop :=
  ∀ (s : State) (t x : Nat) (write : Bool), t < 1536 → x < 2 ^ 32 →
    let e := t / 8
    let place := (s.placeOf t x write).1
    (x < 0x1000 → place = .scratch (e * 2 ^ 15 + t % 8 * 4096 + x)) ∧
    (0x10000 ≤ x → x < 0x18000 → (t % 8 = 0 → place = .scratch (e * 2 ^ 15 + (x - 0x10000))) ∧
      (t % 8 ≠ 0 → place = .fault causeScratchRight)) ∧
    (0x100000 ≤ x → x < 0x180000 →
      (s.pageKind (e / 16) (x - 0x100000) = 1 → place = .shared (e / 16 * 2 ^ 19 + (x - 0x100000))) ∧
      (s.pageKind (e / 16) (x - 0x100000) ≠ 1 → place = .fault causeAddress)) ∧
    (2 ^ 31 ≤ x → ((if write then 2 else 1) ≤ s.segRight e x → place = .ipd (s.segAddr e x)) ∧
      (s.segRight e x < (if write then 2 else 1) → place = .fault causeAddress)) ∧
    ((0x1000 ≤ x ∧ x < 0x10000 ∨ 0x18000 ≤ x ∧ x < 0x100000 ∨ 0x180000 ≤ x ∧ x < 2 ^ 31) → place = .fault causeAddress)

/-- In stack mode, a call by a thread of a packet engine whose return stack holds eight entries: with RS_TRAP clear
it pushes the return address and keeps the seven newest entries, so that the depth stays eight, and jumps to the
target; with RS_TRAP set it faults RSTACK_OVER, and the faulted thread keeps its return stack and stands at the
bundle of the call. A return with an empty return stack faults RSTACK_UNDER whatever RS_TRAP holds, and the faulted
thread keeps its empty stack at its bundle. -/
def Obligations.ReturnStackOverAndUnderflowAreAsTheirRulesSay : Prop :=
  ∀ (s : State) (t : Fin 1544) (x : W32), t.val < 1536 →
    let u := s.settleFast t.val
    let th := u.thread t.val
    let ret := bundleAfter t.val th.pc
    u.linkMode t.val = false →
    (targetFault t.val x.toNat = 0 → th.rstack.length = 8 → u.thrTrap t.val = false →
      (ret :: th.rstack.take 7).length = 8 ∧ Issues s t.val 0x042 x (.pcTCall t x)
        ((u.updThread t.val fun th => { th with rstack := ret :: th.rstack.take 7 }).jumpTo t.val x.toNat)) ∧
    (targetFault t.val x.toNat = 0 → th.rstack.length = 8 → u.thrTrap t.val = true →
      Faults s t.val 0x042 (.pcTCall t x) causeRstackOver ∧
      FaultedAt u t.val causeRstackOver th.pc (u.fault t.val causeRstackOver th.pc)) ∧
    (th.rstack = [] → Faults s t.val 0x043 (.pcTRet t x) causeRstackUnder ∧
      FaultedAt u t.val causeRstackUnder th.pc (u.fault t.val causeRstackUnder th.pc))

/-- With position x[4:0] and length x[13:8], the three field rows of the bit unit fault UNIT where the length is 0
or above 32, or position plus length exceeds 32: the thread faults at its bundle, and nothing else is done. A
division by zero does not fault: its operation completes with mul.st INVALID, mul.r all ones and mul.rh the operand
a. The signed division of 0x80000000 by -1 completes with OK, mul.r 0x80000000 and mul.rh 0. Completion is stated on
the state in which the operation stands; its ports become readable when it completes. -/
def Obligations.UnitCornersAreAsTheirRulesSay : Prop :=
  ∀ (s : State) (t : Fin 1544) (x : W32),
    let u := s.settleFast t.val
    let a := (u.thread t.val).port 0x140
    let pos := x.toNat % 32
    let len := x.toNat / 256 % 64
    ((len = 0 ∨ 32 < len ∨ 32 < pos + len) →
      Faults s t.val 0x110 (.bitTExtu t x) causeUnit ∧ Faults s t.val 0x111 (.bitTExts t x) causeUnit ∧
      Faults s t.val 0x112 (.bitTIns t x) causeUnit) ∧
    (x = 0 →
      let v := u.startOp t.val uMul [(0x141, 0xFFFFFFFF), (0x142, a)] stInvalid
      Issues s t.val 0x152 x (.mulTDivu t x) v ∧ Issues s t.val 0x153 x (.mulTDivs t x) v ∧ MulGives v t.val 0xFFFFFFFF a stInvalid) ∧
    (x = 0xFFFFFFFF → a = 0x80000000 →
      let v := u.startOp t.val uMul [(0x141, 0x80000000), (0x142, 0)] stOk
      Issues s t.val 0x153 x (.mulTDivs t x) v ∧ MulGives v t.val 0x80000000 0 stOk)

/-- A read of the count of the fault log or of the reservoir map that reaches its page returns the number of entries
and sets the cursor of the requester's bank to the first entry: the newest of the fault log, to whose front an entry
is written, the oldest of the map. A data read returns the word at the cursor, eight words for each entry of the
fault log, four for each entry of the map, and moves the cursor on; behind the last word it returns 0xFFFFFFFF and
sets the cursor to the first entry. The other banks' cursors and the log stay. CONFIRM of the supervisor sets
counter 0 to the running image's ROLLBACK with OK, answers DOUBLE where counter 0 equals or exceeds it, and INVALID
where no image runs; the last two leave the counter. -/
def Obligations.LogsAreReadAndConfirmAnswersAsTheirRulesSay : Prop :=
  ∀ s : State,
    (∀ (kind cause : Nat) (data : List Nat), ∃ e : FlogEnt, e.kind = kind ∧ e.cause = cause ∧ e.time = s.now ∧
      (s.logFault kind cause data).fth.flog = (e :: s.fth.flog).take 4096) ∧
    (∀ bank : Fin 5, MayRead s bank.val 14 →
      let m := s.woken bank.val
      (∃ t, Runs s (.fthFlogCountRead bank) t ∧ t.out = .reg bank.val m.fth.flog.length :: m.out ∧
        SMap.get t.fth.flogCur bank.val 0 = 0 ∧ OthersKeep m.fth.flogCur t.fth.flogCur bank.val ∧ t.fth.flog = m.fth.flog) ∧
      (∀ e, m.fth.flog[SMap.get m.fth.flogCur bank.val 0 / 8]? = some e →
        let k := SMap.get m.fth.flogCur bank.val 0
        ∃ t, Runs s (.fthFlogDataRead bank) t ∧ t.out = .reg bank.val (leNat ((e.bytes.drop (4 * (k % 8))).take 4)) :: m.out ∧
          SMap.get t.fth.flogCur bank.val 0 = k + 1 ∧ OthersKeep m.fth.flogCur t.fth.flogCur bank.val ∧ t.fth.flog = m.fth.flog) ∧
      (m.fth.flog[SMap.get m.fth.flogCur bank.val 0 / 8]? = none →
        ∃ t, Runs s (.fthFlogDataRead bank) t ∧ t.out = .reg bank.val 0xFFFFFFFF :: m.out ∧
          SMap.get t.fth.flogCur bank.val 0 = 0 ∧ OthersKeep m.fth.flogCur t.fth.flogCur bank.val ∧ t.fth.flog = m.fth.flog) ∧
      (∃ t, Runs s (.fthRsvCountRead bank) t ∧ t.out = .reg bank.val m.fth.rsv.length :: m.out ∧
        SMap.get t.fth.rsvCur bank.val 0 = 0 ∧ OthersKeep m.fth.rsvCur t.fth.rsvCur bank.val ∧ t.fth.rsv = m.fth.rsv) ∧
      (∀ e, m.fth.rsv[SMap.get m.fth.rsvCur bank.val 0 / 4]? = some e →
        let k := SMap.get m.fth.rsvCur bank.val 0
        ∃ t, Runs s (.fthRsvDataRead bank) t ∧ t.out = .reg bank.val (leNat ((e.bytes.drop (4 * (k % 4))).take 4)) :: m.out ∧
          SMap.get t.fth.rsvCur bank.val 0 = k + 1 ∧ OthersKeep m.fth.rsvCur t.fth.rsvCur bank.val ∧ t.fth.rsv = m.fth.rsv) ∧
      (m.fth.rsv[SMap.get m.fth.rsvCur bank.val 0 / 4]? = none →
        ∃ t, Runs s (.fthRsvDataRead bank) t ∧ t.out = .reg bank.val 0xFFFFFFFF :: m.out ∧
          SMap.get t.fth.rsvCur bank.val 0 = 0 ∧ OthersKeep m.fth.rsvCur t.fth.rsvCur bank.val ∧ t.fth.rsv = m.fth.rsv)) ∧
    (∀ p : Fin 4, MayWrite s p.val 14 →
      let m := s.woken p.val
      m.isSup p.val = true →
      ∃ t, Runs s (.fthConfirm p) t ∧
        (m.imageRuns = true → m.fth.counter0 < m.img.rollback →
          t.fth.counter0 = m.img.rollback ∧ t.fld Reg.FTH_CMD_RESULT 0 p.val = stOk) ∧
        (m.imageRuns = true → m.img.rollback ≤ m.fth.counter0 →
          t.fth.counter0 = m.fth.counter0 ∧ t.fld Reg.FTH_CMD_RESULT 0 p.val = stDouble) ∧
        (m.imageRuns = false → t.fth.counter0 = m.fth.counter0 ∧ t.fld Reg.FTH_CMD_RESULT 0 p.val = stInvalid))

/-- While HST_STATUS.RESET_BUSY of a partition reads 1, a word written to any BAR0 address, a partial write, and
each command that the partition gives by a write of a BAR0 register answer the state as it was; a page that it may
read stays readable, and a read of a word with or without read effects answers as at any other time. A command of
the control plane or the test access port is none of these. -/
def Obligations.WritesWaitForNoResetOfThePartition : Prop :=
  ∀ (s : State) (p : Fin 4), s.on Reg.HST_STATUS_RESET_BUSY 0 p.val = true →
    (∀ (a : BitVec 22) (v : W32), Runs s (.registerWrite p.castSucc false a v) s) ∧ Runs s (.bar0PartialWrite p) s ∧
    (∀ page v : Nat, (s.setFld Reg.HST_STATUS_RESET_BUSY 0 p.val v).pageReads p.val page = s.pageReads p.val page) ∧
    (∀ (a : BitVec 22) (be : BitVec 4), a.toNat % 4 = 0 → MayRead s p.val (a.toNat / 65536) →
      Runs s (.rcFieldRead p ⟨a, be⟩) ((s.woken p.val).readMasked be.toNat fun v =>
        v.readWord p.val (a.toNat / 65536) (a.toNat % 65536))) ∧
    (∀ (b : Fin 12) (h : Fin 2), Runs s (.helperDisable p b h) s) ∧
    (∀ (b : Fin 12) (h : Fin 2) (katPass : Bool), Runs s (.helperEnable p b h katPass) s) ∧
    (∀ (e : BitVec 8), Runs s (.bsnEngReset p e) s) ∧
    (∀ (e : BitVec 8), Runs s (.bsnEngSwap p e) s) ∧
    (∀ (e : BitVec 8), Runs s (.bsnEngAckEsc p e) s) ∧
    (∀ (v : W32), Runs s (.pmpPostWrite p v) s) ∧
    (∀ (ce : Fin 8), Runs s (.pmpCeRestart p ce) s) ∧
    (∀ (lock : BitVec 13) (n : BitVec 16) (prio : BitVec 6) (tmo : BitVec 24), Runs s (.lkgHostAcq p lock n prio tmo) s) ∧
    (∀ (lock : BitVec 13) (n : BitVec 16) (prio : BitVec 6) (tmo : BitVec 24), Runs s (.lkgHostTry p lock n prio tmo) s) ∧
    (∀ (lock : BitVec 13) (n : BitVec 16) (prio : BitVec 6) (tmo : BitVec 24), Runs s (.lkgHostRel p lock n prio tmo) s) ∧
    (∀ (lock : BitVec 13) (n : BitVec 16) (prio : BitVec 6) (tmo : BitVec 24), Runs s (.lkgHostCancel p lock n prio tmo) s) ∧
    (∀ (lock : BitVec 13) (n : BitVec 16) (prio : BitVec 6) (tmo : BitVec 24), Runs s (.lkgHostQuery p lock n prio tmo) s) ∧
    (∀ (lock : BitVec 13), Runs s (.lkgForce p lock) s) ∧
    (∀ (lock : BitVec 13) (v : BitVec 16), Runs s (.lkgSetcount p lock v) s) ∧
    (∀ (lane : Fin 32), Runs s (.edgLaneRetrain p lane) s) ∧
    (∀ (lane : Fin 32), Runs s (.edgLaneSpare p lane) s) ∧
    (∀ (tx : Bool) (q : Fin 64), Runs s (.hostQueueEnable p tx q) s) ∧
    (∀ (tx : Bool) (q : Fin 64), Runs s (.hostQueueDisable p tx q) s) ∧
    (∀ (v : BitVec 20), Runs s (.hstLatWrite p v) s) ∧
    (∀ (target : BitVec 3), Runs s (.hstPrstGo p target) s) ∧
    (∀ (p0 : Fin 5) (v : W32), Runs s (.cisQuotaWrite p p0 v) s) ∧
    (Runs s (.cisErrPop p) s) ∧
    (Runs s (.sluRead p.castSucc) s) ∧
    (Runs s (.sluWrite p.castSucc) s) ∧
    (Runs s (.sluFlush p.castSucc) s) ∧
    (Runs s (.sluClear p.castSucc) s) ∧
    (Runs s (.configChange p.castSucc) s) ∧
    (Runs s (.timSnap p) s) ∧
    (∀ (dom : Fin 4), Runs s (.timStep p.castSucc dom) s) ∧
    (∀ (dom : Fin 4) (v : W32), Runs s (.timRateWrite p.castSucc dom v) s) ∧
    (∀ (v : W32), Runs s (.weirHoldSuspendWrite p v) s) ∧
    (Runs s (.rplTrigger p) s) ∧
    (Runs s (.rplFreeze p) s) ∧
    (Runs s (.rplRelease p) s) ∧
    (Runs s (.rplExport p) s) ∧
    (Runs s (.rplReplay p) s) ∧
    (Runs s (.rplAbort p) s) ∧
    (Runs s (.dbgHalt p.castSucc) s) ∧
    (Runs s (.dbgResume p.castSucc) s) ∧
    (Runs s (.dbgStep p.castSucc) s) ∧
    (Runs s (.dbgKill p.castSucc) s) ∧
    (Runs s (.dbgRdreg p.castSucc) s) ∧
    (Runs s (.dbgWrreg p.castSucc) s) ∧
    (Runs s (.dbgBrkSet p.castSucc) s) ∧
    (Runs s (.dbgBrkClr p.castSucc) s) ∧
    (∀ (isl : BitVec 4), Runs s (.xngIslReset p isl) s) ∧
    (Runs s (.commitRequest p.castSucc) s) ∧
    (Runs s (.rulStgWrite p.castSucc) s) ∧
    (Runs s (.rulStgRead p.castSucc) s) ∧
    (Runs s (.rulStgClear p.castSucc) s) ∧
    (∀ (version : BitVec 16), Runs s (.rulPinPin p version) s) ∧
    (∀ (version : BitVec 16), Runs s (.rulPinUnpin p version) s) ∧
    (Runs s (.tblInsert p) s) ∧
    (Runs s (.tblDelete p) s) ∧
    (Runs s (.tblRead p) s) ∧
    (Runs s (.tblUpdate p) s) ∧
    (Runs s (.tblFlush p) s) ∧
    (Runs s (.tblNext p) s) ∧
    (∀ (now : Nat), Runs s (.pwrCmdEnterDry now p) s) ∧
    (∀ (now : Nat), Runs s (.pwrCmdWake now p) s) ∧
    (∀ (now : Nat) (entropy : List Byte), Runs s (.fthNonce now p entropy) s) ∧
    (∀ (now : Nat), Runs s (.fthToken now p) s) ∧
    (Runs s (.fthAttest p) s) ∧
    (Runs s (.fthConfirm p) s) ∧
    (∀ (arg : BitVec 3) (entropy : List Byte), Runs s (.fthLcAdvance p arg entropy) s) ∧
    (Runs s (.fthProvision p) s) ∧
    (∀ (slot : BitVec 3), Runs s (.fthImgErase p slot) s) ∧
    (∀ (slot : BitVec 3), Runs s (.fthImgVerify p slot) s) ∧
    (∀ (target : BitVec 4) (off : BitVec 11), Runs s (.fthWinWrite p target off) s) ∧
    (∀ (target : BitVec 4) (off : BitVec 11), Runs s (.fthWinRead p target off) s) ∧
    (∀ (region : BitVec 4), Runs s (.fthStRegion p region) s) ∧
    (Runs s (.fthStFull p) s) ∧
    (Runs s (.fthStAbort p) s)

/-- For every row of a trigger: where the thread may not issue (it is not READY, or its engine does not run) the row
answers the state; where the unit is not free it answers the state in which only what stood in the units of one step
has completed. A privileged port named in user mode faults PRIV. A supervisor port named by a thread other than T0
of a packet engine, and a privileged port named on a packet engine, fault PORT. The fault is at the bundle of the
thread, and nothing of the operation is done. -/
def Obligations.TriggersThatMayNotIssueAreTurnedAway : Prop :=
  ∀ s : State,
    (∀ (t : Fin 1544) (x : W32),
      TurnedAway s t.val 0x040 (.pcTJump t x) ∧
      TurnedAway s t.val 0x041 (.pcTBr t x) ∧
      TurnedAway s t.val 0x042 (.pcTCall t x) ∧
      TurnedAway s t.val 0x043 (.pcTRet t x) ∧
      TurnedAway s t.val 0x044 (.pcTHalt t x) ∧
      TurnedAway s t.val 0x061 (.lpTBegin t x) ∧
      TurnedAway s t.val 0x062 (.lpTBrk t x) ∧
      TurnedAway s t.val 0x110 (.bitTExtu t x) ∧
      TurnedAway s t.val 0x111 (.bitTExts t x) ∧
      TurnedAway s t.val 0x112 (.bitTIns t x) ∧
      TurnedAway s t.val 0x113 (.bitTClz t x) ∧
      TurnedAway s t.val 0x114 (.bitTCtz t x) ∧
      TurnedAway s t.val 0x115 (.bitTPopc t x) ∧
      TurnedAway s t.val 0x116 (.bitTBswap t x) ∧
      TurnedAway s t.val 0x117 (.bitTBswap16 t x) ∧
      TurnedAway s t.val 0x118 (.bitTBitrev t x) ∧
      TurnedAway s t.val 0x119 (.bitTSext8 t x) ∧
      TurnedAway s t.val 0x11A (.bitTSext16 t x) ∧
      TurnedAway s t.val 0x170 (.cmpTEq t x) ∧
      TurnedAway s t.val 0x171 (.cmpTNe t x) ∧
      TurnedAway s t.val 0x172 (.cmpTLt t x) ∧
      TurnedAway s t.val 0x173 (.cmpTLe t x) ∧
      TurnedAway s t.val 0x174 (.cmpTGt t x) ∧
      TurnedAway s t.val 0x175 (.cmpTGe t x) ∧
      TurnedAway s t.val 0x176 (.cmpTLtu t x) ∧
      TurnedAway s t.val 0x177 (.cmpTLeu t x) ∧
      TurnedAway s t.val 0x178 (.cmpTGtu t x) ∧
      TurnedAway s t.val 0x179 (.cmpTGeu t x) ∧
      TurnedAway s t.val 0x17A (.cmpTTst t x) ∧
      TurnedAway s t.val 0x150 (.mulTMulu t x) ∧
      TurnedAway s t.val 0x151 (.mulTMuls t x) ∧
      TurnedAway s t.val 0x152 (.mulTDivu t x) ∧
      TurnedAway s t.val 0x153 (.mulTDivs t x) ∧
      TurnedAway s t.val 0x190 (.lsTLd8u t x) ∧
      TurnedAway s t.val 0x191 (.lsTLd8s t x) ∧
      TurnedAway s t.val 0x192 (.lsTLd16u t x) ∧
      TurnedAway s t.val 0x193 (.lsTLd16s t x) ∧
      TurnedAway s t.val 0x194 (.lsTLd32 t x) ∧
      TurnedAway s t.val 0x195 (.lsTLd64 t x) ∧
      TurnedAway s t.val 0x198 (.lsTSt8 t x) ∧
      TurnedAway s t.val 0x199 (.lsTSt16 t x) ∧
      TurnedAway s t.val 0x19A (.lsTSt32 t x) ∧
      TurnedAway s t.val 0x19B (.lsTSt64 t x) ∧
      TurnedAway s t.val 0x1A0 (.lsTPf t x) ∧
      TurnedAway s t.val 0x1A8 (.lsTClean t x) ∧
      TurnedAway s t.val 0x1A9 (.lsTInv t x) ∧
      TurnedAway s t.val 0x1AA (.lsTCinv t x) ∧
      TurnedAway s t.val 0x1AF (.lsTFence t x) ∧
      TurnedAway s t.val 0x210 (.pwTLd8 t x) ∧
      TurnedAway s t.val 0x211 (.pwTLd16 t x) ∧
      TurnedAway s t.val 0x212 (.pwTLd32 t x) ∧
      TurnedAway s t.val 0x214 (.pwTSt8 t x) ∧
      TurnedAway s t.val 0x215 (.pwTSt16 t x) ∧
      TurnedAway s t.val 0x216 (.pwTSt32 t x) ∧
      TurnedAway s t.val 0x218 (.pwTIns t x) ∧
      TurnedAway s t.val 0x219 (.pwTDel t x) ∧
      TurnedAway s t.val 0x21A (.pwTLen t x) ∧
      TurnedAway s t.val 0x250 (.dlTRd t x) ∧
      TurnedAway s t.val 0x251 (.dlTWr t x) ∧
      TurnedAway s t.val 0x252 (.dlTFlk t x) ∧
      TurnedAway s t.val 0x253 (.dlTKey t x) ∧
      TurnedAway s t.val 0x254 (.dlTLay t x) ∧
      TurnedAway s t.val 0x255 (.dlTPinfo t x) ∧
      TurnedAway s t.val 0x290 (.tlTL2 t x) ∧
      TurnedAway s t.val 0x291 (.tlTEp t x) ∧
      TurnedAway s t.val 0x292 (.tlTParam t x) ∧
      TurnedAway s t.val 0x2B0 (.tlTFfind t x) ∧
      TurnedAway s t.val 0x2B1 (.tlTFget t x) ∧
      TurnedAway s t.val 0x2B2 (.tlTFread t x) ∧
      TurnedAway s t.val 0x2B3 (.tlTFwrite t x) ∧
      TurnedAway s t.val 0x2B4 (.tlTFdel t x) ∧
      TurnedAway s t.val 0x310 (.chTPut t x) ∧
      TurnedAway s t.val 0x311 (.chTPutl t x) ∧
      TurnedAway s t.val 0x312 (.chTGet t x) ∧
      TurnedAway s t.val 0x313 (.chTCount t x) ∧
      TurnedAway s t.val 0x314 (.chTWatch t x) ∧
      TurnedAway s t.val 0x315 (.chTUnwatch t x) ∧
      TurnedAway s t.val 0x3B0 (.evtTWait t x) ∧
      TurnedAway s t.val 0x3B1 (.evtTClr t x) ∧
      TurnedAway s t.val 0x3B2 (.evtTSig t x) ∧
      TurnedAway s t.val 0x3B3 (.evtTMget t x) ∧
      TurnedAway s t.val 0x3D0 (.tmTStart t x) ∧
      TurnedAway s t.val 0x3D1 (.tmTStop t x) ∧
      TurnedAway s t.val 0x3D2 (.tmTNow t x) ∧
      TurnedAway s t.val 0x3D3 (.tmTNet t x) ∧
      TurnedAway s t.val 0x3F0 (.csTAlloc t x) ∧
      TurnedAway s t.val 0x3F1 (.csTFree t x) ∧
      TurnedAway s t.val 0x3F2 (.csTRef t x) ∧
      TurnedAway s t.val 0x3F3 (.csTAddr t x) ∧
      TurnedAway s t.val 0x3F4 (.csTInfo t x) ∧
      TurnedAway s t.val 0x350 (.lkTAcq t x) ∧
      TurnedAway s t.val 0x351 (.lkTTry t x) ∧
      TurnedAway s t.val 0x352 (.lkTRel t x) ∧
      TurnedAway s t.val 0x353 (.lkTCancel t x) ∧
      TurnedAway s t.val 0x354 (.lkTQuery t x) ∧
      TurnedAway s t.val 0x430 (.wcTNext t x) ∧
      TurnedAway s t.val 0x431 (.wcTSend t x) ∧
      TurnedAway s t.val 0x432 (.wcTDry t x) ∧
      TurnedAway s t.val 0x433 (.wcTRecirc t x) ∧
      TurnedAway s t.val 0x450 (.sqTOrig t x) ∧
      TurnedAway s t.val 0x451 (.sqTDepth t x) ∧
      TurnedAway s t.val 0x474 (.gcmInit t x) ∧
      TurnedAway s t.val 0x474 (.gcmAad t x) ∧
      TurnedAway s t.val 0x474 (.gcmEnc t x) ∧
      TurnedAway s t.val 0x474 (.gcmDec t x) ∧
      TurnedAway s t.val 0x474 (.gcmTag t x) ∧
      TurnedAway s t.val 0x474 (.cmacInit t x) ∧
      TurnedAway s t.val 0x474 (.cmacData t x) ∧
      TurnedAway s t.val 0x474 (.cmacTag t x) ∧
      TurnedAway s t.val 0x474 (.aesBlk t x) ∧
      TurnedAway s t.val 0x474 (.eq t x) ∧
      TurnedAway s t.val 0x4B4 (.crcOpen t x) ∧
      TurnedAway s t.val 0x4B4 (.crcReg t x) ∧
      TurnedAway s t.val 0x4B4 (.crcEnd t x) ∧
      TurnedAway s t.val 0x4B4 (.csumOpen t x) ∧
      TurnedAway s t.val 0x4B4 (.csumReg t x) ∧
      TurnedAway s t.val 0x4B4 (.csumEnd t x) ∧
      TurnedAway s t.val 0x4B4 (.hash t x) ∧
      TurnedAway s t.val 0x4F0 (.svTInfo t x) ∧
      TurnedAway s t.val 0x4F1 (.svTGetreg t x) ∧
      TurnedAway s t.val 0x4F2 (.svTSetreg t x) ∧
      TurnedAway s t.val 0x4F3 (.svTHeld t x) ∧
      TurnedAway s t.val 0x4F4 (.svTResume t x) ∧
      TurnedAway s t.val 0x4F5 (.svTPark t x) ∧
      TurnedAway s t.val 0x4F6 (.svTAck t x) ∧
      TurnedAway s t.val 0x4F7 (.svTReset t x) ∧
      TurnedAway s t.val 0x510 (.dbgTBrk t x) ∧
      TurnedAway s t.val 0x511 (.dbgTMark t x)) ∧
    (∀ (t : Fin 1544) (alu : Fin 2) (x : W32),
      TurnedAway s t.val (0x090 + 0x040 * alu.val + 0) (.aluTAdd t alu x) ∧
      TurnedAway s t.val (0x090 + 0x040 * alu.val + 1) (.aluTSub t alu x) ∧
      TurnedAway s t.val (0x090 + 0x040 * alu.val + 2) (.aluTAnd t alu x) ∧
      TurnedAway s t.val (0x090 + 0x040 * alu.val + 3) (.aluTOr t alu x) ∧
      TurnedAway s t.val (0x090 + 0x040 * alu.val + 4) (.aluTXor t alu x) ∧
      TurnedAway s t.val (0x090 + 0x040 * alu.val + 5) (.aluTAndn t alu x) ∧
      TurnedAway s t.val (0x090 + 0x040 * alu.val + 6) (.aluTShl t alu x) ∧
      TurnedAway s t.val (0x090 + 0x040 * alu.val + 7) (.aluTShr t alu x) ∧
      TurnedAway s t.val (0x090 + 0x040 * alu.val + 8) (.aluTSar t alu x) ∧
      TurnedAway s t.val (0x090 + 0x040 * alu.val + 9) (.aluTRotl t alu x) ∧
      TurnedAway s t.val (0x090 + 0x040 * alu.val + 10) (.aluTMin t alu x) ∧
      TurnedAway s t.val (0x090 + 0x040 * alu.val + 11) (.aluTMax t alu x) ∧
      TurnedAway s t.val (0x090 + 0x040 * alu.val + 12) (.aluTMinu t alu x) ∧
      TurnedAway s t.val (0x090 + 0x040 * alu.val + 13) (.aluTMaxu t alu x) ∧
      TurnedAway s t.val (0x090 + 0x040 * alu.val + 14) (.aluTMov t alu x)) ∧
    (∀ (t : Fin 1544) (wide : Bool) (x : W32),
      TurnedAway s t.val (0x390 + 8 * flagBit wide + 0) (.atTAdd t wide x) ∧
      TurnedAway s t.val (0x390 + 8 * flagBit wide + 1) (.atTSub t wide x) ∧
      TurnedAway s t.val (0x390 + 8 * flagBit wide + 2) (.atTSwap t wide x) ∧
      TurnedAway s t.val (0x390 + 8 * flagBit wide + 3) (.atTCas t wide x) ∧
      TurnedAway s t.val (0x390 + 8 * flagBit wide + 4) (.atTAnd t wide x) ∧
      TurnedAway s t.val (0x390 + 8 * flagBit wide + 5) (.atTOr t wide x) ∧
      TurnedAway s t.val (0x390 + 8 * flagBit wide + 6) (.atTMin t wide x) ∧
      TurnedAway s t.val (0x390 + 8 * flagBit wide + 7) (.atTMax t wide x)) ∧
    (∀ (t : Fin 1544) (h : Fin 2) (x : W32),
      TurnedAway s t.val (0x470 + 0x040 * h.val + 0) (.helperTClaim t h x) ∧
      TurnedAway s t.val (0x470 + 0x040 * h.val + 1) (.helperTRel t h x) ∧
      TurnedAway s t.val (0x470 + 0x040 * h.val + 2) (.helperTWr t h x) ∧
      TurnedAway s t.val (0x470 + 0x040 * h.val + 3) (.helperTRd t h x) ∧
      TurnedAway s t.val (0x470 + 0x040 * h.val + 5) (.helperTFeed t h x)) ∧
    (∀ (ce : Fin 8) (x : W32),
      TurnedAway s (1536 + ce.val) 0x601 (.cxTEret ce x) ∧
      TurnedAway s (1536 + ce.val) 0x608 (.cxTTlbinv ce x) ∧
      TurnedAway s (1536 + ce.val) 0x609 (.cxTTlbflush ce x) ∧
      TurnedAway s (1536 + ce.val) 0x630 (.pmpTWait ce x) ∧
      TurnedAway s (1536 + ce.val) 0x631 (.pmpTPost ce x) ∧
      TurnedAway s (1536 + ce.val) 0x632 (.pmpTYield ce x) ∧
      TurnedAway s (1536 + ce.val) 0x633 (.pmpTDwr ce x) ∧
      TurnedAway s (1536 + ce.val) 0x634 (.pmpTDrd ce x) ∧
      TurnedAway s (1536 + ce.val) 0x635 (.pmpTStart ce x) ∧
      TurnedAway s (1536 + ce.val) 0x636 (.pmpTDel ce x) ∧
      TurnedAway s (1536 + ce.val) 0x637 (.pmpTSend ce x) ∧
      TurnedAway s (1536 + ce.val) 0x668 (.lkpTForce ce x) ∧
      TurnedAway s (1536 + ce.val) 0x669 (.lkpTSetcount ce x) ∧
      TurnedAway s (1536 + ce.val) 0x650 (.edgTTx ce x) ∧
      TurnedAway s (1536 + ce.val) 0x651 (.edgTRoom ce x) ∧
      TurnedAway s (1536 + ce.val) 0x652 (.edgTTs ce x))

/-- For each trigger of the flow of control, the loops, the ALUs, the bit, compare and multiply units, the field and
packet-window units, table and channel readers, events, time, the Cistern and queue readers, the helpers, the
supervisor ports and the control engines named here, whether it is taken, held, turned away or faults: the next
state leaves the queue, the wall clock, the rule versions, the tables, the channels, the Sluice, the domains' time,
the locks, the Ethernet ports, the crossings, the boot, the power state, the Fountainhead and its logs, the image,
the blocked set, the grade, and every byte of scratch and of shared SRAM as they were. The operations of the
helpers, and their register reads, writes and feeds, do the same but for one save slot in the shared SRAM of the
thread's basin: the one of the thread that owns the helper's live registers. -/
def Obligations.TriggersOfOneThreadLeaveTheRestOfTheBlock : Prop :=
  ∀ s : State,
    (∀ (t : Fin 1544) (x : W32),
      LeavesRest s (.pcTJump t x) ∧
      LeavesRest s (.pcTBr t x) ∧
      LeavesRest s (.pcTCall t x) ∧
      LeavesRest s (.pcTRet t x) ∧
      LeavesRest s (.lpTBegin t x) ∧
      LeavesRest s (.lpTBrk t x) ∧
      LeavesRest s (.bitTExtu t x) ∧
      LeavesRest s (.bitTExts t x) ∧
      LeavesRest s (.bitTIns t x) ∧
      LeavesRest s (.bitTClz t x) ∧
      LeavesRest s (.bitTCtz t x) ∧
      LeavesRest s (.bitTPopc t x) ∧
      LeavesRest s (.bitTBswap t x) ∧
      LeavesRest s (.bitTBswap16 t x) ∧
      LeavesRest s (.bitTBitrev t x) ∧
      LeavesRest s (.bitTSext8 t x) ∧
      LeavesRest s (.bitTSext16 t x) ∧
      LeavesRest s (.cmpTEq t x) ∧
      LeavesRest s (.cmpTNe t x) ∧
      LeavesRest s (.cmpTLt t x) ∧
      LeavesRest s (.cmpTLe t x) ∧
      LeavesRest s (.cmpTGt t x) ∧
      LeavesRest s (.cmpTGe t x) ∧
      LeavesRest s (.cmpTLtu t x) ∧
      LeavesRest s (.cmpTLeu t x) ∧
      LeavesRest s (.cmpTGtu t x) ∧
      LeavesRest s (.cmpTGeu t x) ∧
      LeavesRest s (.cmpTTst t x) ∧
      LeavesRest s (.mulTMulu t x) ∧
      LeavesRest s (.mulTMuls t x) ∧
      LeavesRest s (.mulTDivu t x) ∧
      LeavesRest s (.mulTDivs t x) ∧
      LeavesRest s (.lsTPf t x) ∧
      LeavesRest s (.lsTClean t x) ∧
      LeavesRest s (.lsTInv t x) ∧
      LeavesRest s (.lsTCinv t x) ∧
      LeavesRest s (.lsTFence t x) ∧
      LeavesRest s (.pwTLd8 t x) ∧
      LeavesRest s (.pwTLd16 t x) ∧
      LeavesRest s (.pwTLd32 t x) ∧
      LeavesRest s (.pwTSt8 t x) ∧
      LeavesRest s (.pwTSt16 t x) ∧
      LeavesRest s (.pwTSt32 t x) ∧
      LeavesRest s (.pwTIns t x) ∧
      LeavesRest s (.pwTDel t x) ∧
      LeavesRest s (.pwTLen t x) ∧
      LeavesRest s (.dlTRd t x) ∧
      LeavesRest s (.dlTWr t x) ∧
      LeavesRest s (.dlTFlk t x) ∧
      LeavesRest s (.dlTKey t x) ∧
      LeavesRest s (.dlTLay t x) ∧
      LeavesRest s (.dlTPinfo t x) ∧
      LeavesRest s (.tlTEp t x) ∧
      LeavesRest s (.tlTParam t x) ∧
      LeavesRest s (.tlTFread t x) ∧
      LeavesRest s (.tlTFwrite t x) ∧
      LeavesRest s (.chTCount t x) ∧
      LeavesRest s (.chTWatch t x) ∧
      LeavesRest s (.chTUnwatch t x) ∧
      LeavesRest s (.evtTWait t x) ∧
      LeavesRest s (.evtTClr t x) ∧
      LeavesRest s (.evtTSig t x) ∧
      LeavesRest s (.evtTMget t x) ∧
      LeavesRest s (.tmTStart t x) ∧
      LeavesRest s (.tmTStop t x) ∧
      LeavesRest s (.tmTNow t x) ∧
      LeavesRest s (.tmTNet t x) ∧
      LeavesRest s (.csTAlloc t x) ∧
      LeavesRest s (.csTFree t x) ∧
      LeavesRest s (.csTRef t x) ∧
      LeavesRest s (.csTAddr t x) ∧
      LeavesRest s (.csTInfo t x) ∧
      LeavesRest s (.lkTQuery t x) ∧
      LeavesRest s (.wcTNext t x) ∧
      LeavesRest s (.sqTDepth t x) ∧
      LeavesRest s (.svTInfo t x) ∧
      LeavesRest s (.svTGetreg t x) ∧
      LeavesRest s (.svTSetreg t x) ∧
      LeavesRest s (.svTHeld t x) ∧
      LeavesRest s (.svTResume t x) ∧
      LeavesRest s (.svTAck t x) ∧
      LeavesRest s (.svTReset t x) ∧
      LeavesRest s (.dbgTBrk t x) ∧
      LeavesRest s (.dbgTMark t x)) ∧
    (∀ (t : Fin 1544) (alu : Fin 2) (x : W32),
      LeavesRest s (.aluTAdd t alu x) ∧
      LeavesRest s (.aluTSub t alu x) ∧
      LeavesRest s (.aluTAnd t alu x) ∧
      LeavesRest s (.aluTOr t alu x) ∧
      LeavesRest s (.aluTXor t alu x) ∧
      LeavesRest s (.aluTAndn t alu x) ∧
      LeavesRest s (.aluTShl t alu x) ∧
      LeavesRest s (.aluTShr t alu x) ∧
      LeavesRest s (.aluTSar t alu x) ∧
      LeavesRest s (.aluTRotl t alu x) ∧
      LeavesRest s (.aluTMin t alu x) ∧
      LeavesRest s (.aluTMax t alu x) ∧
      LeavesRest s (.aluTMinu t alu x) ∧
      LeavesRest s (.aluTMaxu t alu x) ∧
      LeavesRest s (.aluTMov t alu x)) ∧
    (∀ (t : Fin 1544) (h : Fin 2) (x : W32),
      LeavesRest s (.helperTClaim t h x) ∧
      LeavesRest s (.helperTRel t h x)) ∧
    (∀ (ce : Fin 8) (x : W32),
      LeavesRest s (.cxTEret ce x) ∧
      LeavesRest s (.cxTTlbinv ce x) ∧
      LeavesRest s (.cxTTlbflush ce x) ∧
      LeavesRest s (.pmpTWait ce x) ∧
      LeavesRest s (.pmpTPost ce x) ∧
      LeavesRest s (.pmpTYield ce x) ∧
      LeavesRest s (.pmpTDwr ce x) ∧
      LeavesRest s (.pmpTDrd ce x) ∧
      LeavesRest s (.pmpTStart ce x) ∧
      LeavesRest s (.pmpTSend ce x) ∧
      LeavesRest s (.edgTRoom ce x)) ∧
    (∀ (t : Fin 1544) (x : W32),
      LeavesSlots s t.val 0 (.gcmInit t x) ∧
      LeavesSlots s t.val 0 (.gcmAad t x) ∧
      LeavesSlots s t.val 0 (.gcmEnc t x) ∧
      LeavesSlots s t.val 0 (.gcmDec t x) ∧
      LeavesSlots s t.val 0 (.gcmTag t x) ∧
      LeavesSlots s t.val 0 (.cmacInit t x) ∧
      LeavesSlots s t.val 0 (.cmacData t x) ∧
      LeavesSlots s t.val 0 (.cmacTag t x) ∧
      LeavesSlots s t.val 0 (.aesBlk t x) ∧
      LeavesSlots s t.val 0 (.eq t x) ∧
      LeavesSlots s t.val 1 (.crcOpen t x) ∧
      LeavesSlots s t.val 1 (.crcReg t x) ∧
      LeavesSlots s t.val 1 (.crcEnd t x) ∧
      LeavesSlots s t.val 1 (.csumOpen t x) ∧
      LeavesSlots s t.val 1 (.csumReg t x) ∧
      LeavesSlots s t.val 1 (.csumEnd t x) ∧
      LeavesSlots s t.val 1 (.hash t x)) ∧
    (∀ (t : Fin 1544) (h : Fin 2) (x : W32),
      LeavesSlots s t.val h.val (.helperTWr t h x) ∧
      LeavesSlots s t.val h.val (.helperTRd t h x) ∧
      LeavesSlots s t.val h.val (.helperTFeed t h x))

/-- A store of 1, 2, 4 or 8 bytes whose aligned address Table 7.2 places in scratch or in shared SRAM writes those
bytes of the data operands, least significant first, from the place on, and an atomic of 4 or 8 bytes writes the
bytes of its word: every other byte of both memories reads as before, the scratch of another engine, the part of
another thread where the thread is not T0, and the shared SRAM of another basin among them. The rest of the state
outside the thread's units is as it was. A store of less than 8 bytes, and an atomic, are stated where their bytes
have no uncorrectable error. -/
def Obligations.StoresAndAtomicsChangeOnlyTheirBytes : Prop :=
  ∀ (s : State) (t : Fin 1544) (x : W32),
    StoresOnly s t.val 0x198 1 x (.lsTSt8 t x) ∧
    StoresOnly s t.val 0x199 2 x (.lsTSt16 t x) ∧
    StoresOnly s t.val 0x19A 4 x (.lsTSt32 t x) ∧
    StoresOnly s t.val 0x19B 8 x (.lsTSt64 t x) ∧
    ∀ wide : Bool,
      AtomicOnly s t.val wide 0 x (.atTAdd t wide x) ∧
      AtomicOnly s t.val wide 1 x (.atTSub t wide x) ∧
      AtomicOnly s t.val wide 2 x (.atTSwap t wide x) ∧
      AtomicOnly s t.val wide 3 x (.atTCas t wide x) ∧
      AtomicOnly s t.val wide 4 x (.atTAnd t wide x) ∧
      AtomicOnly s t.val wide 5 x (.atTOr t wide x) ∧
      AtomicOnly s t.val wide 6 x (.atTMin t wide x) ∧
      AtomicOnly s t.val wide 7 x (.atTMax t wide x)

/-- The statements of the triggers give an effect on the state in which what stood in the units of one step has
completed, and say that what follows the effect follows it: the note for the decision log, further completions, the
engines and the scheduler. Neither the first nor the second, nor an operation's completion, nor a fault of a thread
with what follows it, touches the queue, the wall clock, the rule versions, the tables, the channels, the Sluice,
the domains' time, the locks, the Ethernet ports, the crossings, the boot, the power state, the Fountainhead and its
logs, the image, the blocked set, the grade, or a byte of scratch or of shared SRAM. -/
def Obligations.WhatPrecedesAndFollowsATriggerLeavesTheRest : Prop :=
  (∀ (s : State) (t : Nat), Stays s (s.settleFast t)) ∧
  (∀ (u v : State) (t p : Nat) (x : W32), u.rpl.replay = none → Stays v (u.issued t p x v)) ∧
  (∀ (u : State) (t k : Nat), Stays u (u.completeOp t k)) ∧
  (∀ (u : State) (t cause pc : Nat), Stays u ((u.fault t cause pc).afterIssue t))
end

