-- ==== Sys2Proof/Laws/SMap.lean ====
section
/-! SUPPORT. The laws of the sparse tables and of the byte memories: reading after writing, and the canonical form. -/

namespace Sys2Proof

variable {α : Type}

/-! ### Reading after writing -/

@[simp] theorem SMap.find_nil (k : Nat) : SMap.find ([] : SMap α) k = none := rfl

theorem SMap.find_erase_self (m : SMap α) (k : Nat) : (SMap.erase m k).find k = none := by
  induction m with
  | nil => rfl
  | cons e m ih =>
    obtain ⟨j, u⟩ := e
    by_cases h : j = k
    · simp only [SMap.erase, h, if_true]; exact ih
    · simp only [SMap.erase, h, if_false, SMap.find]; exact ih

theorem SMap.find_erase_of_ne (m : SMap α) {k a : Nat} (h : a ≠ k) : (SMap.erase m k).find a = m.find a := by
  induction m with
  | nil => rfl
  | cons e m ih =>
    obtain ⟨j, u⟩ := e
    by_cases hj : j = k
    · have : ¬ j = a := fun e => h (e.symm.trans hj)
      simp only [SMap.erase, hj, if_true, SMap.find]
      rw [ih, if_neg (fun e => h e.symm)]
    · simp only [SMap.erase, hj, if_false, SMap.find, ih]

theorem SMap.find_set_self (m : SMap α) (k : Nat) (v : α) : (SMap.set m k v).find k = some v := by
  induction m with
  | nil => simp [SMap.set, SMap.find]
  | cons e m ih =>
    obtain ⟨j, u⟩ := e
    unfold SMap.set
    split
    · simp [SMap.find]
    · split
      · simp [SMap.find]
      · rename_i h1 h2
        simp only [SMap.find]
        rw [if_neg (fun e => h2 e.symm)]
        exact ih

theorem SMap.find_set_of_ne (m : SMap α) {k a : Nat} (v : α) (h : a ≠ k) : (SMap.set m k v).find a = m.find a := by
  induction m with
  | nil => simp [SMap.set, SMap.find, Ne.symm h]
  | cons e m ih =>
    obtain ⟨j, u⟩ := e
    unfold SMap.set
    split
    · simp [SMap.find, Ne.symm h]
    · split
      · rename_i h2
        simp [SMap.find, Ne.symm h, ← h2]
      · simp only [SMap.find, ih]

theorem SMap.get_put_self [DecidableEq α] (m : SMap α) (k : Nat) (v d : α) : SMap.get (SMap.put m k v d) k d = v := by
  unfold SMap.put SMap.get
  split
  · rename_i h
    simp [SMap.find_erase_self, h]
  · simp [SMap.find_set_self]

theorem SMap.get_put_of_ne [DecidableEq α] (m : SMap α) {k a : Nat} (v d e : α) (h : a ≠ k) :
    SMap.get (SMap.put m k v d) a e = SMap.get m a e := by
  unfold SMap.put SMap.get
  split
  · rw [SMap.find_erase_of_ne m h]
  · rw [SMap.find_set_of_ne m v h]

/-! ### The canonical form -/

/-- Every key is above a bound. -/
def SMap.above (b : Nat) (m : SMap α) : Prop := ∀ e ∈ m, b < e.1

theorem SMap.sorted_cons (j : Nat) (u : α) (m : SMap α) :
    SMap.sorted ((j, u) :: m) = true ↔ SMap.above j m ∧ SMap.sorted m = true := by
  induction m generalizing j u with
  | nil => simp [SMap.sorted, SMap.above]
  | cons e m ih =>
    obtain ⟨k, w⟩ := e
    simp only [SMap.sorted, Bool.and_eq_true, decide_eq_true_eq]
    constructor
    · rintro ⟨h1, h2⟩
      refine ⟨fun e he => ?_, h2⟩
      rcases List.mem_cons.mp he with rfl | he
      · exact h1
      · exact Nat.lt_trans h1 (((ih k w).mp h2).1 e he)
    · rintro ⟨h1, h2⟩
      exact ⟨h1 (k, w) (List.mem_cons_self ..), h2⟩

theorem SMap.above_set {b k : Nat} {m : SMap α} (v : α) (hk : b < k) (h : SMap.above b m) :
    SMap.above b (SMap.set m k v) := by
  induction m with
  | nil => intro e he; simp [SMap.set] at he; subst he; exact hk
  | cons e m ih =>
    obtain ⟨j, u⟩ := e
    have hm : SMap.above b m := fun x hx => h x (List.mem_cons_of_mem _ hx)
    have hj : b < j := h (j, u) (List.mem_cons_self ..)
    unfold SMap.set
    split
    · intro x hx
      rcases List.mem_cons.mp hx with rfl | hx
      · exact hk
      · exact h x hx
    · split
      · intro x hx
        rcases List.mem_cons.mp hx with rfl | hx
        · exact hk
        · exact hm x hx
      · intro x hx
        rcases List.mem_cons.mp hx with rfl | hx
        · exact hj
        · exact ih hm x hx

theorem SMap.sorted_set {m : SMap α} (k : Nat) (v : α) (h : SMap.sorted m = true) :
    SMap.sorted (SMap.set m k v) = true := by
  induction m with
  | nil => rfl
  | cons e m ih =>
    obtain ⟨j, u⟩ := e
    have hc := (SMap.sorted_cons j u m).mp h
    unfold SMap.set
    split
    · rename_i hk
      refine (SMap.sorted_cons _ _ _).mpr ⟨fun x hx => ?_, h⟩
      rcases List.mem_cons.mp hx with rfl | hx
      · exact hk
      · exact Nat.lt_trans hk (hc.1 x hx)
    · split
      · rename_i hk
        refine (SMap.sorted_cons _ _ _).mpr ⟨?_, hc.2⟩
        rw [hk]; exact hc.1
      · rename_i h1 h2
        exact (SMap.sorted_cons _ _ _).mpr ⟨SMap.above_set v (by omega) hc.1, ih hc.2⟩

theorem SMap.mem_set {m : SMap α} {k : Nat} {v : α} {e : Nat × α} (h : e ∈ SMap.set m k v) : e = (k, v) ∨ e ∈ m := by
  induction m with
  | nil => simp [SMap.set] at h; exact .inl h
  | cons x m ih =>
    obtain ⟨j, u⟩ := x
    unfold SMap.set at h
    split at h
    · rcases List.mem_cons.mp h with h | h
      · exact .inl h
      · exact .inr h
    · split at h
      · rcases List.mem_cons.mp h with h | h
        · exact .inl h
        · exact .inr (List.mem_cons_of_mem _ h)
      · rcases List.mem_cons.mp h with h | h
        · exact .inr (h ▸ List.mem_cons_self ..)
        · rcases ih h with h | h
          · exact .inl h
          · exact .inr (List.mem_cons_of_mem _ h)

theorem SMap.sorted_filter {m : SMap α} (p : Nat × α → Bool) (h : SMap.sorted m = true) :
    SMap.sorted (m.filter p) = true := by
  induction m with
  | nil => rfl
  | cons e m ih =>
    obtain ⟨j, u⟩ := e
    have hc := (SMap.sorted_cons j u m).mp h
    rw [List.filter_cons]
    split
    · exact (SMap.sorted_cons _ _ _).mpr ⟨fun x hx => hc.1 x (List.mem_filter.mp hx).1, ih hc.2⟩
    · exact ih hc.2

theorem SMap.erase_eq_filter (m : SMap α) (k : Nat) : SMap.erase m k = m.filter fun e => decide (e.1 ≠ k) := by
  induction m with
  | nil => rfl
  | cons e m ih =>
    obtain ⟨j, u⟩ := e
    by_cases h : j = k
    · simp [SMap.erase, h, ih]
    · simp [SMap.erase, h, ih]

theorem SMap.sorted_put [DecidableEq α] {m : SMap α} (k : Nat) (v d : α) (h : SMap.sorted m = true) :
    SMap.sorted (SMap.put m k v d) = true := by
  unfold SMap.put
  split
  · rw [SMap.erase_eq_filter]; exact SMap.sorted_filter _ h
  · exact SMap.sorted_set k v h

theorem SMap.proper_put [DecidableEq α] {m : SMap α} (k : Nat) (v d : α) (h : SMap.proper m d = true) :
    SMap.proper (SMap.put m k v d) d = true := by
  unfold SMap.proper at *
  rw [List.all_eq_true] at *
  intro e he
  unfold SMap.put at he
  split at he
  · rw [SMap.erase_eq_filter] at he
    exact h e (List.mem_filter.mp he).1
  · rename_i hv
    rcases SMap.mem_set he with rfl | he
    · simpa using hv
    · exact h e he

namespace Machine

@[simp] theorem memory_wf_nil : Memory.wf [] = true := rfl

theorem cellPut_wf {m : List Host.Cell} (a : Nat) (b : Byte) (h : Memory.wf m = true) : Memory.wf (cellPut m a b) = true := by
  unfold Memory.wf at *
  rw [Bool.and_eq_true] at *
  exact ⟨SMap.sorted_put a b 0 h.1, SMap.proper_put a b 0 h.2⟩

theorem cellWrite_wf {m : List Host.Cell} (a : Nat) (bs : List Byte) (h : Memory.wf m = true) :
    Memory.wf (cellWrite m a bs) = true := by
  induction bs generalizing m a with
  | nil => exact h
  | cons b bs ih => exact ih (a + 1) (cellPut_wf a b h)

theorem filter_wf {m : List Host.Cell} (p : Host.Cell → Bool) (h : Memory.wf m = true) : Memory.wf (m.filter p) = true := by
  unfold Memory.wf at *
  rw [Bool.and_eq_true] at *
  refine ⟨SMap.sorted_filter p h.1, ?_⟩
  have hp := h.2
  unfold SMap.proper at *
  rw [List.all_eq_true] at *
  exact fun e he => hp e (List.mem_filter.mp he).1

theorem cellClear_wf {m : List Host.Cell} (a n : Nat) (h : Memory.wf m = true) : Memory.wf (cellClear m a n) = true :=
  filter_wf _ h

/-- Reading the byte just written. -/
theorem cellGet_put_self (m : List Host.Cell) (a : Nat) (b : Byte) : cellGet (cellPut m a b) a = b :=
  SMap.get_put_self m a b 0

/-- A write of one byte leaves every other byte. -/
theorem cellGet_put_of_ne (m : List Host.Cell) {a x : Nat} (b : Byte) (h : x ≠ a) : cellGet (cellPut m a b) x = cellGet m x :=
  SMap.get_put_of_ne m b 0 0 h

/-- A write leaves every byte outside the bytes written. -/
theorem cellGet_write_outside (m : List Host.Cell) (a : Nat) (bs : List Byte) {x : Nat} (h : x < a ∨ a + bs.length ≤ x) :
    cellGet (cellWrite m a bs) x = cellGet m x := by
  induction bs generalizing m a with
  | nil => rfl
  | cons b bs ih =>
    simp only [List.length_cons] at h
    show cellGet (cellWrite (cellPut m a b) (a + 1) bs) x = cellGet m x
    rw [ih (cellPut m a b) (a + 1) (by omega), cellGet_put_of_ne m b (by omega)]

/-- Reading inside the bytes written gives them. -/
theorem cellGet_write_inside (m : List Host.Cell) (a : Nat) (bs : List Byte) {i : Nat} (h : i < bs.length) :
    cellGet (cellWrite m a bs) (a + i) = bs[i] := by
  induction bs generalizing m a i with
  | nil => simp at h
  | cons b bs ih =>
    show cellGet (cellWrite (cellPut m a b) (a + 1) bs) (a + i) = _
    cases i with
    | zero => simpa using (cellGet_write_outside (cellPut m a b) (a + 1) bs (x := a) (by omega)).trans (cellGet_put_self m a b)
    | succ i =>
      have := ih (cellPut m a b) (a + 1) (i := i) (by simpa using h)
      rw [show a + (i + 1) = a + 1 + i by omega, this]; rfl

/-- Reading the bytes just written. -/
theorem cellRead_write (m : List Host.Cell) (a n : Nat) (bs : List Byte) (h : bs.length = n) :
    cellRead (cellWrite m a bs) a n = bs := by
  subst h
  unfold cellRead
  refine List.ext_getElem (by rw [List.length_map, List.length_range]) fun i h1 h2 => ?_
  rw [List.getElem_map, List.getElem_range]
  exact cellGet_write_inside m a bs h2

end Machine

end Sys2Proof
end

