-- ==== Sys2Proof/Laws/Carry.lean ====
section
/-! SUPPORT. What every operation carries from state to state: the queue, soundness, and what no command takes back. One
lemma for each shape in which an operation answers a state, and the rules that take an operation's text apart. -/

namespace Sys2Proof

open Machine

/-- A Wellstore that is sound and keeps what an earlier one had. -/
structure FthCarries (a f : FthSt) : Prop where
  lc : f.lc ≤ 4
  next : ∀ n, f.lcPending = some n → n ≤ 4 ∧ lifeRank f.lc ≤ lifeRank n
  press : f.press.isSome = true → f.lc = 2
  count : f.bootCount < 2 ^ 32
  well : Memory.wf f.well = true
  win : Memory.wf f.win = true
  life : lifeRank a.lc ≤ lifeRank f.lc
  counter0 : a.counter0 ≤ f.counter0
  counter1 : a.counter1 ≤ f.counter1
  boots : a.bootCount ≤ f.bootCount
  revoked : ∀ k, k ∈ a.revoked → k ∈ f.revoked

/-- The fields of the Wellstore that these conditions speak of. -/
structure FthVital where
  lc : Nat
  lcPending : Option Nat
  press : Bool
  well : List Host.Cell
  win : List Host.Cell
  counter0 : Nat
  counter1 : Nat
  boots : Nat
  revoked : List Nat

def FthSt.vital (f : FthSt) : FthVital :=
  ⟨f.lc, f.lcPending, f.press.isSome, f.well, f.win, f.counter0, f.counter1, f.bootCount, f.revoked⟩

theorem FthCarries.same {a f g : FthSt} (h : FthCarries a f) (e : FthSt.vital g = FthSt.vital f) : FthCarries a g := by
  simp only [FthSt.vital, FthVital.mk.injEq] at e
  obtain ⟨e1, e2, e3, e4, e5, e6, e7, e8, e9⟩ := e
  constructor
  · rw [e1]; exact h.lc
  · rw [e1, e2]; exact h.next
  · rw [e1, e3]; exact h.press
  · rw [e8]; exact h.count
  · rw [e4]; exact h.well
  · rw [e5]; exact h.win
  · rw [e1]; exact h.life
  · rw [e6]; exact h.counter0
  · rw [e7]; exact h.counter1
  · rw [e8]; exact h.boots
  · rw [e9]; exact h.revoked

/-- The memories of the fabric are in their canonical form. -/
structure MemOk (m : MemSt) : Prop where
  ipd : Memory.wf m.ipd = true
  shared : Memory.wf m.shared = true
  scratch : Memory.wf m.scratch = true

theorem MemOk.same {m n : MemSt} (h : MemOk m)
    (e : (n.ipd, n.shared, n.scratch) = (m.ipd, m.shared, m.scratch)) : MemOk n := by
  simp only [Prod.mk.injEq] at e
  obtain ⟨e1, e2, e3⟩ := e
  exact ⟨e1 ▸ h.ipd, e2 ▸ h.shared, e3 ▸ h.scratch⟩

/-- s has o's queue, is sound, and keeps what o had. -/
structure Carries (o s : State) : Prop where
  pending : s.pending = o.pending
  grade : s.grade = o.grade
  stage : s.boot.stage ≤ 4
  mem : MemOk s.mem
  host : Memory.wf s.hst.mem = true
  fth : FthCarries o.fth s.fth

theorem Carries.sound {o s : State} (h : Carries o s) : Sound s :=
  ⟨h.fth.lc, h.fth.next, h.fth.press, h.fth.count, ⟨h.mem.ipd, h.mem.shared, h.mem.scratch, h.fth.well, h.fth.win, h.host⟩, h.stage⟩

theorem Carries.keeps {o s : State} (h : Carries o s) : Keeps o s :=
  ⟨h.fth.life, h.fth.revoked, h.fth.counter0, h.fth.counter1, h.fth.boots, h.grade⟩

theorem Carries.refl {s : State} (h : Sound s) : Carries s s :=
  ⟨rfl, rfl, h.stage, ⟨h.mems.ipd, h.mems.shared, h.mems.scratch⟩, h.mems.host,
    ⟨h.life, h.next, h.press, h.count, h.mems.well, h.mems.win, Nat.le_refl _, Nat.le_refl _, Nat.le_refl _, Nat.le_refl _,
      fun _ hk => hk⟩⟩

/-! ### Shapes of answers -/

variable {α β γ : Type}

/-- A pair whose second part is a state. -/
def Carries2 (o : State) (r : α × State) : Prop := Carries o r.2

/-- A triple whose last part is a state. -/
def Carries3 (o : State) (r : α × β × State) : Prop := Carries o r.2.2

/-- A triggered operation's answer. -/
def Carries1 (o : State) (r : Trig) : Prop := Carries o r.1

/-- A state that may be absent. -/
def CarriesO (o : State) (r : Option State) : Prop := ∀ s, r = some s → Carries o s

theorem Carries2.snd {o : State} {r : α × State} (h : Carries2 o r) : Carries o r.2 := h
theorem Carries2.mk {o s : State} {a : α} (h : Carries o s) : Carries2 o (a, s) := h
theorem Carries2.of {o s : State} {r : α × State} {a : α} (h : Carries2 o r) (e : r = (a, s)) : Carries o s := by
  subst e; exact h
theorem Carries3.snd {o : State} {r : α × β × State} (h : Carries3 o r) : Carries o r.2.2 := h
theorem Carries3.snd2 {o : State} {r : α × β × State} (h : Carries3 o r) : Carries2 o r.2 := h
theorem Carries3.mk {o s : State} {a : α} {b : β} (h : Carries o s) : Carries3 o (a, b, s) := h
theorem Carries3.mk2 {o : State} {a : α} {r : β × State} (h : Carries2 o r) : Carries3 o (a, r) := h
theorem Carries3.of {o s : State} {r : α × β × State} {a : α} {b : β} (h : Carries3 o r) (e : r = (a, b, s)) :
    Carries o s := by
  subst e; exact h
theorem Carries1.fst {o : State} {r : Trig} (h : Carries1 o r) : Carries o r.1 := h
theorem Carries1.mk {o s : State} {n : Nat} (h : Carries o s) : Carries1 o (s, n) := h
theorem Carries1.of {o s : State} {r : Trig} {n : Nat} (h : Carries1 o r) (e : r = (s, n)) : Carries o s := by
  subst e; exact h
theorem CarriesO.some {o s : State} (h : Carries o s) : CarriesO o (.some s) := fun t e => by
  cases e; exact h
theorem CarriesO.none {o : State} : CarriesO o .none := fun t e => by cases e
theorem CarriesO.of {o s : State} {r : Option State} (h : CarriesO o r) (e : r = .some s) : Carries o s := h s e
theorem CarriesO.getD {o s : State} {r : Option State} (h : CarriesO o r) (hs : Carries o s) : Carries o (r.getD s) := by
  cases r with
  | none => exact hs
  | some t => exact h t rfl

/-- An outcome is a next state that carries. -/
def Answers (o : State) (r : Host.Outcome State Fault Refusal) : Prop := ∃ t, r = .next t ∧ Carries o t

/-! ### Taking a text apart -/

theorem pIte {P : β → Prop} {c : Prop} [Decidable c] {a b : β} (ha : P a) (hb : P b) : P (if c then a else b) := by
  split
  · exact ha
  · exact hb

theorem pDite {P : β → Prop} {c : Prop} [Decidable c] {a : c → β} {b : ¬c → β} (ha : ∀ h, P (a h)) (hb : ∀ h, P (b h)) :
    P (if h : c then a h else b h) := by
  split
  · exact ha _
  · exact hb _

theorem pCond {P : β → Prop} {c : Bool} {a b : β} (ha : P a) (hb : P b) : P (bif c then a else b) := by
  cases c
  · exact hb
  · exact ha

theorem pFoldl {P : β → Prop} {f : β → γ → β} {i : β} {l : List γ} (hi : P i) (hf : ∀ b c, P b → P (f b c)) :
    P (l.foldl f i) := by
  induction l generalizing i with
  | nil => exact hi
  | cons c l ih => exact ih (hf i c hi)

theorem pPair2 {P : γ → Prop} {o : State} {p : α × State} {f : α → State → γ} (hp : Carries2 o p)
    (h : ∀ a s, Carries o s → P (f a s)) : P (Prod.casesOn p f) := by
  obtain ⟨a, s⟩ := p
  exact h a s hp

theorem pPair1 {P : γ → Prop} {o : State} {p : Trig} {f : State → Nat → γ} (hp : Carries1 o p)
    (h : ∀ s n, Carries o s → P (f s n)) : P (Prod.casesOn p f) := by
  obtain ⟨s, n⟩ := p
  exact h s n hp

/-- An update of any fields but the queue and the grade. -/
theorem carriesUp {o s : State} {regs : SMap Nat} {wall : Nat} {weir : WeirSt} {rul : RulSt} {tbl : TblSt} {thr : SMap Thr}
    {eng : SMap Eng} {hlp : SMap Helper} {chan : SMap Chan} {cis : CisSt} {mem : MemSt} {slu : SluSt} {time : TimeSt}
    {pmp : PmpSt} {lkg : LkgSt} {hst : HstSt} {edg : EdgSt} {xng : XngSt} {boot : BootSt} {pwr : PwrSt} {fth : FthSt}
    {rpl : RplSt} {img : Image} {blocked : List Nat} {out : List Out} {fresh : Nat} (h : Carries o s)
    (hb : Carries o s → boot.stage ≤ 4) (hm : Carries o s → MemOk mem) (hh : Carries o s → Memory.wf hst.mem = true)
    (hf : Carries o s → FthCarries o.fth fth) :
    Carries o ⟨s.pending, regs, wall, weir, rul, tbl, thr, eng, hlp, chan, cis, mem, slu, time, pmp, lkg, hst, edg, xng, boot,
      pwr, fth, rpl, img, blocked, s.grade, out, fresh⟩ :=
  ⟨h.pending, h.grade, hb h, hm h, hh h, hf h⟩

/-- An update of the fields that no claim speaks of. -/
theorem carriesMk {o s : State} {regs : SMap Nat} {wall : Nat} {weir : WeirSt} {rul : RulSt} {tbl : TblSt} {thr : SMap Thr}
    {eng : SMap Eng} {hlp : SMap Helper} {chan : SMap Chan} {cis : CisSt} {mem : MemSt} {slu : SluSt} {time : TimeSt}
    {pmp : PmpSt} {lkg : LkgSt} {hst : HstSt} {edg : EdgSt} {xng : XngSt} {boot : BootSt} {pwr : PwrSt} {fth : FthSt}
    {rpl : RplSt} {img : Image} {blocked : List Nat} {out : List Out} {fresh : Nat} (h : Carries o s)
    (hb : boot.stage = s.boot.stage) (hm : (mem.ipd, mem.shared, mem.scratch) = (s.mem.ipd, s.mem.shared, s.mem.scratch))
    (hh : hst.mem = s.hst.mem) (hf : FthSt.vital fth = FthSt.vital s.fth) :
    Carries o ⟨s.pending, regs, wall, weir, rul, tbl, thr, eng, hlp, chan, cis, mem, slu, time, pmp, lkg, hst, edg, xng, boot,
      pwr, fth, rpl, img, blocked, s.grade, out, fresh⟩ :=
  carriesUp h (fun h => hb ▸ h.stage) (fun h => h.mem.same hm) (fun h => hh ▸ h.host) (fun h => h.fth.same hf)

theorem foldl_put_wf {l : List Host.Cell} {m : List Host.Cell} (h : Memory.wf m = true) :
    Memory.wf (l.foldl (fun m e => cellPut m e.1 e.2) m) = true :=
  pFoldl (P := fun m => Memory.wf m = true) h fun _ e hm => cellPut_wf e.1 e.2 hm

/-- Register fields are written: the Wellstore stays. -/
theorem setAll_fth (s : State) (l : List (Fld × Nat × Nat × Nat)) : (s.setAll l).fth = s.fth :=
  pFoldl (P := fun t : State => t.fth = s.fth) rfl fun _ _ h => h

theorem showNonce_fth (s : State) : s.showNonce.fth = s.fth := setAll_fth _ _

end Sys2Proof
end

