-- ==== Sys2Proof/Laws/CarryOps.lean ====
section
/-! SUPPORT. What the operations of Ops, Reset, Crossing, Fount carry from state to state. -/

namespace Sys2Proof.Machine

open Sys2Proof

/-! ### Ops -/

theorem State.setFld_carries {o : State} {s : State} {f : Fld} {i : Nat} {b : Nat} {v : Nat} (h1 : Carries o s) :
    Carries o (State.setFld s f i b v) := by
  unfold State.setFld
  exact carriesMk h1 rfl rfl rfl rfl

theorem State.bumpFld_carries {o : State} {s : State} {f : Fld} {i : Nat} {b : Nat} {n : Nat} (h1 : Carries o s) :
    Carries o (State.bumpFld s f i b n) := by
  unfold State.bumpFld
  exact State.setFld_carries h1

theorem State.bump_carries {o : State} {s : State} {f : Fld} (h1 : Carries o s) : Carries o (State.bump s f) := by
  unfold State.bump
  exact State.bumpFld_carries h1

theorem State.emit_carries {o : State} {s : State} {a1 : Out} (h1 : Carries o s) : Carries o (State.emit s a1) := by
  unfold State.emit
  exact carriesMk h1 rfl rfl rfl rfl

theorem State.sendVec_carries {o : State} {s : State} {p : Nat} {v : Nat} (h1 : Carries o s) : Carries o
    (State.sendVec s p v) := by
  unfold State.sendVec
  split
  · rename_i x1 e2
    exact h1
  · rename_i x3 x4 e5
    extract_lets +onlyGivenNames v6
    extract_lets +onlyGivenNames v7
    refine pIte (P := Carries o) ?_ ?_
    · exact pIte (P := Carries o) h1 (carriesMk h1 rfl rfl rfl rfl)
    · exact State.emit_carries h1

theorem State.signalVec_carries {o : State} {s : State} {p : Nat} {v : Nat} (h1 : Carries o s) : Carries o
    (State.signalVec s p v) := by
  unfold State.signalVec
  refine pIte (P := Carries o) ?_ ?_
  · extract_lets +onlyGivenNames v1
    extract_lets +onlyGivenNames v2
    split
    · rename_i x3 x4 e5
      exact pIte (P := Carries o) h1 (carriesMk h1 rfl rfl rfl rfl)
    · rename_i x6 e7
      extract_lets +onlyGivenNames v8
      have h9 : Carries o v8 := by
        unfold v8
        exact State.sendVec_carries h1
      clear_value v8
      exact pIte (P := Carries o) h9 (carriesMk h9 rfl rfl rfl rfl)
  · exact State.sendVec_carries h1

theorem State.devicePost_carries {o : State} {s : State} {page : Nat} (h1 : Carries o s) : Carries o (State.devicePost
    s page) := by
  unfold State.devicePost
  split
  · rename_i x1 e2
    exact h1
  · rename_i x3 x4 e5
    refine pIte (P := Carries o) ?_ ?_
    · exact carriesMk h1 rfl rfl rfl rfl
    · extract_lets +onlyGivenNames v6
      extract_lets +onlyGivenNames v7
      have h8 : Carries o v7 := by
        unfold v7
        exact carriesMk h1 rfl rfl rfl rfl
      refine pIte (P := Carries o) ?_ ?_
      · extract_lets +onlyGivenNames v9
        have h10 : Carries o v9 := by
          unfold v9
          exact State.setFld_carries h8
        clear_value v9
        exact pIte (P := Carries o) (State.signalVec_carries h10) h10
      · exact h8

theorem State.event_carries {o : State} {s : State} {st : Fld} {en : Fld} {bank : Nat} {p : Nat} (h1 : Carries o s) :
    Carries o (State.event s st en bank p) := by
  unfold State.event
  extract_lets +onlyGivenNames v1
  have h2 : Carries o v1 := by
    unfold v1
    exact State.devicePost_carries (State.setFld_carries h1)
  clear_value v1
  exact pIte (P := Carries o) (State.signalVec_carries h2) h2

theorem State.eventSup_carries {o : State} {s : State} {st : Fld} {en : Fld} (h1 : Carries o s) : Carries o
    (State.eventSup s st en) := by
  unfold State.eventSup
  exact State.event_carries h1

theorem State.free_carries {o : State} {s : State} (h1 : Carries o s) : Carries2 o (State.free s) := by
  unfold State.free
  exact Carries2.mk (carriesMk h1 rfl rfl rfl rfl)

theorem State.setThread_carries {o : State} {s : State} {t : Nat} {v : Thr} (h1 : Carries o s) : Carries o
    (State.setThread s t v) := by
  unfold State.setThread
  exact carriesMk h1 rfl rfl rfl rfl

theorem State.updThread_carries {o : State} {s : State} {t : Nat} {f : Thr → Thr} (h1 : Carries o s) : Carries o
    (State.updThread s t f) := by
  unfold State.updThread
  exact State.setThread_carries h1

theorem State.wr_carries {o : State} {s : State} {f : Fld} {v : Nat} (h1 : Carries o s) : Carries o (State.wr s f v)
    := by
  unfold State.wr
  exact State.setFld_carries h1

theorem State.setAll_carries {o : State} {s : State} {l : List (Fld × Nat × Nat × Nat)} (h1 : Carries o s) : Carries o
    (State.setAll s l) := by
  unfold State.setAll
  refine pFoldl (P := Carries o) ?_ ?_
  · exact h1
  · intro s1 x2 h3
    exact State.setFld_carries h3

theorem State.setEngine_carries {o : State} {s : State} {e : Nat} {v : Eng} (h1 : Carries o s) : Carries o
    (State.setEngine s e v) := by
  unfold State.setEngine
  exact carriesMk h1 rfl rfl rfl rfl

theorem State.setNet_carries {o : State} {s : State} {d : Nat} {v : Nat} (h1 : Carries o s) : Carries o (State.setNet
    s d v) := by
  unfold State.setNet
  extract_lets +onlyGivenNames v1
  split
  · rename_i x2
    exact carriesMk h1 rfl rfl rfl rfl
  · rename_i x3
    exact carriesMk h1 rfl rfl rfl rfl
  · rename_i x4
    exact carriesMk h1 rfl rfl rfl rfl
  · rename_i x5 e6 e7 e8
    exact carriesMk h1 rfl rfl rfl rfl

theorem State.eventBit_carries {o : State} {s : State} {st : Fld} {en : Fld} {n : Nat} {bank : Nat} {p : Nat} (h1 :
    Carries o s) : Carries o (State.eventBit s st en n bank p) := by
  unfold State.eventBit
  extract_lets +onlyGivenNames v1
  extract_lets +onlyGivenNames v2
  have h3 : Carries o v2 := by
    unfold v2
    exact State.devicePost_carries (pIte (P := Carries o) h1 (State.setFld_carries h1))
  clear_value v2
  exact pIte (P := Carries o) (State.signalVec_carries h3) h3

theorem State.upTo_carries {o : State} {s : State} {now : Nat} (h1 : Carries o s) : Carries o (State.upTo s now) := by
  unfold State.upTo
  extract_lets +onlyGivenNames v1
  extract_lets +onlyGivenNames v2
  have h3 : Carries o v2 := by
    unfold v2
    exact carriesMk h1 rfl rfl rfl rfl
  clear_value v2
  exact pIte (P := Carries o) h3 (carriesMk h3 rfl rfl rfl rfl)

/-! ### Reset -/

theorem State.logFault_carries {o : State} {s : State} {kind : Nat} {cause : Nat} {data : List Nat} (h1 : Carries o s)
    : Carries o (State.logFault s kind cause data) := by
  unfold State.logFault
  extract_lets +onlyGivenNames v1
  exact carriesMk h1 rfl rfl rfl rfl

theorem State.fcoAssert_carries {o : State} {s : State} (h1 : Carries o s) : Carries o (State.fcoAssert s) := by
  unfold State.fcoAssert
  refine pFoldl (P := Carries o) ?_ ?_
  · exact h1
  · intro s1 x2 h3
    exact State.emit_carries h3

theorem State.fabricReset_carries {o s : State} (h : Carries o s) : Carries o s.fabricReset :=
  ⟨h.pending, h.grade, h.stage, ⟨rfl, rfl, rfl⟩, h.host, h.fth⟩

theorem State.resetStatus_carries {o : State} {s : State} {cause : Nat} {hung : Bool} (h1 : Carries o s) : Carries o
    (State.resetStatus s cause hung) := by
  unfold State.resetStatus
  exact State.setAll_carries h1

theorem FthSt.applyPending_carries {a f : FthSt} (h : FthCarries a f) (hp : f.press = none) :
    FthCarries a f.applyPending := by
  unfold FthSt.applyPending
  extract_lets g rec_
  have hg : FthCarries a g := by
    unfold g
    split
    · exact h
    · rename_i e
      have hn := h.next 3 e
      refine ⟨hn.1, ?_, ?_, h.count, cellClear_wf _ _ h.well, h.win, Nat.le_trans h.life hn.2, h.counter0, h.counter1,
        h.boots, h.revoked⟩
      · intro n e; cases e
      · intro e; rw [hp] at e; cases e
    · rename_i n _ e
      have hn := h.next n e
      refine ⟨hn.1, ?_, ?_, h.count, h.well, h.win, Nat.le_trans h.life hn.2, h.counter0, h.counter1, h.boots,
        h.revoked⟩
      · intro n e; cases e
      · intro e; rw [hp] at e; cases e
  exact pIte (P := FthCarries a) (hg.same rfl) hg

theorem FthSt.deviceKept_carries {a f : FthSt} (h : FthCarries a f) : FthCarries a f.deviceKept :=
  ⟨h.lc, h.next, fun e => (by cases e), h.count, h.well, h.win, h.life, h.counter0, h.counter1, h.boots, h.revoked⟩

theorem FthSt.wellstore_carries {a f : FthSt} (h : FthCarries a f) : FthCarries a f.wellstore :=
  ⟨h.lc, h.next, fun e => (by cases e), h.count, h.well, rfl, h.life, h.counter0, h.counter1, h.boots, h.revoked⟩

theorem State.deviceReset_carries {o s : State} {cause detail inflight : Nat} (h : Carries o s) :
    Carries o (s.deviceReset cause detail inflight) := by
  unfold State.deviceReset
  refine pIte (P := Carries o) h ?_
  extract_lets status hung up at_ v
  have hv : Carries o v := State.logFault_carries h
  clear_value v
  have hx : Carries o (((State.fabricReset { v with
      fth := v.fth.deviceKept.applyPending,
      boot := { v.boot with held := true, stage := 0, safe := false, dry := false, resetAt := v.wall,
                            resumeOk := false, fullTest := false, coreEn := v.boot.coreEn || up,
                            coreAt := at_ } }).resetStatus cause hung).fcoAssert) :=
    State.fcoAssert_carries (State.resetStatus_carries (State.fabricReset_carries
      (carriesUp hv (fun _ => Nat.le_of_ble_eq_true rfl) (fun h => h.mem) (fun h => h.host)
        (fun h => FthSt.applyPending_carries (FthSt.deviceKept_carries h.fth) rfl))))
  exact pIte (P := Carries o) (State.emit_carries hx) hx

theorem aonBrownout_carries {o s : State} {now : Nat} (h : Carries o s) : Carries o (aonBrownout s now) := by
  unfold aonBrownout
  have hv := State.upTo_carries (now := now) h
  have hf : Carries o (State.fabricReset { s.upTo now with
      boot := { (s.upTo now).boot with held := true, stage := 0, brownout := true, coreEn := false, railsOk := false }
          }) :=
    State.fabricReset_carries (carriesUp hv (fun _ => Nat.le_of_ble_eq_true rfl) (fun h => h.mem) (fun h => h.host)
      (fun h => h.fth))
  exact ⟨hf.pending, hf.grade, hf.stage, hf.mem, hf.host, FthSt.wellstore_carries hv.fth⟩

theorem coreEnRetry_carries {o : State} {s : State} {now : Nat} (h1 : Carries o s) : Carries o (coreEnRetry s now) :=
    by
  unfold coreEnRetry
  extract_lets +onlyGivenNames v1
  have h2 : Carries o v1 := by
    unfold v1
    exact State.upTo_carries h1
  clear_value v1
  split
  · rename_i x3 x4 e5
    exact pIte (P := Carries o) (State.emit_carries (carriesMk h2 rfl rfl rfl rfl)) h2
  · rename_i x6 e7
    exact h2

theorem powerOnReset_carries {o s : State} {now : Nat} (h : Carries o s) : Carries o (powerOnReset s now) := by
  unfold powerOnReset
  refine State.emit_carries (State.fcoAssert_carries (State.resetStatus_carries ?_))
  exact ⟨h.pending, h.grade, Nat.le_of_ble_eq_true rfl, ⟨rfl, rfl, rfl⟩, h.host,
    FthSt.applyPending_carries (FthSt.wellstore_carries h.fth) rfl⟩

theorem railsOkRise_carries {o : State} {s : State} {now : Nat} (h1 : Carries o s) : Carries o (railsOkRise s now) :=
    by
  unfold railsOkRise
  extract_lets +onlyGivenNames v1
  have h2 : Carries o v1 := by
    unfold v1
    exact State.upTo_carries h1
  clear_value v1
  exact pIte (P := Carries o) (carriesMk h2 rfl rfl rfl rfl) h2

theorem railsOkTimeout_carries {o : State} {s : State} {now : Nat} (h1 : Carries o s) : Carries o (railsOkTimeout s
    now) := by
  unfold railsOkTimeout
  extract_lets +onlyGivenNames v1
  have h2 : Carries o v1 := by
    unfold v1
    exact State.upTo_carries h1
  clear_value v1
  exact pIte (P := Carries o) (State.emit_carries (carriesMk h2 rfl rfl rfl rfl)) h2

theorem railsOkFall_carries {o : State} {s : State} {now : Nat} (h1 : Carries o s) : Carries o (railsOkFall s now) :=
    by
  unfold railsOkFall
  extract_lets +onlyGivenNames v1
  have h2 : Carries o v1 := by
    unfold v1
    exact State.upTo_carries h1
  clear_value v1
  refine pIte (P := Carries o) ?_ ?_
  · exact State.deviceReset_carries (carriesMk h2 rfl rfl rfl rfl)
  · exact carriesMk h2 rfl rfl rfl rfl

theorem railOutOfRange_carries {o : State} {s : State} {now : Nat} {monitor : Nat} (h1 : Carries o s) : Carries o
    (railOutOfRange s now monitor) := by
  unfold railOutOfRange
  extract_lets +onlyGivenNames v1
  have h2 : Carries o v1 := by
    unfold v1
    exact State.upTo_carries h1
  clear_value v1
  refine pIte (P := Carries o) ?_ ?_
  · exact h2
  · extract_lets +onlyGivenNames v3
    exact State.deviceReset_carries (carriesMk h2 rfl rfl rfl rfl)

theorem resetNAssert_carries {o : State} {s : State} {now : Nat} (h1 : Carries o s) : Carries o (resetNAssert s now)
    := by
  unfold resetNAssert
  extract_lets +onlyGivenNames v1
  have h2 : Carries o v1 := by
    unfold v1
    exact State.upTo_carries h1
  clear_value v1
  exact pIte (P := Carries o) h2 (State.deviceReset_carries (carriesMk h2 rfl rfl rfl rfl))

theorem bootCounted_carries {o s : State} (h : Carries o s) :
    Carries o { s with fth := { s.fth with bootCount := min (s.fth.bootCount + 1) 0xFFFFFFFF } } := by
  have hc := h.fth.count
  have hb := h.fth.boots
  refine carriesUp h (fun h => h.stage) (fun h => h.mem) (fun h => h.host) (fun h => ?_)
  refine ⟨h.fth.lc, h.fth.next, h.fth.press, ?_, h.fth.well, h.fth.win, h.fth.life, h.fth.counter0, h.fth.counter1,
      ?_,
    h.fth.revoked⟩
  · show min (s.fth.bootCount + 1) 0xFFFFFFFF < 2 ^ 32
    omega
  · show o.fth.bootCount ≤ min (s.fth.bootCount + 1) 0xFFFFFFFF
    omega

theorem resetRelease_carries {o s : State} {now q2 q3 : Nat} (h : Carries o s) : Carries o (resetRelease s now q2 q3)
    := by
  unfold resetRelease
  have hw : Carries o { s.upTo now with boot := { (s.upTo now).boot with resetLow := false } } :=
    carriesMk (State.upTo_carries h) rfl rfl rfl rfl
  refine pIte (P := Carries o) hw ?_
  have hy : ∀ {c : Prop} [Decidable c] {l m : List (Fld × Nat × Nat × Nat)} {u : State}, Carries o u →
      Carries o (if c then u.setAll l else (u.setAll l).setAll m) := fun hu =>
    pIte (P := Carries o) (State.setAll_carries hu) (State.setAll_carries (State.setAll_carries hu))
  refine pIte (P := Carries o) ?_ ?_
  · exact carriesUp (State.logFault_carries (hy hw)) (fun _ => Nat.le_of_ble_eq_true rfl) (fun h => h.mem) (fun h =>
      h.host)
      (fun h => h.fth)
  · refine pIte (P := Carries o) ?_ (State.setAll_carries ?_)
    · refine carriesUp (State.setAll_carries (bootCounted_carries (hy hw))) (fun _ => Nat.le_of_ble_eq_true rfl)
        (fun h => h.mem) (fun h => h.host) (fun h => h.fth)
    · refine carriesUp (State.setAll_carries (bootCounted_carries (hy hw))) (fun _ => Nat.le_of_ble_eq_true rfl)
        (fun h => h.mem) (fun h => h.host) (fun h => h.fth)

/-! ### Crossing -/

theorem State.setCrossing_carries {o : State} {s : State} {isl : Nat} {chan : Nat} {c : Crossing} (h1 : Carries o s) :
    Carries o (State.setCrossing s isl chan c) := by
  unfold State.setCrossing
  exact carriesMk h1 rfl rfl rfl rfl

theorem State.flushIsland_carries {o : State} {s : State} {isl : Nat} (h1 : Carries o s) : Carries o
    (State.flushIsland s isl) := by
  unfold State.flushIsland
  extract_lets +onlyGivenNames v1
  extract_lets +onlyGivenNames v2
  extract_lets +onlyGivenNames v3
  extract_lets +onlyGivenNames v4
  have h5 : Carries o v4 := by
    unfold v4
    refine pFoldl (P := Carries o) ?_ ?_
    · exact h1
    · intro s6 x7 h8
      exact State.setCrossing_carries h8
  clear_value v4
  extract_lets +onlyGivenNames v9
  extract_lets +onlyGivenNames v10
  have h11 : Carries o v10 := by
    unfold v10
    exact carriesMk h5 rfl rfl rfl rfl
  clear_value v10
  exact State.bumpFld_carries h11

theorem State.closeFabric_carries {o : State} {s : State} (h1 : Carries o s) : Carries o (State.closeFabric s) := by
  unfold State.closeFabric
  extract_lets +onlyGivenNames v1
  have h2 : Carries o v1 := by
    unfold v1
    refine pFoldl (P := Carries o) ?_ ?_
    · exact h1
    · intro s3 x4 h5
      exact State.flushIsland_carries h5
  clear_value v1
  exact carriesMk h2 rfl rfl rfl rfl

theorem State.openFabric_carries {o : State} {s : State} (h1 : Carries o s) : Carries o (State.openFabric s) := by
  unfold State.openFabric
  exact carriesMk h1 rfl rfl rfl rfl

theorem State.setInReset_carries {o : State} {s : State} {isl : Nat} {b : Bool} (h1 : Carries o s) : Carries o
    (State.setInReset s isl b) := by
  unfold State.setInReset
  exact State.wr_carries h1

theorem State.hostStore_carries {o : State} {s : State} {p : Nat} {addr : Nat} {data : List Byte} (h1 : Carries o s) :
    Carries o (State.hostStore s p addr data) := by
  unfold State.hostStore
  exact carriesUp h1 (fun h => h.stage) (fun h => h.mem) (fun h => cellWrite_wf _ _ h.host) (fun h => h.fth)

theorem State.releaseLink_carries {o : State} {s : State} {link : Nat} (h1 : Carries o s) : Carries o
    (State.releaseLink s link) := by
  unfold State.releaseLink
  extract_lets +onlyGivenNames v1
  extract_lets +onlyGivenNames v2
  extract_lets +onlyGivenNames v3
  have h4 : Carries o v3 := by
    unfold v3
    exact carriesMk h1 rfl rfl rfl rfl
  clear_value v3
  extract_lets +onlyGivenNames v5
  have h6 : Carries o v5 := by
    unfold v5
    refine pFoldl (P := Carries o) ?_ ?_
    · exact h4
    · intro s7 x8 h9
      exact State.hostStore_carries h9
  clear_value v5
  extract_lets +onlyGivenNames v10
  extract_lets +onlyGivenNames v11
  extract_lets +onlyGivenNames v12
  have h13 : Carries o v12 := by
    unfold v12
    exact carriesMk h6 rfl rfl rfl rfl
  clear_value v12
  refine pFoldl (P := Carries o) ?_ ?_
  · exact h13
  · intro s14 x15 h16
    exact State.emit_carries h16

theorem clockReturn_carries {o : State} {s : State} {isl : Nat} (h1 : Carries o s) : Carries o (clockReturn s isl) :=
    by
  unfold clockReturn
  refine pIte (P := Carries o) ?_ ?_
  · extract_lets +onlyGivenNames v1
    have h2 : Carries o v1 := by
      unfold v1
      exact State.wr_carries h1
    clear_value v1
    extract_lets +onlyGivenNames v3
    have h4 : Carries o v3 := by
      unfold v3
      exact State.eventSup_carries h2
    clear_value v3
    exact pIte (P := Carries o) (State.releaseLink_carries h4) h4
  · exact h1

theorem clockStop_carries {o : State} {s : State} {isl : Nat} (h1 : Carries o s) : Carries o (clockStop s isl) := by
  unfold clockStop
  exact pIte (P := Carries o) (State.eventSup_carries (State.wr_carries h1)) h1

theorem coalescedPulse_carries {o : State} {s : State} {isl : Nat} {chan : Nat} (h1 : Carries o s) : Carries o
    (coalescedPulse s isl chan) := by
  unfold coalescedPulse
  exact pIte (P := Carries o) h1 (State.setCrossing_carries h1)

theorem countedPulse_carries {o : State} {s : State} {isl : Nat} {chan : Nat} (h1 : Carries o s) : Carries o
    (countedPulse s isl chan) := by
  unfold countedPulse
  refine pIte (P := Carries o) ?_ ?_
  · exact h1
  · extract_lets +onlyGivenNames v1
    refine pIte (P := Carries o) ?_ ?_
    · exact State.setCrossing_carries h1
    · refine pIte (P := Carries o) ?_ ?_
      · exact State.setCrossing_carries h1
      · exact State.eventSup_carries (State.setCrossing_carries h1)

theorem crossingAck_carries {o : State} {s : State} {isl : Nat} {chan : Nat} (h1 : Carries o s) : Carries o
    (crossingAck s isl chan) := by
  unfold crossingAck
  extract_lets +onlyGivenNames v1
  split
  · rename_i x2 e3
    exact h1
  · rename_i x4 e5
    refine pIte (P := Carries o) ?_ ?_
    · exact h1
    · exact pIte (P := Carries o) (State.setCrossing_carries h1) (State.setCrossing_carries h1)
  · rename_i x6 x7 e8 e9
    exact pIte (P := Carries o) h1 (State.setCrossing_carries h1)

theorem islandLeaveReset_carries {o : State} {s : State} {isl : Nat} (h1 : Carries o s) : Carries o (islandLeaveReset
    s isl) := by
  unfold islandLeaveReset
  refine pIte (P := Carries o) ?_ ?_
  · exact h1
  · extract_lets +onlyGivenNames v1
    have h2 : Carries o v1 := by
      unfold v1
      exact State.setInReset_carries h1
    clear_value v1
    extract_lets +onlyGivenNames v3
    extract_lets +onlyGivenNames v4
    have h5 : Carries o v4 := by
      unfold v4
      refine pFoldl (P := Carries o) ?_ ?_
      · exact h2
      · intro s6 x7 h8
        exact State.setCrossing_carries h8
    clear_value v4
    exact State.eventSup_carries h5

/-! ### Fount -/

theorem State.showDeviceId_carries {o : State} {s : State} (h1 : Carries o s) : Carries o (State.showDeviceId s) := by
  unfold State.showDeviceId
  extract_lets +onlyGivenNames v1
  exact State.setAll_carries h1

theorem State.showKeys_carries {o : State} {s : State} (h1 : Carries o s) : Carries o (State.showKeys s) := by
  unfold State.showKeys
  exact State.setAll_carries h1

theorem State.acceptTransition_carries {o s : State} {target : Nat} {entropy : List Byte} (h : Carries o s)
    (ht : target ≤ 4 ∧ lifeRank s.fth.lc ≤ lifeRank target) : Carries o (s.acceptTransition target entropy) := by
  have hf : ∀ x k, FthCarries o.fth { s.fth with lcPending := some target, seed := x, keys := k } := fun _ _ =>
    ⟨h.fth.lc, fun n e => by cases e; exact ht, h.fth.press, h.fth.count, h.fth.well, h.fth.win, h.fth.life,
        h.fth.counter0,
      h.fth.counter1, h.fth.boots, h.fth.revoked⟩
  unfold State.acceptTransition
  refine State.eventSup_carries (State.showDeviceId_carries (State.showKeys_carries (State.logFault_carries
    (State.wr_carries ?_))))
  refine ⟨h.pending, h.grade, h.stage, h.mem, h.host, ?_⟩
  dsimp only
  exact pIte (P := FthCarries o.fth) (hf _ _) (pIte (P := FthCarries o.fth) (hf _ _) (hf _ _))

theorem State.showDegraded_carries {o : State} {s : State} (h1 : Carries o s) : Carries o (State.showDegraded s) := by
  unfold State.showDegraded
  extract_lets +onlyGivenNames v1
  extract_lets +onlyGivenNames v2
  extract_lets +onlyGivenNames v3
  extract_lets +onlyGivenNames v4
  have h5 : Carries o v4 := by
    unfold v4
    exact State.setAll_carries h1
  clear_value v4
  exact pIte (P := Carries o) (State.event_carries h5) h5

theorem State.setRemap_carries {o : State} {s : State} {sector : Nat} {phys : Nat} (h1 : Carries o s) : Carries o
    (State.setRemap s sector phys) := by
  unfold State.setRemap
  exact carriesMk h1 rfl rfl rfl rfl

theorem State.tokenApplied_carries {o : State} {s : State} {type : Nat} (h1 : Carries o s) : Carries o
    (State.tokenApplied s type) := by
  unfold State.tokenApplied
  exact State.eventSup_carries (State.logFault_carries h1)

theorem State.applyToken_carries {o s : State} {t : List Byte} (h : Carries o s) (hl : s.fth.lc = 2) :
    Carries2 o (s.applyToken t) := by
  unfold State.applyToken
  split
  · refine Carries2.mk (State.tokenApplied_carries (pIte (P := Carries o) ?_ (State.wr_carries h)))
    exact carriesMk (State.wr_carries h) rfl rfl rfl rfl
  · refine pIte (P := Carries2 o) h ?_
    exact State.tokenApplied_carries (State.acceptTransition_carries h ⟨by decide, by rw [hl]; decide⟩)
  · exact Carries2.mk (State.tokenApplied_carries (carriesMk h rfl rfl rfl rfl))
  · refine Carries2.mk (State.tokenApplied_carries (State.showKeys_carries ?_))
    refine carriesUp h (fun h => h.stage) (fun h => h.mem) (fun h => h.host) (fun h => ?_)
    refine ⟨h.fth.lc, h.fth.next, h.fth.press, h.fth.count, h.fth.well, h.fth.win, h.fth.life, h.fth.counter0,
        h.fth.counter1,
      h.fth.boots, fun k hk => ?_⟩
    have := h.fth.revoked k hk
    split
    · exact this
    · exact List.mem_cons_of_mem _ this
  · exact h

theorem State.noteRsv_carries {o : State} {s : State} {kind : Nat} {trigger : Nat} {unit : Nat} {old : Nat} {new :
    Nat} (h1 : Carries o s) : Carries o (State.noteRsv s kind trigger unit old new) := by
  unfold State.noteRsv
  exact carriesMk h1 rfl rfl rfl rfl

theorem State.fthDone_carries {o : State} {s : State} {p : Nat} {result : Nat} (h1 : Carries o s) : Carries o
    (State.fthDone s p result) := by
  unfold State.fthDone
  exact State.event_carries (State.setFld_carries (State.setFld_carries h1))

theorem State.fthCommand_carries {o : State} {s : State} {p : Nat} {f : State → Nat × State} (h1 : Carries o s) (h3 :
    ∀ y0, Carries o y0 → Carries2 o (f y0)) : Carries o (State.fthCommand s p f) := by
  unfold State.fthCommand
  refine pIte (P := Carries o) ?_ ?_
  · exact h1
  · refine pIte (P := Carries o) ?_ ?_
    · exact State.fthDone_carries h1
    · refine State.fthDone_carries ?_
      refine Carries2.snd ?_
      apply h3
      exact h1

theorem State.showNonce_carries {o : State} {s : State} (h1 : Carries o s) : Carries o (State.showNonce s) := by
  unfold State.showNonce
  extract_lets +onlyGivenNames v1
  exact State.setAll_carries h1

theorem fthNonce_carries {o : State} {s : State} {now : Nat} {p : Nat} {entropy : List Byte} (h1 : Carries o s) :
    Carries o (fthNonce s now p entropy) := by
  unfold fthNonce
  extract_lets +onlyGivenNames v1
  have h2 : Carries o v1 := by
    unfold v1
    exact State.upTo_carries h1
  clear_value v1
  refine State.fthCommand_carries ?_ ?_
  · exact h2
  · intro s3 h4
    exact Carries2.mk (State.showNonce_carries (carriesMk h4 rfl rfl rfl rfl))

theorem tokenStatus_none {s : State} {t : List Byte} (h : s.tokenStatus t = none) : s.fth.lc = 2 := by
  unfold State.tokenStatus at h
  split at h
  · cases h
  · split at h
    · cases h
    · rename_i e
      simp only [Bool.or_eq_true, bne_iff_ne, not_or, Decidable.not_not] at e
      exact e.2

theorem tokenStatus_counter {s : State} {t : List Byte} (h : s.tokenStatus t = some stOk) :
    s.fth.counter1 ≤ leNat ((t.drop 0x3C).take 4) := by
  unfold State.tokenStatus at h
  split at h
  · cases h
  · split at h
    · cases h
    · split at h
      · cases h
      · split at h
        · cases h
        · split at h
          · cases h
          · split at h
            · split at h
              · rename_i e; exact Nat.le_of_lt e
              · cases h
            · cases h

theorem fthToken_carries {o s : State} {now p : Nat} (h : Carries o s) : Carries o (fthToken s now p) := by
  unfold fthToken
  extract_lets +onlyGivenNames v
  have hv : Carries o v := State.upTo_carries h
  clear_value v
  refine pIte (P := Carries o) hv ?_
  extract_lets +onlyGivenNames t
  extract_lets +onlyGivenNames st
  extract_lets +onlyGivenNames f
  extract_lets +onlyGivenNames w
  have hw : Carries o w := State.showNonce_carries (carriesMk hv rfl rfl rfl rfl)
  have e1 : w.fth.lc = v.fth.lc := by
    show (State.showNonce _).fth.lc = _
    rw [showNonce_fth]
  have e2 : w.fth.counter1 = v.fth.counter1 := by
    show (State.showNonce _).fth.counter1 = _
    rw [showNonce_fth]
  have e3 : w.fth.press = v.fth.press := by
    show (State.showNonce _).fth.press = _
    rw [showNonce_fth]
  have est : st = v.tokenStatus t := rfl
  clear_value w st t
  refine pIte (P := Carries o) (State.fthDone_carries hw) ?_
  split
  · refine State.wr_carries (State.setFld_carries ?_)
    refine carriesUp hw (fun h => h.stage) (fun h => h.mem) (fun h => h.host) (fun h => ?_)
    exact ⟨h.fth.lc, h.fth.next, fun _ => by rw [e1]; exact tokenStatus_none est.symm, h.fth.count, h.fth.well,
        h.fth.win,
      h.fth.life, h.fth.counter0, h.fth.counter1, h.fth.boots, h.fth.revoked⟩
  · rename_i r
    split
    · rename_i er
      refine State.fthDone_carries (State.tokenApplied_carries (State.wr_carries ?_))
      refine carriesUp hw (fun h => h.stage) (fun h => h.mem) (fun h => h.host) (fun h => ?_)
      refine ⟨h.fth.lc, h.fth.next, h.fth.press, h.fth.count, h.fth.well, h.fth.win, h.fth.life, h.fth.counter0, ?_,
          h.fth.boots,
        h.fth.revoked⟩
      have h1 := h.fth.counter1
      rw [e2] at h1
      exact Nat.le_trans h1 (tokenStatus_counter (er ▸ est.symm))
    · exact State.fthDone_carries hw

theorem State.setWindow_carries {o : State} {s : State} {bank : Nat} {off : Nat} {bs : List Byte} (h1 : Carries o s) :
    Carries o (State.setWindow s bank off bs) := by
  unfold State.setWindow
  exact carriesUp h1 (fun h => h.stage) (fun h => h.mem) (fun h => h.host) (fun h => ⟨h.fth.lc, h.fth.next,
      h.fth.press, h.fth.count, h.fth.well, cellWrite_wf _ _ h.fth.win, h.fth.life, h.fth.counter0, h.fth.counter1,
      h.fth.boots, h.fth.revoked⟩)

theorem fthAttest_carries {o : State} {s : State} {p : Nat} (h1 : Carries o s) : Carries o (fthAttest s p) := by
  unfold fthAttest
  refine pIte (P := Carries o) ?_ ?_
  · exact h1
  · refine pIte (P := Carries o) ?_ ?_
    · exact State.fthDone_carries h1
    · split
      · rename_i x1 e2
        exact State.fthDone_carries h1
      · rename_i x3 x4 e5
        extract_lets +onlyGivenNames v6
        exact State.fthDone_carries (State.setWindow_carries h1)

theorem fthConfirm_carries {o s : State} {p : Nat} (h : Carries o s) : Carries o (fthConfirm s p) := by
  unfold fthConfirm
  refine State.fthCommand_carries h fun y hy => ?_
  dsimp only
  split
  · exact hy
  · split
    · exact hy
    · rename_i e
      refine Carries2.mk (State.wr_carries ?_)
      refine carriesUp hy (fun h => h.stage) (fun h => h.mem) (fun h => h.host) (fun h => ?_)
      exact ⟨h.fth.lc, h.fth.next, h.fth.press, h.fth.count, h.fth.well, h.fth.win, h.fth.life,
        Nat.le_trans h.fth.counter0 (Nat.le_of_lt (Nat.lt_of_not_le e)), h.fth.counter1, h.fth.boots, h.fth.revoked⟩

theorem State.fthCommandArg_carries {o : State} {s : State} {p : Nat} {arg : Nat} {f : State → Nat × State} (h1 :
    Carries o s) (h4 : ∀ y0, Carries o y0 → Carries2 o (f y0)) : Carries o (State.fthCommandArg s p arg f) := by
  unfold State.fthCommandArg
  refine pIte (P := Carries o) ?_ ?_
  · exact h1
  · refine State.fthCommand_carries ?_ ?_
    · exact State.setFld_carries h1
    · intro s1 h2
      apply h4
      exact h2

theorem lcAdvanceOk_rank {lc target : Nat} (h : lcAdvanceOk lc target = true) :
    target ≤ 4 ∧ lifeRank lc ≤ lifeRank target := by
  unfold lcAdvanceOk at h
  split at h <;> simp only [Bool.or_eq_true, beq_iff_eq, Bool.false_eq_true] at h <;> rcases h with rfl | rfl <;>
      decide

theorem fthLcAdvance_carries {o s : State} {p target : Nat} {entropy : List Byte} (h : Carries o s) :
    Carries o (fthLcAdvance s p target entropy) := by
  unfold fthLcAdvance
  refine State.fthCommandArg_carries h fun y hy => ?_
  split
  · exact hy
  · split
    · exact hy
    · rename_i e
      refine pIte (P := Carries2 o) hy (State.acceptTransition_carries hy (lcAdvanceOk_rank ?_))
      simpa using e

theorem fthProvision_carries {o : State} {s : State} {p : Nat} (h1 : Carries o s) : Carries o (fthProvision s p) := by
  unfold fthProvision
  refine State.fthCommand_carries ?_ ?_
  · exact h1
  · intro s1 h2
    refine pIte (P := Carries2 o) ?_ ?_
    · exact Carries2.mk h2
    · refine pIte (P := Carries2 o) ?_ ?_
      · split
        · rename_i x3 e4
          exact Carries2.mk h2
        · rename_i x5 x6 e7
          exact Carries2.mk (State.showKeys_carries (carriesMk h2 rfl rfl rfl rfl))
      · exact Carries2.mk h2

theorem fthImgErase_carries {o s : State} {p slot : Nat} (h : Carries o s) : Carries o (fthImgErase s p slot) := by
  unfold fthImgErase
  refine State.fthCommandArg_carries h fun y hy => ?_
  refine pIte (P := Carries2 o) hy (pIte (P := Carries2 o) hy (Carries2.mk ?_))
  refine carriesUp hy (fun h => h.stage) (fun h => h.mem) (fun h => h.host) (fun h => ?_)
  exact ⟨h.fth.lc, h.fth.next, h.fth.press, h.fth.count, cellClear_wf _ _ h.fth.well, h.fth.win, h.fth.life,
      h.fth.counter0,
    h.fth.counter1, h.fth.boots, h.fth.revoked⟩

theorem fthImgVerify_carries {o : State} {s : State} {p : Nat} {slot : Nat} (h1 : Carries o s) : Carries o
    (fthImgVerify s p slot) := by
  unfold fthImgVerify
  refine State.fthCommandArg_carries ?_ ?_
  · exact h1
  · intro s1 h2
    refine pIte (P := Carries2 o) ?_ ?_
    · exact Carries2.mk h2
    · refine pIte (P := Carries2 o) ?_ ?_
      · exact Carries2.mk h2
      · extract_lets +onlyGivenNames v3
        extract_lets +onlyGivenNames v4
        have h5 : Carries o v4 := by
          unfold v4
          exact State.wr_carries h2
        clear_value v4
        exact Carries2.mk h5

theorem State.winFields_carries {o : State} {s : State} {p : Nat} {target : Nat} {write : Nat} {off : Nat} (h1 :
    Carries o s) : Carries o (State.winFields s p target write off) := by
  unfold State.winFields
  exact State.setAll_carries h1

theorem State.winDone_carries {o : State} {s : State} {p : Nat} {r : Nat} (h1 : Carries o s) : Carries o
    (State.winDone s p r) := by
  unfold State.winDone
  exact State.event_carries (State.setFld_carries h1)

theorem fthWinWrite_carries {o s : State} {p target off : Nat} (h : Carries o s) : Carries o (fthWinWrite s p target
    off) := by
  unfold fthWinWrite
  refine pIte (P := Carries o) h ?_
  extract_lets v
  have hv : Carries o v := State.winFields_carries h
  clear_value v
  generalize v.window p 0 4096 = bytes
  refine pIte (P := Carries o) (State.winDone_carries hv) (pIte (P := Carries o) (pIte (P := Carries o)
    (State.winDone_carries hv) (pIte (P := Carries o) (State.winDone_carries hv) (State.winDone_carries ?_)))
    (pIte (P := Carries o) (pIte (P := Carries o) (State.winDone_carries hv) (State.winDone_carries ?_))
      (State.winDone_carries hv)))
  · exact carriesUp hv (fun h => h.stage) (fun h => h.mem) (fun h => h.host) (fun h =>
      ⟨h.fth.lc, h.fth.next, h.fth.press, h.fth.count, cellWrite_wf _ _ h.fth.well, h.fth.win, h.fth.life,
          h.fth.counter0,
        h.fth.counter1, h.fth.boots, h.fth.revoked⟩)
  · exact carriesUp hv (fun h => h.stage) (fun h => h.mem) (fun h => h.host) (fun h =>
      ⟨h.fth.lc, h.fth.next, h.fth.press, h.fth.count, cellWrite_wf _ _ h.fth.well, h.fth.win, h.fth.life,
          h.fth.counter0,
        h.fth.counter1, h.fth.boots, h.fth.revoked⟩)

theorem fthWinRead_carries {o : State} {s : State} {p : Nat} {target : Nat} {off : Nat} (h1 : Carries o s) : Carries o
    (fthWinRead s p target off) := by
  unfold fthWinRead
  refine pIte (P := Carries o) ?_ ?_
  · exact h1
  · extract_lets +onlyGivenNames v1
    have h2 : Carries o v1 := by
      unfold v1
      exact State.winFields_carries h1
    clear_value v1
    refine pIte (P := Carries o) ?_ ?_
    · exact State.winDone_carries h2
    · split
      · rename_i x3 e4
        exact State.winDone_carries h2
      · rename_i x5 x6 e7
        exact State.winDone_carries (State.setWindow_carries h2)

theorem State.endPress_carries {o : State} {s : State} {p : Nat} {r : Nat} (h1 : Carries o s) : Carries o
    (State.endPress s p r) := by
  unfold State.endPress
  refine State.fthDone_carries ?_
  refine State.wr_carries ?_
  exact carriesUp h1 (fun h => h.stage) (fun h => h.mem) (fun h => h.host) (fun h => ⟨h.fth.lc, h.fth.next, fun e =>
      (by cases e), h.fth.count, h.fth.well, h.fth.win, h.fth.life, h.fth.counter0, h.fth.counter1, h.fth.boots,
      h.fth.revoked⟩)

theorem flogCountRead_carries {o : State} {s : State} {bank : Nat} (h1 : Carries o s) : Carries o (flogCountRead s
    bank) := by
  unfold flogCountRead
  refine pIte (P := Carries o) ?_ ?_
  · exact h1
  · extract_lets +onlyGivenNames v1
    exact State.emit_carries (State.setFld_carries (carriesMk h1 rfl rfl rfl rfl))

theorem flogDataRead_carries {o : State} {s : State} {bank : Nat} (h1 : Carries o s) : Carries o (flogDataRead s bank)
    := by
  unfold flogDataRead
  refine pIte (P := Carries o) ?_ ?_
  · exact h1
  · extract_lets +onlyGivenNames v1
    split
    · rename_i x2 x3 e4
      extract_lets +onlyGivenNames v5
      exact State.emit_carries (State.setFld_carries (carriesMk h1 rfl rfl rfl rfl))
    · rename_i x6 e7
      exact State.emit_carries (State.setFld_carries (carriesMk h1 rfl rfl rfl rfl))

theorem rsvCountRead_carries {o : State} {s : State} {bank : Nat} (h1 : Carries o s) : Carries o (rsvCountRead s bank)
    := by
  unfold rsvCountRead
  refine pIte (P := Carries o) ?_ ?_
  · exact h1
  · extract_lets +onlyGivenNames v1
    exact State.emit_carries (State.setFld_carries (carriesMk h1 rfl rfl rfl rfl))

theorem rsvDataRead_carries {o : State} {s : State} {bank : Nat} (h1 : Carries o s) : Carries o (rsvDataRead s bank)
    := by
  unfold rsvDataRead
  refine pIte (P := Carries o) ?_ ?_
  · exact h1
  · extract_lets +onlyGivenNames v1
    split
    · rename_i x2 x3 e4
      extract_lets +onlyGivenNames v5
      exact State.emit_carries (State.setFld_carries (carriesMk h1 rfl rfl rfl rfl))
    · rename_i x6 e7
      exact State.emit_carries (State.setFld_carries (carriesMk h1 rfl rfl rfl rfl))

theorem State.sectorFails_carries {o : State} {s : State} {sector : Nat} (h1 : Carries o s) : Carries o
    (State.sectorFails s sector) := by
  unfold State.sectorFails
  split
  · rename_i x1 e2
    exact h1
  · rename_i x3 x4 e5
    extract_lets +onlyGivenNames v6
    have h7 : Carries o v6 := by
      unfold v6
      exact State.setRemap_carries (State.noteRsv_carries h1)
    clear_value v6
    exact State.eventSup_carries h7

theorem State.writeRsv_carries {o : State} {s : State} (h1 : Carries o s) : Carries o (State.writeRsv s) := by
  unfold State.writeRsv
  split
  · rename_i x1 e2
    exact h1
  · rename_i x3 x4 x5 e6
    extract_lets +onlyGivenNames v7
    extract_lets +onlyGivenNames v8
    refine pIte (P := Carries o) ?_ ?_
    · exact carriesMk h1 rfl rfl rfl rfl
    · extract_lets +onlyGivenNames v9
      exact carriesMk h1 rfl rfl rfl rfl

theorem nonceExpire_carries {o : State} {s : State} {now : Nat} (h1 : Carries o s) : Carries o (nonceExpire s now) :=
    by
  unfold nonceExpire
  extract_lets +onlyGivenNames v1
  have h2 : Carries o v1 := by
    unfold v1
    exact State.upTo_carries h1
  clear_value v1
  split
  · rename_i x3 x4 x5 e6
    exact pIte (P := Carries o) (State.showNonce_carries (carriesMk h2 rfl rfl rfl rfl)) h2
  · rename_i x7 e8
    exact h2

theorem svcBtnPress_carries {o s : State} {now : Nat} (h : Carries o s) : Carries o (svcBtnPress s now) := by
  unfold svcBtnPress
  extract_lets v
  have hv : Carries o v := State.upTo_carries h
  clear_value v
  split
  · exact hv
  · rename_i t p at_ e
    have hl : v.fth.lc = 2 := hv.fth.press (by rw [e]; rfl)
    exact pIte (P := Carries o) hv (State.endPress_carries (Carries2.snd (State.applyToken_carries hv hl)))

theorem pressWaitTimeout_carries {o : State} {s : State} {now : Nat} (h1 : Carries o s) : Carries o (pressWaitTimeout
    s now) := by
  unfold pressWaitTimeout
  extract_lets +onlyGivenNames v1
  have h2 : Carries o v1 := by
    unfold v1
    exact State.upTo_carries h1
  clear_value v1
  split
  · rename_i x3 e4
    exact h2
  · rename_i x5 x6 x7 x8 e9
    exact pIte (P := Carries o) (State.endPress_carries h2) h2

end Sys2Proof.Machine
end

