-- ==== Sys2Proof/Laws/CarryRules.lean ====
section
/-! SUPPORT. What the operations of Rules, Operands, Memory carry from state to state. -/

namespace Sys2Proof.Machine

open Sys2Proof

/-! ### Rules -/

theorem State.logVersion_carries {o : State} {s : State} {v : VersionSt} (h1 : Carries o s) : Carries o
    (State.logVersion s v) := by
  unfold State.logVersion
  extract_lets +onlyGivenNames v1
  exact carriesMk h1 rfl rfl rfl rfl

theorem State.showRules_carries {o : State} {s : State} (h1 : Carries o s) : Carries o (State.showRules s) := by
  unfold State.showRules
  extract_lets +onlyGivenNames v1
  exact State.setAll_carries h1

theorem State.startRules_carries {o : State} {s : State} (h1 : Carries o s) : Carries o (State.startRules s) := by
  unfold State.startRules
  extract_lets +onlyGivenNames v1
  extract_lets +onlyGivenNames v2
  have h3 : Carries o v2 := by
    unfold v2
    exact carriesMk h1 rfl rfl rfl rfl
  clear_value v2
  exact State.logVersion_carries (State.showRules_carries h3)

theorem State.setVersion_carries {o : State} {s : State} {n : Nat} {v : VersionSt} (h1 : Carries o s) : Carries o
    (State.setVersion s n v) := by
  unfold State.setVersion
  exact carriesMk h1 rfl rfl rfl rfl

theorem State.dropVersion_carries {o : State} {s : State} {num : Nat} (h1 : Carries o s) : Carries o
    (State.dropVersion s num) := by
  unfold State.dropVersion
  split
  · rename_i x1 e2
    exact h1
  · rename_i x3 x4 e5
    exact State.setVersion_carries h1

theorem State.takeVersion_carries {o : State} {s : State} {num : Nat} (h1 : Carries o s) : Carries o
    (State.takeVersion s num) := by
  unfold State.takeVersion
  split
  · rename_i x1 e2
    exact h1
  · rename_i x3 x4 e5
    exact State.setVersion_carries h1

theorem State.unpinVersion_carries {o : State} {s : State} {num : Nat} (h1 : Carries o s) : Carries2 o
    (State.unpinVersion s num) := by
  unfold State.unpinVersion
  split
  · rename_i x1 e2
    exact Carries2.mk h1
  · rename_i x3 x4 e5
    extract_lets +onlyGivenNames v6
    exact pIte (P := Carries2 o) (Carries2.mk h1) (Carries2.mk (State.setVersion_carries h1))

theorem State.pinVersion_carries {o : State} {s : State} {num : Nat} (h1 : Carries o s) : Carries2 o (State.pinVersion
    s num) := by
  unfold State.pinVersion
  split
  · rename_i x1 e2
    exact Carries2.mk h1
  · rename_i x3 x4 e5
    extract_lets +onlyGivenNames v6
    exact pIte (P := Carries2 o) (Carries2.mk h1) (Carries2.mk (State.setVersion_carries h1))

theorem State.loseStaging_carries {o : State} {s : State} {p : Nat} (h1 : Carries o s) : Carries o (State.loseStaging
    s p) := by
  unfold State.loseStaging
  extract_lets +onlyGivenNames v1
  extract_lets +onlyGivenNames v2
  extract_lets +onlyGivenNames v3
  have h4 : Carries o v3 := by
    unfold v3
    exact carriesMk h1 rfl rfl rfl rfl
  clear_value v3
  exact pIte (P := Carries o) (State.setAll_carries h4) (pIte (P := Carries o) (State.setFld_carries h4) h4)

theorem State.setStaging_carries {o : State} {s : State} {p : Nat} {v : Staging} (h1 : Carries o s) : Carries o
    (State.setStaging s p v) := by
  unfold State.setStaging
  exact carriesMk h1 rfl rfl rfl rfl

theorem commitRequest_carries {o : State} {s : State} {p : Nat} (h1 : Carries o s) : Carries o (commitRequest s p) :=
    by
  unfold commitRequest
  refine pIte (P := Carries o) ?_ ?_
  · exact h1
  · refine pIte (P := Carries o) ?_ ?_
    · exact State.setFld_carries h1
    · extract_lets +onlyGivenNames v1
      extract_lets +onlyGivenNames v2
      have h3 : Carries o v2 := by
        unfold v2
        exact State.setFld_carries (State.setStaging_carries h1)
      clear_value v2
      exact carriesMk h3 rfl rfl rfl rfl

theorem rulPin_carries {o : State} {s : State} {p : Nat} {num : Nat} {f : State → Nat → Nat × State} (h1 : Carries o
    s) (h4 : ∀ y0 y1, Carries o y0 → Carries2 o (f y0 y1)) : Carries o (rulPin s p num f) := by
  unfold rulPin
  refine pIte (P := Carries o) ?_ ?_
  · exact h1
  · extract_lets +onlyGivenNames v1
    have h2 : Carries2 o v1 := by
      unfold v1
      apply h4
      exact State.wr_carries h1
    clear_value v1
    exact State.wr_carries (Carries2.snd h2)

theorem rulPinPin_carries {o : State} {s : State} {p : Nat} {num : Nat} (h1 : Carries o s) : Carries o (rulPinPin s p
    num) := by
  unfold rulPinPin
  refine rulPin_carries ?_ ?_
  · exact h1
  · intro s1 x2 h3
    exact State.pinVersion_carries h3

theorem rulPinUnpin_carries {o : State} {s : State} {p : Nat} {num : Nat} (h1 : Carries o s) : Carries o (rulPinUnpin
    s p num) := by
  unfold rulPinUnpin
  refine rulPin_carries ?_ ?_
  · exact h1
  · intro s1 x2 h3
    exact State.unpinVersion_carries h3

theorem rulStgWrite_carries {o : State} {s : State} {p : Nat} (h1 : Carries o s) : Carries o (rulStgWrite s p) := by
  unfold rulStgWrite
  refine pIte (P := Carries o) ?_ ?_
  · exact h1
  · split
    · rename_i x1 x2 x3 e4
      extract_lets +onlyGivenNames v5
      extract_lets +onlyGivenNames v6
      have h7 : Carries o v6 := by
        unfold v6
        exact State.setFld_carries h1
      clear_value v6
      refine pIte (P := Carries o) ?_ ?_
      · exact h7
      · extract_lets +onlyGivenNames v8
        extract_lets +onlyGivenNames v9
        exact State.setStaging_carries h7

theorem rulStgRead_carries {o : State} {s : State} {p : Nat} (h1 : Carries o s) : Carries o (rulStgRead s p) := by
  unfold rulStgRead
  refine pIte (P := Carries o) ?_ ?_
  · exact h1
  · split
    · rename_i x1 x2 x3 e4
      extract_lets +onlyGivenNames v5
      extract_lets +onlyGivenNames v6
      have h7 : Carries o v6 := by
        unfold v6
        exact State.setFld_carries h1
      clear_value v6
      refine pIte (P := Carries o) ?_ ?_
      · exact h7
      · extract_lets +onlyGivenNames v8
        exact State.setAll_carries h7

theorem rulStgClear_carries {o : State} {s : State} {p : Nat} (h1 : Carries o s) : Carries o (rulStgClear s p) := by
  unfold rulStgClear
  refine pIte (P := Carries o) ?_ ?_
  · exact h1
  · extract_lets +onlyGivenNames v1
    extract_lets +onlyGivenNames v2
    extract_lets +onlyGivenNames v3
    have h4 : Carries o v3 := by
      unfold v3
      exact State.setFld_carries h1
    clear_value v3
    exact pIte (P := Carries o) h4 (State.setStaging_carries h4)

theorem State.commitOk_carries {o : State} {s : State} {p : Nat} (h1 : Carries o s) : Carries o (State.commitOk s p)
    := by
  unfold State.commitOk
  extract_lets +onlyGivenNames v1
  extract_lets +onlyGivenNames v2
  extract_lets +onlyGivenNames v3
  extract_lets +onlyGivenNames v4
  extract_lets +onlyGivenNames v5
  extract_lets +onlyGivenNames v6
  extract_lets +onlyGivenNames v7
  extract_lets +onlyGivenNames v8
  have h9 : Carries o v8 := by
    unfold v8
    exact State.setVersion_carries h1
  clear_value v8
  extract_lets +onlyGivenNames v10
  have h11 : Carries o v10 := by
    unfold v10
    exact State.setStaging_carries (State.setVersion_carries h9)
  clear_value v10
  extract_lets +onlyGivenNames v12
  extract_lets +onlyGivenNames v13
  have h14 : Carries o v13 := by
    unfold v13
    exact carriesMk h11 rfl rfl rfl rfl
  clear_value v13
  extract_lets +onlyGivenNames v15
  have h16 : Carries o v15 := by
    unfold v15
    exact State.setAll_carries h14
  clear_value v15
  extract_lets +onlyGivenNames v17
  have h18 : Carries o v17 := by
    unfold v17
    exact State.event_carries (State.bump_carries (State.showRules_carries h16))
  clear_value v17
  exact State.logVersion_carries h18

theorem State.logRetired_carries {o : State} {s : State} {num : Nat} (h1 : Carries o s) : Carries o (State.logRetired
    s num) := by
  unfold State.logRetired
  exact carriesMk h1 rfl rfl rfl rfl

theorem commitExecute_carries {o : State} {s : State} (h1 : Carries o s) : Carries o (commitExecute s) := by
  unfold commitExecute
  split
  · rename_i x1 e2
    exact h1
  · rename_i x3 x4 x5 e6
    extract_lets +onlyGivenNames v7
    extract_lets +onlyGivenNames v8
    have h9 : Carries o v8 := by
      unfold v8
      exact carriesMk h1 rfl rfl rfl rfl
    clear_value v8
    extract_lets +onlyGivenNames v10
    refine pIte (P := Carries o) ?_ ?_
    · exact State.commitOk_carries h9
    · extract_lets +onlyGivenNames v11
      extract_lets +onlyGivenNames v12
      have h13 : Carries o v12 := by
        unfold v12
        exact State.setStaging_carries h9
      clear_value v12
      extract_lets +onlyGivenNames v14
      have h15 : Carries o v14 := by
        unfold v14
        exact State.setAll_carries h13
      clear_value v14
      extract_lets +onlyGivenNames v16
      have h17 : Carries o v16 := by
        unfold v16
        exact pIte (P := Carries o) (State.bump_carries h15) h15
      clear_value v16
      exact State.event_carries h17

theorem versionRetire_carries {o : State} {s : State} {n : Nat} (h1 : Carries o s) : Carries o (versionRetire s n) :=
    by
  unfold versionRetire
  extract_lets +onlyGivenNames v1
  refine pIte (P := Carries o) ?_ ?_
  · exact h1
  · extract_lets +onlyGivenNames v2
    have h3 : Carries o v2 := by
      unfold v2
      exact State.showRules_carries (State.logRetired_carries (State.setVersion_carries h1))
    clear_value v2
    refine pFoldl (P := Carries o) ?_ ?_
    · exact h3
    · intro s4 x5 h6
      exact State.event_carries h6

/-! ### Operands -/

theorem State.freePorts_carries {o : State} {a : State} {a1 : List Nat} (h1 : Carries o a) : Carries2 o
    (State.freePorts a a1) := by
  induction a1 generalizing a
  · unfold State.freePorts
    exact Carries2.mk h1
  · rename_i n1 n2 ih3
    unfold State.freePorts
    split
    · rename_i x1 x2 s3 e4
      have h5 := Carries2.of (o := o) ?_ e4
      rotate_left
      · exact State.free_carries h1
      split
      · rename_i x6 x7 s8 e9
        have h10 := Carries2.of (o := o) ?_ e9
        rotate_left
        · apply ih3
          exact h5
        exact Carries2.mk h10

theorem State.opPorts_carries {o : State} {s : State} {u : Nat} {given : List (Nat × W32)} {st : Nat} (h1 : Carries o
    s) : Carries2 o (State.opPorts s u given st) := by
  unfold State.opPorts
  extract_lets +onlyGivenNames v1
  extract_lets +onlyGivenNames v2
  refine pIte (P := Carries2 o) ?_ ?_
  · split
    · rename_i x3 x4 s5 e6
      have h7 := Carries2.of (o := o) ?_ e6
      rotate_left
      · exact State.freePorts_carries h1
      exact Carries2.mk h7
  · exact Carries2.mk h1

theorem State.putOp_carries {o : State} {s : State} {t : Nat} {u : Nat} {a3 : UnitOp} (h1 : Carries o s) : Carries o
    (State.putOp s t u a3) := by
  unfold State.putOp
  exact State.updThread_carries h1

theorem State.startOp_carries {o : State} {s : State} {t : Nat} {u : Nat} {given : List (Nat × W32)} {st : Nat} (h1 :
    Carries o s) : Carries o (State.startOp s t u given st) := by
  unfold State.startOp
  split
  · rename_i x1 x2 s3 e4
    have h5 := Carries2.of (o := o) ?_ e4
    rotate_left
    · exact State.opPorts_carries h1
    exact State.putOp_carries h5

theorem State.endWait_carries {o : State} {s : State} {t : Nat} {u : Nat} {given : List (Nat × W32)} {st : Nat} (h1 :
    Carries o s) : Carries o (State.endWait s t u given st) := by
  unfold State.endWait
  exact State.startOp_carries h1

theorem State.wakeThread_carries {o : State} {s : State} {t : Nat} (h1 : Carries o s) : Carries o (State.wakeThread s
    t) := by
  unfold State.wakeThread
  extract_lets +onlyGivenNames v1
  split
  · rename_i x2 e3
    exact h1
  · rename_i x4 x5 e6
    refine pIte (P := Carries o) ?_ ?_
    · extract_lets +onlyGivenNames v7
      have h8 : Carries o v7 := by
        unfold v7
        exact State.endWait_carries h1
      clear_value v7
      exact State.updThread_carries h8
    · exact h1

theorem State.setEvent_carries {o : State} {s : State} {t : Nat} {n : Nat} (h1 : Carries o s) : Carries o
    (State.setEvent s t n) := by
  unfold State.setEvent
  exact State.wakeThread_carries (State.updThread_carries h1)

theorem State.completeOp_carries {o : State} {s : State} {t : Nat} {u : Nat} (h1 : Carries o s) : Carries o
    (State.completeOp s t u) := by
  unfold State.completeOp
  split
  · rename_i x1 e2
    exact h1
  · rename_i x3 x4 e5
    exact pIte (P := Carries o) h1 (State.updThread_carries h1)

theorem State.settle_carries {o : State} {s : State} {t : Nat} (h1 : Carries o s) : Carries o (State.settle s t) := by
  unfold State.settle
  refine pFoldl (P := Carries o) ?_ ?_
  · exact h1
  · intro s1 x2 h3
    exact State.completeOp_carries h3

/-! ### Memory -/

theorem State.eccEngine_carries {o : State} {s : State} {e : Nat} {n : Nat} (h1 : Carries o s) : Carries o
    (State.eccEngine s e n) := by
  unfold State.eccEngine
  refine pIte (P := Carries o) ?_ ?_
  · exact h1
  · extract_lets +onlyGivenNames v1
    extract_lets +onlyGivenNames v2
    exact State.bumpFld_carries (State.setEngine_carries h1)

theorem State.countSoft_carries {o : State} {s : State} {c : Nat} {l : Line} (h1 : Carries o s) : Carries o
    (State.countSoft s c l) := by
  unfold State.countSoft
  refine pIte (P := Carries o) ?_ ?_
  · exact State.eccEngine_carries h1
  · split
    · rename_i x1 e2
      exact h1
    · rename_i x3 x4 e5
      exact State.bumpFld_carries h1

theorem State.setCache_carries {o : State} {s : State} {c : Nat} {k : Cache} (h1 : Carries o s) : Carries o
    (State.setCache s c k) := by
  unfold State.setCache
  exact carriesMk h1 rfl rfl rfl rfl

theorem State.poisonWord_carries {o : State} {s : State} {a : Nat} (h1 : Carries o s) : Carries o (State.poisonWord s
    a) := by
  unfold State.poisonWord
  extract_lets +onlyGivenNames v1
  extract_lets +onlyGivenNames v2
  have h3 : Carries o v2 := by
    unfold v2
    exact carriesMk h1 rfl rfl rfl rfl
  clear_value v2
  extract_lets +onlyGivenNames v4
  have h5 : Carries o v4 := by
    unfold v4
    exact State.bump_carries (State.bump_carries h3)
  clear_value v4
  extract_lets +onlyGivenNames v6
  have h7 : Carries o v6 := by
    unfold v6
    exact State.setAll_carries h5
  clear_value v6
  exact State.eventSup_carries h7

theorem State.poisonWords_carries {o : State} {s : State} {l : Line} (h1 : Carries o s) : Carries o (State.poisonWords
    s l) := by
  unfold State.poisonWords
  refine pFoldl (P := Carries o) ?_ ?_
  · exact h1
  · intro s1 x2 h3
    exact State.poisonWord_carries h3

theorem State.checkLine_carries {o : State} {s : State} {c : Nat} {a : Nat} (h1 : Carries o s) : Carries o
    (State.checkLine s c a) := by
  unfold State.checkLine
  split
  · rename_i x1 e2
    exact h1
  · rename_i x3 x4 e5
    extract_lets +onlyGivenNames v6
    have h7 : Carries o v6 := by
      unfold v6
      exact State.countSoft_carries h1
    clear_value v6
    refine pIte (P := Carries o) ?_ ?_
    · exact pIte (P := Carries o) h7 (State.setCache_carries h7)
    · refine pIte (P := Carries o) ?_ ?_
      · exact State.setCache_carries h7
      · exact State.setCache_carries (State.poisonWords_carries h7)

theorem State.countCache_carries {o : State} {s : State} {c : Nat} {f : Fld} (h1 : Carries o s) : Carries o
    (State.countCache s c f) := by
  unfold State.countCache
  split
  · rename_i x1 e2
    exact h1
  · rename_i x3 x4 e5
    exact State.bumpFld_carries h1

theorem State.toVictim_carries {o : State} {s : State} {c : Nat} {l : Line} (h1 : Carries o s) : Carries o
    (State.toVictim s c l) := by
  unfold State.toVictim
  extract_lets +onlyGivenNames v1
  extract_lets +onlyGivenNames v2
  refine pIte (P := Carries o) ?_ ?_
  · exact State.setCache_carries h1
  · clear_value v2
    split
    · rename_i x3
      exact h1
    · rename_i x4 x5 x6
      refine pIte (P := Carries o) ?_ ?_
      · exact State.setCache_carries h1
      · refine pIte (P := Carries o) ?_ ?_
        · exact State.countCache_carries (State.setCache_carries h1)
        · exact State.setCache_carries h1

theorem State.dropCeCopies_carries {o : State} {s : State} {a : Nat} {spare : Option Nat} {insn : Bool} (h1 : Carries
    o s) : Carries o (State.dropCeCopies s a spare insn) := by
  unfold State.dropCeCopies
  extract_lets +onlyGivenNames v1
  extract_lets +onlyGivenNames v2
  have h3 : Carries o v2 := by
    unfold v2
    refine pFoldl (P := Carries o) ?_ ?_
    · exact h1
    · intro s4 x5 h6
      exact State.setCache_carries h6
  clear_value v2
  refine pIte (P := Carries o) ?_ ?_
  · refine pFoldl (P := Carries o) ?_ ?_
    · exact h3
    · intro s7 x8 h9
      exact State.setCache_carries h9
  · exact h3

theorem State.install_carries {o : State} {s : State} {c : Nat} {l : Line} (h1 : Carries o s) : Carries o
    (State.install s c l) := by
  unfold State.install
  extract_lets +onlyGivenNames v1
  extract_lets +onlyGivenNames v2
  extract_lets +onlyGivenNames v3
  extract_lets +onlyGivenNames v4
  extract_lets +onlyGivenNames v5
  have h6 : Carries o v5 := by
    unfold v5
    exact State.setCache_carries h1
  clear_value v5
  clear_value v4
  split
  · rename_i x7
    exact h6
  · rename_i x8 x9
    extract_lets +onlyGivenNames v10
    have h11 : Carries o v10 := by
      unfold v10
      exact State.toVictim_carries h6
    clear_value v10
    exact pIte (P := Carries o) (State.dropCeCopies_carries h11) h11

theorem State.setPchan_carries {o : State} {s : State} {pc : Nat} {p : PChan} (h1 : Carries o s) : Carries o
    (State.setPchan s pc p) := by
  unfold State.setPchan
  exact carriesMk h1 rfl rfl rfl rfl

theorem State.ipdReq_carries {o : State} {s : State} {a : Nat} {write : Bool} {cls : Nat} (h1 : Carries o s) : Carries
    o (State.ipdReq s a write cls) := by
  unfold State.ipdReq
  refine pIte (P := Carries o) ?_ ?_
  · exact h1
  · extract_lets +onlyGivenNames v1
    exact pIte (P := Carries o) h1 (State.setPchan_carries h1)

theorem State.ctrlMiss_carries {o : State} {s : State} {a : Nat} (h1 : Carries o s) : Carries o (State.ctrlMiss s a)
    := by
  unfold State.ctrlMiss
  extract_lets +onlyGivenNames v1
  have h2 : Carries o v1 := by
    unfold v1
    exact State.countCache_carries h1
  clear_value v1
  exact pIte (P := Carries o) h2 (State.ipdReq_carries h2)

theorem State.bring_carries {o : State} {s : State} {c : Nat} {a : Nat} (h1 : Carries o s) : Carries o (State.bring s
    c a) := by
  unfold State.bring
  extract_lets +onlyGivenNames v1
  extract_lets +onlyGivenNames v2
  split
  · rename_i x3 e4
    split
    · rename_i x5 e6
      exact h1
    · rename_i x7 x8 e9
      exact State.setCache_carries h1
  · rename_i x10 e11
    exact State.install_carries (State.setCache_carries h1)
  · rename_i x12 e13
    exact State.install_carries (State.setCache_carries h1)
  · rename_i x14 e15
    exact State.install_carries (State.setCache_carries h1)
  · rename_i x16 e17 e18 e19 e20
    exact h1

theorem State.ctrlRead_carries {o : State} {s : State} {a : Nat} {n : Nat} (h1 : Carries o s) : Carries3 o
    (State.ctrlRead s a n) := by
  unfold State.ctrlRead
  refine pIte (P := Carries3 o) ?_ ?_
  · exact Carries3.mk h1
  · extract_lets +onlyGivenNames v1
    have h2 : Carries o v1 := by
      unfold v1
      exact State.checkLine_carries h1
    clear_value v1
    extract_lets +onlyGivenNames v3
    have h4 : Carries o v3 := by
      unfold v3
      refine pIte (P := Carries o) ?_ ?_
      · exact State.install_carries (State.ctrlMiss_carries h2)
      · exact State.bring_carries (State.countCache_carries h2)
    clear_value v3
    extract_lets +onlyGivenNames v5
    extract_lets +onlyGivenNames v6
    exact Carries3.mk h4

theorem State.scratchFixed_carries {o : State} {s : State} {e : Nat} {a : Nat} {n : Nat} (h1 : Carries o s) : Carries
    o (State.scratchFixed s e a n) := by
  unfold State.scratchFixed
  extract_lets +onlyGivenNames v1
  extract_lets +onlyGivenNames v2
  exact pIte (P := Carries o) h1 (State.eccEngine_carries (carriesMk h1 rfl rfl rfl rfl))

theorem State.setLine_carries {o : State} {s : State} {c : Nat} {a : Nat} {l : Line} (h1 : Carries o s) : Carries o
    (State.setLine s c a l) := by
  unfold State.setLine
  split
  · rename_i x1 e2
    exact h1
  · rename_i x3 x4 e5
    exact State.setCache_carries h1

theorem State.ipdWrite_carries {o s : State} {a : Nat} {bs : List Byte} (h : Carries o s) : Carries o (s.ipdWrite a
    bs) := by
  refine ⟨h.pending, h.grade, h.stage, ⟨?_, h.mem.shared, h.mem.scratch⟩, h.host, h.fth⟩
  refine pFoldl (P := fun m => Memory.wf m = true) h.mem.ipd fun m e hm => ?_
  exact pIte (P := fun m => Memory.wf m = true) hm (cellPut_wf _ _ hm)

theorem State.lineToIpd_carries {o : State} {s : State} {l : Line} (h1 : Carries o s) : Carries o (State.lineToIpd s
    l) := by
  unfold State.lineToIpd
  refine pFoldl (P := Carries o) ?_ ?_
  · exact h1
  · intro s1 x2 h3
    exact pIte (P := Carries o) h3 (State.ipdWrite_carries h3)

theorem State.writeBack_carries {o : State} {s : State} {c : Nat} {l : Line} (h1 : Carries o s) : Carries o
    (State.writeBack s c l) := by
  unfold State.writeBack
  refine pIte (P := Carries o) ?_ ?_
  · exact State.countCache_carries h1
  · refine pIte (P := Carries o) ?_ ?_
    · exact State.eccEngine_carries h1
    · extract_lets +onlyGivenNames v1
      have h2 : Carries o v1 := by
        unfold v1
        exact State.poisonWords_carries (State.countSoft_carries h1)
      clear_value v1
      extract_lets +onlyGivenNames v3
      split
      · rename_i x4 x5 e6
        refine pIte (P := Carries o) ?_ ?_
        · exact State.install_carries h2
        · extract_lets +onlyGivenNames v7
          have h8 : Carries o v7 := by
            unfold v7
            exact State.bring_carries h2
          clear_value v7
          exact State.setLine_carries h8
      · rename_i x9 e10
        exact State.ipdReq_carries (State.countCache_carries (State.lineToIpd_carries h2))

theorem State.lineAccess_carries {o : State} {s : State} {c : Nat} {x : LineAcc} (h1 : Carries o s) : Carries2 o
    (State.lineAccess s c x) := by
  unfold State.lineAccess
  refine pIte (P := Carries2 o) ?_ ?_
  · exact Carries2.mk (State.setCache_carries h1)
  · extract_lets +onlyGivenNames v1
    have h2 : Carries o v1 := by
      unfold v1
      exact State.bring_carries h1
    clear_value v1
    split
    · rename_i x3 x4 x5 x6 x7 e8
      extract_lets +onlyGivenNames v9
      extract_lets +onlyGivenNames v10
      extract_lets +onlyGivenNames v11
      have h12 : Carries o v11 := by
        unfold v11
        exact State.setLine_carries h2
      clear_value v11
      extract_lets +onlyGivenNames v13
      have h14 : Carries o v13 := by
        unfold v13
        exact pIte (P := Carries o) (State.writeBack_carries (State.dropCeCopies_carries h12)) h12
      clear_value v13
      exact Carries2.mk h14

theorem State.askIpd_carries {o : State} {s : State} {n : Nat} {a : Nat} (h1 : Carries o s) : Carries o (State.askIpd
    s n a) := by
  unfold State.askIpd
  extract_lets +onlyGivenNames v1
  exact pIte (P := Carries o) (State.ipdReq_carries (State.setCache_carries h1)) h1

theorem State.askNext_carries {o : State} {s : State} {c : Nat} {a : Nat} (h1 : Carries o s) : Carries o
    (State.askNext s c a) := by
  unfold State.askNext
  extract_lets +onlyGivenNames v1
  refine pIte (P := Carries o) ?_ ?_
  · exact h1
  · split
    · rename_i x2 e3
      exact State.askIpd_carries h1
    · rename_i x4 x5 e6
      extract_lets +onlyGivenNames v7
      have h8 : Carries o v7 := by
        unfold v7
        exact State.checkLine_carries (State.setCache_carries h1)
      clear_value v7
      refine pIte (P := Carries o) ?_ ?_
      · exact State.bring_carries (State.countCache_carries h8)
      · extract_lets +onlyGivenNames v9
        have h10 : Carries o v9 := by
          unfold v9
          exact State.countCache_carries h8
        clear_value v9
        extract_lets +onlyGivenNames v11
        exact pIte (P := Carries o) h10 (State.askIpd_carries (State.setCache_carries h10))

theorem State.miss_carries {o : State} {s : State} {c : Nat} {a : Nat} {t : Option Nat} {prefetch : Bool} (h1 :
    Carries o s) : Carries o (State.miss s c a t prefetch) := by
  unfold State.miss
  extract_lets +onlyGivenNames v1
  extract_lets +onlyGivenNames v2
  extract_lets +onlyGivenNames v3
  extract_lets +onlyGivenNames v4
  refine pIte (P := Carries o) ?_ ?_
  · exact State.setCache_carries h1
  · extract_lets +onlyGivenNames v5
    have h6 : Carries o v5 := by
      unfold v5
      exact State.setCache_carries h1
    clear_value v5
    exact State.askNext_carries (State.countCache_carries h6)

theorem State.fetchLine_carries {o : State} {s : State} {c : Nat} {a : Nat} (h1 : Carries o s) : Carries2 o
    (State.fetchLine s c a) := by
  unfold State.fetchLine
  split
  · rename_i x1 e2
    exact Carries2.mk h1
  · rename_i x3 x4 e5
    extract_lets +onlyGivenNames v6
    have h7 : Carries o v6 := by
      unfold v6
      exact State.checkLine_carries h1
    clear_value v6
    split
    · rename_i x8 x9 e10
      exact Carries2.mk h7
    · rename_i x11 e12
      extract_lets +onlyGivenNames v13
      exact Carries2.mk (State.install_carries h7)

theorem State.ctrlWrite_carries {o : State} {s : State} {a : Nat} {bs : List Byte} (h1 : Carries o s) : Carries o
    (State.ctrlWrite s a bs) := by
  unfold State.ctrlWrite
  refine pIte (P := Carries o) ?_ ?_
  · exact h1
  · extract_lets +onlyGivenNames v1
    have h2 : Carries o v1 := by
      unfold v1
      exact State.checkLine_carries h1
    clear_value v1
    extract_lets +onlyGivenNames v3
    have h4 : Carries o v3 := by
      unfold v3
      refine pIte (P := Carries o) ?_ ?_
      · exact State.install_carries (State.ctrlMiss_carries h2)
      · exact State.bring_carries (State.countCache_carries h2)
    clear_value v3
    extract_lets +onlyGivenNames v5
    extract_lets +onlyGivenNames v6
    have h7 : Carries o v6 := by
      unfold v6
      exact State.dropCeCopies_carries h4
    clear_value v6
    exact State.setLine_carries h7

theorem State.ipdReqs_carries {o : State} {s : State} {a : Nat} {n : Nat} {write : Bool} {cls : Nat} (h1 : Carries o
    s) : Carries o (State.ipdReqs s a n write cls) := by
  unfold State.ipdReqs
  refine pFoldl (P := Carries o) ?_ ?_
  · exact h1
  · intro s1 x2 h3
    exact State.ipdReq_carries h3

theorem State.askRetrain_carries {o : State} {s : State} {pc : Nat} (h1 : Carries o s) : Carries o (State.askRetrain s
    pc) := by
  unfold State.askRetrain
  exact pIte (P := Carries o) h1 (carriesMk h1 rfl rfl rfl rfl)

theorem State.askWaiting_carries {o : State} {s : State} {c : Nat} (h1 : Carries o s) : Carries o (State.askWaiting s
    c) := by
  unfold State.askWaiting
  refine pFoldl (P := Carries o) ?_ ?_
  · exact h1
  · intro s1 x2 h3
    exact State.askNext_carries h3

theorem State.flushWith_carries {o : State} {s : State} {c : Nat} {lose : State → State} (h1 : Carries o s) (h3 : ∀
    y0, Carries o y0 → Carries o (lose y0)) : Carries o (State.flushWith s c lose) := by
  unfold State.flushWith
  extract_lets +onlyGivenNames v1
  extract_lets +onlyGivenNames v2
  extract_lets +onlyGivenNames v3
  have h4 : Carries o v3 := by
    unfold v3
    refine pFoldl (P := Carries o) ?_ ?_
    · exact h1
    · intro s5 x6 h7
      refine pIte (P := Carries o) ?_ ?_
      · apply h3
        exact h7
      · exact State.writeBack_carries h7
  clear_value v3
  exact State.setCache_carries h4

theorem State.flushBasin_carries {o : State} {s : State} {b : Nat} (h1 : Carries o s) : Carries o (State.flushBasin s
    b) := by
  unfold State.flushBasin
  extract_lets +onlyGivenNames v1
  extract_lets +onlyGivenNames v2
  have h3 : Carries o v2 := by
    unfold v2
    refine pFoldl (P := Carries o) ?_ ?_
    · exact h1
    · intro s4 x5 h6
      refine State.flushWith_carries ?_ ?_
      · exact h6
      · intro s7 h8
        unfold v1
        exact State.countCache_carries h8
  clear_value v2
  refine State.flushWith_carries ?_ ?_
  · exact h3
  · intro s9 h10
    unfold v1
    exact State.countCache_carries h10

theorem State.cleanLine_carries {o : State} {s : State} {c : Nat} {a : Nat} (h1 : Carries o s) : Carries o
    (State.cleanLine s c a) := by
  unfold State.cleanLine
  extract_lets +onlyGivenNames v1
  extract_lets +onlyGivenNames v2
  extract_lets +onlyGivenNames v3
  extract_lets +onlyGivenNames v4
  extract_lets +onlyGivenNames v5
  extract_lets +onlyGivenNames v6
  have h7 : Carries o v6 := by
    unfold v6
    exact State.setCache_carries h1
  clear_value v6
  refine pFoldl (P := Carries o) ?_ ?_
  · exact h7
  · intro s8 x9 h10
    exact State.writeBack_carries h10

theorem State.maintLevel_carries {o : State} {s : State} {c : Nat} {op : Nat} {a : Nat} (h1 : Carries o s) : Carries o
    (State.maintLevel s c op a) := by
  unfold State.maintLevel
  extract_lets +onlyGivenNames v1
  have h2 : Carries o v1 := by
    unfold v1
    exact pIte (P := Carries o) h1 (State.cleanLine_carries h1)
  clear_value v1
  exact pIte (P := Carries o) (State.setCache_carries h2) (State.setCache_carries h2)

theorem State.maintain_carries {o : State} {s : State} {c : Nat} {op : Nat} {a : Nat} {lvl : Bool} (h1 : Carries o s)
    : Carries o (State.maintain s c op a lvl) := by
  unfold State.maintain
  extract_lets +onlyGivenNames v1
  have h2 : Carries o v1 := by
    unfold v1
    exact State.maintLevel_carries h1
  clear_value v1
  extract_lets +onlyGivenNames v3
  have h4 : Carries o v3 := by
    unfold v3
    exact pIte (P := Carries o) (State.setCache_carries h2) h2
  clear_value v3
  split
  · rename_i x5 e6
    exact h4
  · rename_i x7 x8 e9
    refine pIte (P := Carries o) ?_ ?_
    · exact h4
    · extract_lets +onlyGivenNames v10
      have h11 : Carries o v10 := by
        unfold v10
        exact State.maintLevel_carries h4
      clear_value v10
      exact pIte (P := Carries o) (State.dropCeCopies_carries h11) h11

theorem State.fenceLines_carries {o : State} {s : State} {c : Nat} {bit : Nat} (h1 : Carries o s) : Carries o
    (State.fenceLines s c bit) := by
  unfold State.fenceLines
  extract_lets +onlyGivenNames v1
  extract_lets +onlyGivenNames v2
  extract_lets +onlyGivenNames v3
  refine pFoldl (P := Carries o) ?_ ?_
  · exact h1
  · intro s4 x5 h6
    exact State.cleanLine_carries h6

theorem State.corrected_carries {o : State} {s : State} {pc : Nat} (h1 : Carries o s) : Carries o (State.corrected s
    pc) := by
  unfold State.corrected
  extract_lets +onlyGivenNames v1
  extract_lets +onlyGivenNames v2
  extract_lets +onlyGivenNames v3
  extract_lets +onlyGivenNames v4
  have h5 : Carries o v4 := by
    unfold v4
    exact State.bump_carries (State.setPchan_carries h1)
  clear_value v4
  exact pIte (P := Carries o) (State.askRetrain_carries (State.eventSup_carries h5)) h5

theorem State.flushCache_carries {o : State} {s : State} {c : Nat} (h1 : Carries o s) : Carries o (State.flushCache s
    c) := by
  unfold State.flushCache
  refine State.flushWith_carries ?_ ?_
  · exact h1
  · intro s1 h2
    exact pIte (P := Carries o) (State.eccEngine_carries h2) (State.countCache_carries h2)

theorem State.flushAllCaches_carries {o : State} {s : State} (h1 : Carries o s) : Carries o (State.flushAllCaches s)
    := by
  unfold State.flushAllCaches
  extract_lets +onlyGivenNames v1
  have h2 : Carries o v1 := by
    unfold v1
    refine pFoldl (P := Carries o) ?_ ?_
    · exact h1
    · intro s3 x4 h5
      exact State.flushBasin_carries h5
  clear_value v1
  extract_lets +onlyGivenNames v6
  have h7 : Carries o v6 := by
    unfold v6
    refine pFoldl (P := Carries o) ?_ ?_
    · exact h2
    · intro s8 x9 h10
      exact State.flushCache_carries (State.flushCache_carries h10)
  clear_value v6
  exact State.flushCache_carries h7

theorem State.issueColumn_carries {o : State} {s : State} {pc : Nat} {p : PChan} {q : DramReq} (h1 : Carries o s) :
    Carries o (State.issueColumn s pc p q) := by
  unfold State.issueColumn
  extract_lets +onlyGivenNames v1
  extract_lets +onlyGivenNames v2
  extract_lets +onlyGivenNames v3
  extract_lets +onlyGivenNames v4
  exact State.setPchan_carries h1

theorem State.serveMaint_carries {o : State} {s : State} {c : Nat} {a : Nat} {ms : List (Nat × Nat)} (h1 : Carries o
    s) : Carries o (State.serveMaint s c a ms) := by
  unfold State.serveMaint
  refine pFoldl (P := Carries o) ?_ ?_
  · exact h1
  · intro s1 x2 h3
    exact State.endWait_carries (State.maintain_carries h3)

theorem State.serveWaiters_carries {o : State} {s : State} {c : Nat} {ws : List Nat} (h1 : Carries o s) : Carries o
    (State.serveWaiters s c ws) := by
  unfold State.serveWaiters
  refine pFoldl (P := Carries o) ?_ ?_
  · exact h1
  · intro s1 x2 h3
    split
    · rename_i x4 e5
      exact h3
    · rename_i x6 x7 e8
      split
      · rename_i x9 e10
        exact h3
      · rename_i x11 x12 e13
        split
        · rename_i x14 x15 x16 s17 e18
          have h19 := Carries2.of (o := o) ?_ e18
          rotate_left
          · exact State.lineAccess_carries h3
          exact State.endWait_carries h19

theorem State.spareRow_carries {o : State} {s : State} {a : Nat} (h1 : Carries o s) : Carries o (State.spareRow s a)
    := by
  unfold State.spareRow
  split
  · rename_i x1 x2 x3 x4 e5
    extract_lets +onlyGivenNames v6
    refine pIte (P := Carries o) ?_ ?_
    · exact h1
    · extract_lets +onlyGivenNames v7
      extract_lets +onlyGivenNames v8
      extract_lets +onlyGivenNames v9
      have h10 : Carries o v9 := by
        unfold v9
        exact carriesMk h1 rfl rfl rfl rfl
      clear_value v9
      exact State.eventSup_carries (State.bump_carries h10)

theorem State.wordFound_carries {o : State} {s : State} {a : Nat} {ecc : Nat} (h1 : Carries o s) : Carries o
    (State.wordFound s a ecc) := by
  unfold State.wordFound
  refine pIte (P := Carries o) ?_ ?_
  · exact State.corrected_carries h1
  · exact pIte (P := Carries o) (State.spareRow_carries (State.poisonWord_carries h1)) h1

theorem cacheFillComplete_carries {o : State} {s : State} {c : Nat} {line : Nat} (h1 : Carries o s) : Carries o
    (cacheFillComplete s c line) := by
  unfold cacheFillComplete
  extract_lets +onlyGivenNames v1
  extract_lets +onlyGivenNames v2
  split
  · rename_i x3 e4
    exact h1
  · rename_i x5 x6 e7
    extract_lets +onlyGivenNames v8
    refine pIte (P := Carries o) ?_ ?_
    · exact h1
    · extract_lets +onlyGivenNames v9
      have h10 : Carries o v9 := by
        unfold v9
        exact State.askWaiting_carries (State.setCache_carries h1)
      clear_value v9
      refine pIte (P := Carries o) ?_ ?_
      · exact State.serveMaint_carries (State.serveWaiters_carries h10)
      · refine pIte (P := Carries o) ?_ ?_
        · exact State.serveMaint_carries (State.serveWaiters_carries h10)
        · split
          · rename_i x11 x12 s13 e14
            have h15 := Carries2.of (o := o) ?_ e14
            rotate_left
            · exact State.fetchLine_carries h10
            extract_lets +onlyGivenNames v16
            extract_lets +onlyGivenNames v17
            extract_lets +onlyGivenNames v18
            have h19 : Carries o v18 := by
              unfold v18
              exact pIte (P := Carries o) (State.setCache_carries h15) (State.install_carries h15)
            clear_value v18
            exact State.serveMaint_carries (State.serveWaiters_carries h19)

theorem evictionWriteback_carries {o : State} {s : State} {c : Nat} (h1 : Carries o s) : Carries o (evictionWriteback
    s c) := by
  unfold evictionWriteback
  extract_lets +onlyGivenNames v1
  split
  · rename_i x2 e3
    exact h1
  · rename_i x4 x5 x6 e7
    exact State.writeBack_carries (State.setCache_carries h1)

theorem ipdCommandIssue_carries {o : State} {s : State} {now : Nat} {pc : Nat} (h1 : Carries o s) : Carries o
    (ipdCommandIssue s now pc) := by
  unfold ipdCommandIssue
  extract_lets +onlyGivenNames v1
  have h2 : Carries o v1 := by
    unfold v1
    exact State.upTo_carries h1
  clear_value v1
  refine pIte (P := Carries o) ?_ ?_
  · exact h2
  · extract_lets +onlyGivenNames v3
    extract_lets +onlyGivenNames v4
    extract_lets +onlyGivenNames v5
    extract_lets +onlyGivenNames v6
    extract_lets +onlyGivenNames v7
    extract_lets +onlyGivenNames v8
    have h9 : Carries o v8 := by
      unfold v8
      exact State.bumpFld_carries (State.setPchan_carries h2)
    clear_value v8
    extract_lets +onlyGivenNames v10
    extract_lets +onlyGivenNames v11
    split
    · rename_i x12 e13
      exact h9
    · rename_i x14 x15 e16
      extract_lets +onlyGivenNames v17
      extract_lets +onlyGivenNames v18
      split
      · rename_i x19 x20 e21
        exact pIte (P := Carries o) (State.issueColumn_carries h9) (State.setPchan_carries h9)
      · rename_i x22 e23
        split
        · rename_i x24 x25 x26 e27
          extract_lets +onlyGivenNames v28
          have h29 : Carries o v28 := by
            unfold v28
            exact State.setPchan_carries h9
          clear_value v28
          exact pIte (P := Carries o) (State.bump_carries h29) h29

theorem ipdAccessComplete_carries {o : State} {s : State} {pc : Nat} {ecc : Nat} (h1 : Carries o s) : Carries o
    (ipdAccessComplete s pc ecc) := by
  unfold ipdAccessComplete
  extract_lets +onlyGivenNames v1
  split
  · rename_i x2 e3
    exact h1
  · rename_i x4 x5 x6 e7
    extract_lets +onlyGivenNames v8
    have h9 : Carries o v8 := by
      unfold v8
      exact State.setPchan_carries h1
    clear_value v8
    exact pIte (P := Carries o) h9 (State.wordFound_carries h9)

theorem refresh_carries {o : State} {s : State} {pc : Nat} {bank : Nat} {periodStart : Bool} (h1 : Carries o s) :
    Carries o (refresh s pc bank periodStart) := by
  unfold refresh
  extract_lets +onlyGivenNames v1
  exact State.setPchan_carries h1

theorem patrolScrub_carries {o : State} {s : State} {line : Nat} {ecc : List Nat} (h1 : Carries o s) : Carries o
    (patrolScrub s line ecc) := by
  unfold patrolScrub
  extract_lets +onlyGivenNames v1
  refine pIte (P := Carries o) ?_ ?_
  · exact h1
  · extract_lets +onlyGivenNames v2
    extract_lets +onlyGivenNames v3
    extract_lets +onlyGivenNames v4
    have h5 : Carries o v4 := by
      unfold v4
      exact carriesMk h1 rfl rfl rfl rfl
    clear_value v4
    extract_lets +onlyGivenNames v6
    have h7 : Carries o v6 := by
      unfold v6
      exact State.ipdReq_carries h5
    clear_value v6
    extract_lets +onlyGivenNames v8
    extract_lets +onlyGivenNames v9
    have h10 : Carries o v9 := by
      unfold v9
      refine pFoldl (P := Carries o) ?_ ?_
      · exact h7
      · intro s11 x12 h13
        exact State.wordFound_carries h13
    clear_value v9
    refine pIte (P := Carries o) ?_ ?_
    · exact h10
    · extract_lets +onlyGivenNames v14
      have h15 : Carries o v14 := by
        unfold v14
        exact State.ipdReq_carries h10
      clear_value v14
      split
      · rename_i x16 x17 x18 x19 e20
        extract_lets +onlyGivenNames v21
        extract_lets +onlyGivenNames v22
        exact pIte (P := Carries o) (State.spareRow_carries h15) (carriesMk h15 rfl rfl rfl rfl)

theorem trackingStep_carries {o : State} {s : State} {pc : Nat} {windowEnd : Bool} (h1 : Carries o s) : Carries o
    (trackingStep s pc windowEnd) := by
  unfold trackingStep
  refine pIte (P := Carries o) ?_ ?_
  · exact h1
  · extract_lets +onlyGivenNames v1
    have h2 : Carries o v1 := by
      unfold v1
      exact State.bump_carries h1
    clear_value v1
    exact pIte (P := Carries o) (State.askRetrain_carries h2) h2

theorem fullRetrainStart_carries {o : State} {s : State} {pc : Nat} (h1 : Carries o s) : Carries o (fullRetrainStart s
    pc) := by
  unfold fullRetrainStart
  refine pIte (P := Carries o) ?_ ?_
  · exact h1
  · extract_lets +onlyGivenNames v1
    split
    · rename_i x2 e3
      unfold v1
      exact State.setAll_carries h1
    · rename_i x4 x5 x6 e7
      refine pIte (P := Carries o) ?_ ?_
      · unfold v1
        exact State.setAll_carries (carriesMk h1 rfl rfl rfl rfl)
      · exact h1

theorem fullRetrainEnd_carries {o : State} {s : State} {pc : Nat} {works : Bool} {temp : Nat} {margin : Nat} (h1 :
    Carries o s) : Carries o (fullRetrainEnd s pc works temp margin) := by
  unfold fullRetrainEnd
  refine pIte (P := Carries o) ?_ ?_
  · exact h1
  · extract_lets +onlyGivenNames v1
    have h2 : Carries o v1 := by
      unfold v1
      exact State.bump_carries (State.wr_carries h1)
    clear_value v1
    extract_lets +onlyGivenNames v3
    extract_lets +onlyGivenNames v4
    refine pIte (P := Carries o) ?_ ?_
    · exact State.eventSup_carries (State.setPchan_carries h2)
    · extract_lets +onlyGivenNames v5
      have h6 : Carries o v5 := by
        unfold v5
        exact State.setPchan_carries h2
      clear_value v5
      exact pIte (P := Carries o) h6 (carriesMk h6 rfl rfl rfl rfl)

end Sys2Proof.Machine
end

