-- ==== Sys2Proof/Laws/CarryCistern.lean ====
section
/-! SUPPORT. What the operations of Cistern, Packet, Record, Journey carry from state to state. -/

namespace Sys2Proof.Machine

open Sys2Proof

/-! ### Cistern -/

theorem State.setPool_carries {o : State} {s : State} {p : Nat} {v : Pool} (h1 : Carries o s) : Carries o
    (State.setPool s p v) := by
  unfold State.setPool
  exact carriesMk h1 rfl rfl rfl rfl

theorem State.dropWaiters_carries {o : State} {s : State} {who : Nat → Bool} (h1 : Carries o s) : Carries o
    (State.dropWaiters s who) := by
  unfold State.dropWaiters
  extract_lets +onlyGivenNames v1
  extract_lets +onlyGivenNames v2
  extract_lets +onlyGivenNames v3
  have h4 : Carries o v3 := by
    unfold v3
    exact carriesMk h1 rfl rfl rfl rfl
  clear_value v3
  refine pFoldl (P := Carries o) ?_ ?_
  · exact h4
  · intro s5 x6 h7
    extract_lets +onlyGivenNames v8
    exact State.setPool_carries h7

theorem State.failAllocs_carries {o : State} {s : State} {p : Nat} (h1 : Carries o s) : Carries o (State.failAllocs s
    p) := by
  unfold State.failAllocs
  extract_lets +onlyGivenNames v1
  refine pIte (P := Carries o) ?_ ?_
  · exact h1
  · extract_lets +onlyGivenNames v2
    extract_lets +onlyGivenNames v3
    have h4 : Carries o v3 := by
      unfold v3
      exact State.dropWaiters_carries h1
    clear_value v3
    refine pFoldl (P := Carries o) ?_ ?_
    · exact h4
    · intro s5 x6 h7
      exact pIte (P := Carries o) (carriesMk h7 rfl rfl rfl rfl) (State.endWait_carries h7)

theorem State.losePool_carries {o : State} {s : State} {p : Nat} (h1 : Carries o s) : Carries o (State.losePool s p)
    := by
  unfold State.losePool
  extract_lets +onlyGivenNames v1
  refine pIte (P := Carries o) ?_ ?_
  · exact h1
  · extract_lets +onlyGivenNames v2
    extract_lets +onlyGivenNames v3
    extract_lets +onlyGivenNames v4
    extract_lets +onlyGivenNames v5
    extract_lets +onlyGivenNames v6
    have h7 : Carries o v6 := by
      unfold v6
      exact State.setPool_carries h1
    clear_value v6
    extract_lets +onlyGivenNames v8
    have h9 : Carries o v8 := by
      unfold v8
      exact State.bumpFld_carries h7
    clear_value v8
    exact State.failAllocs_carries (State.eventSup_carries (State.wr_carries h9))

theorem State.loseBuffers_carries {o : State} {s : State} (h1 : Carries o s) : Carries o (State.loseBuffers s) := by
  unfold State.loseBuffers
  refine pFoldl (P := Carries o) ?_ ?_
  · exact h1
  · intro s1 x2 h3
    exact pIte (P := Carries o) (State.losePool_carries h3) h3

theorem State.buildPools_carries {o : State} {s : State} (h1 : Carries o s) : Carries o (State.buildPools s) := by
  unfold State.buildPools
  extract_lets +onlyGivenNames v1
  extract_lets +onlyGivenNames v2
  have h3 : Carries o v2 := by
    unfold v2
    exact carriesMk h1 rfl rfl rfl rfl
  clear_value v2
  extract_lets +onlyGivenNames v4
  have h5 : Carries o v4 := by
    unfold v4
    refine pFoldl (P := Carries o) ?_ ?_
    · exact h3
    · intro s6 x7 h8
      exact pIte (P := Carries o) h8 (State.setPool_carries h8)
  clear_value v4
  extract_lets +onlyGivenNames v9
  have h10 : Carries o v9 := by
    unfold v9
    refine pFoldl (P := Carries o) ?_ ?_
    · exact h5
    · intro s11 x12 h13
      exact pIte (P := Carries o) h13 (State.ipdWrite_carries h13)
  clear_value v9
  exact State.loseBuffers_carries h10

theorem State.nextHandle_carries {o : State} {s : State} {p : Nat} (h1 : Carries o s) : Carries2 o (State.nextHandle s
    p) := by
  unfold State.nextHandle
  extract_lets +onlyGivenNames v1
  split
  · rename_i x2 x3 x4 x5 e6
    exact Carries2.mk (State.setPool_carries h1)
  · rename_i x7 x8 x9 x10 e11 e12
    exact Carries2.mk (State.setPool_carries h1)
  · rename_i x13 x14 e15 e16
    extract_lets +onlyGivenNames v17
    split
    · rename_i x18 x19 x20 x21 e22
      exact Carries2.mk (State.setPool_carries h1)
    · rename_i x23 x24 x25 x26 e27 e28
      exact Carries2.mk (State.setPool_carries h1)
    · rename_i x29 x30 e31 e32
      exact Carries2.mk h1

theorem State.handOut_carries {o : State} {s : State} {p : Nat} {a2 : Nat} {part : Nat} (h1 : Carries o s) : Carries o
    (State.handOut s p a2 part) := by
  unfold State.handOut
  extract_lets +onlyGivenNames v1
  exact State.setPool_carries h1

theorem State.setRefTable_carries {o : State} {s : State} {t : Nat} {l : List RefEnt} (h1 : Carries o s) : Carries o
    (State.setRefTable s t l) := by
  unfold State.setRefTable
  split
  · rename_i x1 e2
    exact State.updThread_carries h1
  · rename_i x3 x4 e5
    exact carriesMk h1 rfl rfl rfl rfl

theorem State.deliverThread_carries {o : State} {s : State} {w : Nat × Nat × Nat} {a2 : Nat} (h1 : Carries o s) :
    Carries o (State.deliverThread s w a2) := by
  unfold State.deliverThread
  split
  · rename_i x1 x2 x3 x4
    extract_lets +onlyGivenNames v5
    have h6 : Carries o v5 := by
      unfold v5
      exact State.handOut_carries h1
    clear_value v5
    split
    · rename_i x7 x8 x9 x10 e11
      exact State.endWait_carries (State.setRefTable_carries h6)

theorem State.hurryAlloc_carries {o : State} {s : State} {t : Nat} {p : Nat} (h1 : Carries o s) : Carries o
    (State.hurryAlloc s t p) := by
  unfold State.hurryAlloc
  split
  · rename_i x1 e2
    exact h1
  · rename_i x3 x4 e5
    split
    · rename_i x6 x7 s8 e9
      have h10 := Carries2.of (o := o) ?_ e9
      rotate_left
      · exact State.nextHandle_carries (carriesMk h1 rfl rfl rfl rfl)
      exact State.deliverThread_carries h10
    · rename_i x11 s12 e13
      have h14 := Carries2.of (o := o) ?_ e13
      rotate_left
      · exact State.nextHandle_carries (carriesMk h1 rfl rfl rfl rfl)
      exact h14

theorem State.hurryFree_carries {o : State} {s : State} {t : Nat} {p : Nat} (h1 : Carries o s) : Carries o
    (State.hurryFree s t p) := by
  unfold State.hurryFree
  exact State.endWait_carries (carriesMk h1 rfl rfl rfl rfl)

theorem State.cisError_carries {o : State} {s : State} {p : Nat} {st : Nat} {op : Nat} {kind : Nat} {a5 : Nat} {id :
    Nat} (h1 : Carries o s) : Carries o (State.cisError s p st op kind a5 id) := by
  unfold State.cisError
  extract_lets +onlyGivenNames v1
  have h2 : Carries o v1 := by
    unfold v1
    exact State.bump_carries h1
  clear_value v1
  refine pIte (P := Carries o) ?_ ?_
  · exact State.eventSup_carries (State.bump_carries h2)
  · extract_lets +onlyGivenNames v3
    extract_lets +onlyGivenNames v4
    extract_lets +onlyGivenNames v5
    have h6 : Carries o v5 := by
      unfold v5
      exact carriesMk h2 rfl rfl rfl rfl
    clear_value v5
    exact State.eventSup_carries (State.wr_carries h6)

theorem State.uncharge_carries {o : State} {s : State} {p : Nat} {a2 : Nat} (h1 : Carries o s) : Carries o
    (State.uncharge s p a2) := by
  unfold State.uncharge
  extract_lets +onlyGivenNames v1
  extract_lets +onlyGivenNames v2
  exact State.setPool_carries h1

theorem State.ringReqs_carries {o : State} {s : State} {p : Nat} {i : Nat} {n : Nat} {write : Bool} (h1 : Carries o s)
    : Carries o (State.ringReqs s p i n write) := by
  unfold State.ringReqs
  extract_lets +onlyGivenNames v1
  extract_lets +onlyGivenNames v2
  have h3 : Carries o v2 := by
    unfold v2
    exact State.ipdReqs_carries h1
  clear_value v2
  exact pIte (P := Carries o) h3 (State.ipdReqs_carries h3)

theorem State.startSpill_carries {o : State} {s : State} {p : Nat} (h1 : Carries o s) : Carries o (State.startSpill s
    p) := by
  unfold State.startSpill
  extract_lets +onlyGivenNames v1
  refine pIte (P := Carries o) ?_ ?_
  · exact h1
  · extract_lets +onlyGivenNames v2
    exact State.ringReqs_carries (State.setPool_carries h1)

theorem State.pushHandle_carries {o : State} {s : State} {p : Nat} {a2 : Nat} (h1 : Carries o s) : Carries o
    (State.pushHandle s p a2) := by
  unfold State.pushHandle
  exact State.startSpill_carries (State.setPool_carries h1)

theorem State.returnHandle_carries {o : State} {s : State} {p : Nat} {a2 : Nat} (h1 : Carries o s) : Carries o
    (State.returnHandle s p a2) := by
  unfold State.returnHandle
  extract_lets +onlyGivenNames v1
  refine pIte (P := Carries o) ?_ ?_
  · exact State.setPool_carries h1
  · exact State.bump_carries (State.uncharge_carries (State.pushHandle_carries h1))

theorem State.dropCount_carries {o : State} {s : State} {p : Nat} {a2 : Nat} (h1 : Carries o s) : Carries o
    (State.dropCount s p a2) := by
  unfold State.dropCount
  extract_lets +onlyGivenNames v1
  extract_lets +onlyGivenNames v2
  extract_lets +onlyGivenNames v3
  have h4 : Carries o v3 := by
    unfold v3
    exact State.setPool_carries h1
  clear_value v3
  refine pIte (P := Carries o) ?_ ?_
  · exact h4
  · refine pIte (P := Carries o) ?_ ?_
    · exact State.uncharge_carries h4
    · exact pIte (P := Carries o) (State.setPool_carries h4) (State.returnHandle_carries h4)

theorem State.dropRef_carries {o : State} {s : State} {p : Nat} {a2 : Nat} {op : Nat} {kind : Nat} {id : Nat} (h1 :
    Carries o s) : Carries o (State.dropRef s p a2 op kind id) := by
  unfold State.dropRef
  exact pIte (P := Carries o) (State.cisError_carries h1) (State.dropCount_carries h1)

theorem State.startRefill_carries {o : State} {s : State} {p : Nat} {waits : Bool} (h1 : Carries o s) : Carries o
    (State.startRefill s p waits) := by
  unfold State.startRefill
  extract_lets +onlyGivenNames v1
  refine pIte (P := Carries o) ?_ ?_
  · exact h1
  · refine pIte (P := Carries o) ?_ ?_
    · extract_lets +onlyGivenNames v2
      exact State.ringReqs_carries (State.setPool_carries h1)
    · exact h1

theorem State.allocCore_carries {o : State} {s : State} {p : Nat} {part : Nat} {who : Nat} (h1 : Carries o s) :
    Carries2 o (State.allocCore s p part who) := by
  unfold State.allocCore
  extract_lets +onlyGivenNames v1
  refine pIte (P := Carries2 o) ?_ ?_
  · exact Carries2.mk (State.bump_carries h1)
  · refine pIte (P := Carries2 o) ?_ ?_
    · exact Carries2.mk (State.eventSup_carries (State.bump_carries h1))
    · extract_lets +onlyGivenNames v2
      extract_lets +onlyGivenNames v3
      have h4 : Carries o v3 := by
        unfold v3
        exact State.bump_carries (State.setPool_carries h1)
      clear_value v3
      split
      · rename_i x5 x6 x7 e8
        exact Carries2.mk (State.startRefill_carries (State.handOut_carries (State.setPool_carries h4)))
      · rename_i x9 e10
        refine pIte (P := Carries2 o) ?_ ?_
        · exact Carries2.mk (State.handOut_carries (State.setPool_carries h4))
        · exact Carries2.mk (State.startRefill_carries (carriesMk h4 rfl rfl rfl rfl))

theorem State.alloc_carries {o : State} {s : State} {p : Nat} {part : Nat} {who : Nat} (h1 : Carries o s) : Carries2 o
    (State.alloc s p part who) := by
  unfold State.alloc
  exact pIte (P := Carries2 o) (Carries2.mk h1) (State.allocCore_carries h1)

theorem State.allocHead_carries {o : State} {s : State} {part : Nat} (h1 : Carries o s) : Carries2 o (State.allocHead
    s part) := by
  unfold State.allocHead
  split
  · rename_i x1 x2 x3 s4 e5
    have h6 := Carries2.of (o := o) ?_ e5
    rotate_left
    · exact State.alloc_carries h1
    exact Carries2.mk h6

theorem State.addCount_carries {o : State} {s : State} {p : Nat} {a2 : Nat} (h1 : Carries o s) : Carries o
    (State.addCount s p a2) := by
  unfold State.addCount
  extract_lets +onlyGivenNames v1
  exact State.setPool_carries h1

theorem State.allocNow_carries {o : State} {s : State} {p : Nat} {part : Nat} (h1 : Carries o s) : Carries2 o
    (State.allocNow s p part) := by
  unfold State.allocNow
  split
  · rename_i x1 x2 x3 s4 e5
    have h6 := Carries2.of (o := o) ?_ e5
    rotate_left
    · exact State.alloc_carries h1
    exact Carries2.mk h6
  · rename_i x7 x8 s9 e10
    have h11 := Carries2.of (o := o) ?_ e10
    rotate_left
    · exact State.alloc_carries h1
    refine pIte (P := Carries2 o) ?_ ?_
    · exact Carries2.mk h11
    · extract_lets +onlyGivenNames v12
      extract_lets +onlyGivenNames v13
      have h14 : Carries o v13 := by
        unfold v13
        exact carriesMk h11 rfl rfl rfl rfl
      clear_value v13
      split
      · rename_i x15 x16 s17 e18
        have h19 := Carries2.of (o := o) ?_ e18
        rotate_left
        · exact State.nextHandle_carries h14
        exact Carries2.mk (State.handOut_carries h19)
      · rename_i x20 s21 e22
        have h23 := Carries2.of (o := o) ?_ e22
        rotate_left
        · exact State.nextHandle_carries h14
        exact Carries2.mk h23

theorem csAlloc_carries {o : State} {s : State} {t : Nat} {x : Nat} (h1 : Carries o s) : Carries1 o (csAlloc s t x) :=
    by
  unfold csAlloc
  extract_lets +onlyGivenNames v1
  split
  · rename_i x2 x3 x4 x5 e6
    refine pIte (P := Carries1 o) ?_ ?_
    · exact Carries1.mk (State.startOp_carries h1)
    · refine pIte (P := Carries1 o) ?_ ?_
      · exact Carries1.mk (State.startOp_carries h1)
      · refine pIte (P := Carries1 o) ?_ ?_
        · exact Carries1.mk (State.startOp_carries h1)
        · refine pIte (P := Carries1 o) ?_ ?_
          · exact Carries1.mk (State.startOp_carries h1)
          · split
            · rename_i x7 x8 x9 s10 e11
              have h12 := Carries2.of (o := o) ?_ e11
              rotate_left
              · exact State.allocCore_carries h1
              exact Carries1.mk (State.startOp_carries (State.setRefTable_carries h12))
            · rename_i x13 x14 s15 e16
              have h17 := Carries2.of (o := o) ?_ e16
              rotate_left
              · exact State.allocCore_carries h1
              refine pIte (P := Carries1 o) ?_ ?_
              · exact Carries1.mk (State.putOp_carries h17)
              · exact Carries1.mk (State.startOp_carries h17)

theorem csFree_carries {o : State} {s : State} {t : Nat} {x : Nat} (h1 : Carries o s) : Carries1 o (csFree s t x) :=
    by
  unfold csFree
  extract_lets +onlyGivenNames v1
  extract_lets +onlyGivenNames v2
  split
  · rename_i x3 x4 x5 x6 e7
    split
    · rename_i x8 x9 x10 e11
      refine pIte (P := Carries1 o) ?_ ?_
      · exact Carries1.mk (State.startOp_carries h1)
      · refine pIte (P := Carries1 o) ?_ ?_
        · refine pIte (P := Carries1 o) ?_ ?_
          · exact Carries1.mk (State.startOp_carries (State.cisError_carries h1))
          · extract_lets +onlyGivenNames v12
            have h13 : Carries o v12 := by
              unfold v12
              exact State.dropCount_carries (State.setRefTable_carries h1)
            clear_value v12
            refine pIte (P := Carries1 o) ?_ ?_
            · exact Carries1.mk (State.putOp_carries (carriesMk h13 rfl rfl rfl rfl))
            · exact Carries1.mk (State.startOp_carries h13)
        · refine pIte (P := Carries1 o) ?_ ?_
          · exact Carries1.mk (State.startOp_carries (State.cisError_carries h1))
          · exact Carries1.mk (State.startOp_carries (State.cisError_carries h1))

theorem csRef_carries {o : State} {s : State} {t : Nat} {x : Nat} (h1 : Carries o s) : Carries1 o (csRef s t x) := by
  unfold csRef
  extract_lets +onlyGivenNames v1
  extract_lets +onlyGivenNames v2
  split
  · rename_i x3 x4 x5 x6 e7
    split
    · rename_i x8 x9 x10 e11
      refine pIte (P := Carries1 o) ?_ ?_
      · exact Carries1.mk (State.startOp_carries h1)
      · refine pIte (P := Carries1 o) ?_ ?_
        · exact Carries1.mk (State.startOp_carries (State.cisError_carries h1))
        · refine pIte (P := Carries1 o) ?_ ?_
          · exact Carries1.mk (State.startOp_carries h1)
          · refine pIte (P := Carries1 o) ?_ ?_
            · exact Carries1.mk (State.startOp_carries h1)
            · split
              · rename_i x12 e13
                exact Carries1.mk (State.startOp_carries h1)
              · rename_i x14 x15 e16
                exact Carries1.mk (State.startOp_carries (State.addCount_carries (State.setRefTable_carries h1)))

theorem csAddr_carries {o : State} {s : State} {t : Nat} {x : Nat} (h1 : Carries o s) : Carries1 o (csAddr s t x) :=
    by
  unfold csAddr
  extract_lets +onlyGivenNames v1
  extract_lets +onlyGivenNames v2
  split
  · rename_i x3 x4 x5 e6
    refine pIte (P := Carries1 o) ?_ ?_
    · exact Carries1.mk (State.startOp_carries h1)
    · refine pIte (P := Carries1 o) ?_ ?_
      · exact Carries1.mk (State.startOp_carries (State.cisError_carries h1))
      · exact Carries1.mk (State.startOp_carries h1)

theorem csInfo_carries {o : State} {s : State} {t : Nat} {x : Nat} (h1 : Carries o s) : Carries1 o (csInfo s t x) :=
    by
  unfold csInfo
  extract_lets +onlyGivenNames v1
  extract_lets +onlyGivenNames v2
  split
  · rename_i x3 x4 x5 e6
    refine pIte (P := Carries1 o) ?_ ?_
    · exact Carries1.mk (State.startOp_carries h1)
    · refine pIte (P := Carries1 o) ?_ ?_
      · exact Carries1.mk (State.startOp_carries (State.cisError_carries h1))
      · exact Carries1.mk (State.startOp_carries h1)

theorem State.reclaim_carries {o : State} {s : State} {l : List RefEnt} {kind : Nat} {id : Nat} (h1 : Carries o s) :
    Carries o (State.reclaim s l kind id) := by
  unfold State.reclaim
  refine pFoldl (P := Carries o) ?_ ?_
  · exact h1
  · intro s1 x2 h3
    refine pFoldl (P := Carries o) ?_ ?_
    · exact h3
    · intro s4 x5 h6
      exact pIte (P := Carries o) (State.cisError_carries h6) (State.bump_carries (State.dropCount_carries h6))

theorem State.reclaimDesc_carries {o : State} {s : State} {d : Nat} (h1 : Carries o s) : Carries o (State.reclaimDesc
    s d) := by
  unfold State.reclaimDesc
  extract_lets +onlyGivenNames v1
  exact State.reclaim_carries (carriesMk h1 rfl rfl rfl rfl)

theorem cisErrPop_carries {o : State} {s : State} {part : Nat} (h1 : Carries o s) : Carries o (cisErrPop s part) := by
  unfold cisErrPop
  refine pIte (P := Carries o) ?_ ?_
  · exact h1
  · split
    · rename_i x1 e2
      exact State.setAll_carries h1
    · rename_i x3 x4 x5 e6
      exact State.setAll_carries (carriesMk h1 rfl rfl rfl rfl)

theorem cisQuotaWrite_carries {o : State} {s : State} {part : Nat} {p : Nat} {v : Nat} (h1 : Carries o s) : Carries o
    (cisQuotaWrite s part p v) := by
  unfold cisQuotaWrite
  refine pIte (P := Carries o) ?_ ?_
  · exact h1
  · extract_lets +onlyGivenNames v1
    exact State.setPool_carries h1

theorem State.deliver_carries {o : State} {s : State} {w : Nat × Nat × Nat} {a2 : Nat} (h1 : Carries o s) : Carries o
    (State.deliver s w a2) := by
  unfold State.deliver
  split
  · rename_i x1 x2 x3 x4
    refine pIte (P := Carries o) ?_ ?_
    · extract_lets +onlyGivenNames v5
      have h6 : Carries o v5 := by
        unfold v5
        exact State.handOut_carries h1
      clear_value v5
      exact carriesMk h6 rfl rfl rfl rfl
    · exact State.deliverThread_carries h1

theorem State.serveAllocs_carries {o : State} {s : State} {p : Nat} {a : Nat} (h1 : Carries o s) : Carries o
    (State.serveAllocs s p a) := by
  induction a generalizing s p
  · unfold State.serveAllocs
    exact h1
  · rename_i n1 ih2
    unfold State.serveAllocs
    split
    · rename_i x1 e2
      exact h1
    · rename_i x3 x4 e5
      split
      · rename_i x6 e7
        exact State.startRefill_carries h1
      · rename_i x8 x9 x10 e11
        extract_lets +onlyGivenNames v12
        extract_lets +onlyGivenNames v13
        have h14 : Carries o v13 := by
          unfold v13
          exact carriesMk h1 rfl rfl rfl rfl
        clear_value v13
        apply ih2
        exact State.deliver_carries (State.setPool_carries h14)

theorem State.endRefill_carries {o : State} {s : State} {p : Nat} (h1 : Carries o s) : Carries o (State.endRefill s p)
    := by
  unfold State.endRefill
  extract_lets +onlyGivenNames v1
  extract_lets +onlyGivenNames v2
  extract_lets +onlyGivenNames v3
  extract_lets +onlyGivenNames v4
  have h5 : Carries o v4 := by
    unfold v4
    exact State.setPool_carries h1
  clear_value v4
  exact State.serveAllocs_carries h5

theorem State.serveFrees_carries {o : State} {s : State} {p : Nat} {a : Nat} (h1 : Carries o s) : Carries o
    (State.serveFrees s p a) := by
  induction a generalizing s p
  · unfold State.serveFrees
    exact h1
  · rename_i n1 ih2
    unfold State.serveFrees
    split
    · rename_i x1 e2
      exact h1
    · rename_i x3 x4 x5 e6
      extract_lets +onlyGivenNames v7
      extract_lets +onlyGivenNames v8
      have h9 : Carries o v8 := by
        unfold v8
        exact State.returnHandle_carries (State.setPool_carries h1)
      clear_value v8
      refine pIte (P := Carries o) ?_ ?_
      · exact h9
      · extract_lets +onlyGivenNames v10
        extract_lets +onlyGivenNames v11
        extract_lets +onlyGivenNames v12
        have h13 : Carries o v12 := by
          unfold v12
          exact carriesMk h9 rfl rfl rfl rfl
        clear_value v12
        apply ih2
        refine pFoldl (P := Carries o) ?_ ?_
        · exact h13
        · intro s14 x15 h16
          exact State.endWait_carries h16

theorem State.endSpill_carries {o : State} {s : State} {p : Nat} (h1 : Carries o s) : Carries o (State.endSpill s p)
    := by
  unfold State.endSpill
  extract_lets +onlyGivenNames v1
  extract_lets +onlyGivenNames v2
  extract_lets +onlyGivenNames v3
  have h4 : Carries o v3 := by
    unfold v3
    refine pFoldl (P := Carries o) ?_ ?_
    · exact h1
    · intro s5 x6 h7
      exact State.ipdWrite_carries h7
  clear_value v3
  extract_lets +onlyGivenNames v8
  have h9 : Carries o v8 := by
    unfold v8
    exact State.setPool_carries h4
  clear_value v8
  extract_lets +onlyGivenNames v10
  have h11 : Carries o v10 := by
    unfold v10
    exact State.serveFrees_carries h9
  clear_value v10
  exact pIte (P := Carries o) (State.serveAllocs_carries h11) h11

theorem State.reclaimEngine_carries {o : State} {s : State} {e : Nat} (h1 : Carries o s) : Carries o
    (State.reclaimEngine s e) := by
  unfold State.reclaimEngine
  refine pFoldl (P := Carries o) ?_ ?_
  · exact h1
  · intro s1 x2 h3
    extract_lets +onlyGivenNames v4
    extract_lets +onlyGivenNames v5
    exact State.reclaim_carries (State.updThread_carries h3)

theorem cisPoolCountRead_carries {o : State} {s : State} {part : Nat} (h1 : Carries o s) : Carries o (cisPoolCountRead
    s part) := by
  unfold cisPoolCountRead
  refine pIte (P := Carries o) ?_ ?_
  · exact h1
  · extract_lets +onlyGivenNames v1
    extract_lets +onlyGivenNames v2
    extract_lets +onlyGivenNames v3
    extract_lets +onlyGivenNames v4
    extract_lets +onlyGivenNames v5
    have h6 : Carries o v5 := by
      unfold v5
      exact State.setAll_carries h1
    clear_value v5
    exact State.emit_carries h6

theorem bufferScrubDone_carries {o : State} {s : State} {p : Nat} {a2 : Nat} (h1 : Carries o s) : Carries o
    (bufferScrubDone s p a2) := by
  unfold bufferScrubDone
  extract_lets +onlyGivenNames v1
  refine pIte (P := Carries o) ?_ ?_
  · exact h1
  · extract_lets +onlyGivenNames v2
    extract_lets +onlyGivenNames v3
    have h4 : Carries o v3 := by
      unfold v3
      exact State.setPool_carries h1
    clear_value v3
    extract_lets +onlyGivenNames v5
    have h6 : Carries o v5 := by
      unfold v5
      exact State.ipdWrite_carries h4
    clear_value v5
    exact pIte (P := Carries o) (State.uncharge_carries h6) (State.returnHandle_carries h6)

/-! ### Packet -/

theorem State.setHead_carries {o : State} {s : State} {a1 : Nat} {bs : List Byte} (h1 : Carries o s) : Carries o
    (State.setHead s a1 bs) := by
  unfold State.setHead
  exact carriesMk h1 rfl rfl rfl rfl

theorem State.dropRefs_carries {o : State} {s : State} {d : Droplet} {op : Nat} {kind : Nat} {id : Nat} (h1 : Carries
    o s) : Carries o (State.dropRefs s d op kind id) := by
  unfold State.dropRefs
  extract_lets +onlyGivenNames v1
  have h2 : Carries o v1 := by
    unfold v1
    exact State.dropRef_carries h1
  clear_value v1
  extract_lets +onlyGivenNames v3
  have h4 : Carries o v3 := by
    unfold v3
    exact pIte (P := Carries o) (State.setHead_carries h2) h2
  clear_value v3
  exact pIte (P := Carries o) h4 (State.dropRef_carries h4)

theorem State.addRefs_carries {o : State} {s : State} {d : Droplet} (h1 : Carries o s) : Carries o (State.addRefs s d)
    := by
  unfold State.addRefs
  extract_lets +onlyGivenNames v1
  have h2 : Carries o v1 := by
    unfold v1
    exact State.addCount_carries h1
  clear_value v1
  exact pIte (P := Carries o) h2 (State.addCount_carries h2)

theorem State.storeFrame_carries {o : State} {s : State} {d : Droplet} {bs : List Byte} (h1 : Carries o s) : Carries o
    (State.storeFrame s d bs) := by
  unfold State.storeFrame
  extract_lets +onlyGivenNames v1
  have h2 : Carries o v1 := by
    unfold v1
    exact State.setHead_carries h1
  clear_value v1
  refine pIte (P := Carries o) ?_ ?_
  · exact h2
  · extract_lets +onlyGivenNames v3
    exact State.ipdReqs_carries (State.ipdWrite_carries h2)

/-! ### Record -/

theorem State.putRecord_carries {o s : State} {kind : Nat} {body : List Byte} (h : Carries o s) :
    Carries o (s.putRecord kind body) := by
  unfold State.putRecord
  refine State.bumpFld_carries (State.bump_carries (State.wr_carries (State.wr_carries ?_)))
  refine carriesUp h (fun h => h.stage) (fun h => ⟨?_, h.mem.shared, h.mem.scratch⟩) (fun h => h.host) (fun h =>
      h.fth)
  exact cellWrite_wf _ _ (cellWrite_wf _ _ h.mem.ipd)

theorem State.flushDec_carries {o : State} {s : State} (h1 : Carries o s) : Carries o (State.flushDec s) := by
  unfold State.flushDec
  refine pIte (P := Carries o) ?_ ?_
  · exact h1
  · extract_lets +onlyGivenNames v1
    extract_lets +onlyGivenNames v2
    extract_lets +onlyGivenNames v3
    have h4 : Carries o v3 := by
      unfold v3
      exact carriesMk h1 rfl rfl rfl rfl
    clear_value v3
    exact State.putRecord_carries h4

theorem State.logDecision_carries {o : State} {s : State} {t : Nat} {kind : Nat} {status : Nat} {obj : Nat} {value :
    Nat} (h1 : Carries o s) : Carries o (State.logDecision s t kind status obj value) := by
  unfold State.logDecision
  refine pIte (P := Carries o) ?_ ?_
  · exact h1
  · refine pIte (P := Carries o) ?_ ?_
    · exact State.bump_carries (carriesMk h1 rfl rfl rfl rfl)
    · extract_lets +onlyGivenNames v1
      extract_lets +onlyGivenNames v2
      exact State.flushDec_carries (carriesMk h1 rfl rfl rfl rfl)

theorem State.logFlagEvent_carries {o : State} {s : State} {t : Nat} {kind : Nat} {status : Nat} {obj : Nat} {word :
    W32} (h1 : Carries o s) : Carries o (State.logFlagEvent s t kind status obj word) := by
  unfold State.logFlagEvent
  exact State.logDecision_carries h1

theorem State.rplEvent_carries {o : State} {s : State} {n : Nat} (h1 : Carries o s) : Carries o (State.rplEvent s n)
    := by
  unfold State.rplEvent
  exact State.eventBit_carries h1

theorem State.startPost_carries {o : State} {s : State} {cause : Nat} (h1 : Carries o s) : Carries2 o (State.startPost
    s cause) := by
  unfold State.startPost
  refine pIte (P := Carries2 o) ?_ ?_
  · exact Carries2.mk h1
  · extract_lets +onlyGivenNames v1
    extract_lets +onlyGivenNames v2
    have h3 : Carries o v2 := by
      unfold v2
      exact carriesMk h1 rfl rfl rfl rfl
    clear_value v2
    exact Carries2.mk (State.rplEvent_carries (State.wr_carries h3))

theorem State.dryTrigger_carries {o : State} {s : State} {d : Droplet} {reason : Nat} (h1 : Carries o s) : Carries o
    (State.dryTrigger s d reason) := by
  unfold State.dryTrigger
  exact pIte (P := Carries o) (Carries2.snd (State.startPost_carries h1)) h1

theorem State.recordEnd_carries {o : State} {s : State} {d : Droplet} {outcome : Nat} {reason : Nat} {status : Nat}
    {crc : Nat} {reasons : List Nat} (h1 : Carries o s) : Carries o (State.recordEnd s d outcome reason status crc
    reasons) := by
  unfold State.recordEnd
  refine pIte (P := Carries o) ?_ ?_
  · exact h1
  · extract_lets +onlyGivenNames v1
    extract_lets +onlyGivenNames v2
    have h3 : Carries o v2 := by
      unfold v2
      exact carriesMk h1 rfl rfl rfl rfl
    clear_value v2
    refine pIte (P := Carries o) ?_ ?_
    · exact h3
    · extract_lets +onlyGivenNames v4
      extract_lets +onlyGivenNames v5
      exact State.putRecord_carries h3

theorem State.charge_carries {o : State} {s : State} (h1 : Carries o s) : Carries2 o (State.charge s) := by
  unfold State.charge
  extract_lets +onlyGivenNames v1
  refine pIte (P := Carries2 o) ?_ ?_
  · exact Carries2.mk (carriesMk h1 rfl rfl rfl rfl)
  · exact Carries2.mk (State.bump_carries h1)

theorem State.freeze_carries {o : State} {s : State} {cause : Nat} (h1 : Carries o s) : Carries2 o (State.freeze s
    cause) := by
  unfold State.freeze
  refine pIte (P := Carries2 o) ?_ ?_
  · exact Carries2.mk h1
  · extract_lets +onlyGivenNames v1
    extract_lets +onlyGivenNames v2
    have h3 : Carries o v2 := by
      unfold v2
      exact carriesMk h1 rfl rfl rfl rfl
    clear_value v2
    extract_lets +onlyGivenNames v4
    have h5 : Carries o v4 := by
      unfold v4
      exact State.putRecord_carries h3
    clear_value v4
    extract_lets +onlyGivenNames v6
    extract_lets +onlyGivenNames v7
    have h8 : Carries o v7 := by
      unfold v7
      exact carriesMk h5 rfl rfl rfl rfl
    clear_value v7
    extract_lets +onlyGivenNames v9
    have h10 : Carries o v9 := by
      unfold v9
      exact State.setAll_carries h8
    clear_value v9
    exact Carries2.mk (State.rplEvent_carries h10)

theorem State.mark_carries {o : State} {s : State} {selected : Bool} {d : Droplet} (h1 : Carries o s) : Carries2 o
    (State.mark s selected d) := by
  unfold State.mark
  exact pIte (P := Carries2 o) (Carries2.mk h1) (Carries2.mk (Carries2.snd (State.charge_carries h1)))

theorem State.recordAdmit_carries {o : State} {s : State} {d : Droplet} {staging : List Byte} (h1 : Carries o s) :
    Carries o (State.recordAdmit s d staging) := by
  unfold State.recordAdmit
  refine pIte (P := Carries o) ?_ ?_
  · exact h1
  · extract_lets +onlyGivenNames v1
    exact State.putRecord_carries h1

theorem postWindowEnd_carries {o : State} {s : State} {now : Nat} (h1 : Carries o s) : Carries o (postWindowEnd s now)
    := by
  unfold postWindowEnd
  extract_lets +onlyGivenNames v1
  have h2 : Carries o v1 := by
    unfold v1
    exact State.upTo_carries h1
  clear_value v1
  split
  · rename_i x3 x4 e5
    exact Carries2.snd (State.freeze_carries h2)
  · rename_i x6 e7
    exact h2

theorem freezePinEdge_carries {o : State} {s : State} {now : Nat} (h1 : Carries o s) : Carries o (freezePinEdge s now)
    := by
  unfold freezePinEdge
  exact Carries2.snd (State.freeze_carries (State.upTo_carries h1))

theorem recordBucketRefill_carries {o : State} {s : State} {now : Nat} (h1 : Carries o s) : Carries o
    (recordBucketRefill s now) := by
  unfold recordBucketRefill
  extract_lets +onlyGivenNames v1
  have h2 : Carries o v1 := by
    unfold v1
    exact State.upTo_carries h1
  clear_value v1
  extract_lets +onlyGivenNames v3
  exact carriesMk h2 rfl rfl rfl rfl

/-! ### Journey -/

theorem State.countDry_carries {o : State} {s : State} {reason : Nat} {n : Nat} (h1 : Carries o s) : Carries o
    (State.countDry s reason n) := by
  unfold State.countDry
  exact pIte (P := Carries o) h1 (State.bumpFld_carries h1)

theorem State.satBump_carries {o : State} {s : State} {f : Fld} {i : Nat} {n : Nat} (h1 : Carries o s) : Carries o
    (State.satBump s f i n) := by
  unfold State.satBump
  exact State.setFld_carries h1

theorem State.journeyEnd_carries {o : State} {s : State} {j : Nat} (h1 : Carries o s) : Carries o (State.journeyEnd s
    j) := by
  unfold State.journeyEnd
  extract_lets +onlyGivenNames v1
  refine pIte (P := Carries o) ?_ ?_
  · exact h1
  · extract_lets +onlyGivenNames v2
    extract_lets +onlyGivenNames v3
    have h4 : Carries o v3 := by
      unfold v3
      exact carriesMk h1 rfl rfl rfl rfl
    clear_value v3
    exact State.recordEnd_carries (State.dropVersion_carries h4)

theorem State.setJourney_carries {o : State} {s : State} {j : Nat} {v : Journey} (h1 : Carries o s) : Carries o
    (State.setJourney s j v) := by
  unfold State.setJourney
  exact carriesMk h1 rfl rfl rfl rfl

theorem State.copyEnds_carries {o : State} {s : State} {c : Copy} {reason : Nat} (h1 : Carries o s) : Carries o
    (State.copyEnds s c reason) := by
  unfold State.copyEnds
  extract_lets +onlyGivenNames v1
  have h2 : Carries o v1 := by
    unfold v1
    exact pIte (P := Carries o) (State.dropRefs_carries h1) (State.dropRefs_carries h1)
  clear_value v1
  split
  · rename_i x3 e4
    exact h2
  · rename_i x5 x6 e7
    exact State.journeyEnd_carries (State.setJourney_carries h2)

theorem State.dryCopy_carries {o : State} {s : State} {c : Copy} {reason : Nat} (h1 : Carries o s) : Carries o
    (State.dryCopy s c reason) := by
  unfold State.dryCopy
  extract_lets +onlyGivenNames v1
  have h2 : Carries o v1 := by
    unfold v1
    exact State.countDry_carries h1
  clear_value v1
  extract_lets +onlyGivenNames v3
  have h4 : Carries o v3 := by
    unfold v3
    refine pIte (P := Carries o) ?_ ?_
    · exact State.satBump_carries h2
    · exact pIte (P := Carries o) (State.satBump_carries h2) (State.bumpFld_carries h2)
  clear_value v3
  extract_lets +onlyGivenNames v5
  have h6 : Carries o v5 := by
    unfold v5
    exact pIte (P := Carries o) (State.eventSup_carries h4) h4
  clear_value v5
  exact State.dryTrigger_carries (State.copyEnds_carries h6)

theorem State.setHostCopies_carries {o : State} {s : State} {q : Nat} {l : List Copy} (h1 : Carries o s) : Carries o
    (State.setHostCopies s q l) := by
  unfold State.setHostCopies
  exact carriesMk h1 rfl rfl rfl rfl

theorem State.popCopy_carries {o : State} {s : State} {q : Nat} (h1 : Carries o s) : Carries2 o (State.popCopy s q) :=
    by
  unfold State.popCopy
  split
  · rename_i x1 e2
    exact Carries2.mk h1
  · rename_i x3 x4 x5 e6
    exact Carries2.mk (State.setHostCopies_carries h1)

theorem State.takeEntry_carries {o : State} {s : State} {q : Nat} {desc : Nat} (h1 : Carries o s) : Carries o
    (State.takeEntry s q desc) := by
  unfold State.takeEntry
  split
  · rename_i x1 s2 e3
    have h4 := Carries2.of (o := o) ?_ e3
    rotate_left
    · exact State.popCopy_carries h1
    exact h4
  · rename_i x5 x6 s7 e8
    have h9 := Carries2.of (o := o) ?_ e8
    rotate_left
    · exact State.popCopy_carries h1
    extract_lets +onlyGivenNames v10
    extract_lets +onlyGivenNames v11
    extract_lets +onlyGivenNames v12
    extract_lets +onlyGivenNames v13
    have h14 : Carries o v13 := by
      unfold v13
      exact carriesMk h9 rfl rfl rfl rfl
    clear_value v13
    split
    · rename_i x15 e16
      exact h14
    · rename_i x17 x18 e19
      exact State.journeyEnd_carries (State.setJourney_carries h14)

end Sys2Proof.Machine
end

