-- ==== Sys2Proof/Laws/CarryStream.lean ====
section
/-! SUPPORT. What the operations of Stream, Pump, Lockgate carry from state to state. -/

namespace Sys2Proof.Machine

open Sys2Proof

/-! ### Stream -/

theorem State.setGateRun_carries {o : State} {s : State} {sg : Bool} {i : Nat} {g : GateRun} (h1 : Carries o s) :
    Carries o (State.setGateRun s sg i g) := by
  unfold State.setGateRun
  exact carriesMk h1 rfl rfl rfl rfl

theorem State.streamGate_carries {o : State} {s : State} {g : Nat} {fresh : Bool} (h1 : Carries o s) : Carries o
    (State.streamGate s g fresh) := by
  unfold State.streamGate
  extract_lets +onlyGivenNames v1
  extract_lets +onlyGivenNames v2
  extract_lets +onlyGivenNames v3
  extract_lets +onlyGivenNames v4
  extract_lets +onlyGivenNames v5
  exact State.setAll_carries (State.setGateRun_carries h1)

theorem State.countOverrun_carries {o : State} {s : State} {p : Nat} {before : Nat} {after : Nat} (h1 : Carries o s) :
    Carries o (State.countOverrun s p before after) := by
  unfold State.countOverrun
  refine pFoldl (P := Carries o) ?_ ?_
  · exact h1
  · intro s1 x2 h3
    split
    · rename_i x4 e5
      exact h3
    · rename_i x6 x7 e8
      exact pIte (P := Carries o) (State.eventSup_carries (State.bump_carries h3)) h3

theorem State.portGates_carries {o : State} {s : State} {p : Nat} (h1 : Carries o s) : Carries o (State.portGates s p)
    := by
  unfold State.portGates
  extract_lets +onlyGivenNames v1
  refine pIte (P := Carries o) ?_ ?_
  · exact State.setAll_carries h1
  · extract_lets +onlyGivenNames v2
    extract_lets +onlyGivenNames v3
    extract_lets +onlyGivenNames v4
    exact State.countOverrun_carries (State.setAll_carries h1)

theorem State.installList_carries {o : State} {s : State} {sg : Bool} {i : Nat} {base : Nat} (h1 : Carries o s) :
    Carries o (State.installList s sg i base) := by
  unfold State.installList
  extract_lets +onlyGivenNames v1
  extract_lets +onlyGivenNames v2
  have h3 : Carries o v2 := by
    unfold v2
    exact State.setGateRun_carries h1
  clear_value v2
  extract_lets +onlyGivenNames v4
  have h5 : Carries o v4 := by
    unfold v4
    exact pIte (P := Carries o) (State.setAll_carries h3) (State.setAll_carries h3)
  clear_value v4
  exact pIte (P := Carries o) (State.streamGate_carries h5) (State.portGates_carries h5)

theorem State.latchMeter_carries {o : State} {s : State} {m : Nat} (h1 : Carries o s) : Carries o (State.latchMeter s
    m) := by
  unfold State.latchMeter
  refine pFoldl (P := Carries o) ?_ ?_
  · exact h1
  · intro s1 x2 h3
    exact State.setFld_carries h3

theorem State.setMeterBucket_carries {o : State} {s : State} {m : Nat} {n : Nat} {v : ℤ} (h1 : Carries o s) : Carries
    o (State.setMeterBucket s m n v) := by
  unfold State.setMeterBucket
  exact carriesMk h1 rfl rfl rfl rfl

theorem State.setSrfRun_carries {o : State} {s : State} {f : Nat} {r : SrfRun} (h1 : Carries o s) : Carries o
    (State.setSrfRun s f r) := by
  unfold State.setSrfRun
  exact carriesMk h1 rfl rfl rfl rfl

theorem State.srfPass_carries {o : State} {s : State} {f : Nat} {hist : Nat} {recov : Nat} (h1 : Carries o s) :
    Carries o (State.srfPass s f hist recov) := by
  unfold State.srfPass
  extract_lets +onlyGivenNames v1
  have h2 : Carries o v1 := by
    unfold v1
    exact State.setSrfRun_carries h1
  clear_value v1
  exact State.satBump_carries (State.setFld_carries h2)

theorem State.recover_carries {o : State} {s : State} {f : Nat} {n : Nat} (h1 : Carries o s) : Carries2 o
    (State.recover s f n) := by
  unfold State.recover
  extract_lets +onlyGivenNames v1
  extract_lets +onlyGivenNames v2
  extract_lets +onlyGivenNames v3
  refine pIte (P := Carries2 o) ?_ ?_
  · refine pIte (P := Carries2 o) ?_ ?_
    · exact Carries2.mk (State.srfPass_carries (State.setFld_carries h1))
    · exact Carries2.mk (State.satBump_carries h1)
  · refine pIte (P := Carries2 o) ?_ ?_
    · exact Carries2.mk (State.srfPass_carries (State.setFld_carries h1))
    · extract_lets +onlyGivenNames v4
      refine pIte (P := Carries2 o) ?_ ?_
      · exact Carries2.mk (State.satBump_carries (State.satBump_carries h1))
      · refine pIte (P := Carries2 o) ?_ ?_
        · extract_lets +onlyGivenNames v5
          extract_lets +onlyGivenNames v6
          have h7 : Carries o v6 := by
            unfold v6
            exact State.satBump_carries h1
          clear_value v6
          extract_lets +onlyGivenNames v8
          have h9 : Carries o v8 := by
            unfold v8
            exact pIte (P := Carries o) (State.satBump_carries h7) h7
          clear_value v8
          exact Carries2.mk (State.srfPass_carries h9)
        · extract_lets +onlyGivenNames v10
          refine pIte (P := Carries2 o) ?_ ?_
          · exact Carries2.mk (State.satBump_carries h1)
          · exact Carries2.mk (State.srfPass_carries (State.satBump_carries h1))

theorem State.streamRecover_carries {o : State} {s : State} {d : Droplet} (h1 : Carries o s) : Carries2 o
    (State.streamRecover s d) := by
  unfold State.streamRecover
  extract_lets +onlyGivenNames v1
  extract_lets +onlyGivenNames v2
  refine pIte (P := Carries2 o) ?_ ?_
  · exact Carries2.mk h1
  · refine pIte (P := Carries2 o) ?_ ?_
    · split
      · rename_i x3 x4 s5 e6
        have h7 := Carries2.of (o := o) ?_ e6
        rotate_left
        · exact State.recover_carries h1
        exact Carries2.mk h7
    · exact Carries2.mk h1

theorem State.streamSize_carries {o : State} {s : State} {f : Nat} {len : Nat} (h1 : Carries o s) : Carries2 o
    (State.streamSize s f len) := by
  unfold State.streamSize
  refine pIte (P := Carries2 o) ?_ ?_
  · exact Carries2.mk h1
  · extract_lets +onlyGivenNames v1
    refine pIte (P := Carries2 o) ?_ ?_
    · exact Carries2.mk h1
    · extract_lets +onlyGivenNames v2
      have h3 : Carries o v2 := by
        unfold v2
        exact State.satBump_carries h1
      clear_value v2
      exact Carries2.mk (pIte (P := Carries o) (State.eventSup_carries (State.setFld_carries h3)) h3)

theorem State.streamGateCheck_carries {o : State} {s : State} {f : Nat} {len : Nat} (h1 : Carries o s) : Carries2 o
    (State.streamGateCheck s f len) := by
  unfold State.streamGateCheck
  extract_lets +onlyGivenNames v1
  refine pIte (P := Carries2 o) ?_ ?_
  · exact Carries2.mk h1
  · refine pIte (P := Carries2 o) ?_ ?_
    · extract_lets +onlyGivenNames v2
      have h3 : Carries o v2 := by
        unfold v2
        exact State.satBump_carries h1
      clear_value v2
      exact Carries2.mk (pIte (P := Carries o) (State.eventSup_carries (State.setFld_carries h3)) h3)
    · extract_lets +onlyGivenNames v4
      extract_lets +onlyGivenNames v5
      refine pIte (P := Carries2 o) ?_ ?_
      · exact Carries2.mk (State.satBump_carries h1)
      · exact Carries2.mk (State.setGateRun_carries h1)

theorem State.meter_carries {o : State} {s : State} {m : Nat} {len : Nat} {colour : Nat} {dei : Bool} (h1 : Carries o
    s) : Carries2 o (State.meter s m len colour dei) := by
  unfold State.meter
  extract_lets +onlyGivenNames v1
  extract_lets +onlyGivenNames v2
  extract_lets +onlyGivenNames v3
  split
  · rename_i x4 x5 x6 x7 e8
    extract_lets +onlyGivenNames v9
    have h10 : Carries o v9 := by
      unfold v9
      exact State.setMeterBucket_carries (State.setMeterBucket_carries h1)
    clear_value v9
    exact Carries2.mk (State.satBump_carries h10)

theorem State.streamMeter_carries {o : State} {s : State} {d : Droplet} {len : Nat} {dei : Bool} (h1 : Carries o s) :
    Carries3 o (State.streamMeter s d len dei) := by
  unfold State.streamMeter
  extract_lets +onlyGivenNames v1
  refine pIte (P := Carries3 o) ?_ ?_
  · exact Carries3.mk h1
  · extract_lets +onlyGivenNames v2
    split
    · rename_i x3 x4 s5 e6
      have h7 := Carries2.of (o := o) ?_ e6
      rotate_left
      · exact State.meter_carries h1
      extract_lets +onlyGivenNames v8
      have h9 : Carries o v8 := by
        unfold v8
        exact pIte (P := Carries o) (State.satBump_carries h7) h7
      clear_value v8
      exact Carries3.mk h9

theorem State.streamGenerate_carries {o : State} {s : State} {d : Droplet} (h1 : Carries o s) : Carries2 o
    (State.streamGenerate s d) := by
  unfold State.streamGenerate
  extract_lets +onlyGivenNames v1
  extract_lets +onlyGivenNames v2
  extract_lets +onlyGivenNames v3
  refine pIte (P := Carries2 o) ?_ ?_
  · exact Carries2.mk h1
  · extract_lets +onlyGivenNames v4
    exact Carries2.mk (State.satBump_carries (State.setFld_carries h1))

theorem State.streamStage_carries {o : State} {s : State} {d : Droplet} {len : Nat} {dei : Bool} (h1 : Carries o s) :
    Carries2 o (State.streamStage s d len dei) := by
  unfold State.streamStage
  extract_lets +onlyGivenNames v1
  extract_lets +onlyGivenNames v2
  refine pIte (P := Carries2 o) ?_ ?_
  · exact Carries2.mk h1
  · extract_lets +onlyGivenNames v3
    have h4 : Carries o v3 := by
      unfold v3
      exact State.satBump_carries h1
    clear_value v3
    split
    · rename_i x5 s6 e7
      have h8 := Carries2.of (o := o) ?_ e7
      rotate_left
      · exact State.streamRecover_carries h4
      split
      · rename_i x9 s10 e11
        have h12 := Carries2.of (o := o) ?_ e11
        rotate_left
        · exact State.streamSize_carries h8
        split
        · rename_i x13 s14 e15
          have h16 := Carries2.of (o := o) ?_ e15
          rotate_left
          · exact State.streamGateCheck_carries h12
          split
          · rename_i x17 x18 s19 e20
            have h21 := Carries3.of (o := o) ?_ e20
            rotate_left
            · exact State.streamMeter_carries h16
            exact State.streamGenerate_carries (State.satBump_carries h21)
          · rename_i x22 x23 x24 s25 e26 e27
            have h28 := Carries3.of (o := o) ?_ e27
            rotate_left
            · exact State.streamMeter_carries h16
            exact Carries2.mk h28
        · rename_i x29 x30 s31 e32 e33
          have h34 := Carries2.of (o := o) ?_ e33
          rotate_left
          · exact State.streamGateCheck_carries h12
          exact Carries2.mk h34
      · rename_i x35 x36 s37 e38 e39
        have h40 := Carries2.of (o := o) ?_ e39
        rotate_left
        · exact State.streamSize_carries h8
        exact Carries2.mk h40
    · rename_i x41 x42 s43 e44 e45
      have h46 := Carries2.of (o := o) ?_ e45
      rotate_left
      · exact State.streamRecover_carries h4
      exact Carries2.mk h46

theorem State.configChange_carries {o : State} {s : State} {sg : Bool} {i : Nat} (h1 : Carries o s) : Carries o
    (State.configChange s sg i) := by
  unfold State.configChange
  extract_lets +onlyGivenNames v1
  exact pIte (P := Carries o) (State.setAll_carries h1) (State.setAll_carries h1)

theorem State.meterRefillOne_carries {o : State} {s : State} {m : Nat} (h1 : Carries o s) : Carries o
    (State.meterRefillOne s m) := by
  unfold State.meterRefillOne
  extract_lets +onlyGivenNames v1
  have h2 : Carries o v1 := by
    unfold v1
    exact State.latchMeter_carries h1
  clear_value v1
  extract_lets +onlyGivenNames v3
  extract_lets +onlyGivenNames v4
  exact State.setMeterBucket_carries (State.setMeterBucket_carries h2)

theorem meterRefill_carries {o : State} {s : State} {now : Nat} (h1 : Carries o s) : Carries o (meterRefill s now) :=
    by
  unfold meterRefill
  extract_lets +onlyGivenNames v1
  have h2 : Carries o v1 := by
    unfold v1
    exact State.upTo_carries h1
  clear_value v1
  refine pIte (P := Carries o) ?_ ?_
  · exact h2
  · refine pFoldl (P := Carries o) ?_ ?_
    · exact h2
    · intro s3 x4 h5
      exact State.meterRefillOne_carries h5

theorem gateEvent_carries {o : State} {s : State} {now : Nat} {sg : Bool} {i : Nat} (h1 : Carries o s) : Carries o
    (gateEvent s now sg i) := by
  unfold gateEvent
  extract_lets +onlyGivenNames v1
  have h2 : Carries o v1 := by
    unfold v1
    exact State.upTo_carries h1
  clear_value v1
  refine pIte (P := Carries o) ?_ ?_
  · exact h2
  · refine pIte (P := Carries o) ?_ ?_
    · exact State.streamGate_carries h2
    · exact pIte (P := Carries o) (State.portGates_carries h2) h2

theorem gclConfigSwap_carries {o : State} {s : State} {now : Nat} {sg : Bool} {i : Nat} (h1 : Carries o s) : Carries o
    (gclConfigSwap s now sg i) := by
  unfold gclConfigSwap
  extract_lets +onlyGivenNames v1
  have h2 : Carries o v1 := by
    unfold v1
    exact State.upTo_carries h1
  clear_value v1
  refine pIte (P := Carries o) ?_ ?_
  · exact h2
  · split
    · rename_i x3 e4
      exact h2
    · rename_i x5 x6 x7 e8
      exact pIte (P := Carries o) h2 (State.eventSup_carries (State.installList_carries h2))

theorem srfResetTimeout_carries {o : State} {s : State} {now : Nat} {f : Nat} (h1 : Carries o s) : Carries o
    (srfResetTimeout s now f) := by
  unfold srfResetTimeout
  extract_lets +onlyGivenNames v1
  have h2 : Carries o v1 := by
    unfold v1
    exact State.upTo_carries h1
  clear_value v1
  split
  · rename_i x3 e4
    exact h2
  · rename_i x5 x6 e7
    refine pIte (P := Carries o) ?_ ?_
    · exact h2
    · extract_lets +onlyGivenNames v8
      extract_lets +onlyGivenNames v9
      have h10 : Carries o v9 := by
        unfold v9
        exact State.setFld_carries (State.setSrfRun_carries h2)
      clear_value v9
      exact State.eventSup_carries (State.satBump_carries h10)

/-! ### Pump -/

theorem State.setReady_carries {o : State} {s : State} {l : Nat} {q : List Nat} (h1 : Carries o s) : Carries o
    (State.setReady s l q) := by
  unfold State.setReady
  exact carriesMk h1 rfl rfl rfl rfl

theorem State.setDesc_carries {o : State} {s : State} {d : Nat} {v : Desc} (h1 : Carries o s) : Carries o
    (State.setDesc s d v) := by
  unfold State.setDesc
  exact carriesMk h1 rfl rfl rfl rfl

theorem State.makeReady_carries {o : State} {s : State} {d : Nat} {head : Bool} (h1 : Carries o s) : Carries o
    (State.makeReady s d head) := by
  unfold State.makeReady
  extract_lets +onlyGivenNames v1
  extract_lets +onlyGivenNames v2
  exact State.setReady_carries (State.setDesc_carries h1)

theorem State.unready_carries {o : State} {s : State} {d : Nat} (h1 : Carries o s) : Carries o (State.unready s d) :=
    by
  unfold State.unready
  exact carriesMk h1 rfl rfl rfl rfl

theorem State.setEff_carries {o : State} {s : State} {d : Nat} (h1 : Carries o s) : Carries o (State.setEff s d) := by
  unfold State.setEff
  extract_lets +onlyGivenNames v1
  extract_lets +onlyGivenNames v2
  refine pIte (P := Carries o) ?_ ?_
  · exact h1
  · refine pIte (P := Carries o) ?_ ?_
    · exact State.makeReady_carries (State.setDesc_carries (State.unready_carries h1))
    · exact State.setDesc_carries h1

theorem State.signalDesc_carries {o : State} {s : State} {d : Nat} {level : Option Nat} (h1 : Carries o s) : Carries o
    (State.signalDesc s d level) := by
  unfold State.signalDesc
  exact State.setEff_carries (State.setDesc_carries h1)

theorem State.undelay_carries {o : State} {s : State} {d : Nat} (h1 : Carries o s) : Carries o (State.undelay s d) :=
    by
  unfold State.undelay
  exact carriesMk h1 rfl rfl rfl rfl

theorem State.endDescWait_carries {o : State} {s : State} {d : Nat} {u : Nat} {given : List (Nat × W32)} {st : Nat}
    (h1 : Carries o s) : Carries o (State.endDescWait s d u given st) := by
  unfold State.endDescWait
  extract_lets +onlyGivenNames v1
  have h2 : Carries o v1 := by
    unfold v1
    exact State.undelay_carries h1
  clear_value v1
  split
  · rename_i x3 x4 s5 e6
    have h7 := Carries2.of (o := o) ?_ e6
    rotate_left
    · exact State.opPorts_carries h2
    extract_lets +onlyGivenNames v8
    extract_lets +onlyGivenNames v9
    extract_lets +onlyGivenNames v10
    extract_lets +onlyGivenNames v11
    have h12 : Carries o v11 := by
      unfold v11
      exact State.setDesc_carries h7
    clear_value v11
    exact pIte (P := Carries o) (State.makeReady_carries h12) (State.setDesc_carries h12)

theorem State.setCe_carries {o : State} {s : State} {c : Nat} {v : CeSt} (h1 : Carries o s) : Carries o (State.setCe s
    c v) := by
  unfold State.setCe
  exact carriesMk h1 rfl rfl rfl rfl

theorem State.startDesc_carries {o : State} {s : State} {d : Nat} (h1 : Carries o s) : Carries o (State.startDesc s d)
    := by
  unfold State.startDesc
  extract_lets +onlyGivenNames v1
  exact State.makeReady_carries (State.setDesc_carries h1)

theorem State.loadContext_carries {o : State} {s : State} {d : Nat} (h1 : Carries o s) : Carries2 o (State.loadContext
    s d) := by
  unfold State.loadContext
  extract_lets +onlyGivenNames v1
  split
  · rename_i x2 x3 x4 s5 e6
    have h7 := Carries3.of (o := o) ?_ e6
    rotate_left
    · exact State.ctrlRead_carries h1
    split
    · rename_i x8 x9 x10 s11 e12
      have h13 := Carries3.of (o := o) ?_ e12
      rotate_left
      · exact State.ctrlRead_carries h7
      split
      · rename_i x14 x15 x16 s17 e18
        have h19 := Carries3.of (o := o) ?_ e18
        rotate_left
        · exact State.ctrlRead_carries h13
        exact Carries2.mk h19

theorem State.runOn_carries {o : State} {s : State} {c : Nat} {d : Nat} (h1 : Carries o s) : Carries o (State.runOn s
    c d) := by
  unfold State.runOn
  split
  · rename_i x1 x2 s3 e4
    have h5 := Carries2.of (o := o) ?_ e4
    rotate_left
    · exact State.loadContext_carries h1
    extract_lets +onlyGivenNames v6
    extract_lets +onlyGivenNames v7
    have h8 : Carries o v7 := by
      unfold v7
      exact State.setDesc_carries h5
    clear_value v7
    exact State.bump_carries (State.setCe_carries (State.setThread_carries h8))

theorem State.drainOp_carries {o : State} {s : State} {t : Nat} {u : Nat} {a3 : UnitOp} (h1 : Carries o s) : Carries o
    (State.drainOp s t u a3) := by
  unfold State.drainOp
  refine pIte (P := Carries o) ?_ ?_
  · exact State.completeOp_carries h1
  · refine pIte (P := Carries o) ?_ ?_
    · exact State.completeOp_carries (State.hurryAlloc_carries h1)
    · refine pIte (P := Carries o) ?_ ?_
      · exact State.completeOp_carries (State.hurryFree_carries h1)
      · refine pIte (P := Carries o) ?_ ?_
        · split
          · rename_i x1 x2 x3 x4 e5 e6
            extract_lets +onlyGivenNames v7
            extract_lets +onlyGivenNames v8
            extract_lets +onlyGivenNames v9
            extract_lets +onlyGivenNames v10
            have h11 : Carries o v10 := by
              unfold v10
              exact State.setCache_carries h1
            clear_value v10
            extract_lets +onlyGivenNames v12
            have h13 : Carries o v12 := by
              unfold v12
              refine pIte (P := Carries o) ?_ ?_
              · exact h11
              · split
                · rename_i x14 x15 s16 e17
                  have h18 := Carries2.of (o := o) ?_ e17
                  rotate_left
                  · exact State.fetchLine_carries h11
                  exact State.install_carries h18
            clear_value v12
            split
            · rename_i x19 x20 x21 s22 e23
              have h24 := Carries2.of (o := o) ?_ e23
              rotate_left
              · exact State.lineAccess_carries h13
              exact State.completeOp_carries (State.endWait_carries h24)
          · rename_i x25 x26 e27
            exact State.completeOp_carries (State.endWait_carries h1)
        · exact h1

theorem State.drainOps_carries {o : State} {s : State} {t : Nat} (h1 : Carries o s) : Carries o (State.drainOps s t)
    := by
  unfold State.drainOps
  refine pFoldl (P := Carries o) ?_ ?_
  · exact h1
  · intro s1 x2 h3
    exact State.drainOp_carries h3

theorem State.saveContext_carries {o : State} {s : State} {d : Nat} {th : Thr} (h1 : Carries o s) : Carries o
    (State.saveContext s d th) := by
  unfold State.saveContext
  extract_lets +onlyGivenNames v1
  extract_lets +onlyGivenNames v2
  extract_lets +onlyGivenNames v3
  have h4 : Carries o v3 := by
    unfold v3
    refine pFoldl (P := Carries o) ?_ ?_
    · exact h1
    · intro s5 x6 h7
      exact State.ctrlWrite_carries h7
  clear_value v3
  exact State.setDesc_carries h4

theorem State.leaveCe_carries {o : State} {s : State} {c : Nat} (h1 : Carries o s) : Carries o (State.leaveCe s c) :=
    by
  unfold State.leaveCe
  extract_lets +onlyGivenNames v1
  extract_lets +onlyGivenNames v2
  have h3 : Carries o v2 := by
    unfold v2
    exact State.drainOps_carries h1
  clear_value v2
  extract_lets +onlyGivenNames v4
  have h5 : Carries o v4 := by
    unfold v4
    exact State.saveContext_carries h3
  clear_value v4
  exact State.setCe_carries (State.setThread_carries h5)

theorem State.select_carries {o : State} {s : State} {c : Nat} (h1 : Carries o s) : Carries o (State.select s c) := by
  unfold State.select
  split
  · rename_i x1 e2
    exact h1
  · rename_i x3 x4 e5
    extract_lets +onlyGivenNames v6
    extract_lets +onlyGivenNames v7
    exact State.runOn_carries (State.unready_carries h1)

theorem State.scheduleOne_carries {o : State} {s : State} (h1 : Carries o s) : Carries o (State.scheduleOne s) := by
  unfold State.scheduleOne
  split
  · rename_i x1 e2
    exact h1
  · rename_i x3 x4 e5
    split
    · rename_i x6 x7 x8 e9
      extract_lets +onlyGivenNames v10
      extract_lets +onlyGivenNames v11
      exact State.runOn_carries (State.unready_carries h1)
    · rename_i x12 e13
      split
      · rename_i x14 e15
        exact h1
      · rename_i x16 x17 e18
        extract_lets +onlyGivenNames v19
        refine pIte (P := Carries o) ?_ ?_
        · extract_lets +onlyGivenNames v20
          have h21 : Carries o v20 := by
            unfold v20
            exact State.bump_carries (State.leaveCe_carries h1)
          clear_value v20
          exact State.select_carries (State.makeReady_carries h21)
        · exact h1

theorem State.schedule_carries {o : State} {s : State} (h1 : Carries o s) : Carries o (State.schedule s) := by
  unfold State.schedule
  refine pIte (P := Carries o) ?_ ?_
  · exact h1
  · refine pFoldl (P := Carries o) ?_ ?_
    · exact h1
    · intro s1 x2 h3
      exact State.scheduleOne_carries h3

theorem State.post_carries {o : State} {s : State} {d : Nat} {flags : Nat} (h1 : Carries o s) : Carries o (State.post
    s d flags) := by
  unfold State.post
  refine pIte (P := Carries o) ?_ ?_
  · exact h1
  · extract_lets +onlyGivenNames v1
    extract_lets +onlyGivenNames v2
    have h3 : Carries o v2 := by
      unfold v2
      exact carriesMk h1 rfl rfl rfl rfl
    exact pIte (P := Carries o) (State.eventSup_carries h3) h3

theorem State.postHeld_carries {o : State} {s : State} {d : Nat} {flags : Nat} (h1 : Carries o s) : Carries o
    (State.postHeld s d flags) := by
  unfold State.postHeld
  exact pIte (P := Carries o) (carriesMk h1 rfl rfl rfl rfl) (State.post_carries h1)

theorem State.blockCe_carries {o : State} {s : State} {c : Nat} {kind : Nat} {mask : Nat} (h1 : Carries o s) : Carries
    o (State.blockCe s c kind mask) := by
  unfold State.blockCe
  extract_lets +onlyGivenNames v1
  extract_lets +onlyGivenNames v2
  extract_lets +onlyGivenNames v3
  have h4 : Carries o v3 := by
    unfold v3
    exact State.leaveCe_carries h1
  clear_value v3
  extract_lets +onlyGivenNames v5
  extract_lets +onlyGivenNames v6
  have h7 : Carries o v6 := by
    unfold v6
    exact State.setDesc_carries h4
  clear_value v6
  extract_lets +onlyGivenNames v8
  extract_lets +onlyGivenNames v9
  have h10 : Carries o v9 := by
    unfold v9
    exact pIte (P := Carries o) h7 (carriesMk h7 rfl rfl rfl rfl)
  clear_value v9
  exact State.select_carries h10

theorem State.stopCe_carries {o : State} {s : State} {c : Nat} (h1 : Carries o s) : Carries o (State.stopCe s c) := by
  unfold State.stopCe
  extract_lets +onlyGivenNames v1
  extract_lets +onlyGivenNames v2
  have h3 : Carries o v2 := by
    unfold v2
    exact State.leaveCe_carries h1
  clear_value v2
  extract_lets +onlyGivenNames v4
  extract_lets +onlyGivenNames v5
  extract_lets +onlyGivenNames v6
  have h7 : Carries o v6 := by
    unfold v6
    exact State.setCe_carries (State.setDesc_carries h3)
  clear_value v6
  exact State.eventSup_carries h7

theorem State.ceFault_carries {o : State} {s : State} {c : Nat} {cause : Nat} {pc : Nat} {fva : Nat} (h1 : Carries o
    s) : Carries o (State.ceFault s c cause pc fva) := by
  unfold State.ceFault
  extract_lets +onlyGivenNames v1
  exact pIte (P := Carries o) (State.stopCe_carries h1) (State.updThread_carries h1)

theorem State.restoreCeContexts_carries {o : State} {s : State} (h1 : Carries o s) : Carries o
    (State.restoreCeContexts s) := by
  unfold State.restoreCeContexts
  exact State.schedule_carries h1

theorem State.endFlagWait_carries {o : State} {s : State} {d : Nat} (h1 : Carries o s) : Carries o (State.endFlagWait
    s d) := by
  unfold State.endFlagWait
  extract_lets +onlyGivenNames v1
  extract_lets +onlyGivenNames v2
  exact pIte (P := Carries o) (State.endDescWait_carries (State.setDesc_carries h1)) h1

theorem State.saveCeContexts_carries {o : State} {s : State} (h1 : Carries o s) : Carries o (State.saveCeContexts s)
    := by
  unfold State.saveCeContexts
  refine pFoldl (P := Carries o) ?_ ?_
  · exact h1
  · intro s1 x2 h3
    extract_lets +onlyGivenNames v4
    exact State.makeReady_carries (State.leaveCe_carries h3)

theorem State.restCes_carries {o : State} {s : State} (h1 : Carries o s) : Carries o (State.restCes s) := by
  unfold State.restCes
  refine State.schedule_carries ?_
  refine pFoldl (P := Carries o) ?_ ?_
  · exact h1
  · intro s1 x2 h3
    extract_lets +onlyGivenNames v4
    exact State.makeReady_carries (State.leaveCe_carries h3)

theorem postFifoTake_carries {o : State} {s : State} (h1 : Carries o s) : Carries o (postFifoTake s) := by
  unfold postFifoTake
  split
  · rename_i x1 e2
    exact h1
  · rename_i x3 x4 x5 x6 e7
    extract_lets +onlyGivenNames v8
    extract_lets +onlyGivenNames v9
    have h10 : Carries o v9 := by
      unfold v9
      exact carriesMk h1 rfl rfl rfl rfl
    extract_lets +onlyGivenNames v11
    refine pIte (P := Carries o) ?_ ?_
    · exact State.eventSup_carries (State.bump_carries h10)
    · extract_lets +onlyGivenNames v12
      have h13 : Carries o v12 := by
        unfold v12
        exact State.bump_carries (State.setDesc_carries h10)
      clear_value v12
      exact State.schedule_carries (pIte (P := Carries o) h13 (State.endFlagWait_carries h13))

/-! ### Lockgate -/

theorem State.signalHolder_carries {o : State} {s : State} {r : Nat} (h1 : Carries o s) : Carries o
    (State.signalHolder s r) := by
  unfold State.signalHolder
  extract_lets +onlyGivenNames v1
  extract_lets +onlyGivenNames v2
  refine pIte (P := Carries o) ?_ ?_
  · exact carriesMk h1 rfl rfl rfl rfl
  · exact pIte (P := Carries o) (pIte (P := Carries o) h1 (State.signalDesc_carries h1)) h1

theorem State.walk_carries {o : State} {a : State} {a1 : Nat} {a2 : Nat} {a3 : List Nat} (h1 : Carries o a) : Carries
    o (State.walk a a1 a2 a3) := by
  induction a1 generalizing a a2 a3
  · unfold State.walk
    exact pIte (P := Carries o) (State.bump_carries h1) h1
  · rename_i n1 ih2
    unfold State.walk
    split
    · rename_i x1 e2
      exact h1
    · rename_i x3 x4 e5
      extract_lets +onlyGivenNames v6
      have h7 : Carries o v6 := by
        unfold v6
        exact State.signalHolder_carries h1
      clear_value v6
      split
      · rename_i x8 e9
        exact h7
      · rename_i x10 x11 e12
        refine pIte (P := Carries o) ?_ ?_
        · exact State.eventSup_carries (State.bump_carries h7)
        · apply ih2
          exact h7

theorem State.rechain_carries {o : State} {s : State} {m : Nat} (h1 : Carries o s) : Carries o (State.rechain s m) :=
    by
  unfold State.rechain
  exact pIte (P := Carries o) h1 (State.walk_carries h1)

theorem State.rechainFrom_carries {o : State} {s : State} {r : Nat} (h1 : Carries o s) : Carries o (State.rechainFrom
    s r) := by
  unfold State.rechainFrom
  extract_lets +onlyGivenNames v1
  have h2 : Carries o v1 := by
    unfold v1
    exact State.signalHolder_carries h1
  clear_value v1
  split
  · rename_i x3 e4
    exact h2
  · rename_i x5 x6 e7
    exact State.rechain_carries h2

theorem State.setLock_carries {o : State} {s : State} {l : Nat} {v : Lock} (h1 : Carries o s) : Carries o
    (State.setLock s l v) := by
  unfold State.setLock
  exact carriesMk h1 rfl rfl rfl rfl

theorem State.hostLockDone_carries {o : State} {s : State} {p : Nat} {st : Nat} {value : Nat} (h1 : Carries o s) :
    Carries o (State.hostLockDone s p st value) := by
  unfold State.hostLockDone
  exact State.event_carries (State.setAll_carries h1)

theorem State.endLockWait_carries {o : State} {s : State} {l : Nat} {r : Nat} {st : Nat} (h1 : Carries o s) : Carries
    o (State.endLockWait s l r st) := by
  unfold State.endLockWait
  extract_lets +onlyGivenNames v1
  have h2 : Carries o v1 := by
    unfold v1
    exact pIte (P := Carries o) (State.bump_carries h1) h1
  clear_value v1
  refine pIte (P := Carries o) ?_ ?_
  · extract_lets +onlyGivenNames v3
    have h4 : Carries o v3 := by
      unfold v3
      exact State.endWait_carries h2
    clear_value v3
    extract_lets +onlyGivenNames v5
    exact State.logFlagEvent_carries (State.setEvent_carries h4)
  · refine pIte (P := Carries o) ?_ ?_
    · extract_lets +onlyGivenNames v6
      extract_lets +onlyGivenNames v7
      extract_lets +onlyGivenNames v8
      have h9 : Carries o v8 := by
        unfold v8
        exact State.setDesc_carries h2
      clear_value v8
      exact State.endDescWait_carries h9
    · exact State.hostLockDone_carries h2

theorem State.grant_carries {o : State} {a : State} {a1 : Nat} {a2 : Nat} (h1 : Carries o a) : Carries o (State.grant
    a a1 a2) := by
  induction a1 generalizing a a2
  · unfold State.grant
    exact h1
  · rename_i n1 ih2
    unfold State.grant
    extract_lets +onlyGivenNames v1
    split
    · rename_i x2 e3
      exact h1
    · rename_i x4 x5 x6 e7
      refine pIte (P := Carries o) ?_ ?_
      · refine pIte (P := Carries o) ?_ ?_
        · exact h1
        · extract_lets +onlyGivenNames v8
          have h9 : Carries o v8 := by
            unfold v8
            exact State.bump_carries (State.setLock_carries h1)
          clear_value v8
          apply ih2
          exact State.endLockWait_carries h9
      · refine pIte (P := Carries o) ?_ ?_
        · exact h1
        · extract_lets +onlyGivenNames v10
          extract_lets +onlyGivenNames v11
          have h12 : Carries o v11 := by
            unfold v11
            exact State.bump_carries (State.setLock_carries h1)
          clear_value v11
          exact State.rechain_carries (State.endLockWait_carries h12)

theorem State.grantAll_carries {o : State} {s : State} {l : Nat} (h1 : Carries o s) : Carries o (State.grantAll s l)
    := by
  unfold State.grantAll
  exact State.grant_carries h1

theorem State.abandon_carries {o : State} {s : State} {l : Nat} (h1 : Carries o s) : Carries o (State.abandon s l) :=
    by
  unfold State.abandon
  extract_lets +onlyGivenNames v1
  split
  · rename_i x2 e3
    exact h1
  · rename_i x4 x5 e6
    extract_lets +onlyGivenNames v7
    have h8 : Carries o v7 := by
      unfold v7
      exact State.rechainFrom_carries (State.setLock_carries h1)
    clear_value v7
    extract_lets +onlyGivenNames v9
    have h10 : Carries o v9 := by
      unfold v9
      exact State.bump_carries (State.grantAll_carries h8)
    clear_value v9
    exact State.eventSup_carries h10

theorem State.acquire_carries {o : State} {s : State} {l : Nat} {r : Nat} {n : Nat} {prio : Nat} {try_ : Bool} {limit
    : Option Nat} (h1 : Carries o s) : Carries2 o (State.acquire s l r n prio try_ limit) := by
  unfold State.acquire
  extract_lets +onlyGivenNames v1
  refine pIte (P := Carries2 o) ?_ ?_
  · exact Carries2.mk h1
  · refine pIte (P := Carries2 o) ?_ ?_
    · exact Carries2.mk (State.bump_carries h1)
    · refine pIte (P := Carries2 o) ?_ ?_
      · exact Carries2.mk h1
      · refine pIte (P := Carries2 o) ?_ ?_
        · exact Carries2.mk (State.bump_carries (State.setLock_carries h1))
        · refine pIte (P := Carries2 o) ?_ ?_
          · extract_lets +onlyGivenNames v2
            have h3 : Carries o v2 := by
              unfold v2
              exact State.bump_carries (State.setLock_carries h1)
            clear_value v2
            exact Carries2.mk (State.rechain_carries h3)
          · refine pIte (P := Carries2 o) ?_ ?_
            · exact Carries2.mk h1
            · extract_lets +onlyGivenNames v4
              extract_lets +onlyGivenNames v5
              have h6 : Carries o v5 := by
                unfold v5
                exact State.bump_carries (State.setLock_carries h1)
              clear_value v5
              exact Carries2.mk (State.rechain_carries h6)

theorem State.leaveQueue_carries {o : State} {s : State} {l : Nat} {r : Nat} (h1 : Carries o s) : Carries o
    (State.leaveQueue s l r) := by
  unfold State.leaveQueue
  extract_lets +onlyGivenNames v1
  exact State.grantAll_carries (State.rechain_carries (State.setLock_carries h1))

theorem State.loseRequester_carries {o : State} {s : State} {r : Nat} (h1 : Carries o s) : Carries o
    (State.loseRequester s r) := by
  unfold State.loseRequester
  extract_lets +onlyGivenNames v1
  have h2 : Carries o v1 := by
    unfold v1
    split
    · rename_i x3 e4
      exact h1
    · rename_i x5 x6 e7
      exact State.leaveQueue_carries h1
  clear_value v1
  refine pFoldl (P := Carries o) ?_ ?_
  · exact h2
  · intro s8 x9 h10
    exact State.abandon_carries h10

theorem lkAcquire_carries {o : State} {s : State} {t : Nat} {x : Nat} {try_ : Bool} (h1 : Carries o s) : Carries1 o
    (lkAcquire s t x try_) := by
  unfold lkAcquire
  extract_lets +onlyGivenNames v1
  extract_lets +onlyGivenNames v2
  extract_lets +onlyGivenNames v3
  split
  · rename_i x4 x5 s6 e7
    have h8 := Carries2.of (o := o) ?_ e7
    rotate_left
    · exact State.acquire_carries h1
    split
    · rename_i x9
      have h10 := Carries2.of (o := o) ?_ e7
      rotate_left
      · exact State.acquire_carries h1
      exact Carries1.mk (State.putOp_carries h8)
    · rename_i x11 x12
      have h13 := Carries2.of (o := o) ?_ e7
      rotate_left
      · exact State.acquire_carries h1
      extract_lets +onlyGivenNames v14
      have h15 : Carries o v14 := by
        unfold v14
        exact pIte (P := Carries o) (State.setEvent_carries h8) h8
      clear_value v14
      exact Carries1.mk (State.startOp_carries h15)

theorem State.release_carries {o : State} {s : State} {l : Nat} {r : Nat} {n : Nat} (h1 : Carries o s) : Carries2 o
    (State.release s l r n) := by
  unfold State.release
  extract_lets +onlyGivenNames v1
  refine pIte (P := Carries2 o) ?_ ?_
  · refine pIte (P := Carries2 o) ?_ ?_
    · exact Carries2.mk (State.bump_carries h1)
    · refine pIte (P := Carries2 o) ?_ ?_
      · exact Carries2.mk h1
      · refine pIte (P := Carries2 o) ?_ ?_
        · exact Carries2.mk h1
        · exact Carries2.mk (State.grantAll_carries (State.setLock_carries h1))
  · refine pIte (P := Carries2 o) ?_ ?_
    · exact Carries2.mk (State.grantAll_carries (State.rechainFrom_carries (State.setLock_carries h1)))
    · exact Carries2.mk (State.bump_carries h1)

theorem lkRelease_carries {o : State} {s : State} {t : Nat} {x : Nat} (h1 : Carries o s) : Carries1 o (lkRelease s t
    x) := by
  unfold lkRelease
  extract_lets +onlyGivenNames v1
  split
  · rename_i x2 x3 s4 e5
    have h6 := Carries2.of (o := o) ?_ e5
    rotate_left
    · exact State.release_carries h1
    exact Carries1.mk (State.startOp_carries h6)

theorem lkCancel_carries {o : State} {s : State} {t : Nat} (h1 : Carries o s) : Carries1 o (lkCancel s t) := by
  unfold lkCancel
  split
  · rename_i x1 e2
    exact Carries1.mk (State.startOp_carries h1)
  · rename_i x3 x4 e5
    extract_lets +onlyGivenNames v6
    have h7 : Carries o v6 := by
      unfold v6
      exact State.endLockWait_carries (State.leaveQueue_carries h1)
    clear_value v6
    exact Carries1.mk (State.startOp_carries h7)

theorem lkQuery_carries {o : State} {s : State} {t : Nat} {x : Nat} (h1 : Carries o s) : Carries1 o (lkQuery s t x) :=
    by
  unfold lkQuery
  extract_lets +onlyGivenNames v1
  refine pIte (P := Carries1 o) ?_ ?_
  · exact Carries1.mk (State.startOp_carries (State.bump_carries h1))
  · exact Carries1.mk (State.startOp_carries h1)

theorem State.forceLock_carries {o : State} {s : State} {l : Nat} (h1 : Carries o s) : Carries2 o (State.forceLock s
    l) := by
  unfold State.forceLock
  refine pIte (P := Carries2 o) ?_ ?_
  · exact Carries2.mk h1
  · split
    · rename_i x1 e2
      exact Carries2.mk h1
    · rename_i x3 x4 e5
      extract_lets +onlyGivenNames v6
      have h7 : Carries o v6 := by
        unfold v6
        split
        · rename_i x8 e9
          exact h1
        · rename_i x10 x11 e12
          exact State.endLockWait_carries (State.leaveQueue_carries h1)
      clear_value v6
      extract_lets +onlyGivenNames v13
      have h14 : Carries o v13 := by
        unfold v13
        exact State.bump_carries (State.abandon_carries h7)
      clear_value v13
      exact Carries2.mk (State.eventSup_carries h14)

theorem lkpForce_carries {o : State} {s : State} {c : Nat} {x : Nat} (h1 : Carries o s) : Carries1 o (lkpForce s c x)
    := by
  unfold lkpForce
  extract_lets +onlyGivenNames v1
  refine pIte (P := Carries1 o) ?_ ?_
  · exact Carries1.mk (State.startOp_carries h1)
  · split
    · rename_i x2 x3 s4 e5
      have h6 := Carries2.of (o := o) ?_ e5
      rotate_left
      · exact State.forceLock_carries h1
      exact Carries1.mk (State.startOp_carries h6)

theorem State.setCount_carries {o : State} {s : State} {l : Nat} {v : Nat} (h1 : Carries o s) : Carries2 o
    (State.setCount s l v) := by
  unfold State.setCount
  refine pIte (P := Carries2 o) ?_ ?_
  · exact Carries2.mk h1
  · exact Carries2.mk (State.grantAll_carries (State.setLock_carries h1))

theorem lkpSetcount_carries {o : State} {s : State} {c : Nat} {x : Nat} (h1 : Carries o s) : Carries1 o (lkpSetcount s
    c x) := by
  unfold lkpSetcount
  extract_lets +onlyGivenNames v1
  refine pIte (P := Carries1 o) ?_ ?_
  · exact Carries1.mk (State.startOp_carries h1)
  · split
    · rename_i x2 x3 s4 e5
      have h6 := Carries2.of (o := o) ?_ e5
      rotate_left
      · exact State.setCount_carries h1
      exact Carries1.mk (State.startOp_carries h6)

theorem State.loseHostLocks_carries {o : State} {s : State} {p : Nat} (h1 : Carries o s) : Carries o
    (State.loseHostLocks s p) := by
  unfold State.loseHostLocks
  exact State.setFld_carries (State.loseRequester_carries h1)

theorem State.hostLockGo_carries {o : State} {s : State} {p : Nat} (h1 : Carries o s) : Carries o (State.hostLockGo s
    p) := by
  unfold State.hostLockGo
  extract_lets +onlyGivenNames v1
  extract_lets +onlyGivenNames v2
  extract_lets +onlyGivenNames v3
  extract_lets +onlyGivenNames v4
  extract_lets +onlyGivenNames v5
  extract_lets +onlyGivenNames v6
  extract_lets +onlyGivenNames v7
  refine pIte (P := Carries o) ?_ ?_
  · split
    · rename_i x8 e9
      exact State.hostLockDone_carries h1
    · rename_i x10 x11 e12
      exact State.hostLockDone_carries (State.endLockWait_carries (State.leaveQueue_carries h1))
  · refine pIte (P := Carries o) ?_ ?_
    · exact State.setFld_carries h1
    · clear_value v2
      split
      · rename_i x13
        split
        · rename_i x14 s15 e16
          have h17 := Carries2.of (o := o) ?_ e16
          rotate_left
          · exact State.acquire_carries h1
          exact State.setFld_carries h17
        · rename_i x18 x19 s20 e21
          have h22 := Carries2.of (o := o) ?_ e21
          rotate_left
          · exact State.acquire_carries h1
          exact State.hostLockDone_carries h22
      · rename_i x23
        split
        · rename_i x24 s25 e26
          have h27 := Carries2.of (o := o) ?_ e26
          rotate_left
          · exact State.acquire_carries h1
          exact h27
        · rename_i x28 x29 s30 e31
          have h32 := Carries2.of (o := o) ?_ e31
          rotate_left
          · exact State.acquire_carries h1
          exact State.hostLockDone_carries h32
      · rename_i x33
        split
        · rename_i x34 x35 s36 e37
          have h38 := Carries2.of (o := o) ?_ e37
          rotate_left
          · exact State.release_carries h1
          exact State.hostLockDone_carries h38
      · rename_i x39
        refine pIte (P := Carries o) ?_ ?_
        · exact State.hostLockDone_carries h1
        · exact State.hostLockDone_carries (State.bump_carries h1)
      · rename_i x40 e41 e42 e43 e44
        exact State.hostLockDone_carries h1

theorem State.hostReq_carries {o : State} {s : State} {p : Nat} {lock : Nat} {op : Nat} {n : Nat} {prio : Nat} {tmo :
    Nat} (h1 : Carries o s) : Carries o (State.hostReq s p lock op n prio tmo) := by
  unfold State.hostReq
  exact State.setAll_carries h1

theorem lkgHostRequest_carries {o : State} {s : State} {p : Nat} {op : Nat} {lock : Nat} {n : Nat} {prio : Nat} {tmo :
    Nat} (h1 : Carries o s) : Carries o (lkgHostRequest s p op lock n prio tmo) := by
  unfold lkgHostRequest
  refine pIte (P := Carries o) ?_ ?_
  · exact h1
  · exact State.schedule_carries (State.hostLockGo_carries (State.hostReq_carries h1))

theorem lkgForce_carries {o : State} {s : State} {p : Nat} {lock : Nat} (h1 : Carries o s) : Carries o (lkgForce s p
    lock) := by
  unfold lkgForce
  refine pIte (P := Carries o) ?_ ?_
  · exact h1
  · split
    · rename_i x1 x2 s3 e4
      have h5 := Carries2.of (o := o) ?_ e4
      rotate_left
      · exact State.forceLock_carries (State.wr_carries h1)
      exact State.schedule_carries (State.wr_carries h5)

theorem lkgSetcount_carries {o : State} {s : State} {p : Nat} {lock : Nat} {v : Nat} (h1 : Carries o s) : Carries o
    (lkgSetcount s p lock v) := by
  unfold lkgSetcount
  refine pIte (P := Carries o) ?_ ?_
  · exact h1
  · split
    · rename_i x1 x2 s3 e4
      have h5 := Carries2.of (o := o) ?_ e4
      rotate_left
      · exact State.setCount_carries (State.wr_carries (State.wr_carries h1))
      exact State.schedule_carries (State.wr_carries h5)

theorem lockWaitTimeout_carries {o : State} {s : State} {now : Nat} {r : Nat} (h1 : Carries o s) : Carries o
    (lockWaitTimeout s now r) := by
  unfold lockWaitTimeout
  extract_lets +onlyGivenNames v1
  have h2 : Carries o v1 := by
    unfold v1
    exact State.upTo_carries h1
  clear_value v1
  split
  · rename_i x3 e4
    exact h2
  · rename_i x5 x6 e7
    split
    · rename_i x8 e9
      exact h2
    · rename_i x10 x11 e12
      split
      · rename_i x13 e14
        exact h2
      · rename_i x15 x16 e17
        refine pIte (P := Carries o) ?_ ?_
        · exact h2
        · exact State.schedule_carries (State.leaveQueue_carries (State.endLockWait_carries (State.bump_carries h2)))

end Sys2Proof.Machine
end

