-- ==== Sys2Proof/Laws/CarryChannels.lean ====
section
/-! SUPPORT. What the operations of Channels carry from state to state. -/

namespace Sys2Proof.Machine

open Sys2Proof

/-! ### Channels -/

theorem State.dropEntryCopy_carries {o : State} {s : State} {k : Nat} {aborted : Bool} (h1 : Carries o s) : Carries o
    (State.dropEntryCopy s k aborted) := by
  unfold State.dropEntryCopy
  split
  · rename_i x1 e2
    exact h1
  · rename_i x3 x4 e5
    split
    · rename_i x6 s7 e8
      have h9 := Carries2.of (o := o) ?_ e8
      rotate_left
      · exact State.popCopy_carries h1
      exact h9
    · rename_i x10 x11 s12 e13
      have h14 := Carries2.of (o := o) ?_ e13
      rotate_left
      · exact State.popCopy_carries h1
      exact pIte (P := Carries o) (State.dryCopy_carries h14) (State.copyEnds_carries h14)

theorem State.fcoUpdate_carries {o : State} {s : State} {n : Nat} (h1 : Carries o s) : Carries o (State.fcoUpdate s n)
    := by
  unfold State.fcoUpdate
  extract_lets +onlyGivenNames v1
  extract_lets +onlyGivenNames v2
  refine pIte (P := Carries o) ?_ ?_
  · extract_lets +onlyGivenNames v3
    have h4 : Carries o v3 := by
      unfold v3
      exact State.setFld_carries h1
    clear_value v3
    extract_lets +onlyGivenNames v5
    extract_lets +onlyGivenNames v6
    have h7 : Carries o v6 := by
      unfold v6
      exact carriesMk h4 rfl rfl rfl rfl
    clear_value v6
    exact State.eventSup_carries (State.emit_carries h7)
  · exact pIte (P := Carries o) (State.emit_carries (State.setFld_carries h1)) h1

theorem State.sendPause_carries {o : State} {s : State} {port : Nat} {old : Nat} {new : Nat} (h1 : Carries o s) :
    Carries o (State.sendPause s port old new) := by
  unfold State.sendPause
  extract_lets +onlyGivenNames v1
  extract_lets +onlyGivenNames v2
  have h3 : Carries o v2 := by
    unfold v2
    exact carriesMk h1 rfl rfl rfl rfl
  clear_value v2
  exact pIte (P := Carries o) (State.emit_carries h3) (State.emit_carries h3)

theorem State.pauseUpdate_carries {o : State} {s : State} {port : Nat} {rose : Bool} (h1 : Carries o s) : Carries o
    (State.pauseUpdate s port rose) := by
  unfold State.pauseUpdate
  extract_lets +onlyGivenNames v1
  extract_lets +onlyGivenNames v2
  exact pIte (P := Carries o) h1 (State.sendPause_carries h1)

theorem State.chNotifyNow_carries {o : State} {s : State} {k : Nat} (h1 : Carries o s) : Carries o (State.chNotifyNow
    s k) := by
  unfold State.chNotifyNow
  refine pIte (P := Carries o) ?_ ?_
  · exact h1
  · extract_lets +onlyGivenNames v1
    exact State.signalVec_carries h1

theorem State.chAction_carries {o : State} {s : State} {k : Nat} (h1 : Carries o s) : Carries o (State.chAction s k)
    := by
  unfold State.chAction
  extract_lets +onlyGivenNames v1
  have h2 : Carries o v1 := by
    unfold v1
    refine pIte (P := Carries o) ?_ ?_
    · exact State.fcoUpdate_carries h1
    · exact pIte (P := Carries o) (State.pauseUpdate_carries h1) h1
  clear_value v1
  exact State.chNotifyNow_carries h2

theorem State.setChan_carries {o : State} {s : State} {k : Nat} {c : Chan} (h1 : Carries o s) : Carries o
    (State.setChan s k c) := by
  unfold State.setChan
  exact carriesMk h1 rfl rfl rfl rfl

theorem State.watchThread_carries {o : State} {s : State} {t : Nat} (h1 : Carries o s) : Carries o (State.watchThread
    s t) := by
  unfold State.watchThread
  split
  · rename_i x1 e2
    exact State.setEvent_carries h1
  · rename_i x3 x4 e5
    exact State.postHeld_carries h1

theorem State.tellWatchers_carries {o : State} {s : State} {k : Nat} {became : Nat} (h1 : Carries o s) : Carries o
    (State.tellWatchers s k became) := by
  unfold State.tellWatchers
  refine pIte (P := Carries o) ?_ ?_
  · exact h1
  · extract_lets +onlyGivenNames v1
    extract_lets +onlyGivenNames v2
    extract_lets +onlyGivenNames v3
    extract_lets +onlyGivenNames v4
    have h5 : Carries o v4 := by
      unfold v4
      refine pFoldl (P := Carries o) ?_ ?_
      · exact h1
      · intro s6 x7 h8
        exact State.watchThread_carries h8
    clear_value v4
    refine pFoldl (P := Carries o) ?_ ?_
    · exact h5
    · intro s9 x10 h11
      exact State.postHeld_carries h11

theorem State.chAfter_carries {o : State} {s : State} {k : Nat} {before : Nat} (h1 : Carries o s) : Carries o
    (State.chAfter s k before) := by
  unfold State.chAfter
  extract_lets +onlyGivenNames v1
  extract_lets +onlyGivenNames v2
  extract_lets +onlyGivenNames v3
  have h4 : Carries o v3 := by
    unfold v3
    refine pIte (P := Carries o) ?_ ?_
    · exact State.chAction_carries (State.setChan_carries h1)
    · exact pIte (P := Carries o) (State.chAction_carries (State.setChan_carries h1)) h1
  clear_value v3
  exact State.tellWatchers_carries h4

theorem State.spillPass_carries {o : State} {s : State} {k : Nat} (h1 : Carries o s) : Carries o (State.spillPass s k)
    := by
  unfold State.spillPass
  extract_lets +onlyGivenNames v1
  extract_lets +onlyGivenNames v2
  exact pIte (P := Carries o) h1 (State.setChan_carries h1)

theorem State.markLine_carries {o : State} {s : State} {k : Nat} {n : Nat} {ws : List ChWord} (h1 : Carries o s) :
    Carries o (State.markLine s k n ws) := by
  unfold State.markLine
  extract_lets +onlyGivenNames v1
  refine pIte (P := Carries o) ?_ ?_
  · exact h1
  · extract_lets +onlyGivenNames v2
    extract_lets +onlyGivenNames v3
    have h4 : Carries o v3 := by
      unfold v3
      exact State.ipdReq_carries (State.ipdWrite_carries h1)
    clear_value v3
    exact State.setChan_carries h4

theorem State.putSides_carries {o : State} {s : State} {k : Nat} {ws : List ChWord} (h1 : Carries o s) : Carries o
    (State.putSides s k ws) := by
  unfold State.putSides
  extract_lets +onlyGivenNames v1
  refine pIte (P := Carries o) ?_ ?_
  · extract_lets +onlyGivenNames v2
    extract_lets +onlyGivenNames v3
    extract_lets +onlyGivenNames v4
    have h5 : Carries o v4 := by
      unfold v4
      refine pFoldl (P := Carries o) ?_ ?_
      · exact h1
      · intro s6 x7 h8
        exact State.markLine_carries h8
    clear_value v4
    exact State.setChan_carries h5
  · exact State.setChan_carries h1

theorem State.loseLines_carries {o : State} {s : State} {k : Nat} (h1 : Carries o s) : Carries o (State.loseLines s k)
    := by
  unfold State.loseLines
  extract_lets +onlyGivenNames v1
  extract_lets +onlyGivenNames v2
  refine pIte (P := Carries o) ?_ ?_
  · exact h1
  · extract_lets +onlyGivenNames v3
    have h4 : Carries o v3 := by
      unfold v3
      exact State.bumpFld_carries (State.bumpFld_carries (State.putSides_carries h1))
    clear_value v3
    extract_lets +onlyGivenNames v5
    have h6 : Carries o v5 := by
      unfold v5
      exact State.eventSup_carries h4
    clear_value v5
    exact State.eventSup_carries h6

theorem State.spillStore_carries {o : State} {s : State} {k : Nat} (h1 : Carries o s) : Carries o (State.spillStore s
    k) := by
  unfold State.spillStore
  extract_lets +onlyGivenNames v1
  refine pIte (P := Carries o) ?_ ?_
  · exact h1
  · extract_lets +onlyGivenNames v2
    extract_lets +onlyGivenNames v3
    extract_lets +onlyGivenNames v4
    extract_lets +onlyGivenNames v5
    have h6 : Carries o v5 := by
      unfold v5
      exact State.ipdWrite_carries h1
    clear_value v5
    extract_lets +onlyGivenNames v7
    have h8 : Carries o v7 := by
      unfold v7
      exact State.ipdReq_carries h6
    clear_value v7
    extract_lets +onlyGivenNames v9
    have h10 : Carries o v9 := by
      unfold v9
      exact State.setChan_carries h8
    clear_value v9
    exact pIte (P := Carries o) (State.loseLines_carries h10) h10

theorem State.spillLoad_carries {o : State} {s : State} {k : Nat} (h1 : Carries o s) : Carries o (State.spillLoad s k)
    := by
  unfold State.spillLoad
  extract_lets +onlyGivenNames v1
  refine pIte (P := Carries o) ?_ ?_
  · exact h1
  · extract_lets +onlyGivenNames v2
    have h3 : Carries o v2 := by
      unfold v2
      exact State.loseLines_carries h1
    clear_value v2
    extract_lets +onlyGivenNames v4
    extract_lets +onlyGivenNames v5
    have h6 : Carries o v5 := by
      unfold v5
      exact State.ipdReq_carries h3
    clear_value v5
    extract_lets +onlyGivenNames v7
    exact State.setChan_carries h6

theorem State.spillSettle_carries {o : State} {s : State} {k : Nat} (h1 : Carries o s) : Carries o (State.spillSettle
    s k) := by
  unfold State.spillSettle
  refine State.spillPass_carries ?_
  exact State.spillStore_carries (State.spillLoad_carries (State.spillPass_carries h1))

theorem State.spillDrop_carries {o : State} {s : State} {k : Nat} {a : Nat} (h1 : Carries o s) : Carries o
    (State.spillDrop s k a) := by
  induction a generalizing s k
  · unfold State.spillDrop
    exact h1
  · rename_i n1 ih2
    unfold State.spillDrop
    extract_lets +onlyGivenNames v1
    apply ih2
    exact State.spillSettle_carries (State.setChan_carries h1)

theorem State.chDrop_carries {o : State} {s : State} {k : Nat} {n : Nat} (h1 : Carries o s) : Carries o (State.chDrop
    s k n) := by
  unfold State.chDrop
  extract_lets +onlyGivenNames v1
  extract_lets +onlyGivenNames v2
  exact State.chAfter_carries (pIte (P := Carries o) (State.spillDrop_carries h1) (State.setChan_carries h1))

theorem State.chTake_carries {o : State} {s : State} {k : Nat} {desc : Nat} {begun : Bool} (h1 : Carries o s) :
    Carries2 o (State.chTake s k desc begun) := by
  unfold State.chTake
  refine pIte (P := Carries2 o) ?_ ?_
  · exact Carries2.mk (State.dropEntryCopy_carries (State.chDrop_carries h1))
  · refine pIte (P := Carries2 o) ?_ ?_
    · exact Carries2.mk h1
    · extract_lets +onlyGivenNames v1
      extract_lets +onlyGivenNames v2
      have h3 : Carries o v2 := by
        unfold v2
        exact State.chDrop_carries h1
      clear_value v2
      split
      · rename_i x4 x5 e6
        exact Carries2.mk (pIte (P := Carries o) (State.takeEntry_carries h3) h3)
      · rename_i x7 e8
        exact Carries2.mk h3

theorem State.endGet_carries {o : State} {s : State} {t : Nat} {k : Nat} {st : Nat} {w : ChWord} (h1 : Carries o s) :
    Carries o (State.endGet s t k st w) := by
  unfold State.endGet
  extract_lets +onlyGivenNames v1
  have h2 : Carries o v1 := by
    unfold v1
    exact State.updThread_carries h1
  clear_value v1
  extract_lets +onlyGivenNames v3
  have h4 : Carries o v3 := by
    unfold v3
    exact State.endWait_carries h2
  clear_value v3
  exact pIte (P := Carries o) (State.logDecision_carries h4) h4

theorem State.chPush_carries {o : State} {s : State} {k : Nat} {w : W64} {end_ : Bool} (h1 : Carries o s) : Carries o
    (State.chPush s k w end_) := by
  unfold State.chPush
  extract_lets +onlyGivenNames v1
  refine pIte (P := Carries o) ?_ ?_
  · exact State.spillSettle_carries (State.setChan_carries h1)
  · extract_lets +onlyGivenNames v2
    extract_lets +onlyGivenNames v3
    extract_lets +onlyGivenNames v4
    refine State.setChan_carries ?_
    exact carriesUp h1 (fun h => h.stage) (fun h => ⟨h.mem.ipd, cellWrite_wf _ _ h.mem.shared, h.mem.scratch⟩) (fun h
        => h.host) (fun h => h.fth)

theorem State.chAppend_carries {o : State} {s : State} {k : Nat} {w : W64} {end_ : Bool} (h1 : Carries o s) : Carries
    o (State.chAppend s k w end_) := by
  unfold State.chAppend
  extract_lets +onlyGivenNames v1
  exact State.chAfter_carries (State.chPush_carries h1)

theorem State.chServe_carries {o : State} {a : State} {a1 : Nat} {a2 : Nat} (h1 : Carries o a) : Carries o
    (State.chServe a a1 a2) := by
  induction a1 generalizing a a2
  · unfold State.chServe
    exact h1
  · rename_i n1 ih2
    unfold State.chServe
    extract_lets +onlyGivenNames v1
    extract_lets +onlyGivenNames v2
    extract_lets +onlyGivenNames v3
    clear_value v1
    clear_value v2
    clear_value v3
    split
    · rename_i x4 x5 x6 x7
      split
      · rename_i x8 x9 x10 s11 e12
        have h13 := Carries2.of (o := o) ?_ e12
        rotate_left
        · exact State.chTake_carries h1
        apply ih2
        exact State.endGet_carries h13
    · rename_i x14 x15 x16 x17
      split
      · rename_i x18 x19 x20 s21 e22
        have h23 := Carries2.of (o := o) ?_ e22
        rotate_left
        · exact State.chTake_carries h1
        extract_lets +onlyGivenNames v24
        extract_lets +onlyGivenNames v25
        have h26 : Carries o v25 := by
          unfold v25
          exact State.setDesc_carries h23
        clear_value v25
        apply ih2
        exact State.endDescWait_carries h26
    · rename_i x27 x28 x29 x30
      split
      · rename_i x31 e32
        exact h1
      · rename_i x33 x34 e35
        apply ih2
        exact State.endWait_carries (State.chAppend_carries h1)
    · rename_i x36 x37 x38
      exact h1

theorem State.chServeAll_carries {o : State} {s : State} {k : Nat} (h1 : Carries o s) : Carries o (State.chServeAll s
    k) := by
  unfold State.chServeAll
  exact State.chServe_carries h1

theorem State.chAppendPacket_carries {o s : State} {k : Nat} {l : List W64} (h : Carries o s) :
    Carries o (s.chAppendPacket k l) := by
  induction l generalizing s with
  | nil => exact h
  | cons w ws ih =>
    cases ws with
    | nil => exact State.chAppend_carries h
    | cons w' ws => exact ih (State.chAppend_carries h)

theorem State.clearRings_carries {o : State} {s : State} {b : Nat} (h1 : Carries o s) : Carries o (State.clearRings s
    b) := by
  unfold State.clearRings
  extract_lets +onlyGivenNames v1
  extract_lets +onlyGivenNames v2
  extract_lets +onlyGivenNames v3
  extract_lets +onlyGivenNames v4
  have h5 : Carries o v4 := by
    unfold v4
    exact carriesMk h1 rfl rfl rfl rfl
  clear_value v4
  extract_lets +onlyGivenNames v6
  have h7 : Carries o v6 := by
    unfold v6
    refine pFoldl (P := Carries o) ?_ ?_
    · exact h5
    · intro s8 x9 h10
      exact State.chAction_carries h10
  clear_value v6
  exact pIte (P := Carries o) h7 (State.eventSup_carries (State.bumpFld_carries h7))

theorem State.leaveWaits_carries {o : State} {s : State} {t : Nat} (h1 : Carries o s) : Carries o (State.leaveWaits s
    t) := by
  unfold State.leaveWaits
  exact State.updThread_carries h1

theorem State.chAbort_carries {o : State} {s : State} {k : Nat} (h1 : Carries o s) : Carries o (State.chAbort s k) :=
    by
  unfold State.chAbort
  split
  · rename_i x1 e2
    exact h1
  · rename_i x3 x4 x5 e6
    refine pIte (P := Carries o) ?_ ?_
    · exact h1
    · extract_lets +onlyGivenNames v7
      extract_lets +onlyGivenNames v8
      have h9 : Carries o v8 := by
        unfold v8
        exact State.putSides_carries h1
      clear_value v8
      extract_lets +onlyGivenNames v10
      extract_lets +onlyGivenNames v11
      have h12 : Carries o v11 := by
        unfold v11
        exact State.setChan_carries h9
      clear_value v11
      extract_lets +onlyGivenNames v13
      have h14 : Carries o v13 := by
        unfold v13
        exact State.eventSup_carries (State.bump_carries h12)
      clear_value v13
      exact State.chServeAll_carries (State.chAfter_carries h14)

theorem State.chDiscard_carries {o : State} {s : State} {k : Nat} (h1 : Carries o s) : Carries o (State.chDiscard s k)
    := by
  unfold State.chDiscard
  extract_lets +onlyGivenNames v1
  have h2 : Carries o v1 := by
    unfold v1
    exact State.dropEntryCopy_carries (State.chDrop_carries h1)
  clear_value v1
  exact State.chServeAll_carries (State.eventSup_carries (State.bump_carries h2))

theorem State.loseChannels_carries {o : State} {s : State} {t : Nat} (h1 : Carries o s) : Carries o
    (State.loseChannels s t) := by
  unfold State.loseChannels
  extract_lets +onlyGivenNames v1
  extract_lets +onlyGivenNames v2
  have h3 : Carries o v2 := by
    unfold v2
    exact State.updThread_carries (State.leaveWaits_carries h1)
  clear_value v2
  extract_lets +onlyGivenNames v4
  extract_lets +onlyGivenNames v5
  have h6 : Carries o v5 := by
    unfold v5
    refine pFoldl (P := Carries o) ?_ ?_
    · exact h3
    · intro s7 x8 h9
      exact State.chAbort_carries h9
  clear_value v5
  refine pFoldl (P := Carries o) ?_ ?_
  · exact h6
  · intro s10 x11 h12
    exact State.chDiscard_carries h12

theorem chPut_carries {o : State} {s : State} {t : Nat} {x : Nat} {end_ : Bool} (h1 : Carries o s) : Carries1 o (chPut
    s t x end_) := by
  unfold chPut
  split
  · rename_i x1 e2
    exact Carries1.mk (State.startOp_carries h1)
  · rename_i x3 x4 e5
    extract_lets +onlyGivenNames v6
    extract_lets +onlyGivenNames v7
    refine pIte (P := Carries1 o) ?_ ?_
    · exact Carries1.mk (State.startOp_carries h1)
    · refine pIte (P := Carries1 o) ?_ ?_
      · exact Carries1.mk (State.startOp_carries h1)
      · refine pIte (P := Carries1 o) ?_ ?_
        · exact pIte (P := Carries1 o) (Carries1.mk (State.startOp_carries h1)) (Carries1.mk (State.putOp_carries h1))
        · exact Carries1.mk (State.chServeAll_carries (State.startOp_carries (State.chAppend_carries h1)))

theorem chGet_carries {o : State} {s : State} {t : Nat} (h1 : Carries o s) : Carries1 o (chGet s t) := by
  unfold chGet
  split
  · rename_i x1 e2
    exact Carries1.mk (State.startOp_carries h1)
  · rename_i x3 x4 e5
    extract_lets +onlyGivenNames v6
    refine pIte (P := Carries1 o) ?_ ?_
    · exact Carries1.mk (State.startOp_carries h1)
    · refine pIte (P := Carries1 o) ?_ ?_
      · exact Carries1.mk (State.putOp_carries h1)
      · split
        · rename_i x7 x8 x9 s10 e11
          have h12 := Carries2.of (o := o) ?_ e11
          rotate_left
          · exact State.chTake_carries h1
          exact Carries1.mk (State.chServeAll_carries (State.endGet_carries h12))

theorem chCount_carries {o : State} {s : State} {t : Nat} (h1 : Carries o s) : Carries1 o (chCount s t) := by
  unfold chCount
  split
  · rename_i x1 e2
    exact Carries1.mk (State.startOp_carries h1)
  · rename_i x3 x4 e5
    exact Carries1.mk (State.startOp_carries h1)

theorem chWatch_carries {o : State} {s : State} {t : Nat} {x : Nat} (h1 : Carries o s) : Carries1 o (chWatch s t x) :=
    by
  unfold chWatch
  extract_lets +onlyGivenNames v1
  extract_lets +onlyGivenNames v2
  split
  · rename_i x3 e4
    exact Carries1.mk (State.startOp_carries h1)
  · rename_i x5 x6 e7
    extract_lets +onlyGivenNames v8
    refine pIte (P := Carries1 o) ?_ ?_
    · exact Carries1.mk (State.startOp_carries h1)
    · refine pIte (P := Carries1 o) ?_ ?_
      · exact Carries1.mk (State.startOp_carries h1)
      · refine pIte (P := Carries1 o) ?_ ?_
        · exact Carries1.mk (State.startOp_carries h1)
        · extract_lets +onlyGivenNames v9
          have h10 : Carries o v9 := by
            unfold v9
            exact State.updThread_carries h1
          clear_value v9
          extract_lets +onlyGivenNames v11
          have h12 : Carries o v11 := by
            unfold v11
            exact State.startOp_carries h10
          clear_value v11
          exact Carries1.mk (pIte (P := Carries o) (State.watchThread_carries h12) h12)

theorem chUnwatch_carries {o : State} {s : State} {t : Nat} {x : Nat} (h1 : Carries o s) : Carries1 o (chUnwatch s t
    x) := by
  unfold chUnwatch
  exact Carries1.mk (State.startOp_carries (State.updThread_carries h1))

theorem State.spillKeep_carries {o : State} {s : State} {k : Nat} {n : Nat} (h1 : Carries o s) : Carries o
    (State.spillKeep s k n) := by
  unfold State.spillKeep
  extract_lets +onlyGivenNames v1
  exact State.setChan_carries h1

theorem State.loseSpill_carries {o : State} {s : State} {k : Nat} (h1 : Carries o s) : Carries o (State.loseSpill s k)
    := by
  unfold State.loseSpill
  extract_lets +onlyGivenNames v1
  exact State.chServeAll_carries (State.chAfter_carries (State.loseLines_carries h1))

theorem State.loseSpills_carries {o : State} {s : State} (h1 : Carries o s) : Carries o (State.loseSpills s) := by
  unfold State.loseSpills
  refine pFoldl (P := Carries o) ?_ ?_
  · exact h1
  · intro s1 x2 h3
    exact State.loseSpill_carries h3

theorem bsnChStat0Read_carries {o : State} {s : State} {part : Nat} (h1 : Carries o s) : Carries o (bsnChStat0Read s
    part) := by
  unfold bsnChStat0Read
  refine pIte (P := Carries o) ?_ ?_
  · exact h1
  · extract_lets +onlyGivenNames v1
    extract_lets +onlyGivenNames v2
    extract_lets +onlyGivenNames v3
    extract_lets +onlyGivenNames v4
    extract_lets +onlyGivenNames v5
    extract_lets +onlyGivenNames v6
    extract_lets +onlyGivenNames v7
    have h8 : Carries o v7 := by
      unfold v7
      exact State.setAll_carries h1
    clear_value v7
    exact State.emit_carries h8

theorem chWaitTimeout_carries {o : State} {s : State} {now : Nat} {t : Nat} (h1 : Carries o s) : Carries o
    (chWaitTimeout s now t) := by
  unfold chWaitTimeout
  extract_lets +onlyGivenNames v1
  have h2 : Carries o v1 := by
    unfold v1
    exact State.upTo_carries h1
  clear_value v1
  split
  · rename_i x3 e4
    exact h2
  · rename_i x5 x6 e7
    split
    · rename_i x8 e9
      exact h2
    · rename_i x10 x11 e12
      exact pIte (P := Carries o) h2 (State.bump_carries (State.endWait_carries h2))

theorem pauseRefresh_carries {o : State} {s : State} {now : Nat} {port : Nat} (h1 : Carries o s) : Carries o
    (pauseRefresh s now port) := by
  unfold pauseRefresh
  extract_lets +onlyGivenNames v1
  have h2 : Carries o v1 := by
    unfold v1
    exact State.upTo_carries h1
  clear_value v1
  extract_lets +onlyGivenNames v3
  exact pIte (P := Carries o) h2 (State.sendPause_carries h2)

theorem fcoMinHoldExpire_carries {o : State} {s : State} {now : Nat} {n : Nat} (h1 : Carries o s) : Carries o
    (fcoMinHoldExpire s now n) := by
  unfold fcoMinHoldExpire
  extract_lets +onlyGivenNames v1
  have h2 : Carries o v1 := by
    unfold v1
    exact State.upTo_carries h1
  clear_value v1
  exact pIte (P := Carries o) (State.fcoUpdate_carries h2) h2

end Sys2Proof.Machine
end

