-- ==== Sys2Proof/Laws/CarryTables.lean ====
section
/-! SUPPORT. What the operations of Tables, Runnel carry from state to state. -/

namespace Sys2Proof.Machine

open Sys2Proof

/-! ### Tables -/

theorem State.setL2_carries {o : State} {s : State} {i : Nat} {e : L2Ent} (h1 : Carries o s) : Carries o (State.setL2
    s i e) := by
  unfold State.setL2
  exact carriesMk h1 rfl rfl rfl rfl

theorem State.epFree_carries {o : State} {s : State} {id : Nat} (h1 : Carries o s) : Carries o (State.epFree s id) :=
    by
  unfold State.epFree
  exact carriesMk h1 rfl rfl rfl rfl

theorem State.setEp_carries {o : State} {s : State} {id : Nat} {r : EpRec} (h1 : Carries o s) : Carries o (State.setEp
    s id r) := by
  unfold State.setEp
  exact carriesMk h1 rfl rfl rfl rfl

theorem State.epPlace_carries {o : State} {s : State} {id : Nat} {r : EpRec} (h1 : Carries o s) : CarriesO o
    (State.epPlace s id r) := by
  unfold State.epPlace
  extract_lets +onlyGivenNames v1
  have h2 : Carries o v1 := by
    unfold v1
    exact State.epFree_carries h1
  clear_value v1
  split
  · rename_i x3 e4
    exact CarriesO.none
  · rename_i x5 x6 e7
    exact CarriesO.some (State.setEp_carries (carriesMk h2 rfl rfl rfl rfl))

theorem State.startTables_carries {o : State} {s : State} (h1 : Carries o s) : Carries o (State.startTables s) := by
  unfold State.startTables
  extract_lets +onlyGivenNames v1
  have h2 : Carries o v1 := by
    unfold v1
    refine pFoldl (P := Carries o) ?_ ?_
    · exact h1
    · intro s3 x4 h5
      split
      · rename_i x6 x7 e8
        exact State.setL2_carries h5
      · rename_i x9 e10
        exact h5
  clear_value v1
  refine pFoldl (P := Carries o) ?_ ?_
  · exact h2
  · intro s11 x12 h13
    exact CarriesO.getD (State.epPlace_carries h13) h13

theorem State.flushL2_carries {o : State} {s : State} {port : Option Nat} {fid : Option Nat} (h1 : Carries o s) :
    Carries o (State.flushL2 s port fid) := by
  unfold State.flushL2
  extract_lets +onlyGivenNames v1
  exact carriesMk h1 rfl rfl rfl rfl

theorem State.epPending_carries {o : State} {s : State} {r : EpRec} (h1 : Carries o s) : Carries o (State.epPending s
    r) := by
  unfold State.epPending
  exact pIte (P := Carries o) (State.event_carries h1) h1

theorem State.epSeen_carries {o : State} {s : State} {kind : Nat} {port : Nat} {addr : Nat} {at_ : Nat} (h1 : Carries
    o s) : Carries2 o (State.epSeen s kind port addr at_) := by
  unfold State.epSeen
  extract_lets +onlyGivenNames v1
  extract_lets +onlyGivenNames v2
  split
  · rename_i x3 x4 e5
    extract_lets +onlyGivenNames v6
    extract_lets +onlyGivenNames v7
    exact Carries2.mk (State.epPending_carries (State.setEp_carries h1))
  · rename_i x8 e9
    extract_lets +onlyGivenNames v10
    extract_lets +onlyGivenNames v11
    have h12 : Carries o v11 := by
      unfold v11
      exact State.eventSup_carries (State.bump_carries h1)
    clear_value v11
    split
    · rename_i x13 e14
      exact Carries2.mk h12
    · rename_i x15 x16 e17
      split
      · rename_i x18 e19
        exact Carries2.mk h12
      · rename_i x21 s22 e23
        have h24 := CarriesO.of (o := o) ?_ e23
        rotate_left
        · exact State.epPlace_carries h1
        exact Carries2.mk (State.epPending_carries h24)

theorem State.learnAsk_carries {o : State} {s : State} {r : LearnReq} (h1 : Carries o s) : Carries o (State.learnAsk s
    r) := by
  unfold State.learnAsk
  exact pIte (P := Carries o) (State.bump_carries h1) (carriesMk h1 rfl rfl rfl rfl)

theorem State.l2Lookup_carries {o : State} {s : State} {fid : Nat} {mac : Nat} (h1 : Carries o s) : Carries2 o
    (State.l2Lookup s fid mac) := by
  unfold State.l2Lookup
  split
  · rename_i x1 e2
    exact Carries2.mk h1
  · rename_i x3 x4 e5
    extract_lets +onlyGivenNames v6
    exact Carries2.mk (pIte (P := Carries o) (State.setL2_carries h1) h1)

theorem tlL2_carries {o : State} {s : State} {t : Nat} {x : Nat} (h1 : Carries o s) : Carries1 o (tlL2 s t x) := by
  unfold tlL2
  split
  · rename_i x1 s2 e3
    have h4 := Carries2.of (o := o) ?_ e3
    rotate_left
    · exact State.l2Lookup_carries h1
    exact Carries1.mk (State.startOp_carries h4)
  · rename_i x5 x6 s7 e8
    have h9 := Carries2.of (o := o) ?_ e8
    rotate_left
    · exact State.l2Lookup_carries h1
    extract_lets +onlyGivenNames v10
    exact Carries1.mk (State.startOp_carries h9)

theorem tlEp_carries {o : State} {s : State} {t : Nat} {x : Nat} (h1 : Carries o s) : Carries1 o (tlEp s t x) := by
  unfold tlEp
  extract_lets +onlyGivenNames v1
  refine pIte (P := Carries1 o) ?_ ?_
  · exact Carries1.mk (State.startOp_carries h1)
  · exact Carries1.mk (State.startOp_carries h1)

theorem tlParam_carries {o : State} {s : State} {t : Nat} {x : Nat} (h1 : Carries o s) : Carries1 o (tlParam s t x) :=
    by
  unfold tlParam
  split
  · rename_i x1 e2
    exact Carries1.mk (State.startOp_carries h1)
  · rename_i x3 x4 e5
    extract_lets +onlyGivenNames v6
    refine pIte (P := Carries1 o) ?_ ?_
    · exact Carries1.mk (State.startOp_carries h1)
    · exact Carries1.mk (State.startOp_carries h1)

theorem State.setCtxWord_carries {o : State} {s : State} {n : Nat} {w : Nat} {v : Nat} (h1 : Carries o s) : Carries o
    (State.setCtxWord s n w v) := by
  unfold State.setCtxWord
  exact State.ipdReq_carries (State.ipdWrite_carries h1)

theorem State.setFlow_carries {o : State} {s : State} {i : Nat} {e : Option FlowEnt} (h1 : Carries o s) : Carries o
    (State.setFlow s i e) := by
  unfold State.setFlow
  refine pIte (P := Carries o) ?_ ?_
  · exact carriesMk h1 rfl rfl rfl rfl
  · extract_lets +onlyGivenNames v1
    exact State.ipdReq_carries (State.ipdWrite_carries h1)

theorem State.flowHit_carries {o : State} {s : State} {i : Nat} (h1 : Carries o s) : Carries o (State.flowHit s i) :=
    by
  unfold State.flowHit
  split
  · rename_i x1 e2
    exact h1
  · rename_i x3 x4 e5
    extract_lets +onlyGivenNames v6
    have h7 : Carries o v6 := by
      unfold v6
      exact State.setCtxWord_carries h1
    clear_value v6
    extract_lets +onlyGivenNames v8
    have h9 : Carries o v8 := by
      unfold v8
      exact State.setCtxWord_carries (State.setCtxWord_carries h7)
    clear_value v8
    exact State.setFlow_carries h9

theorem State.fillCtx_carries {o : State} {s : State} {n : Nat} {sp : Nat} {gen : Nat} {key : List Byte} {pkts : Nat}
    {last : Nat} {prog : List Byte} (h1 : Carries o s) : Carries o (State.fillCtx s n sp gen key pkts last prog) := by
  unfold State.fillCtx
  extract_lets +onlyGivenNames v1
  exact State.ipdReqs_carries (State.ipdWrite_carries h1)

theorem State.victim_carries {o : State} {s : State} {policy : Nat} {g : Nat} {cands : List (Nat × Nat)} (h1 : Carries
    o s) : Carries2 o (State.victim s policy g cands) := by
  unfold State.victim
  refine pIte (P := Carries2 o) ?_ ?_
  · exact Carries2.mk h1
  · refine pIte (P := Carries2 o) ?_ ?_
    · exact Carries2.mk h1
    · refine pIte (P := Carries2 o) ?_ ?_
      · extract_lets +onlyGivenNames v1
        exact Carries2.mk (carriesMk h1 rfl rfl rfl rfl)
      · exact Carries2.mk h1

theorem State.flowCreate_carries {o : State} {s : State} {sp : Nat} {key : List Byte} {pin : Bool} {pkts : Nat} {last
    : Nat} {prog : List Byte} (h1 : Carries o s) : Carries2 o (State.flowCreate s sp key pin pkts last prog) := by
  unfold State.flowCreate
  extract_lets +onlyGivenNames v1
  extract_lets +onlyGivenNames v2
  extract_lets +onlyGivenNames v3
  extract_lets +onlyGivenNames v4
  clear_value v4
  split
  · rename_i x5 x6 x7 x8 e9
    extract_lets +onlyGivenNames v10
    extract_lets +onlyGivenNames v11
    have h12 : Carries o v11 := by
      unfold v11
      exact State.setFlow_carries h1
    clear_value v11
    exact Carries2.mk (State.fillCtx_carries h12)
  · rename_i x13 x14 x15 e16
    extract_lets +onlyGivenNames v17
    split
    · rename_i x18 s19 e20
      have h21 := Carries2.of (o := o) ?_ e20
      rotate_left
      · exact State.victim_carries h1
      exact Carries2.mk (State.bump_carries h21)
    · rename_i x22 x23 s24 e25
      have h26 := Carries2.of (o := o) ?_ e25
      rotate_left
      · exact State.victim_carries h1
      extract_lets +onlyGivenNames v27
      extract_lets +onlyGivenNames v28
      extract_lets +onlyGivenNames v29
      have h30 : Carries o v29 := by
        unfold v29
        exact State.setFlow_carries (State.bump_carries h26)
      clear_value v29
      exact Carries2.mk (State.fillCtx_carries h30)

theorem tlFind_carries {o : State} {s : State} {t : Nat} {x : Nat} {create : Bool} (h1 : Carries o s) : Carries1 o
    (tlFind s t x create) := by
  unfold tlFind
  split
  · rename_i x1 e2
    exact Carries1.mk (State.startOp_carries h1)
  · rename_i x3 x4 x5 e6
    refine pIte (P := Carries1 o) ?_ ?_
    · exact Carries1.mk h1
    · extract_lets +onlyGivenNames v7
      have h8 : Carries o v7 := by
        unfold v7
        exact State.scratchFixed_carries h1
      clear_value v7
      split
      · rename_i x9 x10 x11 e12
        extract_lets +onlyGivenNames v13
        extract_lets +onlyGivenNames v14
        extract_lets +onlyGivenNames v15
        have h16 : Carries o v15 := by
          unfold v15
          exact State.ipdReq_carries (State.ipdReq_carries h8)
        clear_value v15
        refine pIte (P := Carries1 o) ?_ ?_
        · unfold v13
          extract_lets +onlyGivenNames v17
          exact Carries1.mk (State.startOp_carries (State.flowHit_carries h16))
        · refine pIte (P := Carries1 o) ?_ ?_
          · exact Carries1.mk (State.startOp_carries h16)
          · refine pIte (P := Carries1 o) ?_ ?_
            · exact Carries1.mk (State.startOp_carries h16)
            · split
              · rename_i x18 x19 s20 e21
                have h22 := Carries2.of (o := o) ?_ e21
                rotate_left
                · exact State.flowCreate_carries h16
                unfold v13
                extract_lets +onlyGivenNames v23
                exact Carries1.mk (State.startOp_carries h22)
              · rename_i x24 s25 e26
                have h27 := Carries2.of (o := o) ?_ e26
                rotate_left
                · exact State.flowCreate_carries h16
                exact Carries1.mk (State.startOp_carries h27)

theorem tlRead_carries {o : State} {s : State} {t : Nat} {x : Nat} (h1 : Carries o s) : Carries1 o (tlRead s t x) :=
    by
  unfold tlRead
  split
  · rename_i x1 x2 x3 e4
    split
    · rename_i x5 e6
      exact Carries1.mk (State.startOp_carries h1)
    · rename_i x7 x8 e9
      extract_lets +onlyGivenNames v10
      have h11 : Carries o v10 := by
        unfold v10
        exact State.ipdReq_carries h1
      clear_value v10
      exact Carries1.mk (State.startOp_carries h11)

theorem tlWrite_carries {o : State} {s : State} {t : Nat} {x : Nat} (h1 : Carries o s) : Carries1 o (tlWrite s t x) :=
    by
  unfold tlWrite
  split
  · rename_i x1 x2 x3 e4
    extract_lets +onlyGivenNames v5
    extract_lets +onlyGivenNames v6
    split
    · rename_i x7 e8
      exact Carries1.mk (State.startOp_carries h1)
    · rename_i x9 x10 e11
      refine pIte (P := Carries1 o) ?_ ?_
      · exact Carries1.mk (State.startOp_carries (State.setCtxWord_carries h1))
      · refine pIte (P := Carries1 o) ?_ ?_
        · exact Carries1.mk (State.startOp_carries (State.setCtxWord_carries h1))
        · exact Carries1.mk (State.startOp_carries h1)

theorem State.flowRemove_carries {o : State} {s : State} {i : Nat} (h1 : Carries o s) : Carries o (State.flowRemove s
    i) := by
  unfold State.flowRemove
  split
  · rename_i x1 e2
    exact h1
  · rename_i x3 x4 e5
    extract_lets +onlyGivenNames v6
    extract_lets +onlyGivenNames v7
    have h8 : Carries o v7 := by
      unfold v7
      exact State.setFlow_carries h1
    clear_value v7
    exact State.setCtxWord_carries h8

theorem tlDelete_carries {o : State} {s : State} {t : Nat} (h1 : Carries o s) : Carries1 o (tlDelete s t) := by
  unfold tlDelete
  split
  · rename_i x1 x2 x3 e4
    split
    · rename_i x5 e6
      exact Carries1.mk (State.startOp_carries h1)
    · rename_i x7 x8 e9
      exact Carries1.mk (State.startOp_carries (State.flowRemove_carries h1))

theorem State.epLookup_carries {o : State} {s : State} {kind : Nat} {port : Nat} {addr : Nat} {at_ : Nat} (h1 :
    Carries o s) : Carries2 o (State.epLookup s kind port addr at_) := by
  unfold State.epLookup
  extract_lets +onlyGivenNames v1
  have h2 : Carries o v1 := by
    unfold v1
    exact State.learnAsk_carries h1
  clear_value v1
  extract_lets +onlyGivenNames v3
  split
  · rename_i x4 e5
    exact Carries2.mk (pIte (P := Carries o) h2 h1)
  · rename_i x6 x7 e8
    extract_lets +onlyGivenNames v9
    exact pIte (P := Carries2 o) (Carries2.mk h1) (Carries2.mk (pIte (P := Carries o) h2 h1))

theorem State.tblAnswer_carries {o : State} {s : State} {p : Nat} {st : Nat} (h1 : Carries o s) : Carries o
    (State.tblAnswer s p st) := by
  unfold State.tblAnswer
  exact State.event_carries (State.setFld_carries h1)

theorem State.tblRelease_carries {o : State} {s : State} (h1 : Carries o s) : Carries o (State.tblRelease s) := by
  unfold State.tblRelease
  refine pFoldl (P := Carries o) ?_ ?_
  · exact h1
  · intro s1 x2 h3
    refine pIte (P := Carries o) ?_ ?_
    · exact h3
    · exact State.tblAnswer_carries (State.setFld_carries (carriesMk h3 rfl rfl rfl rfl))

theorem State.loseTblCommand_carries {o : State} {s : State} {p : Nat} (h1 : Carries o s) : Carries o
    (State.loseTblCommand s p) := by
  unfold State.loseTblCommand
  extract_lets +onlyGivenNames v1
  extract_lets +onlyGivenNames v2
  exact State.tblRelease_carries (State.setFld_carries (State.setFld_carries (carriesMk h1 rfl rfl rfl rfl)))

theorem State.tblCommand_carries {o : State} {s : State} {p : Nat} {cmd : Nat} {f : State → Nat → State} (h1 : Carries
    o s) (h4 : ∀ y0 y1, Carries o y0 → Carries o (f y0 y1)) : Carries o (State.tblCommand s p cmd f) := by
  unfold State.tblCommand
  extract_lets +onlyGivenNames v1
  extract_lets +onlyGivenNames v2
  extract_lets +onlyGivenNames v3
  extract_lets +onlyGivenNames v4
  extract_lets +onlyGivenNames v5
  extract_lets +onlyGivenNames v6
  refine pIte (P := Carries o) ?_ ?_
  · exact h1
  · refine pIte (P := Carries o) ?_ ?_
    · exact State.tblAnswer_carries h1
    · refine pIte (P := Carries o) ?_ ?_
      · exact State.tblAnswer_carries h1
      · refine pIte (P := Carries o) ?_ ?_
        · exact State.tblAnswer_carries h1
        · apply h4
          exact h1

theorem State.tblDone_carries {o : State} {s : State} {p : Nat} {st : Nat} (h1 : Carries o s) : Carries o
    (State.tblDone s p st) := by
  unfold State.tblDone
  extract_lets +onlyGivenNames v1
  refine pIte (P := Carries o) ?_ ?_
  · exact State.setFld_carries (carriesMk h1 rfl rfl rfl rfl)
  · exact State.tblAnswer_carries h1

theorem State.tblIndex_carries {o : State} {s : State} {p : Nat} {i : Nat} (h1 : Carries o s) : Carries o
    (State.tblIndex s p i) := by
  unfold State.tblIndex
  exact State.setFld_carries h1

theorem State.l2Room_carries {o : State} {s : State} {fid : Nat} {mac : Nat} (h1 : Carries o s) : Carries2 o
    (State.l2Room s fid mac) := by
  unfold State.l2Room
  extract_lets +onlyGivenNames v1
  split
  · rename_i x2 x3 e4
    exact Carries2.mk h1
  · rename_i x5 e6
    split
    · rename_i x7 x8 s9 e10
      have h11 := Carries2.of (o := o) ?_ e10
      rotate_left
      · exact State.victim_carries h1
      exact Carries2.mk (State.bump_carries h11)
    · rename_i x12 s13 e14
      have h15 := Carries2.of (o := o) ?_ e14
      rotate_left
      · exact State.victim_carries h1
      exact Carries2.mk h15

theorem State.insertL2_carries {o : State} {s : State} {p : Nat} (h1 : Carries o s) : Carries o (State.insertL2 s p)
    := by
  unfold State.insertL2
  extract_lets +onlyGivenNames v1
  split
  · rename_i x2 x3 e4
    refine pIte (P := Carries o) ?_ ?_
    · exact State.tblDone_carries h1
    · exact State.tblDone_carries (State.tblIndex_carries (State.setL2_carries h1))
  · rename_i x5 e6
    split
    · rename_i x7 s8 e9
      have h10 := Carries2.of (o := o) ?_ e9
      rotate_left
      · exact State.l2Room_carries h1
      exact State.tblDone_carries h10
    · rename_i x11 x12 s13 e14
      have h15 := Carries2.of (o := o) ?_ e14
      rotate_left
      · exact State.l2Room_carries h1
      exact State.tblDone_carries (State.tblIndex_carries (State.setL2_carries h15))

theorem State.insertFlow_carries {o : State} {s : State} {p : Nat} (h1 : Carries o s) : Carries o (State.insertFlow s
    p) := by
  unfold State.insertFlow
  extract_lets +onlyGivenNames v1
  extract_lets +onlyGivenNames v2
  extract_lets +onlyGivenNames v3
  split
  · rename_i x4 x5 e6
    split
    · rename_i x7 e8
      exact State.tblDone_carries h1
    · rename_i x9 x10 e11
      refine pIte (P := Carries o) ?_ ?_
      · exact State.tblDone_carries h1
      · extract_lets +onlyGivenNames v12
        have h13 : Carries o v12 := by
          unfold v12
          exact State.setFlow_carries h1
        clear_value v12
        exact State.tblDone_carries (State.tblIndex_carries (State.ipdWrite_carries h13))
  · rename_i x14 e15
    extract_lets +onlyGivenNames v16
    refine pIte (P := Carries o) ?_ ?_
    · exact State.tblDone_carries h1
    · split
      · rename_i x17 s18 e19
        have h20 := Carries2.of (o := o) ?_ e19
        rotate_left
        · exact State.flowCreate_carries h1
        exact State.tblDone_carries h20
      · rename_i x21 x22 s23 e24
        have h25 := Carries2.of (o := o) ?_ e24
        rotate_left
        · exact State.flowCreate_carries h1
        exact State.tblDone_carries (State.tblIndex_carries h25)

theorem State.insertEp_carries {o : State} {s : State} {p : Nat} (h1 : Carries o s) : Carries o (State.insertEp s p)
    := by
  unfold State.insertEp
  split
  · rename_i x1 x2 x3 x4 e5
    extract_lets +onlyGivenNames v6
    extract_lets +onlyGivenNames v7
    split
    · rename_i x8 x9 e10
      refine pIte (P := Carries o) ?_ ?_
      · exact State.tblDone_carries h1
      · exact State.tblDone_carries (State.tblIndex_carries (State.setEp_carries h1))
    · rename_i x11 e12
      extract_lets +onlyGivenNames v13
      extract_lets +onlyGivenNames v14
      extract_lets +onlyGivenNames v15
      clear_value v15
      split
      · rename_i x16
        exact State.tblDone_carries h1
      · rename_i x17 x18
        split
        · rename_i x19 e20
          exact State.tblDone_carries h1
        · rename_i x22 s23 e24
          have h25 := CarriesO.of (o := o) ?_ e24
          rotate_left
          · exact State.epPlace_carries h1
          exact State.tblDone_carries (State.tblIndex_carries h25)

theorem tblInsert_carries {o : State} {s : State} {p : Nat} (h1 : Carries o s) : Carries o (tblInsert s p) := by
  unfold tblInsert
  refine State.tblCommand_carries ?_ ?_
  · exact h1
  · intro s1 x2 h3
    refine pIte (P := Carries o) ?_ ?_
    · exact State.insertL2_carries h3
    · exact pIte (P := Carries o) (State.insertFlow_carries h3) (State.insertEp_carries h3)

theorem tblDelete_carries {o : State} {s : State} {p : Nat} (h1 : Carries o s) : Carries o (tblDelete s p) := by
  unfold tblDelete
  refine State.tblCommand_carries ?_ ?_
  · exact h1
  · intro s1 x2 h3
    split
    · rename_i x4 x5 e6
      exact State.tblDone_carries h3
    · rename_i x7 x8 x9 e10
      extract_lets +onlyGivenNames v11
      extract_lets +onlyGivenNames v12
      have h13 : Carries o v12 := by
        unfold v12
        refine pIte (P := Carries o) ?_ ?_
        · exact carriesMk h3 rfl rfl rfl rfl
        · exact pIte (P := Carries o) (State.flowRemove_carries h3) (State.epFree_carries h3)
      clear_value v12
      exact State.tblDone_carries h13

theorem State.setTblData_carries {o : State} {s : State} {p : Nat} {ws : List Nat} (h1 : Carries o s) : Carries o
    (State.setTblData s p ws) := by
  unfold State.setTblData
  exact State.setAll_carries h1

theorem State.tblShow_carries {o : State} {s : State} {p : Nat} {table : Nat} {i : Nat} (h1 : Carries o s) : Carries o
    (State.tblShow s p table i) := by
  unfold State.tblShow
  refine pIte (P := Carries o) ?_ ?_
  · exact State.tblIndex_carries (State.setTblData_carries h1)
  · refine pIte (P := Carries o) ?_ ?_
    · extract_lets +onlyGivenNames v1
      exact State.tblIndex_carries (State.setTblData_carries h1)
    · exact State.tblIndex_carries (State.setTblData_carries h1)

theorem tblRead_carries {o : State} {s : State} {p : Nat} (h1 : Carries o s) : Carries o (tblRead s p) := by
  unfold tblRead
  refine State.tblCommand_carries ?_ ?_
  · exact h1
  · intro s1 x2 h3
    split
    · rename_i x4 x5 e6
      exact State.tblDone_carries h3
    · rename_i x7 x8 x9 e10
      exact State.tblDone_carries (State.tblShow_carries h3)

theorem tblUpdate_carries {o : State} {s : State} {p : Nat} (h1 : Carries o s) : Carries o (tblUpdate s p) := by
  unfold tblUpdate
  refine State.tblCommand_carries ?_ ?_
  · exact h1
  · intro s1 x2 h3
    split
    · rename_i x4 x5 e6
      exact State.tblDone_carries h3
    · rename_i x7 x8 x9 e10
      extract_lets +onlyGivenNames v11
      extract_lets +onlyGivenNames v12
      extract_lets +onlyGivenNames v13
      exact State.tblDone_carries (State.setEp_carries h3)

theorem State.flushJob_carries {o : State} {s : State} {table : Nat} {sp : Nat} {port : Option Nat} {fid : Option Nat}
    (h1 : Carries o s) : Carries o (State.flushJob s table sp port fid) := by
  unfold State.flushJob
  refine pIte (P := Carries o) ?_ ?_
  · exact State.flushL2_carries h1
  · refine pFoldl (P := Carries o) ?_ ?_
    · exact h1
    · intro s1 x2 h3
      exact State.flowRemove_carries h3

theorem tblFlush_carries {o : State} {s : State} {p : Nat} (h1 : Carries o s) : Carries o (tblFlush s p) := by
  unfold tblFlush
  refine State.tblCommand_carries ?_ ?_
  · exact h1
  · intro s1 x2 h3
    extract_lets +onlyGivenNames v4
    extract_lets +onlyGivenNames v5
    extract_lets +onlyGivenNames v6
    have h7 : Carries o v6 := by
      unfold v6
      exact State.flushJob_carries h3
    clear_value v6
    extract_lets +onlyGivenNames v8
    extract_lets +onlyGivenNames v9
    have h10 : Carries o v9 := by
      unfold v9
      exact carriesMk h7 rfl rfl rfl rfl
    clear_value v9
    exact State.setFld_carries (State.setFld_carries (State.setFld_carries h10))

theorem tblNext_carries {o : State} {s : State} {p : Nat} (h1 : Carries o s) : Carries o (tblNext s p) := by
  unfold tblNext
  refine State.tblCommand_carries ?_ ?_
  · exact h1
  · intro s1 x2 h3
    split
    · rename_i x4 e5
      exact State.tblDone_carries h3
    · rename_i x6 x7 e8
      exact State.tblDone_carries (State.tblShow_carries h3)

theorem tblReserved_carries {o : State} {s : State} {p : Nat} (h1 : Carries o s) : Carries o (tblReserved s p) := by
  unfold tblReserved
  refine State.tblCommand_carries ?_ ?_
  · exact h1
  · intro s1 x2 h3
    exact h3

theorem State.departTables_carries {o : State} {s : State} {at_ : Nat} (h1 : Carries o s) : Carries o
    (State.departTables s at_) := by
  unfold State.departTables
  extract_lets +onlyGivenNames v1
  have h2 : Carries o v1 := by
    unfold v1
    exact pIte (P := Carries o) (State.flushL2_carries h1) h1
  clear_value v1
  extract_lets +onlyGivenNames v3
  extract_lets +onlyGivenNames v4
  exact carriesMk h2 rfl rfl rfl rfl

theorem State.loseFlows_carries {o s : State} (h : Carries o s) : Carries o s.loseFlows := by
  unfold State.loseFlows
  extract_lets gone inBad bad ctxs gone' ipd tbl mem v w n
  have hv : Carries o v := by
    refine carriesUp h (fun h => h.stage) (fun h => ⟨?_, h.mem.shared, h.mem.scratch⟩) (fun h => h.host) (fun h =>
        h.fth)
    exact pFoldl (P := fun m => Memory.wf m = true) h.mem.ipd fun m i hm => cellClear_wf _ _ hm
  have hw : Carries o w := pFoldl (P := Carries o) hv fun s e hs => State.setFlow_carries hs
  exact pIte (P := Carries o) hw (State.eventSup_carries (State.bumpFld_carries hw))

theorem State.learn_carries {o : State} {s : State} {fid : Nat} {mac : Nat} {port : Nat} (h1 : Carries o s) : Carries
    o (State.learn s fid mac port) := by
  unfold State.learn
  extract_lets +onlyGivenNames v1
  refine pIte (P := Carries o) ?_ ?_
  · exact State.bump_carries h1
  · split
    · rename_i x2 x3 e4
      extract_lets +onlyGivenNames v5
      refine pIte (P := Carries o) ?_ ?_
      · exact State.setL2_carries h1
      · refine pIte (P := Carries o) ?_ ?_
        · exact State.bump_carries h1
        · exact pIte (P := Carries o) (State.bump_carries (State.setL2_carries h1)) (State.bump_carries h1)
    · rename_i x6 e7
      refine pIte (P := Carries o) ?_ ?_
      · exact State.bump_carries h1
      · split
        · rename_i x8 x9 s10 e11
          have h12 := Carries2.of (o := o) ?_ e11
          rotate_left
          · exact State.l2Room_carries h1
          exact State.bump_carries (State.setL2_carries h12)
        · rename_i x13 s14 e15
          have h16 := Carries2.of (o := o) ?_ e15
          rotate_left
          · exact State.l2Room_carries h1
          exact State.eventSup_carries (State.bump_carries h16)

theorem ageingVisit_carries {o : State} {s : State} {k : Nat} (h1 : Carries o s) : Carries o (ageingVisit s k) := by
  unfold ageingVisit
  refine pIte (P := Carries o) ?_ ?_
  · refine pIte (P := Carries o) ?_ ?_
    · exact h1
    · extract_lets +onlyGivenNames v1
      extract_lets +onlyGivenNames v2
      exact State.bumpFld_carries (carriesMk h1 rfl rfl rfl rfl)
  · refine pIte (P := Carries o) ?_ ?_
    · exact h1
    · extract_lets +onlyGivenNames v3
      refine pFoldl (P := Carries o) ?_ ?_
      · exact h1
      · intro s4 x5 h6
        exact pIte (P := Carries o) (State.bump_carries (State.flowRemove_carries h6)) (State.setFlow_carries h6)

theorem epCreate_carries {o : State} {s : State} (h1 : Carries o s) : Carries o (epCreate s) := by
  unfold epCreate
  split
  · rename_i x1 x2 x3 x4 x5 x6 e7
    exact Carries2.snd (State.epSeen_carries (carriesMk h1 rfl rfl rfl rfl))
  · rename_i x8 e9
    exact h1

theorem learnProcess_carries {o : State} {s : State} (h1 : Carries o s) : Carries o (learnProcess s) := by
  unfold learnProcess
  split
  · rename_i x1 x2 x3 x4 x5 e6
    exact State.learn_carries (carriesMk h1 rfl rfl rfl rfl)
  · rename_i x7 e8
    exact h1

theorem tblFlushDone_carries {o : State} {s : State} {p : Nat} (h1 : Carries o s) : Carries o (tblFlushDone s p) := by
  unfold tblFlushDone
  split
  · rename_i x1 e2
    exact h1
  · rename_i x3 x4 e5
    extract_lets +onlyGivenNames v6
    extract_lets +onlyGivenNames v7
    have h8 : Carries o v7 := by
      unfold v7
      exact carriesMk h1 rfl rfl rfl rfl
    clear_value v7
    extract_lets +onlyGivenNames v9
    have h10 : Carries o v9 := by
      unfold v9
      exact State.setFld_carries (State.setFld_carries h8)
    clear_value v9
    exact State.tblRelease_carries (State.event_carries h10)

/-! ### Runnel -/

theorem State.countOutcome_carries {o : State} {s : State} {a1 : Nat} (h1 : Carries o s) : Carries o
    (State.countOutcome s a1) := by
  unfold State.countOutcome
  refine pIte (P := Carries o) ?_ ?_
  · exact State.bump_carries h1
  · exact pIte (P := Carries o) (State.bumpFld_carries h1) (State.bump_carries h1)

theorem State.classifyPass_carries {o : State} {s : State} {d : Droplet} {flk : List Byte} {q : Nat} {first : Bool}
    {keepBucket : Bool} (h1 : Carries o s) : Carries2 o (State.classifyPass s d flk q first keepBucket) := by
  unfold State.classifyPass
  extract_lets +onlyGivenNames v1
  extract_lets +onlyGivenNames v2
  have h3 : Carries o v2 := by
    unfold v2
    exact State.countOutcome_carries h1
  clear_value v2
  extract_lets +onlyGivenNames v4
  extract_lets +onlyGivenNames v5
  extract_lets +onlyGivenNames v6
  refine pIte (P := Carries2 o) ?_ ?_
  · extract_lets +onlyGivenNames v7
    extract_lets +onlyGivenNames v8
    exact Carries2.mk h3
  · extract_lets +onlyGivenNames v9
    extract_lets +onlyGivenNames v10
    extract_lets +onlyGivenNames v11
    extract_lets +onlyGivenNames v12
    extract_lets +onlyGivenNames v13
    extract_lets +onlyGivenNames v14
    extract_lets +onlyGivenNames v15
    extract_lets +onlyGivenNames v16
    extract_lets +onlyGivenNames v17
    split
    · rename_i x18 x19 s20 e21
      have h22 := Carries2.of (o := o) ?_ e21
      rotate_left
      · refine pIte (P := Carries2 o) ?_ ?_
        · split
          · rename_i x23 x24 x25 x26 e27
            exact State.epLookup_carries h3
          · rename_i x28 e29
            exact Carries2.mk h3
        · exact Carries2.mk h3
      extract_lets +onlyGivenNames v30
      extract_lets +onlyGivenNames v31
      have h32 : Carries o v31 := by
        unfold v31
        exact pIte (P := Carries o) (State.learnAsk_carries h22) h22
      clear_value v31
      extract_lets +onlyGivenNames v33
      exact Carries2.mk h32

end Sys2Proof.Machine
end

