-- ==== Sys2Proof/Laws/CarrySluice.lean ====
section
/-! SUPPORT. What the operations of Sluice, Weir carry from state to state. -/

namespace Sys2Proof.Machine

open Sys2Proof

/-! ### Sluice -/

theorem State.setCredit_carries {o : State} {s : State} {k : Nat} {v : ℤ} (h1 : Carries o s) : Carries o
    (State.setCredit s k v) := by
  unfold State.setCredit
  exact carriesMk h1 rfl rfl rfl rfl

theorem State.setQueue_carries {o : State} {s : State} {q : Nat} {l : List Copy} (h1 : Carries o s) : Carries o
    (State.setQueue s q l) := by
  unfold State.setQueue
  exact carriesMk h1 rfl rfl rfl rfl

theorem State.dryQueue_carries {o : State} {s : State} {q : Nat} {reason : Nat} (h1 : Carries o s) : Carries o
    (State.dryQueue s q reason) := by
  unfold State.dryQueue
  extract_lets +onlyGivenNames v1
  refine pFoldl (P := Carries o) ?_ ?_
  · exact State.setQueue_carries h1
  · intro s2 x3 h4
    exact State.dryCopy_carries h4

theorem State.portLinkLost_carries {o : State} {s : State} {p : Nat} (h1 : Carries o s) : Carries o
    (State.portLinkLost s p) := by
  unfold State.portLinkLost
  extract_lets +onlyGivenNames v1
  refine pFoldl (P := Carries o) ?_ ?_
  · exact State.setCredit_carries h1
  · intro s2 x3 h4
    exact State.setCredit_carries (State.setCredit_carries (State.dryQueue_carries h4))

theorem State.setTxQueue_carries {o : State} {s : State} {src : Nat} {l : List EdgeTx} (h1 : Carries o s) : Carries o
    (State.setTxQueue s src l) := by
  unfold State.setTxQueue
  extract_lets +onlyGivenNames v1
  extract_lets +onlyGivenNames v2
  have h3 : Carries o v2 := by
    unfold v2
    exact carriesMk h1 rfl rfl rfl rfl
  clear_value v2
  exact pIte (P := Carries o) (State.setFld_carries h3) h3

theorem State.makeCopies_carries {o : State} {s : State} {c : Copy} {a : List (Nat × Nat)} {a3 : Bool} (h1 : Carries o
    s) : Carries2 o (State.makeCopies s c a a3) := by
  induction a generalizing s c a3
  · unfold State.makeCopies
    exact Carries2.mk h1
  · rename_i n1 n2 ih3
    unfold State.makeCopies
    refine pIte (P := Carries2 o) ?_ ?_
    · extract_lets +onlyGivenNames v1
      extract_lets +onlyGivenNames v2
      have h3 : Carries o v2 := by
        unfold v2
        exact State.setJourney_carries (State.countDry_carries h1)
      clear_value v2
      apply ih3
      exact State.dryTrigger_carries h3
    · extract_lets +onlyGivenNames v4
      have h5 : Carries o v4 := by
        unfold v4
        exact pIte (P := Carries o) h1 (State.addRefs_carries h1)
      clear_value v4
      split
      · rename_i x6 x7 s8 e9
        have h10 := Carries2.of (o := o) ?_ e9
        rotate_left
        · apply ih3
          exact State.bump_carries h5
        exact Carries2.mk h10

theorem State.queueMeter_carries {o : State} {s : State} {c : Copy} {en : Fld} {mt : Fld} {i : Nat} (h1 : Carries o s)
    : Carries3 o (State.queueMeter s c en mt i) := by
  unfold State.queueMeter
  refine pIte (P := Carries3 o) ?_ ?_
  · exact Carries3.mk h1
  · extract_lets +onlyGivenNames v1
    split
    · rename_i x2 x3 s4 e5
      have h6 := Carries2.of (o := o) ?_ e5
      rotate_left
      · exact State.meter_carries h1
      exact Carries3.mk h6

theorem State.admitNet_carries {o : State} {s : State} {c : Copy} (h1 : Carries o s) : Carries o (State.admitNet s c)
    := by
  unfold State.admitNet
  extract_lets +onlyGivenNames v1
  extract_lets +onlyGivenNames v2
  extract_lets +onlyGivenNames v3
  refine pIte (P := Carries o) ?_ ?_
  · exact State.dryCopy_carries h1
  · refine pIte (P := Carries o) ?_ ?_
    · exact State.dryCopy_carries h1
    · refine pIte (P := Carries o) ?_ ?_
      · exact State.dryCopy_carries h1
      · split
        · rename_i x4 x5 s6 e7
          have h8 := Carries3.of (o := o) ?_ e7
          rotate_left
          · exact State.queueMeter_carries h1
          exact pIte (P := Carries o) (State.dryCopy_carries h8) (State.setQueue_carries h8)
        · rename_i x9 x10 x11 s12 e13 e14
          have h15 := Carries3.of (o := o) ?_ e14
          rotate_left
          · exact State.queueMeter_carries h1
          exact State.dryCopy_carries h15

theorem State.admitHost_carries {o : State} {s : State} {c : Copy} {i : Nat} (h1 : Carries o s) : Carries o
    (State.admitHost s c i) := by
  unfold State.admitHost
  extract_lets +onlyGivenNames v1
  extract_lets +onlyGivenNames v2
  refine pIte (P := Carries o) ?_ ?_
  · exact State.dryCopy_carries h1
  · refine pIte (P := Carries o) ?_ ?_
    · exact State.dryCopy_carries (State.bump_carries h1)
    · refine pIte (P := Carries o) ?_ ?_
      · exact State.dryCopy_carries h1
      · split
        · rename_i x3 x4 s5 e6
          have h7 := Carries3.of (o := o) ?_ e6
          rotate_left
          · exact State.queueMeter_carries h1
          extract_lets +onlyGivenNames v8
          refine pIte (P := Carries o) ?_ ?_
          · exact State.dryCopy_carries h7
          · extract_lets +onlyGivenNames v9
            have h10 : Carries o v9 := by
              unfold v9
              exact State.setHostCopies_carries h7
            clear_value v9
            exact State.chServeAll_carries (State.chAppendPacket_carries (State.satBump_carries h10))
        · rename_i x11 x12 x13 s14 e15 e16
          have h17 := Carries3.of (o := o) ?_ e16
          rotate_left
          · exact State.queueMeter_carries h1
          exact State.dryCopy_carries h17

theorem State.admitBus_carries {o : State} {s : State} {c : Copy} (h1 : Carries o s) : Carries o (State.admitBus s c)
    := by
  unfold State.admitBus
  extract_lets +onlyGivenNames v1
  refine pIte (P := Carries o) ?_ ?_
  · exact State.dryCopy_carries h1
  · exact pIte (P := Carries o) (State.dryCopy_carries h1) (State.setTxQueue_carries h1)

theorem State.admitCopy_carries {o : State} {s : State} {c : Copy} (h1 : Carries o s) : Carries o (State.admitCopy s
    c) := by
  unfold State.admitCopy
  refine pIte (P := Carries o) ?_ ?_
  · exact State.admitNet_carries h1
  · exact pIte (P := Carries o) (State.admitHost_carries h1) (State.admitBus_carries h1)

theorem State.sluiceTake_carries {o : State} {s : State} {sl : Slot} (h1 : Carries o s) : Carries o (State.sluiceTake
    s sl) := by
  unfold State.sluiceTake
  extract_lets +onlyGivenNames v1
  extract_lets +onlyGivenNames v2
  extract_lets +onlyGivenNames v3
  extract_lets +onlyGivenNames v4
  extract_lets +onlyGivenNames v5
  extract_lets +onlyGivenNames v6
  split
  · rename_i x7 x8 s9 e10
    have h11 := Carries2.of (o := o) ?_ e10
    rotate_left
    · exact State.streamStage_carries h1
    extract_lets +onlyGivenNames v12
    refine pIte (P := Carries o) ?_ ?_
    · extract_lets +onlyGivenNames v13
      have h14 : Carries o v13 := by
        unfold v13
        exact State.journeyEnd_carries (State.setJourney_carries (State.countDry_carries h11))
      clear_value v13
      exact State.dryTrigger_carries (State.dropRefs_carries h14)
    · extract_lets +onlyGivenNames v15
      have h16 : Carries o v15 := by
        unfold v15
        exact State.setJourney_carries h11
      clear_value v15
      extract_lets +onlyGivenNames v17
      split
      · rename_i x18 x19 s20 e21
        have h22 := Carries2.of (o := o) ?_ e21
        rotate_left
        · exact State.makeCopies_carries h16
        extract_lets +onlyGivenNames v23
        extract_lets +onlyGivenNames v24
        have h25 : Carries o v24 := by
          unfold v24
          exact State.setJourney_carries h22
        clear_value v24
        extract_lets +onlyGivenNames v26
        have h27 : Carries o v26 := by
          unfold v26
          exact pIte (P := Carries o) (State.journeyEnd_carries (State.dropRefs_carries h25)) h25
        clear_value v26
        refine pFoldl (P := Carries o) ?_ ?_
        · exact h27
        · intro s28 x29 h30
          exact State.admitCopy_carries h30

theorem State.chargeFrame_carries {o : State} {s : State} {p : Nat} {c : Copy} (h1 : Carries o s) : Carries o
    (State.chargeFrame s p c) := by
  unfold State.chargeFrame
  extract_lets +onlyGivenNames v1
  extract_lets +onlyGivenNames v2
  extract_lets +onlyGivenNames v3
  have h4 : Carries o v3 := by
    unfold v3
    exact pIte (P := Carries o) (State.setCredit_carries h1) h1
  clear_value v3
  extract_lets +onlyGivenNames v5
  have h6 : Carries o v5 := by
    unfold v5
    exact pIte (P := Carries o) (State.setCredit_carries h4) h4
  clear_value v5
  exact pIte (P := Carries o) (State.setCredit_carries h6) h6

theorem State.classRefill_carries {o : State} {s : State} {q : Nat} (h1 : Carries o s) : Carries o (State.classRefill
    s q) := by
  unfold State.classRefill
  extract_lets +onlyGivenNames v1
  have h2 : Carries o v1 := by
    unfold v1
    exact State.setCredit_carries h1
  clear_value v1
  extract_lets +onlyGivenNames v3
  have h4 : Carries o v3 := by
    unfold v3
    exact State.setFld_carries h2
  clear_value v3
  extract_lets +onlyGivenNames v5
  extract_lets +onlyGivenNames v6
  refine pIte (P := Carries o) ?_ ?_
  · exact h4
  · exact pIte (P := Carries o) (State.setCredit_carries h4) (State.setCredit_carries h4)

theorem State.dryHostQueue_carries {o : State} {s : State} {i : Nat} {reason : Nat} (h1 : Carries o s) : Carries o
    (State.dryHostQueue s i reason) := by
  unfold State.dryHostQueue
  extract_lets +onlyGivenNames v1
  extract_lets +onlyGivenNames v2
  extract_lets +onlyGivenNames v3
  extract_lets +onlyGivenNames v4
  extract_lets +onlyGivenNames v5
  extract_lets +onlyGivenNames v6
  extract_lets +onlyGivenNames v7
  have h8 : Carries o v7 := by
    unfold v7
    exact State.chAfter_carries (State.setHostCopies_carries (State.spillKeep_carries h1))
  clear_value v7
  refine pFoldl (P := Carries o) ?_ ?_
  · exact h8
  · intro s9 x10 h11
    exact State.dryCopy_carries h11

theorem State.writeEn_carries {o : State} {s : State} {kind : Nat} {i : Nat} {en : Bool} (h1 : Carries o s) : Carries
    o (State.writeEn s kind i en) := by
  unfold State.writeEn
  split
  · rename_i x1 x2 x3 x4 e5
    extract_lets +onlyGivenNames v6
    extract_lets +onlyGivenNames v7
    have h8 : Carries o v7 := by
      unfold v7
      exact State.setFld_carries h1
    clear_value v7
    refine pIte (P := Carries o) ?_ ?_
    · exact pIte (P := Carries o) (State.setFld_carries h8) (pIte (P := Carries o) (State.setFld_carries h8) h8)
    · exact pIte (P := Carries o) (State.setFld_carries h8) (State.setFld_carries h8)

theorem State.dryHeads_carries {o : State} {s : State} {p : Nat} {c : Nat} {a : Nat} (h1 : Carries o s) : Carries o
    (State.dryHeads s p c a) := by
  induction a generalizing s p c
  · unfold State.dryHeads
    exact h1
  · rename_i n1 ih2
    unfold State.dryHeads
    extract_lets +onlyGivenNames v1
    refine pIte (P := Carries o) ?_ ?_
    · exact h1
    · split
      · rename_i x2 e3
        exact h1
      · rename_i x4 x5 x6 e7
        apply ih2
        exact State.dryCopy_carries (State.setQueue_carries h1)

theorem State.loseCopies_carries {o : State} {s : State} (h1 : Carries o s) : Carries o (State.loseCopies s) := by
  unfold State.loseCopies
  extract_lets +onlyGivenNames v1
  have h2 : Carries o v1 := by
    unfold v1
    refine pFoldl (P := Carries o) ?_ ?_
    · exact h1
    · intro s3 x4 h5
      extract_lets +onlyGivenNames v6
      refine pFoldl (P := Carries o) ?_ ?_
      · exact State.setQueue_carries h5
      · intro s7 x8 h9
        exact State.dryCopy_carries h9
  clear_value v1
  refine pFoldl (P := Carries o) ?_ ?_
  · exact h2
  · intro s10 x11 h12
    extract_lets +onlyGivenNames v13
    extract_lets +onlyGivenNames v14
    extract_lets +onlyGivenNames v15
    extract_lets +onlyGivenNames v16
    extract_lets +onlyGivenNames v17
    extract_lets +onlyGivenNames v18
    exact State.putSides_carries h12

theorem State.startFrame_carries {o : State} {s : State} {p : Nat} {c : Nat} {m : Nat} (h1 : Carries o s) : Carries2 o
    (State.startFrame s p c m) := by
  unfold State.startFrame
  split
  · rename_i x1 e2
    exact Carries2.mk h1
  · rename_i x3 x4 x5 e6
    extract_lets +onlyGivenNames v7
    have h8 : Carries o v7 := by
      unfold v7
      exact State.setQueue_carries h1
    clear_value v7
    refine pIte (P := Carries2 o) ?_ ?_
    · exact Carries2.mk (State.dryCopy_carries h8)
    · extract_lets +onlyGivenNames v9
      have h10 : Carries o v9 := by
        unfold v9
        exact State.chargeFrame_carries h8
      clear_value v9
      exact Carries2.mk (carriesMk h10 rfl rfl rfl rfl)

theorem State.selectMac_carries {o : State} {s : State} {p : Nat} {m : Nat} {may : Nat → Bool} {a : Nat} (h1 : Carries
    o s) : Carries2 o (State.selectMac s p m may a) := by
  induction a generalizing s p m may
  · unfold State.selectMac
    exact Carries2.mk h1
  · rename_i n1 ih2
    unfold State.selectMac
    split
    · rename_i x1 e2
      exact Carries2.mk h1
    · rename_i x3 x4 e5
      split
      · rename_i x6 s7 e8
        have h9 := Carries2.of (o := o) ?_ e8
        rotate_left
        · exact State.startFrame_carries h1
        exact Carries2.mk h9
      · rename_i x10 s11 e12
        have h13 := Carries2.of (o := o) ?_ e12
        rotate_left
        · exact State.startFrame_carries h1
        apply ih2
        exact h13

theorem State.stamp_carries {o : State} {s : State} {p : Nat} (h1 : Carries o s) : Carries o (State.stamp s p) := by
  unfold State.stamp
  extract_lets +onlyGivenNames v1
  have h2 : Carries o v1 := by
    unfold v1
    exact pIte (P := Carries o) h1 (State.bumpFld_carries h1)
  clear_value v1
  extract_lets +onlyGivenNames v3
  exact carriesMk h2 rfl rfl rfl rfl

theorem State.takePn_carries {o : State} {s : State} {p : Nat} (h1 : Carries o s) : Carries o (State.takePn s p) := by
  unfold State.takePn
  extract_lets +onlyGivenNames v1
  refine pIte (P := Carries o) ?_ ?_
  · exact h1
  · extract_lets +onlyGivenNames v2
    extract_lets +onlyGivenNames v3
    extract_lets +onlyGivenNames v4
    extract_lets +onlyGivenNames v5
    have h6 : Carries o v5 := by
      unfold v5
      exact carriesMk h1 rfl rfl rfl rfl
    clear_value v5
    exact pIte (P := Carries o) (State.eventSup_carries h6) h6

theorem pauseFrameReceive_carries {o : State} {s : State} {now : Nat} {p : Nat} {pfc : Bool} {classes : Nat} {quanta :
    List (BitVec 16)} (h1 : Carries o s) : Carries o (pauseFrameReceive s now p pfc classes quanta) := by
  unfold pauseFrameReceive
  extract_lets +onlyGivenNames v1
  have h2 : Carries o v1 := by
    unfold v1
    exact State.upTo_carries h1
  clear_value v1
  refine pIte (P := Carries o) ?_ ?_
  · exact h2
  · extract_lets +onlyGivenNames v3
    extract_lets +onlyGivenNames v4
    refine pFoldl (P := Carries o) ?_ ?_
    · exact h2
    · intro s5 x6 h7
      unfold v4
      extract_lets +onlyGivenNames v8
      extract_lets +onlyGivenNames v9
      refine pIte (P := Carries o) ?_ ?_
      · exact h7
      · exact pIte (P := Carries o) (carriesMk h7 rfl rfl rfl rfl) (carriesMk h7 rfl rfl rfl rfl)

theorem pauseQuantaExpire_carries {o : State} {s : State} {now : Nat} {p : Nat} {c : Nat} (h1 : Carries o s) : Carries
    o (pauseQuantaExpire s now p c) := by
  unfold pauseQuantaExpire
  extract_lets +onlyGivenNames v1
  have h2 : Carries o v1 := by
    unfold v1
    exact State.upTo_carries h1
  clear_value v1
  split
  · rename_i x3 e4
    exact h2
  · rename_i x5 x6 e7
    exact pIte (P := Carries o) h2 (carriesMk h2 rfl rfl rfl rfl)

theorem transmissionSelect_carries {o : State} {s : State} {now : Nat} {p : Nat} (h1 : Carries o s) : Carries o
    (transmissionSelect s now p) := by
  unfold transmissionSelect
  extract_lets +onlyGivenNames v1
  have h2 : Carries o v1 := by
    unfold v1
    exact State.upTo_carries h1
  clear_value v1
  refine pIte (P := Carries o) ?_ ?_
  · exact h2
  · extract_lets +onlyGivenNames v3
    extract_lets +onlyGivenNames v4
    have h5 : Carries o v4 := by
      unfold v4
      refine pFoldl (P := Carries o) ?_ ?_
      · exact h2
      · intro s6 x7 h8
        exact State.dryHeads_carries h8
    clear_value v4
    extract_lets +onlyGivenNames v9
    extract_lets +onlyGivenNames v10
    extract_lets +onlyGivenNames v11
    refine pIte (P := Carries o) ?_ ?_
    · exact pIte (P := Carries o) h5 (Carries2.snd (State.selectMac_carries h5))
    · refine pIte (P := Carries o) ?_ ?_
      · exact h5
      · split
        · rename_i x12 s13 e14
          have h15 := Carries2.of (o := o) ?_ e14
          rotate_left
          · exact State.selectMac_carries h5
          exact h15
        · rename_i x16 s17 e18
          have h19 := Carries2.of (o := o) ?_ e18
          rotate_left
          · exact State.selectMac_carries h5
          exact pIte (P := Carries o) h19 (Carries2.snd (State.selectMac_carries h19))

theorem frameTransmitEnd_carries {o : State} {s : State} {now : Nat} {p : Nat} {express : Bool} (h1 : Carries o s) :
    Carries o (frameTransmitEnd s now p express) := by
  unfold frameTransmitEnd
  extract_lets +onlyGivenNames v1
  have h2 : Carries o v1 := by
    unfold v1
    exact State.upTo_carries h1
  clear_value v1
  extract_lets +onlyGivenNames v3
  split
  · rename_i x4 e5
    exact h2
  · rename_i x6 x7 e8
    extract_lets +onlyGivenNames v9
    extract_lets +onlyGivenNames v10
    extract_lets +onlyGivenNames v11
    have h12 : Carries o v11 := by
      unfold v11
      exact carriesMk h2 rfl rfl rfl rfl
    clear_value v11
    extract_lets +onlyGivenNames v13
    have h14 : Carries o v13 := by
      unfold v13
      exact State.emit_carries h12
    clear_value v13
    extract_lets +onlyGivenNames v15
    have h16 : Carries o v15 := by
      unfold v15
      exact State.bumpFld_carries (State.satBump_carries (State.bump_carries h14))
    clear_value v15
    extract_lets +onlyGivenNames v17
    have h18 : Carries o v17 := by
      unfold v17
      exact pIte (P := Carries o) (State.stamp_carries h16) h16
    clear_value v17
    extract_lets +onlyGivenNames v19
    have h20 : Carries o v19 := by
      unfold v19
      exact State.copyEnds_carries (State.takePn_carries h18)
    clear_value v19
    exact pIte (P := Carries o) (State.setAll_carries (State.portLinkLost_carries h20)) h20

theorem shaperRefill_carries {o : State} {s : State} {now : Nat} (h1 : Carries o s) : Carries o (shaperRefill s now)
    := by
  unfold shaperRefill
  extract_lets +onlyGivenNames v1
  have h2 : Carries o v1 := by
    unfold v1
    exact State.upTo_carries h1
  clear_value v1
  refine pIte (P := Carries o) ?_ ?_
  · exact h2
  · extract_lets +onlyGivenNames v3
    have h4 : Carries o v3 := by
      unfold v3
      refine pFoldl (P := Carries o) ?_ ?_
      · exact h2
      · intro s5 x6 h7
        exact State.setCredit_carries h7
    clear_value v3
    refine pFoldl (P := Carries o) ?_ ?_
    · exact h4
    · intro s8 x9 h10
      exact State.classRefill_carries h10

theorem fciEdge_carries {o : State} {s : State} {now : Nat} {n : Nat} {level : Bool} (h1 : Carries o s) : Carries o
    (fciEdge s now n level) := by
  unfold fciEdge
  extract_lets +onlyGivenNames v1
  have h2 : Carries o v1 := by
    unfold v1
    exact State.upTo_carries h1
  clear_value v1
  exact carriesMk h2 rfl rfl rfl rfl

theorem queueShutdownDone_carries {o : State} {s : State} {kind : Nat} {i : Nat} (h1 : Carries o s) : Carries o
    (queueShutdownDone s kind i) := by
  unfold queueShutdownDone
  split
  · rename_i x1 x2 x3 x4 e5
    exact pIte (P := Carries o) h1 (State.setAll_carries h1)

/-! ### Weir -/

theorem State.refuse_carries {o : State} {s : State} {d : Droplet} {dev : Bool} (h1 : Carries o s) : Carries o
    (State.refuse s d dev) := by
  unfold State.refuse
  extract_lets +onlyGivenNames v1
  have h2 : Carries o v1 := by
    unfold v1
    exact pIte (P := Carries o) (State.bump_carries h1) h1
  clear_value v1
  extract_lets +onlyGivenNames v3
  have h4 : Carries o v3 := by
    unfold v3
    exact State.bump_carries h2
  clear_value v3
  extract_lets +onlyGivenNames v5
  have h6 : Carries o v5 := by
    unfold v5
    exact State.eventSup_carries (State.countDry_carries h4)
  clear_value v5
  extract_lets +onlyGivenNames v7
  have h8 : Carries o v7 := by
    unfold v7
    exact State.dropVersion_carries (State.recordEnd_carries (State.dropRefs_carries h6))
  clear_value v7
  exact State.dryTrigger_carries h8

theorem State.setDomLine_carries {o : State} {s : State} {dom : Nat} {l : List Nat} (h1 : Carries o s) : Carries o
    (State.setDomLine s dom l) := by
  unfold State.setDomLine
  exact carriesMk h1 rfl rfl rfl rfl

theorem State.setSlot_carries {o : State} {s : State} {i : Nat} {v : Slot} (h1 : Carries o s) : Carries o
    (State.setSlot s i v) := by
  unfold State.setSlot
  exact carriesMk h1 rfl rfl rfl rfl

theorem State.newSlot_carries {o : State} {s : State} {sl : Slot} (h1 : Carries o s) : Carries2 o (State.newSlot s sl)
    := by
  unfold State.newSlot
  extract_lets +onlyGivenNames v1
  extract_lets +onlyGivenNames v2
  extract_lets +onlyGivenNames v3
  extract_lets +onlyGivenNames v4
  extract_lets +onlyGivenNames v5
  extract_lets +onlyGivenNames v6
  extract_lets +onlyGivenNames v7
  have h8 : Carries o v7 := by
    unfold v7
    exact State.setDomLine_carries (State.setSlot_carries h1)
  clear_value v7
  extract_lets +onlyGivenNames v9
  extract_lets +onlyGivenNames v10
  extract_lets +onlyGivenNames v11
  have h12 : Carries o v11 := by
    unfold v11
    exact carriesMk h8 rfl rfl rfl rfl
  clear_value v11
  extract_lets +onlyGivenNames v13
  have h14 : Carries o v13 := by
    unfold v13
    exact State.bump_carries h12
  clear_value v13
  exact Carries2.mk (State.wr_carries h14)

theorem State.dryEvent_carries {o : State} {s : State} {reason : Nat} (h1 : Carries o s) : Carries o (State.dryEvent s
    reason) := by
  unfold State.dryEvent
  refine pIte (P := Carries o) ?_ ?_
  · exact State.eventSup_carries h1
  · refine pIte (P := Carries o) ?_ ?_
    · exact State.eventSup_carries h1
    · exact pIte (P := Carries o) (State.eventSup_carries h1) h1

theorem State.eraseSlot_carries {o : State} {s : State} {i : Nat} (h1 : Carries o s) : Carries o (State.eraseSlot s i)
    := by
  unfold State.eraseSlot
  exact carriesMk h1 rfl rfl rfl rfl

theorem State.releaseHead_carries {o : State} {s : State} {dom : Nat} {i : Nat} {sl : Slot} {rest : List Nat} (h1 :
    Carries o s) : Carries o (State.releaseHead s dom i sl rest) := by
  unfold State.releaseHead
  extract_lets +onlyGivenNames v1
  have h2 : Carries o v1 := by
    unfold v1
    exact State.setDomLine_carries h1
  clear_value v1
  refine pIte (P := Carries o) ?_ ?_
  · exact State.sluiceTake_carries (State.eraseSlot_carries (State.bump_carries h2))
  · extract_lets +onlyGivenNames v3
    have h4 : Carries o v3 := by
      unfold v3
      exact State.recordEnd_carries h2
    clear_value v3
    refine pIte (P := Carries o) ?_ ?_
    · exact State.eraseSlot_carries (State.dropVersion_carries (State.dropRefs_carries h4))
    · refine pIte (P := Carries o) ?_ ?_
      · exact State.eraseSlot_carries (State.dropVersion_carries h4)
      · exact State.setSlot_carries h4

theorem State.releaseLine_carries {o : State} {s : State} {dom : Nat} {a : Nat} (h1 : Carries o s) : Carries o
    (State.releaseLine s dom a) := by
  induction a generalizing s dom
  · unfold State.releaseLine
    exact h1
  · rename_i n1 ih2
    unfold State.releaseLine
    split
    · rename_i x1 e2
      exact h1
    · rename_i x3 x4 x5 e6
      split
      · rename_i x7 e8
        apply ih2
        exact State.setDomLine_carries h1
      · rename_i x9 x10 e11
        refine pIte (P := Carries o) ?_ ?_
        · exact h1
        · apply ih2
          exact State.releaseHead_carries h1

theorem State.advance_carries {o : State} {s : State} {dom : Nat} (h1 : Carries o s) : Carries o (State.advance s dom)
    := by
  unfold State.advance
  exact State.releaseLine_carries h1

theorem State.complete_carries {o : State} {s : State} {i : Nat} {sl : Slot} {d : Droplet} (h1 : Carries o s) :
    Carries o (State.complete s i sl d) := by
  unfold State.complete
  extract_lets +onlyGivenNames v1
  extract_lets +onlyGivenNames v2
  have h3 : Carries o v2 := by
    unfold v2
    exact State.setSlot_carries h1
  clear_value v2
  extract_lets +onlyGivenNames v4
  have h5 : Carries o v4 := by
    unfold v4
    refine pIte (P := Carries o) ?_ ?_
    · exact h3
    · exact State.dryTrigger_carries (State.dryEvent_carries (State.countDry_carries h3))
  clear_value v4
  exact State.advance_carries h5

theorem State.switchDone_carries {o : State} {s : State} {map : Nat} (h1 : Carries o s) : Carries o (State.switchDone
    s map) := by
  unfold State.switchDone
  extract_lets +onlyGivenNames v1
  extract_lets +onlyGivenNames v2
  extract_lets +onlyGivenNames v3
  have h4 : Carries o v3 := by
    unfold v3
    exact carriesMk h1 rfl rfl rfl rfl
  clear_value v3
  extract_lets +onlyGivenNames v5
  have h6 : Carries o v5 := by
    unfold v5
    exact State.setAll_carries h4
  clear_value v5
  exact State.eventSup_carries h6

theorem State.switchName_carries {o : State} {s : State} {map : Nat} {basin : Nat} {why : Nat} (h1 : Carries o s) :
    Carries o (State.switchName s map basin why) := by
  unfold State.switchName
  extract_lets +onlyGivenNames v1
  extract_lets +onlyGivenNames v2
  have h3 : Carries o v2 := by
    unfold v2
    exact carriesMk h1 rfl rfl rfl rfl
  clear_value v2
  exact State.setAll_carries h3

theorem State.letGo_carries {o : State} {s : State} {i : Nat} (h1 : Carries o s) : Carries o (State.letGo s i) := by
  unfold State.letGo
  split
  · rename_i x1 e2
    exact h1
  · rename_i x3 x4 e5
    extract_lets +onlyGivenNames v6
    have h7 : Carries o v6 := by
      unfold v6
      exact State.dropRefs_carries h1
    clear_value v6
    refine pIte (P := Carries o) ?_ ?_
    · exact State.eraseSlot_carries (State.dropVersion_carries h7)
    · exact State.setSlot_carries h7

theorem State.drySlot_carries {o : State} {s : State} {i : Nat} {reason : Nat} (h1 : Carries o s) : Carries o
    (State.drySlot s i reason) := by
  unfold State.drySlot
  split
  · rename_i x1 e2
    exact h1
  · rename_i x3 x4 e5
    refine pIte (P := Carries o) ?_ ?_
    · exact h1
    · extract_lets +onlyGivenNames v6
      extract_lets +onlyGivenNames v7
      extract_lets +onlyGivenNames v8
      have h9 : Carries o v8 := by
        unfold v8
        exact State.setSlot_carries h1
      clear_value v8
      exact State.advance_carries (State.dryTrigger_carries (State.dryEvent_carries (State.countDry_carries h9)))

theorem State.dryHeld_carries {o : State} {s : State} {who : Nat → Bool} (h1 : Carries o s) : Carries o (State.dryHeld
    s who) := by
  unfold State.dryHeld
  extract_lets +onlyGivenNames v1
  refine pFoldl (P := Carries o) ?_ ?_
  · exact h1
  · intro s2 x3 h4
    exact State.letGo_carries (State.drySlot_carries h4)

theorem State.wcEnd_carries {o : State} {s : State} {t : Nat} {ports : List (Nat × W32)} {st : Nat} (h1 : Carries o s)
    : Carries o (State.wcEnd s t ports st) := by
  unfold State.wcEnd
  exact State.startOp_carries h1

theorem wcNext_carries {o : State} {s : State} {t : Nat} (h1 : Carries o s) : Carries1 o (wcNext s t) := by
  unfold wcNext
  extract_lets +onlyGivenNames v1
  extract_lets +onlyGivenNames v2
  clear_value v2
  split
  · rename_i x3
    exact Carries1.mk (State.wcEnd_carries h1)
  · rename_i x4 x5 x6
    exact Carries1.mk (State.wcEnd_carries (State.setSlot_carries h1))

theorem State.late_carries {o : State} {s : State} {i : Nat} {sl : Slot} (h1 : Carries o s) : Carries o (State.late s
    i sl) := by
  unfold State.late
  extract_lets +onlyGivenNames v1
  have h2 : Carries o v1 := by
    unfold v1
    exact State.setSlot_carries h1
  clear_value v1
  exact State.letGo_carries (State.bump_carries h2)

theorem State.completion_carries {o : State} {s : State} {t : Nat} {a2 : Nat} {f : Droplet → Droplet} (h1 : Carries o
    s) : Carries o (State.completion s t a2 f) := by
  unfold State.completion
  split
  · rename_i x1 x2 x3 x4 e5
    extract_lets +onlyGivenNames v6
    have h7 : Carries o v6 := by
      unfold v6
      refine pIte (P := Carries o) ?_ ?_
      · exact State.complete_carries h1
      · exact pIte (P := Carries o) (State.late_carries h1) (pIte (P := Carries o) (State.bump_carries h1) h1)
    clear_value v6
    exact State.wcEnd_carries h7

theorem wcSend_carries {o : State} {s : State} {t : Nat} {x : Nat} (h1 : Carries o s) : Carries1 o (wcSend s t x) :=
    by
  unfold wcSend
  extract_lets +onlyGivenNames v1
  exact Carries1.mk (State.completion_carries h1)

theorem wcDry_carries {o : State} {s : State} {t : Nat} {x : Nat} (h1 : Carries o s) : Carries1 o (wcDry s t x) := by
  unfold wcDry
  exact Carries1.mk (State.completion_carries h1)

theorem wcRecirc_carries {o : State} {s : State} {t : Nat} {x : Nat} (h1 : Carries o s) : Carries1 o (wcRecirc s t x)
    := by
  unfold wcRecirc
  split
  · rename_i x1 x2 x3 x4 e5
    refine pIte (P := Carries1 o) ?_ ?_
    · exact Carries1.mk (State.wcEnd_carries (State.late_carries h1))
    · refine pIte (P := Carries1 o) ?_ ?_
      · exact Carries1.mk (State.wcEnd_carries (State.bump_carries h1))
      · refine pIte (P := Carries1 o) ?_ ?_
        · exact Carries1.mk (State.wcEnd_carries h1)
        · extract_lets +onlyGivenNames v6
          refine pIte (P := Carries1 o) ?_ ?_
          · exact Carries1.mk (State.wcEnd_carries h1)
          · refine pIte (P := Carries1 o) ?_ ?_
            · exact Carries1.mk (State.wcEnd_carries h1)
            · extract_lets +onlyGivenNames v7
              extract_lets +onlyGivenNames v8
              have h9 : Carries o v8 := by
                unfold v8
                exact State.setSlot_carries h1
              clear_value v8
              exact Carries1.mk (State.wcEnd_carries (State.chAppend_carries h9))

theorem sqOrig_carries {o : State} {s : State} {t : Nat} {x : Nat} (h1 : Carries o s) : Carries1 o (sqOrig s t x) :=
    by
  unfold sqOrig
  extract_lets +onlyGivenNames v1
  extract_lets +onlyGivenNames v2
  extract_lets +onlyGivenNames v3
  extract_lets +onlyGivenNames v4
  extract_lets +onlyGivenNames v5
  extract_lets +onlyGivenNames v6
  extract_lets +onlyGivenNames v7
  split
  · rename_i x8 x9 x10 x11 e12
    refine pIte (P := Carries1 o) ?_ ?_
    · exact Carries1.mk (State.startOp_carries h1)
    · refine pIte (P := Carries1 o) ?_ ?_
      · exact Carries1.mk (State.startOp_carries h1)
      · refine pIte (P := Carries1 o) ?_ ?_
        · exact Carries1.mk (State.startOp_carries h1)
        · split
          · rename_i x13 x14 x15 s16 e17
            have h18 := Carries2.of (o := o) ?_ e17
            rotate_left
            · exact State.allocHead_carries h1
            refine pIte (P := Carries1 o) ?_ ?_
            · exact Carries1.mk (State.startOp_carries h18)
            · refine pIte (P := Carries1 o) ?_ ?_
              · exact Carries1.mk (State.startOp_carries h1)
              · extract_lets +onlyGivenNames v19
                have h20 : Carries o v19 := by
                  unfold v19
                  exact pIte (P := Carries o) h18 (State.setRefTable_carries h18)
                clear_value v19
                extract_lets +onlyGivenNames v21
                extract_lets +onlyGivenNames v22
                extract_lets +onlyGivenNames v23
                have h24 : Carries o v23 := by
                  unfold v23
                  exact State.setHead_carries h20
                clear_value v23
                extract_lets +onlyGivenNames v25
                split
                · rename_i x26 x27 s28 e29
                  have h30 := Carries2.of (o := o) ?_ e29
                  rotate_left
                  · exact State.newSlot_carries (State.takeVersion_carries h24)
                  exact Carries1.mk (State.startOp_carries h30)

theorem sqDepth_carries {o : State} {s : State} {t : Nat} {x : Nat} (h1 : Carries o s) : Carries1 o (sqDepth s t x) :=
    by
  unfold sqDepth
  split
  · rename_i x1 x2 x3 e4
    refine pIte (P := Carries1 o) ?_ ?_
    · exact Carries1.mk (State.startOp_carries h1)
    · exact Carries1.mk (State.startOp_carries h1)
  · rename_i x5 x6 x7 e8
    exact Carries1.mk (State.startOp_carries h1)
  · rename_i x9 e10 e11
    exact Carries1.mk (State.startOp_carries h1)

theorem State.dryWaiting_carries {o : State} {s : State} {inPort : Nat} {reason : Nat} (h1 : Carries o s) : Carries o
    (State.dryWaiting s inPort reason) := by
  unfold State.dryWaiting
  refine pFoldl (P := Carries o) ?_ ?_
  · exact h1
  · intro s1 x2 h3
    exact State.drySlot_carries h3

theorem State.endSuspension_carries {o : State} {s : State} {classes : Nat} (h1 : Carries o s) : Carries o
    (State.endSuspension s classes) := by
  unfold State.endSuspension
  refine pFoldl (P := Carries o) ?_ ?_
  · exact h1
  · intro s1 x2 h3
    split
    · rename_i x4 e5
      exact h3
    · rename_i x6 x7 e8
      exact pIte (P := Carries o) (State.drySlot_carries h3) h3

theorem State.setSuspend_carries {o : State} {s : State} {v : Nat} (h1 : Carries o s) : Carries o (State.setSuspend s
    v) := by
  unfold State.setSuspend
  extract_lets +onlyGivenNames v1
  extract_lets +onlyGivenNames v2
  exact State.endSuspension_carries (State.wr_carries (State.wr_carries h1))

theorem weirHoldSuspendWrite_carries {o : State} {s : State} {part : Nat} {v : Nat} (h1 : Carries o s) : Carries o
    (weirHoldSuspendWrite s part v) := by
  unfold weirHoldSuspendWrite
  exact pIte (P := Carries o) h1 (State.setSuspend_carries h1)

theorem State.dryCirculating_carries {o : State} {s : State} {who : Nat → Bool} (h1 : Carries o s) : Carries o
    (State.dryCirculating s who) := by
  unfold State.dryCirculating
  refine pFoldl (P := Carries o) ?_ ?_
  · exact h1
  · intro s1 x2 h3
    exact State.drySlot_carries h3

theorem State.takeIn_carries {o : State} {s : State} {sl : Slot} {drop : Bool} (h1 : Carries o s) : Carries o
    (State.takeIn s sl drop) := by
  unfold State.takeIn
  extract_lets +onlyGivenNames v1
  split
  · rename_i x2 x3 e4
    exact State.refuse_carries h1
  · rename_i x5 e6
    extract_lets +onlyGivenNames v7
    split
    · rename_i x8 x9 s10 e11
      have h12 := Carries2.of (o := o) ?_ e11
      rotate_left
      · exact State.newSlot_carries h1
      extract_lets +onlyGivenNames v13
      extract_lets +onlyGivenNames v14
      have h15 : Carries o v14 := by
        unfold v14
        exact State.recordAdmit_carries h12
      clear_value v14
      refine pIte (P := Carries o) ?_ ?_
      · exact State.drySlot_carries h15
      · exact pIte (P := Carries o) (State.drySlot_carries h15) h15

theorem State.loseDroplets_carries {o : State} {s : State} (h1 : Carries o s) : Carries o (State.loseDroplets s) := by
  unfold State.loseDroplets
  refine pFoldl (P := Carries o) ?_ ?_
  · exact h1
  · intro s1 x2 h3
    exact State.drySlot_carries h3

theorem weirDomStat0Read_carries {o : State} {s : State} {part : Nat} (h1 : Carries o s) : Carries o (weirDomStat0Read
    s part) := by
  unfold weirDomStat0Read
  refine pIte (P := Carries o) ?_ ?_
  · exact h1
  · extract_lets +onlyGivenNames v1
    extract_lets +onlyGivenNames v2
    extract_lets +onlyGivenNames v3
    extract_lets +onlyGivenNames v4
    extract_lets +onlyGivenNames v5
    extract_lets +onlyGivenNames v6
    exact State.emit_carries (State.setAll_carries h1)

theorem State.reclassify_carries {o : State} {s : State} {i : Nat} {sl : Slot} (h1 : Carries o s) : Carries o
    (State.reclassify s i sl) := by
  unfold State.reclassify
  split
  · rename_i x1 x2 x3 x4 s5 e6
    have h7 := Carries2.of (o := o) ?_ e6
    rotate_left
    · exact State.classifyPass_carries h1
    extract_lets +onlyGivenNames v8
    extract_lets +onlyGivenNames v9
    have h10 : Carries o v9 := by
      unfold v9
      exact State.setSlot_carries h7
    clear_value v9
    exact pIte (P := Carries o) (State.drySlot_carries h10) h10

theorem dropletDispatch_carries {o : State} {s : State} {t : Nat} (h1 : Carries o s) : Carries o (dropletDispatch s t)
    := by
  unfold dropletDispatch
  refine pIte (P := Carries o) ?_ ?_
  · exact h1
  · split
    · rename_i x1 e2
      exact h1
    · rename_i x3 x4 x5 e6
      extract_lets +onlyGivenNames v7
      have h8 : Carries o v7 := by
        unfold v7
        exact State.setSlot_carries h1
      clear_value v7
      exact State.setEvent_carries (carriesMk h8 rfl rfl rfl rfl)

theorem holdExpire_carries {o : State} {s : State} {now : Nat} {i : Nat} (h1 : Carries o s) : Carries o (holdExpire s
    now i) := by
  unfold holdExpire
  extract_lets +onlyGivenNames v1
  have h2 : Carries o v1 := by
    unfold v1
    exact State.upTo_carries h1
  clear_value v1
  split
  · rename_i x3 e4
    exact h2
  · rename_i x5 x6 e7
    exact pIte (P := Carries o) (State.drySlot_carries h2) h2

theorem recircClassify_carries {o : State} {s : State} (h1 : Carries o s) : Carries o (recircClassify s) := by
  unfold recircClassify
  refine pIte (P := Carries o) ?_ ?_
  · exact h1
  · split
    · rename_i x1 e2
      exact h1
    · rename_i x3 x4 e5
      extract_lets +onlyGivenNames v6
      extract_lets +onlyGivenNames v7
      extract_lets +onlyGivenNames v8
      extract_lets +onlyGivenNames v9
      have h10 : Carries o v9 := by
        unfold v9
        exact State.chDrop_carries h1
      clear_value v9
      split
      · rename_i x11 e12
        exact h10
      · rename_i x13 x14 x15 e16
        refine pIte (P := Carries o) ?_ ?_
        · exact h10
        · exact pIte (P := Carries o) (State.drySlot_carries h10) (State.reclassify_carries h10)

end Sys2Proof.Machine
end

