-- ==== Sys2Proof/Laws/CarryWindow.lean ====
section
/-! SUPPORT. What the operations of Window, Helpers, Loadstore carry from state to state. -/

namespace Sys2Proof.Machine

open Sys2Proof

/-! ### Window -/

theorem State.bodyReq_carries {o : State} {s : State} {d : Droplet} {off : Nat} {n : Nat} {write : Bool} (h1 : Carries
    o s) : Carries o (State.bodyReq s d off n write) := by
  unfold State.bodyReq
  extract_lets +onlyGivenNames v1
  exact pIte (P := Carries o) h1 (State.ipdReqs_carries h1)

theorem State.packetOp_carries {o : State} {s : State} {t : Nat} {off : Nat} {n : Nat} {f : Nat → Slot → State} (h1 :
    Carries o s) (h5 : ∀ y0 y1, Carries o (f y0 y1)) : Carries1 o (State.packetOp s t off n f) := by
  unfold State.packetOp
  extract_lets +onlyGivenNames v1
  split
  · rename_i x2 x3 x4 x5 e6
    refine pIte (P := Carries1 o) ?_ ?_
    · exact Carries1.mk (State.startOp_carries h1)
    · extract_lets +onlyGivenNames v7
      have h8 : Carries o v7 := by
        unfold v7
        apply h5
      clear_value v7
      split
      · rename_i x9 e10
        exact Carries1.mk h8
      · rename_i x11 x12 e13
        exact Carries1.mk (pIte (P := Carries o) (State.putOp_carries h8) h8)

theorem pwLoad_carries {o : State} {s : State} {t : Nat} {x : Nat} {n : Nat} (h1 : Carries o s) : Carries1 o (pwLoad s
    t x n) := by
  unfold pwLoad
  refine State.packetOp_carries ?_ ?_
  · exact h1
  · intro x1 x2
    extract_lets +onlyGivenNames v3
    refine pIte (P := Carries o) ?_ ?_
    · exact State.startOp_carries h1
    · split
      · rename_i x4 e5
        exact State.startOp_carries h1
      · rename_i x6 x7 e8
        exact State.startOp_carries (State.bodyReq_carries h1)

theorem State.writePacket_carries {o : State} {s : State} {d : Droplet} {off : Nat} {bs : List Byte} (h1 : Carries o
    s) : Carries o (State.writePacket s d off bs) := by
  unfold State.writePacket
  extract_lets +onlyGivenNames v1
  extract_lets +onlyGivenNames v2
  extract_lets +onlyGivenNames v3
  extract_lets +onlyGivenNames v4
  have h5 : Carries o v4 := by
    unfold v4
    exact pIte (P := Carries o) h1 (State.setHead_carries h1)
  clear_value v4
  exact pIte (P := Carries o) h5 (State.ipdWrite_carries h5)

theorem pwStore_carries {o : State} {s : State} {t : Nat} {x : Nat} {n : Nat} (h1 : Carries o s) : Carries1 o (pwStore
    s t x n) := by
  unfold pwStore
  refine State.packetOp_carries ?_ ?_
  · exact h1
  · intro x1 x2
    extract_lets +onlyGivenNames v3
    refine pIte (P := Carries o) ?_ ?_
    · exact State.startOp_carries h1
    · refine pIte (P := Carries o) ?_ ?_
      · exact State.startOp_carries h1
      · exact State.startOp_carries (State.bodyReq_carries (State.writePacket_carries h1))

theorem pwIns_carries {o : State} {s : State} {t : Nat} {x : Nat} (h1 : Carries o s) : Carries1 o (pwIns s t x) := by
  unfold pwIns
  refine State.packetOp_carries ?_ ?_
  · exact h1
  · intro x1 x2
    extract_lets +onlyGivenNames v3
    extract_lets +onlyGivenNames v4
    extract_lets +onlyGivenNames v5
    refine pIte (P := Carries o) ?_ ?_
    · exact State.startOp_carries h1
    · exact pIte (P := Carries o) (State.startOp_carries h1) (State.startOp_carries (State.setHead_carries h1))

theorem pwDel_carries {o : State} {s : State} {t : Nat} {x : Nat} (h1 : Carries o s) : Carries1 o (pwDel s t x) := by
  unfold pwDel
  refine State.packetOp_carries ?_ ?_
  · exact h1
  · intro x1 x2
    extract_lets +onlyGivenNames v3
    extract_lets +onlyGivenNames v4
    extract_lets +onlyGivenNames v5
    exact pIte (P := Carries o) (State.startOp_carries h1) (State.startOp_carries (State.setHead_carries h1))

theorem pwLen_carries {o : State} {s : State} {t : Nat} (h1 : Carries o s) : Carries1 o (pwLen s t) := by
  unfold pwLen
  refine State.packetOp_carries ?_ ?_
  · exact h1
  · intro x1 x2
    exact State.startOp_carries h1

theorem State.dropletRead_carries {o : State} {s : State} {t : Nat} {f : Slot → Nat} (h1 : Carries o s) : Carries1 o
    (State.dropletRead s t f) := by
  unfold State.dropletRead
  split
  · rename_i x1 x2 x3 x4 e5
    exact Carries1.mk (pIte (P := Carries o) (State.startOp_carries h1) (State.startOp_carries h1))

theorem dlRd_carries {o : State} {s : State} {t : Nat} {x : Nat} (h1 : Carries o s) : Carries1 o (dlRd s t x) := by
  unfold dlRd
  exact State.dropletRead_carries h1

theorem dlWr_carries {o : State} {s : State} {t : Nat} {x : Nat} (h1 : Carries o s) : Carries1 o (dlWr s t x) := by
  unfold dlWr
  split
  · rename_i x1 x2 x3 x4 e5
    refine pIte (P := Carries1 o) ?_ ?_
    · exact Carries1.mk (State.startOp_carries h1)
    · split
      · rename_i x6 e7
        exact Carries1.mk h1
      · rename_i x8 x9 e10
        exact Carries1.mk (State.startOp_carries (State.setSlot_carries h1))

theorem dlFlk_carries {o : State} {s : State} {t : Nat} {x : Nat} (h1 : Carries o s) : Carries1 o (dlFlk s t x) := by
  unfold dlFlk
  exact State.dropletRead_carries h1

theorem dlKey_carries {o : State} {s : State} {t : Nat} {x : Nat} (h1 : Carries o s) : Carries1 o (dlKey s t x) := by
  unfold dlKey
  exact State.dropletRead_carries h1

theorem dlLay_carries {o : State} {s : State} {t : Nat} {x : Nat} (h1 : Carries o s) : Carries1 o (dlLay s t x) := by
  unfold dlLay
  exact State.dropletRead_carries h1

theorem dlPinfo_carries {o : State} {s : State} {t : Nat} {x : Nat} (h1 : Carries o s) : Carries1 o (dlPinfo s t x) :=
    by
  unfold dlPinfo
  split
  · rename_i x1 x2 x3 x4 e5
    refine pIte (P := Carries1 o) ?_ ?_
    · exact Carries1.mk (State.startOp_carries h1)
    · refine pIte (P := Carries1 o) ?_ ?_
      · exact Carries1.mk (State.startOp_carries h1)
      · refine pIte (P := Carries1 o) ?_ ?_
        · exact Carries1.mk (State.startOp_carries h1)
        · exact Carries1.mk (State.startOp_carries h1)

/-! ### Helpers -/

theorem State.hlpPowerUp_carries {o : State} {s : State} {b : Nat} {a2 : Nat} {pass : Bool} (h1 : Carries o s) :
    Carries o (State.hlpPowerUp s b a2 pass) := by
  unfold State.hlpPowerUp
  exact pIte (P := Carries o) (State.setFld_carries h1) (State.eventBit_carries (State.setFld_carries h1))

theorem State.hlpBasinUp_carries {o : State} {s : State} {b : Nat} (h1 : Carries o s) : Carries o (State.hlpBasinUp s
    b) := by
  unfold State.hlpBasinUp
  split
  · rename_i x1 x2 s3 e4
    have h5 := Carries2.of (o := o) ?_ e4
    rotate_left
    · exact State.free_carries h1
    refine pFoldl (P := Carries o) ?_ ?_
    · exact h5
    · intro s6 x7 h8
      refine pIte (P := Carries o) ?_ ?_
      · exact h8
      · refine pIte (P := Carries o) ?_ ?_
        · exact State.hlpPowerUp_carries (State.setFld_carries h8)
        · exact pIte (P := Carries o) (State.setFld_carries h8) h8

theorem State.setHelper_carries {o : State} {s : State} {b : Nat} {a2 : Nat} {v : Helper} (h1 : Carries o s) : Carries
    o (State.setHelper s b a2 v) := by
  unfold State.setHelper
  exact carriesMk h1 rfl rfl rfl rfl

theorem State.freeWindow_carries {o : State} {s : State} {t : Nat} (h1 : Carries o s) : Carries o (State.freeWindow s
    t) := by
  unfold State.freeWindow
  split
  · rename_i x1 e2
    exact h1
  · rename_i x3 x4 e5
    exact pIte (P := Carries o) (State.putOp_carries h1) h1

theorem State.hlpDone_carries {o : State} {s : State} {t : Nat} {a2 : Nat} (h1 : Carries o s) : Carries o
    (State.hlpDone s t a2) := by
  unfold State.hlpDone
  extract_lets +onlyGivenNames v1
  split
  · rename_i x2 e3
    exact h1
  · rename_i x4 x5 e6
    extract_lets +onlyGivenNames v7
    extract_lets +onlyGivenNames v8
    have h9 : Carries o v8 := by
      unfold v8
      split
      · rename_i x10 e11
        exact h1
      · rename_i x12 x13 x14 e15
        exact pIte (P := Carries o) h1 (State.setHelper_carries h1)
    clear_value v8
    extract_lets +onlyGivenNames v16
    have h17 : Carries o v16 := by
      unfold v16
      exact State.freeWindow_carries (State.completeOp_carries h9)
    clear_value v16
    exact pIte (P := Carries o) (State.setEvent_carries h17) h17

theorem State.hlpBasinDown_carries {o : State} {s : State} {b : Nat} (h1 : Carries o s) : Carries o
    (State.hlpBasinDown s b) := by
  unfold State.hlpBasinDown
  refine pFoldl (P := Carries o) ?_ ?_
  · exact h1
  · intro s1 x2 h3
    exact pIte (P := Carries o) (State.setFld_carries h3) h3

theorem State.saveSlot_carries {o s : State} {b h k : Nat} {regs : List Nat} (h1 : Carries o s) :
    Carries o (s.saveSlot b h k regs) := by
  unfold State.saveSlot
  generalize ((fullRegs regs).map fun v => leBytes 16 v).flatten = bytes
  extract_lets a
  exact carriesUp h1 (fun h => h.stage) (fun h => ⟨h.mem.ipd, cellWrite_wf _ _ h.mem.shared, h.mem.scratch⟩) (fun h =>
      h.host)
    (fun h => h.fth)

theorem State.saveLive_carries {o : State} {s : State} {b : Nat} {a2 : Nat} (h1 : Carries o s) : Carries o
    (State.saveLive s b a2) := by
  unfold State.saveLive
  split
  · rename_i x1 e2
    exact h1
  · rename_i x3 x4 e5
    exact State.saveSlot_carries h1

theorem helperShutdownDone_carries {o : State} {s : State} {b : Nat} {a2 : Nat} {katPass : Bool} (h1 : Carries o s) :
    Carries o (helperShutdownDone s b a2 katPass) := by
  unfold helperShutdownDone
  refine pIte (P := Carries o) ?_ ?_
  · exact h1
  · extract_lets +onlyGivenNames v1
    have h2 : Carries o v1 := by
      unfold v1
      exact State.saveLive_carries h1
    clear_value v1
    extract_lets +onlyGivenNames v3
    extract_lets +onlyGivenNames v4
    have h5 : Carries o v4 := by
      unfold v4
      exact State.setHelper_carries h2
    clear_value v4
    extract_lets +onlyGivenNames v6
    have h7 : Carries o v6 := by
      unfold v6
      exact State.setFld_carries h5
    clear_value v6
    exact pIte (P := Carries o) (State.hlpPowerUp_carries (State.setFld_carries h7)) h7

theorem State.setClaim_carries {o : State} {s : State} {b : Nat} {a2 : Nat} {k : Option Nat} (h1 : Carries o s) :
    Carries o (State.setClaim s b a2 k) := by
  unfold State.setClaim
  exact State.setFld_carries (State.setHelper_carries h1)

theorem State.hlpGiveUp_carries {o : State} {s : State} {b : Nat} {a2 : Nat} {k : Nat} (h1 : Carries o s) : Carries o
    (State.hlpGiveUp s b a2 k) := by
  unfold State.hlpGiveUp
  extract_lets +onlyGivenNames v1
  exact pIte (P := Carries o) (State.setClaim_carries (State.setHelper_carries h1)) h1

theorem State.hlpSquash_carries {o : State} {s : State} {t : Nat} {a2 : Nat} {releases : Bool} (h1 : Carries o s) :
    Carries o (State.hlpSquash s t a2 releases) := by
  unfold State.hlpSquash
  extract_lets +onlyGivenNames v1
  extract_lets +onlyGivenNames v2
  extract_lets +onlyGivenNames v3
  split
  · rename_i x4 x5 e6
    refine pIte (P := Carries o) ?_ ?_
    · extract_lets +onlyGivenNames v7
      have h8 : Carries o v7 := by
        unfold v7
        exact State.freeWindow_carries (State.updThread_carries h1)
      clear_value v7
      exact State.bump_carries (State.setHelper_carries h8)
    · extract_lets +onlyGivenNames v9
      have h10 : Carries o v9 := by
        unfold v9
        exact State.hlpDone_carries h1
      clear_value v9
      exact pIte (P := Carries o) (State.hlpGiveUp_carries h10) h10
  · rename_i x11 e12
    refine pIte (P := Carries o) ?_ ?_
    · exact h1
    · exact pIte (P := Carries o) (State.setHelper_carries h1) (State.hlpGiveUp_carries h1)

theorem State.hlpLeave_carries {o : State} {s : State} {t : Nat} (h1 : Carries o s) : Carries o (State.hlpLeave s t)
    := by
  unfold State.hlpLeave
  exact pIte (P := Carries o) h1 (State.hlpSquash_carries (State.hlpSquash_carries h1))

theorem State.hlpStale_carries {o : State} {s : State} {t : Nat} {a2 : Nat} (h1 : Carries o s) : Carries o
    (State.hlpStale s t a2) := by
  unfold State.hlpStale
  split
  · rename_i x1 e2
    exact h1
  · rename_i x3 x4 e5
    exact pIte (P := Carries o) (State.hlpSquash_carries h1) h1

theorem State.hlpStaleAll_carries {o : State} {s : State} {t : Nat} (h1 : Carries o s) : Carries o (State.hlpStaleAll
    s t) := by
  unfold State.hlpStaleAll
  refine pIte (P := Carries o) ?_ ?_
  · exact h1
  · refine pFoldl (P := Carries o) ?_ ?_
    · exact h1
    · intro s1 x2 h3
      exact State.hlpStale_carries (State.hlpStale_carries h3)

theorem hlpClaim_carries {o : State} {s : State} {t : Nat} {a2 : Nat} (h1 : Carries o s) : Carries1 o (hlpClaim s t
    a2) := by
  unfold hlpClaim
  extract_lets +onlyGivenNames v1
  extract_lets +onlyGivenNames v2
  extract_lets +onlyGivenNames v3
  refine pIte (P := Carries1 o) ?_ ?_
  · exact Carries1.mk (State.startOp_carries h1)
  · refine pIte (P := Carries1 o) ?_ ?_
    · exact Carries1.mk (State.startOp_carries h1)
    · split
      · rename_i x4 x5 e6
        exact Carries1.mk (State.startOp_carries h1)
      · rename_i x7 e8
        exact Carries1.mk (State.startOp_carries (State.setClaim_carries h1))

theorem State.hlpGate_carries {o : State} {s : State} {t : Nat} {a2 : Nat} {needs : Bool} {f : Nat → Nat → State} (h1
    : Carries o s) (h5 : ∀ y0 y1, Carries o (f y0 y1)) : Carries1 o (State.hlpGate s t a2 needs f) := by
  unfold State.hlpGate
  extract_lets +onlyGivenNames v1
  extract_lets +onlyGivenNames v2
  extract_lets +onlyGivenNames v3
  refine pIte (P := Carries1 o) ?_ ?_
  · exact Carries1.mk (State.startOp_carries h1)
  · refine pIte (P := Carries1 o) ?_ ?_
    · exact Carries1.mk (State.startOp_carries h1)
    · refine pIte (P := Carries1 o) ?_ ?_
      · exact Carries1.mk (State.startOp_carries h1)
      · refine pIte (P := Carries1 o) ?_ ?_
        · exact Carries1.mk (State.startOp_carries h1)
        · refine Carries1.mk ?_
          apply h5

theorem hlpRel_carries {o : State} {s : State} {t : Nat} {a2 : Nat} (h1 : Carries o s) : Carries1 o (hlpRel s t a2) :=
    by
  unfold hlpRel
  refine State.hlpGate_carries ?_ ?_
  · exact h1
  · intro x1 x2
    exact State.startOp_carries (State.setHelper_carries (State.setClaim_carries h1))

theorem State.hlpSwitch_carries {o : State} {s : State} {b : Nat} {a2 : Nat} {k : Nat} (h1 : Carries o s) : Carries2 o
    (State.hlpSwitch s b a2 k) := by
  unfold State.hlpSwitch
  refine pIte (P := Carries2 o) ?_ ?_
  · exact Carries2.mk h1
  · extract_lets +onlyGivenNames v1
    have h2 : Carries o v1 := by
      unfold v1
      exact State.saveLive_carries h1
    clear_value v1
    extract_lets +onlyGivenNames v3
    refine pIte (P := Carries2 o) ?_ ?_
    · extract_lets +onlyGivenNames v4
      have h5 : Carries o v4 := by
        unfold v4
        exact State.setHelper_carries h2
      clear_value v4
      exact Carries2.mk (State.eventSup_carries (State.bump_carries h5))
    · exact Carries2.mk (State.bump_carries (State.setHelper_carries h2))

theorem State.hlpWork_carries {o : State} {s : State} {t : Nat} {a2 : Nat} {f : State → Nat → Helper → State} (h1 :
    Carries o s) (h4 : ∀ y0 y1 y2, Carries o y0 → Carries o (f y0 y1 y2)) : Carries1 o (State.hlpWork s t a2 f) := by
  unfold State.hlpWork
  refine State.hlpGate_carries ?_ ?_
  · exact h1
  · intro x1 x2
    split
    · rename_i x3 s4 e5
      have h6 := Carries2.of (o := o) ?_ e5
      rotate_left
      · exact State.hlpSwitch_carries h1
      exact State.startOp_carries h6
    · rename_i x7 s8 e9
      have h10 := Carries2.of (o := o) ?_ e9
      rotate_left
      · exact State.hlpSwitch_carries h1
      apply h4
      exact h10

theorem State.hlpRunning_carries {o : State} {s : State} {t : Nat} {a2 : Nat} {what : Nat} (h1 : Carries o s) :
    Carries o (State.hlpRunning s t a2 what) := by
  unfold State.hlpRunning
  split
  · rename_i x1 e2
    exact h1
  · rename_i x3 x4 e5
    exact State.putOp_carries h1

theorem State.hlpRun_carries {o : State} {s : State} {t : Nat} {a2 : Nat} {b : Nat} {what : Nat} {regs : List Nat}
    {opened : Option W32} {st : Nat} (h1 : Carries o s) : Carries o (State.hlpRun s t a2 b what regs opened st) := by
  unfold State.hlpRun
  exact State.hlpRunning_carries (State.startOp_carries (State.setHelper_carries h1))

theorem hlpWr_carries {o : State} {s : State} {t : Nat} {a2 : Nat} {x : Nat} (h1 : Carries o s) : Carries1 o (hlpWr s
    t a2 x) := by
  unfold hlpWr
  extract_lets +onlyGivenNames v1
  refine State.hlpWork_carries ?_ ?_
  · exact h1
  · intro s2 x3 x4 h5
    extract_lets +onlyGivenNames v6
    exact State.hlpRun_carries h5

theorem hlpRd_carries {o : State} {s : State} {t : Nat} {a2 : Nat} {x : Nat} (h1 : Carries o s) : Carries1 o (hlpRd s
    t a2 x) := by
  unfold hlpRd
  refine State.hlpWork_carries ?_ ?_
  · exact h1
  · intro s1 x2 x3 h4
    extract_lets +onlyGivenNames v5
    exact State.startOp_carries h4

theorem State.hlpMark_carries {o : State} {s : State} {t : Nat} {a2 : Nat} {feed : Option Nat} (h1 : Carries o s) :
    Carries o (State.hlpMark s t a2 feed) := by
  unfold State.hlpMark
  split
  · rename_i x1 e2
    exact h1
  · rename_i x3 x4 e5
    exact State.putOp_carries h1

theorem State.hlpOp_carries {o : State} {s : State} {t : Nat} {a2 : Nat} {x : Nat} {f : List Nat → List Nat} {opens :
    Bool} (h1 : Carries o s) : Carries1 o (State.hlpOp s t a2 x f opens) := by
  unfold State.hlpOp
  split
  · rename_i x1 s2 x3 e4
    have h5 := Carries1.of (o := o) ?_ e4
    rotate_left
    · refine State.hlpWork_carries ?_ ?_
      · exact h1
      · intro s6 x7 x8 h9
        exact pIte (P := Carries o) (State.startOp_carries h9) (State.hlpRun_carries h9)
    exact Carries1.mk (State.hlpMark_carries h5)

theorem opGcmInit_carries {o : State} {s : State} {t : Nat} {x : Nat} (h1 : Carries o s) : Carries1 o (opGcmInit s t
    x) := by
  unfold opGcmInit
  exact State.hlpOp_carries h1

theorem opGcmTag_carries {o : State} {s : State} {t : Nat} {x : Nat} (h1 : Carries o s) : Carries1 o (opGcmTag s t x)
    := by
  unfold opGcmTag
  exact State.hlpOp_carries h1

theorem opCmacInit_carries {o : State} {s : State} {t : Nat} {x : Nat} (h1 : Carries o s) : Carries1 o (opCmacInit s t
    x) := by
  unfold opCmacInit
  exact State.hlpOp_carries h1

theorem opCmacTag_carries {o : State} {s : State} {t : Nat} {x : Nat} (h1 : Carries o s) : Carries1 o (opCmacTag s t
    x) := by
  unfold opCmacTag
  exact State.hlpOp_carries h1

theorem opAesBlk_carries {o : State} {s : State} {t : Nat} {x : Nat} (h1 : Carries o s) : Carries1 o (opAesBlk s t x)
    := by
  unfold opAesBlk
  exact State.hlpOp_carries h1

theorem opEq_carries {o : State} {s : State} {t : Nat} {x : Nat} (h1 : Carries o s) : Carries1 o (opEq s t x) := by
  unfold opEq
  exact State.hlpOp_carries h1

theorem opCrcOpen_carries {o : State} {s : State} {t : Nat} {x : Nat} (h1 : Carries o s) : Carries1 o (opCrcOpen s t
    x) := by
  unfold opCrcOpen
  exact State.hlpOp_carries h1

theorem opCrcReg_carries {o : State} {s : State} {t : Nat} {x : Nat} (h1 : Carries o s) : Carries1 o (opCrcReg s t x)
    := by
  unfold opCrcReg
  exact State.hlpOp_carries h1

theorem opCrcEnd_carries {o : State} {s : State} {t : Nat} {x : Nat} (h1 : Carries o s) : Carries1 o (opCrcEnd s t x)
    := by
  unfold opCrcEnd
  exact State.hlpOp_carries h1

theorem opCsumOpen_carries {o : State} {s : State} {t : Nat} {x : Nat} (h1 : Carries o s) : Carries1 o (opCsumOpen s t
    x) := by
  unfold opCsumOpen
  exact State.hlpOp_carries h1

theorem opCsumReg_carries {o : State} {s : State} {t : Nat} {x : Nat} (h1 : Carries o s) : Carries1 o (opCsumReg s t
    x) := by
  unfold opCsumReg
  exact State.hlpOp_carries h1

theorem opCsumEnd_carries {o : State} {s : State} {t : Nat} {x : Nat} (h1 : Carries o s) : Carries1 o (opCsumEnd s t
    x) := by
  unfold opCsumEnd
  exact State.hlpOp_carries h1

theorem opHash_carries {o : State} {s : State} {t : Nat} {x : Nat} (h1 : Carries o s) : Carries1 o (opHash s t x) :=
    by
  unfold opHash
  exact State.hlpOp_carries h1

theorem hlpOpAny_carries {o : State} {s : State} {t : Nat} {a2 : Nat} {x : Nat} (h1 : Carries o s) : Carries1 o
    (hlpOpAny s t a2 x) := by
  unfold hlpOpAny
  split
  · rename_i x1 x2 e3
    exact opGcmInit_carries h1
  · rename_i x4 x5 e6
    exact opGcmTag_carries h1
  · rename_i x7 x8 e9
    exact opCmacInit_carries h1
  · rename_i x10 x11 e12
    exact opCmacTag_carries h1
  · rename_i x13 x14 e15
    exact opAesBlk_carries h1
  · rename_i x16 x17 e18
    exact opEq_carries h1
  · rename_i x19 x20 e21
    exact opCrcOpen_carries h1
  · rename_i x22 x23 e24
    exact opCrcReg_carries h1
  · rename_i x25 x26 e27
    exact opCrcEnd_carries h1
  · rename_i x28 x29 e30
    exact opCsumOpen_carries h1
  · rename_i x31 x32 e33
    exact opCsumReg_carries h1
  · rename_i x34 x35 e36
    exact opCsumEnd_carries h1
  · rename_i x37 x38 e39
    exact opHash_carries h1
  · rename_i x40 x41 x42 e43 e44 e45 e46 e47 e48 e49 e50 e51 e52 e53 e54 e55
    exact State.hlpOp_carries h1

theorem State.feedDroplet_carries {o : State} {s : State} {t : Nat} {a2 : Nat} {b : Nat} {x : Nat} {c : Helper} {d :
    Droplet} {w : W32} (h1 : Carries o s) : Carries o (State.feedDroplet s t a2 b x c d w) := by
  unfold State.feedDroplet
  extract_lets +onlyGivenNames v1
  extract_lets +onlyGivenNames v2
  refine pIte (P := Carries o) ?_ ?_
  · exact State.startOp_carries h1
  · extract_lets +onlyGivenNames v3
    split
    · rename_i x4 e5
      split
      · rename_i x6 x7 x8 x9 e10
        exact State.hlpRun_carries (State.bump_carries (State.writePacket_carries h1))
      · rename_i x11 e12
        exact State.hlpRun_carries (State.bump_carries h1)
    · rename_i x13 x14 e15
      split
      · rename_i x16 e17
        exact State.startOp_carries h1
      · rename_i x18 x19 x20 x21 e22
        extract_lets +onlyGivenNames v23
        have h24 : Carries o v23 := by
          unfold v23
          exact State.bodyReq_carries h1
        clear_value v23
        extract_lets +onlyGivenNames v25
        have h26 : Carries o v25 := by
          unfold v25
          split
          · rename_i x27
            exact h24
          · rename_i x28 x29
            exact State.writePacket_carries h24
        clear_value v25
        exact State.hlpRun_carries h26

theorem hlpFeed_carries {o : State} {s : State} {t : Nat} {a2 : Nat} {x : Nat} (h1 : Carries o s) : Carries1 o
    (hlpFeed s t a2 x) := by
  unfold hlpFeed
  extract_lets +onlyGivenNames v1
  split
  · rename_i x2 s3 x4 e5
    have h6 := Carries1.of (o := o) ?_ e5
    rotate_left
    · refine State.hlpWork_carries ?_ ?_
      · exact h1
      · intro s7 x8 x9 h10
        split
        · rename_i x11 x12 x13 x14 e15
          refine pIte (P := Carries o) ?_ ?_
          · exact State.startOp_carries h10
          · split
            · rename_i x16 e17
              exact State.startOp_carries h10
            · rename_i x18 x19 e20
              exact State.feedDroplet_carries h10
    exact Carries1.mk (State.hlpMark_carries h6)

theorem helperEnable_carries {o : State} {s : State} {part : Nat} {b : Nat} {a3 : Nat} {katPass : Bool} (h1 : Carries
    o s) : Carries o (helperEnable s part b a3 katPass) := by
  unfold helperEnable
  refine pIte (P := Carries o) ?_ ?_
  · exact h1
  · extract_lets +onlyGivenNames v1
    have h2 : Carries o v1 := by
      unfold v1
      exact State.setFld_carries h1
    clear_value v1
    split
    · rename_i x3 e4
      exact pIte (P := Carries o) (State.hlpPowerUp_carries h2) h2
    · rename_i x5 e6
      exact State.setFld_carries h2
    · rename_i x7 e8 e9
      exact h2

theorem helperDisable_carries {o : State} {s : State} {part : Nat} {b : Nat} {a3 : Nat} (h1 : Carries o s) : Carries o
    (helperDisable s part b a3) := by
  unfold helperDisable
  refine pIte (P := Carries o) ?_ ?_
  · exact h1
  · extract_lets +onlyGivenNames v1
    have h2 : Carries o v1 := by
      unfold v1
      exact State.setFld_carries (State.setFld_carries h1)
    clear_value v1
    exact pIte (P := Carries o) (State.setFld_carries h2) h2

theorem helperOrphanEnd_carries {o : State} {s : State} {b : Nat} {a2 : Nat} (h1 : Carries o s) : Carries o
    (helperOrphanEnd s b a2) := by
  unfold helperOrphanEnd
  extract_lets +onlyGivenNames v1
  split
  · rename_i x2 e3
    exact h1
  · rename_i x4 x5 e6
    exact State.setHelper_carries h1
  · rename_i x7 x8 e9
    exact State.hlpGiveUp_carries (State.setHelper_carries h1)

theorem State.hlpClear_carries {o : State} {s : State} {e : Nat} (h1 : Carries o s) : Carries o (State.hlpClear s e)
    := by
  unfold State.hlpClear
  refine pFoldl (P := Carries o) ?_ ?_
  · exact h1
  · intro s1 x2 h3
    extract_lets +onlyGivenNames v4
    extract_lets +onlyGivenNames v5
    have h6 : Carries o v5 := by
      unfold v5
      refine pFoldl (P := Carries o) ?_ ?_
      · exact h3
      · intro s7 x8 h9
        exact State.saveSlot_carries h9
    clear_value v5
    extract_lets +onlyGivenNames v10
    split
    · rename_i x11 e12
      exact h6
    · rename_i x13 x14 e15
      exact pIte (P := Carries o) (State.setHelper_carries h6) h6

theorem opGcmAad_carries {o : State} {s : State} {t : Nat} {x : Nat} (h1 : Carries o s) : Carries1 o (opGcmAad s t x)
    := by
  unfold opGcmAad
  exact State.hlpOp_carries h1

theorem opGcmEnc_carries {o : State} {s : State} {t : Nat} {x : Nat} (h1 : Carries o s) : Carries1 o (opGcmEnc s t x)
    := by
  unfold opGcmEnc
  exact State.hlpOp_carries h1

theorem opGcmDec_carries {o : State} {s : State} {t : Nat} {x : Nat} (h1 : Carries o s) : Carries1 o (opGcmDec s t x)
    := by
  unfold opGcmDec
  exact State.hlpOp_carries h1

theorem opCmacData_carries {o : State} {s : State} {t : Nat} {x : Nat} (h1 : Carries o s) : Carries1 o (opCmacData s t
    x) := by
  unfold opCmacData
  exact State.hlpOp_carries h1

/-! ### Loadstore -/

theorem State.pteOf_carries {o : State} {s : State} {c : Nat} {va : Nat} (h1 : Carries o s) : Carries2 o (State.pteOf
    s c va) := by
  unfold State.pteOf
  extract_lets +onlyGivenNames v1
  extract_lets +onlyGivenNames v2
  extract_lets +onlyGivenNames v3
  split
  · rename_i x4 x5 x6 e7
    exact Carries2.mk (State.setCe_carries h1)
  · rename_i x8 e9
    split
    · rename_i x10 x11 x12 s13 e14
      have h15 := Carries3.of (o := o) ?_ e14
      rotate_left
      · exact State.ctrlRead_carries h1
      extract_lets +onlyGivenNames v16
      refine pIte (P := Carries2 o) ?_ ?_
      · exact Carries2.mk h15
      · refine pIte (P := Carries2 o) ?_ ?_
        · exact Carries2.mk h15
        · split
          · rename_i x17 x18 x19 s20 e21
            have h22 := Carries3.of (o := o) ?_ e21
            rotate_left
            · exact State.ctrlRead_carries h15
            extract_lets +onlyGivenNames v23
            refine pIte (P := Carries2 o) ?_ ?_
            · exact Carries2.mk h22
            · exact pIte (P := Carries2 o) (Carries2.mk h22) (Carries2.mk (State.setCe_carries h22))

theorem State.translate_carries {o : State} {s : State} {c : Nat} {va : Nat} {kind : Nat} (h1 : Carries o s) :
    Carries2 o (State.translate s c va kind) := by
  unfold State.translate
  split
  · rename_i x1 x2 x3 s4 e5
    have h6 := Carries2.of (o := o) ?_ e5
    rotate_left
    · exact State.pteOf_carries h1
    extract_lets +onlyGivenNames v7
    extract_lets +onlyGivenNames v8
    refine pIte (P := Carries2 o) ?_ ?_
    · exact Carries2.mk h6
    · exact pIte (P := Carries2 o) (Carries2.mk h6) (pIte (P := Carries2 o) (Carries2.mk h6) (Carries2.mk h6))

theorem State.placeOf_carries {o : State} {s : State} {t : Nat} {x : Nat} {write : Bool} (h1 : Carries o s) : Carries2
    o (State.placeOf s t x write) := by
  unfold State.placeOf
  split
  · rename_i x1 e2
    exact Carries2.mk h1
  · rename_i x3 x4 e5
    split
    · rename_i x6 x7 s8 e9
      have h10 := Carries2.of (o := o) ?_ e9
      rotate_left
      · exact State.translate_carries h1
      exact Carries2.mk h10
    · rename_i x11 x12 x13 s14 e15 e16
      have h17 := Carries2.of (o := o) ?_ e16
      rotate_left
      · exact State.translate_carries h1
      exact Carries2.mk h17

theorem State.sramAccess_carries {o s : State} {t : Nat} {scratch : Bool} {x : LineAcc} (h : Carries o s) :
    Carries1 o (s.sramAccess t scratch x) := by
  unfold State.sramAccess
  extract_lets m bads v n left w u
  have hm : Memory.wf m = true := pIte (P := fun m => Memory.wf m = true) h.mem.scratch h.mem.shared
  have hv : Carries o v := pIte (P := Carries o) (State.scratchFixed_carries h) h
  have hn : Memory.wf n = true := cellWrite_wf _ _ hm
  clear_value n left v m bads
  refine pIte (P := Carries1 o) (Carries1.mk h) (pIte (P := Carries1 o) ?_ (Carries1.mk (State.startOp_carries hv)))
  refine Carries1.mk (State.startOp_carries (pIte (P := Carries o) ?_ ?_))
  · exact carriesUp hv (fun h => h.stage) (fun h => ⟨h.mem.ipd, h.mem.shared, hn⟩) (fun h => h.host) (fun h => h.fth)
  · exact carriesUp hv (fun h => h.stage) (fun h => ⟨h.mem.ipd, hn, h.mem.scratch⟩) (fun h => h.host) (fun h => h.fth)

theorem State.l1Fixed_carries {o : State} {s : State} {c : Nat} {x : LineAcc} (h1 : Carries o s) : Carries o
    (State.l1Fixed s c x) := by
  unfold State.l1Fixed
  refine pIte (P := Carries o) ?_ ?_
  · exact h1
  · split
    · rename_i x1 e2
      exact h1
    · rename_i x3 x4 e5
      extract_lets +onlyGivenNames v6
      exact pIte (P := Carries o) h1 (State.eccEngine_carries (State.setCache_carries h1))

theorem State.ipdAccess_carries {o : State} {s : State} {t : Nat} {x : LineAcc} (h1 : Carries o s) : Carries1 o
    (State.ipdAccess s t x) := by
  unfold State.ipdAccess
  extract_lets +onlyGivenNames v1
  refine pIte (P := Carries1 o) ?_ ?_
  · refine pIte (P := Carries1 o) ?_ ?_
    · exact Carries1.mk h1
    · split
      · rename_i x2 x3 x4 s5 e6
        have h7 := Carries2.of (o := o) ?_ e6
        rotate_left
        · exact State.lineAccess_carries (State.l1Fixed_carries h1)
        exact Carries1.mk (State.startOp_carries h7)
  · exact Carries1.mk (State.putOp_carries (State.miss_carries h1))

theorem State.access_carries {o : State} {s : State} {t : Nat} {x : Nat} {acc : LineAcc} (h1 : Carries o s) : Carries1
    o (State.access s t x acc) := by
  unfold State.access
  split
  · rename_i x1 x2 s3 e4
    have h5 := Carries2.of (o := o) ?_ e4
    rotate_left
    · exact State.placeOf_carries h1
    exact Carries1.mk h5
  · rename_i x6 x7 s8 e9 e10
    have h11 := Carries2.of (o := o) ?_ e10
    rotate_left
    · exact State.placeOf_carries h1
    refine pIte (P := Carries1 o) ?_ ?_
    · exact Carries1.mk h11
    · split
      · rename_i x12 x13
        have h14 := Carries2.of (o := o) ?_ e10
        rotate_left
        · exact State.placeOf_carries h1
        exact State.sramAccess_carries h11
      · rename_i x15 x16
        have h17 := Carries2.of (o := o) ?_ e10
        rotate_left
        · exact State.placeOf_carries h1
        exact State.sramAccess_carries h11
      · rename_i x18 x19
        have h20 := Carries2.of (o := o) ?_ e10
        rotate_left
        · exact State.placeOf_carries h1
        exact State.ipdAccess_carries h11
      · rename_i x21 x22
        have h23 := Carries2.of (o := o) ?_ e10
        rotate_left
        · exact State.placeOf_carries h1
        exact Carries1.mk h11

theorem State.atomicPlace_carries {o : State} {s : State} {t : Nat} {x : Nat} (h1 : Carries o s) : Carries2 o
    (State.atomicPlace s t x) := by
  unfold State.atomicPlace
  extract_lets +onlyGivenNames v1
  extract_lets +onlyGivenNames v2
  refine pIte (P := Carries2 o) ?_ ?_
  · exact Carries2.mk h1
  · exact pIte (P := Carries2 o) (Carries2.mk h1) (State.placeOf_carries h1)

theorem State.ipdAtomic_carries {o : State} {s : State} {a : Nat} {n : Nat} {op : Nat} {v : Nat} {c : Nat} (h1 :
    Carries o s) : Carries2 o (State.ipdAtomic s a n op v c) := by
  unfold State.ipdAtomic
  refine pIte (P := Carries2 o) ?_ ?_
  · exact Carries2.mk h1
  · extract_lets +onlyGivenNames v1
    exact Carries2.mk (State.ipdReq_carries (State.ipdWrite_carries h1))

theorem State.atomic_carries {o : State} {s : State} {t : Nat} {x : Nat} {op : Nat} {wide : Bool} (h1 : Carries o s) :
    Carries1 o (State.atomic s t x op wide) := by
  unfold State.atomic
  extract_lets +onlyGivenNames v1
  extract_lets +onlyGivenNames v2
  extract_lets +onlyGivenNames v3
  split
  · rename_i x4 x5 s6 e7
    have h8 := Carries2.of (o := o) ?_ e7
    rotate_left
    · exact State.atomicPlace_carries h1
    exact Carries1.mk h8
  · rename_i x9 x10 s11 e12 e13
    have h14 := Carries2.of (o := o) ?_ e13
    rotate_left
    · exact State.atomicPlace_carries h1
    refine pIte (P := Carries1 o) ?_ ?_
    · exact Carries1.mk h14
    · split
      · rename_i x15 x16
        have h17 := Carries2.of (o := o) ?_ e13
        rotate_left
        · exact State.atomicPlace_carries h1
        split
        · rename_i x18 s19 e20
          have h21 := Carries2.of (o := o) ?_ e20
          rotate_left
          · exact State.ipdAtomic_carries h14
          exact Carries1.mk (State.startOp_carries h21)
        · rename_i x22 x23 s24 e25
          have h26 := Carries2.of (o := o) ?_ e25
          rotate_left
          · exact State.ipdAtomic_carries h14
          exact Carries1.mk (State.startOp_carries h26)
      · rename_i x27 x28
        have h29 := Carries2.of (o := o) ?_ e13
        rotate_left
        · exact State.atomicPlace_carries h1
        refine pIte (P := Carries1 o) ?_ ?_
        · exact Carries1.mk h14
        · extract_lets +onlyGivenNames v30
          extract_lets +onlyGivenNames v31
          refine Carries1.mk ?_
          refine State.startOp_carries ?_
          exact carriesUp h14 (fun h => h.stage) (fun h => ⟨h.mem.ipd, cellWrite_wf _ _ h.mem.shared, h.mem.scratch⟩)
              (fun h => h.host) (fun h => h.fth)
      · rename_i x32 e33 e34
        exact Carries1.mk h14

theorem lsLoad_carries {o : State} {s : State} {t : Nat} {x : Nat} {n : Nat} {sext : Bool} (h1 : Carries o s) :
    Carries1 o (lsLoad s t x n sext) := by
  unfold lsLoad
  exact State.access_carries h1

theorem lsStore_carries {o : State} {s : State} {t : Nat} {x : Nat} {n : Nat} (h1 : Carries o s) : Carries1 o (lsStore
    s t x n) := by
  unfold lsStore
  exact State.access_carries h1

theorem lsPf_carries {o : State} {s : State} {t : Nat} {x : Nat} (h1 : Carries o s) : Carries1 o (lsPf s t x) := by
  unfold lsPf
  extract_lets +onlyGivenNames v1
  split
  · rename_i x2 x3 s4 e5
    have h6 := Carries2.of (o := o) ?_ e5
    rotate_left
    · exact State.placeOf_carries h1
    extract_lets +onlyGivenNames v7
    extract_lets +onlyGivenNames v8
    have h9 : Carries o v8 := by
      unfold v8
      exact pIte (P := Carries o) h6 (State.miss_carries h6)
    clear_value v8
    exact Carries1.mk (State.startOp_carries h9)
  · rename_i x10 x11 s12 e13 e14
    have h15 := Carries2.of (o := o) ?_ e14
    rotate_left
    · exact State.placeOf_carries h1
    exact Carries1.mk (State.startOp_carries h15)

theorem State.lsMaint_carries {o : State} {s : State} {t : Nat} {x : Nat} {op : Nat} (h1 : Carries o s) : Carries1 o
    (State.lsMaint s t x op) := by
  unfold State.lsMaint
  extract_lets +onlyGivenNames v1
  extract_lets +onlyGivenNames v2
  refine pIte (P := Carries1 o) ?_ ?_
  · exact Carries1.mk (State.startOp_carries h1)
  · split
    · rename_i x3 x4 s5 e6
      have h7 := Carries2.of (o := o) ?_ e6
      rotate_left
      · exact State.placeOf_carries h1
      extract_lets +onlyGivenNames v8
      extract_lets +onlyGivenNames v9
      refine pIte (P := Carries1 o) ?_ ?_
      · extract_lets +onlyGivenNames v10
        exact Carries1.mk (State.putOp_carries (State.setCache_carries h7))
      · exact Carries1.mk (State.startOp_carries (State.maintain_carries h7))
    · rename_i x11 x12 s13 e14
      have h15 := Carries2.of (o := o) ?_ e14
      rotate_left
      · exact State.placeOf_carries h1
      exact Carries1.mk h15
    · rename_i x16 x17 s18 e19 e20 e21
      have h22 := Carries2.of (o := o) ?_ e21
      rotate_left
      · exact State.placeOf_carries h1
      exact Carries1.mk (State.startOp_carries h22)

theorem lsClean_carries {o : State} {s : State} {t : Nat} {x : Nat} (h1 : Carries o s) : Carries1 o (lsClean s t x) :=
    by
  unfold lsClean
  exact State.lsMaint_carries h1

theorem lsInv_carries {o : State} {s : State} {t : Nat} {x : Nat} (h1 : Carries o s) : Carries1 o (lsInv s t x) := by
  unfold lsInv
  exact State.lsMaint_carries h1

theorem lsCinv_carries {o : State} {s : State} {t : Nat} {x : Nat} (h1 : Carries o s) : Carries1 o (lsCinv s t x) :=
    by
  unfold lsCinv
  exact State.lsMaint_carries h1

theorem lsFence_carries {o : State} {s : State} {t : Nat} (h1 : Carries o s) : Carries1 o (lsFence s t) := by
  unfold lsFence
  extract_lets +onlyGivenNames v1
  have h2 : Carries o v1 := by
    unfold v1
    exact pIte (P := Carries o) (State.fenceLines_carries h1) h1
  clear_value v1
  exact Carries1.mk (State.startOp_carries h2)

theorem atAdd_carries {o : State} {s : State} {t : Nat} {x : Nat} {wide : Bool} (h1 : Carries o s) : Carries1 o (atAdd
    s t x wide) := by
  unfold atAdd
  exact State.atomic_carries h1

theorem atSub_carries {o : State} {s : State} {t : Nat} {x : Nat} {wide : Bool} (h1 : Carries o s) : Carries1 o (atSub
    s t x wide) := by
  unfold atSub
  exact State.atomic_carries h1

theorem atSwap_carries {o : State} {s : State} {t : Nat} {x : Nat} {wide : Bool} (h1 : Carries o s) : Carries1 o
    (atSwap s t x wide) := by
  unfold atSwap
  exact State.atomic_carries h1

theorem atCas_carries {o : State} {s : State} {t : Nat} {x : Nat} {wide : Bool} (h1 : Carries o s) : Carries1 o (atCas
    s t x wide) := by
  unfold atCas
  exact State.atomic_carries h1

theorem atAnd_carries {o : State} {s : State} {t : Nat} {x : Nat} {wide : Bool} (h1 : Carries o s) : Carries1 o (atAnd
    s t x wide) := by
  unfold atAnd
  exact State.atomic_carries h1

theorem atOr_carries {o : State} {s : State} {t : Nat} {x : Nat} {wide : Bool} (h1 : Carries o s) : Carries1 o (atOr s
    t x wide) := by
  unfold atOr
  exact State.atomic_carries h1

theorem atMin_carries {o : State} {s : State} {t : Nat} {x : Nat} {wide : Bool} (h1 : Carries o s) : Carries1 o (atMin
    s t x wide) := by
  unfold atMin
  exact State.atomic_carries h1

theorem atMax_carries {o : State} {s : State} {t : Nat} {x : Nat} {wide : Bool} (h1 : Carries o s) : Carries1 o (atMax
    s t x wide) := by
  unfold atMax
  exact State.atomic_carries h1

theorem cxTlbinv_carries {o : State} {s : State} {c : Nat} {x : Nat} (h1 : Carries o s) : Carries1 o (cxTlbinv s c x)
    := by
  unfold cxTlbinv
  extract_lets +onlyGivenNames v1
  exact Carries1.mk (State.setCe_carries h1)

theorem cxTlbflush_carries {o : State} {s : State} {c : Nat} (h1 : Carries o s) : Carries1 o (cxTlbflush s c) := by
  unfold cxTlbflush
  exact Carries1.mk (State.setCe_carries h1)

end Sys2Proof.Machine
end

