-- ==== Sys2Proof/Laws/CarryEngines.lean ====
section
/-! SUPPORT. What the operations of Engines, Basin carry from state to state. -/

namespace Sys2Proof.Machine

open Sys2Proof

/-! ### Engines -/

theorem State.logOp_carries {o : State} {s : State} {t : Nat} {u : Nat} {a3 : UnitOp} (h1 : Carries o s) : Carries o
    (State.logOp s t u a3) := by
  unfold State.logOp
  split
  · rename_i x1 e2
    exact h1
  · rename_i x3 x4 e5
    extract_lets +onlyGivenNames v6
    extract_lets +onlyGivenNames v7
    extract_lets +onlyGivenNames v8
    refine pIte (P := Carries o) ?_ ?_
    · exact pIte (P := Carries o) (State.logFlagEvent_carries h1) h1
    · refine pIte (P := Carries o) ?_ ?_
      · exact pIte (P := Carries o) (State.logDecision_carries h1) h1
      · refine pIte (P := Carries o) ?_ ?_
        · exact State.logFlagEvent_carries h1
        · refine pIte (P := Carries o) ?_ ?_
          · exact State.logDecision_carries h1
          · refine pIte (P := Carries o) ?_ ?_
            · exact State.logDecision_carries h1
            · exact pIte (P := Carries o) (pIte (P := Carries o) (State.logDecision_carries h1) h1) h1

theorem State.finishOp_carries {o : State} {s : State} {t : Nat} {u : Nat} (h1 : Carries o s) : Carries o
    (State.finishOp s t u) := by
  unfold State.finishOp
  split
  · rename_i x1 e2
    exact h1
  · rename_i x3 x4 e5
    refine pIte (P := Carries o) ?_ ?_
    · exact h1
    · extract_lets +onlyGivenNames v6
      have h7 : Carries o v6 := by
        unfold v6
        exact pIte (P := Carries o) (State.logOp_carries h1) h1
      clear_value v6
      extract_lets +onlyGivenNames v8
      have h9 : Carries o v8 := by
        unfold v8
        exact State.updThread_carries h7
      clear_value v8
      refine pIte (P := Carries o) ?_ ?_
      · exact State.hlpDone_carries h9
      · exact pIte (P := Carries o) (State.hlpDone_carries h9) (State.completeOp_carries h9)

theorem State.settleFast_carries {o : State} {s : State} {t : Nat} (h1 : Carries o s) : Carries o (State.settleFast s
    t) := by
  unfold State.settleFast
  refine pFoldl (P := Carries o) ?_ ?_
  · exact h1
  · intro s1 x2 h3
    exact State.finishOp_carries h3

theorem State.escalate_carries {o : State} {s : State} {e : Nat} {cause : Nat} (h1 : Carries o s) : Carries o
    (State.escalate s e cause) := by
  unfold State.escalate
  refine pIte (P := Carries o) ?_ ?_
  · exact h1
  · extract_lets +onlyGivenNames v1
    have h2 : Carries o v1 := by
      unfold v1
      exact State.setFld_carries (State.setFld_carries h1)
    clear_value v1
    extract_lets +onlyGivenNames v3
    extract_lets +onlyGivenNames v4
    have h5 : Carries o v4 := by
      unfold v4
      exact State.setEngine_carries h2
    clear_value v4
    exact State.eventSup_carries h5

theorem State.stillCheck_carries {o : State} {s : State} {e : Nat} (h1 : Carries o s) : Carries o (State.stillCheck s
    e) := by
  unfold State.stillCheck
  extract_lets +onlyGivenNames v1
  extract_lets +onlyGivenNames v2
  refine pIte (P := Carries o) ?_ ?_
  · exact pIte (P := Carries o) (State.setEngine_carries h1) h1
  · refine pIte (P := Carries o) ?_ ?_
    · exact h1
    · extract_lets +onlyGivenNames v3
      extract_lets +onlyGivenNames v4
      have h5 : Carries o v4 := by
        unfold v4
        exact State.setEngine_carries h1
      clear_value v4
      refine pIte (P := Carries o) ?_ ?_
      · exact h5
      · extract_lets +onlyGivenNames v6
        have h7 : Carries o v6 := by
          unfold v6
          exact State.eventSup_carries (State.bump_carries h5)
        clear_value v6
        extract_lets +onlyGivenNames v8
        extract_lets +onlyGivenNames v9
        extract_lets +onlyGivenNames v10
        have h11 : Carries o v10 := by
          unfold v10
          exact State.setEngine_carries h7
        clear_value v10
        extract_lets +onlyGivenNames v12
        have h13 : Carries o v12 := by
          unfold v12
          exact State.setEvent_carries h11
        clear_value v12
        extract_lets +onlyGivenNames v14
        have h15 : Carries o v14 := by
          unfold v14
          exact pIte (P := Carries o) (State.escalate_carries h13) h13
        clear_value v14
        exact State.setEngine_carries h15

theorem State.peFault_carries {o : State} {s : State} {t : Nat} {cause : Nat} {pc : Nat} (h1 : Carries o s) : Carries
    o (State.peFault s t cause pc) := by
  unfold State.peFault
  extract_lets +onlyGivenNames v1
  have h2 : Carries o v1 := by
    unfold v1
    exact State.bump_carries h1
  clear_value v1
  extract_lets +onlyGivenNames v3
  extract_lets +onlyGivenNames v4
  have h5 : Carries o v4 := by
    unfold v4
    exact State.updThread_carries h2
  clear_value v4
  extract_lets +onlyGivenNames v6
  have h7 : Carries o v6 := by
    unfold v6
    exact State.setEvent_carries h5
  clear_value v6
  extract_lets +onlyGivenNames v8
  have h9 : Carries o v8 := by
    unfold v8
    exact pIte (P := Carries o) (State.escalate_carries h7) h7
  clear_value v8
  exact State.stillCheck_carries h9

theorem State.faultAt_carries {o : State} {s : State} {t : Nat} {cause : Nat} {pc : Nat} {va : Nat} (h1 : Carries o s)
    : Carries o (State.faultAt s t cause pc va) := by
  unfold State.faultAt
  split
  · rename_i x1 e2
    exact State.peFault_carries h1
  · rename_i x3 x4 e5
    exact State.ceFault_carries h1

theorem State.fault_carries {o : State} {s : State} {t : Nat} {cause : Nat} {pc : Nat} (h1 : Carries o s) : Carries o
    (State.fault s t cause pc) := by
  unfold State.fault
  exact State.faultAt_carries h1

theorem State.park_carries {o : State} {s : State} {t : Nat} (h1 : Carries o s) : Carries o (State.park s t) := by
  unfold State.park
  extract_lets +onlyGivenNames v1
  have h2 : Carries o v1 := by
    unfold v1
    exact State.hlpLeave_carries h1
  clear_value v1
  extract_lets +onlyGivenNames v3
  have h4 : Carries o v3 := by
    unfold v3
    exact State.loseRequester_carries h2
  clear_value v3
  extract_lets +onlyGivenNames v5
  have h6 : Carries o v5 := by
    unfold v5
    exact State.loseChannels_carries h4
  clear_value v5
  extract_lets +onlyGivenNames v7
  have h8 : Carries o v7 := by
    unfold v7
    exact State.dryHeld_carries h6
  clear_value v7
  extract_lets +onlyGivenNames v9
  have h10 : Carries o v9 := by
    unfold v9
    exact State.dropWaiters_carries h8
  clear_value v9
  extract_lets +onlyGivenNames v11
  have h12 : Carries o v11 := by
    unfold v11
    exact State.updThread_carries h10
  clear_value v11
  exact State.stillCheck_carries (State.bump_carries h12)

theorem evtWait_carries {o : State} {s : State} {t : Nat} {x : Nat} (h1 : Carries o s) : Carries1 o (evtWait s t x) :=
    by
  unfold evtWait
  extract_lets +onlyGivenNames v1
  extract_lets +onlyGivenNames v2
  refine pIte (P := Carries1 o) ?_ ?_
  · exact Carries1.mk (State.startOp_carries h1)
  · extract_lets +onlyGivenNames v3
    have h4 : Carries o v3 := by
      unfold v3
      exact State.putOp_carries h1
    clear_value v3
    exact Carries1.mk (State.updThread_carries h4)

theorem evtClr_carries {o : State} {s : State} {t : Nat} {x : Nat} (h1 : Carries o s) : Carries1 o (evtClr s t x) :=
    by
  unfold evtClr
  extract_lets +onlyGivenNames v1
  extract_lets +onlyGivenNames v2
  have h3 : Carries o v2 := by
    unfold v2
    exact State.updThread_carries h1
  clear_value v2
  extract_lets +onlyGivenNames v4
  extract_lets +onlyGivenNames v5
  have h6 : Carries o v5 := by
    unfold v5
    exact pIte (P := Carries o) (State.setEngine_carries h3) h3
  clear_value v5
  exact Carries1.mk (State.startOp_carries h6)

theorem evtSig_carries {o : State} {s : State} {t : Nat} {x : Nat} (h1 : Carries o s) : Carries1 o (evtSig s t x) :=
    by
  unfold evtSig
  extract_lets +onlyGivenNames v1
  exact Carries1.mk (State.startOp_carries (State.setEvent_carries h1))

theorem evtMget_carries {o : State} {s : State} {t : Nat} (h1 : Carries o s) : Carries1 o (evtMget s t) := by
  unfold evtMget
  split
  · rename_i x1 e2
    exact Carries1.mk (State.startOp_carries h1)
  · rename_i x3 x4 x5 e6
    extract_lets +onlyGivenNames v7
    have h8 : Carries o v7 := by
      unfold v7
      exact State.updThread_carries h1
    clear_value v7
    exact Carries1.mk (State.startOp_carries h8)

theorem tmStart_carries {o : State} {s : State} {t : Nat} {x : Nat} (h1 : Carries o s) : Carries1 o (tmStart s t x) :=
    by
  unfold tmStart
  extract_lets +onlyGivenNames v1
  have h2 : Carries o v1 := by
    unfold v1
    refine pIte (P := Carries o) ?_ ?_
    · exact State.setEvent_carries (State.updThread_carries h1)
    · exact State.updThread_carries h1
  clear_value v1
  exact Carries1.mk (State.startOp_carries h2)

theorem tmStop_carries {o : State} {s : State} {t : Nat} (h1 : Carries o s) : Carries1 o (tmStop s t) := by
  unfold tmStop
  exact Carries1.mk (State.startOp_carries (State.updThread_carries h1))

theorem tmNow_carries {o : State} {s : State} {t : Nat} (h1 : Carries o s) : Carries1 o (tmNow s t) := by
  unfold tmNow
  exact Carries1.mk (State.startOp_carries h1)

theorem tmNet_carries {o : State} {s : State} {t : Nat} {x : Nat} (h1 : Carries o s) : Carries1 o (tmNet s t x) := by
  unfold tmNet
  extract_lets +onlyGivenNames v1
  exact Carries1.mk (pIte (P := Carries o) (State.startOp_carries h1) (State.startOp_carries h1))

theorem svInfo_carries {o : State} {s : State} {t : Nat} (h1 : Carries o s) : Carries1 o (svInfo s t) := by
  unfold svInfo
  extract_lets +onlyGivenNames v1
  extract_lets +onlyGivenNames v2
  extract_lets +onlyGivenNames v3
  exact Carries1.mk (State.startOp_carries h1)

theorem svGetreg_carries {o : State} {s : State} {t : Nat} {x : Nat} (h1 : Carries o s) : Carries1 o (svGetreg s t x)
    := by
  unfold svGetreg
  extract_lets +onlyGivenNames v1
  refine pIte (P := Carries1 o) ?_ ?_
  · exact Carries1.mk (State.startOp_carries h1)
  · refine pIte (P := Carries1 o) ?_ ?_
    · exact Carries1.mk (State.startOp_carries h1)
    · exact Carries1.mk (State.startOp_carries h1)

theorem svSetreg_carries {o : State} {s : State} {t : Nat} {x : Nat} (h1 : Carries o s) : Carries1 o (svSetreg s t x)
    := by
  unfold svSetreg
  extract_lets +onlyGivenNames v1
  refine pIte (P := Carries1 o) ?_ ?_
  · exact Carries1.mk (State.startOp_carries h1)
  · refine pIte (P := Carries1 o) ?_ ?_
    · exact Carries1.mk (State.startOp_carries h1)
    · exact Carries1.mk (State.startOp_carries (State.updThread_carries h1))

theorem svHeld_carries {o : State} {s : State} {t : Nat} {x : Nat} (h1 : Carries o s) : Carries1 o (svHeld s t x) :=
    by
  unfold svHeld
  split
  · rename_i x1 e2
    exact Carries1.mk (State.startOp_carries h1)
  · rename_i x3 x4 x5 e6
    exact Carries1.mk (State.startOp_carries h1)

theorem svResume_carries {o : State} {s : State} {t : Nat} {x : Nat} (h1 : Carries o s) : Carries1 o (svResume s t x)
    := by
  unfold svResume
  extract_lets +onlyGivenNames v1
  refine pIte (P := Carries1 o) ?_ ?_
  · exact Carries1.mk (State.startOp_carries h1)
  · exact Carries1.mk (State.startOp_carries (State.updThread_carries h1))

theorem svPark_carries {o : State} {s : State} {t : Nat} (h1 : Carries o s) : Carries1 o (svPark s t) := by
  unfold svPark
  extract_lets +onlyGivenNames v1
  refine pIte (P := Carries1 o) ?_ ?_
  · exact Carries1.mk (State.startOp_carries h1)
  · refine pIte (P := Carries1 o) ?_ ?_
    · exact Carries1.mk (State.startOp_carries h1)
    · exact Carries1.mk (State.startOp_carries (State.park_carries h1))

theorem svAck_carries {o : State} {s : State} {t : Nat} (h1 : Carries o s) : Carries1 o (svAck s t) := by
  unfold svAck
  extract_lets +onlyGivenNames v1
  extract_lets +onlyGivenNames v2
  refine pIte (P := Carries1 o) ?_ ?_
  · exact Carries1.mk (State.startOp_carries h1)
  · refine pIte (P := Carries1 o) ?_ ?_
    · exact Carries1.mk (State.startOp_carries h1)
    · exact Carries1.mk (State.startOp_carries (State.updThread_carries h1))

theorem State.engineHold_carries {o : State} {s : State} {e : Nat} (h1 : Carries o s) : Carries o (State.engineHold s
    e) := by
  unfold State.engineHold
  extract_lets +onlyGivenNames v1
  have h2 : Carries o v1 := by
    unfold v1
    refine pFoldl (P := Carries o) ?_ ?_
    · exact h1
    · intro s3 x4 h5
      exact State.updThread_carries h5
  clear_value v1
  exact State.setFld_carries h2

theorem svReset_carries {o : State} {s : State} {t : Nat} (h1 : Carries o s) : Carries1 o (svReset s t) := by
  unfold svReset
  exact Carries1.mk (State.engineHold_carries (State.startOp_carries h1))

theorem State.haltThread_carries {o : State} {s : State} {t : Nat} (h1 : Carries o s) : Carries o (State.haltThread s
    t) := by
  unfold State.haltThread
  exact State.rplEvent_carries (State.updThread_carries h1)

theorem dbgBrk_carries {o : State} {s : State} {t : Nat} (h1 : Carries o s) : Carries1 o (dbgBrk s t) := by
  unfold dbgBrk
  refine pIte (P := Carries1 o) ?_ ?_
  · exact Carries1.mk (State.startOp_carries h1)
  · exact Carries1.mk (State.haltThread_carries (State.startOp_carries h1))

theorem dbgMark_carries {o : State} {s : State} {t : Nat} {x : Nat} (h1 : Carries o s) : Carries1 o (dbgMark s t x) :=
    by
  unfold dbgMark
  extract_lets +onlyGivenNames v1
  extract_lets +onlyGivenNames v2
  have h3 : Carries o v2 := by
    unfold v2
    exact pIte (P := Carries o) (State.logDecision_carries h1) h1
  clear_value v2
  extract_lets +onlyGivenNames v4
  have h5 : Carries o v4 := by
    unfold v4
    exact pIte (P := Carries o) (Carries2.snd (State.startPost_carries h3)) h3
  clear_value v4
  exact Carries1.mk (State.startOp_carries h5)

theorem State.engineDown_carries {o : State} {s : State} {e : Nat} (h1 : Carries o s) : Carries o (State.engineDown s
    e) := by
  unfold State.engineDown
  extract_lets +onlyGivenNames v1
  extract_lets +onlyGivenNames v2
  have h3 : Carries o v2 := by
    unfold v2
    refine pFoldl (P := Carries o) ?_ ?_
    · exact h1
    · intro s4 x5 h6
      exact State.hlpLeave_carries h6
  clear_value v2
  extract_lets +onlyGivenNames v7
  have h8 : Carries o v7 := by
    unfold v7
    exact State.dryCirculating_carries (State.dryHeld_carries h3)
  clear_value v7
  extract_lets +onlyGivenNames v9
  have h10 : Carries o v9 := by
    unfold v9
    refine pFoldl (P := Carries o) ?_ ?_
    · exact h8
    · intro s11 x12 h13
      exact State.leaveWaits_carries h13
  clear_value v9
  extract_lets +onlyGivenNames v14
  have h15 : Carries o v14 := by
    unfold v14
    refine pFoldl (P := Carries o) ?_ ?_
    · exact h10
    · intro s16 x17 h18
      exact State.loseChannels_carries (State.loseRequester_carries h18)
  clear_value v14
  extract_lets +onlyGivenNames v19
  extract_lets +onlyGivenNames v20
  have h21 : Carries o v20 := by
    unfold v20
    refine pFoldl (P := Carries o) ?_ ?_
    · exact h15
    · intro s22 x23 h24
      exact pIte (P := Carries o) (helperOrphanEnd_carries h24) h24
  clear_value v20
  extract_lets +onlyGivenNames v25
  have h26 : Carries o v25 := by
    unfold v25
    exact State.reclaimEngine_carries h21
  clear_value v25
  extract_lets +onlyGivenNames v27
  have h28 : Carries o v27 := by
    unfold v27
    exact State.dropWaiters_carries h26
  clear_value v27
  extract_lets +onlyGivenNames v29
  have h30 : Carries o v29 := by
    unfold v29
    exact State.flushCache_carries h28
  clear_value v29
  extract_lets +onlyGivenNames v31
  extract_lets +onlyGivenNames v32
  have h33 : Carries o v32 := by
    unfold v32
    exact carriesUp h30 (fun h => h.stage) (fun h => ⟨h.mem.ipd, h.mem.shared, cellClear_wf _ _ h.mem.scratch⟩) (fun h
        => h.host) (fun h => h.fth)
  clear_value v32
  extract_lets +onlyGivenNames v34
  have h35 : Carries o v34 := by
    unfold v34
    exact State.hlpClear_carries h33
  clear_value v34
  extract_lets +onlyGivenNames v36
  extract_lets +onlyGivenNames v37
  have h38 : Carries o v37 := by
    unfold v37
    exact State.setEngine_carries h35
  clear_value v37
  refine pFoldl (P := Carries o) ?_ ?_
  · exact h38
  · intro s39 x40 h41
    exact State.setThread_carries h41

theorem State.startThread_carries {o : State} {s : State} {t : Nat} (h1 : Carries o s) : Carries o (State.startThread
    s t) := by
  unfold State.startThread
  exact State.setThread_carries h1

theorem State.engineStart_carries {o : State} {s : State} {e : Nat} (h1 : Carries o s) : Carries o (State.engineStart
    s e) := by
  unfold State.engineStart
  extract_lets +onlyGivenNames v1
  have h2 : Carries o v1 := by
    unfold v1
    refine pFoldl (P := Carries o) ?_ ?_
    · exact h1
    · intro s3 x4 h5
      exact State.startThread_carries h5
  clear_value v1
  exact State.setFld_carries h2

theorem deadlockTimeout_carries {o : State} {s : State} {now : Nat} {e : Nat} (h1 : Carries o s) : Carries o
    (deadlockTimeout s now e) := by
  unfold deadlockTimeout
  extract_lets +onlyGivenNames v1
  have h2 : Carries o v1 := by
    unfold v1
    exact State.upTo_carries h1
  clear_value v1
  split
  · rename_i x3 e4
    exact h2
  · rename_i x5 x6 e7
    exact pIte (P := Carries o) (State.escalate_carries (State.setEngine_carries h2)) h2

theorem engineReset_carries {o : State} {s : State} {e : Nat} (h1 : Carries o s) : Carries o (engineReset s e) := by
  unfold engineReset
  refine pIte (P := Carries o) ?_ ?_
  · exact h1
  · extract_lets +onlyGivenNames v1
    have h2 : Carries o v1 := by
      unfold v1
      exact State.engineStart_carries (State.engineDown_carries (State.engineHold_carries h1))
    clear_value v1
    extract_lets +onlyGivenNames v3
    have h4 : Carries o v3 := by
      unfold v3
      exact State.bump_carries h2
    clear_value v3
    refine pIte (P := Carries o) ?_ ?_
    · extract_lets +onlyGivenNames v5
      extract_lets +onlyGivenNames v6
      have h7 : Carries o v6 := by
        unfold v6
        exact State.setEngine_carries h4
      clear_value v6
      exact State.eventSup_carries (State.wr_carries h7)
    · exact h4

theorem escalationPost_carries {o : State} {s : State} {e : Nat} (h1 : Carries o s) : Carries o (escalationPost s e)
    := by
  unfold escalationPost
  split
  · rename_i x1 e2
    exact h1
  · rename_i x3 x4 e5
    refine pIte (P := Carries o) ?_ ?_
    · exact h1
    · extract_lets +onlyGivenNames v6
      extract_lets +onlyGivenNames v7
      have h8 : Carries o v7 := by
        unfold v7
        exact State.setEngine_carries h1
      clear_value v7
      exact State.bump_carries (State.post_carries h8)

theorem timerExpire_carries {o : State} {s : State} {now : Nat} {t : Nat} (h1 : Carries o s) : Carries o (timerExpire
    s now t) := by
  unfold timerExpire
  extract_lets +onlyGivenNames v1
  have h2 : Carries o v1 := by
    unfold v1
    exact State.upTo_carries h1
  clear_value v1
  split
  · rename_i x3 e4
    exact h2
  · rename_i x5 x6 e7
    refine pIte (P := Carries o) ?_ ?_
    · extract_lets +onlyGivenNames v8
      have h9 : Carries o v8 := by
        unfold v8
        exact pIte (P := Carries o) (State.logFlagEvent_carries h2) h2
      clear_value v8
      exact State.setEvent_carries (State.updThread_carries h9)
    · exact h2

theorem faultAckTimeout_carries {o : State} {s : State} {now : Nat} {t : Nat} (h1 : Carries o s) : Carries o
    (faultAckTimeout s now t) := by
  unfold faultAckTimeout
  extract_lets +onlyGivenNames v1
  have h2 : Carries o v1 := by
    unfold v1
    exact State.upTo_carries h1
  clear_value v1
  extract_lets +onlyGivenNames v3
  exact pIte (P := Carries o) (State.escalate_carries (State.updThread_carries h2)) h2

/-! ### Basin -/

theorem State.basinStart_carries {o : State} {s : State} {b : Nat} (h1 : Carries o s) : Carries o (State.basinStart s
    b) := by
  unfold State.basinStart
  extract_lets +onlyGivenNames v1
  extract_lets +onlyGivenNames v2
  have h3 : Carries o v2 := by
    unfold v2
    exact carriesUp h1 (fun h => h.stage) (fun h => ⟨h.mem.ipd, h.mem.shared, cellClear_wf _ _ h.mem.scratch⟩) (fun h
        => h.host) (fun h => h.fth)
  clear_value v2
  extract_lets +onlyGivenNames v4
  have h5 : Carries o v4 := by
    unfold v4
    refine pFoldl (P := Carries o) ?_ ?_
    · exact h3
    · intro s6 x7 h8
      refine pIte (P := Carries o) ?_ ?_
      · exact h8
      · extract_lets +onlyGivenNames v9
        have h10 : Carries o v9 := by
          unfold v9
          refine pFoldl (P := Carries o) ?_ ?_
          · exact h8
          · intro s11 x12 h13
            extract_lets +onlyGivenNames v14
            extract_lets +onlyGivenNames v15
            exact State.setThread_carries h13
        clear_value v9
        exact State.setFld_carries h10
  clear_value v4
  exact State.hlpBasinUp_carries h5

theorem State.basinPowerUp_carries {o : State} {s : State} {b : Nat} (h1 : Carries o s) : Carries o
    (State.basinPowerUp s b) := by
  unfold State.basinPowerUp
  refine pIte (P := Carries o) ?_ ?_
  · exact h1
  · extract_lets +onlyGivenNames v1
    have h2 : Carries o v1 := by
      unfold v1
      exact State.wr_carries (State.setFld_carries h1)
    clear_value v1
    exact State.basinStart_carries h2

theorem State.switchReturn_carries {o : State} {s : State} (h1 : Carries o s) : Carries o (State.switchReturn s) := by
  unfold State.switchReturn
  extract_lets +onlyGivenNames v1
  have h2 : Carries o v1 := by
    unfold v1
    refine pFoldl (P := Carries o) ?_ ?_
    · exact h1
    · intro s3 x4 h5
      exact pIte (P := Carries o) (State.basinPowerUp_carries h5) h5
  clear_value v1
  exact State.switchDone_carries h2

theorem State.switchBegin_carries {o : State} {s : State} {map : Nat} {basin : Nat} {why : Nat} (h1 : Carries o s) :
    Carries o (State.switchBegin s map basin why) := by
  unfold State.switchBegin
  exact pIte (P := Carries o) h1 (State.switchName_carries h1)

theorem State.wearCheck_carries {o : State} {s : State} (h1 : Carries o s) : Carries o (State.wearCheck s) := by
  unfold State.wearCheck
  split
  · rename_i x1 e2
    exact h1
  · rename_i x3 x4 e5
    exact pIte (P := Carries o) (State.switchBegin_carries (State.setEngine_carries h1)) h1

theorem State.takeFailedOut_carries {o : State} {s : State} (h1 : Carries o s) : Carries o (State.takeFailedOut s) :=
    by
  unfold State.takeFailedOut
  split
  · rename_i x1 e2
    exact h1
  · rename_i x3 x4 e5
    exact pIte (P := Carries o) (State.switchBegin_carries h1) h1

theorem State.basinStop_carries {o : State} {s : State} {b : Nat} {estate : Nat} (h1 : Carries o s) : Carries o
    (State.basinStop s b estate) := by
  unfold State.basinStop
  extract_lets +onlyGivenNames v1
  have h2 : Carries o v1 := by
    unfold v1
    refine pFoldl (P := Carries o) ?_ ?_
    · exact h1
    · intro s3 x4 h5
      exact State.hlpDone_carries (State.hlpDone_carries h5)
  clear_value v1
  extract_lets +onlyGivenNames v6
  have h7 : Carries o v6 := by
    unfold v6
    exact State.dryHeld_carries h2
  clear_value v6
  extract_lets +onlyGivenNames v8
  have h9 : Carries o v8 := by
    unfold v8
    exact State.hlpBasinDown_carries h7
  clear_value v8
  extract_lets +onlyGivenNames v10
  have h11 : Carries o v10 := by
    unfold v10
    refine pFoldl (P := Carries o) ?_ ?_
    · exact h9
    · intro s12 x13 h14
      exact helperShutdownDone_carries h14
  clear_value v10
  extract_lets +onlyGivenNames v15
  have h16 : Carries o v15 := by
    unfold v15
    refine pFoldl (P := Carries o) ?_ ?_
    · exact h11
    · intro s17 x18 h19
      split
      · rename_i x20 e21
        exact h19
      · rename_i x22 x23 e24
        exact State.leaveQueue_carries h19
  clear_value v15
  extract_lets +onlyGivenNames v25
  have h26 : Carries o v25 := by
    unfold v25
    exact State.dropWaiters_carries h16
  clear_value v25
  extract_lets +onlyGivenNames v27
  have h28 : Carries o v27 := by
    unfold v27
    refine pFoldl (P := Carries o) ?_ ?_
    · exact h26
    · intro s29 x30 h31
      extract_lets +onlyGivenNames v32
      exact State.setThread_carries h31
  clear_value v27
  refine pFoldl (P := Carries o) ?_ ?_
  · exact h28
  · intro s33 x34 h35
    exact pIte (P := Carries o) h35 (State.setEngine_carries (State.setFld_carries h35))

theorem State.switchLeave_carries {o : State} {s : State} {map : Nat} {basin : Nat} {why : Nat} (h1 : Carries o s) :
    Carries o (State.switchLeave s map basin why) := by
  unfold State.switchLeave
  extract_lets +onlyGivenNames v1
  have h2 : Carries o v1 := by
    unfold v1
    exact State.basinStop_carries h1
  clear_value v1
  extract_lets +onlyGivenNames v3
  have h4 : Carries o v3 := by
    unfold v3
    exact State.wr_carries (State.setFld_carries h2)
  clear_value v3
  extract_lets +onlyGivenNames v5
  have h6 : Carries o v5 := by
    unfold v5
    exact pIte (P := Carries o) (State.flushBasin_carries h4) h1
  clear_value v5
  exact State.switchDone_carries h6

theorem State.setPerm_carries {o : State} {s : State} {b : Nat} (h1 : Carries o s) : Carries o (State.setPerm s b) :=
    by
  unfold State.setPerm
  exact State.wr_carries h1

theorem State.takeSpare_carries {o : State} {s : State} {e : Nat} {trigger : Nat} (h1 : Carries o s) : Carries o
    (State.takeSpare s e trigger) := by
  unfold State.takeSpare
  extract_lets +onlyGivenNames v1
  extract_lets +onlyGivenNames v2
  extract_lets +onlyGivenNames v3
  extract_lets +onlyGivenNames v4
  extract_lets +onlyGivenNames v5
  extract_lets +onlyGivenNames v6
  have h7 : Carries o v6 := by
    unfold v6
    exact State.setEngine_carries (State.noteRsv_carries h1)
  clear_value v6
  extract_lets +onlyGivenNames v8
  have h9 : Carries o v8 := by
    unfold v8
    exact State.setAll_carries h7
  clear_value v8
  extract_lets +onlyGivenNames v10
  have h11 : Carries o v10 := by
    unfold v10
    exact State.eventSup_carries (State.bump_carries h9)
  clear_value v10
  exact State.eventSup_carries h11

theorem State.plannedSwaps_carries {o : State} {s : State} {b : Nat} (h1 : Carries o s) : Carries o
    (State.plannedSwaps s b) := by
  unfold State.plannedSwaps
  refine pFoldl (P := Carries o) ?_ ?_
  · exact h1
  · intro s1 x2 h3
    refine pIte (P := Carries o) ?_ ?_
    · extract_lets +onlyGivenNames v4
      extract_lets +onlyGivenNames v5
      have h6 : Carries o v5 := by
        unfold v5
        exact State.setEngine_carries h3
      clear_value v5
      exact pIte (P := Carries o) (State.takeSpare_carries h6) h6
    · exact h3

theorem State.basinPowerDown_carries {o : State} {s : State} {b : Nat} (h1 : Carries o s) : Carries o
    (State.basinPowerDown s b) := by
  unfold State.basinPowerDown
  extract_lets +onlyGivenNames v1
  have h2 : Carries o v1 := by
    unfold v1
    exact State.basinStop_carries h1
  clear_value v1
  extract_lets +onlyGivenNames v3
  have h4 : Carries o v3 := by
    unfold v3
    exact State.clearRings_carries (State.flushBasin_carries h2)
  clear_value v3
  extract_lets +onlyGivenNames v5
  extract_lets +onlyGivenNames v6
  have h7 : Carries o v6 := by
    unfold v6
    exact carriesUp h4 (fun h => h.stage) (fun h => ⟨h.mem.ipd, cellClear_wf _ _ h.mem.shared, h.mem.scratch⟩) (fun h
        => h.host) (fun h => h.fth)
  clear_value v6
  extract_lets +onlyGivenNames v8
  have h9 : Carries o v8 := by
    unfold v8
    refine pFoldl (P := Carries o) ?_ ?_
    · exact h7
    · intro s10 x11 h12
      exact State.setThread_carries h12
  clear_value v8
  exact State.wr_carries (State.setFld_carries h9)

theorem State.engResult_carries {o : State} {s : State} {st : Nat} (h1 : Carries o s) : Carries o (State.engResult s
    st) := by
  unfold State.engResult
  exact State.wr_carries h1

theorem State.engCmd_carries {o : State} {s : State} {p : Nat} {e : Nat} {f : State → State} (h1 : Carries o s) (h4 :
    ∀ y0, Carries o y0 → Carries o (f y0)) : Carries o (State.engCmd s p e f) := by
  unfold State.engCmd
  refine pIte (P := Carries o) ?_ ?_
  · exact h1
  · extract_lets +onlyGivenNames v1
    extract_lets +onlyGivenNames v2
    have h3 : Carries o v2 := by
      unfold v2
      exact State.wr_carries h1
    clear_value v2
    refine pIte (P := Carries o) ?_ ?_
    · exact State.engResult_carries h3
    · refine pIte (P := Carries o) ?_ ?_
      · exact State.engResult_carries h3
      · apply h4
        exact h3

theorem bsnEngReset_carries {o : State} {s : State} {p : Nat} {e : Nat} (h1 : Carries o s) : Carries o (bsnEngReset s
    p e) := by
  unfold bsnEngReset
  refine State.engCmd_carries ?_ ?_
  · exact h1
  · intro s1 h2
    refine pIte (P := Carries o) ?_ ?_
    · exact State.engResult_carries h2
    · refine pIte (P := Carries o) ?_ ?_
      · exact State.engResult_carries h2
      · extract_lets +onlyGivenNames v3
        have h4 : Carries o v3 := by
          unfold v3
          exact State.wr_carries (State.engResult_carries h2)
        clear_value v3
        extract_lets +onlyGivenNames v5
        extract_lets +onlyGivenNames v6
        have h7 : Carries o v6 := by
          unfold v6
          exact State.setEngine_carries h4
        clear_value v6
        exact State.engineHold_carries h7

theorem bsnEngSwap_carries {o : State} {s : State} {p : Nat} {e : Nat} (h1 : Carries o s) : Carries o (bsnEngSwap s p
    e) := by
  unfold bsnEngSwap
  refine State.engCmd_carries ?_ ?_
  · exact h1
  · intro s1 h2
    refine pIte (P := Carries o) ?_ ?_
    · exact State.engResult_carries h2
    · refine pIte (P := Carries o) ?_ ?_
      · exact State.engResult_carries h2
      · extract_lets +onlyGivenNames v3
        have h4 : Carries o v3 := by
          unfold v3
          exact State.wr_carries (State.engResult_carries h2)
        clear_value v3
        extract_lets +onlyGivenNames v5
        extract_lets +onlyGivenNames v6
        have h7 : Carries o v6 := by
          unfold v6
          exact State.setEngine_carries h4
        clear_value v6
        exact State.switchBegin_carries h7

theorem bsnEngAckEsc_carries {o : State} {s : State} {p : Nat} {e : Nat} (h1 : Carries o s) : Carries o (bsnEngAckEsc
    s p e) := by
  unfold bsnEngAckEsc
  refine State.engCmd_carries ?_ ?_
  · exact h1
  · intro s1 h2
    refine pIte (P := Carries o) ?_ ?_
    · exact State.engResult_carries h2
    · exact State.setEngine_carries (State.setFld_carries (State.engResult_carries h2))

theorem basinSwitchBegin_carries {o : State} {s : State} {map : Nat} {why : Nat} (h1 : Carries o s) : Carries o
    (basinSwitchBegin s map why) := by
  unfold basinSwitchBegin
  refine pIte (P := Carries o) ?_ ?_
  · exact h1
  · refine pIte (P := Carries o) ?_ ?_
    · exact pIte (P := Carries o) (State.switchBegin_carries h1) h1
    · refine pIte (P := Carries o) ?_ ?_
      · exact pIte (P := Carries o) (State.switchBegin_carries h1) h1
      · exact pIte (P := Carries o) h1 (State.switchBegin_carries h1)

theorem engineFailNoSpare_carries {o : State} {s : State} {e : Nat} (h1 : Carries o s) : Carries o (engineFailNoSpare
    s e) := by
  unfold engineFailNoSpare
  refine pIte (P := Carries o) ?_ ?_
  · exact h1
  · extract_lets +onlyGivenNames v1
    have h2 : Carries o v1 := by
      unfold v1
      exact State.engineDown_carries (State.engineHold_carries h1)
    clear_value v1
    extract_lets +onlyGivenNames v3
    have h4 : Carries o v3 := by
      unfold v3
      exact State.setFld_carries h2
    clear_value v3
    extract_lets +onlyGivenNames v5
    extract_lets +onlyGivenNames v6
    have h7 : Carries o v6 := by
      unfold v6
      exact carriesMk h4 rfl rfl rfl rfl
    clear_value v6
    extract_lets +onlyGivenNames v8
    have h9 : Carries o v8 := by
      unfold v8
      exact State.showDegraded_carries (State.noteRsv_carries h7)
    clear_value v8
    exact State.takeFailedOut_carries (State.eventSup_carries h9)

theorem engineSpareSubstitute_carries {o : State} {s : State} {e : Nat} (h1 : Carries o s) : Carries o
    (engineSpareSubstitute s e) := by
  unfold engineSpareSubstitute
  refine pIte (P := Carries o) ?_ ?_
  · exact h1
  · extract_lets +onlyGivenNames v1
    have h2 : Carries o v1 := by
      unfold v1
      exact State.takeSpare_carries (State.engineDown_carries (State.engineHold_carries h1))
    clear_value v1
    exact State.engineStart_carries (State.bump_carries h2)

end Sys2Proof.Machine
end

