-- ==== Sys2Proof/Laws/CarryPower.lean ====
section
/-! SUPPORT. What the operations of Power, Staging, Spanning, SluCommands, Clock, Gptp carry from state to state. -/

namespace Sys2Proof.Machine

open Sys2Proof

/-! ### Power -/

theorem State.ageing_carries {o : State} {s : State} {speeds : List Nat} (h1 : Carries o s) : Carries o (State.ageing
    s speeds) := by
  unfold State.ageing
  refine pIte (P := Carries o) ?_ ?_
  · exact h1
  · refine pIte (P := Carries o) ?_ ?_
    · exact pIte (P := Carries o) (carriesMk h1 rfl rfl rfl rfl) h1
    · exact pIte (P := Carries o) (State.eventSup_carries h1) h1

theorem State.sendLtr_carries {o : State} {s : State} {st : Nat} (h1 : Carries o s) : Carries o (State.sendLtr s st)
    := by
  unfold State.sendLtr
  extract_lets +onlyGivenNames v1
  refine pFoldl (P := Carries o) ?_ ?_
  · exact h1
  · intro s2 x3 h4
    exact State.emit_carries h4

theorem State.enterState_carries {o : State} {s : State} {st : Nat} (h1 : Carries o s) : Carries o (State.enterState s
    st) := by
  unfold State.enterState
  extract_lets +onlyGivenNames v1
  have h2 : Carries o v1 := by
    unfold v1
    exact State.bump_carries (State.setAll_carries h1)
  clear_value v1
  exact State.eventSup_carries (State.sendLtr_carries h2)

theorem State.writeResume_carries {o : State} {s : State} (h1 : Carries o s) : Carries o (State.writeResume s) := by
  unfold State.writeResume
  extract_lets +onlyGivenNames v1
  refine pIte (P := Carries o) ?_ ?_
  · extract_lets +onlyGivenNames v2
    exact carriesMk h1 rfl rfl rfl rfl
  · exact carriesMk h1 rfl rfl rfl rfl

theorem State.enterDry_carries {o : State} {s : State} (h1 : Carries o s) : Carries o (State.enterDry s) := by
  unfold State.enterDry
  extract_lets +onlyGivenNames v1
  extract_lets +onlyGivenNames v2
  have h3 : Carries o v2 := by
    unfold v2
    exact pIte (P := Carries o) (State.writeResume_carries h1) h1
  clear_value v2
  extract_lets +onlyGivenNames v4
  have h5 : Carries o v4 := by
    unfold v4
    exact State.enterState_carries h3
  clear_value v4
  extract_lets +onlyGivenNames v6
  have h7 : Carries o v6 := by
    unfold v6
    exact State.closeFabric_carries h5
  clear_value v6
  extract_lets +onlyGivenNames v8
  extract_lets +onlyGivenNames v9
  have h10 : Carries o v9 := by
    unfold v9
    exact carriesUp h7 (fun _ => Nat.le_of_ble_eq_true rfl) (fun h => h.mem.same rfl) (fun h => h.host) (fun h =>
        h.fth.same rfl)
  clear_value v9
  extract_lets +onlyGivenNames v11
  have h12 : Carries o v11 := by
    unfold v11
    exact State.fabricReset_carries h10
  clear_value v11
  extract_lets +onlyGivenNames v13
  have h14 : Carries o v13 := by
    unfold v13
    exact carriesMk h12 rfl rfl rfl rfl
  clear_value v13
  extract_lets +onlyGivenNames v15
  have h16 : Carries o v15 := by
    unfold v15
    exact State.setAll_carries h14
  clear_value v15
  extract_lets +onlyGivenNames v17
  extract_lets +onlyGivenNames v18
  have h19 : Carries o v18 := by
    unfold v18
    exact State.fcoAssert_carries (carriesMk h16 rfl rfl rfl rfl)
  clear_value v18
  extract_lets +onlyGivenNames v20
  have h21 : Carries o v20 := by
    unfold v20
    exact State.emit_carries h19
  clear_value v20
  exact carriesMk h21 rfl rfl rfl rfl

theorem pwrEnterDry_carries {o : State} {s : State} {now : Nat} {p : Nat} (h1 : Carries o s) : Carries o (pwrEnterDry
    s now p) := by
  unfold pwrEnterDry
  extract_lets +onlyGivenNames v1
  have h2 : Carries o v1 := by
    unfold v1
    exact State.upTo_carries h1
  clear_value v1
  refine pIte (P := Carries o) ?_ ?_
  · exact h2
  · exact pIte (P := Carries o) (State.wr_carries h2) (State.enterDry_carries (State.wr_carries h2))

theorem State.exitDry_carries {o : State} {s : State} {cause : Nat} (h1 : Carries o s) : Carries o (State.exitDry s
    cause) := by
  unfold State.exitDry
  extract_lets +onlyGivenNames v1
  extract_lets +onlyGivenNames v2
  have h3 : Carries o v2 := by
    unfold v2
    exact State.deviceReset_carries h1
  clear_value v2
  extract_lets +onlyGivenNames v4
  have h5 : Carries o v4 := by
    unfold v4
    exact State.wr_carries h3
  clear_value v4
  exact carriesMk h5 rfl rfl rfl rfl

theorem State.pmbusWrite_carries {o : State} {s : State} {mv : Nat} {ack : Bool} (h1 : Carries o s) : Carries o
    (State.pmbusWrite s mv ack) := by
  unfold State.pmbusWrite
  extract_lets +onlyGivenNames v1
  have h2 : Carries o v1 := by
    unfold v1
    exact State.bump_carries (State.wr_carries h1)
  clear_value v1
  extract_lets +onlyGivenNames v3
  have h4 : Carries o v3 := by
    unfold v3
    exact State.emit_carries h2
  clear_value v3
  refine pIte (P := Carries o) ?_ ?_
  · exact carriesMk h4 rfl rfl rfl rfl
  · exact State.eventSup_carries (carriesMk h4 rfl rfl rfl rfl)

theorem State.untestedFirst_carries {o : State} {s : State} (h1 : Carries o s) : Carries o (State.untestedFirst s) :=
    by
  unfold State.untestedFirst
  extract_lets +onlyGivenNames v1
  exact State.wr_carries (carriesMk h1 rfl rfl rfl rfl)

theorem State.exitStill_carries {o : State} {s : State} {cause : Nat} (h1 : Carries o s) : Carries o (State.exitStill
    s cause) := by
  unfold State.exitStill
  extract_lets +onlyGivenNames v1
  have h2 : Carries o v1 := by
    unfold v1
    exact State.wr_carries h1
  clear_value v1
  extract_lets +onlyGivenNames v3
  have h4 : Carries o v3 := by
    unfold v3
    exact State.openFabric_carries (State.pmbusWrite_carries h2)
  clear_value v3
  extract_lets +onlyGivenNames v5
  have h6 : Carries o v5 := by
    unfold v5
    refine pFoldl (P := Carries o) ?_ ?_
    · exact h4
    · intro s7 x8 h9
      exact State.basinPowerUp_carries h9
  clear_value v5
  extract_lets +onlyGivenNames v10
  extract_lets +onlyGivenNames v11
  have h12 : Carries o v11 := by
    unfold v11
    exact State.untestedFirst_carries (carriesMk h6 rfl rfl rfl rfl)
  clear_value v11
  extract_lets +onlyGivenNames v13
  have h14 : Carries o v13 := by
    unfold v13
    exact State.setAll_carries h12
  clear_value v13
  refine State.takeFailedOut_carries ?_
  exact State.restoreCeContexts_carries (State.enterState_carries (State.wr_carries h14))

theorem State.wake_carries {o : State} {s : State} {cause : Nat} (h1 : Carries o s) : Carries o (State.wake s cause)
    := by
  unfold State.wake
  refine pIte (P := Carries o) ?_ ?_
  · exact h1
  · refine pIte (P := Carries o) ?_ ?_
    · exact State.exitDry_carries h1
    · exact pIte (P := Carries o) (State.exitStill_carries h1) h1

theorem State.leaveToFlow_carries {o : State} {s : State} (h1 : Carries o s) : Carries o (State.leaveToFlow s) := by
  unfold State.leaveToFlow
  extract_lets +onlyGivenNames v1
  extract_lets +onlyGivenNames v2
  have h3 : Carries o v2 := by
    unfold v2
    exact pIte (P := Carries o) (State.pmbusWrite_carries h1) h1
  clear_value v2
  refine pIte (P := Carries o) ?_ ?_
  · extract_lets +onlyGivenNames v4
    have h5 : Carries o v4 := by
      unfold v4
      refine pFoldl (P := Carries o) ?_ ?_
      · exact h3
      · intro s6 x7 h8
        exact State.basinPowerUp_carries h8
    clear_value v4
    extract_lets +onlyGivenNames v9
    extract_lets +onlyGivenNames v10
    have h11 : Carries o v10 := by
      unfold v10
      exact carriesMk h5 rfl rfl rfl rfl
    clear_value v10
    exact State.switchBegin_carries (State.wr_carries h11)
  · exact State.enterState_carries h3

theorem pwrWake_carries {o : State} {s : State} {now : Nat} {p : Nat} (h1 : Carries o s) : Carries o (pwrWake s now p)
    := by
  unfold pwrWake
  extract_lets +onlyGivenNames v1
  have h2 : Carries o v1 := by
    unfold v1
    exact State.upTo_carries h1
  clear_value v1
  refine pIte (P := Carries o) ?_ ?_
  · exact h2
  · refine pIte (P := Carries o) ?_ ?_
    · exact State.wr_carries h2
    · extract_lets +onlyGivenNames v3
      have h4 : Carries o v3 := by
        unfold v3
        exact State.wr_carries h2
      clear_value v3
      refine pIte (P := Carries o) ?_ ?_
      · exact State.wake_carries h4
      · exact pIte (P := Carries o) h4 (State.leaveToFlow_carries (State.wr_carries h4))

theorem State.ipdServed_carries {o : State} {s : State} (h1 : Carries o s) : Carries o (State.ipdServed s) := by
  unfold State.ipdServed
  exact carriesMk h1 rfl rfl rfl rfl

theorem State.enterStill_carries {o : State} {s : State} (h1 : Carries o s) : Carries o (State.enterStill s) := by
  unfold State.enterStill
  extract_lets +onlyGivenNames v1
  have h2 : Carries o v1 := by
    unfold v1
    exact State.flushAllCaches_carries h1
  clear_value v1
  extract_lets +onlyGivenNames v3
  have h4 : Carries o v3 := by
    unfold v3
    exact State.closeFabric_carries (State.ipdServed_carries (State.saveCeContexts_carries h2))
  clear_value v3
  extract_lets +onlyGivenNames v5
  have h6 : Carries o v5 := by
    unfold v5
    refine pFoldl (P := Carries o) ?_ ?_
    · exact h4
    · intro s7 x8 h9
      exact State.basinPowerDown_carries h9
  clear_value v5
  extract_lets +onlyGivenNames v10
  extract_lets +onlyGivenNames v11
  have h12 : Carries o v11 := by
    unfold v11
    exact carriesMk h6 rfl rfl rfl rfl
  clear_value v11
  exact State.enterState_carries (State.pmbusWrite_carries h12)

theorem State.enterDeeper_carries {o : State} {s : State} {st : Nat} (h1 : Carries o s) : Carries o (State.enterDeeper
    s st) := by
  unfold State.enterDeeper
  refine pIte (P := Carries o) ?_ ?_
  · exact State.enterState_carries (State.pmbusWrite_carries h1)
  · refine pIte (P := Carries o) ?_ ?_
    · exact pIte (P := Carries o) h1 (State.switchBegin_carries (State.wr_carries h1))
    · refine pIte (P := Carries o) ?_ ?_
      · exact h1
      · refine pIte (P := Carries o) ?_ ?_
        · exact State.enterStill_carries h1
        · exact pIte (P := Carries o) (State.enterDry_carries h1) h1

theorem wakeEvent_carries {o : State} {s : State} {now : Nat} {cause : Nat} (h1 : Carries o s) : Carries o (wakeEvent
    s now cause) := by
  unfold wakeEvent
  extract_lets +onlyGivenNames v1
  have h2 : Carries o v1 := by
    unfold v1
    exact State.upTo_carries h1
  clear_value v1
  exact pIte (P := Carries o) (State.wake_carries h2) h2

theorem State.thermalTrip_carries {o : State} {s : State} (h1 : Carries o s) : Carries o (State.thermalTrip s) := by
  unfold State.thermalTrip
  extract_lets +onlyGivenNames v1
  extract_lets +onlyGivenNames v2
  have h3 : Carries o v2 := by
    unfold v2
    exact State.logFault_carries h1
  clear_value v2
  extract_lets +onlyGivenNames v4
  have h5 : Carries o v4 := by
    unfold v4
    exact State.deviceReset_carries h3
  clear_value v4
  exact State.emit_carries (carriesMk h5 rfl rfl rfl rfl)

theorem dwellExpire_carries {o : State} {s : State} {now : Nat} (h1 : Carries o s) : Carries o (dwellExpire s now) :=
    by
  unfold dwellExpire
  extract_lets +onlyGivenNames v1
  have h2 : Carries o v1 := by
    unfold v1
    exact State.upTo_carries h1
  clear_value v1
  refine pIte (P := Carries o) ?_ ?_
  · exact h2
  · extract_lets +onlyGivenNames v3
    exact pIte (P := Carries o) (State.enterDeeper_carries h2) h2

theorem powerTargetEval_carries {o : State} {s : State} {now : Nat} (h1 : Carries o s) : Carries o (powerTargetEval s
    now) := by
  unfold powerTargetEval
  extract_lets +onlyGivenNames v1
  have h2 : Carries o v1 := by
    unfold v1
    exact State.upTo_carries h1
  clear_value v1
  refine pIte (P := Carries o) ?_ ?_
  · exact h2
  · extract_lets +onlyGivenNames v3
    extract_lets +onlyGivenNames v4
    have h5 : Carries o v4 := by
      unfold v4
      exact State.wr_carries h2
    clear_value v4
    extract_lets +onlyGivenNames v6
    extract_lets +onlyGivenNames v7
    have h8 : Carries o v7 := by
      unfold v7
      exact pIte (P := Carries o) h2 (carriesMk h5 rfl rfl rfl rfl)
    clear_value v7
    extract_lets +onlyGivenNames v9
    exact pIte (P := Carries o) (State.leaveToFlow_carries h8) h8

theorem wakeTimerExpire_carries {o : State} {s : State} {now : Nat} (h1 : Carries o s) : Carries o (wakeTimerExpire s
    now) := by
  unfold wakeTimerExpire
  extract_lets +onlyGivenNames v1
  have h2 : Carries o v1 := by
    unfold v1
    exact State.upTo_carries h1
  clear_value v1
  extract_lets +onlyGivenNames v3
  extract_lets +onlyGivenNames v4
  extract_lets +onlyGivenNames v5
  exact pIte (P := Carries o) (State.wake_carries h2) h2

theorem gaugeSample_carries {o : State} {s : State} {now : Nat} {temps : List Nat} {volts : List Nat} {speeds : List
    Nat} (h1 : Carries o s) : Carries o (gaugeSample s now temps volts speeds) := by
  unfold gaugeSample
  extract_lets +onlyGivenNames v1
  have h2 : Carries o v1 := by
    unfold v1
    exact State.upTo_carries h1
  clear_value v1
  refine pIte (P := Carries o) ?_ ?_
  · exact h2
  · extract_lets +onlyGivenNames v3
    extract_lets +onlyGivenNames v4
    extract_lets +onlyGivenNames v5
    extract_lets +onlyGivenNames v6
    have h7 : Carries o v6 := by
      unfold v6
      exact State.setAll_carries h2
    clear_value v6
    extract_lets +onlyGivenNames v8
    have h9 : Carries o v8 := by
      unfold v8
      exact State.setAll_carries h7
    clear_value v8
    extract_lets +onlyGivenNames v10
    have h11 : Carries o v10 := by
      unfold v10
      exact State.setAll_carries h9
    clear_value v10
    extract_lets +onlyGivenNames v12
    have h13 : Carries o v12 := by
      unfold v12
      exact State.setAll_carries h11
    clear_value v12
    extract_lets +onlyGivenNames v14
    have h15 : Carries o v14 := by
      unfold v14
      exact State.setAll_carries h13
    clear_value v14
    extract_lets +onlyGivenNames v16
    have h17 : Carries o v16 := by
      unfold v16
      exact State.setAll_carries h15
    clear_value v16
    extract_lets +onlyGivenNames v18
    extract_lets +onlyGivenNames v19
    extract_lets +onlyGivenNames v20
    extract_lets +onlyGivenNames v21
    extract_lets +onlyGivenNames v22
    have h23 : Carries o v22 := by
      unfold v22
      exact State.setAll_carries h17
    clear_value v22
    extract_lets +onlyGivenNames v24
    extract_lets +onlyGivenNames v25
    extract_lets +onlyGivenNames v26
    extract_lets +onlyGivenNames v27
    have h28 : Carries o v27 := by
      unfold v27
      exact pIte (P := Carries o) (State.eventSup_carries h23) h23
    clear_value v27
    extract_lets +onlyGivenNames v29
    have h30 : Carries o v29 := by
      unfold v29
      exact pIte (P := Carries o) (State.eventSup_carries h28) h28
    clear_value v29
    extract_lets +onlyGivenNames v31
    extract_lets +onlyGivenNames v32
    extract_lets +onlyGivenNames v33
    have h34 : Carries o v33 := by
      unfold v33
      exact carriesMk h30 rfl rfl rfl rfl
    clear_value v33
    extract_lets +onlyGivenNames v35
    have h36 : Carries o v35 := by
      unfold v35
      exact State.wearCheck_carries (State.ageing_carries h34)
    clear_value v35
    exact pIte (P := Carries o) (State.thermalTrip_carries h36) h36

theorem tripCooldownEnd_carries {o : State} {s : State} {now : Nat} (h1 : Carries o s) : Carries o (tripCooldownEnd s
    now) := by
  unfold tripCooldownEnd
  extract_lets +onlyGivenNames v1
  have h2 : Carries o v1 := by
    unfold v1
    exact State.upTo_carries h1
  clear_value v1
  extract_lets +onlyGivenNames v3
  extract_lets +onlyGivenNames v4
  exact pIte (P := Carries o) (State.emit_carries (carriesMk h2 rfl rfl rfl rfl)) h2

theorem floorLoop_carries {o : State} {s : State} {now : Nat} {ack : Bool} (h1 : Carries o s) : Carries o (floorLoop s
    now ack) := by
  unfold floorLoop
  extract_lets +onlyGivenNames v1
  have h2 : Carries o v1 := by
    unfold v1
    exact State.upTo_carries h1
  clear_value v1
  refine pIte (P := Carries o) ?_ ?_
  · exact h2
  · extract_lets +onlyGivenNames v3
    extract_lets +onlyGivenNames v4
    extract_lets +onlyGivenNames v5
    extract_lets +onlyGivenNames v6
    extract_lets +onlyGivenNames v7
    extract_lets +onlyGivenNames v8
    extract_lets +onlyGivenNames v9
    extract_lets +onlyGivenNames v10
    extract_lets +onlyGivenNames v11
    have h12 : Carries o v11 := by
      unfold v11
      exact carriesMk h2 rfl rfl rfl rfl
    clear_value v11
    extract_lets +onlyGivenNames v13
    extract_lets +onlyGivenNames v14
    have h15 : Carries o v14 := by
      unfold v14
      refine pIte (P := Carries o) ?_ ?_
      · exact State.pmbusWrite_carries h12
      · exact pIte (P := Carries o) (State.pmbusWrite_carries h12) h12
    clear_value v14
    refine pIte (P := Carries o) ?_ ?_
    · extract_lets +onlyGivenNames v16
      have h17 : Carries o v16 := by
        unfold v16
        exact State.bump_carries (State.setAll_carries h15)
      clear_value v16
      exact State.eventSup_carries (carriesMk h17 rfl rfl rfl rfl)
    · exact h15

theorem shedIntervalStep_carries {o : State} {s : State} {now : Nat} (h1 : Carries o s) : Carries o (shedIntervalStep
    s now) := by
  unfold shedIntervalStep
  extract_lets +onlyGivenNames v1
  have h2 : Carries o v1 := by
    unfold v1
    exact State.upTo_carries h1
  clear_value v1
  refine pIte (P := Carries o) ?_ ?_
  · exact h2
  · extract_lets +onlyGivenNames v3
    extract_lets +onlyGivenNames v4
    extract_lets +onlyGivenNames v5
    extract_lets +onlyGivenNames v6
    extract_lets +onlyGivenNames v7
    have h8 : Carries o v7 := by
      unfold v7
      exact State.wr_carries h2
    clear_value v7
    exact pIte (P := Carries o) (State.eventSup_carries (State.wr_carries h8)) h8

theorem pmbAlert_carries {o : State} {s : State} {now : Nat} (h1 : Carries o s) : Carries o (pmbAlert s now) := by
  unfold pmbAlert
  extract_lets +onlyGivenNames v1
  have h2 : Carries o v1 := by
    unfold v1
    exact State.upTo_carries h1
  clear_value v1
  exact pIte (P := Carries o) h2 (State.eventSup_carries (carriesMk h2 rfl rfl rfl rfl))

/-! ### Staging -/

theorem State.sendOwn_carries {o : State} {s : State} {dom : Nat} {cls : Nat} {egress : Nat} {bytes : List Byte} (h1 :
    Carries o s) : Carries o (State.sendOwn s dom cls egress bytes) := by
  unfold State.sendOwn
  split
  · rename_i x1 x2 x3 s4 e5
    have h6 := Carries2.of (o := o) ?_ e5
    rotate_left
    · exact State.allocHead_carries h1
    refine pIte (P := Carries o) ?_ ?_
    · exact State.countDry_carries h6
    · extract_lets +onlyGivenNames v7
      extract_lets +onlyGivenNames v8
      have h9 : Carries o v8 := by
        unfold v8
        exact State.takeVersion_carries (State.setHead_carries h6)
      clear_value v8
      split
      · rename_i x10 x11 e12
        exact State.refuse_carries h9
      · rename_i x13 e14
        split
        · rename_i x15 x16 s17 e18
          have h19 := Carries2.of (o := o) ?_ e18
          rotate_left
          · exact State.newSlot_carries h9
          split
          · rename_i x20 e21
            exact h19
          · rename_i x22 x23 e24
            exact State.complete_carries h19

theorem State.giveBody_carries {o : State} {s : State} {d : Droplet} {bytes : List Byte} (h1 : Carries o s) : Carries2
    o (State.giveBody s d bytes) := by
  unfold State.giveBody
  extract_lets +onlyGivenNames v1
  extract_lets +onlyGivenNames v2
  refine pIte (P := Carries2 o) ?_ ?_
  · exact Carries2.mk h1
  · split
    · rename_i x3 x4 x5 s6 e7
      have h8 := Carries2.of (o := o) ?_ e7
      rotate_left
      · exact State.alloc_carries h1
      exact pIte (P := Carries2 o) (Carries2.mk h8) (Carries2.mk h8)

theorem State.setHeldFrames_carries {o : State} {s : State} {src : Nat} {l : List HeldFrame} (h1 : Carries o s) :
    Carries o (State.setHeldFrames s src l) := by
  unfold State.setHeldFrames
  exact carriesMk h1 rfl rfl rfl rfl

/-! ### Spanning -/

theorem State.updStp_carries {o : State} {s : State} {p : Nat} {f : StpPort → StpPort} (h1 : Carries o s) : Carries o
    (State.updStp s p f) := by
  unfold State.updStp
  exact carriesMk h1 rfl rfl rfl rfl

theorem State.stpTopology_carries {o : State} {s : State} {p : Nat} {tell : List Nat} (h1 : Carries o s) : Carries o
    (State.stpTopology s p tell) := by
  unfold State.stpTopology
  extract_lets +onlyGivenNames v1
  have h2 : Carries o v1 := by
    unfold v1
    refine pFoldl (P := Carries o) ?_ ?_
    · exact h1
    · intro s3 x4 h5
      exact State.flushL2_carries h5
  clear_value v1
  refine pFoldl (P := Carries o) ?_ ?_
  · exact h2
  · intro s6 x7 h8
    exact State.updStp_carries h8

theorem State.stpSend_carries {o : State} {s : State} {p : Nat} (h1 : Carries o s) : Carries o (State.stpSend s p) :=
    by
  unfold State.stpSend
  exact State.updStp_carries (State.sendOwn_carries h1)

theorem State.stpTellAll_carries {o : State} {s : State} (h1 : Carries o s) : Carries o (State.stpTellAll s) := by
  unfold State.stpTellAll
  refine pFoldl (P := Carries o) ?_ ?_
  · exact h1
  · intro s1 x2 h3
    extract_lets +onlyGivenNames v4
    exact pIte (P := Carries o) (State.stpSend_carries h3) h3

theorem State.stpSettle_carries {o : State} {s : State} (h1 : Carries o s) : Carries o (State.stpSettle s) := by
  unfold State.stpSettle
  extract_lets +onlyGivenNames v1
  extract_lets +onlyGivenNames v2
  extract_lets +onlyGivenNames v3
  extract_lets +onlyGivenNames v4
  have h5 : Carries o v4 := by
    unfold v4
    refine pFoldl (P := Carries o) ?_ ?_
    · exact h1
    · intro s6 x7 h8
      exact State.updStp_carries (State.flushL2_carries h8)
  clear_value v4
  extract_lets +onlyGivenNames v9
  have h10 : Carries o v9 := by
    unfold v9
    exact carriesMk h5 rfl rfl rfl rfl
  clear_value v9
  extract_lets +onlyGivenNames v11
  extract_lets +onlyGivenNames v12
  have h13 : Carries o v12 := by
    unfold v12
    refine pFoldl (P := Carries o) ?_ ?_
    · exact h10
    · intro s14 x15 h16
      exact State.stpTopology_carries h16
  clear_value v12
  exact pIte (P := Carries o) h13 (State.stpTellAll_carries h13)

theorem State.stpHear_carries {o : State} {s : State} {p : Nat} {vec : List Nat} {age : Nat} {propose : Bool} (h1 :
    Carries o s) : Carries o (State.stpHear s p vec age propose) := by
  unfold State.stpHear
  extract_lets +onlyGivenNames v1
  extract_lets +onlyGivenNames v2
  refine pIte (P := Carries o) ?_ ?_
  · extract_lets +onlyGivenNames v3
    have h4 : Carries o v3 := by
      unfold v3
      exact State.updStp_carries h1
    clear_value v3
    extract_lets +onlyGivenNames v5
    have h6 : Carries o v5 := by
      unfold v5
      exact State.stpSettle_carries h4
    clear_value v5
    exact pIte (P := Carries o) (State.stpSend_carries h6) (pIte (P := Carries o) (State.stpSend_carries h6) h6)
  · exact pIte (P := Carries o) (State.stpSend_carries h1) h1

theorem State.stpReceive_carries {o : State} {s : State} {p : Nat} {bs : List Byte} (h1 : Carries o s) : Carries o
    (State.stpReceive s p bs) := by
  unfold State.stpReceive
  extract_lets +onlyGivenNames v1
  extract_lets +onlyGivenNames v2
  extract_lets +onlyGivenNames v3
  extract_lets +onlyGivenNames v4
  extract_lets +onlyGivenNames v5
  refine pIte (P := Carries o) ?_ ?_
  · exact h1
  · refine pIte (P := Carries o) ?_ ?_
    · exact State.stpTopology_carries (State.updStp_carries h1)
    · refine pIte (P := Carries o) ?_ ?_
      · exact h1
      · extract_lets +onlyGivenNames v6
        have h7 : Carries o v6 := by
          unfold v6
          exact State.updStp_carries h1
        clear_value v6
        extract_lets +onlyGivenNames v8
        extract_lets +onlyGivenNames v9
        have h10 : Carries o v9 := by
          unfold v9
          exact pIte (P := Carries o) (State.stpHear_carries h7) h7
        clear_value v9
        exact pIte (P := Carries o) (State.stpTopology_carries h10) h10

theorem State.stpTimers_carries {o : State} {s : State} (h1 : Carries o s) : Carries o (State.stpTimers s) := by
  unfold State.stpTimers
  extract_lets +onlyGivenNames v1
  extract_lets +onlyGivenNames v2
  have h3 : Carries o v2 := by
    unfold v2
    refine pIte (P := Carries o) ?_ ?_
    · exact h1
    · refine State.stpSettle_carries ?_
      refine pFoldl (P := Carries o) ?_ ?_
      · exact h1
      · intro s4 x5 h6
        exact State.updStp_carries h6
  clear_value v2
  refine pFoldl (P := Carries o) ?_ ?_
  · exact h3
  · intro s7 x8 h9
    extract_lets +onlyGivenNames v10
    exact pIte (P := Carries o) (State.stpSend_carries h9) h9

/-! ### SluCommands -/

theorem State.sluDone_carries {o : State} {s : State} {p : Nat} {st : Nat} (h1 : Carries o s) : Carries o
    (State.sluDone s p st) := by
  unfold State.sluDone
  exact State.setFld_carries h1

theorem sluRead_carries {o : State} {s : State} {p : Nat} (h1 : Carries o s) : Carries o (sluRead s p) := by
  unfold sluRead
  refine pIte (P := Carries o) ?_ ?_
  · exact h1
  · split
    · rename_i x1 x2 x3 x4 e5
      extract_lets +onlyGivenNames v6
      refine pIte (P := Carries o) ?_ ?_
      · exact State.sluDone_carries h1
      · extract_lets +onlyGivenNames v7
        exact State.sluDone_carries (State.setAll_carries h1)

theorem State.sluTake_carries {o : State} {s : State} {p : Nat} {kind : Nat} {i : Nat} (h1 : Carries o s) : Carries o
    (State.sluTake s p kind i) := by
  unfold State.sluTake
  extract_lets +onlyGivenNames v1
  extract_lets +onlyGivenNames v2
  extract_lets +onlyGivenNames v3
  have h4 : Carries o v3 := by
    unfold v3
    refine pFoldl (P := Carries o) ?_ ?_
    · exact h1
    · intro s5 x6 h7
      exact State.setFld_carries h7
  clear_value v3
  split
  · rename_i x8
    exact State.portGates_carries (State.writeEn_carries h4)
  · rename_i x9
    exact State.writeEn_carries h4
  · rename_i x10
    exact State.writeEn_carries h4
  · rename_i x11
    exact State.streamGate_carries h4
  · rename_i x12
    exact State.setFld_carries (State.setSrfRun_carries h4)
  · rename_i x13 e14 e15 e16 e17 e18
    exact h4

theorem sluWrite_carries {o : State} {s : State} {p : Nat} (h1 : Carries o s) : Carries o (sluWrite s p) := by
  unfold sluWrite
  refine pIte (P := Carries o) ?_ ?_
  · exact h1
  · split
    · rename_i x1 x2 x3 x4 e5
      extract_lets +onlyGivenNames v6
      refine pIte (P := Carries o) ?_ ?_
      · exact State.sluDone_carries h1
      · refine pIte (P := Carries o) ?_ ?_
        · exact State.sluDone_carries h1
        · refine pIte (P := Carries o) ?_ ?_
          · exact State.sluDone_carries h1
          · extract_lets +onlyGivenNames v7
            have h8 : Carries o v7 := by
              unfold v7
              exact State.sluTake_carries h1
            clear_value v7
            refine pIte (P := Carries o) ?_ ?_
            · refine pIte (P := Carries o) ?_ ?_
              · exact State.sluDone_carries (State.configChange_carries h8)
              · exact State.sluDone_carries h1
            · exact State.sluDone_carries h8

theorem sluFlush_carries {o : State} {s : State} {p : Nat} (h1 : Carries o s) : Carries o (sluFlush s p) := by
  unfold sluFlush
  refine pIte (P := Carries o) ?_ ?_
  · exact h1
  · split
    · rename_i x1 x2 x3 x4 e5
      extract_lets +onlyGivenNames v6
      refine pIte (P := Carries o) ?_ ?_
      · exact State.sluDone_carries h1
      · extract_lets +onlyGivenNames v7
        extract_lets +onlyGivenNames v8
        have h9 : Carries o v8 := by
          unfold v8
          split
          · rename_i x10
            refine pFoldl (P := Carries o) ?_ ?_
            · exact h1
            · intro s11 x12 h13
              exact State.dryQueue_carries h13
          · rename_i x14
            exact State.dryQueue_carries h1
          · rename_i x15 e16 e17
            exact State.dryHostQueue_carries h1
        clear_value v8
        exact State.sluDone_carries (State.bumpFld_carries h9)

theorem sluClear_carries {o : State} {s : State} {p : Nat} (h1 : Carries o s) : Carries o (sluClear s p) := by
  unfold sluClear
  refine pIte (P := Carries o) ?_ ?_
  · exact h1
  · split
    · rename_i x1 x2 x3 x4 e5
      extract_lets +onlyGivenNames v6
      refine pIte (P := Carries o) ?_ ?_
      · exact State.sluDone_carries h1
      · extract_lets +onlyGivenNames v7
        have h8 : Carries o v7 := by
          unfold v7
          refine pFoldl (P := Carries o) ?_ ?_
          · exact h1
          · intro s9 x10 h11
            exact State.setFld_carries h11
        clear_value v7
        exact State.sluDone_carries (pIte (P := Carries o) (State.streamGate_carries h8) h8)

theorem sluReserved_carries {o : State} {s : State} {p : Nat} (h1 : Carries o s) : Carries o (sluReserved s p) := by
  unfold sluReserved
  exact pIte (P := Carries o) (State.sluDone_carries h1) h1

theorem sluConfigChange_carries {o : State} {s : State} {p : Nat} (h1 : Carries o s) : Carries o (sluConfigChange s p)
    := by
  unfold sluConfigChange
  exact pIte (P := Carries o) (sluWrite_carries h1) h1

/-! ### Clock -/

theorem State.fireTick_carries {o : State} {s : State} {at_ : Nat} (h1 : Carries o s) : Carries o (State.fireTick s
    at_) := by
  unfold State.fireTick
  exact carriesMk h1 rfl rfl rfl rfl

theorem State.tickStepped_carries {o : State} {s : State} {d : Nat} (h1 : Carries o s) : Carries o (State.tickStepped
    s d) := by
  unfold State.tickStepped
  refine pIte (P := Carries o) ?_ ?_
  · exact h1
  · refine pIte (P := Carries o) ?_ ?_
    · exact pIte (P := Carries o) (State.fireTick_carries h1) h1
    · exact carriesMk h1 rfl rfl rfl rfl

theorem timSnap_carries {o : State} {s : State} {p : Nat} (h1 : Carries o s) : Carries o (timSnap s p) := by
  unfold timSnap
  refine pIte (P := Carries o) ?_ ?_
  · exact h1
  · extract_lets +onlyGivenNames v1
    have h2 : Carries o v1 := by
      unfold v1
      exact State.setAll_carries h1
    clear_value v1
    refine pFoldl (P := Carries o) ?_ ?_
    · exact h2
    · intro s3 x4 h5
      extract_lets +onlyGivenNames v6
      exact State.setAll_carries h5

theorem State.gatesStepped_carries {o : State} {s : State} {d : Nat} (h1 : Carries o s) : Carries o
    (State.gatesStepped s d) := by
  unfold State.gatesStepped
  extract_lets +onlyGivenNames v1
  have h2 : Carries o v1 := by
    unfold v1
    refine pFoldl (P := Carries o) ?_ ?_
    · exact h1
    · intro s3 x4 h5
      exact pIte (P := Carries o) (State.portGates_carries h5) h5
  clear_value v1
  refine pFoldl (P := Carries o) ?_ ?_
  · exact h2
  · intro s6 x7 h8
    extract_lets +onlyGivenNames v9
    exact pIte (P := Carries o) (State.streamGate_carries h8) h8

theorem State.timEvent_carries {o : State} {s : State} {f : Fld} {n : Nat} (h1 : Carries o s) : Carries o
    (State.timEvent s f n) := by
  unfold State.timEvent
  extract_lets +onlyGivenNames v1
  have h2 : Carries o v1 := by
    unfold v1
    exact State.devicePost_carries (State.setFld_carries h1)
  clear_value v1
  exact pIte (P := Carries o) (State.signalVec_carries h2) h2

theorem timStep_carries {o : State} {s : State} {p : Nat} {d : Nat} (h1 : Carries o s) : Carries o (timStep s p d) :=
    by
  unfold timStep
  refine pIte (P := Carries o) ?_ ?_
  · exact h1
  · extract_lets +onlyGivenNames v1
    have h2 : Carries o v1 := by
      unfold v1
      exact State.wr_carries h1
    clear_value v1
    refine pIte (P := Carries o) ?_ ?_
    · exact State.wr_carries h2
    · extract_lets +onlyGivenNames v3
      extract_lets +onlyGivenNames v4
      have h5 : Carries o v4 := by
        unfold v4
        exact State.setNet_carries h2
      clear_value v4
      extract_lets +onlyGivenNames v6
      extract_lets +onlyGivenNames v7
      have h8 : Carries o v7 := by
        unfold v7
        exact pIte (P := Carries o) (carriesMk h5 rfl rfl rfl rfl) h5
      clear_value v7
      extract_lets +onlyGivenNames v9
      have h10 : Carries o v9 := by
        unfold v9
        exact State.gatesStepped_carries (State.tickStepped_carries h8)
      clear_value v9
      extract_lets +onlyGivenNames v11
      have h12 : Carries o v11 := by
        unfold v11
        exact State.timEvent_carries h10
      clear_value v11
      exact State.wr_carries h12

theorem timRateWrite_carries {o : State} {s : State} {p : Nat} {d : Nat} {v : Nat} (h1 : Carries o s) : Carries o
    (timRateWrite s p d v) := by
  unfold timRateWrite
  exact pIte (P := Carries o) h1 (State.setFld_carries h1)

theorem tick_carries {o : State} {s : State} {now : Nat} (h1 : Carries o s) : Carries o (tick s now) := by
  unfold tick
  extract_lets +onlyGivenNames v1
  have h2 : Carries o v1 := by
    unfold v1
    exact State.upTo_carries h1
  clear_value v1
  exact pIte (P := Carries o) (State.fireTick_carries h2) h2

theorem ppsOutSecond_carries {o : State} {s : State} {now : Nat} (h1 : Carries o s) : Carries o (ppsOutSecond s now)
    := by
  unfold ppsOutSecond
  extract_lets +onlyGivenNames v1
  have h2 : Carries o v1 := by
    unfold v1
    exact State.upTo_carries h1
  clear_value v1
  refine pIte (P := Carries o) ?_ ?_
  · exact h2
  · extract_lets +onlyGivenNames v3
    extract_lets +onlyGivenNames v4
    have h5 : Carries o v4 := by
      unfold v4
      exact carriesMk h2 rfl rfl rfl rfl
    clear_value v4
    exact pIte (P := Carries o) (State.emit_carries (carriesMk h5 rfl rfl rfl rfl)) h5

theorem ppsInEdge_carries {o : State} {s : State} {now : Nat} (h1 : Carries o s) : Carries o (ppsInEdge s now) := by
  unfold ppsInEdge
  extract_lets +onlyGivenNames v1
  have h2 : Carries o v1 := by
    unfold v1
    exact State.upTo_carries h1
  clear_value v1
  refine pIte (P := Carries o) ?_ ?_
  · exact h2
  · extract_lets +onlyGivenNames v3
    extract_lets +onlyGivenNames v4
    have h5 : Carries o v4 := by
      unfold v4
      exact State.setAll_carries h2
    clear_value v4
    exact State.timEvent_carries h5

theorem ppsOutWidthEnd_carries {o : State} {s : State} {now : Nat} (h1 : Carries o s) : Carries o (ppsOutWidthEnd s
    now) := by
  unfold ppsOutWidthEnd
  extract_lets +onlyGivenNames v1
  have h2 : Carries o v1 := by
    unfold v1
    exact State.upTo_carries h1
  clear_value v1
  split
  · rename_i x3 e4
    exact h2
  · rename_i x5 x6 e7
    exact pIte (P := Carries o) (State.emit_carries (carriesMk h2 rfl rfl rfl rfl)) h2

/-! ### Gptp -/

theorem State.updPtp_carries {o : State} {s : State} {p : Nat} {f : PtpPort → PtpPort} (h1 : Carries o s) : Carries o
    (State.updPtp s p f) := by
  unfold State.updPtp
  exact carriesMk h1 rfl rfl rfl rfl

theorem State.ptpForget_carries {o : State} {s : State} {p : Nat} (h1 : Carries o s) : Carries o (State.ptpForget s p)
    := by
  unfold State.ptpForget
  exact State.updPtp_carries h1

theorem State.ptpSend_carries {o : State} {s : State} {p : Nat} {bs : List Byte} (h1 : Carries o s) : Carries o
    (State.ptpSend s p bs) := by
  unfold State.ptpSend
  exact State.sendOwn_carries h1

theorem State.ptpFollow_carries {o : State} {s : State} {t : Nat} {origin : Nat} (h1 : Carries o s) : Carries o
    (State.ptpFollow s t origin) := by
  unfold State.ptpFollow
  extract_lets +onlyGivenNames v1
  have h2 : Carries o v1 := by
    unfold v1
    exact State.setNet_carries h1
  clear_value v1
  extract_lets +onlyGivenNames v3
  have h4 : Carries o v3 := by
    unfold v3
    exact State.tickStepped_carries (State.setFld_carries h2)
  clear_value v3
  exact carriesMk h4 rfl rfl rfl rfl

theorem State.ptpRelay_carries {o : State} {s : State} {from_ : Nat} {seq : Nat} {origin : Nat} {info : List Byte} (h1
    : Carries o s) : Carries o (State.ptpRelay s from_ seq origin info) := by
  unfold State.ptpRelay
  refine pFoldl (P := Carries o) ?_ ?_
  · exact h1
  · intro s1 x2 h3
    exact State.ptpSend_carries (State.updPtp_carries h3)

theorem State.ptpReceive_carries {o : State} {s : State} {p : Nat} {t : Nat} {bs : List Byte} (h1 : Carries o s) :
    Carries o (State.ptpReceive s p t bs) := by
  unfold State.ptpReceive
  extract_lets +onlyGivenNames v1
  extract_lets +onlyGivenNames v2
  extract_lets +onlyGivenNames v3
  extract_lets +onlyGivenNames v4
  extract_lets +onlyGivenNames v5
  extract_lets +onlyGivenNames v6
  extract_lets +onlyGivenNames v7
  refine pIte (P := Carries o) ?_ ?_
  · exact h1
  · split
    · rename_i x8 e9
      exact pIte (P := Carries o) (State.updPtp_carries h1) h1
    · rename_i x10 e11
      extract_lets +onlyGivenNames v12
      exact State.ptpSend_carries (State.updPtp_carries h1)
    · rename_i x13 e14
      exact pIte (P := Carries o) (State.updPtp_carries h1) h1
    · rename_i x15 e16
      split
      · rename_i x17 x18 x19 x20 x21 e22 e23
        refine pIte (P := Carries o) ?_ ?_
        · exact h1
        · extract_lets +onlyGivenNames v24
          extract_lets +onlyGivenNames v25
          extract_lets +onlyGivenNames v26
          have h27 : Carries o v26 := by
            unfold v26
            exact State.ptpFollow_carries (State.updPtp_carries h1)
          clear_value v26
          exact State.ptpRelay_carries h27
      · rename_i x28 x29 e30
        exact h1
    · rename_i x31 e32
      split
      · rename_i x33 x34 x35 x36 x37 x38 e39 e40 e41
        refine pIte (P := Carries o) ?_ ?_
        · exact h1
        · extract_lets +onlyGivenNames v42
          extract_lets +onlyGivenNames v43
          exact State.updPtp_carries h1
      · rename_i x44 x45 x46 e47
        exact h1
    · rename_i x48 e49
      extract_lets +onlyGivenNames v50
      extract_lets +onlyGivenNames v51
      extract_lets +onlyGivenNames v52
      extract_lets +onlyGivenNames v53
      exact pIte (P := Carries o) h1 (State.updPtp_carries h1)
    · rename_i x54 e55 e56 e57 e58 e59 e60
      exact h1

theorem State.ptpAsk_carries {o : State} {s : State} {p : Nat} (h1 : Carries o s) : Carries o (State.ptpAsk s p) := by
  unfold State.ptpAsk
  extract_lets +onlyGivenNames v1
  have h2 : Carries o v1 := by
    unfold v1
    exact State.updPtp_carries h1
  clear_value v1
  exact State.ptpSend_carries h2

theorem State.ptpSent_carries {o : State} {s : State} {p : Nat} {bs : List Byte} (h1 : Carries o s) : Carries o
    (State.ptpSent s p bs) := by
  unfold State.ptpSent
  extract_lets +onlyGivenNames v1
  extract_lets +onlyGivenNames v2
  extract_lets +onlyGivenNames v3
  extract_lets +onlyGivenNames v4
  extract_lets +onlyGivenNames v5
  refine pIte (P := Carries o) ?_ ?_
  · exact h1
  · split
    · rename_i x6 e7
      split
      · rename_i x8 x9 x10 x11 e12
        exact pIte (P := Carries o) h1 (State.ptpSend_carries (State.updPtp_carries h1))
      · rename_i x13 e14
        exact h1
    · rename_i x15 e16
      exact pIte (P := Carries o) (State.updPtp_carries h1) h1
    · rename_i x17 e18
      split
      · rename_i x19 e20
        exact h1
      · rename_i x21 x22 e23
        exact State.ptpSend_carries (State.updPtp_carries h1)
    · rename_i x24 e25 e26 e27
      exact h1

theorem State.ptpTimers_carries {o : State} {s : State} (h1 : Carries o s) : Carries o (State.ptpTimers s) := by
  unfold State.ptpTimers
  refine pFoldl (P := Carries o) ?_ ?_
  · exact h1
  · intro s1 x2 h3
    extract_lets +onlyGivenNames v4
    extract_lets +onlyGivenNames v5
    have h6 : Carries o v5 := by
      unfold v5
      exact pIte (P := Carries o) (State.updPtp_carries h3) h3
    clear_value v5
    extract_lets +onlyGivenNames v7
    have h8 : Carries o v7 := by
      unfold v7
      exact pIte (P := Carries o) (State.ptpAsk_carries h6) h6
    clear_value v7
    refine pIte (P := Carries o) ?_ ?_
    · extract_lets +onlyGivenNames v9
      have h10 : Carries o v9 := by
        unfold v9
        exact State.updPtp_carries h8
      clear_value v9
      exact pIte (P := Carries o) (State.ptpSend_carries h10) h10
    · exact h8

end Sys2Proof.Machine
end

