-- ==== Sys2Proof/Laws/CarryBridge.lean ====
section
/-! SUPPORT. What the operations of Bridge, Intake carry from state to state. -/

namespace Sys2Proof.Machine

open Sys2Proof

/-! ### Bridge -/

theorem State.bridgeLinkChange_carries {o : State} {s : State} {p : Nat} (h1 : Carries o s) : Carries o
    (State.bridgeLinkChange s p) := by
  unfold State.bridgeLinkChange
  extract_lets +onlyGivenNames v1
  have h2 : Carries o v1 := by
    unfold v1
    refine pIte (P := Carries o) ?_ ?_
    · exact h1
    · refine pIte (P := Carries o) ?_ ?_
      · exact State.ptpForget_carries (State.portLinkLost_carries h1)
      · refine pFoldl (P := Carries o) ?_ ?_
        · exact State.setTxQueue_carries h1
        · intro s3 x4 h5
          split
          · rename_i x6 x7 e8
            exact State.dryCopy_carries h5
          · rename_i x9 e10
            exact State.dropRef_carries h5
  clear_value v1
  exact State.stpSettle_carries h2

theorem State.canSend_carries {o : State} {s : State} {n : Nat} {rec_ : List Byte} (h1 : Carries o s) : Carries o
    (State.canSend s n rec_) := by
  unfold State.canSend
  extract_lets +onlyGivenNames v1
  refine pIte (P := Carries o) ?_ ?_
  · exact State.bumpFld_carries h1
  · split
    · rename_i x2 x3 x4 s5 e6
      have h7 := Carries2.of (o := o) ?_ e6
      rotate_left
      · exact State.allocHead_carries h1
      refine pIte (P := Carries o) ?_ ?_
      · exact State.bumpFld_carries h7
      · extract_lets +onlyGivenNames v8
        exact State.setTxQueue_carries (State.setHead_carries h7)

theorem State.untunnel_carries {o : State} {s : State} {p : Nat} {a : Nat} {a3 : List Byte} (h1 : Carries o s) :
    Carries o (State.untunnel s p a a3) := by
  induction a generalizing s p a3
  · unfold State.untunnel
    exact h1
  · rename_i n1 ih2
    unfold State.untunnel
    extract_lets +onlyGivenNames v1
    refine pIte (P := Carries o) ?_ ?_
    · exact h1
    · extract_lets +onlyGivenNames v2
      extract_lets +onlyGivenNames v3
      have h4 : Carries o v3 := by
        unfold v3
        exact pIte (P := Carries o) h1 (pIte (P := Carries o) (State.canSend_carries h1) (State.bumpFld_carries h1))
      clear_value v3
      apply ih2
      exact h4

theorem State.bridgeFrame_carries {o : State} {s : State} {d : Droplet} (h1 : Carries o s) : Carries2 o
    (State.bridgeFrame s d) := by
  unfold State.bridgeFrame
  extract_lets +onlyGivenNames v1
  split
  · rename_i x2 x3 x4 x5 e6
    extract_lets +onlyGivenNames v7
    extract_lets +onlyGivenNames v8
    refine pIte (P := Carries2 o) ?_ ?_
    · refine Carries2.mk ?_
      refine pIte (P := Carries o) ?_ ?_
      · exact State.stpReceive_carries h1
      · exact pIte (P := Carries o) (State.ptpReceive_carries h1) h1
    · refine pIte (P := Carries2 o) ?_ ?_
      · exact Carries2.mk h1
      · extract_lets +onlyGivenNames v9
        have h10 : Carries o v9 := by
          unfold v9
          exact State.learnAsk_carries h1
        clear_value v9
        extract_lets +onlyGivenNames v11
        have h12 : Carries o v11 := by
          unfold v11
          exact pIte (P := Carries o) (State.untunnel_carries h10) h10
        clear_value v11
        extract_lets +onlyGivenNames v13
        extract_lets +onlyGivenNames v14
        extract_lets +onlyGivenNames v15
        refine pIte (P := Carries2 o) ?_ ?_
        · exact Carries2.mk h12
        · split
          · rename_i x16 x17 s18 e19
            have h20 := Carries2.of (o := o) ?_ e19
            rotate_left
            · exact State.l2Lookup_carries h12
            exact Carries2.mk h20
          · rename_i x21 s22 e23
            have h24 := Carries2.of (o := o) ?_ e23
            rotate_left
            · exact State.l2Lookup_carries h12
            exact Carries2.mk h24

theorem State.bridgeProgram_carries {o : State} {s : State} {i : Nat} (h1 : Carries o s) : Carries o
    (State.bridgeProgram s i) := by
  unfold State.bridgeProgram
  split
  · rename_i x1 e2
    exact h1
  · rename_i x3 x4 e5
    split
    · rename_i x6 x7 s8 e9
      have h10 := Carries2.of (o := o) ?_ e9
      rotate_left
      · exact pIte (P := Carries2 o) (Carries2.mk h1) (State.bridgeFrame_carries h1)
      split
      · rename_i x11
        have h12 := Carries2.of (o := o) ?_ e9
        rotate_left
        · exact pIte (P := Carries2 o) (Carries2.mk h1) (State.bridgeFrame_carries h1)
        exact State.complete_carries h10
      · rename_i x13 x14 x15
        have h16 := Carries2.of (o := o) ?_ e9
        rotate_left
        · exact pIte (P := Carries2 o) (Carries2.mk h1) (State.bridgeFrame_carries h1)
        exact State.complete_carries (State.setHead_carries h10)

theorem State.bridgeEnter_carries {o : State} {s : State} {d : Droplet} {flk : List Byte} (h1 : Carries o s) : Carries
    o (State.bridgeEnter s d flk) := by
  unfold State.bridgeEnter
  extract_lets +onlyGivenNames v1
  extract_lets +onlyGivenNames v2
  extract_lets +onlyGivenNames v3
  split
  · rename_i x4 x5 e6
    exact State.refuse_carries h1
  · rename_i x7 e8
    split
    · rename_i x9 x10 s11 e12
      have h13 := Carries2.of (o := o) ?_ e12
      rotate_left
      · exact State.newSlot_carries h1
      refine pIte (P := Carries o) ?_ ?_
      · exact State.drySlot_carries h13
      · split
        · rename_i x14 e15
          exact h13
        · rename_i x16 x17 e18
          extract_lets +onlyGivenNames v19
          have h20 : Carries o v19 := by
            unfold v19
            exact State.setSlot_carries h13
          clear_value v19
          exact State.bridgeProgram_carries (carriesMk h20 rfl rfl rfl rfl)

theorem frameSent_carries {o : State} {s : State} {now : Nat} {p : Nat} {express : Bool} (h1 : Carries o s) : Carries
    o (frameSent s now p express) := by
  unfold frameSent
  extract_lets +onlyGivenNames v1
  have h2 : Carries o v1 := by
    unfold v1
    exact frameTransmitEnd_carries h1
  clear_value v1
  split
  · rename_i x3 e4
    exact h2
  · rename_i x5 x6 e7
    exact pIte (P := Carries o) (State.ptpSent_carries h2) h2

theorem tickBoth_carries {o : State} {s : State} {now : Nat} (h1 : Carries o s) : Carries o (tickBoth s now) := by
  unfold tickBoth
  extract_lets +onlyGivenNames v1
  have h2 : Carries o v1 := by
    unfold v1
    exact tick_carries h1
  clear_value v1
  exact pIte (P := Carries o) (State.ptpTimers_carries (State.stpTimers_carries h2)) h2

/-! ### Intake -/

theorem State.setLink_carries {o : State} {s : State} {p : Nat} {up : Bool} (h1 : Carries o s) : Carries o
    (State.setLink s p up) := by
  unfold State.setLink
  exact State.setFld_carries (State.setFld_carries h1)

theorem State.setUnplug_carries {o : State} {s : State} {src : Nat} {u : Option Unplug} (h1 : Carries o s) : Carries o
    (State.setUnplug s src u) := by
  unfold State.setUnplug
  exact carriesMk h1 rfl rfl rfl rfl

theorem State.plugMessage_carries {o : State} {s : State} {src : Nat} {bytes : List Byte} (h1 : Carries o s) : Carries
    o (State.plugMessage s src bytes) := by
  unfold State.plugMessage
  extract_lets +onlyGivenNames v1
  extract_lets +onlyGivenNames v2
  extract_lets +onlyGivenNames v3
  exact State.sendOwn_carries h1

theorem State.arrive_carries {o : State} {s : State} {src : Nat} {kind : Nat} {addr : Nat} {cause : Nat} (h1 : Carries
    o s) : Carries o (State.arrive s src kind addr cause) := by
  unfold State.arrive
  split
  · rename_i x1 x2 s3 e4
    have h5 := Carries2.of (o := o) ?_ e4
    rotate_left
    · exact State.epSeen_carries h1
    extract_lets +onlyGivenNames v6
    have h7 : Carries o v6 := by
      unfold v6
      exact State.bumpFld_carries h5
    clear_value v6
    exact State.plugMessage_carries h7

theorem State.plugBack_carries {o : State} {s : State} {src : Nat} (h1 : Carries o s) : Carries2 o (State.plugBack s
    src) := by
  unfold State.plugBack
  split
  · rename_i x1 x2 e3
    refine pIte (P := Carries2 o) ?_ ?_
    · exact Carries2.mk (State.setUnplug_carries h1)
    · exact Carries2.mk (State.setUnplug_carries h1)
  · rename_i x4 e5
    exact Carries2.mk (State.arrive_carries h1)

theorem State.plugLost_carries {o : State} {s : State} {src : Nat} {cause : Nat} (h1 : Carries o s) : Carries o
    (State.plugLost s src cause) := by
  unfold State.plugLost
  split
  · rename_i x1 e2
    exact State.setUnplug_carries h1
  · rename_i x3 x4 e5
    exact pIte (P := Carries o) (State.setUnplug_carries h1) h1

theorem State.enterPath_carries {o : State} {s : State} {d : Droplet} {flk : List Byte} {q : Nat} (h1 : Carries o s) :
    Carries o (State.enterPath s d flk q) := by
  unfold State.enterPath
  refine pIte (P := Carries o) ?_ ?_
  · exact State.bridgeEnter_carries h1
  · extract_lets +onlyGivenNames v1
    have h2 : Carries o v1 := by
      unfold v1
      exact State.takeVersion_carries h1
    clear_value v1
    extract_lets +onlyGivenNames v3
    split
    · rename_i x4 x5 s6 e7
      have h8 := Carries2.of (o := o) ?_ e7
      rotate_left
      · exact State.mark_carries h2
      split
      · rename_i x9 x10 x11 x12 s13 e14
        have h15 := Carries2.of (o := o) ?_ e14
        rotate_left
        · exact State.classifyPass_carries h8
        split
        · rename_i x16 x17 s18 e19
          have h20 := Carries2.of (o := o) ?_ e19
          rotate_left
          · exact State.mark_carries h15
          exact State.takeIn_carries h20

theorem State.resumeFrames_carries {o : State} {s : State} {src : Nat} {a : Nat} (h1 : Carries o s) : Carries o
    (State.resumeFrames s src a) := by
  induction a generalizing s src
  · unfold State.resumeFrames
    exact h1
  · rename_i n1 ih2
    unfold State.resumeFrames
    split
    · rename_i x1 e2
      exact h1
    · rename_i x3 x4 x5 e6
      split
      · rename_i x7 x8 s9 e10
        have h11 := Carries2.of (o := o) ?_ e10
        rotate_left
        · exact State.giveBody_carries h1
        apply ih2
        exact State.enterPath_carries (State.storeFrame_carries (State.setHeldFrames_carries h11))
      · rename_i x12 s13 e14
        have h15 := Carries2.of (o := o) ?_ e14
        rotate_left
        · exact State.giveBody_carries h1
        exact State.setHeldFrames_carries h15

theorem State.resumeIntake_carries {o : State} {s : State} {a : Nat} (h1 : Carries o s) : Carries o
    (State.resumeIntake s a) := by
  induction a generalizing s
  · unfold State.resumeIntake
    exact h1
  · rename_i n1 ih2
    unfold State.resumeIntake
    split
    · rename_i x1 e2
      exact h1
    · rename_i x3 x4 x5 x6 e7
      extract_lets +onlyGivenNames v8
      extract_lets +onlyGivenNames v9
      have h10 : Carries o v9 := by
        unfold v9
        exact carriesMk h1 rfl rfl rfl rfl
      clear_value v9
      split
      · rename_i x11 e12
        apply ih2
        exact h10
      · rename_i x13 x14 x15 e16
        extract_lets +onlyGivenNames v17
        extract_lets +onlyGivenNames v18
        extract_lets +onlyGivenNames v19
        have h20 : Carries o v19 := by
          unfold v19
          exact State.enterPath_carries (State.storeFrame_carries (State.setHeldFrames_carries h10))
        clear_value v19
        apply ih2
        exact State.resumeFrames_carries h20

theorem State.intake_carries {o : State} {s : State} {d : Droplet} {bytes : List Byte} {flk : List Byte} (h1 : Carries
    o s) : Carries o (State.intake s d bytes flk) := by
  unfold State.intake
  extract_lets +onlyGivenNames v1
  split
  · rename_i x2 x3 x4 s5 e6
    have h7 := Carries2.of (o := o) ?_ e6
    rotate_left
    · exact State.allocHead_carries h1
    refine pIte (P := Carries o) ?_ ?_
    · exact State.countDry_carries (State.bumpFld_carries h7)
    · extract_lets +onlyGivenNames v8
      extract_lets +onlyGivenNames v9
      have h10 : Carries o v9 := by
        unfold v9
        exact State.bumpFld_carries h7
      clear_value v9
      extract_lets +onlyGivenNames v11
      refine pIte (P := Carries o) ?_ ?_
      · exact State.setHeldFrames_carries h10
      · split
        · rename_i x12 x13 s14 e15
          have h16 := Carries2.of (o := o) ?_ e15
          rotate_left
          · exact State.giveBody_carries h10
          exact State.enterPath_carries (State.storeFrame_carries h16)
        · rename_i x17 s18 e19
          have h20 := Carries2.of (o := o) ?_ e19
          rotate_left
          · exact State.giveBody_carries h10
          exact State.setHeldFrames_carries h20

theorem State.intakeEthernet_carries {o : State} {s : State} {src : Nat} {stamp : Nat} {bytes : List Byte} {express :
    Bool} {macsecOk : Bool} (h1 : Carries o s) : Carries o (State.intakeEthernet s src stamp bytes express macsecOk)
    := by
  unfold State.intakeEthernet
  extract_lets +onlyGivenNames v1
  exact State.intake_carries h1

theorem linkHoldExpire_carries {o : State} {s : State} {now : Nat} {src : Nat} (h1 : Carries o s) : Carries o
    (linkHoldExpire s now src) := by
  unfold linkHoldExpire
  extract_lets +onlyGivenNames v1
  have h2 : Carries o v1 := by
    unfold v1
    exact State.upTo_carries h1
  clear_value v1
  split
  · rename_i x3 e4
    exact h2
  · rename_i x5 x6 e7
    refine pIte (P := Carries o) ?_ ?_
    · exact h2
    · refine pIte (P := Carries o) ?_ ?_
      · exact State.setUnplug_carries h2
      · extract_lets +onlyGivenNames v8
        extract_lets +onlyGivenNames v9
        have h10 : Carries o v9 := by
          unfold v9
          exact State.setUnplug_carries h2
        clear_value v9
        exact State.portLinkLost_carries (State.setFld_carries (State.setLink_carries h10))

theorem unplugDrained_carries {o : State} {s : State} {now : Nat} {src : Nat} (h1 : Carries o s) : Carries o
    (unplugDrained s now src) := by
  unfold unplugDrained
  extract_lets +onlyGivenNames v1
  have h2 : Carries o v1 := by
    unfold v1
    exact State.upTo_carries h1
  clear_value v1
  split
  · rename_i x3 e4
    exact h2
  · rename_i x5 x6 e7
    refine pIte (P := Carries o) ?_ ?_
    · exact h2
    · extract_lets +onlyGivenNames v8
      extract_lets +onlyGivenNames v9
      have h10 : Carries o v9 := by
        unfold v9
        exact State.departTables_carries h2
      clear_value v9
      extract_lets +onlyGivenNames v11
      have h12 : Carries o v11 := by
        unfold v11
        exact State.plugMessage_carries h10
      clear_value v11
      extract_lets +onlyGivenNames v13
      have h14 : Carries o v13 := by
        unfold v13
        exact State.setUnplug_carries h12
      clear_value v13
      extract_lets +onlyGivenNames v15
      have h16 : Carries o v15 := by
        unfold v15
        exact pIte (P := Carries o) (State.setFld_carries h14) h14
      clear_value v15
      refine pIte (P := Carries o) ?_ ?_
      · extract_lets +onlyGivenNames v17
        have h18 : Carries o v17 := by
          unfold v17
          exact State.arrive_carries h16
        clear_value v17
        exact pIte (P := Carries o) (State.setLink_carries h18) h18
      · exact h16

theorem poolRefillDone_carries {o : State} {s : State} {p : Nat} (h1 : Carries o s) : Carries o (poolRefillDone s p)
    := by
  unfold poolRefillDone
  refine pIte (P := Carries o) ?_ ?_
  · exact h1
  · extract_lets +onlyGivenNames v1
    have h2 : Carries o v1 := by
      unfold v1
      exact State.endRefill_carries h1
    clear_value v1
    exact State.resumeIntake_carries h2

theorem poolSpillDone_carries {o : State} {s : State} {p : Nat} (h1 : Carries o s) : Carries o (poolSpillDone s p) :=
    by
  unfold poolSpillDone
  refine pIte (P := Carries o) ?_ ?_
  · exact h1
  · extract_lets +onlyGivenNames v1
    have h2 : Carries o v1 := by
      unfold v1
      exact State.endSpill_carries h1
    clear_value v1
    exact State.resumeIntake_carries h2

end Sys2Proof.Machine
end

