-- ==== Sys2Proof/Laws/CarryEdge.lean ====
section
/-! SUPPORT. What the operations of Edge, SelfTest carry from state to state. -/

namespace Sys2Proof.Machine

open Sys2Proof

/-! ### Edge -/

theorem State.setPhy_carries {o : State} {s : State} {src : Nat} {up : Bool} (h1 : Carries o s) : Carries o
    (State.setPhy s src up) := by
  unfold State.setPhy
  exact carriesMk h1 rfl rfl rfl rfl

theorem State.setLanes_carries {o : State} {s : State} {p : Nat} {st : Nat} (h1 : Carries o s) : Carries o
    (State.setLanes s p st) := by
  unfold State.setLanes
  exact State.setAll_carries h1

theorem State.countPorts_carries {o : State} {s : State} (h1 : Carries o s) : Carries o (State.countPorts s) := by
  unfold State.countPorts
  exact State.wr_carries h1

theorem State.linkChange_carries {o : State} {s : State} (h1 : Carries o s) : Carries o (State.linkChange s) := by
  unfold State.linkChange
  exact State.eventSup_carries (State.countPorts_carries h1)

theorem State.startVerify_carries {o : State} {s : State} {p : Nat} (h1 : Carries o s) : Carries o (State.startVerify
    s p) := by
  unfold State.startVerify
  refine pIte (P := Carries o) ?_ ?_
  · extract_lets +onlyGivenNames v1
    have h2 : Carries o v1 := by
      unfold v1
      exact State.setFld_carries h1
    clear_value v1
    exact carriesMk h2 rfl rfl rfl rfl
  · exact State.setFld_carries h1

theorem State.linkComesUp_carries {o : State} {s : State} {src : Nat} {speed : Nat} {fec : Nat} (h1 : Carries o s) :
    Carries o (State.linkComesUp s src speed fec) := by
  unfold State.linkComesUp
  extract_lets +onlyGivenNames v1
  have h2 : Carries o v1 := by
    unfold v1
    exact State.setPhy_carries h1
  clear_value v1
  refine pIte (P := Carries o) ?_ ?_
  · extract_lets +onlyGivenNames v3
    have h4 : Carries o v3 := by
      unfold v3
      exact State.setLanes_carries h2
    clear_value v3
    extract_lets +onlyGivenNames v5
    have h6 : Carries o v5 := by
      unfold v5
      exact pIte (P := Carries o) (State.setAll_carries h4) (pIte (P := Carries o) h4 (State.setFld_carries h4))
    clear_value v5
    extract_lets +onlyGivenNames v7
    have h8 : Carries o v7 := by
      unfold v7
      exact State.setFld_carries h6
    clear_value v7
    refine pIte (P := Carries o) ?_ ?_
    · exact State.linkChange_carries (State.bridgeLinkChange_carries (State.setLink_carries h8))
    · refine pIte (P := Carries o) ?_ ?_
      · exact h8
      · extract_lets +onlyGivenNames v9
        have h10 : Carries o v9 := by
          unfold v9
          exact State.startVerify_carries h8
        clear_value v9
        split
        · rename_i x11 x12 s13 e14
          have h15 := Carries2.of (o := o) ?_ e14
          rotate_left
          · exact pIte (P := Carries2 o) (State.plugBack_carries h10) (Carries2.mk h10)
          extract_lets +onlyGivenNames v16
          extract_lets +onlyGivenNames v17
          have h18 : Carries o v17 := by
            unfold v17
            exact carriesMk h15 rfl rfl rfl rfl
          clear_value v17
          exact State.linkChange_carries (pIte (P := Carries o) (State.setLink_carries h18) h18)
  · extract_lets +onlyGivenNames v19
    have h20 : Carries o v19 := by
      unfold v19
      exact State.setFld_carries h2
    clear_value v19
    extract_lets +onlyGivenNames v21
    have h22 : Carries o v21 := by
      unfold v21
      exact pIte (P := Carries o) (State.bridgeLinkChange_carries h20) h20
    clear_value v21
    exact State.linkChange_carries (pIte (P := Carries o) (Carries2.snd (State.plugBack_carries h22)) h22)

theorem State.setPresIn_carries {o : State} {s : State} {i : Nat} {v : PresIn} (h1 : Carries o s) : Carries o
    (State.setPresIn s i v) := by
  unfold State.setPresIn
  exact carriesMk h1 rfl rfl rfl rfl

theorem State.canActive_carries {o : State} {s : State} {ch : Nat} (h1 : Carries o s) : Carries o (State.canActive s
    ch) := by
  unfold State.canActive
  exact State.setAll_carries h1

theorem edgTx_carries {o : State} {s : State} {c : Nat} {x : Nat} (h1 : Carries o s) : Carries1 o (edgTx s c x) := by
  unfold edgTx
  extract_lets +onlyGivenNames v1
  extract_lets +onlyGivenNames v2
  extract_lets +onlyGivenNames v3
  extract_lets +onlyGivenNames v4
  extract_lets +onlyGivenNames v5
  extract_lets +onlyGivenNames v6
  split
  · rename_i x7 x8 x9 x10 e11
    extract_lets +onlyGivenNames v12
    extract_lets +onlyGivenNames v13
    refine pIte (P := Carries1 o) ?_ ?_
    · exact Carries1.mk (State.startOp_carries h1)
    · refine pIte (P := Carries1 o) ?_ ?_
      · exact Carries1.mk (State.startOp_carries h1)
      · refine pIte (P := Carries1 o) ?_ ?_
        · exact Carries1.mk (State.startOp_carries h1)
        · refine pIte (P := Carries1 o) ?_ ?_
          · exact Carries1.mk (State.startOp_carries h1)
          · extract_lets +onlyGivenNames v14
            have h15 : Carries o v14 := by
              unfold v14
              exact State.setRefTable_carries h1
            clear_value v14
            extract_lets +onlyGivenNames v16
            exact Carries1.mk (State.startOp_carries (State.setTxQueue_carries h15))

theorem edgRoom_carries {o : State} {s : State} {c : Nat} {x : Nat} (h1 : Carries o s) : Carries1 o (edgRoom s c x) :=
    by
  unfold edgRoom
  extract_lets +onlyGivenNames v1
  extract_lets +onlyGivenNames v2
  refine pIte (P := Carries1 o) ?_ ?_
  · exact Carries1.mk (State.startOp_carries h1)
  · exact Carries1.mk (State.startOp_carries h1)

theorem edgTs_carries {o : State} {s : State} {c : Nat} (h1 : Carries o s) : Carries1 o (edgTs s c) := by
  unfold edgTs
  extract_lets +onlyGivenNames v1
  split
  · rename_i x2 e3
    exact Carries1.mk (State.startOp_carries h1)
  · rename_i x4 x5 x6 e7
    exact Carries1.mk (State.startOp_carries (carriesMk h1 rfl rfl rfl rfl))

theorem State.laneCommand_carries {o : State} {s : State} {part : Nat} {lane : Nat} {f : State → State} (h1 : Carries
    o s) (h4 : ∀ y0, Carries o y0 → Carries o (f y0)) : Carries o (State.laneCommand s part lane f) := by
  unfold State.laneCommand
  refine pIte (P := Carries o) ?_ ?_
  · exact h1
  · extract_lets +onlyGivenNames v1
    have h2 : Carries o v1 := by
      unfold v1
      exact State.wr_carries h1
    clear_value v1
    refine pIte (P := Carries o) ?_ ?_
    · exact State.wr_carries h2
    · refine pIte (P := Carries o) ?_ ?_
      · exact State.wr_carries h2
      · apply h4
        exact h2

theorem edgLaneRetrain_carries {o : State} {s : State} {part : Nat} {lane : Nat} (h1 : Carries o s) : Carries o
    (edgLaneRetrain s part lane) := by
  unfold edgLaneRetrain
  refine State.laneCommand_carries ?_ ?_
  · exact h1
  · intro s1 h2
    exact State.setAll_carries h2

theorem State.sparing_carries {o : State} {s : State} {l : Nat} (h1 : Carries o s) : Carries o (State.sparing s l) :=
    by
  unfold State.sparing
  exact State.setFld_carries (State.setFld_carries h1)

theorem edgLaneSpare_carries {o : State} {s : State} {part : Nat} {lane : Nat} (h1 : Carries o s) : Carries o
    (edgLaneSpare s part lane) := by
  unfold edgLaneSpare
  refine State.laneCommand_carries ?_ ?_
  · exact h1
  · intro s1 h2
    exact pIte (P := Carries o) (State.wr_carries h2) (State.sparing_carries (State.setAll_carries h2))

theorem State.eoePortDown_carries {o : State} {s : State} {p : Nat} (h1 : Carries o s) : Carries o (State.eoePortDown
    s p) := by
  unfold State.eoePortDown
  exact carriesMk h1 rfl rfl rfl rfl

theorem portLinkDown_carries {o : State} {s : State} {now : Nat} {src : Nat} {cause : Nat} (h1 : Carries o s) :
    Carries o (portLinkDown s now src cause) := by
  unfold portLinkDown
  extract_lets +onlyGivenNames v1
  have h2 : Carries o v1 := by
    unfold v1
    exact State.upTo_carries h1
  clear_value v1
  refine pIte (P := Carries o) ?_ ?_
  · exact h2
  · extract_lets +onlyGivenNames v3
    have h4 : Carries o v3 := by
      unfold v3
      exact State.setPhy_carries h2
    clear_value v3
    refine pIte (P := Carries o) ?_ ?_
    · extract_lets +onlyGivenNames v5
      have h6 : Carries o v5 := by
        unfold v5
        exact State.setFld_carries (State.setLanes_carries h4)
      clear_value v5
      refine pIte (P := Carries o) ?_ ?_
      · exact State.linkChange_carries (State.bridgeLinkChange_carries (State.setLink_carries h6))
      · refine pIte (P := Carries o) ?_ ?_
        · exact h6
        · extract_lets +onlyGivenNames v7
          have h8 : Carries o v7 := by
            unfold v7
            exact State.eoePortDown_carries h6
          clear_value v7
          refine pIte (P := Carries o) ?_ ?_
          · exact State.linkChange_carries (State.plugLost_carries h8)
          · exact State.linkChange_carries (State.portLinkLost_carries (State.setLink_carries h8))
    · extract_lets +onlyGivenNames v9
      have h10 : Carries o v9 := by
        unfold v9
        exact State.setFld_carries h4
      clear_value v9
      extract_lets +onlyGivenNames v11
      have h12 : Carries o v11 := by
        unfold v11
        exact pIte (P := Carries o) (State.bridgeLinkChange_carries h10) h10
      clear_value v11
      exact State.linkChange_carries (pIte (P := Carries o) (State.plugLost_carries h12) h12)

theorem State.discard_carries {o : State} {s : State} {cnt : Fld} {src : Nat} (h1 : Carries o s) : Carries o
    (State.discard s cnt src) := by
  unfold State.discard
  exact State.bumpFld_carries h1

theorem State.dropTx_carries {o : State} {s : State} {src : Nat} {f : EdgeTx} (h1 : Carries o s) : Carries o
    (State.dropTx s src f) := by
  unfold State.dropTx
  split
  · rename_i x1 x2 e3
    exact State.copyEnds_carries h1
  · rename_i x4 e5
    exact State.dropRef_carries h1

theorem State.laneFails_carries {o : State} {s : State} {l : Nat} (h1 : Carries o s) : Carries o (State.laneFails s l)
    := by
  unfold State.laneFails
  extract_lets +onlyGivenNames v1
  have h2 : Carries o v1 := by
    unfold v1
    exact State.setFld_carries h1
  clear_value v1
  extract_lets +onlyGivenNames v3
  have h4 : Carries o v3 := by
    unfold v3
    split
    · rename_i x5 e6
      exact h2
    · rename_i x7 x8 e9
      exact State.setFld_carries h2
  clear_value v3
  exact State.eventSup_carries (State.wr_carries h4)

theorem State.latchChange_carries {o : State} {s : State} {i : Nat} {level : Bool} (h1 : Carries o s) : Carries o
    (State.latchChange s i level) := by
  unfold State.latchChange
  extract_lets +onlyGivenNames v1
  extract_lets +onlyGivenNames v2
  extract_lets +onlyGivenNames v3
  extract_lets +onlyGivenNames v4
  extract_lets +onlyGivenNames v5
  have h6 : Carries o v5 := by
    unfold v5
    exact State.setFld_carries (State.setPresIn_carries h1)
  clear_value v5
  exact pIte (P := Carries o) (State.eventSup_carries (State.setFld_carries h6)) h6

theorem State.macsecCheck_carries {o : State} {s : State} {p : Nat} (h1 : Carries o s) : Carries o (State.macsecCheck
    s p) := by
  unfold State.macsecCheck
  refine pIte (P := Carries o) ?_ ?_
  · exact h1
  · extract_lets +onlyGivenNames v1
    have h2 : Carries o v1 := by
      unfold v1
      exact State.setFld_carries h1
    clear_value v1
    refine pIte (P := Carries o) ?_ ?_
    · exact State.plugLost_carries (State.setFld_carries h2)
    · exact State.linkChange_carries (State.portLinkLost_carries (State.setFld_carries h2))

theorem State.macsecIn_carries {o : State} {s : State} {p : Nat} {macsec : Nat} {pn : Nat} {bytes : List Byte} (h1 :
    Carries o s) : Carries3 o (State.macsecIn s p macsec pn bytes) := by
  unfold State.macsecIn
  extract_lets +onlyGivenNames v1
  extract_lets +onlyGivenNames v2
  refine pIte (P := Carries3 o) ?_ ?_
  · exact Carries3.mk h1
  · exact pIte (P := Carries3 o) (Carries3.mk (carriesMk h1 rfl rfl rfl rfl)) (Carries3.mk h1)

theorem State.presPlug_carries {o : State} {s : State} {i : Nat} {level : Bool} (h1 : Carries o s) : Carries o
    (State.presPlug s i level) := by
  unfold State.presPlug
  extract_lets +onlyGivenNames v1
  refine pIte (P := Carries o) ?_ ?_
  · exact h1
  · exact pIte (P := Carries o) (Carries2.snd (State.plugBack_carries h1)) (State.plugLost_carries h1)

theorem autoNegTimeout_carries {o : State} {s : State} {p : Nat} (h1 : Carries o s) : Carries o (autoNegTimeout s p)
    := by
  unfold autoNegTimeout
  exact pIte (P := Carries o) (carriesMk h1 rfl rfl rfl rfl) h1

theorem canBusError_carries {o : State} {s : State} {ch : Nat} {tec : Nat} {rec_ : Nat} (h1 : Carries o s) : Carries o
    (canBusError s ch tec rec_) := by
  unfold canBusError
  exact pIte (P := Carries o) h1 (State.setAll_carries h1)

theorem canBusOff_carries {o : State} {s : State} {ch : Nat} (h1 : Carries o s) : Carries o (canBusOff s ch) := by
  unfold canBusOff
  refine pIte (P := Carries o) ?_ ?_
  · exact h1
  · extract_lets +onlyGivenNames v1
    extract_lets +onlyGivenNames v2
    extract_lets +onlyGivenNames v3
    have h4 : Carries o v3 := by
      unfold v3
      exact State.setAll_carries h1
    clear_value v3
    extract_lets +onlyGivenNames v5
    extract_lets +onlyGivenNames v6
    have h7 : Carries o v6 := by
      unfold v6
      refine pIte (P := Carries o) ?_ ?_
      · exact h4
      · refine State.bumpFld_carries ?_
        refine pFoldl (P := Carries o) ?_ ?_
        · exact State.setTxQueue_carries h4
        · intro s8 x9 h10
          exact State.dropTx_carries h10
    clear_value v6
    exact State.eventSup_carries h7

theorem canBusOffRecover_carries {o : State} {s : State} {ch : Nat} (h1 : Carries o s) : Carries o (canBusOffRecover s
    ch) := by
  unfold canBusOffRecover
  exact pIte (P := Carries o) (State.canActive_carries h1) h1

theorem canChannelRestart_carries {o : State} {s : State} {ch : Nat} (h1 : Carries o s) : Carries o (canChannelRestart
    s ch) := by
  unfold canChannelRestart
  exact pIte (P := Carries o) (State.canActive_carries h1) h1

theorem canFrameReceive_carries {o : State} {s : State} {now : Nat} {ch : Nat} {id : Nat} {format : Nat} {sdt : Nat}
    {vcid : Nat} {af : Nat} {data : List Byte} {crcOk : Bool} (h1 : Carries o s) : Carries o (canFrameReceive s now ch
    id format sdt vcid af data crcOk) := by
  unfold canFrameReceive
  extract_lets +onlyGivenNames v1
  have h2 : Carries o v1 := by
    unfold v1
    exact State.upTo_carries h1
  clear_value v1
  extract_lets +onlyGivenNames v3
  extract_lets +onlyGivenNames v4
  refine pIte (P := Carries o) ?_ ?_
  · exact h2
  · refine pIte (P := Carries o) ?_ ?_
    · exact State.discard_carries h2
    · refine pIte (P := Carries o) ?_ ?_
      · exact h2
      · refine pIte (P := Carries o) ?_ ?_
        · exact State.discard_carries h2
        · refine pIte (P := Carries o) ?_ ?_
          · exact State.discard_carries h2
          · refine pIte (P := Carries o) ?_ ?_
            · exact State.discard_carries h2
            · exact pIte (P := Carries o) (State.discard_carries h2) (State.intake_carries h2)

theorem edgeTransmitDone_carries {o : State} {s : State} {now : Nat} {target : Nat} (h1 : Carries o s) : Carries o
    (edgeTransmitDone s now target) := by
  unfold edgeTransmitDone
  extract_lets +onlyGivenNames v1
  have h2 : Carries o v1 := by
    unfold v1
    exact State.upTo_carries h1
  clear_value v1
  extract_lets +onlyGivenNames v3
  extract_lets +onlyGivenNames v4
  split
  · rename_i x5 e6
    exact h2
  · rename_i x7 x8 e9
    refine pIte (P := Carries o) ?_ ?_
    · exact h2
    · extract_lets +onlyGivenNames v10
      have h11 : Carries o v10 := by
        unfold v10
        exact State.setTxQueue_carries h2
      clear_value v10
      exact State.dropTx_carries (State.bumpFld_carries (State.emit_carries h11))

theorem frameReceive_carries {o : State} {s : State} {now : Nat} {p : Nat} {stamp : Nat} {bytes : List Byte} {fcsOk :
    Bool} {cut : Bool} {express : Bool} {macsec : Nat} {pn : Nat} (h1 : Carries o s) : Carries o (frameReceive s now p
    stamp bytes fcsOk cut express macsec pn) := by
  unfold frameReceive
  extract_lets +onlyGivenNames v1
  have h2 : Carries o v1 := by
    unfold v1
    exact State.upTo_carries h1
  clear_value v1
  refine pIte (P := Carries o) ?_ ?_
  · exact h2
  · split
    · rename_i x3 x4 e5
      exact State.discard_carries h2
    · rename_i x6 e7
      refine pIte (P := Carries o) ?_ ?_
      · exact State.setFld_carries h2
      · refine pIte (P := Carries o) ?_ ?_
        · exact pIte (P := Carries o) (State.intakeEthernet_carries h2) h2
        · split
          · rename_i x8 x9 s10 e11
            have h12 := Carries3.of (o := o) ?_ e11
            rotate_left
            · exact State.macsecIn_carries h2
            exact State.discard_carries h12
          · rename_i x13 x14 s15 e16
            have h17 := Carries3.of (o := o) ?_ e16
            rotate_left
            · exact State.macsecIn_carries h2
            exact State.intakeEthernet_carries h17

theorem t1sFrameReceive_carries {o : State} {s : State} {now : Nat} {seg : Nat} {stamp : Nat} {node : Nat} {bytes :
    List Byte} {fcsOk : Bool} {cut : Bool} (h1 : Carries o s) : Carries o (t1sFrameReceive s now seg stamp node bytes
    fcsOk cut) := by
  unfold t1sFrameReceive
  extract_lets +onlyGivenNames v1
  have h2 : Carries o v1 := by
    unfold v1
    exact State.upTo_carries h1
  clear_value v1
  extract_lets +onlyGivenNames v3
  refine pIte (P := Carries o) ?_ ?_
  · exact h2
  · split
    · rename_i x4 x5 e6
      exact State.discard_carries h2
    · rename_i x7 e8
      extract_lets +onlyGivenNames v9
      extract_lets +onlyGivenNames v10
      extract_lets +onlyGivenNames v11
      extract_lets +onlyGivenNames v12
      have h13 : Carries o v12 := by
        unfold v12
        exact pIte (P := Carries o) (carriesMk h2 rfl rfl rfl rfl) h2
      clear_value v12
      extract_lets +onlyGivenNames v14
      have h15 : Carries o v14 := by
        unfold v14
        exact State.setFld_carries h13
      clear_value v14
      extract_lets +onlyGivenNames v16
      have h17 : Carries o v16 := by
        unfold v16
        exact pIte (P := Carries o) (pIte (P := Carries o) (State.arrive_carries h15) h15) h13
      clear_value v16
      exact State.intakeEthernet_carries h17

theorem plcaBeaconLoss_carries {o : State} {s : State} {seg : Nat} (h1 : Carries o s) : Carries o (plcaBeaconLoss s
    seg) := by
  unfold plcaBeaconLoss
  exact pIte (P := Carries o) (State.setFld_carries h1) h1

theorem plcaBeaconResume_carries {o : State} {s : State} {seg : Nat} (h1 : Carries o s) : Carries o (plcaBeaconResume
    s seg) := by
  unfold plcaBeaconResume
  exact pIte (P := Carries o) (State.setFld_carries h1) h1

theorem nodeQuietExpire_carries {o : State} {s : State} {now : Nat} {seg : Nat} {node : Nat} (h1 : Carries o s) :
    Carries o (nodeQuietExpire s now seg node) := by
  unfold nodeQuietExpire
  extract_lets +onlyGivenNames v1
  have h2 : Carries o v1 := by
    unfold v1
    exact State.upTo_carries h1
  clear_value v1
  extract_lets +onlyGivenNames v3
  exact pIte (P := Carries o) (State.setFld_carries h2) h2

theorem presDebounceEnd_carries {o : State} {s : State} {now : Nat} {i : Nat} (h1 : Carries o s) : Carries o
    (presDebounceEnd s now i) := by
  unfold presDebounceEnd
  extract_lets +onlyGivenNames v1
  have h2 : Carries o v1 := by
    unfold v1
    exact State.upTo_carries h1
  clear_value v1
  extract_lets +onlyGivenNames v3
  split
  · rename_i x4 e5
    exact h2
  · rename_i x6 x7 e8
    refine pIte (P := Carries o) ?_ ?_
    · exact h2
    · extract_lets +onlyGivenNames v9
      extract_lets +onlyGivenNames v10
      have h11 : Carries o v10 := by
        unfold v10
        exact State.setPresIn_carries h2
      clear_value v10
      refine pIte (P := Carries o) ?_ ?_
      · exact h11
      · extract_lets +onlyGivenNames v12
        have h13 : Carries o v12 := by
          unfold v12
          exact State.latchChange_carries h11
        clear_value v12
        exact pIte (P := Carries o) (State.presPlug_carries h13) h13

theorem presLatchTake_carries {o : State} {s : State} {now : Nat} {i : Nat} (h1 : Carries o s) : Carries o
    (presLatchTake s now i) := by
  unfold presLatchTake
  extract_lets +onlyGivenNames v1
  have h2 : Carries o v1 := by
    unfold v1
    exact State.upTo_carries h1
  clear_value v1
  extract_lets +onlyGivenNames v3
  split
  · rename_i x4 e5
    exact h2
  · rename_i x6 x7 x8 e9
    refine pIte (P := Carries o) ?_ ?_
    · exact h2
    · extract_lets +onlyGivenNames v10
      have h11 : Carries o v10 := by
        unfold v10
        exact State.setFld_carries (State.setPresIn_carries h2)
      clear_value v10
      extract_lets +onlyGivenNames v12
      have h13 : Carries o v12 := by
        unfold v12
        exact pIte (P := Carries o) (State.presPlug_carries h11) h11
      clear_value v12
      extract_lets +onlyGivenNames v14
      extract_lets +onlyGivenNames v15
      refine pIte (P := Carries o) ?_ ?_
      · extract_lets +onlyGivenNames v16
        exact State.intake_carries h13
      · exact h13

theorem linkUp_carries {o : State} {s : State} {now : Nat} {src : Nat} {speed : Nat} {fec : Nat} (h1 : Carries o s) :
    Carries o (linkUp s now src speed fec) := by
  unfold linkUp
  extract_lets +onlyGivenNames v1
  have h2 : Carries o v1 := by
    unfold v1
    exact State.upTo_carries h1
  clear_value v1
  exact pIte (P := Carries o) h2 (State.linkComesUp_carries h2)

theorem laneTrainingFail_carries {o : State} {s : State} {l : Nat} (h1 : Carries o s) : Carries o (laneTrainingFail s
    l) := by
  unfold laneTrainingFail
  refine pIte (P := Carries o) ?_ ?_
  · exact h1
  · extract_lets +onlyGivenNames v1
    refine pIte (P := Carries o) ?_ ?_
    · extract_lets +onlyGivenNames v2
      have h3 : Carries o v2 := by
        unfold v2
        exact State.setFld_carries h1
      clear_value v2
      exact carriesMk h3 rfl rfl rfl rfl
    · extract_lets +onlyGivenNames v4
      extract_lets +onlyGivenNames v5
      have h6 : Carries o v5 := by
        unfold v5
        exact carriesMk h1 rfl rfl rfl rfl
      clear_value v5
      exact pIte (P := Carries o) (State.sparing_carries h6) (State.laneFails_carries h6)

theorem laneTrainingRetry_carries {o : State} {s : State} {l : Nat} {ok : Bool} (h1 : Carries o s) : Carries o
    (laneTrainingRetry s l ok) := by
  unfold laneTrainingRetry
  extract_lets +onlyGivenNames v1
  refine pIte (P := Carries o) ?_ ?_
  · exact h1
  · refine pIte (P := Carries o) ?_ ?_
    · exact h1
    · extract_lets +onlyGivenNames v2
      extract_lets +onlyGivenNames v3
      have h4 : Carries o v3 := by
        unfold v3
        exact carriesMk h1 rfl rfl rfl rfl
      clear_value v3
      exact State.wr_carries (State.setFld_carries h4)

theorem laneMarginLow_carries {o : State} {s : State} {l : Nat} {margin : Nat} (h1 : Carries o s) : Carries o
    (laneMarginLow s l margin) := by
  unfold laneMarginLow
  refine pIte (P := Carries o) ?_ ?_
  · exact h1
  · extract_lets +onlyGivenNames v1
    have h2 : Carries o v1 := by
      unfold v1
      exact State.setFld_carries h1
    clear_value v1
    exact pIte (P := Carries o) (State.sparing_carries h2) h2

theorem sliceAdaptDone_carries {o : State} {s : State} {l : Nat} {ok : Bool} (h1 : Carries o s) : Carries o
    (sliceAdaptDone s l ok) := by
  unfold sliceAdaptDone
  refine pIte (P := Carries o) ?_ ?_
  · exact h1
  · refine pIte (P := Carries o) ?_ ?_
    · split
      · rename_i x1 e2
        exact h1
      · rename_i x3 x4 e5
        exact carriesMk h1 rfl rfl rfl rfl
    · extract_lets +onlyGivenNames v6
      extract_lets +onlyGivenNames v7
      have h8 : Carries o v7 := by
        unfold v7
        exact State.noteRsv_carries (State.setFld_carries h1)
      clear_value v7
      extract_lets +onlyGivenNames v9
      have h10 : Carries o v9 := by
        unfold v9
        exact State.wr_carries h8
      clear_value v9
      extract_lets +onlyGivenNames v11
      have h12 : Carries o v11 := by
        unfold v11
        exact State.setAll_carries h10
      clear_value v11
      extract_lets +onlyGivenNames v13
      exact pIte (P := Carries o) (State.setFld_carries h12) (State.laneFails_carries h12)

theorem sliceSwitchover_carries {o : State} {s : State} {l : Nat} {receiving : Bool} (h1 : Carries o s) : Carries o
    (sliceSwitchover s l receiving) := by
  unfold sliceSwitchover
  refine pIte (P := Carries o) ?_ ?_
  · exact h1
  · extract_lets +onlyGivenNames v1
    extract_lets +onlyGivenNames v2
    extract_lets +onlyGivenNames v3
    extract_lets +onlyGivenNames v4
    have h5 : Carries o v4 := by
      unfold v4
      exact State.setAll_carries h1
    clear_value v4
    extract_lets +onlyGivenNames v6
    have h7 : Carries o v6 := by
      unfold v6
      clear_value v3
      split
      · rename_i x8
        exact h5
      · rename_i x9 x10
        extract_lets +onlyGivenNames v11
        have h12 : Carries o v11 := by
          unfold v11
          exact pIte (P := Carries o) (State.bumpFld_carries h5) h5
        clear_value v11
        exact carriesMk h12 rfl rfl rfl rfl
    clear_value v6
    extract_lets +onlyGivenNames v13
    have h14 : Carries o v13 := by
      unfold v13
      exact State.noteRsv_carries h7
    clear_value v13
    extract_lets +onlyGivenNames v15
    have h16 : Carries o v15 := by
      unfold v15
      exact pIte (P := Carries o) (State.setAll_carries h14) h14
    clear_value v15
    exact State.eventSup_carries h16

theorem preemptVerifyTimeout_carries {o : State} {s : State} {p : Nat} (h1 : Carries o s) : Carries o
    (preemptVerifyTimeout s p) := by
  unfold preemptVerifyTimeout
  refine pIte (P := Carries o) ?_ ?_
  · exact h1
  · extract_lets +onlyGivenNames v1
    extract_lets +onlyGivenNames v2
    extract_lets +onlyGivenNames v3
    have h4 : Carries o v3 := by
      unfold v3
      exact carriesMk h1 rfl rfl rfl rfl
    clear_value v3
    exact pIte (P := Carries o) h4 (State.eventSup_carries (State.setFld_carries h4))

theorem presRawChange_carries {o : State} {s : State} {now : Nat} {i : Nat} {level : Bool} (h1 : Carries o s) :
    Carries o (presRawChange s now i level) := by
  unfold presRawChange
  extract_lets +onlyGivenNames v1
  have h2 : Carries o v1 := by
    unfold v1
    exact State.upTo_carries h1
  clear_value v1
  extract_lets +onlyGivenNames v3
  refine pIte (P := Carries o) ?_ ?_
  · exact h2
  · extract_lets +onlyGivenNames v4
    have h5 : Carries o v4 := by
      unfold v4
      exact State.setPresIn_carries h2
    clear_value v4
    extract_lets +onlyGivenNames v6
    exact State.setPresIn_carries h5

theorem macsecSaInstall_carries {o : State} {s : State} {p : Nat} {rx : Bool} {xpn : Bool} {pn : Nat} (h1 : Carries o
    s) : Carries o (macsecSaInstall s p rx xpn pn) := by
  unfold macsecSaInstall
  refine pIte (P := Carries o) ?_ ?_
  · exact h1
  · refine pIte (P := Carries o) ?_ ?_
    · exact carriesMk h1 rfl rfl rfl rfl
    · extract_lets +onlyGivenNames v1
      extract_lets +onlyGivenNames v2
      extract_lets +onlyGivenNames v3
      extract_lets +onlyGivenNames v4
      have h5 : Carries o v4 := by
        unfold v4
        exact carriesMk h1 rfl rfl rfl rfl
      clear_value v4
      refine pIte (P := Carries o) ?_ ?_
      · split
        · rename_i x6 x7 s8 e9
          have h10 := Carries2.of (o := o) ?_ e9
          rotate_left
          · exact pIte (P := Carries2 o) (State.plugBack_carries h5) (Carries2.mk h5)
          exact State.linkChange_carries (pIte (P := Carries o) (State.setLink_carries h10) h10)
      · exact h5

/-! ### SelfTest -/

theorem State.testEnds_carries {o : State} {s : State} (h1 : Carries o s) : Carries o (State.testEnds s) := by
  unfold State.testEnds
  extract_lets +onlyGivenNames v1
  extract_lets +onlyGivenNames v2
  extract_lets +onlyGivenNames v3
  have h4 : Carries o v3 := by
    unfold v3
    exact State.setAll_carries h1
  clear_value v3
  extract_lets +onlyGivenNames v5
  have h6 : Carries o v5 := by
    unfold v5
    exact State.eventSup_carries h4
  clear_value v5
  exact pIte (P := Carries o) h6 (State.eventSup_carries h6)

theorem State.scanBegin_carries {o : State} {s : State} {r : Nat} (h1 : Carries o s) : Carries o (State.scanBegin s r)
    := by
  unfold State.scanBegin
  exact carriesMk h1 rfl rfl rfl rfl

theorem State.saveBasin_carries {o : State} {s : State} {b : Nat} {test : Bool} (h1 : Carries o s) : Carries o
    (State.saveBasin s b test) := by
  unfold State.saveBasin
  extract_lets +onlyGivenNames v1
  extract_lets +onlyGivenNames v2
  extract_lets +onlyGivenNames v3
  extract_lets +onlyGivenNames v4
  extract_lets +onlyGivenNames v5
  extract_lets +onlyGivenNames v6
  have h7 : Carries o v6 := by
    unfold v6
    exact carriesMk h1 rfl rfl rfl rfl
  clear_value v6
  extract_lets +onlyGivenNames v8
  extract_lets +onlyGivenNames v9
  have h10 : Carries o v9 := by
    unfold v9
    refine pIte (P := Carries o) ?_ ?_
    · exact carriesUp h7 (fun h => h.stage) (fun h => ⟨h.mem.ipd, cellClear_wf _ _ h.mem.shared, h.mem.scratch⟩) (fun
        h => h.host) (fun h => h.fth)
    · exact h7
  clear_value v9
  refine pFoldl (P := Carries o) ?_ ?_
  · exact h10
  · intro s11 x12 h13
    exact State.setThread_carries h13

theorem State.restoreBasin_carries {o : State} {s : State} {b : Nat} (h1 : Carries o s) : Carries o
    (State.restoreBasin s b) := by
  unfold State.restoreBasin
  extract_lets +onlyGivenNames v1
  extract_lets +onlyGivenNames v2
  extract_lets +onlyGivenNames v3
  extract_lets +onlyGivenNames v4
  extract_lets +onlyGivenNames v5
  extract_lets +onlyGivenNames v6
  have h7 : Carries o v6 := by
    unfold v6
    exact carriesUp h1 (fun h => h.stage) (fun h => ⟨h.mem.ipd, foldl_put_wf (cellClear_wf _ _ h.mem.shared),
        h.mem.scratch⟩) (fun h => h.host) (fun h => h.fth.same rfl)
  clear_value v6
  refine pFoldl (P := Carries o) ?_ ?_
  · exact h7
  · intro s8 x9 h10
    extract_lets +onlyGivenNames v11
    exact State.setThread_carries h10

theorem State.logTest_carries {o : State} {s : State} {outcome : Nat} {r : Nat} {fail : Nat} {mem : Nat} (h1 : Carries
    o s) : Carries o (State.logTest s outcome r fail mem) := by
  unfold State.logTest
  exact State.logFault_carries h1

theorem State.noSpare_carries {o : State} {s : State} (h1 : Carries o s) : Carries o (State.noSpare s) := by
  unfold State.noSpare
  exact State.eventSup_carries h1

theorem State.holdBasin_carries {o : State} {s : State} {b : Nat} (h1 : Carries o s) : Carries o (State.holdBasin s b)
    := by
  unfold State.holdBasin
  extract_lets +onlyGivenNames v1
  extract_lets +onlyGivenNames v2
  have h3 : Carries o v2 := by
    unfold v2
    exact carriesMk h1 rfl rfl rfl rfl
  clear_value v2
  extract_lets +onlyGivenNames v4
  have h5 : Carries o v4 := by
    unfold v4
    exact State.wr_carries (State.setFld_carries h3)
  clear_value v4
  exact State.showDegraded_carries (State.noteRsv_carries (State.setPerm_carries h5))

theorem State.basinOutcome_carries {o : State} {s : State} {b : Nat} {fail : Nat} {shared : Bool} (h1 : Carries o s) :
    Carries2 o (State.basinOutcome s b fail shared) := by
  unfold State.basinOutcome
  extract_lets +onlyGivenNames v1
  extract_lets +onlyGivenNames v2
  extract_lets +onlyGivenNames v3
  clear_value v1
  split
  · rename_i x4 x5
    refine pIte (P := Carries2 o) ?_ ?_
    · exact Carries2.mk (State.logTest_carries (State.noteRsv_carries (State.setFld_carries h1)))
    · exact Carries2.mk h1
  · rename_i x6 x7 x8
    refine pIte (P := Carries2 o) ?_ ?_
    · exact Carries2.mk (State.logTest_carries (State.takeSpare_carries h1))
    · exact Carries2.mk (State.logTest_carries (State.noSpare_carries (State.holdBasin_carries h1)))
  · rename_i x9 x10 e11 e12
    exact Carries2.mk (State.logTest_carries (State.noSpare_carries (State.holdBasin_carries h1)))
  · rename_i x13 x14
    exact Carries2.mk (State.logTest_carries (State.holdBasin_carries h1))

theorem State.testResult_carries {o : State} {s : State} {r : Nat} {outcome : Nat} {fail : Nat} {mem : Bool} {helper :
    Bool} (h1 : Carries o s) : Carries o (State.testResult s r outcome fail mem helper) := by
  unfold State.testResult
  exact State.setAll_carries h1

theorem State.helpersFailed_carries {o : State} {s : State} {b : Nat} {helper : BitVec 2} (h1 : Carries o s) : Carries
    o (State.helpersFailed s b helper) := by
  unfold State.helpersFailed
  extract_lets +onlyGivenNames v1
  have h2 : Carries o v1 := by
    unfold v1
    exact pIte (P := Carries o) (State.hlpPowerUp_carries h1) h1
  clear_value v1
  extract_lets +onlyGivenNames v3
  have h4 : Carries o v3 := by
    unfold v3
    exact pIte (P := Carries o) (State.hlpPowerUp_carries h2) h2
  clear_value v3
  exact pIte (P := Carries o) h4 (State.showDegraded_carries (State.logTest_carries h4))

theorem State.wearSwap_carries {o : State} {s : State} {b : Nat} {speeds : List Nat} (h1 : Carries o s) : Carries o
    (State.wearSwap s b speeds) := by
  unfold State.wearSwap
  extract_lets +onlyGivenNames v1
  split
  · rename_i x2 e3
    exact h1
  · rename_i x4 x5 e6
    exact pIte (P := Carries o) (State.takeSpare_carries h1) h1

theorem State.safeState_carries {o : State} {s : State} (h1 : Carries o s) : Carries o (State.safeState s) := by
  unfold State.safeState
  extract_lets +onlyGivenNames v1
  extract_lets +onlyGivenNames v2
  extract_lets +onlyGivenNames v3
  have h4 : Carries o v3 := by
    unfold v3
    exact carriesUp h1 (fun _ => Nat.le_of_ble_eq_true rfl) (fun h => h.mem.same rfl) (fun h => h.host) (fun h =>
        h.fth.same rfl)
  clear_value v3
  exact State.fcoAssert_carries (State.setAll_carries (State.fabricReset_carries h4))

theorem State.basinTestEnds_carries {o : State} {s : State} {b : Nat} {fail : Nat} {mem : Bool} {shared : Bool}
    {helper : BitVec 2} {speeds : List Nat} (h1 : Carries o s) : Carries o (State.basinTestEnds s b fail mem shared
    helper speeds) := by
  unfold State.basinTestEnds
  extract_lets +onlyGivenNames v1
  split
  · rename_i x2 x3 s4 e5
    have h6 := Carries2.of (o := o) ?_ e5
    rotate_left
    · exact State.basinOutcome_carries h1
    extract_lets +onlyGivenNames v7
    have h8 : Carries o v7 := by
      unfold v7
      exact State.restoreBasin_carries (State.testResult_carries h6)
    clear_value v7
    extract_lets +onlyGivenNames v9
    have h10 : Carries o v9 := by
      unfold v9
      exact pIte (P := Carries o) h8 (State.helpersFailed_carries (State.wearSwap_carries h8))
    clear_value v9
    refine pIte (P := Carries o) ?_ ?_
    · exact State.safeState_carries h10
    · exact pIte (P := Carries o) (State.testEnds_carries h10) (State.switchBegin_carries (State.wr_carries h10))

theorem State.ceOutcome_carries {o : State} {s : State} {fail : Nat} (h1 : Carries o s) : Carries3 o (State.ceOutcome
    s fail) := by
  unfold State.ceOutcome
  extract_lets +onlyGivenNames v1
  refine pIte (P := Carries3 o) ?_ ?_
  · exact Carries3.mk h1
  · extract_lets +onlyGivenNames v2
    have h3 : Carries o v2 := by
      unfold v2
      refine pFoldl (P := Carries o) ?_ ?_
      · exact h1
      · intro s4 x5 h6
        extract_lets +onlyGivenNames v7
        extract_lets +onlyGivenNames v8
        have h9 : Carries o v8 := by
          unfold v8
          exact carriesMk h6 rfl rfl rfl rfl
        clear_value v8
        exact State.noteRsv_carries (State.setCe_carries h9)
    clear_value v2
    exact Carries3.mk (State.logTest_carries (State.showDegraded_carries h3))

theorem State.scanEnd_carries {o : State} {s : State} {r : Nat} {responses : Option (List (BitVec 64))} (h1 : Carries
    o s) : Carries2 o (State.scanEnd s r responses) := by
  unfold State.scanEnd
  split
  · rename_i x1
    exact Carries2.mk (carriesMk h1 rfl rfl rfl rfl)
  · rename_i x2 x3
    exact Carries2.mk (carriesMk h1 rfl rfl rfl rfl)

theorem State.ceTestEnds_carries {o : State} {s : State} {fail : Nat} {mem : Bool} (h1 : Carries o s) : Carries o
    (State.ceTestEnds s fail mem) := by
  unfold State.ceTestEnds
  split
  · rename_i x1 x2 x3 s4 e5
    have h6 := Carries3.of (o := o) ?_ e5
    rotate_left
    · exact State.ceOutcome_carries h1
    extract_lets +onlyGivenNames v7
    have h8 : Carries o v7 := by
      unfold v7
      exact State.testEnds_carries (State.testResult_carries h6)
    clear_value v7
    exact pIte (P := Carries o) (State.safeState_carries h8) h8

theorem State.stCommand_carries {o : State} {s : State} {p : Nat} {f : State → Nat × State} (h1 : Carries o s) (h3 : ∀
    y0, Carries o y0 → Carries2 o (f y0)) : Carries o (State.stCommand s p f) := by
  unfold State.stCommand
  refine pIte (P := Carries o) ?_ ?_
  · exact h1
  · refine pIte (P := Carries o) ?_ ?_
    · exact State.wr_carries h1
    · extract_lets +onlyGivenNames v1
      have h2 : Carries2 o v1 := by
        unfold v1
        apply h3
        exact h1
      clear_value v1
      exact State.wr_carries (Carries2.snd h2)

theorem State.testBegin_carries {o : State} {s : State} {b : Nat} (h1 : Carries o s) : Carries o (State.testBegin s b)
    := by
  unfold State.testBegin
  extract_lets +onlyGivenNames v1
  have h2 : Carries o v1 := by
    unfold v1
    exact State.setAll_carries h1
  clear_value v1
  exact State.switchBegin_carries h2

theorem fthStRegion_carries {o : State} {s : State} {p : Nat} {region : Nat} (h1 : Carries o s) : Carries o
    (fthStRegion s p region) := by
  unfold fthStRegion
  refine State.stCommand_carries ?_ ?_
  · exact h1
  · intro s1 h2
    extract_lets +onlyGivenNames v3
    have h4 : Carries o v3 := by
      unfold v3
      exact State.wr_carries h2
    clear_value v3
    refine pIte (P := Carries2 o) ?_ ?_
    · exact Carries2.mk h4
    · refine pIte (P := Carries2 o) ?_ ?_
      · exact Carries2.mk h4
      · refine pIte (P := Carries2 o) ?_ ?_
        · refine pIte (P := Carries2 o) ?_ ?_
          · exact Carries2.mk h4
          · exact pIte (P := Carries2 o) (Carries2.mk (State.testBegin_carries h4)) (Carries2.mk h4)
        · refine pIte (P := Carries2 o) ?_ ?_
          · exact Carries2.mk h4
          · exact Carries2.mk (State.setAll_carries (State.scanBegin_carries h4))

theorem fthStFull_carries {o : State} {s : State} {p : Nat} (h1 : Carries o s) : Carries o (fthStFull s p) := by
  unfold fthStFull
  refine State.stCommand_carries ?_ ?_
  · exact h1
  · intro s1 h2
    refine pIte (P := Carries2 o) ?_ ?_
    · exact Carries2.mk h2
    · refine pIte (P := Carries2 o) ?_ ?_
      · exact Carries2.mk h2
      · split
        · rename_i x3 x4 s5 e6
          have h7 := Carries2.of (o := o) ?_ e6
          rotate_left
          · exact State.free_carries h2
          extract_lets +onlyGivenNames v8
          have h9 : Carries o v8 := by
            unfold v8
            exact State.deviceReset_carries h7
          clear_value v8
          exact Carries2.mk (carriesMk h9 rfl rfl rfl rfl)

theorem State.testAbort_carries {o : State} {s : State} (h1 : Carries o s) : Carries o (State.testAbort s) := by
  unfold State.testAbort
  refine pIte (P := Carries o) ?_ ?_
  · exact h1
  · extract_lets +onlyGivenNames v1
    extract_lets +onlyGivenNames v2
    refine pIte (P := Carries o) ?_ ?_
    · exact h1
    · extract_lets +onlyGivenNames v3
      have h4 : Carries o v3 := by
        unfold v3
        exact State.wr_carries (State.testResult_carries h1)
      clear_value v3
      refine pIte (P := Carries o) ?_ ?_
      · exact h4
      · refine pIte (P := Carries o) ?_ ?_
        · exact State.testEnds_carries h4
        · exact State.switchBegin_carries (State.restoreBasin_carries h4)

theorem fthStAbort_carries {o : State} {s : State} {p : Nat} (h1 : Carries o s) : Carries o (fthStAbort s p) := by
  unfold fthStAbort
  refine State.stCommand_carries ?_ ?_
  · exact h1
  · intro s1 h2
    exact pIte (P := Carries2 o) (Carries2.mk h2) (Carries2.mk (State.testAbort_carries h2))

theorem State.repaired_carries {o : State} {s : State} {l : List (Nat × BitVec 16 × W32 × W32)} (h1 : Carries o s) :
    Carries o (State.repaired s l) := by
  unfold State.repaired
  refine pFoldl (P := Carries o) ?_ ?_
  · exact h1
  · intro s1 x2 h3
    refine pIte (P := Carries o) ?_ ?_
    · exact State.eventSup_carries (State.noteRsv_carries h3)
    · exact pIte (P := Carries o) (State.sectorFails_carries h3) h3

theorem State.sliceOutcome_carries {o : State} {s : State} {sl : Nat} (h1 : Carries o s) : Carries o
    (State.sliceOutcome s sl) := by
  unfold State.sliceOutcome
  extract_lets +onlyGivenNames v1
  refine pIte (P := Carries o) ?_ ?_
  · exact pIte (P := Carries o) h1 (State.wr_carries (State.noteRsv_carries (State.setFld_carries h1)))
  · split
    · rename_i x2 e3
      exact h1
    · rename_i x4 x5 e6
      refine pIte (P := Carries o) ?_ ?_
      · extract_lets +onlyGivenNames v7
        have h8 : Carries o v7 := by
          unfold v7
          exact State.setAll_carries h1
        clear_value v7
        exact State.logTest_carries (State.noteRsv_carries h8)
      · exact State.logTest_carries (State.laneFails_carries h1)

theorem State.takeTurn_carries {o s : State} (h : Carries o s) : Carries o s.takeTurn := by
  unfold State.takeTurn
  refine State.wr_carries (carriesUp h (fun h => h.stage) (fun h => h.mem) (fun h => h.host) (fun h => ?_))
  split
  · exact h.fth.same rfl
  · exact h.fth.same rfl

theorem bistComplete_carries {o : State} {s : State} {now : Nat} {fail : Nat} {mem : Bool} {loadOk : Bool} {helper :
    BitVec 2} {repairs : List (Nat × BitVec 16 × W32 × W32)} {scan : Option (List (BitVec 64))} {speeds : List Nat}
    (h1 : Carries o s) : Carries o (bistComplete s now fail mem loadOk helper repairs scan speeds) := by
  unfold bistComplete
  extract_lets +onlyGivenNames v1
  have h2 : Carries o v1 := by
    unfold v1
    exact State.upTo_carries h1
  clear_value v1
  refine pIte (P := Carries o) ?_ ?_
  · exact h2
  · extract_lets +onlyGivenNames v3
    split
    · rename_i x4 x5 s6 e7
      have h8 := Carries2.of (o := o) ?_ e7
      rotate_left
      · exact State.scanEnd_carries (State.repaired_carries h2)
      exact pIte (P := Carries o) (State.ceTestEnds_carries h8) (State.basinTestEnds_carries h8)

theorem deferredTestStart_carries {o : State} {s : State} {now : Nat} (h1 : Carries o s) : Carries o
    (deferredTestStart s now) := by
  unfold deferredTestStart
  extract_lets +onlyGivenNames v1
  have h2 : Carries o v1 := by
    unfold v1
    exact State.upTo_carries h1
  clear_value v1
  extract_lets +onlyGivenNames v3
  exact pIte (P := Carries o) (State.testBegin_carries (State.takeTurn_carries (State.wr_carries h2))) h2

theorem scheduledTestStart_carries {o : State} {s : State} {now : Nat} (h1 : Carries o s) :
    Carries o (scheduledTestStart s now) := by
  have h2 : Carries o (s.upTo now) := State.upTo_carries h1
  unfold scheduledTestStart
  generalize s.upTo now = v at h2 ⊢
  have h3 : ∀ due, Carries o { v with fth := { v.fth with testAt := due } } := fun _ => carriesMk h2 rfl rfl rfl rfl
  refine pIte (P := Carries o) h2 ?_
  refine pIte (P := Carries o) (h3 _) (pIte (P := Carries o) ?_ ?_)
  · exact State.testBegin_carries (State.takeTurn_carries (h3 _))
  · exact State.wr_carries (h3 _)

end Sys2Proof.Machine
end

