-- ==== Sys2Proof/Laws/CarryReplay.lean ====
section
/-! SUPPORT. What the operations of Replay, Hosts carry from state to state. -/

namespace Sys2Proof.Machine

open Sys2Proof

/-! ### Replay -/

theorem State.unpinAll_carries {o : State} {s : State} {vs : List Nat} (h1 : Carries o s) : Carries o (State.unpinAll
    s vs) := by
  unfold State.unpinAll
  refine pFoldl (P := Carries o) ?_ ?_
  · exact h1
  · intro s1 x2 h3
    exact Carries2.snd (State.unpinVersion_carries h3)

theorem State.sessionDone_carries {o : State} {s : State} {r : Session} (h1 : Carries o s) : Carries o
    (State.sessionDone s r) := by
  unfold State.sessionDone
  extract_lets +onlyGivenNames v1
  extract_lets +onlyGivenNames v2
  have h3 : Carries o v2 := by
    unfold v2
    exact State.unpinAll_carries (carriesMk h1 rfl rfl rfl rfl)
  clear_value v2
  exact State.rplEvent_carries (State.setAll_carries h3)

theorem State.setSession_carries {o : State} {s : State} {r : Session} (h1 : Carries o s) : Carries o
    (State.setSession s r) := by
  unfold State.setSession
  exact carriesMk h1 rfl rfl rfl rfl

theorem State.sessionStart_carries {o : State} {s : State} {r : Session} (h1 : Carries o s) : Carries o
    (State.sessionStart s r) := by
  unfold State.sessionStart
  extract_lets +onlyGivenNames v1
  have h2 : Carries o v1 := by
    unfold v1
    exact State.saveBasin_carries h1
  clear_value v1
  exact State.basinStart_carries (State.setSession_carries h2)

theorem State.sessionReturn_carries {o : State} {s : State} {r : Session} (h1 : Carries o s) : Carries o
    (State.sessionReturn s r) := by
  unfold State.sessionReturn
  extract_lets +onlyGivenNames v1
  have h2 : Carries o v1 := by
    unfold v1
    exact State.basinStop_carries h1
  clear_value v1
  extract_lets +onlyGivenNames v3
  have h4 : Carries o v3 := by
    unfold v3
    exact State.restoreBasin_carries (State.flushBasin_carries h2)
  clear_value v3
  exact State.switchBegin_carries (State.setSession_carries h4)

theorem State.inStore_carries {o : State} {s : State} {r : Session} {f : State → Trig} (h1 : Carries o s) (h3 : ∀ y0,
    Carries o y0 → Carries1 o (f y0)) : Carries1 o (State.inStore s r f) := by
  unfold State.inStore
  extract_lets +onlyGivenNames v1
  extract_lets +onlyGivenNames v2
  extract_lets +onlyGivenNames v3
  have h4 : Carries1 o v3 := by
    unfold v3
    apply h3
    exact carriesMk h1 rfl rfl rfl rfl
  clear_value v3
  extract_lets +onlyGivenNames v5
  have h6 : Carries o v5 := by
    unfold v5
    exact Carries1.fst h4
  clear_value v5
  extract_lets +onlyGivenNames v7
  exact Carries1.mk (State.setSession_carries (carriesMk h6 rfl rfl rfl rfl))

theorem State.diverge_carries {o : State} {s : State} {index : Nat} (h1 : Carries o s) : Carries o (State.diverge s
    index) := by
  unfold State.diverge
  split
  · rename_i x1 e2
    exact h1
  · rename_i x3 x4 e5
    exact State.rplEvent_carries (State.setAll_carries (State.setSession_carries h1))

theorem State.replayEndOf_carries {o : State} {s : State} {r : Session} {t : Nat} {a3 : Nat} {sent : Bool} {egress :
    Nat} {reason : Nat} (h1 : Carries o s) : Carries o (State.replayEndOf s r t a3 sent egress reason) := by
  unfold State.replayEndOf
  split
  · rename_i x1 e2
    exact State.startOp_carries h1
  · rename_i x3 x4 e5
    refine pIte (P := Carries o) ?_ ?_
    · exact State.startOp_carries h1
    · extract_lets +onlyGivenNames v6
      extract_lets +onlyGivenNames v7
      extract_lets +onlyGivenNames v8
      extract_lets +onlyGivenNames v9
      have h10 : Carries o v9 := by
        unfold v9
        exact State.bumpFld_carries (State.setSession_carries h1)
      clear_value v9
      extract_lets +onlyGivenNames v11
      extract_lets +onlyGivenNames v12
      split
      · rename_i x13 e14
        unfold v12
        exact State.startOp_carries h10
      · rename_i x15 x16 e17
        extract_lets +onlyGivenNames v18
        extract_lets +onlyGivenNames v19
        extract_lets +onlyGivenNames v20
        have h21 : Carries o v20 := by
          unfold v20
          unfold v12
          exact State.startOp_carries h10
        clear_value v20
        exact pIte (P := Carries o) h21 (State.diverge_carries h21)

theorem State.fromLog_carries {o : State} {s : State} {r : Session} {t : Nat} {kind : Nat} {obj : Nat} {f : State →
    DecEnt → State} (h1 : Carries o s) (h6 : ∀ y0 y1, Carries o y0 → Carries o (f y0 y1)) : Carries1 o (State.fromLog
    s r t kind obj f) := by
  unfold State.fromLog
  split
  · rename_i x1 e2
    exact Carries1.mk (State.diverge_carries h1)
  · rename_i x3 x4 x5 e6
    refine Carries1.mk ?_
    apply h6
    exact State.setSession_carries h1

theorem State.replayTrig_carries {o : State} {s : State} {r : Session} {t : Nat} {p : Nat} {x : Nat} {f : State →
    Trig} (h1 : Carries o s) (h6 : ∀ y0, Carries o y0 → Carries1 o (f y0)) : Carries1 o (State.replayTrig s r t p x f)
    := by
  unfold State.replayTrig
  extract_lets +onlyGivenNames v1
  extract_lets +onlyGivenNames v2
  have h3 : Carries1 o v2 := by
    unfold v2
    apply h6
    exact h1
  clear_value v2
  refine pIte (P := Carries1 o) ?_ ?_
  · exact h3
  · refine pIte (P := Carries1 o) ?_ ?_
    · exact Carries1.mk h1
    · refine pIte (P := Carries1 o) ?_ ?_
      · extract_lets +onlyGivenNames v4
        extract_lets +onlyGivenNames v5
        extract_lets +onlyGivenNames v6
        extract_lets +onlyGivenNames v7
        extract_lets +onlyGivenNames v8
        refine pIte (P := Carries1 o) ?_ ?_
        · exact Carries1.mk (State.startOp_carries h1)
        · refine State.inStore_carries ?_ ?_
          · exact h1
          · intro s9 h10
            apply h6
            exact h10
      · refine pIte (P := Carries1 o) ?_ ?_
        · split
          · rename_i x11 x12 e13
            refine pIte (P := Carries1 o) ?_ ?_
            · exact Carries1.mk (State.startOp_carries h1)
            · refine State.inStore_carries ?_ ?_
              · exact h1
              · intro s14 h15
                apply h6
                exact h15
          · rename_i x16 e17
            refine State.inStore_carries ?_ ?_
            · exact h1
            · intro s18 h19
              apply h6
              exact h19
        · refine pIte (P := Carries1 o) ?_ ?_
          · refine State.inStore_carries ?_ ?_
            · exact h1
            · intro s20 h21
              apply h6
              exact h21
          · refine pIte (P := Carries1 o) ?_ ?_
            · refine State.inStore_carries ?_ ?_
              · exact h1
              · intro s22 h23
                apply h6
                exact h23
            · refine pIte (P := Carries1 o) ?_ ?_
              · extract_lets +onlyGivenNames v24
                exact Carries1.mk (State.replayEndOf_carries h1)
              · refine pIte (P := Carries1 o) ?_ ?_
                · exact Carries1.mk (State.replayEndOf_carries h1)
                · refine pIte (P := Carries1 o) ?_ ?_
                  · split
                    · rename_i x25 x26 e27
                      refine pIte (P := Carries1 o) ?_ ?_
                      · exact Carries1.mk (State.startOp_carries h1)
                      · extract_lets +onlyGivenNames v28
                        exact Carries1.mk (State.startOp_carries (State.setSession_carries h1))
                    · rename_i x29 e30
                      exact Carries1.mk (State.startOp_carries h1)
                  · refine pIte (P := Carries1 o) ?_ ?_
                    · exact Carries1.mk (State.startOp_carries h1)
                    · refine pIte (P := Carries1 o) ?_ ?_
                      · split
                        · rename_i x31 x32 e33
                          exact Carries1.mk (State.startOp_carries h1)
                        · rename_i x34 e35
                          exact h3
                      · refine pIte (P := Carries1 o) ?_ ?_
                        · refine State.fromLog_carries ?_ ?_
                          · exact h1
                          · intro s36 x37 h38
                            exact State.startOp_carries h38
                        · refine pIte (P := Carries1 o) ?_ ?_
                          · refine State.fromLog_carries ?_ ?_
                            · exact h1
                            · intro s39 x40 h41
                              exact State.startOp_carries h41
                          · refine pIte (P := Carries1 o) ?_ ?_
                            · refine State.fromLog_carries ?_ ?_
                              · exact h1
                              · intro s42 x43 h44
                                exact State.setEvent_carries (State.startOp_carries h44)
                            · refine pIte (P := Carries1 o) ?_ ?_
                              · exact Carries1.mk (State.startOp_carries h1)
                              · refine pIte (P := Carries1 o) ?_ ?_
                                · refine State.fromLog_carries ?_ ?_
                                  · exact h1
                                  · intro s45 x46 h47
                                    exact State.startOp_carries h47
                                · refine pIte (P := Carries1 o) ?_ ?_
                                  · exact Carries1.mk (State.startOp_carries h1)
                                  · refine pIte (P := Carries1 o) ?_ ?_
                                    · split
                                      · rename_i x48 e49
                                        exact Carries1.mk (State.startOp_carries h1)
                                      · rename_i x50 x51 x52 e53
                                        exact Carries1.mk (State.startOp_carries (State.setSession_carries h1))
                                    · exact h3

theorem State.rplResult_carries {o : State} {s : State} {st : Nat} (h1 : Carries o s) : Carries o (State.rplResult s
    st) := by
  unfold State.rplResult
  exact State.wr_carries h1

theorem rplTrigger_carries {o : State} {s : State} {p : Nat} (h1 : Carries o s) : Carries o (rplTrigger s p) := by
  unfold rplTrigger
  refine pIte (P := Carries o) ?_ ?_
  · exact h1
  · extract_lets +onlyGivenNames v1
    have h2 : Carries2 o v1 := by
      unfold v1
      exact State.startPost_carries h1
    clear_value v1
    exact State.rplResult_carries (Carries2.snd h2)

theorem rplFreeze_carries {o : State} {s : State} {p : Nat} (h1 : Carries o s) : Carries o (rplFreeze s p) := by
  unfold rplFreeze
  refine pIte (P := Carries o) ?_ ?_
  · exact h1
  · extract_lets +onlyGivenNames v1
    have h2 : Carries2 o v1 := by
      unfold v1
      exact State.freeze_carries h1
    clear_value v1
    exact State.rplResult_carries (Carries2.snd h2)

theorem rplRelease_carries {o : State} {s : State} {p : Nat} (h1 : Carries o s) : Carries o (rplRelease s p) := by
  unfold rplRelease
  refine pIte (P := Carries o) ?_ ?_
  · exact h1
  · refine pIte (P := Carries o) ?_ ?_
    · exact State.rplResult_carries h1
    · refine pIte (P := Carries o) ?_ ?_
      · exact State.rplResult_carries h1
      · extract_lets +onlyGivenNames v1
        extract_lets +onlyGivenNames v2
        have h3 : Carries o v2 := by
          unfold v2
          exact carriesMk h1 rfl rfl rfl rfl
        clear_value v2
        exact State.rplResult_carries (State.setAll_carries h3)

theorem State.writeBatch_carries {o : State} {s : State} {batches : List (Nat × Nat)} {off : Nat} (h1 : Carries o s) :
    Carries o (State.writeBatch s batches off) := by
  unfold State.writeBatch
  split
  · rename_i x1
    extract_lets +onlyGivenNames v2
    extract_lets +onlyGivenNames v3
    have h4 : Carries o v3 := by
      unfold v3
      exact carriesMk h1 rfl rfl rfl rfl
    clear_value v3
    exact State.rplEvent_carries (State.wr_carries h4)
  · rename_i x5 x6 x7 x8
    extract_lets +onlyGivenNames v9
    extract_lets +onlyGivenNames v10
    extract_lets +onlyGivenNames v11
    have h12 : Carries o v11 := by
      unfold v11
      exact State.ipdReqs_carries (State.ipdWrite_carries h1)
    clear_value v11
    exact carriesMk h12 rfl rfl rfl rfl

theorem rplExport_carries {o : State} {s : State} {p : Nat} (h1 : Carries o s) : Carries o (rplExport s p) := by
  unfold rplExport
  refine pIte (P := Carries o) ?_ ?_
  · exact h1
  · refine pIte (P := Carries o) ?_ ?_
    · exact State.rplResult_carries h1
    · split
      · rename_i x1 e2
        exact State.rplResult_carries h1
      · rename_i x3 x4 e5
        extract_lets +onlyGivenNames v6
        extract_lets +onlyGivenNames v7
        refine pIte (P := Carries o) ?_ ?_
        · exact State.rplResult_carries h1
        · refine pIte (P := Carries o) ?_ ?_
          · exact State.rplResult_carries h1
          · exact State.writeBatch_carries (State.wr_carries (State.rplResult_carries h1))

theorem State.pinAll_carries {o : State} {a : State} {a1 : List Nat} (h1 : Carries o a) : Carries2 o (State.pinAll a
    a1) := by
  induction a1 generalizing a
  · unfold State.pinAll
    exact Carries2.mk h1
  · rename_i n1 n2 ih3
    unfold State.pinAll
    split
    · rename_i x1 x2 s3 e4
      have h5 := Carries2.of (o := o) ?_ e4
      rotate_left
      · exact State.pinVersion_carries h1
      refine pIte (P := Carries2 o) ?_ ?_
      · exact Carries2.mk h5
      · split
        · rename_i x6 x7 s8 e9
          have h10 := Carries2.of (o := o) ?_ e9
          rotate_left
          · apply ih3
            exact h5
          exact pIte (P := Carries2 o) (Carries2.mk h10) (Carries2.mk (Carries2.snd (State.unpinVersion_carries h10)))

theorem rplReplay_carries {o : State} {s : State} {p : Nat} (h1 : Carries o s) : Carries o (rplReplay s p) := by
  unfold rplReplay
  refine pIte (P := Carries o) ?_ ?_
  · exact h1
  · refine pIte (P := Carries o) ?_ ?_
    · exact State.rplResult_carries h1
    · extract_lets +onlyGivenNames v1
      extract_lets +onlyGivenNames v2
      split
      · rename_i x3 e4
        exact State.rplResult_carries h1
      · rename_i x5 x6 e7
        refine pIte (P := Carries o) ?_ ?_
        · exact State.rplResult_carries h1
        · refine pIte (P := Carries o) ?_ ?_
          · exact State.rplResult_carries h1
          · extract_lets +onlyGivenNames v8
            split
            · rename_i x9 x10 s11 e12
              have h13 := Carries2.of (o := o) ?_ e12
              rotate_left
              · exact State.pinAll_carries h1
              refine pIte (P := Carries o) ?_ ?_
              · exact State.rplResult_carries h13
              · extract_lets +onlyGivenNames v14
                extract_lets +onlyGivenNames v15
                extract_lets +onlyGivenNames v16
                extract_lets +onlyGivenNames v17
                have h18 : Carries o v17 := by
                  unfold v17
                  exact carriesMk h13 rfl rfl rfl rfl
                clear_value v17
                extract_lets +onlyGivenNames v19
                have h20 : Carries o v19 := by
                  unfold v19
                  exact State.setAll_carries h18
                clear_value v19
                exact State.switchBegin_carries (State.rplResult_carries h20)

theorem rplAbort_carries {o : State} {s : State} {p : Nat} (h1 : Carries o s) : Carries o (rplAbort s p) := by
  unfold rplAbort
  refine pIte (P := Carries o) ?_ ?_
  · exact h1
  · split
    · rename_i x1 e2
      exact State.rplResult_carries h1
    · rename_i x3 x4 e5
      refine pIte (P := Carries o) ?_ ?_
      · exact State.rplResult_carries (State.setSession_carries h1)
      · refine pIte (P := Carries o) ?_ ?_
        · exact State.rplResult_carries (State.setSession_carries h1)
        · exact State.rplResult_carries h1

theorem State.replayHand_carries {o : State} {s : State} {r : Session} {t : Nat} (h1 : Carries o s) : Carries o
    (State.replayHand s r t) := by
  unfold State.replayHand
  split
  · rename_i x1 e2
    exact h1
  · rename_i x3 x4 x5 e6
    extract_lets +onlyGivenNames v7
    refine pIte (P := Carries o) ?_ ?_
    · exact h1
    · extract_lets +onlyGivenNames v8
      extract_lets +onlyGivenNames v9
      extract_lets +onlyGivenNames v10
      extract_lets +onlyGivenNames v11
      extract_lets +onlyGivenNames v12
      extract_lets +onlyGivenNames v13
      have h14 : Carries o v13 := by
        unfold v13
        exact carriesMk h1 rfl rfl rfl rfl
      clear_value v13
      extract_lets +onlyGivenNames v15
      extract_lets +onlyGivenNames v16
      extract_lets +onlyGivenNames v17
      extract_lets +onlyGivenNames v18
      extract_lets +onlyGivenNames v19
      extract_lets +onlyGivenNames v20
      refine State.setEvent_carries ?_
      extract_lets +onlyGivenNames v21
      have h22 : Carries o v21 := by
        unfold v21
        exact State.setSession_carries h1
      clear_value v21
      exact carriesMk h22 rfl rfl rfl rfl

theorem trailerCounted_carries {o s : State} {l : List (Nat × Nat)} {n : Nat} (h : Carries o s) :
    Carries o ({ s with fth := { s.fth with exportSeq := s.fth.exportSeq + 1 } }.writeBatch l n) :=
  State.writeBatch_carries (carriesMk h rfl rfl rfl rfl)

theorem exportTrailerSigned_carries {o : State} {s : State} (h : Carries o s) : Carries o (exportTrailerSigned s) :=
    by
  unfold exportTrailerSigned
  split
  · exact trailerCounted_carries (State.ipdReqs_carries (State.ipdWrite_carries h))
  · exact h

theorem replayEnd_carries {o : State} {s : State} (h1 : Carries o s) : Carries o (replayEnd s) := by
  unfold replayEnd
  split
  · rename_i x1 e2
    exact h1
  · rename_i x3 x4 e5
    exact pIte (P := Carries o) h1 (pIte (P := Carries o) (State.sessionReturn_carries h1) h1)

/-! ### Hosts -/

theorem State.fetchedNow_carries {o : State} {s : State} {q : Nat} {p : Nat} (h1 : Carries o s) : Carries2 o
    (State.fetchedNow s q p) := by
  unfold State.fetchedNow
  extract_lets +onlyGivenNames v1
  refine pIte (P := Carries2 o) ?_ ?_
  · exact Carries2.mk h1
  · split
    · rename_i x2 x3 s4 e5
      have h6 := Carries2.of (o := o) ?_ e5
      rotate_left
      · exact State.free_carries h1
      exact Carries2.mk h6

theorem State.abandonTx_carries {o : State} {s : State} {p : Nat} (h1 : Carries o s) : Carries o (State.abandonTx s p)
    := by
  unfold State.abandonTx
  refine pFoldl (P := Carries o) ?_ ?_
  · exact h1
  · intro s1 x2 h3
    split
    · rename_i x4 x5 s6 e7
      have h8 := Carries2.of (o := o) ?_ e7
      rotate_left
      · exact pIte (P := Carries2 o) (Carries2.mk h3) (State.fetchedNow_carries h3)
      exact State.bumpFld_carries (carriesMk h8 rfl rfl rfl rfl)

theorem State.ringFails_carries {o : State} {s : State} {tx : Bool} {q : Nat} {p : Nat} (h1 : Carries o s) : Carries o
    (State.ringFails s tx q p) := by
  unfold State.ringFails
  extract_lets +onlyGivenNames v1
  have h2 : Carries o v1 := by
    unfold v1
    exact State.setFld_carries h1
  clear_value v1
  exact State.signalVec_carries (State.event_carries h2)

theorem txDoorbellWrite_carries {o : State} {s : State} {p : Nat} {q : Nat} {v : Nat} (h1 : Carries o s) : Carries o
    (txDoorbellWrite s p q v) := by
  unfold txDoorbellWrite
  refine pIte (P := Carries o) ?_ ?_
  · exact h1
  · extract_lets +onlyGivenNames v1
    extract_lets +onlyGivenNames v2
    have h3 : Carries o v2 := by
      unfold v2
      exact State.setFld_carries h1
    clear_value v2
    exact pIte (P := Carries o) (State.ringFails_carries h3) h3

theorem rxDoorbellWrite_carries {o : State} {s : State} {p : Nat} {q : Nat} {v : Nat} (h1 : Carries o s) : Carries o
    (rxDoorbellWrite s p q v) := by
  unfold rxDoorbellWrite
  refine pIte (P := Carries o) ?_ ?_
  · exact h1
  · extract_lets +onlyGivenNames v1
    extract_lets +onlyGivenNames v2
    exact pIte (P := Carries o) (State.ringFails_carries h1) (State.setFld_carries h1)

theorem State.partReset_carries {o : State} {s : State} {p : Nat} (h1 : Carries o s) : Carries o (State.partReset s p)
    := by
  unfold State.partReset
  refine pIte (P := Carries o) ?_ ?_
  · exact h1
  · extract_lets +onlyGivenNames v1
    have h2 : Carries o v1 := by
      unfold v1
      exact State.setFld_carries (State.abandonTx_carries h1)
    clear_value v1
    extract_lets +onlyGivenNames v3
    have h4 : Carries o v3 := by
      unfold v3
      exact State.dryWaiting_carries h2
    clear_value v3
    extract_lets +onlyGivenNames v5
    have h6 : Carries o v5 := by
      unfold v5
      refine pFoldl (P := Carries o) ?_ ?_
      · exact h4
      · intro s7 x8 h9
        exact State.dryHostQueue_carries h9
    clear_value v5
    exact State.loseTblCommand_carries (State.loseStaging_carries (State.loseHostLocks_carries h6))

theorem pcieLinkReset_carries {o : State} {s : State} {link : Nat} (h1 : Carries o s) : Carries o (pcieLinkReset s
    link) := by
  unfold pcieLinkReset
  extract_lets +onlyGivenNames v1
  extract_lets +onlyGivenNames v2
  have h3 : Carries o v2 := by
    unfold v2
    exact carriesMk h1 rfl rfl rfl rfl
  clear_value v2
  refine pIte (P := Carries o) ?_ ?_
  · exact h3
  · split
    · rename_i x4 e5
      exact h3
    · rename_i x6 x7 e8
      exact State.partReset_carries h3

theorem hstLatWrite_carries {o : State} {s : State} {p : Nat} {v : Nat} (h1 : Carries o s) : Carries o (hstLatWrite s
    p v) := by
  unfold hstLatWrite
  exact pIte (P := Carries o) (State.setFld_carries h1) h1

theorem hstPrstGo_carries {o : State} {s : State} {p : Nat} {target : Nat} (h1 : Carries o s) : Carries o (hstPrstGo s
    p target) := by
  unfold hstPrstGo
  refine pIte (P := Carries o) ?_ ?_
  · exact h1
  · extract_lets +onlyGivenNames v1
    have h2 : Carries o v1 := by
      unfold v1
      exact State.setFld_carries h1
    clear_value v1
    refine pIte (P := Carries o) ?_ ?_
    · exact State.setFld_carries h2
    · exact pIte (P := Carries o) (State.setFld_carries h2) (State.partReset_carries (State.setFld_carries h2))

theorem State.ringStart_carries {o : State} {s : State} {tx : Bool} {q : Nat} {p : Nat} (h1 : Carries o s) : Carries o
    (State.ringStart s tx q p) := by
  unfold State.ringStart
  exact State.setAll_carries h1

theorem State.ringEnable_carries {o : State} {s : State} {tx : Bool} {q : Nat} {p : Nat} (h1 : Carries o s) : Carries
    o (State.ringEnable s tx q p) := by
  unfold State.ringEnable
  extract_lets +onlyGivenNames v1
  have h2 : Carries o v1 := by
    unfold v1
    exact State.setFld_carries h1
  clear_value v1
  split
  · rename_i x3 e4
    exact State.ringStart_carries h2
  · rename_i x5 e6
    exact State.setFld_carries h2
  · rename_i x7 e8 e9
    exact h2

theorem hostQueueEnable_carries {o : State} {s : State} {p : Nat} {tx : Bool} {q : Nat} (h1 : Carries o s) : Carries o
    (hostQueueEnable s p tx q) := by
  unfold hostQueueEnable
  exact pIte (P := Carries o) (State.ringEnable_carries h1) h1

theorem State.ringDisable_carries {o : State} {s : State} {tx : Bool} {q : Nat} {p : Nat} (h1 : Carries o s) : Carries
    o (State.ringDisable s tx q p) := by
  unfold State.ringDisable
  extract_lets +onlyGivenNames v1
  extract_lets +onlyGivenNames v2
  have h3 : Carries o v2 := by
    unfold v2
    exact State.setFld_carries h1
  clear_value v2
  refine pIte (P := Carries o) ?_ ?_
  · split
    · rename_i x4 x5 s6 e7
      have h8 := Carries2.of (o := o) ?_ e7
      rotate_left
      · exact pIte (P := Carries2 o) (State.fetchedNow_carries h3) (Carries2.mk h3)
      extract_lets +onlyGivenNames v9
      extract_lets +onlyGivenNames v10
      have h11 : Carries o v10 := by
        unfold v10
        exact carriesMk h8 rfl rfl rfl rfl
      clear_value v10
      exact State.setFld_carries h11
  · exact State.setFld_carries h3

theorem hostQueueDisable_carries {o : State} {s : State} {p : Nat} {tx : Bool} {q : Nat} (h1 : Carries o s) : Carries
    o (hostQueueDisable s p tx q) := by
  unfold hostQueueDisable
  exact pIte (P := Carries o) (State.ringDisable_carries h1) h1

theorem State.complete__carries {o : State} {s : State} {p : Nat} {status : Nat} {data : List Byte} (h1 : Carries o s)
    : Carries o (State.complete_ s p status data) := by
  unfold State.complete_
  exact State.emit_carries h1

theorem State.hostWakes_carries {o : State} {s : State} (h1 : Carries o s) : Carries o (State.hostWakes s) := by
  unfold State.hostWakes
  exact pIte (P := Carries o) (wakeEvent_carries h1) h1

theorem State.hostFrame_carries {o : State} {s : State} {p : Nat} {q : Nat} {len : Nat} {frame : List Byte} {readOk :
    Bool} {prog0 : W32} {prog1 : W32} (h1 : Carries o s) : Carries2 o (State.hostFrame s p q len frame readOk prog0
    prog1) := by
  unfold State.hostFrame
  extract_lets +onlyGivenNames v1
  refine pIte (P := Carries2 o) ?_ ?_
  · exact Carries2.mk h1
  · split
    · rename_i x2 x3 x4 s5 e6
      have h7 := Carries2.of (o := o) ?_ e6
      rotate_left
      · exact State.allocHead_carries h1
      refine pIte (P := Carries2 o) ?_ ?_
      · exact Carries2.mk h7
      · split
        · rename_i x8 x9 x10 s11 e12
          have h13 := Carries2.of (o := o) ?_ e12
          rotate_left
          · exact pIte (P := Carries2 o) (Carries2.mk h7) (State.allocNow_carries h7)
          extract_lets +onlyGivenNames v14
          refine pIte (P := Carries2 o) ?_ ?_
          · exact Carries2.mk (State.dropRef_carries h13)
          · extract_lets +onlyGivenNames v15
            refine pIte (P := Carries2 o) ?_ ?_
            · exact Carries2.mk (State.dropRefs_carries h13)
            · extract_lets +onlyGivenNames v16
              extract_lets +onlyGivenNames v17
              have h18 : Carries o v17 := by
                unfold v17
                exact State.storeFrame_carries h13
              clear_value v17
              extract_lets +onlyGivenNames v19
              extract_lets +onlyGivenNames v20
              have h21 : Carries o v20 := by
                unfold v20
                exact State.enterPath_carries h18
              clear_value v20
              exact Carries2.mk h21

theorem State.hostWrite_carries {o : State} {s : State} {p : Nat} {addr : Nat} {data : List Byte} (h1 : Carries o s) :
    Carries o (State.hostWrite s p addr data) := by
  unfold State.hostWrite
  split
  · rename_i x1 e2
    exact h1
  · rename_i x3 x4 e5
    refine pIte (P := Carries o) ?_ ?_
    · exact State.bump_carries h1
    · exact pIte (P := Carries o) (State.hostStore_carries h1) (carriesMk h1 rfl rfl rfl rfl)

theorem State.ringBytes_carries {o : State} {s : State} {p : Nat} {base : Nat} {size : Nat} {off : Nat} {bs : List
    Byte} (h1 : Carries o s) : Carries o (State.ringBytes s p base size off bs) := by
  unfold State.ringBytes
  extract_lets +onlyGivenNames v1
  extract_lets +onlyGivenNames v2
  extract_lets +onlyGivenNames v3
  have h4 : Carries o v3 := by
    unfold v3
    exact State.hostWrite_carries h1
  clear_value v3
  exact pIte (P := Carries o) (State.hostWrite_carries h4) h4

theorem State.rxTake_carries {o : State} {s : State} {p : Nat} {q : Nat} (h1 : Carries o s) : Carries o (State.rxTake
    s p q) := by
  unfold State.rxTake
  extract_lets +onlyGivenNames v1
  extract_lets +onlyGivenNames v2
  have h3 : Carries o v2 := by
    unfold v2
    exact State.chDrop_carries h1
  clear_value v2
  exact Carries2.snd (State.popCopy_carries h3)

theorem State.setTurn_carries {o : State} {s : State} {key : Nat} {q : Nat} (h1 : Carries o s) : Carries o
    (State.setTurn s key q) := by
  unfold State.setTurn
  exact carriesMk h1 rfl rfl rfl rfl

theorem State.txCount_carries {o : State} {s : State} {p : Nat} {st : Nat} (h1 : Carries o s) : Carries o
    (State.txCount s p st) := by
  unfold State.txCount
  exact pIte (P := Carries o) (State.bumpFld_carries h1) (State.event_carries (State.bumpFld_carries h1))

theorem State.writeBackIdx_carries {o : State} {s : State} {tx : Bool} {q : Nat} {p : Nat} {v : Nat} (h1 : Carries o
    s) : Carries o (State.writeBackIdx s tx q p v) := by
  unfold State.writeBackIdx
  extract_lets +onlyGivenNames v1
  exact State.hostWrite_carries h1

theorem bar4Read_carries {o : State} {s : State} {p : Nat} {off : Nat} {n : Nat} (h1 : Carries o s) : Carries o
    (bar4Read s p off n) := by
  unfold bar4Read
  refine pIte (P := Carries o) ?_ ?_
  · exact h1
  · extract_lets +onlyGivenNames v1
    have h2 : Carries o v1 := by
      unfold v1
      exact State.hostWakes_carries h1
    clear_value v1
    refine pIte (P := Carries o) ?_ ?_
    · exact State.complete__carries h2
    · extract_lets +onlyGivenNames v3
      extract_lets +onlyGivenNames v4
      exact State.complete__carries (State.ipdReqs_carries h2)

theorem bar4Write_carries {o : State} {s : State} {p : Nat} {off : Nat} {data : List Byte} (h1 : Carries o s) :
    Carries o (bar4Write s p off data) := by
  unfold bar4Write
  extract_lets +onlyGivenNames v1
  refine pIte (P := Carries o) ?_ ?_
  · exact h1
  · extract_lets +onlyGivenNames v2
    have h3 : Carries o v2 := by
      unfold v2
      exact State.hostWakes_carries h1
    clear_value v2
    refine pIte (P := Carries o) ?_ ?_
    · exact State.complete__carries h3
    · extract_lets +onlyGivenNames v4
      extract_lets +onlyGivenNames v5
      extract_lets +onlyGivenNames v6
      have h7 : Carries o v6 := by
        unfold v6
        exact State.ipdReqs_carries (State.ipdWrite_carries h3)
      clear_value v6
      exact pIte (P := Carries o) (State.bumpFld_carries h7) h7

theorem eoeFrameReceive_carries {o : State} {s : State} {now : Nat} {port : Nat} {bs : List Byte} (h1 : Carries o s) :
    Carries o (eoeFrameReceive s now port bs) := by
  unfold eoeFrameReceive
  extract_lets +onlyGivenNames v1
  have h2 : Carries o v1 := by
    unfold v1
    exact State.upTo_carries h1
  clear_value v1
  refine pIte (P := Carries o) ?_ ?_
  · exact h2
  · split
    · rename_i x3 e4
      exact h2
    · rename_i x5 x6 e7
      extract_lets +onlyGivenNames v8
      extract_lets +onlyGivenNames v9
      refine pIte (P := Carries o) ?_ ?_
      · exact h2
      · refine pIte (P := Carries o) ?_ ?_
        · exact State.bumpFld_carries h2
        · extract_lets +onlyGivenNames v10
          extract_lets +onlyGivenNames v11
          extract_lets +onlyGivenNames v12
          have h13 : Carries o v12 := by
            unfold v12
            split
            · rename_i x14 x15 e16
              exact pIte (P := Carries o) h2 (State.bumpFld_carries h2)
            · rename_i x17 e18
              exact h2
          clear_value v12
          extract_lets +onlyGivenNames v19
          extract_lets +onlyGivenNames v20
          have h21 : Carries o v20 := by
            unfold v20
            exact carriesMk h13 rfl rfl rfl rfl
          clear_value v20
          extract_lets +onlyGivenNames v22
          extract_lets +onlyGivenNames v23
          split
          · rename_i x24 x25 s26 e27
            have h28 := Carries2.of (o := o) ?_ e27
            rotate_left
            · exact State.hostFrame_carries h21
            extract_lets +onlyGivenNames v29
            have h30 : Carries o v29 := by
              unfold v29
              exact pIte (P := Carries o) (State.countDry_carries (State.bumpFld_carries h28)) h28
            clear_value v29
            exact State.txCount_carries h30

theorem eoeLinkDownTimeout_carries {o : State} {s : State} {now : Nat} {p : Nat} (h1 : Carries o s) : Carries o
    (eoeLinkDownTimeout s now p) := by
  unfold eoeLinkDownTimeout
  extract_lets +onlyGivenNames v1
  have h2 : Carries o v1 := by
    unfold v1
    exact State.upTo_carries h1
  clear_value v1
  split
  · rename_i x3 e4
    exact h2
  · rename_i x5 x6 e7
    exact pIte (P := Carries o) h2 (State.partReset_carries (carriesMk h2 rfl rfl rfl rfl))

theorem eoeMessageSend_carries {o : State} {s : State} {now : Nat} {p : Nat} {q : Nat} (h1 : Carries o s) : Carries o
    (eoeMessageSend s now p q) := by
  unfold eoeMessageSend
  extract_lets +onlyGivenNames v1
  have h2 : Carries o v1 := by
    unfold v1
    exact State.upTo_carries h1
  clear_value v1
  refine pIte (P := Carries o) ?_ ?_
  · exact h2
  · split
    · rename_i x3 e4
      exact h2
    · rename_i x5 x6 e7
      extract_lets +onlyGivenNames v8
      extract_lets +onlyGivenNames v9
      extract_lets +onlyGivenNames v10
      extract_lets +onlyGivenNames v11
      refine pIte (P := Carries o) ?_ ?_
      · exact State.dryCopy_carries (State.rxTake_carries h2)
      · split
        · rename_i x12 x13 x14 s15 e16
          have h17 := Carries2.of (o := o) ?_ e16
          rotate_left
          · exact State.allocHead_carries h2
          refine pIte (P := Carries o) ?_ ?_
          · exact h17
          · split
            · rename_i x18 x19 x20 s21 e22
              have h23 := Carries2.of (o := o) ?_ e22
              rotate_left
              · exact pIte (P := Carries2 o) (Carries2.mk h17) (State.allocNow_carries h17)
              refine pIte (P := Carries o) ?_ ?_
              · exact State.dropRef_carries h23
              · extract_lets +onlyGivenNames v24
                extract_lets +onlyGivenNames v25
                have h26 : Carries o v25 := by
                  unfold v25
                  exact State.rxTake_carries (State.storeFrame_carries h23)
                clear_value v25
                extract_lets +onlyGivenNames v27
                extract_lets +onlyGivenNames v28
                have h29 : Carries o v28 := by
                  unfold v28
                  exact carriesMk h26 rfl rfl rfl rfl
                clear_value v28
                extract_lets +onlyGivenNames v30
                have h31 : Carries o v30 := by
                  unfold v30
                  exact State.bumpFld_carries (State.copyEnds_carries h29)
                clear_value v30
                exact State.admitCopy_carries h31

theorem frameIn_carries {o : State} {s : State} {now : Nat} {p : Nat} {stamp : Nat} {bytes : List Byte} {fcsOk : Bool}
    {cut : Bool} {express : Bool} {macsec : Nat} {pn : Nat} (h1 : Carries o s) : Carries o (frameIn s now p stamp
    bytes fcsOk cut express macsec pn) := by
  unfold frameIn
  extract_lets +onlyGivenNames v1
  have h2 : Carries o v1 := by
    unfold v1
    exact State.upTo_carries h1
  clear_value v1
  refine pIte (P := Carries o) ?_ ?_
  · split
    · rename_i x3 x4 s5 e6
      have h7 := Carries3.of (o := o) ?_ e6
      rotate_left
      · exact State.macsecIn_carries h2
      exact State.discard_carries h7
    · rename_i x8 x9 s10 e11
      have h12 := Carries3.of (o := o) ?_ e11
      rotate_left
      · exact State.macsecIn_carries h2
      exact eoeFrameReceive_carries h12
  · exact frameReceive_carries h1

theorem pcieConfigRequest_carries {o : State} {s : State} {link : Nat} {write : Bool} {reg : Nat} {data : Nat} (h1 :
    Carries o s) : Carries o (pcieConfigRequest s link write reg data) := by
  unfold pcieConfigRequest
  extract_lets +onlyGivenNames v1
  refine pIte (P := Carries o) ?_ ?_
  · exact h1
  · refine pIte (P := Carries o) ?_ ?_
    · exact State.emit_carries h1
    · exact pIte (P := Carries o) (State.emit_carries (carriesMk h1 rfl rfl rfl rfl)) (State.emit_carries h1)

theorem pcieAtomicop_carries {o : State} {s : State} {p : Nat} {off : Nat} {op : Nat} {width : Nat} {v : Nat} {c :
    Nat} (h1 : Carries o s) : Carries o (pcieAtomicop s p off op width v c) := by
  unfold pcieAtomicop
  extract_lets +onlyGivenNames v1
  refine pIte (P := Carries o) ?_ ?_
  · exact h1
  · extract_lets +onlyGivenNames v2
    have h3 : Carries o v2 := by
      unfold v2
      exact State.hostWakes_carries h1
    clear_value v2
    refine pIte (P := Carries o) ?_ ?_
    · exact State.complete__carries h3
    · extract_lets +onlyGivenNames v4
      split
      · rename_i x5 s6 e7
        have h8 := Carries2.of (o := o) ?_ e7
        rotate_left
        · exact State.ipdAtomic_carries h3
        exact State.complete__carries h8
      · rename_i x9 x10 s11 e12
        have h13 := Carries2.of (o := o) ?_ e12
        rotate_left
        · exact State.ipdAtomic_carries h3
        exact State.complete__carries h13

theorem txDescriptorProcess_carries {o : State} {s : State} {now : Nat} {p : Nat} {q : Nat} {desc : List Byte} {frame
    : List Byte} {readOk : Bool} (h1 : Carries o s) : Carries o (txDescriptorProcess s now p q desc frame readOk) :=
    by
  unfold txDescriptorProcess
  extract_lets +onlyGivenNames v1
  have h2 : Carries o v1 := by
    unfold v1
    exact State.upTo_carries h1
  clear_value v1
  extract_lets +onlyGivenNames v3
  extract_lets +onlyGivenNames v4
  refine pIte (P := Carries o) ?_ ?_
  · exact h2
  · refine pIte (P := Carries o) ?_ ?_
    · exact h2
    · refine pIte (P := Carries o) ?_ ?_
      · exact State.startRefill_carries h2
      · split
        · rename_i x5 x6 s7 e8
          have h9 := Carries2.of (o := o) ?_ e8
          rotate_left
          · exact pIte (P := Carries2 o) (Carries2.mk h2) (State.hostFrame_carries h2)
          extract_lets +onlyGivenNames v10
          have h11 : Carries o v10 := by
            unfold v10
            exact State.setTurn_carries (State.txCount_carries h9)
          clear_value v10
          extract_lets +onlyGivenNames v12
          extract_lets +onlyGivenNames v13
          extract_lets +onlyGivenNames v14
          have h15 : Carries o v14 := by
            unfold v14
            exact carriesMk h11 rfl rfl rfl rfl
          clear_value v14
          extract_lets +onlyGivenNames v16
          extract_lets +onlyGivenNames v17
          have h18 : Carries o v17 := by
            unfold v17
            exact State.hostWrite_carries h15
          clear_value v17
          extract_lets +onlyGivenNames v19
          have h20 : Carries o v19 := by
            unfold v19
            exact State.setFld_carries h18
          clear_value v19
          extract_lets +onlyGivenNames v21
          have h22 : Carries o v21 := by
            unfold v21
            exact State.writeBackIdx_carries h20
          clear_value v21
          exact pIte (P := Carries o) (State.signalVec_carries h22) h22

theorem rxMessageDeliver_carries {o : State} {s : State} {now : Nat} {p : Nat} {q : Nat} (h1 : Carries o s) : Carries
    o (rxMessageDeliver s now p q) := by
  unfold rxMessageDeliver
  extract_lets +onlyGivenNames v1
  have h2 : Carries o v1 := by
    unfold v1
    exact State.upTo_carries h1
  clear_value v1
  refine pIte (P := Carries o) ?_ ?_
  · exact h2
  · split
    · rename_i x3 e4
      exact h2
    · rename_i x5 x6 e7
      extract_lets +onlyGivenNames v8
      extract_lets +onlyGivenNames v9
      extract_lets +onlyGivenNames v10
      extract_lets +onlyGivenNames v11
      extract_lets +onlyGivenNames v12
      extract_lets +onlyGivenNames v13
      have h14 : Carries o v13 := by
        unfold v13
        exact State.setTurn_carries (State.rxTake_carries h2)
      clear_value v13
      refine pIte (P := Carries o) ?_ ?_
      · exact State.dryCopy_carries h14
      · refine pIte (P := Carries o) ?_ ?_
        · extract_lets +onlyGivenNames v15
          have h16 : Carries o v15 := by
            unfold v15
            exact State.bumpFld_carries (State.dryCopy_carries h14)
          clear_value v15
          exact State.event_carries h16
        · extract_lets +onlyGivenNames v17
          extract_lets +onlyGivenNames v18
          extract_lets +onlyGivenNames v19
          extract_lets +onlyGivenNames v20
          have h21 : Carries o v20 := by
            unfold v20
            exact State.ringBytes_carries h14
          clear_value v20
          extract_lets +onlyGivenNames v22
          have h23 : Carries o v22 := by
            unfold v22
            exact State.ringBytes_carries h21
          clear_value v22
          extract_lets +onlyGivenNames v24
          have h25 : Carries o v24 := by
            unfold v24
            exact State.setFld_carries h23
          clear_value v24
          extract_lets +onlyGivenNames v26
          have h27 : Carries o v26 := by
            unfold v26
            exact State.writeBackIdx_carries h25
          clear_value v26
          extract_lets +onlyGivenNames v28
          have h29 : Carries o v28 := by
            unfold v28
            exact State.bumpFld_carries (State.copyEnds_carries h27)
          clear_value v28
          exact State.signalVec_carries h29

theorem hostQueueShutdownDone_carries {o : State} {s : State} {p : Nat} {tx : Bool} {q : Nat} (h1 : Carries o s) :
    Carries o (hostQueueShutdownDone s p tx q) := by
  unfold hostQueueShutdownDone
  refine pIte (P := Carries o) ?_ ?_
  · exact h1
  · extract_lets +onlyGivenNames v1
    extract_lets +onlyGivenNames v2
    have h3 : Carries o v2 := by
      unfold v2
      exact State.setFld_carries h1
    clear_value v2
    extract_lets +onlyGivenNames v4
    have h5 : Carries o v4 := by
      unfold v4
      exact pIte (P := Carries o) (State.ringStart_carries h3) h3
    clear_value v4
    exact State.signalVec_carries h5

theorem itrHoldExpire_carries {o : State} {s : State} {now : Nat} {p : Nat} {vec : Nat} (h1 : Carries o s) : Carries o
    (itrHoldExpire s now p vec) := by
  unfold itrHoldExpire
  extract_lets +onlyGivenNames v1
  have h2 : Carries o v1 := by
    unfold v1
    exact State.upTo_carries h1
  clear_value v1
  extract_lets +onlyGivenNames v3
  split
  · rename_i x4 e5
    exact h2
  · rename_i x6 x7 e8
    refine pIte (P := Carries o) ?_ ?_
    · exact h2
    · extract_lets +onlyGivenNames v9
      extract_lets +onlyGivenNames v10
      extract_lets +onlyGivenNames v11
      have h12 : Carries o v11 := by
        unfold v11
        exact carriesMk h2 rfl rfl rfl rfl
      clear_value v11
      exact pIte (P := Carries o) (State.signalVec_carries h12) h12

theorem pcieFunctionLevelReset_carries {o : State} {s : State} {p : Nat} (h1 : Carries o s) : Carries o
    (pcieFunctionLevelReset s p) := by
  unfold pcieFunctionLevelReset
  exact pIte (P := Carries o) (State.partReset_carries h1) h1

theorem partitionResetDrained_carries {o : State} {s : State} {p : Nat} (h1 : Carries o s) : Carries o
    (partitionResetDrained s p) := by
  unfold partitionResetDrained
  refine pIte (P := Carries o) ?_ ?_
  · exact h1
  · extract_lets +onlyGivenNames v1
    extract_lets +onlyGivenNames v2
    extract_lets +onlyGivenNames v3
    extract_lets +onlyGivenNames v4
    extract_lets +onlyGivenNames v5
    have h6 : Carries o v5 := by
      unfold v5
      exact carriesMk h1 rfl rfl rfl rfl
    clear_value v5
    extract_lets +onlyGivenNames v7
    have h8 : Carries o v7 := by
      unfold v7
      exact State.bumpFld_carries h6
    clear_value v7
    exact State.eventBit_carries h8

theorem pcieLinkUp_carries {o : State} {s : State} {link : Nat} {width : Nat} {rate : Nat} (h1 : Carries o s) :
    Carries o (pcieLinkUp s link width rate) := by
  unfold pcieLinkUp
  refine pIte (P := Carries o) ?_ ?_
  · exact h1
  · extract_lets +onlyGivenNames v1
    extract_lets +onlyGivenNames v2
    extract_lets +onlyGivenNames v3
    have h4 : Carries o v3 := by
      unfold v3
      exact carriesMk h1 rfl rfl rfl rfl
    clear_value v3
    split
    · rename_i x5 e6
      exact h4
    · rename_i x7 x8 e9
      exact State.setAll_carries h4

end Sys2Proof.Machine
end

