-- ==== Sys2Proof/Laws/CarrySupervise.lean ====
section
/-! SUPPORT. What the operations of Supervise, Alu, Flow, PumpPorts carry from state to state. -/

namespace Sys2Proof.Machine

open Sys2Proof

/-! ### Supervise -/

theorem State.allBack_carries {o : State} {s : State} (h1 : Carries o s) : Carries o (State.allBack s) := by
  unfold State.allBack
  extract_lets +onlyGivenNames v1
  have h2 : Carries o v1 := by
    unfold v1
    exact State.switchReturn_carries h1
  clear_value v1
  extract_lets +onlyGivenNames v3
  have h4 : Carries o v3 := by
    unfold v3
    exact pIte (P := Carries o) (State.testEnds_carries h2) h2
  clear_value v3
  extract_lets +onlyGivenNames v5
  have h6 : Carries o v5 := by
    unfold v5
    split
    · rename_i x7 e8
      exact h4
    · rename_i x9 x10 e11
      exact pIte (P := Carries o) (State.sessionDone_carries h4) h4
  clear_value v5
  extract_lets +onlyGivenNames v12
  have h13 : Carries o v12 := by
    unfold v12
    exact pIte (P := Carries o) (State.schedule_carries (State.enterState_carries h6)) h6
  clear_value v12
  exact State.wearCheck_carries (State.takeFailedOut_carries h13)

theorem State.basinIsOut_carries {o : State} {s : State} {map : Nat} {basin : Nat} {why : Nat} (h1 : Carries o s) :
    Carries o (State.basinIsOut s map basin why) := by
  unfold State.basinIsOut
  extract_lets +onlyGivenNames v1
  have h2 : Carries o v1 := by
    unfold v1
    exact State.switchLeave_carries h1
  clear_value v1
  refine pIte (P := Carries o) ?_ ?_
  · exact State.setPerm_carries h2
  · refine pIte (P := Carries o) ?_ ?_
    · extract_lets +onlyGivenNames v3
      have h4 : Carries o v3 := by
        unfold v3
        exact State.wr_carries (State.plannedSwaps_carries h2)
      clear_value v3
      exact State.switchBegin_carries h4
    · refine pIte (P := Carries o) ?_ ?_
      · refine pIte (P := Carries o) ?_ ?_
        · exact State.switchBegin_carries h2
        · exact State.wr_carries (State.scanBegin_carries (State.saveBasin_carries h2))
      · refine pIte (P := Carries o) ?_ ?_
        · split
          · rename_i x5 e6
            exact h2
          · rename_i x7 x8 e9
            refine pIte (P := Carries o) ?_ ?_
            · exact State.sessionStart_carries h2
            · exact pIte (P := Carries o) (State.sessionReturn_carries (State.saveBasin_carries h2)) h2
        · exact h2

theorem State.quadDown_carries {o : State} {s : State} {q : Nat} (h1 : Carries o s) : Carries o (State.quadDown s q)
    := by
  unfold State.quadDown
  refine pFoldl (P := Carries o) ?_ ?_
  · exact h1
  · intro s1 x2 h3
    refine pIte (P := Carries o) ?_ ?_
    · split
      · rename_i x4 x5 s6 e7
        have h8 := Carries2.of (o := o) ?_ e7
        rotate_left
        · exact State.free_carries h3
        exact portLinkDown_carries h8
    · exact h3

theorem State.islCmd_carries {o : State} {s : State} {isl : Nat} (h1 : Carries o s) : Carries o (State.islCmd s isl)
    := by
  unfold State.islCmd
  extract_lets +onlyGivenNames v1
  have h2 : Carries o v1 := by
    unfold v1
    exact State.wr_carries h1
  clear_value v1
  extract_lets +onlyGivenNames v3
  refine pIte (P := Carries o) ?_ ?_
  · unfold v3
    exact State.wr_carries h2
  · refine pIte (P := Carries o) ?_ ?_
    · unfold v3
      exact State.wr_carries h2
    · extract_lets +onlyGivenNames v4
      have h5 : Carries o v4 := by
        unfold v4
        exact State.bump_carries (State.flushIsland_carries (State.setInReset_carries h2))
      clear_value v4
      extract_lets +onlyGivenNames v6
      have h7 : Carries o v6 := by
        unfold v6
        exact pIte (P := Carries o) (State.quadDown_carries h5) (pcieLinkReset_carries h5)
      clear_value v6
      unfold v3
      exact State.wr_carries h7

theorem xngIslReset_carries {o : State} {s : State} {part : Nat} {isl : Nat} (h1 : Carries o s) : Carries o
    (xngIslReset s part isl) := by
  unfold xngIslReset
  exact pIte (P := Carries o) h1 (State.islCmd_carries h1)

theorem State.mistEntered_carries {o : State} {s : State} (h1 : Carries o s) : Carries o (State.mistEntered s) := by
  unfold State.mistEntered
  extract_lets +onlyGivenNames v1
  extract_lets +onlyGivenNames v2
  have h3 : Carries o v2 := by
    unfold v2
    refine pFoldl (P := Carries o) ?_ ?_
    · exact h1
    · intro s4 x5 h6
      exact State.basinPowerDown_carries h6
  clear_value v2
  extract_lets +onlyGivenNames v7
  extract_lets +onlyGivenNames v8
  have h9 : Carries o v8 := by
    unfold v8
    exact carriesMk h3 rfl rfl rfl rfl
  clear_value v8
  exact State.restCes_carries (State.enterState_carries (State.switchDone_carries h9))

theorem basinSwitchFinish_carries {o : State} {s : State} (h1 : Carries o s) : Carries o (basinSwitchFinish s) := by
  unfold basinSwitchFinish
  split
  · rename_i x1 e2
    exact h1
  · rename_i x3 x4 x5 x6 e7
    refine pIte (P := Carries o) ?_ ?_
    · exact h1
    · refine pIte (P := Carries o) ?_ ?_
      · exact State.mistEntered_carries h1
      · exact pIte (P := Carries o) (State.basinIsOut_carries h1) (State.allBack_carries h1)

theorem dispatch_carries {o : State} {s : State} {t : Nat} (h1 : Carries o s) : Carries o (dispatch s t) := by
  unfold dispatch
  split
  · rename_i x1 e2
    exact dropletDispatch_carries h1
  · rename_i x3 x4 e5
    exact pIte (P := Carries o) (State.replayHand_carries h1) (dropletDispatch_carries h1)

theorem engineFails_carries {o : State} {s : State} {e : Nat} (h1 : Carries o s) : Carries o (engineFails s e) := by
  unfold engineFails
  extract_lets +onlyGivenNames v1
  have h2 : Carries o v1 := by
    unfold v1
    exact engineFailNoSpare_carries h1
  clear_value v1
  extract_lets +onlyGivenNames v3
  exact pIte (P := Carries o) (State.testAbort_carries h2) h2

/-! ### Alu -/

theorem State.aluOp_carries {o : State} {s : State} {t : Nat} {n : Nat} {f : W32 → W32} {cy : W32 → Bool} (h1 :
    Carries o s) : Carries1 o (State.aluOp s t n f cy) := by
  unfold State.aluOp
  extract_lets +onlyGivenNames v1
  exact Carries1.mk (State.startOp_carries h1)

theorem State.bitOp_carries {o : State} {s : State} {t : Nat} {v : W32} (h1 : Carries o s) : Carries1 o (State.bitOp s
    t v) := by
  unfold State.bitOp
  exact Carries1.mk (State.startOp_carries h1)

theorem aluAdd_carries {o : State} {s : State} {t : Nat} {n : Nat} {x : W32} (h1 : Carries o s) : Carries1 o (aluAdd s
    t n x) := by
  unfold aluAdd
  exact State.aluOp_carries h1

theorem aluSub_carries {o : State} {s : State} {t : Nat} {n : Nat} {x : W32} (h1 : Carries o s) : Carries1 o (aluSub s
    t n x) := by
  unfold aluSub
  exact State.aluOp_carries h1

theorem aluAnd_carries {o : State} {s : State} {t : Nat} {n : Nat} {x : W32} (h1 : Carries o s) : Carries1 o (aluAnd s
    t n x) := by
  unfold aluAnd
  exact State.aluOp_carries h1

theorem aluOr_carries {o : State} {s : State} {t : Nat} {n : Nat} {x : W32} (h1 : Carries o s) : Carries1 o (aluOr s t
    n x) := by
  unfold aluOr
  exact State.aluOp_carries h1

theorem aluXor_carries {o : State} {s : State} {t : Nat} {n : Nat} {x : W32} (h1 : Carries o s) : Carries1 o (aluXor s
    t n x) := by
  unfold aluXor
  exact State.aluOp_carries h1

theorem aluAndn_carries {o : State} {s : State} {t : Nat} {n : Nat} {x : W32} (h1 : Carries o s) : Carries1 o (aluAndn
    s t n x) := by
  unfold aluAndn
  exact State.aluOp_carries h1

theorem aluShl_carries {o : State} {s : State} {t : Nat} {n : Nat} {x : W32} (h1 : Carries o s) : Carries1 o (aluShl s
    t n x) := by
  unfold aluShl
  exact State.aluOp_carries h1

theorem aluShr_carries {o : State} {s : State} {t : Nat} {n : Nat} {x : W32} (h1 : Carries o s) : Carries1 o (aluShr s
    t n x) := by
  unfold aluShr
  exact State.aluOp_carries h1

theorem aluSar_carries {o : State} {s : State} {t : Nat} {n : Nat} {x : W32} (h1 : Carries o s) : Carries1 o (aluSar s
    t n x) := by
  unfold aluSar
  exact State.aluOp_carries h1

theorem aluRotl_carries {o : State} {s : State} {t : Nat} {n : Nat} {x : W32} (h1 : Carries o s) : Carries1 o (aluRotl
    s t n x) := by
  unfold aluRotl
  exact State.aluOp_carries h1

theorem aluMin_carries {o : State} {s : State} {t : Nat} {n : Nat} {x : W32} (h1 : Carries o s) : Carries1 o (aluMin s
    t n x) := by
  unfold aluMin
  exact State.aluOp_carries h1

theorem aluMax_carries {o : State} {s : State} {t : Nat} {n : Nat} {x : W32} (h1 : Carries o s) : Carries1 o (aluMax s
    t n x) := by
  unfold aluMax
  exact State.aluOp_carries h1

theorem aluMinu_carries {o : State} {s : State} {t : Nat} {n : Nat} {x : W32} (h1 : Carries o s) : Carries1 o (aluMinu
    s t n x) := by
  unfold aluMinu
  exact State.aluOp_carries h1

theorem aluMaxu_carries {o : State} {s : State} {t : Nat} {n : Nat} {x : W32} (h1 : Carries o s) : Carries1 o (aluMaxu
    s t n x) := by
  unfold aluMaxu
  exact State.aluOp_carries h1

theorem aluMov_carries {o : State} {s : State} {t : Nat} {n : Nat} {x : W32} (h1 : Carries o s) : Carries1 o (aluMov s
    t n x) := by
  unfold aluMov
  exact State.aluOp_carries h1

theorem State.fieldOp_carries {o : State} {s : State} {t : Nat} {x : W32} {v : W32} (h1 : Carries o s) : Carries1 o
    (State.fieldOp s t x v) := by
  unfold State.fieldOp
  exact pIte (P := Carries1 o) (State.bitOp_carries h1) (Carries1.mk h1)

theorem bitExtu_carries {o : State} {s : State} {t : Nat} {x : W32} (h1 : Carries o s) : Carries1 o (bitExtu s t x) :=
    by
  unfold bitExtu
  exact State.fieldOp_carries h1

theorem bitExts_carries {o : State} {s : State} {t : Nat} {x : W32} (h1 : Carries o s) : Carries1 o (bitExts s t x) :=
    by
  unfold bitExts
  exact State.fieldOp_carries h1

theorem bitIns_carries {o : State} {s : State} {t : Nat} {x : W32} (h1 : Carries o s) : Carries1 o (bitIns s t x) :=
    by
  unfold bitIns
  exact State.fieldOp_carries h1

theorem bitClz_carries {o : State} {s : State} {t : Nat} {x : W32} (h1 : Carries o s) : Carries1 o (bitClz s t x) :=
    by
  unfold bitClz
  exact State.bitOp_carries h1

theorem bitCtz_carries {o : State} {s : State} {t : Nat} {x : W32} (h1 : Carries o s) : Carries1 o (bitCtz s t x) :=
    by
  unfold bitCtz
  exact State.bitOp_carries h1

theorem bitPopc_carries {o : State} {s : State} {t : Nat} {x : W32} (h1 : Carries o s) : Carries1 o (bitPopc s t x) :=
    by
  unfold bitPopc
  exact State.bitOp_carries h1

theorem bitBswap_carries {o : State} {s : State} {t : Nat} {x : W32} (h1 : Carries o s) : Carries1 o (bitBswap s t x)
    := by
  unfold bitBswap
  exact State.bitOp_carries h1

theorem bitBswap16_carries {o : State} {s : State} {t : Nat} {x : W32} (h1 : Carries o s) : Carries1 o (bitBswap16 s t
    x) := by
  unfold bitBswap16
  exact State.bitOp_carries h1

theorem bitBitrev_carries {o : State} {s : State} {t : Nat} {x : W32} (h1 : Carries o s) : Carries1 o (bitBitrev s t
    x) := by
  unfold bitBitrev
  exact State.bitOp_carries h1

theorem bitSext8_carries {o : State} {s : State} {t : Nat} {x : W32} (h1 : Carries o s) : Carries1 o (bitSext8 s t x)
    := by
  unfold bitSext8
  exact State.bitOp_carries h1

theorem bitSext16_carries {o : State} {s : State} {t : Nat} {x : W32} (h1 : Carries o s) : Carries1 o (bitSext16 s t
    x) := by
  unfold bitSext16
  exact State.bitOp_carries h1

theorem State.mulOp_carries {o : State} {s : State} {t : Nat} {v : W32 × W32} (h1 : Carries o s) : Carries1 o
    (State.mulOp s t v) := by
  unfold State.mulOp
  exact Carries1.mk (State.startOp_carries h1)

theorem mulMulu_carries {o : State} {s : State} {t : Nat} {x : W32} (h1 : Carries o s) : Carries1 o (mulMulu s t x) :=
    by
  unfold mulMulu
  exact State.mulOp_carries h1

theorem mulMuls_carries {o : State} {s : State} {t : Nat} {x : W32} (h1 : Carries o s) : Carries1 o (mulMuls s t x) :=
    by
  unfold mulMuls
  exact State.mulOp_carries h1

theorem State.divOp_carries {o : State} {s : State} {t : Nat} {x : W32} {f : W32 → W32 → W32 × W32} (h1 : Carries o s)
    : Carries1 o (State.divOp s t x f) := by
  unfold State.divOp
  extract_lets +onlyGivenNames v1
  exact pIte (P := Carries1 o) (Carries1.mk (State.startOp_carries h1)) (State.mulOp_carries h1)

theorem mulDivu_carries {o : State} {s : State} {t : Nat} {x : W32} (h1 : Carries o s) : Carries1 o (mulDivu s t x) :=
    by
  unfold mulDivu
  exact State.divOp_carries h1

theorem mulDivs_carries {o : State} {s : State} {t : Nat} {x : W32} (h1 : Carries o s) : Carries1 o (mulDivs s t x) :=
    by
  unfold mulDivs
  exact State.divOp_carries h1

theorem State.cmpOp_carries {o : State} {s : State} {t : Nat} {f : W32 → Bool} (h1 : Carries o s) : Carries1 o
    (State.cmpOp s t f) := by
  unfold State.cmpOp
  extract_lets +onlyGivenNames v1
  extract_lets +onlyGivenNames v2
  refine pIte (P := Carries1 o) ?_ ?_
  · exact Carries1.mk h1
  · extract_lets +onlyGivenNames v3
    have h4 : Carries o v3 := by
      unfold v3
      exact State.startOp_carries h1
    clear_value v3
    exact pIte (P := Carries1 o) (Carries1.mk h4) (Carries1.mk (State.updThread_carries h4))

theorem cmpEq_carries {o : State} {s : State} {t : Nat} {x : W32} (h1 : Carries o s) : Carries1 o (cmpEq s t x) := by
  unfold cmpEq
  exact State.cmpOp_carries h1

theorem cmpNe_carries {o : State} {s : State} {t : Nat} {x : W32} (h1 : Carries o s) : Carries1 o (cmpNe s t x) := by
  unfold cmpNe
  exact State.cmpOp_carries h1

theorem cmpLt_carries {o : State} {s : State} {t : Nat} {x : W32} (h1 : Carries o s) : Carries1 o (cmpLt s t x) := by
  unfold cmpLt
  exact State.cmpOp_carries h1

theorem cmpLe_carries {o : State} {s : State} {t : Nat} {x : W32} (h1 : Carries o s) : Carries1 o (cmpLe s t x) := by
  unfold cmpLe
  exact State.cmpOp_carries h1

theorem cmpGt_carries {o : State} {s : State} {t : Nat} {x : W32} (h1 : Carries o s) : Carries1 o (cmpGt s t x) := by
  unfold cmpGt
  exact State.cmpOp_carries h1

theorem cmpGe_carries {o : State} {s : State} {t : Nat} {x : W32} (h1 : Carries o s) : Carries1 o (cmpGe s t x) := by
  unfold cmpGe
  exact State.cmpOp_carries h1

theorem cmpLtu_carries {o : State} {s : State} {t : Nat} {x : W32} (h1 : Carries o s) : Carries1 o (cmpLtu s t x) :=
    by
  unfold cmpLtu
  exact State.cmpOp_carries h1

theorem cmpLeu_carries {o : State} {s : State} {t : Nat} {x : W32} (h1 : Carries o s) : Carries1 o (cmpLeu s t x) :=
    by
  unfold cmpLeu
  exact State.cmpOp_carries h1

theorem cmpGtu_carries {o : State} {s : State} {t : Nat} {x : W32} (h1 : Carries o s) : Carries1 o (cmpGtu s t x) :=
    by
  unfold cmpGtu
  exact State.cmpOp_carries h1

theorem cmpGeu_carries {o : State} {s : State} {t : Nat} {x : W32} (h1 : Carries o s) : Carries1 o (cmpGeu s t x) :=
    by
  unfold cmpGeu
  exact State.cmpOp_carries h1

theorem cmpTst_carries {o : State} {s : State} {t : Nat} {x : W32} (h1 : Carries o s) : Carries1 o (cmpTst s t x) :=
    by
  unfold cmpTst
  exact State.cmpOp_carries h1

/-! ### Flow -/

theorem State.advancePc_carries {o : State} {s : State} {t : Nat} (h1 : Carries o s) : Carries o (State.advancePc s t)
    := by
  unfold State.advancePc
  exact State.updThread_carries h1

theorem State.jumpTo_carries {o : State} {s : State} {t : Nat} {target : Nat} (h1 : Carries o s) : Carries o
    (State.jumpTo s t target) := by
  unfold State.jumpTo
  exact State.updThread_carries h1

theorem pcJump_carries {o : State} {s : State} {t : Nat} {x : W32} (h1 : Carries o s) : Carries1 o (pcJump s t x) :=
    by
  unfold pcJump
  exact pIte (P := Carries1 o) (Carries1.mk h1) (Carries1.mk (State.jumpTo_carries h1))

theorem pcBr_carries {o : State} {s : State} {t : Nat} {x : W32} (h1 : Carries o s) : Carries1 o (pcBr s t x) := by
  unfold pcBr
  extract_lets +onlyGivenNames v1
  extract_lets +onlyGivenNames v2
  refine pIte (P := Carries1 o) ?_ ?_
  · exact pIte (P := Carries1 o) (Carries1.mk h1) (Carries1.mk (State.jumpTo_carries h1))
  · exact Carries1.mk (State.jumpTo_carries h1)

theorem pcCall_carries {o : State} {s : State} {t : Nat} {x : W32} (h1 : Carries o s) : Carries1 o (pcCall s t x) :=
    by
  unfold pcCall
  extract_lets +onlyGivenNames v1
  extract_lets +onlyGivenNames v2
  refine pIte (P := Carries1 o) ?_ ?_
  · exact Carries1.mk h1
  · refine pIte (P := Carries1 o) ?_ ?_
    · exact Carries1.mk (State.jumpTo_carries (State.updThread_carries h1))
    · refine pIte (P := Carries1 o) ?_ ?_
      · exact Carries1.mk h1
      · exact Carries1.mk (State.jumpTo_carries (State.updThread_carries h1))

theorem pcRet_carries {o : State} {s : State} {t : Nat} (h1 : Carries o s) : Carries1 o (pcRet s t) := by
  unfold pcRet
  extract_lets +onlyGivenNames v1
  refine pIte (P := Carries1 o) ?_ ?_
  · extract_lets +onlyGivenNames v2
    exact pIte (P := Carries1 o) (Carries1.mk h1) (Carries1.mk (State.jumpTo_carries h1))
  · split
    · rename_i x3 e4
      exact Carries1.mk h1
    · rename_i x5 x6 x7 e8
      exact Carries1.mk (State.jumpTo_carries (State.updThread_carries h1))

theorem pcHalt_carries {o : State} {s : State} {t : Nat} (h1 : Carries o s) : Carries1 o (pcHalt s t) := by
  unfold pcHalt
  refine pIte (P := Carries1 o) ?_ ?_
  · exact Carries1.mk h1
  · refine pIte (P := Carries1 o) ?_ ?_
    · exact Carries1.mk (State.park_carries h1)
    · exact Carries1.mk (State.updThread_carries h1)

theorem lpBegin_carries {o : State} {s : State} {t : Nat} {x : W32} (h1 : Carries o s) : Carries1 o (lpBegin s t x) :=
    by
  unfold lpBegin
  extract_lets +onlyGivenNames v1
  extract_lets +onlyGivenNames v2
  extract_lets +onlyGivenNames v3
  refine pIte (P := Carries1 o) ?_ ?_
  · exact Carries1.mk h1
  · refine pIte (P := Carries1 o) ?_ ?_
    · exact Carries1.mk h1
    · refine pIte (P := Carries1 o) ?_ ?_
      · exact Carries1.mk (State.updThread_carries h1)
      · exact Carries1.mk (State.updThread_carries h1)

theorem lpBrk_carries {o : State} {s : State} {t : Nat} (h1 : Carries o s) : Carries1 o (lpBrk s t) := by
  unfold lpBrk
  split
  · rename_i x1 e2
    exact Carries1.mk h1
  · rename_i x3 x4 x5 e6
    exact Carries1.mk (State.updThread_carries h1)

theorem cxEret_carries {o : State} {s : State} {c : Nat} {x : W32} (h1 : Carries o s) : Carries1 o (cxEret s c x) :=
    by
  unfold cxEret
  exact pIte (P := Carries1 o) (Carries1.mk h1) (Carries1.mk (State.updThread_carries h1))

/-! ### PumpPorts -/

theorem State.yieldCe_carries {o : State} {s : State} {c : Nat} (h1 : Carries o s) : Carries o (State.yieldCe s c) :=
    by
  unfold State.yieldCe
  extract_lets +onlyGivenNames v1
  exact State.select_carries (State.makeReady_carries (State.leaveCe_carries h1))

theorem pmpYield_carries {o : State} {s : State} {c : Nat} (h1 : Carries o s) : Carries1 o (pmpYield s c) := by
  unfold pmpYield
  exact Carries1.mk (State.yieldCe_carries (State.startOp_carries h1))

theorem pmpWait_carries {o : State} {s : State} {c : Nat} {x : Nat} (h1 : Carries o s) : Carries1 o (pmpWait s c x) :=
    by
  unfold pmpWait
  extract_lets +onlyGivenNames v1
  extract_lets +onlyGivenNames v2
  extract_lets +onlyGivenNames v3
  extract_lets +onlyGivenNames v4
  extract_lets +onlyGivenNames v5
  refine pIte (P := Carries1 o) ?_ ?_
  · refine pIte (P := Carries1 o) ?_ ?_
    · exact pmpYield_carries h1
    · exact Carries1.mk (State.blockCe_carries (State.putOp_carries h1))
  · refine pIte (P := Carries1 o) ?_ ?_
    · exact Carries1.mk (State.startOp_carries (State.setDesc_carries h1))
    · exact Carries1.mk (State.blockCe_carries (State.putOp_carries h1))

theorem pmpPost_carries {o : State} {s : State} {c : Nat} {x : Nat} (h1 : Carries o s) : Carries1 o (pmpPost s c x) :=
    by
  unfold pmpPost
  extract_lets +onlyGivenNames v1
  refine pIte (P := Carries1 o) ?_ ?_
  · exact Carries1.mk (State.startOp_carries h1)
  · exact Carries1.mk (State.startOp_carries (State.post_carries h1))

theorem State.descWrite_carries {o : State} {s : State} {d : Nat} {n : Nat} {x : Nat} (h1 : Carries o s) : CarriesO o
    (State.descWrite s d n x) := by
  unfold State.descWrite
  extract_lets +onlyGivenNames v1
  split
  · rename_i x2
    extract_lets +onlyGivenNames v3
    extract_lets +onlyGivenNames v4
    exact pIte (P := CarriesO o) CarriesO.none (CarriesO.some (State.setEff_carries (State.setDesc_carries h1)))
  · rename_i x5
    refine pIte (P := CarriesO o) ?_ ?_
    · exact CarriesO.none
    · exact pIte (P := CarriesO o) (CarriesO.some (State.setDesc_carries h1)) (CarriesO.some h1)
  · rename_i x6 e7 e8
    exact CarriesO.some h1

theorem pmpDwr_carries {o : State} {s : State} {c : Nat} {x : Nat} (h1 : Carries o s) : Carries1 o (pmpDwr s c x) :=
    by
  unfold pmpDwr
  extract_lets +onlyGivenNames v1
  split
  · rename_i x2 e3
    exact Carries1.mk (State.startOp_carries h1)
  · rename_i x5 s6 e7
    have h8 := CarriesO.of (o := o) ?_ e7
    rotate_left
    · exact State.descWrite_carries h1
    exact Carries1.mk (State.startOp_carries h8)

theorem pmpDrd_carries {o : State} {s : State} {c : Nat} {x : Nat} (h1 : Carries o s) : Carries1 o (pmpDrd s c x) :=
    by
  unfold pmpDrd
  extract_lets +onlyGivenNames v1
  exact Carries1.mk (State.startOp_carries h1)

theorem pmpStart_carries {o : State} {s : State} {c : Nat} {x : Nat} (h1 : Carries o s) : Carries1 o (pmpStart s c x)
    := by
  unfold pmpStart
  extract_lets +onlyGivenNames v1
  refine pIte (P := Carries1 o) ?_ ?_
  · exact Carries1.mk (State.startOp_carries h1)
  · refine pIte (P := Carries1 o) ?_ ?_
    · exact Carries1.mk (State.startOp_carries h1)
    · exact Carries1.mk (State.startOp_carries (State.startDesc_carries h1))

theorem State.freeDesc_carries {o : State} {s : State} {d : Nat} (h1 : Carries o s) : Carries o (State.freeDesc s d)
    := by
  unfold State.freeDesc
  extract_lets +onlyGivenNames v1
  have h2 : Carries o v1 := by
    unfold v1
    exact State.undelay_carries (State.unready_carries h1)
  clear_value v1
  extract_lets +onlyGivenNames v3
  have h4 : Carries o v3 := by
    unfold v3
    exact State.loseRequester_carries h2
  clear_value v3
  extract_lets +onlyGivenNames v5
  have h6 : Carries o v5 := by
    unfold v5
    exact State.reclaimDesc_carries h4
  clear_value v5
  extract_lets +onlyGivenNames v7
  exact State.setDesc_carries h6

theorem pmpDel_carries {o : State} {s : State} {c : Nat} {x : Nat} (h1 : Carries o s) : Carries1 o (pmpDel s c x) :=
    by
  unfold pmpDel
  extract_lets +onlyGivenNames v1
  refine pIte (P := Carries1 o) ?_ ?_
  · exact Carries1.mk (State.startOp_carries h1)
  · refine pIte (P := Carries1 o) ?_ ?_
    · extract_lets +onlyGivenNames v2
      extract_lets +onlyGivenNames v3
      have h4 : Carries o v3 := by
        unfold v3
        exact State.setCe_carries (State.setThread_carries h1)
      clear_value v3
      exact Carries1.mk (State.select_carries (State.freeDesc_carries h4))
    · refine pIte (P := Carries1 o) ?_ ?_
      · exact Carries1.mk (State.startOp_carries h1)
      · exact Carries1.mk (State.startOp_carries (State.freeDesc_carries h1))

theorem pmpSend_carries {o : State} {s : State} {c : Nat} {x : Nat} (h1 : Carries o s) : Carries1 o (pmpSend s c x) :=
    by
  unfold pmpSend
  extract_lets +onlyGivenNames v1
  extract_lets +onlyGivenNames v2
  refine pIte (P := Carries1 o) ?_ ?_
  · exact Carries1.mk (State.startOp_carries h1)
  · refine pIte (P := Carries1 o) ?_ ?_
    · exact Carries1.mk (State.startOp_carries h1)
    · refine pIte (P := Carries1 o) ?_ ?_
      · exact Carries1.mk (State.startOp_carries h1)
      · extract_lets +onlyGivenNames v3
        extract_lets +onlyGivenNames v4
        have h5 : Carries o v4 := by
          unfold v4
          exact State.setEvent_carries (State.updThread_carries h1)
        clear_value v4
        exact Carries1.mk (State.startOp_carries (State.stillCheck_carries h5))

theorem pmpCeRestart_carries {o : State} {s : State} {p : Nat} {c : Nat} (h1 : Carries o s) : Carries o (pmpCeRestart
    s p c) := by
  unfold pmpCeRestart
  refine pIte (P := Carries o) ?_ ?_
  · exact h1
  · extract_lets +onlyGivenNames v1
    have h2 : Carries o v1 := by
      unfold v1
      exact State.wr_carries h1
    clear_value v1
    refine pIte (P := Carries o) ?_ ?_
    · exact State.wr_carries h2
    · exact State.schedule_carries (State.select_carries (State.setCe_carries (State.wr_carries h2)))

theorem pmpPostWrite_carries {o : State} {s : State} {p : Nat} {v : Nat} (h1 : Carries o s) : Carries o (pmpPostWrite
    s p v) := by
  unfold pmpPostWrite
  refine pIte (P := Carries o) ?_ ?_
  · exact h1
  · extract_lets +onlyGivenNames v1
    extract_lets +onlyGivenNames v2
    extract_lets +onlyGivenNames v3
    have h4 : Carries o v3 := by
      unfold v3
      exact State.setFld_carries h1
    clear_value v3
    refine pIte (P := Carries o) ?_ ?_
    · exact h4
    · extract_lets +onlyGivenNames v5
      extract_lets +onlyGivenNames v6
      refine pIte (P := Carries o) ?_ ?_
      · unfold v5
        exact State.setFld_carries h4
      · refine pIte (P := Carries o) ?_ ?_
        · unfold v5
          exact State.setFld_carries h4
        · refine pIte (P := Carries o) ?_ ?_
          · unfold v5
            exact State.setFld_carries (State.bump_carries h4)
          · unfold v5
            exact State.setFld_carries (State.post_carries h4)

theorem pmpDescRead_carries {o : State} {s : State} {p : Nat} (h1 : Carries o s) : Carries o (pmpDescRead s p) := by
  unfold pmpDescRead
  refine pIte (P := Carries o) ?_ ?_
  · exact h1
  · extract_lets +onlyGivenNames v1
    extract_lets +onlyGivenNames v2
    have h3 : Carries o v2 := by
      unfold v2
      exact State.setAll_carries h1
    clear_value v2
    exact State.emit_carries h3

theorem delayExpire_carries {o : State} {s : State} {d : Nat} (h1 : Carries o s) : Carries o (delayExpire s d) := by
  unfold delayExpire
  split
  · rename_i x1 e2
    exact h1
  · rename_i x3 x4 x5 x6 e7
    refine pIte (P := Carries o) ?_ ?_
    · exact h1
    · split
      · rename_i x8 e9
        extract_lets +onlyGivenNames v10
        have h11 : Carries o v10 := by
          unfold v10
          exact State.bump_carries h1
        clear_value v10
        extract_lets +onlyGivenNames v12
        have h13 : Carries o v12 := by
          unfold v12
          split
          · rename_i x14 e15
            exact h11
          · rename_i x16 x17 e18
            exact State.leaveQueue_carries h11
        clear_value v12
        exact State.schedule_carries (State.endDescWait_carries h13)
      · rename_i x19 e20
        exact State.schedule_carries (State.endDescWait_carries (State.bump_carries h1))
      · rename_i x21 e22
        exact State.schedule_carries (State.endDescWait_carries h1)
      · rename_i x23 e24 e25 e26
        exact State.schedule_carries (State.endDescWait_carries (State.bump_carries h1))

end Sys2Proof.Machine
end

