-- ==== Sys2Proof/Laws/CarryBundle.lean ====
section
/-! SUPPORT. What the operations of Bundle carry from state to state. -/

namespace Sys2Proof.Machine

open Sys2Proof

/-! ### Bundle -/

theorem State.ceBlocks_carries {o : State} {s : State} {t : Nat} (h1 : Carries o s) : Carries o (State.ceBlocks s t)
    := by
  unfold State.ceBlocks
  split
  · rename_i x1 e2
    exact h1
  · rename_i x3 x4 e5
    extract_lets +onlyGivenNames v6
    refine pIte (P := Carries o) ?_ ?_
    · exact h1
    · exact pIte (P := Carries o) (State.blockCe_carries h1) (pIte (P := Carries o) (State.blockCe_carries h1) h1)

theorem State.afterIssue_carries {o : State} {s : State} {t : Nat} (h1 : Carries o s) : Carries o (State.afterIssue s
    t) := by
  unfold State.afterIssue
  extract_lets +onlyGivenNames v1
  have h2 : Carries o v1 := by
    unfold v1
    exact State.ceBlocks_carries (State.settleFast_carries h1)
  clear_value v1
  extract_lets +onlyGivenNames v3
  have h4 : Carries o v3 := by
    unfold v3
    exact pIte (P := Carries o) (State.stillCheck_carries h2) h2
  clear_value v3
  exact State.schedule_carries h4

theorem State.ceFetch_carries {o : State} {s : State} {c : Nat} (h1 : Carries o s) : Carries2 o (State.ceFetch s c) :=
    by
  unfold State.ceFetch
  extract_lets +onlyGivenNames v1
  split
  · rename_i x2 x3 s4 e5
    have h6 := Carries2.of (o := o) ?_ e5
    rotate_left
    · exact State.translate_carries h1
    extract_lets +onlyGivenNames v7
    refine pIte (P := Carries2 o) ?_ ?_
    · exact Carries2.mk h6
    · refine pIte (P := Carries2 o) ?_ ?_
      · exact pIte (P := Carries2 o) (Carries2.mk h6) (Carries2.mk (State.miss_carries h6))
      · extract_lets +onlyGivenNames v8
        have h9 : Carries o v8 := by
          unfold v8
          exact State.bring_carries h6
        clear_value v8
        extract_lets +onlyGivenNames v10
        extract_lets +onlyGivenNames v11
        exact pIte (P := Carries2 o) (Carries2.mk h9) (Carries2.mk h9)
  · rename_i x12 x13 x14 s15 e16 e17
    have h18 := Carries2.of (o := o) ?_ e17
    rotate_left
    · exact State.translate_carries h1
    exact Carries2.mk h18

theorem State.noStep_carries {o : State} {s : State} {t : Nat} (h1 : Carries o s) : Carries o (State.noStep s t) := by
  unfold State.noStep
  exact pIte (P := Carries o) (State.updThread_carries h1) h1

theorem State.readPort_carries {o : State} {s : State} {t : Nat} {p : Nat} (h1 : Carries o s) : Carries2 o
    (State.readPort s t p) := by
  unfold State.readPort
  extract_lets +onlyGivenNames v1
  extract_lets +onlyGivenNames v2
  refine pIte (P := Carries2 o) ?_ ?_
  · exact Carries2.mk h1
  · refine pIte (P := Carries2 o) ?_ ?_
    · exact Carries2.mk h1
    · refine pIte (P := Carries2 o) ?_ ?_
      · exact Carries2.mk h1
      · refine pIte (P := Carries2 o) ?_ ?_
        · exact Carries2.mk h1
        · refine pIte (P := Carries2 o) ?_ ?_
          · split
            · rename_i x3 e4
              exact State.free_carries h1
            · rename_i x5 x6 e7
              exact Carries2.mk h1
          · refine pIte (P := Carries2 o) ?_ ?_
            · exact Carries2.mk h1
            · refine pIte (P := Carries2 o) ?_ ?_
              · exact Carries2.mk h1
              · refine pIte (P := Carries2 o) ?_ ?_
                · exact Carries2.mk h1
                · refine pIte (P := Carries2 o) ?_ ?_
                  · exact Carries2.mk h1
                  · refine pIte (P := Carries2 o) ?_ ?_
                    · exact Carries2.mk h1
                    · refine pIte (P := Carries2 o) ?_ ?_
                      · exact Carries2.mk h1
                      · refine pIte (P := Carries2 o) ?_ ?_
                        · exact Carries2.mk h1
                        · refine pIte (P := Carries2 o) ?_ ?_
                          · exact Carries2.mk h1
                          · refine pIte (P := Carries2 o) ?_ ?_
                            · exact Carries2.mk h1
                            · refine pIte (P := Carries2 o) ?_ ?_
                              · exact Carries2.mk h1
                              · refine pIte (P := Carries2 o) ?_ ?_
                                · exact Carries2.mk h1
                                · exact pIte (P := Carries2 o) (Carries2.mk h1) (pIte (P := Carries2 o) (Carries2.mk
                                    h1) (Carries2.mk h1))

theorem State.readMoves_carries {o : State} {a : State} {a1 : Nat} {a2 : List Move} (h1 : Carries o a) : Carries2 o
    (State.readMoves a a1 a2) := by
  induction a2 generalizing a a1
  · unfold State.readMoves
    exact Carries2.mk h1
  · rename_i n1 n2 ih3
    unfold State.readMoves
    split
    · rename_i x1 x2 s3 e4
      have h5 := Carries2.of (o := o) ?_ e4
      rotate_left
      · split
        · rename_i x6 x7 e8
          exact Carries2.mk h1
        · rename_i x9 x10 e11
          exact State.readPort_carries h1
      split
      · rename_i x12 x13 s14 e15
        have h16 := Carries2.of (o := o) ?_ e15
        rotate_left
        · apply ih3
          exact h5
        exact Carries2.mk h16

theorem State.landMoves_carries {o : State} {s : State} {t : Nat} {ms : List (Move × W32)} (h1 : Carries o s) :
    Carries o (State.landMoves s t ms) := by
  unfold State.landMoves
  exact State.updThread_carries h1

theorem State.flowTrig_carries {o : State} {s : State} {t : Nat} {p : Nat} {x : W32} (h1 : Carries o s) : Carries1 o
    (State.flowTrig s t p x) := by
  unfold State.flowTrig
  split
  · rename_i x1
    exact pcJump_carries h1
  · rename_i x2
    exact pcBr_carries h1
  · rename_i x3
    exact pcCall_carries h1
  · rename_i x4
    exact pcRet_carries h1
  · rename_i x5
    exact pIte (P := Carries1 o) (Carries1.mk h1) (pcHalt_carries h1)
  · rename_i x6
    exact lpBegin_carries h1
  · rename_i x7
    exact lpBrk_carries h1
  · rename_i x8 e9 e10 e11 e12 e13 e14 e15
    exact Carries1.mk h1

theorem State.trig_carries {o : State} {s : State} {t : Nat} {p : Nat} {v : W32} {f : State → Trig} (h1 : Carries o s)
    (h5 : ∀ y0, Carries o y0 → Carries1 o (f y0)) : Carries1 o (State.trig s t p v f) := by
  unfold State.trig
  split
  · rename_i x1 s2 x3 e4
    have h5 := Carries1.of (o := o) ?_ e4
    rotate_left
    · split
      · rename_i x6 x7 e8
        refine pIte (P := Carries1 o) ?_ ?_
        · refine State.replayTrig_carries ?_ ?_
          · exact h1
          · intro s9 h10
            apply h5
            exact h10
        · apply h5
          exact h1
      · rename_i x11 e12
        apply h5
        exact h1
    refine pIte (P := Carries1 o) ?_ ?_
    · exact Carries1.mk h5
    · split
      · rename_i x13 e14
        exact Carries1.mk h5
      · rename_i x15 x16 e17
        extract_lets +onlyGivenNames v18
        have h19 : Carries o v18 := by
          unfold v18
          exact pIte (P := Carries o) (State.hlpStaleAll_carries h5) h5
        clear_value v18
        split
        · rename_i x20 e21
          exact Carries1.mk h19
        · rename_i x22 x23 e24
          extract_lets +onlyGivenNames v25
          exact pIte (P := Carries1 o) (Carries1.mk (State.updThread_carries h19)) (Carries1.mk h19)

theorem trigAlu_carries {o : State} {s : State} {t : Nat} {n : Nat} {i : Nat} {x : W32} (h1 : Carries o s) : Carries1
    o (trigAlu s t n i x) := by
  unfold trigAlu
  split
  · rename_i x1
    exact aluAdd_carries h1
  · rename_i x2
    exact aluSub_carries h1
  · rename_i x3
    exact aluAnd_carries h1
  · rename_i x4
    exact aluOr_carries h1
  · rename_i x5
    exact aluXor_carries h1
  · rename_i x6
    exact aluAndn_carries h1
  · rename_i x7
    exact aluShl_carries h1
  · rename_i x8
    exact aluShr_carries h1
  · rename_i x9
    exact aluSar_carries h1
  · rename_i x10
    exact aluRotl_carries h1
  · rename_i x11
    exact aluMin_carries h1
  · rename_i x12
    exact aluMax_carries h1
  · rename_i x13
    exact aluMinu_carries h1
  · rename_i x14
    exact aluMaxu_carries h1
  · rename_i x15 e16 e17 e18 e19 e20 e21 e22 e23 e24 e25 e26 e27 e28 e29
    exact aluMov_carries h1

theorem trigBit_carries {o : State} {s : State} {t : Nat} {i : Nat} {x : W32} (h1 : Carries o s) : Carries1 o (trigBit
    s t i x) := by
  unfold trigBit
  split
  · rename_i x1
    exact bitExtu_carries h1
  · rename_i x2
    exact bitExts_carries h1
  · rename_i x3
    exact bitIns_carries h1
  · rename_i x4
    exact bitClz_carries h1
  · rename_i x5
    exact bitCtz_carries h1
  · rename_i x6
    exact bitPopc_carries h1
  · rename_i x7
    exact bitBswap_carries h1
  · rename_i x8
    exact bitBswap16_carries h1
  · rename_i x9
    exact bitBitrev_carries h1
  · rename_i x10
    exact bitSext8_carries h1
  · rename_i x11 e12 e13 e14 e15 e16 e17 e18 e19 e20 e21
    exact bitSext16_carries h1

theorem trigMul_carries {o : State} {s : State} {t : Nat} {i : Nat} {x : W32} (h1 : Carries o s) : Carries1 o (trigMul
    s t i x) := by
  unfold trigMul
  split
  · rename_i x1
    exact mulMulu_carries h1
  · rename_i x2
    exact mulMuls_carries h1
  · rename_i x3
    exact mulDivu_carries h1
  · rename_i x4 e5 e6 e7
    exact mulDivs_carries h1

theorem trigCmp_carries {o : State} {s : State} {t : Nat} {i : Nat} {x : W32} (h1 : Carries o s) : Carries1 o (trigCmp
    s t i x) := by
  unfold trigCmp
  split
  · rename_i x1
    exact cmpEq_carries h1
  · rename_i x2
    exact cmpNe_carries h1
  · rename_i x3
    exact cmpLt_carries h1
  · rename_i x4
    exact cmpLe_carries h1
  · rename_i x5
    exact cmpGt_carries h1
  · rename_i x6
    exact cmpGe_carries h1
  · rename_i x7
    exact cmpLtu_carries h1
  · rename_i x8
    exact cmpLeu_carries h1
  · rename_i x9
    exact cmpGtu_carries h1
  · rename_i x10
    exact cmpGeu_carries h1
  · rename_i x11 e12 e13 e14 e15 e16 e17 e18 e19 e20 e21
    exact cmpTst_carries h1

theorem trigLs_carries {o : State} {s : State} {t : Nat} {i : Nat} {x : Nat} (h1 : Carries o s) : Carries1 o (trigLs s
    t i x) := by
  unfold trigLs
  split
  · rename_i x1
    exact lsLoad_carries h1
  · rename_i x2
    exact lsLoad_carries h1
  · rename_i x3
    exact lsLoad_carries h1
  · rename_i x4
    exact lsLoad_carries h1
  · rename_i x5
    exact lsLoad_carries h1
  · rename_i x6
    exact lsLoad_carries h1
  · rename_i x7
    exact lsStore_carries h1
  · rename_i x8
    exact lsStore_carries h1
  · rename_i x9
    exact lsStore_carries h1
  · rename_i x10
    exact lsStore_carries h1
  · rename_i x11
    exact lsPf_carries h1
  · rename_i x12
    exact lsClean_carries h1
  · rename_i x13
    exact lsInv_carries h1
  · rename_i x14
    exact lsCinv_carries h1
  · rename_i x15 e16 e17 e18 e19 e20 e21 e22 e23 e24 e25 e26 e27 e28 e29
    exact lsFence_carries h1

theorem trigPw_carries {o : State} {s : State} {t : Nat} {i : Nat} {x : Nat} (h1 : Carries o s) : Carries1 o (trigPw s
    t i x) := by
  unfold trigPw
  split
  · rename_i x1
    exact pwLoad_carries h1
  · rename_i x2
    exact pwLoad_carries h1
  · rename_i x3
    exact pwLoad_carries h1
  · rename_i x4
    exact pwStore_carries h1
  · rename_i x5
    exact pwStore_carries h1
  · rename_i x6
    exact pwStore_carries h1
  · rename_i x7
    exact pwIns_carries h1
  · rename_i x8
    exact pwDel_carries h1
  · rename_i x9 e10 e11 e12 e13 e14 e15 e16 e17
    exact pwLen_carries h1

theorem trigDl_carries {o : State} {s : State} {t : Nat} {i : Nat} {x : Nat} (h1 : Carries o s) : Carries1 o (trigDl s
    t i x) := by
  unfold trigDl
  split
  · rename_i x1
    exact dlRd_carries h1
  · rename_i x2
    exact dlWr_carries h1
  · rename_i x3
    exact dlFlk_carries h1
  · rename_i x4
    exact dlKey_carries h1
  · rename_i x5
    exact dlLay_carries h1
  · rename_i x6 e7 e8 e9 e10 e11
    exact dlPinfo_carries h1

theorem trigTl_carries {o : State} {s : State} {t : Nat} {i : Nat} {x : Nat} (h1 : Carries o s) : Carries1 o (trigTl s
    t i x) := by
  unfold trigTl
  split
  · rename_i x1
    exact tlL2_carries h1
  · rename_i x2
    exact tlEp_carries h1
  · rename_i x3
    exact tlParam_carries h1
  · rename_i x4
    exact tlFind_carries h1
  · rename_i x5
    exact tlFind_carries h1
  · rename_i x6
    exact tlRead_carries h1
  · rename_i x7
    exact tlWrite_carries h1
  · rename_i x8 e9 e10 e11 e12 e13 e14 e15
    exact tlDelete_carries h1

theorem trigCh_carries {o : State} {s : State} {t : Nat} {i : Nat} {x : Nat} (h1 : Carries o s) : Carries1 o (trigCh s
    t i x) := by
  unfold trigCh
  split
  · rename_i x1
    exact chPut_carries h1
  · rename_i x2
    exact chPut_carries h1
  · rename_i x3
    exact chGet_carries h1
  · rename_i x4
    exact chCount_carries h1
  · rename_i x5
    exact chWatch_carries h1
  · rename_i x6 e7 e8 e9 e10 e11
    exact chUnwatch_carries h1

theorem trigLk_carries {o : State} {s : State} {t : Nat} {i : Nat} {x : Nat} (h1 : Carries o s) : Carries1 o (trigLk s
    t i x) := by
  unfold trigLk
  split
  · rename_i x1
    exact lkAcquire_carries h1
  · rename_i x2
    exact lkAcquire_carries h1
  · rename_i x3
    exact lkRelease_carries h1
  · rename_i x4
    exact lkCancel_carries h1
  · rename_i x5 e6 e7 e8 e9
    exact lkQuery_carries h1

theorem trigAt_carries {o : State} {s : State} {t : Nat} {i : Nat} {x : Nat} (h1 : Carries o s) : Carries1 o (trigAt s
    t i x) := by
  unfold trigAt
  extract_lets +onlyGivenNames v1
  split
  · rename_i x2 e3
    exact atAdd_carries h1
  · rename_i x4 e5
    exact atSub_carries h1
  · rename_i x6 e7
    exact atSwap_carries h1
  · rename_i x8 e9
    exact atCas_carries h1
  · rename_i x10 e11
    exact atAnd_carries h1
  · rename_i x12 e13
    exact atOr_carries h1
  · rename_i x14 e15
    exact atMin_carries h1
  · rename_i x16 e17 e18 e19 e20 e21 e22 e23
    exact atMax_carries h1

theorem trigEvt_carries {o : State} {s : State} {t : Nat} {i : Nat} {x : Nat} (h1 : Carries o s) : Carries1 o (trigEvt
    s t i x) := by
  unfold trigEvt
  split
  · rename_i x1
    exact evtWait_carries h1
  · rename_i x2
    exact evtClr_carries h1
  · rename_i x3
    exact evtSig_carries h1
  · rename_i x4 e5 e6 e7
    exact evtMget_carries h1

theorem trigTm_carries {o : State} {s : State} {t : Nat} {i : Nat} {x : Nat} (h1 : Carries o s) : Carries1 o (trigTm s
    t i x) := by
  unfold trigTm
  split
  · rename_i x1
    exact tmStart_carries h1
  · rename_i x2
    exact tmStop_carries h1
  · rename_i x3
    exact tmNow_carries h1
  · rename_i x4 e5 e6 e7
    exact tmNet_carries h1

theorem trigCs_carries {o : State} {s : State} {t : Nat} {i : Nat} {x : Nat} (h1 : Carries o s) : Carries1 o (trigCs s
    t i x) := by
  unfold trigCs
  split
  · rename_i x1
    exact csAlloc_carries h1
  · rename_i x2
    exact csFree_carries h1
  · rename_i x3
    exact csRef_carries h1
  · rename_i x4
    exact csAddr_carries h1
  · rename_i x5 e6 e7 e8 e9
    exact csInfo_carries h1

theorem trigWc_carries {o : State} {s : State} {t : Nat} {i : Nat} {x : Nat} (h1 : Carries o s) : Carries1 o (trigWc s
    t i x) := by
  unfold trigWc
  split
  · rename_i x1
    exact wcNext_carries h1
  · rename_i x2
    exact wcSend_carries h1
  · rename_i x3
    exact wcDry_carries h1
  · rename_i x4 e5 e6 e7
    exact wcRecirc_carries h1

theorem trigHlp_carries {o : State} {s : State} {t : Nat} {a2 : Nat} {i : Nat} {x : Nat} (h1 : Carries o s) : Carries1
    o (trigHlp s t a2 i x) := by
  unfold trigHlp
  split
  · rename_i x1
    exact hlpClaim_carries h1
  · rename_i x2
    exact hlpRel_carries h1
  · rename_i x3
    exact hlpWr_carries h1
  · rename_i x4
    exact hlpRd_carries h1
  · rename_i x5
    exact hlpOpAny_carries h1
  · rename_i x6 e7 e8 e9 e10 e11
    exact hlpFeed_carries h1

theorem trigSv_carries {o : State} {s : State} {t : Nat} {i : Nat} {x : Nat} (h1 : Carries o s) : Carries1 o (trigSv s
    t i x) := by
  unfold trigSv
  split
  · rename_i x1
    exact svInfo_carries h1
  · rename_i x2
    exact svGetreg_carries h1
  · rename_i x3
    exact svSetreg_carries h1
  · rename_i x4
    exact svHeld_carries h1
  · rename_i x5
    exact svResume_carries h1
  · rename_i x6
    exact svPark_carries h1
  · rename_i x7
    exact svAck_carries h1
  · rename_i x8 e9 e10 e11 e12 e13 e14 e15
    exact svReset_carries h1

theorem trigPmp_carries {o : State} {s : State} {c : Nat} {i : Nat} {x : Nat} (h1 : Carries o s) : Carries1 o (trigPmp
    s c i x) := by
  unfold trigPmp
  split
  · rename_i x1
    exact pmpWait_carries h1
  · rename_i x2
    exact pmpPost_carries h1
  · rename_i x3
    exact pmpYield_carries h1
  · rename_i x4
    exact pmpDwr_carries h1
  · rename_i x5
    exact pmpDrd_carries h1
  · rename_i x6
    exact pmpStart_carries h1
  · rename_i x7
    exact pmpDel_carries h1
  · rename_i x8 e9 e10 e11 e12 e13 e14 e15
    exact pmpSend_carries h1

theorem State.runTrig_carries {o : State} {s : State} {t : Nat} {p : Nat} {v : W32} (h1 : Carries o s) : Carries1 o
    (State.runTrig s t p v) := by
  unfold State.runTrig
  extract_lets +onlyGivenNames v1
  extract_lets +onlyGivenNames v2
  refine pIte (P := Carries1 o) ?_ ?_
  · exact trigAlu_carries h1
  · refine pIte (P := Carries1 o) ?_ ?_
    · exact trigAlu_carries h1
    · refine pIte (P := Carries1 o) ?_ ?_
      · exact trigBit_carries h1
      · refine pIte (P := Carries1 o) ?_ ?_
        · exact trigMul_carries h1
        · refine pIte (P := Carries1 o) ?_ ?_
          · exact trigCmp_carries h1
          · refine pIte (P := Carries1 o) ?_ ?_
            · exact trigLs_carries h1
            · refine pIte (P := Carries1 o) ?_ ?_
              · exact trigPw_carries h1
              · refine pIte (P := Carries1 o) ?_ ?_
                · exact trigDl_carries h1
                · refine pIte (P := Carries1 o) ?_ ?_
                  · exact trigTl_carries h1
                  · refine pIte (P := Carries1 o) ?_ ?_
                    · exact trigCh_carries h1
                    · refine pIte (P := Carries1 o) ?_ ?_
                      · exact trigLk_carries h1
                      · refine pIte (P := Carries1 o) ?_ ?_
                        · exact trigAt_carries h1
                        · refine pIte (P := Carries1 o) ?_ ?_
                          · exact trigEvt_carries h1
                          · refine pIte (P := Carries1 o) ?_ ?_
                            · exact trigTm_carries h1
                            · refine pIte (P := Carries1 o) ?_ ?_
                              · exact trigCs_carries h1
                              · refine pIte (P := Carries1 o) ?_ ?_
                                · exact trigWc_carries h1
                                · refine pIte (P := Carries1 o) ?_ ?_
                                  · exact pIte (P := Carries1 o) (sqOrig_carries h1) (sqDepth_carries h1)
                                  · refine pIte (P := Carries1 o) ?_ ?_
                                    · exact trigHlp_carries h1
                                    · refine pIte (P := Carries1 o) ?_ ?_
                                      · exact trigHlp_carries h1
                                      · refine pIte (P := Carries1 o) ?_ ?_
                                        · exact trigSv_carries h1
                                        · refine pIte (P := Carries1 o) ?_ ?_
                                          · exact pIte (P := Carries1 o) (dbgBrk_carries h1) (dbgMark_carries h1)
                                          · refine pIte (P := Carries1 o) ?_ ?_
                                            · exact cxTlbinv_carries h1
                                            · refine pIte (P := Carries1 o) ?_ ?_
                                              · exact cxTlbflush_carries h1
                                              · refine pIte (P := Carries1 o) ?_ ?_
                                                · exact trigPmp_carries h1
                                                · refine pIte (P := Carries1 o) ?_ ?_
                                                  · exact edgTx_carries h1
                                                  · refine pIte (P := Carries1 o) ?_ ?_
                                                    · exact edgRoom_carries h1
                                                    · refine pIte (P := Carries1 o) ?_ ?_
                                                      · exact edgTs_carries h1
                                                      · exact pIte (P := Carries1 o) (lkpForce_carries h1)
                                                          (lkpSetcount_carries h1)

theorem State.runMoves_carries {o : State} {a : State} {a1 : Nat} {a2 : List (Move × W32)} (h1 : Carries o a) :
    Carries2 o (State.runMoves a a1 a2) := by
  induction a2 generalizing a a1
  · unfold State.runMoves
    exact Carries2.mk h1
  · rename_i n1 n2 ih3
    unfold State.runMoves
    extract_lets +onlyGivenNames v1
    have h2 : Carries o v1 := by
      unfold v1
      split
      · rename_i x3 x4 e5
        exact pIte (P := Carries o) h1 (State.finishOp_carries h1)
      · rename_i x6 e7
        exact h1
    clear_value v1
    split
    · rename_i x8 s9 x10 e11
      have h12 := Carries1.of (o := o) ?_ e11
      rotate_left
      · refine State.trig_carries ?_ ?_
        · exact h2
        · intro s13 h14
          exact State.runTrig_carries h14
      split
      · rename_i x15 x16 s17 e18
        have h19 := Carries2.of (o := o) ?_ e18
        rotate_left
        · apply ih3
          exact h12
        exact Carries2.mk h19

theorem State.haltDesc_carries {o : State} {s : State} {d : Nat} (h1 : Carries o s) : Carries o (State.haltDesc s d)
    := by
  unfold State.haltDesc
  extract_lets +onlyGivenNames v1
  refine pIte (P := Carries o) ?_ ?_
  · extract_lets +onlyGivenNames v2
    have h3 : Carries o v2 := by
      unfold v2
      exact State.leaveCe_carries h1
    clear_value v2
    exact State.select_carries (State.rplEvent_carries (State.setDesc_carries h3))
  · exact State.rplEvent_carries (State.setDesc_carries (State.unready_carries h1))

theorem State.stepEnds_carries {o : State} {s : State} {t : Nat} {d : Nat} {was : Bool} (h1 : Carries o s) : Carries o
    (State.stepEnds s t d was) := by
  unfold State.stepEnds
  refine pIte (P := Carries o) ?_ ?_
  · exact h1
  · refine pIte (P := Carries o) ?_ ?_
    · exact pIte (P := Carries o) (State.haltThread_carries h1) h1
    · exact pIte (P := Carries o) (State.haltDesc_carries h1) h1

theorem State.runBundle_carries {o : State} {s : State} {t : Nat} {moves : List Move} (h1 : Carries o s) : Carries o
    (State.runBundle s t moves) := by
  unfold State.runBundle
  extract_lets +onlyGivenNames v1
  extract_lets +onlyGivenNames v2
  extract_lets +onlyGivenNames v3
  extract_lets +onlyGivenNames v4
  have h5 : Carries o v4 := by
    unfold v4
    exact State.noStep_carries h1
  clear_value v4
  split
  · rename_i x6 x7 s8 e9
    have h10 := Carries2.of (o := o) ?_ e9
    rotate_left
    · exact State.readMoves_carries h5
    extract_lets +onlyGivenNames v11
    have h12 : Carries o v11 := by
      unfold v11
      exact State.updThread_carries h10
    clear_value v11
    extract_lets +onlyGivenNames v13
    have h14 : Carries o v13 := by
      unfold v13
      exact State.landMoves_carries h12
    clear_value v13
    extract_lets +onlyGivenNames v15
    extract_lets +onlyGivenNames v16
    extract_lets +onlyGivenNames v17
    split
    · rename_i x18 s19 x20 e21
      have h22 := Carries1.of (o := o) ?_ e21
      rotate_left
      · clear_value v16
        split
        · rename_i x23
          have h24 := Carries1.of (o := o) ?_ e21
          rotate_left
          · split
            · rename_i x25 e26
              exact Carries1.mk (State.advancePc_carries h14)
            · rename_i x27 x28 x29 e30
              refine pIte (P := Carries1 o) ?_ ?_
              · exact State.flowTrig_carries h14
              · exact pIte (P := Carries1 o) (Carries1.mk h14) (State.flowTrig_carries h14)
          exact Carries1.mk (State.advancePc_carries h14)
        · rename_i x31 x32 x33
          have h34 := Carries1.of (o := o) ?_ e21
          rotate_left
          · split
            · rename_i x35 e36
              exact Carries1.mk (State.advancePc_carries h14)
            · rename_i x37 x38 x39 e40
              refine pIte (P := Carries1 o) ?_ ?_
              · exact State.flowTrig_carries h14
              · exact pIte (P := Carries1 o) (Carries1.mk h14) (State.flowTrig_carries h14)
          refine pIte (P := Carries1 o) ?_ ?_
          · exact State.flowTrig_carries h14
          · exact pIte (P := Carries1 o) (Carries1.mk h14) (State.flowTrig_carries h14)
      extract_lets +onlyGivenNames v41
      extract_lets +onlyGivenNames v42
      split
      · rename_i x43 x44 s45 e46
        have h47 := Carries2.of (o := o) ?_ e46
        rotate_left
        · exact State.runMoves_carries h22
        split
        · rename_i x48 s49 x50 e51
          have h52 := Carries1.of (o := o) ?_ e51
          rotate_left
          · clear_value v16
            split
            · rename_i x53 x54 x55
              have h56 := Carries1.of (o := o) ?_ e21
              rotate_left
              · split
                · rename_i x57 e58
                  exact Carries1.mk (State.advancePc_carries h14)
                · rename_i x59 x60 x61 e62
                  refine pIte (P := Carries1 o) ?_ ?_
                  · exact State.flowTrig_carries h14
                  · exact pIte (P := Carries1 o) (Carries1.mk h14) (State.flowTrig_carries h14)
              have h63 := Carries2.of (o := o) ?_ e46
              rotate_left
              · exact State.runMoves_carries h22
              have h64 := Carries1.of (o := o) ?_ e51
              rotate_left
              · split
                · rename_i x65 x66 x67 e68
                  refine pIte (P := Carries1 o) ?_ ?_
                  · exact State.flowTrig_carries h47
                  · exact pIte (P := Carries1 o) (cxEret_carries h47) (Carries1.mk h47)
                · rename_i x69 e70
                  exact Carries1.mk h47
              refine pIte (P := Carries1 o) ?_ ?_
              · exact State.flowTrig_carries h47
              · exact pIte (P := Carries1 o) (cxEret_carries h47) (Carries1.mk h47)
            · rename_i x71
              have h72 := Carries1.of (o := o) ?_ e21
              rotate_left
              · split
                · rename_i x73 e74
                  exact Carries1.mk (State.advancePc_carries h14)
                · rename_i x75 x76 x77 e78
                  refine pIte (P := Carries1 o) ?_ ?_
                  · exact State.flowTrig_carries h14
                  · exact pIte (P := Carries1 o) (Carries1.mk h14) (State.flowTrig_carries h14)
              have h79 := Carries2.of (o := o) ?_ e46
              rotate_left
              · exact State.runMoves_carries h22
              have h80 := Carries1.of (o := o) ?_ e51
              rotate_left
              · split
                · rename_i x81 x82 x83 e84
                  refine pIte (P := Carries1 o) ?_ ?_
                  · exact State.flowTrig_carries h47
                  · exact pIte (P := Carries1 o) (cxEret_carries h47) (Carries1.mk h47)
                · rename_i x85 e86
                  exact Carries1.mk h47
              exact Carries1.mk h47
          split
          · rename_i x87 x88 s89 e90
            have h91 := Carries2.of (o := o) ?_ e90
            rotate_left
            · exact State.runMoves_carries h52
            extract_lets +onlyGivenNames v92
            split
            · rename_i x93 x94 x95 e96
              extract_lets +onlyGivenNames v97
              extract_lets +onlyGivenNames v98
              have h99 : Carries o v98 := by
                unfold v98
                exact pIte (P := Carries o) (State.faultAt_carries (State.updThread_carries h91)) h91
              clear_value v98
              extract_lets +onlyGivenNames v100
              extract_lets +onlyGivenNames v101
              have h102 : Carries o v101 := by
                unfold v101
                exact pIte (P := Carries o) (State.park_carries h99) h99
              clear_value v101
              extract_lets +onlyGivenNames v103
              have h104 : Carries o v103 := by
                unfold v103
                refine pIte (P := Carries o) ?_ ?_
                · exact State.faultAt_carries h5
                · exact pIte (P := Carries o) (Carries2.snd (State.runMoves_carries h102)) h102
              clear_value v103
              exact State.afterIssue_carries (State.stepEnds_carries h104)

theorem State.issue_carries {o : State} {s : State} {t : Nat} {a : Plan} (h1 : Carries o s) : Carries o (State.issue s
    t a) := by
  unfold State.issue
  split
  · rename_i x1
    exact h1
  · rename_i x2 x3
    exact State.afterIssue_carries (State.fault_carries (State.updThread_carries (State.noStep_carries h1)))
  · rename_i x4 x5
    exact State.runBundle_carries h1

theorem State.ceIssue_carries {o : State} {s : State} {c : Nat} (h1 : Carries o s) : Carries o (State.ceIssue s c) :=
    by
  unfold State.ceIssue
  extract_lets +onlyGivenNames v1
  extract_lets +onlyGivenNames v2
  have h3 : Carries o v2 := by
    unfold v2
    exact State.settleFast_carries h1
  clear_value v2
  extract_lets +onlyGivenNames v4
  split
  · rename_i x5 s6 e7
    have h8 := Carries2.of (o := o) ?_ e7
    rotate_left
    · exact State.ceFetch_carries h3
    exact h8
  · rename_i x9 x10 x11 s12 e13
    have h14 := Carries2.of (o := o) ?_ e13
    rotate_left
    · exact State.ceFetch_carries h3
    refine pIte (P := Carries o) ?_ ?_
    · exact State.issue_carries h14
    · exact State.schedule_carries (State.ceFault_carries (State.noStep_carries h14))

theorem State.fileError_carries {o : State} {s : State} {t : Nat} {err : Option Bool} {p : Plan} (h1 : Carries o s) :
    Carries2 o (State.fileError s t err p) := by
  unfold State.fileError
  split
  · rename_i x1 x2 x3 x4
    refine pIte (P := Carries2 o) ?_ ?_
    · exact Carries2.mk h1
    · exact pIte (P := Carries2 o) (Carries2.mk h1) (Carries2.mk (State.eccEngine_carries h1))
  · rename_i x5 x6 e7
    exact Carries2.mk h1

theorem State.idleOpportunity_carries {o : State} {s : State} {e : Nat} (h1 : Carries o s) : Carries o
    (State.idleOpportunity s e) := by
  unfold State.idleOpportunity
  split
  · rename_i x1 e2
    exact h1
  · rename_i x3 x4 e5
    exact State.setEngine_carries h1

theorem breakpointHit_carries {o : State} {s : State} {t : Nat} (h1 : Carries o s) : Carries o (breakpointHit s t) :=
    by
  unfold breakpointHit
  exact pIte (P := Carries o) (State.stillCheck_carries (State.haltThread_carries h1)) h1

theorem State.peIssue_carries {o : State} {s : State} {t : Nat} {err : Option Bool} (h1 : Carries o s) : Carries o
    (State.peIssue s t err) := by
  unfold State.peIssue
  extract_lets +onlyGivenNames v1
  extract_lets +onlyGivenNames v2
  have h3 : Carries o v2 := by
    unfold v2
    refine pFoldl (P := Carries o) ?_ ?_
    · exact h1
    · intro s4 x5 h6
      exact State.settleFast_carries h6
  clear_value v2
  split
  · rename_i x7 e8
    exact State.idleOpportunity_carries h3
  · rename_i x9 x10 x11 e12
    refine pIte (P := Carries o) ?_ ?_
    · exact h3
    · extract_lets +onlyGivenNames v13
      extract_lets +onlyGivenNames v14
      have h15 : Carries o v14 := by
        unfold v14
        exact State.setEngine_carries h3
      clear_value v14
      refine pIte (P := Carries o) ?_ ?_
      · exact breakpointHit_carries h15
      · split
        · rename_i x16 x17 s18 e19
          have h20 := Carries2.of (o := o) ?_ e19
          rotate_left
          · exact State.fileError_carries h15
          exact State.issue_carries h20

theorem State.strike_carries {o : State} {s : State} {kind : Nat} {place : Nat} {hard : Bool} (h1 : Carries o s) :
    Carries o (State.strike s kind place hard) := by
  unfold State.strike
  extract_lets +onlyGivenNames v1
  split
  · rename_i x2
    exact pIte (P := Carries o) (carriesMk h1 rfl rfl rfl rfl) (carriesMk h1 rfl rfl rfl rfl)
  · rename_i x3
    exact pIte (P := Carries o) (carriesMk h1 rfl rfl rfl rfl) h1
  · rename_i x4
    extract_lets +onlyGivenNames v5
    extract_lets +onlyGivenNames v6
    extract_lets +onlyGivenNames v7
    split
    · rename_i x8 e9
      exact h1
    · rename_i x10 x11 e12
      refine pIte (P := Carries o) ?_ ?_
      · exact h1
      · extract_lets +onlyGivenNames v13
        exact State.setCache_carries h1
  · rename_i x14 e15 e16 e17
    exact h1

theorem State.trigRow_carries {o : State} {s : State} {t : Nat} {p : Nat} {v : W32} {f : State → Trig} (h1 : Carries o
    s) (h5 : ∀ y0, Carries o y0 → Carries1 o (f y0)) : Carries o (State.trigRow s t p v f) := by
  unfold State.trigRow
  refine pIte (P := Carries o) ?_ ?_
  · exact h1
  · extract_lets +onlyGivenNames v1
    have h2 : Carries o v1 := by
      unfold v1
      exact State.settleFast_carries h1
    clear_value v1
    extract_lets +onlyGivenNames v3
    refine pIte (P := Carries o) ?_ ?_
    · exact State.afterIssue_carries (State.fault_carries h2)
    · refine pIte (P := Carries o) ?_ ?_
      · exact State.afterIssue_carries (State.fault_carries h2)
      · refine pIte (P := Carries o) ?_ ?_
        · exact h2
        · split
          · rename_i x4 s5 x6 e7
            have h8 := Carries1.of (o := o) ?_ e7
            rotate_left
            · refine State.trig_carries ?_ ?_
              · exact h2
              · intro s9 h10
                apply h5
                exact h10
            refine State.afterIssue_carries ?_
            exact pIte (P := Carries o) h8 (pIte (P := Carries o) (State.faultAt_carries h2) (State.faultAt_carries
                h8))

theorem State.upset_carries {o : State} {s : State} {a : Option (Fin 4 × BitVec 27 × Bool)} (h1 : Carries o s) :
    Carries o (State.upset s a) := by
  unfold State.upset
  split
  · rename_i x1
    exact h1
  · rename_i x2 x3 x4 x5
    exact State.strike_carries h1

theorem bundleIssue_carries {o : State} {s : State} {t : Nat} {u : Option (Fin 4 × BitVec 27 × Bool)} (h1 : Carries o
    s) : Carries o (bundleIssue s t u) := by
  unfold bundleIssue
  extract_lets +onlyGivenNames v1
  have h2 : Carries o v1 := by
    unfold v1
    exact State.upset_carries h1
  clear_value v1
  split
  · rename_i x3 e4
    exact pIte (P := Carries o) (State.peIssue_carries h2) h2
  · rename_i x5 x6 e7
    exact pIte (P := Carries o) (State.ceIssue_carries h2) h2

theorem unitOperationComplete_carries {o : State} {s : State} {t : Nat} {u : Nat} (h1 : Carries o s) : Carries o
    (unitOperationComplete s t u) := by
  unfold unitOperationComplete
  exact pIte (P := Carries o) h1 (State.schedule_carries (State.ceBlocks_carries (State.finishOp_carries h1)))

end Sys2Proof.Machine
end

