-- ==== Sys2Proof/Laws/CarryDebug.lean ====
section
/-! SUPPORT. What the operations of Debug, Views, Retire, Boot carry from state to state. -/

namespace Sys2Proof.Machine

open Sys2Proof

/-! ### Debug -/

theorem State.dbgResult_carries {o : State} {s : State} {st : Nat} (h1 : Carries o s) : Carries o (State.dbgResult s
    st) := by
  unfold State.dbgResult
  exact State.wr_carries h1

theorem State.dbgCommand_carries {o : State} {s : State} {p : Nat} {thread : State → Nat → State} {desc : State → Nat
    → State} (h1 : Carries o s) (h3 : ∀ y0 y1, Carries o y0 → Carries o (thread y0 y1)) (h4 : ∀ y0 y1, Carries o y0 →
    Carries o (desc y0 y1)) : Carries o (State.dbgCommand s p thread desc) := by
  unfold State.dbgCommand
  refine pIte (P := Carries o) ?_ ?_
  · exact h1
  · extract_lets +onlyGivenNames v1
    have h2 : Carries o v1 := by
      unfold v1
      exact State.wr_carries h1
    clear_value v1
    extract_lets +onlyGivenNames v3
    refine pIte (P := Carries o) ?_ ?_
    · refine pIte (P := Carries o) ?_ ?_
      · apply h4
        exact h2
      · exact State.dbgResult_carries h2
    · refine pIte (P := Carries o) ?_ ?_
      · exact State.dbgResult_carries h2
      · refine pIte (P := Carries o) ?_ ?_
        · exact State.dbgResult_carries h2
        · apply h3
          exact h2

theorem dbgHalt_carries {o : State} {s : State} {p : Nat} (h1 : Carries o s) : Carries o (dbgHalt s p) := by
  unfold dbgHalt
  refine State.dbgCommand_carries ?_ ?_ ?_
  · exact h1
  · intro s1 x2 h3
    refine pIte (P := Carries o) ?_ ?_
    · exact State.dbgResult_carries h3
    · exact State.stillCheck_carries (State.haltThread_carries (State.dbgResult_carries h3))
  · intro s4 x5 h6
    extract_lets +onlyGivenNames v7
    refine pIte (P := Carries o) ?_ ?_
    · exact State.dbgResult_carries h6
    · exact State.schedule_carries (State.haltDesc_carries (State.dbgResult_carries h6))

theorem State.resumeThread_carries {o : State} {s : State} {t : Nat} {step : Bool} (h1 : Carries o s) : Carries o
    (State.resumeThread s t step) := by
  unfold State.resumeThread
  extract_lets +onlyGivenNames v1
  extract_lets +onlyGivenNames v2
  exact State.stillCheck_carries (State.setThread_carries h1)

theorem State.resumeDesc_carries {o : State} {s : State} {d : Nat} {step : Bool} (h1 : Carries o s) : Carries o
    (State.resumeDesc s d step) := by
  unfold State.resumeDesc
  extract_lets +onlyGivenNames v1
  extract_lets +onlyGivenNames v2
  extract_lets +onlyGivenNames v3
  extract_lets +onlyGivenNames v4
  have h5 : Carries o v4 := by
    unfold v4
    refine pIte (P := Carries o) ?_ ?_
    · exact State.makeReady_carries (State.setDesc_carries h1)
    · exact State.endFlagWait_carries (State.setDesc_carries h1)
  clear_value v4
  exact State.schedule_carries h5

theorem dbgResume_carries {o : State} {s : State} {p : Nat} (h1 : Carries o s) : Carries o (dbgResume s p) := by
  unfold dbgResume
  refine State.dbgCommand_carries ?_ ?_ ?_
  · exact h1
  · intro s1 x2 h3
    refine pIte (P := Carries o) ?_ ?_
    · exact State.dbgResult_carries h3
    · exact State.resumeThread_carries (State.dbgResult_carries h3)
  · intro s4 x5 h6
    refine pIte (P := Carries o) ?_ ?_
    · exact State.dbgResult_carries h6
    · exact State.resumeDesc_carries (State.dbgResult_carries h6)

theorem dbgStep_carries {o : State} {s : State} {p : Nat} (h1 : Carries o s) : Carries o (dbgStep s p) := by
  unfold dbgStep
  refine State.dbgCommand_carries ?_ ?_ ?_
  · exact h1
  · intro s1 x2 h3
    refine pIte (P := Carries o) ?_ ?_
    · exact State.dbgResult_carries h3
    · exact State.resumeThread_carries (State.dbgResult_carries h3)
  · intro s4 x5 h6
    refine pIte (P := Carries o) ?_ ?_
    · exact State.dbgResult_carries h6
    · exact State.resumeDesc_carries (State.dbgResult_carries h6)

theorem dbgKill_carries {o : State} {s : State} {p : Nat} (h1 : Carries o s) : Carries o (dbgKill s p) := by
  unfold dbgKill
  refine State.dbgCommand_carries ?_ ?_ ?_
  · exact h1
  · intro s1 x2 h3
    exact pIte (P := Carries o) (State.dbgResult_carries h3) (State.park_carries (State.dbgResult_carries h3))
  · intro s4 x5 h6
    refine pIte (P := Carries o) ?_ ?_
    · exact State.dbgResult_carries h6
    · exact State.dbgResult_carries (State.freeDesc_carries h6)

theorem State.descContext_carries {o : State} {s : State} {d : Nat} (h1 : Carries o s) : Carries2 o (State.descContext
    s d) := by
  unfold State.descContext
  exact State.loadContext_carries h1

theorem dbgRdreg_carries {o : State} {s : State} {p : Nat} (h1 : Carries o s) : Carries o (dbgRdreg s p) := by
  unfold dbgRdreg
  refine State.dbgCommand_carries ?_ ?_ ?_
  · exact h1
  · intro s1 x2 h3
    extract_lets +onlyGivenNames v4
    refine pIte (P := Carries o) ?_ ?_
    · exact State.dbgResult_carries h3
    · refine pIte (P := Carries o) ?_ ?_
      · exact State.dbgResult_carries h3
      · extract_lets +onlyGivenNames v5
        exact State.wr_carries (State.dbgResult_carries h3)
  · intro s6 x7 h8
    extract_lets +onlyGivenNames v9
    refine pIte (P := Carries o) ?_ ?_
    · exact State.dbgResult_carries h8
    · refine pIte (P := Carries o) ?_ ?_
      · exact State.dbgResult_carries h8
      · split
        · rename_i x10 x11 s12 e13
          have h14 := Carries2.of (o := o) ?_ e13
          rotate_left
          · exact State.descContext_carries h8
          exact State.wr_carries (State.dbgResult_carries h14)

theorem dbgWrreg_carries {o : State} {s : State} {p : Nat} (h1 : Carries o s) : Carries o (dbgWrreg s p) := by
  unfold dbgWrreg
  refine State.dbgCommand_carries ?_ ?_ ?_
  · exact h1
  · intro s1 x2 h3
    extract_lets +onlyGivenNames v4
    extract_lets +onlyGivenNames v5
    refine pIte (P := Carries o) ?_ ?_
    · exact State.dbgResult_carries h3
    · refine pIte (P := Carries o) ?_ ?_
      · exact State.dbgResult_carries h3
      · exact State.updThread_carries (State.dbgResult_carries h3)
  · intro s6 x7 h8
    extract_lets +onlyGivenNames v9
    extract_lets +onlyGivenNames v10
    refine pIte (P := Carries o) ?_ ?_
    · exact State.dbgResult_carries h8
    · refine pIte (P := Carries o) ?_ ?_
      · exact State.dbgResult_carries h8
      · split
        · rename_i x11 x12 s13 e14
          have h15 := Carries2.of (o := o) ?_ e14
          rotate_left
          · exact State.descContext_carries h8
          exact State.dbgResult_carries (State.saveContext_carries h15)

theorem dbgBrkSet_carries {o : State} {s : State} {p : Nat} (h1 : Carries o s) : Carries o (dbgBrkSet s p) := by
  unfold dbgBrkSet
  refine State.dbgCommand_carries ?_ ?_ ?_
  · exact h1
  · intro s1 x2 h3
    extract_lets +onlyGivenNames v4
    extract_lets +onlyGivenNames v5
    exact State.dbgResult_carries (carriesMk h3 rfl rfl rfl rfl)
  · intro s6 x7 h8
    exact State.dbgResult_carries h8

theorem dbgBrkClr_carries {o : State} {s : State} {p : Nat} (h1 : Carries o s) : Carries o (dbgBrkClr s p) := by
  unfold dbgBrkClr
  refine State.dbgCommand_carries ?_ ?_ ?_
  · exact h1
  · intro s1 x2 h3
    exact State.dbgResult_carries (carriesMk h3 rfl rfl rfl rfl)
  · intro s4 x5 h6
    exact State.dbgResult_carries h6

theorem State.endDebug_carries {o : State} {s : State} (h1 : Carries o s) : Carries o (State.endDebug s) := by
  unfold State.endDebug
  extract_lets +onlyGivenNames v1
  extract_lets +onlyGivenNames v2
  have h3 : Carries o v2 := by
    unfold v2
    exact carriesMk h1 rfl rfl rfl rfl
  clear_value v2
  extract_lets +onlyGivenNames v4
  extract_lets +onlyGivenNames v5
  have h6 : Carries o v5 := by
    unfold v5
    refine pFoldl (P := Carries o) ?_ ?_
    · exact h3
    · intro s7 x8 h9
      exact State.resumeThread_carries h9
  clear_value v5
  extract_lets +onlyGivenNames v10
  refine pFoldl (P := Carries o) ?_ ?_
  · exact h6
  · intro s11 x12 h13
    exact State.resumeDesc_carries h13

theorem State.lockdown_carries {o : State} {s : State} (h1 : Carries o s) : Carries o (State.lockdown s) := by
  unfold State.lockdown
  refine pIte (P := Carries o) ?_ ?_
  · exact h1
  · extract_lets +onlyGivenNames v1
    have h2 : Carries o v1 := by
      unfold v1
      exact State.logFault_carries h1
    clear_value v1
    extract_lets +onlyGivenNames v3
    have h4 : Carries o v3 := by
      unfold v3
      exact State.setAll_carries h2
    clear_value v3
    extract_lets +onlyGivenNames v5
    have h6 : Carries o v5 := by
      unfold v5
      split
      · rename_i x7 e8
        exact h4
      · rename_i x9 x10 x11 x12 e13
        exact State.endPress_carries h4
    clear_value v5
    extract_lets +onlyGivenNames v14
    extract_lets +onlyGivenNames v15
    have h16 : Carries o v15 := by
      unfold v15
      exact carriesMk h6 rfl rfl rfl rfl
    clear_value v15
    extract_lets +onlyGivenNames v17
    have h18 : Carries o v17 := by
      unfold v17
      exact pIte (P := Carries o) h16 (State.endDebug_carries (State.setSuspend_carries h16))
    clear_value v17
    exact State.eventSup_carries h18

/-! ### Views -/

theorem State.readEffect_carries {o : State} {s : State} {p : Nat} {f : Fld} {i : Nat} (h1 : Carries o s) : Carries o
    (State.readEffect s p f i) := by
  unfold State.readEffect
  refine pIte (P := Carries o) ?_ ?_
  · exact h1
  · refine pIte (P := Carries o) ?_ ?_
    · extract_lets +onlyGivenNames v1
      exact State.setPchan_carries h1
    · split
      · rename_i x2 e3
        exact State.setFld_carries h1
      · rename_i x4 x5 e6
        extract_lets +onlyGivenNames v7
        extract_lets +onlyGivenNames v8
        have h9 : Carries o v8 := by
          unfold v8
          exact pIte (P := Carries o) (State.setFld_carries h1) h1
        clear_value v8
        exact State.setFld_carries h9

theorem State.wordTake_carries {o : State} {s : State} {p : Nat} {page : Nat} {off : Nat} (h1 : Carries o s) :
    Carries2 o (State.wordTake s p page off) := by
  unfold State.wordTake
  refine Carries2.mk ?_
  refine pFoldl (P := Carries o) ?_ ?_
  · exact h1
  · intro s1 x2 h3
    exact State.readEffect_carries h3

/-! ### Retire -/

theorem State.showIpd_carries {o : State} {s : State} (h1 : Carries o s) : Carries o (State.showIpd s) := by
  unfold State.showIpd
  extract_lets +onlyGivenNames v1
  extract_lets +onlyGivenNames v2
  exact State.setAll_carries h1

theorem State.loseRanges_carries {o : State} {s : State} (h1 : Carries o s) : Carries o (State.loseRanges s) := by
  unfold State.loseRanges
  extract_lets +onlyGivenNames v1
  have h2 : Carries o v1 := by
    unfold v1
    refine State.loseCopies_carries ?_
    refine State.loseDroplets_carries ?_
    exact State.loseSpills_carries (State.loseFlows_carries (State.loseBuffers_carries h1))
  clear_value v1
  exact State.resumeIntake_carries h2

theorem State.goOffline_carries {o : State} {s : State} {pc : Nat} {trigger : Nat} (h1 : Carries o s) : Carries o
    (State.goOffline s pc trigger) := by
  unfold State.goOffline
  extract_lets +onlyGivenNames v1
  have h2 : Carries o v1 := by
    unfold v1
    exact State.wr_carries h1
  clear_value v1
  extract_lets +onlyGivenNames v3
  extract_lets +onlyGivenNames v4
  have h5 : Carries o v4 := by
    unfold v4
    exact State.setPchan_carries h2
  clear_value v4
  extract_lets +onlyGivenNames v6
  have h7 : Carries o v6 := by
    unfold v6
    exact State.eventSup_carries (State.showIpd_carries h5)
  clear_value v6
  exact State.loseRanges_carries (State.showDegraded_carries (State.noteRsv_carries h7))

theorem State.trySpares_carries {o : State} {s : State} {pc : Nat} {trigger : Nat} {works : Nat → Bool} {a : List Nat}
    (h1 : Carries o s) : Carries2 o (State.trySpares s pc trigger works a) := by
  induction a generalizing s pc trigger works
  · unfold State.trySpares
    exact Carries2.mk h1
  · rename_i n1 n2 ih3
    unfold State.trySpares
    refine pIte (P := Carries2 o) ?_ ?_
    · apply ih3
      exact h1
    · refine pIte (P := Carries2 o) ?_ ?_
      · exact Carries2.mk h1
      · extract_lets +onlyGivenNames v1
        extract_lets +onlyGivenNames v2
        have h3 : Carries o v2 := by
          unfold v2
          exact carriesMk h1 rfl rfl rfl rfl
        clear_value v2
        apply ih3
        exact State.noteRsv_carries (State.showIpd_carries h3)

theorem pcRetireStart_carries {o : State} {s : State} {pc : Nat} {works16 : Bool} {works33 : Bool} (h1 : Carries o s)
    : Carries o (pcRetireStart s pc works16 works33) := by
  unfold pcRetireStart
  refine pIte (P := Carries o) ?_ ?_
  · exact h1
  · extract_lets +onlyGivenNames v1
    extract_lets +onlyGivenNames v2
    extract_lets +onlyGivenNames v3
    have h4 : Carries o v3 := by
      unfold v3
      exact carriesMk h1 rfl rfl rfl rfl
    clear_value v3
    split
    · rename_i x5 s6 e7
      have h8 := Carries2.of (o := o) ?_ e7
      rotate_left
      · exact State.trySpares_carries h4
      exact State.goOffline_carries h8
    · rename_i x9 x10 s11 e12
      have h13 := Carries2.of (o := o) ?_ e12
      rotate_left
      · exact State.trySpares_carries h4
      extract_lets +onlyGivenNames v14
      extract_lets +onlyGivenNames v15
      have h16 : Carries o v15 := by
        unfold v15
        exact State.setPchan_carries h13
      clear_value v15
      exact State.setAll_carries h16

theorem pcRetireComplete_carries {o : State} {s : State} {pc : Nat} {bad : List Nat} (h1 : Carries o s) : Carries o
    (pcRetireComplete s pc bad) := by
  unfold pcRetireComplete
  split
  · rename_i x1 e2
    exact h1
  · rename_i x3 x4 x5 e6
    extract_lets +onlyGivenNames v7
    extract_lets +onlyGivenNames v8
    extract_lets +onlyGivenNames v9
    have h10 : Carries o v9 := by
      unfold v9
      refine pFoldl (P := Carries o) ?_ ?_
      · exact h1
      · intro s11 x12 h13
        exact State.poisonWord_carries h13
    clear_value v9
    extract_lets +onlyGivenNames v14
    extract_lets +onlyGivenNames v15
    have h16 : Carries o v15 := by
      unfold v15
      exact State.setPchan_carries h10
    clear_value v15
    extract_lets +onlyGivenNames v17
    extract_lets +onlyGivenNames v18
    have h19 : Carries o v18 := by
      unfold v18
      exact carriesMk h16 rfl rfl rfl rfl
    clear_value v18
    extract_lets +onlyGivenNames v20
    have h21 : Carries o v20 := by
      unfold v20
      exact State.noteRsv_carries (State.setAll_carries h19)
    clear_value v20
    extract_lets +onlyGivenNames v22
    have h23 : Carries o v22 := by
      unfold v22
      exact State.eventSup_carries (State.showIpd_carries h21)
    clear_value v22
    exact State.eventSup_carries h23

/-! ### Boot -/

theorem State.loadRegs_carries {o : State} {s : State} (h1 : Carries o s) : Carries o (State.loadRegs s) := by
  unfold State.loadRegs
  exact carriesMk h1 rfl rfl rfl rfl

theorem State.startTime_carries {o : State} {s : State} (h1 : Carries o s) : Carries o (State.startTime s) := by
  unfold State.startTime
  extract_lets +onlyGivenNames v1
  have h2 : Carries o v1 := by
    unfold v1
    refine pFoldl (P := Carries o) ?_ ?_
    · exact h1
    · intro s3 x4 h5
      exact pIte (P := Carries o) (State.setNet_carries (State.setFld_carries h5)) h5
  clear_value v1
  exact carriesMk h2 rfl rfl rfl rfl

theorem State.startLocks_carries {o : State} {s : State} (h1 : Carries o s) : Carries o (State.startLocks s) := by
  unfold State.startLocks
  refine pFoldl (P := Carries o) ?_ ?_
  · exact h1
  · intro s1 x2 h3
    exact pIte (P := Carries o) (State.setLock_carries h3) h3

theorem State.startGates_carries {o : State} {s : State} (h1 : Carries o s) : Carries o (State.startGates s) := by
  unfold State.startGates
  extract_lets +onlyGivenNames v1
  have h2 : Carries o v1 := by
    unfold v1
    refine pFoldl (P := Carries o) ?_ ?_
    · exact h1
    · intro s3 x4 h5
      exact pIte (P := Carries o) (State.installList_carries h5) h5
  clear_value v1
  refine pFoldl (P := Carries o) ?_ ?_
  · exact h2
  · intro s6 x7 h8
    exact pIte (P := Carries o) (State.installList_carries h8) h8

theorem State.startMeters_carries {o : State} {s : State} (h1 : Carries o s) : Carries o (State.startMeters s) := by
  unfold State.startMeters
  extract_lets +onlyGivenNames v1
  have h2 : Carries o v1 := by
    unfold v1
    refine pFoldl (P := Carries o) ?_ ?_
    · exact h1
    · intro s3 x4 h5
      extract_lets +onlyGivenNames v6
      have h7 : Carries o v6 := by
        unfold v6
        exact State.latchMeter_carries h5
      clear_value v6
      exact State.setMeterBucket_carries (State.setMeterBucket_carries h7)
  clear_value v1
  exact State.setAll_carries h2

theorem State.startQueues_carries {o : State} {s : State} (h1 : Carries o s) : Carries o (State.startQueues s) := by
  unfold State.startQueues
  extract_lets +onlyGivenNames v1
  unfold v1
  extract_lets +onlyGivenNames v2
  refine State.setAll_carries ?_
  extract_lets +onlyGivenNames v3
  refine State.setAll_carries ?_
  extract_lets +onlyGivenNames v4
  exact State.setAll_carries h1

theorem State.startRecording_carries {o : State} {s : State} (h1 : Carries o s) : Carries o (State.startRecording s)
    := by
  unfold State.startRecording
  extract_lets +onlyGivenNames v1
  have h2 : Carries o v1 := by
    unfold v1
    exact State.wr_carries h1
  clear_value v1
  exact carriesMk h2 rfl rfl rfl rfl

theorem State.startDescs_carries {o : State} {s : State} (h1 : Carries o s) : Carries o (State.startDescs s) := by
  unfold State.startDescs
  extract_lets +onlyGivenNames v1
  have h2 : Carries o v1 := by
    unfold v1
    refine pFoldl (P := Carries o) ?_ ?_
    · exact h1
    · intro s3 x4 h5
      split
      · rename_i x6 x7 x8 x9
        exact State.startDesc_carries (State.setDesc_carries h5)
  clear_value v1
  exact State.schedule_carries h2

theorem State.startBasins_carries {o : State} {s : State} (h1 : Carries o s) : Carries o (State.startBasins s) := by
  unfold State.startBasins
  extract_lets +onlyGivenNames v1
  have h2 : Carries o v1 := by
    unfold v1
    refine pFoldl (P := Carries o) ?_ ?_
    · exact h1
    · intro s3 x4 h5
      exact pIte (P := Carries o) h5 (State.basinStart_carries h5)
  clear_value v1
  exact State.setAll_carries h2

theorem State.seeLinks_carries {o : State} {s : State} (h1 : Carries o s) : Carries o (State.seeLinks s) := by
  unfold State.seeLinks
  extract_lets +onlyGivenNames v1
  refine pFoldl (P := Carries o) ?_ ?_
  · exact h1
  · intro s2 x3 h4
    exact State.linkComesUp_carries (State.setPhy_carries h4)

theorem State.latePresence_carries {o : State} {s : State} (h1 : Carries o s) : Carries o (State.latePresence s) := by
  unfold State.latePresence
  refine pFoldl (P := Carries o) ?_ ?_
  · exact h1
  · intro s1 x2 h3
    extract_lets +onlyGivenNames v4
    extract_lets +onlyGivenNames v5
    exact State.setFld_carries (State.setPresIn_carries h3)

theorem State.fcoRelease_carries {o : State} {s : State} (h1 : Carries o s) : Carries o (State.fcoRelease s) := by
  unfold State.fcoRelease
  refine pFoldl (P := Carries o) ?_ ?_
  · exact h1
  · intro s1 x2 h3
    exact State.emit_carries (State.setFld_carries h3)

theorem State.activate_carries {o s : State} {slot : Nat} (h : Carries o s) : Carries o (s.activate slot) := by
  unfold State.activate
  refine State.showDegraded_carries (State.seeLinks_carries (State.latePresence_carries (State.fcoRelease_carries
    (State.startRecording_carries (State.startDescs_carries (State.startBasins_carries (State.setAll_carries
    (State.startLocks_carries (State.startGates_carries (State.startMeters_carries (State.startQueues_carries
    (State.startTables_carries (State.startRules_carries (State.buildPools_carries (State.startTime_carries
    (State.setAll_carries ?_))))))))))))))))
  have hr := State.loadRegs_carries h
  exact ⟨hr.pending, hr.grade, Nat.le_of_ble_eq_true rfl, ⟨foldl_put_wf h.mem.ipd, h.mem.shared, h.mem.scratch⟩,
      hr.host,
    h.fth.same rfl⟩

theorem State.applyRsv_carries {o : State} {s : State} {e : RsvEnt} (h1 : Carries o s) : Carries o (State.applyRsv s
    e) := by
  unfold State.applyRsv
  split
  · rename_i x1 e2
    exact State.setAll_carries h1
  · rename_i x3 e4
    exact State.setFld_carries h1
  · rename_i x5 e6
    extract_lets +onlyGivenNames v7
    exact State.setAll_carries h1
  · rename_i x8 e9
    extract_lets +onlyGivenNames v10
    exact State.setAll_carries h1
  · rename_i x11 e12
    exact carriesMk h1 rfl rfl rfl rfl
  · rename_i x13 e14
    exact carriesMk h1 rfl rfl rfl rfl
  · rename_i x15 e16
    exact State.wr_carries h1
  · rename_i x17 e18
    exact State.setRemap_carries h1
  · rename_i x19 e20 e21 e22 e23 e24 e25 e26 e27
    exact h1

theorem State.applyMap_carries {o : State} {s : State} (h1 : Carries o s) : Carries o (State.applyMap s) := by
  unfold State.applyMap
  extract_lets +onlyGivenNames v1
  have h2 : Carries o v1 := by
    unfold v1
    exact State.wr_carries h1
  clear_value v1
  extract_lets +onlyGivenNames v3
  have h4 : Carries o v3 := by
    unfold v3
    refine pFoldl (P := Carries o) ?_ ?_
    · exact h2
    · intro s5 x6 h7
      exact State.applyRsv_carries h7
  clear_value v3
  exact State.showIpd_carries (State.wr_carries h4)

theorem State.bootRegion_carries {o : State} {s : State} {r : Nat} {fail : Nat} {mem : Bool} {pass : Bool} {helper :
    BitVec 2} (h1 : Carries o s) : Carries2 o (State.bootRegion s r fail mem pass helper) := by
  unfold State.bootRegion
  refine pIte (P := Carries2 o) ?_ ?_
  · extract_lets +onlyGivenNames v1
    split
    · rename_i x2 x3 s4 e5
      have h6 := Carries2.of (o := o) ?_ e5
      rotate_left
      · exact State.basinOutcome_carries h1
      extract_lets +onlyGivenNames v7
      have h8 : Carries o v7 := by
        unfold v7
        exact State.testResult_carries h6
      clear_value v7
      exact pIte (P := Carries2 o) (Carries2.mk h8) (Carries2.mk (State.helpersFailed_carries h8))
  · refine pIte (P := Carries2 o) ?_ ?_
    · extract_lets +onlyGivenNames v9
      split
      · rename_i x10 x11 x12 s13 e14
        have h15 := Carries3.of (o := o) ?_ e14
        rotate_left
        · exact State.ceOutcome_carries h1
        exact Carries2.mk (State.testResult_carries h15)
    · extract_lets +onlyGivenNames v16
      extract_lets +onlyGivenNames v17
      have h18 : Carries o v17 := by
        unfold v17
        exact State.testResult_carries h1
      clear_value v17
      exact Carries2.mk (pIte (P := Carries o) (State.logTest_carries h18) h18)

theorem State.bootTests_carries {o : State} {s : State} {bist : List (Nat × BitVec 17 × Bool × BitVec 2)} {scans :
    List (Nat × List (BitVec 64))} (h1 : Carries o s) : Carries2 o (State.bootTests s bist scans) := by
  unfold State.bootTests
  extract_lets +onlyGivenNames v1
  refine pFoldl (P := Carries2 o) ?_ ?_
  · exact Carries2.mk h1
  · intro x2 x3 h4
    split
    · rename_i x5 x6 x7 x8 e9
      split
      · rename_i x10 x11 s12 e13
        have h14 := Carries2.of (o := o) ?_ e13
        rotate_left
        · exact State.scanEnd_carries (State.scanBegin_carries (Carries2.snd h4))
        split
        · rename_i x15 x16 s17 e18
          have h19 := Carries2.of (o := o) ?_ e18
          rotate_left
          · exact State.bootRegion_carries h14
          exact Carries2.mk h19

theorem State.refuseSlot_carries {o : State} {s : State} {slot : Nat} {cause : Nat} (h1 : Carries o s) : Carries o
    (State.refuseSlot s slot cause) := by
  unfold State.refuseSlot
  exact pIte (P := Carries o) h1 (State.eventSup_carries (State.logFault_carries h1))

theorem State.checkSlots_carries {o : State} {s : State} (h1 : Carries o s) : Carries2 o (State.checkSlots s) := by
  unfold State.checkSlots
  extract_lets +onlyGivenNames v1
  extract_lets +onlyGivenNames v2
  extract_lets +onlyGivenNames v3
  have h4 : Carries o v3 := by
    unfold v3
    exact State.setAll_carries h1
  clear_value v3
  extract_lets +onlyGivenNames v5
  have h6 : Carries o v5 := by
    unfold v5
    exact State.refuseSlot_carries (State.refuseSlot_carries h4)
  clear_value v5
  split
  · rename_i x7 x8 e9
    exact Carries2.mk h6
  · rename_i x10 e11
    exact Carries2.mk (State.wr_carries h6)

theorem State.findSlot_carries {o : State} {s : State} (h1 : Carries o s) : Carries2 o (State.findSlot s) := by
  unfold State.findSlot
  split
  · rename_i x1 x2 e3
    exact Carries2.mk (State.wr_carries h1)
  · rename_i x4 e5
    exact State.checkSlots_carries (carriesMk h1 rfl rfl rfl rfl)

theorem State.selfTest_carries {o : State} {s : State} {bist : List (Nat × BitVec 17 × Bool × BitVec 2)} {slices :
    List (Fin 36)} {repairs : List (Nat × BitVec 16 × W32 × W32)} {scans : List (Nat × List (BitVec 64))} (h1 :
    Carries o s) : Carries2 o (State.selfTest s bist slices repairs scans) := by
  unfold State.selfTest
  extract_lets +onlyGivenNames v1
  have h2 : Carries o v1 := by
    unfold v1
    exact State.repaired_carries h1
  clear_value v1
  extract_lets +onlyGivenNames v3
  have h4 : Carries o v3 := by
    unfold v3
    refine pFoldl (P := Carries o) ?_ ?_
    · exact h2
    · intro s5 x6 h7
      exact State.sliceOutcome_carries h7
  clear_value v3
  exact State.bootTests_carries h4

theorem State.startBridge_carries {o : State} {s : State} (h1 : Carries o s) : Carries o (State.startBridge s) := by
  unfold State.startBridge
  extract_lets +onlyGivenNames v1
  extract_lets +onlyGivenNames v2
  extract_lets +onlyGivenNames v3
  extract_lets +onlyGivenNames v4
  have h5 : Carries o v4 := by
    unfold v4
    exact carriesUp h1 (fun _ => Nat.le_of_ble_eq_true rfl) (fun h => h.mem.same rfl) (fun h => h.host) (fun h =>
        h.fth.same rfl)
  clear_value v4
  extract_lets +onlyGivenNames v6
  have h7 : Carries o v6 := by
    unfold v6
    exact State.setAll_carries h5
  clear_value v6
  extract_lets +onlyGivenNames v8
  have h9 : Carries o v8 := by
    unfold v8
    refine pFoldl (P := Carries o) ?_ ?_
    · exact h7
    · intro s10 x11 h12
      exact State.setAll_carries h12
  clear_value v8
  extract_lets +onlyGivenNames v13
  have h14 : Carries o v13 := by
    unfold v13
    refine pFoldl (P := Carries o) ?_ ?_
    · exact h9
    · intro s15 x16 h17
      exact State.setFld_carries (State.setPresIn_carries h17)
  clear_value v13
  refine State.showDegraded_carries ?_
  refine State.stpSettle_carries ?_
  refine State.seeLinks_carries ?_
  exact State.fcoRelease_carries (State.startDescs_carries (State.buildPools_carries h14))

theorem imageVerdict_carries {o : State} {s : State} {now : Nat} {bist : List (Nat × BitVec 17 × Bool × BitVec 2)}
    {slices : List (Fin 36)} {repairs : List (Nat × BitVec 16 × W32 × W32)} {scans : List (Nat × List (BitVec 64))}
    (h1 : Carries o s) : Carries o (imageVerdict s now bist slices repairs scans) := by
  unfold imageVerdict
  extract_lets +onlyGivenNames v1
  have h2 : Carries o v1 := by
    unfold v1
    exact State.upTo_carries h1
  clear_value v1
  refine pIte (P := Carries o) ?_ ?_
  · exact h2
  · extract_lets +onlyGivenNames v3
    have h4 : Carries o v3 := by
      unfold v3
      exact State.applyMap_carries (State.showDeviceId_carries (State.showKeys_carries h2))
    clear_value v3
    split
    · rename_i x5 x6 s7 e8
      have h9 := Carries2.of (o := o) ?_ e8
      rotate_left
      · exact State.findSlot_carries h4
      split
      · rename_i x10
        have h11 := Carries2.of (o := o) ?_ e8
        rotate_left
        · exact State.findSlot_carries h4
        split
        · rename_i x12 x13 s14 e15
          have h16 := Carries2.of (o := o) ?_ e15
          rotate_left
          · exact pIte (P := Carries2 o) (State.selfTest_carries h9) (Carries2.mk h9)
          exact pIte (P := Carries o) (State.safeState_carries h16) (State.startBridge_carries h16)
      · rename_i x17 x18
        have h19 := Carries2.of (o := o) ?_ e8
        rotate_left
        · exact State.findSlot_carries h4
        extract_lets +onlyGivenNames v20
        have h21 : Carries o v20 := by
          unfold v20
          exact carriesMk h9 rfl rfl rfl rfl
        clear_value v20
        split
        · rename_i x22 x23 s24 e25
          have h26 := Carries2.of (o := o) ?_ e25
          rotate_left
          · exact State.selfTest_carries h21
          exact pIte (P := Carries o) (State.safeState_carries h26) (State.activate_carries h26)

end Sys2Proof.Machine
end

