-- ==== Sys2Proof/Laws/CarryRegAccess.lean ====
section
/-! SUPPORT. What the operations of RegAccess, Spi carry from state to state. -/

namespace Sys2Proof.Machine

open Sys2Proof

/-! ### RegAccess -/

theorem State.msixWrite_carries {o : State} {s : State} {p : Nat} {w : Nat} {v : Nat} (h1 : Carries o s) : Carries o
    (State.msixWrite s p w v) := by
  unfold State.msixWrite
  extract_lets +onlyGivenNames v1
  extract_lets +onlyGivenNames v2
  extract_lets +onlyGivenNames v3
  have h4 : Carries o v3 := by
    unfold v3
    exact carriesMk h1 rfl rfl rfl rfl
  clear_value v3
  extract_lets +onlyGivenNames v5
  extract_lets +onlyGivenNames v6
  exact pIte (P := Carries o) (State.emit_carries (carriesMk h4 rfl rfl rfl rfl)) h4

theorem State.bar2Write_carries {o : State} {s : State} {p : Nat} {addr : Nat} {v : Nat} (h1 : Carries o s) : Carries
    o (State.bar2Write s p addr v) := by
  unfold State.bar2Write
  refine pIte (P := Carries o) ?_ ?_
  · exact pIte (P := Carries o) (txDoorbellWrite_carries h1) h1
  · refine pIte (P := Carries o) ?_ ?_
    · exact pIte (P := Carries o) (rxDoorbellWrite_carries h1) h1
    · exact pIte (P := Carries o) (State.msixWrite_carries h1) h1

theorem State.signalEnabled_carries {o : State} {s : State} {p : Nat} {en : Fld} {old : Nat} {new : Nat} (h1 : Carries
    o s) : Carries o (State.signalEnabled s p en old new) := by
  unfold State.signalEnabled
  refine pFoldl (P := Carries o) ?_ ?_
  · exact h1
  · intro s1 x2 h3
    extract_lets +onlyGivenNames v4
    extract_lets +onlyGivenNames v5
    extract_lets +onlyGivenNames v6
    extract_lets +onlyGivenNames v7
    extract_lets +onlyGivenNames v8
    refine pFoldl (P := Carries o) ?_ ?_
    · exact h3
    · intro s9 x10 h11
      refine pIte (P := Carries o) ?_ ?_
      · exact h11
      · refine pFoldl (P := Carries o) ?_ ?_
        · exact h11
        · intro s12 x13 h14
          exact State.signalVec_carries h14

theorem State.fieldWrite_carries {o : State} {s : State} {p : Nat} {f : Fld} {i : Nat} {v : Nat} (h1 : Carries o s) :
    Carries o (State.fieldWrite s p f i v) := by
  unfold State.fieldWrite
  extract_lets +onlyGivenNames v1
  extract_lets +onlyGivenNames v2
  extract_lets +onlyGivenNames v3
  refine pIte (P := Carries o) ?_ ?_
  · exact h1
  · split
    · rename_i x4 e5
      extract_lets +onlyGivenNames v6
      have h7 : Carries o v6 := by
        unfold v6
        exact State.setFld_carries h1
      clear_value v6
      exact pIte (P := Carries o) (State.signalEnabled_carries h7) h7
    · rename_i x8 e9
      exact State.setFld_carries h1
    · rename_i x10 e11
      exact State.setFld_carries h1
    · rename_i x12 e13 e14 e15
      exact h1

theorem State.fieldsWrite_carries {o : State} {s : State} {p : Nat} {page : Nat} {off : Nat} {v : Nat} (h1 : Carries o
    s) : Carries o (State.fieldsWrite s p page off v) := by
  unfold State.fieldsWrite
  refine pFoldl (P := Carries o) ?_ ?_
  · exact h1
  · intro s1 x2 h3
    exact State.fieldWrite_carries h3

theorem State.timCmdWrite_carries {o : State} {s : State} {p : Nat} {v : Nat} (h1 : Carries o s) : Carries o
    (State.timCmdWrite s p v) := by
  unfold State.timCmdWrite
  extract_lets +onlyGivenNames v1
  have h2 : Carries o v1 := by
    unfold v1
    exact State.fieldsWrite_carries h1
  clear_value v1
  extract_lets +onlyGivenNames v3
  have h4 : Carries o v3 := by
    unfold v3
    exact pIte (P := Carries o) (timSnap_carries h2) h2
  clear_value v3
  exact pIte (P := Carries o) (timStep_carries h4) h4

theorem State.entropy_carries {o : State} {a : State} {a1 : Nat} (h1 : Carries o a) : Carries2 o (State.entropy a a1)
    := by
  induction a1 generalizing a
  · unfold State.entropy
    exact Carries2.mk h1
  · rename_i n1 ih2
    unfold State.entropy
    split
    · rename_i x1 x2 s3 e4
      have h5 := Carries2.of (o := o) ?_ e4
      rotate_left
      · exact State.free_carries h1
      split
      · rename_i x6 x7 s8 e9
        have h10 := Carries2.of (o := o) ?_ e9
        rotate_left
        · apply ih2
          exact h5
        exact Carries2.mk h10

theorem State.fthCmdWrite_carries {o : State} {s : State} {p : Nat} {v : Nat} (h1 : Carries o s) : Carries o
    (State.fthCmdWrite s p v) := by
  unfold State.fthCmdWrite
  extract_lets +onlyGivenNames v1
  extract_lets +onlyGivenNames v2
  split
  · rename_i x3 e4
    exact h1
  · rename_i x5 e6
    split
    · rename_i x7 x8 s9 e10
      have h11 := Carries2.of (o := o) ?_ e10
      rotate_left
      · refine State.entropy_carries ?_
        unfold v2
        exact State.setFld_carries h1
      exact fthNonce_carries h11
  · rename_i x12 e13
    refine fthToken_carries ?_
    unfold v2
    exact State.setFld_carries h1
  · rename_i x14 e15
    refine fthAttest_carries ?_
    unfold v2
    exact State.setFld_carries h1
  · rename_i x16 e17
    refine fthConfirm_carries ?_
    unfold v2
    exact State.setFld_carries h1
  · rename_i x18 e19
    split
    · rename_i x20 x21 s22 e23
      have h24 := Carries2.of (o := o) ?_ e23
      rotate_left
      · exact State.entropy_carries h1
      exact fthLcAdvance_carries h24
  · rename_i x25 e26
    refine fthProvision_carries ?_
    unfold v2
    exact State.setFld_carries h1
  · rename_i x27 e28
    exact fthImgErase_carries h1
  · rename_i x29 e30
    exact fthImgVerify_carries h1
  · rename_i x31 e32 e33 e34 e35 e36 e37 e38 e39 e40
    refine State.fthCommandArg_carries ?_ ?_
    · exact h1
    · intro s41 h42
      exact Carries2.mk h42

theorem State.winCmdWrite_carries {o : State} {s : State} {p : Nat} {v : Nat} (h1 : Carries o s) : Carries o
    (State.winCmdWrite s p v) := by
  unfold State.winCmdWrite
  extract_lets +onlyGivenNames v1
  extract_lets +onlyGivenNames v2
  refine pIte (P := Carries o) ?_ ?_
  · exact State.winFields_carries h1
  · exact pIte (P := Carries o) (fthWinWrite_carries h1) (fthWinRead_carries h1)

theorem State.stCmdWrite_carries {o : State} {s : State} {p : Nat} {v : Nat} (h1 : Carries o s) : Carries o
    (State.stCmdWrite s p v) := by
  unfold State.stCmdWrite
  split
  · rename_i x1 e2
    exact fthStRegion_carries h1
  · rename_i x3 e4
    exact fthStFull_carries (State.fieldsWrite_carries h1)
  · rename_i x5 e6
    exact fthStAbort_carries (State.fieldsWrite_carries h1)
  · rename_i x7 e8 e9 e10
    exact h1

theorem State.rplCmdWrite_carries {o : State} {s : State} {p : Nat} {v : Nat} (h1 : Carries o s) : Carries o
    (State.rplCmdWrite s p v) := by
  unfold State.rplCmdWrite
  split
  · rename_i x1 e2
    exact rplTrigger_carries h1
  · rename_i x3 e4
    exact rplFreeze_carries h1
  · rename_i x5 e6
    exact rplRelease_carries h1
  · rename_i x7 e8
    exact rplExport_carries h1
  · rename_i x9 e10
    exact rplReplay_carries h1
  · rename_i x11 e12
    exact rplAbort_carries h1
  · rename_i x13 e14 e15 e16 e17 e18 e19
    exact h1

theorem State.dbgCmdWrite_carries {o : State} {s : State} {p : Nat} {v : Nat} (h1 : Carries o s) : Carries o
    (State.dbgCmdWrite s p v) := by
  unfold State.dbgCmdWrite
  split
  · rename_i x1 e2
    exact dbgHalt_carries (State.fieldsWrite_carries h1)
  · rename_i x3 e4
    exact dbgResume_carries (State.fieldsWrite_carries h1)
  · rename_i x5 e6
    exact dbgStep_carries (State.fieldsWrite_carries h1)
  · rename_i x7 e8
    exact dbgKill_carries (State.fieldsWrite_carries h1)
  · rename_i x9 e10
    exact dbgRdreg_carries (State.fieldsWrite_carries h1)
  · rename_i x11 e12
    exact dbgWrreg_carries (State.fieldsWrite_carries h1)
  · rename_i x13 e14
    exact dbgBrkSet_carries (State.fieldsWrite_carries h1)
  · rename_i x15 e16
    exact dbgBrkClr_carries (State.fieldsWrite_carries h1)
  · rename_i x17 e18 e19 e20 e21 e22 e23 e24 e25
    exact h1

theorem State.xstatWrite_carries {o : State} {s : State} {p : Nat} {v : Nat} (h1 : Carries o s) : Carries o
    (State.xstatWrite s p v) := by
  unfold State.xstatWrite
  refine pIte (P := Carries o) ?_ ?_
  · exact h1
  · extract_lets +onlyGivenNames v1
    extract_lets +onlyGivenNames v2
    extract_lets +onlyGivenNames v3
    exact State.setCrossing_carries h1

theorem State.ringWrite_carries {o : State} {s : State} {p : Nat} {off : Nat} {v : Nat} (h1 : Carries o s) : Carries o
    (State.ringWrite s p off v) := by
  unfold State.ringWrite
  extract_lets +onlyGivenNames v1
  extract_lets +onlyGivenNames v2
  extract_lets +onlyGivenNames v3
  have h4 : Carries o v3 := by
    unfold v3
    refine pFoldl (P := Carries o) ?_ ?_
    · exact h1
    · intro s5 x6 h7
      exact State.fieldWrite_carries h7
  clear_value v3
  exact pIte (P := Carries o) (hostQueueEnable_carries h4) (hostQueueDisable_carries h4)

theorem State.commandHigh_carries {o : State} {s : State} {p : Nat} {page : Nat} {off : Nat} {v : Nat} (h1 : Carries o
    s) : CarriesO o (State.commandHigh s p page off v) := by
  unfold State.commandHigh
  split
  · rename_i x1 x2
    refine CarriesO.some ?_
    split
    · rename_i x3 e4
      exact edgLaneRetrain_carries (State.fieldsWrite_carries h1)
    · rename_i x5 e6
      exact edgLaneSpare_carries (State.fieldsWrite_carries h1)
    · rename_i x7 e8 e9
      exact h1
  · rename_i x10 x11
    exact CarriesO.some (State.timCmdWrite_carries h1)
  · rename_i x12 x13
    refine CarriesO.some ?_
    split
    · rename_i x14 e15
      exact pwrEnterDry_carries h1
    · rename_i x16 e17
      exact pwrWake_carries h1
    · rename_i x18 e19 e20
      exact h1
  · rename_i x21 x22
    exact CarriesO.some (State.fthCmdWrite_carries h1)
  · rename_i x23 x24
    exact CarriesO.some (State.winCmdWrite_carries h1)
  · rename_i x25 x26
    exact CarriesO.some (State.stCmdWrite_carries h1)
  · rename_i x27 x28
    exact CarriesO.some (State.rplCmdWrite_carries h1)
  · rename_i x29 x30
    exact CarriesO.some (State.dbgCmdWrite_carries h1)
  · rename_i x31 x32
    exact CarriesO.some (pIte (P := Carries o) (xngIslReset_carries h1) (State.fieldsWrite_carries h1))
  · rename_i x33 x34
    exact CarriesO.some (State.xstatWrite_carries h1)
  · rename_i x35 x36
    exact CarriesO.some (hstLatWrite_carries h1)
  · rename_i x37 x38
    extract_lets +onlyGivenNames v39
    have h40 : Carries o v39 := by
      unfold v39
      exact State.fieldsWrite_carries h1
    clear_value v39
    exact CarriesO.some (pIte (P := Carries o) (hstPrstGo_carries h40) h40)
  · rename_i x41 x42 e43 e44 e45 e46 e47 e48 e49 e50 e51 e52 e53 e54
    refine pIte (P := CarriesO o) ?_ ?_
    · exact CarriesO.some (timRateWrite_carries h1)
    · refine pIte (P := CarriesO o) ?_ ?_
      · exact CarriesO.some (State.setWindow_carries h1)
      · exact pIte (P := CarriesO o) (CarriesO.some (State.ringWrite_carries h1)) CarriesO.none

theorem State.pinWrite_carries {o : State} {s : State} {p : Nat} {v : Nat} (h1 : Carries o s) : Carries o
    (State.pinWrite s p v) := by
  unfold State.pinWrite
  extract_lets +onlyGivenNames v1
  have h2 : Carries o v1 := by
    unfold v1
    exact State.fieldsWrite_carries h1
  clear_value v1
  extract_lets +onlyGivenNames v3
  have h4 : Carries o v3 := by
    unfold v3
    exact pIte (P := Carries o) (rulPinPin_carries h2) h2
  clear_value v3
  exact pIte (P := Carries o) (rulPinUnpin_carries h4) h4

theorem State.tableCmdWrite_carries {o : State} {s : State} {p : Nat} {page : Nat} {v : Nat} (h1 : Carries o s) :
    Carries o (State.tableCmdWrite s p page v) := by
  unfold State.tableCmdWrite
  split
  · rename_i x1 x2
    exact rulStgWrite_carries h1
  · rename_i x3 x4
    exact rulStgRead_carries h1
  · rename_i x5 x6
    exact rulStgClear_carries h1
  · rename_i x7 x8
    exact tblInsert_carries h1
  · rename_i x9 x10
    exact tblDelete_carries h1
  · rename_i x11 x12
    exact tblRead_carries h1
  · rename_i x13 x14
    exact tblUpdate_carries h1
  · rename_i x15 x16
    exact tblFlush_carries h1
  · rename_i x17 x18
    exact tblNext_carries h1
  · rename_i x19 x20
    exact tblReserved_carries h1
  · rename_i x21 x22
    exact sluRead_carries h1
  · rename_i x23 x24
    exact sluWrite_carries h1
  · rename_i x25 x26
    exact sluFlush_carries h1
  · rename_i x27 x28
    exact sluClear_carries h1
  · rename_i x29 x30
    exact sluReserved_carries h1
  · rename_i x31 x32
    exact sluReserved_carries h1
  · rename_i x33 x34
    exact sluReserved_carries h1
  · rename_i x35 x36 e37 e38 e39 e40 e41 e42 e43 e44 e45 e46 e47 e48 e49 e50 e51 e52 e53
    exact h1

theorem State.hreqWrite_carries {o : State} {s : State} {p : Nat} {v : Nat} (h1 : Carries o s) : Carries o
    (State.hreqWrite s p v) := by
  unfold State.hreqWrite
  extract_lets +onlyGivenNames v1
  have h2 : Carries o v1 := by
    unfold v1
    exact State.fieldsWrite_carries h1
  clear_value v1
  exact pIte (P := Carries o) (lkgHostRequest_carries h2) h2

theorem State.lkgCmdWrite_carries {o : State} {s : State} {p : Nat} {v : Nat} (h1 : Carries o s) : Carries o
    (State.lkgCmdWrite s p v) := by
  unfold State.lkgCmdWrite
  split
  · rename_i x1 e2
    exact h1
  · rename_i x3 e4
    exact lkgForce_carries (State.fieldsWrite_carries h1)
  · rename_i x5 e6
    exact lkgSetcount_carries (State.fieldsWrite_carries h1)
  · rename_i x7 e8 e9 e10
    exact State.fieldsWrite_carries h1

theorem State.engCmdWrite_carries {o : State} {s : State} {p : Nat} {v : Nat} (h1 : Carries o s) : Carries o
    (State.engCmdWrite s p v) := by
  unfold State.engCmdWrite
  extract_lets +onlyGivenNames v1
  split
  · rename_i x2 e3
    exact h1
  · rename_i x4 e5
    exact bsnEngReset_carries (State.fieldsWrite_carries h1)
  · rename_i x6 e7
    exact bsnEngSwap_carries (State.fieldsWrite_carries h1)
  · rename_i x8 e9
    exact bsnEngAckEsc_carries (State.fieldsWrite_carries h1)
  · rename_i x10 e11 e12 e13 e14
    refine State.engCmd_carries ?_ ?_
    · exact State.fieldsWrite_carries h1
    · intro s15 h16
      exact State.engResult_carries h16

theorem State.hlpEnWrite_carries {o : State} {s : State} {p : Nat} {b : Nat} {v : Nat} (h1 : Carries o s) : Carries o
    (State.hlpEnWrite s p b v) := by
  unfold State.hlpEnWrite
  split
  · rename_i x1 x2 s3 e4
    have h5 := Carries2.of (o := o) ?_ e4
    rotate_left
    · exact State.free_carries h1
    extract_lets +onlyGivenNames v6
    unfold v6
    refine pIte (P := Carries o) ?_ ?_
    · exact helperEnable_carries (pIte (P := Carries o) (helperEnable_carries h5) (helperDisable_carries h5))
    · exact helperDisable_carries (pIte (P := Carries o) (helperEnable_carries h5) (helperDisable_carries h5))

theorem State.commandLow_carries {o : State} {s : State} {p : Nat} {page : Nat} {off : Nat} {v : Nat} (h1 : Carries o
    s) : CarriesO o (State.commandLow s p page off v) := by
  unfold State.commandLow
  split
  · rename_i x1 x2
    exact CarriesO.some (weirHoldSuspendWrite_carries h1)
  · rename_i x3 x4
    exact CarriesO.some (pIte (P := Carries o) (commitRequest_carries h1) h1)
  · rename_i x5 x6
    exact CarriesO.some (State.pinWrite_carries h1)
  · rename_i x7 x8
    exact CarriesO.some (State.tableCmdWrite_carries h1)
  · rename_i x9 x10
    exact CarriesO.some (State.tableCmdWrite_carries h1)
  · rename_i x11 x12
    exact CarriesO.some (pIte (P := Carries o) (cisErrPop_carries h1) h1)
  · rename_i x13 x14
    exact CarriesO.some (State.tableCmdWrite_carries h1)
  · rename_i x15 x16
    exact CarriesO.some (State.hreqWrite_carries h1)
  · rename_i x17 x18
    exact CarriesO.some (State.lkgCmdWrite_carries h1)
  · rename_i x19 x20
    extract_lets +onlyGivenNames v21
    have h22 : Carries o v21 := by
      unfold v21
      exact State.fieldsWrite_carries h1
    clear_value v21
    exact CarriesO.some (pIte (P := Carries o) (pmpCeRestart_carries h22) h22)
  · rename_i x23 x24
    exact CarriesO.some (pmpPostWrite_carries h1)
  · rename_i x25 x26
    exact CarriesO.some (State.engCmdWrite_carries h1)
  · rename_i x27 x28 e29 e30 e31 e32 e33 e34 e35 e36 e37 e38 e39 e40
    refine pIte (P := CarriesO o) ?_ ?_
    · exact CarriesO.some (cisQuotaWrite_carries h1)
    · exact pIte (P := CarriesO o) (CarriesO.some (State.hlpEnWrite_carries h1)) CarriesO.none

theorem State.hostAccess_carries {o : State} {s : State} {page : Nat} {f : State → State} (h1 : Carries o s) (h3 : ∀
    y0, Carries o y0 → Carries o (f y0)) : Carries o (State.hostAccess s page f) := by
  unfold State.hostAccess
  extract_lets +onlyGivenNames v1
  have h2 : Carries o v1 := by
    unfold v1
    exact State.hostWakes_carries h1
  clear_value v1
  refine pIte (P := Carries o) ?_ ?_
  · exact h2
  · apply h3
    exact h2

theorem State.hostWr_carries {o : State} {s : State} {p : Nat} {page : Nat} {f : State → State} (h1 : Carries o s) (h4
    : ∀ y0, Carries o y0 → Carries o (f y0)) : Carries o (State.hostWr s p page f) := by
  unfold State.hostWr
  refine pIte (P := Carries o) ?_ ?_
  · refine State.hostAccess_carries ?_ ?_
    · exact h1
    · intro s1 h2
      apply h4
      exact h2
  · exact h1

theorem State.hostCmd_carries {o : State} {s : State} {p : Nat} {page : Nat} {f : State → State} (h1 : Carries o s)
    (h4 : ∀ y0, Carries o y0 → Carries o (f y0)) : Carries o (State.hostCmd s p page f) := by
  unfold State.hostCmd
  refine pIte (P := Carries o) ?_ ?_
  · refine State.hostWr_carries ?_ ?_
    · exact h1
    · intro s1 h2
      apply h4
      exact h2
  · apply h4
    exact h1

theorem State.hostRd_carries {o : State} {s : State} {p : Nat} {page : Nat} {f : State → State} (h1 : Carries o s) (h4
    : ∀ y0, Carries o y0 → Carries o (f y0)) : Carries o (State.hostRd s p page f) := by
  unfold State.hostRd
  refine pIte (P := Carries o) ?_ ?_
  · refine State.hostAccess_carries ?_ ?_
    · exact h1
    · intro s1 h2
      apply h4
      exact h2
  · exact h1

theorem State.hostGet_carries {o : State} {s : State} {p : Nat} {page : Nat} {f : State → State} (h1 : Carries o s)
    (h4 : ∀ y0, Carries o y0 → Carries o (f y0)) : Carries o (State.hostGet s p page f) := by
  unfold State.hostGet
  refine pIte (P := Carries o) ?_ ?_
  · refine State.hostRd_carries ?_ ?_
    · exact h1
    · intro s1 h2
      apply h4
      exact h2
  · apply h4
    exact h1

theorem State.readMasked_carries {o : State} {s : State} {be : Nat} {f : State → State} (h1 : Carries o s) (h3 : ∀ y0,
    Carries o y0 → Carries o (f y0)) : Carries o (State.readMasked s be f) := by
  unfold State.readMasked
  refine pIte (P := Carries o) ?_ ?_
  · apply h3
    exact h1
  · exact carriesMk h1 rfl rfl rfl rfl

theorem State.readWord_carries {o : State} {s : State} {p : Nat} {page : Nat} {off : Nat} (h1 : Carries o s) : Carries
    o (State.readWord s p page off) := by
  unfold State.readWord
  split
  · rename_i x1 x2
    exact weirDomStat0Read_carries h1
  · rename_i x3 x4
    exact cisPoolCountRead_carries h1
  · rename_i x5 x6
    exact pmpDescRead_carries h1
  · rename_i x7 x8
    exact bsnChStat0Read_carries h1
  · rename_i x9 x10
    exact flogCountRead_carries h1
  · rename_i x11 x12
    exact flogDataRead_carries h1
  · rename_i x13 x14
    exact rsvCountRead_carries h1
  · rename_i x15 x16
    exact rsvDataRead_carries h1
  · rename_i x17 x18 e19 e20 e21 e22 e23 e24 e25 e26
    exact State.emit_carries (Carries2.snd (State.wordTake_carries h1))

theorem State.ruleCmd_carries {o : State} {s : State} {p : Nat} {f : State → State} (h1 : Carries o s) (h3 : ∀ y0,
    Carries o y0 → Carries o (f y0)) : Carries o (State.ruleCmd s p f) := by
  unfold State.ruleCmd
  refine pIte (P := Carries o) ?_ ?_
  · refine pIte (P := Carries o) ?_ ?_
    · apply h3
      exact h1
    · exact h1
  · refine State.hostCmd_carries ?_ ?_
    · exact h1
    · intro s1 h2
      apply h3
      exact h2

theorem State.wordWrite_carries {o : State} {s : State} {p : Nat} {page : Nat} {off : Nat} {v : Nat} (h1 : Carries o
    s) : Carries o (State.wordWrite s p page off v) := by
  unfold State.wordWrite
  split
  · rename_i x1 s2 e3
    have h4 := CarriesO.of (o := o) ?_ e3
    rotate_left
    · exact pIte (P := CarriesO o) (State.commandLow_carries h1) (State.commandHigh_carries h1)
    exact h4
  · rename_i x6 e7
    exact State.fieldsWrite_carries h1

theorem bar0PartialWrite_carries {o : State} {s : State} {p : Nat} (h1 : Carries o s) : Carries o (bar0PartialWrite s
    p) := by
  unfold bar0PartialWrite
  refine State.hostWr_carries ?_ ?_
  · exact h1
  · intro s1 h2
    exact State.event_carries (State.bumpFld_carries h2)

theorem counterLowWordRead_carries {o : State} {s : State} {p : Nat} {addr : Nat} {be : Nat} (h1 : Carries o s) :
    Carries o (counterLowWordRead s p addr be) := by
  unfold counterLowWordRead
  refine pIte (P := Carries o) ?_ ?_
  · exact h1
  · refine State.hostRd_carries ?_ ?_
    · exact h1
    · intro s1 h2
      refine State.readMasked_carries ?_ ?_
      · exact h2
      · intro s3 h4
        split
        · rename_i x5 x6 s7 e8
          have h9 := Carries2.of (o := o) ?_ e8
          rotate_left
          · exact State.wordTake_carries h4
          exact State.emit_carries h9

theorem rcFieldRead_carries {o : State} {s : State} {p : Nat} {addr : Nat} {be : Nat} (h1 : Carries o s) : Carries o
    (rcFieldRead s p addr be) := by
  unfold rcFieldRead
  refine pIte (P := Carries o) ?_ ?_
  · exact h1
  · refine State.hostRd_carries ?_ ?_
    · exact h1
    · intro s1 h2
      refine State.readMasked_carries ?_ ?_
      · exact h2
      · intro s3 h4
        exact State.readWord_carries h4

theorem registerWrite_carries {o : State} {s : State} {p : Nat} {bar2 : Bool} {addr : Nat} {v : Nat} (h1 : Carries o
    s) : Carries o (registerWrite s p bar2 addr v) := by
  unfold registerWrite
  refine pIte (P := Carries o) ?_ ?_
  · exact h1
  · refine pIte (P := Carries o) ?_ ?_
    · refine pIte (P := Carries o) ?_ ?_
      · refine State.hostWr_carries ?_ ?_
        · exact h1
        · intro s1 h2
          exact State.bar2Write_carries h2
      · refine State.hostRd_carries ?_ ?_
        · exact h1
        · intro s3 h4
          exact State.bar2Write_carries h4
    · refine pIte (P := Carries o) ?_ ?_
      · refine State.hostWr_carries ?_ ?_
        · exact h1
        · intro s5 h6
          exact State.wordWrite_carries h6
      · exact pIte (P := Carries o) (State.wordWrite_carries h1) h1

/-! ### Spi -/

theorem State.miso_carries {o : State} {s : State} {s0 : State} {more : List Byte} (h1 : Carries o s) (h2 : Carries o
    s0) : Carries o (State.miso s s0 more) := by
  unfold State.miso
  exact State.emit_carries h1

theorem State.spiWakes_carries {o : State} {s : State} {s0 : State} (h1 : Carries o s) (h2 : Carries o s0) : Carries o
    (State.spiWakes s s0) := by
  unfold State.spiWakes
  extract_lets +onlyGivenNames v1
  exact pIte (P := Carries o) (wakeEvent_carries h1) h1

theorem State.spiDone_carries {o : State} {s : State} {r : Nat} (h1 : Carries o s) : Carries o (State.spiDone s r) :=
    by
  unfold State.spiDone
  exact carriesMk h1 rfl rfl rfl rfl

theorem State.spiFrame_carries {o : State} {s : State} {now : Nat} {op : Nat} {frame : List Byte} {f : State → Nat ×
    List Byte × State} (h1 : Carries o s) (h5 : ∀ y0, Carries o y0 → Carries3 o (f y0)) : Carries o (State.spiFrame s
    now op frame f) := by
  unfold State.spiFrame
  extract_lets +onlyGivenNames v1
  have h2 : Carries o v1 := by
    unfold v1
    exact State.upTo_carries h1
  clear_value v1
  refine pIte (P := Carries o) ?_ ?_
  · exact h2
  · refine pIte (P := Carries o) ?_ ?_
    · exact State.miso_carries h2 h2
    · refine pIte (P := Carries o) ?_ ?_
      · exact State.miso_carries (carriesMk h2 rfl rfl rfl rfl) h2
      · split
        · rename_i x3 x4 x5 s6 e7
          have h8 := Carries3.of (o := o) ?_ e7
          rotate_left
          · apply h5
            exact h2
          exact State.spiWakes_carries (State.miso_carries (State.spiDone_carries h8) h2) h2

theorem State.spiAction_carries {o : State} {s : State} {now : Nat} {op : Nat} {frame : List Byte} {f : State → Nat ×
    State} (h1 : Carries o s) (h5 : ∀ y0, Carries o y0 → Carries2 o (f y0)) : Carries o (State.spiAction s now op
    frame f) := by
  unfold State.spiAction
  refine State.spiFrame_carries ?_ ?_
  · exact h1
  · intro s1 h2
    refine pIte (P := Carries3 o) ?_ ?_
    · exact Carries3.mk h2
    · split
      · rename_i x3 x4 s5 e6
        have h7 := Carries2.of (o := o) ?_ e6
        rotate_left
        · apply h5
          exact h2
        exact Carries3.mk h7

theorem State.spiWord_carries {o : State} {s : State} {page : Nat} {off : Nat} (h1 : Carries o s) : Carries2 o
    (State.spiWord s page off) := by
  unfold State.spiWord
  refine pIte (P := Carries2 o) ?_ ?_
  · exact Carries2.mk h1
  · extract_lets +onlyGivenNames v1
    have h2 : Carries o v1 := by
      unfold v1
      exact State.readWord_carries h1
    clear_value v1
    exact Carries2.mk (carriesMk h2 rfl rfl rfl rfl)

theorem spiRead_carries {o : State} {s : State} {now : Nat} {frame : List Byte} (h1 : Carries o s) : Carries o
    (spiRead s now frame) := by
  unfold spiRead
  refine State.spiFrame_carries ?_ ?_
  · exact h1
  · intro s1 h2
    extract_lets +onlyGivenNames v3
    refine pIte (P := Carries3 o) ?_ ?_
    · exact Carries3.mk h2
    · split
      · rename_i x4 x5 s6 e7
        have h8 := Carries2.of (o := o) ?_ e7
        rotate_left
        · exact State.spiWord_carries h2
        exact Carries3.mk h8

theorem spiWrite_carries {o : State} {s : State} {now : Nat} {frame : List Byte} (h1 : Carries o s) : Carries o
    (spiWrite s now frame) := by
  unfold spiWrite
  refine State.spiFrame_carries ?_ ?_
  · exact h1
  · intro s1 h2
    extract_lets +onlyGivenNames v3
    extract_lets +onlyGivenNames v4
    extract_lets +onlyGivenNames v5
    refine pIte (P := Carries3 o) ?_ ?_
    · exact Carries3.mk h2
    · refine pIte (P := Carries3 o) ?_ ?_
      · exact Carries3.mk (pIte (P := Carries o) (State.islCmd_carries h2) (State.wr_carries h2))
      · refine pIte (P := Carries3 o) ?_ ?_
        · exact Carries3.mk (State.xstatWrite_carries h2)
        · exact Carries3.mk (State.fieldsWrite_carries h2)

theorem spiReset_carries {o : State} {s : State} {now : Nat} {frame : List Byte} (h1 : Carries o s) : Carries o
    (spiReset s now frame) := by
  unfold spiReset
  refine State.spiAction_carries ?_ ?_
  · exact h1
  · intro s1 h2
    exact pIte (P := Carries2 o) (Carries2.mk h2) (Carries2.mk (State.deviceReset_carries h2))

theorem spiFreeze_carries {o : State} {s : State} {now : Nat} {frame : List Byte} (h1 : Carries o s) : Carries o
    (spiFreeze s now frame) := by
  unfold spiFreeze
  refine State.spiAction_carries ?_ ?_
  · exact h1
  · intro s1 h2
    exact Carries2.mk (Carries2.snd (State.freeze_carries h2))

theorem spiDry_carries {o : State} {s : State} {now : Nat} {frame : List Byte} (h1 : Carries o s) : Carries o (spiDry
    s now frame) := by
  unfold spiDry
  refine State.spiAction_carries ?_ ?_
  · exact h1
  · intro s1 h2
    exact pIte (P := Carries2 o) (Carries2.mk h2) (Carries2.mk (State.enterDry_carries h2))

theorem spiLockdown_carries {o : State} {s : State} {now : Nat} {frame : List Byte} (h1 : Carries o s) : Carries o
    (spiLockdown s now frame) := by
  unfold spiLockdown
  refine State.spiAction_carries ?_ ?_
  · exact h1
  · intro s1 h2
    exact Carries2.mk (State.lockdown_carries h2)

theorem spiFrameError_carries {o : State} {s : State} {now : Nat} {frame : List Byte} (h1 : Carries o s) : Carries o
    (spiFrameError s now frame) := by
  unfold spiFrameError
  extract_lets +onlyGivenNames v1
  have h2 : Carries o v1 := by
    unfold v1
    exact State.upTo_carries h1
  clear_value v1
  refine pIte (P := Carries o) ?_ ?_
  · exact h2
  · refine pIte (P := Carries o) ?_ ?_
    · exact State.miso_carries h2 h2
    · exact State.miso_carries (carriesMk h2 rfl rfl rfl rfl) h2

end Sys2Proof.Machine
end

