-- ==== Sys2Proof/Laws/CarryExec.lean ====
section
/-! SUPPORT. Every row of the opcode table answers a next state that carries. -/

namespace Sys2Proof.Machine

open Sys2Proof

/-! ### ExecData -/

theorem execLsTLd8u_answers {o : State} {t : Fin 1544} {x : W32} {s : State} (h : Carries o s) :
    Answers o (execLsTLd8u t x s) :=
  ⟨_, rfl, State.trigRow_carries h (fun _ h2 => lsLoad_carries h2)⟩

theorem execLsTLd8s_answers {o : State} {t : Fin 1544} {x : W32} {s : State} (h : Carries o s) :
    Answers o (execLsTLd8s t x s) :=
  ⟨_, rfl, State.trigRow_carries h (fun _ h2 => lsLoad_carries h2)⟩

theorem execLsTLd16u_answers {o : State} {t : Fin 1544} {x : W32} {s : State} (h : Carries o s) :
    Answers o (execLsTLd16u t x s) :=
  ⟨_, rfl, State.trigRow_carries h (fun _ h2 => lsLoad_carries h2)⟩

theorem execLsTLd16s_answers {o : State} {t : Fin 1544} {x : W32} {s : State} (h : Carries o s) :
    Answers o (execLsTLd16s t x s) :=
  ⟨_, rfl, State.trigRow_carries h (fun _ h2 => lsLoad_carries h2)⟩

theorem execLsTLd32_answers {o : State} {t : Fin 1544} {x : W32} {s : State} (h : Carries o s) :
    Answers o (execLsTLd32 t x s) :=
  ⟨_, rfl, State.trigRow_carries h (fun _ h2 => lsLoad_carries h2)⟩

theorem execLsTLd64_answers {o : State} {t : Fin 1544} {x : W32} {s : State} (h : Carries o s) :
    Answers o (execLsTLd64 t x s) :=
  ⟨_, rfl, State.trigRow_carries h (fun _ h2 => lsLoad_carries h2)⟩

theorem execLsTSt8_answers {o : State} {t : Fin 1544} {x : W32} {s : State} (h : Carries o s) :
    Answers o (execLsTSt8 t x s) :=
  ⟨_, rfl, State.trigRow_carries h (fun _ h2 => lsStore_carries h2)⟩

theorem execLsTSt16_answers {o : State} {t : Fin 1544} {x : W32} {s : State} (h : Carries o s) :
    Answers o (execLsTSt16 t x s) :=
  ⟨_, rfl, State.trigRow_carries h (fun _ h2 => lsStore_carries h2)⟩

theorem execLsTSt32_answers {o : State} {t : Fin 1544} {x : W32} {s : State} (h : Carries o s) :
    Answers o (execLsTSt32 t x s) :=
  ⟨_, rfl, State.trigRow_carries h (fun _ h2 => lsStore_carries h2)⟩

theorem execLsTSt64_answers {o : State} {t : Fin 1544} {x : W32} {s : State} (h : Carries o s) :
    Answers o (execLsTSt64 t x s) :=
  ⟨_, rfl, State.trigRow_carries h (fun _ h2 => lsStore_carries h2)⟩

theorem execLsTPf_answers {o : State} {t : Fin 1544} {x : W32} {s : State} (h : Carries o s) :
    Answers o (execLsTPf t x s) :=
  ⟨_, rfl, State.trigRow_carries h (fun _ h2 => lsPf_carries h2)⟩

theorem execLsTClean_answers {o : State} {t : Fin 1544} {x : W32} {s : State} (h : Carries o s) :
    Answers o (execLsTClean t x s) :=
  ⟨_, rfl, State.trigRow_carries h (fun _ h2 => lsClean_carries h2)⟩

theorem execLsTInv_answers {o : State} {t : Fin 1544} {x : W32} {s : State} (h : Carries o s) :
    Answers o (execLsTInv t x s) :=
  ⟨_, rfl, State.trigRow_carries h (fun _ h2 => lsInv_carries h2)⟩

theorem execLsTCinv_answers {o : State} {t : Fin 1544} {x : W32} {s : State} (h : Carries o s) :
    Answers o (execLsTCinv t x s) :=
  ⟨_, rfl, State.trigRow_carries h (fun _ h2 => lsCinv_carries h2)⟩

theorem execLsTFence_answers {o : State} {t : Fin 1544} {x : W32} {s : State} (h : Carries o s) :
    Answers o (execLsTFence t x s) :=
  ⟨_, rfl, State.trigRow_carries h (fun _ h2 => lsFence_carries h2)⟩

theorem execPwTLd8_answers {o : State} {t : Fin 1544} {x : W32} {s : State} (h : Carries o s) :
    Answers o (execPwTLd8 t x s) :=
  ⟨_, rfl, State.trigRow_carries h (fun _ h2 => pwLoad_carries h2)⟩

theorem execPwTLd16_answers {o : State} {t : Fin 1544} {x : W32} {s : State} (h : Carries o s) :
    Answers o (execPwTLd16 t x s) :=
  ⟨_, rfl, State.trigRow_carries h (fun _ h2 => pwLoad_carries h2)⟩

theorem execPwTLd32_answers {o : State} {t : Fin 1544} {x : W32} {s : State} (h : Carries o s) :
    Answers o (execPwTLd32 t x s) :=
  ⟨_, rfl, State.trigRow_carries h (fun _ h2 => pwLoad_carries h2)⟩

theorem execPwTSt8_answers {o : State} {t : Fin 1544} {x : W32} {s : State} (h : Carries o s) :
    Answers o (execPwTSt8 t x s) :=
  ⟨_, rfl, State.trigRow_carries h (fun _ h2 => pwStore_carries h2)⟩

theorem execPwTSt16_answers {o : State} {t : Fin 1544} {x : W32} {s : State} (h : Carries o s) :
    Answers o (execPwTSt16 t x s) :=
  ⟨_, rfl, State.trigRow_carries h (fun _ h2 => pwStore_carries h2)⟩

theorem execPwTSt32_answers {o : State} {t : Fin 1544} {x : W32} {s : State} (h : Carries o s) :
    Answers o (execPwTSt32 t x s) :=
  ⟨_, rfl, State.trigRow_carries h (fun _ h2 => pwStore_carries h2)⟩

theorem execPwTIns_answers {o : State} {t : Fin 1544} {x : W32} {s : State} (h : Carries o s) :
    Answers o (execPwTIns t x s) :=
  ⟨_, rfl, State.trigRow_carries h (fun _ h2 => pwIns_carries h2)⟩

theorem execPwTDel_answers {o : State} {t : Fin 1544} {x : W32} {s : State} (h : Carries o s) :
    Answers o (execPwTDel t x s) :=
  ⟨_, rfl, State.trigRow_carries h (fun _ h2 => pwDel_carries h2)⟩

theorem execPwTLen_answers {o : State} {t : Fin 1544} {x : W32} {s : State} (h : Carries o s) :
    Answers o (execPwTLen t x s) :=
  ⟨_, rfl, State.trigRow_carries h (fun _ h2 => pwLen_carries h2)⟩

theorem execDlTRd_answers {o : State} {t : Fin 1544} {x : W32} {s : State} (h : Carries o s) :
    Answers o (execDlTRd t x s) :=
  ⟨_, rfl, State.trigRow_carries h (fun _ h2 => dlRd_carries h2)⟩

theorem execDlTWr_answers {o : State} {t : Fin 1544} {x : W32} {s : State} (h : Carries o s) :
    Answers o (execDlTWr t x s) :=
  ⟨_, rfl, State.trigRow_carries h (fun _ h2 => dlWr_carries h2)⟩

theorem execDlTFlk_answers {o : State} {t : Fin 1544} {x : W32} {s : State} (h : Carries o s) :
    Answers o (execDlTFlk t x s) :=
  ⟨_, rfl, State.trigRow_carries h (fun _ h2 => dlFlk_carries h2)⟩

theorem execDlTKey_answers {o : State} {t : Fin 1544} {x : W32} {s : State} (h : Carries o s) :
    Answers o (execDlTKey t x s) :=
  ⟨_, rfl, State.trigRow_carries h (fun _ h2 => dlKey_carries h2)⟩

theorem execDlTLay_answers {o : State} {t : Fin 1544} {x : W32} {s : State} (h : Carries o s) :
    Answers o (execDlTLay t x s) :=
  ⟨_, rfl, State.trigRow_carries h (fun _ h2 => dlLay_carries h2)⟩

theorem execDlTPinfo_answers {o : State} {t : Fin 1544} {x : W32} {s : State} (h : Carries o s) :
    Answers o (execDlTPinfo t x s) :=
  ⟨_, rfl, State.trigRow_carries h (fun _ h2 => dlPinfo_carries h2)⟩

theorem execTlTL2_answers {o : State} {t : Fin 1544} {x : W32} {s : State} (h : Carries o s) :
    Answers o (execTlTL2 t x s) :=
  ⟨_, rfl, State.trigRow_carries h (fun _ h2 => tlL2_carries h2)⟩

theorem execTlTEp_answers {o : State} {t : Fin 1544} {x : W32} {s : State} (h : Carries o s) :
    Answers o (execTlTEp t x s) :=
  ⟨_, rfl, State.trigRow_carries h (fun _ h2 => tlEp_carries h2)⟩

theorem execTlTParam_answers {o : State} {t : Fin 1544} {x : W32} {s : State} (h : Carries o s) :
    Answers o (execTlTParam t x s) :=
  ⟨_, rfl, State.trigRow_carries h (fun _ h2 => tlParam_carries h2)⟩

theorem execTlTFfind_answers {o : State} {t : Fin 1544} {x : W32} {s : State} (h : Carries o s) :
    Answers o (execTlTFfind t x s) :=
  ⟨_, rfl, State.trigRow_carries h (fun _ h2 => tlFind_carries h2)⟩

theorem execTlTFget_answers {o : State} {t : Fin 1544} {x : W32} {s : State} (h : Carries o s) :
    Answers o (execTlTFget t x s) :=
  ⟨_, rfl, State.trigRow_carries h (fun _ h2 => tlFind_carries h2)⟩

theorem execTlTFread_answers {o : State} {t : Fin 1544} {x : W32} {s : State} (h : Carries o s) :
    Answers o (execTlTFread t x s) :=
  ⟨_, rfl, State.trigRow_carries h (fun _ h2 => tlRead_carries h2)⟩

theorem execTlTFwrite_answers {o : State} {t : Fin 1544} {x : W32} {s : State} (h : Carries o s) :
    Answers o (execTlTFwrite t x s) :=
  ⟨_, rfl, State.trigRow_carries h (fun _ h2 => tlWrite_carries h2)⟩

theorem execTlTFdel_answers {o : State} {t : Fin 1544} {x : W32} {s : State} (h : Carries o s) :
    Answers o (execTlTFdel t x s) :=
  ⟨_, rfl, State.trigRow_carries h (fun _ h2 => tlDelete_carries h2)⟩

theorem execChTPut_answers {o : State} {t : Fin 1544} {x : W32} {s : State} (h : Carries o s) :
    Answers o (execChTPut t x s) :=
  ⟨_, rfl, State.trigRow_carries h (fun _ h2 => chPut_carries h2)⟩

theorem execChTPutl_answers {o : State} {t : Fin 1544} {x : W32} {s : State} (h : Carries o s) :
    Answers o (execChTPutl t x s) :=
  ⟨_, rfl, State.trigRow_carries h (fun _ h2 => chPut_carries h2)⟩

theorem execChTGet_answers {o : State} {t : Fin 1544} {x : W32} {s : State} (h : Carries o s) :
    Answers o (execChTGet t x s) :=
  ⟨_, rfl, State.trigRow_carries h (fun _ h2 => chGet_carries h2)⟩

theorem execChTCount_answers {o : State} {t : Fin 1544} {x : W32} {s : State} (h : Carries o s) :
    Answers o (execChTCount t x s) :=
  ⟨_, rfl, State.trigRow_carries h (fun _ h2 => chCount_carries h2)⟩

theorem execChTWatch_answers {o : State} {t : Fin 1544} {x : W32} {s : State} (h : Carries o s) :
    Answers o (execChTWatch t x s) :=
  ⟨_, rfl, State.trigRow_carries h (fun _ h2 => chWatch_carries h2)⟩

theorem execChTUnwatch_answers {o : State} {t : Fin 1544} {x : W32} {s : State} (h : Carries o s) :
    Answers o (execChTUnwatch t x s) :=
  ⟨_, rfl, State.trigRow_carries h (fun _ h2 => chUnwatch_carries h2)⟩

theorem execAtTAdd_answers {o : State} {t : Fin 1544} {wide : Bool} {x : W32} {s : State} (h : Carries o s) :
    Answers o (execAtTAdd t wide x s) :=
  ⟨_, rfl, State.trigRow_carries h (fun _ h2 => atAdd_carries h2)⟩

theorem execAtTSub_answers {o : State} {t : Fin 1544} {wide : Bool} {x : W32} {s : State} (h : Carries o s) :
    Answers o (execAtTSub t wide x s) :=
  ⟨_, rfl, State.trigRow_carries h (fun _ h2 => atSub_carries h2)⟩

theorem execAtTSwap_answers {o : State} {t : Fin 1544} {wide : Bool} {x : W32} {s : State} (h : Carries o s) :
    Answers o (execAtTSwap t wide x s) :=
  ⟨_, rfl, State.trigRow_carries h (fun _ h2 => atSwap_carries h2)⟩

theorem execAtTCas_answers {o : State} {t : Fin 1544} {wide : Bool} {x : W32} {s : State} (h : Carries o s) :
    Answers o (execAtTCas t wide x s) :=
  ⟨_, rfl, State.trigRow_carries h (fun _ h2 => atCas_carries h2)⟩

theorem execAtTAnd_answers {o : State} {t : Fin 1544} {wide : Bool} {x : W32} {s : State} (h : Carries o s) :
    Answers o (execAtTAnd t wide x s) :=
  ⟨_, rfl, State.trigRow_carries h (fun _ h2 => atAnd_carries h2)⟩

theorem execAtTOr_answers {o : State} {t : Fin 1544} {wide : Bool} {x : W32} {s : State} (h : Carries o s) :
    Answers o (execAtTOr t wide x s) :=
  ⟨_, rfl, State.trigRow_carries h (fun _ h2 => atOr_carries h2)⟩

theorem execAtTMin_answers {o : State} {t : Fin 1544} {wide : Bool} {x : W32} {s : State} (h : Carries o s) :
    Answers o (execAtTMin t wide x s) :=
  ⟨_, rfl, State.trigRow_carries h (fun _ h2 => atMin_carries h2)⟩

theorem execAtTMax_answers {o : State} {t : Fin 1544} {wide : Bool} {x : W32} {s : State} (h : Carries o s) :
    Answers o (execAtTMax t wide x s) :=
  ⟨_, rfl, State.trigRow_carries h (fun _ h2 => atMax_carries h2)⟩

theorem execEvtTWait_answers {o : State} {t : Fin 1544} {x : W32} {s : State} (h : Carries o s) :
    Answers o (execEvtTWait t x s) :=
  ⟨_, rfl, State.trigRow_carries h (fun _ h2 => evtWait_carries h2)⟩

theorem execEvtTClr_answers {o : State} {t : Fin 1544} {x : W32} {s : State} (h : Carries o s) :
    Answers o (execEvtTClr t x s) :=
  ⟨_, rfl, State.trigRow_carries h (fun _ h2 => evtClr_carries h2)⟩

theorem execEvtTSig_answers {o : State} {t : Fin 1544} {x : W32} {s : State} (h : Carries o s) :
    Answers o (execEvtTSig t x s) :=
  ⟨_, rfl, State.trigRow_carries h (fun _ h2 => evtSig_carries h2)⟩

theorem execEvtTMget_answers {o : State} {t : Fin 1544} {x : W32} {s : State} (h : Carries o s) :
    Answers o (execEvtTMget t x s) :=
  ⟨_, rfl, State.trigRow_carries h (fun _ h2 => evtMget_carries h2)⟩

theorem execTmTStart_answers {o : State} {t : Fin 1544} {x : W32} {s : State} (h : Carries o s) :
    Answers o (execTmTStart t x s) :=
  ⟨_, rfl, State.trigRow_carries h (fun _ h2 => tmStart_carries h2)⟩

theorem execTmTStop_answers {o : State} {t : Fin 1544} {x : W32} {s : State} (h : Carries o s) :
    Answers o (execTmTStop t x s) :=
  ⟨_, rfl, State.trigRow_carries h (fun _ h2 => tmStop_carries h2)⟩

theorem execTmTNow_answers {o : State} {t : Fin 1544} {x : W32} {s : State} (h : Carries o s) :
    Answers o (execTmTNow t x s) :=
  ⟨_, rfl, State.trigRow_carries h (fun _ h2 => tmNow_carries h2)⟩

theorem execTmTNet_answers {o : State} {t : Fin 1544} {x : W32} {s : State} (h : Carries o s) :
    Answers o (execTmTNet t x s) :=
  ⟨_, rfl, State.trigRow_carries h (fun _ h2 => tmNet_carries h2)⟩

theorem execCsTAlloc_answers {o : State} {t : Fin 1544} {x : W32} {s : State} (h : Carries o s) :
    Answers o (execCsTAlloc t x s) :=
  ⟨_, rfl, State.trigRow_carries h (fun _ h2 => csAlloc_carries h2)⟩

theorem execCsTFree_answers {o : State} {t : Fin 1544} {x : W32} {s : State} (h : Carries o s) :
    Answers o (execCsTFree t x s) :=
  ⟨_, rfl, State.trigRow_carries h (fun _ h2 => csFree_carries h2)⟩

theorem execCsTRef_answers {o : State} {t : Fin 1544} {x : W32} {s : State} (h : Carries o s) :
    Answers o (execCsTRef t x s) :=
  ⟨_, rfl, State.trigRow_carries h (fun _ h2 => csRef_carries h2)⟩

theorem execCsTAddr_answers {o : State} {t : Fin 1544} {x : W32} {s : State} (h : Carries o s) :
    Answers o (execCsTAddr t x s) :=
  ⟨_, rfl, State.trigRow_carries h (fun _ h2 => csAddr_carries h2)⟩

theorem execCsTInfo_answers {o : State} {t : Fin 1544} {x : W32} {s : State} (h : Carries o s) :
    Answers o (execCsTInfo t x s) :=
  ⟨_, rfl, State.trigRow_carries h (fun _ h2 => csInfo_carries h2)⟩

/-! ### ExecUnits -/

theorem execLkTAcq_answers {o : State} {t : Fin 1544} {x : W32} {s : State} (h : Carries o s) :
    Answers o (execLkTAcq t x s) :=
  ⟨_, rfl, State.trigRow_carries h (fun _ h2 => lkAcquire_carries h2)⟩

theorem execLkTTry_answers {o : State} {t : Fin 1544} {x : W32} {s : State} (h : Carries o s) :
    Answers o (execLkTTry t x s) :=
  ⟨_, rfl, State.trigRow_carries h (fun _ h2 => lkAcquire_carries h2)⟩

theorem execLkTRel_answers {o : State} {t : Fin 1544} {x : W32} {s : State} (h : Carries o s) :
    Answers o (execLkTRel t x s) :=
  ⟨_, rfl, State.trigRow_carries h (fun _ h2 => lkRelease_carries h2)⟩

theorem execLkTCancel_answers {o : State} {t : Fin 1544} {x : W32} {s : State} (h : Carries o s) :
    Answers o (execLkTCancel t x s) :=
  ⟨_, rfl, State.trigRow_carries h (fun _ h2 => lkCancel_carries h2)⟩

theorem execLkTQuery_answers {o : State} {t : Fin 1544} {x : W32} {s : State} (h : Carries o s) :
    Answers o (execLkTQuery t x s) :=
  ⟨_, rfl, State.trigRow_carries h (fun _ h2 => lkQuery_carries h2)⟩

theorem execWcTNext_answers {o : State} {t : Fin 1544} {x : W32} {s : State} (h : Carries o s) :
    Answers o (execWcTNext t x s) :=
  ⟨_, rfl, State.trigRow_carries h (fun _ h2 => wcNext_carries h2)⟩

theorem execWcTSend_answers {o : State} {t : Fin 1544} {x : W32} {s : State} (h : Carries o s) :
    Answers o (execWcTSend t x s) :=
  ⟨_, rfl, State.trigRow_carries h (fun _ h2 => wcSend_carries h2)⟩

theorem execWcTDry_answers {o : State} {t : Fin 1544} {x : W32} {s : State} (h : Carries o s) :
    Answers o (execWcTDry t x s) :=
  ⟨_, rfl, State.trigRow_carries h (fun _ h2 => wcDry_carries h2)⟩

theorem execWcTRecirc_answers {o : State} {t : Fin 1544} {x : W32} {s : State} (h : Carries o s) :
    Answers o (execWcTRecirc t x s) :=
  ⟨_, rfl, State.trigRow_carries h (fun _ h2 => wcRecirc_carries h2)⟩

theorem execSqTOrig_answers {o : State} {t : Fin 1544} {x : W32} {s : State} (h : Carries o s) :
    Answers o (execSqTOrig t x s) :=
  ⟨_, rfl, State.trigRow_carries h (fun _ h2 => sqOrig_carries h2)⟩

theorem execSqTDepth_answers {o : State} {t : Fin 1544} {x : W32} {s : State} (h : Carries o s) :
    Answers o (execSqTDepth t x s) :=
  ⟨_, rfl, State.trigRow_carries h (fun _ h2 => sqDepth_carries h2)⟩

theorem execHelperTClaim_answers {o : State} {t : Fin 1544} {a1 : Fin 2} {x : W32} {s : State} (h : Carries o s) :
    Answers o (execHelperTClaim t a1 x s) :=
  ⟨_, rfl, State.trigRow_carries h (fun _ h2 => hlpClaim_carries h2)⟩

theorem execHelperTRel_answers {o : State} {t : Fin 1544} {a1 : Fin 2} {x : W32} {s : State} (h : Carries o s) :
    Answers o (execHelperTRel t a1 x s) :=
  ⟨_, rfl, State.trigRow_carries h (fun _ h2 => hlpRel_carries h2)⟩

theorem execHelperTWr_answers {o : State} {t : Fin 1544} {a1 : Fin 2} {x : W32} {s : State} (h : Carries o s) :
    Answers o (execHelperTWr t a1 x s) :=
  ⟨_, rfl, State.trigRow_carries h (fun _ h2 => hlpWr_carries h2)⟩

theorem execHelperTRd_answers {o : State} {t : Fin 1544} {a1 : Fin 2} {x : W32} {s : State} (h : Carries o s) :
    Answers o (execHelperTRd t a1 x s) :=
  ⟨_, rfl, State.trigRow_carries h (fun _ h2 => hlpRd_carries h2)⟩

theorem execHelperTFeed_answers {o : State} {t : Fin 1544} {a1 : Fin 2} {x : W32} {s : State} (h : Carries o s) :
    Answers o (execHelperTFeed t a1 x s) :=
  ⟨_, rfl, State.trigRow_carries h (fun _ h2 => hlpFeed_carries h2)⟩

theorem execGcmInit_answers {o : State} {t : Fin 1544} {x : W32} {s : State} (h : Carries o s) :
    Answers o (execGcmInit t x s) :=
  ⟨_, rfl, State.trigRow_carries h (fun _ h2 => opGcmInit_carries h2)⟩

theorem execGcmAad_answers {o : State} {t : Fin 1544} {x : W32} {s : State} (h : Carries o s) :
    Answers o (execGcmAad t x s) :=
  ⟨_, rfl, State.trigRow_carries h (fun _ h2 => opGcmAad_carries h2)⟩

theorem execGcmEnc_answers {o : State} {t : Fin 1544} {x : W32} {s : State} (h : Carries o s) :
    Answers o (execGcmEnc t x s) :=
  ⟨_, rfl, State.trigRow_carries h (fun _ h2 => opGcmEnc_carries h2)⟩

theorem execGcmDec_answers {o : State} {t : Fin 1544} {x : W32} {s : State} (h : Carries o s) :
    Answers o (execGcmDec t x s) :=
  ⟨_, rfl, State.trigRow_carries h (fun _ h2 => opGcmDec_carries h2)⟩

theorem execGcmTag_answers {o : State} {t : Fin 1544} {x : W32} {s : State} (h : Carries o s) :
    Answers o (execGcmTag t x s) :=
  ⟨_, rfl, State.trigRow_carries h (fun _ h2 => opGcmTag_carries h2)⟩

theorem execCmacInit_answers {o : State} {t : Fin 1544} {x : W32} {s : State} (h : Carries o s) :
    Answers o (execCmacInit t x s) :=
  ⟨_, rfl, State.trigRow_carries h (fun _ h2 => opCmacInit_carries h2)⟩

theorem execCmacData_answers {o : State} {t : Fin 1544} {x : W32} {s : State} (h : Carries o s) :
    Answers o (execCmacData t x s) :=
  ⟨_, rfl, State.trigRow_carries h (fun _ h2 => opCmacData_carries h2)⟩

theorem execCmacTag_answers {o : State} {t : Fin 1544} {x : W32} {s : State} (h : Carries o s) :
    Answers o (execCmacTag t x s) :=
  ⟨_, rfl, State.trigRow_carries h (fun _ h2 => opCmacTag_carries h2)⟩

theorem execAesBlk_answers {o : State} {t : Fin 1544} {x : W32} {s : State} (h : Carries o s) :
    Answers o (execAesBlk t x s) :=
  ⟨_, rfl, State.trigRow_carries h (fun _ h2 => opAesBlk_carries h2)⟩

theorem execEq_answers {o : State} {t : Fin 1544} {x : W32} {s : State} (h : Carries o s) :
    Answers o (execEq t x s) :=
  ⟨_, rfl, State.trigRow_carries h (fun _ h2 => opEq_carries h2)⟩

theorem execCrcOpen_answers {o : State} {t : Fin 1544} {x : W32} {s : State} (h : Carries o s) :
    Answers o (execCrcOpen t x s) :=
  ⟨_, rfl, State.trigRow_carries h (fun _ h2 => opCrcOpen_carries h2)⟩

theorem execCrcReg_answers {o : State} {t : Fin 1544} {x : W32} {s : State} (h : Carries o s) :
    Answers o (execCrcReg t x s) :=
  ⟨_, rfl, State.trigRow_carries h (fun _ h2 => opCrcReg_carries h2)⟩

theorem execCrcEnd_answers {o : State} {t : Fin 1544} {x : W32} {s : State} (h : Carries o s) :
    Answers o (execCrcEnd t x s) :=
  ⟨_, rfl, State.trigRow_carries h (fun _ h2 => opCrcEnd_carries h2)⟩

theorem execCsumOpen_answers {o : State} {t : Fin 1544} {x : W32} {s : State} (h : Carries o s) :
    Answers o (execCsumOpen t x s) :=
  ⟨_, rfl, State.trigRow_carries h (fun _ h2 => opCsumOpen_carries h2)⟩

theorem execCsumReg_answers {o : State} {t : Fin 1544} {x : W32} {s : State} (h : Carries o s) :
    Answers o (execCsumReg t x s) :=
  ⟨_, rfl, State.trigRow_carries h (fun _ h2 => opCsumReg_carries h2)⟩

theorem execCsumEnd_answers {o : State} {t : Fin 1544} {x : W32} {s : State} (h : Carries o s) :
    Answers o (execCsumEnd t x s) :=
  ⟨_, rfl, State.trigRow_carries h (fun _ h2 => opCsumEnd_carries h2)⟩

theorem execHash_answers {o : State} {t : Fin 1544} {x : W32} {s : State} (h : Carries o s) :
    Answers o (execHash t x s) :=
  ⟨_, rfl, State.trigRow_carries h (fun _ h2 => opHash_carries h2)⟩

theorem execSvTInfo_answers {o : State} {t : Fin 1544} {x : W32} {s : State} (h : Carries o s) :
    Answers o (execSvTInfo t x s) :=
  ⟨_, rfl, State.trigRow_carries h (fun _ h2 => svInfo_carries h2)⟩

theorem execSvTGetreg_answers {o : State} {t : Fin 1544} {x : W32} {s : State} (h : Carries o s) :
    Answers o (execSvTGetreg t x s) :=
  ⟨_, rfl, State.trigRow_carries h (fun _ h2 => svGetreg_carries h2)⟩

theorem execSvTSetreg_answers {o : State} {t : Fin 1544} {x : W32} {s : State} (h : Carries o s) :
    Answers o (execSvTSetreg t x s) :=
  ⟨_, rfl, State.trigRow_carries h (fun _ h2 => svSetreg_carries h2)⟩

theorem execSvTHeld_answers {o : State} {t : Fin 1544} {x : W32} {s : State} (h : Carries o s) :
    Answers o (execSvTHeld t x s) :=
  ⟨_, rfl, State.trigRow_carries h (fun _ h2 => svHeld_carries h2)⟩

theorem execSvTResume_answers {o : State} {t : Fin 1544} {x : W32} {s : State} (h : Carries o s) :
    Answers o (execSvTResume t x s) :=
  ⟨_, rfl, State.trigRow_carries h (fun _ h2 => svResume_carries h2)⟩

theorem execSvTPark_answers {o : State} {t : Fin 1544} {x : W32} {s : State} (h : Carries o s) :
    Answers o (execSvTPark t x s) :=
  ⟨_, rfl, State.trigRow_carries h (fun _ h2 => svPark_carries h2)⟩

theorem execSvTAck_answers {o : State} {t : Fin 1544} {x : W32} {s : State} (h : Carries o s) :
    Answers o (execSvTAck t x s) :=
  ⟨_, rfl, State.trigRow_carries h (fun _ h2 => svAck_carries h2)⟩

theorem execSvTReset_answers {o : State} {t : Fin 1544} {x : W32} {s : State} (h : Carries o s) :
    Answers o (execSvTReset t x s) :=
  ⟨_, rfl, State.trigRow_carries h (fun _ h2 => svReset_carries h2)⟩

theorem execDbgTBrk_answers {o : State} {t : Fin 1544} {x : W32} {s : State} (h : Carries o s) :
    Answers o (execDbgTBrk t x s) :=
  ⟨_, rfl, State.trigRow_carries h (fun _ h2 => dbgBrk_carries h2)⟩

theorem execDbgTMark_answers {o : State} {t : Fin 1544} {x : W32} {s : State} (h : Carries o s) :
    Answers o (execDbgTMark t x s) :=
  ⟨_, rfl, State.trigRow_carries h (fun _ h2 => dbgMark_carries h2)⟩

theorem execCxTEret_answers {o : State} {ce : Fin 8} {x : W32} {s : State} (h : Carries o s) :
    Answers o (execCxTEret ce x s) :=
  ⟨_, rfl, State.trigRow_carries h (fun _ h2 => cxEret_carries h2)⟩

theorem execCxTTlbinv_answers {o : State} {ce : Fin 8} {x : W32} {s : State} (h : Carries o s) :
    Answers o (execCxTTlbinv ce x s) :=
  ⟨_, rfl, State.trigRow_carries h (fun _ h2 => cxTlbinv_carries h2)⟩

theorem execCxTTlbflush_answers {o : State} {ce : Fin 8} {x : W32} {s : State} (h : Carries o s) :
    Answers o (execCxTTlbflush ce x s) :=
  ⟨_, rfl, State.trigRow_carries h (fun _ h2 => cxTlbflush_carries h2)⟩

theorem execPmpTWait_answers {o : State} {ce : Fin 8} {x : W32} {s : State} (h : Carries o s) :
    Answers o (execPmpTWait ce x s) :=
  ⟨_, rfl, State.trigRow_carries h (fun _ h2 => pmpWait_carries h2)⟩

theorem execPmpTPost_answers {o : State} {ce : Fin 8} {x : W32} {s : State} (h : Carries o s) :
    Answers o (execPmpTPost ce x s) :=
  ⟨_, rfl, State.trigRow_carries h (fun _ h2 => pmpPost_carries h2)⟩

theorem execPmpTYield_answers {o : State} {ce : Fin 8} {x : W32} {s : State} (h : Carries o s) :
    Answers o (execPmpTYield ce x s) :=
  ⟨_, rfl, State.trigRow_carries h (fun _ h2 => pmpYield_carries h2)⟩

theorem execPmpTDwr_answers {o : State} {ce : Fin 8} {x : W32} {s : State} (h : Carries o s) :
    Answers o (execPmpTDwr ce x s) :=
  ⟨_, rfl, State.trigRow_carries h (fun _ h2 => pmpDwr_carries h2)⟩

theorem execPmpTDrd_answers {o : State} {ce : Fin 8} {x : W32} {s : State} (h : Carries o s) :
    Answers o (execPmpTDrd ce x s) :=
  ⟨_, rfl, State.trigRow_carries h (fun _ h2 => pmpDrd_carries h2)⟩

theorem execPmpTStart_answers {o : State} {ce : Fin 8} {x : W32} {s : State} (h : Carries o s) :
    Answers o (execPmpTStart ce x s) :=
  ⟨_, rfl, State.trigRow_carries h (fun _ h2 => pmpStart_carries h2)⟩

theorem execPmpTDel_answers {o : State} {ce : Fin 8} {x : W32} {s : State} (h : Carries o s) :
    Answers o (execPmpTDel ce x s) :=
  ⟨_, rfl, State.trigRow_carries h (fun _ h2 => pmpDel_carries h2)⟩

theorem execPmpTSend_answers {o : State} {ce : Fin 8} {x : W32} {s : State} (h : Carries o s) :
    Answers o (execPmpTSend ce x s) :=
  ⟨_, rfl, State.trigRow_carries h (fun _ h2 => pmpSend_carries h2)⟩

theorem execLkpTForce_answers {o : State} {ce : Fin 8} {x : W32} {s : State} (h : Carries o s) :
    Answers o (execLkpTForce ce x s) :=
  ⟨_, rfl, State.trigRow_carries h (fun _ h2 => lkpForce_carries h2)⟩

theorem execLkpTSetcount_answers {o : State} {ce : Fin 8} {x : W32} {s : State} (h : Carries o s) :
    Answers o (execLkpTSetcount ce x s) :=
  ⟨_, rfl, State.trigRow_carries h (fun _ h2 => lkpSetcount_carries h2)⟩

theorem execEdgTTx_answers {o : State} {ce : Fin 8} {x : W32} {s : State} (h : Carries o s) :
    Answers o (execEdgTTx ce x s) :=
  ⟨_, rfl, State.trigRow_carries h (fun _ h2 => edgTx_carries h2)⟩

theorem execEdgTRoom_answers {o : State} {ce : Fin 8} {x : W32} {s : State} (h : Carries o s) :
    Answers o (execEdgTRoom ce x s) :=
  ⟨_, rfl, State.trigRow_carries h (fun _ h2 => edgRoom_carries h2)⟩

theorem execEdgTTs_answers {o : State} {ce : Fin 8} {x : W32} {s : State} (h : Carries o s) :
    Answers o (execEdgTTs ce x s) :=
  ⟨_, rfl, State.trigRow_carries h (fun _ h2 => edgTs_carries h2)⟩

/-! ### ExecMemory -/

theorem execPoolRefillDone_answers {o : State} {pool : Fin 256} {s : State} (h : Carries o s) :
    Answers o (execPoolRefillDone pool s) :=
  ⟨_, rfl, poolRefillDone_carries h⟩

theorem execPoolSpillDone_answers {o : State} {pool : Fin 256} {s : State} (h : Carries o s) :
    Answers o (execPoolSpillDone pool s) :=
  ⟨_, rfl, poolSpillDone_carries h⟩

theorem execBufferScrubDone_answers {o : State} {pool : Fin 256} {handle : BitVec 24} {s : State} (h : Carries o s) :
    Answers o (execBufferScrubDone pool handle s) :=
  ⟨_, rfl, bufferScrubDone_carries h⟩

theorem execCisQuotaWrite_answers {o : State} {part : Fin 4} {p : Fin 5} {v : W32} {s : State} (h : Carries o s) :
    Answers o (execCisQuotaWrite part p v s) :=
  ⟨_, rfl, State.hostCmd_carries h (fun _ h2 => cisQuotaWrite_carries h2)⟩

theorem execCisErrPop_answers {o : State} {part : Fin 4} {s : State} (h : Carries o s) :
    Answers o (execCisErrPop part s) :=
  ⟨_, rfl, State.hostCmd_carries h (fun _ h2 => cisErrPop_carries h2)⟩

theorem execIpdCommandIssue_answers {o : State} {now : Nat} {pc : Fin 32} {s : State} (h : Carries o s) :
    Answers o (execIpdCommandIssue now pc s) :=
  ⟨_, rfl, ipdCommandIssue_carries h⟩

theorem execIpdAccessComplete_answers {o : State} {pc : Fin 32} {ecc : Fin 3} {s : State} (h : Carries o s) :
    Answers o (execIpdAccessComplete pc ecc s) :=
  ⟨_, rfl, ipdAccessComplete_carries h⟩

theorem execRefresh_answers {o : State} {pc : Fin 32} {bank : Fin 16} {periodStart : Bool} {s : State} (h : Carries o
    s) :
    Answers o (execRefresh pc bank periodStart s) :=
  ⟨_, rfl, refresh_carries h⟩

theorem execPatrolScrub_answers {o : State} {line : Fin 134217728} {ecc : List (Fin 3)} {s : State} (h : Carries o s)
    :
    Answers o (execPatrolScrub line ecc s) :=
  ⟨_, rfl, patrolScrub_carries h⟩

theorem execTrackingStep_answers {o : State} {pc : Fin 32} {windowEnd : Bool} {s : State} (h : Carries o s) :
    Answers o (execTrackingStep pc windowEnd s) :=
  ⟨_, rfl, trackingStep_carries h⟩

theorem execFullRetrainStart_answers {o : State} {pc : Fin 32} {s : State} (h : Carries o s) :
    Answers o (execFullRetrainStart pc s) :=
  ⟨_, rfl, fullRetrainStart_carries h⟩

theorem execFullRetrainEnd_answers {o : State} {pc : Fin 32} {works : Bool} {temp : BitVec 8} {margin : BitVec 8} {s :
    State} (h : Carries o s) :
    Answers o (execFullRetrainEnd pc works temp margin s) :=
  ⟨_, rfl, fullRetrainEnd_carries h⟩

theorem execPcRetireStart_answers {o : State} {pc : Fin 32} {works16 : Bool} {works33 : Bool} {s : State} (h : Carries
    o s) :
    Answers o (execPcRetireStart pc works16 works33 s) :=
  ⟨_, rfl, pcRetireStart_carries h⟩

theorem execPcRetireComplete_answers {o : State} {pc : Fin 32} {bad : List Nat} {s : State} (h : Carries o s) :
    Answers o (execPcRetireComplete pc bad s) :=
  ⟨_, rfl, pcRetireComplete_carries h⟩

theorem execCacheFillComplete_answers {o : State} {cache : Fin 221} {line : Fin 134217728} {s : State} (h : Carries o
    s) :
    Answers o (execCacheFillComplete cache line s) :=
  ⟨_, rfl, cacheFillComplete_carries h⟩

theorem execEvictionWriteback_answers {o : State} {cache : Fin 221} {s : State} (h : Carries o s) :
    Answers o (execEvictionWriteback cache s) :=
  ⟨_, rfl, evictionWriteback_carries h⟩

theorem execCisPoolCountRead_answers {o : State} {part : Fin 4} {s : State} (h : Carries o s) :
    Answers o (execCisPoolCountRead part s) :=
  ⟨_, rfl, State.hostGet_carries h (fun _ h2 => cisPoolCountRead_carries h2)⟩

/-! ### ExecCore -/

theorem execBundleIssue_answers {o : State} {turn : Turn} {s : State} (h : Carries o s) :
    Answers o (execBundleIssue turn s) :=
  ⟨_, rfl, bundleIssue_carries h⟩

theorem execUnitOperationComplete_answers {o : State} {t : Fin 1544} {unit : Fin 32} {s : State} (h : Carries o s) :
    Answers o (execUnitOperationComplete t unit s) :=
  ⟨_, rfl, unitOperationComplete_carries h⟩

theorem execPcTJump_answers {o : State} {t : Fin 1544} {x : W32} {s : State} (h : Carries o s) :
    Answers o (execPcTJump t x s) :=
  ⟨_, rfl, State.trigRow_carries h (fun _ h2 => pcJump_carries h2)⟩

theorem execPcTBr_answers {o : State} {t : Fin 1544} {x : W32} {s : State} (h : Carries o s) :
    Answers o (execPcTBr t x s) :=
  ⟨_, rfl, State.trigRow_carries h (fun _ h2 => pcBr_carries h2)⟩

theorem execPcTCall_answers {o : State} {t : Fin 1544} {x : W32} {s : State} (h : Carries o s) :
    Answers o (execPcTCall t x s) :=
  ⟨_, rfl, State.trigRow_carries h (fun _ h2 => pcCall_carries h2)⟩

theorem execPcTRet_answers {o : State} {t : Fin 1544} {x : W32} {s : State} (h : Carries o s) :
    Answers o (execPcTRet t x s) :=
  ⟨_, rfl, State.trigRow_carries h (fun _ h2 => pcRet_carries h2)⟩

theorem execPcTHalt_answers {o : State} {t : Fin 1544} {x : W32} {s : State} (h : Carries o s) :
    Answers o (execPcTHalt t x s) :=
  ⟨_, rfl, State.trigRow_carries h (fun _ h2 => pcHalt_carries h2)⟩

theorem execLpTBegin_answers {o : State} {t : Fin 1544} {x : W32} {s : State} (h : Carries o s) :
    Answers o (execLpTBegin t x s) :=
  ⟨_, rfl, State.trigRow_carries h (fun _ h2 => lpBegin_carries h2)⟩

theorem execLpTBrk_answers {o : State} {t : Fin 1544} {x : W32} {s : State} (h : Carries o s) :
    Answers o (execLpTBrk t x s) :=
  ⟨_, rfl, State.trigRow_carries h (fun _ h2 => lpBrk_carries h2)⟩

theorem execAluTAdd_answers {o : State} {t : Fin 1544} {alu : Fin 2} {x : W32} {s : State} (h : Carries o s) :
    Answers o (execAluTAdd t alu x s) :=
  ⟨_, rfl, State.trigRow_carries h (fun _ h2 => aluAdd_carries h2)⟩

theorem execAluTSub_answers {o : State} {t : Fin 1544} {alu : Fin 2} {x : W32} {s : State} (h : Carries o s) :
    Answers o (execAluTSub t alu x s) :=
  ⟨_, rfl, State.trigRow_carries h (fun _ h2 => aluSub_carries h2)⟩

theorem execAluTAnd_answers {o : State} {t : Fin 1544} {alu : Fin 2} {x : W32} {s : State} (h : Carries o s) :
    Answers o (execAluTAnd t alu x s) :=
  ⟨_, rfl, State.trigRow_carries h (fun _ h2 => aluAnd_carries h2)⟩

theorem execAluTOr_answers {o : State} {t : Fin 1544} {alu : Fin 2} {x : W32} {s : State} (h : Carries o s) :
    Answers o (execAluTOr t alu x s) :=
  ⟨_, rfl, State.trigRow_carries h (fun _ h2 => aluOr_carries h2)⟩

theorem execAluTXor_answers {o : State} {t : Fin 1544} {alu : Fin 2} {x : W32} {s : State} (h : Carries o s) :
    Answers o (execAluTXor t alu x s) :=
  ⟨_, rfl, State.trigRow_carries h (fun _ h2 => aluXor_carries h2)⟩

theorem execAluTAndn_answers {o : State} {t : Fin 1544} {alu : Fin 2} {x : W32} {s : State} (h : Carries o s) :
    Answers o (execAluTAndn t alu x s) :=
  ⟨_, rfl, State.trigRow_carries h (fun _ h2 => aluAndn_carries h2)⟩

theorem execAluTShl_answers {o : State} {t : Fin 1544} {alu : Fin 2} {x : W32} {s : State} (h : Carries o s) :
    Answers o (execAluTShl t alu x s) :=
  ⟨_, rfl, State.trigRow_carries h (fun _ h2 => aluShl_carries h2)⟩

theorem execAluTShr_answers {o : State} {t : Fin 1544} {alu : Fin 2} {x : W32} {s : State} (h : Carries o s) :
    Answers o (execAluTShr t alu x s) :=
  ⟨_, rfl, State.trigRow_carries h (fun _ h2 => aluShr_carries h2)⟩

theorem execAluTSar_answers {o : State} {t : Fin 1544} {alu : Fin 2} {x : W32} {s : State} (h : Carries o s) :
    Answers o (execAluTSar t alu x s) :=
  ⟨_, rfl, State.trigRow_carries h (fun _ h2 => aluSar_carries h2)⟩

theorem execAluTRotl_answers {o : State} {t : Fin 1544} {alu : Fin 2} {x : W32} {s : State} (h : Carries o s) :
    Answers o (execAluTRotl t alu x s) :=
  ⟨_, rfl, State.trigRow_carries h (fun _ h2 => aluRotl_carries h2)⟩

theorem execAluTMin_answers {o : State} {t : Fin 1544} {alu : Fin 2} {x : W32} {s : State} (h : Carries o s) :
    Answers o (execAluTMin t alu x s) :=
  ⟨_, rfl, State.trigRow_carries h (fun _ h2 => aluMin_carries h2)⟩

theorem execAluTMax_answers {o : State} {t : Fin 1544} {alu : Fin 2} {x : W32} {s : State} (h : Carries o s) :
    Answers o (execAluTMax t alu x s) :=
  ⟨_, rfl, State.trigRow_carries h (fun _ h2 => aluMax_carries h2)⟩

theorem execAluTMinu_answers {o : State} {t : Fin 1544} {alu : Fin 2} {x : W32} {s : State} (h : Carries o s) :
    Answers o (execAluTMinu t alu x s) :=
  ⟨_, rfl, State.trigRow_carries h (fun _ h2 => aluMinu_carries h2)⟩

theorem execAluTMaxu_answers {o : State} {t : Fin 1544} {alu : Fin 2} {x : W32} {s : State} (h : Carries o s) :
    Answers o (execAluTMaxu t alu x s) :=
  ⟨_, rfl, State.trigRow_carries h (fun _ h2 => aluMaxu_carries h2)⟩

theorem execAluTMov_answers {o : State} {t : Fin 1544} {alu : Fin 2} {x : W32} {s : State} (h : Carries o s) :
    Answers o (execAluTMov t alu x s) :=
  ⟨_, rfl, State.trigRow_carries h (fun _ h2 => aluMov_carries h2)⟩

theorem execBitTExtu_answers {o : State} {t : Fin 1544} {x : W32} {s : State} (h : Carries o s) :
    Answers o (execBitTExtu t x s) :=
  ⟨_, rfl, State.trigRow_carries h (fun _ h2 => bitExtu_carries h2)⟩

theorem execBitTExts_answers {o : State} {t : Fin 1544} {x : W32} {s : State} (h : Carries o s) :
    Answers o (execBitTExts t x s) :=
  ⟨_, rfl, State.trigRow_carries h (fun _ h2 => bitExts_carries h2)⟩

theorem execBitTIns_answers {o : State} {t : Fin 1544} {x : W32} {s : State} (h : Carries o s) :
    Answers o (execBitTIns t x s) :=
  ⟨_, rfl, State.trigRow_carries h (fun _ h2 => bitIns_carries h2)⟩

theorem execBitTClz_answers {o : State} {t : Fin 1544} {x : W32} {s : State} (h : Carries o s) :
    Answers o (execBitTClz t x s) :=
  ⟨_, rfl, State.trigRow_carries h (fun _ h2 => bitClz_carries h2)⟩

theorem execBitTCtz_answers {o : State} {t : Fin 1544} {x : W32} {s : State} (h : Carries o s) :
    Answers o (execBitTCtz t x s) :=
  ⟨_, rfl, State.trigRow_carries h (fun _ h2 => bitCtz_carries h2)⟩

theorem execBitTPopc_answers {o : State} {t : Fin 1544} {x : W32} {s : State} (h : Carries o s) :
    Answers o (execBitTPopc t x s) :=
  ⟨_, rfl, State.trigRow_carries h (fun _ h2 => bitPopc_carries h2)⟩

theorem execBitTBswap_answers {o : State} {t : Fin 1544} {x : W32} {s : State} (h : Carries o s) :
    Answers o (execBitTBswap t x s) :=
  ⟨_, rfl, State.trigRow_carries h (fun _ h2 => bitBswap_carries h2)⟩

theorem execBitTBswap16_answers {o : State} {t : Fin 1544} {x : W32} {s : State} (h : Carries o s) :
    Answers o (execBitTBswap16 t x s) :=
  ⟨_, rfl, State.trigRow_carries h (fun _ h2 => bitBswap16_carries h2)⟩

theorem execBitTBitrev_answers {o : State} {t : Fin 1544} {x : W32} {s : State} (h : Carries o s) :
    Answers o (execBitTBitrev t x s) :=
  ⟨_, rfl, State.trigRow_carries h (fun _ h2 => bitBitrev_carries h2)⟩

theorem execBitTSext8_answers {o : State} {t : Fin 1544} {x : W32} {s : State} (h : Carries o s) :
    Answers o (execBitTSext8 t x s) :=
  ⟨_, rfl, State.trigRow_carries h (fun _ h2 => bitSext8_carries h2)⟩

theorem execBitTSext16_answers {o : State} {t : Fin 1544} {x : W32} {s : State} (h : Carries o s) :
    Answers o (execBitTSext16 t x s) :=
  ⟨_, rfl, State.trigRow_carries h (fun _ h2 => bitSext16_carries h2)⟩

theorem execCmpTEq_answers {o : State} {t : Fin 1544} {x : W32} {s : State} (h : Carries o s) :
    Answers o (execCmpTEq t x s) :=
  ⟨_, rfl, State.trigRow_carries h (fun _ h2 => cmpEq_carries h2)⟩

theorem execCmpTNe_answers {o : State} {t : Fin 1544} {x : W32} {s : State} (h : Carries o s) :
    Answers o (execCmpTNe t x s) :=
  ⟨_, rfl, State.trigRow_carries h (fun _ h2 => cmpNe_carries h2)⟩

theorem execCmpTLt_answers {o : State} {t : Fin 1544} {x : W32} {s : State} (h : Carries o s) :
    Answers o (execCmpTLt t x s) :=
  ⟨_, rfl, State.trigRow_carries h (fun _ h2 => cmpLt_carries h2)⟩

theorem execCmpTLe_answers {o : State} {t : Fin 1544} {x : W32} {s : State} (h : Carries o s) :
    Answers o (execCmpTLe t x s) :=
  ⟨_, rfl, State.trigRow_carries h (fun _ h2 => cmpLe_carries h2)⟩

theorem execCmpTGt_answers {o : State} {t : Fin 1544} {x : W32} {s : State} (h : Carries o s) :
    Answers o (execCmpTGt t x s) :=
  ⟨_, rfl, State.trigRow_carries h (fun _ h2 => cmpGt_carries h2)⟩

theorem execCmpTGe_answers {o : State} {t : Fin 1544} {x : W32} {s : State} (h : Carries o s) :
    Answers o (execCmpTGe t x s) :=
  ⟨_, rfl, State.trigRow_carries h (fun _ h2 => cmpGe_carries h2)⟩

theorem execCmpTLtu_answers {o : State} {t : Fin 1544} {x : W32} {s : State} (h : Carries o s) :
    Answers o (execCmpTLtu t x s) :=
  ⟨_, rfl, State.trigRow_carries h (fun _ h2 => cmpLtu_carries h2)⟩

theorem execCmpTLeu_answers {o : State} {t : Fin 1544} {x : W32} {s : State} (h : Carries o s) :
    Answers o (execCmpTLeu t x s) :=
  ⟨_, rfl, State.trigRow_carries h (fun _ h2 => cmpLeu_carries h2)⟩

theorem execCmpTGtu_answers {o : State} {t : Fin 1544} {x : W32} {s : State} (h : Carries o s) :
    Answers o (execCmpTGtu t x s) :=
  ⟨_, rfl, State.trigRow_carries h (fun _ h2 => cmpGtu_carries h2)⟩

theorem execCmpTGeu_answers {o : State} {t : Fin 1544} {x : W32} {s : State} (h : Carries o s) :
    Answers o (execCmpTGeu t x s) :=
  ⟨_, rfl, State.trigRow_carries h (fun _ h2 => cmpGeu_carries h2)⟩

theorem execCmpTTst_answers {o : State} {t : Fin 1544} {x : W32} {s : State} (h : Carries o s) :
    Answers o (execCmpTTst t x s) :=
  ⟨_, rfl, State.trigRow_carries h (fun _ h2 => cmpTst_carries h2)⟩

theorem execMulTMulu_answers {o : State} {t : Fin 1544} {x : W32} {s : State} (h : Carries o s) :
    Answers o (execMulTMulu t x s) :=
  ⟨_, rfl, State.trigRow_carries h (fun _ h2 => mulMulu_carries h2)⟩

theorem execMulTMuls_answers {o : State} {t : Fin 1544} {x : W32} {s : State} (h : Carries o s) :
    Answers o (execMulTMuls t x s) :=
  ⟨_, rfl, State.trigRow_carries h (fun _ h2 => mulMuls_carries h2)⟩

theorem execMulTDivu_answers {o : State} {t : Fin 1544} {x : W32} {s : State} (h : Carries o s) :
    Answers o (execMulTDivu t x s) :=
  ⟨_, rfl, State.trigRow_carries h (fun _ h2 => mulDivu_carries h2)⟩

theorem execMulTDivs_answers {o : State} {t : Fin 1544} {x : W32} {s : State} (h : Carries o s) :
    Answers o (execMulTDivs t x s) :=
  ⟨_, rfl, State.trigRow_carries h (fun _ h2 => mulDivs_carries h2)⟩

theorem execBreakpointHit_answers {o : State} {t : Fin 1536} {s : State} (h : Carries o s) :
    Answers o (execBreakpointHit t s) :=
  ⟨_, rfl, breakpointHit_carries h⟩

/-! ### ExecControl -/

theorem execChWaitTimeout_answers {o : State} {now : Nat} {t : Fin 1544} {s : State} (h : Carries o s) :
    Answers o (execChWaitTimeout now t s) :=
  ⟨_, rfl, chWaitTimeout_carries h⟩

theorem execLockWaitTimeout_answers {o : State} {now : Nat} {req : BitVec 16} {s : State} (h : Carries o s) :
    Answers o (execLockWaitTimeout now req s) :=
  ⟨_, rfl, lockWaitTimeout_carries h⟩

theorem execTimerExpire_answers {o : State} {now : Nat} {t : Fin 1544} {s : State} (h : Carries o s) :
    Answers o (execTimerExpire now t s) :=
  ⟨_, rfl, timerExpire_carries h⟩

theorem execHelperOrphanEnd_answers {o : State} {b : Fin 12} {a1 : Fin 2} {s : State} (h : Carries o s) :
    Answers o (execHelperOrphanEnd b a1 s) :=
  ⟨_, rfl, helperOrphanEnd_carries h⟩

theorem execHelperDisable_answers {o : State} {part : Fin 4} {b : Fin 12} {a2 : Fin 2} {s : State} (h : Carries o s) :
    Answers o (execHelperDisable part b a2 s) :=
  ⟨_, rfl, State.hostCmd_carries h (fun _ h2 => helperDisable_carries h2)⟩

theorem execHelperEnable_answers {o : State} {part : Fin 4} {b : Fin 12} {a2 : Fin 2} {katPass : Bool} {s : State} (h
    : Carries o s) :
    Answers o (execHelperEnable part b a2 katPass s) :=
  ⟨_, rfl, State.hostCmd_carries h (fun _ h2 => helperEnable_carries h2)⟩

theorem execHelperShutdownDone_answers {o : State} {b : Fin 12} {a1 : Fin 2} {katPass : Bool} {s : State} (h : Carries
    o s) :
    Answers o (execHelperShutdownDone b a1 katPass s) :=
  ⟨_, rfl, helperShutdownDone_carries h⟩

theorem execFaultAckTimeout_answers {o : State} {now : Nat} {t : Fin 1536} {s : State} (h : Carries o s) :
    Answers o (execFaultAckTimeout now t s) :=
  ⟨_, rfl, faultAckTimeout_carries h⟩

theorem execDeadlockTimeout_answers {o : State} {now : Nat} {e : Fin 192} {s : State} (h : Carries o s) :
    Answers o (execDeadlockTimeout now e s) :=
  ⟨_, rfl, deadlockTimeout_carries h⟩

theorem execEscalationPost_answers {o : State} {e : Fin 192} {s : State} (h : Carries o s) :
    Answers o (execEscalationPost e s) :=
  ⟨_, rfl, escalationPost_carries h⟩

theorem execEngineReset_answers {o : State} {e : Fin 192} {s : State} (h : Carries o s) :
    Answers o (execEngineReset e s) :=
  ⟨_, rfl, engineReset_carries h⟩

theorem execEngineSpareSubstitute_answers {o : State} {e : Fin 192} {s : State} (h : Carries o s) :
    Answers o (execEngineSpareSubstitute e s) :=
  ⟨_, rfl, engineSpareSubstitute_carries h⟩

theorem execEngineFailNoSpare_answers {o : State} {e : Fin 192} {s : State} (h : Carries o s) :
    Answers o (execEngineFailNoSpare e s) :=
  ⟨_, rfl, engineFails_carries h⟩

theorem execPostFifoTake_answers {o : State} {s : State} (h : Carries o s) :
    Answers o (execPostFifoTake s) :=
  ⟨_, rfl, postFifoTake_carries h⟩

theorem execBasinSwitchBegin_answers {o : State} {map : Fin 14} {why : Fin 6} {s : State} (h : Carries o s) :
    Answers o (execBasinSwitchBegin map why s) :=
  ⟨_, rfl, basinSwitchBegin_carries h⟩

theorem execBasinSwitchFinish_answers {o : State} {s : State} (h : Carries o s) :
    Answers o (execBasinSwitchFinish s) :=
  ⟨_, rfl, basinSwitchFinish_carries h⟩

theorem execBsnEngReset_answers {o : State} {part : Fin 4} {e : BitVec 8} {s : State} (h : Carries o s) :
    Answers o (execBsnEngReset part e s) :=
  ⟨_, rfl, State.hostCmd_carries h (fun _ h2 => bsnEngReset_carries h2)⟩

theorem execBsnEngSwap_answers {o : State} {part : Fin 4} {e : BitVec 8} {s : State} (h : Carries o s) :
    Answers o (execBsnEngSwap part e s) :=
  ⟨_, rfl, State.hostCmd_carries h (fun _ h2 => bsnEngSwap_carries h2)⟩

theorem execBsnEngAckEsc_answers {o : State} {part : Fin 4} {e : BitVec 8} {s : State} (h : Carries o s) :
    Answers o (execBsnEngAckEsc part e s) :=
  ⟨_, rfl, State.hostCmd_carries h (fun _ h2 => bsnEngAckEsc_carries h2)⟩

theorem execPmpPostWrite_answers {o : State} {part : Fin 4} {v : W32} {s : State} (h : Carries o s) :
    Answers o (execPmpPostWrite part v s) :=
  ⟨_, rfl, State.hostCmd_carries h (fun _ h2 => pmpPostWrite_carries h2)⟩

theorem execPmpCeRestart_answers {o : State} {part : Fin 4} {ce : Fin 8} {s : State} (h : Carries o s) :
    Answers o (execPmpCeRestart part ce s) :=
  ⟨_, rfl, State.hostCmd_carries h (fun _ h2 => pmpCeRestart_carries h2)⟩

theorem execLkgHostAcq_answers {o : State} {part : Fin 4} {lock : BitVec 13} {n : BitVec 16} {prio : BitVec 6} {tmo :
    BitVec 24} {s : State} (h : Carries o s) :
    Answers o (execLkgHostAcq part lock n prio tmo s) :=
  ⟨_, rfl, State.hostCmd_carries h (fun _ h2 => lkgHostRequest_carries h2)⟩

theorem execLkgHostTry_answers {o : State} {part : Fin 4} {lock : BitVec 13} {n : BitVec 16} {prio : BitVec 6} {tmo :
    BitVec 24} {s : State} (h : Carries o s) :
    Answers o (execLkgHostTry part lock n prio tmo s) :=
  ⟨_, rfl, State.hostCmd_carries h (fun _ h2 => lkgHostRequest_carries h2)⟩

theorem execLkgHostRel_answers {o : State} {part : Fin 4} {lock : BitVec 13} {n : BitVec 16} {prio : BitVec 6} {tmo :
    BitVec 24} {s : State} (h : Carries o s) :
    Answers o (execLkgHostRel part lock n prio tmo s) :=
  ⟨_, rfl, State.hostCmd_carries h (fun _ h2 => lkgHostRequest_carries h2)⟩

theorem execLkgHostCancel_answers {o : State} {part : Fin 4} {lock : BitVec 13} {n : BitVec 16} {prio : BitVec 6} {tmo
    : BitVec 24} {s : State} (h : Carries o s) :
    Answers o (execLkgHostCancel part lock n prio tmo s) :=
  ⟨_, rfl, State.hostCmd_carries h (fun _ h2 => lkgHostRequest_carries h2)⟩

theorem execLkgHostQuery_answers {o : State} {part : Fin 4} {lock : BitVec 13} {n : BitVec 16} {prio : BitVec 6} {tmo
    : BitVec 24} {s : State} (h : Carries o s) :
    Answers o (execLkgHostQuery part lock n prio tmo s) :=
  ⟨_, rfl, State.hostCmd_carries h (fun _ h2 => lkgHostRequest_carries h2)⟩

theorem execLkgForce_answers {o : State} {part : Fin 4} {lock : BitVec 13} {s : State} (h : Carries o s) :
    Answers o (execLkgForce part lock s) :=
  ⟨_, rfl, State.hostCmd_carries h (fun _ h2 => lkgForce_carries h2)⟩

theorem execLkgSetcount_answers {o : State} {part : Fin 4} {lock : BitVec 13} {v : BitVec 16} {s : State} (h : Carries
    o s) :
    Answers o (execLkgSetcount part lock v s) :=
  ⟨_, rfl, State.hostCmd_carries h (fun _ h2 => lkgSetcount_carries h2)⟩

/-! ### ExecEdge -/

theorem execAutoNegTimeout_answers {o : State} {port : Fin 32} {s : State} (h : Carries o s) :
    Answers o (execAutoNegTimeout port s) :=
  ⟨_, rfl, autoNegTimeout_carries h⟩

theorem execFrameReceive_answers {o : State} {now : Nat} {port : Fin 32} {stamp : Nat} {bytes : List Byte} {fcsOk :
    Bool} {cut : Bool} {express : Bool} {macsec : MacsecFrame} {s : State} (h : Carries o s) :
    Answers o (execFrameReceive now port stamp bytes fcsOk cut express macsec s) :=
  ⟨_, rfl, frameIn_carries h⟩

theorem execT1sFrameReceive_answers {o : State} {now : Nat} {seg : Fin 16} {stamp : Nat} {node : Fin 33} {bytes : List
    Byte} {fcsOk : Bool} {cut : Bool} {s : State} (h : Carries o s) :
    Answers o (execT1sFrameReceive now seg stamp node bytes fcsOk cut s) :=
  ⟨_, rfl, t1sFrameReceive_carries h⟩

theorem execPlcaBeaconLoss_answers {o : State} {seg : Fin 16} {s : State} (h : Carries o s) :
    Answers o (execPlcaBeaconLoss seg s) :=
  ⟨_, rfl, plcaBeaconLoss_carries h⟩

theorem execPlcaBeaconResume_answers {o : State} {seg : Fin 16} {s : State} (h : Carries o s) :
    Answers o (execPlcaBeaconResume seg s) :=
  ⟨_, rfl, plcaBeaconResume_carries h⟩

theorem execNodeQuiet_answers {o : State} {now : Nat} {seg : Fin 16} {node : Fin 32} {s : State} (h : Carries o s) :
    Answers o (execNodeQuiet now seg node s) :=
  ⟨_, rfl, nodeQuietExpire_carries h⟩

theorem execCanFrameReceive_answers {o : State} {now : Nat} {ch : Fin 16} {id : W32} {format : Byte} {sdt : Byte}
    {vcid : Byte} {af : W32} {data : List Byte} {crcOk : Bool} {s : State} (h : Carries o s) :
    Answers o (execCanFrameReceive now ch id format sdt vcid af data crcOk s) :=
  ⟨_, rfl, canFrameReceive_carries h⟩

theorem execCanBusOff_answers {o : State} {ch : Fin 16} {s : State} (h : Carries o s) :
    Answers o (execCanBusOff ch s) :=
  ⟨_, rfl, canBusOff_carries h⟩

theorem execCanBusOffRecover_answers {o : State} {ch : Fin 16} {s : State} (h : Carries o s) :
    Answers o (execCanBusOffRecover ch s) :=
  ⟨_, rfl, canBusOffRecover_carries h⟩

theorem execPresDebounceEnd_answers {o : State} {now : Nat} {input : Fin 9} {s : State} (h : Carries o s) :
    Answers o (execPresDebounceEnd now input s) :=
  ⟨_, rfl, presDebounceEnd_carries h⟩

theorem execPresLatchTake_answers {o : State} {now : Nat} {input : Fin 9} {s : State} (h : Carries o s) :
    Answers o (execPresLatchTake now input s) :=
  ⟨_, rfl, presLatchTake_carries h⟩

theorem execLinkUp_answers {o : State} {now : Nat} {src : Fin 48} {mode : LinkMode} {s : State} (h : Carries o s) :
    Answers o (execLinkUp now src mode s) :=
  ⟨_, rfl, linkUp_carries h⟩

theorem execPortLinkDown_answers {o : State} {now : Nat} {src : Fin 48} {cause : Fin 6} {s : State} (h : Carries o s)
    :
    Answers o (execPortLinkDown now src cause s) :=
  ⟨_, rfl, portLinkDown_carries h⟩

theorem execLinkHoldExpire_answers {o : State} {now : Nat} {src : Fin 73} {s : State} (h : Carries o s) :
    Answers o (execLinkHoldExpire now src s) :=
  ⟨_, rfl, linkHoldExpire_carries h⟩

theorem execUnplugDrained_answers {o : State} {now : Nat} {src : Fin 73} {s : State} (h : Carries o s) :
    Answers o (execUnplugDrained now src s) :=
  ⟨_, rfl, unplugDrained_carries h⟩

theorem execLaneTrainingFail_answers {o : State} {lane : Fin 32} {s : State} (h : Carries o s) :
    Answers o (execLaneTrainingFail lane s) :=
  ⟨_, rfl, laneTrainingFail_carries h⟩

theorem execLaneTrainingRetry_answers {o : State} {lane : Fin 32} {ok : Bool} {s : State} (h : Carries o s) :
    Answers o (execLaneTrainingRetry lane ok s) :=
  ⟨_, rfl, laneTrainingRetry_carries h⟩

theorem execLaneMarginLow_answers {o : State} {lane : Fin 32} {margin : BitVec 8} {s : State} (h : Carries o s) :
    Answers o (execLaneMarginLow lane margin s) :=
  ⟨_, rfl, laneMarginLow_carries h⟩

theorem execSliceAdaptDone_answers {o : State} {lane : Fin 32} {ok : Bool} {s : State} (h : Carries o s) :
    Answers o (execSliceAdaptDone lane ok s) :=
  ⟨_, rfl, sliceAdaptDone_carries h⟩

theorem execSliceSwitchover_answers {o : State} {lane : Fin 32} {receiving : Bool} {s : State} (h : Carries o s) :
    Answers o (execSliceSwitchover lane receiving s) :=
  ⟨_, rfl, sliceSwitchover_carries h⟩

theorem execPreemptVerifyTimeout_answers {o : State} {port : Fin 32} {s : State} (h : Carries o s) :
    Answers o (execPreemptVerifyTimeout port s) :=
  ⟨_, rfl, preemptVerifyTimeout_carries h⟩

theorem execEdgeTransmitDone_answers {o : State} {now : Nat} {target : Fin 32} {s : State} (h : Carries o s) :
    Answers o (execEdgeTransmitDone now target s) :=
  ⟨_, rfl, edgeTransmitDone_carries h⟩

theorem execEdgLaneRetrain_answers {o : State} {part : Fin 4} {lane : Fin 32} {s : State} (h : Carries o s) :
    Answers o (execEdgLaneRetrain part lane s) :=
  ⟨_, rfl, State.hostCmd_carries h (fun _ h2 => edgLaneRetrain_carries h2)⟩

theorem execEdgLaneSpare_answers {o : State} {part : Fin 4} {lane : Fin 32} {s : State} (h : Carries o s) :
    Answers o (execEdgLaneSpare part lane s) :=
  ⟨_, rfl, State.hostCmd_carries h (fun _ h2 => edgLaneSpare_carries h2)⟩

theorem execPresRawChange_answers {o : State} {now : Nat} {input : Fin 9} {level : Bool} {s : State} (h : Carries o s)
    :
    Answers o (execPresRawChange now input level s) :=
  ⟨_, rfl, presRawChange_carries h⟩

theorem execCanBusError_answers {o : State} {ch : Fin 16} {tec : BitVec 8} {rec : BitVec 8} {s : State} (h : Carries o
    s) :
    Answers o (execCanBusError ch tec rec s) :=
  ⟨_, rfl, canBusError_carries h⟩

theorem execCanChannelRestart_answers {o : State} {ch : Fin 16} {s : State} (h : Carries o s) :
    Answers o (execCanChannelRestart ch s) :=
  ⟨_, rfl, canChannelRestart_carries h⟩

theorem execMacsecSaInstall_answers {o : State} {port : Fin 32} {kind : SaKind} {pn : BitVec 64} {s : State} (h :
    Carries o s) :
    Answers o (execMacsecSaInstall port kind pn s) :=
  ⟨_, rfl, macsecSaInstall_carries h⟩

/-! ### ExecHost -/

theorem execPcieConfigRequest_answers {o : State} {link : Fin 4} {write : Bool} {reg : BitVec 12} {data : W32} {s :
    State} (h : Carries o s) :
    Answers o (execPcieConfigRequest link write reg data s) :=
  ⟨_, rfl, pcieConfigRequest_carries h⟩

theorem execBar4Read_answers {o : State} {part : Fin 4} {off : Nat} {n : Nat} {s : State} (h : Carries o s) :
    Answers o (execBar4Read part off n s) :=
  ⟨_, rfl, bar4Read_carries h⟩

theorem execBar4Write_answers {o : State} {part : Fin 4} {off : Nat} {data : List Byte} {s : State} (h : Carries o s)
    :
    Answers o (execBar4Write part off data s) :=
  ⟨_, rfl, bar4Write_carries h⟩

theorem execPcieAtomicop_answers {o : State} {part : Fin 4} {off : Nat} {op : Fin 3} {width : Fin 3} {v : BitVec 128}
    {c : BitVec 128} {s : State} (h : Carries o s) :
    Answers o (execPcieAtomicop part off op width v c s) :=
  ⟨_, rfl, pcieAtomicop_carries h⟩

theorem execTxDoorbellWrite_answers {o : State} {part : Fin 4} {q : Fin 64} {v : W32} {s : State} (h : Carries o s) :
    Answers o (execTxDoorbellWrite part q v s) :=
  ⟨_, rfl, State.hostCmd_carries h (fun _ h2 => txDoorbellWrite_carries h2)⟩

theorem execRxDoorbellWrite_answers {o : State} {part : Fin 4} {q : Fin 64} {v : W32} {s : State} (h : Carries o s) :
    Answers o (execRxDoorbellWrite part q v s) :=
  ⟨_, rfl, State.hostCmd_carries h (fun _ h2 => rxDoorbellWrite_carries h2)⟩

theorem execTxDescriptorProcess_answers {o : State} {now : Nat} {part : Fin 4} {q : Fin 64} {desc : List Byte} {frame
    : List Byte} {readOk : Bool} {s : State} (h : Carries o s) :
    Answers o (execTxDescriptorProcess now part q desc frame readOk s) :=
  ⟨_, rfl, txDescriptorProcess_carries h⟩

theorem execRxMessageDeliver_answers {o : State} {now : Nat} {part : Fin 4} {q : Fin 64} {s : State} (h : Carries o s)
    :
    Answers o (execRxMessageDeliver now part q s) :=
  ⟨_, rfl, rxMessageDeliver_carries h⟩

theorem execHostQueueEnable_answers {o : State} {part : Fin 4} {tx : Bool} {q : Fin 64} {s : State} (h : Carries o s)
    :
    Answers o (execHostQueueEnable part tx q s) :=
  ⟨_, rfl, State.hostCmd_carries h (fun _ h2 => hostQueueEnable_carries h2)⟩

theorem execHostQueueDisable_answers {o : State} {part : Fin 4} {tx : Bool} {q : Fin 64} {s : State} (h : Carries o s)
    :
    Answers o (execHostQueueDisable part tx q s) :=
  ⟨_, rfl, State.hostCmd_carries h (fun _ h2 => hostQueueDisable_carries h2)⟩

theorem execHostQueueShutdownDone_answers {o : State} {part : Fin 4} {tx : Bool} {q : Fin 64} {s : State} (h : Carries
    o s) :
    Answers o (execHostQueueShutdownDone part tx q s) :=
  ⟨_, rfl, hostQueueShutdownDone_carries h⟩

theorem execItrHoldExpire_answers {o : State} {now : Nat} {part : Fin 4} {vec : Fin 128} {s : State} (h : Carries o s)
    :
    Answers o (execItrHoldExpire now part vec s) :=
  ⟨_, rfl, itrHoldExpire_carries h⟩

theorem execHstLatWrite_answers {o : State} {part : Fin 4} {v : BitVec 20} {s : State} (h : Carries o s) :
    Answers o (execHstLatWrite part v s) :=
  ⟨_, rfl, State.hostCmd_carries h (fun _ h2 => hstLatWrite_carries h2)⟩

theorem execHstPrstGo_answers {o : State} {part : Fin 4} {target : BitVec 3} {s : State} (h : Carries o s) :
    Answers o (execHstPrstGo part target s) :=
  ⟨_, rfl, State.hostCmd_carries h (fun _ h2 => hstPrstGo_carries h2)⟩

theorem execPcieFunctionLevelReset_answers {o : State} {part : Fin 4} {s : State} (h : Carries o s) :
    Answers o (execPcieFunctionLevelReset part s) :=
  ⟨_, rfl, pcieFunctionLevelReset_carries h⟩

theorem execPcieLinkReset_answers {o : State} {link : Fin 4} {s : State} (h : Carries o s) :
    Answers o (execPcieLinkReset link s) :=
  ⟨_, rfl, pcieLinkReset_carries h⟩

theorem execEoeLinkDownTimeout_answers {o : State} {now : Nat} {part : Fin 4} {s : State} (h : Carries o s) :
    Answers o (execEoeLinkDownTimeout now part s) :=
  ⟨_, rfl, eoeLinkDownTimeout_carries h⟩

theorem execPartitionResetDrained_answers {o : State} {part : Fin 4} {s : State} (h : Carries o s) :
    Answers o (execPartitionResetDrained part s) :=
  ⟨_, rfl, partitionResetDrained_carries h⟩

theorem execEoeFrameReceive_answers {o : State} {now : Nat} {port : Fin 32} {bytes : List Byte} {s : State} (h :
    Carries o s) :
    Answers o (execEoeFrameReceive now port bytes s) :=
  ⟨_, rfl, eoeFrameReceive_carries h⟩

theorem execEoeMessageSend_answers {o : State} {now : Nat} {part : Fin 4} {q : Fin 64} {s : State} (h : Carries o s) :
    Answers o (execEoeMessageSend now part q s) :=
  ⟨_, rfl, eoeMessageSend_carries h⟩

theorem execPcieLinkUp_answers {o : State} {link : Fin 4} {width : BitVec 4} {rate : BitVec 4} {s : State} (h :
    Carries o s) :
    Answers o (execPcieLinkUp link width rate s) :=
  ⟨_, rfl, pcieLinkUp_carries h⟩

/-! ### ExecPath -/

theorem execPauseFrameReceive_answers {o : State} {now : Nat} {port : Fin 32} {pfc : Bool} {classes : BitVec 8}
    {quanta : List (BitVec 16)} {s : State} (h : Carries o s) :
    Answers o (execPauseFrameReceive now port pfc classes quanta s) :=
  ⟨_, rfl, pauseFrameReceive_carries h⟩

theorem execPauseQuantaExpire_answers {o : State} {now : Nat} {port : Fin 32} {cls : Fin 8} {s : State} (h : Carries o
    s) :
    Answers o (execPauseQuantaExpire now port cls s) :=
  ⟨_, rfl, pauseQuantaExpire_carries h⟩

theorem execDropletDispatch_answers {o : State} {t : Fin 1536} {s : State} (h : Carries o s) :
    Answers o (execDropletDispatch t s) :=
  ⟨_, rfl, dispatch_carries h⟩

theorem execHoldExpire_answers {o : State} {now : Nat} {slot : Fin 65536} {s : State} (h : Carries o s) :
    Answers o (execHoldExpire now slot s) :=
  ⟨_, rfl, holdExpire_carries h⟩

theorem execTransmissionSelect_answers {o : State} {now : Nat} {port : Fin 32} {s : State} (h : Carries o s) :
    Answers o (execTransmissionSelect now port s) :=
  ⟨_, rfl, transmissionSelect_carries h⟩

theorem execFrameTransmitEnd_answers {o : State} {now : Nat} {port : Fin 32} {express : Bool} {s : State} (h : Carries
    o s) :
    Answers o (execFrameTransmitEnd now port express s) :=
  ⟨_, rfl, State.macsecCheck_carries (frameSent_carries h)⟩

theorem execShaperRefill_answers {o : State} {now : Nat} {s : State} (h : Carries o s) :
    Answers o (execShaperRefill now s) :=
  ⟨_, rfl, shaperRefill_carries h⟩

theorem execMeterRefill_answers {o : State} {now : Nat} {s : State} (h : Carries o s) :
    Answers o (execMeterRefill now s) :=
  ⟨_, rfl, meterRefill_carries h⟩

theorem execGateEvent_answers {o : State} {now : Nat} {sgate : Bool} {idx : Fin 1024} {s : State} (h : Carries o s) :
    Answers o (execGateEvent now sgate idx s) :=
  ⟨_, rfl, gateEvent_carries h⟩

theorem execGclConfigSwap_answers {o : State} {now : Nat} {sgate : Bool} {idx : Fin 1024} {s : State} (h : Carries o
    s) :
    Answers o (execGclConfigSwap now sgate idx s) :=
  ⟨_, rfl, gclConfigSwap_carries h⟩

theorem execSrfResetTimeout_answers {o : State} {now : Nat} {srf : Fin 4096} {s : State} (h : Carries o s) :
    Answers o (execSrfResetTimeout now srf s) :=
  ⟨_, rfl, srfResetTimeout_carries h⟩

theorem execFciEdge_answers {o : State} {now : Nat} {n : Fin 8} {level : Bool} {s : State} (h : Carries o s) :
    Answers o (execFciEdge now n level s) :=
  ⟨_, rfl, fciEdge_carries h⟩

theorem execQueueShutdownDone_answers {o : State} {kind : Fin 3} {idx : Fin 320} {s : State} (h : Carries o s) :
    Answers o (execQueueShutdownDone kind idx s) :=
  ⟨_, rfl, queueShutdownDone_carries h⟩

theorem execTick_answers {o : State} {now : Nat} {s : State} (h : Carries o s) :
    Answers o (execTick now s) :=
  ⟨_, rfl, tickBoth_carries h⟩

theorem execDelayExpire_answers {o : State} {desc : Fin 4096} {s : State} (h : Carries o s) :
    Answers o (execDelayExpire desc s) :=
  ⟨_, rfl, delayExpire_carries h⟩

theorem execPpsOutSecond_answers {o : State} {now : Nat} {s : State} (h : Carries o s) :
    Answers o (execPpsOutSecond now s) :=
  ⟨_, rfl, ppsOutSecond_carries h⟩

theorem execPpsInEdge_answers {o : State} {now : Nat} {s : State} (h : Carries o s) :
    Answers o (execPpsInEdge now s) :=
  ⟨_, rfl, ppsInEdge_carries h⟩

theorem execRecircClassify_answers {o : State} {s : State} (h : Carries o s) :
    Answers o (execRecircClassify s) :=
  ⟨_, rfl, recircClassify_carries h⟩

theorem execPauseRefresh_answers {o : State} {now : Nat} {port : Fin 32} {s : State} (h : Carries o s) :
    Answers o (execPauseRefresh now port s) :=
  ⟨_, rfl, pauseRefresh_carries h⟩

theorem execFcoMinHoldExpire_answers {o : State} {now : Nat} {n : Fin 8} {s : State} (h : Carries o s) :
    Answers o (execFcoMinHoldExpire now n s) :=
  ⟨_, rfl, fcoMinHoldExpire_carries h⟩

theorem execSluRead_answers {o : State} {part : Fin 5} {s : State} (h : Carries o s) :
    Answers o (execSluRead part s) :=
  ⟨_, rfl, State.hostCmd_carries h (fun _ h2 => sluRead_carries h2)⟩

theorem execSluWrite_answers {o : State} {part : Fin 5} {s : State} (h : Carries o s) :
    Answers o (execSluWrite part s) :=
  ⟨_, rfl, State.hostCmd_carries h (fun _ h2 => sluWrite_carries h2)⟩

theorem execSluFlush_answers {o : State} {part : Fin 5} {s : State} (h : Carries o s) :
    Answers o (execSluFlush part s) :=
  ⟨_, rfl, State.hostCmd_carries h (fun _ h2 => sluFlush_carries h2)⟩

theorem execSluClear_answers {o : State} {part : Fin 5} {s : State} (h : Carries o s) :
    Answers o (execSluClear part s) :=
  ⟨_, rfl, State.hostCmd_carries h (fun _ h2 => sluClear_carries h2)⟩

theorem execConfigChange_answers {o : State} {part : Fin 5} {s : State} (h : Carries o s) :
    Answers o (execConfigChange part s) :=
  ⟨_, rfl, State.hostCmd_carries h (fun _ h2 => sluConfigChange_carries h2)⟩

theorem execTimSnap_answers {o : State} {part : Fin 4} {s : State} (h : Carries o s) :
    Answers o (execTimSnap part s) :=
  ⟨_, rfl, State.hostCmd_carries h (fun _ h2 => timSnap_carries h2)⟩

theorem execTimStep_answers {o : State} {part : Fin 5} {dom : Fin 4} {s : State} (h : Carries o s) :
    Answers o (execTimStep part dom s) :=
  ⟨_, rfl, State.hostCmd_carries h (fun _ h2 => timStep_carries h2)⟩

theorem execTimRateWrite_answers {o : State} {part : Fin 5} {dom : Fin 4} {v : W32} {s : State} (h : Carries o s) :
    Answers o (execTimRateWrite part dom v s) :=
  ⟨_, rfl, State.hostCmd_carries h (fun _ h2 => timRateWrite_carries h2)⟩

theorem execPpsOutWidthEnd_answers {o : State} {now : Nat} {s : State} (h : Carries o s) :
    Answers o (execPpsOutWidthEnd now s) :=
  ⟨_, rfl, ppsOutWidthEnd_carries h⟩

/-! ### ExecRegister -/

theorem execWeirHoldSuspendWrite_answers {o : State} {part : Fin 4} {v : W32} {s : State} (h : Carries o s) :
    Answers o (execWeirHoldSuspendWrite part v s) :=
  ⟨_, rfl, State.hostCmd_carries h (fun _ h2 => weirHoldSuspendWrite_carries h2)⟩

theorem execBar0PartialWrite_answers {o : State} {part : Fin 4} {s : State} (h : Carries o s) :
    Answers o (execBar0PartialWrite part s) :=
  ⟨_, rfl, bar0PartialWrite_carries h⟩

theorem execCounterLowWordRead_answers {o : State} {part : Fin 4} {read : WordRead} {s : State} (h : Carries o s) :
    Answers o (execCounterLowWordRead part read s) :=
  ⟨_, rfl, counterLowWordRead_carries h⟩

theorem execRcFieldRead_answers {o : State} {part : Fin 4} {read : WordRead} {s : State} (h : Carries o s) :
    Answers o (execRcFieldRead part read s) :=
  ⟨_, rfl, rcFieldRead_carries h⟩

theorem execWeirDomStat0Read_answers {o : State} {part : Fin 4} {s : State} (h : Carries o s) :
    Answers o (execWeirDomStat0Read part s) :=
  ⟨_, rfl, State.hostGet_carries h (fun _ h2 => weirDomStat0Read_carries h2)⟩

theorem execBsnChStat0Read_answers {o : State} {part : Fin 4} {s : State} (h : Carries o s) :
    Answers o (execBsnChStat0Read part s) :=
  ⟨_, rfl, State.hostGet_carries h (fun _ h2 => bsnChStat0Read_carries h2)⟩

theorem execPmpDescW0Read_answers {o : State} {part : Fin 4} {s : State} (h : Carries o s) :
    Answers o (execPmpDescW0Read part s) :=
  ⟨_, rfl, State.hostGet_carries h (fun _ h2 => pmpDescRead_carries h2)⟩

theorem execRegisterWrite_answers {o : State} {part : Fin 5} {bar2 : Bool} {addr : BitVec 22} {v : W32} {s : State} (h
    : Carries o s) :
    Answers o (execRegisterWrite part bar2 addr v s) :=
  ⟨_, rfl, registerWrite_carries h⟩

/-! ### ExecReplay -/

theorem execRplTrigger_answers {o : State} {part : Fin 4} {s : State} (h : Carries o s) :
    Answers o (execRplTrigger part s) :=
  ⟨_, rfl, State.hostCmd_carries h (fun _ h2 => rplTrigger_carries h2)⟩

theorem execPostWindowEnd_answers {o : State} {now : Nat} {s : State} (h : Carries o s) :
    Answers o (execPostWindowEnd now s) :=
  ⟨_, rfl, postWindowEnd_carries h⟩

theorem execFreezePinEdge_answers {o : State} {now : Nat} {s : State} (h : Carries o s) :
    Answers o (execFreezePinEdge now s) :=
  ⟨_, rfl, freezePinEdge_carries h⟩

theorem execRplFreeze_answers {o : State} {part : Fin 4} {s : State} (h : Carries o s) :
    Answers o (execRplFreeze part s) :=
  ⟨_, rfl, State.hostCmd_carries h (fun _ h2 => rplFreeze_carries h2)⟩

theorem execRplRelease_answers {o : State} {part : Fin 4} {s : State} (h : Carries o s) :
    Answers o (execRplRelease part s) :=
  ⟨_, rfl, State.hostCmd_carries h (fun _ h2 => rplRelease_carries h2)⟩

theorem execRplExport_answers {o : State} {part : Fin 4} {s : State} (h : Carries o s) :
    Answers o (execRplExport part s) :=
  ⟨_, rfl, State.hostCmd_carries h (fun _ h2 => rplExport_carries h2)⟩

theorem execRplReplay_answers {o : State} {part : Fin 4} {s : State} (h : Carries o s) :
    Answers o (execRplReplay part s) :=
  ⟨_, rfl, State.hostCmd_carries h (fun _ h2 => rplReplay_carries h2)⟩

theorem execRplAbort_answers {o : State} {part : Fin 4} {s : State} (h : Carries o s) :
    Answers o (execRplAbort part s) :=
  ⟨_, rfl, State.hostCmd_carries h (fun _ h2 => rplAbort_carries h2)⟩

theorem execReplayEnd_answers {o : State} {s : State} (h : Carries o s) :
    Answers o (execReplayEnd s) :=
  ⟨_, rfl, replayEnd_carries h⟩

theorem execDbgHalt_answers {o : State} {part : Fin 5} {s : State} (h : Carries o s) :
    Answers o (execDbgHalt part s) :=
  ⟨_, rfl, State.hostCmd_carries h (fun _ h2 => dbgHalt_carries h2)⟩

theorem execDbgResume_answers {o : State} {part : Fin 5} {s : State} (h : Carries o s) :
    Answers o (execDbgResume part s) :=
  ⟨_, rfl, State.hostCmd_carries h (fun _ h2 => dbgResume_carries h2)⟩

theorem execDbgStep_answers {o : State} {part : Fin 5} {s : State} (h : Carries o s) :
    Answers o (execDbgStep part s) :=
  ⟨_, rfl, State.hostCmd_carries h (fun _ h2 => dbgStep_carries h2)⟩

theorem execDbgKill_answers {o : State} {part : Fin 5} {s : State} (h : Carries o s) :
    Answers o (execDbgKill part s) :=
  ⟨_, rfl, State.hostCmd_carries h (fun _ h2 => dbgKill_carries h2)⟩

theorem execDbgRdreg_answers {o : State} {part : Fin 5} {s : State} (h : Carries o s) :
    Answers o (execDbgRdreg part s) :=
  ⟨_, rfl, State.hostCmd_carries h (fun _ h2 => dbgRdreg_carries h2)⟩

theorem execDbgWrreg_answers {o : State} {part : Fin 5} {s : State} (h : Carries o s) :
    Answers o (execDbgWrreg part s) :=
  ⟨_, rfl, State.hostCmd_carries h (fun _ h2 => dbgWrreg_carries h2)⟩

theorem execDbgBrkSet_answers {o : State} {part : Fin 5} {s : State} (h : Carries o s) :
    Answers o (execDbgBrkSet part s) :=
  ⟨_, rfl, State.hostCmd_carries h (fun _ h2 => dbgBrkSet_carries h2)⟩

theorem execDbgBrkClr_answers {o : State} {part : Fin 5} {s : State} (h : Carries o s) :
    Answers o (execDbgBrkClr part s) :=
  ⟨_, rfl, State.hostCmd_carries h (fun _ h2 => dbgBrkClr_carries h2)⟩

theorem execRecordBucketRefill_answers {o : State} {now : Nat} {s : State} (h : Carries o s) :
    Answers o (execRecordBucketRefill now s) :=
  ⟨_, rfl, recordBucketRefill_carries h⟩

/-! ### ExecReset -/

theorem execPowerOnReset_answers {o : State} {now : Nat} {s : State} (h : Carries o s) :
    Answers o (execPowerOnReset now s) :=
  ⟨_, rfl, powerOnReset_carries h⟩

theorem execRailsOkRise_answers {o : State} {now : Nat} {s : State} (h : Carries o s) :
    Answers o (execRailsOkRise now s) :=
  ⟨_, rfl, railsOkRise_carries h⟩

theorem execRailsOkTimeout_answers {o : State} {now : Nat} {s : State} (h : Carries o s) :
    Answers o (execRailsOkTimeout now s) :=
  ⟨_, rfl, railsOkTimeout_carries h⟩

theorem execCoreEnRetry_answers {o : State} {now : Nat} {s : State} (h : Carries o s) :
    Answers o (execCoreEnRetry now s) :=
  ⟨_, rfl, coreEnRetry_carries h⟩

theorem execRailsOkFall_answers {o : State} {now : Nat} {s : State} (h : Carries o s) :
    Answers o (execRailsOkFall now s) :=
  ⟨_, rfl, railsOkFall_carries h⟩

theorem execRailVoltageOutOfRange_answers {o : State} {now : Nat} {monitor : Fin 16} {s : State} (h : Carries o s) :
    Answers o (execRailVoltageOutOfRange now monitor s) :=
  ⟨_, rfl, railOutOfRange_carries h⟩

theorem execAonBrownout_answers {o : State} {now : Nat} {s : State} (h : Carries o s) :
    Answers o (execAonBrownout now s) :=
  ⟨_, rfl, aonBrownout_carries h⟩

theorem execResetNAssert_answers {o : State} {now : Nat} {s : State} (h : Carries o s) :
    Answers o (execResetNAssert now s) :=
  ⟨_, rfl, resetNAssert_carries h⟩

theorem execResetRelease_answers {o : State} {now : Nat} {qmode2 : Fin 4} {qmode3 : Fin 4} {s : State} (h : Carries o
    s) :
    Answers o (execResetRelease now qmode2 qmode3 s) :=
  ⟨_, rfl, resetRelease_carries h⟩

theorem execImageVerdict_answers {o : State} {now : Nat} {bist : BootTests} {slices : List (Fin 36)} {repairs : List
    (Nat × BitVec 16 × W32 × W32)} {s : State} (h : Carries o s) :
    Answers o (execImageVerdict now bist slices repairs s) :=
  ⟨_, rfl, imageVerdict_carries h⟩

theorem execXngIslReset_answers {o : State} {part : Fin 4} {isl : BitVec 4} {s : State} (h : Carries o s) :
    Answers o (execXngIslReset part isl s) :=
  ⟨_, rfl, State.hostCmd_carries h (fun _ h2 => xngIslReset_carries h2)⟩

theorem execIslandLeaveReset_answers {o : State} {isl : Fin 13} {s : State} (h : Carries o s) :
    Answers o (execIslandLeaveReset isl s) :=
  ⟨_, rfl, islandLeaveReset_carries h⟩

theorem execClockStop_answers {o : State} {isl : Fin 11} {s : State} (h : Carries o s) :
    Answers o (execClockStop isl s) :=
  ⟨_, rfl, clockStop_carries h⟩

theorem execClockReturn_answers {o : State} {isl : Fin 11} {s : State} (h : Carries o s) :
    Answers o (execClockReturn isl s) :=
  ⟨_, rfl, clockReturn_carries h⟩

theorem execCountedCrossingPulse_answers {o : State} {isl : Fin 13} {chan : Fin 64} {s : State} (h : Carries o s) :
    Answers o (execCountedCrossingPulse isl chan s) :=
  ⟨_, rfl, countedPulse_carries h⟩

theorem execCoalescedCrossingPulse_answers {o : State} {isl : Fin 13} {chan : Fin 64} {s : State} (h : Carries o s) :
    Answers o (execCoalescedCrossingPulse isl chan s) :=
  ⟨_, rfl, coalescedPulse_carries h⟩

theorem execCrossingAcknowledge_answers {o : State} {isl : Fin 13} {chan : Fin 64} {s : State} (h : Carries o s) :
    Answers o (execCrossingAcknowledge isl chan s) :=
  ⟨_, rfl, crossingAck_carries h⟩

/-! ### ExecRules -/

theorem execLearnProcess_answers {o : State} {s : State} (h : Carries o s) :
    Answers o (execLearnProcess s) :=
  ⟨_, rfl, learnProcess_carries h⟩

theorem execEpCreate_answers {o : State} {s : State} (h : Carries o s) :
    Answers o (execEpCreate s) :=
  ⟨_, rfl, epCreate_carries h⟩

theorem execAgeingVisit_answers {o : State} {table : Fin 17} {s : State} (h : Carries o s) :
    Answers o (execAgeingVisit table s) :=
  ⟨_, rfl, ageingVisit_carries h⟩

theorem execCommitRequest_answers {o : State} {part : Fin 5} {s : State} (h : Carries o s) :
    Answers o (execCommitRequest part s) :=
  ⟨_, rfl, State.ruleCmd_carries h (fun _ h2 => commitRequest_carries h2)⟩

theorem execCommitExecute_answers {o : State} {s : State} (h : Carries o s) :
    Answers o (execCommitExecute s) :=
  ⟨_, rfl, commitExecute_carries h⟩

theorem execVersionRetire_answers {o : State} {slot : Fin 4} {s : State} (h : Carries o s) :
    Answers o (execVersionRetire slot s) :=
  ⟨_, rfl, versionRetire_carries h⟩

theorem execRulStgWrite_answers {o : State} {part : Fin 5} {s : State} (h : Carries o s) :
    Answers o (execRulStgWrite part s) :=
  ⟨_, rfl, State.ruleCmd_carries h (fun _ h2 => rulStgWrite_carries h2)⟩

theorem execRulStgRead_answers {o : State} {part : Fin 5} {s : State} (h : Carries o s) :
    Answers o (execRulStgRead part s) :=
  ⟨_, rfl, State.ruleCmd_carries h (fun _ h2 => rulStgRead_carries h2)⟩

theorem execRulStgClear_answers {o : State} {part : Fin 5} {s : State} (h : Carries o s) :
    Answers o (execRulStgClear part s) :=
  ⟨_, rfl, State.ruleCmd_carries h (fun _ h2 => rulStgClear_carries h2)⟩

theorem execRulPinPin_answers {o : State} {part : Fin 4} {version : BitVec 16} {s : State} (h : Carries o s) :
    Answers o (execRulPinPin part version s) :=
  ⟨_, rfl, State.hostCmd_carries h (fun _ h2 => rulPinPin_carries h2)⟩

theorem execRulPinUnpin_answers {o : State} {part : Fin 4} {version : BitVec 16} {s : State} (h : Carries o s) :
    Answers o (execRulPinUnpin part version s) :=
  ⟨_, rfl, State.hostCmd_carries h (fun _ h2 => rulPinUnpin_carries h2)⟩

theorem execTblInsert_answers {o : State} {part : Fin 4} {s : State} (h : Carries o s) :
    Answers o (execTblInsert part s) :=
  ⟨_, rfl, State.hostCmd_carries h (fun _ h2 => tblInsert_carries h2)⟩

theorem execTblDelete_answers {o : State} {part : Fin 4} {s : State} (h : Carries o s) :
    Answers o (execTblDelete part s) :=
  ⟨_, rfl, State.hostCmd_carries h (fun _ h2 => tblDelete_carries h2)⟩

theorem execTblRead_answers {o : State} {part : Fin 4} {s : State} (h : Carries o s) :
    Answers o (execTblRead part s) :=
  ⟨_, rfl, State.hostCmd_carries h (fun _ h2 => tblRead_carries h2)⟩

theorem execTblUpdate_answers {o : State} {part : Fin 4} {s : State} (h : Carries o s) :
    Answers o (execTblUpdate part s) :=
  ⟨_, rfl, State.hostCmd_carries h (fun _ h2 => tblUpdate_carries h2)⟩

theorem execTblFlush_answers {o : State} {part : Fin 4} {s : State} (h : Carries o s) :
    Answers o (execTblFlush part s) :=
  ⟨_, rfl, State.hostCmd_carries h (fun _ h2 => tblFlush_carries h2)⟩

theorem execTblFlushDone_answers {o : State} {part : Fin 4} {s : State} (h : Carries o s) :
    Answers o (execTblFlushDone part s) :=
  ⟨_, rfl, tblFlushDone_carries h⟩

theorem execTblNext_answers {o : State} {part : Fin 4} {s : State} (h : Carries o s) :
    Answers o (execTblNext part s) :=
  ⟨_, rfl, State.hostCmd_carries h (fun _ h2 => tblNext_carries h2)⟩

/-! ### ExecSupervise -/

theorem execSpiRead_answers {o : State} {now : Nat} {frame : List Byte} {s : State} (h : Carries o s) :
    Answers o (execSpiRead now frame s) :=
  ⟨_, rfl, spiRead_carries h⟩

theorem execSpiWrite_answers {o : State} {now : Nat} {frame : List Byte} {s : State} (h : Carries o s) :
    Answers o (execSpiWrite now frame s) :=
  ⟨_, rfl, spiWrite_carries h⟩

theorem execSpiReset_answers {o : State} {now : Nat} {frame : List Byte} {s : State} (h : Carries o s) :
    Answers o (execSpiReset now frame s) :=
  ⟨_, rfl, spiReset_carries h⟩

theorem execSpiFreeze_answers {o : State} {now : Nat} {frame : List Byte} {s : State} (h : Carries o s) :
    Answers o (execSpiFreeze now frame s) :=
  ⟨_, rfl, spiFreeze_carries h⟩

theorem execSpiDry_answers {o : State} {now : Nat} {frame : List Byte} {s : State} (h : Carries o s) :
    Answers o (execSpiDry now frame s) :=
  ⟨_, rfl, spiDry_carries h⟩

theorem execSpiLockdown_answers {o : State} {now : Nat} {frame : List Byte} {s : State} (h : Carries o s) :
    Answers o (execSpiLockdown now frame s) :=
  ⟨_, rfl, spiLockdown_carries h⟩

theorem execSpiFrameError_answers {o : State} {now : Nat} {frame : List Byte} {s : State} (h : Carries o s) :
    Answers o (execSpiFrameError now frame s) :=
  ⟨_, rfl, spiFrameError_carries h⟩

theorem execPowerTargetEval_answers {o : State} {now : Nat} {s : State} (h : Carries o s) :
    Answers o (execPowerTargetEval now s) :=
  ⟨_, rfl, powerTargetEval_carries h⟩

theorem execDwellExpire_answers {o : State} {now : Nat} {s : State} (h : Carries o s) :
    Answers o (execDwellExpire now s) :=
  ⟨_, rfl, dwellExpire_carries h⟩

theorem execWakeEvent_answers {o : State} {now : Nat} {cause : Fin 8} {s : State} (h : Carries o s) :
    Answers o (execWakeEvent now cause s) :=
  ⟨_, rfl, wakeEvent_carries h⟩

theorem execPwrWakeTimerExpire_answers {o : State} {now : Nat} {s : State} (h : Carries o s) :
    Answers o (execPwrWakeTimerExpire now s) :=
  ⟨_, rfl, wakeTimerExpire_carries h⟩

theorem execPwrCmdEnterDry_answers {o : State} {now : Nat} {part : Fin 4} {s : State} (h : Carries o s) :
    Answers o (execPwrCmdEnterDry now part s) :=
  ⟨_, rfl, State.hostCmd_carries h (fun _ h2 => pwrEnterDry_carries h2)⟩

theorem execPwrCmdWake_answers {o : State} {now : Nat} {part : Fin 4} {s : State} (h : Carries o s) :
    Answers o (execPwrCmdWake now part s) :=
  ⟨_, rfl, State.hostCmd_carries h (fun _ h2 => pwrWake_carries h2)⟩

theorem execGaugeSample_answers {o : State} {now : Nat} {temps : List Nat} {volts : List Nat} {speeds : List Nat} {s :
    State} (h : Carries o s) :
    Answers o (execGaugeSample now temps volts speeds s) :=
  ⟨_, rfl, gaugeSample_carries h⟩

theorem execTripCooldownEnd_answers {o : State} {now : Nat} {s : State} (h : Carries o s) :
    Answers o (execTripCooldownEnd now s) :=
  ⟨_, rfl, tripCooldownEnd_carries h⟩

theorem execFloorLoop_answers {o : State} {now : Nat} {ack : Bool} {s : State} (h : Carries o s) :
    Answers o (execFloorLoop now ack s) :=
  ⟨_, rfl, floorLoop_carries h⟩

theorem execShedIntervalStep_answers {o : State} {now : Nat} {s : State} (h : Carries o s) :
    Answers o (execShedIntervalStep now s) :=
  ⟨_, rfl, shedIntervalStep_carries h⟩

theorem execPmbAlert_answers {o : State} {now : Nat} {s : State} (h : Carries o s) :
    Answers o (execPmbAlert now s) :=
  ⟨_, rfl, pmbAlert_carries h⟩

theorem execFthNonce_answers {o : State} {now : Nat} {part : Fin 4} {entropy : List Byte} {s : State} (h : Carries o
    s) :
    Answers o (execFthNonce now part entropy s) :=
  ⟨_, rfl, State.hostCmd_carries h (fun _ h2 => fthNonce_carries h2)⟩

theorem execNonceExpire_answers {o : State} {now : Nat} {s : State} (h : Carries o s) :
    Answers o (execNonceExpire now s) :=
  ⟨_, rfl, nonceExpire_carries h⟩

theorem execFthToken_answers {o : State} {now : Nat} {part : Fin 4} {s : State} (h : Carries o s) :
    Answers o (execFthToken now part s) :=
  ⟨_, rfl, State.hostCmd_carries h (fun _ h2 => fthToken_carries h2)⟩

theorem execSvcBtnPress_answers {o : State} {now : Nat} {s : State} (h : Carries o s) :
    Answers o (execSvcBtnPress now s) :=
  ⟨_, rfl, svcBtnPress_carries h⟩

theorem execPressWaitTimeout_answers {o : State} {now : Nat} {s : State} (h : Carries o s) :
    Answers o (execPressWaitTimeout now s) :=
  ⟨_, rfl, pressWaitTimeout_carries h⟩

theorem execFthAttest_answers {o : State} {part : Fin 4} {s : State} (h : Carries o s) :
    Answers o (execFthAttest part s) :=
  ⟨_, rfl, State.hostCmd_carries h (fun _ h2 => fthAttest_carries h2)⟩

theorem execFthConfirm_answers {o : State} {part : Fin 4} {s : State} (h : Carries o s) :
    Answers o (execFthConfirm part s) :=
  ⟨_, rfl, State.hostCmd_carries h (fun _ h2 => fthConfirm_carries h2)⟩

theorem execFthLcAdvance_answers {o : State} {part : Fin 4} {arg : BitVec 3} {entropy : List Byte} {s : State} (h :
    Carries o s) :
    Answers o (execFthLcAdvance part arg entropy s) :=
  ⟨_, rfl, State.hostCmd_carries h (fun _ h2 => fthLcAdvance_carries h2)⟩

theorem execFthProvision_answers {o : State} {part : Fin 4} {s : State} (h : Carries o s) :
    Answers o (execFthProvision part s) :=
  ⟨_, rfl, State.hostCmd_carries h (fun _ h2 => fthProvision_carries h2)⟩

theorem execFthImgErase_answers {o : State} {part : Fin 4} {slot : BitVec 3} {s : State} (h : Carries o s) :
    Answers o (execFthImgErase part slot s) :=
  ⟨_, rfl, State.hostCmd_carries h (fun _ h2 => fthImgErase_carries h2)⟩

theorem execFthImgVerify_answers {o : State} {part : Fin 4} {slot : BitVec 3} {s : State} (h : Carries o s) :
    Answers o (execFthImgVerify part slot s) :=
  ⟨_, rfl, State.hostCmd_carries h (fun _ h2 => fthImgVerify_carries h2)⟩

theorem execFthWinWrite_answers {o : State} {part : Fin 4} {target : BitVec 4} {off : BitVec 11} {s : State} (h :
    Carries o s) :
    Answers o (execFthWinWrite part target off s) :=
  ⟨_, rfl, State.hostCmd_carries h (fun _ h2 => fthWinWrite_carries h2)⟩

theorem execFthWinRead_answers {o : State} {part : Fin 4} {target : BitVec 4} {off : BitVec 11} {s : State} (h :
    Carries o s) :
    Answers o (execFthWinRead part target off s) :=
  ⟨_, rfl, State.hostCmd_carries h (fun _ h2 => fthWinRead_carries h2)⟩

theorem execExportTrailerSigned_answers {o : State} {s : State} (h : Carries o s) :
    Answers o (execExportTrailerSigned s) :=
  ⟨_, rfl, exportTrailerSigned_carries h⟩

theorem execFthStRegion_answers {o : State} {part : Fin 4} {region : BitVec 4} {s : State} (h : Carries o s) :
    Answers o (execFthStRegion part region s) :=
  ⟨_, rfl, State.hostCmd_carries h (fun _ h2 => fthStRegion_carries h2)⟩

theorem execFthStFull_answers {o : State} {part : Fin 4} {s : State} (h : Carries o s) :
    Answers o (execFthStFull part s) :=
  ⟨_, rfl, State.hostCmd_carries h (fun _ h2 => fthStFull_carries h2)⟩

theorem execFthStAbort_answers {o : State} {part : Fin 4} {s : State} (h : Carries o s) :
    Answers o (execFthStAbort part s) :=
  ⟨_, rfl, State.hostCmd_carries h (fun _ h2 => fthStAbort_carries h2)⟩

theorem execScheduledTestStart_answers {o : State} {now : Nat} {s : State} (h : Carries o s) :
    Answers o (execScheduledTestStart now s) :=
  ⟨_, rfl, scheduledTestStart_carries h⟩

theorem execDeferredTestStart_answers {o : State} {now : Nat} {s : State} (h : Carries o s) :
    Answers o (execDeferredTestStart now s) :=
  ⟨_, rfl, deferredTestStart_carries h⟩

theorem execBistComplete_answers {o : State} {now : Nat} {test : RegionTest} {mem : Bool} {loadOk : Bool} {helper :
    BitVec 2} {repairs : List (Nat × BitVec 16 × W32 × W32)} {s : State} (h : Carries o s) :
    Answers o (execBistComplete now test mem loadOk helper repairs s) :=
  ⟨_, rfl, bistComplete_carries h⟩

theorem execReservoirMapWrite_answers {o : State} {s : State} (h : Carries o s) :
    Answers o (execReservoirMapWrite s) :=
  ⟨_, rfl, State.writeRsv_carries h⟩

theorem execFthFlogCountRead_answers {o : State} {part : Fin 5} {s : State} (h : Carries o s) :
    Answers o (execFthFlogCountRead part s) :=
  ⟨_, rfl, State.hostGet_carries h (fun _ h2 => flogCountRead_carries h2)⟩

theorem execFthFlogDataRead_answers {o : State} {part : Fin 5} {s : State} (h : Carries o s) :
    Answers o (execFthFlogDataRead part s) :=
  ⟨_, rfl, State.hostGet_carries h (fun _ h2 => flogDataRead_carries h2)⟩

theorem execFthRsvCountRead_answers {o : State} {part : Fin 5} {s : State} (h : Carries o s) :
    Answers o (execFthRsvCountRead part s) :=
  ⟨_, rfl, State.hostGet_carries h (fun _ h2 => rsvCountRead_carries h2)⟩

theorem execFthRsvDataRead_answers {o : State} {part : Fin 5} {s : State} (h : Carries o s) :
    Answers o (execFthRsvDataRead part s) :=
  ⟨_, rfl, State.hostGet_carries h (fun _ h2 => rsvDataRead_carries h2)⟩

end Sys2Proof.Machine
end

