-- ==== Sys2Proof/Laws/State.lean ====
section
/-! SUPPORT. What each named update of the state leaves as it was, one lemma for each field, and what a field reads after
a write. -/

namespace Sys2Proof.Machine

variable (s : State)

@[simp] theorem State.setFld_pending (f : Fld) (i b v : Nat) : (s.setFld f i b v).pending = s.pending := rfl
@[simp] theorem State.setFld_wall (f : Fld) (i b v : Nat) : (s.setFld f i b v).wall = s.wall := rfl
@[simp] theorem State.setFld_weir (f : Fld) (i b v : Nat) : (s.setFld f i b v).weir = s.weir := rfl
@[simp] theorem State.setFld_rul (f : Fld) (i b v : Nat) : (s.setFld f i b v).rul = s.rul := rfl
@[simp] theorem State.setFld_tbl (f : Fld) (i b v : Nat) : (s.setFld f i b v).tbl = s.tbl := rfl
@[simp] theorem State.setFld_thr (f : Fld) (i b v : Nat) : (s.setFld f i b v).thr = s.thr := rfl
@[simp] theorem State.setFld_eng (f : Fld) (i b v : Nat) : (s.setFld f i b v).eng = s.eng := rfl
@[simp] theorem State.setFld_hlp (f : Fld) (i b v : Nat) : (s.setFld f i b v).hlp = s.hlp := rfl
@[simp] theorem State.setFld_chan (f : Fld) (i b v : Nat) : (s.setFld f i b v).chan = s.chan := rfl
@[simp] theorem State.setFld_cis (f : Fld) (i b v : Nat) : (s.setFld f i b v).cis = s.cis := rfl
@[simp] theorem State.setFld_mem (f : Fld) (i b v : Nat) : (s.setFld f i b v).mem = s.mem := rfl
@[simp] theorem State.setFld_slu (f : Fld) (i b v : Nat) : (s.setFld f i b v).slu = s.slu := rfl
@[simp] theorem State.setFld_time (f : Fld) (i b v : Nat) : (s.setFld f i b v).time = s.time := rfl
@[simp] theorem State.setFld_pmp (f : Fld) (i b v : Nat) : (s.setFld f i b v).pmp = s.pmp := rfl
@[simp] theorem State.setFld_lkg (f : Fld) (i b v : Nat) : (s.setFld f i b v).lkg = s.lkg := rfl
@[simp] theorem State.setFld_hst (f : Fld) (i b v : Nat) : (s.setFld f i b v).hst = s.hst := rfl
@[simp] theorem State.setFld_edg (f : Fld) (i b v : Nat) : (s.setFld f i b v).edg = s.edg := rfl
@[simp] theorem State.setFld_xng (f : Fld) (i b v : Nat) : (s.setFld f i b v).xng = s.xng := rfl
@[simp] theorem State.setFld_boot (f : Fld) (i b v : Nat) : (s.setFld f i b v).boot = s.boot := rfl
@[simp] theorem State.setFld_pwr (f : Fld) (i b v : Nat) : (s.setFld f i b v).pwr = s.pwr := rfl
@[simp] theorem State.setFld_fth (f : Fld) (i b v : Nat) : (s.setFld f i b v).fth = s.fth := rfl
@[simp] theorem State.setFld_rpl (f : Fld) (i b v : Nat) : (s.setFld f i b v).rpl = s.rpl := rfl
@[simp] theorem State.setFld_img (f : Fld) (i b v : Nat) : (s.setFld f i b v).img = s.img := rfl
@[simp] theorem State.setFld_blocked (f : Fld) (i b v : Nat) : (s.setFld f i b v).blocked = s.blocked := rfl
@[simp] theorem State.setFld_grade (f : Fld) (i b v : Nat) : (s.setFld f i b v).grade = s.grade := rfl
@[simp] theorem State.setFld_out (f : Fld) (i b v : Nat) : (s.setFld f i b v).out = s.out := rfl
@[simp] theorem State.setFld_fresh (f : Fld) (i b v : Nat) : (s.setFld f i b v).fresh = s.fresh := rfl

@[simp] theorem State.wr_pending (f : Fld) (v : Nat) : (s.wr f v).pending = s.pending := rfl
@[simp] theorem State.wr_wall (f : Fld) (v : Nat) : (s.wr f v).wall = s.wall := rfl
@[simp] theorem State.wr_weir (f : Fld) (v : Nat) : (s.wr f v).weir = s.weir := rfl
@[simp] theorem State.wr_rul (f : Fld) (v : Nat) : (s.wr f v).rul = s.rul := rfl
@[simp] theorem State.wr_tbl (f : Fld) (v : Nat) : (s.wr f v).tbl = s.tbl := rfl
@[simp] theorem State.wr_thr (f : Fld) (v : Nat) : (s.wr f v).thr = s.thr := rfl
@[simp] theorem State.wr_eng (f : Fld) (v : Nat) : (s.wr f v).eng = s.eng := rfl
@[simp] theorem State.wr_hlp (f : Fld) (v : Nat) : (s.wr f v).hlp = s.hlp := rfl
@[simp] theorem State.wr_chan (f : Fld) (v : Nat) : (s.wr f v).chan = s.chan := rfl
@[simp] theorem State.wr_cis (f : Fld) (v : Nat) : (s.wr f v).cis = s.cis := rfl
@[simp] theorem State.wr_mem (f : Fld) (v : Nat) : (s.wr f v).mem = s.mem := rfl
@[simp] theorem State.wr_slu (f : Fld) (v : Nat) : (s.wr f v).slu = s.slu := rfl
@[simp] theorem State.wr_time (f : Fld) (v : Nat) : (s.wr f v).time = s.time := rfl
@[simp] theorem State.wr_pmp (f : Fld) (v : Nat) : (s.wr f v).pmp = s.pmp := rfl
@[simp] theorem State.wr_lkg (f : Fld) (v : Nat) : (s.wr f v).lkg = s.lkg := rfl
@[simp] theorem State.wr_hst (f : Fld) (v : Nat) : (s.wr f v).hst = s.hst := rfl
@[simp] theorem State.wr_edg (f : Fld) (v : Nat) : (s.wr f v).edg = s.edg := rfl
@[simp] theorem State.wr_xng (f : Fld) (v : Nat) : (s.wr f v).xng = s.xng := rfl
@[simp] theorem State.wr_boot (f : Fld) (v : Nat) : (s.wr f v).boot = s.boot := rfl
@[simp] theorem State.wr_pwr (f : Fld) (v : Nat) : (s.wr f v).pwr = s.pwr := rfl
@[simp] theorem State.wr_fth (f : Fld) (v : Nat) : (s.wr f v).fth = s.fth := rfl
@[simp] theorem State.wr_rpl (f : Fld) (v : Nat) : (s.wr f v).rpl = s.rpl := rfl
@[simp] theorem State.wr_img (f : Fld) (v : Nat) : (s.wr f v).img = s.img := rfl
@[simp] theorem State.wr_blocked (f : Fld) (v : Nat) : (s.wr f v).blocked = s.blocked := rfl
@[simp] theorem State.wr_grade (f : Fld) (v : Nat) : (s.wr f v).grade = s.grade := rfl
@[simp] theorem State.wr_out (f : Fld) (v : Nat) : (s.wr f v).out = s.out := rfl
@[simp] theorem State.wr_fresh (f : Fld) (v : Nat) : (s.wr f v).fresh = s.fresh := rfl

@[simp] theorem State.bumpFld_pending (f : Fld) (i b n : Nat) : (s.bumpFld f i b n).pending = s.pending := rfl
@[simp] theorem State.bumpFld_wall (f : Fld) (i b n : Nat) : (s.bumpFld f i b n).wall = s.wall := rfl
@[simp] theorem State.bumpFld_weir (f : Fld) (i b n : Nat) : (s.bumpFld f i b n).weir = s.weir := rfl
@[simp] theorem State.bumpFld_rul (f : Fld) (i b n : Nat) : (s.bumpFld f i b n).rul = s.rul := rfl
@[simp] theorem State.bumpFld_tbl (f : Fld) (i b n : Nat) : (s.bumpFld f i b n).tbl = s.tbl := rfl
@[simp] theorem State.bumpFld_thr (f : Fld) (i b n : Nat) : (s.bumpFld f i b n).thr = s.thr := rfl
@[simp] theorem State.bumpFld_eng (f : Fld) (i b n : Nat) : (s.bumpFld f i b n).eng = s.eng := rfl
@[simp] theorem State.bumpFld_hlp (f : Fld) (i b n : Nat) : (s.bumpFld f i b n).hlp = s.hlp := rfl
@[simp] theorem State.bumpFld_chan (f : Fld) (i b n : Nat) : (s.bumpFld f i b n).chan = s.chan := rfl
@[simp] theorem State.bumpFld_cis (f : Fld) (i b n : Nat) : (s.bumpFld f i b n).cis = s.cis := rfl
@[simp] theorem State.bumpFld_mem (f : Fld) (i b n : Nat) : (s.bumpFld f i b n).mem = s.mem := rfl
@[simp] theorem State.bumpFld_slu (f : Fld) (i b n : Nat) : (s.bumpFld f i b n).slu = s.slu := rfl
@[simp] theorem State.bumpFld_time (f : Fld) (i b n : Nat) : (s.bumpFld f i b n).time = s.time := rfl
@[simp] theorem State.bumpFld_pmp (f : Fld) (i b n : Nat) : (s.bumpFld f i b n).pmp = s.pmp := rfl
@[simp] theorem State.bumpFld_lkg (f : Fld) (i b n : Nat) : (s.bumpFld f i b n).lkg = s.lkg := rfl
@[simp] theorem State.bumpFld_hst (f : Fld) (i b n : Nat) : (s.bumpFld f i b n).hst = s.hst := rfl
@[simp] theorem State.bumpFld_edg (f : Fld) (i b n : Nat) : (s.bumpFld f i b n).edg = s.edg := rfl
@[simp] theorem State.bumpFld_xng (f : Fld) (i b n : Nat) : (s.bumpFld f i b n).xng = s.xng := rfl
@[simp] theorem State.bumpFld_boot (f : Fld) (i b n : Nat) : (s.bumpFld f i b n).boot = s.boot := rfl
@[simp] theorem State.bumpFld_pwr (f : Fld) (i b n : Nat) : (s.bumpFld f i b n).pwr = s.pwr := rfl
@[simp] theorem State.bumpFld_fth (f : Fld) (i b n : Nat) : (s.bumpFld f i b n).fth = s.fth := rfl
@[simp] theorem State.bumpFld_rpl (f : Fld) (i b n : Nat) : (s.bumpFld f i b n).rpl = s.rpl := rfl
@[simp] theorem State.bumpFld_img (f : Fld) (i b n : Nat) : (s.bumpFld f i b n).img = s.img := rfl
@[simp] theorem State.bumpFld_blocked (f : Fld) (i b n : Nat) : (s.bumpFld f i b n).blocked = s.blocked := rfl
@[simp] theorem State.bumpFld_grade (f : Fld) (i b n : Nat) : (s.bumpFld f i b n).grade = s.grade := rfl
@[simp] theorem State.bumpFld_out (f : Fld) (i b n : Nat) : (s.bumpFld f i b n).out = s.out := rfl
@[simp] theorem State.bumpFld_fresh (f : Fld) (i b n : Nat) : (s.bumpFld f i b n).fresh = s.fresh := rfl

@[simp] theorem State.bump_pending (f : Fld) : (s.bump f).pending = s.pending := rfl
@[simp] theorem State.bump_wall (f : Fld) : (s.bump f).wall = s.wall := rfl
@[simp] theorem State.bump_weir (f : Fld) : (s.bump f).weir = s.weir := rfl
@[simp] theorem State.bump_rul (f : Fld) : (s.bump f).rul = s.rul := rfl
@[simp] theorem State.bump_tbl (f : Fld) : (s.bump f).tbl = s.tbl := rfl
@[simp] theorem State.bump_thr (f : Fld) : (s.bump f).thr = s.thr := rfl
@[simp] theorem State.bump_eng (f : Fld) : (s.bump f).eng = s.eng := rfl
@[simp] theorem State.bump_hlp (f : Fld) : (s.bump f).hlp = s.hlp := rfl
@[simp] theorem State.bump_chan (f : Fld) : (s.bump f).chan = s.chan := rfl
@[simp] theorem State.bump_cis (f : Fld) : (s.bump f).cis = s.cis := rfl
@[simp] theorem State.bump_mem (f : Fld) : (s.bump f).mem = s.mem := rfl
@[simp] theorem State.bump_slu (f : Fld) : (s.bump f).slu = s.slu := rfl
@[simp] theorem State.bump_time (f : Fld) : (s.bump f).time = s.time := rfl
@[simp] theorem State.bump_pmp (f : Fld) : (s.bump f).pmp = s.pmp := rfl
@[simp] theorem State.bump_lkg (f : Fld) : (s.bump f).lkg = s.lkg := rfl
@[simp] theorem State.bump_hst (f : Fld) : (s.bump f).hst = s.hst := rfl
@[simp] theorem State.bump_edg (f : Fld) : (s.bump f).edg = s.edg := rfl
@[simp] theorem State.bump_xng (f : Fld) : (s.bump f).xng = s.xng := rfl
@[simp] theorem State.bump_boot (f : Fld) : (s.bump f).boot = s.boot := rfl
@[simp] theorem State.bump_pwr (f : Fld) : (s.bump f).pwr = s.pwr := rfl
@[simp] theorem State.bump_fth (f : Fld) : (s.bump f).fth = s.fth := rfl
@[simp] theorem State.bump_rpl (f : Fld) : (s.bump f).rpl = s.rpl := rfl
@[simp] theorem State.bump_img (f : Fld) : (s.bump f).img = s.img := rfl
@[simp] theorem State.bump_blocked (f : Fld) : (s.bump f).blocked = s.blocked := rfl
@[simp] theorem State.bump_grade (f : Fld) : (s.bump f).grade = s.grade := rfl
@[simp] theorem State.bump_out (f : Fld) : (s.bump f).out = s.out := rfl
@[simp] theorem State.bump_fresh (f : Fld) : (s.bump f).fresh = s.fresh := rfl

@[simp] theorem State.emit_pending (o : Out) : (s.emit o).pending = s.pending := rfl
@[simp] theorem State.emit_regs (o : Out) : (s.emit o).regs = s.regs := rfl
@[simp] theorem State.emit_wall (o : Out) : (s.emit o).wall = s.wall := rfl
@[simp] theorem State.emit_weir (o : Out) : (s.emit o).weir = s.weir := rfl
@[simp] theorem State.emit_rul (o : Out) : (s.emit o).rul = s.rul := rfl
@[simp] theorem State.emit_tbl (o : Out) : (s.emit o).tbl = s.tbl := rfl
@[simp] theorem State.emit_thr (o : Out) : (s.emit o).thr = s.thr := rfl
@[simp] theorem State.emit_eng (o : Out) : (s.emit o).eng = s.eng := rfl
@[simp] theorem State.emit_hlp (o : Out) : (s.emit o).hlp = s.hlp := rfl
@[simp] theorem State.emit_chan (o : Out) : (s.emit o).chan = s.chan := rfl
@[simp] theorem State.emit_cis (o : Out) : (s.emit o).cis = s.cis := rfl
@[simp] theorem State.emit_mem (o : Out) : (s.emit o).mem = s.mem := rfl
@[simp] theorem State.emit_slu (o : Out) : (s.emit o).slu = s.slu := rfl
@[simp] theorem State.emit_time (o : Out) : (s.emit o).time = s.time := rfl
@[simp] theorem State.emit_pmp (o : Out) : (s.emit o).pmp = s.pmp := rfl
@[simp] theorem State.emit_lkg (o : Out) : (s.emit o).lkg = s.lkg := rfl
@[simp] theorem State.emit_hst (o : Out) : (s.emit o).hst = s.hst := rfl
@[simp] theorem State.emit_edg (o : Out) : (s.emit o).edg = s.edg := rfl
@[simp] theorem State.emit_xng (o : Out) : (s.emit o).xng = s.xng := rfl
@[simp] theorem State.emit_boot (o : Out) : (s.emit o).boot = s.boot := rfl
@[simp] theorem State.emit_pwr (o : Out) : (s.emit o).pwr = s.pwr := rfl
@[simp] theorem State.emit_fth (o : Out) : (s.emit o).fth = s.fth := rfl
@[simp] theorem State.emit_rpl (o : Out) : (s.emit o).rpl = s.rpl := rfl
@[simp] theorem State.emit_img (o : Out) : (s.emit o).img = s.img := rfl
@[simp] theorem State.emit_blocked (o : Out) : (s.emit o).blocked = s.blocked := rfl
@[simp] theorem State.emit_grade (o : Out) : (s.emit o).grade = s.grade := rfl
@[simp] theorem State.emit_fresh (o : Out) : (s.emit o).fresh = s.fresh := rfl

@[simp] theorem State.setThread_pending (t : Nat) (v : Thr) : (s.setThread t v).pending = s.pending := rfl
@[simp] theorem State.setThread_regs (t : Nat) (v : Thr) : (s.setThread t v).regs = s.regs := rfl
@[simp] theorem State.setThread_wall (t : Nat) (v : Thr) : (s.setThread t v).wall = s.wall := rfl
@[simp] theorem State.setThread_weir (t : Nat) (v : Thr) : (s.setThread t v).weir = s.weir := rfl
@[simp] theorem State.setThread_rul (t : Nat) (v : Thr) : (s.setThread t v).rul = s.rul := rfl
@[simp] theorem State.setThread_tbl (t : Nat) (v : Thr) : (s.setThread t v).tbl = s.tbl := rfl
@[simp] theorem State.setThread_eng (t : Nat) (v : Thr) : (s.setThread t v).eng = s.eng := rfl
@[simp] theorem State.setThread_hlp (t : Nat) (v : Thr) : (s.setThread t v).hlp = s.hlp := rfl
@[simp] theorem State.setThread_chan (t : Nat) (v : Thr) : (s.setThread t v).chan = s.chan := rfl
@[simp] theorem State.setThread_cis (t : Nat) (v : Thr) : (s.setThread t v).cis = s.cis := rfl
@[simp] theorem State.setThread_mem (t : Nat) (v : Thr) : (s.setThread t v).mem = s.mem := rfl
@[simp] theorem State.setThread_slu (t : Nat) (v : Thr) : (s.setThread t v).slu = s.slu := rfl
@[simp] theorem State.setThread_time (t : Nat) (v : Thr) : (s.setThread t v).time = s.time := rfl
@[simp] theorem State.setThread_pmp (t : Nat) (v : Thr) : (s.setThread t v).pmp = s.pmp := rfl
@[simp] theorem State.setThread_lkg (t : Nat) (v : Thr) : (s.setThread t v).lkg = s.lkg := rfl
@[simp] theorem State.setThread_hst (t : Nat) (v : Thr) : (s.setThread t v).hst = s.hst := rfl
@[simp] theorem State.setThread_edg (t : Nat) (v : Thr) : (s.setThread t v).edg = s.edg := rfl
@[simp] theorem State.setThread_xng (t : Nat) (v : Thr) : (s.setThread t v).xng = s.xng := rfl
@[simp] theorem State.setThread_boot (t : Nat) (v : Thr) : (s.setThread t v).boot = s.boot := rfl
@[simp] theorem State.setThread_pwr (t : Nat) (v : Thr) : (s.setThread t v).pwr = s.pwr := rfl
@[simp] theorem State.setThread_fth (t : Nat) (v : Thr) : (s.setThread t v).fth = s.fth := rfl
@[simp] theorem State.setThread_rpl (t : Nat) (v : Thr) : (s.setThread t v).rpl = s.rpl := rfl
@[simp] theorem State.setThread_img (t : Nat) (v : Thr) : (s.setThread t v).img = s.img := rfl
@[simp] theorem State.setThread_blocked (t : Nat) (v : Thr) : (s.setThread t v).blocked = s.blocked := rfl
@[simp] theorem State.setThread_grade (t : Nat) (v : Thr) : (s.setThread t v).grade = s.grade := rfl
@[simp] theorem State.setThread_out (t : Nat) (v : Thr) : (s.setThread t v).out = s.out := rfl
@[simp] theorem State.setThread_fresh (t : Nat) (v : Thr) : (s.setThread t v).fresh = s.fresh := rfl

@[simp] theorem State.updThread_pending (t : Nat) (f : Thr → Thr) : (s.updThread t f).pending = s.pending := rfl
@[simp] theorem State.updThread_regs (t : Nat) (f : Thr → Thr) : (s.updThread t f).regs = s.regs := rfl
@[simp] theorem State.updThread_wall (t : Nat) (f : Thr → Thr) : (s.updThread t f).wall = s.wall := rfl
@[simp] theorem State.updThread_weir (t : Nat) (f : Thr → Thr) : (s.updThread t f).weir = s.weir := rfl
@[simp] theorem State.updThread_rul (t : Nat) (f : Thr → Thr) : (s.updThread t f).rul = s.rul := rfl
@[simp] theorem State.updThread_tbl (t : Nat) (f : Thr → Thr) : (s.updThread t f).tbl = s.tbl := rfl
@[simp] theorem State.updThread_eng (t : Nat) (f : Thr → Thr) : (s.updThread t f).eng = s.eng := rfl
@[simp] theorem State.updThread_hlp (t : Nat) (f : Thr → Thr) : (s.updThread t f).hlp = s.hlp := rfl
@[simp] theorem State.updThread_chan (t : Nat) (f : Thr → Thr) : (s.updThread t f).chan = s.chan := rfl
@[simp] theorem State.updThread_cis (t : Nat) (f : Thr → Thr) : (s.updThread t f).cis = s.cis := rfl
@[simp] theorem State.updThread_mem (t : Nat) (f : Thr → Thr) : (s.updThread t f).mem = s.mem := rfl
@[simp] theorem State.updThread_slu (t : Nat) (f : Thr → Thr) : (s.updThread t f).slu = s.slu := rfl
@[simp] theorem State.updThread_time (t : Nat) (f : Thr → Thr) : (s.updThread t f).time = s.time := rfl
@[simp] theorem State.updThread_pmp (t : Nat) (f : Thr → Thr) : (s.updThread t f).pmp = s.pmp := rfl
@[simp] theorem State.updThread_lkg (t : Nat) (f : Thr → Thr) : (s.updThread t f).lkg = s.lkg := rfl
@[simp] theorem State.updThread_hst (t : Nat) (f : Thr → Thr) : (s.updThread t f).hst = s.hst := rfl
@[simp] theorem State.updThread_edg (t : Nat) (f : Thr → Thr) : (s.updThread t f).edg = s.edg := rfl
@[simp] theorem State.updThread_xng (t : Nat) (f : Thr → Thr) : (s.updThread t f).xng = s.xng := rfl
@[simp] theorem State.updThread_boot (t : Nat) (f : Thr → Thr) : (s.updThread t f).boot = s.boot := rfl
@[simp] theorem State.updThread_pwr (t : Nat) (f : Thr → Thr) : (s.updThread t f).pwr = s.pwr := rfl
@[simp] theorem State.updThread_fth (t : Nat) (f : Thr → Thr) : (s.updThread t f).fth = s.fth := rfl
@[simp] theorem State.updThread_rpl (t : Nat) (f : Thr → Thr) : (s.updThread t f).rpl = s.rpl := rfl
@[simp] theorem State.updThread_img (t : Nat) (f : Thr → Thr) : (s.updThread t f).img = s.img := rfl
@[simp] theorem State.updThread_blocked (t : Nat) (f : Thr → Thr) : (s.updThread t f).blocked = s.blocked := rfl
@[simp] theorem State.updThread_grade (t : Nat) (f : Thr → Thr) : (s.updThread t f).grade = s.grade := rfl
@[simp] theorem State.updThread_out (t : Nat) (f : Thr → Thr) : (s.updThread t f).out = s.out := rfl
@[simp] theorem State.updThread_fresh (t : Nat) (f : Thr → Thr) : (s.updThread t f).fresh = s.fresh := rfl

@[simp] theorem State.setEngine_pending (e : Nat) (v : Eng) : (s.setEngine e v).pending = s.pending := rfl
@[simp] theorem State.setEngine_regs (e : Nat) (v : Eng) : (s.setEngine e v).regs = s.regs := rfl
@[simp] theorem State.setEngine_wall (e : Nat) (v : Eng) : (s.setEngine e v).wall = s.wall := rfl
@[simp] theorem State.setEngine_weir (e : Nat) (v : Eng) : (s.setEngine e v).weir = s.weir := rfl
@[simp] theorem State.setEngine_rul (e : Nat) (v : Eng) : (s.setEngine e v).rul = s.rul := rfl
@[simp] theorem State.setEngine_tbl (e : Nat) (v : Eng) : (s.setEngine e v).tbl = s.tbl := rfl
@[simp] theorem State.setEngine_thr (e : Nat) (v : Eng) : (s.setEngine e v).thr = s.thr := rfl
@[simp] theorem State.setEngine_hlp (e : Nat) (v : Eng) : (s.setEngine e v).hlp = s.hlp := rfl
@[simp] theorem State.setEngine_chan (e : Nat) (v : Eng) : (s.setEngine e v).chan = s.chan := rfl
@[simp] theorem State.setEngine_cis (e : Nat) (v : Eng) : (s.setEngine e v).cis = s.cis := rfl
@[simp] theorem State.setEngine_mem (e : Nat) (v : Eng) : (s.setEngine e v).mem = s.mem := rfl
@[simp] theorem State.setEngine_slu (e : Nat) (v : Eng) : (s.setEngine e v).slu = s.slu := rfl
@[simp] theorem State.setEngine_time (e : Nat) (v : Eng) : (s.setEngine e v).time = s.time := rfl
@[simp] theorem State.setEngine_pmp (e : Nat) (v : Eng) : (s.setEngine e v).pmp = s.pmp := rfl
@[simp] theorem State.setEngine_lkg (e : Nat) (v : Eng) : (s.setEngine e v).lkg = s.lkg := rfl
@[simp] theorem State.setEngine_hst (e : Nat) (v : Eng) : (s.setEngine e v).hst = s.hst := rfl
@[simp] theorem State.setEngine_edg (e : Nat) (v : Eng) : (s.setEngine e v).edg = s.edg := rfl
@[simp] theorem State.setEngine_xng (e : Nat) (v : Eng) : (s.setEngine e v).xng = s.xng := rfl
@[simp] theorem State.setEngine_boot (e : Nat) (v : Eng) : (s.setEngine e v).boot = s.boot := rfl
@[simp] theorem State.setEngine_pwr (e : Nat) (v : Eng) : (s.setEngine e v).pwr = s.pwr := rfl
@[simp] theorem State.setEngine_fth (e : Nat) (v : Eng) : (s.setEngine e v).fth = s.fth := rfl
@[simp] theorem State.setEngine_rpl (e : Nat) (v : Eng) : (s.setEngine e v).rpl = s.rpl := rfl
@[simp] theorem State.setEngine_img (e : Nat) (v : Eng) : (s.setEngine e v).img = s.img := rfl
@[simp] theorem State.setEngine_blocked (e : Nat) (v : Eng) : (s.setEngine e v).blocked = s.blocked := rfl
@[simp] theorem State.setEngine_grade (e : Nat) (v : Eng) : (s.setEngine e v).grade = s.grade := rfl
@[simp] theorem State.setEngine_out (e : Nat) (v : Eng) : (s.setEngine e v).out = s.out := rfl
@[simp] theorem State.setEngine_fresh (e : Nat) (v : Eng) : (s.setEngine e v).fresh = s.fresh := rfl

@[simp] theorem State.emit_out (o : Out) : (s.emit o).out = o :: s.out := rfl

@[simp] theorem State.free_fst : s.free.1 = Config.freeWord s.fresh := rfl

@[simp] theorem State.free_fresh : s.free.2.fresh = s.fresh + 1 := rfl

@[simp] theorem State.free_pending : s.free.2.pending = s.pending := rfl
@[simp] theorem State.free_regs : s.free.2.regs = s.regs := rfl
@[simp] theorem State.free_wall : s.free.2.wall = s.wall := rfl
@[simp] theorem State.free_weir : s.free.2.weir = s.weir := rfl
@[simp] theorem State.free_rul : s.free.2.rul = s.rul := rfl
@[simp] theorem State.free_tbl : s.free.2.tbl = s.tbl := rfl
@[simp] theorem State.free_thr : s.free.2.thr = s.thr := rfl
@[simp] theorem State.free_eng : s.free.2.eng = s.eng := rfl
@[simp] theorem State.free_hlp : s.free.2.hlp = s.hlp := rfl
@[simp] theorem State.free_chan : s.free.2.chan = s.chan := rfl
@[simp] theorem State.free_cis : s.free.2.cis = s.cis := rfl
@[simp] theorem State.free_mem : s.free.2.mem = s.mem := rfl
@[simp] theorem State.free_slu : s.free.2.slu = s.slu := rfl
@[simp] theorem State.free_time : s.free.2.time = s.time := rfl
@[simp] theorem State.free_pmp : s.free.2.pmp = s.pmp := rfl
@[simp] theorem State.free_lkg : s.free.2.lkg = s.lkg := rfl
@[simp] theorem State.free_hst : s.free.2.hst = s.hst := rfl
@[simp] theorem State.free_edg : s.free.2.edg = s.edg := rfl
@[simp] theorem State.free_xng : s.free.2.xng = s.xng := rfl
@[simp] theorem State.free_boot : s.free.2.boot = s.boot := rfl
@[simp] theorem State.free_pwr : s.free.2.pwr = s.pwr := rfl
@[simp] theorem State.free_fth : s.free.2.fth = s.fth := rfl
@[simp] theorem State.free_rpl : s.free.2.rpl = s.rpl := rfl
@[simp] theorem State.free_img : s.free.2.img = s.img := rfl
@[simp] theorem State.free_blocked : s.free.2.blocked = s.blocked := rfl
@[simp] theorem State.free_grade : s.free.2.grade = s.grade := rfl
@[simp] theorem State.free_out : s.free.2.out = s.out := rfl

/-- Setting every listed field changes nothing but register fields. -/
theorem State.setAll_eq (l : List (Fld × Nat × Nat × Nat)) : s.setAll l = { s with regs := (s.setAll l).regs } := by
  unfold State.setAll
  induction l generalizing s with
  | nil => rfl
  | cons e l ih => exact (ih (s.setFld e.1 e.2.1 e.2.2.1 e.2.2.2)).trans rfl

@[simp] theorem State.setAll_pending (l : List (Fld × Nat × Nat × Nat)) : (s.setAll l).pending = s.pending := by
  rw [State.setAll_eq]
@[simp] theorem State.setAll_wall (l : List (Fld × Nat × Nat × Nat)) : (s.setAll l).wall = s.wall := by
  rw [State.setAll_eq]
@[simp] theorem State.setAll_weir (l : List (Fld × Nat × Nat × Nat)) : (s.setAll l).weir = s.weir := by
  rw [State.setAll_eq]
@[simp] theorem State.setAll_rul (l : List (Fld × Nat × Nat × Nat)) : (s.setAll l).rul = s.rul := by
  rw [State.setAll_eq]
@[simp] theorem State.setAll_tbl (l : List (Fld × Nat × Nat × Nat)) : (s.setAll l).tbl = s.tbl := by
  rw [State.setAll_eq]
@[simp] theorem State.setAll_thr (l : List (Fld × Nat × Nat × Nat)) : (s.setAll l).thr = s.thr := by
  rw [State.setAll_eq]
@[simp] theorem State.setAll_eng (l : List (Fld × Nat × Nat × Nat)) : (s.setAll l).eng = s.eng := by
  rw [State.setAll_eq]
@[simp] theorem State.setAll_hlp (l : List (Fld × Nat × Nat × Nat)) : (s.setAll l).hlp = s.hlp := by
  rw [State.setAll_eq]
@[simp] theorem State.setAll_chan (l : List (Fld × Nat × Nat × Nat)) : (s.setAll l).chan = s.chan := by
  rw [State.setAll_eq]
@[simp] theorem State.setAll_cis (l : List (Fld × Nat × Nat × Nat)) : (s.setAll l).cis = s.cis := by
  rw [State.setAll_eq]
@[simp] theorem State.setAll_mem (l : List (Fld × Nat × Nat × Nat)) : (s.setAll l).mem = s.mem := by
  rw [State.setAll_eq]
@[simp] theorem State.setAll_slu (l : List (Fld × Nat × Nat × Nat)) : (s.setAll l).slu = s.slu := by
  rw [State.setAll_eq]
@[simp] theorem State.setAll_time (l : List (Fld × Nat × Nat × Nat)) : (s.setAll l).time = s.time := by
  rw [State.setAll_eq]
@[simp] theorem State.setAll_pmp (l : List (Fld × Nat × Nat × Nat)) : (s.setAll l).pmp = s.pmp := by
  rw [State.setAll_eq]
@[simp] theorem State.setAll_lkg (l : List (Fld × Nat × Nat × Nat)) : (s.setAll l).lkg = s.lkg := by
  rw [State.setAll_eq]
@[simp] theorem State.setAll_hst (l : List (Fld × Nat × Nat × Nat)) : (s.setAll l).hst = s.hst := by
  rw [State.setAll_eq]
@[simp] theorem State.setAll_edg (l : List (Fld × Nat × Nat × Nat)) : (s.setAll l).edg = s.edg := by
  rw [State.setAll_eq]
@[simp] theorem State.setAll_xng (l : List (Fld × Nat × Nat × Nat)) : (s.setAll l).xng = s.xng := by
  rw [State.setAll_eq]
@[simp] theorem State.setAll_boot (l : List (Fld × Nat × Nat × Nat)) : (s.setAll l).boot = s.boot := by
  rw [State.setAll_eq]
@[simp] theorem State.setAll_pwr (l : List (Fld × Nat × Nat × Nat)) : (s.setAll l).pwr = s.pwr := by
  rw [State.setAll_eq]
@[simp] theorem State.setAll_fth (l : List (Fld × Nat × Nat × Nat)) : (s.setAll l).fth = s.fth := by
  rw [State.setAll_eq]
@[simp] theorem State.setAll_rpl (l : List (Fld × Nat × Nat × Nat)) : (s.setAll l).rpl = s.rpl := by
  rw [State.setAll_eq]
@[simp] theorem State.setAll_img (l : List (Fld × Nat × Nat × Nat)) : (s.setAll l).img = s.img := by
  rw [State.setAll_eq]
@[simp] theorem State.setAll_blocked (l : List (Fld × Nat × Nat × Nat)) : (s.setAll l).blocked = s.blocked := by
  rw [State.setAll_eq]
@[simp] theorem State.setAll_grade (l : List (Fld × Nat × Nat × Nat)) : (s.setAll l).grade = s.grade := by
  rw [State.setAll_eq]
@[simp] theorem State.setAll_out (l : List (Fld × Nat × Nat × Nat)) : (s.setAll l).out = s.out := by
  rw [State.setAll_eq]
@[simp] theorem State.setAll_fresh (l : List (Fld × Nat × Nat × Nat)) : (s.setAll l).fresh = s.fresh := by
  rw [State.setAll_eq]

/-- A field reads what was written, in its width. -/
@[simp] theorem State.fld_setFld_self (f : Fld) (i b v : Nat) : (s.setFld f i b v).fld f i b = v % 2 ^ f.w :=
  SMap.get_put_self s.regs (f.key i b) (v % 2 ^ f.w) (f.reset i s.grade)

/-- A write of a field instance leaves every other one. -/
theorem State.fld_setFld_of_ne (f g : Fld) (i b j c v : Nat) (h : g.key j c ≠ f.key i b) :
    (s.setFld f i b v).fld g j c = s.fld g j c :=
  SMap.get_put_of_ne s.regs (v % 2 ^ f.w) (f.reset i s.grade) (g.reset j s.grade) h

@[simp] theorem State.thread_setThread_self (t : Nat) (v : Thr) : (s.setThread t v).thread t = v :=
  SMap.get_put_self s.thr t v {}

/-- A write of one thread leaves every other one. -/
theorem State.thread_setThread_of_ne {t u : Nat} (v : Thr) (h : u ≠ t) : (s.setThread t v).thread u = s.thread u :=
  SMap.get_put_of_ne s.thr v {} {} h

@[simp] theorem State.thread_updThread_self (t : Nat) (f : Thr → Thr) : (s.updThread t f).thread t = f (s.thread t) :=
  State.thread_setThread_self s t _

theorem State.thread_updThread_of_ne {t u : Nat} (f : Thr → Thr) (h : u ≠ t) : (s.updThread t f).thread u = s.thread u :=
  State.thread_setThread_of_ne s _ h

@[simp] theorem State.engine_setEngine_self (e : Nat) (v : Eng) : (s.setEngine e v).engine e = v :=
  SMap.get_put_self s.eng e v {}

theorem State.engine_setEngine_of_ne {e u : Nat} (v : Eng) (h : u ≠ e) : (s.setEngine e v).engine u = s.engine u :=
  SMap.get_put_of_ne s.eng v {} {} h

end Sys2Proof.Machine
end

