-- ==== Sys2Proof/Laws/Release.lean ====
section
/-! SUPPORT. What the release of a device reset leaves. -/

namespace Sys2Proof

open Machine

/-- A release of the device reset lets the block run stage 1, its time 0 and the boot counted. -/
theorem resetRelease_runs (s : State) (now q2 q3 : Nat)
    (h1 : ({ s.upTo now with boot := { (s.upTo now).boot with resetLow := false } } : State).canRelease = true)
    (h2 : (s.upTo now).fth.romOk = true) (h3 : (s.upTo now).fth.lc ≠ 4) :
    (resetRelease s now q2 q3).boot = { (s.upTo now).boot with resetLow := false, held := false, stage := 1 } ∧
      (resetRelease s now q2 q3).time = {} ∧
      (resetRelease s now q2 q3).fth =
        { (s.upTo now).fth with bootCount := min ((s.upTo now).fth.bootCount + 1) 0xFFFFFFFF } := by
  unfold resetRelease
  extract_lets u b0 u1 err v w r0 b1 n f0 x y
  have hw : w.fth = u.fth ∧ w.boot = u1.boot := by
    have hv : v.fth = u.fth ∧ v.boot = u1.boot := ⟨State.setAll_fth _ _, State.setAll_boot _ _⟩
    by_cases e : err = 0
    · rw [show w = v from if_pos e]; exact hv
    · rw [show w = v.setAll _ from if_neg e, State.setAll_fth, State.setAll_boot]; exact hv
  have hy : y.fth = { u.fth with bootCount := n } ∧ y.boot = u1.boot := by
    refine ⟨(State.setAll_fth _ _).trans ?_, (State.setAll_boot _ _).trans hw.2⟩
    show { w.fth with bootCount := n } = { u.fth with bootCount := n }
    rw [hw.1]
  rw [if_neg (by rw [show u1.canRelease = true from h1]; decide), if_neg (by rw [hw.1, h2]; decide), if_neg (by rw [hy.1]; exact h3)]
  rw [State.setAll_boot, State.setAll_time, State.setAll_fth]
  refine ⟨?_, rfl, hy.1.trans ?_⟩
  · show { y.boot with held := false, stage := 1 } = _
    rw [hy.2]
  · rw [show n = min (w.fth.bootCount + 1) 0xFFFFFFFF from rfl, hw.1]

end Sys2Proof
end

