-- ==== Sys2Proof/Laws/Stays.lean ====
section
/-! SUPPORT. What the operations of the units that serve one thread leave as it was. -/

namespace Sys2Proof

open Machine

theorem Stays.refl (s : State) : Stays s s := ⟨rfl, rfl, rfl, rfl, rfl, rfl, rfl, rfl, rfl, rfl, rfl, rfl, rfl, rfl, rfl, rfl, rfl, rfl⟩

theorem Stays.trans {o s t : State} (h : Stays o s) (k : Stays s t) : Stays o t :=
  ⟨k.pending.trans h.pending, k.wall.trans h.wall, k.rul.trans h.rul, k.tbl.trans h.tbl, k.chan.trans h.chan,
    k.slu.trans h.slu, k.time.trans h.time, k.lkg.trans h.lkg, k.edg.trans h.edg, k.xng.trans h.xng, k.boot.trans h.boot,
    k.pwr.trans h.pwr, k.fth.trans h.fth, k.img.trans h.img, k.blocked.trans h.blocked, k.grade.trans h.grade,
    k.scratch.trans h.scratch, k.shared.trans h.shared⟩

/-- An update of any of the other fields. -/
theorem staysMk {o s : State} {regs : SMap Nat} {weir : WeirSt} {thr : SMap Thr} {eng : SMap Eng} {hlp : SMap Helper}
    {cis : CisSt} {mem : MemSt} {pmp : PmpSt} {hst : HstSt} {rpl : RplSt} {out : List Out} {fresh : Nat} (h : Stays o s)
    (hm : (mem.scratch, mem.shared) = (s.mem.scratch, s.mem.shared)) :
    Stays o ⟨s.pending, regs, s.wall, weir, s.rul, s.tbl, thr, eng, hlp, s.chan, cis, mem, s.slu, s.time, pmp, s.lkg, hst,
      s.edg, s.xng, s.boot, s.pwr, s.fth, rpl, s.img, s.blocked, s.grade, out, fresh⟩ :=
  ⟨h.pending, h.wall, h.rul, h.tbl, h.chan, h.slu, h.time, h.lkg, h.edg, h.xng, h.boot, h.pwr, h.fth, h.img, h.blocked,
    h.grade, (congrArg Prod.fst hm).trans h.scratch, (congrArg Prod.snd hm).trans h.shared⟩

/-! ### Shapes of answers -/

variable {α β γ : Type}

/-- A pair whose second part is a state. -/
def Stays2 (o : State) (r : α × State) : Prop := Stays o r.2

/-- A triple whose last part is a state. -/
def Stays3 (o : State) (r : α × β × State) : Prop := Stays o r.2.2

/-- A triggered operation's answer. -/
def Stays1 (o : State) (r : Trig) : Prop := Stays o r.1

/-- A state that may be absent. -/
def StaysO (o : State) (r : Option State) : Prop := ∀ s, r = some s → Stays o s

theorem Stays2.snd {o : State} {r : α × State} (h : Stays2 o r) : Stays o r.2 := h
theorem Stays2.mk {o s : State} {a : α} (h : Stays o s) : Stays2 o (a, s) := h
theorem Stays2.of {o s : State} {r : α × State} {a : α} (h : Stays2 o r) (e : r = (a, s)) : Stays o s := by
  subst e; exact h
theorem Stays3.snd {o : State} {r : α × β × State} (h : Stays3 o r) : Stays o r.2.2 := h
theorem Stays3.snd2 {o : State} {r : α × β × State} (h : Stays3 o r) : Stays2 o r.2 := h
theorem Stays3.mk {o s : State} {a : α} {b : β} (h : Stays o s) : Stays3 o (a, b, s) := h
theorem Stays3.mk2 {o : State} {a : α} {r : β × State} (h : Stays2 o r) : Stays3 o (a, r) := h
theorem Stays3.of {o s : State} {r : α × β × State} {a : α} {b : β} (h : Stays3 o r) (e : r = (a, b, s)) :
    Stays o s := by
  subst e; exact h
theorem Stays1.fst {o : State} {r : Trig} (h : Stays1 o r) : Stays o r.1 := h
theorem Stays1.mk {o s : State} {n : Nat} (h : Stays o s) : Stays1 o (s, n) := h
theorem Stays1.of {o s : State} {r : Trig} {n : Nat} (h : Stays1 o r) (e : r = (s, n)) : Stays o s := by
  subst e; exact h
theorem StaysO.some {o s : State} (h : Stays o s) : StaysO o (.some s) := fun t e => by
  cases e; exact h
theorem StaysO.none {o : State} : StaysO o .none := fun t e => by cases e
theorem StaysO.of {o s : State} {r : Option State} (h : StaysO o r) (e : r = .some s) : Stays o s := h s e
theorem StaysO.getD {o s : State} {r : Option State} (h : StaysO o r) (hs : Stays o s) : Stays o (r.getD s) := by
  cases r with
  | none => exact hs
  | some t => exact h t rfl

/-- An outcome is a next state that carries. -/
def GoesOn (o : State) (r : Host.Outcome State Fault Refusal) : Prop := ∃ t, r = .next t ∧ Stays o t

theorem sPair2 {P : γ → Prop} {o : State} {p : α × State} {f : α → State → γ} (hp : Stays2 o p)
    (h : ∀ a s, Stays o s → P (f a s)) : P (Prod.casesOn p f) := by
  obtain ⟨a, s⟩ := p
  exact h a s hp

theorem sPair1 {P : γ → Prop} {o : State} {p : Trig} {f : State → Nat → γ} (hp : Stays1 o p)
    (h : ∀ s n, Stays o s → P (f s n)) : P (Prod.casesOn p f) := by
  obtain ⟨s, n⟩ := p
  exact h s n hp

end Sys2Proof

namespace Sys2Proof.Machine

open Sys2Proof

theorem State.setReady_stays {o : State} {s : State} {l : Nat} {q : List Nat} (h1 : Stays o s) : Stays o
    (State.setReady s l q) := by
  unfold State.setReady
  exact staysMk h1 rfl

theorem State.setDesc_stays {o : State} {s : State} {d : Nat} {v : Desc} (h1 : Stays o s) : Stays o (State.setDesc s d
    v) := by
  unfold State.setDesc
  exact staysMk h1 rfl

theorem State.makeReady_stays {o : State} {s : State} {d : Nat} {head : Bool} (h1 : Stays o s) : Stays o
    (State.makeReady s d head) := by
  unfold State.makeReady
  extract_lets +onlyGivenNames v1
  extract_lets +onlyGivenNames v2
  exact State.setReady_stays (State.setDesc_stays h1)

theorem State.unready_stays {o : State} {s : State} {d : Nat} (h1 : Stays o s) : Stays o (State.unready s d) := by
  unfold State.unready
  exact staysMk h1 rfl

theorem State.setEff_stays {o : State} {s : State} {d : Nat} (h1 : Stays o s) : Stays o (State.setEff s d) := by
  unfold State.setEff
  extract_lets +onlyGivenNames v1
  extract_lets +onlyGivenNames v2
  refine pIte (P := Stays o) ?_ ?_
  · exact h1
  · refine pIte (P := Stays o) ?_ ?_
    · exact State.makeReady_stays (State.setDesc_stays (State.unready_stays h1))
    · exact State.setDesc_stays h1

theorem State.setFld_stays {o : State} {s : State} {f : Fld} {i : Nat} {b : Nat} {v : Nat} (h1 : Stays o s) : Stays o
    (State.setFld s f i b v) := by
  unfold State.setFld
  exact staysMk h1 rfl

theorem State.bumpFld_stays {o : State} {s : State} {f : Fld} {i : Nat} {b : Nat} {n : Nat} (h1 : Stays o s) : Stays o
    (State.bumpFld s f i b n) := by
  unfold State.bumpFld
  exact State.setFld_stays h1

theorem State.bump_stays {o : State} {s : State} {f : Fld} (h1 : Stays o s) : Stays o (State.bump s f) := by
  unfold State.bump
  exact State.bumpFld_stays h1

theorem State.emit_stays {o : State} {s : State} {a1 : Out} (h1 : Stays o s) : Stays o (State.emit s a1) := by
  unfold State.emit
  exact staysMk h1 rfl

theorem State.sendVec_stays {o : State} {s : State} {p : Nat} {v : Nat} (h1 : Stays o s) : Stays o (State.sendVec s p
    v) := by
  unfold State.sendVec
  split
  · rename_i x1 e2
    exact h1
  · rename_i x3 x4 e5
    extract_lets +onlyGivenNames v6
    extract_lets +onlyGivenNames v7
    refine pIte (P := Stays o) ?_ ?_
    · exact pIte (P := Stays o) h1 (staysMk h1 rfl)
    · exact State.emit_stays h1

theorem State.signalVec_stays {o : State} {s : State} {p : Nat} {v : Nat} (h1 : Stays o s) : Stays o (State.signalVec
    s p v) := by
  unfold State.signalVec
  refine pIte (P := Stays o) ?_ ?_
  · extract_lets +onlyGivenNames v1
    extract_lets +onlyGivenNames v2
    split
    · rename_i x3 x4 e5
      exact pIte (P := Stays o) h1 (staysMk h1 rfl)
    · rename_i x6 e7
      extract_lets +onlyGivenNames v8
      have h9 : Stays o v8 := by
        unfold v8
        exact State.sendVec_stays h1
      clear_value v8
      exact pIte (P := Stays o) h9 (staysMk h9 rfl)
  · exact State.sendVec_stays h1

theorem State.devicePost_stays {o : State} {s : State} {page : Nat} (h1 : Stays o s) : Stays o (State.devicePost s
    page) := by
  unfold State.devicePost
  split
  · rename_i x1 e2
    exact h1
  · rename_i x3 x4 e5
    refine pIte (P := Stays o) ?_ ?_
    · exact staysMk h1 rfl
    · extract_lets +onlyGivenNames v6
      extract_lets +onlyGivenNames v7
      have h8 : Stays o v7 := by
        unfold v7
        exact staysMk h1 rfl
      refine pIte (P := Stays o) ?_ ?_
      · extract_lets +onlyGivenNames v9
        have h10 : Stays o v9 := by
          unfold v9
          exact State.setFld_stays h8
        clear_value v9
        exact pIte (P := Stays o) (State.signalVec_stays h10) h10
      · exact h8

theorem State.event_stays {o : State} {s : State} {st : Fld} {en : Fld} {bank : Nat} {p : Nat} (h1 : Stays o s) :
    Stays o (State.event s st en bank p) := by
  unfold State.event
  extract_lets +onlyGivenNames v1
  have h2 : Stays o v1 := by
    unfold v1
    exact State.devicePost_stays (State.setFld_stays h1)
  clear_value v1
  exact pIte (P := Stays o) (State.signalVec_stays h2) h2

theorem State.eventSup_stays {o : State} {s : State} {st : Fld} {en : Fld} (h1 : Stays o s) : Stays o (State.eventSup
    s st en) := by
  unfold State.eventSup
  exact State.event_stays h1

theorem State.free_stays {o : State} {s : State} (h1 : Stays o s) : Stays2 o (State.free s) := by
  unfold State.free
  exact Stays2.mk (staysMk h1 rfl)

theorem State.freePorts_stays {o : State} {a : State} {a1 : List Nat} (h1 : Stays o a) : Stays2 o (State.freePorts a
    a1) := by
  induction a1 generalizing a
  · unfold State.freePorts
    exact Stays2.mk h1
  · rename_i n1 n2 ih3
    unfold State.freePorts
    split
    · rename_i x1 x2 s3 e4
      have h5 := Stays2.of (o := o) ?_ e4
      rotate_left
      · exact State.free_stays h1
      split
      · rename_i x6 x7 s8 e9
        have h10 := Stays2.of (o := o) ?_ e9
        rotate_left
        · apply ih3
          exact h5
        exact Stays2.mk h10

theorem State.opPorts_stays {o : State} {s : State} {u : Nat} {given : List (Nat × W32)} {st : Nat} (h1 : Stays o s) :
    Stays2 o (State.opPorts s u given st) := by
  unfold State.opPorts
  extract_lets +onlyGivenNames v1
  extract_lets +onlyGivenNames v2
  refine pIte (P := Stays2 o) ?_ ?_
  · split
    · rename_i x3 x4 s5 e6
      have h7 := Stays2.of (o := o) ?_ e6
      rotate_left
      · exact State.freePorts_stays h1
      exact Stays2.mk h7
  · exact Stays2.mk h1

theorem State.setThread_stays {o : State} {s : State} {t : Nat} {v : Thr} (h1 : Stays o s) : Stays o (State.setThread
    s t v) := by
  unfold State.setThread
  exact staysMk h1 rfl

theorem State.updThread_stays {o : State} {s : State} {t : Nat} {f : Thr → Thr} (h1 : Stays o s) : Stays o
    (State.updThread s t f) := by
  unfold State.updThread
  exact State.setThread_stays h1

theorem State.putOp_stays {o : State} {s : State} {t : Nat} {u : Nat} {a3 : UnitOp} (h1 : Stays o s) : Stays o
    (State.putOp s t u a3) := by
  unfold State.putOp
  exact State.updThread_stays h1

theorem State.startOp_stays {o : State} {s : State} {t : Nat} {u : Nat} {given : List (Nat × W32)} {st : Nat} (h1 :
    Stays o s) : Stays o (State.startOp s t u given st) := by
  unfold State.startOp
  split
  · rename_i x1 x2 s3 e4
    have h5 := Stays2.of (o := o) ?_ e4
    rotate_left
    · exact State.opPorts_stays h1
    exact State.putOp_stays h5

theorem State.endWait_stays {o : State} {s : State} {t : Nat} {u : Nat} {given : List (Nat × W32)} {st : Nat} (h1 :
    Stays o s) : Stays o (State.endWait s t u given st) := by
  unfold State.endWait
  exact State.startOp_stays h1

theorem State.wr_stays {o : State} {s : State} {f : Fld} {v : Nat} (h1 : Stays o s) : Stays o (State.wr s f v) := by
  unfold State.wr
  exact State.setFld_stays h1

theorem State.putRecord_stays {o s : State} {kind : Nat} {body : List Byte} (h : Stays o s) :
    Stays o (s.putRecord kind body) := by
  unfold State.putRecord
  refine State.bumpFld_stays (State.bump_stays (State.wr_stays (State.wr_stays ?_)))
  exact staysMk h rfl

theorem State.flushDec_stays {o : State} {s : State} (h1 : Stays o s) : Stays o (State.flushDec s) := by
  unfold State.flushDec
  refine pIte (P := Stays o) ?_ ?_
  · exact h1
  · extract_lets +onlyGivenNames v1
    extract_lets +onlyGivenNames v2
    extract_lets +onlyGivenNames v3
    have h4 : Stays o v3 := by
      unfold v3
      exact staysMk h1 rfl
    clear_value v3
    exact State.putRecord_stays h4

theorem State.logDecision_stays {o : State} {s : State} {t : Nat} {kind : Nat} {status : Nat} {obj : Nat} {value :
    Nat} (h1 : Stays o s) : Stays o (State.logDecision s t kind status obj value) := by
  unfold State.logDecision
  refine pIte (P := Stays o) ?_ ?_
  · exact h1
  · refine pIte (P := Stays o) ?_ ?_
    · exact State.bump_stays (staysMk h1 rfl)
    · extract_lets +onlyGivenNames v1
      extract_lets +onlyGivenNames v2
      exact State.flushDec_stays (staysMk h1 rfl)

theorem State.logFlagEvent_stays {o : State} {s : State} {t : Nat} {kind : Nat} {status : Nat} {obj : Nat} {word :
    W32} (h1 : Stays o s) : Stays o (State.logFlagEvent s t kind status obj word) := by
  unfold State.logFlagEvent
  exact State.logDecision_stays h1

theorem State.wakeThread_stays {o : State} {s : State} {t : Nat} (h1 : Stays o s) : Stays o (State.wakeThread s t) :=
    by
  unfold State.wakeThread
  extract_lets +onlyGivenNames v1
  split
  · rename_i x2 e3
    exact h1
  · rename_i x4 x5 e6
    refine pIte (P := Stays o) ?_ ?_
    · extract_lets +onlyGivenNames v7
      have h8 : Stays o v7 := by
        unfold v7
        exact State.endWait_stays h1
      clear_value v7
      exact State.updThread_stays h8
    · exact h1

theorem State.setEvent_stays {o : State} {s : State} {t : Nat} {n : Nat} (h1 : Stays o s) : Stays o (State.setEvent s
    t n) := by
  unfold State.setEvent
  exact State.wakeThread_stays (State.updThread_stays h1)

theorem State.setAll_stays {o : State} {s : State} {l : List (Fld × Nat × Nat × Nat)} (h1 : Stays o s) : Stays o
    (State.setAll s l) := by
  unfold State.setAll
  refine pFoldl (P := Stays o) ?_ ?_
  · exact h1
  · intro s1 x2 h3
    exact State.setFld_stays h3

theorem State.setCe_stays {o : State} {s : State} {c : Nat} {v : CeSt} (h1 : Stays o s) : Stays o (State.setCe s c v)
    := by
  unfold State.setCe
  exact staysMk h1 rfl

theorem State.setEngine_stays {o : State} {s : State} {e : Nat} {v : Eng} (h1 : Stays o s) : Stays o (State.setEngine
    s e v) := by
  unfold State.setEngine
  exact staysMk h1 rfl

theorem State.eccEngine_stays {o : State} {s : State} {e : Nat} {n : Nat} (h1 : Stays o s) : Stays o (State.eccEngine
    s e n) := by
  unfold State.eccEngine
  refine pIte (P := Stays o) ?_ ?_
  · exact h1
  · extract_lets +onlyGivenNames v1
    extract_lets +onlyGivenNames v2
    exact State.bumpFld_stays (State.setEngine_stays h1)

theorem State.countSoft_stays {o : State} {s : State} {c : Nat} {l : Line} (h1 : Stays o s) : Stays o (State.countSoft
    s c l) := by
  unfold State.countSoft
  refine pIte (P := Stays o) ?_ ?_
  · exact State.eccEngine_stays h1
  · split
    · rename_i x1 e2
      exact h1
    · rename_i x3 x4 e5
      exact State.bumpFld_stays h1

theorem State.setCache_stays {o : State} {s : State} {c : Nat} {k : Cache} (h1 : Stays o s) : Stays o (State.setCache
    s c k) := by
  unfold State.setCache
  exact staysMk h1 rfl

theorem State.poisonWord_stays {o : State} {s : State} {a : Nat} (h1 : Stays o s) : Stays o (State.poisonWord s a) :=
    by
  unfold State.poisonWord
  extract_lets +onlyGivenNames v1
  extract_lets +onlyGivenNames v2
  have h3 : Stays o v2 := by
    unfold v2
    exact staysMk h1 rfl
  clear_value v2
  extract_lets +onlyGivenNames v4
  have h5 : Stays o v4 := by
    unfold v4
    exact State.bump_stays (State.bump_stays h3)
  clear_value v4
  extract_lets +onlyGivenNames v6
  have h7 : Stays o v6 := by
    unfold v6
    exact State.setAll_stays h5
  clear_value v6
  exact State.eventSup_stays h7

theorem State.poisonWords_stays {o : State} {s : State} {l : Line} (h1 : Stays o s) : Stays o (State.poisonWords s l)
    := by
  unfold State.poisonWords
  refine pFoldl (P := Stays o) ?_ ?_
  · exact h1
  · intro s1 x2 h3
    exact State.poisonWord_stays h3

theorem State.checkLine_stays {o : State} {s : State} {c : Nat} {a : Nat} (h1 : Stays o s) : Stays o (State.checkLine
    s c a) := by
  unfold State.checkLine
  split
  · rename_i x1 e2
    exact h1
  · rename_i x3 x4 e5
    extract_lets +onlyGivenNames v6
    have h7 : Stays o v6 := by
      unfold v6
      exact State.countSoft_stays h1
    clear_value v6
    refine pIte (P := Stays o) ?_ ?_
    · exact pIte (P := Stays o) h7 (State.setCache_stays h7)
    · refine pIte (P := Stays o) ?_ ?_
      · exact State.setCache_stays h7
      · exact State.setCache_stays (State.poisonWords_stays h7)

theorem State.countCache_stays {o : State} {s : State} {c : Nat} {f : Fld} (h1 : Stays o s) : Stays o
    (State.countCache s c f) := by
  unfold State.countCache
  split
  · rename_i x1 e2
    exact h1
  · rename_i x3 x4 e5
    exact State.bumpFld_stays h1

theorem State.toVictim_stays {o : State} {s : State} {c : Nat} {l : Line} (h1 : Stays o s) : Stays o (State.toVictim s
    c l) := by
  unfold State.toVictim
  extract_lets +onlyGivenNames v1
  extract_lets +onlyGivenNames v2
  refine pIte (P := Stays o) ?_ ?_
  · exact State.setCache_stays h1
  · clear_value v2
    split
    · rename_i x3
      exact h1
    · rename_i x4 x5 x6
      refine pIte (P := Stays o) ?_ ?_
      · exact State.setCache_stays h1
      · refine pIte (P := Stays o) ?_ ?_
        · exact State.countCache_stays (State.setCache_stays h1)
        · exact State.setCache_stays h1

theorem State.dropCeCopies_stays {o : State} {s : State} {a : Nat} {spare : Option Nat} {insn : Bool} (h1 : Stays o s)
    : Stays o (State.dropCeCopies s a spare insn) := by
  unfold State.dropCeCopies
  extract_lets +onlyGivenNames v1
  extract_lets +onlyGivenNames v2
  have h3 : Stays o v2 := by
    unfold v2
    refine pFoldl (P := Stays o) ?_ ?_
    · exact h1
    · intro s4 x5 h6
      exact State.setCache_stays h6
  clear_value v2
  refine pIte (P := Stays o) ?_ ?_
  · refine pFoldl (P := Stays o) ?_ ?_
    · exact h3
    · intro s7 x8 h9
      exact State.setCache_stays h9
  · exact h3

theorem State.install_stays {o : State} {s : State} {c : Nat} {l : Line} (h1 : Stays o s) : Stays o (State.install s c
    l) := by
  unfold State.install
  extract_lets +onlyGivenNames v1
  extract_lets +onlyGivenNames v2
  extract_lets +onlyGivenNames v3
  extract_lets +onlyGivenNames v4
  extract_lets +onlyGivenNames v5
  have h6 : Stays o v5 := by
    unfold v5
    exact State.setCache_stays h1
  clear_value v5
  clear_value v4
  split
  · rename_i x7
    exact h6
  · rename_i x8 x9
    extract_lets +onlyGivenNames v10
    have h11 : Stays o v10 := by
      unfold v10
      exact State.toVictim_stays h6
    clear_value v10
    exact pIte (P := Stays o) (State.dropCeCopies_stays h11) h11

theorem State.setPchan_stays {o : State} {s : State} {pc : Nat} {p : PChan} (h1 : Stays o s) : Stays o (State.setPchan
    s pc p) := by
  unfold State.setPchan
  exact staysMk h1 rfl

theorem State.ipdReq_stays {o : State} {s : State} {a : Nat} {write : Bool} {cls : Nat} (h1 : Stays o s) : Stays o
    (State.ipdReq s a write cls) := by
  unfold State.ipdReq
  refine pIte (P := Stays o) ?_ ?_
  · exact h1
  · extract_lets +onlyGivenNames v1
    exact pIte (P := Stays o) h1 (State.setPchan_stays h1)

theorem State.ctrlMiss_stays {o : State} {s : State} {a : Nat} (h1 : Stays o s) : Stays o (State.ctrlMiss s a) := by
  unfold State.ctrlMiss
  extract_lets +onlyGivenNames v1
  have h2 : Stays o v1 := by
    unfold v1
    exact State.countCache_stays h1
  clear_value v1
  exact pIte (P := Stays o) h2 (State.ipdReq_stays h2)

theorem State.bring_stays {o : State} {s : State} {c : Nat} {a : Nat} (h1 : Stays o s) : Stays o (State.bring s c a)
    := by
  unfold State.bring
  extract_lets +onlyGivenNames v1
  extract_lets +onlyGivenNames v2
  split
  · rename_i x3 e4
    split
    · rename_i x5 e6
      exact h1
    · rename_i x7 x8 e9
      exact State.setCache_stays h1
  · rename_i x10 e11
    exact State.install_stays (State.setCache_stays h1)
  · rename_i x12 e13
    exact State.install_stays (State.setCache_stays h1)
  · rename_i x14 e15
    exact State.install_stays (State.setCache_stays h1)
  · rename_i x16 e17 e18 e19 e20
    exact h1

theorem State.ctrlRead_stays {o : State} {s : State} {a : Nat} {n : Nat} (h1 : Stays o s) : Stays3 o (State.ctrlRead s
    a n) := by
  unfold State.ctrlRead
  refine pIte (P := Stays3 o) ?_ ?_
  · exact Stays3.mk h1
  · extract_lets +onlyGivenNames v1
    have h2 : Stays o v1 := by
      unfold v1
      exact State.checkLine_stays h1
    clear_value v1
    extract_lets +onlyGivenNames v3
    have h4 : Stays o v3 := by
      unfold v3
      refine pIte (P := Stays o) ?_ ?_
      · exact State.install_stays (State.ctrlMiss_stays h2)
      · exact State.bring_stays (State.countCache_stays h2)
    clear_value v3
    extract_lets +onlyGivenNames v5
    extract_lets +onlyGivenNames v6
    exact Stays3.mk h4

theorem State.pteOf_stays {o : State} {s : State} {c : Nat} {va : Nat} (h1 : Stays o s) : Stays2 o (State.pteOf s c
    va) := by
  unfold State.pteOf
  extract_lets +onlyGivenNames v1
  extract_lets +onlyGivenNames v2
  extract_lets +onlyGivenNames v3
  split
  · rename_i x4 x5 x6 e7
    exact Stays2.mk (State.setCe_stays h1)
  · rename_i x8 e9
    split
    · rename_i x10 x11 x12 s13 e14
      have h15 := Stays3.of (o := o) ?_ e14
      rotate_left
      · exact State.ctrlRead_stays h1
      extract_lets +onlyGivenNames v16
      refine pIte (P := Stays2 o) ?_ ?_
      · exact Stays2.mk h15
      · refine pIte (P := Stays2 o) ?_ ?_
        · exact Stays2.mk h15
        · split
          · rename_i x17 x18 x19 s20 e21
            have h22 := Stays3.of (o := o) ?_ e21
            rotate_left
            · exact State.ctrlRead_stays h15
            extract_lets +onlyGivenNames v23
            refine pIte (P := Stays2 o) ?_ ?_
            · exact Stays2.mk h22
            · exact pIte (P := Stays2 o) (Stays2.mk h22) (Stays2.mk (State.setCe_stays h22))

theorem State.translate_stays {o : State} {s : State} {c : Nat} {va : Nat} {kind : Nat} (h1 : Stays o s) : Stays2 o
    (State.translate s c va kind) := by
  unfold State.translate
  split
  · rename_i x1 x2 x3 s4 e5
    have h6 := Stays2.of (o := o) ?_ e5
    rotate_left
    · exact State.pteOf_stays h1
    extract_lets +onlyGivenNames v7
    extract_lets +onlyGivenNames v8
    refine pIte (P := Stays2 o) ?_ ?_
    · exact Stays2.mk h6
    · exact pIte (P := Stays2 o) (Stays2.mk h6) (pIte (P := Stays2 o) (Stays2.mk h6) (Stays2.mk h6))

theorem State.placeOf_stays {o : State} {s : State} {t : Nat} {x : Nat} {write : Bool} (h1 : Stays o s) : Stays2 o
    (State.placeOf s t x write) := by
  unfold State.placeOf
  split
  · rename_i x1 e2
    exact Stays2.mk h1
  · rename_i x3 x4 e5
    split
    · rename_i x6 x7 s8 e9
      have h10 := Stays2.of (o := o) ?_ e9
      rotate_left
      · exact State.translate_stays h1
      exact Stays2.mk h10
    · rename_i x11 x12 x13 s14 e15 e16
      have h17 := Stays2.of (o := o) ?_ e16
      rotate_left
      · exact State.translate_stays h1
      exact Stays2.mk h17

theorem State.setLine_stays {o : State} {s : State} {c : Nat} {a : Nat} {l : Line} (h1 : Stays o s) : Stays o
    (State.setLine s c a l) := by
  unfold State.setLine
  split
  · rename_i x1 e2
    exact h1
  · rename_i x3 x4 e5
    exact State.setCache_stays h1

theorem State.ipdWrite_stays {o s : State} {a : Nat} {bs : List Byte} (h : Stays o s) : Stays o (s.ipdWrite a bs) :=
  ⟨h.pending, h.wall, h.rul, h.tbl, h.chan, h.slu, h.time, h.lkg, h.edg, h.xng, h.boot, h.pwr, h.fth, h.img,
      h.blocked,
    h.grade, h.scratch, h.shared⟩

theorem State.lineToIpd_stays {o : State} {s : State} {l : Line} (h1 : Stays o s) : Stays o (State.lineToIpd s l) :=
    by
  unfold State.lineToIpd
  refine pFoldl (P := Stays o) ?_ ?_
  · exact h1
  · intro s1 x2 h3
    exact pIte (P := Stays o) h3 (State.ipdWrite_stays h3)

theorem State.writeBack_stays {o : State} {s : State} {c : Nat} {l : Line} (h1 : Stays o s) : Stays o (State.writeBack
    s c l) := by
  unfold State.writeBack
  refine pIte (P := Stays o) ?_ ?_
  · exact State.countCache_stays h1
  · refine pIte (P := Stays o) ?_ ?_
    · exact State.eccEngine_stays h1
    · extract_lets +onlyGivenNames v1
      have h2 : Stays o v1 := by
        unfold v1
        exact State.poisonWords_stays (State.countSoft_stays h1)
      clear_value v1
      extract_lets +onlyGivenNames v3
      split
      · rename_i x4 x5 e6
        refine pIte (P := Stays o) ?_ ?_
        · exact State.install_stays h2
        · extract_lets +onlyGivenNames v7
          have h8 : Stays o v7 := by
            unfold v7
            exact State.bring_stays h2
          clear_value v7
          exact State.setLine_stays h8
      · rename_i x9 e10
        exact State.ipdReq_stays (State.countCache_stays (State.lineToIpd_stays h2))

theorem State.lineAccess_stays {o : State} {s : State} {c : Nat} {x : LineAcc} (h1 : Stays o s) : Stays2 o
    (State.lineAccess s c x) := by
  unfold State.lineAccess
  refine pIte (P := Stays2 o) ?_ ?_
  · exact Stays2.mk (State.setCache_stays h1)
  · extract_lets +onlyGivenNames v1
    have h2 : Stays o v1 := by
      unfold v1
      exact State.bring_stays h1
    clear_value v1
    split
    · rename_i x3 x4 x5 x6 x7 e8
      extract_lets +onlyGivenNames v9
      extract_lets +onlyGivenNames v10
      extract_lets +onlyGivenNames v11
      have h12 : Stays o v11 := by
        unfold v11
        exact State.setLine_stays h2
      clear_value v11
      extract_lets +onlyGivenNames v13
      have h14 : Stays o v13 := by
        unfold v13
        exact pIte (P := Stays o) (State.writeBack_stays (State.dropCeCopies_stays h12)) h12
      clear_value v13
      exact Stays2.mk h14

theorem State.askIpd_stays {o : State} {s : State} {n : Nat} {a : Nat} (h1 : Stays o s) : Stays o (State.askIpd s n a)
    := by
  unfold State.askIpd
  extract_lets +onlyGivenNames v1
  exact pIte (P := Stays o) (State.ipdReq_stays (State.setCache_stays h1)) h1

theorem State.askNext_stays {o : State} {s : State} {c : Nat} {a : Nat} (h1 : Stays o s) : Stays o (State.askNext s c
    a) := by
  unfold State.askNext
  extract_lets +onlyGivenNames v1
  refine pIte (P := Stays o) ?_ ?_
  · exact h1
  · split
    · rename_i x2 e3
      exact State.askIpd_stays h1
    · rename_i x4 x5 e6
      extract_lets +onlyGivenNames v7
      have h8 : Stays o v7 := by
        unfold v7
        exact State.checkLine_stays (State.setCache_stays h1)
      clear_value v7
      refine pIte (P := Stays o) ?_ ?_
      · exact State.bring_stays (State.countCache_stays h8)
      · extract_lets +onlyGivenNames v9
        have h10 : Stays o v9 := by
          unfold v9
          exact State.countCache_stays h8
        clear_value v9
        extract_lets +onlyGivenNames v11
        exact pIte (P := Stays o) h10 (State.askIpd_stays (State.setCache_stays h10))

theorem State.miss_stays {o : State} {s : State} {c : Nat} {a : Nat} {t : Option Nat} {prefetch : Bool} (h1 : Stays o
    s) : Stays o (State.miss s c a t prefetch) := by
  unfold State.miss
  extract_lets +onlyGivenNames v1
  extract_lets +onlyGivenNames v2
  extract_lets +onlyGivenNames v3
  extract_lets +onlyGivenNames v4
  refine pIte (P := Stays o) ?_ ?_
  · exact State.setCache_stays h1
  · extract_lets +onlyGivenNames v5
    have h6 : Stays o v5 := by
      unfold v5
      exact State.setCache_stays h1
    clear_value v5
    exact State.askNext_stays (State.countCache_stays h6)

theorem State.setPool_stays {o : State} {s : State} {p : Nat} {v : Pool} (h1 : Stays o s) : Stays o (State.setPool s p
    v) := by
  unfold State.setPool
  exact staysMk h1 rfl

theorem State.startDesc_stays {o : State} {s : State} {d : Nat} (h1 : Stays o s) : Stays o (State.startDesc s d) := by
  unfold State.startDesc
  extract_lets +onlyGivenNames v1
  exact State.makeReady_stays (State.setDesc_stays h1)

theorem State.loadContext_stays {o : State} {s : State} {d : Nat} (h1 : Stays o s) : Stays2 o (State.loadContext s d)
    := by
  unfold State.loadContext
  extract_lets +onlyGivenNames v1
  split
  · rename_i x2 x3 x4 s5 e6
    have h7 := Stays3.of (o := o) ?_ e6
    rotate_left
    · exact State.ctrlRead_stays h1
    split
    · rename_i x8 x9 x10 s11 e12
      have h13 := Stays3.of (o := o) ?_ e12
      rotate_left
      · exact State.ctrlRead_stays h7
      split
      · rename_i x14 x15 x16 s17 e18
        have h19 := Stays3.of (o := o) ?_ e18
        rotate_left
        · exact State.ctrlRead_stays h13
        exact Stays2.mk h19

theorem State.runOn_stays {o : State} {s : State} {c : Nat} {d : Nat} (h1 : Stays o s) : Stays o (State.runOn s c d)
    := by
  unfold State.runOn
  split
  · rename_i x1 x2 s3 e4
    have h5 := Stays2.of (o := o) ?_ e4
    rotate_left
    · exact State.loadContext_stays h1
    extract_lets +onlyGivenNames v6
    extract_lets +onlyGivenNames v7
    have h8 : Stays o v7 := by
      unfold v7
      exact State.setDesc_stays h5
    clear_value v7
    exact State.bump_stays (State.setCe_stays (State.setThread_stays h8))

theorem State.completeOp_stays {o : State} {s : State} {t : Nat} {u : Nat} (h1 : Stays o s) : Stays o
    (State.completeOp s t u) := by
  unfold State.completeOp
  split
  · rename_i x1 e2
    exact h1
  · rename_i x3 x4 e5
    exact pIte (P := Stays o) h1 (State.updThread_stays h1)

theorem State.nextHandle_stays {o : State} {s : State} {p : Nat} (h1 : Stays o s) : Stays2 o (State.nextHandle s p) :=
    by
  unfold State.nextHandle
  extract_lets +onlyGivenNames v1
  split
  · rename_i x2 x3 x4 x5 e6
    exact Stays2.mk (State.setPool_stays h1)
  · rename_i x7 x8 x9 x10 e11 e12
    exact Stays2.mk (State.setPool_stays h1)
  · rename_i x13 x14 e15 e16
    extract_lets +onlyGivenNames v17
    split
    · rename_i x18 x19 x20 x21 e22
      exact Stays2.mk (State.setPool_stays h1)
    · rename_i x23 x24 x25 x26 e27 e28
      exact Stays2.mk (State.setPool_stays h1)
    · rename_i x29 x30 e31 e32
      exact Stays2.mk h1

theorem State.handOut_stays {o : State} {s : State} {p : Nat} {a2 : Nat} {part : Nat} (h1 : Stays o s) : Stays o
    (State.handOut s p a2 part) := by
  unfold State.handOut
  extract_lets +onlyGivenNames v1
  exact State.setPool_stays h1

theorem State.setRefTable_stays {o : State} {s : State} {t : Nat} {l : List RefEnt} (h1 : Stays o s) : Stays o
    (State.setRefTable s t l) := by
  unfold State.setRefTable
  split
  · rename_i x1 e2
    exact State.updThread_stays h1
  · rename_i x3 x4 e5
    exact staysMk h1 rfl

theorem State.deliverThread_stays {o : State} {s : State} {w : Nat × Nat × Nat} {a2 : Nat} (h1 : Stays o s) : Stays o
    (State.deliverThread s w a2) := by
  unfold State.deliverThread
  split
  · rename_i x1 x2 x3 x4
    extract_lets +onlyGivenNames v5
    have h6 : Stays o v5 := by
      unfold v5
      exact State.handOut_stays h1
    clear_value v5
    split
    · rename_i x7 x8 x9 x10 e11
      exact State.endWait_stays (State.setRefTable_stays h6)

theorem State.hurryAlloc_stays {o : State} {s : State} {t : Nat} {p : Nat} (h1 : Stays o s) : Stays o
    (State.hurryAlloc s t p) := by
  unfold State.hurryAlloc
  split
  · rename_i x1 e2
    exact h1
  · rename_i x3 x4 e5
    split
    · rename_i x6 x7 s8 e9
      have h10 := Stays2.of (o := o) ?_ e9
      rotate_left
      · exact State.nextHandle_stays (staysMk h1 rfl)
      exact State.deliverThread_stays h10
    · rename_i x11 s12 e13
      have h14 := Stays2.of (o := o) ?_ e13
      rotate_left
      · exact State.nextHandle_stays (staysMk h1 rfl)
      exact h14

theorem State.hurryFree_stays {o : State} {s : State} {t : Nat} {p : Nat} (h1 : Stays o s) : Stays o (State.hurryFree
    s t p) := by
  unfold State.hurryFree
  exact State.endWait_stays (staysMk h1 rfl)

theorem State.fetchLine_stays {o : State} {s : State} {c : Nat} {a : Nat} (h1 : Stays o s) : Stays2 o (State.fetchLine
    s c a) := by
  unfold State.fetchLine
  split
  · rename_i x1 e2
    exact Stays2.mk h1
  · rename_i x3 x4 e5
    extract_lets +onlyGivenNames v6
    have h7 : Stays o v6 := by
      unfold v6
      exact State.checkLine_stays h1
    clear_value v6
    split
    · rename_i x8 x9 e10
      exact Stays2.mk h7
    · rename_i x11 e12
      extract_lets +onlyGivenNames v13
      exact Stays2.mk (State.install_stays h7)

theorem State.drainOp_stays {o : State} {s : State} {t : Nat} {u : Nat} {a3 : UnitOp} (h1 : Stays o s) : Stays o
    (State.drainOp s t u a3) := by
  unfold State.drainOp
  refine pIte (P := Stays o) ?_ ?_
  · exact State.completeOp_stays h1
  · refine pIte (P := Stays o) ?_ ?_
    · exact State.completeOp_stays (State.hurryAlloc_stays h1)
    · refine pIte (P := Stays o) ?_ ?_
      · exact State.completeOp_stays (State.hurryFree_stays h1)
      · refine pIte (P := Stays o) ?_ ?_
        · split
          · rename_i x1 x2 x3 x4 e5 e6
            extract_lets +onlyGivenNames v7
            extract_lets +onlyGivenNames v8
            extract_lets +onlyGivenNames v9
            extract_lets +onlyGivenNames v10
            have h11 : Stays o v10 := by
              unfold v10
              exact State.setCache_stays h1
            clear_value v10
            extract_lets +onlyGivenNames v12
            have h13 : Stays o v12 := by
              unfold v12
              refine pIte (P := Stays o) ?_ ?_
              · exact h11
              · split
                · rename_i x14 x15 s16 e17
                  have h18 := Stays2.of (o := o) ?_ e17
                  rotate_left
                  · exact State.fetchLine_stays h11
                  exact State.install_stays h18
            clear_value v12
            split
            · rename_i x19 x20 x21 s22 e23
              have h24 := Stays2.of (o := o) ?_ e23
              rotate_left
              · exact State.lineAccess_stays h13
              exact State.completeOp_stays (State.endWait_stays h24)
          · rename_i x25 x26 e27
            exact State.completeOp_stays (State.endWait_stays h1)
        · exact h1

theorem State.drainOps_stays {o : State} {s : State} {t : Nat} (h1 : Stays o s) : Stays o (State.drainOps s t) := by
  unfold State.drainOps
  refine pFoldl (P := Stays o) ?_ ?_
  · exact h1
  · intro s1 x2 h3
    exact State.drainOp_stays h3

theorem State.ctrlWrite_stays {o : State} {s : State} {a : Nat} {bs : List Byte} (h1 : Stays o s) : Stays o
    (State.ctrlWrite s a bs) := by
  unfold State.ctrlWrite
  refine pIte (P := Stays o) ?_ ?_
  · exact h1
  · extract_lets +onlyGivenNames v1
    have h2 : Stays o v1 := by
      unfold v1
      exact State.checkLine_stays h1
    clear_value v1
    extract_lets +onlyGivenNames v3
    have h4 : Stays o v3 := by
      unfold v3
      refine pIte (P := Stays o) ?_ ?_
      · exact State.install_stays (State.ctrlMiss_stays h2)
      · exact State.bring_stays (State.countCache_stays h2)
    clear_value v3
    extract_lets +onlyGivenNames v5
    extract_lets +onlyGivenNames v6
    have h7 : Stays o v6 := by
      unfold v6
      exact State.dropCeCopies_stays h4
    clear_value v6
    exact State.setLine_stays h7

theorem State.saveContext_stays {o : State} {s : State} {d : Nat} {th : Thr} (h1 : Stays o s) : Stays o
    (State.saveContext s d th) := by
  unfold State.saveContext
  extract_lets +onlyGivenNames v1
  extract_lets +onlyGivenNames v2
  extract_lets +onlyGivenNames v3
  have h4 : Stays o v3 := by
    unfold v3
    refine pFoldl (P := Stays o) ?_ ?_
    · exact h1
    · intro s5 x6 h7
      exact State.ctrlWrite_stays h7
  clear_value v3
  exact State.setDesc_stays h4

theorem State.leaveCe_stays {o : State} {s : State} {c : Nat} (h1 : Stays o s) : Stays o (State.leaveCe s c) := by
  unfold State.leaveCe
  extract_lets +onlyGivenNames v1
  extract_lets +onlyGivenNames v2
  have h3 : Stays o v2 := by
    unfold v2
    exact State.drainOps_stays h1
  clear_value v2
  extract_lets +onlyGivenNames v4
  have h5 : Stays o v4 := by
    unfold v4
    exact State.saveContext_stays h3
  clear_value v4
  exact State.setCe_stays (State.setThread_stays h5)

theorem State.select_stays {o : State} {s : State} {c : Nat} (h1 : Stays o s) : Stays o (State.select s c) := by
  unfold State.select
  split
  · rename_i x1 e2
    exact h1
  · rename_i x3 x4 e5
    extract_lets +onlyGivenNames v6
    extract_lets +onlyGivenNames v7
    exact State.runOn_stays (State.unready_stays h1)

theorem State.scheduleOne_stays {o : State} {s : State} (h1 : Stays o s) : Stays o (State.scheduleOne s) := by
  unfold State.scheduleOne
  split
  · rename_i x1 e2
    exact h1
  · rename_i x3 x4 e5
    split
    · rename_i x6 x7 x8 e9
      extract_lets +onlyGivenNames v10
      extract_lets +onlyGivenNames v11
      exact State.runOn_stays (State.unready_stays h1)
    · rename_i x12 e13
      split
      · rename_i x14 e15
        exact h1
      · rename_i x16 x17 e18
        extract_lets +onlyGivenNames v19
        refine pIte (P := Stays o) ?_ ?_
        · extract_lets +onlyGivenNames v20
          have h21 : Stays o v20 := by
            unfold v20
            exact State.bump_stays (State.leaveCe_stays h1)
          clear_value v20
          exact State.select_stays (State.makeReady_stays h21)
        · exact h1

theorem State.schedule_stays {o : State} {s : State} (h1 : Stays o s) : Stays o (State.schedule s) := by
  unfold State.schedule
  refine pIte (P := Stays o) ?_ ?_
  · exact h1
  · refine pFoldl (P := Stays o) ?_ ?_
    · exact h1
    · intro s1 x2 h3
      exact State.scheduleOne_stays h3

theorem State.eventBit_stays {o : State} {s : State} {st : Fld} {en : Fld} {n : Nat} {bank : Nat} {p : Nat} (h1 :
    Stays o s) : Stays o (State.eventBit s st en n bank p) := by
  unfold State.eventBit
  extract_lets +onlyGivenNames v1
  extract_lets +onlyGivenNames v2
  have h3 : Stays o v2 := by
    unfold v2
    exact State.devicePost_stays (pIte (P := Stays o) h1 (State.setFld_stays h1))
  clear_value v2
  exact pIte (P := Stays o) (State.signalVec_stays h3) h3

theorem State.rplEvent_stays {o : State} {s : State} {n : Nat} (h1 : Stays o s) : Stays o (State.rplEvent s n) := by
  unfold State.rplEvent
  exact State.eventBit_stays h1

theorem State.startPost_stays {o : State} {s : State} {cause : Nat} (h1 : Stays o s) : Stays2 o (State.startPost s
    cause) := by
  unfold State.startPost
  refine pIte (P := Stays2 o) ?_ ?_
  · exact Stays2.mk h1
  · extract_lets +onlyGivenNames v1
    extract_lets +onlyGivenNames v2
    have h3 : Stays o v2 := by
      unfold v2
      exact staysMk h1 rfl
    clear_value v2
    exact Stays2.mk (State.rplEvent_stays (State.wr_stays h3))

theorem State.cisError_stays {o : State} {s : State} {p : Nat} {st : Nat} {op : Nat} {kind : Nat} {a5 : Nat} {id :
    Nat} (h1 : Stays o s) : Stays o (State.cisError s p st op kind a5 id) := by
  unfold State.cisError
  extract_lets +onlyGivenNames v1
  have h2 : Stays o v1 := by
    unfold v1
    exact State.bump_stays h1
  clear_value v1
  refine pIte (P := Stays o) ?_ ?_
  · exact State.eventSup_stays (State.bump_stays h2)
  · extract_lets +onlyGivenNames v3
    extract_lets +onlyGivenNames v4
    extract_lets +onlyGivenNames v5
    have h6 : Stays o v5 := by
      unfold v5
      exact staysMk h2 rfl
    clear_value v5
    exact State.eventSup_stays (State.wr_stays h6)

theorem State.uncharge_stays {o : State} {s : State} {p : Nat} {a2 : Nat} (h1 : Stays o s) : Stays o (State.uncharge s
    p a2) := by
  unfold State.uncharge
  extract_lets +onlyGivenNames v1
  extract_lets +onlyGivenNames v2
  exact State.setPool_stays h1

theorem State.ipdReqs_stays {o : State} {s : State} {a : Nat} {n : Nat} {write : Bool} {cls : Nat} (h1 : Stays o s) :
    Stays o (State.ipdReqs s a n write cls) := by
  unfold State.ipdReqs
  refine pFoldl (P := Stays o) ?_ ?_
  · exact h1
  · intro s1 x2 h3
    exact State.ipdReq_stays h3

theorem State.ringReqs_stays {o : State} {s : State} {p : Nat} {i : Nat} {n : Nat} {write : Bool} (h1 : Stays o s) :
    Stays o (State.ringReqs s p i n write) := by
  unfold State.ringReqs
  extract_lets +onlyGivenNames v1
  extract_lets +onlyGivenNames v2
  have h3 : Stays o v2 := by
    unfold v2
    exact State.ipdReqs_stays h1
  clear_value v2
  exact pIte (P := Stays o) h3 (State.ipdReqs_stays h3)

theorem State.startSpill_stays {o : State} {s : State} {p : Nat} (h1 : Stays o s) : Stays o (State.startSpill s p) :=
    by
  unfold State.startSpill
  extract_lets +onlyGivenNames v1
  refine pIte (P := Stays o) ?_ ?_
  · exact h1
  · extract_lets +onlyGivenNames v2
    exact State.ringReqs_stays (State.setPool_stays h1)

theorem State.pushHandle_stays {o : State} {s : State} {p : Nat} {a2 : Nat} (h1 : Stays o s) : Stays o
    (State.pushHandle s p a2) := by
  unfold State.pushHandle
  exact State.startSpill_stays (State.setPool_stays h1)

theorem State.returnHandle_stays {o : State} {s : State} {p : Nat} {a2 : Nat} (h1 : Stays o s) : Stays o
    (State.returnHandle s p a2) := by
  unfold State.returnHandle
  extract_lets +onlyGivenNames v1
  refine pIte (P := Stays o) ?_ ?_
  · exact State.setPool_stays h1
  · exact State.bump_stays (State.uncharge_stays (State.pushHandle_stays h1))

theorem State.dropCount_stays {o : State} {s : State} {p : Nat} {a2 : Nat} (h1 : Stays o s) : Stays o (State.dropCount
    s p a2) := by
  unfold State.dropCount
  extract_lets +onlyGivenNames v1
  extract_lets +onlyGivenNames v2
  extract_lets +onlyGivenNames v3
  have h4 : Stays o v3 := by
    unfold v3
    exact State.setPool_stays h1
  clear_value v3
  refine pIte (P := Stays o) ?_ ?_
  · exact h4
  · refine pIte (P := Stays o) ?_ ?_
    · exact State.uncharge_stays h4
    · exact pIte (P := Stays o) (State.setPool_stays h4) (State.returnHandle_stays h4)

theorem State.setHead_stays {o : State} {s : State} {a1 : Nat} {bs : List Byte} (h1 : Stays o s) : Stays o
    (State.setHead s a1 bs) := by
  unfold State.setHead
  exact staysMk h1 rfl

theorem State.startRefill_stays {o : State} {s : State} {p : Nat} {waits : Bool} (h1 : Stays o s) : Stays o
    (State.startRefill s p waits) := by
  unfold State.startRefill
  extract_lets +onlyGivenNames v1
  refine pIte (P := Stays o) ?_ ?_
  · exact h1
  · refine pIte (P := Stays o) ?_ ?_
    · extract_lets +onlyGivenNames v2
      exact State.ringReqs_stays (State.setPool_stays h1)
    · exact h1

theorem State.allocCore_stays {o : State} {s : State} {p : Nat} {part : Nat} {who : Nat} (h1 : Stays o s) : Stays2 o
    (State.allocCore s p part who) := by
  unfold State.allocCore
  extract_lets +onlyGivenNames v1
  refine pIte (P := Stays2 o) ?_ ?_
  · exact Stays2.mk (State.bump_stays h1)
  · refine pIte (P := Stays2 o) ?_ ?_
    · exact Stays2.mk (State.eventSup_stays (State.bump_stays h1))
    · extract_lets +onlyGivenNames v2
      extract_lets +onlyGivenNames v3
      have h4 : Stays o v3 := by
        unfold v3
        exact State.bump_stays (State.setPool_stays h1)
      clear_value v3
      split
      · rename_i x5 x6 x7 e8
        exact Stays2.mk (State.startRefill_stays (State.handOut_stays (State.setPool_stays h4)))
      · rename_i x9 e10
        refine pIte (P := Stays2 o) ?_ ?_
        · exact Stays2.mk (State.handOut_stays (State.setPool_stays h4))
        · exact Stays2.mk (State.startRefill_stays (staysMk h4 rfl))

theorem State.setSlot_stays {o : State} {s : State} {i : Nat} {v : Slot} (h1 : Stays o s) : Stays o (State.setSlot s i
    v) := by
  unfold State.setSlot
  exact staysMk h1 rfl

theorem State.addCount_stays {o : State} {s : State} {p : Nat} {a2 : Nat} (h1 : Stays o s) : Stays o (State.addCount s
    p a2) := by
  unfold State.addCount
  extract_lets +onlyGivenNames v1
  exact State.setPool_stays h1

theorem State.post_stays {o : State} {s : State} {d : Nat} {flags : Nat} (h1 : Stays o s) : Stays o (State.post s d
    flags) := by
  unfold State.post
  refine pIte (P := Stays o) ?_ ?_
  · exact h1
  · extract_lets +onlyGivenNames v1
    extract_lets +onlyGivenNames v2
    have h3 : Stays o v2 := by
      unfold v2
      exact staysMk h1 rfl
    exact pIte (P := Stays o) (State.eventSup_stays h3) h3

theorem State.postHeld_stays {o : State} {s : State} {d : Nat} {flags : Nat} (h1 : Stays o s) : Stays o
    (State.postHeld s d flags) := by
  unfold State.postHeld
  exact pIte (P := Stays o) (staysMk h1 rfl) (State.post_stays h1)

theorem State.watchThread_stays {o : State} {s : State} {t : Nat} (h1 : Stays o s) : Stays o (State.watchThread s t)
    := by
  unfold State.watchThread
  split
  · rename_i x1 e2
    exact State.setEvent_stays h1
  · rename_i x3 x4 e5
    exact State.postHeld_stays h1

theorem State.blockCe_stays {o : State} {s : State} {c : Nat} {kind : Nat} {mask : Nat} (h1 : Stays o s) : Stays o
    (State.blockCe s c kind mask) := by
  unfold State.blockCe
  extract_lets +onlyGivenNames v1
  extract_lets +onlyGivenNames v2
  extract_lets +onlyGivenNames v3
  have h4 : Stays o v3 := by
    unfold v3
    exact State.leaveCe_stays h1
  clear_value v3
  extract_lets +onlyGivenNames v5
  extract_lets +onlyGivenNames v6
  have h7 : Stays o v6 := by
    unfold v6
    exact State.setDesc_stays h4
  clear_value v6
  extract_lets +onlyGivenNames v8
  extract_lets +onlyGivenNames v9
  have h10 : Stays o v9 := by
    unfold v9
    exact pIte (P := Stays o) h7 (staysMk h7 rfl)
  clear_value v9
  exact State.select_stays h10

theorem State.ceBlocks_stays {o : State} {s : State} {t : Nat} (h1 : Stays o s) : Stays o (State.ceBlocks s t) := by
  unfold State.ceBlocks
  split
  · rename_i x1 e2
    exact h1
  · rename_i x3 x4 e5
    extract_lets +onlyGivenNames v6
    refine pIte (P := Stays o) ?_ ?_
    · exact h1
    · exact pIte (P := Stays o) (State.blockCe_stays h1) (pIte (P := Stays o) (State.blockCe_stays h1) h1)

theorem State.logOp_stays {o : State} {s : State} {t : Nat} {u : Nat} {a3 : UnitOp} (h1 : Stays o s) : Stays o
    (State.logOp s t u a3) := by
  unfold State.logOp
  split
  · rename_i x1 e2
    exact h1
  · rename_i x3 x4 e5
    extract_lets +onlyGivenNames v6
    extract_lets +onlyGivenNames v7
    extract_lets +onlyGivenNames v8
    refine pIte (P := Stays o) ?_ ?_
    · exact pIte (P := Stays o) (State.logFlagEvent_stays h1) h1
    · refine pIte (P := Stays o) ?_ ?_
      · exact pIte (P := Stays o) (State.logDecision_stays h1) h1
      · refine pIte (P := Stays o) ?_ ?_
        · exact State.logFlagEvent_stays h1
        · refine pIte (P := Stays o) ?_ ?_
          · exact State.logDecision_stays h1
          · refine pIte (P := Stays o) ?_ ?_
            · exact State.logDecision_stays h1
            · exact pIte (P := Stays o) (pIte (P := Stays o) (State.logDecision_stays h1) h1) h1

theorem State.setHelper_stays {o : State} {s : State} {b : Nat} {a2 : Nat} {v : Helper} (h1 : Stays o s) : Stays o
    (State.setHelper s b a2 v) := by
  unfold State.setHelper
  exact staysMk h1 rfl

theorem State.freeWindow_stays {o : State} {s : State} {t : Nat} (h1 : Stays o s) : Stays o (State.freeWindow s t) :=
    by
  unfold State.freeWindow
  split
  · rename_i x1 e2
    exact h1
  · rename_i x3 x4 e5
    exact pIte (P := Stays o) (State.putOp_stays h1) h1

theorem State.hlpDone_stays {o : State} {s : State} {t : Nat} {a2 : Nat} (h1 : Stays o s) : Stays o (State.hlpDone s t
    a2) := by
  unfold State.hlpDone
  extract_lets +onlyGivenNames v1
  split
  · rename_i x2 e3
    exact h1
  · rename_i x4 x5 e6
    extract_lets +onlyGivenNames v7
    extract_lets +onlyGivenNames v8
    have h9 : Stays o v8 := by
      unfold v8
      split
      · rename_i x10 e11
        exact h1
      · rename_i x12 x13 x14 e15
        exact pIte (P := Stays o) h1 (State.setHelper_stays h1)
    clear_value v8
    extract_lets +onlyGivenNames v16
    have h17 : Stays o v16 := by
      unfold v16
      exact State.freeWindow_stays (State.completeOp_stays h9)
    clear_value v16
    exact pIte (P := Stays o) (State.setEvent_stays h17) h17

theorem State.finishOp_stays {o : State} {s : State} {t : Nat} {u : Nat} (h1 : Stays o s) : Stays o (State.finishOp s
    t u) := by
  unfold State.finishOp
  split
  · rename_i x1 e2
    exact h1
  · rename_i x3 x4 e5
    refine pIte (P := Stays o) ?_ ?_
    · exact h1
    · extract_lets +onlyGivenNames v6
      have h7 : Stays o v6 := by
        unfold v6
        exact pIte (P := Stays o) (State.logOp_stays h1) h1
      clear_value v6
      extract_lets +onlyGivenNames v8
      have h9 : Stays o v8 := by
        unfold v8
        exact State.updThread_stays h7
      clear_value v8
      refine pIte (P := Stays o) ?_ ?_
      · exact State.hlpDone_stays h9
      · exact pIte (P := Stays o) (State.hlpDone_stays h9) (State.completeOp_stays h9)

theorem State.settleFast_stays {o : State} {s : State} {t : Nat} (h1 : Stays o s) : Stays o (State.settleFast s t) :=
    by
  unfold State.settleFast
  refine pFoldl (P := Stays o) ?_ ?_
  · exact h1
  · intro s1 x2 h3
    exact State.finishOp_stays h3

theorem State.escalate_stays {o : State} {s : State} {e : Nat} {cause : Nat} (h1 : Stays o s) : Stays o
    (State.escalate s e cause) := by
  unfold State.escalate
  refine pIte (P := Stays o) ?_ ?_
  · exact h1
  · extract_lets +onlyGivenNames v1
    have h2 : Stays o v1 := by
      unfold v1
      exact State.setFld_stays (State.setFld_stays h1)
    clear_value v1
    extract_lets +onlyGivenNames v3
    extract_lets +onlyGivenNames v4
    have h5 : Stays o v4 := by
      unfold v4
      exact State.setEngine_stays h2
    clear_value v4
    exact State.eventSup_stays h5

theorem State.stillCheck_stays {o : State} {s : State} {e : Nat} (h1 : Stays o s) : Stays o (State.stillCheck s e) :=
    by
  unfold State.stillCheck
  extract_lets +onlyGivenNames v1
  extract_lets +onlyGivenNames v2
  refine pIte (P := Stays o) ?_ ?_
  · exact pIte (P := Stays o) (State.setEngine_stays h1) h1
  · refine pIte (P := Stays o) ?_ ?_
    · exact h1
    · extract_lets +onlyGivenNames v3
      extract_lets +onlyGivenNames v4
      have h5 : Stays o v4 := by
        unfold v4
        exact State.setEngine_stays h1
      clear_value v4
      refine pIte (P := Stays o) ?_ ?_
      · exact h5
      · extract_lets +onlyGivenNames v6
        have h7 : Stays o v6 := by
          unfold v6
          exact State.eventSup_stays (State.bump_stays h5)
        clear_value v6
        extract_lets +onlyGivenNames v8
        extract_lets +onlyGivenNames v9
        extract_lets +onlyGivenNames v10
        have h11 : Stays o v10 := by
          unfold v10
          exact State.setEngine_stays h7
        clear_value v10
        extract_lets +onlyGivenNames v12
        have h13 : Stays o v12 := by
          unfold v12
          exact State.setEvent_stays h11
        clear_value v12
        extract_lets +onlyGivenNames v14
        have h15 : Stays o v14 := by
          unfold v14
          exact pIte (P := Stays o) (State.escalate_stays h13) h13
        clear_value v14
        exact State.setEngine_stays h15

theorem State.afterIssue_stays {o : State} {s : State} {t : Nat} (h1 : Stays o s) : Stays o (State.afterIssue s t) :=
    by
  unfold State.afterIssue
  extract_lets +onlyGivenNames v1
  have h2 : Stays o v1 := by
    unfold v1
    exact State.ceBlocks_stays (State.settleFast_stays h1)
  clear_value v1
  extract_lets +onlyGivenNames v3
  have h4 : Stays o v3 := by
    unfold v3
    exact pIte (P := Stays o) (State.stillCheck_stays h2) h2
  clear_value v3
  exact State.schedule_stays h4

theorem State.aluOp_stays {o : State} {s : State} {t : Nat} {n : Nat} {f : W32 → W32} {cy : W32 → Bool} (h1 : Stays o
    s) : Stays1 o (State.aluOp s t n f cy) := by
  unfold State.aluOp
  extract_lets +onlyGivenNames v1
  exact Stays1.mk (State.startOp_stays h1)

theorem State.setSession_stays {o : State} {s : State} {r : Session} (h1 : Stays o s) : Stays o (State.setSession s r)
    := by
  unfold State.setSession
  exact staysMk h1 rfl

theorem State.bitOp_stays {o : State} {s : State} {t : Nat} {v : W32} (h1 : Stays o s) : Stays1 o (State.bitOp s t v)
    := by
  unfold State.bitOp
  exact Stays1.mk (State.startOp_stays h1)

theorem State.bodyReq_stays {o : State} {s : State} {d : Droplet} {off : Nat} {n : Nat} {write : Bool} (h1 : Stays o
    s) : Stays o (State.bodyReq s d off n write) := by
  unfold State.bodyReq
  extract_lets +onlyGivenNames v1
  exact pIte (P := Stays o) h1 (State.ipdReqs_stays h1)

theorem State.stopCe_stays {o : State} {s : State} {c : Nat} (h1 : Stays o s) : Stays o (State.stopCe s c) := by
  unfold State.stopCe
  extract_lets +onlyGivenNames v1
  extract_lets +onlyGivenNames v2
  have h3 : Stays o v2 := by
    unfold v2
    exact State.leaveCe_stays h1
  clear_value v2
  extract_lets +onlyGivenNames v4
  extract_lets +onlyGivenNames v5
  extract_lets +onlyGivenNames v6
  have h7 : Stays o v6 := by
    unfold v6
    exact State.setCe_stays (State.setDesc_stays h3)
  clear_value v6
  exact State.eventSup_stays h7

theorem State.ceFault_stays {o : State} {s : State} {c : Nat} {cause : Nat} {pc : Nat} {fva : Nat} (h1 : Stays o s) :
    Stays o (State.ceFault s c cause pc fva) := by
  unfold State.ceFault
  extract_lets +onlyGivenNames v1
  exact pIte (P := Stays o) (State.stopCe_stays h1) (State.updThread_stays h1)

theorem State.peFault_stays {o : State} {s : State} {t : Nat} {cause : Nat} {pc : Nat} (h1 : Stays o s) : Stays o
    (State.peFault s t cause pc) := by
  unfold State.peFault
  extract_lets +onlyGivenNames v1
  have h2 : Stays o v1 := by
    unfold v1
    exact State.bump_stays h1
  clear_value v1
  extract_lets +onlyGivenNames v3
  extract_lets +onlyGivenNames v4
  have h5 : Stays o v4 := by
    unfold v4
    exact State.updThread_stays h2
  clear_value v4
  extract_lets +onlyGivenNames v6
  have h7 : Stays o v6 := by
    unfold v6
    exact State.setEvent_stays h5
  clear_value v6
  extract_lets +onlyGivenNames v8
  have h9 : Stays o v8 := by
    unfold v8
    exact pIte (P := Stays o) (State.escalate_stays h7) h7
  clear_value v8
  exact State.stillCheck_stays h9

theorem State.faultAt_stays {o : State} {s : State} {t : Nat} {cause : Nat} {pc : Nat} {va : Nat} (h1 : Stays o s) :
    Stays o (State.faultAt s t cause pc va) := by
  unfold State.faultAt
  split
  · rename_i x1 e2
    exact State.peFault_stays h1
  · rename_i x3 x4 e5
    exact State.ceFault_stays h1

theorem State.fault_stays {o : State} {s : State} {t : Nat} {cause : Nat} {pc : Nat} (h1 : Stays o s) : Stays o
    (State.fault s t cause pc) := by
  unfold State.fault
  exact State.faultAt_stays h1

theorem State.jumpTo_stays {o : State} {s : State} {t : Nat} {target : Nat} (h1 : Stays o s) : Stays o (State.jumpTo s
    t target) := by
  unfold State.jumpTo
  exact State.updThread_stays h1

theorem pcJump_stays {o : State} {s : State} {t : Nat} {x : W32} (h1 : Stays o s) : Stays1 o (pcJump s t x) := by
  unfold pcJump
  exact pIte (P := Stays1 o) (Stays1.mk h1) (Stays1.mk (State.jumpTo_stays h1))

theorem pcBr_stays {o : State} {s : State} {t : Nat} {x : W32} (h1 : Stays o s) : Stays1 o (pcBr s t x) := by
  unfold pcBr
  extract_lets +onlyGivenNames v1
  extract_lets +onlyGivenNames v2
  refine pIte (P := Stays1 o) ?_ ?_
  · exact pIte (P := Stays1 o) (Stays1.mk h1) (Stays1.mk (State.jumpTo_stays h1))
  · exact Stays1.mk (State.jumpTo_stays h1)

theorem pcCall_stays {o : State} {s : State} {t : Nat} {x : W32} (h1 : Stays o s) : Stays1 o (pcCall s t x) := by
  unfold pcCall
  extract_lets +onlyGivenNames v1
  extract_lets +onlyGivenNames v2
  refine pIte (P := Stays1 o) ?_ ?_
  · exact Stays1.mk h1
  · refine pIte (P := Stays1 o) ?_ ?_
    · exact Stays1.mk (State.jumpTo_stays (State.updThread_stays h1))
    · refine pIte (P := Stays1 o) ?_ ?_
      · exact Stays1.mk h1
      · exact Stays1.mk (State.jumpTo_stays (State.updThread_stays h1))

theorem pcRet_stays {o : State} {s : State} {t : Nat} (h1 : Stays o s) : Stays1 o (pcRet s t) := by
  unfold pcRet
  extract_lets +onlyGivenNames v1
  refine pIte (P := Stays1 o) ?_ ?_
  · extract_lets +onlyGivenNames v2
    exact pIte (P := Stays1 o) (Stays1.mk h1) (Stays1.mk (State.jumpTo_stays h1))
  · split
    · rename_i x3 e4
      exact Stays1.mk h1
    · rename_i x5 x6 x7 e8
      exact Stays1.mk (State.jumpTo_stays (State.updThread_stays h1))

theorem State.setClaim_stays {o : State} {s : State} {b : Nat} {a2 : Nat} {k : Option Nat} (h1 : Stays o s) : Stays o
    (State.setClaim s b a2 k) := by
  unfold State.setClaim
  exact State.setFld_stays (State.setHelper_stays h1)

theorem State.hlpGiveUp_stays {o : State} {s : State} {b : Nat} {a2 : Nat} {k : Nat} (h1 : Stays o s) : Stays o
    (State.hlpGiveUp s b a2 k) := by
  unfold State.hlpGiveUp
  extract_lets +onlyGivenNames v1
  exact pIte (P := Stays o) (State.setClaim_stays (State.setHelper_stays h1)) h1

theorem State.hlpSquash_stays {o : State} {s : State} {t : Nat} {a2 : Nat} {releases : Bool} (h1 : Stays o s) : Stays
    o (State.hlpSquash s t a2 releases) := by
  unfold State.hlpSquash
  extract_lets +onlyGivenNames v1
  extract_lets +onlyGivenNames v2
  extract_lets +onlyGivenNames v3
  split
  · rename_i x4 x5 e6
    refine pIte (P := Stays o) ?_ ?_
    · extract_lets +onlyGivenNames v7
      have h8 : Stays o v7 := by
        unfold v7
        exact State.freeWindow_stays (State.updThread_stays h1)
      clear_value v7
      exact State.bump_stays (State.setHelper_stays h8)
    · extract_lets +onlyGivenNames v9
      have h10 : Stays o v9 := by
        unfold v9
        exact State.hlpDone_stays h1
      clear_value v9
      exact pIte (P := Stays o) (State.hlpGiveUp_stays h10) h10
  · rename_i x11 e12
    refine pIte (P := Stays o) ?_ ?_
    · exact h1
    · exact pIte (P := Stays o) (State.setHelper_stays h1) (State.hlpGiveUp_stays h1)

theorem lpBegin_stays {o : State} {s : State} {t : Nat} {x : W32} (h1 : Stays o s) : Stays1 o (lpBegin s t x) := by
  unfold lpBegin
  extract_lets +onlyGivenNames v1
  extract_lets +onlyGivenNames v2
  extract_lets +onlyGivenNames v3
  refine pIte (P := Stays1 o) ?_ ?_
  · exact Stays1.mk h1
  · refine pIte (P := Stays1 o) ?_ ?_
    · exact Stays1.mk h1
    · refine pIte (P := Stays1 o) ?_ ?_
      · exact Stays1.mk (State.updThread_stays h1)
      · exact Stays1.mk (State.updThread_stays h1)

theorem lpBrk_stays {o : State} {s : State} {t : Nat} (h1 : Stays o s) : Stays1 o (lpBrk s t) := by
  unfold lpBrk
  split
  · rename_i x1 e2
    exact Stays1.mk h1
  · rename_i x3 x4 x5 e6
    exact Stays1.mk (State.updThread_stays h1)

theorem State.inStore_stays {o : State} {s : State} {r : Session} {f : State → Trig} (h1 : Stays o s) (h3 : ∀ y0,
    Stays o y0 → Stays1 o (f y0)) : Stays1 o (State.inStore s r f) := by
  unfold State.inStore
  extract_lets +onlyGivenNames v1
  extract_lets +onlyGivenNames v2
  extract_lets +onlyGivenNames v3
  have h4 : Stays1 o v3 := by
    unfold v3
    apply h3
    exact staysMk h1 rfl
  clear_value v3
  extract_lets +onlyGivenNames v5
  have h6 : Stays o v5 := by
    unfold v5
    exact Stays1.fst h4
  clear_value v5
  extract_lets +onlyGivenNames v7
  exact Stays1.mk (State.setSession_stays (staysMk h6 rfl))

theorem State.diverge_stays {o : State} {s : State} {index : Nat} (h1 : Stays o s) : Stays o (State.diverge s index)
    := by
  unfold State.diverge
  split
  · rename_i x1 e2
    exact h1
  · rename_i x3 x4 e5
    exact State.rplEvent_stays (State.setAll_stays (State.setSession_stays h1))

theorem State.replayEndOf_stays {o : State} {s : State} {r : Session} {t : Nat} {a3 : Nat} {sent : Bool} {egress :
    Nat} {reason : Nat} (h1 : Stays o s) : Stays o (State.replayEndOf s r t a3 sent egress reason) := by
  unfold State.replayEndOf
  split
  · rename_i x1 e2
    exact State.startOp_stays h1
  · rename_i x3 x4 e5
    refine pIte (P := Stays o) ?_ ?_
    · exact State.startOp_stays h1
    · extract_lets +onlyGivenNames v6
      extract_lets +onlyGivenNames v7
      extract_lets +onlyGivenNames v8
      extract_lets +onlyGivenNames v9
      have h10 : Stays o v9 := by
        unfold v9
        exact State.bumpFld_stays (State.setSession_stays h1)
      clear_value v9
      extract_lets +onlyGivenNames v11
      extract_lets +onlyGivenNames v12
      split
      · rename_i x13 e14
        unfold v12
        exact State.startOp_stays h10
      · rename_i x15 x16 e17
        extract_lets +onlyGivenNames v18
        extract_lets +onlyGivenNames v19
        extract_lets +onlyGivenNames v20
        have h21 : Stays o v20 := by
          unfold v20
          unfold v12
          exact State.startOp_stays h10
        clear_value v20
        exact pIte (P := Stays o) h21 (State.diverge_stays h21)

theorem State.fromLog_stays {o : State} {s : State} {r : Session} {t : Nat} {kind : Nat} {obj : Nat} {f : State →
    DecEnt → State} (h1 : Stays o s) (h6 : ∀ y0 y1, Stays o y0 → Stays o (f y0 y1)) : Stays1 o (State.fromLog s r t
    kind obj f) := by
  unfold State.fromLog
  split
  · rename_i x1 e2
    exact Stays1.mk (State.diverge_stays h1)
  · rename_i x3 x4 x5 e6
    refine Stays1.mk ?_
    apply h6
    exact State.setSession_stays h1

theorem State.replayTrig_stays {o : State} {s : State} {r : Session} {t : Nat} {p : Nat} {x : Nat} {f : State → Trig}
    (h1 : Stays o s) (h6 : ∀ y0, Stays o y0 → Stays1 o (f y0)) : Stays1 o (State.replayTrig s r t p x f) := by
  unfold State.replayTrig
  extract_lets +onlyGivenNames v1
  extract_lets +onlyGivenNames v2
  have h3 : Stays1 o v2 := by
    unfold v2
    apply h6
    exact h1
  clear_value v2
  refine pIte (P := Stays1 o) ?_ ?_
  · exact h3
  · refine pIte (P := Stays1 o) ?_ ?_
    · exact Stays1.mk h1
    · refine pIte (P := Stays1 o) ?_ ?_
      · extract_lets +onlyGivenNames v4
        extract_lets +onlyGivenNames v5
        extract_lets +onlyGivenNames v6
        extract_lets +onlyGivenNames v7
        extract_lets +onlyGivenNames v8
        refine pIte (P := Stays1 o) ?_ ?_
        · exact Stays1.mk (State.startOp_stays h1)
        · refine State.inStore_stays ?_ ?_
          · exact h1
          · intro s9 h10
            apply h6
            exact h10
      · refine pIte (P := Stays1 o) ?_ ?_
        · split
          · rename_i x11 x12 e13
            refine pIte (P := Stays1 o) ?_ ?_
            · exact Stays1.mk (State.startOp_stays h1)
            · refine State.inStore_stays ?_ ?_
              · exact h1
              · intro s14 h15
                apply h6
                exact h15
          · rename_i x16 e17
            refine State.inStore_stays ?_ ?_
            · exact h1
            · intro s18 h19
              apply h6
              exact h19
        · refine pIte (P := Stays1 o) ?_ ?_
          · refine State.inStore_stays ?_ ?_
            · exact h1
            · intro s20 h21
              apply h6
              exact h21
          · refine pIte (P := Stays1 o) ?_ ?_
            · refine State.inStore_stays ?_ ?_
              · exact h1
              · intro s22 h23
                apply h6
                exact h23
            · refine pIte (P := Stays1 o) ?_ ?_
              · extract_lets +onlyGivenNames v24
                exact Stays1.mk (State.replayEndOf_stays h1)
              · refine pIte (P := Stays1 o) ?_ ?_
                · exact Stays1.mk (State.replayEndOf_stays h1)
                · refine pIte (P := Stays1 o) ?_ ?_
                  · split
                    · rename_i x25 x26 e27
                      refine pIte (P := Stays1 o) ?_ ?_
                      · exact Stays1.mk (State.startOp_stays h1)
                      · extract_lets +onlyGivenNames v28
                        exact Stays1.mk (State.startOp_stays (State.setSession_stays h1))
                    · rename_i x29 e30
                      exact Stays1.mk (State.startOp_stays h1)
                  · refine pIte (P := Stays1 o) ?_ ?_
                    · exact Stays1.mk (State.startOp_stays h1)
                    · refine pIte (P := Stays1 o) ?_ ?_
                      · split
                        · rename_i x31 x32 e33
                          exact Stays1.mk (State.startOp_stays h1)
                        · rename_i x34 e35
                          exact h3
                      · refine pIte (P := Stays1 o) ?_ ?_
                        · refine State.fromLog_stays ?_ ?_
                          · exact h1
                          · intro s36 x37 h38
                            exact State.startOp_stays h38
                        · refine pIte (P := Stays1 o) ?_ ?_
                          · refine State.fromLog_stays ?_ ?_
                            · exact h1
                            · intro s39 x40 h41
                              exact State.startOp_stays h41
                          · refine pIte (P := Stays1 o) ?_ ?_
                            · refine State.fromLog_stays ?_ ?_
                              · exact h1
                              · intro s42 x43 h44
                                exact State.setEvent_stays (State.startOp_stays h44)
                            · refine pIte (P := Stays1 o) ?_ ?_
                              · exact Stays1.mk (State.startOp_stays h1)
                              · refine pIte (P := Stays1 o) ?_ ?_
                                · refine State.fromLog_stays ?_ ?_
                                  · exact h1
                                  · intro s45 x46 h47
                                    exact State.startOp_stays h47
                                · refine pIte (P := Stays1 o) ?_ ?_
                                  · exact Stays1.mk (State.startOp_stays h1)
                                  · refine pIte (P := Stays1 o) ?_ ?_
                                    · split
                                      · rename_i x48 e49
                                        exact Stays1.mk (State.startOp_stays h1)
                                      · rename_i x50 x51 x52 e53
                                        exact Stays1.mk (State.startOp_stays (State.setSession_stays h1))
                                    · exact h3

theorem State.hlpStale_stays {o : State} {s : State} {t : Nat} {a2 : Nat} (h1 : Stays o s) : Stays o (State.hlpStale s
    t a2) := by
  unfold State.hlpStale
  split
  · rename_i x1 e2
    exact h1
  · rename_i x3 x4 e5
    exact pIte (P := Stays o) (State.hlpSquash_stays h1) h1

theorem State.hlpStaleAll_stays {o : State} {s : State} {t : Nat} (h1 : Stays o s) : Stays o (State.hlpStaleAll s t)
    := by
  unfold State.hlpStaleAll
  refine pIte (P := Stays o) ?_ ?_
  · exact h1
  · refine pFoldl (P := Stays o) ?_ ?_
    · exact h1
    · intro s1 x2 h3
      exact State.hlpStale_stays (State.hlpStale_stays h3)

theorem State.trig_stays {o : State} {s : State} {t : Nat} {p : Nat} {v : W32} {f : State → Trig} (h1 : Stays o s) (h5
    : ∀ y0, Stays o y0 → Stays1 o (f y0)) : Stays1 o (State.trig s t p v f) := by
  unfold State.trig
  split
  · rename_i x1 s2 x3 e4
    have h5 := Stays1.of (o := o) ?_ e4
    rotate_left
    · split
      · rename_i x6 x7 e8
        refine pIte (P := Stays1 o) ?_ ?_
        · refine State.replayTrig_stays ?_ ?_
          · exact h1
          · intro s9 h10
            apply h5
            exact h10
        · apply h5
          exact h1
      · rename_i x11 e12
        apply h5
        exact h1
    refine pIte (P := Stays1 o) ?_ ?_
    · exact Stays1.mk h5
    · split
      · rename_i x13 e14
        exact Stays1.mk h5
      · rename_i x15 x16 e17
        extract_lets +onlyGivenNames v18
        have h19 : Stays o v18 := by
          unfold v18
          exact pIte (P := Stays o) (State.hlpStaleAll_stays h5) h5
        clear_value v18
        split
        · rename_i x20 e21
          exact Stays1.mk h19
        · rename_i x22 x23 e24
          extract_lets +onlyGivenNames v25
          exact pIte (P := Stays1 o) (Stays1.mk (State.updThread_stays h19)) (Stays1.mk h19)

theorem aluAdd_stays {o : State} {s : State} {t : Nat} {n : Nat} {x : W32} (h1 : Stays o s) : Stays1 o (aluAdd s t n
    x) := by
  unfold aluAdd
  exact State.aluOp_stays h1

theorem aluSub_stays {o : State} {s : State} {t : Nat} {n : Nat} {x : W32} (h1 : Stays o s) : Stays1 o (aluSub s t n
    x) := by
  unfold aluSub
  exact State.aluOp_stays h1

theorem aluAnd_stays {o : State} {s : State} {t : Nat} {n : Nat} {x : W32} (h1 : Stays o s) : Stays1 o (aluAnd s t n
    x) := by
  unfold aluAnd
  exact State.aluOp_stays h1

theorem aluOr_stays {o : State} {s : State} {t : Nat} {n : Nat} {x : W32} (h1 : Stays o s) : Stays1 o (aluOr s t n x)
    := by
  unfold aluOr
  exact State.aluOp_stays h1

theorem aluXor_stays {o : State} {s : State} {t : Nat} {n : Nat} {x : W32} (h1 : Stays o s) : Stays1 o (aluXor s t n
    x) := by
  unfold aluXor
  exact State.aluOp_stays h1

theorem aluAndn_stays {o : State} {s : State} {t : Nat} {n : Nat} {x : W32} (h1 : Stays o s) : Stays1 o (aluAndn s t n
    x) := by
  unfold aluAndn
  exact State.aluOp_stays h1

theorem aluShl_stays {o : State} {s : State} {t : Nat} {n : Nat} {x : W32} (h1 : Stays o s) : Stays1 o (aluShl s t n
    x) := by
  unfold aluShl
  exact State.aluOp_stays h1

theorem aluShr_stays {o : State} {s : State} {t : Nat} {n : Nat} {x : W32} (h1 : Stays o s) : Stays1 o (aluShr s t n
    x) := by
  unfold aluShr
  exact State.aluOp_stays h1

theorem aluSar_stays {o : State} {s : State} {t : Nat} {n : Nat} {x : W32} (h1 : Stays o s) : Stays1 o (aluSar s t n
    x) := by
  unfold aluSar
  exact State.aluOp_stays h1

theorem aluRotl_stays {o : State} {s : State} {t : Nat} {n : Nat} {x : W32} (h1 : Stays o s) : Stays1 o (aluRotl s t n
    x) := by
  unfold aluRotl
  exact State.aluOp_stays h1

theorem aluMin_stays {o : State} {s : State} {t : Nat} {n : Nat} {x : W32} (h1 : Stays o s) : Stays1 o (aluMin s t n
    x) := by
  unfold aluMin
  exact State.aluOp_stays h1

theorem aluMax_stays {o : State} {s : State} {t : Nat} {n : Nat} {x : W32} (h1 : Stays o s) : Stays1 o (aluMax s t n
    x) := by
  unfold aluMax
  exact State.aluOp_stays h1

theorem aluMinu_stays {o : State} {s : State} {t : Nat} {n : Nat} {x : W32} (h1 : Stays o s) : Stays1 o (aluMinu s t n
    x) := by
  unfold aluMinu
  exact State.aluOp_stays h1

theorem aluMaxu_stays {o : State} {s : State} {t : Nat} {n : Nat} {x : W32} (h1 : Stays o s) : Stays1 o (aluMaxu s t n
    x) := by
  unfold aluMaxu
  exact State.aluOp_stays h1

theorem aluMov_stays {o : State} {s : State} {t : Nat} {n : Nat} {x : W32} (h1 : Stays o s) : Stays1 o (aluMov s t n
    x) := by
  unfold aluMov
  exact State.aluOp_stays h1

theorem State.fieldOp_stays {o : State} {s : State} {t : Nat} {x : W32} {v : W32} (h1 : Stays o s) : Stays1 o
    (State.fieldOp s t x v) := by
  unfold State.fieldOp
  exact pIte (P := Stays1 o) (State.bitOp_stays h1) (Stays1.mk h1)

theorem bitExtu_stays {o : State} {s : State} {t : Nat} {x : W32} (h1 : Stays o s) : Stays1 o (bitExtu s t x) := by
  unfold bitExtu
  exact State.fieldOp_stays h1

theorem bitExts_stays {o : State} {s : State} {t : Nat} {x : W32} (h1 : Stays o s) : Stays1 o (bitExts s t x) := by
  unfold bitExts
  exact State.fieldOp_stays h1

theorem bitIns_stays {o : State} {s : State} {t : Nat} {x : W32} (h1 : Stays o s) : Stays1 o (bitIns s t x) := by
  unfold bitIns
  exact State.fieldOp_stays h1

theorem bitClz_stays {o : State} {s : State} {t : Nat} {x : W32} (h1 : Stays o s) : Stays1 o (bitClz s t x) := by
  unfold bitClz
  exact State.bitOp_stays h1

theorem bitCtz_stays {o : State} {s : State} {t : Nat} {x : W32} (h1 : Stays o s) : Stays1 o (bitCtz s t x) := by
  unfold bitCtz
  exact State.bitOp_stays h1

theorem bitPopc_stays {o : State} {s : State} {t : Nat} {x : W32} (h1 : Stays o s) : Stays1 o (bitPopc s t x) := by
  unfold bitPopc
  exact State.bitOp_stays h1

theorem bitBswap_stays {o : State} {s : State} {t : Nat} {x : W32} (h1 : Stays o s) : Stays1 o (bitBswap s t x) := by
  unfold bitBswap
  exact State.bitOp_stays h1

theorem bitBswap16_stays {o : State} {s : State} {t : Nat} {x : W32} (h1 : Stays o s) : Stays1 o (bitBswap16 s t x) :=
    by
  unfold bitBswap16
  exact State.bitOp_stays h1

theorem bitBitrev_stays {o : State} {s : State} {t : Nat} {x : W32} (h1 : Stays o s) : Stays1 o (bitBitrev s t x) :=
    by
  unfold bitBitrev
  exact State.bitOp_stays h1

theorem bitSext8_stays {o : State} {s : State} {t : Nat} {x : W32} (h1 : Stays o s) : Stays1 o (bitSext8 s t x) := by
  unfold bitSext8
  exact State.bitOp_stays h1

theorem bitSext16_stays {o : State} {s : State} {t : Nat} {x : W32} (h1 : Stays o s) : Stays1 o (bitSext16 s t x) :=
    by
  unfold bitSext16
  exact State.bitOp_stays h1

theorem State.mulOp_stays {o : State} {s : State} {t : Nat} {v : W32 × W32} (h1 : Stays o s) : Stays1 o (State.mulOp s
    t v) := by
  unfold State.mulOp
  exact Stays1.mk (State.startOp_stays h1)

theorem mulMulu_stays {o : State} {s : State} {t : Nat} {x : W32} (h1 : Stays o s) : Stays1 o (mulMulu s t x) := by
  unfold mulMulu
  exact State.mulOp_stays h1

theorem mulMuls_stays {o : State} {s : State} {t : Nat} {x : W32} (h1 : Stays o s) : Stays1 o (mulMuls s t x) := by
  unfold mulMuls
  exact State.mulOp_stays h1

theorem State.divOp_stays {o : State} {s : State} {t : Nat} {x : W32} {f : W32 → W32 → W32 × W32} (h1 : Stays o s) :
    Stays1 o (State.divOp s t x f) := by
  unfold State.divOp
  extract_lets +onlyGivenNames v1
  exact pIte (P := Stays1 o) (Stays1.mk (State.startOp_stays h1)) (State.mulOp_stays h1)

theorem mulDivu_stays {o : State} {s : State} {t : Nat} {x : W32} (h1 : Stays o s) : Stays1 o (mulDivu s t x) := by
  unfold mulDivu
  exact State.divOp_stays h1

theorem mulDivs_stays {o : State} {s : State} {t : Nat} {x : W32} (h1 : Stays o s) : Stays1 o (mulDivs s t x) := by
  unfold mulDivs
  exact State.divOp_stays h1

theorem State.cmpOp_stays {o : State} {s : State} {t : Nat} {f : W32 → Bool} (h1 : Stays o s) : Stays1 o (State.cmpOp
    s t f) := by
  unfold State.cmpOp
  extract_lets +onlyGivenNames v1
  extract_lets +onlyGivenNames v2
  refine pIte (P := Stays1 o) ?_ ?_
  · exact Stays1.mk h1
  · extract_lets +onlyGivenNames v3
    have h4 : Stays o v3 := by
      unfold v3
      exact State.startOp_stays h1
    clear_value v3
    exact pIte (P := Stays1 o) (Stays1.mk h4) (Stays1.mk (State.updThread_stays h4))

theorem cmpEq_stays {o : State} {s : State} {t : Nat} {x : W32} (h1 : Stays o s) : Stays1 o (cmpEq s t x) := by
  unfold cmpEq
  exact State.cmpOp_stays h1

theorem cmpNe_stays {o : State} {s : State} {t : Nat} {x : W32} (h1 : Stays o s) : Stays1 o (cmpNe s t x) := by
  unfold cmpNe
  exact State.cmpOp_stays h1

theorem cmpLt_stays {o : State} {s : State} {t : Nat} {x : W32} (h1 : Stays o s) : Stays1 o (cmpLt s t x) := by
  unfold cmpLt
  exact State.cmpOp_stays h1

theorem cmpLe_stays {o : State} {s : State} {t : Nat} {x : W32} (h1 : Stays o s) : Stays1 o (cmpLe s t x) := by
  unfold cmpLe
  exact State.cmpOp_stays h1

theorem cmpGt_stays {o : State} {s : State} {t : Nat} {x : W32} (h1 : Stays o s) : Stays1 o (cmpGt s t x) := by
  unfold cmpGt
  exact State.cmpOp_stays h1

theorem cmpGe_stays {o : State} {s : State} {t : Nat} {x : W32} (h1 : Stays o s) : Stays1 o (cmpGe s t x) := by
  unfold cmpGe
  exact State.cmpOp_stays h1

theorem cmpLtu_stays {o : State} {s : State} {t : Nat} {x : W32} (h1 : Stays o s) : Stays1 o (cmpLtu s t x) := by
  unfold cmpLtu
  exact State.cmpOp_stays h1

theorem cmpLeu_stays {o : State} {s : State} {t : Nat} {x : W32} (h1 : Stays o s) : Stays1 o (cmpLeu s t x) := by
  unfold cmpLeu
  exact State.cmpOp_stays h1

theorem cmpGtu_stays {o : State} {s : State} {t : Nat} {x : W32} (h1 : Stays o s) : Stays1 o (cmpGtu s t x) := by
  unfold cmpGtu
  exact State.cmpOp_stays h1

theorem cmpGeu_stays {o : State} {s : State} {t : Nat} {x : W32} (h1 : Stays o s) : Stays1 o (cmpGeu s t x) := by
  unfold cmpGeu
  exact State.cmpOp_stays h1

theorem cmpTst_stays {o : State} {s : State} {t : Nat} {x : W32} (h1 : Stays o s) : Stays1 o (cmpTst s t x) := by
  unfold cmpTst
  exact State.cmpOp_stays h1

theorem lsPf_stays {o : State} {s : State} {t : Nat} {x : Nat} (h1 : Stays o s) : Stays1 o (lsPf s t x) := by
  unfold lsPf
  extract_lets +onlyGivenNames v1
  split
  · rename_i x2 x3 s4 e5
    have h6 := Stays2.of (o := o) ?_ e5
    rotate_left
    · exact State.placeOf_stays h1
    extract_lets +onlyGivenNames v7
    extract_lets +onlyGivenNames v8
    have h9 : Stays o v8 := by
      unfold v8
      exact pIte (P := Stays o) h6 (State.miss_stays h6)
    clear_value v8
    exact Stays1.mk (State.startOp_stays h9)
  · rename_i x10 x11 s12 e13 e14
    have h15 := Stays2.of (o := o) ?_ e14
    rotate_left
    · exact State.placeOf_stays h1
    exact Stays1.mk (State.startOp_stays h15)

theorem State.cleanLine_stays {o : State} {s : State} {c : Nat} {a : Nat} (h1 : Stays o s) : Stays o (State.cleanLine
    s c a) := by
  unfold State.cleanLine
  extract_lets +onlyGivenNames v1
  extract_lets +onlyGivenNames v2
  extract_lets +onlyGivenNames v3
  extract_lets +onlyGivenNames v4
  extract_lets +onlyGivenNames v5
  extract_lets +onlyGivenNames v6
  have h7 : Stays o v6 := by
    unfold v6
    exact State.setCache_stays h1
  clear_value v6
  refine pFoldl (P := Stays o) ?_ ?_
  · exact h7
  · intro s8 x9 h10
    exact State.writeBack_stays h10

theorem State.maintLevel_stays {o : State} {s : State} {c : Nat} {op : Nat} {a : Nat} (h1 : Stays o s) : Stays o
    (State.maintLevel s c op a) := by
  unfold State.maintLevel
  extract_lets +onlyGivenNames v1
  have h2 : Stays o v1 := by
    unfold v1
    exact pIte (P := Stays o) h1 (State.cleanLine_stays h1)
  clear_value v1
  exact pIte (P := Stays o) (State.setCache_stays h2) (State.setCache_stays h2)

theorem State.maintain_stays {o : State} {s : State} {c : Nat} {op : Nat} {a : Nat} {lvl : Bool} (h1 : Stays o s) :
    Stays o (State.maintain s c op a lvl) := by
  unfold State.maintain
  extract_lets +onlyGivenNames v1
  have h2 : Stays o v1 := by
    unfold v1
    exact State.maintLevel_stays h1
  clear_value v1
  extract_lets +onlyGivenNames v3
  have h4 : Stays o v3 := by
    unfold v3
    exact pIte (P := Stays o) (State.setCache_stays h2) h2
  clear_value v3
  split
  · rename_i x5 e6
    exact h4
  · rename_i x7 x8 e9
    refine pIte (P := Stays o) ?_ ?_
    · exact h4
    · extract_lets +onlyGivenNames v10
      have h11 : Stays o v10 := by
        unfold v10
        exact State.maintLevel_stays h4
      clear_value v10
      exact pIte (P := Stays o) (State.dropCeCopies_stays h11) h11

theorem State.lsMaint_stays {o : State} {s : State} {t : Nat} {x : Nat} {op : Nat} (h1 : Stays o s) : Stays1 o
    (State.lsMaint s t x op) := by
  unfold State.lsMaint
  extract_lets +onlyGivenNames v1
  extract_lets +onlyGivenNames v2
  refine pIte (P := Stays1 o) ?_ ?_
  · exact Stays1.mk (State.startOp_stays h1)
  · split
    · rename_i x3 x4 s5 e6
      have h7 := Stays2.of (o := o) ?_ e6
      rotate_left
      · exact State.placeOf_stays h1
      extract_lets +onlyGivenNames v8
      extract_lets +onlyGivenNames v9
      refine pIte (P := Stays1 o) ?_ ?_
      · extract_lets +onlyGivenNames v10
        exact Stays1.mk (State.putOp_stays (State.setCache_stays h7))
      · exact Stays1.mk (State.startOp_stays (State.maintain_stays h7))
    · rename_i x11 x12 s13 e14
      have h15 := Stays2.of (o := o) ?_ e14
      rotate_left
      · exact State.placeOf_stays h1
      exact Stays1.mk h15
    · rename_i x16 x17 s18 e19 e20 e21
      have h22 := Stays2.of (o := o) ?_ e21
      rotate_left
      · exact State.placeOf_stays h1
      exact Stays1.mk (State.startOp_stays h22)

theorem lsClean_stays {o : State} {s : State} {t : Nat} {x : Nat} (h1 : Stays o s) : Stays1 o (lsClean s t x) := by
  unfold lsClean
  exact State.lsMaint_stays h1

theorem lsInv_stays {o : State} {s : State} {t : Nat} {x : Nat} (h1 : Stays o s) : Stays1 o (lsInv s t x) := by
  unfold lsInv
  exact State.lsMaint_stays h1

theorem lsCinv_stays {o : State} {s : State} {t : Nat} {x : Nat} (h1 : Stays o s) : Stays1 o (lsCinv s t x) := by
  unfold lsCinv
  exact State.lsMaint_stays h1

theorem State.fenceLines_stays {o : State} {s : State} {c : Nat} {bit : Nat} (h1 : Stays o s) : Stays o
    (State.fenceLines s c bit) := by
  unfold State.fenceLines
  extract_lets +onlyGivenNames v1
  extract_lets +onlyGivenNames v2
  extract_lets +onlyGivenNames v3
  refine pFoldl (P := Stays o) ?_ ?_
  · exact h1
  · intro s4 x5 h6
    exact State.cleanLine_stays h6

theorem lsFence_stays {o : State} {s : State} {t : Nat} (h1 : Stays o s) : Stays1 o (lsFence s t) := by
  unfold lsFence
  extract_lets +onlyGivenNames v1
  have h2 : Stays o v1 := by
    unfold v1
    exact pIte (P := Stays o) (State.fenceLines_stays h1) h1
  clear_value v1
  exact Stays1.mk (State.startOp_stays h2)

theorem State.packetOp_stays {o : State} {s : State} {t : Nat} {off : Nat} {n : Nat} {f : Nat → Slot → State} (h1 :
    Stays o s) (h5 : ∀ y0 y1, Stays o (f y0 y1)) : Stays1 o (State.packetOp s t off n f) := by
  unfold State.packetOp
  extract_lets +onlyGivenNames v1
  split
  · rename_i x2 x3 x4 x5 e6
    refine pIte (P := Stays1 o) ?_ ?_
    · exact Stays1.mk (State.startOp_stays h1)
    · extract_lets +onlyGivenNames v7
      have h8 : Stays o v7 := by
        unfold v7
        apply h5
      clear_value v7
      split
      · rename_i x9 e10
        exact Stays1.mk h8
      · rename_i x11 x12 e13
        exact Stays1.mk (pIte (P := Stays o) (State.putOp_stays h8) h8)

theorem pwLoad_stays {o : State} {s : State} {t : Nat} {x : Nat} {n : Nat} (h1 : Stays o s) : Stays1 o (pwLoad s t x
    n) := by
  unfold pwLoad
  refine State.packetOp_stays ?_ ?_
  · exact h1
  · intro x1 x2
    extract_lets +onlyGivenNames v3
    refine pIte (P := Stays o) ?_ ?_
    · exact State.startOp_stays h1
    · split
      · rename_i x4 e5
        exact State.startOp_stays h1
      · rename_i x6 x7 e8
        exact State.startOp_stays (State.bodyReq_stays h1)

theorem State.writePacket_stays {o : State} {s : State} {d : Droplet} {off : Nat} {bs : List Byte} (h1 : Stays o s) :
    Stays o (State.writePacket s d off bs) := by
  unfold State.writePacket
  extract_lets +onlyGivenNames v1
  extract_lets +onlyGivenNames v2
  extract_lets +onlyGivenNames v3
  extract_lets +onlyGivenNames v4
  have h5 : Stays o v4 := by
    unfold v4
    exact pIte (P := Stays o) h1 (State.setHead_stays h1)
  clear_value v4
  exact pIte (P := Stays o) h5 (State.ipdWrite_stays h5)

theorem pwStore_stays {o : State} {s : State} {t : Nat} {x : Nat} {n : Nat} (h1 : Stays o s) : Stays1 o (pwStore s t x
    n) := by
  unfold pwStore
  refine State.packetOp_stays ?_ ?_
  · exact h1
  · intro x1 x2
    extract_lets +onlyGivenNames v3
    refine pIte (P := Stays o) ?_ ?_
    · exact State.startOp_stays h1
    · refine pIte (P := Stays o) ?_ ?_
      · exact State.startOp_stays h1
      · exact State.startOp_stays (State.bodyReq_stays (State.writePacket_stays h1))

theorem pwIns_stays {o : State} {s : State} {t : Nat} {x : Nat} (h1 : Stays o s) : Stays1 o (pwIns s t x) := by
  unfold pwIns
  refine State.packetOp_stays ?_ ?_
  · exact h1
  · intro x1 x2
    extract_lets +onlyGivenNames v3
    extract_lets +onlyGivenNames v4
    extract_lets +onlyGivenNames v5
    refine pIte (P := Stays o) ?_ ?_
    · exact State.startOp_stays h1
    · exact pIte (P := Stays o) (State.startOp_stays h1) (State.startOp_stays (State.setHead_stays h1))

theorem pwDel_stays {o : State} {s : State} {t : Nat} {x : Nat} (h1 : Stays o s) : Stays1 o (pwDel s t x) := by
  unfold pwDel
  refine State.packetOp_stays ?_ ?_
  · exact h1
  · intro x1 x2
    extract_lets +onlyGivenNames v3
    extract_lets +onlyGivenNames v4
    extract_lets +onlyGivenNames v5
    exact pIte (P := Stays o) (State.startOp_stays h1) (State.startOp_stays (State.setHead_stays h1))

theorem pwLen_stays {o : State} {s : State} {t : Nat} (h1 : Stays o s) : Stays1 o (pwLen s t) := by
  unfold pwLen
  refine State.packetOp_stays ?_ ?_
  · exact h1
  · intro x1 x2
    exact State.startOp_stays h1

theorem State.dropletRead_stays {o : State} {s : State} {t : Nat} {f : Slot → Nat} (h1 : Stays o s) : Stays1 o
    (State.dropletRead s t f) := by
  unfold State.dropletRead
  split
  · rename_i x1 x2 x3 x4 e5
    exact Stays1.mk (pIte (P := Stays o) (State.startOp_stays h1) (State.startOp_stays h1))

theorem dlRd_stays {o : State} {s : State} {t : Nat} {x : Nat} (h1 : Stays o s) : Stays1 o (dlRd s t x) := by
  unfold dlRd
  exact State.dropletRead_stays h1

theorem dlWr_stays {o : State} {s : State} {t : Nat} {x : Nat} (h1 : Stays o s) : Stays1 o (dlWr s t x) := by
  unfold dlWr
  split
  · rename_i x1 x2 x3 x4 e5
    refine pIte (P := Stays1 o) ?_ ?_
    · exact Stays1.mk (State.startOp_stays h1)
    · split
      · rename_i x6 e7
        exact Stays1.mk h1
      · rename_i x8 x9 e10
        exact Stays1.mk (State.startOp_stays (State.setSlot_stays h1))

theorem dlFlk_stays {o : State} {s : State} {t : Nat} {x : Nat} (h1 : Stays o s) : Stays1 o (dlFlk s t x) := by
  unfold dlFlk
  exact State.dropletRead_stays h1

theorem dlKey_stays {o : State} {s : State} {t : Nat} {x : Nat} (h1 : Stays o s) : Stays1 o (dlKey s t x) := by
  unfold dlKey
  exact State.dropletRead_stays h1

theorem dlLay_stays {o : State} {s : State} {t : Nat} {x : Nat} (h1 : Stays o s) : Stays1 o (dlLay s t x) := by
  unfold dlLay
  exact State.dropletRead_stays h1

theorem dlPinfo_stays {o : State} {s : State} {t : Nat} {x : Nat} (h1 : Stays o s) : Stays1 o (dlPinfo s t x) := by
  unfold dlPinfo
  split
  · rename_i x1 x2 x3 x4 e5
    refine pIte (P := Stays1 o) ?_ ?_
    · exact Stays1.mk (State.startOp_stays h1)
    · refine pIte (P := Stays1 o) ?_ ?_
      · exact Stays1.mk (State.startOp_stays h1)
      · refine pIte (P := Stays1 o) ?_ ?_
        · exact Stays1.mk (State.startOp_stays h1)
        · exact Stays1.mk (State.startOp_stays h1)

theorem tlEp_stays {o : State} {s : State} {t : Nat} {x : Nat} (h1 : Stays o s) : Stays1 o (tlEp s t x) := by
  unfold tlEp
  extract_lets +onlyGivenNames v1
  refine pIte (P := Stays1 o) ?_ ?_
  · exact Stays1.mk (State.startOp_stays h1)
  · exact Stays1.mk (State.startOp_stays h1)

theorem tlParam_stays {o : State} {s : State} {t : Nat} {x : Nat} (h1 : Stays o s) : Stays1 o (tlParam s t x) := by
  unfold tlParam
  split
  · rename_i x1 e2
    exact Stays1.mk (State.startOp_stays h1)
  · rename_i x3 x4 e5
    extract_lets +onlyGivenNames v6
    refine pIte (P := Stays1 o) ?_ ?_
    · exact Stays1.mk (State.startOp_stays h1)
    · exact Stays1.mk (State.startOp_stays h1)

theorem State.setCtxWord_stays {o : State} {s : State} {n : Nat} {w : Nat} {v : Nat} (h1 : Stays o s) : Stays o
    (State.setCtxWord s n w v) := by
  unfold State.setCtxWord
  exact State.ipdReq_stays (State.ipdWrite_stays h1)

theorem tlRead_stays {o : State} {s : State} {t : Nat} {x : Nat} (h1 : Stays o s) : Stays1 o (tlRead s t x) := by
  unfold tlRead
  split
  · rename_i x1 x2 x3 e4
    split
    · rename_i x5 e6
      exact Stays1.mk (State.startOp_stays h1)
    · rename_i x7 x8 e9
      extract_lets +onlyGivenNames v10
      have h11 : Stays o v10 := by
        unfold v10
        exact State.ipdReq_stays h1
      clear_value v10
      exact Stays1.mk (State.startOp_stays h11)

theorem tlWrite_stays {o : State} {s : State} {t : Nat} {x : Nat} (h1 : Stays o s) : Stays1 o (tlWrite s t x) := by
  unfold tlWrite
  split
  · rename_i x1 x2 x3 e4
    extract_lets +onlyGivenNames v5
    extract_lets +onlyGivenNames v6
    split
    · rename_i x7 e8
      exact Stays1.mk (State.startOp_stays h1)
    · rename_i x9 x10 e11
      refine pIte (P := Stays1 o) ?_ ?_
      · exact Stays1.mk (State.startOp_stays (State.setCtxWord_stays h1))
      · refine pIte (P := Stays1 o) ?_ ?_
        · exact Stays1.mk (State.startOp_stays (State.setCtxWord_stays h1))
        · exact Stays1.mk (State.startOp_stays h1)

theorem chCount_stays {o : State} {s : State} {t : Nat} (h1 : Stays o s) : Stays1 o (chCount s t) := by
  unfold chCount
  split
  · rename_i x1 e2
    exact Stays1.mk (State.startOp_stays h1)
  · rename_i x3 x4 e5
    exact Stays1.mk (State.startOp_stays h1)

theorem chWatch_stays {o : State} {s : State} {t : Nat} {x : Nat} (h1 : Stays o s) : Stays1 o (chWatch s t x) := by
  unfold chWatch
  extract_lets +onlyGivenNames v1
  extract_lets +onlyGivenNames v2
  split
  · rename_i x3 e4
    exact Stays1.mk (State.startOp_stays h1)
  · rename_i x5 x6 e7
    extract_lets +onlyGivenNames v8
    refine pIte (P := Stays1 o) ?_ ?_
    · exact Stays1.mk (State.startOp_stays h1)
    · refine pIte (P := Stays1 o) ?_ ?_
      · exact Stays1.mk (State.startOp_stays h1)
      · refine pIte (P := Stays1 o) ?_ ?_
        · exact Stays1.mk (State.startOp_stays h1)
        · extract_lets +onlyGivenNames v9
          have h10 : Stays o v9 := by
            unfold v9
            exact State.updThread_stays h1
          clear_value v9
          extract_lets +onlyGivenNames v11
          have h12 : Stays o v11 := by
            unfold v11
            exact State.startOp_stays h10
          clear_value v11
          exact Stays1.mk (pIte (P := Stays o) (State.watchThread_stays h12) h12)

theorem chUnwatch_stays {o : State} {s : State} {t : Nat} {x : Nat} (h1 : Stays o s) : Stays1 o (chUnwatch s t x) :=
    by
  unfold chUnwatch
  exact Stays1.mk (State.startOp_stays (State.updThread_stays h1))

theorem lkQuery_stays {o : State} {s : State} {t : Nat} {x : Nat} (h1 : Stays o s) : Stays1 o (lkQuery s t x) := by
  unfold lkQuery
  extract_lets +onlyGivenNames v1
  refine pIte (P := Stays1 o) ?_ ?_
  · exact Stays1.mk (State.startOp_stays (State.bump_stays h1))
  · exact Stays1.mk (State.startOp_stays h1)

theorem evtWait_stays {o : State} {s : State} {t : Nat} {x : Nat} (h1 : Stays o s) : Stays1 o (evtWait s t x) := by
  unfold evtWait
  extract_lets +onlyGivenNames v1
  extract_lets +onlyGivenNames v2
  refine pIte (P := Stays1 o) ?_ ?_
  · exact Stays1.mk (State.startOp_stays h1)
  · extract_lets +onlyGivenNames v3
    have h4 : Stays o v3 := by
      unfold v3
      exact State.putOp_stays h1
    clear_value v3
    exact Stays1.mk (State.updThread_stays h4)

theorem evtClr_stays {o : State} {s : State} {t : Nat} {x : Nat} (h1 : Stays o s) : Stays1 o (evtClr s t x) := by
  unfold evtClr
  extract_lets +onlyGivenNames v1
  extract_lets +onlyGivenNames v2
  have h3 : Stays o v2 := by
    unfold v2
    exact State.updThread_stays h1
  clear_value v2
  extract_lets +onlyGivenNames v4
  extract_lets +onlyGivenNames v5
  have h6 : Stays o v5 := by
    unfold v5
    exact pIte (P := Stays o) (State.setEngine_stays h3) h3
  clear_value v5
  exact Stays1.mk (State.startOp_stays h6)

theorem evtSig_stays {o : State} {s : State} {t : Nat} {x : Nat} (h1 : Stays o s) : Stays1 o (evtSig s t x) := by
  unfold evtSig
  extract_lets +onlyGivenNames v1
  exact Stays1.mk (State.startOp_stays (State.setEvent_stays h1))

theorem evtMget_stays {o : State} {s : State} {t : Nat} (h1 : Stays o s) : Stays1 o (evtMget s t) := by
  unfold evtMget
  split
  · rename_i x1 e2
    exact Stays1.mk (State.startOp_stays h1)
  · rename_i x3 x4 x5 e6
    extract_lets +onlyGivenNames v7
    have h8 : Stays o v7 := by
      unfold v7
      exact State.updThread_stays h1
    clear_value v7
    exact Stays1.mk (State.startOp_stays h8)

theorem tmStart_stays {o : State} {s : State} {t : Nat} {x : Nat} (h1 : Stays o s) : Stays1 o (tmStart s t x) := by
  unfold tmStart
  extract_lets +onlyGivenNames v1
  have h2 : Stays o v1 := by
    unfold v1
    refine pIte (P := Stays o) ?_ ?_
    · exact State.setEvent_stays (State.updThread_stays h1)
    · exact State.updThread_stays h1
  clear_value v1
  exact Stays1.mk (State.startOp_stays h2)

theorem tmStop_stays {o : State} {s : State} {t : Nat} (h1 : Stays o s) : Stays1 o (tmStop s t) := by
  unfold tmStop
  exact Stays1.mk (State.startOp_stays (State.updThread_stays h1))

theorem tmNow_stays {o : State} {s : State} {t : Nat} (h1 : Stays o s) : Stays1 o (tmNow s t) := by
  unfold tmNow
  exact Stays1.mk (State.startOp_stays h1)

theorem tmNet_stays {o : State} {s : State} {t : Nat} {x : Nat} (h1 : Stays o s) : Stays1 o (tmNet s t x) := by
  unfold tmNet
  extract_lets +onlyGivenNames v1
  exact Stays1.mk (pIte (P := Stays o) (State.startOp_stays h1) (State.startOp_stays h1))

theorem csAlloc_stays {o : State} {s : State} {t : Nat} {x : Nat} (h1 : Stays o s) : Stays1 o (csAlloc s t x) := by
  unfold csAlloc
  extract_lets +onlyGivenNames v1
  split
  · rename_i x2 x3 x4 x5 e6
    refine pIte (P := Stays1 o) ?_ ?_
    · exact Stays1.mk (State.startOp_stays h1)
    · refine pIte (P := Stays1 o) ?_ ?_
      · exact Stays1.mk (State.startOp_stays h1)
      · refine pIte (P := Stays1 o) ?_ ?_
        · exact Stays1.mk (State.startOp_stays h1)
        · refine pIte (P := Stays1 o) ?_ ?_
          · exact Stays1.mk (State.startOp_stays h1)
          · split
            · rename_i x7 x8 x9 s10 e11
              have h12 := Stays2.of (o := o) ?_ e11
              rotate_left
              · exact State.allocCore_stays h1
              exact Stays1.mk (State.startOp_stays (State.setRefTable_stays h12))
            · rename_i x13 x14 s15 e16
              have h17 := Stays2.of (o := o) ?_ e16
              rotate_left
              · exact State.allocCore_stays h1
              refine pIte (P := Stays1 o) ?_ ?_
              · exact Stays1.mk (State.putOp_stays h17)
              · exact Stays1.mk (State.startOp_stays h17)

theorem csFree_stays {o : State} {s : State} {t : Nat} {x : Nat} (h1 : Stays o s) : Stays1 o (csFree s t x) := by
  unfold csFree
  extract_lets +onlyGivenNames v1
  extract_lets +onlyGivenNames v2
  split
  · rename_i x3 x4 x5 x6 e7
    split
    · rename_i x8 x9 x10 e11
      refine pIte (P := Stays1 o) ?_ ?_
      · exact Stays1.mk (State.startOp_stays h1)
      · refine pIte (P := Stays1 o) ?_ ?_
        · refine pIte (P := Stays1 o) ?_ ?_
          · exact Stays1.mk (State.startOp_stays (State.cisError_stays h1))
          · extract_lets +onlyGivenNames v12
            have h13 : Stays o v12 := by
              unfold v12
              exact State.dropCount_stays (State.setRefTable_stays h1)
            clear_value v12
            refine pIte (P := Stays1 o) ?_ ?_
            · exact Stays1.mk (State.putOp_stays (staysMk h13 rfl))
            · exact Stays1.mk (State.startOp_stays h13)
        · refine pIte (P := Stays1 o) ?_ ?_
          · exact Stays1.mk (State.startOp_stays (State.cisError_stays h1))
          · exact Stays1.mk (State.startOp_stays (State.cisError_stays h1))

theorem csRef_stays {o : State} {s : State} {t : Nat} {x : Nat} (h1 : Stays o s) : Stays1 o (csRef s t x) := by
  unfold csRef
  extract_lets +onlyGivenNames v1
  extract_lets +onlyGivenNames v2
  split
  · rename_i x3 x4 x5 x6 e7
    split
    · rename_i x8 x9 x10 e11
      refine pIte (P := Stays1 o) ?_ ?_
      · exact Stays1.mk (State.startOp_stays h1)
      · refine pIte (P := Stays1 o) ?_ ?_
        · exact Stays1.mk (State.startOp_stays (State.cisError_stays h1))
        · refine pIte (P := Stays1 o) ?_ ?_
          · exact Stays1.mk (State.startOp_stays h1)
          · refine pIte (P := Stays1 o) ?_ ?_
            · exact Stays1.mk (State.startOp_stays h1)
            · split
              · rename_i x12 e13
                exact Stays1.mk (State.startOp_stays h1)
              · rename_i x14 x15 e16
                exact Stays1.mk (State.startOp_stays (State.addCount_stays (State.setRefTable_stays h1)))

theorem csAddr_stays {o : State} {s : State} {t : Nat} {x : Nat} (h1 : Stays o s) : Stays1 o (csAddr s t x) := by
  unfold csAddr
  extract_lets +onlyGivenNames v1
  extract_lets +onlyGivenNames v2
  split
  · rename_i x3 x4 x5 e6
    refine pIte (P := Stays1 o) ?_ ?_
    · exact Stays1.mk (State.startOp_stays h1)
    · refine pIte (P := Stays1 o) ?_ ?_
      · exact Stays1.mk (State.startOp_stays (State.cisError_stays h1))
      · exact Stays1.mk (State.startOp_stays h1)

theorem csInfo_stays {o : State} {s : State} {t : Nat} {x : Nat} (h1 : Stays o s) : Stays1 o (csInfo s t x) := by
  unfold csInfo
  extract_lets +onlyGivenNames v1
  extract_lets +onlyGivenNames v2
  split
  · rename_i x3 x4 x5 e6
    refine pIte (P := Stays1 o) ?_ ?_
    · exact Stays1.mk (State.startOp_stays h1)
    · refine pIte (P := Stays1 o) ?_ ?_
      · exact Stays1.mk (State.startOp_stays (State.cisError_stays h1))
      · exact Stays1.mk (State.startOp_stays h1)

theorem State.wcEnd_stays {o : State} {s : State} {t : Nat} {ports : List (Nat × W32)} {st : Nat} (h1 : Stays o s) :
    Stays o (State.wcEnd s t ports st) := by
  unfold State.wcEnd
  exact State.startOp_stays h1

theorem wcNext_stays {o : State} {s : State} {t : Nat} (h1 : Stays o s) : Stays1 o (wcNext s t) := by
  unfold wcNext
  extract_lets +onlyGivenNames v1
  extract_lets +onlyGivenNames v2
  clear_value v2
  split
  · rename_i x3
    exact Stays1.mk (State.wcEnd_stays h1)
  · rename_i x4 x5 x6
    exact Stays1.mk (State.wcEnd_stays (State.setSlot_stays h1))

theorem sqDepth_stays {o : State} {s : State} {t : Nat} {x : Nat} (h1 : Stays o s) : Stays1 o (sqDepth s t x) := by
  unfold sqDepth
  split
  · rename_i x1 x2 x3 e4
    refine pIte (P := Stays1 o) ?_ ?_
    · exact Stays1.mk (State.startOp_stays h1)
    · exact Stays1.mk (State.startOp_stays h1)
  · rename_i x5 x6 x7 e8
    exact Stays1.mk (State.startOp_stays h1)
  · rename_i x9 e10 e11
    exact Stays1.mk (State.startOp_stays h1)

theorem hlpClaim_stays {o : State} {s : State} {t : Nat} {a2 : Nat} (h1 : Stays o s) : Stays1 o (hlpClaim s t a2) :=
    by
  unfold hlpClaim
  extract_lets +onlyGivenNames v1
  extract_lets +onlyGivenNames v2
  extract_lets +onlyGivenNames v3
  refine pIte (P := Stays1 o) ?_ ?_
  · exact Stays1.mk (State.startOp_stays h1)
  · refine pIte (P := Stays1 o) ?_ ?_
    · exact Stays1.mk (State.startOp_stays h1)
    · split
      · rename_i x4 x5 e6
        exact Stays1.mk (State.startOp_stays h1)
      · rename_i x7 e8
        exact Stays1.mk (State.startOp_stays (State.setClaim_stays h1))

theorem State.hlpGate_stays {o : State} {s : State} {t : Nat} {a2 : Nat} {needs : Bool} {f : Nat → Nat → State} (h1 :
    Stays o s) (h5 : ∀ y0 y1, Stays o (f y0 y1)) : Stays1 o (State.hlpGate s t a2 needs f) := by
  unfold State.hlpGate
  extract_lets +onlyGivenNames v1
  extract_lets +onlyGivenNames v2
  extract_lets +onlyGivenNames v3
  refine pIte (P := Stays1 o) ?_ ?_
  · exact Stays1.mk (State.startOp_stays h1)
  · refine pIte (P := Stays1 o) ?_ ?_
    · exact Stays1.mk (State.startOp_stays h1)
    · refine pIte (P := Stays1 o) ?_ ?_
      · exact Stays1.mk (State.startOp_stays h1)
      · refine pIte (P := Stays1 o) ?_ ?_
        · exact Stays1.mk (State.startOp_stays h1)
        · refine Stays1.mk ?_
          apply h5

theorem hlpRel_stays {o : State} {s : State} {t : Nat} {a2 : Nat} (h1 : Stays o s) : Stays1 o (hlpRel s t a2) := by
  unfold hlpRel
  refine State.hlpGate_stays ?_ ?_
  · exact h1
  · intro x1 x2
    exact State.startOp_stays (State.setHelper_stays (State.setClaim_stays h1))

theorem State.hlpRunning_stays {o : State} {s : State} {t : Nat} {a2 : Nat} {what : Nat} (h1 : Stays o s) : Stays o
    (State.hlpRunning s t a2 what) := by
  unfold State.hlpRunning
  split
  · rename_i x1 e2
    exact h1
  · rename_i x3 x4 e5
    exact State.putOp_stays h1

theorem State.hlpRun_stays {o : State} {s : State} {t : Nat} {a2 : Nat} {b : Nat} {what : Nat} {regs : List Nat}
    {opened : Option W32} {st : Nat} (h1 : Stays o s) : Stays o (State.hlpRun s t a2 b what regs opened st) := by
  unfold State.hlpRun
  exact State.hlpRunning_stays (State.startOp_stays (State.setHelper_stays h1))

theorem State.hlpMark_stays {o : State} {s : State} {t : Nat} {a2 : Nat} {feed : Option Nat} (h1 : Stays o s) : Stays
    o (State.hlpMark s t a2 feed) := by
  unfold State.hlpMark
  split
  · rename_i x1 e2
    exact h1
  · rename_i x3 x4 e5
    exact State.putOp_stays h1

theorem State.feedDroplet_stays {o : State} {s : State} {t : Nat} {a2 : Nat} {b : Nat} {x : Nat} {c : Helper} {d :
    Droplet} {w : W32} (h1 : Stays o s) : Stays o (State.feedDroplet s t a2 b x c d w) := by
  unfold State.feedDroplet
  extract_lets +onlyGivenNames v1
  extract_lets +onlyGivenNames v2
  refine pIte (P := Stays o) ?_ ?_
  · exact State.startOp_stays h1
  · extract_lets +onlyGivenNames v3
    split
    · rename_i x4 e5
      split
      · rename_i x6 x7 x8 x9 e10
        exact State.hlpRun_stays (State.bump_stays (State.writePacket_stays h1))
      · rename_i x11 e12
        exact State.hlpRun_stays (State.bump_stays h1)
    · rename_i x13 x14 e15
      split
      · rename_i x16 e17
        exact State.startOp_stays h1
      · rename_i x18 x19 x20 x21 e22
        extract_lets +onlyGivenNames v23
        have h24 : Stays o v23 := by
          unfold v23
          exact State.bodyReq_stays h1
        clear_value v23
        extract_lets +onlyGivenNames v25
        have h26 : Stays o v25 := by
          unfold v25
          split
          · rename_i x27
            exact h24
          · rename_i x28 x29
            exact State.writePacket_stays h24
        clear_value v25
        exact State.hlpRun_stays h26

theorem svInfo_stays {o : State} {s : State} {t : Nat} (h1 : Stays o s) : Stays1 o (svInfo s t) := by
  unfold svInfo
  extract_lets +onlyGivenNames v1
  extract_lets +onlyGivenNames v2
  extract_lets +onlyGivenNames v3
  exact Stays1.mk (State.startOp_stays h1)

theorem svGetreg_stays {o : State} {s : State} {t : Nat} {x : Nat} (h1 : Stays o s) : Stays1 o (svGetreg s t x) := by
  unfold svGetreg
  extract_lets +onlyGivenNames v1
  refine pIte (P := Stays1 o) ?_ ?_
  · exact Stays1.mk (State.startOp_stays h1)
  · refine pIte (P := Stays1 o) ?_ ?_
    · exact Stays1.mk (State.startOp_stays h1)
    · exact Stays1.mk (State.startOp_stays h1)

theorem svSetreg_stays {o : State} {s : State} {t : Nat} {x : Nat} (h1 : Stays o s) : Stays1 o (svSetreg s t x) := by
  unfold svSetreg
  extract_lets +onlyGivenNames v1
  refine pIte (P := Stays1 o) ?_ ?_
  · exact Stays1.mk (State.startOp_stays h1)
  · refine pIte (P := Stays1 o) ?_ ?_
    · exact Stays1.mk (State.startOp_stays h1)
    · exact Stays1.mk (State.startOp_stays (State.updThread_stays h1))

theorem svHeld_stays {o : State} {s : State} {t : Nat} {x : Nat} (h1 : Stays o s) : Stays1 o (svHeld s t x) := by
  unfold svHeld
  split
  · rename_i x1 e2
    exact Stays1.mk (State.startOp_stays h1)
  · rename_i x3 x4 x5 e6
    exact Stays1.mk (State.startOp_stays h1)

theorem svResume_stays {o : State} {s : State} {t : Nat} {x : Nat} (h1 : Stays o s) : Stays1 o (svResume s t x) := by
  unfold svResume
  extract_lets +onlyGivenNames v1
  refine pIte (P := Stays1 o) ?_ ?_
  · exact Stays1.mk (State.startOp_stays h1)
  · exact Stays1.mk (State.startOp_stays (State.updThread_stays h1))

theorem svAck_stays {o : State} {s : State} {t : Nat} (h1 : Stays o s) : Stays1 o (svAck s t) := by
  unfold svAck
  extract_lets +onlyGivenNames v1
  extract_lets +onlyGivenNames v2
  refine pIte (P := Stays1 o) ?_ ?_
  · exact Stays1.mk (State.startOp_stays h1)
  · refine pIte (P := Stays1 o) ?_ ?_
    · exact Stays1.mk (State.startOp_stays h1)
    · exact Stays1.mk (State.startOp_stays (State.updThread_stays h1))

theorem State.engineHold_stays {o : State} {s : State} {e : Nat} (h1 : Stays o s) : Stays o (State.engineHold s e) :=
    by
  unfold State.engineHold
  extract_lets +onlyGivenNames v1
  have h2 : Stays o v1 := by
    unfold v1
    refine pFoldl (P := Stays o) ?_ ?_
    · exact h1
    · intro s3 x4 h5
      exact State.updThread_stays h5
  clear_value v1
  exact State.setFld_stays h2

theorem svReset_stays {o : State} {s : State} {t : Nat} (h1 : Stays o s) : Stays1 o (svReset s t) := by
  unfold svReset
  exact Stays1.mk (State.engineHold_stays (State.startOp_stays h1))

theorem State.haltThread_stays {o : State} {s : State} {t : Nat} (h1 : Stays o s) : Stays o (State.haltThread s t) :=
    by
  unfold State.haltThread
  exact State.rplEvent_stays (State.updThread_stays h1)

theorem dbgBrk_stays {o : State} {s : State} {t : Nat} (h1 : Stays o s) : Stays1 o (dbgBrk s t) := by
  unfold dbgBrk
  refine pIte (P := Stays1 o) ?_ ?_
  · exact Stays1.mk (State.startOp_stays h1)
  · exact Stays1.mk (State.haltThread_stays (State.startOp_stays h1))

theorem dbgMark_stays {o : State} {s : State} {t : Nat} {x : Nat} (h1 : Stays o s) : Stays1 o (dbgMark s t x) := by
  unfold dbgMark
  extract_lets +onlyGivenNames v1
  extract_lets +onlyGivenNames v2
  have h3 : Stays o v2 := by
    unfold v2
    exact pIte (P := Stays o) (State.logDecision_stays h1) h1
  clear_value v2
  extract_lets +onlyGivenNames v4
  have h5 : Stays o v4 := by
    unfold v4
    exact pIte (P := Stays o) (Stays2.snd (State.startPost_stays h3)) h3
  clear_value v4
  exact Stays1.mk (State.startOp_stays h5)

theorem cxTlbinv_stays {o : State} {s : State} {c : Nat} {x : Nat} (h1 : Stays o s) : Stays1 o (cxTlbinv s c x) := by
  unfold cxTlbinv
  extract_lets +onlyGivenNames v1
  exact Stays1.mk (State.setCe_stays h1)

theorem cxTlbflush_stays {o : State} {s : State} {c : Nat} (h1 : Stays o s) : Stays1 o (cxTlbflush s c) := by
  unfold cxTlbflush
  exact Stays1.mk (State.setCe_stays h1)

theorem State.yieldCe_stays {o : State} {s : State} {c : Nat} (h1 : Stays o s) : Stays o (State.yieldCe s c) := by
  unfold State.yieldCe
  extract_lets +onlyGivenNames v1
  exact State.select_stays (State.makeReady_stays (State.leaveCe_stays h1))

theorem pmpYield_stays {o : State} {s : State} {c : Nat} (h1 : Stays o s) : Stays1 o (pmpYield s c) := by
  unfold pmpYield
  exact Stays1.mk (State.yieldCe_stays (State.startOp_stays h1))

theorem pmpWait_stays {o : State} {s : State} {c : Nat} {x : Nat} (h1 : Stays o s) : Stays1 o (pmpWait s c x) := by
  unfold pmpWait
  extract_lets +onlyGivenNames v1
  extract_lets +onlyGivenNames v2
  extract_lets +onlyGivenNames v3
  extract_lets +onlyGivenNames v4
  extract_lets +onlyGivenNames v5
  refine pIte (P := Stays1 o) ?_ ?_
  · refine pIte (P := Stays1 o) ?_ ?_
    · exact pmpYield_stays h1
    · exact Stays1.mk (State.blockCe_stays (State.putOp_stays h1))
  · refine pIte (P := Stays1 o) ?_ ?_
    · exact Stays1.mk (State.startOp_stays (State.setDesc_stays h1))
    · exact Stays1.mk (State.blockCe_stays (State.putOp_stays h1))

theorem pmpPost_stays {o : State} {s : State} {c : Nat} {x : Nat} (h1 : Stays o s) : Stays1 o (pmpPost s c x) := by
  unfold pmpPost
  extract_lets +onlyGivenNames v1
  refine pIte (P := Stays1 o) ?_ ?_
  · exact Stays1.mk (State.startOp_stays h1)
  · exact Stays1.mk (State.startOp_stays (State.post_stays h1))

theorem State.descWrite_stays {o : State} {s : State} {d : Nat} {n : Nat} {x : Nat} (h1 : Stays o s) : StaysO o
    (State.descWrite s d n x) := by
  unfold State.descWrite
  extract_lets +onlyGivenNames v1
  split
  · rename_i x2
    extract_lets +onlyGivenNames v3
    extract_lets +onlyGivenNames v4
    exact pIte (P := StaysO o) StaysO.none (StaysO.some (State.setEff_stays (State.setDesc_stays h1)))
  · rename_i x5
    refine pIte (P := StaysO o) ?_ ?_
    · exact StaysO.none
    · exact pIte (P := StaysO o) (StaysO.some (State.setDesc_stays h1)) (StaysO.some h1)
  · rename_i x6 e7 e8
    exact StaysO.some h1

theorem pmpDwr_stays {o : State} {s : State} {c : Nat} {x : Nat} (h1 : Stays o s) : Stays1 o (pmpDwr s c x) := by
  unfold pmpDwr
  extract_lets +onlyGivenNames v1
  split
  · rename_i x2 e3
    exact Stays1.mk (State.startOp_stays h1)
  · rename_i x5 s6 e7
    have h8 := StaysO.of (o := o) ?_ e7
    rotate_left
    · exact State.descWrite_stays h1
    exact Stays1.mk (State.startOp_stays h8)

theorem pmpDrd_stays {o : State} {s : State} {c : Nat} {x : Nat} (h1 : Stays o s) : Stays1 o (pmpDrd s c x) := by
  unfold pmpDrd
  extract_lets +onlyGivenNames v1
  exact Stays1.mk (State.startOp_stays h1)

theorem pmpStart_stays {o : State} {s : State} {c : Nat} {x : Nat} (h1 : Stays o s) : Stays1 o (pmpStart s c x) := by
  unfold pmpStart
  extract_lets +onlyGivenNames v1
  refine pIte (P := Stays1 o) ?_ ?_
  · exact Stays1.mk (State.startOp_stays h1)
  · refine pIte (P := Stays1 o) ?_ ?_
    · exact Stays1.mk (State.startOp_stays h1)
    · exact Stays1.mk (State.startOp_stays (State.startDesc_stays h1))

theorem pmpSend_stays {o : State} {s : State} {c : Nat} {x : Nat} (h1 : Stays o s) : Stays1 o (pmpSend s c x) := by
  unfold pmpSend
  extract_lets +onlyGivenNames v1
  extract_lets +onlyGivenNames v2
  refine pIte (P := Stays1 o) ?_ ?_
  · exact Stays1.mk (State.startOp_stays h1)
  · refine pIte (P := Stays1 o) ?_ ?_
    · exact Stays1.mk (State.startOp_stays h1)
    · refine pIte (P := Stays1 o) ?_ ?_
      · exact Stays1.mk (State.startOp_stays h1)
      · extract_lets +onlyGivenNames v3
        extract_lets +onlyGivenNames v4
        have h5 : Stays o v4 := by
          unfold v4
          exact State.setEvent_stays (State.updThread_stays h1)
        clear_value v4
        exact Stays1.mk (State.startOp_stays (State.stillCheck_stays h5))

theorem edgRoom_stays {o : State} {s : State} {c : Nat} {x : Nat} (h1 : Stays o s) : Stays1 o (edgRoom s c x) := by
  unfold edgRoom
  extract_lets +onlyGivenNames v1
  extract_lets +onlyGivenNames v2
  refine pIte (P := Stays1 o) ?_ ?_
  · exact Stays1.mk (State.startOp_stays h1)
  · exact Stays1.mk (State.startOp_stays h1)

theorem cxEret_stays {o : State} {s : State} {c : Nat} {x : W32} (h1 : Stays o s) : Stays1 o (cxEret s c x) := by
  unfold cxEret
  exact pIte (P := Stays1 o) (Stays1.mk h1) (Stays1.mk (State.updThread_stays h1))

theorem State.trigRow_stays {o : State} {s : State} {t : Nat} {p : Nat} {v : W32} {f : State → Trig} (h1 : Stays o s)
    (h5 : ∀ y0, Stays o y0 → Stays1 o (f y0)) : Stays o (State.trigRow s t p v f) := by
  unfold State.trigRow
  refine pIte (P := Stays o) ?_ ?_
  · exact h1
  · extract_lets +onlyGivenNames v1
    have h2 : Stays o v1 := by
      unfold v1
      exact State.settleFast_stays h1
    clear_value v1
    extract_lets +onlyGivenNames v3
    refine pIte (P := Stays o) ?_ ?_
    · exact State.afterIssue_stays (State.fault_stays h2)
    · refine pIte (P := Stays o) ?_ ?_
      · exact State.afterIssue_stays (State.fault_stays h2)
      · refine pIte (P := Stays o) ?_ ?_
        · exact h2
        · split
          · rename_i x4 s5 x6 e7
            have h8 := Stays1.of (o := o) ?_ e7
            rotate_left
            · refine State.trig_stays ?_ ?_
              · exact h2
              · intro s9 h10
                apply h5
                exact h10
            refine State.afterIssue_stays ?_
            exact pIte (P := Stays o) h8 (pIte (P := Stays o) (State.faultAt_stays h2) (State.faultAt_stays h8))

end Sys2Proof.Machine
end

