-- ==== Sys2Proof/Laws/StaysExec.lean ====
section
/-! SUPPORT. The rows of those units answer a next state that leaves it as it was. -/

namespace Sys2Proof.Machine

open Sys2Proof

theorem execAluTSub_goesOn {o : State} {t : Fin 1544} {alu : Fin 2} {x : W32} {s : State} (h : Stays o s) :
    GoesOn o (execAluTSub t alu x s) := by
  refine ⟨_, rfl, ?_⟩
  refine State.trigRow_stays ?_ ?_
  · exact h
  · intro s1 h2
    exact aluSub_stays h2

theorem execBitTExtu_goesOn {o : State} {t : Fin 1544} {x : W32} {s : State} (h : Stays o s) :
    GoesOn o (execBitTExtu t x s) := by
  refine ⟨_, rfl, ?_⟩
  refine State.trigRow_stays ?_ ?_
  · exact h
  · intro s1 h2
    exact bitExtu_stays h2

theorem execAluTXor_goesOn {o : State} {t : Fin 1544} {alu : Fin 2} {x : W32} {s : State} (h : Stays o s) :
    GoesOn o (execAluTXor t alu x s) := by
  refine ⟨_, rfl, ?_⟩
  refine State.trigRow_stays ?_ ?_
  · exact h
  · intro s1 h2
    exact aluXor_stays h2

theorem execLsTClean_goesOn {o : State} {t : Fin 1544} {x : W32} {s : State} (h : Stays o s) :
    GoesOn o (execLsTClean t x s) := by
  refine ⟨_, rfl, ?_⟩
  refine State.trigRow_stays ?_ ?_
  · exact h
  · intro s1 h2
    exact lsClean_stays h2

theorem execTlTFwrite_goesOn {o : State} {t : Fin 1544} {x : W32} {s : State} (h : Stays o s) :
    GoesOn o (execTlTFwrite t x s) := by
  refine ⟨_, rfl, ?_⟩
  refine State.trigRow_stays ?_ ?_
  · exact h
  · intro s1 h2
    exact tlWrite_stays h2

theorem execAluTMax_goesOn {o : State} {t : Fin 1544} {alu : Fin 2} {x : W32} {s : State} (h : Stays o s) :
    GoesOn o (execAluTMax t alu x s) := by
  refine ⟨_, rfl, ?_⟩
  refine State.trigRow_stays ?_ ?_
  · exact h
  · intro s1 h2
    exact aluMax_stays h2

theorem execLpTBegin_goesOn {o : State} {t : Fin 1544} {x : W32} {s : State} (h : Stays o s) :
    GoesOn o (execLpTBegin t x s) := by
  refine ⟨_, rfl, ?_⟩
  refine State.trigRow_stays ?_ ?_
  · exact h
  · intro s1 h2
    exact lpBegin_stays h2

theorem execTlTFread_goesOn {o : State} {t : Fin 1544} {x : W32} {s : State} (h : Stays o s) :
    GoesOn o (execTlTFread t x s) := by
  refine ⟨_, rfl, ?_⟩
  refine State.trigRow_stays ?_ ?_
  · exact h
  · intro s1 h2
    exact tlRead_stays h2

theorem execMulTMulu_goesOn {o : State} {t : Fin 1544} {x : W32} {s : State} (h : Stays o s) :
    GoesOn o (execMulTMulu t x s) := by
  refine ⟨_, rfl, ?_⟩
  refine State.trigRow_stays ?_ ?_
  · exact h
  · intro s1 h2
    exact mulMulu_stays h2

theorem execAluTMinu_goesOn {o : State} {t : Fin 1544} {alu : Fin 2} {x : W32} {s : State} (h : Stays o s) :
    GoesOn o (execAluTMinu t alu x s) := by
  refine ⟨_, rfl, ?_⟩
  refine State.trigRow_stays ?_ ?_
  · exact h
  · intro s1 h2
    exact aluMinu_stays h2

theorem execAluTMov_goesOn {o : State} {t : Fin 1544} {alu : Fin 2} {x : W32} {s : State} (h : Stays o s) :
    GoesOn o (execAluTMov t alu x s) := by
  refine ⟨_, rfl, ?_⟩
  refine State.trigRow_stays ?_ ?_
  · exact h
  · intro s1 h2
    exact aluMov_stays h2

theorem execEvtTClr_goesOn {o : State} {t : Fin 1544} {x : W32} {s : State} (h : Stays o s) :
    GoesOn o (execEvtTClr t x s) := by
  refine ⟨_, rfl, ?_⟩
  refine State.trigRow_stays ?_ ?_
  · exact h
  · intro s1 h2
    exact evtClr_stays h2

theorem execDlTFlk_goesOn {o : State} {t : Fin 1544} {x : W32} {s : State} (h : Stays o s) :
    GoesOn o (execDlTFlk t x s) := by
  refine ⟨_, rfl, ?_⟩
  refine State.trigRow_stays ?_ ?_
  · exact h
  · intro s1 h2
    exact dlFlk_stays h2

theorem execPwTIns_goesOn {o : State} {t : Fin 1544} {x : W32} {s : State} (h : Stays o s) :
    GoesOn o (execPwTIns t x s) := by
  refine ⟨_, rfl, ?_⟩
  refine State.trigRow_stays ?_ ?_
  · exact h
  · intro s1 h2
    exact pwIns_stays h2

theorem execPmpTDwr_goesOn {o : State} {ce : Fin 8} {x : W32} {s : State} (h : Stays o s) :
    GoesOn o (execPmpTDwr ce x s) := by
  refine ⟨_, rfl, ?_⟩
  refine State.trigRow_stays ?_ ?_
  · exact h
  · intro s1 h2
    exact pmpDwr_stays h2

theorem execSvTSetreg_goesOn {o : State} {t : Fin 1544} {x : W32} {s : State} (h : Stays o s) :
    GoesOn o (execSvTSetreg t x s) := by
  refine ⟨_, rfl, ?_⟩
  refine State.trigRow_stays ?_ ?_
  · exact h
  · intro s1 h2
    exact svSetreg_stays h2

theorem execTlTParam_goesOn {o : State} {t : Fin 1544} {x : W32} {s : State} (h : Stays o s) :
    GoesOn o (execTlTParam t x s) := by
  refine ⟨_, rfl, ?_⟩
  refine State.trigRow_stays ?_ ?_
  · exact h
  · intro s1 h2
    exact tlParam_stays h2

theorem execSqTDepth_goesOn {o : State} {t : Fin 1544} {x : W32} {s : State} (h : Stays o s) :
    GoesOn o (execSqTDepth t x s) := by
  refine ⟨_, rfl, ?_⟩
  refine State.trigRow_stays ?_ ?_
  · exact h
  · intro s1 h2
    exact sqDepth_stays h2

theorem execTmTNow_goesOn {o : State} {t : Fin 1544} {x : W32} {s : State} (h : Stays o s) :
    GoesOn o (execTmTNow t x s) := by
  refine ⟨_, rfl, ?_⟩
  refine State.trigRow_stays ?_ ?_
  · exact h
  · intro s1 h2
    exact tmNow_stays h2

theorem execBitTBswap16_goesOn {o : State} {t : Fin 1544} {x : W32} {s : State} (h : Stays o s) :
    GoesOn o (execBitTBswap16 t x s) := by
  refine ⟨_, rfl, ?_⟩
  refine State.trigRow_stays ?_ ?_
  · exact h
  · intro s1 h2
    exact bitBswap16_stays h2

theorem execPmpTYield_goesOn {o : State} {ce : Fin 8} {x : W32} {s : State} (h : Stays o s) :
    GoesOn o (execPmpTYield ce x s) := by
  refine ⟨_, rfl, ?_⟩
  refine State.trigRow_stays ?_ ?_
  · exact h
  · intro s1 h2
    exact pmpYield_stays h2

theorem execCxTTlbinv_goesOn {o : State} {ce : Fin 8} {x : W32} {s : State} (h : Stays o s) :
    GoesOn o (execCxTTlbinv ce x s) := by
  refine ⟨_, rfl, ?_⟩
  refine State.trigRow_stays ?_ ?_
  · exact h
  · intro s1 h2
    exact cxTlbinv_stays h2

theorem execSvTHeld_goesOn {o : State} {t : Fin 1544} {x : W32} {s : State} (h : Stays o s) :
    GoesOn o (execSvTHeld t x s) := by
  refine ⟨_, rfl, ?_⟩
  refine State.trigRow_stays ?_ ?_
  · exact h
  · intro s1 h2
    exact svHeld_stays h2

theorem execLpTBrk_goesOn {o : State} {t : Fin 1544} {x : W32} {s : State} (h : Stays o s) :
    GoesOn o (execLpTBrk t x s) := by
  refine ⟨_, rfl, ?_⟩
  refine State.trigRow_stays ?_ ?_
  · exact h
  · intro s1 h2
    exact lpBrk_stays h2

theorem execAluTAndn_goesOn {o : State} {t : Fin 1544} {alu : Fin 2} {x : W32} {s : State} (h : Stays o s) :
    GoesOn o (execAluTAndn t alu x s) := by
  refine ⟨_, rfl, ?_⟩
  refine State.trigRow_stays ?_ ?_
  · exact h
  · intro s1 h2
    exact aluAndn_stays h2

theorem execPmpTStart_goesOn {o : State} {ce : Fin 8} {x : W32} {s : State} (h : Stays o s) :
    GoesOn o (execPmpTStart ce x s) := by
  refine ⟨_, rfl, ?_⟩
  refine State.trigRow_stays ?_ ?_
  · exact h
  · intro s1 h2
    exact pmpStart_stays h2

theorem execCsTAlloc_goesOn {o : State} {t : Fin 1544} {x : W32} {s : State} (h : Stays o s) :
    GoesOn o (execCsTAlloc t x s) := by
  refine ⟨_, rfl, ?_⟩
  refine State.trigRow_stays ?_ ?_
  · exact h
  · intro s1 h2
    exact csAlloc_stays h2

theorem execCmpTTst_goesOn {o : State} {t : Fin 1544} {x : W32} {s : State} (h : Stays o s) :
    GoesOn o (execCmpTTst t x s) := by
  refine ⟨_, rfl, ?_⟩
  refine State.trigRow_stays ?_ ?_
  · exact h
  · intro s1 h2
    exact cmpTst_stays h2

theorem execPwTSt32_goesOn {o : State} {t : Fin 1544} {x : W32} {s : State} (h : Stays o s) :
    GoesOn o (execPwTSt32 t x s) := by
  refine ⟨_, rfl, ?_⟩
  refine State.trigRow_stays ?_ ?_
  · exact h
  · intro s1 h2
    exact pwStore_stays h2

theorem execSvTResume_goesOn {o : State} {t : Fin 1544} {x : W32} {s : State} (h : Stays o s) :
    GoesOn o (execSvTResume t x s) := by
  refine ⟨_, rfl, ?_⟩
  refine State.trigRow_stays ?_ ?_
  · exact h
  · intro s1 h2
    exact svResume_stays h2

theorem execDlTWr_goesOn {o : State} {t : Fin 1544} {x : W32} {s : State} (h : Stays o s) :
    GoesOn o (execDlTWr t x s) := by
  refine ⟨_, rfl, ?_⟩
  refine State.trigRow_stays ?_ ?_
  · exact h
  · intro s1 h2
    exact dlWr_stays h2

theorem execPmpTPost_goesOn {o : State} {ce : Fin 8} {x : W32} {s : State} (h : Stays o s) :
    GoesOn o (execPmpTPost ce x s) := by
  refine ⟨_, rfl, ?_⟩
  refine State.trigRow_stays ?_ ?_
  · exact h
  · intro s1 h2
    exact pmpPost_stays h2

theorem execCmpTLt_goesOn {o : State} {t : Fin 1544} {x : W32} {s : State} (h : Stays o s) :
    GoesOn o (execCmpTLt t x s) := by
  refine ⟨_, rfl, ?_⟩
  refine State.trigRow_stays ?_ ?_
  · exact h
  · intro s1 h2
    exact cmpLt_stays h2

theorem execAluTSar_goesOn {o : State} {t : Fin 1544} {alu : Fin 2} {x : W32} {s : State} (h : Stays o s) :
    GoesOn o (execAluTSar t alu x s) := by
  refine ⟨_, rfl, ?_⟩
  refine State.trigRow_stays ?_ ?_
  · exact h
  · intro s1 h2
    exact aluSar_stays h2

theorem execBitTExts_goesOn {o : State} {t : Fin 1544} {x : W32} {s : State} (h : Stays o s) :
    GoesOn o (execBitTExts t x s) := by
  refine ⟨_, rfl, ?_⟩
  refine State.trigRow_stays ?_ ?_
  · exact h
  · intro s1 h2
    exact bitExts_stays h2

theorem execLsTInv_goesOn {o : State} {t : Fin 1544} {x : W32} {s : State} (h : Stays o s) :
    GoesOn o (execLsTInv t x s) := by
  refine ⟨_, rfl, ?_⟩
  refine State.trigRow_stays ?_ ?_
  · exact h
  · intro s1 h2
    exact lsInv_stays h2

theorem execAluTRotl_goesOn {o : State} {t : Fin 1544} {alu : Fin 2} {x : W32} {s : State} (h : Stays o s) :
    GoesOn o (execAluTRotl t alu x s) := by
  refine ⟨_, rfl, ?_⟩
  refine State.trigRow_stays ?_ ?_
  · exact h
  · intro s1 h2
    exact aluRotl_stays h2

theorem execHelperTClaim_goesOn {o : State} {t : Fin 1544} {a1 : Fin 2} {x : W32} {s : State} (h : Stays o s) :
    GoesOn o (execHelperTClaim t a1 x s) := by
  refine ⟨_, rfl, ?_⟩
  refine State.trigRow_stays ?_ ?_
  · exact h
  · intro s1 h2
    exact hlpClaim_stays h2

theorem execAluTOr_goesOn {o : State} {t : Fin 1544} {alu : Fin 2} {x : W32} {s : State} (h : Stays o s) :
    GoesOn o (execAluTOr t alu x s) := by
  refine ⟨_, rfl, ?_⟩
  refine State.trigRow_stays ?_ ?_
  · exact h
  · intro s1 h2
    exact aluOr_stays h2

theorem execDlTRd_goesOn {o : State} {t : Fin 1544} {x : W32} {s : State} (h : Stays o s) :
    GoesOn o (execDlTRd t x s) := by
  refine ⟨_, rfl, ?_⟩
  refine State.trigRow_stays ?_ ?_
  · exact h
  · intro s1 h2
    exact dlRd_stays h2

theorem execAluTShl_goesOn {o : State} {t : Fin 1544} {alu : Fin 2} {x : W32} {s : State} (h : Stays o s) :
    GoesOn o (execAluTShl t alu x s) := by
  refine ⟨_, rfl, ?_⟩
  refine State.trigRow_stays ?_ ?_
  · exact h
  · intro s1 h2
    exact aluShl_stays h2

theorem execAluTAdd_goesOn {o : State} {t : Fin 1544} {alu : Fin 2} {x : W32} {s : State} (h : Stays o s) :
    GoesOn o (execAluTAdd t alu x s) := by
  refine ⟨_, rfl, ?_⟩
  refine State.trigRow_stays ?_ ?_
  · exact h
  · intro s1 h2
    exact aluAdd_stays h2

theorem execPwTLen_goesOn {o : State} {t : Fin 1544} {x : W32} {s : State} (h : Stays o s) :
    GoesOn o (execPwTLen t x s) := by
  refine ⟨_, rfl, ?_⟩
  refine State.trigRow_stays ?_ ?_
  · exact h
  · intro s1 h2
    exact pwLen_stays h2

theorem execPmpTDrd_goesOn {o : State} {ce : Fin 8} {x : W32} {s : State} (h : Stays o s) :
    GoesOn o (execPmpTDrd ce x s) := by
  refine ⟨_, rfl, ?_⟩
  refine State.trigRow_stays ?_ ?_
  · exact h
  · intro s1 h2
    exact pmpDrd_stays h2

theorem execPwTDel_goesOn {o : State} {t : Fin 1544} {x : W32} {s : State} (h : Stays o s) :
    GoesOn o (execPwTDel t x s) := by
  refine ⟨_, rfl, ?_⟩
  refine State.trigRow_stays ?_ ?_
  · exact h
  · intro s1 h2
    exact pwDel_stays h2

theorem execBitTClz_goesOn {o : State} {t : Fin 1544} {x : W32} {s : State} (h : Stays o s) :
    GoesOn o (execBitTClz t x s) := by
  refine ⟨_, rfl, ?_⟩
  refine State.trigRow_stays ?_ ?_
  · exact h
  · intro s1 h2
    exact bitClz_stays h2

theorem execCsTRef_goesOn {o : State} {t : Fin 1544} {x : W32} {s : State} (h : Stays o s) :
    GoesOn o (execCsTRef t x s) := by
  refine ⟨_, rfl, ?_⟩
  refine State.trigRow_stays ?_ ?_
  · exact h
  · intro s1 h2
    exact csRef_stays h2

theorem execPmpTWait_goesOn {o : State} {ce : Fin 8} {x : W32} {s : State} (h : Stays o s) :
    GoesOn o (execPmpTWait ce x s) := by
  refine ⟨_, rfl, ?_⟩
  refine State.trigRow_stays ?_ ?_
  · exact h
  · intro s1 h2
    exact pmpWait_stays h2

theorem execCmpTGe_goesOn {o : State} {t : Fin 1544} {x : W32} {s : State} (h : Stays o s) :
    GoesOn o (execCmpTGe t x s) := by
  refine ⟨_, rfl, ?_⟩
  refine State.trigRow_stays ?_ ?_
  · exact h
  · intro s1 h2
    exact cmpGe_stays h2

theorem execCmpTLe_goesOn {o : State} {t : Fin 1544} {x : W32} {s : State} (h : Stays o s) :
    GoesOn o (execCmpTLe t x s) := by
  refine ⟨_, rfl, ?_⟩
  refine State.trigRow_stays ?_ ?_
  · exact h
  · intro s1 h2
    exact cmpLe_stays h2

theorem execBitTBswap_goesOn {o : State} {t : Fin 1544} {x : W32} {s : State} (h : Stays o s) :
    GoesOn o (execBitTBswap t x s) := by
  refine ⟨_, rfl, ?_⟩
  refine State.trigRow_stays ?_ ?_
  · exact h
  · intro s1 h2
    exact bitBswap_stays h2

theorem execChTCount_goesOn {o : State} {t : Fin 1544} {x : W32} {s : State} (h : Stays o s) :
    GoesOn o (execChTCount t x s) := by
  refine ⟨_, rfl, ?_⟩
  refine State.trigRow_stays ?_ ?_
  · exact h
  · intro s1 h2
    exact chCount_stays h2

theorem execEvtTMget_goesOn {o : State} {t : Fin 1544} {x : W32} {s : State} (h : Stays o s) :
    GoesOn o (execEvtTMget t x s) := by
  refine ⟨_, rfl, ?_⟩
  refine State.trigRow_stays ?_ ?_
  · exact h
  · intro s1 h2
    exact evtMget_stays h2

theorem execBitTBitrev_goesOn {o : State} {t : Fin 1544} {x : W32} {s : State} (h : Stays o s) :
    GoesOn o (execBitTBitrev t x s) := by
  refine ⟨_, rfl, ?_⟩
  refine State.trigRow_stays ?_ ?_
  · exact h
  · intro s1 h2
    exact bitBitrev_stays h2

theorem execDbgTMark_goesOn {o : State} {t : Fin 1544} {x : W32} {s : State} (h : Stays o s) :
    GoesOn o (execDbgTMark t x s) := by
  refine ⟨_, rfl, ?_⟩
  refine State.trigRow_stays ?_ ?_
  · exact h
  · intro s1 h2
    exact dbgMark_stays h2

theorem execBitTCtz_goesOn {o : State} {t : Fin 1544} {x : W32} {s : State} (h : Stays o s) :
    GoesOn o (execBitTCtz t x s) := by
  refine ⟨_, rfl, ?_⟩
  refine State.trigRow_stays ?_ ?_
  · exact h
  · intro s1 h2
    exact bitCtz_stays h2

theorem execLsTFence_goesOn {o : State} {t : Fin 1544} {x : W32} {s : State} (h : Stays o s) :
    GoesOn o (execLsTFence t x s) := by
  refine ⟨_, rfl, ?_⟩
  refine State.trigRow_stays ?_ ?_
  · exact h
  · intro s1 h2
    exact lsFence_stays h2

theorem execSvTGetreg_goesOn {o : State} {t : Fin 1544} {x : W32} {s : State} (h : Stays o s) :
    GoesOn o (execSvTGetreg t x s) := by
  refine ⟨_, rfl, ?_⟩
  refine State.trigRow_stays ?_ ?_
  · exact h
  · intro s1 h2
    exact svGetreg_stays h2

theorem execPwTSt16_goesOn {o : State} {t : Fin 1544} {x : W32} {s : State} (h : Stays o s) :
    GoesOn o (execPwTSt16 t x s) := by
  refine ⟨_, rfl, ?_⟩
  refine State.trigRow_stays ?_ ?_
  · exact h
  · intro s1 h2
    exact pwStore_stays h2

theorem execAluTShr_goesOn {o : State} {t : Fin 1544} {alu : Fin 2} {x : W32} {s : State} (h : Stays o s) :
    GoesOn o (execAluTShr t alu x s) := by
  refine ⟨_, rfl, ?_⟩
  refine State.trigRow_stays ?_ ?_
  · exact h
  · intro s1 h2
    exact aluShr_stays h2

theorem execLsTPf_goesOn {o : State} {t : Fin 1544} {x : W32} {s : State} (h : Stays o s) :
    GoesOn o (execLsTPf t x s) := by
  refine ⟨_, rfl, ?_⟩
  refine State.trigRow_stays ?_ ?_
  · exact h
  · intro s1 h2
    exact lsPf_stays h2

theorem execCsTFree_goesOn {o : State} {t : Fin 1544} {x : W32} {s : State} (h : Stays o s) :
    GoesOn o (execCsTFree t x s) := by
  refine ⟨_, rfl, ?_⟩
  refine State.trigRow_stays ?_ ?_
  · exact h
  · intro s1 h2
    exact csFree_stays h2

theorem execAluTMaxu_goesOn {o : State} {t : Fin 1544} {alu : Fin 2} {x : W32} {s : State} (h : Stays o s) :
    GoesOn o (execAluTMaxu t alu x s) := by
  refine ⟨_, rfl, ?_⟩
  refine State.trigRow_stays ?_ ?_
  · exact h
  · intro s1 h2
    exact aluMaxu_stays h2

theorem execEdgTRoom_goesOn {o : State} {ce : Fin 8} {x : W32} {s : State} (h : Stays o s) :
    GoesOn o (execEdgTRoom ce x s) := by
  refine ⟨_, rfl, ?_⟩
  refine State.trigRow_stays ?_ ?_
  · exact h
  · intro s1 h2
    exact edgRoom_stays h2

theorem execTmTNet_goesOn {o : State} {t : Fin 1544} {x : W32} {s : State} (h : Stays o s) :
    GoesOn o (execTmTNet t x s) := by
  refine ⟨_, rfl, ?_⟩
  refine State.trigRow_stays ?_ ?_
  · exact h
  · intro s1 h2
    exact tmNet_stays h2

theorem execLkTQuery_goesOn {o : State} {t : Fin 1544} {x : W32} {s : State} (h : Stays o s) :
    GoesOn o (execLkTQuery t x s) := by
  refine ⟨_, rfl, ?_⟩
  refine State.trigRow_stays ?_ ?_
  · exact h
  · intro s1 h2
    exact lkQuery_stays h2

theorem execCmpTLeu_goesOn {o : State} {t : Fin 1544} {x : W32} {s : State} (h : Stays o s) :
    GoesOn o (execCmpTLeu t x s) := by
  refine ⟨_, rfl, ?_⟩
  refine State.trigRow_stays ?_ ?_
  · exact h
  · intro s1 h2
    exact cmpLeu_stays h2

theorem execCxTTlbflush_goesOn {o : State} {ce : Fin 8} {x : W32} {s : State} (h : Stays o s) :
    GoesOn o (execCxTTlbflush ce x s) := by
  refine ⟨_, rfl, ?_⟩
  refine State.trigRow_stays ?_ ?_
  · exact h
  · intro s1 h2
    exact cxTlbflush_stays h2

theorem execChTWatch_goesOn {o : State} {t : Fin 1544} {x : W32} {s : State} (h : Stays o s) :
    GoesOn o (execChTWatch t x s) := by
  refine ⟨_, rfl, ?_⟩
  refine State.trigRow_stays ?_ ?_
  · exact h
  · intro s1 h2
    exact chWatch_stays h2

theorem execDbgTBrk_goesOn {o : State} {t : Fin 1544} {x : W32} {s : State} (h : Stays o s) :
    GoesOn o (execDbgTBrk t x s) := by
  refine ⟨_, rfl, ?_⟩
  refine State.trigRow_stays ?_ ?_
  · exact h
  · intro s1 h2
    exact dbgBrk_stays h2

theorem execCmpTGeu_goesOn {o : State} {t : Fin 1544} {x : W32} {s : State} (h : Stays o s) :
    GoesOn o (execCmpTGeu t x s) := by
  refine ⟨_, rfl, ?_⟩
  refine State.trigRow_stays ?_ ?_
  · exact h
  · intro s1 h2
    exact cmpGeu_stays h2

theorem execPwTLd32_goesOn {o : State} {t : Fin 1544} {x : W32} {s : State} (h : Stays o s) :
    GoesOn o (execPwTLd32 t x s) := by
  refine ⟨_, rfl, ?_⟩
  refine State.trigRow_stays ?_ ?_
  · exact h
  · intro s1 h2
    exact pwLoad_stays h2

theorem execCsTAddr_goesOn {o : State} {t : Fin 1544} {x : W32} {s : State} (h : Stays o s) :
    GoesOn o (execCsTAddr t x s) := by
  refine ⟨_, rfl, ?_⟩
  refine State.trigRow_stays ?_ ?_
  · exact h
  · intro s1 h2
    exact csAddr_stays h2

theorem execPcTRet_goesOn {o : State} {t : Fin 1544} {x : W32} {s : State} (h : Stays o s) :
    GoesOn o (execPcTRet t x s) := by
  refine ⟨_, rfl, ?_⟩
  refine State.trigRow_stays ?_ ?_
  · exact h
  · intro s1 h2
    exact pcRet_stays h2

theorem execSvTReset_goesOn {o : State} {t : Fin 1544} {x : W32} {s : State} (h : Stays o s) :
    GoesOn o (execSvTReset t x s) := by
  refine ⟨_, rfl, ?_⟩
  refine State.trigRow_stays ?_ ?_
  · exact h
  · intro s1 h2
    exact svReset_stays h2

theorem execPwTSt8_goesOn {o : State} {t : Fin 1544} {x : W32} {s : State} (h : Stays o s) :
    GoesOn o (execPwTSt8 t x s) := by
  refine ⟨_, rfl, ?_⟩
  refine State.trigRow_stays ?_ ?_
  · exact h
  · intro s1 h2
    exact pwStore_stays h2

theorem execCsTInfo_goesOn {o : State} {t : Fin 1544} {x : W32} {s : State} (h : Stays o s) :
    GoesOn o (execCsTInfo t x s) := by
  refine ⟨_, rfl, ?_⟩
  refine State.trigRow_stays ?_ ?_
  · exact h
  · intro s1 h2
    exact csInfo_stays h2

theorem execCmpTEq_goesOn {o : State} {t : Fin 1544} {x : W32} {s : State} (h : Stays o s) :
    GoesOn o (execCmpTEq t x s) := by
  refine ⟨_, rfl, ?_⟩
  refine State.trigRow_stays ?_ ?_
  · exact h
  · intro s1 h2
    exact cmpEq_stays h2

theorem execChTUnwatch_goesOn {o : State} {t : Fin 1544} {x : W32} {s : State} (h : Stays o s) :
    GoesOn o (execChTUnwatch t x s) := by
  refine ⟨_, rfl, ?_⟩
  refine State.trigRow_stays ?_ ?_
  · exact h
  · intro s1 h2
    exact chUnwatch_stays h2

theorem execMulTDivu_goesOn {o : State} {t : Fin 1544} {x : W32} {s : State} (h : Stays o s) :
    GoesOn o (execMulTDivu t x s) := by
  refine ⟨_, rfl, ?_⟩
  refine State.trigRow_stays ?_ ?_
  · exact h
  · intro s1 h2
    exact mulDivu_stays h2

theorem execCmpTNe_goesOn {o : State} {t : Fin 1544} {x : W32} {s : State} (h : Stays o s) :
    GoesOn o (execCmpTNe t x s) := by
  refine ⟨_, rfl, ?_⟩
  refine State.trigRow_stays ?_ ?_
  · exact h
  · intro s1 h2
    exact cmpNe_stays h2

theorem execTmTStop_goesOn {o : State} {t : Fin 1544} {x : W32} {s : State} (h : Stays o s) :
    GoesOn o (execTmTStop t x s) := by
  refine ⟨_, rfl, ?_⟩
  refine State.trigRow_stays ?_ ?_
  · exact h
  · intro s1 h2
    exact tmStop_stays h2

theorem execPcTBr_goesOn {o : State} {t : Fin 1544} {x : W32} {s : State} (h : Stays o s) :
    GoesOn o (execPcTBr t x s) := by
  refine ⟨_, rfl, ?_⟩
  refine State.trigRow_stays ?_ ?_
  · exact h
  · intro s1 h2
    exact pcBr_stays h2

theorem execMulTMuls_goesOn {o : State} {t : Fin 1544} {x : W32} {s : State} (h : Stays o s) :
    GoesOn o (execMulTMuls t x s) := by
  refine ⟨_, rfl, ?_⟩
  refine State.trigRow_stays ?_ ?_
  · exact h
  · intro s1 h2
    exact mulMuls_stays h2

theorem execAluTAnd_goesOn {o : State} {t : Fin 1544} {alu : Fin 2} {x : W32} {s : State} (h : Stays o s) :
    GoesOn o (execAluTAnd t alu x s) := by
  refine ⟨_, rfl, ?_⟩
  refine State.trigRow_stays ?_ ?_
  · exact h
  · intro s1 h2
    exact aluAnd_stays h2

theorem execWcTNext_goesOn {o : State} {t : Fin 1544} {x : W32} {s : State} (h : Stays o s) :
    GoesOn o (execWcTNext t x s) := by
  refine ⟨_, rfl, ?_⟩
  refine State.trigRow_stays ?_ ?_
  · exact h
  · intro s1 h2
    exact wcNext_stays h2

theorem execLsTCinv_goesOn {o : State} {t : Fin 1544} {x : W32} {s : State} (h : Stays o s) :
    GoesOn o (execLsTCinv t x s) := by
  refine ⟨_, rfl, ?_⟩
  refine State.trigRow_stays ?_ ?_
  · exact h
  · intro s1 h2
    exact lsCinv_stays h2

theorem execHelperTRel_goesOn {o : State} {t : Fin 1544} {a1 : Fin 2} {x : W32} {s : State} (h : Stays o s) :
    GoesOn o (execHelperTRel t a1 x s) := by
  refine ⟨_, rfl, ?_⟩
  refine State.trigRow_stays ?_ ?_
  · exact h
  · intro s1 h2
    exact hlpRel_stays h2

theorem execEvtTWait_goesOn {o : State} {t : Fin 1544} {x : W32} {s : State} (h : Stays o s) :
    GoesOn o (execEvtTWait t x s) := by
  refine ⟨_, rfl, ?_⟩
  refine State.trigRow_stays ?_ ?_
  · exact h
  · intro s1 h2
    exact evtWait_stays h2

theorem execBitTPopc_goesOn {o : State} {t : Fin 1544} {x : W32} {s : State} (h : Stays o s) :
    GoesOn o (execBitTPopc t x s) := by
  refine ⟨_, rfl, ?_⟩
  refine State.trigRow_stays ?_ ?_
  · exact h
  · intro s1 h2
    exact bitPopc_stays h2

theorem execPcTCall_goesOn {o : State} {t : Fin 1544} {x : W32} {s : State} (h : Stays o s) :
    GoesOn o (execPcTCall t x s) := by
  refine ⟨_, rfl, ?_⟩
  refine State.trigRow_stays ?_ ?_
  · exact h
  · intro s1 h2
    exact pcCall_stays h2

theorem execTmTStart_goesOn {o : State} {t : Fin 1544} {x : W32} {s : State} (h : Stays o s) :
    GoesOn o (execTmTStart t x s) := by
  refine ⟨_, rfl, ?_⟩
  refine State.trigRow_stays ?_ ?_
  · exact h
  · intro s1 h2
    exact tmStart_stays h2

theorem execDlTLay_goesOn {o : State} {t : Fin 1544} {x : W32} {s : State} (h : Stays o s) :
    GoesOn o (execDlTLay t x s) := by
  refine ⟨_, rfl, ?_⟩
  refine State.trigRow_stays ?_ ?_
  · exact h
  · intro s1 h2
    exact dlLay_stays h2

theorem execCxTEret_goesOn {o : State} {ce : Fin 8} {x : W32} {s : State} (h : Stays o s) :
    GoesOn o (execCxTEret ce x s) := by
  refine ⟨_, rfl, ?_⟩
  refine State.trigRow_stays ?_ ?_
  · exact h
  · intro s1 h2
    exact cxEret_stays h2

theorem execCmpTGt_goesOn {o : State} {t : Fin 1544} {x : W32} {s : State} (h : Stays o s) :
    GoesOn o (execCmpTGt t x s) := by
  refine ⟨_, rfl, ?_⟩
  refine State.trigRow_stays ?_ ?_
  · exact h
  · intro s1 h2
    exact cmpGt_stays h2

theorem execPwTLd8_goesOn {o : State} {t : Fin 1544} {x : W32} {s : State} (h : Stays o s) :
    GoesOn o (execPwTLd8 t x s) := by
  refine ⟨_, rfl, ?_⟩
  refine State.trigRow_stays ?_ ?_
  · exact h
  · intro s1 h2
    exact pwLoad_stays h2

theorem execPmpTSend_goesOn {o : State} {ce : Fin 8} {x : W32} {s : State} (h : Stays o s) :
    GoesOn o (execPmpTSend ce x s) := by
  refine ⟨_, rfl, ?_⟩
  refine State.trigRow_stays ?_ ?_
  · exact h
  · intro s1 h2
    exact pmpSend_stays h2

theorem execSvTInfo_goesOn {o : State} {t : Fin 1544} {x : W32} {s : State} (h : Stays o s) :
    GoesOn o (execSvTInfo t x s) := by
  refine ⟨_, rfl, ?_⟩
  refine State.trigRow_stays ?_ ?_
  · exact h
  · intro s1 h2
    exact svInfo_stays h2

theorem execBitTSext8_goesOn {o : State} {t : Fin 1544} {x : W32} {s : State} (h : Stays o s) :
    GoesOn o (execBitTSext8 t x s) := by
  refine ⟨_, rfl, ?_⟩
  refine State.trigRow_stays ?_ ?_
  · exact h
  · intro s1 h2
    exact bitSext8_stays h2

theorem execBitTIns_goesOn {o : State} {t : Fin 1544} {x : W32} {s : State} (h : Stays o s) :
    GoesOn o (execBitTIns t x s) := by
  refine ⟨_, rfl, ?_⟩
  refine State.trigRow_stays ?_ ?_
  · exact h
  · intro s1 h2
    exact bitIns_stays h2

theorem execSvTAck_goesOn {o : State} {t : Fin 1544} {x : W32} {s : State} (h : Stays o s) :
    GoesOn o (execSvTAck t x s) := by
  refine ⟨_, rfl, ?_⟩
  refine State.trigRow_stays ?_ ?_
  · exact h
  · intro s1 h2
    exact svAck_stays h2

theorem execEvtTSig_goesOn {o : State} {t : Fin 1544} {x : W32} {s : State} (h : Stays o s) :
    GoesOn o (execEvtTSig t x s) := by
  refine ⟨_, rfl, ?_⟩
  refine State.trigRow_stays ?_ ?_
  · exact h
  · intro s1 h2
    exact evtSig_stays h2

theorem execCmpTGtu_goesOn {o : State} {t : Fin 1544} {x : W32} {s : State} (h : Stays o s) :
    GoesOn o (execCmpTGtu t x s) := by
  refine ⟨_, rfl, ?_⟩
  refine State.trigRow_stays ?_ ?_
  · exact h
  · intro s1 h2
    exact cmpGtu_stays h2

theorem execPwTLd16_goesOn {o : State} {t : Fin 1544} {x : W32} {s : State} (h : Stays o s) :
    GoesOn o (execPwTLd16 t x s) := by
  refine ⟨_, rfl, ?_⟩
  refine State.trigRow_stays ?_ ?_
  · exact h
  · intro s1 h2
    exact pwLoad_stays h2

theorem execTlTEp_goesOn {o : State} {t : Fin 1544} {x : W32} {s : State} (h : Stays o s) :
    GoesOn o (execTlTEp t x s) := by
  refine ⟨_, rfl, ?_⟩
  refine State.trigRow_stays ?_ ?_
  · exact h
  · intro s1 h2
    exact tlEp_stays h2

theorem execCmpTLtu_goesOn {o : State} {t : Fin 1544} {x : W32} {s : State} (h : Stays o s) :
    GoesOn o (execCmpTLtu t x s) := by
  refine ⟨_, rfl, ?_⟩
  refine State.trigRow_stays ?_ ?_
  · exact h
  · intro s1 h2
    exact cmpLtu_stays h2

theorem execBitTSext16_goesOn {o : State} {t : Fin 1544} {x : W32} {s : State} (h : Stays o s) :
    GoesOn o (execBitTSext16 t x s) := by
  refine ⟨_, rfl, ?_⟩
  refine State.trigRow_stays ?_ ?_
  · exact h
  · intro s1 h2
    exact bitSext16_stays h2

theorem execPcTJump_goesOn {o : State} {t : Fin 1544} {x : W32} {s : State} (h : Stays o s) :
    GoesOn o (execPcTJump t x s) := by
  refine ⟨_, rfl, ?_⟩
  refine State.trigRow_stays ?_ ?_
  · exact h
  · intro s1 h2
    exact pcJump_stays h2

theorem execAluTMin_goesOn {o : State} {t : Fin 1544} {alu : Fin 2} {x : W32} {s : State} (h : Stays o s) :
    GoesOn o (execAluTMin t alu x s) := by
  refine ⟨_, rfl, ?_⟩
  refine State.trigRow_stays ?_ ?_
  · exact h
  · intro s1 h2
    exact aluMin_stays h2

theorem execMulTDivs_goesOn {o : State} {t : Fin 1544} {x : W32} {s : State} (h : Stays o s) :
    GoesOn o (execMulTDivs t x s) := by
  refine ⟨_, rfl, ?_⟩
  refine State.trigRow_stays ?_ ?_
  · exact h
  · intro s1 h2
    exact mulDivs_stays h2

theorem execDlTKey_goesOn {o : State} {t : Fin 1544} {x : W32} {s : State} (h : Stays o s) :
    GoesOn o (execDlTKey t x s) := by
  refine ⟨_, rfl, ?_⟩
  refine State.trigRow_stays ?_ ?_
  · exact h
  · intro s1 h2
    exact dlKey_stays h2

theorem execDlTPinfo_goesOn {o : State} {t : Fin 1544} {x : W32} {s : State} (h : Stays o s) :
    GoesOn o (execDlTPinfo t x s) := by
  refine ⟨_, rfl, ?_⟩
  refine State.trigRow_stays ?_ ?_
  · exact h
  · intro s1 h2
    exact dlPinfo_stays h2

/-- What follows the effect of a trigger, outside a replay session, leaves it as it was. -/
theorem issued_stays {u v : State} {t p : Nat} {x : W32} (h : u.rpl.replay = none) : Stays v (u.issued t p x v) := by
  unfold Machine.State.issued
  refine State.afterIssue_stays ?_
  unfold State.trig
  rw [h]
  dsimp only
  rw [if_neg (by decide)]
  cases triggerUnit p with
  | none => exact Stays.refl v
  | some k =>
    dsimp only
    have h1 : Stays v (if k = uWc then v.hlpStaleAll t else v) :=
      pIte (P := Stays v) (State.hlpStaleAll_stays (Stays.refl v)) (Stays.refl v)
    generalize (if k = uWc then v.hlpStaleAll t else v) = w at h1 ⊢
    cases logOf p (w.opnd t 0x300) x.toNat with
    | none => exact h1
    | some l => exact pIte (P := Stays1 v) (Stays1.mk (State.updThread_stays h1)) h1

end Sys2Proof.Machine
end

