-- ==== Sys2Proof/Laws/Slots.lean ====
section
/-! SUPPORT. The triggers that work on a helper's registers write no byte of shared SRAM but those of the save slot of the
thread that owned the live registers. -/

namespace Sys2Proof

open Machine

variable {o s : State} {b h : Nat}

theorem Stays.saves (k : Stays o s) : SavesOnly o s b h := ⟨o.mem.shared, k, fun _ _ => rfl⟩

/-- What follows a switch and leaves the rest as it was keeps the statement about the switch. -/
theorem SavesOnly.trans {u : State} (k : SavesOnly o s b h) (l : Stays s u) : SavesOnly o u b h :=
  k.elim fun m k => ⟨m, k.1.trans l, k.2⟩

/-- What came before the switch and left the rest as it was, its helper's owner named after it. -/
theorem Stays.thenSaves {u : State} (k : Stays o s) (l : SavesOnly s u b h) :
    ∃ m, Stays { o with mem := { o.mem with shared := m } } u ∧
      ∀ a, (∀ j, (s.helper b h).live = some j → a < o.slotAddr b h j ∨ o.slotAddr b h j + 256 ≤ a) →
        cellGet m a = cellGet o.mem.shared a := by
  obtain ⟨m, l1, l2⟩ := l
  refine ⟨m, Stays.trans ?_ l1, fun a ha => (l2 a fun j hj => ?_).trans (congrArg (cellGet · a) k.shared)⟩
  · exact ⟨k.pending, k.wall, k.rul, k.tbl, k.chan, k.slu, k.time, k.lkg, k.edg, k.xng, k.boot, k.pwr, k.fth, k.img,
      k.blocked, k.grade, k.scratch, rfl⟩
  · have e : s.slotAddr b h j = o.slotAddr b h j := by
      unfold State.slotAddr State.setting
      rw [k.img]
    rw [e]
    exact ha j hj

end Sys2Proof

namespace Sys2Proof.Machine

open Sys2Proof

variable {s : State} {t b h : Nat}

/-- A correctable error of scratch that an access corrects is the engine's and its count's alone. -/
theorem State.scratchFixed_stays {e a n : Nat} : Stays s (s.scratchFixed e a n) := by
  unfold State.scratchFixed State.eccEngine
  dsimp only
  split
  · exact Stays.refl s
  · exact State.bumpFld_stays (State.setEngine_stays (staysMk (Stays.refl s) rfl))

theorem leBytes_length (n v : Nat) : (leBytes n v).length = n := by
  induction n generalizing v with
  | zero => rfl
  | succ n ih => exact congrArg (· + 1) (ih _)

/-- A save slot has 256 bytes. -/
theorem slotBytes_length (regs : List Nat) : (((fullRegs regs).map fun v => leBytes 16 v).flatten).length = 256 := by
  have e : ∀ l : List Nat, ((l.map fun v => leBytes 16 v).flatten).length = 16 * l.length := by
    intro l
    induction l with
    | nil => rfl
    | cons v l ih =>
      rw [List.map_cons, List.flatten_cons, List.length_append, leBytes_length, ih, List.length_cons]
      omega
  rw [e]
  unfold fullRegs
  rw [List.length_map, List.length_range]

theorem State.saveLive_saves : SavesOnly s (s.saveLive b h) b h := by
  unfold State.saveLive
  split
  · exact (Stays.refl s).saves
  · rename_i j hj
    refine ⟨_, ⟨rfl, rfl, rfl, rfl, rfl, rfl, rfl, rfl, rfl, rfl, rfl, rfl, rfl, rfl, rfl, rfl, rfl, rfl⟩, fun a ha => ?_⟩
    refine cellGet_write_outside _ _ _ ?_
    rw [slotBytes_length]
    exact ha j hj

theorem State.hlpSwitch_saves {k : Nat} : SavesOnly s (s.hlpSwitch b h k).2 b h := by
  unfold State.hlpSwitch
  split
  · exact (Stays.refl s).saves
  · refine State.saveLive_saves.trans ?_
    dsimp only
    split
    · exact State.eventSup_stays (State.bump_stays (State.setHelper_stays (Stays.refl _)))
    · exact State.bump_stays (State.setHelper_stays (Stays.refl _))

/-- A trigger on a thread's registers: turned away, it changes no memory; else the switch comes before it. -/
theorem State.hlpWork_saves {f : State → Nat → Helper → State} (hf : ∀ u c, Stays u (f u (threadBasin t) c)) :
    SavesOnly s (s.hlpWork t h f).1 (threadBasin t) h := by
  have turned : ∀ st, SavesOnly s ((s.startOp t (uHlp h) [] st, 0) : Trig).1 (threadBasin t) h := fun _ =>
    (State.startOp_stays (Stays.refl s)).saves
  unfold State.hlpWork State.hlpGate
  dsimp only
  split
  · exact turned _
  · split
    · exact turned _
    · split
      · exact turned _
      · split
        · exact turned _
        · have k := State.hlpSwitch_saves (s := s) (b := threadBasin t) (h := h) (k := t % 128)
          split
          · rename_i u e
            rw [e] at k
            exact SavesOnly.trans (u := u.startOp t (uHlp h) [] stLost) k (State.startOp_stays (Stays.refl u))
          · rename_i u e
            rw [e] at k
            exact SavesOnly.trans (s := u) k (hf u _)

theorem hlpWr_saves {x : Nat} : SavesOnly s (hlpWr s t h x).1 (threadBasin t) h :=
  State.hlpWork_saves fun u _ => State.hlpRun_stays (Stays.refl u)

theorem hlpRd_saves {x : Nat} : SavesOnly s (hlpRd s t h x).1 (threadBasin t) h :=
  State.hlpWork_saves fun u _ => State.startOp_stays (Stays.refl u)

theorem State.hlpOp_saves {x : Nat} {f : List Nat → List Nat} {opens : Bool} :
    SavesOnly s (s.hlpOp t h x f opens).1 (threadBasin t) h := by
  unfold State.hlpOp
  have k := State.hlpWork_saves (s := s) (t := t) (h := h)
    (f := fun s b c =>
      if !opWordOk h x || !contextOk c.regs x then s.startOp t (uHlp h) [] stInvalid
      else s.hlpRun t h b 1 (f c.regs) (if opens then some (BitVec.ofNat 32 x) else none) stOk)
    fun u _ => pIte (P := Stays u) (State.startOp_stays (Stays.refl u)) (State.hlpRun_stays (Stays.refl u))
  exact k.trans (State.hlpMark_stays (Stays.refl _))

theorem hlpFeed_saves {x : Nat} : SavesOnly s (hlpFeed s t h x).1 (threadBasin t) h := by
  unfold hlpFeed
  refine SavesOnly.trans (State.hlpWork_saves fun u c => ?_) (State.hlpMark_stays (Stays.refl _))
  dsimp only
  split
  · exact State.startOp_stays (Stays.refl u)
  · split
    · exact State.startOp_stays (Stays.refl u)
    · exact State.feedDroplet_stays (Stays.refl u)

/-- A helper's port is none that a replay session serves from its log: it runs for real, or not at all. -/
theorem State.replayTrig_helper {r : Session} {p x : Nat} {f : State → Trig} (h1 : 0x460 ≤ p) (h2 : p < 0x4E0) :
    s.replayTrig r t p x f = f s ∨ s.replayTrig r t p x f = (s, 0) := by
  have e1 : ¬(0x200 ≤ p && p < 0x240) = true := by simp; omega
  have e2 : ¬(0x240 ≤ p && p < 0x280) = true := by simp; omega
  have e3 : ¬(0x280 ≤ p && p < 0x2A0) = true := by simp; omega
  have e4 : ¬(0x2A0 ≤ p && p < 0x300) = true := by simp; omega
  have e5 : ¬(0x380 ≤ p && p < 0x3A0) = true := by simp; omega
  have e6 : ¬(0x198 ≤ p && p < 0x19C) = true := by simp; omega
  have e7 : ∀ a < 0x460, ¬ p = a := by omega
  unfold State.replayTrig
  simp only [e1, e2, e3, e4, e5, e6, Bool.false_eq_true, ↓reduceIte, show ¬(32 = uPw) by decide, show ¬(32 = uDl) by decide,
    show ¬(32 = uTl) by decide, show ¬(32 = uFlow) by decide, show ¬(32 = uAt) by decide, e7 0x250 (by decide),
    e7 0x430 (by decide), e7 0x431 (by decide), e7 0x432 (by decide), e7 0x433 (by decide), e7 0x450 (by decide),
    e7 0x350 (by decide), e7 0x351 (by decide), e7 0x352 (by decide), e7 0x353 (by decide), e7 0x312 (by decide),
    e7 0x310 (by decide), e7 0x311 (by decide), e7 0x314 (by decide), e7 0x315 (by decide), e7 0x3B3 (by decide),
    Bool.false_and, decide_false, Bool.or_self]
  split
  · exact Or.inl rfl
  · split
    · exact Or.inr rfl
    · exact Or.inl rfl

/-- Of the units that hold no helper's save slot, a trigger changes nothing but its own effect. -/
theorem State.trig_saves {p : Nat} {x : W32} {f : State → Trig} (h1 : 0x460 ≤ p) (h2 : p < 0x4E0)
    (hf : SavesOnly s (f s).1 b h) : SavesOnly s (s.trig t p x f).1 b h := by
  have k : ∀ r : Trig, SavesOnly s r.1 b h → SavesOnly s (match r with
      | (s, cause) =>
        if cause ≠ 0 then (s, cause)
        else
          match triggerUnit p with
          | none => (s, 0)
          | some u =>
            let s := if u = uWc then s.hlpStaleAll t else s
            match logOf p (s.opnd t 0x300) x.toNat with
            | none => (s, 0)
            | some l =>
              let waits := match SMap.find (s.thread t).ops u with
                | some o => o.wait == 1
                | none => true
              if t < 1536 && !waits then (s.updThread t fun th => { th with logs := SMap.set th.logs u l }, 0)
              else (s, 0) : Trig).1 b h := by
    intro ⟨v, c⟩ hv
    refine hv.trans ?_
    dsimp only
    split
    · exact Stays.refl v
    · split
      · exact Stays.refl v
      · rename_i k _
        have h1 : Stays v (if k = uWc then v.hlpStaleAll t else v) :=
          pIte (P := Stays v) (State.hlpStaleAll_stays (Stays.refl v)) (Stays.refl v)
        generalize (if k = uWc then v.hlpStaleAll t else v) = w at h1 ⊢
        cases logOf p (w.opnd t 0x300) x.toNat with
        | none => exact h1
        | some l => exact pIte (P := Stays1 v) (Stays1.mk (State.updThread_stays h1)) h1
  unfold State.trig
  refine k _ ?_
  split
  · rename_i r _
    split
    · rcases State.replayTrig_helper (s := s) (t := t) (r := r) (x := x.toNat) (f := f) h1 h2 with e | e <;> rw [e]
      · exact hf
      · exact (Stays.refl s).saves
    · exact hf
  · exact hf

/-- A row of a helper, whether its trigger is taken, held, turned away or faults. -/
theorem State.trigRow_saves {p : Nat} {x : W32} {f : State → Trig} (h1 : 0x460 ≤ p) (h2 : p < 0x4E0)
    (hf : ∀ u, SavesOnly u (f u).1 b h) :
    SavesOnly (s.settleFast t) (s.trigRow t p x f) b h ∨ s.trigRow t p x f = s := by
  by_cases hc : s.canIssue t = true
  · refine Or.inl ?_
    unfold State.trigRow
    simp only [hc, Bool.not_true, Bool.false_eq_true, ↓reduceIte]
    generalize s.settleFast t = u
    split
    · exact (State.afterIssue_stays (State.fault_stays (Stays.refl u))).saves
    · split
      · exact (State.afterIssue_stays (State.fault_stays (Stays.refl u))).saves
      · split
        · exact (Stays.refl u).saves
        · have k : SavesOnly u (u.trig t p x f).1 b h := State.trig_saves h1 h2 (hf u)
          generalize u.trig t p x f = r at k
          obtain ⟨v, c⟩ := r
          dsimp only at k ⊢
          split
          · exact k.trans (State.afterIssue_stays (Stays.refl v))
          · split
            · exact (State.afterIssue_stays (State.faultAt_stays (Stays.refl u))).saves
            · exact k.trans (State.afterIssue_stays (State.faultAt_stays (Stays.refl v)))
  · refine Or.inr ?_
    unfold State.trigRow
    simp only [hc, Bool.not_false, ↓reduceIte]

end Sys2Proof.Machine
end

