-- ==== Sys2Proof/Laws/Trigger.lean ====
section
/-! SUPPORT. What a triggered row and a command of a host answer where nothing turns them away. -/

namespace Sys2Proof

open Machine

/-- With no replay session, an effect that does not fault makes no fault. -/
theorem trig_ok (u s' : State) (t p : Nat) (x : W32) (h : u.rpl.replay = none) :
    (u.trig t p x fun _ => (s', 0)).2 = 0 := by
  unfold State.trig
  rw [h]
  dsimp only
  rw [if_neg (by decide)]
  cases triggerUnit p with
  | none => rfl
  | some k =>
    dsimp only
    generalize (if k = uWc then s'.hlpStaleAll t else s') = v
    cases logOf p (v.opnd t 0x300) x.toNat with
    | none => rfl
    | some l => exact pIte (P := fun r : Trig => r.2 = 0) rfl rfl

/-- A trigger that is taken and does not fault answers its effect, and what follows it. -/
theorem trigRow_issued {s s' : State} {t p : Nat} {x : W32} {f : State → Trig} (h : MayTrigger s t p)
    (hf : f (s.settleFast t) = (s', 0)) : s.trigRow t p x f = (s.settleFast t).issued t p x s' := by
  have hm : ¬(((s.settleFast t).thread t).user && decide (0x600 ≤ p)) = true := by
    intro e
    simp only [Bool.and_eq_true, decide_eq_true_eq] at e
    exact absurd (h.mode e.1) (by omega)
  have e1 : (s.settleFast t).trig t p x f = (s.settleFast t).trig t p x fun _ => (s', 0) := by
    unfold State.trig
    rw [h.live]
    simp only [hf]
  have e2 := trig_ok (s.settleFast t) s' t p x h.live
  unfold State.trigRow Machine.State.issued
  simp only [h.issue, hm, h.has, h.free, Bool.not_true, Bool.false_eq_true, ↓reduceIte, e1, e2]

/-- A trigger that is taken and faults: the thread faults at its bundle, with nothing else done. -/
theorem trigRow_faults {s : State} {t p cause : Nat} {x : W32} {f : State → Trig} (h : MayTrigger s t p)
    (hf : f (s.settleFast t) = (s.settleFast t, cause)) (hc : cause ≠ 0) :
    s.trigRow t p x f =
      ((s.settleFast t).faultAt t cause ((s.settleFast t).thread t).pc x.toNat).afterIssue t := by
  have hm : ¬(((s.settleFast t).thread t).user && decide (0x600 ≤ p)) = true := by
    intro e
    simp only [Bool.and_eq_true, decide_eq_true_eq] at e
    exact absurd (h.mode e.1) (by omega)
  have e1 : (s.settleFast t).trig t p x f = (s.settleFast t, cause) := by
    unfold State.trig
    rw [h.live]
    simp only [hf]
    rw [if_pos hc]
  unfold State.trigRow
  simp only [h.issue, hm, h.has, h.free, Bool.not_true, Bool.false_eq_true, ↓reduceIte, e1, hc, ite_self]

/-- A trigger whose port the thread may not name faults, whatever the operation. -/
theorem trigRow_denied {s : State} {t p : Nat} {x : W32} {f : State → Trig} (h : s.canIssue t = true) :
    (((s.settleFast t).thread t).user = true → 0x600 ≤ p →
      s.trigRow t p x f = ((s.settleFast t).fault t causePriv ((s.settleFast t).thread t).pc).afterIssue t) ∧
    ((((s.settleFast t).thread t).user = false ∨ p < 0x600) → portAllowed t p = false →
      s.trigRow t p x f = ((s.settleFast t).fault t causePort ((s.settleFast t).thread t).pc).afterIssue t) := by
  refine ⟨fun h1 h2 => ?_, fun h1 h2 => ?_⟩
  · unfold State.trigRow
    simp [h, h1, h2]
  · have e : (((s.settleFast t).thread t).user && decide (0x600 ≤ p)) = false := by
      rcases h1 with h1 | h1
      · rw [h1]
        rfl
      · rw [decide_eq_false (Nat.not_le.mpr h1), Bool.and_false]
    unfold State.trigRow
    simp only [h, e, h2, Bool.not_true, Bool.not_false, Bool.false_eq_true, ↓reduceIte]

/-- After the wake a partition's page still takes the write. -/
theorem MayWrite.pageAt {s : State} {p : Fin 4} {page : Nat} (h : MayWrite s p.val page) :
    (s.woken p.val).pageOk p.val page = true := h.page p.isLt

/-- After the wake a partition's page still answers the read. -/
theorem MayRead.pageAt {s : State} {p : Fin 4} {page : Nat} (h : MayRead s p.val page) :
    (s.woken p.val).pageReads p.val page = true := h.page p.isLt

/-- A write of a host that reaches its page. -/
theorem hostCmd_runs {s : State} {p page : Nat} {f : State → State} (h : MayWrite s p page) :
    s.hostCmd p page f = f (s.woken p) := by
  unfold State.hostCmd Machine.State.woken
  split
  · rename_i hp
    unfold State.hostWr State.hostAccess
    rw [if_pos (h.reaches hp)]
    have h1 := h.served hp
    dsimp only
    split
    · rename_i e
      simp only [Bool.and_eq_true, decide_eq_true_eq, Bool.not_eq_true'] at e
      rw [h1 e.1] at e
      simp at e
    · rfl
  · rfl

/-- A partition's staging or commit command that reaches its page; the fallback bridge answers on no such page. -/
theorem ruleCmd_runs {s : State} {p : Nat} {f : State → State} (h : MayWrite s p 3) :
    s.ruleCmd p f = f (s.woken p) := by
  unfold State.ruleCmd
  split
  · rename_i e
    simp only [Bool.and_eq_true, decide_eq_true_eq] at e
    have hb := h.reaches e.2
    have hi : s.imageRuns = false := by
      have h2 := e.1
      unfold State.bridgeRuns at h2
      unfold State.imageRuns
      simp only [Bool.and_eq_true, beq_iff_eq] at h2
      rw [h2.1]
      rfl
    unfold State.pageOk State.pageReads at hb
    rw [hi] at hb
    simp at hb
  · exact hostCmd_runs h

/-- A read of a host that reaches its page. -/
theorem hostGet_runs {s : State} {p page : Nat} {f : State → State} (h : MayRead s p page) :
    s.hostGet p page f = f (s.woken p) := by
  unfold State.hostGet Machine.State.woken
  split
  · rename_i hp
    unfold State.hostRd State.hostAccess
    rw [if_pos (h.reaches hp)]
    have h1 := h.served hp
    dsimp only
    split
    · rename_i e
      simp only [Bool.and_eq_true, decide_eq_true_eq, Bool.not_eq_true'] at e
      rw [h1 e.1] at e
      simp at e
    · rfl
  · rfl

end Sys2Proof
end

