-- ==== Sys2Proof/WellFormed.lean ====
section
/-! DEFINITION. Well-formed commands: the conditions on operands that their types do not carry. Every other operand value is
one that the command can have. -/

namespace Sys2Proof

/-- The operands of a command have the form that the spec gives them: the elements of a GAUGE_SAMPLE (R818), the 32 bytes of
entropy (R841, R839), 8 quanta of PFC and one of PAUSE (R619), the 32 bytes of a transmit descriptor (R714), the 8 words of a
line (R553), the ports that a gate list belongs to (R607), the objects with a shut-down (Table 14.1), 29-bit CAN identifiers
and CAN XL lengths (R762), word addresses (R898), sizes of AtomicOps (R692), test regions (Table 22.1), units (Table 9.1). -/
def Instr.wf (i : Instr) : Bool :=
  match i with
  | .powerOnReset _ => true
  | .railsOkRise _ => true
  | .railsOkTimeout _ => true
  | .coreEnRetry _ => true
  | .railsOkFall _ => true
  | .railVoltageOutOfRange _ _ => true
  | .aonBrownout _ => true
  | .resetNAssert _ => true
  | .resetRelease _ _ _ => true
  | .imageVerdict _ bist _ _ => (bist.failed.all fun e => decide (e.1 < 15)) && bist.scans.all fun e => decide (e.1 < 15)
  | .autoNegTimeout _ => true
  | .frameReceive _ _ _ _ _ _ _ _ => true
  | .pauseFrameReceive _ _ pfc _ quanta => quanta.length == if pfc then 8 else 1
  | .pauseQuantaExpire _ _ _ => true
  | .t1sFrameReceive _ _ _ _ _ _ _ => true
  | .plcaBeaconLoss _ => true
  | .plcaBeaconResume _ => true
  | .nodeQuiet _ _ _ => true
  | .canFrameReceive _ _ id _ _ _ _ data _ => decide (id.toNat < 536870912) && decide (data.length ≤ 2048)
  | .canBusOff _ => true
  | .canBusOffRecover _ => true
  | .presDebounceEnd _ _ => true
  | .presLatchTake _ _ => true
  | .linkUp _ _ _ => true
  | .portLinkDown _ _ _ => true
  | .linkHoldExpire _ _ => true
  | .unplugDrained _ _ => true
  | .laneTrainingFail _ => true
  | .laneTrainingRetry _ _ => true
  | .laneMarginLow _ _ => true
  | .sliceAdaptDone _ _ => true
  | .sliceSwitchover _ _ => true
  | .preemptVerifyTimeout _ => true
  | .dropletDispatch _ => true
  | .holdExpire _ _ => true
  | .transmissionSelect _ _ => true
  | .frameTransmitEnd _ _ _ => true
  | .shaperRefill _ => true
  | .meterRefill _ => true
  | .gateEvent _ sgate idx => sgate || decide (idx.val < 32)
  | .gclConfigSwap _ sgate idx => sgate || decide (idx.val < 32)
  | .srfResetTimeout _ _ => true
  | .fciEdge _ _ _ => true
  | .queueShutdownDone kind idx => decide (idx.val < if kind.val = 0 then 32 else if kind.val = 1 then 256 else 320)
  | .tick _ => true
  | .delayExpire _ => true
  | .ppsOutSecond _ => true
  | .ppsInEdge _ => true
  | .recircClassify => true
  | .learnProcess => true
  | .epCreate => true
  | .ageingVisit _ => true
  | .commitRequest _ => true
  | .commitExecute => true
  | .versionRetire _ => true
  | .rulStgWrite _ => true
  | .rulStgRead _ => true
  | .rulStgClear _ => true
  | .rulPinPin _ _ => true
  | .rulPinUnpin _ _ => true
  | .tblInsert _ => true
  | .tblDelete _ => true
  | .tblRead _ => true
  | .tblUpdate _ => true
  | .tblFlush _ => true
  | .tblFlushDone _ => true
  | .tblNext _ => true
  | .bundleIssue _ => true
  | .unitOperationComplete _ unit => decide (unit.val < 25)
  | .pcTJump _ _ => true
  | .pcTBr _ _ => true
  | .pcTCall _ _ => true
  | .pcTRet _ _ => true
  | .pcTHalt _ _ => true
  | .lpTBegin _ _ => true
  | .lpTBrk _ _ => true
  | .aluTAdd _ _ _ => true
  | .aluTSub _ _ _ => true
  | .aluTAnd _ _ _ => true
  | .aluTOr _ _ _ => true
  | .aluTXor _ _ _ => true
  | .aluTAndn _ _ _ => true
  | .aluTShl _ _ _ => true
  | .aluTShr _ _ _ => true
  | .aluTSar _ _ _ => true
  | .aluTRotl _ _ _ => true
  | .aluTMin _ _ _ => true
  | .aluTMax _ _ _ => true
  | .aluTMinu _ _ _ => true
  | .aluTMaxu _ _ _ => true
  | .aluTMov _ _ _ => true
  | .bitTExtu _ _ => true
  | .bitTExts _ _ => true
  | .bitTIns _ _ => true
  | .bitTClz _ _ => true
  | .bitTCtz _ _ => true
  | .bitTPopc _ _ => true
  | .bitTBswap _ _ => true
  | .bitTBswap16 _ _ => true
  | .bitTBitrev _ _ => true
  | .bitTSext8 _ _ => true
  | .bitTSext16 _ _ => true
  | .cmpTEq _ _ => true
  | .cmpTNe _ _ => true
  | .cmpTLt _ _ => true
  | .cmpTLe _ _ => true
  | .cmpTGt _ _ => true
  | .cmpTGe _ _ => true
  | .cmpTLtu _ _ => true
  | .cmpTLeu _ _ => true
  | .cmpTGtu _ _ => true
  | .cmpTGeu _ _ => true
  | .cmpTTst _ _ => true
  | .mulTMulu _ _ => true
  | .mulTMuls _ _ => true
  | .mulTDivu _ _ => true
  | .mulTDivs _ _ => true
  | .lsTLd8u _ _ => true
  | .lsTLd8s _ _ => true
  | .lsTLd16u _ _ => true
  | .lsTLd16s _ _ => true
  | .lsTLd32 _ _ => true
  | .lsTLd64 _ _ => true
  | .lsTSt8 _ _ => true
  | .lsTSt16 _ _ => true
  | .lsTSt32 _ _ => true
  | .lsTSt64 _ _ => true
  | .lsTPf _ _ => true
  | .lsTClean _ _ => true
  | .lsTInv _ _ => true
  | .lsTCinv _ _ => true
  | .lsTFence _ _ => true
  | .pwTLd8 _ _ => true
  | .pwTLd16 _ _ => true
  | .pwTLd32 _ _ => true
  | .pwTSt8 _ _ => true
  | .pwTSt16 _ _ => true
  | .pwTSt32 _ _ => true
  | .pwTIns _ _ => true
  | .pwTDel _ _ => true
  | .pwTLen _ _ => true
  | .dlTRd _ _ => true
  | .dlTWr _ _ => true
  | .dlTFlk _ _ => true
  | .dlTKey _ _ => true
  | .dlTLay _ _ => true
  | .dlTPinfo _ _ => true
  | .tlTL2 _ _ => true
  | .tlTEp _ _ => true
  | .tlTParam _ _ => true
  | .tlTFfind _ _ => true
  | .tlTFget _ _ => true
  | .tlTFread _ _ => true
  | .tlTFwrite _ _ => true
  | .tlTFdel _ _ => true
  | .chTPut _ _ => true
  | .chTPutl _ _ => true
  | .chTGet _ _ => true
  | .chTCount _ _ => true
  | .chTWatch _ _ => true
  | .chTUnwatch _ _ => true
  | .chWaitTimeout _ _ => true
  | .pauseRefresh _ _ => true
  | .fcoMinHoldExpire _ _ => true
  | .lkTAcq _ _ => true
  | .lkTTry _ _ => true
  | .lkTRel _ _ => true
  | .lkTCancel _ _ => true
  | .lkTQuery _ _ => true
  | .lockWaitTimeout _ _ => true
  | .atTAdd _ _ _ => true
  | .atTSub _ _ _ => true
  | .atTSwap _ _ _ => true
  | .atTCas _ _ _ => true
  | .atTAnd _ _ _ => true
  | .atTOr _ _ _ => true
  | .atTMin _ _ _ => true
  | .atTMax _ _ _ => true
  | .evtTWait _ _ => true
  | .evtTClr _ _ => true
  | .evtTSig _ _ => true
  | .evtTMget _ _ => true
  | .tmTStart _ _ => true
  | .tmTStop _ _ => true
  | .tmTNow _ _ => true
  | .tmTNet _ _ => true
  | .timerExpire _ _ => true
  | .csTAlloc _ _ => true
  | .csTFree _ _ => true
  | .csTRef _ _ => true
  | .csTAddr _ _ => true
  | .csTInfo _ _ => true
  | .poolRefillDone _ => true
  | .poolSpillDone _ => true
  | .bufferScrubDone _ _ => true
  | .wcTNext _ _ => true
  | .wcTSend _ _ => true
  | .wcTDry _ _ => true
  | .wcTRecirc _ _ => true
  | .sqTOrig _ _ => true
  | .sqTDepth _ _ => true
  | .helperTClaim _ _ _ => true
  | .helperTRel _ _ _ => true
  | .helperTWr _ _ _ => true
  | .helperTRd _ _ _ => true
  | .helperTFeed _ _ _ => true
  | .gcmInit _ _ => true
  | .gcmAad _ _ => true
  | .gcmEnc _ _ => true
  | .gcmDec _ _ => true
  | .gcmTag _ _ => true
  | .cmacInit _ _ => true
  | .cmacData _ _ => true
  | .cmacTag _ _ => true
  | .aesBlk _ _ => true
  | .eq _ _ => true
  | .crcOpen _ _ => true
  | .crcReg _ _ => true
  | .crcEnd _ _ => true
  | .csumOpen _ _ => true
  | .csumReg _ _ => true
  | .csumEnd _ _ => true
  | .hash _ _ => true
  | .helperOrphanEnd _ _ => true
  | .helperDisable _ _ _ => true
  | .helperEnable _ _ _ _ => true
  | .helperShutdownDone _ _ _ => true
  | .svTInfo _ _ => true
  | .svTGetreg _ _ => true
  | .svTSetreg _ _ => true
  | .svTHeld _ _ => true
  | .svTResume _ _ => true
  | .svTPark _ _ => true
  | .svTAck _ _ => true
  | .svTReset _ _ => true
  | .faultAckTimeout _ _ => true
  | .deadlockTimeout _ _ => true
  | .escalationPost _ => true
  | .engineReset _ => true
  | .engineSpareSubstitute _ => true
  | .engineFailNoSpare _ => true
  | .dbgTBrk _ _ => true
  | .dbgTMark _ _ => true
  | .cxTEret _ _ => true
  | .cxTTlbinv _ _ => true
  | .cxTTlbflush _ _ => true
  | .pmpTWait _ _ => true
  | .pmpTPost _ _ => true
  | .pmpTYield _ _ => true
  | .pmpTDwr _ _ => true
  | .pmpTDrd _ _ => true
  | .pmpTStart _ _ => true
  | .pmpTDel _ _ => true
  | .pmpTSend _ _ => true
  | .postFifoTake => true
  | .lkpTForce _ _ => true
  | .lkpTSetcount _ _ => true
  | .edgTTx _ _ => true
  | .edgTRoom _ _ => true
  | .edgTTs _ _ => true
  | .edgeTransmitDone _ _ => true
  | .basinSwitchBegin _ _ => true
  | .basinSwitchFinish => true
  | .weirHoldSuspendWrite _ _ => true
  | .bsnEngReset _ _ => true
  | .bsnEngSwap _ _ => true
  | .bsnEngAckEsc _ _ => true
  | .cisQuotaWrite _ _ _ => true
  | .cisErrPop _ => true
  | .sluRead _ => true
  | .sluWrite _ => true
  | .sluFlush _ => true
  | .sluClear _ => true
  | .configChange _ => true
  | .timSnap _ => true
  | .timStep _ _ => true
  | .timRateWrite _ _ _ => true
  | .pmpPostWrite _ _ => true
  | .pmpCeRestart _ _ => true
  | .lkgHostAcq _ _ _ _ _ => true
  | .lkgHostTry _ _ _ _ _ => true
  | .lkgHostRel _ _ _ _ _ => true
  | .lkgHostCancel _ _ _ _ _ => true
  | .lkgHostQuery _ _ _ _ _ => true
  | .lkgForce _ _ => true
  | .lkgSetcount _ _ _ => true
  | .pcieConfigRequest _ _ reg _ => reg.toNat % 4 == 0
  | .bar4Read _ _ n => decide (0 < n)
  | .bar4Write _ _ data => !data.isEmpty
  | .pcieAtomicop _ _ _ width _ _ => decide (width.val < 2)
  | .txDoorbellWrite _ _ _ => true
  | .rxDoorbellWrite _ _ _ => true
  | .txDescriptorProcess _ _ _ desc _ _ => desc.length == 32
  | .rxMessageDeliver _ _ _ => true
  | .hostQueueEnable _ _ _ => true
  | .hostQueueDisable _ _ _ => true
  | .hostQueueShutdownDone _ _ _ => true
  | .itrHoldExpire _ _ _ => true
  | .hstLatWrite _ _ => true
  | .hstPrstGo _ _ => true
  | .pcieFunctionLevelReset _ => true
  | .pcieLinkReset _ => true
  | .eoeLinkDownTimeout _ _ => true
  | .partitionResetDrained _ => true
  | .eoeFrameReceive _ _ _ => true
  | .eoeMessageSend _ _ _ => true
  | .edgLaneRetrain _ _ => true
  | .edgLaneSpare _ _ => true
  | .xngIslReset _ _ => true
  | .islandLeaveReset _ => true
  | .clockStop _ => true
  | .clockReturn _ => true
  | .countedCrossingPulse _ _ => true
  | .coalescedCrossingPulse _ _ => true
  | .spiRead _ frame => !frame.isEmpty
  | .spiWrite _ frame => !frame.isEmpty
  | .spiReset _ frame => !frame.isEmpty
  | .spiFreeze _ frame => !frame.isEmpty
  | .spiDry _ frame => !frame.isEmpty
  | .spiLockdown _ frame => !frame.isEmpty
  | .spiFrameError _ frame => !frame.isEmpty
  | .powerTargetEval _ => true
  | .dwellExpire _ => true
  | .wakeEvent _ _ => true
  | .pwrWakeTimerExpire _ => true
  | .pwrCmdEnterDry _ _ => true
  | .pwrCmdWake _ _ => true
  | .gaugeSample _ temps volts speeds => temps.length == 24 && volts.length == 16 && speeds.length == 12
  | .tripCooldownEnd _ => true
  | .floorLoop _ _ => true
  | .shedIntervalStep _ => true
  | .pmbAlert _ => true
  | .fthNonce _ _ entropy => entropy.length == 32
  | .nonceExpire _ => true
  | .fthToken _ _ => true
  | .svcBtnPress _ => true
  | .pressWaitTimeout _ => true
  | .fthAttest _ => true
  | .fthConfirm _ => true
  | .fthLcAdvance _ _ entropy => entropy.length == 32
  | .fthProvision _ => true
  | .fthImgErase _ _ => true
  | .fthImgVerify _ _ => true
  | .fthWinWrite _ _ _ => true
  | .fthWinRead _ _ _ => true
  | .exportTrailerSigned => true
  | .fthStRegion _ _ => true
  | .fthStFull _ => true
  | .fthStAbort _ => true
  | .scheduledTestStart _ => true
  | .deferredTestStart _ => true
  | .bistComplete _ _ _ _ _ _ => true
  | .reservoirMapWrite => true
  | .ipdCommandIssue _ _ => true
  | .ipdAccessComplete _ _ => true
  | .refresh _ _ _ => true
  | .patrolScrub _ ecc => ecc.length == 8
  | .trackingStep _ _ => true
  | .fullRetrainStart _ => true
  | .fullRetrainEnd _ _ _ _ => true
  | .pcRetireStart _ _ _ => true
  | .pcRetireComplete _ bad => bad.all fun w => decide (w < 1073741824)
  | .cacheFillComplete _ _ => true
  | .evictionWriteback _ => true
  | .rplTrigger _ => true
  | .postWindowEnd _ => true
  | .freezePinEdge _ => true
  | .rplFreeze _ => true
  | .rplRelease _ => true
  | .rplExport _ => true
  | .rplReplay _ => true
  | .rplAbort _ => true
  | .replayEnd => true
  | .dbgHalt _ => true
  | .dbgResume _ => true
  | .dbgStep _ => true
  | .dbgKill _ => true
  | .dbgRdreg _ => true
  | .dbgWrreg _ => true
  | .dbgBrkSet _ => true
  | .dbgBrkClr _ => true
  | .breakpointHit _ => true
  | .bar0PartialWrite _ => true
  | .counterLowWordRead _ read => read.addr.toNat % 4 == 0
  | .rcFieldRead _ read => read.addr.toNat % 4 == 0
  | .weirDomStat0Read _ => true
  | .bsnChStat0Read _ => true
  | .cisPoolCountRead _ => true
  | .pmpDescW0Read _ => true
  | .fthFlogCountRead _ => true
  | .fthFlogDataRead _ => true
  | .fthRsvCountRead _ => true
  | .fthRsvDataRead _ => true
  | .registerWrite part bar2 addr _ => addr.toNat % 4 == 0 && (!bar2 || (decide (addr.toNat < 1048576) && decide (part.val < 4)))
  | .presRawChange _ _ _ => true
  | .canBusError _ _ _ => true
  | .canChannelRestart _ => true
  | .macsecSaInstall _ _ _ => true
  | .pcieLinkUp _ _ _ => true
  | .crossingAcknowledge _ _ => true
  | .recordBucketRefill _ => true
  | .ppsOutWidthEnd _ => true

/-- Every waiting command is well formed. -/
def wellFormed (l : List Instr) : Bool := l.all Instr.wf

end Sys2Proof
end

