-- ==== Sys2Proof/Tests/Slice0.lean ====
section
/-! SUPPORT. Tests of the model: an ill-formed term for each check of well-formedness, results of single commands that the
spec works out, and for each statement of Certificates/Slice0 a state and operands that meet its hypotheses. -/

namespace Sys2Proof.Tests

open Machine

set_option maxRecDepth 8000

/-! ### Helpers -/

/-- The hypotheses of a taken trigger, decided. -/
def mayTriggerB (s : State) (t p : Nat) : Bool :=
  s.canIssue t && (!((s.settleFast t).thread t).user || decide (p < 0x600)) && portAllowed t p &&
    (s.settleFast t).accepts t p && (s.settleFast t).rpl.replay.isNone

theorem mayTrigger_of {s : State} {t p : Nat} (h : mayTriggerB s t p = true) : MayTrigger s t p := by
  unfold mayTriggerB at h
  simp only [Bool.and_eq_true, Bool.or_eq_true, Bool.not_eq_true', decide_eq_true_eq, Option.isNone_iff_eq_none] at h
  obtain ⟨⟨⟨⟨h1, h2⟩, h3⟩, h4⟩, h5⟩ := h
  refine ⟨h1, fun hu => ?_, h3, h4, h5⟩
  rcases h2 with e | e
  · rw [hu] at e
    cases e
  · exact e

def mayWriteB (s : State) (p page : Nat) : Bool :=
  !decide (p < 4) || (s.pageOk p page && (s.hostWakes.rd Reg.PWR_STATUS_STATE != 3 || alwaysOnPage page) &&
    (s.woken p).pageOk p page)

theorem mayWrite_of {s : State} {p page : Nat} (h : mayWriteB s p page = true) : MayWrite s p page := by
  unfold mayWriteB at h
  simp only [Bool.and_eq_true, Bool.or_eq_true, Bool.not_eq_true', decide_eq_false_iff_not, bne_iff_ne, ne_eq] at h
  exact ⟨fun hp => (h.resolve_left (fun n => n hp)).1.1, fun hp e => (h.resolve_left (fun n => n hp)).1.2.resolve_left (fun n => n e),
    fun hp => (h.resolve_left (fun n => n hp)).2⟩

def mayReadB (s : State) (p page : Nat) : Bool :=
  !decide (p < 4) || (s.pageReads p page && (s.hostWakes.rd Reg.PWR_STATUS_STATE != 3 || alwaysOnPage page) &&
    (s.woken p).pageReads p page)

theorem mayRead_of {s : State} {p page : Nat} (h : mayReadB s p page = true) : MayRead s p page := by
  unfold mayReadB at h
  simp only [Bool.and_eq_true, Bool.or_eq_true, Bool.not_eq_true', decide_eq_false_iff_not, bne_iff_ne, ne_eq] at h
  exact ⟨fun hp => (h.resolve_left (fun n => n hp)).1.1, fun hp e => (h.resolve_left (fun n => n hp)).1.2.resolve_left (fun n => n e),
    fun hp => (h.resolve_left (fun n => n hp)).2⟩

/-- A number of the image's settings. -/
def settings (l : List (Nat × Nat × Nat)) : SMap Nat := l.foldl (fun m e => SMap.set m (e.1 * 16777216 + e.2.1) e.2.2) []

/-- The image runs; partitions 0 to 3 are bound to links 0 to 3; engine 1 runs with threads 8, its T0, and 9 ready, and
thread 1536 runs on CE0. Engine 1 has the stack call mode and may write segment 0. Pages 0 and 1 of basin 0 are plain and
atomic; pool 1 has four buffers of 256 bytes. Lock group 0 holds mutexes, group 1 semaphores. -/
def run : State := { State.reset with
  regs := (State.reset.setAll [(Reg.XNG_STATUS_IN_RESET, 0, 0, 0), (Reg.BSN_ENG_ESTATE, 1, 0, 0), (Reg.TBL_SPACE_EN, 0, 0, 1),
    (Reg.TBL_SPACE_KEY_LEN, 0, 0, 4), (Reg.TBL_SPACE_QUOTA, 0, 0, 4), (Reg.LKG_GRP_EN, 0, 0, 1), (Reg.LKG_GRP_EN, 1, 0, 1), (Reg.LKG_GRP_BASIN, 0, 0, 0xFFF),
    (Reg.LKG_GRP_BASIN, 1, 0, 0xFFF), (Reg.LKG_GRP_PART, 0, 0, 0x1F), (Reg.LKG_GRP_PART, 1, 0, 0x1F), (Reg.LKG_GRP_KIND, 1, 0, 1)]).regs
  boot := { State.reset.boot with held := false, stage := 3 }
  thr := [(8, { state := 0 }), (9, { state := 0 }), (1536, { state := 0 })]
  pmp := { State.reset.pmp with ces := [(0, { state := 1 })] }
  img := { State.reset.img with
    bind := [(0, 1), (1, 2), (2, 3), (3, 4)], engTab := [(22, 2)], chans := [(16, 2), (25, 8), (26, 8)]
    set_ := settings [(42, 0, 1), (42, 1, 2), (1, 1, 1), (2, 1, 1), (3, 1, 4), (8, 0, 1), (8, 1, 1), (40, 0, 1)] } }

/-- A state with a field of thread 8 changed. -/
def with8 (f : Thr → Thr) : State := run.updThread 8 f

/-- Thread 8 holds the droplet of store index 0, of 64 bytes. -/
def holds : State := { run with
  weir := { run.weir with slots := [(0, { d := { len := 64 }, st := 2, holder := some 8 })] }
  mem := { run.mem with staging := [(0, List.replicate 64 7)] } }

/-- Channel 1 of basin 0 holds these words; it has room for cap words. -/
def chanOf (cap : Nat) (ws : List Bool) : State :=
  ws.foldl (fun (s : State) e => s.chPush 1 5 e) { run with img := { run.img with chans := [(16, cap), (25, 8), (26, 8)] } }

/-- The flow of key 0 in space 0 stands in the table. -/
def oneFlow : State := (run.flowCreate 0 [0, 0, 0, 0] false 1 0 []).2

/-- The same flow, its context lost. -/
def lostFlow : State := { oneFlow with mem := { oneFlow.mem with poison := [oneFlow.ctxAddr 0 / 64] } }

/-- Pool 1 has a free buffer, one that thread 8 refers to, and quota left. -/
def pooled : State := { run with
  cis := { run.cis with pools := [(1, { cache := [2], counts := [(3, 254)], quota := [(0, 1)] })] }
  thr := [(8, { state := 0, ports := [(0x3E0, 1)], refs := [{ pool := 1, handle := 3, number := 1 }] })] }

/-- Another thread holds mutex 63; thread 8 waits for mutex 62, which is held as well. -/
def locked : State := { run with lkg := { run.lkg with locks := [(62, { holder := some 9, waiters := [{ req := 8 }] }), (63, { holder := some 9 })] } }

/-- Thread 8 originates: a body of pool 1 that it refers to, or none; pool 0 has a free buffer. -/
def originates (len body : Nat) : State := { pooled with
  cis := { pooled.cis with pools := (0, { cache := [5], quota := [(0, 1)] }) :: pooled.cis.pools }
  thr := [(8, { refs := [{ pool := 1, handle := 3, number := 1 }]
                state := 0, ports := [(0x440, BitVec.ofNat 32 len), (0x441, BitVec.ofNat 32 body)] })] }

/-- Pool 1 has an empty cache and handles in its spill; or a full cache and a spill under way; thread 8 refers to its buffer 3. -/
def spills (cache spill : List Nat) (refs : Nat) : State := { run with
  cis := { run.cis with pools := [(1, { cache := cache, spill := spill, spilling := true, counts := [(3, refs)], quota := [(0, 1)] })] }
  thr := [(8, { state := 0, ports := [(0x3E0, 1)], refs := [{ pool := 1, handle := 3, number := 1 }] })] }

/-- Thread 8 has claimed both helpers of its basin, which are in use, and owns their registers; it holds a droplet and a
streaming operation is open. -/
def helped : State := { holds with
  regs := (holds.setAll [(Reg.BSN_HLP_CRY_STATE, 0, 0, 1), (Reg.BSN_HLP_CHK_STATE, 0, 0, 1)]).regs
  hlp := [(0, { claim := some 8, live := some 8, open_ := some 2 }), (1, { claim := some 8, live := some 8, open_ := some 0x10 })] }

theorem works0 : HelperWorks (helped.settleFast 8) 8 0 :=
  ⟨by decide, by decide, by decide, by decide, by decide⟩

theorem works1 : HelperWorks (helped.settleFast 8) 8 1 :=
  ⟨by decide, by decide, by decide, by decide, by decide⟩

/-- The registers of helper h that thread 8's operation works on. -/
def helpReg (h : Nat) : List Nat := (((helped.settleFast 8).hlpSwitch (threadBasin 8) h 8).2.helper (threadBasin 8) h).regs

/-- An operation of thread 8 runs in helper h. -/
def working (h : Nat) : State :=
  (helped.setHelper 0 h { helped.helper 0 h with next := some ([5], none) }).putOp 8 (uHlp h) { arg2 := 1 }

/-- Thread 9 at bundle 5 inside a loop, with one return address; programs of 100 bundles. -/
def looping : State := { run with
  thr := [(9, { state := 0, pc := 5, rstack := [7], loops := [{ start := 1, end_ := 9, count := 2 }] }), (1536, { state := 0 })]
  img := { run.img with set_ := SMap.set run.img.set_ (41 * 16777216) 32768 } }

/-- T0 of engine 1 looks at thread 9, which is in this state. -/
def watched (st : Nat) : State := { run with
  thr := [(8, { state := 0, ports := [(0x4E0, 1)] }), (9, { state := st, acked := false })]
  weir := { run.weir with slots := [(0, { st := 2, holder := some 9 })] }, fth := { run.fth with lc := 1 } }

/-- Thread 1536 in the kernel, with descriptor 0; descriptor 4,095 is free, 4,094 waits; it refers to a buffer of pool 0. -/
def kernel : State := { run with
  thr := [(9, { state := 0 }), (1536, { state := 0, ports := [(0x620, 4095), (0x641, 60)] })]
  pmp := { run.pmp with descs := [(0, { state := 2, flags := 1 }), (4094, { state := 3 })] }
  cis := { run.cis with cpRefs := [{ pool := 0, handle := 0, number := 1, owner := 0 }] }
  edg := { run.edg with phy := [32], stamps := [5] }
  img := { run.img with set_ := SMap.set run.img.set_ (43 * 16777216 + 32) 1518, thrTab := [(36, 2 ^ 24)] } }

/-- An exit from DRY with a record of slot 0. -/
def resumes : State := { State.reset with
  boot := { State.reset.boot with held := false, stage := 1, resumeOk := true }
  fth := { State.reset.fth with resume := some { digest := shake256 [], version := 0, counter := 0 } } }

theorem resumed (h : Config.imageContents [] = {}) (s : State) (hw : s.fth.well = []) (hr : s.boot.resumeOk = true)
    (hs : s.fth.resume = some { digest := shake256 [], version := 0, counter := 0 }) (hc : s.fth.counter0 = 0)
    (h2 : s.rd Reg.GEN_STRAP_QMODE2 = 0) (h3 : s.rd Reg.GEN_STRAP_QMODE3 = 0) :
    s.resumeSlot = some 0 ∧ s.slotImage 0 = {} := by
  have hi : s.slotImage 0 = {} := by
    unfold State.slotImage State.slotNat State.slotBytes
    rw [hw]
    refine Eq.trans (congrArg (fun i : Image => { i with version := 0, rollback := 0, keySlot := 0 }) (?_ : _ = ({} : Image))) rfl
    exact h
  refine ⟨?_, hi⟩
  unfold State.resumeSlot
  simp only [hr, hs, Bool.not_true, Bool.false_eq_true, if_false]
  refine List.find?_cons_of_pos ?_
  unfold State.lanePlanOk
  rw [hi, h2, h3, hc]
  unfold State.slotNat State.slotBytes
  rw [hw]
  simp only [Bool.and_eq_true, beq_iff_eq]
  exact ⟨⟨⟨rfl, rfl⟩, trivial⟩, rfl, rfl⟩

/-- Where the empty section data make the image of no setting, the verdict of a valid resume record is slot 0, and its
self-test finds nothing. -/
theorem witness_ImageVerdictRunsASlot (h : Config.imageContents [] = {}) :
    let u := resumes.upTo 5
    let v := (u.showKeys.showDeviceId.applyMap).wr Reg.FTH_STATUS_SLOT0_CAUSE 0
    u.showKeys.showDeviceId.applyMap.findSlot = (some 0, v) ∧
    ∃ w, ({ v with img := v.slotImage 0 } : State).selfTest [] [] [] [] = (false, w) := by
  intro u v
  have r := resumed h u.showKeys.showDeviceId.applyMap (by decide) (by decide) (by decide) (by decide) (by decide) (by decide)
  have r2 := (resumed h v (by decide) (by decide) (by decide) (by decide) (by decide) (by decide)).2
  refine ⟨?_, ?_⟩
  · unfold State.findSlot
    rw [r.1]
    rfl
  · rw [r2]
    exact ⟨_, Prod.ext (by decide : _ = false) rfl⟩

/-- The core supplies are on, in reset. -/
def powered (rails : Bool) (retry : Option Nat) : State := { State.reset with
  boot := { State.reset.boot with coreEn := retry.isNone, railsOk := rails, retryAt := retry, resetLow := false } }

/-- The release is over and no image stands in the Wellstore. -/
def released : State := { State.reset with boot := { State.reset.boot with held := false, stage := 1 } }

/-- Island 1, and island 12, stand in reset; clock 0 and clock 10 run, clock 9 does not. -/
def crossings (isl ch : Nat) (c : Crossing) : State :=
  (run.setAll [(Reg.XNG_STATUS_IN_RESET, 0, 0, 0x1002), (Reg.XNG_STATUS_CLK_OK, 0, 0, 0x401)]).setCrossing isl ch c

/-- The fallback bridge runs. -/
def bridge : State := { run with boot := { run.boot with stage := 2 } }

/-- The image runs with these links up; the listed fields are set. -/
def up (l : List Nat) (f : List (Fld × Nat × Nat × Nat)) : State := { run with
  regs := (run.setAll f).regs, edg := { run.edg with phy := l }
  img := { run.img with set_ := run.img.set_ ++ [(43 * 16777216 + 31, 1518), (43 * 16777216 + 47, 1518), (43 * 16777216 + 63, 2048)] } }

/-- The state in which a link that comes up at 10 Gbit/s, 5 ns on, is decided. -/
def comesUp (s : State) (p : Nat) : State :=
  let w := ((s.upTo 5).setPhy p true).setLanes p 2
  let x := if w.bridgeRuns then w.setAll [(Reg.EDG_PORT_MODE, p, 0, (bridgeMode 10000 0).1), (Reg.EDG_PORT_FEC, p, 0, (bridgeMode 10000 0).2)]
    else w
  x.setFld Reg.SLU_PORT_SPEED p 0 10000

/-- The spare of the quad of lane 31 has taken its lane. -/
def spared (s : State) : State :=
  let v := s.setAll [(Reg.EDG_LANE_SLICE, 31, 0, 9 * quadOf 31 + 8), (Reg.EDG_LANE_STATE, 31, 0, 2),
    (Reg.EDG_QUAD_SPARE_USED, quadOf 31, 0, 1), (Reg.EDG_QUAD_LANE, quadOf 31, 0, 31),
    (Reg.EDG_STATUS_SPARES, 0, 0, setBits (s.rd Reg.EDG_STATUS_SPARES) (quadOf 31) 1 0)]
  v.noteRsv 3 (if v.on Reg.EDG_LANE_CMD_PENDING 0 0 then 5 else 3) 31 (s.fld Reg.EDG_LANE_SLICE 31 0) (9 * quadOf 31 + 8)

/-- Port 31 is up and has used up its packet numbers; and the same with a new association. -/
def usedUp : State := { up [31] [] with edg := { (up [31] []).edg with macsec := [(31, { exhausted := true })] } }

def renewed : State := { usedUp with edg := { usedUp.edg with
  macsec := SMap.set usedUp.edg.macsec 31 { usedUp.macsec 31 with installed := true, xpn := true, pn := 7, exhausted := false } } }

/-- A frame of 64 bytes to address 0 of type 0x800. -/
def frame64 : List Byte := List.replicate 12 0 ++ [8, 0] ++ List.replicate 50 0

/-- As up, under the fallback bridge. -/
def upBridge (l : List Nat) (f : List (Fld × Nat × Nat × Nat)) : State := { up l f with boot := { run.boot with stage := 2 } }

/-- A host of partition 3 stands behind port 31. -/
def hostOver : State := { up [31] [] with
  img := { (up [31] []).img with bind := [(3, 47)] }, fth := { run.fth with baseMac := 0x020000000000 } }

/-- A frame of that host, without a protocol of its own. -/
def frameOfHost (s : State) : List Byte := List.replicate 6 0 ++ beBytes 6 (s.hostMac 3) ++ [0x88, 0xB5, 1, 3, 63, 2] ++ List.replicate 44 0

/-- 5 ms after the input of pin 8 was in this state. -/
def input8 (i : PresIn) (stage : Nat) : State :=
  ({ run.setPresIn 8 i with boot := { run.boot with stage := stage } } : State).upTo 5000000

/-- Port 31 transmits: its link is up, class 7 holds one copy, and the port may preempt. -/
def sends (pre : Nat) (busy : SMap Copy) : State :=
  let s := up [31] [(Reg.SLU_PORT_RX_PAUSE, 31, 0, 1), (Reg.SLU_PORT_LINK, 31, 0, 1), (Reg.SLU_PORT_PREEMPT, 31, 0, pre),
    (Reg.EDG_PORT_VERIFY, 31, 0, 2), (Reg.SLU_CLASS_EXPRESS, 255, 0, 1), (Reg.SLU_PORT_SPEED, 31, 0, 10000)]
  { s with slu := { s.slu with pause := [(248, 5)], queues := [(255, [{ d := { len := 64 }, len := 64, q := 255 }])], sending := busy } }

/-- Port 31's classes after the heads that cannot be sent are dried. -/
def dried (s : State) : State := (List.range 8).foldl (fun v c => v.dryHeads 31 c 1) s

/-- The state before the last check of the end of a frame. -/
def sentFrame (u : State) (c : Copy) : State :=
  let bs := u.wireBytes c
  let v0 : State := { u with slu := { u.slu with sending := SMap.erase u.slu.sending 63 } }
  let v1 := ((((v0.emit (.frame 31 true bs)).bump Reg.SLU_TX_CNT).satBump Reg.SLU_CLASS_TX_FRAMES c.q 1).bumpFld Reg.EDG_TX_CNT 31 0 1)
  ((if v1.isGptpEvent bs then v1.stamp 31 else v1).takePn 31).copyEnds c 0

/-- A partition has selected an object of the Sluice, with these words in its data registers. -/
def selects (p kind bank i : Nat) (f : List (Fld × Nat × Nat × Nat)) : State :=
  up [] ([(Reg.SLU_SEL_KIND, 0, p, kind), (Reg.SLU_SEL_BANK, 0, p, bank), (Reg.SLU_SEL_INDEX, 0, p, i), (Reg.TIM_CFG_DOM_EN, 0, 0, 1)] ++ f)

/-- A droplet waits for thread 8, which may take it; another has been held for too long. -/
def waits : State := { run with
  img := { run.img with thrTab := [(32, 65536)] }
  weir := { run.weir with slots := [(0, { d := { len := 64, thread := 8 } }), (65535, { d := { len := 64, oclass := 3 }, st := 2, holder := some 9 })] } }

/-- The spill queue of PD's recirculation holds the handle of a circulating droplet. -/
def recirculates (ab : Bool) : State := { run with
  chan := [(spillKey 256, { head := [{ w := 0, end_ := true, abort := ab }] })]
  weir := { run.weir with slots := [(0, { d := { len := 64 }, st := 3 })] } }

/-- A channel of kind k above its high watermark pauses port 31. -/
def pausing (k : Nat) : State := { run with
  chan := [(1, { above := true })], img := { run.img with chans := [(16, 2), (19, k), (21, 31), (22, 255)] } }

/-- The time base after two seconds; descriptor 4,095 waits at the head of the delay queue. -/
def timed (w : Nat) : State := (({ up [] [(Reg.TIM_PPS_OUT_EN, 0, 0, 1), (Reg.TIM_PPS_IN_EN, 0, 0, 1), (Reg.TIM_CFG_DOM_EN, 0, 0, 15),
    (Reg.TIM_CFG_TICK_PERIOD, 0, 0, 1000)] with
  pmp := { run.pmp with delay := [(0, 4095)], descs := [(4095, { state := 3, wait := w })] } } : State)).upTo 2000000000

/-- Programs of 100 bundles; engine 1's opportunity goes to thread 8. CE0 fetches from
its cache. All slots are empty. -/
def runs : State := { run with
  mem := { run.mem with caches := [(213, { lines := [(0, { data := (List.replicate 16 [0, 0, 0, 0x80]).flatten })] })] }
  img := { run.img with set_ := SMap.set run.img.set_ (41 * 16777216) 100, prog := [(0, 0x80000000), (1, 0x80000000)] }
  pmp := { run.pmp with ces := [(0, (({ state := 1 } : CeSt).tlbAdd { vpn := 0, asid := 0, pte := 5 }))] } }

/-- Engine 1 after its threads' fast operations have settled. -/
def calm (s : State) : State := (cyclic 1 0).foldl (fun v x => v.settleFast x) s

/-- The last thread waits in a channel access, has a timer and stands in a lock's queue. -/
def waiting : State := { run with
  thr := [(1543, { state := 1, ops := [(uCh, { wait := 2, limit := some 5 })], timer := some 5 })]
  lkg := { run.lkg with locks := [(5, { holder := some 9, waiters := [{ req := 10, limit := some 5 }] })] } }

/-- The last thread of the last engine has faulted; the engine is still and escalates. -/
def stuck : State := { run with
  thr := [(1528, { state := 0, events := 1 <<< evDeadlock }), (1535, { state := 3, cause := 9, acked := false })]
  eng := [(191, { stillAt := some 0, escWait := some 9 })] }

/-- Helper h of basin 11 is in this state. -/
def helperIs (h st : Nat) (f : Helper) : State := (run.setFld (hlpState h) 11 0 st).setHelper 11 h f

/-- The engine 191 has failed and its basin has no spare. -/
def failsNoSpare (s : State) : State :=
  let v := ((s.engineHold 191).engineDown 191).setFld Reg.BSN_ENG_ESTATE 191 0 2
  let w : State := { v with fth := { v.fth with heldRegions := v.fth.heldRegions ++ [11] } }
  (((w.noteRsv 11 2 11 11 0xFFFFFFFF).showDegraded).eventSup Reg.BSN_INT_STATUS_NO_SPARE Reg.BSN_INT_EN_NO_SPARE).takeFailedOut

/-- The tables hold one entry of each kind; the learn queue holds a request of each kind. -/
def tabled (p table cmdIdx : Nat) (d2 : Nat) : State :=
  let s := up [] [(Reg.TBL_SEL_TABLE, 0, p, table), (Reg.TBL_SEL_BY_INDEX, 0, p, 1), (Reg.TBL_SEL_INDEX, 0, p, cmdIdx), (Reg.TBL_DATA, 2, p, d2),
    (Reg.TBL_L2_AGE_AGE_TIME, 0, 0, 10), (Reg.TBL_SPACE_AGE_TIME, 15, 0, 10), (Reg.TBL_SPACE_EN, 0, 0, 1)]
  { s with tbl := { s.tbl with
    l2 := [(3, { mac := 5 })], ep := [(4, { state := 3 })], queue := [.learn 1 2 3]
    flush := [(3, (0, 0, none, none))], flowOver := [(0, { space := 0, ctx := 7 })] } }

/-- Partition p has staged entry 63 of kind 0, or a commit of it waits. -/
def staged (p : Nat) (pend : Bool) (e : SMap (List W32)) : State :=
  let s := up [] [(Reg.RUL_STG_SEL_KIND, 0, p, 0), (Reg.RUL_STG_SEL_INDEX, 0, p, 63)]
  { s with
    rul := { s.rul with
      staging := [(p, { entries := e, pending := pend })], queue := [p]
      vers := [{ number := 1, state := 1 }, { number := 2, state := 2 }, {}, {}] }
    img := { s.img with stgQuota := [(0, 4)] } }

/-- Partition p's selection is pool k, in this state, with these registers set. -/
def poolIs (k : Nat) (pl : Pool) (f : List (Fld × Nat × Nat × Nat)) : State := (up [] ((Reg.CIS_SEL_POOL, 0, 3, k) :: f)).setPool k pl

/-- Pseudo-channel 31 is in this state, with all clocks up and the IPD trained. -/
def pcIs (pc : PChan) (f : List (Fld × Nat × Nat × Nat)) : State :=
  (up [] ([(Reg.XNG_STATUS_CLK_OK, 0, 0, 0x7FF), (Reg.IPD_STATUS_TRAINED, 0, 0, 1), (Reg.IPD_OFFLINE_PC, 0, 0, 0),
    (Reg.IPD_CFG_AGE_LIMIT, 0, 0, 10)] ++ f)).setPchan 31 pc

/-- The next command of pseudo-channel 31, and the row that its bank holds open. -/
def pcPlan (u : State) : Option (DramReq × Option Bool) :=
  let limit := u.rd Reg.IPD_CFG_AGE_LIMIT * 100
  let old (r : DramReq) : Bool := r.cls != 0 && limit ≤ u.now - r.at_ && !r.promoted
  let aged : PChan := { u.pchan 31 with
    queue := (u.pchan 31).queue.map (fun r => if old r then { r with promoted := true } else r), draining := (u.pchan 31).drain }
  let u1 := (u.setPchan 31 aged).bumpFld Reg.IPD_PROMOTE_CNT 0 0 ((u.pchan 31).queue.filter old).length
  let writes := aged.queued.filter fun r => r.write
  (chooseReq u1.now limit (if aged.draining && !writes.isEmpty then writes else aged.queued)).map fun r =>
    (r, (SMap.find aged.openRow (u1.place r.addr).2.1).map fun x => x == (u1.place r.addr).2.2)

/-- A line to be written back at the last cache, and a fill under way at the control cache and at engine 0's basin cache. -/
def evicting : State :=
  { run with mem := { run.mem with
    caches := [(220, { evict := [{ addr := 64 }], misses := [{ addr := 64 * 134217727 }] }),
      (204, { misses := [{ addr := 64, waiters := [1536] }] }), (192, { misses := [{ addr := 64, waiters := [8] }] })] } }

/-- Debugging is open; thread 1,535 and descriptor 4,095 are the target, in these states; the register is r. -/
def debugs (desc ts ds r : Nat) : State :=
  let s := up [] [(Reg.RPL_DBG_SEL_TARGET, 0, 0, if desc = 1 then 4095 else 1535), (Reg.RPL_DBG_SEL_KIND, 0, 0, desc), (Reg.RPL_DBG_CMD_REG, 0, 0, r)]
  { s with fth := { s.fth with lc := 1 }, thr := [(1535, { state := ts })], pmp := { s.pmp with descs := [(4095, { state := ds })] } }

/-- The record is frozen with one record of each kind; or a session is in this step. -/
def recorded (ses : Option Session) : State :=
  let s := up [] [(Reg.RPL_STATUS_FROZEN, 0, 0, 1), (Reg.RPL_RPY_CFG_BASIN, 0, 0, 11), (Reg.RPL_RPY_CFG_SRC, 0, 0, 11), (Reg.BSN_STATUS_PERM, 0, 0, 15)]
  { s with
    rpl := { s.rpl with ring := [{ index := 0, kind := 0, bytes := [] }], replay := ses, post := some (0, 6) }
    fth := { s.fth with lc := 1 } }

/-- All quads carry PCIe and all clocks run; partition 3 may write a window of 4 KiB. -/
def linked (l : List Nat) (f : List (Fld × Nat × Nat × Nat)) : State :=
  let s := up [] ([(Reg.GEN_STRAP_QMODE2, 0, 0, 1), (Reg.GEN_STRAP_QMODE3, 0, 0, 1), (Reg.XNG_STATUS_CLK_OK, 0, 0, 0x7FF),
    (Reg.IPD_OFFLINE_PC, 0, 0, 0)] ++ f)
  { s with hst := { s.hst with linkUp := l }, img := { s.img with set_ := s.img.set_ ++ [(51 * 16777216 + 3, 4096), (52 * 16777216 + 3, 2)] } }

/-- The last queue of partition 3 holds one copy of 64 bytes, and its rings are in this state. -/
def queued (st : Nat) (f : List (Fld × Nat × Nat × Nat)) : State :=
  let s := linked [] ([(Reg.HST_RXQ_STATE, 63, 3, st), (Reg.HST_TXQ_STATE, 63, 3, st), (Reg.HST_RXQ_LOG2, 63, 3, 4), (Reg.HST_TXQ_LOG2, 63, 3, 4),
    (Reg.HST_RXQ_SLOT, 63, 3, 8), (Reg.HST_TXQ_PROD, 63, 3, 1)] ++ f)
  { s with
    chan := [(spillKey (hostSpill 255), { head := [{ w := 0, end_ := true }] })]
    slu := { s.slu with hostCopies := [(hostSpill 255, [{ d := { len := 64 }, len := 64, q := 512 + 255 }])] } }

/-- Partition 3 stands behind port 31. -/
def overPort : State :=
  let s := queued 1 []
  { s with
    img := { s.img with bind := [(3, 47)] }
    fth := { s.fth with baseMac := 0x020000000000 }
    cis := { s.cis with pools := [(0, { quota := [(0, 4), (3, 4)] })] } }

/-- A message of the last queue of partition 3's host. -/
def eoeBytes (s : State) : List Byte := List.replicate 6 0 ++ beBytes 6 (s.hostMac 3) ++ [0x88, 0xB5, 1, 3, 63, 2] ++ List.replicate 40 0

/-- Partition 2, marked Touch, has a descriptor of its queue 0 as well. -/
def touched : State :=
  let s := queued 1 [(Reg.HST_TXQ_STATE, 0, 2, 1), (Reg.HST_TXQ_LOG2, 0, 2, 4), (Reg.HST_TXQ_PROD, 0, 2, 1)]
  { s with img := { s.img with set_ := s.img.set_ ++ [(66 * 16777216 + 0x52, 1)] } }

/-- Partition 3 transmits from pool 1, whose cache is empty while a spill carries a handle. -/
def txWaits : State :=
  let s := queued 1 []
  { s with
    img := { s.img with set_ := (12 * 16777216 + 3, 1) :: s.img.set_ }
    cis := { s.cis with pools := [(1, { spill := [7], spilling := true, quota := [(3, 1)] })] } }

/-- A frame of the management interface with its check code. -/
def spi (l : List Byte) : List Byte := l ++ [BitVec.ofNat 8 (crc8 l)]

/-- Tokens are taken where the signature verifies: a token of action 3 raises counter 1, one of action 0 waits for the press. -/
theorem witness_TokensAreTaken (t n : List Byte) (hf : tokenForm t = true) (ha : leNat ((t.drop 4).take 1) = 3)
    (s : State) (hs : s = { run with fth := { run.fth with lc := 2, nonce := some (n, 5), counter1 := 0 } })
    (hd : s.tokenDenied t n = false) (hc : 0 < leNat ((t.drop 0x3C).take 4)) : s.tokenStatus t = some stOk := by
  unfold State.tokenStatus
  rw [show s.fth.press = none by rw [hs]; rfl, show s.fth.lc = 2 by rw [hs], show s.fth.nonce = some (n, 5) by rw [hs], hf]
  dsimp only
  rw [show s.wall = 0 by rw [hs]; rfl, hd, ha, show s.fth.counter1 = 0 by rw [hs]]
  simp [hc]

/-- The image stands at this stage, the part is in MANUFACTURE, all engines are permitted and these fields are set. -/
def tested (f : List (Fld × Nat × Nat × Nat)) (stage : Nat) : State :=
  { up [] ((Reg.BSN_STATUS_PERM, 0, 0, 15) :: f) with boot := { run.boot with stage := stage }, fth := { run.fth with lc := 1 } }

/-- Thread 9 with eight return addresses, and with the trap set. -/
def deep (trap : Nat) (r : List Nat) : State := { run with
  thr := [(9, { state := 0, rstack := r })], img := { run.img with thrTab := [(36, trap)], set_ := SMap.set run.img.set_ (41 * 16777216) 32768 } }

/-- The command answers a next state with this property. -/
def after (c : Instr) (s : State) (f : State → Bool) : Bool :=
  match exec c s with
  | .next t => f t
  | _ => false

/-- The step answers a next state with this property. -/
def stepped (s : State) (f : State → Bool) : Bool :=
  match step s with
  | .next t => f t
  | _ => false

/-- Class 1 of port 5 with the shaper of the example of Table 14.3. -/
def shaped (credit : Int) : State :=
  let s := up [] [(Reg.SLU_CLASS_TB_EN, 41, 0, 1), (Reg.SLU_CLASS_TB_RATE, 41, 0, 500000), (Reg.SLU_CLASS_TB_BURST, 41, 0, 3000),
    (Reg.SLU_PORT_OVERHEAD, 5, 0, 20)]
  { s with mem := { s.mem with staging := [(0, List.replicate 1514 0)] } }.setCredit (32 + 41) credit

/-- Threads of both kinds take every ALU trigger. -/
theorem witness_AluTriggersStartTheirOperation :
    (∀ p ∈ ([0x90, 0x91, 0x92, 0x93, 0x94, 0x95, 0x96, 0x97, 0x98, 0x99, 0x9a, 0x9b, 0x9c, 0x9d, 0x9e, 0xd0,
      0xd1, 0xd2, 0xd3, 0xd4, 0xd5, 0xd6, 0xd7, 0xd8, 0xd9, 0xda, 0xdb, 0xdc, 0xdd, 0xde] : List Nat),
      MayTrigger run 8 p) ∧
    (∀ p ∈ ([0x90, 0x91, 0x92, 0x93, 0x94, 0x95, 0x96, 0x97, 0x98, 0x99, 0x9a, 0x9b, 0x9c, 0x9d, 0x9e] : List
      Nat), MayTrigger run 1536 p) :=
  ⟨fun p h => mayTrigger_of ((by decide : ∀ p ∈ ([0x90, 0x91, 0x92, 0x93, 0x94, 0x95, 0x96, 0x97, 0x98, 0x99,
      0x9a, 0x9b, 0x9c, 0x9d, 0x9e, 0xd0, 0xd1, 0xd2, 0xd3, 0xd4, 0xd5, 0xd6, 0xd7, 0xd8, 0xd9, 0xda, 0xdb,
      0xdc, 0xdd, 0xde] : List Nat), mayTriggerB run 8 p = true) p h),
    fun p h => mayTrigger_of ((by decide : ∀ p ∈ ([0x90, 0x91, 0x92, 0x93, 0x94, 0x95, 0x96, 0x97, 0x98, 0x99,
      0x9a, 0x9b, 0x9c, 0x9d, 0x9e] : List Nat), mayTriggerB run 1536 p = true) p h)⟩

/-- Field operands at both ends of their range. -/
theorem witness_BitUnitTriggersStartTheirOperation :
    (∀ p ∈ ([0x110, 0x111, 0x112, 0x113, 0x114, 0x115, 0x116, 0x117, 0x118, 0x119, 0x11a] : List Nat),
      MayTrigger run 9 p) ∧
    ((fieldOk 0x2000 = true) ∧ (fieldOk 0x11F = true) ∧ (fieldOk 0x100 = true)) :=
  ⟨fun p h => mayTrigger_of ((by decide : ∀ p ∈ ([0x110, 0x111, 0x112, 0x113, 0x114, 0x115, 0x116, 0x117,
      0x118, 0x119, 0x11a] : List Nat), mayTriggerB run 9 p = true) p h),
    by decide⟩

/-- No predicate, and the first and the last. -/
theorem witness_CompareTriggersStartTheirOperation :
    (∀ p ∈ ([0x170, 0x171, 0x172, 0x173, 0x174, 0x175, 0x176, 0x177, 0x178, 0x179, 0x17a] : List Nat),
      MayTrigger run 8 p) ∧
    (∀ p ∈ ([0x170, 0x171, 0x172, 0x173, 0x174, 0x175, 0x176, 0x177, 0x178, 0x179, 0x17a] : List Nat),
      MayTrigger (with8 fun th => th.setPort 0x161 1) 8 p) ∧
    (((((with8 fun th => th.setPort 0x161 1).settleFast 8).thread 8).port 0x161).toNat % 8 = 1) ∧
    (∀ p ∈ ([0x170, 0x171, 0x172, 0x173, 0x174, 0x175, 0x176, 0x177, 0x178, 0x179, 0x17a] : List Nat),
      MayTrigger (with8 fun th => th.setPort 0x161 4) 8 p) ∧
    (((((with8 fun th => th.setPort 0x161 4).settleFast 8).thread 8).port 0x161).toNat % 8 = 4) :=
  ⟨fun p h => mayTrigger_of ((by decide : ∀ p ∈ ([0x170, 0x171, 0x172, 0x173, 0x174, 0x175, 0x176, 0x177,
      0x178, 0x179, 0x17a] : List Nat), mayTriggerB run 8 p = true) p h),
    fun p h => mayTrigger_of ((by decide : ∀ p ∈ ([0x170, 0x171, 0x172, 0x173, 0x174, 0x175, 0x176, 0x177,
      0x178, 0x179, 0x17a] : List Nat), mayTriggerB (with8 fun th => th.setPort 0x161 1) 8 p = true) p h),
    by decide,
    fun p h => mayTrigger_of ((by decide : ∀ p ∈ ([0x170, 0x171, 0x172, 0x173, 0x174, 0x175, 0x176, 0x177,
      0x178, 0x179, 0x17a] : List Nat), mayTriggerB (with8 fun th => th.setPort 0x161 4) 8 p = true) p h),
    by decide⟩

/-- All four triggers are taken; the operand is at will. -/
theorem witness_MultiplierTriggersStartTheirOperation :
    (∀ p ∈ ([0x150, 0x151, 0x152, 0x153] : List Nat), MayTrigger run 8 p) ∧
    ((1 : W32) ≠ 0) :=
  ⟨fun p h => mayTrigger_of ((by decide : ∀ p ∈ ([0x150, 0x151, 0x152, 0x153] : List Nat), mayTriggerB run 8
      p = true) p h),
    by decide⟩

/-- The last place of each width in scratch, in shared SRAM and in a segment. -/
theorem witness_LoadsReadTheirBytes :
    (∀ p ∈ ([0x190, 0x191, 0x192, 0x193, 0x194, 0x195] : List Nat), MayTrigger run 9 p) ∧
    (((run.settleFast 9).placeOf 9 0xFFF false = (.scratch 0x9FFF, run)) ∧ (((run.settleFast 9).placeOf 9
      0xFF8 false).1 = .scratch 0x9FF8) ∧ (spoiled run.mem.scratchBad 0x9FF8 8 = false) ∧ (spoiled
      run.mem.sharedBad 0xFF8 8 = false)) ∧
    ((run.l1Bad (l1Of 9) { addr := 0x1FFFFFF8, size := 8 } = false) ∧ (((run.settleFast 9).placeOf 9 0x100FF8
      false).1 = .shared 0xFF8) ∧ (((run.settleFast 9).placeOf 9 0x9FFFFFF8 false).1 = .ipd 0x1FFFFFF8) ∧ (0xFF8
      % 8 = 0)) :=
  ⟨fun p h => mayTrigger_of ((by decide : ∀ p ∈ ([0x190, 0x191, 0x192, 0x193, 0x194, 0x195] : List Nat),
      mayTriggerB run 9 p = true) p h),
    by decide,
    by decide⟩

/-- As for the loads. -/
theorem witness_StoresWriteTheirBytes :
    (∀ p ∈ ([0x198, 0x199, 0x19a, 0x19b] : List Nat), MayTrigger run 9 p) ∧
    ((((run.settleFast 9).placeOf 9 0xFF8 true).1 = .scratch 0x9FF8) ∧ (((run.settleFast 9).placeOf 9 0x100FF8
      true).1 = .shared 0xFF8) ∧ (((run.settleFast 9).placeOf 9 0x9FFFFFF8 true).1 = .ipd 0x1FFFFFF8) ∧ (spoiled
      run.mem.scratchBad 0x9FF8 4 = false)) ∧
    ((spoiled run.mem.sharedBad 0xFF8 4 = false) ∧ (run.l1Bad (l1Of 9)
      { store := true, addr := 0x1FFFFFF8, size := 8, data := 0, mask := 2 } = false)) :=
  ⟨fun p h => mayTrigger_of ((by decide : ∀ p ∈ ([0x198, 0x199, 0x19a, 0x19b] : List Nat), mayTriggerB run 9
      p = true) p h),
    by decide,
    by decide⟩

/-- A line of the IPD that is nowhere, and an address outside the window. -/
theorem witness_LineOperationsAndFence :
    (∀ p ∈ ([0x1a0, 0x1a8, 0x1a9, 0x1aa, 0x1af] : List Nat), MayTrigger run 9 p) ∧
    MayTrigger run 1536 0x1af ∧
    ((((run.settleFast 9).placeOf 9 0x80000000 false).1 = .ipd 0) ∧ (run.offlineAt 0 = false) ∧ ((run.cache
      (l1Of 9)).whereIs (l1Of 9) 0 = 0) ∧ (((run.cache (l1Of 9)).misses.any fun m => m.addr == lineOf 0) =
      false)) ∧
    ((inWindow 9 0xFFF = false) ∧ (inWindow 9 0x80000000 = true) ∧ (((run.settleFast 9).placeOf 9 0xFFF
      false).1 = .scratch 0x9FFF)) :=
  ⟨fun p h => mayTrigger_of ((by decide : ∀ p ∈ ([0x1a0, 0x1a8, 0x1a9, 0x1aa, 0x1af] : List Nat), mayTriggerB
      run 9 p = true) p h),
    mayTrigger_of (by decide),
    by decide,
    by decide⟩

/-- The last word of an atomic page, and a word of the IPD. -/
theorem witness_AtomicsReplaceTheWordAndAnswerTheOldOne :
    (∀ p ∈ ([0x390, 0x391, 0x392, 0x393, 0x394, 0x395, 0x396, 0x397, 0x398, 0x399, 0x39a, 0x39b, 0x39c, 0x39d,
      0x39e, 0x39f] : List Nat), MayTrigger run 9 p) ∧
    ((((run.settleFast 9).atomicPlace 9 0x101FF8).1 = .shared 0x1FF8) ∧ (((run.settleFast 9).atomicPlace 9
      0x80000000).1 = .ipd 0) ∧ (run.ipdLost 0 8 = false) ∧ (spoiled run.mem.sharedBad 0x1FF8 8 = false)) :=
  ⟨fun p h => mayTrigger_of ((by decide : ∀ p ∈ ([0x390, 0x391, 0x392, 0x393, 0x394, 0x395, 0x396, 0x397,
      0x398, 0x399, 0x39a, 0x39b, 0x39c, 0x39d, 0x39e, 0x39f] : List Nat), mayTriggerB run 9 p = true) p h),
    by decide⟩

/-- The last bytes of the packet; the longest insertion and deletion. -/
theorem witness_PacketWindowTriggersOnAHeldDroplet :
    (∀ p ∈ ([0x210, 0x211, 0x212, 0x214, 0x215, 0x216, 0x218, 0x219, 0x21a] : List Nat), MayTrigger holds 8 p) ∧
    ((((holds.settleFast 8).heldBy 8 ((holds.settleFast 8).opnd 8 0x200)).1 = stOk) ∧ (holds.pktLen
      { len := 64 } = 64) ∧ ((holds.pktBytes { len := 64 } 63 1).isSome = true) ∧ ((holds.pktBytes { len := 64 }
      62 2).isSome = true)) ∧
    (((holds.pktBytes { len := 64 } 60 4).isSome = true) ∧ (bits (64 * 65536 + 64) 16 7 = 64 ∧ (64 * 65536 +
      64) % 512 = 64 ∧ (holds.headOf 0).length = 64)) :=
  ⟨fun p h => mayTrigger_of ((by decide : ∀ p ∈ ([0x210, 0x211, 0x212, 0x214, 0x215, 0x216, 0x218, 0x219,
      0x21a] : List Nat), mayTriggerB holds 8 p = true) p h),
    by decide,
    by decide⟩

/-- The words that a program may write, at the ends of their ranges. -/
theorem witness_DropletAccessTriggersOnAHeldDroplet :
    (∀ p ∈ ([0x250, 0x251, 0x252, 0x253, 0x254, 0x255] : List Nat), MayTrigger holds 8 p) ∧
    ((((holds.settleFast 8).heldBy 8 ((holds.settleFast 8).opnd 8 0x240)).1 = stOk) ∧ ((writeWord {} 4
      0xFFFFFFFF).isSome = true) ∧ ((writeWord {} 5 4095).isSome = true) ∧ ((writeWord {} 10 0xFFFFFF).isSome =
      true)) ∧
    (((writeWord {} 14 1).isSome = true) ∧ ((writeWord {} 15 1).isSome = true)) :=
  ⟨fun p h => mayTrigger_of ((by decide : ∀ p ∈ ([0x250, 0x251, 0x252, 0x253, 0x254, 0x255] : List Nat),
      mayTriggerB holds 8 p = true) p h),
    by decide,
    by decide⟩

/-- A layer-2 entry found and not found, an endpoint record in use and free, a live version. -/
theorem witness_TableLookupTriggersAnswerFromTheirTables :
    (∀ p ∈ ([0x290, 0x291, 0x292] : List Nat), MayTrigger run 8 p) ∧
    ((((run.settleFast 8).l2Lookup 0 0).1 = none) ∧
      ((({ run with tbl := { run.tbl with l2 := [(131072, {})] } } : State).l2Lookup 0 0).1 = some {}) ∧
      ((({ run with tbl := { run.tbl with ep := [(65535, { state := 1 })] } } : State).epRec 65535).state ≠ 0) ∧
      ((run.epRec 65535).state = 0)) ∧
    (({ run with rul := { run.rul with vers := [{ number := 65535, state := 1 }] } } : State).slotOfVersion
      65535 = some 0) :=
  ⟨fun p h => mayTrigger_of ((by decide : ∀ p ∈ ([0x290, 0x291, 0x292] : List Nat), mayTriggerB run 8 p =
      true) p h),
    by decide,
    by decide⟩

/-- A flow that the table holds, one that it does not, and the first and last word of each range. -/
theorem witness_FlowTriggersActOnTheFlowTable :
    (∀ p ∈ ([0x2b0, 0x2b1, 0x2b2, 0x2b3, 0x2b4] : List Nat), MayTrigger oneFlow 8 p) ∧
    (∀ p ∈ ([0x2b0, 0x2b1, 0x2b2, 0x2b3, 0x2b4] : List Nat), MayTrigger run 8 p) ∧
    (((run.settleFast 8).flowOperand 8 0xFFC = some (0, [0, 0, 0, 0])) ∧ ((run.settleFast 8).flowKeyBad 8
      0xFFC 0 = false) ∧ (run.scratchFixed 1 (threadScratch 8 0xFFC) 4 = run) ∧ ((bucketsRead run 0 [0, 0, 0,
      0]).flowHidden 0 [0, 0, 0, 0] = false)) ∧
    (((lostFlow.flowSlot 0 [0, 0, 0, 0]).1 ≠ stOk) ∧ (lostFlow.flowHidden 0 [0, 0, 0, 0] = true) ∧
      ((run.flowSlot 0 [0, 0, 0, 0]).1 ≠ stOk) ∧ (((bucketsRead run 0 [0, 0, 0, 0]).flowCreate 0 [0, 0, 0, 0]
      false 1 0 []).1.isSome = true)) ∧
    (((oneFlow.settleFast 8).flowOperand 8 0xFFC = some (0, [0, 0, 0, 0])) ∧ (((oneFlow.settleFast 8).flowSlot
      0 [0, 0, 0, 0]).1 = stOk) ∧ (((oneFlow.settleFast 8).flowHandle ((oneFlow.settleFast 8).flowOpnd 8).1
      ((oneFlow.settleFast 8).flowOpnd 8).2).isSome = true) ∧ ((run.settleFast 8).flowHandle ((run.settleFast
      8).flowOpnd 8).1 ((run.settleFast 8).flowOpnd 8).2 = none)) :=
  ⟨fun p h => mayTrigger_of ((by decide : ∀ p ∈ ([0x2b0, 0x2b1, 0x2b2, 0x2b3, 0x2b4] : List Nat), mayTriggerB
      oneFlow 8 p = true) p h),
    fun p h => mayTrigger_of ((by decide : ∀ p ∈ ([0x2b0, 0x2b1, 0x2b2, 0x2b3, 0x2b4] : List Nat), mayTriggerB
      run 8 p = true) p h),
    by decide,
    by decide,
    by decide⟩

/-- A ring that is full, has one place, is empty, holds a packet; a fourth watch. -/
theorem witness_ChannelTriggersPutGetCountAndWatch :
    (∀ p ∈ ([0x310, 0x311, 0x312, 0x313, 0x314, 0x315] : List Nat), MayTrigger (chanOf 2 [true, true]) 8 p) ∧
    (∀ p ∈ ([0x310, 0x311, 0x312, 0x313, 0x314, 0x315] : List Nat), MayTrigger (chanOf 4 [true, false, false])
      8 p) ∧
    (∀ p ∈ ([0x310, 0x311, 0x312, 0x313, 0x314, 0x315] : List Nat), MayTrigger (chanOf 4 []) 8 p) ∧
    ((chanKey 8 1 = some 1) ∧ (isParty 8 (run.chProd 1) = true) ∧ (isParty 8 (run.chCons 1) = true) ∧
      (((chanOf 2 [true, true]).chOpen 1).length + 1 < (chanOf 2 [true, true]).chCap 1)) ∧
    (((chanOf 2 [true, true]).chCap 1 ≤ (chanOf 2 [true, true]).chFill 1) ∧ (isSpill 1 = false) ∧ (((chanOf 4
      [true, false, false]).chOpen 1).length + 1 < (chanOf 4 [true, false, false]).chCap 1) ∧ ((chanOf 4 [true,
      false, false]).chFill 1 < (chanOf 4 [true, false, false]).chCap 1)) ∧
    (((chanOf 4 []).chReady 1 = false) ∧ ((chanOf 4 [true, false, false]).chReady 1 = true) ∧ (bits (1 + 2 ^
      12) 12 4 ≠ 0) ∧ (((run.thread 8).watches.filter fun w => w.1 != (1 + 2 ^ 12) % 1024).length < 4)) ∧
    ((with8 fun th => th.setPort 0x300 1).opnd 8 0x300 = 1) :=
  ⟨fun p h => mayTrigger_of ((by decide : ∀ p ∈ ([0x310, 0x311, 0x312, 0x313, 0x314, 0x315] : List Nat),
      mayTriggerB (chanOf 2 [true, true]) 8 p = true) p h),
    fun p h => mayTrigger_of ((by decide : ∀ p ∈ ([0x310, 0x311, 0x312, 0x313, 0x314, 0x315] : List Nat),
      mayTriggerB (chanOf 4 [true, false, false]) 8 p = true) p h),
    fun p h => mayTrigger_of ((by decide : ∀ p ∈ ([0x310, 0x311, 0x312, 0x313, 0x314, 0x315] : List Nat),
      mayTriggerB (chanOf 4 []) 8 p = true) p h),
    by decide,
    by decide,
    by decide,
    by decide⟩

/-- A selected flag set and not set, a message, a domain that runs and one that does not. -/
theorem witness_EventAndTimerTriggers :
    (∀ p ∈ ([0x3b0, 0x3b1, 0x3b2, 0x3b3, 0x3d0, 0x3d1, 0x3d2, 0x3d3] : List Nat), MayTrigger run 8 p) ∧
    (∀ p ∈ ([0x3b0, 0x3b1, 0x3b2, 0x3b3, 0x3d0, 0x3d1, 0x3d2, 0x3d3] : List Nat), MayTrigger run 1536 p) ∧
    ((((with8 fun th => { th with events := 1 }).thread 8).events &&& wakeMask 8 1 ≠ 0) ∧ (((run.settleFast
      8).thread 8).events &&& wakeMask 8 1 = 0) ∧ (((with8 fun th => { th with msgs := [1] }).thread 8).msgs =
      [1]) ∧ (((run.settleFast 8).thread 8).msgs = [])) ∧
    ((bitOf ((run.wr Reg.TIM_CFG_DOM_EN 8).rd Reg.TIM_CFG_DOM_EN) 3 = true) ∧ (bitOf ((run.wr
      Reg.TIM_CFG_DOM_EN 8).rd Reg.TIM_CFG_DOM_EN) 2 = false)) :=
  ⟨fun p h => mayTrigger_of ((by decide : ∀ p ∈ ([0x3b0, 0x3b1, 0x3b2, 0x3b3, 0x3d0, 0x3d1, 0x3d2, 0x3d3] :
      List Nat), mayTriggerB run 8 p = true) p h),
    fun p h => mayTrigger_of ((by decide : ∀ p ∈ ([0x3b0, 0x3b1, 0x3b2, 0x3b3, 0x3d0, 0x3d1, 0x3d2, 0x3d3] :
      List Nat), mayTriggerB run 1536 p = true) p h),
    by decide,
    by decide⟩

/-- The last buffer of a pool, with one reference less than the most. -/
theorem witness_CisternTriggersAllocateAndReferToBuffers :
    (∀ p ∈ ([0x3f0, 0x3f1, 0x3f2, 0x3f3, 0x3f4] : List Nat), MayTrigger pooled 8 p) ∧
    (((pooled.settleFast 8).opnd 8 0x3E0 % 256 = 1) ∧ ((pooled.settleFast 8).poolEn 1 = true) ∧
      ((pooled.settleFast 8).mayAlloc (threadBasin 8) 1 = true) ∧ (((pooled.settleFast 8).refTable 8).1.length <
      ((pooled.settleFast 8).refTable 8).2.1)) ∧
    ((((pooled.settleFast 8).allocCore 1 ((pooled.settleFast 8).basinCharge (threadBasin 8)) 8).1 = (stOk,
      some 2)) ∧ (3 < (pooled.settleFast 8).poolCount 1 ∧ (pooled.settleFast 8).poolCount 1 = 4) ∧ (hasLive
      ((pooled.settleFast 8).refTable 8).1 1 3 ((pooled.settleFast 8).refTable 8).2.2 = true) ∧
      ((pooled.settleFast 8).covered 8 1 3 = true)) ∧
    (((pooled.settleFast 8).bufLost 1 3 = false) ∧ ((pooled.settleFast 8).refCount 1 3 < 255) ∧ ((addEntry
      ((pooled.settleFast 8).refTable 8).1 16 1 3 0).isSome = true) ∧ ((pooled.settleFast 8).refCount 1 3 ≠ 0)) ∧
    MayTrigger (spills [] [7] 1) 8 0x3f0 ∧
    MayTrigger (spills (List.replicate 32 9) [7] 1) 8 0x3f1 ∧
    (((let u := (spills [] [7] 1).settleFast 8; (u.allocCore 1 (u.basinCharge (threadBasin 8)) 8).1 = (stOk,
      none))) ∧ ((let u := (spills (List.replicate 32 9) [7] 1).settleFast 8; hasLive (u.refTable 8).1 1 3
      (u.refTable 8).2.2 = true ∧ u.refCount 1 3 ≠ 0 ∧ (((u.setRefTable 8 (dropEntry (u.refTable 8).1 1 3
      (u.refTable 8).2.2)).dropCount 1 3).pool 1).held.contains 3 = true))) :=
  ⟨fun p h => mayTrigger_of ((by decide : ∀ p ∈ ([0x3f0, 0x3f1, 0x3f2, 0x3f3, 0x3f4] : List Nat), mayTriggerB
      pooled 8 p = true) p h),
    by decide,
    by decide,
    by decide,
    mayTrigger_of (by decide),
    mayTrigger_of (by decide),
    by decide⟩

/-- A mutex that is free and one that is held; a wait to cancel and none. -/
theorem witness_LockTriggersAnswerForTheirLock :
    (∀ p ∈ ([0x350, 0x351, 0x352, 0x353, 0x354] : List Nat), MayTrigger locked 8 p) ∧
    (∀ p ∈ ([0x350, 0x351, 0x352, 0x353, 0x354] : List Nat), MayTrigger run 8 p) ∧
    ((((locked.settleFast 8).acquire 63 ((locked.settleFast 8).reqThread 8) 1 ((locked.settleFast 8).waitPrio
      8) false none).1 = none) ∧ (((run.settleFast 8).acquire 63 ((run.settleFast 8).reqThread 8) 1
      ((run.settleFast 8).waitPrio 8) false none).1 = some stOk) ∧ (((locked.settleFast 8).acquire 63
      ((locked.settleFast 8).reqThread 8) 1 ((locked.settleFast 8).waitPrio 8) true none).1 = some stBusy) ∧
      (((run.settleFast 8).acquire 64 ((run.settleFast 8).reqThread 8) 0 9 false none).1 = some stOk)) ∧
    (((locked.settleFast 8).queuedOn ((locked.settleFast 8).reqThread 8) = some 62) ∧ ((run.settleFast
      8).queuedOn ((run.settleFast 8).reqThread 8) = none) ∧ ((run.settleFast 8).lockRight 63 ((run.settleFast
      8).reqThread 8) = true)) :=
  ⟨fun p h => mayTrigger_of ((by decide : ∀ p ∈ ([0x350, 0x351, 0x352, 0x353, 0x354] : List Nat), mayTriggerB
      locked 8 p = true) p h),
    fun p h => mayTrigger_of ((by decide : ∀ p ∈ ([0x350, 0x351, 0x352, 0x353, 0x354] : List Nat), mayTriggerB
      run 8 p = true) p h),
    by decide,
    by decide⟩

/-- A handed droplet and none; a completion, a recirculation of the third pass, an origination of 256 bytes. -/
theorem witness_CompletionAndOriginationTriggers :
    (∀ p ∈ ([0x430, 0x431, 0x432, 0x433, 0x450, 0x451] : List Nat), MayTrigger holds 8 p) ∧
    MayTrigger (originates 256 0) 8 0x450 ∧
    MayTrigger (originates 512 16777219) 8 0x450 ∧
    (((firstHanded (run.settleFast 8) ((run.settleFast 8).holderOf 8)) = none) ∧ ((firstHanded
      (holds.settleFast 8) ((holds.settleFast 8).holderOf 8)).isSome = true) ∧ (((holds.settleFast
      8).completionOf 8 0).1 = stOk) ∧ ((holds.settleFast 8).egressOk 0x40FF = true)) ∧
    ((((holds.settleFast 8).completionOf 8 0).2.2.d.pass < 3) ∧
      ((({ holds with img := { holds.img with chans := [((12800 + 256) * 16, 8)] } } : State).chFill (spillKey
      256)) < ({ holds with img := { holds.img with chans := [((12800 + 256) * 16, 8)] } } : State).chCap
      (spillKey 256)) ∧ ((holds.settleFast 8).heldCount ((holds.settleFast 8).holderOf 8) < 4) ∧
      ((holds.settleFast 8).mayOriginate (threadBasin 8) 0 = true)) ∧
    (((holds.settleFast 8).refuses 0 ((holds.settleFast 8).classOfDomain 0) = none) ∧
      ((({ pooled with cis := { pooled.cis with pools := [(0, { cache := [5], quota := [(0, 1)] })] } } :
      State).allocHead 0).1 = (stOk, 5)) ∧ ((let u := (originates 1 0).settleFast 8; u.opnd 8 0x440 % 2 ^ 14 = 1
      ∧ u.opnd 8 0x441 = 0 ∧ u.heldCount (u.holderOf 8) < 4 ∧ u.mayOriginate (threadBasin 8) 0 = true ∧
      (u.allocHead (u.basinCharge (threadBasin 8))).1 = (stOk, 5) ∧ u.refuses 0 (u.classOfDomain 0) = none)) ∧
      ((let u := (originates 256 0).settleFast 8; u.opnd 8 0x440 % 2 ^ 14 = 256 ∧ u.opnd 8 0x441 = 0 ∧
      u.heldCount (u.holderOf 8) < 4 ∧ u.mayOriginate (threadBasin 8) 0 = true ∧ (u.allocHead (u.basinCharge
      (threadBasin 8))).1 = (stOk, 5) ∧ u.refuses 0 (u.classOfDomain 0) = none))) ∧
    (((let u := (originates 257 16777219).settleFast 8; u.opnd 8 0x440 % 2 ^ 14 = 257 ∧ u.opnd 8 0x441 =
      16777219 ∧ hasLive (u.refTable 8).1 1 3 (u.refTable 8).2.2 = true ∧ 257 - 256 ≤ u.poolSize 1 * 256 ∧
      u.heldCount (u.holderOf 8) < 4 ∧ u.mayOriginate (threadBasin 8) 0 = true ∧ (u.allocHead (u.basinCharge
      (threadBasin 8))).1 = (stOk, 5) ∧ u.refuses 0 (u.classOfDomain 0) = none)) ∧
      ((let u := (originates 512 16777219).settleFast 8; u.opnd 8 0x440 % 2 ^ 14 = 512 ∧ u.opnd 8 0x441 =
      16777219 ∧ hasLive (u.refTable 8).1 1 3 (u.refTable 8).2.2 = true ∧ 512 - 256 ≤ u.poolSize 1 * 256 ∧
      u.heldCount (u.holderOf 8) < 4 ∧ u.mayOriginate (threadBasin 8) 0 = true ∧ (u.allocHead (u.basinCharge
      (threadBasin 8))).1 = (stOk, 5) ∧ u.refuses 0 (u.classOfDomain 0) = none)) ∧ (((run.settleFast
      8).queueDepth 0x4000).isSome = true)) :=
  ⟨fun p h => mayTrigger_of ((by decide : ∀ p ∈ ([0x430, 0x431, 0x432, 0x433, 0x450, 0x451] : List Nat),
      mayTriggerB holds 8 p = true) p h),
    mayTrigger_of (by decide),
    mayTrigger_of (by decide),
    by decide,
    by decide,
    by decide,
    by decide⟩

/-- A helper that is free, and both helpers claimed, with an open operation. -/
theorem witness_HelperPortTriggersClaimReleaseAndMoveData :
    (∀ p ∈ ([0x470, 0x4b0] : List Nat), MayTrigger run 8 p) ∧
    (∀ p ∈ ([0x470, 0x471, 0x472, 0x473, 0x475, 0x4b0, 0x4b1, 0x4b2, 0x4b3, 0x4b5] : List Nat), MayTrigger
      helped 8 p) ∧
    (((run.settleFast 8).helper 0 0).orphan = none ∧ ((run.settleFast 8).helper 0 0).claim = none) ∧
    HelperWorks (helped.settleFast 8) 8 0 ∧
    HelperWorks (helped.settleFast 8) 8 1 ∧
    (((helped.heldBy 8 ((helped.settleFast 8).opnd 8 (hlpPort 0 1))).1 = stOk) ∧ ((helped.helper 0 0).open_ =
      some 2) ∧ ((helped.helper 0 1).open_ = some 0x10) ∧ (SMap.find ((working 0).thread 8).ops (uHlp 0) = some
      { arg2 := 1 } ∧ ((working 0).helper 0 0).next = some ([5], none))) ∧
    ((SMap.find ((working 1).thread 8).ops (uHlp 1) = some { arg2 := 1 } ∧ ((working 1).helper 0 1).next =
      some ([5], none)) ∧ ((helped.helper 0 0).live = some 8 ∧ (helped.helper 0 0).live ≠ some 127 ∧
      (helped.saveLive 0 0).slotLost 0 0 127 = false) ∧ ((helped.helper 0 1).live = some 8 ∧ (helped.helper 0
      1).live ≠ some 127 ∧ (helped.saveLive 0 1).slotLost 0 1 127 = false)) :=
  ⟨fun p h => mayTrigger_of ((by decide : ∀ p ∈ ([0x470, 0x4b0] : List Nat), mayTriggerB run 8 p = true) p h),
    fun p h => mayTrigger_of ((by decide : ∀ p ∈ ([0x470, 0x471, 0x472, 0x473, 0x475, 0x4b0, 0x4b1, 0x4b2,
      0x4b3, 0x4b5] : List Nat), mayTriggerB helped 8 p = true) p h),
    by decide,
    works0,
    works1,
    by decide,
    by decide⟩

/-- Each operation of the cipher helper, with the last registers it may name. -/
theorem witness_CipherHelperOperationsSetTheirRegisters :
    MayTrigger helped 8 0x474 ∧
    HelperWorks (helped.settleFast 8) 8 0 ∧
    ((∀ c ∈ [1, 2, 3, 4, 5, 8, 9, 10], opWordOk 0 (rowWord c 13248).toNat = true ∧ contextOk (helpReg 0)
      (rowWord c 13248).toNat = true) ∧ (∀ c ∈ [0x0C, 0x0F], opWordOk 0 (rowWord c 16320).toNat = true ∧
      contextOk (helpReg 0) (rowWord c 0).toNat = true)) :=
  ⟨mayTrigger_of (by decide),
    works0,
    by decide⟩

/-- Each operation of the check helper, with the last selection it may have. -/
theorem witness_CheckHelperOperationsSetTheirRegisters :
    MayTrigger helped 8 0x4b4 ∧
    HelperWorks (helped.settleFast 8) 8 1 ∧
    ((∀ c ∈ [0x10, 0x11, 0x12], opWordOk 1 (rowWord c (6 * 2 ^ 22)).toNat = true) ∧ (∀ c ∈ [0x14, 0x15, 0x16],
      opWordOk 1 (rowWord c 0).toNat = true) ∧ (opWordOk 1 (rowWord 0x18 (8 * 2 ^ 18)).toNat = true) ∧ (∀ c ∈
      [0x10, 0x11, 0x12, 0x14, 0x15, 0x16, 0x18], contextOk (helpReg 1) (rowWord c 0).toNat = true)) :=
  ⟨mayTrigger_of (by decide),
    works1,
    by decide⟩

/-- The last bundle, the whole range of a branch, stack mode and link mode, a nested loop. -/
theorem witness_SequencingTriggersMoveTheProgramCounter :
    (∀ p ∈ ([0x40, 0x41, 0x42, 0x43, 0x44, 0x61, 0x62] : List Nat), MayTrigger looping 9 p) ∧
    (∀ p ∈ ([0x40, 0x41, 0x42, 0x43, 0x44] : List Nat), MayTrigger run 1536 p) ∧
    ((targetFault 9 32767 = 0) ∧ (targetFault 1536 0xFFFFFFF0 = 0) ∧ (0 ≤ (((looping.settleFast 9).thread
      9).pc : Int) + signed 32 0xFFFFFFFB) ∧ ((((looping.settleFast 9).thread 9).pc : Int) + signed 32 32762 ≤
      32767)) ∧
    (((looping.settleFast 9).linkMode 9 = false) ∧ (((looping.settleFast 9).thread 9).rstack = [7]) ∧
      ((run.settleFast 1536).linkMode 1536 = true) ∧ (targetFault 1536 (((run.settleFast 1536).thread 1536).port
      0x049).toNat = 0)) ∧
    (((looping.settleFast 9).heldCount 9 = 0) ∧ ((looping.settleFast 9).loopRefused 9 9 = false) ∧
      ((({ looping with img := { run.img with engTab := [(16, 1)] } } : State).settleFast 9).linkMode 9 = true)
      ∧ (((looping.settleFast 9).thread 9).loops = [{ start := 1, end_ := 9, count := 2 }])) :=
  ⟨fun p h => mayTrigger_of ((by decide : ∀ p ∈ ([0x40, 0x41, 0x42, 0x43, 0x44, 0x61, 0x62] : List Nat),
      mayTriggerB looping 9 p = true) p h),
    fun p h => mayTrigger_of ((by decide : ∀ p ∈ ([0x40, 0x41, 0x42, 0x43, 0x44] : List Nat), mayTriggerB run
      1536 p = true) p h),
    by decide,
    by decide,
    by decide⟩

/-- A target that has faulted, one that is ready, and the first and last open register. -/
theorem witness_SupervisorAndDebugTriggersActOnTheirTarget :
    (∀ p ∈ ([0x4f0, 0x4f1, 0x4f2, 0x4f3, 0x4f4, 0x4f5, 0x4f6, 0x4f7, 0x510, 0x511] : List Nat), MayTrigger
      (watched 3) 8 p) ∧
    (∀ p ∈ ([0x4f5] : List Nat), MayTrigger (watched 0) 8 p) ∧
    ((((watched 3).settleFast 8).svTarget 8 = 9) ∧ (openReg 0 = true ∧ openReg 0x23 = true ∧ openReg 0x49 =
      true) ∧ (((watched 3).settleFast 8).svStopped 9 = true) ∧ ((((watched 3).settleFast 8).thread 9).state = 3
      ∧ (((watched 3).settleFast 8).thread 9).acked = false)) ∧
    (((((watched 0).settleFast 8).thread 9).state ≠ 5) ∧ (((watched 3).settleFast 8).debugOpen 0 = true) ∧
      ((((watched 3).settleFast 8).recording && ((watched 3).settleFast 8).holdsRecorded 8 && bitOf 0 31) =
      false)) ∧
    ((((watched 3).settleFast 8).heldSlots 9)[0]?.isSome = true) :=
  ⟨fun p h => mayTrigger_of ((by decide : ∀ p ∈ ([0x4f0, 0x4f1, 0x4f2, 0x4f3, 0x4f4, 0x4f5, 0x4f6, 0x4f7,
      0x510, 0x511] : List Nat), mayTriggerB (watched 3) 8 p = true) p h),
    fun p h => mayTrigger_of ((by decide : ∀ p ∈ ([0x4f5] : List Nat), mayTriggerB (watched 0) 8 p = true) p
      h),
    by decide,
    by decide,
    by unfold State.heldSlots; rw [show (((watched 3).settleFast 8).weir.slots.filter fun e => e.2.holder ==
      some 9) = [(0, { st := 2, holder := some 9 })] by decide]; simp⟩

/-- Flags set and not set, a free descriptor and one that waits, the shortest frame, both ends of the targets. -/
theorem witness_ControlEngineTriggersActForTheirThread :
    (∀ p ∈ ([0x601, 0x608, 0x609, 0x630, 0x631, 0x632, 0x633, 0x634, 0x635, 0x636, 0x637, 0x668, 0x669, 0x650,
      0x651, 0x652] : List Nat), MayTrigger kernel 1536 p) ∧
    ((((kernel.settleFast 1536).desc ((kernel.settleFast 1536).ce 0).desc).flags &&& (1 % 65536) ≠ 0) ∧
      (((kernel.settleFast 1536).desc ((kernel.settleFast 1536).ce 0).desc).flags &&& (2 % 65536) = 0) ∧ (isDesc
      4095 = true) ∧ (((kernel.settleFast 1536).descWrite ((kernel.settleFast 1536).opnd 1536 0x620 % 4096) 0
      0).isSome = true)) ∧
    ((((kernel.settleFast 1536).desc 4095).state = 0) ∧ (4094 ≠ ((kernel.settleFast 1536).ce 0).desc ∧
      ((kernel.settleFast 1536).desc 4094).state ≠ 2) ∧ (0 = ((kernel.settleFast 1536).ce 0).desc) ∧
      ((kernel.settleFast 1536).thrMsg 9 = true ∧ ((kernel.settleFast 1536).thread 9).msgs.length < 4)) ∧
    ((hasLive (kernel.refTable 1536).1 0 0 (kernel.refTable 1536).2.2 = true) ∧ (60 ≤ (kernel.settleFast
      1536).poolSize 0 * 256 ∧ 60 ≤ (kernel.settleFast 1536).maxFrame 32) ∧ ((kernel.settleFast
      1536).edg.phy.contains 32 = true ∧ (kernel.settleFast 1536).txRoom 32 ≠ 0) ∧ ((kernel.settleFast
      1536).edg.stamps = [5])) :=
  ⟨fun p h => mayTrigger_of ((by decide : ∀ p ∈ ([0x601, 0x608, 0x609, 0x630, 0x631, 0x632, 0x633, 0x634,
      0x635, 0x636, 0x637, 0x668, 0x669, 0x650, 0x651, 0x652] : List Nat), mayTriggerB kernel 1536 p = true) p
      h),
    by decide,
    by decide,
    by decide⟩

/-- The supplies before, at and after their limits; a release; no image. -/
theorem witness_SuppliesPinsAndBootStartAndEndTheReset :
    ((((powered false none).upTo 50000000).boot.coreEn = true) ∧ (((powered false none).upTo
      50000000).boot.railsOk = false) ∧ (((powered false none).upTo 50000000).boot.coreAt + 50000000 ≤ ((powered
      false none).upTo 50000000).wall) ∧ (((powered false (some 7)).upTo 7).boot.retryAt = some 7 ∧ 7 ≤
      ((powered false (some 7)).upTo 7).wall)) ∧
    ((((powered true none).upTo 1).boot.coreEn = true ∧ ((powered true none).upTo 1).boot.railsOk = true) ∧
      (((powered true none).upTo 1).boot.brownout = false ∧ ((powered true none).upTo 1).boot.voltBad.contains
      15 = false) ∧
      (({ (powered true none).upTo 1000000 with boot := { ((powered true none).upTo 1000000).boot with resetLow := false } }
      : State).canRelease = true) ∧ (((powered true none).upTo 1000000).fth.romOk = true ∧ ((powered true
      none).upTo 1000000).fth.lc ≠ 4)) ∧
    (((released.upTo 1).boot.held = false ∧ (released.upTo 1).boot.stage = 1) ∧ (((released.upTo
      1).showKeys.showDeviceId.applyMap.findSlot).1 = none) ∧ (((released.upTo
      1).showKeys.showDeviceId.applyMap.findSlot).2.boot.fullTest = false)) :=
  ⟨by decide,
    by decide,
    by decide⟩

/-- A crossing of each kind, open and closed, with room and full. -/
theorem witness_ClocksAndCrossingsOfTheIslands :
    MayWrite run 0 16 ∧
    (((run.woken 0).isSup 0 = true) ∧ ((crossings 0 0 { open_ := false }).boot.held = false ∧ (crossings 0 0
      { open_ := false }).islandInReset 1 = true ∧ (crossings 0 0 { open_ := false }).islandSelected 1 = true) ∧
      ((crossings 0 0 { open_ := false }).boot.held = false ∧ (crossings 0 0 { open_ := false }).islandInReset
      12 = true ∧ (crossings 0 0 { open_ := false }).islandSelected 12 = true) ∧ ((crossings 0 0
      { open_ := false }).clockOk 0 = true ∧ (crossings 0 0 { open_ := false }).clockOk 10 = true)) ∧
    (((crossings 0 0 { open_ := false }).clockOk 9 = false ∧ (crossings 0 0 { open_ := false }).clockOk 3 =
      false) ∧ (crossingKind 0 15 = some 0 ∧ (crossings 0 15 { open_ := false }).islandInReset 0 = false ∧
      ((crossings 0 15 { open_ := false }).crossing 0 15).open_ = false ∧ ((crossings 0 15
      { open_ := false }).crossing 0 15).pending = 0) ∧ (crossingKind 0 15 = some 0 ∧ (crossings 0 15
      { open_ := true, pending := 65534 }).islandInReset 0 = false ∧ ((crossings 0 15
      { open_ := true, pending := 65534 }).crossing 0 15).open_ = true ∧ ((crossings 0 15
      { open_ := true, pending := 65534 }).crossing 0 15).pending = 65534) ∧ (crossingKind 0 15 = some 0 ∧
      (crossings 0 15 { open_ := true, pending := 65535 }).islandInReset 0 = false ∧ ((crossings 0 15
      { open_ := true, pending := 65535 }).crossing 0 15).open_ = true ∧ ((crossings 0 15
      { open_ := true, pending := 65535 }).crossing 0 15).pending = 65535)) ∧
    ((crossingKind 0 15 = some 0 ∧ (crossings 0 15 { open_ := true }).islandInReset 0 = false ∧ ((crossings 0
      15 { open_ := true }).crossing 0 15).open_ = true ∧ ((crossings 0 15 { open_ := true }).crossing 0
      15).pending = 0) ∧ (crossingKind 10 5 = some 0 ∧ (crossings 10 5 { open_ := false }).islandInReset 10 =
      false ∧ ((crossings 10 5 { open_ := false }).crossing 10 5).open_ = false ∧ ((crossings 10 5
      { open_ := false }).crossing 10 5).pending = 0) ∧ (crossingKind 10 5 = some 0 ∧ (crossings 10 5
      { open_ := true, pending := 65534 }).islandInReset 10 = false ∧ ((crossings 10 5
      { open_ := true, pending := 65534 }).crossing 10 5).open_ = true ∧ ((crossings 10 5
      { open_ := true, pending := 65534 }).crossing 10 5).pending = 65534) ∧ (crossingKind 10 5 = some 0 ∧
      (crossings 10 5 { open_ := true, pending := 65535 }).islandInReset 10 = false ∧ ((crossings 10 5
      { open_ := true, pending := 65535 }).crossing 10 5).open_ = true ∧ ((crossings 10 5
      { open_ := true, pending := 65535 }).crossing 10 5).pending = 65535)) ∧
    ((crossingKind 10 5 = some 0 ∧ (crossings 10 5 { open_ := true }).islandInReset 10 = false ∧ ((crossings
      10 5 { open_ := true }).crossing 10 5).open_ = true ∧ ((crossings 10 5 { open_ := true }).crossing 10
      5).pending = 0) ∧ (crossingKind 0 23 = some 1 ∧ (crossings 0 23 { open_ := true }).islandInReset 0 = false
      ∧ ((crossings 0 23 { open_ := true }).crossing 0 23).open_ = true) ∧ (crossingKind 11 1 = some 1 ∧
      (crossings 11 1 { open_ := true }).islandInReset 11 = false ∧ ((crossings 11 1 { open_ := true }).crossing
      11 1).open_ = true)) :=
  ⟨mayWrite_of (by decide),
    by decide,
    by decide,
    by decide,
    by decide⟩

/-- The first and the last port and segment, under the bridge and under the image; a lane in each state. -/
theorem witness_PortsLanesAndSlicesComeUpAndGoDown :
    (((bridge.upTo 5).boot.held = false ∧ (bridge.upTo 5).edg.phy.contains 0 = false ∧ (bridge.upTo
      5).islandInReset 0 = false ∧ (bridge.upTo 5).bridgeSpeeds 0 = [50000, 25000, 10000]) ∧
      ((let y := comesUp bridge 0; y.bridgeRuns = true)) ∧ ((bridge.upTo 5).boot.held = false ∧ (bridge.upTo
      5).edg.phy.contains 31 = false ∧ (bridge.upTo 5).islandInReset 3 = false ∧ (bridge.upTo 5).bridgeSpeeds 31
      = [50000, 25000, 10000]) ∧ ((let y := comesUp bridge 31; y.bridgeRuns = true))) ∧
    ((((up [] [(Reg.EDG_PORT_MODE, 31, 0, 1)]).upTo 5).edg.phy.contains 31 = false ∧ ((up []
      [(Reg.EDG_PORT_MODE, 31, 0, 1)]).upTo 5).islandInReset 3 = false) ∧
      ((let y := comesUp (up [] [(Reg.EDG_PORT_MODE, 31, 0, 1)]) 31; y.bridgeRuns = false ∧ y.imageRuns = true ∧
      y.portExists 31 = true ∧ (y.startVerify 31).isPlug 31 = false)) ∧ ((run.upTo 5).edg.phy.contains 47 =
      false ∧ (bridge.upTo 5).edg.phy.contains 47 = false) ∧ (((up [47] []).upTo 5).edg.phy.contains 47 = true)) ∧
    (((({ bridge with edg := { bridge.edg with phy := [31] } } : State).upTo 5).edg.phy.contains 31 = true) ∧
      (((((({ bridge with edg := { bridge.edg with phy := [31] } } : State).upTo 5).setPhy 31 false).setLanes 31
      0).setFld Reg.EDG_PORT_CAUSE 31 0 5).bridgeRuns = true) ∧ (((up [31] []).upTo 5).edg.phy.contains 31 =
      true) ∧ ((((((up [31] []).upTo 5).setPhy 31 false).setLanes 31 0).setFld Reg.EDG_PORT_CAUSE 31 0
      5).bridgeRuns = false ∧ (((((up [31] []).upTo 5).setPhy 31 false).setLanes 31 0).setFld Reg.EDG_PORT_CAUSE
      31 0 5).imageRuns = true)) ∧
    ((bridge.bridgeRuns = true ∧ bridge.isBridgePort 31 = true ∧ bridge.edg.phy.contains 31 = false) ∧ ((up []
      [(Reg.EDG_PORT_VERIFY, 31, 0, 1)]).fld Reg.EDG_PORT_VERIFY 31 0 = 1) ∧ (run.imageRuns = true ∧
      ((run.macsec 31).exhausted && run.edg.phy.contains 31) = false) ∧ (usedUp.imageRuns = true ∧
      ((usedUp.macsec 31).exhausted && renewed.edg.phy.contains 31) = true ∧ (renewed.isPlug 31 &&
      (renewed.unplugOf 31).isSome) = false)) ∧
    (((up [] [(Reg.EDG_LANE_STATE, 31, 0, 1), (Reg.EDG_LANE_USE, 31, 0, 1)]).boot.held = false ∧ (up []
      [(Reg.EDG_LANE_STATE, 31, 0, 1), (Reg.EDG_LANE_USE, 31, 0, 1)]).fld Reg.EDG_LANE_USE 31 0 ≠ 0 ∧ (up []
      [(Reg.EDG_LANE_STATE, 31, 0, 1), (Reg.EDG_LANE_USE, 31, 0, 1)]).fld Reg.EDG_LANE_STATE 31 0 = 1) ∧ ((up []
      [(Reg.EDG_LANE_STATE, 31, 0, 4), (Reg.EDG_LANE_USE, 31, 0, 1)]).fld Reg.EDG_LANE_STATE 31 0 = 4) ∧ ((up []
      [(Reg.EDG_LANE_STATE, 31, 0, 3), (Reg.EDG_LANE_USE, 31, 0, 1), (Reg.EDG_PORT_MODE, 31, 0, 1)]).portOfLane
      31 = some 31) ∧ ((up [] [(Reg.EDG_LANE_STATE, 31, 0, 3), (Reg.EDG_LANE_USE, 31, 0, 1)]).fld
      Reg.EDG_LANE_STATE 31 0 = 3 ∧ (up [] [(Reg.EDG_LANE_STATE, 31, 0, 3), (Reg.EDG_LANE_USE, 31, 0,
      1)]).portOfLane 31 = none ∧ (up [] [(Reg.EDG_LANE_STATE, 31, 0, 3), (Reg.EDG_LANE_USE, 31, 0, 1)]).on
      Reg.EDG_LANE_CMD_PENDING 0 0 = false)) ∧
    ((spared (up [] [(Reg.EDG_LANE_STATE, 31, 0, 3), (Reg.EDG_LANE_USE, 31, 0, 1)])).on
      Reg.EDG_LANE_CMD_PENDING 0 0 = false) ∧
    MayWrite (up [] [(Reg.EDG_LANE_STATE, 31, 0, 2), (Reg.EDG_LANE_USE, 31, 0, 1)]) 0 10 ∧
    (((up [] [(Reg.EDG_LANE_STATE, 31, 0, 2), (Reg.EDG_LANE_USE, 31, 0, 1)]).woken 0).isSup 0 = true ∧ (((up
      [] [(Reg.EDG_LANE_STATE, 31, 0, 2), (Reg.EDG_LANE_USE, 31, 0, 1)]).woken 0).wr Reg.EDG_LANE_CMD_LANE
      31).on Reg.EDG_LANE_CMD_PENDING 0 0 = false ∧ (((up [] [(Reg.EDG_LANE_STATE, 31, 0, 2), (Reg.EDG_LANE_USE,
      31, 0, 1)]).woken 0).wr Reg.EDG_LANE_CMD_LANE 31).fld Reg.EDG_LANE_USE 31 0 ≠ 0) :=
  ⟨by decide,
    by decide,
    by decide,
    by decide,
    by decide,
    by decide,
    mayWrite_of (by decide),
    by decide⟩

/-- A good frame and one with a wrong check sequence, on the first and last port and segment; a CAN channel in each
state; an input that changes; a source that unplugs. -/
theorem witness_FramesSegmentsChannelsAndInputsOfTheEdge :
    ((((up [0, 31, 32, 47] []).upTo 5).boot.held = false ∧ ((up [0, 31, 32, 47] []).upTo 5).edg.phy.contains
      31 = true ∧ ((up [0, 31, 32, 47] []).upTo 5).isEoe 31 frame64 = false ∧ ((up [0, 31, 32, 47] []).upTo
      5).checkFrame 31 frame64.length true false = none ∧ ((up [0, 31, 32, 47] []).upTo 5).isVerifyResponse 31
      frame64 false = false ∧ (((up [0, 31, 32, 47] []).upTo 5).checkFrame 31 frame64.length false false).isSome
      = true ∧ (((up [0, 31, 32, 47] []).upTo 5).checkFrame 47 frame64.length false false).isSome = true) ∧
      (((upBridge [0, 31, 32, 47] []).upTo 5).boot.held = false ∧ ((upBridge [0, 31, 32, 47] []).upTo
      5).edg.phy.contains 31 = true ∧ ((upBridge [0, 31, 32, 47] []).upTo 5).isEoe 31 frame64 = false ∧
      ((upBridge [0, 31, 32, 47] []).upTo 5).checkFrame 31 frame64.length true false = none ∧ ((upBridge [0, 31,
      32, 47] []).upTo 5).isVerifyResponse 31 frame64 false = false ∧ (((upBridge [0, 31, 32, 47] []).upTo
      5).checkFrame 31 frame64.length false false).isSome = true ∧ (((upBridge [0, 31, 32, 47] []).upTo
      5).checkFrame 47 frame64.length false false).isSome = true) ∧ (((up [0, 31, 32, 47] []).upTo 5).bridgeRuns
      = false ∧ ((upBridge [0, 31, 32, 47] []).upTo 5).bridgeRuns = true) ∧ ((((up [0, 31, 32, 47] []).upTo
      5).macsecIn 31 0 0 frame64).1 = false ∧ (((up [0, 31, 32, 47] []).upTo 5).macsecIn 31 0 0 frame64).2.1 =
      false)) ∧
    (((let u := ((up [31] [(Reg.EDG_PORT_MACSEC, 31, 0, 2)]).upTo 5); u.bridgeRuns = false ∧ u.checkFrame 31
      frame64.length true false = none ∧ u.isEoe 31 frame64 = false ∧ u.fld Reg.EDG_PORT_MACSEC 31 0 ≠ 0 ∧
      (u.macsec 31).rxNext - u.replayWindow 31 ≤ 0 ∧ (u.macsecIn 31 1 0 frame64).1 = false ∧ (u.macsecIn 31 0 0
      frame64).1 = true)) ∧
      ((let u := (({ up [31] [(Reg.EDG_PORT_MACSEC, 31, 0, 1)] with edg := { (up [31] []).edg with macsec := [(31, { rxNext := 9 })] } } : State).upTo 5);
      u.fld Reg.EDG_PORT_MACSEC 31 0 ≠ 0 ∧ 8 < (u.macsec 31).rxNext - u.replayWindow 31)) ∧
      ((let u := (hostOver.upTo 5); u.boot.held = false ∧ u.edg.phy.contains 31 = true ∧ (u.running && u.isEoe
      31 (frameOfHost u)) = true ∧ u.checkFrame 31 (frameOfHost u).length true false = none ∧ (u.macsecIn 31 0 0
      (frameOfHost u)).1 = false)) ∧ ((let u := ((hostOver.setFld Reg.EDG_PORT_MACSEC 31 0 2).upTo 5);
      u.boot.held = false ∧ u.edg.phy.contains 31 = true ∧ (u.running && u.isEoe 31 (frameOfHost u)) = true ∧
      u.checkFrame 31 (frameOfHost u).length true false = none ∧ (u.macsecIn 31 0 0 (frameOfHost u)).1 = true))) ∧
    ((((up [0, 31, 32, 47] []).upTo 5).edg.phy.contains 47 = true ∧ ((up [0, 31, 32, 47] []).upTo
      5).checkFrame 47 frame64.length true false = none ∧ (((up [0, 31, 32, 47] []).upTo 5).on
      Reg.EDG_T1S_PLCA_EN 15 0 && !((up [0, 31, 32, 47] []).upTo 5).on Reg.EDG_T1S_ROLE 15 0) = false) ∧
      (((upBridge [0, 31, 32, 47] []).upTo 5).edg.phy.contains 47 = true ∧ ((upBridge [0, 31, 32, 47] []).upTo
      5).checkFrame 47 frame64.length true false = none ∧ (((upBridge [0, 31, 32, 47] []).upTo 5).on
      Reg.EDG_T1S_PLCA_EN 15 0 && !((upBridge [0, 31, 32, 47] []).upTo 5).on Reg.EDG_T1S_ROLE 15 0) = false) ∧
      ((up [] [(Reg.EDG_T1S_ROLE, 15, 0, 1)]).on Reg.EDG_T1S_ROLE 15 0 = true) ∧ (bitOf (((up []
      [(Reg.EDG_T1S_SEEN, 15, 0, 2 ^ 31)]).upTo (10 ^ 18)).fld Reg.EDG_T1S_SEEN 15 0) 31 = true ∧ SMap.get ((up
      [] [(Reg.EDG_T1S_SEEN, 15, 0, 2 ^ 31)]).upTo (10 ^ 18)).edg.nodeAt (15 * 32 + 31) 0 + ((up []
      [(Reg.EDG_T1S_SEEN, 15, 0, 2 ^ 31)]).upTo (10 ^ 18)).nodeQuiet 15 ≤ ((up [] [(Reg.EDG_T1S_SEEN, 15, 0, 2 ^
      31)]).upTo (10 ^ 18)).now)) ∧
    ((((up [] [(Reg.EDG_CAN_STATE, 15, 0, 1), (Reg.EDG_CAN_AUTO_RECOVER, 15, 0, 0)]).upTo 5).boot.held = false
      ∧ ((up [] [(Reg.EDG_CAN_STATE, 15, 0, 1), (Reg.EDG_CAN_AUTO_RECOVER, 15, 0, 0)]).upTo 5).running = true ∧
      ((up [] [(Reg.EDG_CAN_STATE, 15, 0, 1), (Reg.EDG_CAN_AUTO_RECOVER, 15, 0, 0)]).upTo 5).fld
      Reg.EDG_CAN_STATE 15 0 < 2 ∧ ((up [] [(Reg.EDG_CAN_STATE, 15, 0, 1), (Reg.EDG_CAN_AUTO_RECOVER, 15, 0,
      0)]).upTo 5).canTakes 15 0 = true ∧ ([1, 2, 3, 4, 5, 6, 7, 8] : List Byte).length ≤ canMax 0 ∧ (canRecord
      15 0 0 0 0 0 [1, 2, 3, 4, 5, 6, 7, 8]).length ≤ ((up [] [(Reg.EDG_CAN_STATE, 15, 0, 1),
      (Reg.EDG_CAN_AUTO_RECOVER, 15, 0, 0)]).upTo 5).maxFrame (48 + 15)) ∧ (((upBridge [] [(Reg.EDG_CAN_STATE,
      15, 0, 1), (Reg.EDG_CAN_AUTO_RECOVER, 15, 0, 0)]).upTo 5).boot.held = false ∧ ((upBridge []
      [(Reg.EDG_CAN_STATE, 15, 0, 1), (Reg.EDG_CAN_AUTO_RECOVER, 15, 0, 0)]).upTo 5).running = true ∧ ((upBridge
      [] [(Reg.EDG_CAN_STATE, 15, 0, 1), (Reg.EDG_CAN_AUTO_RECOVER, 15, 0, 0)]).upTo 5).fld Reg.EDG_CAN_STATE 15
      0 < 2 ∧ ((upBridge [] [(Reg.EDG_CAN_STATE, 15, 0, 1), (Reg.EDG_CAN_AUTO_RECOVER, 15, 0, 0)]).upTo
      5).canTakes 15 0 = true ∧ ([1, 2, 3, 4, 5, 6, 7, 8] : List Byte).length ≤ canMax 0 ∧ (canRecord 15 0 0 0 0
      0 [1, 2, 3, 4, 5, 6, 7, 8]).length ≤ ((upBridge [] [(Reg.EDG_CAN_STATE, 15, 0, 1),
      (Reg.EDG_CAN_AUTO_RECOVER, 15, 0, 0)]).upTo 5).maxFrame (48 + 15)) ∧ (((upBridge [] [(Reg.EDG_CAN_STATE,
      15, 0, 0)]).upTo 5).canTakes 15 2 = false) ∧ ((up [] [(Reg.EDG_CAN_STATE, 15, 0, 1),
      (Reg.EDG_CAN_AUTO_RECOVER, 15, 0, 1)]).on Reg.EDG_CAN_AUTO_RECOVER 15 0 = true)) ∧
    (((up [] [(Reg.EDG_CAN_STATE, 15, 0, 1), (Reg.EDG_CAN_AUTO_RECOVER, 15, 0, 1)]).fld Reg.EDG_CAN_STATE 15 0
      < 2 ∧ (up [] [(Reg.EDG_CAN_STATE, 15, 0, 1), (Reg.EDG_CAN_AUTO_RECOVER, 15, 0, 0)]).on
      Reg.EDG_CAN_AUTO_RECOVER 15 0 = false) ∧ ((up [] [(Reg.EDG_CAN_STATE, 15, 0, 2),
      (Reg.EDG_CAN_AUTO_RECOVER, 15, 0, 1)]).fld Reg.EDG_CAN_STATE 15 0 = 2 ∧ (up [] [(Reg.EDG_CAN_STATE, 15, 0,
      2), (Reg.EDG_CAN_AUTO_RECOVER, 15, 0, 1)]).on Reg.EDG_CAN_AUTO_RECOVER 15 0 = true) ∧ ((up []
      [(Reg.EDG_CAN_STATE, 15, 0, 3), (Reg.EDG_CAN_AUTO_RECOVER, 15, 0, 0)]).fld Reg.EDG_CAN_STATE 15 0 = 3 ∧
      (up [] [(Reg.EDG_CAN_STATE, 15, 0, 3), (Reg.EDG_CAN_AUTO_RECOVER, 15, 0, 0)]).running = true) ∧ ((nextTx
      (48 ≤ 32)
      ((({ up [32] [(Reg.EDG_CAN_STATE, 15, 0, 0)] with edg := { (up [32] []).edg with txq := [(32, [{ bytes := frame64, len := 64 }]), (63, [{ bytes := frame64, len := 64 }])] } }
      : State).upTo 5).txQueue 32)).isSome = true)) ∧
    (((nextTx (48 ≤ 63)
      ((({ up [32] [(Reg.EDG_CAN_STATE, 15, 0, 0)] with edg := { (up [32] []).edg with txq := [(32, [{ bytes := frame64, len := 64 }]), (63, [{ bytes := frame64, len := 64 }])] } }
      : State).upTo 5).txQueue 63)).isSome = true) ∧
      ((({ up [32] [(Reg.EDG_CAN_STATE, 15, 0, 0)] with edg := { (up [32] []).edg with txq := [(32, [{ bytes := frame64, len := 64 }]), (63, [{ bytes := frame64, len := 64 }])] } }
      : State).upTo 5).edg.phy.contains 32 = true ∧
      (({ up [32] [(Reg.EDG_CAN_STATE, 15, 0, 0)] with edg := { (up [32] []).edg with txq := [(32, [{ bytes := frame64, len := 64 }]), (63, [{ bytes := frame64, len := 64 }])] } }
      : State).upTo 5).fld Reg.EDG_CAN_STATE (63 - 48) 0 < 2) ∧ ((run.upTo 5).boot.brownout = false ∧ ((run.upTo
      5).presIn 8).raw ≠ !((run.upTo 5).presIn 8).raw) ∧ (((input8 { since := some 0 } 1).presIn 8).since = some
      0 ∧ 0 + 5000000 ≤ (input8 { since := some 0 } 1).wall ∧ ((input8 { since := some 0 } 1).setPresIn 8
      { (input8 { since := some 0 } 1).presIn 8 with level := true, since := none, count := 1 }).bridgeRuns =
      false)) ∧
    ((((input8 { since := some 0 } 3).presIn 8).since = some 0 ∧ 0 + 5000000 ≤ (input8 { since := some 0 }
      3).wall ∧ ((input8 { since := some 0 } 3).setPresIn 8
      { (input8 { since := some 0 } 3).presIn 8 with level := true, since := none, count := 1 }).bridgeRuns =
      false) ∧ (((input8 { since := some 0 } 2).presIn 8).since = some 0 ∧ 0 + 5000000 ≤ (input8
      { since := some 0 } 2).wall ∧ ((input8 { since := some 0 } 2).setPresIn 8
      { (input8 { since := some 0 } 2).presIn 8 with level := true, since := none, count := 1 }).bridgeRuns =
      true) ∧ ((run.presIn 8).latch.length < 4 ∧ 4 ≤ ({ latch := List.replicate 4 { edge := 1 } } :
      PresIn).latch.length) ∧ (((input8 { latch := [{ edge := 1 }] } 3).presIn 8).latch = [{ edge := 1 }] ∧
      (input8 { latch := [{ edge := 1 }] } 3).takesInputs = true ∧ ((input8 { latch := [{ edge := 1 }] }
      3).touchInput && !(input8 { latch := [{ edge := 1 }] } 3).on Reg.EDG_PRESCFG_TOUCH 8 0) = false)) ∧
    ((((((run.setUnplug 0 (some { stage := 1 })).setFld Reg.EDG_PORT_MODE 31 0 1).upTo (10 ^ 18)).unplugOf
      0).isSome = true ∧ (((((run.setUnplug 0 (some { stage := 1 })).setFld Reg.EDG_PORT_MODE 31 0 1).upTo (10 ^
      18)).unplugOf 0).map fun w => (w.stage == 1 && decide (w.since + (((run.setUnplug 0 (some
      { stage := 1 })).setFld Reg.EDG_PORT_MODE 31 0 1).upTo (10 ^ 18)).linkHold 0 ≤ (((run.setUnplug 0 (some
      { stage := 1 })).setFld Reg.EDG_PORT_MODE 31 0 1).upTo (10 ^ 18)).now))) = some true) ∧ (((((run.setUnplug
      31 (some { stage := 1 })).setFld Reg.EDG_PORT_MODE 31 0 1).upTo (10 ^ 18)).unplugOf 31).isSome = true ∧
      (((((run.setUnplug 31 (some { stage := 1 })).setFld Reg.EDG_PORT_MODE 31 0 1).upTo (10 ^ 18)).unplugOf
      31).map fun w => (w.stage == 1 && decide (w.since + (((run.setUnplug 31 (some { stage := 1 })).setFld
      Reg.EDG_PORT_MODE 31 0 1).upTo (10 ^ 18)).linkHold 31 ≤ (((run.setUnplug 31 (some { stage := 1 })).setFld
      Reg.EDG_PORT_MODE 31 0 1).upTo (10 ^ 18)).now))) = some true) ∧ (((((run.setUnplug 32 (some
      { stage := 1 })).setFld Reg.EDG_PORT_MODE 31 0 1).upTo (10 ^ 18)).unplugOf 32).isSome = true ∧
      (((((run.setUnplug 32 (some { stage := 1 })).setFld Reg.EDG_PORT_MODE 31 0 1).upTo (10 ^ 18)).unplugOf
      32).map fun w => (w.stage == 1 && decide (w.since + (((run.setUnplug 32 (some { stage := 1 })).setFld
      Reg.EDG_PORT_MODE 31 0 1).upTo (10 ^ 18)).linkHold 32 ≤ (((run.setUnplug 32 (some { stage := 1 })).setFld
      Reg.EDG_PORT_MODE 31 0 1).upTo (10 ^ 18)).now))) = some true) ∧ (((((run.setUnplug 72 (some
      { stage := 1 })).setFld Reg.EDG_PORT_MODE 31 0 1).upTo (10 ^ 18)).unplugOf 72).isSome = true ∧
      (((((run.setUnplug 72 (some { stage := 1 })).setFld Reg.EDG_PORT_MODE 31 0 1).upTo (10 ^ 18)).unplugOf
      72).map fun w => (w.stage == 1 && decide (w.since + (((run.setUnplug 72 (some { stage := 1 })).setFld
      Reg.EDG_PORT_MODE 31 0 1).upTo (10 ^ 18)).linkHold 72 ≤ (((run.setUnplug 72 (some { stage := 1 })).setFld
      Reg.EDG_PORT_MODE 31 0 1).upTo (10 ^ 18)).now))) = some true)) ∧
    (((((((run.setUnplug 32 (some { stage := 2 })).setFld Reg.EDG_PORT_MODE 31 0 1).upTo (10 ^ 18)).unplugOf
      32).map fun w => w.stage) = some 2 ∧ (((run.setUnplug 32 (some { stage := 2 })).setFld Reg.EDG_PORT_MODE
      31 0 1).upTo (10 ^ 18)).srcDrained 32 = true) ∧ ((((((run.setUnplug 72 (some { stage := 2 })).setFld
      Reg.EDG_PORT_MODE 31 0 1).upTo (10 ^ 18)).unplugOf 72).map fun w => w.stage) = some 2 ∧ (((run.setUnplug
      72 (some { stage := 2 })).setFld Reg.EDG_PORT_MODE 31 0 1).upTo (10 ^ 18)).srcDrained 72 = true)) :=
  ⟨by decide,
    by decide,
    by decide,
    by decide,
    by decide,
    by decide,
    by decide,
    by decide,
    by decide⟩

/-- A port that transmits with and without preemption, each gate that changes, and each command on the first and last
object that it serves. -/
theorem witness_SluicePausesShapesGatesAndServesItsObjects :
    ((((sends 0 []).upTo 5).imageRuns = true ∧ ((sends 0 []).upTo 5).on Reg.SLU_PORT_RX_PAUSE 31 0 = true) ∧
      (SMap.find ((sends 0 []).upTo 5).slu.pause (8 * 31 + 0) = some 5 ∧ 5 ≤ ((sends 0 []).upTo 5).now) ∧
      (((sends 0 []).upTo 5).linkDown 31 = false ∧ ((sends 0 []).upTo 5).edg.phy.contains 31 = true ∧ ((sends 0
      []).upTo 5).slu.held.contains 31 = false) ∧ ((dried ((sends 0 []).upTo 5)).preempts 31 = false ∧ SMap.find
      (dried ((sends 0 []).upTo 5)).slu.sending 63 = none ∧ SMap.find (dried ((sends 0 []).upTo 5)).slu.sending
      62 = none)) ∧
    ((((sends 1 []).upTo 5).linkDown 31 = false ∧ (dried ((sends 1 []).upTo 5)).preempts 31 = true ∧ SMap.find
      (dried ((sends 1 []).upTo 5)).slu.sending 63 = none) ∧ (((dried ((sends 1 []).upTo 5)).selectMac 31 63
      (fun c => (dried ((sends 1 []).upTo 5)).on Reg.SLU_CLASS_EXPRESS (8 * 31 + c) 0) 2).1 = true) ∧ (SMap.find
      ((sends 1 [(63, { q := 255, len := 64 })]).upTo 5).slu.sending (2 * 31 + flagBit true) = some
      { q := 255, len := 64 }) ∧ (((sentFrame ((sends 1 [(63, { q := 255, len := 64 })]).upTo 5)
      { q := 255, len := 64 }).macsec 31).exhausted = false ∧ (sentFrame ((sends 1 [(63,
      { q := 255, len := 64 })]).upTo 5) { q := 255, len := 64 }).bridgeRuns = false)) ∧
    (((let b : State := { ((sends 1 [(63, { q := 255, len := 64 })]).upTo 5) with boot := { run.boot with stage := 2 } };
      (b.imageRuns || b.bridgeRuns) = true ∧ SMap.find b.slu.sending 63 = some { q := 255, len := 64 } ∧
      ((sentFrame b { q := 255, len := 64 }).macsec 31).exhausted = false ∧ (sentFrame b
      { q := 255, len := 64 }).bridgeRuns = true)) ∧ (((up [] [(Reg.SLU_SGATE_CONFIG_PENDING, 1023, 0, 1),
      (Reg.SLU_SGATE_CHANGE_TIME, 1023, 0, 0)]).upTo 5).gateChange true 1023 = some (0, 0) ∧ 0 ≤ ((up []
      [(Reg.SLU_SGATE_CONFIG_PENDING, 1023, 0, 1), (Reg.SLU_SGATE_CHANGE_TIME, 1023, 0, 0)]).upTo 5).net (((up
      [] [(Reg.SLU_SGATE_CONFIG_PENDING, 1023, 0, 1), (Reg.SLU_SGATE_CHANGE_TIME, 1023, 0, 0)]).upTo 5).gateDom
      true 1023)) ∧ (((up [] [(Reg.SLU_PORT_CONFIG_PENDING, 31, 0, 1), (Reg.SLU_PORT_CHANGE_TIME, 31, 0,
      0)]).upTo 5).gateChange false 31 = some (0, 0) ∧ 0 ≤ ((up [] [(Reg.SLU_PORT_CONFIG_PENDING, 31, 0, 1),
      (Reg.SLU_PORT_CHANGE_TIME, 31, 0, 0)]).upTo 5).net (((up [] [(Reg.SLU_PORT_CONFIG_PENDING, 31, 0, 1),
      (Reg.SLU_PORT_CHANGE_TIME, 31, 0, 0)]).upTo 5).gateDom false 31)) ∧ ((((run.setSrfRun 4095
      { timer := some 5 }).upTo 5).srfRun 4095).timer = some 5 ∧ 5 ≤ ((run.setSrfRun 4095
      { timer := some 5 }).upTo 5).now)) ∧
    (((up [] [(Reg.SLU_PORT_STATE, 31, 0, 2)]).fld (shutFields 0).2.1 31 0 = 2 ∧ (up [] [(Reg.SLU_PORT_STATE,
      31, 0, 2)]).drained 0 31 = true) ∧ ((up [] [(Reg.SLU_CLASS_STATE, 255, 0, 2)]).fld (shutFields 1).2.1 255
      0 = 2 ∧ (up [] [(Reg.SLU_CLASS_STATE, 255, 0, 2)]).drained 1 255 = true) ∧ ((up [] [(Reg.SLU_HOSTQ_STATE,
      319, 0, 2)]).fld (shutFields 2).2.1 319 0 = 2 ∧ (up [] [(Reg.SLU_HOSTQ_STATE, 319, 0, 2)]).drained 2 319 =
      true)) ∧
    MayWrite (selects 4 0 0 31 []) 4 6 ∧
    (((selects 4 0 0 31 []).woken 4).imageRuns = true ∧ ((selects 4 0 0 31 []).woken 4).sluCheck 4 1 = stOk ∧
      ((selects 4 0 0 31 []).woken 4).sluSel 4 = (0, 0, 31)) ∧
    MayWrite (selects 0 9 0 4095 []) 0 6 ∧
    (((selects 0 9 0 4095 []).woken 0).imageRuns = true ∧ ((selects 0 9 0 4095 []).woken 0).sluCheck 0 1 =
      stOk ∧ ((selects 0 9 0 4095 []).woken 0).sluSel 0 = (9, 0, 4095)) ∧
    MayWrite (selects 3 2 0 255 []) 3 6 ∧
    ((((selects 3 2 0 255 []).woken 3).imageRuns = true ∧ ((selects 3 2 0 255 []).woken 3).sluCheck 3 2 = stOk
      ∧ ((selects 3 2 0 255 []).woken 3).sluSel 3 = (2, 0, 255)) ∧ (((selects 3 2 0 255 []).woken 3).sluBusy 3 2
      0 255 = false) ∧ (((selects 3 2 0 255 []).woken 3).asksChange 3 2 = false)) ∧
    MayWrite (selects 0 1 0 255 []) 0 6 ∧
    ((((selects 0 1 0 255 []).woken 0).imageRuns = true ∧ ((selects 0 1 0 255 []).woken 0).sluCheck 0 2 = stOk
      ∧ ((selects 0 1 0 255 []).woken 0).sluSel 0 = (1, 0, 255)) ∧ (((selects 0 1 0 255 []).woken 0).sluBusy 0 1
      0 255 = false)) ∧
    MayWrite (selects 0 3 0 0 []) 0 6 ∧
    ((((selects 0 3 0 0 []).woken 0).imageRuns = true ∧ ((selects 0 3 0 0 []).woken 0).sluCheck 0 2 = stOk ∧
      ((selects 0 3 0 0 []).woken 0).sluSel 0 = (3, 0, 0)) ∧ (((selects 0 3 0 0 []).woken 0).sluBusy 0 3 0 0 =
      false)) ∧
    MayWrite (selects 0 1 0 255 []) 0 6 ∧
    (((selects 0 1 0 255 []).woken 0).imageRuns = true ∧ ((selects 0 1 0 255 []).woken 0).sluCheck 0 3 = stOk
      ∧ ((selects 0 1 0 255 []).woken 0).sluSel 0 = (1, 0, 255)) ∧
    MayWrite (selects 0 3 0 1 []) 0 6 ∧
    (((selects 0 3 0 1 []).woken 0).imageRuns = true ∧ ((selects 0 3 0 1 []).woken 0).sluCheck 0 4 = stOk ∧
      ((selects 0 3 0 1 []).woken 0).sluSel 0 = (3, 0, 1)) ∧
    MayWrite (selects 0 0 0 31 []) 0 6 ∧
    (((selects 0 0 0 31 []).woken 0).imageRuns = true ∧ ((selects 0 0 0 31 []).woken 0).sluCheck 0 4 = stOk ∧
      ((selects 0 0 0 31 []).woken 0).sluSel 0 = (0, 0, 31)) ∧
    MayWrite (selects 0 0 0 31 [(Reg.SLU_DATA, 5, 0, 65544), (Reg.SLU_DATA, 6, 0, 1000),
      (Reg.SLU_GCL_ENTRY_INTERVAL, 31744, 0, 16)]) 0 6 ∧
    ((((selects 0 0 0 31 [(Reg.SLU_DATA, 5, 0, 65544), (Reg.SLU_DATA, 6, 0, 1000),
      (Reg.SLU_GCL_ENTRY_INTERVAL, 31744, 0, 16)]).woken 0).imageRuns = true ∧ ((selects 0 0 0 31
      [(Reg.SLU_DATA, 5, 0, 65544), (Reg.SLU_DATA, 6, 0, 1000), (Reg.SLU_GCL_ENTRY_INTERVAL, 31744, 0,
      16)]).woken 0).sluCheck 0 2 = stOk ∧ ((selects 0 0 0 31 [(Reg.SLU_DATA, 5, 0, 65544), (Reg.SLU_DATA, 6, 0,
      1000), (Reg.SLU_GCL_ENTRY_INTERVAL, 31744, 0, 16)]).woken 0).sluSel 0 = (0, 0, 31)) ∧ (((selects 0 0 0 31
      [(Reg.SLU_DATA, 5, 0, 65544), (Reg.SLU_DATA, 6, 0, 1000), (Reg.SLU_GCL_ENTRY_INTERVAL, 31744, 0,
      16)]).woken 0).sluBusy 0 0 0 31 = false) ∧ (((selects 0 0 0 31 [(Reg.SLU_DATA, 5, 0, 65544),
      (Reg.SLU_DATA, 6, 0, 1000), (Reg.SLU_GCL_ENTRY_INTERVAL, 31744, 0, 16)]).woken 0).asksChange 0 0 = true) ∧
      ((((selects 0 0 0 31 [(Reg.SLU_DATA, 5, 0, 65544), (Reg.SLU_DATA, 6, 0, 1000),
      (Reg.SLU_GCL_ENTRY_INTERVAL, 31744, 0, 16)]).woken 0).sluTake 0 0 31).adminOk false 31 = true)) ∧
    MayWrite (selects 0 5 0 1023 [(Reg.SLU_DATA, 0, 0, 65544), (Reg.SLU_DATA, 1, 0, 1000),
      (Reg.SLU_SGATE_ENTRY_INTERVAL, 261888, 0, 16)]) 0 6 ∧
    ((((selects 0 5 0 1023 [(Reg.SLU_DATA, 0, 0, 65544), (Reg.SLU_DATA, 1, 0, 1000),
      (Reg.SLU_SGATE_ENTRY_INTERVAL, 261888, 0, 16)]).woken 0).imageRuns = true ∧ ((selects 0 5 0 1023
      [(Reg.SLU_DATA, 0, 0, 65544), (Reg.SLU_DATA, 1, 0, 1000), (Reg.SLU_SGATE_ENTRY_INTERVAL, 261888, 0,
      16)]).woken 0).sluCheck 0 2 = stOk ∧ ((selects 0 5 0 1023 [(Reg.SLU_DATA, 0, 0, 65544), (Reg.SLU_DATA, 1,
      0, 1000), (Reg.SLU_SGATE_ENTRY_INTERVAL, 261888, 0, 16)]).woken 0).sluSel 0 = (5, 0, 1023)) ∧ (((selects 0
      5 0 1023 [(Reg.SLU_DATA, 0, 0, 65544), (Reg.SLU_DATA, 1, 0, 1000), (Reg.SLU_SGATE_ENTRY_INTERVAL, 261888,
      0, 16)]).woken 0).sluBusy 0 5 0 1023 = false) ∧ (((selects 0 5 0 1023 [(Reg.SLU_DATA, 0, 0, 65544),
      (Reg.SLU_DATA, 1, 0, 1000), (Reg.SLU_SGATE_ENTRY_INTERVAL, 261888, 0, 16)]).woken 0).asksChange 0 5 =
      true) ∧ ((((selects 0 5 0 1023 [(Reg.SLU_DATA, 0, 0, 65544), (Reg.SLU_DATA, 1, 0, 1000),
      (Reg.SLU_SGATE_ENTRY_INTERVAL, 261888, 0, 16)]).woken 0).sluTake 0 5 1023).adminOk true 1023 = true)) :=
  ⟨by decide,
    by decide,
    by decide,
    by decide,
    mayWrite_of (by decide),
    by decide,
    mayWrite_of (by decide),
    by decide,
    mayWrite_of (by decide),
    by decide,
    mayWrite_of (by decide),
    by decide,
    mayWrite_of (by decide),
    by decide,
    mayWrite_of (by decide),
    by decide,
    mayWrite_of (by decide),
    by decide,
    mayWrite_of (by decide),
    by decide,
    mayWrite_of (by decide),
    by decide,
    mayWrite_of (by decide),
    by decide⟩

/-- A droplet waits, is held too long, circulates; pauses of both kinds; the second second; every domain. -/
theorem witness_TheWeirAndTheTimeUnitAct :
    ((waits.rpl.replay = none ∧ waits.imageRuns = true ∧ waits.mayTake 8 = true ∧ (waits.nextFor 8).isSome =
      true) ∧ ((((waits.upTo (10 ^ 11)).slot 65535).map fun sl => ((waits.upTo (10 ^ 11)).expired sl, bitOf
      ((waits.upTo (10 ^ 11)).rd Reg.WEIR_HOLD_SUSPEND_SUSP) sl.d.oclass, (waits.upTo (10 ^ 11)).completedNow
      65535 sl)) = some (true, false, false)) ∧ ((let s := recirculates false; s.imageRuns = true ∧ ((List.range
      4).find? fun c => s.chReady (spillKey (256 + c))) = some 0 ∧ (((s.chDrop (spillKey 256) (s.chFirst
      (spillKey 256))).resolve ((s.chWords (spillKey 256)).headD {}).w.toNat).map fun e => e.2.st) = some 3)) ∧
      ((let s := recirculates true; s.imageRuns = true ∧ ((List.range 4).find? fun c => s.chReady (spillKey (256
      + c))) = some 0 ∧ (((s.chDrop (spillKey 256) (s.chFirst (spillKey 256))).resolve ((s.chWords (spillKey
      256)).headD {}).w.toNat).map fun e => e.2.st) = some 3))) ∧
    MayWrite ({ run with weir := { run.weir with suspRight := true } } : State) 0 1 ∧
    (((run.woken 0).isSup 0 = true) ∧ ((({ run with weir := { run.weir with suspRight := true } } :
      State).woken 0).suspOpen = true) ∧ ((let u := (pausing 2).upTo (10 ^ 12); u.pauseUnion 31 ≠ 0 ∧ SMap.get
      u.edg.pauseAt 31 0 + u.pauseInterval 31 ≤ u.now)) ∧ ((let u := (pausing 3).upTo (10 ^ 12); u.pauseUnion 31
      ≠ 0 ∧ SMap.get u.edg.pauseAt 31 0 + u.pauseInterval 31 ≤ u.now))) ∧
    ((((timed 4).imageRuns || (timed 4).bridgeRuns) = true ∧ (timed 4).time.tickAt < (timed 4).tickNow) ∧
      ((timed 4).pmp.delay = [(0, 4095)] ∧ 0 ≤ (timed 4).time.ticks ∧ ((timed 4).desc 4095).wait = 4) ∧ (((timed
      1).desc 4095).wait = 1) ∧ ((timed 4).boot.held = false ∧ (timed 4).time.ppsAt < (timed 4).ppsNow)) ∧
    ((({ timed 4 with time := { (timed 4).time with ppsAt := (timed 4).ppsNow } } : State).on
      Reg.TIM_PPS_OUT_EN 0 0 = true) ∧ ((({ run with time := { run.time with ppsOut := some 5 } } : State).upTo
      5).time.ppsOut = some 5 ∧ 5 ≤ (({ run with time := { run.time with ppsOut := some 5 } } : State).upTo
      5).now) ∧ ((timed 4).on Reg.TIM_PPS_IN_EN 0 0 = true)) ∧
    MayWrite (timed 4) 3 11 ∧
    MayWrite (timed 4) 4 11 ∧
    ((((timed 4).woken 4).imageRuns = true) ∧ (((timed 4).woken 0).isSup 0 = true) ∧ (bitOf ((((timed 4).woken
      4).wr Reg.TIM_CMD_STEP_DOM 3).rd Reg.TIM_CFG_DOM_EN) 3 = true)) :=
  ⟨by decide,
    mayWrite_of (by decide),
    by decide,
    by decide,
    by decide,
    mayWrite_of (by decide),
    mayWrite_of (by decide),
    by decide⟩

/-- A bundle of each kind of engine, a thread that waits, faults and escalates, a helper in each state, an engine that
is reset, replaced and held back, and a basin switch. -/
theorem witness_EnginesHelpersAndBasinsIssueFaultAndRecover :
    ((runs.imageRuns = true ∧ runs.fld Reg.BSN_ENG_ESTATE 1 0 = 0 ∧ (calm runs).opportunity 1 = some (8, 8) ∧
      (calm runs).opportunity (9 / 8) = some (8, 8)) ∧ (((calm runs).setEngine 1
      { (calm runs).engine 1 with owner := 1, lastIdle := ((calm runs).engine 1).lastIdle }).atBreakpoint 8 =
      false ∧ ((calm runs).setEngine 1
      { (calm runs).engine 1 with owner := 1, lastIdle := ((calm runs).engine 1).lastIdle }).pePlan 8 = .go [])
      ∧ ((let s : State := { runs with thr := [(8, { state := 1 })] }; s.imageRuns = true ∧ s.fld
      Reg.BSN_ENG_ESTATE 1 0 = 0 ∧ (calm s).opportunity 1 = none))) ∧
    (∃ w, ((calm runs).setEngine 1
      { (calm runs).engine 1 with owner := 1, lastIdle := ((calm runs).engine 1).lastIdle }).fileError 8
      (fileUpset none) (((calm runs).setEngine 1
      { (calm runs).engine 1 with owner := 1, lastIdle := ((calm runs).engine 1).lastIdle }).pePlan 8) = (.go
      [], w)) ∧
    ((threadCe 1536 = some 0 ∧ runs.canIssue 1536 = true) ∧ (((runs.settleFast 1536).ceFetch 0).1 = some (0,
      List.replicate 4 0x80000000)) ∧ (((runs.settleFast 1536).ceFetch 0).2.plan 1536 (List.replicate 4
      0x80000000) = .go []) ∧ ((let s : State := { run with rpl := { run.rpl with brk := [(4, (0, 1))] } };
      s.canIssue 8 = true ∧ s.atBreakpoint 8 = true))) ∧
    (((run.thread 1536).state ≠ 6) ∧ (SMap.find ((waiting.upTo 5).thread 1543).ops uCh = some
      { wait := 2, limit := some 5 } ∧ 5 ≤ (waiting.upTo 5).now) ∧ ((waiting.upTo 5).queuedOn 10 = some 5 ∧
      (((waiting.upTo 5).lock 5).waiters.find? (fun w => w.req == 10)) = some { req := 10, limit := some 5 }) ∧
      (((waiting.upTo 5).thread 1543).timer = some 5)) ∧
    (((run.helper 11 1).orphan = none) ∧ (((helperIs 0 1 { orphan := some (0, false) }).helper 11 0).orphan =
      some (0, false)) ∧ (((helperIs 1 1 { orphan := some (127, true), claim := some 127 }).helper 11 1).orphan
      = some (127, true))) ∧
    MayWrite (helperIs 0 1 { claim := none }) 0 9 ∧
    ((((helperIs 0 1 { claim := none }).woken 0).isSup 0 = true) ∧ ((((helperIs 0 1 { claim := none }).woken
      0).setFld (hlpEn 0) 11 0 1).inService 11 = true)) ∧
    MayWrite (helperIs 1 1 { claim := none }) 0 9 ∧
    ((((helperIs 1 1 { claim := none }).woken 0).isSup 0 = true) ∧ ((((helperIs 1 1 { claim := none }).woken
      0).setFld (hlpEn 1) 11 0 1).inService 11 = true) ∧ (((run.woken 0).setFld (hlpEn 1) 11 0 1).fld (hlpState
      1) 11 0 = 0) ∧ ((((helperIs 1 2 { claim := none }).woken 0).setFld (hlpEn 1) 11 0 1).fld (hlpState 1) 11 0
      = 2 ∧ (helperIs 1 2 { claim := none }).hlpRuns 11 1 = false)) ∧
    ((((stuck.upTo (10 ^ 12)).thread 1535).state = 3 ∧ ((stuck.upTo (10 ^ 12)).thread 1535).acked = false ∧
      ((stuck.upTo (10 ^ 12)).thread 1535).late = false ∧ ((stuck.upTo (10 ^ 12)).thread 1535).faultAt +
      (stuck.upTo (10 ^ 12)).stillLimit (engOf 1535) ≤ (stuck.upTo (10 ^ 12)).now) ∧ (((stuck.upTo (10 ^
      12)).engine 191).stillAt = some 0 ∧ 0 + (stuck.upTo (10 ^ 12)).stillLimit 191 ≤ (stuck.upTo (10 ^ 12)).now
      ∧ bitOf ((stuck.upTo (10 ^ 12)).thread (8 * 191)).events evDeadlock = true) ∧ ((stuck.engine 191).escWait
      = some 9 ∧ stuck.fifoFull = false) ∧ ((up [] [(Reg.BSN_ENG_ESTATE, 191, 0, 0), (Reg.BSN_BASIN_SPARE, 11,
      0, 0)]).imageRuns = true ∧ (up [] [(Reg.BSN_ENG_ESTATE, 191, 0, 0), (Reg.BSN_BASIN_SPARE, 11, 0,
      0)]).inService (191 / 16) = true ∧ (up [] [(Reg.BSN_ENG_ESTATE, 191, 0, 0), (Reg.BSN_BASIN_SPARE, 11, 0,
      0)]).fld Reg.BSN_ENG_ESTATE 191 0 ≤ 1 ∧ (up [] [(Reg.BSN_ENG_ESTATE, 191, 0, 0), (Reg.BSN_BASIN_SPARE, 11,
      0, 0)]).hasSpare (191 / 16) = true)) ∧
    (((up [] [(Reg.BSN_ENG_ESTATE, 191, 0, 0), (Reg.BSN_BASIN_SPARE, 11, 0, 0x1F), (Reg.FTH_ST_STATUS_REGION,
      0, 0, 11)]).imageRuns = true ∧ (up [] [(Reg.BSN_ENG_ESTATE, 191, 0, 0), (Reg.BSN_BASIN_SPARE, 11, 0,
      0x1F), (Reg.FTH_ST_STATUS_REGION, 0, 0, 11)]).hasSpare (191 / 16) = false ∧ (up [] [(Reg.BSN_ENG_ESTATE,
      191, 0, 0), (Reg.BSN_BASIN_SPARE, 11, 0, 0x1F), (Reg.FTH_ST_STATUS_REGION, 0, 0, 11)]).fld
      Reg.BSN_ENG_ESTATE 191 0 ≤ 1 ∧ (failsNoSpare (up [] [(Reg.BSN_ENG_ESTATE, 191, 0, 0),
      (Reg.BSN_BASIN_SPARE, 11, 0, 0x1F), (Reg.FTH_ST_STATUS_REGION, 0, 0, 11)])).rd Reg.FTH_ST_STATUS_REGION =
      191 / 16) ∧ (({ run with pmp := { run.pmp with fifo := [(4095, 1)], descs := [(4095, { state := 3 })] } }
      : State).pmp.fifo = [(4095, 1)] ∧
      (({ run with pmp := { run.pmp with fifo := [(4095, 1)], descs := [(4095, { state := 3 })] } } :
      State).desc 4095).state ≠ 0 ∧
      (({ run with pmp := { run.pmp with fifo := [(4095, 1)], descs := [(4095, { state := 3 })] } } :
      State).desc 4095).state ≠ 5) ∧ (run.imageRuns = true ∧ run.rd Reg.PWR_STATUS_STATE < 3 ∧ run.switchAllowed
      = true) ∧ (({ run with weir := { run.weir with switching := some (13, 0, 0) } } : State).weir.switching =
      some (13, 0, 0) ∧ ({ run with weir := { run.weir with switching := some (13, 0, 0) } } : State).imageRuns
      = true ∧ ({ run with weir := { run.weir with switching := some (13, 0, 0) } } : State).switchDrained 13 0
      = true)) ∧
    ((({ run with weir := { run.weir with switching := some (12, 11, 5) } } : State).weir.switching = some
      (12, 11, 5) ∧ ({ run with weir := { run.weir with switching := some (12, 11, 5) } } : State).imageRuns =
      true ∧ ({ run with weir := { run.weir with switching := some (12, 11, 5) } } : State).switchDrained 12 11
      = true) ∧ (({ run with weir := { run.weir with switching := some (0, 12, 0) } } : State).weir.switching =
      some (0, 12, 0) ∧ ({ run with weir := { run.weir with switching := some (0, 12, 0) } } : State).imageRuns
      = true ∧ ({ run with weir := { run.weir with switching := some (0, 12, 0) } } : State).switchDrained 0 12
      = true)) :=
  ⟨by decide,
    ⟨_, by rw [show ((calm runs).setEngine 1
      { (calm runs).engine 1 with owner := 1, lastIdle := ((calm runs).engine 1).lastIdle }).pePlan 8 = .go []
      by decide]; rfl⟩,
    by decide,
    by decide,
    by decide,
    mayWrite_of (by decide),
    by decide,
    mayWrite_of (by decide),
    by decide,
    by decide,
    by decide,
    by decide⟩

/-- Both kinds of learn request, staging that is free, in use and committed, a version that retires, and each table
command on each table. -/
theorem witness_RulesAndTablesAreStagedCommittedAndServed :
    (((tabled 3 0 3 0).tbl.queue = [.learn 1 2 3]) ∧
      ((let s : State := { run with tbl := { run.tbl with queue := [.create 1 2 3 4] } }; s.tbl.queue = [.create
      1 2 3 4])) ∧ ((tabled 3 0 3 0).rd Reg.TBL_L2_AGE_AGE_TIME ≠ 0 ∧ (tabled 3 0 3 0).fld
      Reg.TBL_SPACE_AGE_TIME (16 - 1) 0 ≠ 0)) ∧
    MayWrite (staged 0 false [(63, [5])]) 0 3 ∧
    (((staged 0 false [(63, [5])]).woken 0).rulReach 0 = true ∧ (((staged 0 false [(63, [5])]).woken
      0).staging 0).pending = false ∧ ((staged 0 false [(63, [5])]).woken 0).bridgeRuns = false) ∧
    MayWrite (staged 4 false [(63, [5])]) 4 3 ∧
    ((((staged 4 false [(63, [5])]).woken 4).rulReach 4 = true ∧ (((staged 4 false [(63, [5])]).woken
      4).staging 4).pending = false ∧ ((staged 4 false [(63, [5])]).woken 4).bridgeRuns = false) ∧ ((staged 0
      true [(63, [5])]).rul.queue = [0] ∧
      ({ (staged 0 true [(63, [5])]) with rul := { (staged 0 true [(63, [5])]).rul with queue := [] } } :
      State).commitStatus 0 = stOk) ∧
      (({ (staged 0 true []) with rul := { (staged 0 true []).rul with queue := [] } } : State).commitStatus 0 =
      stDouble) ∧ (((staged 0 false []).version 1).state = 2 ∧ ((staged 0 false []).version 1).refs = 0 ∧
      ((staged 0 false []).version 1).pins = 0)) ∧
    ((((staged 0 false [(63, [5])]).woken 0).stageSel 0 = (0, 63) ∧ ((staged 0 false [(63, [5])]).woken
      0).stageStatus 0 0 63 true = stOk ∧ ((staged 0 false [(63, [5])]).woken 0).stageStatus 0 0 63 false =
      stOk) ∧ (SMap.find ((((staged 0 false [(63, [5])]).woken 0).setFld Reg.RUL_STG_CMD_RESULT 0 0
      stOk).staging 0).entries (0 * 65536 + 63) = some [5])) ∧
    MayWrite (staged 0 false []) 0 3 ∧
    (((staged 0 false []).woken 0).isSup 0 = true) ∧
    MayWrite (tabled 0 0 3 0) 0 4 ∧
    TblPasses ((tabled 0 0 3 0).woken 0) 0 1 ∧
    MayWrite (tabled 0 1 3 0) 0 4 ∧
    TblPasses ((tabled 0 1 3 0).woken 0) 0 1 ∧
    MayWrite (tabled 0 2 4 0) 0 4 ∧
    TblPasses ((tabled 0 2 4 0).woken 0) 0 1 ∧
    MayWrite (tabled 0 0 3 0) 0 4 ∧
    TblPasses ((tabled 0 0 3 0).woken 0) 0 2 ∧
    MayWrite (tabled 0 2 4 0) 0 4 ∧
    TblPasses ((tabled 0 2 4 0).woken 0) 0 2 ∧
    MayWrite (tabled 0 1 7 0) 0 4 ∧
    TblPasses ((tabled 0 1 7 0).woken 0) 0 2 ∧
    MayWrite (tabled 3 0 3 0) 3 4 ∧
    TblPasses ((tabled 3 0 3 0).woken 3) 3 3 ∧
    MayWrite (tabled 3 2 4 0) 3 4 ∧
    TblPasses ((tabled 3 2 4 0).woken 3) 3 3 ∧
    MayWrite (tabled 0 2 4 3) 0 4 ∧
    TblPasses ((tabled 0 2 4 3).woken 0) 0 4 ∧
    MayWrite (tabled 0 0 3 0) 0 4 ∧
    TblPasses ((tabled 0 0 3 0).woken 0) 0 5 ∧
    MayWrite (tabled 0 1 7 0) 0 4 ∧
    TblPasses ((tabled 0 1 7 0).woken 0) 0 5 ∧
    MayWrite (tabled 3 0 2 0) 3 4 ∧
    TblPasses ((tabled 3 0 2 0).woken 3) 3 6 ∧
    MayWrite (tabled 3 2 3 0) 3 4 ∧
    TblPasses ((tabled 3 2 3 0).woken 3) 3 6 ∧
    MayWrite (tabled 0 1 6 0) 0 4 ∧
    TblPasses ((tabled 0 1 6 0).woken 0) 0 6 ∧
    ((((tabled 0 0 3 0).woken 0).tblSelected 0 0 = (some 3, false)) ∧ (((tabled 0 2 4 0).woken 0).tblSelected
      0 2 = (some 4, false)) ∧ (((tabled 3 0 3 0).woken 3).tblSelected 3 0 = (some 3, false)) ∧ (((tabled 3 2 4
      0).woken 3).tblSelected 3 2 = (some 4, false))) ∧
    ((((tabled 0 2 4 3).woken 0).tblSelected 0 2 = (some 4, false)) ∧ ((((tabled 0 1 7 0).woken 0).tblSelected
      0 1).1.isSome = true) ∧ (((tabled 3 0 2 0).woken 3).tblAfter 3 0 = some 3) ∧ (((tabled 3 2 3 0).woken
      3).tblAfter 3 2 = some 4)) ∧
    (((((tabled 0 1 6 0).woken 0).tblAfter 0 1).isSome = true) ∧ (SMap.find (tabled 3 0 3 0).tbl.flush 3 =
      some (0, 0, none, none)) ∧
      ((let s : State := { bridge with hst := { bridge.hst with bridgeLink := [(3, 0)] } }; s.bridgeRuns = true
      ∧ (s.linkOf 3).isSome = true ∧ s.on Reg.HST_STATUS_RESET_BUSY 0 3 = false)) ∧
      ((let s : State := { bridge with hst := { bridge.hst with bridgeLink := [(0, 0)] } }; s.bridgeRuns = true
      ∧ (s.linkOf 0).isSome = true ∧ s.on Reg.HST_STATUS_RESET_BUSY 0 0 = false))) :=
  ⟨by decide,
    mayWrite_of (by decide),
    by decide,
    mayWrite_of (by decide),
    by decide,
    by decide,
    mayWrite_of (by decide),
    by decide,
    mayWrite_of (by decide),
    fun _ => rfl,
    mayWrite_of (by decide),
    fun _ => rfl,
    mayWrite_of (by decide),
    fun _ => rfl,
    mayWrite_of (by decide),
    fun _ => rfl,
    mayWrite_of (by decide),
    fun _ => rfl,
    mayWrite_of (by decide),
    fun _ => rfl,
    mayWrite_of (by decide),
    fun _ => rfl,
    mayWrite_of (by decide),
    fun _ => rfl,
    mayWrite_of (by decide),
    fun _ => rfl,
    mayWrite_of (by decide),
    fun _ => rfl,
    mayWrite_of (by decide),
    fun _ => rfl,
    mayWrite_of (by decide),
    fun _ => rfl,
    mayWrite_of (by decide),
    fun _ => rfl,
    mayWrite_of (by decide),
    fun _ => rfl,
    by decide,
    by decide,
    by decide⟩

/-- A pool in each motion, an error report, a bank with its row open, with another and with none, a pseudo-channel in
each state, a cache miss at the last level. -/
theorem witness_TheMemorySystemMovesLinesAndKeepsItsChannels :
    ((((poolIs 255 { refilling := true } []).pool 255).refilling = true) ∧ (((poolIs 255 { spilling := true }
      []).pool 255).spilling = true) ∧ (((poolIs 255 { scrubbing := [0xFFFFFF] } []).pool
      255).scrubbing.contains 0xFFFFFF = true)) ∧
    MayWrite ({ run with cis := { run.cis with errs := [{}] } } : State) 0 5 ∧
    (((({ run with cis := { run.cis with errs := [{}] } } : State).woken 0).isSup 0 = true) ∧
      ((({ run with cis := { run.cis with errs := [{}] } } : State).woken 0).cis.errs = [{}] ∧ (run.woken
      0).cis.errs = [])) ∧
    MayRead (poolIs 255 {} []) 3 5 ∧
    ((((pcIs {} []).upTo 5).pcServes 31 = true) ∧ ((pcPlan ((pcIs { queue := [{ addr := 64 }], openRow := [] }
      []).upTo 5) = some ({ addr := 64 }, none))) ∧ ((pcPlan ((pcIs
      { queue := [{ addr := 64 }], openRow := ((List.range 16).map fun b => (b, 0)) } []).upTo 5) = some
      ({ addr := 64 }, some true))) ∧ ((pcPlan ((pcIs
      { queue := [{ addr := 64 }], openRow := ((List.range 16).map fun b => (b, 9)) } []).upTo 5) = some
      ({ addr := 64 }, some false)))) ∧
    ((((pcIs { issued := [{ addr := 64 }] } []).pchan 31).issued = [{ addr := 64 }]) ∧ ((pcIs {} []).offlineAt
      (64 * 134217727) = false ∧ ((List.range 8).filter fun i => (([2] : List (Fin 3)).map Fin.val).getD i 0 ==
      1) = []) ∧ (bitOf ((pcIs {} []).rd Reg.IPD_OFFLINE_PC) 31 = false ∧ (pcIs {} []).on
      Reg.IPD_STATUS_FULL_TRAIN 0 0 = false ∧ (pcIs {} []).on Reg.IPD_STATUS_TRAINED 0 0 = true ∧ (pcIs {}
      []).mem.retrainQ = []) ∧ (({ pcIs {} [] with mem := { (pcIs {} []).mem with retrainQ := [31] } } :
      State).mem.retrainQ = [31] ∧ ({ pcIs {} [] with mem := { (pcIs {} []).mem with retrainQ := [31] } } :
      State).on Reg.IPD_STATUS_FULL_TRAIN 0 0 = false ∧
      ({ pcIs {} [] with mem := { (pcIs {} []).mem with retrainQ := [31] } } : State).on Reg.IPD_STATUS_TRAINED
      0 0 = true)) ∧
    ((((pcIs {} [(Reg.IPD_STATUS_FULL_TRAIN, 0, 0, 1), (Reg.IPD_STATUS_FT_PC, 0, 0, 31)]).on
      Reg.IPD_STATUS_FULL_TRAIN 0 0 && (pcIs {} [(Reg.IPD_STATUS_FULL_TRAIN, 0, 0, 1), (Reg.IPD_STATUS_FT_PC, 0,
      0, 31)]).rd Reg.IPD_STATUS_FT_PC == 31) = true) ∧ ((pcIs {} []).boot.held = false ∧ (pcIs {} []).on
      Reg.IPD_STATUS_COPYING 0 0 = false) ∧
      ((({ pcIs {} [] with mem := { (pcIs {} []).mem with retireQ := (pcIs {} []).mem.retireQ.filter (· != 31) } }
      : State).trySpares 31 2 (fun x => if x = 16 then true else false) (spareOrder 31)).1 = some 16) ∧ (((pcIs
      { spare := some (33, 2) } []).pchan 31).spare = some (33, 2) ∧ ([] : List Nat).filter (fun x => decide (x
      < 2 ^ 30) && (pcIs { spare := some (33, 2) } []).pcOf (8 * x) == 31) = [])) ∧
    ((((evicting.cache 204).misses.take (cacheGeo 204).entries).find? (fun x => x.addr == 64 * 1) = some
      { addr := 64, waiters := [1536] } ∧ nextCache 204 = none) ∧ (((evicting.cache 192).misses.take (cacheGeo
      192).entries).find? (fun x => x.addr == 64 * 1) = some { addr := 64, waiters := [8] } ∧ nextCache 192 =
      none) ∧ ((((evicting.setCache 204
      { evicting.cache 204 with misses := (evicting.cache 204).misses.filter fun x => x.addr != 64 * 1 }).askWaiting
      204).cache 204).whereIs 204 (64 * 1) = 0 ∧ ((evicting.setCache 204
      { evicting.cache 204 with misses := (evicting.cache 204).misses.filter fun x => x.addr != 64 * 1 }).askWaiting
      204).offlineAt (64 * 1) = false) ∧ ((((evicting.setCache 192
      { evicting.cache 192 with misses := (evicting.cache 192).misses.filter fun x => x.addr != 64 * 1 }).askWaiting
      192).cache 192).whereIs 192 (64 * 1) = 0 ∧ ((evicting.setCache 192
      { evicting.cache 192 with misses := (evicting.cache 192).misses.filter fun x => x.addr != 64 * 1 }).askWaiting
      192).offlineAt (64 * 1) = false)) ∧
    ((evicting.cache 220).evict = [{ addr := 64 }]) :=
  ⟨by decide,
    mayWrite_of (by decide),
    by decide,
    mayRead_of (by decide),
    by decide,
    by decide,
    by decide,
    by decide,
    by decide⟩

/-- The last engine, descriptor, control engine and requester; each lock operation. -/
theorem witness_HostCommandsToEnginesDescriptorsAndLocks :
    MayWrite (up [] [(Reg.BSN_ENG_ESTATE, 191, 0, 0), (Reg.BSN_BASIN_SPARE, 11, 0, 0),
      (Reg.BSN_ENG_ESC_PENDING, 191, 0, 1), (Reg.LKG_GRP_EN, 0, 0, 1), (Reg.LKG_GRP_PART, 0, 0, 0x1F)]) 0 9 ∧
    ((((up [] [(Reg.BSN_ENG_ESTATE, 191, 0, 0), (Reg.BSN_BASIN_SPARE, 11, 0, 0), (Reg.BSN_ENG_ESC_PENDING,
      191, 0, 1), (Reg.LKG_GRP_EN, 0, 0, 1), (Reg.LKG_GRP_PART, 0, 0, 0x1F)]).woken 0).isSup 0 = true) ∧ (((up
      [] [(Reg.BSN_ENG_ESTATE, 191, 0, 0), (Reg.BSN_BASIN_SPARE, 11, 0, 0), (Reg.BSN_ENG_ESC_PENDING, 191, 0,
      1), (Reg.LKG_GRP_EN, 0, 0, 1), (Reg.LKG_GRP_PART, 0, 0, 0x1F)]).woken 0).imageRuns = true ∧ ((up []
      [(Reg.BSN_ENG_ESTATE, 191, 0, 0), (Reg.BSN_BASIN_SPARE, 11, 0, 0), (Reg.BSN_ENG_ESC_PENDING, 191, 0, 1),
      (Reg.LKG_GRP_EN, 0, 0, 1), (Reg.LKG_GRP_PART, 0, 0, 0x1F)]).woken 0).on Reg.BSN_ENG_CMD_PENDING 0 0 =
      false) ∧ ((((up [] [(Reg.BSN_ENG_ESTATE, 191, 0, 0), (Reg.BSN_BASIN_SPARE, 11, 0, 0),
      (Reg.BSN_ENG_ESC_PENDING, 191, 0, 1), (Reg.LKG_GRP_EN, 0, 0, 1), (Reg.LKG_GRP_PART, 0, 0, 0x1F)]).woken
      0).wr Reg.BSN_ENG_CMD_ENGINE 191).fld Reg.BSN_ENG_ESTATE 191 0 = 0) ∧ ((((up [] [(Reg.BSN_ENG_ESTATE, 191,
      0, 0), (Reg.BSN_BASIN_SPARE, 11, 0, 0), (Reg.BSN_ENG_ESC_PENDING, 191, 0, 1), (Reg.LKG_GRP_EN, 0, 0, 1),
      (Reg.LKG_GRP_PART, 0, 0, 0x1F)]).woken 0).wr Reg.BSN_ENG_CMD_ENGINE 191).hasSpare (191 / 16) = true ∧
      (((up [] [(Reg.BSN_ENG_ESTATE, 191, 0, 0), (Reg.BSN_BASIN_SPARE, 11, 0, 0), (Reg.BSN_ENG_ESC_PENDING, 191,
      0, 1), (Reg.LKG_GRP_EN, 0, 0, 1), (Reg.LKG_GRP_PART, 0, 0, 0x1F)]).woken 0).wr Reg.BSN_ENG_CMD_ENGINE
      191).switchAllowed = true)) ∧
    ((((up [] [(Reg.BSN_ENG_ESTATE, 191, 0, 0), (Reg.BSN_BASIN_SPARE, 11, 0, 0), (Reg.BSN_ENG_ESC_PENDING,
      191, 0, 1), (Reg.LKG_GRP_EN, 0, 0, 1), (Reg.LKG_GRP_PART, 0, 0, 0x1F)]).woken 0).wr Reg.BSN_ENG_CMD_ENGINE
      191).on Reg.BSN_ENG_ESC_PENDING 191 0 = true) ∧
    MayWrite ({ run with pmp := { run.pmp with descs := [(4095, { state := 3, hostPart := 3 })] } } : State) 3
      8 ∧
    ((bits (0xFF000FFF : W32).toNat 16 16 ≠ 0 ∧ bits (0xFF000FFF : W32).toNat 16 16 % 256 = 0) ∧
      ((((({ run with pmp := { run.pmp with descs := [(4095, { state := 3, hostPart := 3 })] } } : State).woken
      3).setFld Reg.PMP_POST_DESC 0 3 ((0xFF000FFF : W32).toNat % 4096)).desc 4095).state ≠ 0 ∧
      (((({ run with pmp := { run.pmp with descs := [(4095, { state := 3, hostPart := 3 })] } } : State).woken
      3).setFld Reg.PMP_POST_DESC 0 3 ((0xFF000FFF : W32).toNat % 4096)).desc 4095).hostPart = 3 ∧
      ((({ run with pmp := { run.pmp with descs := [(4095, { state := 3, hostPart := 3 })] } } : State).woken
      3).setFld Reg.PMP_POST_DESC 0 3 ((0xFF000FFF : W32).toNat % 4096)).fifoFull = false)) ∧
    MayWrite ({ run with pmp := { run.pmp with ces := [(7, { state := 2 })] } } : State) 0 8 ∧
    ((({ run with pmp := { run.pmp with ces := [(7, { state := 2 })] } } : State).woken 0).isSup 0 = true ∧
      (((({ run with pmp := { run.pmp with ces := [(7, { state := 2 })] } } : State).woken 0).wr
      Reg.PMP_CE_CMD_CE 7).ce 7).state = 2 ∧
      ((({ run with pmp := { run.pmp with ces := [(7, { state := 2 })] } } : State).woken 0).wr
      Reg.PMP_CE_CMD_CE 7).fth.heldRegions.contains (16 + 7) = false) ∧
    MayWrite (up [] [(Reg.BSN_ENG_ESTATE, 191, 0, 0), (Reg.BSN_BASIN_SPARE, 11, 0, 0),
      (Reg.BSN_ENG_ESC_PENDING, 191, 0, 1), (Reg.LKG_GRP_EN, 0, 0, 1), (Reg.LKG_GRP_PART, 0, 0, 0x1F)]) 3 7 ∧
    (((((up [] [(Reg.BSN_ENG_ESTATE, 191, 0, 0), (Reg.BSN_BASIN_SPARE, 11, 0, 0), (Reg.BSN_ENG_ESC_PENDING,
      191, 0, 1), (Reg.LKG_GRP_EN, 0, 0, 1), (Reg.LKG_GRP_PART, 0, 0, 0x1F)]).woken 3).hostReq 3 63 1 65535 63
      16777215).fld Reg.LKG_HREQ0_OP 0 3 = 1 ∧ (((up [] [(Reg.BSN_ENG_ESTATE, 191, 0, 0), (Reg.BSN_BASIN_SPARE,
      11, 0, 0), (Reg.BSN_ENG_ESC_PENDING, 191, 0, 1), (Reg.LKG_GRP_EN, 0, 0, 1), (Reg.LKG_GRP_PART, 0, 0,
      0x1F)]).woken 3).hostReq 3 63 1 65535 63 16777215).on Reg.LKG_HRES_PENDING 0 3 = false) ∧ ((((up []
      [(Reg.BSN_ENG_ESTATE, 191, 0, 0), (Reg.BSN_BASIN_SPARE, 11, 0, 0), (Reg.BSN_ENG_ESC_PENDING, 191, 0, 1),
      (Reg.LKG_GRP_EN, 0, 0, 1), (Reg.LKG_GRP_PART, 0, 0, 0x1F)]).woken 3).hostReq 3 63 2 65535 63 16777215).fld
      Reg.LKG_HREQ0_OP 0 3 = 2 ∧ (((up [] [(Reg.BSN_ENG_ESTATE, 191, 0, 0), (Reg.BSN_BASIN_SPARE, 11, 0, 0),
      (Reg.BSN_ENG_ESC_PENDING, 191, 0, 1), (Reg.LKG_GRP_EN, 0, 0, 1), (Reg.LKG_GRP_PART, 0, 0, 0x1F)]).woken
      3).hostReq 3 63 2 65535 63 16777215).on Reg.LKG_HRES_PENDING 0 3 = false) ∧ ((((up []
      [(Reg.BSN_ENG_ESTATE, 191, 0, 0), (Reg.BSN_BASIN_SPARE, 11, 0, 0), (Reg.BSN_ENG_ESC_PENDING, 191, 0, 1),
      (Reg.LKG_GRP_EN, 0, 0, 1), (Reg.LKG_GRP_PART, 0, 0, 0x1F)]).woken 3).hostReq 3 63 3 65535 63 16777215).fld
      Reg.LKG_HREQ0_OP 0 3 = 3 ∧ (((up [] [(Reg.BSN_ENG_ESTATE, 191, 0, 0), (Reg.BSN_BASIN_SPARE, 11, 0, 0),
      (Reg.BSN_ENG_ESC_PENDING, 191, 0, 1), (Reg.LKG_GRP_EN, 0, 0, 1), (Reg.LKG_GRP_PART, 0, 0, 0x1F)]).woken
      3).hostReq 3 63 3 65535 63 16777215).on Reg.LKG_HRES_PENDING 0 3 = false) ∧ ((((up []
      [(Reg.BSN_ENG_ESTATE, 191, 0, 0), (Reg.BSN_BASIN_SPARE, 11, 0, 0), (Reg.BSN_ENG_ESC_PENDING, 191, 0, 1),
      (Reg.LKG_GRP_EN, 0, 0, 1), (Reg.LKG_GRP_PART, 0, 0, 0x1F)]).woken 3).hostReq 3 63 5 65535 63 16777215).fld
      Reg.LKG_HREQ0_OP 0 3 = 5 ∧ (((up [] [(Reg.BSN_ENG_ESTATE, 191, 0, 0), (Reg.BSN_BASIN_SPARE, 11, 0, 0),
      (Reg.BSN_ENG_ESC_PENDING, 191, 0, 1), (Reg.LKG_GRP_EN, 0, 0, 1), (Reg.LKG_GRP_PART, 0, 0, 0x1F)]).woken
      3).hostReq 3 63 5 65535 63 16777215).on Reg.LKG_HRES_PENDING 0 3 = false)) ∧
    ((((((up [] [(Reg.BSN_ENG_ESTATE, 191, 0, 0), (Reg.BSN_BASIN_SPARE, 11, 0, 0), (Reg.BSN_ENG_ESC_PENDING,
      191, 0, 1), (Reg.LKG_GRP_EN, 0, 0, 1), (Reg.LKG_GRP_PART, 0, 0, 0x1F)]).woken 3).hostReq 3 63 2 65535 63
      16777215).acquire ((((up [] [(Reg.BSN_ENG_ESTATE, 191, 0, 0), (Reg.BSN_BASIN_SPARE, 11, 0, 0),
      (Reg.BSN_ENG_ESC_PENDING, 191, 0, 1), (Reg.LKG_GRP_EN, 0, 0, 1), (Reg.LKG_GRP_PART, 0, 0, 0x1F)]).woken
      3).hostReq 3 63 2 65535 63 16777215).fld Reg.LKG_HREQ0_LOCK 0 3) (reqHost 3) (unitsOf ((((up []
      [(Reg.BSN_ENG_ESTATE, 191, 0, 0), (Reg.BSN_BASIN_SPARE, 11, 0, 0), (Reg.BSN_ENG_ESC_PENDING, 191, 0, 1),
      (Reg.LKG_GRP_EN, 0, 0, 1), (Reg.LKG_GRP_PART, 0, 0, 0x1F)]).woken 3).hostReq 3 63 2 65535 63 16777215).fld
      Reg.LKG_HREQ0_N 0 3)) ((((up [] [(Reg.BSN_ENG_ESTATE, 191, 0, 0), (Reg.BSN_BASIN_SPARE, 11, 0, 0),
      (Reg.BSN_ENG_ESC_PENDING, 191, 0, 1), (Reg.LKG_GRP_EN, 0, 0, 1), (Reg.LKG_GRP_PART, 0, 0, 0x1F)]).woken
      3).hostReq 3 63 2 65535 63 16777215).fld Reg.LKG_HREQ1_PRIO 0 3) true none).1 = some stOk) ∧
      (((({ run with lkg := { run.lkg with locks := [(63, { holder := some 9, waiters := [{ req := 0x2003 }] })] } }
      : State).woken 3).hostReq 3 63 4 0 0 0).fld Reg.LKG_HREQ0_OP 0 3 = 4 ∧
      ((({ run with lkg := { run.lkg with locks := [(63, { holder := some 9, waiters := [{ req := 0x2003 }] })] } }
      : State).woken 3).hostReq 3 63 4 0 0 0).queuedOn (reqHost 3) = some 63) ∧ ((((up [] [(Reg.BSN_ENG_ESTATE,
      191, 0, 0), (Reg.BSN_BASIN_SPARE, 11, 0, 0), (Reg.BSN_ENG_ESC_PENDING, 191, 0, 1), (Reg.LKG_GRP_EN, 0, 0,
      1), (Reg.LKG_GRP_PART, 0, 0, 0x1F)]).woken 3).hostReq 3 63 5 65535 63 16777215).lockRight ((((up []
      [(Reg.BSN_ENG_ESTATE, 191, 0, 0), (Reg.BSN_BASIN_SPARE, 11, 0, 0), (Reg.BSN_ENG_ESC_PENDING, 191, 0, 1),
      (Reg.LKG_GRP_EN, 0, 0, 1), (Reg.LKG_GRP_PART, 0, 0, 0x1F)]).woken 3).hostReq 3 63 5 65535 63 16777215).fld
      Reg.LKG_HREQ0_LOCK 0 3) (reqHost 3) = true)) ∧
    MayWrite run 0 7 ∧
    ((run.woken 0).isSup 0 = true) :=
  ⟨mayWrite_of (by decide),
    by decide,
    by decide,
    mayWrite_of (by decide),
    by decide,
    mayWrite_of (by decide),
    by decide,
    mayWrite_of (by decide),
    by decide,
    by decide,
    mayWrite_of (by decide),
    by decide⟩

/-- The last thread and the last descriptor, running, ready, halted; from the supervisor and from the test access port. -/
theorem witness_DebugCommandsHaltReadAndSetTheirTarget :
    MayWrite (debugs 0 2 0 0x048) 0 15 ∧
    DebugsThread ((debugs 0 2 0 0x048).woken 0) 0 1535 ∧
    (((((debugs 0 2 0 0x048).woken 0).wr Reg.RPL_DBG_CMD_CMD 0).thread 1535).state < 3) ∧
    MayWrite (debugs 0 4 0 0x048) 4 15 ∧
    DebugsThread ((debugs 0 4 0 0x048).woken 4) 4 1535 ∧
    ((((((debugs 0 4 0 0x048).woken 4).wr Reg.RPL_DBG_CMD_CMD 0).thread 1535).state = 4) ∧ (dbgPort ((((debugs
      0 4 0 0x048).woken 4).wr Reg.RPL_DBG_CMD_CMD 0).rd Reg.RPL_DBG_CMD_REG) = true)) ∧
    MayWrite (debugs 1 0 3 0x048) 0 15 ∧
    DebugsDesc ((debugs 1 0 3 0x048).woken 0) 0 4095 ∧
    (((((debugs 1 0 3 0x048).woken 0).wr Reg.RPL_DBG_CMD_CMD 0).desc 4095).state ≠ 0 ∧ ((((debugs 1 0 3
      0x048).woken 0).wr Reg.RPL_DBG_CMD_CMD 0).desc 4095).state < 4 ∧ ((((debugs 1 0 3 0x048).woken 0).wr
      Reg.RPL_DBG_CMD_CMD 0).desc 4095).state ≠ 2) ∧
    MayWrite (debugs 1 0 5 0x048) 4 15 ∧
    DebugsDesc ((debugs 1 0 5 0x048).woken 4) 4 4095 ∧
    ((((((debugs 1 0 5 0x048).woken 4).wr Reg.RPL_DBG_CMD_CMD 0).desc 4095).state = 5) ∧ (dbgPort ((((debugs 1
      0 5 0x048).woken 4).wr Reg.RPL_DBG_CMD_CMD 0).rd Reg.RPL_DBG_CMD_REG) = true)) :=
  ⟨mayWrite_of (by decide),
    ⟨by decide, by decide, by decide, by decide, by decide⟩,
    by decide,
    mayWrite_of (by decide),
    ⟨by decide, by decide, by decide, by decide, by decide⟩,
    by decide,
    mayWrite_of (by decide),
    ⟨by decide, by decide, by decide, by decide⟩,
    by decide,
    mayWrite_of (by decide),
    ⟨by decide, by decide, by decide, by decide⟩,
    by decide⟩

/-- A frozen record, an export and a replay that may start, and a session in each step that a command ends. -/
theorem witness_TheRecordFreezesExportsAndReplays :
    MayWrite run 0 15 ∧
    ((run.woken 0).isSup 0 = true) ∧
    MayWrite (recorded none) 0 15 ∧
    ((((recorded none).woken 0).isSup 0 = true) ∧ (((recorded none).woken 0).on Reg.RPL_STATUS_FROZEN 0 0 =
      true ∧ ((recorded none).woken 0).rpl.exp = none ∧ ((recorded none).woken 0).rpl.replay = none) ∧
      (((recorded none).woken 0).fth.lc ≠ 0 ∧ ((recorded none).woken 0).fth.lc ≠ 4) ∧ (((recorded none).woken
      0).rd Reg.RPL_RPY_CFG_BASIN < 12 ∧ ((recorded none).woken 0).rd Reg.RPL_RPY_CFG_SRC < 12 ∧ ((recorded
      none).woken 0).switchAllowed = true ∧ ((recorded none).woken 0).inService (((recorded none).woken 0).rd
      Reg.RPL_RPY_CFG_BASIN) = true)) ∧
    (((((recorded none).woken 0).pinAll []).1 = stOk) ∧ (((recorded none).upTo 5).rpl.post = some (0, 6)) ∧
      (((((recorded none).woken 0).selected).map fun sel => decide (sel.foldl (fun n r => n + r.bytes.length) 0
      + 3437 * (batchesOf sel 0 0 0).length ≤ ((recorded none).woken 0).rd Reg.RPL_CFG_EXP_MIB * 1048576)) =
      some true) ∧ ((((recorded none).woken 0).selected.map fun sel => ((sel.filter fun r => r.kind == 1).map
      fun r => (dropletOf ((r.bytes.drop 16).take 64)).version).eraseDups) = some [])) ∧
    ((recorded (some { step := 2 })).rpl.replay = some { step := 2 } ∧ (recorded (some
      { step := 2 })).weir.switching = none) ∧
    MayWrite (recorded (some { step := 2 })) 0 15 ∧
    ((((recorded (some { step := 2 })).woken 0).isSup 0 = true) ∧ ((recorded (some { step := 4 })).rpl.replay
      = some { step := 4 } ∧ (recorded (some { step := 4 })).weir.switching = none)) ∧
    MayWrite (recorded (some { step := 4 })) 0 15 ∧
    ((((recorded (some { step := 4 })).woken 0).isSup 0 = true) ∧ ((recorded (some { step := 6 })).rpl.replay
      = some { step := 6 } ∧ (recorded (some { step := 6 })).weir.switching = none)) ∧
    MayWrite (recorded (some { step := 6 })) 0 15 ∧
    (((recorded (some { step := 6 })).woken 0).isSup 0 = true) :=
  ⟨mayWrite_of (by decide),
    by decide,
    mayWrite_of (by decide),
    by decide,
    by decide,
    by decide,
    mayWrite_of (by decide),
    by decide,
    mayWrite_of (by decide),
    by decide,
    mayWrite_of (by decide),
    by decide⟩

/-- A link in reset and one that answers, the last bytes of a window, both widths of an atomic, the two outcomes of an
access, a partition in reset and out of it. -/
theorem witness_LinksAndWindowsServeTheirHosts :
    (((linked [] []).islandSelected 7 = true ∧ (linked [] []).boot.brownout = false ∧ (linked [] []).boot.held
      = false ∧ 2 ≤ (linked [] []).boot.stage) ∧ (State.reset.boot.held = true ∧ (released.setAll
      [(Reg.GEN_STRAP_QMODE3, 0, 0, 1)]).boot.stage < 2 ∧ (released.setAll [(Reg.GEN_STRAP_QMODE3, 0, 0,
      1)]).islandSelected 7 = true) ∧ ((linked [] []).bar4Ready 3 = true ∧ (linked [] []).hostWakes.winOk 3 4095
      1 false = true ∧ (linked [] []).hostWakes.winOk 3 0 4096 true = true ∧ (linked [] []).hostWakes.winOk 3
      4092 4 true = true ∧ (linked [] []).hostWakes.winOk 3 4088 8 true = true) ∧ (((linked []
      []).hostWakes.ipdAtomic ((linked [] []).hostWakes.winBase 3 + 4088) 8 3 5 6).1 = some 0 ∧ ((linked []
      []).hostWakes.ipdAtomic ((linked [] []).hostWakes.winBase 3 + 4092) 4 2 5 6).1 = some 0)) ∧
    (((linked [] [(Reg.PWR_STATUS_STATE, 0, 0, 3)]).rd Reg.PWR_STATUS_STATE = 3 ∧ (linked [] []).rd
      Reg.PWR_STATUS_STATE ≠ 3) ∧ (((linked [] []).linkOf 3).isSome = true ∧ ((linked [] []).imageRuns ||
      (linked [] []).bridgeRuns) = true) ∧ ((linked [] []).partOf 3 = some 3 ∧ (linked [] []).islandInReset 7 =
      false) ∧ ((linked [] []).on Reg.HST_STATUS_RESET_BUSY 0 3 = false ∧ (linked []
      [(Reg.HST_STATUS_RESET_BUSY, 0, 3, 1)]).on Reg.HST_STATUS_RESET_BUSY 0 3 = true)) :=
  ⟨by decide,
    by decide⟩

/-- The last queue of the last partition in each state, a hold that ends, a reset of a partition that may begin and one
that ends. -/
theorem witness_HostQueuesAreEnabledShutDownAndReset :
    MayWrite (queued 1 []) 3 17 ∧
    ((((queued 1 []).woken 3).ringState false 63 3 = 1 ∧ ((queued 1 []).woken 3).ringErr false 63 3 = false ∧
      ((queued 1 []).woken 3).ringState true 63 3 = 1 ∧ ((queued 1 []).woken 3).ringErr true 63 3 = false) ∧
      ((queued 2 []).ringState false 63 3 = 2 ∧ (queued 2 []).ringState true 63 3 = 2 ∧ SMap.get (queued 2
      []).hst.fetched (3 * 64 + 63) 0 = 0) ∧
      ((let s : State := { run with hst := { run.hst with itr := [(511, 5)] } }; SMap.find (s.upTo 5).hst.itr (3
      * 128 + 127) = some 5 ∧ 5 ≤ (s.upTo 5).now))) ∧
    MayWrite run 0 17 ∧
    (((run.woken 0).isSup 0 = true) ∧ (((run.woken 0).setFld Reg.HST_PRST_PART 0 0 3).on
      Reg.HST_STATUS_RESET_BUSY 0 3 = false) ∧ ((linked [] [(Reg.HST_STATUS_RESET_BUSY, 0, 3, 1)]).partDrained 3
      = true) ∧ ((let s : State := { run with hst := { run.hst with eoeDown := [(3, 0)] } }; SMap.find (s.upTo
      (10 ^ 8)).hst.eoeDown 3 = some 0 ∧ (s.upTo (10 ^ 8)).imageRuns = true ∧ 0 + 10 ^ 8 ≤ (s.upTo (10 ^
      8)).now))) :=
  ⟨mayWrite_of (by decide),
    by decide,
    mayWrite_of (by decide),
    by decide⟩

/-- A copy that fits the ring, a descriptor of the greatest length, a frame and a message of a host behind a port. -/
theorem witness_HostMessagesCrossTheLinks :
    ((((queued 1 []).upTo 5).imageRuns = true ∧ ((queued 1 []).upTo 5).linkRuns 3 = true ∧ ((queued 1 []).upTo
      5).on Reg.HST_STATUS_RESET_BUSY 0 3 = false) ∧ (((queued 1 []).upTo 5).inTurn 3 (((queued 1 []).upTo
      5).rxReady 3) = some 63 ∧ ((queued 1 []).upTo 5).rxHead 3 63 = some
      { d := { len := 64 }, len := 64, q := 512 + 255 }) ∧ (((queued 1 []).upTo 5).copyLost 3 63
      { d := { len := 64 }, len := 64, q := 512 + 255 } = false ∧ ((queued 1 []).upTo 5).msgSlots 3 63 64 ≤ 2 ^
      ((queued 1 []).upTo 5).ringLog false 63 3) ∧ (((queued 1 []).upTo 5).inTurn (4 + 3) (((queued 1 []).upTo
      5).txReady 3) = some 63 ∧ (((queued 1 []).upTo 5).touchHost 3 && !((queued 1 []).upTo 5).touchSource
      (inPortHost 3)) = false ∧ ((queued 1 []).upTo 5).allocWaits (((queued 1 []).upTo 5).txPool 3) 3 = false)) ∧
    (((touched.upTo 5).imageRuns = true ∧ (touched.upTo 5).linkRuns 3 = true ∧ (touched.upTo 5).on
      Reg.HST_STATUS_RESET_BUSY 0 3 = false ∧ (touched.upTo 5).inTurn (4 + 3) ((touched.upTo 5).txReady 3) =
      some 63 ∧ ((touched.upTo 5).touchHost 3 && !(touched.upTo 5).touchSource (inPortHost 3)) = true) ∧
      ((txWaits.upTo 5).imageRuns = true ∧ (txWaits.upTo 5).linkRuns 3 = true ∧ (txWaits.upTo 5).on
      Reg.HST_STATUS_RESET_BUSY 0 3 = false ∧ (txWaits.upTo 5).inTurn (4 + 3) ((txWaits.upTo 5).txReady 3) =
      some 63 ∧ ((txWaits.upTo 5).touchHost 3 && !(txWaits.upTo 5).touchSource (inPortHost 3)) = false ∧
      (txWaits.upTo 5).allocWaits ((txWaits.upTo 5).txPool 3) 3 = true) ∧ (leNat (((takeBytes 32 (List.replicate
      8 0 ++ leBytes 4 16383 ++ [1])).drop 8).take 4) < 2 ^ 14 ∧ leNat (((takeBytes 32 (List.replicate 8 0 ++
      leBytes 4 16383 ++ [1])).drop 12).take 4) < 2) ∧ ((overPort.upTo 5).isEoe 31 (eoeBytes (overPort.upTo 5))
      = true ∧ (overPort.upTo 5).eoePart 31 = some 3 ∧ (overPort.upTo 5).on Reg.HST_STATUS_RESET_BUSY 0 3 =
      false)) ∧
    (((((eoeBytes (overPort.upTo 5)).drop (14 + 0)).headD 0).toNat = 1) ∧ ((((eoeBytes (overPort.upTo 5)).drop
      (14 + 1)).headD 0).toNat = 3) ∧ ((((eoeBytes (overPort.upTo 5)).drop (14 + 2)).headD 0).toNat = 63) ∧
      ((((eoeBytes (overPort.upTo 5)).drop (14 + 3)).headD 0).toNat = 2)) ∧
    ((16 ≤ (overPort.upTo 5).bindOf 3 ∧ (overPort.upTo 5).rxHead 3 63 = some
      { d := { len := 64 }, len := 64, q := 512 + 255 } ∧ (overPort.upTo 5).copyLost 3 63
      { d := { len := 64 }, len := 64, q := 512 + 255 } = false) ∧ (((overPort.upTo 5).allocHead 3).1 = (stOk,
      0)) ∧ (((overPort.upTo 5).eoeFrame 3 63 0 { d := { len := 64 }, len := 64, q := 512 + 255 }).length ≤
      256)) :=
  ⟨by decide,
    by decide,
    by decide,
    by decide⟩

/-- A frame of each opcode, an address at each page that is served, and a frame with a wrong code. -/
theorem witness_ManagementFramesAreServed :
    (((run.upTo 5).boot.brownout = false ∧ (run.upTo 5).spiBusy = false) ∧ (frameByte (spi [1, 0x00, 0xff,
      0xfc, 0, 0, 0, 0, 0]) 0 = 1 ∧ spiGood (spi [1, 0x00, 0xff, 0xfc, 0, 0, 0, 0, 0]) = true ∧ spiAddr (spi [1,
      0x00, 0xff, 0xfc, 0, 0, 0, 0, 0]) % 4 = 0 ∧ spiReadPage (spiAddr (spi [1, 0x00, 0xff, 0xfc, 0, 0, 0, 0,
      0]) / 65536) = true) ∧ (frameByte (spi [1, 0x10, 0xff, 0xfc, 0, 0, 0, 0, 0]) 0 = 1 ∧ spiGood (spi [1,
      0x10, 0xff, 0xfc, 0, 0, 0, 0, 0]) = true ∧ spiAddr (spi [1, 0x10, 0xff, 0xfc, 0, 0, 0, 0, 0]) % 4 = 0 ∧
      spiReadPage (spiAddr (spi [1, 0x10, 0xff, 0xfc, 0, 0, 0, 0, 0]) / 65536) = true) ∧
      ((let f := spi [2, 0x10, 0, 8, 0, 0, 0, 0x1F]; frameByte f 0 = 2 ∧ spiGood f = true ∧ spiAddr f / 65536 =
      16 ∧ spiAddr f % 65536 = 8 ∧ spiWritable (spiAddr f % 65536) = true ∧ bitOf (beNat ((f.drop 4).take 4)) 4
      = true))) ∧
    (((let f := spi [2, 0x10, 0, 16, 0, 0, 0, 0x1F]; frameByte f 0 = 2 ∧ spiGood f = true ∧ spiAddr f / 65536
      = 16 ∧ spiAddr f % 65536 = 16 ∧ spiWritable (spiAddr f % 65536) = true ∧ bitOf (beNat ((f.drop 4).take 4))
      4 = true)) ∧ ((let f := spi [2, 0x10, 0, 20, 0, 0, 0, 0x1F]; frameByte f 0 = 2 ∧ spiGood f = true ∧
      spiAddr f / 65536 = 16 ∧ spiAddr f % 65536 = 20 ∧ spiWritable (spiAddr f % 65536) = true ∧ bitOf (beNat
      ((f.drop 4).take 4)) 4 = true)) ∧ ((let f := spi [2, 0x10, 2, 4, 0, 0, 0, 0x1F]; frameByte f 0 = 2 ∧
      spiGood f = true ∧ spiAddr f / 65536 = 16 ∧ spiAddr f % 65536 = 516 ∧ spiWritable (spiAddr f % 65536) =
      true ∧ bitOf (beNat ((f.drop 4).take 4)) 4 = true)) ∧ (frameByte (spi [0x20, 0, 0, 0, 0x5A, 0xF0, 0,
      0x20]) 0 = 32 ∧ spiGood (spi [0x20, 0, 0, 0, 0x5A, 0xF0, 0, 0x20]) = true)) ∧
    ((frameByte (spi [0x21, 0, 0, 0, 0x5A, 0xF0, 0, 0x21]) 0 = 33 ∧ spiGood (spi [0x21, 0, 0, 0, 0x5A, 0xF0,
      0, 0x21]) = true) ∧ (frameByte (spi [0x22, 0, 0, 0, 0x5A, 0xF0, 0, 0x22]) 0 = 34 ∧ spiGood (spi [0x22, 0,
      0, 0, 0x5A, 0xF0, 0, 0x22]) = true) ∧ (frameByte (spi [0x23, 0, 0, 0, 0x5A, 0xF0, 0, 0x23]) 0 = 35 ∧
      spiGood (spi [0x23, 0, 0, 0, 0x5A, 0xF0, 0, 0x23]) = true) ∧ (((run.upTo 5).boot.held && (run.upTo
      5).boot.stage != 4 && !(run.upTo 5).boot.dry) = false ∧ (run.upTo 5).boot.dry = false ∧ (run.upTo 5).on
      Reg.FTH_STATUS_LOCKDOWN 0 0 = false)) ∧
    (((((up [] [(Reg.RPL_STATUS_RECORDING, 0, 0, 1), (Reg.RPL_CFG_RING_MIB, 0, 0, 4)]).upTo 5).freeze 2).1 =
      true ∧ ((up [] [(Reg.RPL_STATUS_RECORDING, 0, 0, 1), (Reg.RPL_CFG_RING_MIB, 0, 0, 4)]).upTo 5).spiBusy =
      false) ∧ (spiGood [0x20, 0, 0, 0, 0, 0, 0, 0, 0] = false ∧ (spiLength (frameByte [0x20, 0, 0, 0, 0, 0, 0,
      0, 0] 0)).isNone = false)) :=
  ⟨by decide,
    by decide,
    by decide,
    by decide⟩

/-- The target as it stands and another, a dwell that has passed, a wake, a trip that has cooled, a breach, a sample. -/
theorem witness_PowerStatesAndGaugesFollowTheirRules :
    ((((up [] []).upTo (10 ^ 12)).imageRuns = true ∧ ((up [] []).upTo (10 ^ 12)).rd Reg.PWR_STATUS_STATE < 3 ∧
      ((up [] []).upTo (10 ^ 12)).on Reg.PWR_STATUS_BUSY 0 0 = false ∧ ((up [] []).upTo (10 ^ 12)).powerTarget =
      ((up [] []).upTo (10 ^ 12)).rd Reg.PWR_STATUS_TARGET) ∧ (((up [] [(Reg.PWR_STATUS_STATE, 0, 0, 0),
      (Reg.PWR_STATUS_TARGET, 0, 0, 1)]).upTo (10 ^ 12)).powerTarget ≠ ((up [] [(Reg.PWR_STATUS_STATE, 0, 0, 0),
      (Reg.PWR_STATUS_TARGET, 0, 0, 1)]).upTo (10 ^ 12)).rd Reg.PWR_STATUS_TARGET ∧ ((up []
      [(Reg.PWR_STATUS_STATE, 0, 0, 0), (Reg.PWR_STATUS_TARGET, 0, 0, 1)]).upTo (10 ^ 12)).imageRuns = true ∧
      ((up [] [(Reg.PWR_STATUS_STATE, 0, 0, 0), (Reg.PWR_STATUS_TARGET, 0, 0, 1)]).upTo (10 ^ 12)).rd
      Reg.PWR_STATUS_STATE < 3 ∧ ((up [] [(Reg.PWR_STATUS_STATE, 0, 0, 0), (Reg.PWR_STATUS_TARGET, 0, 0,
      1)]).upTo (10 ^ 12)).on Reg.PWR_STATUS_BUSY 0 0 = false) ∧ ((run.upTo 5).wakeEnabled 7 = true) ∧
      ((({ up [] [(Reg.PWR_WAKE_TIMER_MS, 0, 0, 5)] with boot := { run.boot with dry := true } } : State).upTo
      (10 ^ 12)).boot.dry = true ∧
      (({ up [] [(Reg.PWR_WAKE_TIMER_MS, 0, 0, 5)] with boot := { run.boot with dry := true } } : State).upTo
      (10 ^ 12)).rd Reg.PWR_WAKE_TIMER_MS ≠ 0 ∧
      (({ up [] [(Reg.PWR_WAKE_TIMER_MS, 0, 0, 5)] with boot := { run.boot with dry := true } } : State).upTo
      (10 ^ 12)).pwr.sleptAt +
      (({ up [] [(Reg.PWR_WAKE_TIMER_MS, 0, 0, 5)] with boot := { run.boot with dry := true } } : State).upTo
      (10 ^ 12)).rd Reg.PWR_WAKE_TIMER_MS * 1000000 ≤
      (({ up [] [(Reg.PWR_WAKE_TIMER_MS, 0, 0, 5)] with boot := { run.boot with dry := true } } : State).upTo
      (10 ^ 12)).wall)) ∧
    (((up [] [(Reg.PWR_STATUS_TARGET, 0, 0, 1), (Reg.PWR_CFG_EN, 0, 0, 1), (Reg.PWR_IMG_LAT_LAT, 0, 0,
      0xFFFFF), (Reg.PWR_LOAD_LOAD, 0, 0, 10), (Reg.HST_LAT_LAT, 0, 0, 0xFFFFF), (Reg.HST_LAT_LAT, 0, 1,
      0xFFFFF), (Reg.HST_LAT_LAT, 0, 2, 0xFFFFF), (Reg.HST_LAT_LAT, 0, 3, 0xFFFFF)]).upTo (10 ^ 12)).imageRuns =
      true ∧ ((up [] [(Reg.PWR_STATUS_TARGET, 0, 0, 1), (Reg.PWR_CFG_EN, 0, 0, 1), (Reg.PWR_IMG_LAT_LAT, 0, 0,
      0xFFFFF), (Reg.PWR_LOAD_LOAD, 0, 0, 10), (Reg.HST_LAT_LAT, 0, 0, 0xFFFFF), (Reg.HST_LAT_LAT, 0, 1,
      0xFFFFF), (Reg.HST_LAT_LAT, 0, 2, 0xFFFFF), (Reg.HST_LAT_LAT, 0, 3, 0xFFFFF)]).upTo (10 ^ 12)).rd
      Reg.PWR_STATUS_STATE < 3 ∧ ((up [] [(Reg.PWR_STATUS_TARGET, 0, 0, 1), (Reg.PWR_CFG_EN, 0, 0, 1),
      (Reg.PWR_IMG_LAT_LAT, 0, 0, 0xFFFFF), (Reg.PWR_LOAD_LOAD, 0, 0, 10), (Reg.HST_LAT_LAT, 0, 0, 0xFFFFF),
      (Reg.HST_LAT_LAT, 0, 1, 0xFFFFF), (Reg.HST_LAT_LAT, 0, 2, 0xFFFFF), (Reg.HST_LAT_LAT, 0, 3,
      0xFFFFF)]).upTo (10 ^ 12)).on Reg.PWR_STATUS_BUSY 0 0 = false ∧ ((up [] [(Reg.PWR_STATUS_TARGET, 0, 0, 1),
      (Reg.PWR_CFG_EN, 0, 0, 1), (Reg.PWR_IMG_LAT_LAT, 0, 0, 0xFFFFF), (Reg.PWR_LOAD_LOAD, 0, 0, 10),
      (Reg.HST_LAT_LAT, 0, 0, 0xFFFFF), (Reg.HST_LAT_LAT, 0, 1, 0xFFFFF), (Reg.HST_LAT_LAT, 0, 2, 0xFFFFF),
      (Reg.HST_LAT_LAT, 0, 3, 0xFFFFF)]).upTo (10 ^ 12)).powerTarget = ((up [] [(Reg.PWR_STATUS_TARGET, 0, 0,
      1), (Reg.PWR_CFG_EN, 0, 0, 1), (Reg.PWR_IMG_LAT_LAT, 0, 0, 0xFFFFF), (Reg.PWR_LOAD_LOAD, 0, 0, 10),
      (Reg.HST_LAT_LAT, 0, 0, 0xFFFFF), (Reg.HST_LAT_LAT, 0, 1, 0xFFFFF), (Reg.HST_LAT_LAT, 0, 2, 0xFFFFF),
      (Reg.HST_LAT_LAT, 0, 3, 0xFFFFF)]).upTo (10 ^ 12)).rd Reg.PWR_STATUS_TARGET ∧ ((up []
      [(Reg.PWR_STATUS_TARGET, 0, 0, 1), (Reg.PWR_CFG_EN, 0, 0, 1), (Reg.PWR_IMG_LAT_LAT, 0, 0, 0xFFFFF),
      (Reg.PWR_LOAD_LOAD, 0, 0, 10), (Reg.HST_LAT_LAT, 0, 0, 0xFFFFF), (Reg.HST_LAT_LAT, 0, 1, 0xFFFFF),
      (Reg.HST_LAT_LAT, 0, 2, 0xFFFFF), (Reg.HST_LAT_LAT, 0, 3, 0xFFFFF)]).upTo (10 ^ 12)).rd
      Reg.PWR_STATUS_STATE < ((up [] [(Reg.PWR_STATUS_TARGET, 0, 0, 1), (Reg.PWR_CFG_EN, 0, 0, 1),
      (Reg.PWR_IMG_LAT_LAT, 0, 0, 0xFFFFF), (Reg.PWR_LOAD_LOAD, 0, 0, 10), (Reg.HST_LAT_LAT, 0, 0, 0xFFFFF),
      (Reg.HST_LAT_LAT, 0, 1, 0xFFFFF), (Reg.HST_LAT_LAT, 0, 2, 0xFFFFF), (Reg.HST_LAT_LAT, 0, 3,
      0xFFFFF)]).upTo (10 ^ 12)).rd Reg.PWR_STATUS_TARGET ∧ ((up [] [(Reg.PWR_STATUS_TARGET, 0, 0, 1),
      (Reg.PWR_CFG_EN, 0, 0, 1), (Reg.PWR_IMG_LAT_LAT, 0, 0, 0xFFFFF), (Reg.PWR_LOAD_LOAD, 0, 0, 10),
      (Reg.HST_LAT_LAT, 0, 0, 0xFFFFF), (Reg.HST_LAT_LAT, 0, 1, 0xFFFFF), (Reg.HST_LAT_LAT, 0, 2, 0xFFFFF),
      (Reg.HST_LAT_LAT, 0, 3, 0xFFFFF)]).upTo (10 ^ 12)).pwr.since + ((up [] [(Reg.PWR_STATUS_TARGET, 0, 0, 1),
      (Reg.PWR_CFG_EN, 0, 0, 1), (Reg.PWR_IMG_LAT_LAT, 0, 0, 0xFFFFF), (Reg.PWR_LOAD_LOAD, 0, 0, 10),
      (Reg.HST_LAT_LAT, 0, 0, 0xFFFFF), (Reg.HST_LAT_LAT, 0, 1, 0xFFFFF), (Reg.HST_LAT_LAT, 0, 2, 0xFFFFF),
      (Reg.HST_LAT_LAT, 0, 3, 0xFFFFF)]).upTo (10 ^ 12)).rd Reg.PWR_CFG_DWELL * 1000000 ≤ ((up []
      [(Reg.PWR_STATUS_TARGET, 0, 0, 1), (Reg.PWR_CFG_EN, 0, 0, 1), (Reg.PWR_IMG_LAT_LAT, 0, 0, 0xFFFFF),
      (Reg.PWR_LOAD_LOAD, 0, 0, 10), (Reg.HST_LAT_LAT, 0, 0, 0xFFFFF), (Reg.HST_LAT_LAT, 0, 1, 0xFFFFF),
      (Reg.HST_LAT_LAT, 0, 2, 0xFFFFF), (Reg.HST_LAT_LAT, 0, 3, 0xFFFFF)]).upTo (10 ^ 12)).wall) ∧
    MayWrite run 0 12 ∧
    ((((run.woken 0).upTo 5)).isSup 0 = true ∧ (((run.woken 0).upTo 5).linkOf 0).isNone = false ∧ ((run.woken
      0).upTo 5).imageRuns = true ∧ ((run.woken 0).upTo 5).boot.dry = false) ∧
    MayWrite (up [] [(Reg.PWR_STATUS_STATE, 0, 0, 2)]) 0 12 ∧
    ((((((up [] [(Reg.PWR_STATUS_STATE, 0, 0, 2)]).woken 0).upTo 5)).rd Reg.PWR_STATUS_STATE ≠ 0 ∧ (((((up []
      [(Reg.PWR_STATUS_STATE, 0, 0, 2)]).woken 0).upTo 5)).wr Reg.PWR_CMD_RESULT stOk).rd Reg.PWR_STATUS_STATE ≠
      3 ∧ (((((up [] [(Reg.PWR_STATUS_STATE, 0, 0, 2)]).woken 0).upTo 5)).wr Reg.PWR_CMD_RESULT stOk).on
      Reg.PWR_STATUS_BUSY 0 0 = false) ∧ (((powered true none).upTo 5).boot.coreEn = true) ∧
      ((({ run with boot := { run.boot with tripped := true } } : State).upTo 5).boot.tripped = true) ∧ (∀ n <
      24, signed 16 ((({ run with boot := { run.boot with tripped := true } } : State).upTo 5).fld
      Reg.GAU_TEMP_TEMP n 0) ≤ 16 * ((({ run with boot := { run.boot with tripped := true } } : State).upTo
      5).rd Reg.GAU_THRESH_TRIP : Int) - 240)) ∧
    ((((up [] [(Reg.PWR_STATUS_FLOOR_BREACH, 0, 0, 1)]).upTo (10 ^ 12)).on Reg.PWR_STATUS_FLOOR_BREACH 0 0 =
      true) ∧ ((run.upTo 5).boot.brownout = false)) :=
  ⟨by decide,
    by decide,
    mayWrite_of (by decide),
    by decide,
    mayWrite_of (by decide),
    by decide,
    by decide⟩

/-- Each command with its first and last argument that is served. -/
theorem witness_FountainheadCommandsCompleteByTheirRules :
    MayWrite run 0 14 ∧
    (((run.woken 0).isSup 0 = true) ∧ ((({ run with fth := { run.fth with nonce := some ([], 5), lc := 2 } } :
      State).upTo 5).fth.nonce = some ([], 5) ∧ 5 ≤
      (({ run with fth := { run.fth with nonce := some ([], 5), lc := 2 } } : State).upTo 5).wall) ∧ (((run.upTo
      5).tokenStatus []) = some stInvalid) ∧ ((({ run with fth := { run.fth with press := some ([], 0, 0) } } :
      State).upTo 10000000000).fth.press = some ([], 0, 0) ∧ 0 <
      (({ run with fth := { run.fth with press := some ([], 0, 0) } } : State).upTo 10000000000).wall ∧
      (({ run with fth := { run.fth with press := some ([], 0, 0) } } : State).upTo 10000000000).wall ≤ 0 +
      10000000000 ∧ 0 + 10000000000 ≤ (({ run with fth := { run.fth with press := some ([], 0, 0) } } :
      State).upTo 10000000000).wall)) ∧
    (((({ run with fth := { run.fth with lc := 1, seed := some [], counter0 := 0 }, img := { run.img with rollback := 5 } }
      : State).woken 0).fth.lc ≠ 0 ∧
      (({ run with fth := { run.fth with lc := 1, seed := some [], counter0 := 0 }, img := { run.img with rollback := 5 } }
      : State).woken 0).fth.lc ≠ 4 ∧
      (({ run with fth := { run.fth with lc := 1, seed := some [], counter0 := 0 }, img := { run.img with rollback := 5 } }
      : State).woken 0).fth.seed = some []) ∧
      ((({ run with fth := { run.fth with lc := 1, seed := some [], counter0 := 0 }, img := { run.img with rollback := 5 } }
      : State).woken 0).imageRuns = true ∧
      (({ run with fth := { run.fth with lc := 1, seed := some [], counter0 := 0 }, img := { run.img with rollback := 5 } }
      : State).woken 0).fth.counter0 <
      (({ run with fth := { run.fth with lc := 1, seed := some [], counter0 := 0 }, img := { run.img with rollback := 5 } }
      : State).woken 0).img.rollback)) ∧
    MayWrite
      ({ run with fth := { run.fth with lc := 0, seed := some [], counter0 := 0 }, img := { run.img with rollback := 5 } }
      : State) 0 14 ∧
    ((((({ run with fth := { run.fth with lc := 0, seed := some [], counter0 := 0 }, img := { run.img with rollback := 5 } }
      : State).woken 0).setFld Reg.FTH_CMD_ARG 0 0 1).pageOk 0 14 = true ∧
      ((({ run with fth := { run.fth with lc := 0, seed := some [], counter0 := 0 }, img := { run.img with rollback := 5 } }
      : State).woken 0).setFld Reg.FTH_CMD_ARG 0 0 1).isSup 0 = true) ∧
      (((({ run with fth := { run.fth with lc := 0, seed := some [], counter0 := 0 }, img := { run.img with rollback := 5 } }
      : State).woken 0).setFld Reg.FTH_CMD_ARG 0 0 1).fth.lcPending.isSome = false ∧ lcAdvanceOk
      ((({ run with fth := { run.fth with lc := 0, seed := some [], counter0 := 0 }, img := { run.img with rollback := 5 } }
      : State).woken 0).setFld Reg.FTH_CMD_ARG 0 0 1).fth.lc 1 = true)) ∧
    MayWrite
      ({ run with fth := { run.fth with lc := 0, seed := some [], counter0 := 0 }, img := { run.img with rollback := 5 } }
      : State) 0 14 ∧
    ((((({ run with fth := { run.fth with lc := 0, seed := some [], counter0 := 0 }, img := { run.img with rollback := 5 } }
      : State).woken 0).setFld Reg.FTH_CMD_ARG 0 0 4).pageOk 0 14 = true ∧
      ((({ run with fth := { run.fth with lc := 0, seed := some [], counter0 := 0 }, img := { run.img with rollback := 5 } }
      : State).woken 0).setFld Reg.FTH_CMD_ARG 0 0 4).isSup 0 = true) ∧
      (((({ run with fth := { run.fth with lc := 0, seed := some [], counter0 := 0 }, img := { run.img with rollback := 5 } }
      : State).woken 0).setFld Reg.FTH_CMD_ARG 0 0 4).fth.lcPending.isSome = false ∧ lcAdvanceOk
      ((({ run with fth := { run.fth with lc := 0, seed := some [], counter0 := 0 }, img := { run.img with rollback := 5 } }
      : State).woken 0).setFld Reg.FTH_CMD_ARG 0 0 4).fth.lc 4 = true)) ∧
    MayWrite
      ({ run with fth := { run.fth with lc := 1, seed := some [], counter0 := 0 }, img := { run.img with rollback := 5 } }
      : State) 0 14 ∧
    ((((({ run with fth := { run.fth with lc := 1, seed := some [], counter0 := 0 }, img := { run.img with rollback := 5 } }
      : State).woken 0).setFld Reg.FTH_CMD_ARG 0 0 4).pageOk 0 14 = true ∧
      ((({ run with fth := { run.fth with lc := 1, seed := some [], counter0 := 0 }, img := { run.img with rollback := 5 } }
      : State).woken 0).setFld Reg.FTH_CMD_ARG 0 0 4).isSup 0 = true) ∧
      (((({ run with fth := { run.fth with lc := 1, seed := some [], counter0 := 0 }, img := { run.img with rollback := 5 } }
      : State).woken 0).setFld Reg.FTH_CMD_ARG 0 0 4).fth.lcPending.isSome = false ∧ lcAdvanceOk
      ((({ run with fth := { run.fth with lc := 1, seed := some [], counter0 := 0 }, img := { run.img with rollback := 5 } }
      : State).woken 0).setFld Reg.FTH_CMD_ARG 0 0 4).fth.lc 4 = true)) ∧
    MayWrite
      ({ run with fth := { run.fth with lc := 3, seed := some [], counter0 := 0 }, img := { run.img with rollback := 5 } }
      : State) 0 14 ∧
    ((((({ run with fth := { run.fth with lc := 3, seed := some [], counter0 := 0 }, img := { run.img with rollback := 5 } }
      : State).woken 0).setFld Reg.FTH_CMD_ARG 0 0 4).pageOk 0 14 = true ∧
      ((({ run with fth := { run.fth with lc := 3, seed := some [], counter0 := 0 }, img := { run.img with rollback := 5 } }
      : State).woken 0).setFld Reg.FTH_CMD_ARG 0 0 4).isSup 0 = true) ∧
      (((({ run with fth := { run.fth with lc := 3, seed := some [], counter0 := 0 }, img := { run.img with rollback := 5 } }
      : State).woken 0).setFld Reg.FTH_CMD_ARG 0 0 4).fth.lcPending.isSome = false ∧ lcAdvanceOk
      ((({ run with fth := { run.fth with lc := 3, seed := some [], counter0 := 0 }, img := { run.img with rollback := 5 } }
      : State).woken 0).setFld Reg.FTH_CMD_ARG 0 0 4).fth.lc 4 = true)) ∧
    MayWrite ({ run with fth := { run.fth with lc := 1, keys := [(0, [5])], prov := some [] } } : State) 0 14 ∧
    ((((({ run with fth := { run.fth with lc := 1, keys := [(0, [5])], prov := some [] } } : State).woken
      0).setFld Reg.FTH_CMD_ARG 0 0 2).pageOk 0 14 = true ∧
      ((({ run with fth := { run.fth with lc := 1, keys := [(0, [5])], prov := some [] } } : State).woken
      0).setFld Reg.FTH_CMD_ARG 0 0 2).isSup 0 = true) ∧
      (((({ run with fth := { run.fth with lc := 1, keys := [(0, [5])], prov := some [] } } : State).woken
      0).setFld Reg.FTH_CMD_ARG 0 0 2).fth.lcPending.isSome = false ∧ lcAdvanceOk
      ((({ run with fth := { run.fth with lc := 1, keys := [(0, [5])], prov := some [] } } : State).woken
      0).setFld Reg.FTH_CMD_ARG 0 0 2).fth.lc 2 = true ∧
      ((({ run with fth := { run.fth with lc := 1, keys := [(0, [5])], prov := some [] } } : State).woken
      0).setFld Reg.FTH_CMD_ARG 0 0 2).liveKeys.isEmpty = false ∧
      ((({ run with fth := { run.fth with lc := 1, keys := [(0, [5])], prov := some [] } } : State).woken
      0).setFld Reg.FTH_CMD_ARG 0 0 2).fth.prov.isNone = false)) ∧
    MayWrite run 0 14 ∧
    ((((run.woken 0).setFld Reg.FTH_CMD_ARG 0 0 0).pageOk 0 14 = true ∧ ((run.woken 0).setFld Reg.FTH_CMD_ARG
      0 0 0).isSup 0 = true) ∧ (((run.woken 0).setFld Reg.FTH_CMD_ARG 0 0 0).slotRuns 0 = false)) ∧
    MayWrite run 0 14 ∧
    ((((run.woken 0).setFld Reg.FTH_CMD_ARG 0 0 1).pageOk 0 14 = true ∧ ((run.woken 0).setFld Reg.FTH_CMD_ARG
      0 0 1).isSup 0 = true) ∧ (((run.woken 0).setFld Reg.FTH_CMD_ARG 0 0 1).slotRuns 1 = false)) ∧
    MayWrite run 3 14 ∧
    ((((run.woken 0).winFields 0 1 1 1919).isSup 0 = true ∧ ((run.woken 0).winFields 0 1 1 1919).slotRuns 1 =
      false ∧ ((run.woken 0).winFields 0 2 1 3).isSup 0 = true) ∧ ((((run.woken 0).winFields 0 0 0
      0).windowSource 0 0).isSome = true) ∧ ((((run.woken 0).winFields 0 1 0 1919).windowSource 1 1919).isSome =
      true) ∧ ((((run.woken 0).winFields 0 2 0 3).windowSource 2 3).isSome = true)) ∧
    (((((run.woken 0).winFields 0 3 0 3).windowSource 3 3).isSome = true) ∧ ((((run.woken 0).winFields 0 5 0
      0).windowSource 5 0).isSome = true) ∧ ((((run.woken 0).winFields 0 6 0 3).windowSource 6 3).isSome =
      true)) :=
  ⟨mayWrite_of (by decide),
    by decide,
    by decide,
    mayWrite_of (by decide),
    by decide,
    mayWrite_of (by decide),
    by decide,
    mayWrite_of (by decide),
    by decide,
    mayWrite_of (by decide),
    by decide,
    mayWrite_of (by decide),
    by decide,
    mayWrite_of (by decide),
    by decide,
    mayWrite_of (by decide),
    by decide,
    mayWrite_of (by decide),
    by decide,
    by decide⟩

/-- A test under each mode, each outcome of a region, a reservoir entry that is new and one that stands, cursors at the
first word and behind the last. -/
theorem witness_SelfTestsAndLogsCompleteByTheirRules :
    MayWrite (tested [(Reg.FTH_ST_STATUS_RUNNING, 0, 0, 0)] 3) 0 14 ∧
    ((((tested [(Reg.FTH_ST_STATUS_RUNNING, 0, 0, 0)] 3).woken 0).isSup 0 = true ∧ (((tested
      [(Reg.FTH_ST_STATUS_RUNNING, 0, 0, 0)] 3).woken 0).wr Reg.FTH_ST_CMD_REGION 11).testLc = stOk ∧ (((tested
      [(Reg.FTH_ST_STATUS_RUNNING, 0, 0, 0)] 3).woken 0).wr Reg.FTH_ST_CMD_REGION 11).on
      Reg.FTH_ST_STATUS_RUNNING 0 0 = false ∧ (((tested [(Reg.FTH_ST_STATUS_RUNNING, 0, 0, 0)] 3).woken 0).wr
      Reg.FTH_ST_CMD_REGION 11).imageRuns = true ∧ (((tested [(Reg.FTH_ST_STATUS_RUNNING, 0, 0, 0)] 3).woken
      0).wr Reg.FTH_ST_CMD_REGION 11).testAllowed 11 = true) ∧ ((((tested [(Reg.FTH_ST_STATUS_RUNNING, 0, 0, 0)]
      2).woken 0).wr Reg.FTH_ST_CMD_REGION 12).imageRuns = false ∧ (((tested [(Reg.FTH_ST_STATUS_RUNNING, 0, 0,
      0)] 2).woken 0).wr Reg.FTH_ST_CMD_REGION 12).testLc = stOk ∧ ((tested [(Reg.FTH_ST_STATUS_RUNNING, 0, 0,
      0)] 3).woken 0).testLc = stOk)) ∧
    MayWrite (tested [(Reg.FTH_ST_STATUS_RUNNING, 0, 0, 1)] 3) 0 14 ∧
    ((((tested [(Reg.FTH_ST_STATUS_RUNNING, 0, 0, 1)] 3).woken 0).on Reg.FTH_ST_STATUS_RUNNING 0 0 = true ∧
      ((tested [(Reg.FTH_ST_STATUS_RUNNING, 0, 0, 1)] 3).woken 0).isSup 0 = true) ∧
      ((({ run with img := { run.img with set_ := SMap.set run.img.set_ (60 * 16777216) 12 } } : State).upTo (10
      ^ 12)).imageRuns = true ∧
      (({ run with img := { run.img with set_ := SMap.set run.img.set_ (60 * 16777216) 12 } } : State).upTo (10
      ^ 12)).testPeriod ≠ 0 ∧
      (({ run with img := { run.img with set_ := SMap.set run.img.set_ (60 * 16777216) 12 } } : State).upTo (10
      ^ 12)).fth.testAt +
      (({ run with img := { run.img with set_ := SMap.set run.img.set_ (60 * 16777216) 12 } } : State).upTo (10
      ^ 12)).testPeriod / 12 ≤
      (({ run with img := { run.img with set_ := SMap.set run.img.set_ (60 * 16777216) 12 } } : State).upTo (10
      ^ 12)).now ∧ (({ run with img := { run.img with set_ := SMap.set run.img.set_ (60 * 16777216) 12 } } :
      State).upTo (10 ^ 12)).on Reg.FTH_ST_STATUS_DEFERRED 0 0 = false) ∧ (((tested
      [(Reg.FTH_ST_STATUS_DEFERRED, 0, 0, 1)] 3).upTo 5).on Reg.FTH_ST_STATUS_DEFERRED 0 0 = true ∧ ((tested
      [(Reg.FTH_ST_STATUS_DEFERRED, 0, 0, 1)] 3).upTo 5).testAllowed ((tested [(Reg.FTH_ST_STATUS_DEFERRED, 0,
      0, 1)] 3).upTo 5).nextTest = true) ∧ (((tested [(Reg.FTH_ST_STATUS_RUNNING, 0, 0, 1),
      (Reg.FTH_ST_STATUS_STEP, 0, 0, 4), (Reg.FTH_ST_STATUS_REGION, 0, 0, 12)] 3).upTo 5).on
      Reg.FTH_ST_STATUS_RUNNING 0 0 = true ∧ ((tested [(Reg.FTH_ST_STATUS_RUNNING, 0, 0, 1),
      (Reg.FTH_ST_STATUS_STEP, 0, 0, 4), (Reg.FTH_ST_STATUS_REGION, 0, 0, 12)] 3).upTo 5).rd
      Reg.FTH_ST_STATUS_STEP = 4 ∧ ((tested [(Reg.FTH_ST_STATUS_RUNNING, 0, 0, 1), (Reg.FTH_ST_STATUS_STEP, 0,
      0, 4), (Reg.FTH_ST_STATUS_REGION, 0, 0, 12)] 3).upTo 5).rd Reg.FTH_ST_STATUS_REGION = 12)) ∧
    ((((tested [(Reg.FTH_ST_STATUS_RUNNING, 0, 0, 1), (Reg.FTH_ST_STATUS_STEP, 0, 0, 4),
      (Reg.FTH_ST_STATUS_REGION, 0, 0, 11)] 3).upTo 5).rd Reg.FTH_ST_STATUS_REGION = 11 ∧ (((((tested
      [(Reg.FTH_ST_STATUS_RUNNING, 0, 0, 1), (Reg.FTH_ST_STATUS_STEP, 0, 0, 4), (Reg.FTH_ST_STATUS_REGION, 0, 0,
      11)] 3).upTo 5).repaired []).scanEnd 11 none).2.basinOutcome 11 0 false).1 = 1 ∧ (((((tested
      [(Reg.FTH_ST_STATUS_RUNNING, 0, 0, 1), (Reg.FTH_ST_STATUS_STEP, 0, 0, 4), (Reg.FTH_ST_STATUS_REGION, 0, 0,
      11)] 3).upTo 5).repaired []).scanEnd 11 none).2.basinOutcome 11 3 false).1 = 3 ∧ ((((tested
      [(Reg.FTH_ST_STATUS_RUNNING, 0, 0, 1), (Reg.FTH_ST_STATUS_STEP, 0, 0, 4), (Reg.FTH_ST_STATUS_REGION, 0, 0,
      11)] 3).upTo 5).repaired []).scanEnd 11 none).1 = true) ∧ (((tested [(Reg.FTH_ST_STATUS_RUNNING, 0, 0, 1),
      (Reg.FTH_ST_STATUS_STEP, 0, 0, 4), (Reg.FTH_ST_STATUS_REGION, 0, 0, 11)] 3).upTo 5).spareSector = some 0)
      ∧
      (({ run with fth := { run.fth with flog := [{}], rsv := [{}], flogCur := [(1, 8)], rsvCur := [(1, 4)], rsvPending := [{ kind := 7 }] } }
      : State).fth.rsvPending = [{ kind := 7 }] ∧
      (({ run with fth := { run.fth with flog := [{}], rsv := [{}], flogCur := [(1, 8)], rsvCur := [(1, 4)], rsvPending := [{ kind := 7 }] } }
      : State).fth.rsv.any fun x => x.kind == 7 && x.unit == 0 && x.old == 0) = false ∧
      (({ run with fth := { run.fth with flog := [{}], rsv := [{}], flogCur := [(1, 8)], rsvCur := [(1, 4)], rsvPending := [{ kind := 7 }] } }
      : State).fth.rsv.any fun x => x.kind == 0 && x.unit == 0 && x.old == 0) = true) ∧
      ((let s : State := { run with rpl := { run.rpl with exp := some ([(0, 1)], 0) }, fth := { run.fth with seed := some [] } };
      s.rpl.exp = some ((0, 1) :: [], 0) ∧ s.fth.seed = some []))) ∧
    MayRead
      ({ run with fth := { run.fth with flog := [{}], rsv := [{}], flogCur := [(1, 8)], rsvCur := [(1, 4)], rsvPending := [{ kind := 7 }] } }
      : State) 3 14 ∧
    MayRead
      ({ run with fth := { run.fth with flog := [{}], rsv := [{}], flogCur := [(1, 8)], rsvCur := [(1, 4)], rsvPending := [{ kind := 7 }] } }
      : State) 4 14 ∧
    ((({ run with fth := { run.fth with flog := [{}], rsv := [{}], flogCur := [(1, 8)], rsvCur := [(1, 4)], rsvPending := [{ kind := 7 }] } }
      : State).woken 3).fth.flog[SMap.get
      (({ run with fth := { run.fth with flog := [{}], rsv := [{}], flogCur := [(1, 8)], rsvCur := [(1, 4)], rsvPending := [{ kind := 7 }] } }
      : State).woken 3).fth.flogCur 3 0 / 8]?.isSome = true ∧
      (({ run with fth := { run.fth with flog := [{}], rsv := [{}], flogCur := [(1, 8)], rsvCur := [(1, 4)], rsvPending := [{ kind := 7 }] } }
      : State).woken 1).fth.flog[SMap.get
      (({ run with fth := { run.fth with flog := [{}], rsv := [{}], flogCur := [(1, 8)], rsvCur := [(1, 4)], rsvPending := [{ kind := 7 }] } }
      : State).woken 1).fth.flogCur 1 0 / 8]? = none ∧
      (({ run with fth := { run.fth with flog := [{}], rsv := [{}], flogCur := [(1, 8)], rsvCur := [(1, 4)], rsvPending := [{ kind := 7 }] } }
      : State).woken 4).fth.rsv[SMap.get
      (({ run with fth := { run.fth with flog := [{}], rsv := [{}], flogCur := [(1, 8)], rsvCur := [(1, 4)], rsvPending := [{ kind := 7 }] } }
      : State).woken 4).fth.rsvCur 4 0 / 4]?.isSome = true ∧
      (({ run with fth := { run.fth with flog := [{}], rsv := [{}], flogCur := [(1, 8)], rsvCur := [(1, 4)], rsvPending := [{ kind := 7 }] } }
      : State).woken 1).fth.rsv[SMap.get
      (({ run with fth := { run.fth with flog := [{}], rsv := [{}], flogCur := [(1, 8)], rsvCur := [(1, 4)], rsvPending := [{ kind := 7 }] } }
      : State).woken 1).fth.rsvCur 1 0 / 4]? = none) :=
  ⟨mayWrite_of (by decide),
    by decide,
    mayWrite_of (by decide),
    by decide,
    by decide,
    mayRead_of (by decide),
    mayRead_of (by decide),
    by decide⟩

/-- The state after reset is sound, and so is a state with a command in front. -/
theorem witness_EveryStepFromASoundStateIsSafe :
    Sound State.reset :=
  ⟨by decide, (fun _ h => by cases h), (fun h => by cases h), by decide, ⟨by decide, by decide, by decide, by
    decide, by decide, by decide⟩, by decide⟩

/-- A queue with a command and an empty one. -/
theorem witness_StepRunsTheCommandInFront :
    (({ State.reset with pending := [.postFifoTake] } : State).pending = .postFifoTake :: [] ∧
      State.reset.pending = []) :=
  by decide

/-- A memory in canonical form, a range inside and outside a write. -/
theorem witness_MemoriesReadBackWhatIsWritten :
    ((Memory.wf [(5, 1), (7, 2)] = true ∧ Memory.wf [] = true) ∧ (4 < 5 ∧ 5 + [1, 2].length ≤ 7)) :=
  by decide

/-- The last field of two pages, and the two banks of one field. -/
theorem witness_RegisterFieldsStandApart :
    ((Reg.PMP_POST_DESC.off < 65536 ∧ Reg.PMP_POST_DESC.lo < 32 ∧ Reg.SLU_SEL_KIND.off < 65536 ∧
      Reg.SLU_SEL_KIND.lo < 32) ∧ ((Reg.SLU_SEL_KIND.page, Reg.SLU_SEL_KIND.off, Reg.SLU_SEL_KIND.lo, 0, 3) ≠
      (Reg.SLU_SEL_KIND.page, Reg.SLU_SEL_KIND.off, Reg.SLU_SEL_KIND.lo, 0, 4))) :=
  by decide

/-- A field of each kind of access that software may write, one that it may not, and one of the supervisor. -/
theorem witness_FieldWritesFollowTheirAccessCode :
    (((run.writeIgnored 3 Reg.SLU_SEL_KIND 0 1) = false ∧ isEnable Reg.SLU_SEL_KIND = false ∧
      Reg.SLU_SEL_KIND.acc = .rw) ∧ (run.writeIgnored 0 Reg.CIS_INT_STATUS_EMPTY 0 1 = false ∧ isEnable
      Reg.CIS_INT_STATUS_EMPTY = false ∧ Reg.CIS_INT_STATUS_EMPTY.acc = .rw1c) ∧ (run.writeIgnored 0
      { Reg.SLU_SEL_KIND with acc := .rw1s } 0 1 = false ∧ isEnable { Reg.SLU_SEL_KIND with acc := .rw1s } =
      false) ∧ (Reg.SLU_PORT_STATE.acc ≠ .rw ∧ Reg.SLU_PORT_STATE.acc ≠ .rw1c ∧ Reg.SLU_PORT_STATE.acc ≠ .rw1s)) ∧
    (Reg.RPL_RATE_RATE.sup = true ∧ run.isSup 1 = false ∧ 1 ≠ 4) :=
  ⟨by decide,
    by decide⟩

/-- The last thread and both ends of every range. -/
theorem witness_EngineAddressesGoWhereTheMapPutsThem :
    (((1535 : Nat) < 1536 ∧ 1535 % 8 ≠ 0 ∧ 1528 % 8 = 0) ∧ (run.pageKind 0 0 = 1 ∧ run.pageKind 0 0x7FFFF ≠ 1)
      ∧ (2 ≤ run.segRight 1 0x80000000 ∧ run.segRight 1 0xFFFFFFFF < 1)) :=
  by decide

/-- A full stack with and without the trap, and an empty stack; the last target. -/
theorem witness_ReturnStackOverAndUnderflowAreAsTheirRulesSay :
    MayTrigger (deep 0 (List.replicate 8 7)) 9 0x042 ∧
    (((deep 0 (List.replicate 8 7)).settleFast 9).linkMode 9 = false ∧ targetFault 9 32767 = 0 ∧ (((deep 0
      (List.replicate 8 7)).settleFast 9).thread 9).rstack.length = 8 ∧ ((deep 0 (List.replicate 8
      7)).settleFast 9).thrTrap 9 = false) ∧
    MayTrigger (deep (2 ^ 23) (List.replicate 8 7)) 9 0x042 ∧
    (((deep (2 ^ 23) (List.replicate 8 7)).settleFast 9).linkMode 9 = false ∧ targetFault 9 32767 = 0 ∧
      (((deep (2 ^ 23) (List.replicate 8 7)).settleFast 9).thread 9).rstack.length = 8 ∧ ((deep (2 ^ 23)
      (List.replicate 8 7)).settleFast 9).thrTrap 9 = true) ∧
    MayTrigger (deep 0 []) 9 0x043 ∧
    (((deep 0 []).settleFast 9).linkMode 9 = false ∧ (((deep 0 []).settleFast 9).thread 9).rstack = []) :=
  ⟨mayTrigger_of (by decide),
    by decide,
    mayTrigger_of (by decide),
    by decide,
    mayTrigger_of (by decide),
    by decide⟩

/-- Each corner of a field operand, a divisor of zero, and the quotient that cannot be held. -/
theorem witness_UnitCornersAreAsTheirRulesSay :
    (∀ p ∈ ([0x110, 0x111, 0x112, 0x152, 0x153] : List Nat), MayTrigger run 9 p) ∧
    (((0x001F : W32).toNat / 256 % 64 = 0) ∧ (32 < (0x2100 : W32).toNat / 256 % 64) ∧ (32 < (0x011F + 0x100 :
      W32).toNat % 32 + (0x011F + 0x100 : W32).toNat / 256 % 64 ∧ (0x011F + 0x100 : W32).toNat / 256 % 64 = 2) ∧
      ((((run.updThread 9 fun th => th.setPort 0x140 0x80000000).settleFast 9).thread 9).port 0x140 =
      0x80000000)) ∧
    MayTrigger (run.updThread 9 fun th => th.setPort 0x140 0x80000000) 9 0x153 :=
  ⟨fun p h => mayTrigger_of ((by decide : ∀ p ∈ ([0x110, 0x111, 0x112, 0x152, 0x153] : List Nat), mayTriggerB
      run 9 p = true) p h),
    by decide,
    mayTrigger_of (by decide)⟩

/-- Logs before and behind the last word; a rollback number above, at and below the counter, and no image. -/
theorem witness_LogsAreReadAndConfirmAnswersAsTheirRulesSay :
    MayRead
      ({ run with fth := { run.fth with flog := [{}], rsv := [{}], flogCur := [(1, 8)], rsvCur := [(1, 4)], rsvPending := [{ kind := 7 }] } }
      : State) 3 14 ∧
    MayRead
      ({ run with fth := { run.fth with flog := [{}], rsv := [{}], flogCur := [(1, 8)], rsvCur := [(1, 4)], rsvPending := [{ kind := 7 }] } }
      : State) 4 14 ∧
    MayWrite
      ({ run with fth := { run.fth with lc := 1, seed := some [], counter0 := 0 }, img := { run.img with rollback := 5 } }
      : State) 0 14 ∧
    (((({ run with fth := { run.fth with lc := 1, seed := some [], counter0 := 0 }, img := { run.img with rollback := 5 } }
      : State).woken 0).isSup 0 = true ∧
      (({ run with fth := { run.fth with lc := 1, seed := some [], counter0 := 0 }, img := { run.img with rollback := 5 } }
      : State).woken 0).imageRuns = true ∧
      (({ run with fth := { run.fth with lc := 1, seed := some [], counter0 := 0 }, img := { run.img with rollback := 5 } }
      : State).woken 0).fth.counter0 <
      (({ run with fth := { run.fth with lc := 1, seed := some [], counter0 := 0 }, img := { run.img with rollback := 5 } }
      : State).woken 0).img.rollback) ∧ ((run.woken 0).img.rollback ≤ (run.woken 0).fth.counter0)) ∧
    MayWrite ({ bridge with hst := { bridge.hst with bridgeLink := [(0, 0)] } } : State) 0 14 ∧
    ((({ bridge with hst := { bridge.hst with bridgeLink := [(0, 0)] } } : State).woken 0).imageRuns = false) :=
  ⟨mayRead_of (by decide),
    mayRead_of (by decide),
    mayWrite_of (by decide),
    by decide,
    mayWrite_of (by decide),
    by decide⟩

/-- The last partition is in reset, and its pages are read. -/
theorem witness_WritesWaitForNoResetOfThePartition :
    ((linked [] [(Reg.HST_STATUS_RESET_BUSY, 0, 3, 1)]).on Reg.HST_STATUS_RESET_BUSY 0 3 = true) ∧
    MayRead (linked [] [(Reg.HST_STATUS_RESET_BUSY, 0, 3, 1)]) 3 17 :=
  ⟨by decide,
    mayRead_of (by decide)⟩

/-- A thread that may not issue, one in user mode, one that may not use the ports, and a busy unit. -/
theorem witness_TriggersThatMayNotIssueAreTurnedAway :
    ((run.canIssue 10 = false ∧ run.canIssue 8 = true) ∧ ((with8 fun th => { th with user := true }).canIssue
      8 = true ∧ (((with8 fun th => { th with user := true }).settleFast 8).thread 8).user = true) ∧
      (((run.settleFast 9).thread 9).user = false ∧ ¬(9 < 1536 ∧ 9 % 8 = 0)) ∧ ((with8 fun th =>
      { th with ops := [(uMul, { wait := 2 })] }).canIssue 8 = true ∧ portAllowed 8 0x152 = true ∧ ((with8 fun
      th => { th with ops := [(uMul, { wait := 2 })] }).settleFast 8).accepts 8 0x152 = false)) :=
  by decide

/-- The last place of each width in scratch and in shared SRAM. -/
theorem witness_StoresAndAtomicsChangeOnlyTheirBytes :
    (∀ p ∈ ([0x198, 0x199, 0x19a, 0x19b, 0x390, 0x391, 0x392, 0x393, 0x394, 0x395, 0x396, 0x397, 0x398, 0x399,
      0x39a, 0x39b, 0x39c, 0x39d, 0x39e, 0x39f] : List Nat), MayTrigger run 9 p) ∧
    ((((run.settleFast 9).placeOf 9 0xFF8 true).1 = .scratch 0x9FF8 ∧ ((run.settleFast 9).placeOf 9 0xFFF
      true).1 = .scratch 0x9FFF ∧ spoiled run.mem.scratchBad 0x9FF8 8 = false ∧ spoiled run.mem.sharedBad 0xFF8
      8 = false ∧ spoiled run.mem.sharedBad 0x1FF8 8 = false) ∧ (((run.settleFast 9).placeOf 9 0x100FF8 true).1
      = .shared 0xFF8) ∧ (((run.settleFast 9).atomicPlace 9 0x101FF8).1 = .shared 0x1FF8) ∧ ((0xFF8 : W32).toNat
      % 8 = 0 ∧ (0x101FF8 : W32).toNat % 8 = 0)) :=
  ⟨fun p h => mayTrigger_of ((by decide : ∀ p ∈ ([0x198, 0x199, 0x19a, 0x19b, 0x390, 0x391, 0x392, 0x393,
      0x394, 0x395, 0x396, 0x397, 0x398, 0x399, 0x39a, 0x39b, 0x39c, 0x39d, 0x39e, 0x39f] : List Nat),
      mayTriggerB run 9 p = true) p h),
    by decide⟩

/-- No replay session runs. -/
theorem witness_WhatPrecedesAndFollowsATriggerLeavesTheRest :
    (run.rpl.replay = none) :=
  by decide

/-- The first and the last register page, each range of the doorbell window, a counter. -/
theorem witness_RegisterAccessesReachTheirFields :
    MayWrite run 0 0 ∧
    MayWrite run 3 18 ∧
    MayWrite run 3 17 ∧
    MayRead run 3 17 ∧
    MayRead run 3 1 ∧
    MayRead run 3 9 ∧
    MayRead run 3 8 ∧
    MayRead run 3 14 ∧
    (((0x40000 : BitVec 22).toNat % 4096 = 0 ∧ (0x3F000 : BitVec 22).toNat < 0x40000 ∧ (0x3F000 : BitVec
      22).toNat % 4096 = 0 ∧ (0x7F000 : BitVec 22).toNat < 0x80000 ∧ (0x87FFC : BitVec 22).toNat < 0x88000 ∧
      0x80000 ≤ (0x80000 : BitVec 22).toNat) ∧ (counterWord 8 256 = true) ∧ (run.imageRuns = true ∧ (0x30000 :
      BitVec 22).toNat / 65536 = 3 ∧ (0xBFFFC : BitVec 22).toNat / 65536 = 11) ∧ ((15 : BitVec 4) = 15 ∧ (7 :
      BitVec 4) ≠ 15)) :=
  ⟨mayWrite_of (by decide),
    mayWrite_of (by decide),
    mayWrite_of (by decide),
    mayRead_of (by decide),
    mayRead_of (by decide),
    mayRead_of (by decide),
    mayRead_of (by decide),
    mayRead_of (by decide),
    by decide⟩

/-- One ill-formed command for each check. -/
theorem test_wf_refuses :
    ([.imageVerdict 0 ⟨[(15, 0, false, 0)], []⟩ [] [], .imageVerdict 0 ⟨[], [(15, [])]⟩ [] [],
      .pauseFrameReceive 0 0 true 0 [5], .pauseFrameReceive 0 0 false 0 [], .canFrameReceive 0 0 0x20000000 0 0
      0 0 [] true, .gateEvent 0 false 32, .gclConfigSwap 0 false 32, .queueShutdownDone 0 32, .queueShutdownDone
      1 256, .unitOperationComplete 0 25, .pcieConfigRequest 0 false 2 0, .bar4Read 0 0 0, .bar4Write 0 0 [],
      .pcieAtomicop 0 0 0 2 0 0, .txDescriptorProcess 0 0 0 [] [] true, .spiRead 0 [], .spiWrite 0 [], .spiReset
      0 [], .spiFreeze 0 [], .spiDry 0 [], .spiLockdown 0 [], .spiFrameError 0 [], .gaugeSample 0 [] [] [],
      .fthNonce 0 0 [], .fthLcAdvance 0 0 [], .patrolScrub 0 [], .pcRetireComplete 0 [1073741824],
      .counterLowWordRead 0 ⟨2, 15⟩, .rcFieldRead 0 ⟨2, 15⟩, .registerWrite 0 false 2 0, .registerWrite 0 true
      0x100000 0] : List Instr).all (fun c => !Instr.wf c) = true ∧
    wellFormed [.tick 5, .rcFieldRead 0 ⟨2, 15⟩] = false :=
  ⟨rfl,
    rfl⟩

/-- The largest operands that each check takes. -/
theorem test_wf_takes :
    ([.pauseFrameReceive 0 0 false 0 [5], .canFrameReceive 0 0 0x1FFFFFFF 0 0 0 0 [] true, .gateEvent 0 true
      1023, .gateEvent 0 false 31, .queueShutdownDone 2 319, .unitOperationComplete 0 24, .pcieAtomicop 0 0 0 1
      0 0, .fthNonce 0 0 (List.replicate 32 0), .registerWrite 0 true 0xFFFFC 0] : List Instr).all Instr.wf =
      true :=
  rfl

/-- Table 8.11: a port and an immediate of −1; a guarded branch beside an empty slot; a long immediate; a loop. -/
theorem test_bundles_of_table_8_11 :
    movesOf 0 [0x00050004, 0x0806FFFF] =
      [{ slot := 0, neg := false, gsel := 0, src := .port 4, dst := 5, bad := false },
      { slot := 1, neg := false, gsel := 0, src := .imm 0xFFFFFFFF, dst := 6, bad := false }] ∧ (movesOf 0
      [0xA8410005, 0x80000000]).map (fun m => (m.neg, m.gsel, m.dst)) = [(true, 2, 0x041), (true, 0, 0)] ∧
      movesOf 0 [0x000707FF, 0x00040000] =
      [{ slot := 0, neg := false, gsel := 0, src := .imm 0x40000, dst := 7, bad := false }] ∧ (movesOf 0
      [0x00600003, 0x08610106]).map (fun m => (m.src, m.dst)) = [(.port 3, 0x060), (.imm 0x106, 0x061)] :=
  by decide

/-- Table 10.3: the CRC of the nine characters under each preset. -/
theorem test_check_values_of_table_10_3 :
    (List.range 7).map (fun n => (crcPreset n).map fun p => crcOf p [0x31, 0x32, 0x33, 0x34, 0x35, 0x36, 0x37,
      0x38, 0x39]) = [some 0x4B, some 0xDF, some 0x29B1, some 0xCBF43926, some 0x1697D06A, some 0xE3069283, some
      0x995DC9BBDF1939FA] ∧ crcPreset 7 = none :=
  by decide

/-- Table 4.4. -/
theorem test_hash_vectors_of_table_4_4 :
    mixHash 0 [0x00000511, 0xB71A371A, 0x00000411] = 0x9F6CC874 ∧ mixHash 0 [0x000001A4, 0x00000C02] =
      0x6FFAF8DE :=
  by decide

/-- Table 14.3: a frame of 1,514 bytes starts, and a refill. -/
theorem test_shaper_of_table_14_3 :
    ((shaped 24000000).chargeFrame 5 { d := { len := 1514 }, len := 1514, q := 41 }).credit (32 + 41) =
      11696000 ∧ ((shaped 11696000).classRefill 41).credit (32 + 41) = 12196000 :=
  by decide

/-- The example of file 24: the dry count of reason 3 and the mapping of engine 87. -/
theorem test_addresses_of_the_register_map :
    Reg.WEIR_DRY_CNT.page = 1 ∧ (wordFields 1 0x150).map (fun e => (e.1 == Reg.WEIR_DRY_CNT, e.2)) = [(true,
      2)] ∧ (wordFields 9 0x12B8).any (fun e => e.1 == Reg.BSN_ENG_PHYS && e.2 == 87) = true :=
  by decide

/-- The queue is first in, first out. -/
theorem test_a_step_takes_the_first_command :
    stepped { run with pending := [.railsOkRise 5, .tick 6] } (fun t => t.pending == [.tick 6]) = true :=
  by decide

/-- R368: the quotient, the remainder and INVALID stand in the result ports once the unit completes. -/
theorem test_divu_by_zero_settles :
    after (.mulTDivu 8 0) (with8 fun th => th.setPort 0x140 7) (fun t => ((t.completeOp 8 uMul).thread 8).port
      0x141 == 0xFFFFFFFF && ((t.completeOp 8 uMul).thread 8).port 0x142 == 7) = true :=
  by decide

/-- Table 9.4: the sum of all ones and 1 is 0 with carry. -/
theorem test_add_wraps_with_carry :
    after (.aluTAdd 8 0 1) (with8 fun th => th.setPort 0x080 0xFFFFFFFF) (fun t => ((t.settleFast 8).thread
      8).port 0x081 == 0 && ((t.settleFast 8).thread 8).port 0x082 == 1) = true :=
  by decide

/-- A release takes the block out of reset into stage 1 and counts the boot. -/
theorem test_reset_release_counts_the_boot :
    after (.resetRelease 1000000 0 0) (powered true none) (fun t => !t.boot.held && t.boot.stage == 1 &&
      t.fth.bootCount == (powered true none).fth.bootCount + 1) = true :=
  by decide

/-- SHAKE256 of the empty message begins 46 B9 DD 2B (FIPS 202). -/
theorem test_shake_of_nothing :
    (shake256 []).take 4 = [0x46, 0xB9, 0xDD, 0x2B] :=
  by decide

/-- Words with and without a set bit. -/
theorem witness_BitUnitFunctionsAreThoseOfItsTable :
    (leadZeros 1 < 32 ∧ trailZeros 0x80000000 < 32) :=
  by decide

end Sys2Proof.Tests
end

section
/-! The triggers of the event unit and of the timer unit (Table 9.13). The row of a trigger that is taken answers
its unit operation and what follows it; so each clause is the equation of one operation on one branch. -/

namespace Sys2Proof

open Machine

/-! ### From the operation to the row -/

/-- A row that runs one trigger answers the effect of its operation, where the operation raises no fault (log entry 100). -/
theorem issues_of_trigRow {s s' : State} {t p : Nat} {x : W32} {c : Instr} {f : State → Trig}
    (hrow : exec c s = .next (s.trigRow t p x f)) (hop : f (s.settleFast t) = (s', 0)) : Issues s t p x c s' :=
  fun may => hrow.trans (congrArg _ (trigRow_issued may hop))

/-! ### The operations, one equation per branch -/

section Operations

variable {s : State} {t x : Nat}

theorem evtWait_of_flag_set (h : (s.thread t).events &&& wakeMask t (x % 65536) ≠ 0) :
    evtWait s t x = (s.startOp t uEvt [(0x3A1, BitVec.ofNat 32 (s.thread t).events)] stOk, 0) :=
  if_pos h

theorem evtWait_of_no_flag (h : (s.thread t).events &&& wakeMask t (x % 65536) = 0) :
    evtWait s t x = ((s.putOp t uEvt { wait := 4, arg := x % 65536 }).updThread t fun th =>
      { th with state := if th.state = 4 then 4 else 2 }, 0) :=
  if_neg (not_not_intro h)

theorem evtSig_packet_engine (h : t < 1536) :
    evtSig s t x = ((s.setEvent (t / 8 * 8 + x % 8) evSignal).startOp t uEvt [] stOk, 0) := by
  simp only [evtSig, if_pos h]

theorem evtSig_control_engine (h : 1536 ≤ t) :
    evtSig s t x = ((s.setEvent t evSignal).startOp t uEvt [] stOk, 0) := by
  simp only [evtSig, if_neg (Nat.not_lt.mpr h)]

theorem evtMget_nil (h : (s.thread t).msgs = []) : evtMget s t = (s.startOp t uEvt [] stEmpty, 0) := by
  simp only [evtMget, h]

theorem evtMget_cons {m : W64} {ms : List W64} (h : (s.thread t).msgs = m :: ms) :
    evtMget s t = ((s.updThread t fun th => { th with msgs := ms }).startOp t uEvt
      [(0x3A2, m.setWidth 32), (0x3A3, (m >>> 32).setWidth 32)] stOk, 0) := by
  simp only [evtMget, h]

theorem tmStart_of_ne_zero (h : x ≠ 0) :
    tmStart s t x = ((s.updThread t fun th => { th with timer := some (s.now + x) }).startOp t uTm [] stOk, 0) := by
  simp only [tmStart, if_neg h]

theorem tmStart_zero :
    tmStart s t 0 = (((s.updThread t fun th => { th with timer := none }).setEvent t evTimer).startOp t uTm [] stOk, 0) :=
  rfl

theorem tmNet_of_enabled (h : bitOf (s.rd Reg.TIM_CFG_DOM_EN) (x % 4) = true) :
    tmNet s t x = (s.startOp t uTm (timePorts (s.net (x % 4))) stOk, 0) := by
  simp only [tmNet, if_pos h]

theorem tmNet_of_disabled (h : bitOf (s.rd Reg.TIM_CFG_DOM_EN) (x % 4) = false) :
    tmNet s t x = (s.startOp t uTm [] stInvalid, 0) := by
  simp only [tmNet, h, Bool.false_eq_true, if_false]

end Operations

/-- Settles O15: each clause is the row of its trigger on the branch of its operation that the clause names; evt.t.clr, tm.t.stop
and tm.t.now have one branch, which the clause spells out. -/
theorem eventAndTimerTriggers : Obligations.EventAndTimerTriggers := by
  unfold Obligations.EventAndTimerTriggers
  intro s t x
  refine ⟨?waitTakes, ?waitBlocks, ?clr, ?sigPacket, ?sigControl, ?mgetEmpty, ?mgetTakes, ?startRuns, ?startAtOnce, ?stop,
    ?now, ?netRuns, ?netInvalid⟩
  case waitTakes => exact fun flag => issues_of_trigRow rfl (evtWait_of_flag_set flag)
  case waitBlocks => exact fun clear => issues_of_trigRow rfl (evtWait_of_no_flag clear)
  case clr => exact issues_of_trigRow rfl rfl
  case sigPacket => exact fun packet => issues_of_trigRow rfl (evtSig_packet_engine packet)
  case sigControl => exact fun control => issues_of_trigRow rfl (evtSig_control_engine control)
  case mgetEmpty => exact fun empty => issues_of_trigRow rfl (evtMget_nil empty)
  case mgetTakes => exact fun m ms queue => issues_of_trigRow rfl (evtMget_cons queue)
  case startRuns => exact fun nonzero => issues_of_trigRow rfl (tmStart_of_ne_zero nonzero)
  case startAtOnce => exact fun zero => issues_of_trigRow rfl (by rw [zero, tmStart_zero])
  case stop => exact issues_of_trigRow rfl rfl
  case now => exact issues_of_trigRow rfl rfl
  case netRuns => exact fun enabled => issues_of_trigRow rfl (tmNet_of_enabled enabled)
  case netInvalid => exact fun disabled => issues_of_trigRow rfl (tmNet_of_disabled disabled)

end Sys2Proof
end

section
/-! A trigger that is turned away: by its thread, by its port, or by its unit (R257, R319, R345, R358). The row of every
trigger asks the same questions in the same order, so the statement is one fact about that row. -/

namespace Sys2Proof

open Machine

/-- Supervisor ports belong to T0 of a packet engine alone (R319). -/
theorem portAllowed_supervisor {t p : Nat} (lo : 0x4E0 ≤ p) (hi : p < 0x500) (other : ¬(t < 1536 ∧ t % 8 = 0)) :
    portAllowed t p = false := by
  simpa [portAllowed, lo, hi] using other

/-- The privileged range belongs to control engines (R319). -/
theorem portAllowed_privileged {t p : Nat} (priv : 0x600 ≤ p) (packet : t < 1536) : portAllowed t p = false := by
  have notSup : ¬p < 0x500 := by omega
  simp [portAllowed, notSup, Nat.not_lt.mpr priv, Nat.not_le.mpr packet]

section Row

variable {s : State} {t p : Nat} {x : W32} {c : Instr} {f : State → Trig}

theorem trigRow_of_cannot_issue (h : s.canIssue t = false) : s.trigRow t p x f = s := by
  simp only [State.trigRow, h, Bool.not_false, if_true]

/-- A trigger whose unit is not free waits at its bundle (R358). -/
theorem trigRow_of_unit_busy (may : s.canIssue t = true) (mode : ((s.settleFast t).thread t).user = false ∨ p < 0x600)
    (port : portAllowed t p = true) (busy : (s.settleFast t).accepts t p = false) : s.trigRow t p x f = s.settleFast t := by
  have notPriv : (((s.settleFast t).thread t).user && decide (0x600 ≤ p)) = false := by
    rcases mode with kernel | low
    · rw [kernel, Bool.false_and]
    · rw [decide_eq_false (Nat.not_le.mpr low), Bool.and_false]
  simp only [State.trigRow, may, notPriv, port, busy, Bool.not_true, Bool.not_false, Bool.false_eq_true, if_false, if_true]

/-- A row that runs one trigger asks for the thread, the mode, the port and the unit before it starts the operation. -/
theorem turnedAway_of_trigRow (hrow : exec c s = .next (s.trigRow t p x f)) : TurnedAway s t p c := by
  have answers {v : State} (h : s.trigRow t p x f = v) : exec c s = .next v := hrow.trans (congrArg _ h)
  refine ⟨fun cannot => answers (trigRow_of_cannot_issue cannot), fun may => ?_⟩
  obtain ⟨privFault, portFault⟩ := trigRow_denied (p := p) (x := x) (f := f) may
  refine ⟨fun user priv => answers (privFault user priv), fun mode => ⟨?supervisor, ?privileged, ?busy⟩⟩
  case supervisor => exact fun lo hi other => answers (portFault mode (portAllowed_supervisor lo hi other))
  case privileged => exact fun priv packet => answers (portFault mode (portAllowed_privileged priv packet))
  case busy => exact fun port busy => answers (trigRow_of_unit_busy may mode port busy)

end Row

/-- Settles O57: every row in the list runs one trigger, and such a row is turned away as stated. -/
theorem triggersThatMayNotIssueAreTurnedAway : Obligations.TriggersThatMayNotIssueAreTurnedAway := by
  unfold Obligations.TriggersThatMayNotIssueAreTurnedAway
  intro s
  refine ⟨fun t x => ?single, fun t alu x => ?alu, fun t wide x => ?atomic, fun t h x => ?helper, fun ce x => ?control⟩
  -- split at reducible transparency: each conjunct `TurnedAway` is itself a conjunction, and stays whole
  all_goals repeat' with_reducible apply And.intro
  all_goals exact turnedAway_of_trigRow rfl

end Sys2Proof
end

section
/-! The return stack at its two ends (R328, R329): a call that finds it full, and a return that finds it empty. A fault marks
the thread FAULTED at its bundle and then raises events and escalations; none of these takes that mark away or touches
the return stack. -/

namespace Sys2Proof

open Machine

/-! ### What leaves every thread as it was -/

section Frame

variable {s : State}

@[simp] theorem sendVec_thr (p v : Nat) : (s.sendVec p v).thr = s.thr := by
  unfold State.sendVec
  split
  · rfl
  · dsimp only
    split_ifs <;> rfl

@[simp] theorem signalVec_thr (p v : Nat) : (s.signalVec p v).thr = s.thr := by
  unfold State.signalVec
  split
  · dsimp only
    split
    · split <;> rfl
    · exact pIte (P := fun w : State => w.thr = s.thr) (sendVec_thr p v) (sendVec_thr p v)
  · exact sendVec_thr p v

@[simp] theorem devicePost_thr (page : Nat) : (s.devicePost page).thr = s.thr := by
  unfold State.devicePost
  split
  · rfl
  · dsimp only
    split_ifs <;> simp

@[simp] theorem eventSup_thr (st en : Fld) : (s.eventSup st en).thr = s.thr := by
  unfold State.eventSup State.event
  dsimp only
  split <;> simp

@[simp] theorem escalate_thr (e cause : Nat) : (s.escalate e cause).thr = s.thr := by
  unfold State.escalate
  split <;> simp

theorem freePorts_thr (s : State) (ps : List Nat) : (s.freePorts ps).2.thr = s.thr := by
  induction ps generalizing s with
  | nil => rfl
  | cons p ps ih => exact (ih s.free.2).trans (State.free_thr s)

theorem opPorts_thr (u : Nat) (given : List (Nat × W32)) (st : Nat) : (s.opPorts u given st).2.thr = s.thr := by
  unfold State.opPorts
  dsimp only
  split
  · exact freePorts_thr s _
  · rfl

end Frame

/-! ### A faulted thread stays faulted at its bundle -/

namespace FaultedAt

variable {u v w : State} {t cause pc : Nat}

/-- The mark is in the thread alone. -/
theorem of_thr_eq (h : FaultedAt u t cause pc v) (threads : w.thr = v.thr) : FaultedAt u t cause pc w := by
  simpa only [FaultedAt, State.thread, threads] using h

/-- An update of any thread that does not touch what the mark is made of, where that thread is FAULTED. -/
theorem updThread (h : FaultedAt u t cause pc v) (t' : Nat) {f : Thr → Thr}
    (keeps : ∀ th : Thr, th.state = 3 →
      (f th).state = 3 ∧ (f th).cause = th.cause ∧ (f th).pc = th.pc ∧ (f th).rstack = th.rstack) :
    FaultedAt u t cause pc (v.updThread t' f) := by
  obtain ⟨hstate, hcause, hpc, hstack⟩ := h
  by_cases same : t = t'
  · subst same
    obtain ⟨kstate, kcause, kpc, kstack⟩ := keeps _ hstate
    simp [FaultedAt, *]
  · simp [FaultedAt, State.thread_updThread_of_ne v f same, *]

theorem startOp (h : FaultedAt u t cause pc v) (t' n : Nat) (given : List (Nat × W32)) (st : Nat) :
    FaultedAt u t cause pc (v.startOp t' n given st) :=
  (h.of_thr_eq (opPorts_thr n given st)).updThread t' fun _ faulted => ⟨faulted, rfl, rfl, rfl⟩

/-- A thread that a flag wakes was WAITING; one that is FAULTED is not. -/
theorem wakeThread (h : FaultedAt u t cause pc v) (t' : Nat) : FaultedAt u t cause pc (v.wakeThread t') := by
  unfold State.wakeThread
  dsimp only
  split
  · exact h
  · refine pIte ((h.startOp t' _ _ _).updThread t' fun th faulted => ?_) h
    simp [faulted]

theorem setEvent (h : FaultedAt u t cause pc v) (t' n : Nat) : FaultedAt u t cause pc (v.setEvent t' n) := by
  have flagged : FaultedAt u t cause pc (v.updThread t' fun th => { th with events := th.events ||| 2 ^ n }) :=
    h.updThread t' fun _ faulted => ⟨faulted, rfl, rfl, rfl⟩
  exact flagged.wakeThread t'

theorem stillCheck (h : FaultedAt u t cause pc v) (e : Nat) : FaultedAt u t cause pc (v.stillCheck e) := by
  unfold State.stillCheck
  extract_lets +onlyGivenNames cond g t0 s1 s2 dead g2 s3 s4 s5
  have counted : s3.thr = v.thr := eventSup_thr _ _
  have raised : FaultedAt u t cause pc s4 := (h.of_thr_eq counted).setEvent (8 * e) evDeadlock
  have escalated : FaultedAt u t cause pc s5 := pIte (raised.of_thr_eq (escalate_thr e 0xF)) raised
  exact pIte (pIte h h) (pIte h (pIte h escalated))

end FaultedAt

/-- A fault on a packet engine marks the thread, and its return stack stays (R272, R273). -/
theorem faultedAt_peFault (u : State) (t cause pc : Nat) : FaultedAt u t cause pc (u.peFault t cause pc) := by
  unfold State.peFault
  extract_lets s1 t0 s2 s3 s4
  have stack : (s1.thread t).rstack = (u.thread t).rstack := rfl
  have marked : FaultedAt u t cause pc s2 := by simp [FaultedAt, s2, stack]
  have event : FaultedAt u t cause pc s3 := marked.setEvent (t / 8 * 8) evFault
  have escalated : FaultedAt u t cause pc s4 := pIte (event.of_thr_eq (escalate_thr _ _)) event
  exact escalated.stillCheck (engOf t)

section Packet

variable {s u : State} {t p cause : Nat} {x : W32} {c : Instr} {f : State → Trig}

/-- On a packet engine a fault does not record the operand. -/
theorem faultAt_of_packet (packet : t < 1536) (pc va : Nat) : u.faultAt t cause pc va = u.peFault t cause pc := by
  simp only [State.faultAt, threadCe, if_pos packet]

theorem faultedAt_fault (packet : t < 1536) (pc : Nat) : FaultedAt u t cause pc (u.fault t cause pc) := by
  rw [State.fault, faultAt_of_packet packet]
  exact faultedAt_peFault u t cause pc

/-- A row of a packet-engine thread answers the fault of its operation, where the operation raises one. -/
theorem faults_of_trigRow (packet : t < 1536) (hrow : exec c s = .next (s.trigRow t p x f))
    (hop : f (s.settleFast t) = (s.settleFast t, cause)) (raised : cause ≠ 0) : Faults s t p c cause := by
  intro may
  rw [hrow, trigRow_faults may hop raised, State.fault, faultAt_of_packet packet, faultAt_of_packet packet]

/-! ### Calls and returns in stack mode, one equation per branch -/

/-- Where RS_TRAP is clear a call keeps its return address and the seven newest entries (R327, R328). -/
theorem pcCall_keeps_newest (stack : u.linkMode t = false) (target : targetFault t x.toNat = 0)
    (noTrap : u.thrTrap t = false) :
    pcCall u t x = ((u.updThread t fun th =>
      { th with rstack := bundleAfter t (u.thread t).pc :: th.rstack.take 7 }).jumpTo t x.toNat, 0) := by
  simp [pcCall, State.updThread, stack, target, noTrap]

/-- A call on a full stack faults where RS_TRAP is set (R328). -/
theorem pcCall_overflows (stack : u.linkMode t = false) (target : targetFault t x.toNat = 0)
    (full : (u.thread t).rstack.length = 8) (trap : u.thrTrap t = true) : pcCall u t x = (u, causeRstackOver) := by
  simp [pcCall, stack, target, full, trap]

/-- A return on an empty stack faults (R329). -/
theorem pcRet_underflows (stack : u.linkMode t = false) (empty : (u.thread t).rstack = []) :
    pcRet u t = (u, causeRstackUnder) := by
  simp [pcRet, stack, empty]

end Packet

/-- Settles O53: each clause is the row of pc.t.call or pc.t.ret on the branch that the clause names, and a faulted thread
keeps its return stack at its bundle. -/
theorem returnStackOverAndUnderflowAreAsTheirRulesSay : Obligations.ReturnStackOverAndUnderflowAreAsTheirRulesSay := by
  unfold Obligations.ReturnStackOverAndUnderflowAreAsTheirRulesSay
  intro s t x packet u th ret stack
  refine ⟨fun target full noTrap => ⟨?depth, ?discards⟩, fun target full trap => ⟨?overflows, faultedAt_fault packet th.pc⟩,
    fun empty => ⟨?underflows, faultedAt_fault packet th.pc⟩⟩
  case depth => simp [full]
  case discards => exact issues_of_trigRow rfl (pcCall_keeps_newest stack target noTrap)
  case overflows => exact faults_of_trigRow packet rfl (pcCall_overflows stack target full trap) (by decide)
  case underflows => exact faults_of_trigRow packet rfl (pcRet_underflows stack empty) (by decide)

end Sys2Proof
end

section
/-! The multiplier and the field triggers of the bit unit (Tables 9.3 and 9.5, R366, R368): products and quotients as words,
the division by zero, and the field that does not lie in its word. -/

namespace Sys2Proof

open Machine

/-! ### The two words of a product -/

/-- The low word of a number in 64 bits of two's complement. -/
theorem ofNat_unsigned_64 (i : Int) : BitVec.ofNat 32 (unsigned 64 i) = BitVec.ofInt 32 i := by
  apply BitVec.eq_of_toNat_eq
  simp only [unsigned, BitVec.toNat_ofNat, BitVec.toNat_ofInt]
  omega

/-- The high word of a number in 64 bits of two's complement. -/
theorem ofNat_unsigned_64_div (i : Int) : BitVec.ofNat 32 (unsigned 64 i / 2 ^ 32) = BitVec.ofInt 32 (i / 2 ^ 32) := by
  apply BitVec.eq_of_toNat_eq
  simp only [unsigned, BitVec.toNat_ofNat, BitVec.toNat_ofInt]
  omega

theorem productS_eq (a x : W32) :
    productS a x = (BitVec.ofInt 32 (a.toInt * x.toInt), BitVec.ofInt 32 (a.toInt * x.toInt / 2 ^ 32)) := by
  simp only [productS, ofNat_unsigned_64, ofNat_unsigned_64_div]

/-! ### The operations, one equation per branch -/

section Operations

variable {s : State} {t : Nat} {x : W32}

theorem mulMuls_eq :
    let a := (s.thread t).port 0x140
    mulMuls s t x = (s.startOp t uMul
      [(0x141, BitVec.ofInt 32 (a.toInt * x.toInt)), (0x142, BitVec.ofInt 32 (a.toInt * x.toInt / 2 ^ 32))] stOk, 0) := by
  simp only [mulMuls, State.mulOp, productS_eq]

variable {f : W32 → W32 → W32 × W32}

theorem divOp_of_ne_zero (h : x ≠ 0) : s.divOp t x f = s.mulOp t (f ((s.thread t).port 0x140) x) :=
  if_neg h

/-- A division by zero does not fault (R368). -/
theorem divOp_of_zero (h : x = 0) :
    s.divOp t x f = (s.startOp t uMul [(0x141, 0xFFFFFFFF), (0x142, (s.thread t).port 0x140)] stInvalid, 0) :=
  if_pos h

/-- The quotient of 0x80000000 by -1 is cut to its word (R368). -/
theorem quotS_overflow : quotS 0x80000000 0xFFFFFFFF = (0x80000000, 0) := by decide

theorem mulDivs_overflow (minusOne : x = 0xFFFFFFFF) (lowest : (s.thread t).port 0x140 = 0x80000000) :
    mulDivs s t x = (s.startOp t uMul [(0x141, 0x80000000), (0x142, 0)] stOk, 0) := by
  rw [mulDivs, divOp_of_ne_zero (by simp [minusOne]), minusOne, lowest, quotS_overflow, State.mulOp]

/-- A specification whose length is 0 or above 32, or whose field ends beyond the word, names no field (R366). -/
theorem fieldOk_of_outside (h : x.toNat / 256 % 64 = 0 ∨ 32 < x.toNat / 256 % 64 ∨ 32 < x.toNat % 32 + x.toNat / 256 % 64) :
    fieldOk x = false := by
  have noField : ¬((1 ≤ fieldLen x ∧ fieldLen x ≤ 32) ∧ fieldPos x + fieldLen x ≤ 32) := by
    simp only [fieldLen, fieldPos, bits, Nat.reducePow]
    omega
  simpa [fieldOk] using noField

theorem fieldOp_of_no_field {v : W32} (h : fieldOk x = false) : s.fieldOp t x v = (s, causeUnit) := by
  simp only [State.fieldOp, h, Bool.false_eq_true, if_false]

end Operations

/-- Settles O5: each clause is the row of its trigger on the branch that the clause names; the words of the signed product are
those of the 64-bit product. -/
theorem multiplierTriggersStartTheirOperation : Obligations.MultiplierTriggersStartTheirOperation := by
  unfold Obligations.MultiplierTriggersStartTheirOperation
  intro s t x a
  refine ⟨?mulu, ?muls, ?divu, ?divs, ?divuZero, ?divsZero⟩
  case mulu => exact issues_of_trigRow rfl rfl
  case muls => exact issues_of_trigRow rfl mulMuls_eq
  case divu => exact fun nonzero => issues_of_trigRow rfl (divOp_of_ne_zero nonzero)
  case divs => exact fun nonzero => issues_of_trigRow rfl (divOp_of_ne_zero nonzero)
  case divuZero => exact fun zero => issues_of_trigRow rfl (divOp_of_zero zero)
  case divsZero => exact fun zero => issues_of_trigRow rfl (divOp_of_zero zero)

/-! ### Faults that no access to an address causes -/

/-- Only a translation fault records the operand (R347). -/
theorem faultAt_eq_fault {u : State} {t cause pc va : Nat} (h : ¬(0x11 ≤ cause ∧ cause ≤ 0x13)) :
    u.faultAt t cause pc va = u.fault t cause pc := by
  simp [State.fault, State.faultAt, h]

/-- A row whose operation raises UNIT faults, on either kind of engine. -/
theorem faults_unit_of_trigRow {s : State} {t p : Nat} {x : W32} {c : Instr} {f : State → Trig}
    (hrow : exec c s = .next (s.trigRow t p x f)) (hop : f (s.settleFast t) = (s.settleFast t, causeUnit)) :
    Faults s t p c causeUnit := by
  intro may
  rw [hrow, trigRow_faults may hop (by decide), faultAt_eq_fault (by decide)]

/-! ### Completion -/

section Completion

@[simp] theorem port_setPort_self (th : Thr) (p : Nat) (v : W32) : (th.setPort p v).port p = v :=
  SMap.get_put_self th.ports p v 0

@[simp] theorem port_setPort_of_ne (th : Thr) {p q : Nat} (v : W32) (h : q ≠ p) : (th.setPort p v).port q = th.port q :=
  SMap.get_put_of_ne th.ports v 0 0 h

@[simp] theorem ops_setPort (th : Thr) (p : Nat) (v : W32) : (th.setPort p v).ops = th.ops := rfl

variable (u : State) (t : Nat)

/-- An operation that waits for nothing, on its completion: its ports are set, and its unit is free. -/
theorem thread_completeOp_putOp (k : Nat) (ps : List (Nat × W32)) :
    ((u.putOp t k { res := ps }).completeOp t k).thread t =
      { u.thread t with ops := SMap.erase (SMap.set (u.thread t).ops k { res := ps }) k }.setPorts ps := by
  simp [State.completeOp, State.putOp, SMap.find_set_self]

theorem startOp_uMul (r h : W32) (st : Nat) :
    u.startOp t uMul [(0x141, r), (0x142, h)] st =
      u.putOp t uMul { res := [(0x141, r), (0x142, h), (0x143, BitVec.ofNat 32 st)] } := by
  by_cases ok : st = stOk
  · subst ok; rfl
  · simp [State.startOp, State.opPorts, ok, uMul, unitResults, unitStatus]

theorem mulGives_startOp (r h : W32) (st : Nat) : MulGives (u.startOp t uMul [(0x141, r), (0x142, h)] st) t r h st := by
  simp [MulGives, startOp_uMul, thread_completeOp_putOp, Thr.setPorts, SMap.find_erase_self]

end Completion

/-- Settles O54: a field outside its word faults UNIT; the two corners of the division are equations of its operation, and what
an operation of the multiplier gives on completion does not depend on the operation. -/
theorem unitCornersAreAsTheirRulesSay : Obligations.UnitCornersAreAsTheirRulesSay := by
  unfold Obligations.UnitCornersAreAsTheirRulesSay
  intro s t x u a pos len
  refine ⟨fun outside => ?fields, fun zero => ⟨?divu, ?divs, mulGives_startOp u t _ _ _⟩,
    fun minusOne lowest => ⟨?overflow, mulGives_startOp u t _ _ _⟩⟩
  case fields =>
    have noField : fieldOk x = false := fieldOk_of_outside outside
    have fault (v : W32) : u.fieldOp t.val x v = (u, causeUnit) := fieldOp_of_no_field noField
    exact ⟨faults_unit_of_trigRow rfl (fault _), faults_unit_of_trigRow rfl (fault _), faults_unit_of_trigRow rfl (fault _)⟩
  case divu => exact issues_of_trigRow rfl (divOp_of_zero zero)
  case divs => exact issues_of_trigRow rfl (divOp_of_zero zero)
  case overflow => exact issues_of_trigRow rfl (mulDivs_overflow minusOne lowest)

end Sys2Proof
end

section
/-! The atomic units (Table 9.12, R390, R391). The eight rows run one operation, which differs in the new value of the word
alone; so each row is that operation at its place. -/

namespace Sys2Proof

open Machine

/-- The operand in two ports of a thread, cut to the width of an atomic. -/
def atomicOperand (u : State) (t : Nat) (wide : Bool) (lo hi : Nat) : Nat :=
  (u.opnd t lo + u.opnd t hi * 2 ^ 32) % 2 ^ (8 * if wide then 8 else 4)

section Operation

variable {u v : State} {t x a op : Nat} {wide : Bool}

/-- On shared SRAM an aligned atomic reads the word, writes the new one and answers the old (R391). -/
theorem atomic_shared (place : u.atomicPlace t x = (.shared a, v)) (aligned : x % (if wide then 8 else 4) = 0)
    (clean : spoiled v.mem.sharedBad a (if wide then 8 else 4) = false) :
    let n := if wide then 8 else 4
    let old := leNat (cellRead v.mem.shared a n)
    let new := atomicNew op (8 * n) old (atomicOperand u t wide 0x380 0x381) (atomicOperand u t wide 0x382 0x383)
    u.atomic t x op wide = (({ v with mem := { v.mem with shared := cellWrite v.mem.shared a (leBytes n new) } }).startOp
      t uAt (atomicPorts wide old) stOk, 0) := by
  simp only [State.atomic, place, aligned, clean, atomicOperand, ne_eq, not_true_eq_false, Bool.false_eq_true, if_false]

/-- On the IPD it passes every cache. -/
theorem atomic_ipd (place : u.atomicPlace t x = (.ipd a, v)) (aligned : x % (if wide then 8 else 4) = 0)
    (whole : v.ipdLost a (if wide then 8 else 4) = false) :
    let n := if wide then 8 else 4
    let old := leNat (v.ipdRead a n)
    let new := atomicNew op (8 * n) old (atomicOperand u t wide 0x380 0x381) (atomicOperand u t wide 0x382 0x383)
    u.atomic t x op wide =
      (((v.ipdWrite a (leBytes n new)).ipdReq a true clsTbl).startOp t uAt (atomicPorts wide old) stOk, 0) := by
  simp only [State.atomic, State.ipdAtomic, place, aligned, whole, atomicOperand, ne_eq, not_true_eq_false, Bool.false_eq_true,
    if_false]

end Operation

/-- A row that runs the atomic operation i answers what the operation does at its place. -/
theorem atomicRow_of_trigRow {s : State} {t : Fin 1544} {wide : Bool} {i : Nat} {x : W32} {c : Instr}
    (hrow : exec c s = .next (s.trigRow t.val (0x390 + 8 * flagBit wide + i) x fun u => u.atomic t.val x.toNat i wide)) :
    AtomicRow s t wide i x c := by
  intro aligned a v
  refine ⟨fun place clean => ?shared, fun place whole => ?ipd⟩
  case shared => exact issues_of_trigRow hrow (atomic_shared place aligned clean)
  case ipd => exact issues_of_trigRow hrow (atomic_ipd place aligned whole)

/-- Settles O9: the result ports and the eight new values are those of their definitions, and each row runs the operation of its
place in Table 9.12. -/
theorem atomicsReplaceTheWordAndAnswerTheOldOne : Obligations.AtomicsReplaceTheWordAndAnswerTheOldOne := by
  unfold Obligations.AtomicsReplaceTheWordAndAnswerTheOldOne
  intro s t wide x
  refine ⟨fun _ _ => rfl, fun _ _ _ _ => ⟨rfl, rfl, rfl, rfl, rfl, rfl, rfl, rfl⟩,
    ?add, ?sub, ?swap, ?cas, ?and, ?or, ?min, ?max⟩
  all_goals exact atomicRow_of_trigRow rfl

end Sys2Proof
end

section
/-! The packet window and the droplet-access unit (Tables 9.7 and 9.8, R365, R373 to R378, R423) on a droplet that the thread
holds: the check of the handle is passed, and each row is one branch of its operation. -/

namespace Sys2Proof

open Machine

/-! ### The packet window -/

section PacketWindow

variable {u : State} {t x i n : Nat} {sl : Slot} {bs : List Byte} (held : u.heldBy t (u.opnd t 0x200) = (stOk, i, sl))

include held

/-- On a held droplet the operation is done, and it completes behind a feed on its bytes (R423). -/
theorem packetOp_of_held (off n : Nat) (f : Nat → Slot → State) :
    u.packetOp t off n f = (behindFeed u t off n (f i sl), 0) := by
  simp only [State.packetOp, behindFeed, held, ne_eq, not_true_eq_false, if_false]
  cases waiting : SMap.find ((f i sl).thread t).ops uPw with
  | none => rfl
  | some o => rfl

/-- A load answers bytes that lie in the packet and are not lost (R373, R377). -/
theorem pwLoad_of_held (inside : x % 2 ^ 15 + n ≤ u.pktLen sl.d) (present : u.pktBytes sl.d (x % 2 ^ 15) n = some bs) :
    pwLoad u t x n = (behindFeed u t (x % 2 ^ 15) n
      ((u.bodyReq sl.d (x % 2 ^ 15) n false).startOp t uPw [(0x202, BitVec.ofNat 32 (beNat bs))] stOk), 0) := by
  simp only [pwLoad, packetOp_of_held held, Nat.not_lt.mpr inside, present, if_false]

/-- A store changes bytes that lie in the packet and are not lost (R373, R377). -/
theorem pwStore_of_held (inside : x % 2 ^ 15 + n ≤ u.pktLen sl.d) (present : u.pktBytes sl.d (x % 2 ^ 15) n = some bs) :
    pwStore u t x n = (behindFeed u t (x % 2 ^ 15) n
      (((u.writePacket sl.d (x % 2 ^ 15) (beBytes n (u.opnd t 0x201))).bodyReq sl.d (x % 2 ^ 15) n true).startOp
        t uPw [] stOk), 0) := by
  simp only [pwStore, packetOp_of_held held, Nat.not_lt.mpr inside, present, Option.isNone_some, Bool.false_eq_true, if_false]

/-- An insertion into the header region opens a gap of zeros (R374, R376). -/
theorem pwIns_of_held (nonempty : 0 < bits x 16 7) (short : bits x 16 7 ≤ 64)
    (inside : x % 512 ≤ (u.headOf sl.d.head).length) (room : (u.headOf sl.d.head).length + bits x 16 7 ≤ 320) :
    let head := u.headOf sl.d.head
    pwIns u t x = (behindFeed u t 0 (2 ^ 15) ((u.setHead sl.d.head
      (head.take (x % 512) ++ List.replicate (bits x 16 7) 0 ++ head.drop (x % 512))).startOp t uPw [] stOk), 0) := by
  simp [pwIns, packetOp_of_held held, Nat.ne_of_gt nonempty, Nat.not_lt.mpr short, Nat.not_lt.mpr inside, Nat.not_lt.mpr room]

/-- A deletion from the header region closes a gap (R375, R376). -/
theorem pwDel_of_held (nonempty : 0 < bits x 16 7) (short : bits x 16 7 ≤ 64)
    (inside : x % 512 + bits x 16 7 ≤ (u.headOf sl.d.head).length) :
    let head := u.headOf sl.d.head
    pwDel u t x = (behindFeed u t 0 (2 ^ 15) ((u.setHead sl.d.head
      (head.take (x % 512) ++ head.drop (x % 512 + bits x 16 7))).startOp t uPw [] stOk), 0) := by
  simp [pwDel, packetOp_of_held held, Nat.ne_of_gt nonempty, Nat.not_lt.mpr short, Nat.not_lt.mpr inside]

theorem pwLen_of_held : pwLen u t = (behindFeed u t 0 0 (u.startOp t uPw
    [(0x202, BitVec.ofNat 32 (u.pktLen sl.d % 2 ^ 15 + u.headLen sl.d * 65536))] stOk), 0) := by
  simp only [pwLen, packetOp_of_held held]

end PacketWindow

/-- Settles O10: each clause is the branch of its operation on which the handle is held and the bytes lie in the packet. -/
theorem packetWindowTriggersOnAHeldDroplet : Obligations.PacketWindowTriggersOnAHeldDroplet := by
  unfold Obligations.PacketWindowTriggersOnAHeldDroplet
  intro s t x i sl u off n at_ head held
  refine ⟨?ld8, ?ld16, ?ld32, ?st8, ?st16, ?st32, ?ins, ?del, ?len⟩
  case ld8 => exact fun _ inside present => issues_of_trigRow rfl (pwLoad_of_held held inside present)
  case ld16 => exact fun _ inside present => issues_of_trigRow rfl (pwLoad_of_held held inside present)
  case ld32 => exact fun _ inside present => issues_of_trigRow rfl (pwLoad_of_held held inside present)
  case st8 => exact fun _ inside present => issues_of_trigRow rfl (pwStore_of_held held inside present)
  case st16 => exact fun _ inside present => issues_of_trigRow rfl (pwStore_of_held held inside present)
  case st32 => exact fun _ inside present => issues_of_trigRow rfl (pwStore_of_held held inside present)
  case ins => exact fun nonempty short inside room => issues_of_trigRow rfl (pwIns_of_held held nonempty short inside room)
  case del => exact fun nonempty short inside => issues_of_trigRow rfl (pwDel_of_held held nonempty short inside)
  case len => exact issues_of_trigRow rfl (pwLen_of_held held)

/-! ### Droplet access -/

section DropletAccess

variable {u : State} {t x i : Nat} {sl : Slot} (held : u.heldBy t (u.opnd t 0x240) = (stOk, i, sl))

include held

theorem dropletRead_of_held (f : Slot → Nat) :
    u.dropletRead t f = (u.startOp t uDl [(0x242, BitVec.ofNat 32 (f sl))] stOk, 0) := by
  simp only [State.dropletRead, held, if_true]

theorem dlWr_of_held {sl' : Slot} (writable : writeWord sl (x % 16) ((u.thread t).port 0x241) = some sl') :
    dlWr u t x = ((u.setSlot i sl').startOp t uDl [] stOk, 0) := by
  simp only [dlWr, held, writable, ne_eq, not_true_eq_false, if_false]

theorem dlPinfo_position (operand : x = 0) :
    dlPinfo u t x =
      (u.startOp t uDl [(0x242, BitVec.ofNat 32 (sl.prec.endPos % 1024 + sl.d.parse * 65536))] stOk, 0) := by
  simp only [dlPinfo, held, operand, ne_eq, not_true_eq_false, if_false, if_true]

theorem dlPinfo_param (operand : x = 1) :
    dlPinfo u t x =
      (u.startOp t uDl [(0x242, BitVec.ofNat 32 (sl.prec.param % 8192 + 32768 * flagBit sl.prec.paramValid))] stOk, 0) := by
  simp only [dlPinfo, held, operand, ne_eq, not_true_eq_false, one_ne_zero, if_false, if_true]

end DropletAccess

/-- Settles O11: four rows read one word of the held droplet; the write and dl.t.pinfo are the branches that the clauses
name. -/
theorem dropletAccessTriggersOnAHeldDroplet : Obligations.DropletAccessTriggersOnAHeldDroplet := by
  unfold Obligations.DropletAccessTriggersOnAHeldDroplet
  intro s t x i sl u held
  refine ⟨?rd, ?flk, ?key, ?lay, ?wr, ?position, ?param⟩
  case rd => exact issues_of_trigRow rfl (dropletRead_of_held held fun sl => sl.d.word (x.toNat % 16))
  case flk => exact issues_of_trigRow rfl (dropletRead_of_held held fun sl => flkNum sl.flk (4 * (x.toNat % 16)) 4)
  case key => exact issues_of_trigRow rfl (dropletRead_of_held held fun sl => flkNum sl.prec.key (4 * (x.toNat % 16)) 4)
  case lay => exact issues_of_trigRow rfl (dropletRead_of_held held fun sl => sl.prec.layers.getD (x.toNat % 16) 0)
  case wr => exact fun _ writable => issues_of_trigRow rfl (dlWr_of_held held writable)
  case position => exact fun operand => issues_of_trigRow rfl (dlPinfo_position held operand)
  case param => exact fun operand => issues_of_trigRow rfl (dlPinfo_param held operand)

end Sys2Proof
end

section
/-! The channel unit (Table 9.10, R382 to R385, R439 to R446, R460 to R463): each row on the branch that finds the channel, the
party and the room that it needs, and where a put on a ring leaves its word. -/

namespace Sys2Proof

open Machine

/-! ### Puts, gets, counts and watches, one equation per branch -/

section Operations

variable {u : State} {t x k : Nat}

section Put

variable {last : Bool} (channel : chanKey t (u.opnd t 0x300) = some k) (producer : isParty t (u.chProd k) = true)
  (packetFits : last = false → (u.chOpen k).length + 1 < u.chCap k)

include channel producer packetFits

/-- A put on a full ring waits for room, for the time of ch.tmo (R383). -/
theorem chPut_of_full (full : u.chCap k ≤ u.chFill k) (ring : isSpill k = false) :
    let lim := u.opnd t 0x302 % 2 ^ 24
    chPut u t x last = (u.putOp t uCh
      { wait := 3, arg := k, arg2 := u.opnd t 0x301 * 2 ^ 32 + x % 2 ^ 32, flag := last,
        limit := if lim = 0 then none else some (u.now + 1000 * lim) }, 0) := by
  have fits : (!last && decide (u.chCap k ≤ (u.chOpen k).length + 1)) = false := by simpa using packetFits
  simp only [chPut, channel, producer, fits, full, ring, Bool.not_true, Bool.false_eq_true, if_false, if_true]

/-- A put that finds room appends its word, and who waits on the channel is served (R441, R446). -/
theorem chPut_of_room (room : u.chFill k < u.chCap k) :
    chPut u t x last = (((u.chAppend k (BitVec.ofNat 64 (u.opnd t 0x301 * 2 ^ 32 + x % 2 ^ 32)) last).startOp t uCh
      [] stOk).chServeAll k, 0) := by
  have fits : (!last && decide (u.chCap k ≤ (u.chOpen k).length + 1)) = false := by simpa using packetFits
  simp only [chPut, channel, producer, fits, Nat.not_le.mpr room, Bool.not_true, Bool.false_eq_true, if_false]

end Put

/-- A get waits while no whole packet stands (R383, R446). -/
theorem chGet_of_not_ready (channel : chanKey t (u.opnd t 0x300) = some k) (consumer : isParty t (u.chCons k) = true)
    (empty : u.chReady k = false) :
    let lim := u.opnd t 0x302 % 2 ^ 24
    chGet u t = (u.putOp t uCh
      { wait := 2, arg := k, limit := if lim = 0 || 1536 ≤ t then none else some (u.now + 1000 * lim) }, 0) := by
  simp only [chGet, channel, consumer, empty, Bool.not_true, Bool.not_false, Bool.false_eq_true, if_false, if_true]

/-- A get that finds a whole packet ends with what the channel gives. -/
theorem chGet_of_ready {st : Nat} {w : ChWord} {v : State} (channel : chanKey t (u.opnd t 0x300) = some k)
    (consumer : isParty t (u.chCons k) = true) (ready : u.chReady k = true)
    (taken : u.chTake k (u.ceDesc (t - 1536)) ((u.thread t).partGet.contains k) = ((st, w), v)) :
    chGet u t = ((v.endGet t k st w).chServeAll k, 0) := by
  simp only [chGet, channel, consumer, ready, taken, Bool.not_true, Bool.false_eq_true, if_false]

theorem chCount_of_channel (channel : chanKey t (u.opnd t 0x300) = some k) :
    chCount u t = (u.startOp t uCh [(0x303, BitVec.ofNat 32 (u.chWhole k))] stOk, 0) := by
  simp only [chCount, channel]

/-- A watch on at most four channels is entered, and its event is set at once where a watched condition holds (R460). -/
theorem chWatch_of_party (channel : chanKey t (x % 1024) = some k) (watched : bits x 12 4 ≠ 0)
    (party : (isParty t (u.chProd k) || isParty t (u.chCons k)) = true)
    (room : ((u.thread t).watches.filter fun w => w.1 != x % 1024).length < 4) :
    let v := (u.updThread t fun th => { th with watches :=
      ((u.thread t).watches.filter fun w => w.1 != x % 1024) ++ [(x % 1024, bits x 12 4)] }).startOp t uCh [] stOk
    chWatch u t x = (if v.chConds k &&& bits x 12 4 ≠ 0 then v.watchThread t else v, 0) := by
  simp only [chWatch, channel, watched, party, Nat.not_le.mpr room, Bool.not_true, Bool.false_eq_true, if_false]

end Operations

/-! ### A word put on a ring (R439, R441) -/

section Ring

variable {v : State} {k : Nat} {w : W64} {last : Bool}

@[simp] theorem chan_setChan_self (c : Chan) : (v.setChan k c).chan_ k = c :=
  SMap.get_put_self v.chan k c {}

/-- The word stands in slot W of the basin's shared SRAM. -/
theorem shared_chPush_of_ring (ring : isSpill k = false) :
    (v.chPush k w last).mem.shared = cellWrite v.mem.shared (v.ringAddr k (v.chan_ k).wp) (leBytes 8 w.toNat) := by
  simp only [State.chPush, ring, Bool.false_eq_true, if_false, State.setChan]

/-- W goes on by one, P goes to it behind an end mark, and R stays. -/
theorem chan_chPush_of_ring (ring : isSpill k = false) :
    let c := v.chan_ k
    let wp := v.ringStep k c.wp 1
    (v.chPush k w last).chan_ k =
      { c with side := SMap.put c.side (v.ringSlot k c.wp) (flagBit last) 0, wp := wp, cp := if last then wp else c.cp } := by
  simp only [State.chPush, ring, Bool.false_eq_true, if_false, chan_setChan_self]

end Ring

/-- Settles O14: each clause of a row is the branch of its operation that it names, a put as the end of a packet needing no room
for a further word; the word of a ring is read back where it was written. -/
theorem channelTriggersPutGetCountAndWatch : Obligations.ChannelTriggersPutGetCountAndWatch := by
  unfold Obligations.ChannelTriggersPutGetCountAndWatch
  intro s t x u word lim
  refine ⟨fun k channel producer => ⟨?putWaits, ?put⟩, fun k channel producer => ⟨?putlWaits, ?putl⟩,
    fun k channel consumer => ⟨?getWaits, ?get⟩, ?count, ?watch, ?unwatch,
    fun v k w last ring => ⟨?stored, ?pointers⟩⟩
  case putWaits =>
    exact fun fits full ring => issues_of_trigRow rfl (chPut_of_full channel producer (fun _ => fits) full ring)
  case put => exact fun fits room => issues_of_trigRow rfl (chPut_of_room channel producer (fun _ => fits) room)
  case putlWaits => exact fun full ring => issues_of_trigRow rfl (chPut_of_full channel producer nofun full ring)
  case putl => exact fun room => issues_of_trigRow rfl (chPut_of_room channel producer nofun room)
  case getWaits => exact fun empty => issues_of_trigRow rfl (chGet_of_not_ready channel consumer empty)
  case get => exact fun _ _ _ ready taken => issues_of_trigRow rfl (chGet_of_ready channel consumer ready taken)
  case count => exact fun _ channel => issues_of_trigRow rfl (chCount_of_channel channel)
  case watch =>
    exact fun _ channel watched party room => issues_of_trigRow rfl (chWatch_of_party channel watched party room)
  case unwatch => exact issues_of_trigRow rfl rfl
  case stored => rw [shared_chPush_of_ring ring, cellRead_write _ _ _ _ (leBytes_length 8 _)]
  case pointers => rw [chan_chPush_of_ring ring]; exact ⟨rfl, rfl, rfl⟩

end Sys2Proof
end

section
/-! The helpers (Tables 9.17 and 10.2, R403, R406, R409, R410, R413 to R425). Past the claim, the state and the lazy switch, a
trigger that works on a thread's registers is its own effect in the switched state, and the seventeen rows of Table 10.2 run
one operation, which differs in what becomes of the registers. -/

namespace Sys2Proof

open Machine

/-! ### What leaves every helper as it was -/

section Frame

variable (s : State) (t : Nat)

theorem freePorts_hlp (ps : List Nat) : (s.freePorts ps).2.hlp = s.hlp := by
  induction ps generalizing s with
  | nil => rfl
  | cons p ps ih => exact (ih s.free.2).trans (State.free_hlp s)

theorem opPorts_hlp (k : Nat) (given : List (Nat × W32)) (st : Nat) : (s.opPorts k given st).2.hlp = s.hlp := by
  unfold State.opPorts
  dsimp only
  split
  · exact freePorts_hlp s _
  · rfl

@[simp] theorem startOp_hlp (k : Nat) (given : List (Nat × W32)) (st : Nat) : (s.startOp t k given st).hlp = s.hlp :=
  opPorts_hlp s k given st

@[simp] theorem completeOp_hlp (k : Nat) : (s.completeOp t k).hlp = s.hlp := by
  unfold State.completeOp
  split
  · rfl
  · exact pIte (P := fun w : State => w.hlp = s.hlp) rfl rfl

@[simp] theorem freeWindow_hlp : (s.freeWindow t).hlp = s.hlp := by
  unfold State.freeWindow
  split
  · rfl
  · exact pIte (P := fun w : State => w.hlp = s.hlp) rfl rfl

@[simp] theorem wakeThread_hlp : (s.wakeThread t).hlp = s.hlp := by
  unfold State.wakeThread
  dsimp only
  split
  · rfl
  · exact pIte (P := fun w : State => w.hlp = s.hlp)
      ((State.updThread_hlp _ t _).trans (startOp_hlp s t uEvt _ stOk)) rfl

@[simp] theorem setEvent_hlp (n : Nat) : (s.setEvent t n).hlp = s.hlp :=
  wakeThread_hlp _ t

theorem helper_eq_of_hlp_eq {s v : State} (same : v.hlp = s.hlp) (b h : Nat) : v.helper b h = s.helper b h :=
  congrArg (fun m => SMap.get m (2 * b + h) ({} : Helper)) same

@[simp] theorem helper_setHelper_self (b h : Nat) (c : Helper) : (s.setHelper b h c).helper b h = c :=
  SMap.get_put_self s.hlp (2 * b + h) c {}

end Frame

/-! ### The lazy switch (R409, R410) -/

section Switch

variable {v : State} {b h k : Nat}

/-- The live registers go to their owner's save slot. -/
theorem shared_saveLive_of_live {j : Nat} (owner : (v.helper b h).live = some j) :
    (v.saveLive b h).mem.shared = cellWrite v.mem.shared (v.slotAddr b h j)
      (((fullRegs (v.helper b h).regs).map fun r => leBytes 16 r).flatten) := by
  simp only [State.saveLive, owner, State.saveSlot]

/-- A thread whose registers are not live gets them from its save slot. -/
theorem hlpSwitch_of_slot (away : (v.helper b h).live ≠ some k) (whole : (v.saveLive b h).slotLost b h k = false) :
    let w := v.saveLive b h
    v.hlpSwitch b h k = (false, (w.setHelper b h { w.helper b h with live := some k, regs := w.slotRegs b h k }).bump
      Reg.BSN_HLP_SWITCH_CNT) := by
  simp only [State.hlpSwitch, away, whole, Bool.false_eq_true, if_false]

end Switch

/-! ### The gate and what stands behind it -/

section Gate

variable {u : State} {t h : Nat}

theorem hlpClaim_of_free (packet : t < 1536) (noOrphan : (u.helper (threadBasin t) h).orphan = none)
    (unclaimed : (u.helper (threadBasin t) h).claim = none) :
    hlpClaim u t h = ((u.setClaim (threadBasin t) h (some (t % 128))).startOp t (uHlp h) [] stOk, 0) := by
  simp only [hlpClaim, Nat.not_le.mpr packet, noOrphan, unclaimed, Option.isSome_none, Bool.false_eq_true, if_false]

/-- The claim holder passes the gate, where it needs no running helper or the helper is UP (R403, R427). -/
theorem hlpGate_of_claimed {needs : Bool} (f : Nat → Nat → State) (packet : t < 1536)
    (noOrphan : ((u.helper (threadBasin t) h).orphan.map fun o => o.1) ≠ some (t % 128))
    (claimed : (u.helper (threadBasin t) h).claim = some (t % 128))
    (up : needs = true → u.fld (hlpState h) (threadBasin t) 0 = 1) :
    u.hlpGate t h needs f = (f (threadBasin t) (t % 128), 0) := by
  have runs : (needs && u.fld (hlpState h) (threadBasin t) 0 != 1) = false := by simpa using up
  simp only [State.hlpGate, Nat.not_le.mpr packet, noOrphan, claimed, runs, ne_eq, not_true_eq_false, Bool.false_eq_true,
    if_false]

variable (works : HelperWorks u t h)

include works

/-- A trigger on the registers of a thread that the helper works for is its effect in the switched state. -/
theorem hlpWork_of_works (f : State → Nat → Helper → State) :
    let v := (u.hlpSwitch (threadBasin t) h (t % 128)).2
    u.hlpWork t h f = (f v (threadBasin t) (v.helper (threadBasin t) h), 0) := by
  obtain ⟨packet, noOrphan, claimed, up, context⟩ := works
  have switched : u.hlpSwitch (threadBasin t) h (t % 128) = (false, (u.hlpSwitch (threadBasin t) h (t % 128)).2) :=
    Prod.ext context rfl
  rw [State.hlpWork, hlpGate_of_claimed _ packet noOrphan claimed fun _ => up, switched]

/-- A write of one word of the registers runs in the helper (R406). -/
theorem hlpWr_of_works (x : Nat) :
    let v := (u.hlpSwitch (threadBasin t) h (t % 128)).2
    let c := v.helper (threadBasin t) h
    let sel := u.opnd t (hlpPort h 0) % 64
    hlpWr u t h x = (v.hlpRun t h (threadBasin t) 3
      (setHreg c.regs (sel / 4) (setBits (hreg c.regs (sel / 4)) (32 * (sel % 4)) 32 x)) c.open_ stOk, 0) := by
  rw [hlpWr, hlpWork_of_works works]

theorem hlpRd_of_works (x : Nat) :
    let v := (u.hlpSwitch (threadBasin t) h (t % 128)).2
    hlpRd u t h x = (v.startOp t (uHlp h) [(hlpPort h 2, BitVec.ofNat 32
      (bits (hreg (v.helper (threadBasin t) h).regs (x % 64 / 4)) (32 * (x % 4)) 32))] stOk, 0) := by
  rw [hlpRd, hlpWork_of_works works]

/-- A feed with a stream open reads the droplet, and it sets HELPER when it completes (R422, R426). -/
theorem hlpFeed_of_open {x i : Nat} {sl : Slot} {w : W32} :
    let v := (u.hlpSwitch (threadBasin t) h (t % 128)).2
    let c := v.helper (threadBasin t) h
    let hd := u.opnd t (hlpPort h 1)
    v.heldBy t hd = (stOk, i, sl) → c.open_ = some w →
      hlpFeed u t h x = ((v.feedDroplet t h (threadBasin t) x c sl.d w).hlpMark t h (some hd), 0) := by
  intro v c hd held opened
  simp only [hlpFeed, hlpWork_of_works works, v, c, hd, held, opened, ne_eq, not_true_eq_false, if_false]

/-- A well-formed operation that the context allows runs in the helper (R415, R419, R420). -/
theorem hlpOp_of_allowed {x : Nat} (f : List Nat → List Nat) (opens : Bool) (formed : opWordOk h x = true) :
    let v := (u.hlpSwitch (threadBasin t) h (t % 128)).2
    let regs := (v.helper (threadBasin t) h).regs
    let opened := if opens then some (BitVec.ofNat 32 x) else none
    contextOk regs x = true →
      u.hlpOp t h x f opens = ((v.hlpRun t h (threadBasin t) 1 (f regs) opened stOk).hlpMark t h none, 0) := by
  intro v regs opened allowed
  simp only [State.hlpOp, hlpWork_of_works works, v, regs, opened, formed, allowed, Bool.not_true, Bool.or_self,
    Bool.false_eq_true, if_false]

end Gate

/-- A row that runs one operation of Table 10.2 answers what that operation does in a helper that works for the thread. -/
theorem helperOp_of_trigRow {s : State} {t : Fin 1544} {h op : Nat} {x : W32} {c : Instr} {f : List Nat → List Nat}
    {opens : Bool} (hrow : exec c s = .next (s.trigRow t.val (0x474 + 0x40 * h) (rowWord op x) fun u =>
      u.hlpOp t.val h (rowWord op x).toNat f opens)) : HelperOp s t h op x c f opens := by
  intro may works formed allowed
  have runs := hlpOp_of_allowed works f opens formed allowed
  -- the word of the row is the word that the operation is given
  rw [BitVec.ofNat_toNat, BitVec.setWidth_eq] at runs
  exact issues_of_trigRow hrow runs may

/-! ### Completion -/

/-- A trigger that ran in the helper writes its registers and its open operation when it completes (R425). -/
theorem helper_hlpDone {v : State} {t h : Nat} {o : UnitOp} {regs : List Nat} {opened : Option W32}
    (running : SMap.find (v.thread t).ops (uHlp h) = some o) (inHelper : o.arg2 ≠ 0)
    (writes : (v.helper (threadBasin t) h).next = some (regs, opened)) :
    (v.hlpDone t h).helper (threadBasin t) h =
      { v.helper (threadBasin t) h with regs := fullRegs regs, open_ := opened, next := none } := by
  simp only [State.hlpDone, running, inHelper, writes, if_false]
  refine (helper_eq_of_hlp_eq ?_ _ _).trans (helper_setHelper_self v _ _ _)
  split <;> simp

/-- Settles O19: each clause of a trigger is the branch of its operation that finds the helper free, claimed or at work; a
completion and a switch write the helper's registers as their equations say. -/
theorem helperPortTriggersClaimReleaseAndMoveData : Obligations.HelperPortTriggersClaimReleaseAndMoveData := by
  unfold Obligations.HelperPortTriggersClaimReleaseAndMoveData
  intro s t h x u b
  refine ⟨?claim, ?rel, fun works => ?wr, fun works => ?rd, fun i sl w works held opened => ?feed,
    fun v o regs opened running inHelper writes => ?done, fun v k away => ⟨fun whole => ?switch, fun j owner => ?save⟩⟩
  case claim => exact fun packet noOrphan unclaimed => issues_of_trigRow rfl (hlpClaim_of_free packet noOrphan unclaimed)
  case rel =>
    exact fun packet noOrphan claimed => issues_of_trigRow rfl (hlpGate_of_claimed _ packet noOrphan claimed nofun)
  case wr => exact issues_of_trigRow rfl (hlpWr_of_works works x.toNat)
  case rd => exact issues_of_trigRow rfl (hlpRd_of_works works x.toNat)
  case feed => exact issues_of_trigRow rfl (hlpFeed_of_open works held opened)
  case done => rw [helper_hlpDone running inHelper writes]; exact ⟨rfl, rfl⟩
  case switch =>
    rw [hlpSwitch_of_slot away whole, helper_eq_of_hlp_eq (State.bump_hlp _ _), helper_setHelper_self]
    exact ⟨rfl, rfl, rfl, rfl⟩
  case save => exact shared_saveLive_of_live owner

/-- Settles O20: each row runs the operation of Table 10.2 whose word it makes, and what becomes of the registers is the same
function in both. -/
theorem cipherHelperOperationsSetTheirRegisters : Obligations.CipherHelperOperationsSetTheirRegisters := by
  unfold Obligations.CipherHelperOperationsSetTheirRegisters
  intro s t x
  refine ⟨?gcmInit, ?gcmAad, ?gcmEnc, ?gcmDec, ?gcmTag, ?cmacInit, ?cmacData, ?cmacTag, ?aesBlk, ?eq⟩
  all_goals exact helperOp_of_trigRow rfl

/-- Settles O21, as O20: the initial and the final values are in the function of the registers. -/
theorem checkHelperOperationsSetTheirRegisters : Obligations.CheckHelperOperationsSetTheirRegisters := by
  unfold Obligations.CheckHelperOperationsSetTheirRegisters
  intro s t x
  refine ⟨?crcOpen, ?crcReg, ?crcEnd, ?csumOpen, ?csumReg, ?csumEnd, ?hash⟩
  all_goals exact helperOp_of_trigRow rfl

end Sys2Proof
end

section
/-! The logs of Fountainhead and the command CONFIRM (R838, R850, R872). A read of a log moves the cursor of its bank and
answers one word; CONFIRM writes the counter before it completes, and what a completion raises touches neither the
counters nor RESULT. -/

namespace Sys2Proof

open Machine

/-! ### A vector that is raised leaves the fields and Fountainhead -/

section Raise

variable (s : State)

/-- A vector goes out, or waits in the pending bits. -/
theorem sendVec_eq (p v : Nat) : s.sendVec p v = { s with hst := (s.sendVec p v).hst, out := (s.sendVec p v).out } := by
  unfold State.sendVec
  split
  · rfl
  · dsimp only
    split_ifs <;> rfl

/-- A vector that an interval holds back is kept there. -/
theorem signalVec_eq (p v : Nat) :
    s.signalVec p v = { s with hst := (s.signalVec p v).hst, out := (s.signalVec p v).out } := by
  unfold State.signalVec
  split
  · dsimp only
    split
    · split_ifs <;> rfl
    · rw [sendVec_eq]
      split_ifs <;> rfl
  · exact sendVec_eq s p v

@[simp] theorem signalVec_fth (p v : Nat) : (s.signalVec p v).fth = s.fth := by rw [signalVec_eq]

@[simp] theorem signalVec_fld (p v : Nat) (f : Fld) (i b : Nat) : (s.signalVec p v).fld f i b = s.fld f i b := by
  rw [signalVec_eq]; rfl

@[simp] theorem devicePost_fth (page : Nat) : (s.devicePost page).fth = s.fth := by
  unfold State.devicePost
  split
  · rfl
  · dsimp only
    split_ifs <;> simp

/-- A post to the FIFO sets no field but FIFO_FULL. -/
theorem devicePost_fld_of_ne {f : Fld} {i b : Nat} (page : Nat) (other : f.key i b ≠ Reg.PMP_INT_STATUS_FIFO_FULL.key 0 0) :
    (s.devicePost page).fld f i b = s.fld f i b := by
  unfold State.devicePost
  split
  · rfl
  · dsimp only
    split_ifs
    · rfl
    · rw [signalVec_fld, State.fld_setFld_of_ne _ _ _ _ _ _ _ _ other]; rfl
    · rw [State.fld_setFld_of_ne _ _ _ _ _ _ _ _ other]; rfl
    · rfl

@[simp] theorem event_fth (st en : Fld) (bank p : Nat) : (s.event st en bank p).fth = s.fth := by
  unfold State.event
  dsimp only
  split <;> simp

/-- An event sets its own bit, and FIFO_FULL where it is posted. -/
theorem event_fld_of_ne {f st : Fld} {i b bank : Nat} (en : Fld) (p : Nat) (notStatus : f.key i b ≠ st.key 0 bank)
    (notFull : f.key i b ≠ Reg.PMP_INT_STATUS_FIFO_FULL.key 0 0) : (s.event st en bank p).fld f i b = s.fld f i b := by
  have posted := (devicePost_fld_of_ne (s.setFld st 0 bank (2 ^ st.w - 1)) st.page notFull).trans
    (State.fld_setFld_of_ne s _ _ _ _ _ _ _ notStatus)
  unfold State.event
  dsimp only
  split
  · rw [signalVec_fld, posted]
  · exact posted

end Raise

/-! ### A command of Fountainhead -/

section Command

variable {s : State} {p : Nat}

@[simp] theorem fthDone_fth (r : Nat) : (s.fthDone p r).fth = s.fth := by simp [State.fthDone]

/-- RESULT reads the result, in its width. -/
theorem result_fthDone (r : Nat) : (s.fthDone p r).fld Reg.FTH_CMD_RESULT 0 p = r % 16 := by
  have notDone : Reg.FTH_CMD_RESULT.key 0 p ≠ Reg.FTH_INT_STATUS_CMD_DONE.key 0 p := by
    simp [Fld.key, Reg.FTH_CMD_RESULT, Reg.FTH_INT_STATUS_CMD_DONE]
  have notFull : Reg.FTH_CMD_RESULT.key 0 p ≠ Reg.PMP_INT_STATUS_FIFO_FULL.key 0 0 := by
    simp only [Fld.key, Reg.FTH_CMD_RESULT, Reg.PMP_INT_STATUS_FIFO_FULL]; omega
  have notPending : Reg.FTH_CMD_RESULT.key 0 p ≠ Reg.FTH_CMD_PENDING.key 0 p := by
    simp [Fld.key, Reg.FTH_CMD_RESULT, Reg.FTH_CMD_PENDING]
  unfold State.fthDone
  rw [event_fld_of_ne _ _ _ notDone notFull, State.fld_setFld_of_ne _ _ _ _ _ _ _ _ notPending]
  exact State.fld_setFld_self s _ 0 p r

theorem fthCommand_of_sup {f : State → Nat × State} (page : s.pageOk p 14 = true) (sup : s.isSup p = true) :
    s.fthCommand p f = (f s).2.fthDone p (f s).1 := by
  simp only [State.fthCommand, page, sup, Bool.not_true, Bool.false_eq_true, if_false]

variable (page : s.pageOk p 14 = true) (sup : s.isSup p = true)
include page sup

theorem fthConfirm_without_image (bridge : s.imageRuns = false) : fthConfirm s p = s.fthDone p stInvalid := by
  simp only [fthConfirm, fthCommand_of_sup page sup, bridge, Bool.not_false, if_true]

theorem fthConfirm_of_reached (image : s.imageRuns = true) (reached : s.img.rollback ≤ s.fth.counter0) :
    fthConfirm s p = s.fthDone p stDouble := by
  simp only [fthConfirm, fthCommand_of_sup page sup, image, reached, Bool.not_true, Bool.false_eq_true, if_false, if_true]

theorem fthConfirm_of_below (image : s.imageRuns = true) (below : s.fth.counter0 < s.img.rollback) :
    fthConfirm s p = ({ s with fth := { s.fth with counter0 := s.img.rollback } }.wr Reg.FTH_COUNTER0_VALUE
      s.img.rollback).fthDone p stOk := by
  simp only [fthConfirm, fthCommand_of_sup page sup, image, Nat.not_le.mpr below, Bool.not_true, Bool.false_eq_true, if_false]

end Command

/-! ### The cursors -/

/-- The answer of a read of the fault log: the word w in the field f, and the cursor of the bank at c. -/
def flogAnswer (m : State) (bank : Nat) (f : Fld) (w c : Nat) : State :=
  ({ m with fth := { m.fth with flogCur := SMap.put m.fth.flogCur bank c 0 } }.setFld f 0 bank w).emit (.reg bank w)

/-- The same for the reservoir map. -/
def rsvAnswer (m : State) (bank : Nat) (f : Fld) (w c : Nat) : State :=
  ({ m with fth := { m.fth with rsvCur := SMap.put m.fth.rsvCur bank c 0 } }.setFld f 0 bank w).emit (.reg bank w)

section Reads

variable {m : State} {bank : Nat} (reads : (decide (bank < 4) && !m.pageReads bank 14) = false)
include reads

theorem flogCountRead_of_reads :
    flogCountRead m bank = flogAnswer m bank Reg.FTH_FLOG_COUNT_COUNT m.fth.flog.length 0 := by
  simp only [flogCountRead, reads, Bool.false_eq_true, if_false, flogAnswer]

theorem flogDataRead_of_entry {e : FlogEnt} (entry : m.fth.flog[SMap.get m.fth.flogCur bank 0 / 8]? = some e) :
    let k := SMap.get m.fth.flogCur bank 0
    flogDataRead m bank = flogAnswer m bank Reg.FTH_FLOG_DATA_WORD (leNat ((e.bytes.drop (4 * (k % 8))).take 4)) (k + 1) := by
  simp only [flogDataRead, reads, entry, Bool.false_eq_true, if_false, flogAnswer]

theorem flogDataRead_behind_last (behind : m.fth.flog[SMap.get m.fth.flogCur bank 0 / 8]? = none) :
    flogDataRead m bank = flogAnswer m bank Reg.FTH_FLOG_DATA_WORD 0xFFFFFFFF 0 := by
  simp only [flogDataRead, reads, behind, Bool.false_eq_true, if_false, flogAnswer]

theorem rsvCountRead_of_reads :
    rsvCountRead m bank = rsvAnswer m bank Reg.FTH_RSV_COUNT_COUNT m.fth.rsv.length 0 := by
  simp only [rsvCountRead, reads, Bool.false_eq_true, if_false, rsvAnswer]

theorem rsvDataRead_of_entry {e : RsvEnt} (entry : m.fth.rsv[SMap.get m.fth.rsvCur bank 0 / 4]? = some e) :
    let k := SMap.get m.fth.rsvCur bank 0
    rsvDataRead m bank = rsvAnswer m bank Reg.FTH_RSV_DATA_WORD (leNat ((e.bytes.drop (4 * (k % 4))).take 4)) (k + 1) := by
  simp only [rsvDataRead, reads, entry, Bool.false_eq_true, if_false, rsvAnswer]

theorem rsvDataRead_behind_last (behind : m.fth.rsv[SMap.get m.fth.rsvCur bank 0 / 4]? = none) :
    rsvDataRead m bank = rsvAnswer m bank Reg.FTH_RSV_DATA_WORD 0xFFFFFFFF 0 := by
  simp only [rsvDataRead, reads, behind, Bool.false_eq_true, if_false, rsvAnswer]

end Reads

/-- After the wake the page answers a partition; the management port needs no link. -/
theorem MayRead.notTurnedAway {s : State} {p page : Nat} (h : MayRead s p page) :
    (decide (p < 4) && !(s.woken p).pageReads p page) = false := by
  by_cases host : p < 4
  · rw [h.page host, Bool.not_true, Bool.and_false]
  · rw [decide_eq_false host, Bool.false_and]

theorem othersKeep_put (m : SMap Nat) (bank c : Nat) : OthersKeep m (SMap.put m bank c 0) bank :=
  fun _ other => SMap.get_put_of_ne m c 0 0 other

section Runs

variable {s : State} {i : Instr} {bank : Nat} {op : State → State} {f : Fld} {w c : Nat}
  (row : exec i s = .next (s.hostGet bank 14 op)) (may : MayRead s bank 14)
include row may

/-- A row that reads the fault log answers the word, sets the bank's cursor, and leaves the log and the other cursors. -/
theorem runs_flogRead (answer : op (s.woken bank) = flogAnswer (s.woken bank) bank f w c) :
    ∃ t, Runs s i t ∧ t.out = .reg bank w :: (s.woken bank).out ∧ SMap.get t.fth.flogCur bank 0 = c ∧
      OthersKeep (s.woken bank).fth.flogCur t.fth.flogCur bank ∧ t.fth.flog = (s.woken bank).fth.flog :=
  ⟨_, row.trans (congrArg _ ((hostGet_runs may).trans answer)), rfl, SMap.get_put_self .., othersKeep_put _ _ _, rfl⟩

/-- The same for a row that reads the reservoir map. -/
theorem runs_rsvRead (answer : op (s.woken bank) = rsvAnswer (s.woken bank) bank f w c) :
    ∃ t, Runs s i t ∧ t.out = .reg bank w :: (s.woken bank).out ∧ SMap.get t.fth.rsvCur bank 0 = c ∧
      OthersKeep (s.woken bank).fth.rsvCur t.fth.rsvCur bank ∧ t.fth.rsv = (s.woken bank).fth.rsv :=
  ⟨_, row.trans (congrArg _ ((hostGet_runs may).trans answer)), rfl, SMap.get_put_self .., othersKeep_put _ _ _, rfl⟩

end Runs

/-- An entry is written to the front of the fault log. -/
theorem flog_logFault (s : State) (kind cause : Nat) (data : List Nat) : ∃ e : FlogEnt, e.kind = kind ∧ e.cause = cause ∧
    e.time = s.now ∧ (s.logFault kind cause data).fth.flog = (e :: s.fth.flog).take 4096 := by
  refine ⟨_, ?kind, ?cause, ?time, rfl⟩
  all_goals rfl

/-- Settles O55: each read is the branch of its operation that the clause names, with the bank's cursor put; CONFIRM completes
with the result of its branch, and its completion leaves the counter and RESULT. -/
theorem logsAreReadAndConfirmAnswersAsTheirRulesSay : Obligations.LogsAreReadAndConfirmAnswersAsTheirRulesSay := by
  unfold Obligations.LogsAreReadAndConfirmAnswersAsTheirRulesSay
  intro s
  refine ⟨flog_logFault s, fun bank may => ?reads, fun p may => ?confirm⟩
  case reads =>
    have reads := may.notTurnedAway
    refine ⟨?flogCount, ?flogData, ?flogBehind, ?rsvCount, ?rsvData, ?rsvBehind⟩
    case flogCount => exact runs_flogRead rfl may (flogCountRead_of_reads reads)
    case flogData => exact fun _ entry => runs_flogRead rfl may (flogDataRead_of_entry reads entry)
    case flogBehind => exact fun behind => runs_flogRead rfl may (flogDataRead_behind_last reads behind)
    case rsvCount => exact runs_rsvRead rfl may (rsvCountRead_of_reads reads)
    case rsvData => exact fun _ entry => runs_rsvRead rfl may (rsvDataRead_of_entry reads entry)
    case rsvBehind => exact fun behind => runs_rsvRead rfl may (rsvDataRead_behind_last reads behind)
  case confirm =>
    have page := may.pageAt
    refine fun sup => ⟨fthConfirm (s.woken p.val) p.val, congrArg Host.Outcome.next (hostCmd_runs may),
      ?ok, ?double, ?invalid⟩
    case ok =>
      intro image below
      rw [fthConfirm_of_below page sup image below]
      exact ⟨congrArg FthSt.counter0 (fthDone_fth _), result_fthDone stOk⟩
    case double =>
      intro image reached
      rw [fthConfirm_of_reached page sup image reached]
      exact ⟨congrArg FthSt.counter0 (fthDone_fth _), result_fthDone stDouble⟩
    case invalid =>
      intro bridge
      rw [fthConfirm_without_image page sup bridge]
      exact ⟨congrArg FthSt.counter0 (fthDone_fth _), result_fthDone stInvalid⟩

end Sys2Proof
end

section
/-! The BAR0 accesses of a partition whose reset runs (R902): its page takes no write, so a write and the command a write
gives stop before their operation; a read asks only whether the page answers, which RESET_BUSY has no part in. -/

namespace Sys2Proof

open Machine

section ResetBusy

variable {s : State} {p : Fin 4} (busy : s.on Reg.HST_STATUS_RESET_BUSY 0 p.val = true)
include busy

theorem pageOk_of_resetBusy (page : Nat) : s.pageOk p.val page = false := by
  simp only [State.pageOk, busy, Bool.not_true, Bool.and_false]

theorem hostWr_of_resetBusy (page : Nat) (f : State → State) : s.hostWr p.val page f = s :=
  if_neg (Bool.eq_false_iff.mp (pageOk_of_resetBusy busy page))

theorem hostCmd_of_resetBusy (page : Nat) (f : State → State) : s.hostCmd p.val page f = s :=
  (if_pos p.isLt).trans (hostWr_of_resetBusy busy page f)

/-- The exception that the fallback bridge makes of the rule page is no exception from the reset. -/
theorem ruleCmd_of_resetBusy (f : State → State) : s.ruleCmd p.val f = s := by
  unfold State.ruleCmd
  split
  · simp only [busy, Bool.not_true, Bool.and_false, Bool.false_eq_true, if_false]
  · exact hostCmd_of_resetBusy busy 3 f

/-- A word written to BAR0 goes the way of a command; a misaligned one goes nowhere. -/
theorem bar0Write_of_resetBusy (addr v : Nat) : registerWrite s p.val false addr v = s := by
  unfold registerWrite
  split
  · rfl
  · simp only [Bool.false_eq_true, if_false, if_pos p.isLt, hostWr_of_resetBusy busy]

theorem bar0PartialWrite_of_resetBusy : bar0PartialWrite s p.val = s := hostWr_of_resetBusy busy 0 _

theorem stays_of_hostCmd {c : Instr} {page : Nat} {f : State → State} (row : exec c s = .next (s.hostCmd p.val page f)) :
    Runs s c s :=
  row.trans (congrArg _ (hostCmd_of_resetBusy busy page f))

theorem stays_of_ruleCmd {c : Instr} {f : State → State} (row : exec c s = .next (s.ruleCmd p.val f)) : Runs s c s :=
  row.trans (congrArg _ (ruleCmd_of_resetBusy busy f))

end ResetBusy

/-- An aligned read by a partition that its page answers. -/
theorem rcFieldRead_of_mayRead {s : State} {p : Fin 4} {addr : Nat} (be : Nat) (aligned : addr % 4 = 0)
    (may : MayRead s p.val (addr / 65536)) : rcFieldRead s p.val addr be =
      (s.woken p.val).readMasked be fun v => v.readWord p.val (addr / 65536) (addr % 65536) :=
  calc rcFieldRead s p.val addr be
    _ = s.hostGet p.val (addr / 65536) fun v => v.readMasked be fun v =>
          v.readWord p.val (addr / 65536) (addr % 65536) := by
      rw [rcFieldRead, if_neg (not_not_intro aligned), State.hostGet, if_pos p.isLt]
    _ = _ := hostGet_runs may

/-- Settles O56: every row of a write or of a command is one of the two ways by which a partition's command reaches its page,
and the reset closes both; the reads pass by another way, which does not see RESET_BUSY. -/
theorem writesWaitForNoResetOfThePartition : Obligations.WritesWaitForNoResetOfThePartition := by
  unfold Obligations.WritesWaitForNoResetOfThePartition
  intro s p busy
  refine ⟨fun a v => ?write, ?partialWrite, fun page v => ?pages, fun a be aligned may => ?read, ?commands⟩
  case write => exact congrArg Host.Outcome.next (bar0Write_of_resetBusy busy a.toNat v.toNat)
  case partialWrite => exact congrArg Host.Outcome.next (bar0PartialWrite_of_resetBusy busy)
  case pages => rfl
  case read => exact congrArg Host.Outcome.next (rcFieldRead_of_mayRead be.toNat aligned may)
  case commands =>
    -- The commands before COMMIT_REQUEST; then the four of staging and commit; then the rest.
    iterate 46 refine ⟨by intros; exact stays_of_hostCmd busy rfl, ?_⟩
    iterate 4 refine ⟨stays_of_ruleCmd busy rfl, ?_⟩
    and_intros
    all_goals intros; exact stays_of_hostCmd busy rfl

end Sys2Proof
end

section
/-! Every row of the opcode table answers a next state that carries the queue, soundness, and what no command takes back; so
does a step. -/

namespace Sys2Proof

open Machine

/-- The dispatcher has one arm for each row, and each row carries what it must. -/
theorem exec_answers {o s : State} (h : Carries o s) (c : Instr) : Answers o (exec c s) :=
  match c with
  | .powerOnReset _ => execPowerOnReset_answers h
  | .railsOkRise _ => execRailsOkRise_answers h
  | .railsOkTimeout _ => execRailsOkTimeout_answers h
  | .coreEnRetry _ => execCoreEnRetry_answers h
  | .railsOkFall _ => execRailsOkFall_answers h
  | .railVoltageOutOfRange _ _ => execRailVoltageOutOfRange_answers h
  | .aonBrownout _ => execAonBrownout_answers h
  | .resetNAssert _ => execResetNAssert_answers h
  | .resetRelease _ _ _ => execResetRelease_answers h
  | .imageVerdict _ _ _ _ => execImageVerdict_answers h
  | .autoNegTimeout _ => execAutoNegTimeout_answers h
  | .frameReceive _ _ _ _ _ _ _ _ => execFrameReceive_answers h
  | .pauseFrameReceive _ _ _ _ _ => execPauseFrameReceive_answers h
  | .pauseQuantaExpire _ _ _ => execPauseQuantaExpire_answers h
  | .t1sFrameReceive _ _ _ _ _ _ _ => execT1sFrameReceive_answers h
  | .plcaBeaconLoss _ => execPlcaBeaconLoss_answers h
  | .plcaBeaconResume _ => execPlcaBeaconResume_answers h
  | .nodeQuiet _ _ _ => execNodeQuiet_answers h
  | .canFrameReceive _ _ _ _ _ _ _ _ _ => execCanFrameReceive_answers h
  | .canBusOff _ => execCanBusOff_answers h
  | .canBusOffRecover _ => execCanBusOffRecover_answers h
  | .presDebounceEnd _ _ => execPresDebounceEnd_answers h
  | .presLatchTake _ _ => execPresLatchTake_answers h
  | .linkUp _ _ _ => execLinkUp_answers h
  | .portLinkDown _ _ _ => execPortLinkDown_answers h
  | .linkHoldExpire _ _ => execLinkHoldExpire_answers h
  | .unplugDrained _ _ => execUnplugDrained_answers h
  | .laneTrainingFail _ => execLaneTrainingFail_answers h
  | .laneTrainingRetry _ _ => execLaneTrainingRetry_answers h
  | .laneMarginLow _ _ => execLaneMarginLow_answers h
  | .sliceAdaptDone _ _ => execSliceAdaptDone_answers h
  | .sliceSwitchover _ _ => execSliceSwitchover_answers h
  | .preemptVerifyTimeout _ => execPreemptVerifyTimeout_answers h
  | .dropletDispatch _ => execDropletDispatch_answers h
  | .holdExpire _ _ => execHoldExpire_answers h
  | .transmissionSelect _ _ => execTransmissionSelect_answers h
  | .frameTransmitEnd _ _ _ => execFrameTransmitEnd_answers h
  | .shaperRefill _ => execShaperRefill_answers h
  | .meterRefill _ => execMeterRefill_answers h
  | .gateEvent _ _ _ => execGateEvent_answers h
  | .gclConfigSwap _ _ _ => execGclConfigSwap_answers h
  | .srfResetTimeout _ _ => execSrfResetTimeout_answers h
  | .fciEdge _ _ _ => execFciEdge_answers h
  | .queueShutdownDone _ _ => execQueueShutdownDone_answers h
  | .tick _ => execTick_answers h
  | .delayExpire _ => execDelayExpire_answers h
  | .ppsOutSecond _ => execPpsOutSecond_answers h
  | .ppsInEdge _ => execPpsInEdge_answers h
  | .recircClassify => execRecircClassify_answers h
  | .learnProcess => execLearnProcess_answers h
  | .epCreate => execEpCreate_answers h
  | .ageingVisit _ => execAgeingVisit_answers h
  | .commitRequest _ => execCommitRequest_answers h
  | .commitExecute => execCommitExecute_answers h
  | .versionRetire _ => execVersionRetire_answers h
  | .rulStgWrite _ => execRulStgWrite_answers h
  | .rulStgRead _ => execRulStgRead_answers h
  | .rulStgClear _ => execRulStgClear_answers h
  | .rulPinPin _ _ => execRulPinPin_answers h
  | .rulPinUnpin _ _ => execRulPinUnpin_answers h
  | .tblInsert _ => execTblInsert_answers h
  | .tblDelete _ => execTblDelete_answers h
  | .tblRead _ => execTblRead_answers h
  | .tblUpdate _ => execTblUpdate_answers h
  | .tblFlush _ => execTblFlush_answers h
  | .tblFlushDone _ => execTblFlushDone_answers h
  | .tblNext _ => execTblNext_answers h
  | .bundleIssue _ => execBundleIssue_answers h
  | .unitOperationComplete _ _ => execUnitOperationComplete_answers h
  | .pcTJump _ _ => execPcTJump_answers h
  | .pcTBr _ _ => execPcTBr_answers h
  | .pcTCall _ _ => execPcTCall_answers h
  | .pcTRet _ _ => execPcTRet_answers h
  | .pcTHalt _ _ => execPcTHalt_answers h
  | .lpTBegin _ _ => execLpTBegin_answers h
  | .lpTBrk _ _ => execLpTBrk_answers h
  | .aluTAdd _ _ _ => execAluTAdd_answers h
  | .aluTSub _ _ _ => execAluTSub_answers h
  | .aluTAnd _ _ _ => execAluTAnd_answers h
  | .aluTOr _ _ _ => execAluTOr_answers h
  | .aluTXor _ _ _ => execAluTXor_answers h
  | .aluTAndn _ _ _ => execAluTAndn_answers h
  | .aluTShl _ _ _ => execAluTShl_answers h
  | .aluTShr _ _ _ => execAluTShr_answers h
  | .aluTSar _ _ _ => execAluTSar_answers h
  | .aluTRotl _ _ _ => execAluTRotl_answers h
  | .aluTMin _ _ _ => execAluTMin_answers h
  | .aluTMax _ _ _ => execAluTMax_answers h
  | .aluTMinu _ _ _ => execAluTMinu_answers h
  | .aluTMaxu _ _ _ => execAluTMaxu_answers h
  | .aluTMov _ _ _ => execAluTMov_answers h
  | .bitTExtu _ _ => execBitTExtu_answers h
  | .bitTExts _ _ => execBitTExts_answers h
  | .bitTIns _ _ => execBitTIns_answers h
  | .bitTClz _ _ => execBitTClz_answers h
  | .bitTCtz _ _ => execBitTCtz_answers h
  | .bitTPopc _ _ => execBitTPopc_answers h
  | .bitTBswap _ _ => execBitTBswap_answers h
  | .bitTBswap16 _ _ => execBitTBswap16_answers h
  | .bitTBitrev _ _ => execBitTBitrev_answers h
  | .bitTSext8 _ _ => execBitTSext8_answers h
  | .bitTSext16 _ _ => execBitTSext16_answers h
  | .cmpTEq _ _ => execCmpTEq_answers h
  | .cmpTNe _ _ => execCmpTNe_answers h
  | .cmpTLt _ _ => execCmpTLt_answers h
  | .cmpTLe _ _ => execCmpTLe_answers h
  | .cmpTGt _ _ => execCmpTGt_answers h
  | .cmpTGe _ _ => execCmpTGe_answers h
  | .cmpTLtu _ _ => execCmpTLtu_answers h
  | .cmpTLeu _ _ => execCmpTLeu_answers h
  | .cmpTGtu _ _ => execCmpTGtu_answers h
  | .cmpTGeu _ _ => execCmpTGeu_answers h
  | .cmpTTst _ _ => execCmpTTst_answers h
  | .mulTMulu _ _ => execMulTMulu_answers h
  | .mulTMuls _ _ => execMulTMuls_answers h
  | .mulTDivu _ _ => execMulTDivu_answers h
  | .mulTDivs _ _ => execMulTDivs_answers h
  | .lsTLd8u _ _ => execLsTLd8u_answers h
  | .lsTLd8s _ _ => execLsTLd8s_answers h
  | .lsTLd16u _ _ => execLsTLd16u_answers h
  | .lsTLd16s _ _ => execLsTLd16s_answers h
  | .lsTLd32 _ _ => execLsTLd32_answers h
  | .lsTLd64 _ _ => execLsTLd64_answers h
  | .lsTSt8 _ _ => execLsTSt8_answers h
  | .lsTSt16 _ _ => execLsTSt16_answers h
  | .lsTSt32 _ _ => execLsTSt32_answers h
  | .lsTSt64 _ _ => execLsTSt64_answers h
  | .lsTPf _ _ => execLsTPf_answers h
  | .lsTClean _ _ => execLsTClean_answers h
  | .lsTInv _ _ => execLsTInv_answers h
  | .lsTCinv _ _ => execLsTCinv_answers h
  | .lsTFence _ _ => execLsTFence_answers h
  | .pwTLd8 _ _ => execPwTLd8_answers h
  | .pwTLd16 _ _ => execPwTLd16_answers h
  | .pwTLd32 _ _ => execPwTLd32_answers h
  | .pwTSt8 _ _ => execPwTSt8_answers h
  | .pwTSt16 _ _ => execPwTSt16_answers h
  | .pwTSt32 _ _ => execPwTSt32_answers h
  | .pwTIns _ _ => execPwTIns_answers h
  | .pwTDel _ _ => execPwTDel_answers h
  | .pwTLen _ _ => execPwTLen_answers h
  | .dlTRd _ _ => execDlTRd_answers h
  | .dlTWr _ _ => execDlTWr_answers h
  | .dlTFlk _ _ => execDlTFlk_answers h
  | .dlTKey _ _ => execDlTKey_answers h
  | .dlTLay _ _ => execDlTLay_answers h
  | .dlTPinfo _ _ => execDlTPinfo_answers h
  | .tlTL2 _ _ => execTlTL2_answers h
  | .tlTEp _ _ => execTlTEp_answers h
  | .tlTParam _ _ => execTlTParam_answers h
  | .tlTFfind _ _ => execTlTFfind_answers h
  | .tlTFget _ _ => execTlTFget_answers h
  | .tlTFread _ _ => execTlTFread_answers h
  | .tlTFwrite _ _ => execTlTFwrite_answers h
  | .tlTFdel _ _ => execTlTFdel_answers h
  | .chTPut _ _ => execChTPut_answers h
  | .chTPutl _ _ => execChTPutl_answers h
  | .chTGet _ _ => execChTGet_answers h
  | .chTCount _ _ => execChTCount_answers h
  | .chTWatch _ _ => execChTWatch_answers h
  | .chTUnwatch _ _ => execChTUnwatch_answers h
  | .chWaitTimeout _ _ => execChWaitTimeout_answers h
  | .pauseRefresh _ _ => execPauseRefresh_answers h
  | .fcoMinHoldExpire _ _ => execFcoMinHoldExpire_answers h
  | .lkTAcq _ _ => execLkTAcq_answers h
  | .lkTTry _ _ => execLkTTry_answers h
  | .lkTRel _ _ => execLkTRel_answers h
  | .lkTCancel _ _ => execLkTCancel_answers h
  | .lkTQuery _ _ => execLkTQuery_answers h
  | .lockWaitTimeout _ _ => execLockWaitTimeout_answers h
  | .atTAdd _ _ _ => execAtTAdd_answers h
  | .atTSub _ _ _ => execAtTSub_answers h
  | .atTSwap _ _ _ => execAtTSwap_answers h
  | .atTCas _ _ _ => execAtTCas_answers h
  | .atTAnd _ _ _ => execAtTAnd_answers h
  | .atTOr _ _ _ => execAtTOr_answers h
  | .atTMin _ _ _ => execAtTMin_answers h
  | .atTMax _ _ _ => execAtTMax_answers h
  | .evtTWait _ _ => execEvtTWait_answers h
  | .evtTClr _ _ => execEvtTClr_answers h
  | .evtTSig _ _ => execEvtTSig_answers h
  | .evtTMget _ _ => execEvtTMget_answers h
  | .tmTStart _ _ => execTmTStart_answers h
  | .tmTStop _ _ => execTmTStop_answers h
  | .tmTNow _ _ => execTmTNow_answers h
  | .tmTNet _ _ => execTmTNet_answers h
  | .timerExpire _ _ => execTimerExpire_answers h
  | .csTAlloc _ _ => execCsTAlloc_answers h
  | .csTFree _ _ => execCsTFree_answers h
  | .csTRef _ _ => execCsTRef_answers h
  | .csTAddr _ _ => execCsTAddr_answers h
  | .csTInfo _ _ => execCsTInfo_answers h
  | .poolRefillDone _ => execPoolRefillDone_answers h
  | .poolSpillDone _ => execPoolSpillDone_answers h
  | .bufferScrubDone _ _ => execBufferScrubDone_answers h
  | .wcTNext _ _ => execWcTNext_answers h
  | .wcTSend _ _ => execWcTSend_answers h
  | .wcTDry _ _ => execWcTDry_answers h
  | .wcTRecirc _ _ => execWcTRecirc_answers h
  | .sqTOrig _ _ => execSqTOrig_answers h
  | .sqTDepth _ _ => execSqTDepth_answers h
  | .helperTClaim _ _ _ => execHelperTClaim_answers h
  | .helperTRel _ _ _ => execHelperTRel_answers h
  | .helperTWr _ _ _ => execHelperTWr_answers h
  | .helperTRd _ _ _ => execHelperTRd_answers h
  | .helperTFeed _ _ _ => execHelperTFeed_answers h
  | .gcmInit _ _ => execGcmInit_answers h
  | .gcmAad _ _ => execGcmAad_answers h
  | .gcmEnc _ _ => execGcmEnc_answers h
  | .gcmDec _ _ => execGcmDec_answers h
  | .gcmTag _ _ => execGcmTag_answers h
  | .cmacInit _ _ => execCmacInit_answers h
  | .cmacData _ _ => execCmacData_answers h
  | .cmacTag _ _ => execCmacTag_answers h
  | .aesBlk _ _ => execAesBlk_answers h
  | .eq _ _ => execEq_answers h
  | .crcOpen _ _ => execCrcOpen_answers h
  | .crcReg _ _ => execCrcReg_answers h
  | .crcEnd _ _ => execCrcEnd_answers h
  | .csumOpen _ _ => execCsumOpen_answers h
  | .csumReg _ _ => execCsumReg_answers h
  | .csumEnd _ _ => execCsumEnd_answers h
  | .hash _ _ => execHash_answers h
  | .helperOrphanEnd _ _ => execHelperOrphanEnd_answers h
  | .helperDisable _ _ _ => execHelperDisable_answers h
  | .helperEnable _ _ _ _ => execHelperEnable_answers h
  | .helperShutdownDone _ _ _ => execHelperShutdownDone_answers h
  | .svTInfo _ _ => execSvTInfo_answers h
  | .svTGetreg _ _ => execSvTGetreg_answers h
  | .svTSetreg _ _ => execSvTSetreg_answers h
  | .svTHeld _ _ => execSvTHeld_answers h
  | .svTResume _ _ => execSvTResume_answers h
  | .svTPark _ _ => execSvTPark_answers h
  | .svTAck _ _ => execSvTAck_answers h
  | .svTReset _ _ => execSvTReset_answers h
  | .faultAckTimeout _ _ => execFaultAckTimeout_answers h
  | .deadlockTimeout _ _ => execDeadlockTimeout_answers h
  | .escalationPost _ => execEscalationPost_answers h
  | .engineReset _ => execEngineReset_answers h
  | .engineSpareSubstitute _ => execEngineSpareSubstitute_answers h
  | .engineFailNoSpare _ => execEngineFailNoSpare_answers h
  | .dbgTBrk _ _ => execDbgTBrk_answers h
  | .dbgTMark _ _ => execDbgTMark_answers h
  | .cxTEret _ _ => execCxTEret_answers h
  | .cxTTlbinv _ _ => execCxTTlbinv_answers h
  | .cxTTlbflush _ _ => execCxTTlbflush_answers h
  | .pmpTWait _ _ => execPmpTWait_answers h
  | .pmpTPost _ _ => execPmpTPost_answers h
  | .pmpTYield _ _ => execPmpTYield_answers h
  | .pmpTDwr _ _ => execPmpTDwr_answers h
  | .pmpTDrd _ _ => execPmpTDrd_answers h
  | .pmpTStart _ _ => execPmpTStart_answers h
  | .pmpTDel _ _ => execPmpTDel_answers h
  | .pmpTSend _ _ => execPmpTSend_answers h
  | .postFifoTake => execPostFifoTake_answers h
  | .lkpTForce _ _ => execLkpTForce_answers h
  | .lkpTSetcount _ _ => execLkpTSetcount_answers h
  | .edgTTx _ _ => execEdgTTx_answers h
  | .edgTRoom _ _ => execEdgTRoom_answers h
  | .edgTTs _ _ => execEdgTTs_answers h
  | .edgeTransmitDone _ _ => execEdgeTransmitDone_answers h
  | .basinSwitchBegin _ _ => execBasinSwitchBegin_answers h
  | .basinSwitchFinish => execBasinSwitchFinish_answers h
  | .weirHoldSuspendWrite _ _ => execWeirHoldSuspendWrite_answers h
  | .bsnEngReset _ _ => execBsnEngReset_answers h
  | .bsnEngSwap _ _ => execBsnEngSwap_answers h
  | .bsnEngAckEsc _ _ => execBsnEngAckEsc_answers h
  | .cisQuotaWrite _ _ _ => execCisQuotaWrite_answers h
  | .cisErrPop _ => execCisErrPop_answers h
  | .sluRead _ => execSluRead_answers h
  | .sluWrite _ => execSluWrite_answers h
  | .sluFlush _ => execSluFlush_answers h
  | .sluClear _ => execSluClear_answers h
  | .configChange _ => execConfigChange_answers h
  | .timSnap _ => execTimSnap_answers h
  | .timStep _ _ => execTimStep_answers h
  | .timRateWrite _ _ _ => execTimRateWrite_answers h
  | .pmpPostWrite _ _ => execPmpPostWrite_answers h
  | .pmpCeRestart _ _ => execPmpCeRestart_answers h
  | .lkgHostAcq _ _ _ _ _ => execLkgHostAcq_answers h
  | .lkgHostTry _ _ _ _ _ => execLkgHostTry_answers h
  | .lkgHostRel _ _ _ _ _ => execLkgHostRel_answers h
  | .lkgHostCancel _ _ _ _ _ => execLkgHostCancel_answers h
  | .lkgHostQuery _ _ _ _ _ => execLkgHostQuery_answers h
  | .lkgForce _ _ => execLkgForce_answers h
  | .lkgSetcount _ _ _ => execLkgSetcount_answers h
  | .pcieConfigRequest _ _ _ _ => execPcieConfigRequest_answers h
  | .bar4Read _ _ _ => execBar4Read_answers h
  | .bar4Write _ _ _ => execBar4Write_answers h
  | .pcieAtomicop _ _ _ _ _ _ => execPcieAtomicop_answers h
  | .txDoorbellWrite _ _ _ => execTxDoorbellWrite_answers h
  | .rxDoorbellWrite _ _ _ => execRxDoorbellWrite_answers h
  | .txDescriptorProcess _ _ _ _ _ _ => execTxDescriptorProcess_answers h
  | .rxMessageDeliver _ _ _ => execRxMessageDeliver_answers h
  | .hostQueueEnable _ _ _ => execHostQueueEnable_answers h
  | .hostQueueDisable _ _ _ => execHostQueueDisable_answers h
  | .hostQueueShutdownDone _ _ _ => execHostQueueShutdownDone_answers h
  | .itrHoldExpire _ _ _ => execItrHoldExpire_answers h
  | .hstLatWrite _ _ => execHstLatWrite_answers h
  | .hstPrstGo _ _ => execHstPrstGo_answers h
  | .pcieFunctionLevelReset _ => execPcieFunctionLevelReset_answers h
  | .pcieLinkReset _ => execPcieLinkReset_answers h
  | .eoeLinkDownTimeout _ _ => execEoeLinkDownTimeout_answers h
  | .partitionResetDrained _ => execPartitionResetDrained_answers h
  | .eoeFrameReceive _ _ _ => execEoeFrameReceive_answers h
  | .eoeMessageSend _ _ _ => execEoeMessageSend_answers h
  | .edgLaneRetrain _ _ => execEdgLaneRetrain_answers h
  | .edgLaneSpare _ _ => execEdgLaneSpare_answers h
  | .xngIslReset _ _ => execXngIslReset_answers h
  | .islandLeaveReset _ => execIslandLeaveReset_answers h
  | .clockStop _ => execClockStop_answers h
  | .clockReturn _ => execClockReturn_answers h
  | .countedCrossingPulse _ _ => execCountedCrossingPulse_answers h
  | .coalescedCrossingPulse _ _ => execCoalescedCrossingPulse_answers h
  | .spiRead _ _ => execSpiRead_answers h
  | .spiWrite _ _ => execSpiWrite_answers h
  | .spiReset _ _ => execSpiReset_answers h
  | .spiFreeze _ _ => execSpiFreeze_answers h
  | .spiDry _ _ => execSpiDry_answers h
  | .spiLockdown _ _ => execSpiLockdown_answers h
  | .spiFrameError _ _ => execSpiFrameError_answers h
  | .powerTargetEval _ => execPowerTargetEval_answers h
  | .dwellExpire _ => execDwellExpire_answers h
  | .wakeEvent _ _ => execWakeEvent_answers h
  | .pwrWakeTimerExpire _ => execPwrWakeTimerExpire_answers h
  | .pwrCmdEnterDry _ _ => execPwrCmdEnterDry_answers h
  | .pwrCmdWake _ _ => execPwrCmdWake_answers h
  | .gaugeSample _ _ _ _ => execGaugeSample_answers h
  | .tripCooldownEnd _ => execTripCooldownEnd_answers h
  | .floorLoop _ _ => execFloorLoop_answers h
  | .shedIntervalStep _ => execShedIntervalStep_answers h
  | .pmbAlert _ => execPmbAlert_answers h
  | .fthNonce _ _ _ => execFthNonce_answers h
  | .nonceExpire _ => execNonceExpire_answers h
  | .fthToken _ _ => execFthToken_answers h
  | .svcBtnPress _ => execSvcBtnPress_answers h
  | .pressWaitTimeout _ => execPressWaitTimeout_answers h
  | .fthAttest _ => execFthAttest_answers h
  | .fthConfirm _ => execFthConfirm_answers h
  | .fthLcAdvance _ _ _ => execFthLcAdvance_answers h
  | .fthProvision _ => execFthProvision_answers h
  | .fthImgErase _ _ => execFthImgErase_answers h
  | .fthImgVerify _ _ => execFthImgVerify_answers h
  | .fthWinWrite _ _ _ => execFthWinWrite_answers h
  | .fthWinRead _ _ _ => execFthWinRead_answers h
  | .exportTrailerSigned => execExportTrailerSigned_answers h
  | .fthStRegion _ _ => execFthStRegion_answers h
  | .fthStFull _ => execFthStFull_answers h
  | .fthStAbort _ => execFthStAbort_answers h
  | .scheduledTestStart _ => execScheduledTestStart_answers h
  | .deferredTestStart _ => execDeferredTestStart_answers h
  | .bistComplete _ _ _ _ _ _ => execBistComplete_answers h
  | .reservoirMapWrite => execReservoirMapWrite_answers h
  | .ipdCommandIssue _ _ => execIpdCommandIssue_answers h
  | .ipdAccessComplete _ _ => execIpdAccessComplete_answers h
  | .refresh _ _ _ => execRefresh_answers h
  | .patrolScrub _ _ => execPatrolScrub_answers h
  | .trackingStep _ _ => execTrackingStep_answers h
  | .fullRetrainStart _ => execFullRetrainStart_answers h
  | .fullRetrainEnd _ _ _ _ => execFullRetrainEnd_answers h
  | .pcRetireStart _ _ _ => execPcRetireStart_answers h
  | .pcRetireComplete _ _ => execPcRetireComplete_answers h
  | .cacheFillComplete _ _ => execCacheFillComplete_answers h
  | .evictionWriteback _ => execEvictionWriteback_answers h
  | .rplTrigger _ => execRplTrigger_answers h
  | .postWindowEnd _ => execPostWindowEnd_answers h
  | .freezePinEdge _ => execFreezePinEdge_answers h
  | .rplFreeze _ => execRplFreeze_answers h
  | .rplRelease _ => execRplRelease_answers h
  | .rplExport _ => execRplExport_answers h
  | .rplReplay _ => execRplReplay_answers h
  | .rplAbort _ => execRplAbort_answers h
  | .replayEnd => execReplayEnd_answers h
  | .dbgHalt _ => execDbgHalt_answers h
  | .dbgResume _ => execDbgResume_answers h
  | .dbgStep _ => execDbgStep_answers h
  | .dbgKill _ => execDbgKill_answers h
  | .dbgRdreg _ => execDbgRdreg_answers h
  | .dbgWrreg _ => execDbgWrreg_answers h
  | .dbgBrkSet _ => execDbgBrkSet_answers h
  | .dbgBrkClr _ => execDbgBrkClr_answers h
  | .breakpointHit _ => execBreakpointHit_answers h
  | .bar0PartialWrite _ => execBar0PartialWrite_answers h
  | .counterLowWordRead _ _ => execCounterLowWordRead_answers h
  | .rcFieldRead _ _ => execRcFieldRead_answers h
  | .weirDomStat0Read _ => execWeirDomStat0Read_answers h
  | .bsnChStat0Read _ => execBsnChStat0Read_answers h
  | .cisPoolCountRead _ => execCisPoolCountRead_answers h
  | .pmpDescW0Read _ => execPmpDescW0Read_answers h
  | .fthFlogCountRead _ => execFthFlogCountRead_answers h
  | .fthFlogDataRead _ => execFthFlogDataRead_answers h
  | .fthRsvCountRead _ => execFthRsvCountRead_answers h
  | .fthRsvDataRead _ => execFthRsvDataRead_answers h
  | .registerWrite _ _ _ _ => execRegisterWrite_answers h
  | .presRawChange _ _ _ => execPresRawChange_answers h
  | .canBusError _ _ _ => execCanBusError_answers h
  | .canChannelRestart _ => execCanChannelRestart_answers h
  | .macsecSaInstall _ _ _ => execMacsecSaInstall_answers h
  | .pcieLinkUp _ _ _ => execPcieLinkUp_answers h
  | .crossingAcknowledge _ _ => execCrossingAcknowledge_answers h
  | .recordBucketRefill _ => execRecordBucketRefill_answers h
  | .ppsOutWidthEnd _ => execPpsOutWidthEnd_answers h
/-- Settles O46: what a row carries from the state it starts in is the queue and soundness. -/
theorem everyCommandAnswersAndLeavesTheQueue : Obligations.EveryCommandAnswersAndLeavesTheQueue := by
  unfold Obligations.EveryCommandAnswersAndLeavesTheQueue
  intro c s sound
  obtain ⟨t, answers, carries⟩ := exec_answers (Carries.refl sound) c
  exact ⟨t, answers, carries.pending, carries.sound⟩

/-- Soundness does not speak of the queue. -/
theorem Sound.of_queue {s : State} (h : Sound s) (q : List Instr) : Sound { s with pending := q } :=
  ⟨h.life, h.next, h.press, h.count, ⟨h.mems.ipd, h.mems.shared, h.mems.scratch, h.mems.well, h.mems.win, h.mems.host⟩, h.stage⟩

theorem Keeps.refl (s : State) : Keeps s s :=
  ⟨Nat.le_refl _, fun _ revoked => revoked, Nat.le_refl _, Nat.le_refl _, Nat.le_refl _, rfl⟩

theorem step_of_nil {s : State} (empty : s.pending = []) : step s = .next s := by
  simp only [step, empty]

theorem step_of_cons {s : State} {c : Instr} {rest : List Instr} (queue : s.pending = c :: rest) :
    step s = exec c { s with pending := rest } := by
  simp only [step, queue]

/-- Settles O48: the two branches of the step. -/
theorem stepRunsTheCommandInFront : Obligations.StepRunsTheCommandInFront := by
  unfold Obligations.StepRunsTheCommandInFront
  exact fun s => ⟨fun _ _ queue => step_of_cons queue, step_of_nil⟩

/-- Settles O45: an empty queue leaves the state, and a command carries what it must from the state whose queue is the rest,
which keeps what the state before has. -/
theorem everyStepFromASoundStateIsSafe : Obligations.EveryStepFromASoundStateIsSafe := by
  unfold Obligations.EveryStepFromASoundStateIsSafe
  intro s sound
  cases queue : s.pending with
  | nil => exact ⟨s, step_of_nil queue, sound, Keeps.refl s⟩
  | cons c rest =>
    obtain ⟨t, answers, carries⟩ := exec_answers (Carries.refl (sound.of_queue rest)) c
    obtain ⟨life, revoked, counter0, counter1, boots, grade⟩ := carries.keeps
    exact ⟨t, (step_of_cons queue).trans answers, carries.sound, ⟨life, revoked, counter0, counter1, boots, grade⟩⟩

theorem fld_reset (f : Fld) (i b : Nat) : State.reset.fld f i b = f.reset i State.reset.grade := rfl

/-- Settles O47: nothing is listed at reset, so every memory is canonical and every field reads its reset value. -/
theorem resetHoldsItsRegisterValues : Obligations.ResetHoldsItsRegisterValues := by
  unfold Obligations.ResetHoldsItsRegisterValues
  refine ⟨?sound, rfl, fld_reset, ?reserve, ?holdLimits, ?rate, ?lcPending, ?slotRun, ?slot0, ?slot1, rfl, rfl, rfl, rfl, rfl, rfl⟩
  case sound =>
    exact ⟨by decide, nofun, nofun, by decide, ⟨rfl, rfl, rfl, rfl, rfl, rfl⟩, by decide⟩
  case holdLimits => decide
  all_goals rfl

end Sys2Proof
end

section
/-! The laws of the byte memories and of the register fields: what is written is read back, and nothing else changes. -/

namespace Sys2Proof

open Machine

/-! ### Byte memories -/

/-- Below its keys a map lists nothing. -/
theorem SMap.find_of_above {α : Type} {m : SMap α} {k : Nat} (h : SMap.above k m) : m.find k = none := by
  induction m with
  | nil => rfl
  | cons e m ih =>
    have next : k < e.1 := h e (List.mem_cons_self ..)
    have rest : SMap.above k m := fun x hx => h x (List.mem_cons_of_mem _ hx)
    rw [SMap.find, if_neg (Nat.ne_of_gt next), ih rest]

theorem SMap.find_filter {α : Type} (m : SMap α) (p : Nat → Bool) (k : Nat) :
    SMap.find (m.filter fun e => p e.1) k = if p k then m.find k else none := by
  induction m with
  | nil => simp
  | cons e m ih =>
    by_cases same : e.1 = k
    · subst same
      cases keep : p e.1 <;> simp [SMap.find, ih, keep]
    · cases keep : p e.1 <;> simp [SMap.find, ih, keep, same]

namespace Machine

theorem cellGet_clear_inside (m : List Host.Cell) {a n x : Nat} (lo : a ≤ x) (hi : x < a + n) :
    cellGet (cellClear m a n) x = 0 := by
  have gone : (decide (x < a) || decide (a + n ≤ x)) = false := by simp [lo, hi]
  simp only [cellGet, SMap.get, cellClear, SMap.find_filter m (fun k => decide (k < a) || decide (a + n ≤ k)) x, gone,
    Bool.false_eq_true, if_false]
  rfl

theorem cellGet_clear_outside (m : List Host.Cell) {a n x : Nat} (h : x < a ∨ a + n ≤ x) :
    cellGet (cellClear m a n) x = cellGet m x := by
  have kept : (decide (x < a) || decide (a + n ≤ x)) = true := by simpa using h
  simp only [cellGet, SMap.get, cellClear, SMap.find_filter m (fun k => decide (k < a) || decide (a + n ≤ k)) x, kept,
    if_true]

/-- A canonical memory begins with a byte that is not 0, behind which no key is smaller. -/
theorem memory_wf_cons (e : Host.Cell) (m : List Host.Cell) :
    Memory.wf (e :: m) = true ↔ SMap.above e.1 m ∧ e.2 ≠ 0 ∧ Memory.wf m = true := by
  have sorted := SMap.sorted_cons e.1 e.2 m
  simp only [Memory.wf, SMap.proper, List.all_cons, Bool.and_eq_true, decide_eq_true_eq, sorted]
  tauto

theorem cellGet_cons_self (e : Host.Cell) (m : List Host.Cell) : cellGet (e :: m) e.1 = e.2 := by
  simp [cellGet, SMap.get, SMap.find]

theorem cellGet_cons_of_ne {e : Host.Cell} {x : Nat} (m : List Host.Cell) (h : e.1 ≠ x) : cellGet (e :: m) x = cellGet m x := by
  simp [cellGet, SMap.get, SMap.find, h]

theorem cellGet_of_above {m : List Host.Cell} {x : Nat} (h : SMap.above x m) : cellGet m x = 0 := by
  simp only [cellGet, SMap.get, SMap.find_of_above h]
  rfl

theorem cellGet_of_below_head {e : Host.Cell} {m : List Host.Cell} {x : Nat} (lt : x < e.1) (above : SMap.above e.1 m) :
    cellGet (e :: m) x = 0 := by
  refine cellGet_of_above fun y hy => ?_
  rcases List.mem_cons.mp hy with rfl | hy
  · exact lt
  · exact lt.trans (above y hy)

/-- In canonical form a memory is what it reads as. -/
theorem memory_ext {m m' : List Host.Cell} (wf : Memory.wf m = true) (wf' : Memory.wf m' = true)
    (alike : ∀ x, cellGet m x = cellGet m' x) : m = m' := by
  induction m generalizing m' with
  | nil =>
    cases m' with
    | nil => rfl
    | cons e' l' =>
      obtain ⟨_, nonzero, _⟩ := (memory_wf_cons e' l').mp wf'
      exact absurd ((cellGet_cons_self e' l').symm.trans (alike e'.1).symm) nonzero
  | cons e l ih =>
    obtain ⟨above, nonzero, wfl⟩ := (memory_wf_cons e l).mp wf
    cases m' with
    | nil => exact absurd ((cellGet_cons_self e l).symm.trans (alike e.1)) nonzero
    | cons e' l' =>
      obtain ⟨above', nonzero', wfl'⟩ := (memory_wf_cons e' l').mp wf'
      -- the smaller of the two first keys reads as a byte in one memory and as 0 in the other
      have firstKey : e.1 = e'.1 := by
        rcases Nat.lt_trichotomy e.1 e'.1 with lt | eq | gt
        · have := alike e.1
          rw [cellGet_cons_self, cellGet_of_below_head lt above'] at this
          exact absurd this nonzero
        · exact eq
        · have := alike e'.1
          rw [cellGet_cons_self, cellGet_of_below_head gt above] at this
          exact absurd this.symm nonzero'
      have firstByte : e.2 = e'.2 := by
        rw [← cellGet_cons_self e l, alike, firstKey, cellGet_cons_self]
      have rest : l = l' := by
        refine ih wfl wfl' fun x => ?_
        by_cases key : e.1 = x
        · rw [← key, cellGet_of_above above, firstKey, cellGet_of_above above']
        · rw [← cellGet_cons_of_ne l key, alike, cellGet_cons_of_ne l' (firstKey ▸ key)]
      rw [Prod.ext firstKey firstByte, rest]

end Machine

/-- Settles O49: the laws of a write, of a clearing, and that a canonical memory is what it reads as. -/
theorem memoriesReadBackWhatIsWritten : Obligations.MemoriesReadBackWhatIsWritten := by
  unfold Obligations.MemoriesReadBackWhatIsWritten
  intro m a bs n wf
  refine ⟨⟨cellWrite_wf a bs wf, cellRead_write m a _ bs rfl, fun x outside => cellGet_write_outside m a bs outside⟩,
    ⟨cellClear_wf a n wf, fun x lo hi => cellGet_clear_inside m lo hi, fun x outside => cellGet_clear_outside m outside⟩,
    fun m' wf' alike => memory_ext wf wf' alike⟩

/-! ### Register fields -/

namespace Machine

/-- A field of the map stands in a word of its page and begins in one of its bits. -/
def Fld.placed (f : Fld) : Bool := decide (f.off < 65536) && decide (f.lo < 32)

theorem placed_page (p : Nat) (h : p < 19) : (Reg.page p).all Fld.placed = true := by
  interval_cases p <;> rfl

/-- The key tells the page, the word, the first bit, the instance and the bank. -/
theorem Fld.key_inj {f g : Fld} {i j b c : Nat} (fOff : f.off < 65536) (fLo : f.lo < 32) (gOff : g.off < 65536) (gLo : g.lo < 32)
    (hi : i < 2 ^ 20) (hj : j < 2 ^ 20) (hb : b < 8) (hc : c < 8) (same : g.key j c = f.key i b) :
    (f.page, f.off, f.lo, i, b) = (g.page, g.off, g.lo, j, c) := by
  simp only [Fld.key] at same
  simp only [Prod.mk.injEq]
  and_intros <;> omega

end Machine

/-- Settles O50: every field of the map has a place, and the key of a field instance tells its place. -/
theorem registerFieldsStandApart : Obligations.RegisterFieldsStandApart := by
  unfold Obligations.RegisterFieldsStandApart
  refine ⟨fun p hp f hf => ?places, fun s f g i j b c v fOff fLo gOff gLo hi hj hb hc => ⟨?same, fun other => ?others⟩⟩
  case places => simpa [Fld.placed] using List.all_eq_true.mp (placed_page p hp) f hf
  case same => exact State.fld_setFld_self s f i b v
  case others =>
    exact State.fld_setFld_of_ne s f g i b j c v fun same => other (Fld.key_inj fOff fLo gOff gLo hi hj hb hc same)

end Sys2Proof
end

section
/-! What the triggers of one thread leave as it was, and what precedes and follows them. -/

namespace Sys2Proof

open Machine

/-- A row of a helper, whether its trigger is taken or not, writes no byte of shared SRAM outside one save slot. -/
theorem leavesSlots_of_trigRow {s : State} {t p h : Nat} {x : W32} {c : Instr} {f : State → Trig}
    (row : exec c s = .next (s.trigRow t p x f)) (lo : 0x460 ≤ p) (hi : p < 0x4E0)
    (saves : ∀ u, SavesOnly u (f u).1 (threadBasin t) h) : LeavesSlots s t h c := by
  rcases State.trigRow_saves (s := s) (t := t) (x := x) lo hi saves with switched | held
  · obtain ⟨m, stays, outside⟩ := (State.settleFast_stays (t := t) (Stays.refl s)).thenSaves switched
    exact ⟨_, m, row, stays, outside⟩
  · exact ⟨s, s.mem.shared, row.trans (congrArg _ held), Stays.refl s, fun _ _ => rfl⟩

/-- Settles O58: each row of a unit goes on with the rest as it was, and each row that works on a helper's registers writes one
save slot at most. -/
theorem triggersOfOneThreadLeaveTheRestOfTheBlock : Obligations.TriggersOfOneThreadLeaveTheRestOfTheBlock := by
  unfold Obligations.TriggersOfOneThreadLeaveTheRestOfTheBlock
  intro s
  have rest : Stays s s := Stays.refl s
  refine ⟨fun t x => ?single, fun t alu x => ?alu, fun t h x => ?claim, fun ce x => ?control, fun t x => ?operations,
    fun t h x => ⟨?wr, ?rd, ?feed⟩⟩
  case single =>
    exact ⟨execPcTJump_goesOn rest, execPcTBr_goesOn rest, execPcTCall_goesOn rest, execPcTRet_goesOn rest,
      execLpTBegin_goesOn rest, execLpTBrk_goesOn rest, execBitTExtu_goesOn rest, execBitTExts_goesOn rest,
      execBitTIns_goesOn rest, execBitTClz_goesOn rest, execBitTCtz_goesOn rest, execBitTPopc_goesOn rest,
      execBitTBswap_goesOn rest, execBitTBswap16_goesOn rest, execBitTBitrev_goesOn rest, execBitTSext8_goesOn rest,
      execBitTSext16_goesOn rest, execCmpTEq_goesOn rest, execCmpTNe_goesOn rest, execCmpTLt_goesOn rest,
      execCmpTLe_goesOn rest, execCmpTGt_goesOn rest, execCmpTGe_goesOn rest, execCmpTLtu_goesOn rest,
      execCmpTLeu_goesOn rest, execCmpTGtu_goesOn rest, execCmpTGeu_goesOn rest, execCmpTTst_goesOn rest,
      execMulTMulu_goesOn rest, execMulTMuls_goesOn rest, execMulTDivu_goesOn rest, execMulTDivs_goesOn rest,
      execLsTPf_goesOn rest, execLsTClean_goesOn rest, execLsTInv_goesOn rest, execLsTCinv_goesOn rest,
      execLsTFence_goesOn rest, execPwTLd8_goesOn rest, execPwTLd16_goesOn rest, execPwTLd32_goesOn rest,
      execPwTSt8_goesOn rest, execPwTSt16_goesOn rest, execPwTSt32_goesOn rest, execPwTIns_goesOn rest,
      execPwTDel_goesOn rest, execPwTLen_goesOn rest, execDlTRd_goesOn rest, execDlTWr_goesOn rest, execDlTFlk_goesOn rest,
      execDlTKey_goesOn rest, execDlTLay_goesOn rest, execDlTPinfo_goesOn rest, execTlTEp_goesOn rest,
      execTlTParam_goesOn rest, execTlTFread_goesOn rest, execTlTFwrite_goesOn rest, execChTCount_goesOn rest,
      execChTWatch_goesOn rest, execChTUnwatch_goesOn rest, execEvtTWait_goesOn rest, execEvtTClr_goesOn rest,
      execEvtTSig_goesOn rest, execEvtTMget_goesOn rest, execTmTStart_goesOn rest, execTmTStop_goesOn rest,
      execTmTNow_goesOn rest, execTmTNet_goesOn rest, execCsTAlloc_goesOn rest, execCsTFree_goesOn rest,
      execCsTRef_goesOn rest, execCsTAddr_goesOn rest, execCsTInfo_goesOn rest, execLkTQuery_goesOn rest,
      execWcTNext_goesOn rest, execSqTDepth_goesOn rest, execSvTInfo_goesOn rest, execSvTGetreg_goesOn rest,
      execSvTSetreg_goesOn rest, execSvTHeld_goesOn rest, execSvTResume_goesOn rest, execSvTAck_goesOn rest,
      execSvTReset_goesOn rest, execDbgTBrk_goesOn rest, execDbgTMark_goesOn rest⟩
  case alu =>
    exact ⟨execAluTAdd_goesOn rest, execAluTSub_goesOn rest, execAluTAnd_goesOn rest, execAluTOr_goesOn rest,
      execAluTXor_goesOn rest, execAluTAndn_goesOn rest, execAluTShl_goesOn rest, execAluTShr_goesOn rest,
      execAluTSar_goesOn rest, execAluTRotl_goesOn rest, execAluTMin_goesOn rest, execAluTMax_goesOn rest,
      execAluTMinu_goesOn rest, execAluTMaxu_goesOn rest, execAluTMov_goesOn rest⟩
  case claim =>
    exact ⟨execHelperTClaim_goesOn rest, execHelperTRel_goesOn rest⟩
  case control =>
    exact ⟨execCxTEret_goesOn rest, execCxTTlbinv_goesOn rest, execCxTTlbflush_goesOn rest, execPmpTWait_goesOn rest,
      execPmpTPost_goesOn rest, execPmpTYield_goesOn rest, execPmpTDwr_goesOn rest, execPmpTDrd_goesOn rest,
      execPmpTStart_goesOn rest, execPmpTSend_goesOn rest, execEdgTRoom_goesOn rest⟩
  case operations =>
    and_intros
    all_goals exact leavesSlots_of_trigRow rfl (by decide) (by decide) fun _ => State.hlpOp_saves
  case wr => exact leavesSlots_of_trigRow rfl (by omega) (by omega) fun _ => hlpWr_saves
  case rd => exact leavesSlots_of_trigRow rfl (by omega) (by omega) fun _ => hlpRd_saves
  case feed => exact leavesSlots_of_trigRow rfl (by omega) (by omega) fun _ => hlpFeed_saves

/-- Settles O60: each of the four is one of the laws of what the units of a thread leave. -/
theorem whatPrecedesAndFollowsATriggerLeavesTheRest : Obligations.WhatPrecedesAndFollowsATriggerLeavesTheRest := by
  unfold Obligations.WhatPrecedesAndFollowsATriggerLeavesTheRest
  refine ⟨fun s t => ?before, fun u v t p x live => ?after, fun u t k => ?completion, fun u t cause pc => ?fault⟩
  case before => exact State.settleFast_stays (Stays.refl s)
  case after => exact issued_stays live
  case completion => exact State.completeOp_stays (Stays.refl u)
  case fault => exact State.afterIssue_stays (State.fault_stays (Stays.refl u))

end Sys2Proof
end

section
/-! The load/store unit and the atomics (Tables 7.2, 9.6 and 9.12, R249 to R253, R369 to R371, R391): where an address goes, what
an access of its bytes answers, and that a store or an atomic changes no other byte. -/

namespace Sys2Proof

open Machine

/-! ### Where an address goes (Table 7.2) -/

section Places

variable {s v : State} {t x a n : Nat} {write : Bool}

theorem placeOf_of_packet (packet : t < 1536) : s.placeOf t x write = (s.pePlace t x write, s) := by
  simp only [State.placeOf, threadCe, if_pos packet]

/-- A control engine's addresses are all of the IPD. -/
theorem placeOf_of_control (control : 1536 ≤ t) :
    (∃ a, (s.placeOf t x write).1 = .ipd a) ∨ ∃ cause, (s.placeOf t x write).1 = .fault cause := by
  simp only [State.placeOf, threadCe, if_neg (Nat.not_lt.mpr control)]
  split
  · exact .inl ⟨_, rfl⟩
  · exact .inr ⟨_, rfl⟩

section Ranges

theorem pePlace_of_own (range : x < 4096) : s.pePlace t x write = .scratch (t / 8 * 2 ^ 15 + t % 8 * 4096 + x) :=
  if_pos range

theorem pePlace_of_engine (lo : 65536 ≤ x) (hi : x < 98304) : s.pePlace t x write =
    if t % 8 = 0 then .scratch (t / 8 * 2 ^ 15 + (x - 65536)) else .fault causeScratchRight := by
  have notOwn : ¬x < 0x1000 := by omega
  simp [State.pePlace, notOwn, lo, hi]

theorem pePlace_of_shared (lo : 1048576 ≤ x) (hi : x < 1572864) : s.pePlace t x write =
    if s.pageKind (t / 8 / 16) (x - 1048576) = 1 then .shared (t / 8 / 16 * 2 ^ 19 + (x - 1048576)) else .fault causeAddress := by
  have notOwn : ¬x < 0x1000 := by omega
  have notEngine : ¬x < 0x18000 := by omega
  simp [State.pePlace, notOwn, notEngine, lo, hi]

theorem pePlace_of_ipd (range : 2 ^ 31 ≤ x) : s.pePlace t x write =
    if (if write then 2 else 1) ≤ s.segRight (t / 8) x then .ipd (s.segAddr (t / 8) x) else .fault causeAddress := by
  have notOwn : ¬x < 0x1000 := by omega
  have notEngine : ¬x < 0x18000 := by omega
  have notShared : ¬x < 0x180000 := by omega
  simp only [State.pePlace, notOwn, notEngine, notShared, range, decide_false, Bool.and_false, Bool.false_eq_true, if_true, if_false]

theorem pePlace_of_gap (range : (4096 ≤ x ∧ x < 65536) ∨ (98304 ≤ x ∧ x < 1048576) ∨ (1572864 ≤ x ∧ x < 2 ^ 31)) :
    s.pePlace t x write = .fault causeAddress := by
  have notOwn : ¬x < 0x1000 := by omega
  have notEngine : ¬(0x10000 ≤ x ∧ x < 0x18000) := by omega
  have notShared : ¬(0x100000 ≤ x ∧ x < 0x180000) := by omega
  have notIpd : ¬2 ^ 31 ≤ x := by omega
  simp only [State.pePlace, notOwn, notEngine, notShared, notIpd, ← Bool.decide_and, decide_false, Bool.false_eq_true, if_false]

end Ranges

/-- The five ranges of Table 7.2. -/
theorem address_ranges (x : Nat) : x < 4096 ∨ (65536 ≤ x ∧ x < 98304) ∨ (1048576 ≤ x ∧ x < 1572864) ∨ 2 ^ 31 ≤ x ∨
    ((4096 ≤ x ∧ x < 65536) ∨ (98304 ≤ x ∧ x < 1048576) ∨ (1572864 ≤ x ∧ x < 2 ^ 31)) := by
  omega

/-- An aligned access that begins below an aligned bound ends there at the latest. -/
theorem aligned_access_fits {m : Nat} (bound : n ∣ m) (aligned : x % n = 0) (below : x < m) : x + n ≤ m := by
  have := Nat.le_of_dvd (Nat.sub_pos_of_lt below) (Nat.dvd_sub bound (Nat.dvd_of_mod_eq_zero aligned))
  omega

theorem packet_of_placeOf_scratch (place : (s.placeOf t x write).1 = .scratch a) : t < 1536 := by
  by_contra control
  rcases placeOf_of_control (s := s) (x := x) (write := write) (Nat.not_lt.mp control) with ⟨b, ipd⟩ | ⟨cause, fault⟩
  · exact absurd (ipd.symm.trans place) nofun
  · exact absurd (fault.symm.trans place) nofun

theorem packet_of_placeOf_shared (place : (s.placeOf t x write).1 = .shared a) : t < 1536 := by
  by_contra control
  rcases placeOf_of_control (s := s) (x := x) (write := write) (Nat.not_lt.mp control) with ⟨b, ipd⟩ | ⟨cause, fault⟩
  · exact absurd (ipd.symm.trans place) nofun
  · exact absurd (fault.symm.trans place) nofun

/-- An aligned access to scratch lies in its engine's part, and in its thread's where the thread is not T0. -/
theorem bounds_of_pePlace_scratch (place : s.pePlace t x write = .scratch a) (size : n ∣ 4096) (aligned : x % n = 0) :
    t / 8 * 2 ^ 15 ≤ a ∧ a + n ≤ t / 8 * 2 ^ 15 + 2 ^ 15 ∧ (t % 8 ≠ 0 → t * 4096 ≤ a ∧ a + n ≤ t * 4096 + 4096) := by
  rcases address_ranges x with own | ⟨lo, hi⟩ | ⟨lo, hi⟩ | ipd | gap
  · have fits := aligned_access_fits size aligned own
    rw [pePlace_of_own own] at place
    injection place with place
    omega
  · have fits := aligned_access_fits (size.trans (by decide)) aligned hi
    rw [pePlace_of_engine lo hi] at place
    split at place
    · injection place with place
      omega
    · exact absurd place nofun
  · rw [pePlace_of_shared lo hi] at place
    exact absurd place (pIte (P := (· ≠ Place.scratch a)) nofun nofun)
  · rw [pePlace_of_ipd ipd] at place
    exact absurd place (pIte (P := (· ≠ Place.scratch a)) nofun nofun)
  · exact absurd ((pePlace_of_gap gap).symm.trans place) nofun

/-- An aligned access to shared SRAM lies in its basin's part. -/
theorem bounds_of_pePlace_shared (place : s.pePlace t x write = .shared a) (size : n ∣ 4096) (aligned : x % n = 0) :
    t / 128 * 2 ^ 19 ≤ a ∧ a + n ≤ t / 128 * 2 ^ 19 + 2 ^ 19 := by
  rcases address_ranges x with own | ⟨lo, hi⟩ | ⟨lo, hi⟩ | ipd | gap
  · exact absurd ((pePlace_of_own own).symm.trans place) nofun
  · rw [pePlace_of_engine lo hi] at place
    exact absurd place (pIte (P := (· ≠ Place.shared a)) nofun nofun)
  · have fits := aligned_access_fits (size.trans (by decide)) aligned hi
    rw [pePlace_of_shared lo hi] at place
    split at place
    · injection place with place
      omega
    · exact absurd place nofun
  · rw [pePlace_of_ipd ipd] at place
    exact absurd place (pIte (P := (· ≠ Place.shared a)) nofun nofun)
  · exact absurd ((pePlace_of_gap gap).symm.trans place) nofun

/-- An aligned atomic on shared SRAM is a packet engine's and lies in its basin's part. -/
theorem atomicPlace_shared (place : (s.atomicPlace t x).1 = .shared a) (size : n ∣ 4096) (aligned : x % n = 0) :
    s.atomicPlace t x = (.shared a, s) ∧ t / 128 * 2 ^ 19 ≤ a ∧ a + n ≤ t / 128 * 2 ^ 19 + 2 ^ 19 := by
  by_cases window : t < 1536 ∧ 0x100000 ≤ x ∧ x < 0x180000
  · obtain ⟨packet, lo, hi⟩ := window
    have fits := aligned_access_fits (size.trans (by decide)) aligned hi
    simp only [State.atomicPlace, packet, lo, hi, decide_true, Bool.and_self, if_true] at place ⊢
    split at place
    · rename_i given
      injection place with same
      rw [if_pos given, same]
      exact ⟨rfl, by omega, by omega⟩
    · exact absurd place nofun
  · have outside : (decide (t < 1536) && decide (0x100000 ≤ x) && decide (x < 0x180000)) = false := by simpa using window
    simp only [State.atomicPlace, outside, Bool.false_eq_true, if_false] at place ⊢
    split at place
    · exact absurd place nofun
    · rename_i elsewhere
      have packet := packet_of_placeOf_shared place
      rw [if_neg elsewhere, placeOf_of_packet packet] at *
      exact ⟨congrArg (·, s) place, bounds_of_pePlace_shared place size aligned⟩

end Places

/-- Settles O52: each clause is the place of its range. -/
theorem engineAddressesGoWhereTheMapPutsThem : Obligations.EngineAddressesGoWhereTheMapPutsThem := by
  unfold Obligations.EngineAddressesGoWhereTheMapPutsThem
  intro s t x write packet _ e place
  have place_eq : place = s.pePlace t x write := congrArg Prod.fst (placeOf_of_packet packet)
  rw [place_eq]
  refine ⟨fun own => pePlace_of_own own, fun lo hi => ?engine, fun lo hi => ?shared, fun range => ?ipd,
    fun range => pePlace_of_gap range⟩
  case engine =>
    rw [pePlace_of_engine lo hi]
    exact ⟨fun first => if_pos first, fun other => if_neg other⟩
  case shared =>
    rw [pePlace_of_shared lo hi]
    exact ⟨fun plain => if_pos plain, fun other => if_neg other⟩
  case ipd =>
    rw [pePlace_of_ipd range]
    exact ⟨fun right => if_pos right, fun noRight => if_neg (Nat.not_le.mpr noRight)⟩

/-! ### Loads and stores -/

section Access

variable {u v : State} {t x a : Nat} {acc : LineAcc}

theorem access_of_scratch (place : u.placeOf t x acc.store = (.scratch a, v)) (aligned : x % acc.size = 0) :
    u.access t x acc = v.sramAccess t true { acc with addr := a } := by
  simp only [State.access, place, aligned, ne_eq, not_true_eq_false, if_false]

theorem access_of_shared (place : u.placeOf t x acc.store = (.shared a, v)) (aligned : x % acc.size = 0) :
    u.access t x acc = v.sramAccess t false { acc with addr := a } := by
  simp only [State.access, place, aligned, ne_eq, not_true_eq_false, if_false]

theorem access_of_ipd (place : u.placeOf t x acc.store = (.ipd a, v)) (aligned : x % acc.size = 0) :
    u.access t x acc = v.ipdAccess t { acc with addr := a } := by
  simp only [State.access, place, aligned, ne_eq, not_true_eq_false, if_false]

/-- Where the L1's word has no uncorrectable error the access raises no fault. -/
theorem ipdAccess_of_whole (whole : v.l1Bad (l1Of t) acc = false) : v.ipdAccess t acc = ((v.ipdAccess t acc).1, 0) := by
  unfold State.ipdAccess
  simp only [whole, Bool.and_false, Bool.false_eq_true, if_false]
  split <;> rfl

variable {n : Nat} {sext : Bool} (aligned : x % n = 0)

section Load

include aligned

theorem lsLoad_scratch (place : u.placeOf t x false = (.scratch a, v)) (clean : spoiled v.mem.scratchBad a n = false) :
    lsLoad u t x n sext =
      ((v.scratchFixed (t / 8) a n).startOp t uLs (loadPorts n sext (cellRead v.mem.scratch a n)) stOk, 0) := by
  rw [lsLoad, access_of_scratch (acc := { size := n, sext := sext }) place aligned]
  simp [State.sramAccess, clean]

theorem lsLoad_shared (place : u.placeOf t x false = (.shared a, v)) (clean : spoiled v.mem.sharedBad a n = false) :
    lsLoad u t x n sext = (v.startOp t uLs (loadPorts n sext (cellRead v.mem.shared a n)) stOk, 0) := by
  rw [lsLoad, access_of_shared (acc := { size := n, sext := sext }) place aligned]
  simp [State.sramAccess, clean]

theorem lsLoad_ipd (place : u.placeOf t x false = (.ipd a, v)) (whole : v.l1Bad (l1Of t) { addr := a, size := n, sext := sext } = false) :
    lsLoad u t x n sext = ((v.ipdAccess t { addr := a, size := n, sext := sext }).1, 0) := by
  rw [lsLoad, access_of_ipd (acc := { size := n, sext := sext }) place aligned]
  exact ipdAccess_of_whole whole

end Load

section Store

/-- The data operands of a store, cut to its size. -/
def storeData (u : State) (t n : Nat) : Nat := (u.opnd t 0x180 + u.opnd t 0x181 * 2 ^ 32) % 2 ^ (8 * n)

theorem lsStore_eq_access : lsStore u t x n =
    u.access t x { store := true, size := n, data := storeData u t n, mask := 2 ^ (t % 8) } := rfl

/-- A store of a whole word meets no error, since it replaces what the word held. -/
theorem store_meets_no_error {bads : List Nat} (clean : n = 8 ∨ spoiled bads a n = false) :
    (spoiled bads a n && !(n == 8)) = false := by
  rcases clean with rfl | clean
  · simp
  · rw [clean, Bool.false_and]

include aligned

theorem lsStore_scratch (place : u.placeOf t x true = (.scratch a, v)) (clean : n = 8 ∨ spoiled v.mem.scratchBad a n = false) :
    let w := v.scratchFixed (t / 8) a n
    lsStore u t x n = (({ w with mem := { w.mem with
      scratch := cellWrite v.mem.scratch a (leBytes n (storeData u t n))
      scratchBad := unspoiled v.mem.scratchBad a n } }).startOp t uLs [] stOk, 0) := by
  intro w
  rw [lsStore_eq_access, access_of_scratch (acc := { store := true, size := n, data := storeData u t n, mask := 2 ^ (t % 8) }) place aligned]
  simp only [State.sramAccess, Bool.true_and, store_meets_no_error clean, Bool.false_eq_true, if_true, if_false, w]

theorem lsStore_shared (place : u.placeOf t x true = (.shared a, v)) (clean : n = 8 ∨ spoiled v.mem.sharedBad a n = false) :
    lsStore u t x n = (({ v with mem := { v.mem with
      shared := cellWrite v.mem.shared a (leBytes n (storeData u t n))
      sharedBad := unspoiled v.mem.sharedBad a n } }).startOp t uLs [] stOk, 0) := by
  rw [lsStore_eq_access, access_of_shared (acc := { store := true, size := n, data := storeData u t n, mask := 2 ^ (t % 8) }) place aligned]
  simp [State.sramAccess, store_meets_no_error clean]

theorem lsStore_ipd {acc : LineAcc} (place : u.placeOf t x true = (.ipd a, v))
    (is : acc = { store := true, addr := a, size := n, data := storeData u t n, mask := 2 ^ (t % 8) })
    (whole : v.l1Bad (l1Of t) acc = false) : lsStore u t x n = ((v.ipdAccess t acc).1, 0) := by
  subst is
  rw [lsStore_eq_access, access_of_ipd (acc := { store := true, size := n, data := storeData u t n, mask := 2 ^ (t % 8) }) place aligned]
  exact ipdAccess_of_whole whole

end Store

end Access

section Rows

variable {s : State} {t : Fin 1544} {p n : Nat} {sext : Bool} {x : W32} {c : Instr}

theorem loadRow_of_trigRow (row : exec c s = .next (s.trigRow t.val p x fun u => lsLoad u t.val x.toNat n sext)) :
    LoadRow s t p n sext x c := by
  unfold LoadRow
  intro u word ports aligned a v
  refine ⟨fun place clean => ?scratch, fun place clean => ?shared, fun place whole => ?ipd⟩
  case scratch => exact issues_of_trigRow row (lsLoad_scratch aligned place clean)
  case shared => exact issues_of_trigRow row (lsLoad_shared aligned place clean)
  case ipd => exact issues_of_trigRow row (lsLoad_ipd aligned place whole)

theorem storeRow_of_trigRow (row : exec c s = .next (s.trigRow t.val p x fun u => lsStore u t.val x.toNat n)) :
    StoreRow s t p n x c := by
  unfold StoreRow
  intro u aligned a v data
  refine ⟨fun place clean => ?scratch, fun place clean => ?shared, ?ipd⟩
  case scratch => exact issues_of_trigRow row (lsStore_scratch aligned place clean)
  case shared => exact issues_of_trigRow row (lsStore_shared aligned place clean)
  case ipd =>
    intro place acc whole
    exact issues_of_trigRow row (lsStore_ipd aligned place rfl whole)

end Rows

/-- Settles O6: each row is a load of its size, and a load answers the bytes of its place. -/
theorem loadsReadTheirBytes : Obligations.LoadsReadTheirBytes := by
  unfold Obligations.LoadsReadTheirBytes
  intro s t x
  refine ⟨?ld8u, ?ld8s, ?ld16u, ?ld16s, ?ld32, ?ld64⟩
  all_goals exact loadRow_of_trigRow rfl

/-- Settles O7: each row is a store of its size, and a store writes the bytes of its place. -/
theorem storesWriteTheirBytes : Obligations.StoresWriteTheirBytes := by
  unfold Obligations.StoresWriteTheirBytes
  intro s t x
  refine ⟨?st8, ?st16, ?st32, ?st64⟩
  all_goals exact storeRow_of_trigRow rfl

/-! ### What a store or an atomic leaves -/

theorem getElem_leBytes {n : Nat} (v : Nat) {i : Nat} (h : i < (leBytes n v).length) :
    (leBytes n v)[i] = BitVec.ofNat 8 (v / 256 ^ i) := by
  induction n generalizing v i with
  | zero => exact absurd h (Nat.not_lt_zero i)
  | succ n ih =>
    cases i with
    | zero => simp [leBytes]
    | succ i =>
      have shorter : i < (leBytes n (v / 256)).length := Nat.lt_of_succ_lt_succ h
      calc (leBytes (n + 1) v)[i + 1]
        _ = (leBytes n (v / 256))[i] := rfl
        _ = BitVec.ofNat 8 (v / 256 / 256 ^ i) := ih (v / 256) shorter
        _ = BitVec.ofNat 8 (v / 256 ^ (i + 1)) := by rw [Nat.div_div_eq_div_mul, Nat.pow_succ']

section Frames

variable {o w : State} (rest : Stays o w) (m : List Host.Cell) (bad : List Nat)
include rest

/-- What leaves the rest as it was still does when the scratch is then written. -/
theorem stays_of_scratch_written :
    Stays { o with mem := { o.mem with scratch := m } }
      { w with mem := { w.mem with scratch := m, scratchBad := bad } } :=
  ⟨rest.pending, rest.wall, rest.rul, rest.tbl, rest.chan, rest.slu, rest.time, rest.lkg, rest.edg, rest.xng, rest.boot,
    rest.pwr, rest.fth, rest.img, rest.blocked, rest.grade, rfl, rest.shared⟩

theorem stays_of_shared_written :
    Stays { o with mem := { o.mem with shared := m } }
      { w with mem := { w.mem with shared := m, sharedBad := bad } } :=
  ⟨rest.pending, rest.wall, rest.rul, rest.tbl, rest.chan, rest.slu, rest.time, rest.lkg, rest.edg, rest.xng, rest.boot,
    rest.pwr, rest.fth, rest.img, rest.blocked, rest.grade, rest.scratch, rfl⟩

end Frames

/-- The bytes that a store wrote, and those that it left. -/
theorem written_bytes (m : List Host.Cell) (a n data : Nat) :
    (∀ i < n, cellGet (cellWrite m a (leBytes n data)) (a + i) = BitVec.ofNat 8 (data / 256 ^ i)) ∧
      (∀ b, b < a ∨ a + n ≤ b → cellGet (cellWrite m a (leBytes n data)) b = cellGet m b) := by
  have size := leBytes_length n data
  refine ⟨fun i below => ?_, fun b outside => ?_⟩
  · have inside : i < (leBytes n data).length := size.symm ▸ below
    exact (cellGet_write_inside m a (leBytes n data) inside).trans (getElem_leBytes data inside)
  · exact cellGet_write_outside m a (leBytes n data) (size.symm ▸ outside)

section StoreRows

variable {s : State} {t : Fin 1544} {p n : Nat} {x : W32} {c : Instr}

theorem storesOnly_of_trigRow (size : n ∣ 4096)
    (row : exec c s = .next (s.trigRow t.val p x fun u => lsStore u t.val x.toNat n)) : StoresOnly s t.val p n x c := by
  unfold StoresOnly
  intro u data aligned may a
  have before : Stays s u := State.settleFast_stays (Stays.refl s)
  refine ⟨fun place clean => ?scratch, fun place clean => ?shared⟩
  case scratch =>
    have packet := packet_of_placeOf_scratch place
    have whole : u.placeOf t.val x.toNat true = (.scratch a, u) := by
      rw [placeOf_of_packet packet] at place ⊢
      exact congrArg (·, u) place
    have bounds := bounds_of_pePlace_scratch (congrArg Prod.fst ((placeOf_of_packet packet).symm.trans whole)) size aligned
    have answer := ((storeRow_of_trigRow row aligned a u).1 whole clean) may
    have stays := (stays_of_scratch_written (before.trans (State.scratchFixed_stays (e := t.val / 8) (a := a) (n := n)))
      (cellWrite s.mem.scratch a (leBytes n data)) (unspoiled u.mem.scratchBad a n)).trans
        ((State.startOp_stays (t := t.val) (u := uLs) (given := []) (st := stOk) (Stays.refl _)).trans
          (issued_stays (t := t.val) (p := p) (x := x) may.live))
    rw [before.scratch] at answer
    obtain ⟨bytes, others⟩ := written_bytes s.mem.scratch a n data
    refine ⟨_, answer, stays, ?_, ?_, ?_⟩
    · exact fun i below => (congrArg (cellGet · (a + i)) stays.scratch).trans (bytes i below)
    · exact fun b outside => (congrArg (cellGet · b) stays.scratch).trans (others b outside)
    · exact fun b elsewhere => (congrArg (cellGet · b) stays.scratch).trans (others b (by omega))
  case shared =>
    have packet := packet_of_placeOf_shared place
    have whole : u.placeOf t.val x.toNat true = (.shared a, u) := by
      rw [placeOf_of_packet packet] at place ⊢
      exact congrArg (·, u) place
    have bounds := bounds_of_pePlace_shared (congrArg Prod.fst ((placeOf_of_packet packet).symm.trans whole)) size aligned
    have answer := ((storeRow_of_trigRow row aligned a u).2.1 whole clean) may
    have stays := (stays_of_shared_written before
      (cellWrite s.mem.shared a (leBytes n data)) (unspoiled u.mem.sharedBad a n)).trans
        ((State.startOp_stays (t := t.val) (u := uLs) (given := []) (st := stOk) (Stays.refl _)).trans
          (issued_stays (t := t.val) (p := p) (x := x) may.live))
    rw [before.shared] at answer
    obtain ⟨bytes, others⟩ := written_bytes s.mem.shared a n data
    refine ⟨_, answer, stays, ?_, ?_, ?_⟩
    · exact fun i below => (congrArg (cellGet · (a + i)) stays.shared).trans (bytes i below)
    · exact fun b outside => (congrArg (cellGet · b) stays.shared).trans (others b outside)
    · exact fun b elsewhere => (congrArg (cellGet · b) stays.shared).trans (others b (by omega))

/-- An atomic row writes the bytes of its word, of which it has 4 or 8. -/
theorem atomicOnly_of_atomicRow {wide : Bool} {i : Nat} (row : AtomicRow s t wide i x c) : AtomicOnly s t.val wide i x c := by
  unfold AtomicOnly
  intro u n aligned may a place clean
  have size : n ∣ 4096 := by cases wide <;> decide
  obtain ⟨whole, lo, hi⟩ := atomicPlace_shared place size aligned
  have before : Stays s u := State.settleFast_stays (Stays.refl s)
  have answer := (row aligned a u).1 whole clean may
  generalize atomicNew _ _ _ _ _ = new at answer
  have stays := (stays_of_shared_written before (cellWrite u.mem.shared a (leBytes n new)) u.mem.sharedBad).trans
    ((State.startOp_stays (t := t.val) (u := uAt) (given := atomicPorts wide (leNat (cellRead u.mem.shared a n))) (st := stOk)
      (Stays.refl _)).trans
        (issued_stays (t := t.val) (p := 0x390 + 8 * flagBit wide + i) (x := x) may.live))
  have others : ∀ b, b < a ∨ a + n ≤ b → cellGet (cellWrite u.mem.shared a (leBytes n new)) b = cellGet s.mem.shared b :=
    fun b outside => ((written_bytes u.mem.shared a n new).2 b outside).trans (congrArg (cellGet · b) before.shared)
  refine ⟨_, answer, ⟨_, stays⟩, ?_, ?_⟩
  · exact fun b outside => (congrArg (cellGet · b) stays.shared).trans (others b outside)
  · exact fun b elsewhere => (congrArg (cellGet · b) stays.shared).trans (others b (by omega))

end StoreRows

/-- Settles O59: each row is a store of its size, or an atomic, and writes the bytes at its place; what precedes and follows
leaves every byte. -/
theorem storesAndAtomicsChangeOnlyTheirBytes : Obligations.StoresAndAtomicsChangeOnlyTheirBytes := by
  unfold Obligations.StoresAndAtomicsChangeOnlyTheirBytes
  intro s t x
  refine ⟨?st8, ?st16, ?st32, ?st64, fun wide => ⟨?add, ?sub, ?swap, ?cas, ?and, ?or, ?min, ?max⟩⟩
  case st8 => exact storesOnly_of_trigRow (by decide) rfl
  case st16 => exact storesOnly_of_trigRow (by decide) rfl
  case st32 => exact storesOnly_of_trigRow (by decide) rfl
  case st64 => exact storesOnly_of_trigRow (by decide) rfl
  all_goals exact atomicOnly_of_atomicRow (atomicRow_of_trigRow rfl)

end Sys2Proof
end

section
/-! The ALUs, the bit unit and the compare unit (Tables 9.2 to 9.4, R366, R367): the rows start their operations, and the
functions of the bit unit are stated bit by bit. -/

namespace Sys2Proof

open Machine

/-! ### The rows -/

/-- Settles O1: each row runs the operation of its ALU with the result and the carry of Table 9.2. -/
theorem aluTriggersStartTheirOperation : Obligations.AluTriggersStartTheirOperation := by
  unfold Obligations.AluTriggersStartTheirOperation
  intro s t k x a
  refine ⟨?add, ?sub, ?and, ?or, ?xor, ?andn, ?shl, ?shr, ?sar, ?rotl, ?min, ?max, ?minu, ?maxu, ?mov⟩
  all_goals exact issues_of_trigRow rfl rfl

theorem fieldOp_of_field {s : State} {t : Nat} {x : W32} (v : W32) (field : fieldOk x = true) : s.fieldOp t x v = s.bitOp t v :=
  if_pos field

/-- Settles O2: a row of a field runs its operation where the field lies in the word; the others have one branch. -/
theorem bitUnitTriggersStartTheirOperation : Obligations.BitUnitTriggersStartTheirOperation := by
  unfold Obligations.BitUnitTriggersStartTheirOperation
  intro s t x a b len
  refine ⟨?extu, ?exts, ?ins, ?clz, ?ctz, ?popc, ?bswap, ?bswap16, ?bitrev, ?sext8, ?sext16⟩
  case extu => exact fun field => issues_of_trigRow rfl (fieldOp_of_field _ field)
  case exts => exact fun field => issues_of_trigRow rfl (fieldOp_of_field _ field)
  case ins => exact fun field => issues_of_trigRow rfl (fieldOp_of_field _ field)
  all_goals exact issues_of_trigRow rfl rfl

section Compare

variable {s : State} {t : Nat} {f : W32 → Bool}

theorem cmpOp_without_predicate (none_ : s.opnd t 0x161 % 8 = 0) :
    s.cmpOp t f = (s.startOp t uCmp [(0x162, flagWord (f ((s.thread t).port 0x160)))] stOk, 0) := by
  simp only [State.cmpOp, none_, Nat.not_lt_zero, if_false, if_true]

theorem cmpOp_with_predicate (some_ : 0 < s.opnd t 0x161 % 8) (file : s.opnd t 0x161 % 8 ≤ 4) :
    let c := f ((s.thread t).port 0x160)
    s.cmpOp t f = ((s.startOp t uCmp [(0x162, flagWord c)] stOk).updThread t fun th => { th with
      ops := th.ops.map fun (e : Nat × UnitOp) =>
        (e.1, { e.2 with pred := bif e.1 == uCmp then some (s.opnd t 0x161 % 8 - 1, c) else e.2.pred }) }, 0) := by
  simp only [State.cmpOp, Nat.not_lt.mpr file, Nat.ne_of_gt some_, if_false]

end Compare

/-- A row of the compare unit starts the compare whose condition its operation computes. -/
theorem cmpStarts_of_trigRow {s : State} {t : Fin 1544} {i : Nat} {x : W32} {instr : Instr} {f : W32 → Bool} {c : Bool}
    (row : exec instr s = .next (s.trigRow t.val (0x170 + i) x fun u => u.cmpOp t.val f))
    (condition : f (((s.settleFast t.val).thread t.val).port 0x160) = c) : CmpStarts s t i x instr c := by
  subst condition
  exact ⟨fun none_ => issues_of_trigRow row (cmpOp_without_predicate none_),
    fun some_ file => issues_of_trigRow row (cmpOp_with_predicate some_ file)⟩

theorem not_sLess (a x : W32) : (!sLess a x) = decide (x.toInt ≤ a.toInt) := by
  simp [sLess, ← decide_not]

theorem not_uLess (a x : W32) : (!uLess a x) = decide (x.toNat ≤ a.toNat) := by
  simp [uLess, ← decide_not]

/-- Settles O4: each row runs the compare of its condition; "at most" is the negation of the order of the operands exchanged. -/
theorem compareTriggersStartTheirOperation : Obligations.CompareTriggersStartTheirOperation := by
  unfold Obligations.CompareTriggersStartTheirOperation
  intro s t x a
  refine ⟨?eq, ?ne, ?lt, ?le, ?gt, ?ge, ?ltu, ?leu, ?gtu, ?geu, ?tst⟩
  case le => exact cmpStarts_of_trigRow rfl (not_sLess x a)
  case ge => exact cmpStarts_of_trigRow rfl (not_sLess a x)
  case leu => exact cmpStarts_of_trigRow rfl (not_uLess x a)
  case geu => exact cmpStarts_of_trigRow rfl (not_uLess a x)
  all_goals exact cmpStarts_of_trigRow rfl rfl

/-! ### The functions of the bit unit, bit by bit -/

theorem length_takeWhile_eq_findIdx {α : Type} (p : α → Bool) (l : List α) :
    (l.takeWhile p).length = l.findIdx fun x => !p x := by
  rw [List.takeWhile_eq_take_findIdx_not, List.length_take, Nat.min_eq_left List.findIdx_le_length]

/-- The count of zeros before the first set bit, of the bits of x in the order of a list of 32 places. -/
theorem zeros_before_first_set {x : W32} {l : List Nat} {place : Nat → Nat} (size : l.length = 32)
    (order : ∀ i (h : i < l.length), l[i] = place i) :
    let n := (l.takeWhile fun i => !x.getLsbD i).length
    n ≤ 32 ∧ (∀ i < n, x.getLsbD (place i) = false) ∧ (n < 32 → x.getLsbD (place n) = true) := by
  intro n
  have n_eq : n = l.findIdx fun i => x.getLsbD i := by
    simpa using length_takeWhile_eq_findIdx (fun i => !x.getLsbD i) l
  have bound : n ≤ l.length := n_eq.trans_le List.findIdx_le_length
  refine ⟨bound.trans_eq size, fun i below => ?_, fun below => ?_⟩
  · rw [← order i (below.trans_le bound)]
    exact List.not_of_lt_findIdx (below.trans_eq n_eq)
  · have inside : n < l.length := below.trans_eq size.symm
    have found := List.findIdx_getElem (w := n_eq.symm.trans_lt inside)
    rw [← order n inside]
    simpa only [← n_eq] using found

theorem testBit_leNat (bs : List Byte) (i : Nat) : (leNat bs).testBit i = (bs.getD (i / 8) 0).getLsbD (i % 8) := by
  induction bs generalizing i with
  | nil => simp [leNat]
  | cons b bs ih =>
    have split := Nat.testBit_two_pow_mul_add (leNat bs) (b := b.toNat) (i := 8) b.isLt i
    rw [leNat, Nat.add_comm, show 256 = 2 ^ 8 from rfl, split]
    by_cases low : i < 8
    · rw [if_pos low, Nat.div_eq_of_lt low, Nat.mod_eq_of_lt low]
      rfl
    · obtain ⟨j, rfl⟩ := Nat.exists_eq_add_of_le' (Nat.not_lt.mp low)
      rw [if_neg low, Nat.add_sub_cancel, ih, Nat.add_div_right _ (by decide), Nat.add_mod_right]
      rfl

theorem getLsbD_byte (v k j : Nat) (h : j < 8) : (BitVec.ofNat 8 (v / 256 ^ k)).getLsbD j = v.testBit (8 * k + j) := by
  rw [BitVec.getLsbD_ofNat, show 256 = 2 ^ 8 from rfl, ← Nat.pow_mul, Nat.testBit_div_two_pow]
  simp [h, Nat.add_comm]

/-- The n low bytes of a number in the other order. -/
theorem testBit_beNat_leBytes {n v i : Nat} (h : i < 8 * n) :
    (beNat (leBytes n v)).testBit i = v.testBit (8 * (n - 1 - i / 8) + i % 8) := by
  have place : i / 8 < n := by omega
  have mirrored : n - 1 - i / 8 < (leBytes n v).length := by rw [leBytes_length]; omega
  rw [beNat, testBit_leNat, List.getD_eq_getElem _ _ (by simpa [leBytes_length] using place), List.getElem_reverse]
  simp only [leBytes_length, getElem_leBytes]
  exact getLsbD_byte v _ _ (Nat.mod_lt _ (by decide))

/-- Bits shifted in one after the other stand in the other order. -/
theorem testBit_foldl_bits (f : Nat → Bool) (n i : Nat) :
    ((List.range n).foldl (fun v i => v * 2 + flagBit (f i)) 0).testBit i = (decide (i < n) && f (n - 1 - i)) := by
  induction n generalizing i with
  | zero => simp
  | succ n ih =>
    rw [List.range_succ, List.foldl_append, List.foldl_cons, List.foldl_nil]
    have bit : flagBit (f n) < 2 ^ 1 := by cases f n <;> decide
    have split := Nat.testBit_two_pow_mul_add ((List.range n).foldl (fun v i => v * 2 + flagBit (f i)) 0) bit i
    rw [Nat.pow_one, Nat.mul_comm 2] at split
    rw [split]
    cases i with
    | zero => cases bit : f n <;> simp [flagBit, bit]
    | succ i =>
      rw [if_neg (by omega), Nat.add_sub_cancel, ih]
      simp [Nat.sub_sub, Nat.add_comm]

/-- A sign extension is that of the low bits as a word of their own. -/
theorem signExt_eq_signExtend (n : Nat) (x : W32) : signExt n x = (x.setWidth n).signExtend 32 := by
  rw [signExt, BitVec.signExtend, BitVec.toInt_eq_toNat_cond, BitVec.toNat_setWidth, signed]
  congr 1
  cases n with
  | zero => simp [Nat.mod_one]
  | succ n =>
    have half : 2 * (x.toNat % 2 ^ (n + 1)) < 2 ^ (n + 1) ↔ x.toNat % 2 ^ (n + 1) < 2 ^ n := by rw [Nat.pow_succ]; omega
    simp only [half, Nat.add_sub_cancel]

theorem getLsbD_signExt {n i : Nat} (x : W32) (pos : 0 < n) (h : i < 32) :
    (signExt n x).getLsbD i = x.getLsbD (min i (n - 1)) := by
  rw [signExt_eq_signExtend, BitVec.getLsbD_signExtend]
  by_cases low : i < n
  · simp [h, low, Nat.min_eq_left (Nat.le_sub_one_of_lt low)]
  · simp [h, low, BitVec.msb_eq_getLsbD_last, Nat.min_eq_right (show n - 1 ≤ i by omega), pos]

/-- Settles O3: the counts are those of the zeros before the first set bit in either order; the other functions read each bit
from its place. -/
theorem bitUnitFunctionsAreThoseOfItsTable : Obligations.BitUnitFunctionsAreThoseOfItsTable := by
  unfold Obligations.BitUnitFunctionsAreThoseOfItsTable
  intro x
  refine ⟨?lead, ?trail, fun i h => ?swap, fun i h => ?swapLow, fun i h => ?swapHigh, fun i h => ?rev, fun i h => ?ext8,
    fun i h => ?ext16⟩
  case lead => exact zeros_before_first_set (place := fun i => 31 - i) (l := (List.range 32).reverse) rfl (by simp)
  case trail => exact zeros_before_first_set (place := fun i => i) (l := List.range 32) rfl (by simp)
  case swap =>
    rw [swapBytes, BitVec.getLsbD_ofNat, testBit_beNat_leBytes h, decide_eq_true h, Bool.true_and]
    rfl
  case swapLow =>
    rw [swapLow, BitVec.getLsbD_ofNat, testBit_beNat_leBytes h, decide_eq_true (by omega), Bool.true_and]
    rfl
  case swapHigh =>
    have outside : ((leBytes 2 x.toNat).reverse).length ≤ i / 8 := by rw [List.length_reverse, leBytes_length]; omega
    rw [swapLow, BitVec.getLsbD_ofNat, beNat, testBit_leNat, List.getD_eq_default _ _ outside]
    simp
  case rev => rw [revBits, BitVec.getLsbD_ofNat, testBit_foldl_bits, decide_eq_true h, Bool.true_and, Bool.true_and]
  case ext8 => exact getLsbD_signExt x (by decide) h
  case ext16 => exact getLsbD_signExt x (by decide) h

end Sys2Proof
end

section
/-! The table unit and the flow unit (Table 9.9, R202, R227, R379 to R381): lookups, and the search, the creation, the reading,
the writing and the deletion of flow entries. -/

namespace Sys2Proof

open Machine

/-! ### Lookups, one equation per branch -/

section Lookups

variable {u v : State} {t x : Nat}

/-- A word's MAC operand needs no cutting. -/
theorem toNat_mod_word (x : W32) : x.toNat % 2 ^ 32 = x.toNat := Nat.mod_eq_of_lt x.isLt

theorem tlL2_hit {e : L2Ent} {x : W32}
    (hit : u.l2Lookup (u.opnd t 0x280 % 4096) (u.opnd t 0x281 % 65536 * 2 ^ 32 + x.toNat) = (some e, v)) :
    tlL2 u t x.toNat = (v.startOp t uTl [(0x283, BitVec.ofNat 32 e.port),
      (0x284, BitVec.ofNat 32 (e.ep % 65536 + flagBit e.epValid * 2 ^ 16 + flagBit e.static_ * 2 ^ 17))] stOk, 0) := by
  simp only [tlL2, toNat_mod_word, hit]

theorem tlL2_miss {x : W32}
    (miss : u.l2Lookup (u.opnd t 0x280 % 4096) (u.opnd t 0x281 % 65536 * 2 ^ 32 + x.toNat) = (none, v)) :
    tlL2 u t x.toNat = (v.startOp t uTl [] stEmpty, 0) := by
  simp only [tlL2, toNat_mod_word, miss]

theorem tlEp_of_record (used : (u.epRec (x % 65536)).state ≠ 0) :
    tlEp u t x = (u.startOp t uTl [(0x284, BitVec.ofNat 32 (u.epRec (x % 65536)).word2)] stOk, 0) := by
  simp only [tlEp, used, if_false]

theorem tlEp_of_free (free : (u.epRec (x % 65536)).state = 0) : tlEp u t x = (u.startOp t uTl [] stEmpty, 0) := by
  simp only [tlEp, free, if_true]

/-- An index of 13 bits is never beyond the table. -/
theorem tlParam_of_resident {n : Nat} (resident : u.slotOfVersion (u.opnd t 0x282 % 65536) = some n) :
    tlParam u t x =
      (u.startOp t uTl [(0x285, ((u.version n).tables.entry 2 (bits x 0 13)).getD (bits x 13 4) 0)] stOk, 0) := by
  have inTable : ¬8191 < bits x 0 13 := by simp only [bits]; omega
  simp only [tlParam, resident, inTable, if_false]

end Lookups

/-- Settles O12: each clause is the branch of its lookup that it names. -/
theorem tableLookupTriggersAnswerFromTheirTables : Obligations.TableLookupTriggersAnswerFromTheirTables := by
  unfold Obligations.TableLookupTriggersAnswerFromTheirTables
  intro s t x u
  refine ⟨fun e v hit => ?l2, fun v miss => ?l2Empty, fun used => ?ep, fun free => ?epEmpty, fun n resident => ?param⟩
  case l2 => exact issues_of_trigRow rfl (tlL2_hit hit)
  case l2Empty => exact issues_of_trigRow rfl (tlL2_miss miss)
  case ep => exact issues_of_trigRow rfl (tlEp_of_record used)
  case epEmpty => exact issues_of_trigRow rfl (tlEp_of_free free)
  case param => exact issues_of_trigRow rfl (tlParam_of_resident resident)

/-! ### The search for a key -/

section Search

variable {u : State} {t x sp : Nat} {key : List Byte} {create : Bool} (operand : u.flowOperand t x = some (sp, key))
  (clean : u.flowKeyBad t x sp = false)

/-- The state in which the key has been read from scratch. -/
def keyRead (u : State) (t x sp : Nat) : State := u.scratchFixed (t / 8) (threadScratch t x) (u.keyLen sp)

include operand clean

/-- A key that is found answers its context, whether the search may create an entry or not. -/
theorem tlFind_of_hit {i : Nat} (hit : (keyRead u t x sp).flowSlot sp key = (stOk, i)) :
    let v := (bucketsRead (keyRead u t x sp) sp key).flowHit i
    let e := (v.flowAt i).getD {}
    tlFind u t x create = (flowEnds v t (e.ctx + 0 * 2 ^ 31) (v.ctxGen e.ctx) 0, 0) := by
  simp only [keyRead] at hit ⊢
  simp only [tlFind, operand, clean, hit, Bool.false_eq_true, if_false, if_true]
  rfl

variable {st i : Nat} (miss : (keyRead u t x sp).flowSlot sp key = (st, i)) (other : st ≠ stOk)

include miss other

theorem tlFind_of_miss : tlFind u t x false = ((bucketsRead (keyRead u t x sp) sp key).startOp t uFlow [] st, 0) := by
  simp only [keyRead] at miss ⊢
  simp only [tlFind, operand, clean, miss, other, Bool.not_false, Bool.false_eq_true, if_false, if_true]
  rfl

/-- No second entry is made for a key that may stand in a word that is lost (log entry 185). -/
theorem tlFind_of_hidden (hidden : (bucketsRead (keyRead u t x sp) sp key).flowHidden sp key = true) :
    tlFind u t x true = ((bucketsRead (keyRead u t x sp) sp key).startOp t uFlow [] stLost, 0) := by
  simp only [keyRead, bucketsRead] at miss hidden ⊢
  simp only [tlFind, operand, clean, miss, other, hidden, Bool.not_true, Bool.false_eq_true, if_false, if_true]

theorem tlFind_creates {j : Nat} {v : State} (shown : (bucketsRead (keyRead u t x sp) sp key).flowHidden sp key = false)
    (made : (bucketsRead (keyRead u t x sp) sp key).flowCreate sp key false 1 (bucketsRead (keyRead u t x sp) sp key).now [] =
      (some j, v)) :
    let e := (v.flowAt j).getD {}
    tlFind u t x true = (flowEnds v t (e.ctx + 1 * 2 ^ 31) (v.ctxGen e.ctx) 0, 0) := by
  simp only [keyRead, bucketsRead] at miss shown made ⊢
  simp only [tlFind, operand, clean, miss, other, shown, made, Bool.not_true, Bool.false_eq_true, if_false, flowEnds]

end Search

/-! ### Contexts by their handle -/

section Contexts

variable {u : State} {t x n gen : Nat} (operand : u.flowOpnd t = (n, gen))
include operand

section Live

variable {e : Nat} (live : u.flowHandle n gen = some e)
include live

theorem tlRead_of_live :
    let v := u.ipdReq (u.ctxAddr n + 4 * (x % 32)) false clsTbl
    tlRead u t x = (flowEnds v t n gen (v.ctxWord n (x % 32)), 0) := by
  simp only [tlRead, operand, live, flowEnds]

theorem tlWrite_of_program_word (word : 16 ≤ x % 32) :
    tlWrite u t x = (flowEnds (u.setCtxWord n (x % 32) (u.opnd t 0x2A3)) t n gen 0, 0) := by
  simp only [tlWrite, operand, live, word, if_true, flowEnds]

theorem tlWrite_of_state_word (word : x % 32 = 12) : tlWrite u t x =
    (flowEnds (u.setCtxWord n 12 (setBits (u.ctxWord n 12) 26 2 (bits (u.opnd t 0x2A3) 26 2))) t n gen 0, 0) := by
  simp [tlWrite, operand, live, word, flowEnds]

theorem tlWrite_of_other_word (low : x % 32 < 16) (other : x % 32 ≠ 12) :
    tlWrite u t x = (u.startOp t uFlow [] stDenied, 0) := by
  simp only [tlWrite, operand, live, Nat.not_le.mpr low, other, if_false]

theorem tlDelete_of_live : tlDelete u t = (flowEnds (u.flowRemove e) t n gen 0, 0) := by
  simp only [tlDelete, operand, live, flowEnds]

end Live

section Gone

variable (gone : u.flowHandle n gen = none)
include gone

theorem tlRead_of_gone : tlRead u t x = (u.startOp t uFlow [] stLost, 0) := by simp only [tlRead, operand, gone]

theorem tlWrite_of_gone : tlWrite u t x = (u.startOp t uFlow [] stLost, 0) := by simp only [tlWrite, operand, gone]

theorem tlDelete_of_gone : tlDelete u t = (u.startOp t uFlow [] stLost, 0) := by simp only [tlDelete, operand, gone]

end Gone

end Contexts

/-- Settles O13: the search has four ends, and a handle names a live context or none. -/
theorem flowTriggersActOnTheFlowTable : Obligations.FlowTriggersActOnTheFlowTable := by
  unfold Obligations.FlowTriggersActOnTheFlowTable
  intro s t x u
  refine ⟨fun sp key i operand clean hit => ⟨?find, ?get⟩,
    fun sp key st i operand clean miss other => ⟨?findMisses, fun hidden => ?getHidden, fun j v shown made => ?getCreates⟩,
    fun n gen e operand live => ⟨?read, fun word => ?write, fun word => ?writeState, fun low other => ?writeDenied, ?delete⟩,
    fun n gen operand gone => ⟨?readLost, ?writeLost, ?deleteLost⟩⟩
  case find => exact issues_of_trigRow rfl (tlFind_of_hit operand clean hit)
  case get => exact issues_of_trigRow rfl (tlFind_of_hit operand clean hit)
  case findMisses => exact issues_of_trigRow rfl (tlFind_of_miss operand clean miss other)
  case getHidden => exact issues_of_trigRow rfl (tlFind_of_hidden operand clean miss other hidden)
  case getCreates => exact issues_of_trigRow rfl (tlFind_creates operand clean miss other shown made)
  case read => exact issues_of_trigRow rfl (tlRead_of_live operand live)
  case write => exact issues_of_trigRow rfl (tlWrite_of_program_word operand live word)
  case writeState => exact issues_of_trigRow rfl (tlWrite_of_state_word operand live word)
  case writeDenied => exact issues_of_trigRow rfl (tlWrite_of_other_word operand live low other)
  case delete => exact issues_of_trigRow rfl (tlDelete_of_live operand live)
  case readLost => exact issues_of_trigRow rfl (tlRead_of_gone operand gone)
  case writeLost => exact issues_of_trigRow rfl (tlWrite_of_gone operand gone)
  case deleteLost => exact issues_of_trigRow rfl (tlDelete_of_gone operand gone)

end Sys2Proof
end

section
/-! The Cistern, the Lockgate, the completion unit and the origination unit of a thread (Tables 9.11 and 9.14 to 9.16): each row
on the branch that its clause names. -/

namespace Sys2Proof

open Machine

/-! ### Buffers (R480 to R490) -/

section Buffers

variable {u v : State} {t x cap o : Nat} {l : List RefEnt} (table : u.refTable t = (l, cap, o))

section Alloc

variable (notHeads : x % 256 ≠ 0) (enabled : u.poolEn (x % 256) = true) (may : u.mayAlloc (threadBasin t) (x % 256) = true)
  (room : l.length < cap ∨ (dropTombstone l).isSome = true)

include table notHeads enabled may room

/-- Past its checks an allocation is what the pool answers. -/
theorem csAlloc_of_allowed : csAlloc u t x =
    match u.allocCore (x % 256) (u.basinCharge (threadBasin t)) t with
    | ((st, some h), s) =>
      ((s.setRefTable t ((addEntry l cap (x % 256) h o).getD l)).startOp t uCs [(0x3E1, BitVec.ofNat 32 h)] st, 0)
    | ((st, none), s) =>
      if st = stOk then (s.putOp t uCs { wait := 6, arg := x % 256 }, 0) else (s.startOp t uCs [] st, 0) := by
  have fits : (decide (cap ≤ l.length) && (dropTombstone l).isNone) = false := by
    rcases room with short | tombstone
    · rw [decide_eq_false (Nat.not_le.mpr short), Bool.false_and]
    · rw [Option.isNone_eq_false_iff.mpr tombstone, Bool.and_false]
  simp only [csAlloc, table, notHeads, enabled, may, fits, Bool.not_true, Bool.false_eq_true, if_false] <;>
  rfl

theorem csAlloc_answers {h : Nat} (given : u.allocCore (x % 256) (u.basinCharge (threadBasin t)) t = ((stOk, some h), v)) :
    csAlloc u t x = ((v.setRefTable t ((addEntry l cap (x % 256) h o).getD l)).startOp t uCs
      [(0x3E1, BitVec.ofNat 32 h)] stOk, 0) := by
  rw [csAlloc_of_allowed table notHeads enabled may room, given]

theorem csAlloc_waits (empty : u.allocCore (x % 256) (u.basinCharge (threadBasin t)) t = ((stOk, none), v)) :
    csAlloc u t x = (v.putOp t uCs { wait := 6, arg := x % 256 }, 0) := by
  rw [csAlloc_of_allowed table notHeads enabled may room, empty]
  exact if_pos rfl

end Alloc

section Handle

variable (enabled : u.poolEn (u.opnd t 0x3E0 % 256) = true) (exists_ : x % 2 ^ 24 < u.poolCount (u.opnd t 0x3E0 % 256))
include enabled exists_

/-- The pool and the handle of the operands name a buffer. -/
theorem handle_valid :
    (!u.poolEn (u.opnd t 0x3E0 % 256) || decide (u.poolCount (u.opnd t 0x3E0 % 256) ≤ x % 2 ^ 24)) = false := by
  rw [enabled, decide_eq_false (Nat.not_le.mpr exists_)]
  rfl

section Free

variable (live : hasLive l (u.opnd t 0x3E0 % 256) (x % 2 ^ 24) o = true)
  (counted : u.refCount (u.opnd t 0x3E0 % 256) (x % 2 ^ 24) ≠ 0)
include table live counted

/-- A buffer that the table holds is given up; where its handle must wait for the spill, so does the thread (R483). -/
theorem csFree_of_live :
    let q := u.opnd t 0x3E0 % 256
    let h := x % 2 ^ 24
    let v := (u.setRefTable t (dropEntry l q h o)).dropCount q h
    csFree u t x = if (v.pool q).held.contains h then
        (({ v with cis := { v.cis with freers := v.cis.freers ++ [(t, q, h)] } }).putOp t uCs { wait := 7, arg := q }, 0)
      else (v.startOp t uCs [] stOk, 0) := by
  have valid := handle_valid enabled exists_
  simp only [csFree, table, valid, live, counted, Bool.false_eq_true, if_false, if_true]

end Free

theorem csRef_of_covered {l2 : List RefEnt} (covered : u.covered t (u.opnd t 0x3E0 % 256) (x % 2 ^ 24) = true)
    (present : u.bufLost (u.opnd t 0x3E0 % 256) (x % 2 ^ 24) = false)
    (counted : u.refCount (u.opnd t 0x3E0 % 256) (x % 2 ^ 24) < 255) (table : u.refTable t = (l, cap, o))
    (entered : addEntry l cap (u.opnd t 0x3E0 % 256) (x % 2 ^ 24) o = some l2) :
    csRef u t x =
      (((u.setRefTable t l2).addCount (u.opnd t 0x3E0 % 256) (x % 2 ^ 24)).startOp t uCs [] stOk, 0) := by
  have valid := handle_valid enabled exists_
  simp only [csRef, table, valid, covered, present, Nat.not_le.mpr counted, entered, Bool.not_true, Bool.false_eq_true, if_false]

theorem csAddr_of_covered (notHeads : u.opnd t 0x3E0 % 256 ≠ 0)
    (covered : u.covered t (u.opnd t 0x3E0 % 256) (x % 2 ^ 24) = true) :
    let q := u.opnd t 0x3E0 % 256
    csAddr u t x = (u.startOp t uCs [(0x3E1, BitVec.ofNat 32 (u.poolBase q / 256 + x % 2 ^ 24 * u.poolSize q))] stOk, 0) := by
  have valid := handle_valid enabled exists_
  simp only [csAddr, valid, notHeads, covered, decide_false, Bool.or_false, Bool.not_true, Bool.false_eq_true, if_false]

theorem csInfo_of_covered (covered : u.covered t (u.opnd t 0x3E0 % 256) (x % 2 ^ 24) = true) :
    csInfo u t x =
      (u.startOp t uCs [(0x3E1, BitVec.ofNat 32 (u.refCount (u.opnd t 0x3E0 % 256) (x % 2 ^ 24)))] stOk, 0) := by
  have valid := handle_valid enabled exists_
  simp only [csInfo, valid, covered, Bool.not_true, Bool.false_eq_true, if_false]

end Handle

end Buffers

/-- Settles O16: each clause is the branch of its operation past the checks that its hypotheses pass. -/
theorem cisternTriggersAllocateAndReferToBuffers : Obligations.CisternTriggersAllocateAndReferToBuffers := by
  unfold Obligations.CisternTriggersAllocateAndReferToBuffers
  intro s t x u p q h
  refine ⟨fun l cap o h' v notHeads table enabled may room => ⟨fun given => ?alloc, fun empty => ?allocWaits⟩,
    fun l cap o table enabled exists_ live counted => ⟨fun back => ?free, fun held => ?freeWaits⟩,
    fun l l2 cap o table enabled exists_ covered present counted entered => ?ref,
    fun notHeads enabled exists_ covered => ?addr, fun enabled exists_ covered => ?info⟩
  case alloc => exact issues_of_trigRow rfl (csAlloc_answers table notHeads enabled may room given)
  case allocWaits => exact issues_of_trigRow rfl (csAlloc_waits table notHeads enabled may room empty)
  case free =>
    exact issues_of_trigRow rfl ((csFree_of_live table enabled exists_ live counted).trans (if_neg (Bool.eq_false_iff.mp back)))
  case freeWaits =>
    exact issues_of_trigRow rfl ((csFree_of_live table enabled exists_ live counted).trans (if_pos held))
  case ref => exact issues_of_trigRow rfl (csRef_of_covered enabled exists_ covered present counted table entered)
  case addr => exact issues_of_trigRow rfl (csAddr_of_covered enabled exists_ notHeads covered)
  case info => exact issues_of_trigRow rfl (csInfo_of_covered enabled exists_ covered)

/-! ### Locks (R386, R387, R667 to R676) -/

section Locks

variable {u v : State} {t x : Nat} {tries : Bool}

/-- The time limit of a thread's request; a control engine's has none. -/
def lockLimit (u : State) (t : Nat) : Option Nat :=
  let lim := u.opnd t 0x340 % 2 ^ 24
  if lim = 0 || (threadCe t).isSome then none else some (u.now + 1000 * lim)

theorem lkAcquire_waits (waits : u.acquire (x % 8192) (u.reqThread t) (unitsOf (u.opnd t 0x341)) (u.waitPrio t) tries
    (lockLimit u t) = (none, v)) :
    lkAcquire u t x tries = (v.putOp t uLk { wait := 1, arg := x % 8192, limit := lockLimit u t }, 0) := by
  simp only [lockLimit] at waits ⊢
  simp only [lkAcquire, waits]

theorem lkAcquire_answers {st : Nat} (answers : u.acquire (x % 8192) (u.reqThread t) (unitsOf (u.opnd t 0x341)) (u.waitPrio t)
    false (lockLimit u t) = (some st, v)) :
    let w := if st = stOk ∨ st = stAbandoned then v.setEvent t evLock else v
    lkAcquire u t x false = (w.startOp t uLk (if st = stOk then w.lockResult (x % 8192) else []) st, 0) := by
  simp only [lockLimit] at answers
  simp only [lkAcquire, answers]
  simp only [Bool.not_false, Bool.true_and, Bool.or_eq_true, decide_eq_true_eq]

theorem lkAcquire_tries {st : Nat} (answers : u.acquire (x % 8192) (u.reqThread t) (unitsOf (u.opnd t 0x341)) (u.waitPrio t)
    true (lockLimit u t) = (some st, v)) :
    lkAcquire u t x true = (v.startOp t uLk (if st = stOk then v.lockResult (x % 8192) else []) st, 0) := by
  simp only [lockLimit] at answers
  simp only [lkAcquire, answers, Bool.not_true, Bool.false_and, Bool.false_eq_true, if_false]

theorem lkRelease_answers {st : Nat} (answers : u.release (x % 8192) (u.reqThread t) (unitsOf (u.opnd t 0x341)) = (st, v)) :
    lkRelease u t x = (v.startOp t uLk (if st = stOk then v.lockResult (x % 8192) else []) st, 0) := by
  simp only [lkRelease, answers]

theorem lkCancel_of_no_wait (idle : u.queuedOn (u.reqThread t) = none) : lkCancel u t = (u.startOp t uLk [] stEmpty, 0) := by
  simp only [lkCancel, idle]

theorem lkCancel_of_wait {m : Nat} (waits : u.queuedOn (u.reqThread t) = some m) :
    lkCancel u t = (((u.leaveQueue m (u.reqThread t)).endLockWait m (u.reqThread t) stLost).startOp t uLk [] stOk, 0) := by
  simp only [lkCancel, waits]

theorem lkQuery_of_right (right : u.lockRight (x % 8192) (u.reqThread t) = true) :
    lkQuery u t x = (u.startOp t uLk [(0x342, BitVec.ofNat 32 (u.lockValue (x % 8192)))] stOk, 0) := by
  simp only [lkQuery, right, Bool.not_true, Bool.false_eq_true, if_false]

end Locks

/-- Settles O17: each clause is the branch of its operation on what the Lockgate answers. -/
theorem lockTriggersAnswerForTheirLock : Obligations.LockTriggersAnswerForTheirLock := by
  unfold Obligations.LockTriggersAnswerForTheirLock
  intro s t x u l r units lim limit
  refine ⟨fun v waits => ?acqWaits, fun st v answers => ?acq, fun v waits => ?tryWaits, fun st v answers => ?tries,
    fun st v answers => ?rel, fun idle => ?cancelEmpty, fun m waits => ?cancel, fun right => ?query⟩
  case acqWaits => exact issues_of_trigRow rfl (lkAcquire_waits waits)
  case acq => exact issues_of_trigRow rfl (lkAcquire_answers answers)
  case tryWaits => exact issues_of_trigRow rfl (lkAcquire_waits waits)
  case tries => exact issues_of_trigRow rfl (lkAcquire_tries answers)
  case rel => exact issues_of_trigRow rfl (lkRelease_answers answers)
  case cancelEmpty => exact issues_of_trigRow rfl (lkCancel_of_no_wait idle)
  case cancel => exact issues_of_trigRow rfl (lkCancel_of_wait waits)
  case query => exact issues_of_trigRow rfl (lkQuery_of_right right)

/-! ### Completions (R97 to R99, R365, R400) -/

section Completions

variable {u : State} {t x i : Nat} {sl : Slot}

/-- What wc.t.next makes of the droplet handed longest ago, or of none. -/
def wcNextAnswer (u : State) (t : Nat) : Option (Nat × Slot) → Trig
  | none => (u.wcEnd t [] stEmpty, 0)
  | some (i, sl) =>
    ((u.setSlot i { sl with fetched := true }).wcEnd t [(0x422, BitVec.ofNat 32 (u.handleOf i))] stOk, 0)

theorem wcNext_eq (u : State) (t : Nat) : wcNext u t = wcNextAnswer u t (firstHanded u (u.holderOf t)) := rfl

theorem wcNext_of_none (none_ : firstHanded u (u.holderOf t) = none) : wcNext u t = (u.wcEnd t [] stEmpty, 0) := by
  rw [wcNext_eq, none_, wcNextAnswer]

theorem wcNext_of_first (first : firstHanded u (u.holderOf t) = some (i, sl)) :
    wcNext u t =
      ((u.setSlot i { sl with fetched := true }).wcEnd t [(0x422, BitVec.ofNat 32 (u.handleOf i))] stOk, 0) := by
  rw [wcNext_eq, first, wcNextAnswer]

section Held

variable (held : u.completionOf t x = (stOk, i, sl))
include held

theorem completion_of_held (f : Droplet → Droplet) : u.completion t x f = (u.complete i sl (f sl.d)).wcEnd t [] stOk := by
  simp only [State.completion, held, if_true]

theorem wcSend_of_held (valid : u.egressOk (u.opnd t 0x420 % 65536) = true) :
    wcSend u t x =
      ((u.complete i sl { sl.d with egress := u.opnd t 0x420 % 65536, dryReason := 0 }).wcEnd t [] stOk, 0) := by
  simp only [wcSend, completion_of_held held, valid, if_true]

theorem wcDry_of_held : wcDry u t x =
    ((u.complete i sl { sl.d with dryReason := programReason (u.opnd t 0x421 % 256) }).wcEnd t [] stOk, 0) := by
  simp only [wcDry, completion_of_held held]

theorem wcRecirc_of_held (passes : sl.d.pass < 3)
    (room : u.chFill (spillKey (256 + sl.d.oclass)) < u.chCap (spillKey (256 + sl.d.oclass))) :
    let v := u.setSlot i
      { sl with d := { sl.d with pass := sl.d.pass + 1, recirc := true }, st := 3, holder := none, fetched := false,
                originated := false, sentBy := sl.holder }
    wcRecirc u t x =
      ((v.chAppend (spillKey (256 + sl.d.oclass)) (BitVec.ofNat 64 (v.handleOf i)) true).wcEnd t [] stOk, 0) := by
  have notLost : ¬stOk = stLost := by decide
  have notDouble : ¬stOk = stDouble := by decide
  simp only [wcRecirc, held, notLost, notDouble, Nat.not_le.mpr passes, Nat.not_le.mpr room, ne_eq, not_true_eq_false, if_false]

end Held

end Completions

/-! ### Origination (R401, R402) -/

section Origination

variable {u : State} {t x : Nat}

theorem sqDepth_of_queue {n : Nat} (queue : u.queueDepth (x % 65536) = some n) :
    sqDepth u t x = (u.startOp t uSq [(0x442, BitVec.ofNat 32 n)] stOk, 0) := by
  cases egress : decodeEgress (x % 65536) with
  | none => simp only [State.queueDepth, egress, reduceCtorEq] at queue
  | some target =>
    cases target with
    | port p c =>
      by_cases stands : u.portExists p = true
      · simp only [State.queueDepth, egress, stands, if_true, Option.some.injEq] at queue
        simp only [sqDepth, egress, stands, if_true, queue]
      · simp only [State.queueDepth, egress, stands, Bool.false_eq_true, if_false, reduceCtorEq] at queue
    | host p q =>
      simp only [State.queueDepth, egress, Option.some.injEq] at queue
      simp only [sqDepth, egress, queue]
    | list k => simp only [State.queueDepth, egress, reduceCtorEq] at queue
    | cp k => simp only [State.queueDepth, egress, reduceCtorEq] at queue

/-- The lengths and the body that an origination takes: 256 bytes in the head, or a buffer of the thread for the rest. -/
theorem origin_valid {l : List RefEnt} {len body pool h o : Nat} (some_ : 0 < len)
    (fits : (len ≤ 256 ∧ body = 0) ∨ (256 < len ∧ body ≠ 0 ∧ hasLive l pool h o = true ∧ len - 256 ≤ u.poolSize pool * 256)) :
    (decide (len = 0) || (decide (256 < len) && (decide (body = 0) || !hasLive l pool h o ||
      decide (u.poolSize pool * 256 < len - 256))) || (decide (len ≤ 256) && decide (body ≠ 0))) = false := by
  rcases fits with ⟨short, none_⟩ | ⟨long, body, live, room⟩
  · simp [Nat.ne_of_gt some_, Nat.not_lt.mpr short, none_]
  · simp [Nat.ne_of_gt some_, Nat.not_le.mpr long, body, live, Nat.not_lt.mpr room]

/-- Past its checks an origination is the droplet that it makes: what each step of the operation gives has a name
here, so that a use of the lemma gives the steps one by one. -/
theorem sqOrig_of_allowed {l : List RefEnt} {dom len body pool h ver cap o head : Nat} {v v1 w : State} {d : Droplet} {sl : Slot}
    {r : Nat × State} (dom_ : dom = x % 65536) (len_ : len = u.opnd t 0x440 % 2 ^ 14) (body_ : body = u.opnd t 0x441)
    (pool_ : pool = body / 2 ^ 24 % 256) (h_ : h = body % 2 ^ 24) (few : u.heldCount (u.holderOf t) < 4)
    (may : u.mayOriginate (threadBasin t) dom = true) (table : u.refTable t = (l, cap, o))
    (valid : (decide (len = 0) || (decide (256 < len) && (decide (body = 0) || !hasLive l pool h o ||
      decide (u.poolSize pool * 256 < len - 256))) || (decide (len ≤ 256) && decide (body ≠ 0))) = false)
    (given : u.allocHead (u.basinCharge (threadBasin t)) = ((stOk, head), v1))
    (admitted : u.refuses dom (u.classOfDomain dom) = none)
    (taken : v = if body = 0 then v1 else v1.setRefTable t (dropEntry l pool h o))
    (rules : ver = match v.ingressSlot with
      | some n => (v.version n).number
      | none => 0)
    (droplet : d = { oclass := u.classOfDomain dom, domain := dom, version := ver, arrival := v.net 0, inPort := inPortCp,
                     len := len, head := head, body := if body = 0 then 0 else h,
                     bodyPool := if body = 0 then 0 else pool, host := true, thread := if t < 1536 then t else 0 })
    (zeros : w = v.setHead head (List.replicate (min len 256) 0))
    (slot : sl = { d := d, st := 2, holder := some (u.holderOf t), handed := w.weir.handCtr, fetched := true, originated := true,
                   flk := List.replicate 64 0, prec := { layers := List.replicate 16 0, key := List.replicate 64 0 } })
    (made : r = (w.takeVersion ver).newSlot sl) :
    sqOrig u t x = (r.2.startOp t uSq [(0x442, BitVec.ofNat 32 (r.2.handleOf r.1))] stOk, 0) := by
  subst dom_ len_ body_ pool_ h_ taken rules droplet zeros slot made
  simp only [sqOrig, Nat.not_le.mpr few, may, table, valid, given, admitted, Bool.not_true, Bool.false_eq_true, ne_eq,
    not_true_eq_false, Option.isSome_none, if_false] <;>
  rfl

end Origination

/-- Settles O18: each clause is the branch of its operation past the checks that its hypotheses pass. -/
theorem completionAndOriginationTriggers : Obligations.CompletionAndOriginationTriggers := by
  unfold Obligations.CompletionAndOriginationTriggers
  intro s t x u me dom len body pool h
  refine ⟨fun none_ => ?nextEmpty, fun i sl first => ?next, fun i sl held valid => ?send, fun i sl held => ?dry,
    fun i sl held passes room => ?recirc, fun n queue => ?depth,
    fun l cap o head v1 few may table some_ fits given admitted => ?orig⟩
  case nextEmpty => exact issues_of_trigRow rfl (wcNext_of_none none_)
  case next => exact issues_of_trigRow rfl (wcNext_of_first first)
  case send => exact issues_of_trigRow rfl (wcSend_of_held held valid)
  case dry => exact issues_of_trigRow rfl (wcDry_of_held held)
  case recirc => exact issues_of_trigRow rfl (wcRecirc_of_held held passes room)
  case depth => exact issues_of_trigRow rfl (sqDepth_of_queue queue)
  case orig =>
    intro v ver d w sl r
    have rules : ver = match v.ingressSlot with
        | some n => (v.version n).number
        | none => 0 := by
      simp only [ver] <;> cases v.ingressSlot <;> rfl
    have op : sqOrig u t.val x.toNat = (r.2.startOp t.val uSq [(0x442, BitVec.ofNat 32 (r.2.handleOf r.1))] stOk, 0) :=
      sqOrig_of_allowed (dom := dom) (len := len) (body := body) (pool := pool) (h := h) (ver := ver) (v := v) (w := w) (d := d)
        (sl := sl) rfl rfl rfl rfl rfl few may table (origin_valid some_ fits) given admitted rfl rules rfl rfl rfl rfl
    exact issues_of_trigRow rfl op

end Sys2Proof
end

section
/-! The triggers of the sequencer (Chapter 8), of the supervisor's ports and the debug ports (Tables 9.18 and 9.19),
and of the control engines (Chapters 8, 15, 16 and 18). -/

namespace Sys2Proof

open Machine

/-! ### Jumps, calls and returns -/

section Jumps

variable {u : State} {t : Nat} {x : W32}

theorem pcJump_of_target (target : targetFault t x.toNat = 0) : pcJump u t x = (u.jumpTo t x.toNat, 0) := by
  simp only [pcJump, target, ne_eq, not_true_eq_false, if_false]

theorem pcBr_of_packet (packet : t < 1536) (low : 0 ≤ ((u.thread t).pc : Int) + signed 32 x.toNat)
    (high : ((u.thread t).pc : Int) + signed 32 x.toNat ≤ 32767) :
    pcBr u t x = (u.jumpTo t (((u.thread t).pc : Int) + signed 32 x.toNat).toNat, 0) := by
  simp only [pcBr, packet, if_true, Int.not_lt.mpr low, Int.not_lt.mpr high, decide_false, Bool.or_self, Bool.false_eq_true,
    if_false]

theorem pcBr_of_control (control : 1536 ≤ t) :
    pcBr u t x = (u.jumpTo t (unsigned 32 (((u.thread t).pc : Int) + 16 * signed 32 x.toNat)), 0) := by
  simp only [pcBr, Nat.not_lt.mpr control, if_false]

theorem pcCall_links (target : targetFault t x.toNat = 0) (link : u.linkMode t = true) :
    pcCall u t x = ((u.updThread t fun th =>
      th.setPort 0x049 (BitVec.ofNat 32 (bundleAfter t (u.thread t).pc))).jumpTo t x.toNat, 0) := by
  simp only [pcCall, target, ne_eq, not_true_eq_false, if_false, link, if_true]

/-- A return stack with room takes the return address and loses none. -/
theorem pcCall_pushes (target : targetFault t x.toNat = 0) (stack : u.linkMode t = false) (room : (u.thread t).rstack.length < 8) :
    pcCall u t x = ((u.updThread t fun th =>
      { th with rstack := bundleAfter t (u.thread t).pc :: th.rstack }).jumpTo t x.toNat, 0) := by
  have fits : (bundleAfter t (u.thread t).pc :: (u.thread t).rstack).take 8 =
      bundleAfter t (u.thread t).pc :: (u.thread t).rstack := List.take_of_length_le room
  simp only [pcCall, target, ne_eq, not_true_eq_false, if_false, stack, Bool.false_eq_true, Nat.not_le.mpr room, decide_false,
    Bool.false_and, State.updThread, fits]

theorem pcRet_links (link : u.linkMode t = true) (target : targetFault t ((u.thread t).port 0x049).toNat = 0) :
    pcRet u t = (u.jumpTo t ((u.thread t).port 0x049).toNat, 0) := by
  simp only [pcRet, link, if_true, target, ne_eq, not_true_eq_false, if_false]

theorem pcRet_pops {a : Nat} {rest : List Nat} (stack : u.linkMode t = false) (newest : (u.thread t).rstack = a :: rest) :
    pcRet u t = ((u.updThread t fun th => { th with rstack := rest }).jumpTo t a, 0) := by
  simp only [pcRet, stack, Bool.false_eq_true, if_false, newest]

end Jumps

/-! ### Halting and loops -/

section Loops

variable {u : State} {t : Nat} {x : W32}

theorem pcHalt_of_packet (packet : t < 1536) (other : t % 8 ≠ 0) (none_ : u.heldCount t = 0) : pcHalt u t = (u.park t, 0) := by
  have fault : u.haltFault t = 0 := by simp [State.haltFault, other, none_]
  simp only [pcHalt, fault, ne_eq, not_true_eq_false, if_false, packet, if_true]

theorem pcHalt_of_control (control : 1536 ≤ t) : pcHalt u t = (goesOn u t (bundleAfter t (u.thread t).pc), 0) := by
  have packet : ¬ t < 1536 := Nat.not_lt.mpr control
  have fault : u.haltFault t = 0 := by simp [State.haltFault, packet]
  simp only [pcHalt, fault, ne_eq, not_true_eq_false, if_false, packet, goesOn, State.updThread]

theorem lpBegin_of_taken (aligned : t < 1536 ∨ x.toNat % 16 = 0) (takes : u.loopRefused t x.toNat = false) :
    lpBegin u t x = (if u.opnd t 0x060 = 0 then goesOn u t (bundleAfter t x.toNat) else u.updThread t fun th => { th with
      pc := bundleAfter t (u.thread t).pc,
      loops := { start := bundleAfter t (u.thread t).pc, end_ := x.toNat, count := u.opnd t 0x060 } :: th.loops }, 0) := by
  have align : (decide (1536 ≤ t) && decide (x.toNat % 16 ≠ 0)) = false := by
    rcases aligned with packet | even
    · simp [Nat.not_le.mpr packet]
    · simp [even]
  simp only [lpBegin, align, Bool.false_eq_true, if_false, takes, goesOn]
  split <;> rfl

theorem lpBrk_of_loop {l : LoopLevel} {rest : List LoopLevel} (innermost : (u.thread t).loops = l :: rest) :
    lpBrk u t = (u.updThread t fun th => { th with pc := bundleAfter t l.end_, loops := rest }, 0) := by
  simp only [lpBrk, innermost]

end Loops

/-- Settles O22: each clause is the branch of its operation that the operand's checks leave. -/
theorem sequencingTriggersMoveTheProgramCounter : Obligations.SequencingTriggersMoveTheProgramCounter := by
  unfold Obligations.SequencingTriggersMoveTheProgramCounter
  intro s t x u th ret
  refine ⟨fun target => ?jump, fun packet low high => ?branch, fun control => ?branchControl, fun target link => ?callLink,
    fun target stack room => ?call, fun link target => ?retLink, fun a rest stack newest => ?ret,
    fun packet other none_ => ?halt, fun control => ?haltControl, fun aligned takes => ?begins,
    fun l rest innermost => ?breaks⟩
  case jump => exact issues_of_trigRow rfl (pcJump_of_target target)
  case branch => exact issues_of_trigRow rfl (pcBr_of_packet packet low high)
  case branchControl => exact issues_of_trigRow rfl (pcBr_of_control control)
  case callLink => exact issues_of_trigRow rfl (pcCall_links target link)
  case call => exact issues_of_trigRow rfl (pcCall_pushes target stack room)
  case retLink => exact issues_of_trigRow rfl (pcRet_links link target)
  case ret => exact issues_of_trigRow rfl (pcRet_pops stack newest)
  case halt => exact issues_of_trigRow rfl (pcHalt_of_packet packet other none_)
  case haltControl => exact issues_of_trigRow rfl (pcHalt_of_control control)
  case begins => exact issues_of_trigRow rfl (lpBegin_of_taken aligned takes)
  case breaks => exact issues_of_trigRow rfl (lpBrk_of_loop innermost)

/-! ### The supervisor's ports and the debug ports -/

section Supervisor

variable {u : State} {t x : Nat}

theorem svGetreg_of_stopped (open_ : openReg x = true) (stopped : u.svStopped (u.svTarget t) = true) :
    svGetreg u t x = (u.startOp t uSv [(0x4E2, (u.thread (u.svTarget t)).port x)] stOk, 0) := by
  simp only [svGetreg, open_, stopped, Bool.not_true, Bool.false_eq_true, if_false]

theorem svSetreg_of_stopped (open_ : openReg x = true) (stopped : u.svStopped (u.svTarget t) = true) :
    svSetreg u t x = ((u.updThread (u.svTarget t) fun th => th.setReg x ((u.thread t).port 0x4E1)).startOp t uSv [] stOk, 0) := by
  simp only [svSetreg, open_, stopped, Bool.not_true, Bool.false_eq_true, if_false]

theorem svHeld_of_droplet {i : Nat} {sl : Slot} (held : (u.heldSlots (u.svTarget t))[x % 4]? = some (i, sl)) :
    svHeld u t x = (u.startOp t uSv [(0x4E2, BitVec.ofNat 32 (u.handleOf i))] stOk, 0) := by
  simp only [svHeld, held]

theorem svResume_of_faulted (faulted : (u.thread (u.svTarget t)).state = 3) :
    svResume u t x = ((u.updThread (u.svTarget t) fun th =>
      { th with state := 0, pc := x % 2 ^ 15, acked := true }).startOp t uSv [] stOk, 0) := by
  simp only [svResume, faulted, ne_eq, not_true_eq_false, if_false]

theorem svPark_of_other (other : u.svTarget t % 8 ≠ 0) (runs : (u.thread (u.svTarget t)).state ≠ 5) :
    svPark u t = ((u.park (u.svTarget t)).startOp t uSv [] stOk, 0) := by
  simp only [svPark, other, runs, if_false]

theorem svAck_of_fault (other : u.svTarget t % 8 ≠ 0) (waits : (u.thread (u.svTarget t)).acked = false) :
    svAck u t = ((u.updThread (u.svTarget t) fun th => { th with acked := true }).startOp t uSv [] stOk, 0) := by
  simp only [svAck, other, waits, Bool.false_eq_true, if_false]

theorem dbgBrk_of_open (packet : t < 1536) (opens : u.debugOpen 0 = true) :
    dbgBrk u t = ((u.startOp t uDbg [] stOk).haltThread t, 0) := by
  simp only [dbgBrk, Nat.not_le.mpr packet, opens, decide_false, Bool.not_true, Bool.or_self, Bool.false_eq_true, if_false]

/-- A mark that does not ask for the record's trigger, or finds nothing that is recorded, only enters the log. -/
theorem dbgMark_of_no_trigger (packet : t < 1536) (none_ : (u.recording && u.holdsRecorded t && bitOf x 31) = false) :
    dbgMark u t x = ((u.logDecision t 8 0 0 x).startOp t uDbg [] stOk, 0) := by
  simp only [dbgMark, packet, decide_true, Bool.true_and, none_, Bool.false_and, Bool.false_eq_true, if_false, if_true]

end Supervisor

/-- Settles O23: each clause is the branch of its operation on the target that sv.thr names. -/
theorem supervisorAndDebugTriggersActOnTheirTarget : Obligations.SupervisorAndDebugTriggersActOnTheirTarget := by
  unfold Obligations.SupervisorAndDebugTriggersActOnTheirTarget
  intro s t x u g th
  refine ⟨issues_of_trigRow rfl rfl, fun open_ stopped => ?getreg, fun open_ stopped => ?setreg, fun i sl held => ?held,
    fun faulted => ?resume, fun other runs => ?park, fun other waits => ?ack, issues_of_trigRow rfl rfl,
    fun packet opens => ?brk, fun packet none_ => ?mark⟩
  case getreg => exact issues_of_trigRow rfl (svGetreg_of_stopped open_ stopped)
  case setreg => exact issues_of_trigRow rfl (svSetreg_of_stopped open_ stopped)
  case held => exact issues_of_trigRow rfl (svHeld_of_droplet held)
  case resume => exact issues_of_trigRow rfl (svResume_of_faulted faulted)
  case park => exact issues_of_trigRow rfl (svPark_of_other other runs)
  case ack => exact issues_of_trigRow rfl (svAck_of_fault other waits)
  case brk => exact issues_of_trigRow rfl (dbgBrk_of_open packet opens)
  case mark => exact issues_of_trigRow rfl (dbgMark_of_no_trigger packet none_)

/-! ### The Pump's descriptors -/

section Pump

variable {u : State} {c x : Nat}

theorem cxEret_of_aligned {x : W32} (aligned : x.toNat % 16 = 0) :
    cxEret u c x = (u.updThread (1536 + c) fun th => { th with pc := x.toNat, user := true, nest := false }, 0) := by
  simp only [cxEret, aligned, ne_eq, not_true_eq_false, if_false]

theorem pmpWait_of_flags (mask : x % 65536 ≠ 0) (flags : (u.desc (u.ce c).desc).flags &&& (x % 65536) ≠ 0) :
    let d := (u.ce c).desc
    let got := (u.desc d).flags &&& (x % 65536)
    pmpWait u c x = ((u.setDesc d { u.desc d with flags := (u.desc d).flags - got }).startOp (1536 + c) uPmp
      [(0x626, BitVec.ofNat 32 got)] stOk, 0) := by
  simp only [pmpWait, mask, flags, ne_eq, not_false_eq_true, if_false, if_true]

theorem pmpWait_blocks (mask : x % 65536 ≠ 0) (none_ : (u.desc (u.ce c).desc).flags &&& (x % 65536) = 0) :
    pmpWait u c x = ((u.putOp (1536 + c) uPmp { wait := 7, arg := x % 65536 }).blockCe c 1 (x % 65536), 0) := by
  simp only [pmpWait, mask, none_, ne_eq, not_true_eq_false, if_false]

theorem pmpPost_of_desc (desc : isDesc x = true) :
    pmpPost u c x = ((u.post x (u.opnd (1536 + c) 0x623 % 65536)).startOp (1536 + c) uPmp [] stOk, 0) := by
  simp only [pmpPost, desc, Bool.not_true, Bool.false_eq_true, if_false]

theorem pmpDwr_of_write {v : State}
    (writes : u.descWrite (u.opnd (1536 + c) 0x620 % 4096) (x % 4) (u.opnd (1536 + c) 0x621) = some v) :
    pmpDwr u c x = (v.startOp (1536 + c) uPmp [] stOk, 0) := by
  simp only [pmpDwr, writes]

theorem pmpStart_of_free (desc : isDesc x = true) (free : (u.desc x).state = 0) :
    pmpStart u c x = ((u.startDesc x).startOp (1536 + c) uPmp [] stOk, 0) := by
  simp only [pmpStart, desc, free, Bool.not_true, Bool.false_eq_true, ne_eq, not_true_eq_false, if_false]

theorem pmpDel_of_other (desc : isDesc x = true) (other : x ≠ (u.ce c).desc) (stopped : (u.desc x).state ≠ 2) :
    pmpDel u c x = ((u.freeDesc x).startOp (1536 + c) uPmp [] stOk, 0) := by
  simp only [pmpDel, desc, other, stopped, Bool.not_true, Bool.false_eq_true, if_false]

theorem pmpDel_of_self (desc : isDesc x = true) (self : x = (u.ce c).desc) :
    pmpDel u c x = ((((u.setThread (1536 + c) {}).setCe c { u.ce c with state := 0 }).freeDesc x).select c, 0) := by
  simp only [pmpDel, desc, Bool.not_true, Bool.false_eq_true, if_false, if_pos self]

theorem pmpSend_of_room (thread : x % 2048 ≤ 1535) (takes : u.thrMsg (x % 2048) = true)
    (room : (u.thread (x % 2048)).msgs.length < 4) :
    let m : W64 := BitVec.ofNat 64 (u.opnd (1536 + c) 0x624 + u.opnd (1536 + c) 0x625 * 2 ^ 32)
    pmpSend u c x = ((((u.updThread (x % 2048) fun th => { th with msgs := th.msgs ++ [m] }).setEvent (x % 2048) evMsg).stillCheck
      (engOf (x % 2048))).startOp (1536 + c) uPmp [] stOk, 0) := by
  simp only [pmpSend, Nat.not_lt.mpr thread, takes, Nat.not_le.mpr room, Bool.not_true, Bool.false_eq_true, if_false]

theorem lkpForce_of_lock (lock : x < 8192) :
    lkpForce u c x = ((u.forceLock x).2.startOp (1536 + c) uLkp [] (u.forceLock x).1, 0) := by
  simp only [lkpForce, Nat.not_le.mpr lock, if_false]

theorem lkpSetcount_of_lock (lock : x < 8192) :
    lkpSetcount u c x = ((u.setCount x (u.opnd (1536 + c) 0x660)).2.startOp (1536 + c) uLkp []
      (u.setCount x (u.opnd (1536 + c) 0x660)).1, 0) := by
  simp only [lkpSetcount, Nat.not_le.mpr lock, if_false]

end Pump

/-! ### The edge's ports -/

section Edge

variable {u : State} {c x : Nat}

theorem edgTx_of_port {v : State} {r : List RefEnt × Nat × Nat} {b pool n port : Nat} {bytes : List Byte}
    (b_ : b = u.opnd (1536 + c) 0x640) (pool_ : pool = b / 2 ^ 24 % 256) (n_ : n = u.opnd (1536 + c) 0x641 % 2 ^ 14)
    (port_ : port = x % 256) (bytes_ : bytes = u.bufBytes pool (b % 2 ^ 24) n) (table : u.refTable (1536 + c) = r)
    (live : hasLive r.1 pool (b % 2 ^ 24) r.2.2 = true) (low : 32 ≤ port) (high : port < 48) (holds : n ≤ u.poolSize pool * 256)
    (short : 60 ≤ n) (long : n ≤ u.maxFrame port) (up : u.edg.phy.contains port = true) (room : u.txRoom port ≠ 0)
    (gives : v = u.setRefTable (1536 + c) (dropEntry r.1 pool (b % 2 ^ 24) r.2.2)) :
    edgTx u c x = ((v.setTxQueue port (v.txQueue port ++ [
      { pool := pool, handle := b % 2 ^ 24, len := n, id := beNat (bytes.take 4) % 2 ^ 29, bytes := bytes }])).startOp (1536 + c)
        uEdg [] stOk, 0) := by
  subst b_ pool_ n_ port_ bytes_ gives
  obtain ⟨l, cap, o⟩ := r
  simp only at live
  simp only [edgTx, table, live, high, up, room, short, long, Nat.not_lt.mpr low, Nat.not_lt.mpr holds,
    Nat.not_le.mpr (Nat.lt_trans high (by decide : 48 < 64)), if_true, decide_true, decide_false, Bool.and_self, Bool.not_true,
    Bool.or_self, Bool.false_eq_true, if_false]

theorem edgRoom_of_target (low : 32 ≤ x % 256) (high : x % 256 < 64) :
    edgRoom u c x = (u.startOp (1536 + c) uEdg [(0x642, BitVec.ofNat 32 (u.txRoom (x % 256)))] stOk, 0) := by
  simp only [edgRoom, Nat.not_lt.mpr low, Nat.not_le.mpr high, decide_false, Bool.or_self, Bool.false_eq_true, if_false]

theorem edgTs_of_stamp {v : Nat} {vs : List Nat} (oldest : u.edg.stamps = v :: vs) :
    edgTs u c = (({ u with edg := { u.edg with stamps := vs } }).startOp (1536 + c) uEdg
      [(0x642, BitVec.ofNat 32 v), (0x643, BitVec.ofNat 32 (v / 2 ^ 32))] stOk, 0) := by
  simp only [edgTs, oldest]

end Edge

/-- Settles O24: each clause is the branch of its operation past the checks that its hypotheses pass. -/
theorem controlEngineTriggersActForTheirThread : Obligations.ControlEngineTriggersActForTheirThread := by
  unfold Obligations.ControlEngineTriggersActForTheirThread
  intro s c x t u d got
  refine ⟨fun aligned => ?eret, issues_of_trigRow rfl rfl, issues_of_trigRow rfl rfl, fun mask flags => ?wait,
    fun mask none_ => ?blocks, fun desc => ?post, issues_of_trigRow rfl rfl, fun v writes => ?dwr, issues_of_trigRow rfl rfl,
    fun desc free => ?start, fun desc other stopped => ?del, fun desc self => ?delSelf, ?send,
    fun lock => ?force, fun lock => ?setcount, ?tx, fun low high => ?room,
    fun v vs oldest => ?ts⟩
  case eret => exact issues_of_trigRow rfl (cxEret_of_aligned aligned)
  case wait => exact issues_of_trigRow rfl (pmpWait_of_flags mask flags)
  case blocks => exact issues_of_trigRow rfl (pmpWait_blocks mask none_)
  case post => exact issues_of_trigRow rfl (pmpPost_of_desc desc)
  case dwr => exact issues_of_trigRow rfl (pmpDwr_of_write writes)
  case start => exact issues_of_trigRow rfl (pmpStart_of_free desc free)
  case del => exact issues_of_trigRow rfl (pmpDel_of_other desc other stopped)
  case delSelf => exact issues_of_trigRow rfl (pmpDel_of_self desc self)
  case send =>
    intro n m thread takes room
    exact issues_of_trigRow rfl (pmpSend_of_room thread takes room)
  case force => exact issues_of_trigRow rfl (lkpForce_of_lock lock)
  case setcount => exact issues_of_trigRow rfl (lkpSetcount_of_lock lock)
  case tx =>
    intro b pool n port bytes live low high holds short long up room v
    exact issues_of_trigRow rfl (edgTx_of_port (u := u) (c := c.val) (x := x.toNat) (v := v) (b := b) (pool := pool) (n := n)
      (port := port) (bytes := bytes) rfl rfl rfl rfl rfl rfl live low high holds short long up room rfl)
  case room => exact issues_of_trigRow rfl (edgRoom_of_target low high)
  case ts => exact issues_of_trigRow rfl (edgTs_of_stamp (u := u) (c := c.val) oldest)

end Sys2Proof
end

section
/-! The commands of the supplies, the pins and the boot (Chapters 1, 19, 21 and 25) and of the islands' clocks and
crossings (Chapter 19). -/

namespace Sys2Proof

open Machine

/-! ### From the operation to the row -/

/-- A row that answers a next state runs to what its operation is equal to. -/
theorem runs_of_row {s u t : State} {c : Instr} (row : exec c s = .next u) (op : u = t) : Runs s c t :=
  row.trans (congrArg _ op)

/-- A row of a host's command is served with what its operation makes of the woken state. -/
theorem served_of_hostCmd {s t : State} {p page : Nat} {c : Instr} {f : State → State}
    (row : exec c s = .next (s.hostCmd p page f)) (op : MayWrite s p page → f (s.woken p) = t) : Served s p page c t :=
  fun may => runs_of_row row ((hostCmd_runs may).trans (op may))

/-- A page is reached by a host's write that may issue, and by the control plane under an image. -/
theorem reach_of_mayWrite {s : State} {p page : Nat} (may : MayWrite s p page)
    (control : 4 ≤ p → (s.woken p).imageRuns = true) :
    (if p < 4 then (s.woken p).pageOk p page else (s.woken p).imageRuns) = true := by
  split
  case isTrue host => exact may.page host
  case isFalse other => exact control (Nat.not_lt.mp other)

/-! ### Supplies and pins -/

section Supplies

variable {s : State} {now : Nat}

theorem railsOkRise_of_waiting (enabled : (s.upTo now).boot.coreEn = true) (low : (s.upTo now).boot.railsOk = false) :
    railsOkRise s now =
      { s.upTo now with boot := { (s.upTo now).boot with railsOk := true, railsAt := (s.upTo now).wall } } := by
  simp only [railsOkRise, enabled, low, Bool.not_false, Bool.and_self, if_true]

theorem railsOkTimeout_of_late (enabled : (s.upTo now).boot.coreEn = true) (low : (s.upTo now).boot.railsOk = false)
    (late : (s.upTo now).boot.coreAt + 50000000 ≤ (s.upTo now).wall) :
    railsOkTimeout s now = { s.upTo now with boot := { (s.upTo now).boot with
      coreEn := false, retryAt := some ((s.upTo now).wall + 1000000000) } }.emit (.pin 9 false) := by
  simp only [railsOkTimeout, enabled, low, late, Bool.not_false, Bool.and_self, decide_true, if_true]

theorem coreEnRetry_of_due {t : Nat} (retries : (s.upTo now).boot.retryAt = some t) (due : t ≤ (s.upTo now).wall) :
    coreEnRetry s now = { s.upTo now with boot := { (s.upTo now).boot with
      coreEn := true, coreAt := (s.upTo now).wall, retryAt := none } }.emit (.pin 9 true) := by
  simp only [coreEnRetry, retries, due, if_true]

theorem railsOkFall_of_running (enabled : (s.upTo now).boot.coreEn = true) (high : (s.upTo now).boot.railsOk = true) :
    railsOkFall s now =
      { s.upTo now with boot := { (s.upTo now).boot with railsOk := false } }.deviceReset 1 0 (s.upTo now).inflight := by
  simp only [railsOkFall, enabled, high, Bool.and_self, if_true]

theorem railOutOfRange_of_new {monitor : Nat} (supplied : (s.upTo now).boot.brownout = false)
    (new : (s.upTo now).boot.voltBad.contains monitor = false) :
    railOutOfRange s now monitor =
      { s.upTo now with boot := { (s.upTo now).boot with voltBad := monitor :: (s.upTo now).boot.voltBad } }.deviceReset 1
        (flagBit (s.upTo now).boot.railsOk + (monitor + 1) * 256) (s.upTo now).inflight := by
  simp only [railOutOfRange, supplied, new, Bool.false_eq_true, if_false]

theorem resetNAssert_of_supplied (supplied : (s.upTo now).boot.brownout = false) :
    resetNAssert s now = { s.upTo now with boot := { (s.upTo now).boot with resetLow := true } }.deviceReset 1
      (flagBit (s.upTo now).boot.railsOk) (s.upTo now).inflight := by
  simp only [resetNAssert, supplied, Bool.false_eq_true, if_false]

end Supplies

/-! ### The verdict on the images -/

section Verdict

variable {s v w : State} {now n : Nat} {bist : List (Nat × BitVec 17 × Bool × BitVec 2)} {slices : List (Fin 36)}
  {repairs : List (Nat × BitVec 16 × W32 × W32)} {scans : List (Nat × List (BitVec 64))}

theorem imageVerdict_of_no_slot (released : (s.upTo now).boot.held = false) (stage : (s.upTo now).boot.stage = 1)
    (none_ : (s.upTo now).showKeys.showDeviceId.applyMap.findSlot = (none, v)) (partTest : v.boot.fullTest = false) :
    imageVerdict s now bist slices repairs scans = v.startBridge := by
  simp only [imageVerdict, released, stage, none_, partTest, ne_eq, not_true_eq_false, decide_false, Bool.or_self,
    Bool.false_eq_true, if_false]

theorem imageVerdict_of_slot (released : (s.upTo now).boot.held = false) (stage : (s.upTo now).boot.stage = 1)
    (slot : (s.upTo now).showKeys.showDeviceId.applyMap.findSlot = (some n, v))
    (tested : ({ v with img := v.slotImage n } : State).selfTest bist slices repairs scans = (false, w)) :
    imageVerdict s now bist slices repairs scans = w.activate n := by
  simp only [imageVerdict, released, stage, slot, tested, ne_eq, not_true_eq_false, decide_false, Bool.or_self,
    Bool.false_eq_true, if_false]

end Verdict

/-- Settles O25: the release is `resetRelease_runs`; every other clause is the branch of its operation. -/
theorem suppliesPinsAndBootStartAndEndTheReset : Obligations.SuppliesPinsAndBootStartAndEndTheReset := by
  unfold Obligations.SuppliesPinsAndBootStartAndEndTheReset
  intro s now monitor q2 q3 bist slices repairs scans u v
  refine ⟨rfl, fun enabled low => ?rise, fun enabled low late => ?timeout, fun t retries due => ?retry,
    fun enabled high => ?fall, fun supplied new => ?rail, rfl, fun supplied => ?pin, fun release rom live => ?release,
    fun v released stage none_ partTest => ?bridge, fun n v w released stage slot tested => ?image⟩
  case rise => exact runs_of_row rfl (railsOkRise_of_waiting enabled low)
  case timeout => exact runs_of_row rfl (railsOkTimeout_of_late enabled low late)
  case retry => exact runs_of_row rfl (coreEnRetry_of_due retries due)
  case fall => exact runs_of_row rfl (railsOkFall_of_running enabled high)
  case rail => exact runs_of_row rfl (railOutOfRange_of_new supplied new)
  case pin => exact runs_of_row rfl (resetNAssert_of_supplied supplied)
  case release => exact ⟨_, rfl, resetRelease_runs s now q2.val q3.val release rom live⟩
  case bridge => exact runs_of_row rfl (imageVerdict_of_no_slot released stage none_ partTest)
  case image => exact runs_of_row rfl (imageVerdict_of_slot released stage slot tested)

/-! ### Clocks and crossings -/

section Islands

variable {s : State} {i c : Nat}

theorem xngIslReset_of_sup {p isl : Nat} (page : s.pageOk p 16 = true) (sup : s.isSup p = true) :
    xngIslReset s p isl = s.islCmd isl := by
  simp only [xngIslReset, page, sup, Bool.not_true, Bool.or_self, Bool.false_eq_true, if_false]

/-- The crossings of an island open again with empty counts. -/
theorem islandLeaveReset_of_selected (released : s.boot.held = false) (inReset : s.islandInReset i = true)
    (selected : s.islandSelected i = true) :
    islandLeaveReset s i = (((List.range 64).filter fun c => (crossingKind i c).isSome).foldl
      (fun s c => s.setCrossing i c { s.crossing i c with pending := 0, open_ := false }) (s.setInReset i false)).eventSup
        Reg.XNG_INT_STATUS_ISL_RESET_DONE Reg.XNG_INT_EN_ISL_RESET_DONE := by
  simp only [islandLeaveReset, released, inReset, selected, Bool.not_true, Bool.or_self, Bool.false_eq_true, if_false]

theorem clockStop_of_running (exists_ : i < 11) (runs : s.clockOk i = true) :
    clockStop s i = (s.wr Reg.XNG_STATUS_CLK_OK (setBits (s.rd Reg.XNG_STATUS_CLK_OK) i 1 0)).eventSup
      Reg.XNG_INT_STATUS_CLK_STOP Reg.XNG_INT_EN_CLK_STOP := by
  simp only [clockStop, exists_, runs, decide_true, Bool.and_self, if_true]

/-- The clock of an island without a PCIe link releases no link as it returns. -/
theorem clockReturn_of_no_link (exists_ : i < 11) (stopped : s.clockOk i = false) (noLink : i < 4 ∨ 8 ≤ i) :
    clockReturn s i = (s.wr Reg.XNG_STATUS_CLK_OK (setBits (s.rd Reg.XNG_STATUS_CLK_OK) i 1 1)).eventSup
      Reg.XNG_INT_STATUS_CLK_BACK Reg.XNG_INT_EN_CLK_BACK := by
  have link : (decide (4 ≤ i) && decide (i < 8)) = false := by
    rcases noLink with low | high
    · rw [decide_eq_false (Nat.not_le.mpr low), Bool.false_and]
    · rw [decide_eq_false (Nat.not_lt.mpr high), Bool.and_false]
  simp only [clockReturn, exists_, stopped, link, decide_true, Bool.not_false, Bool.and_self, if_true, Bool.false_and,
    Bool.false_eq_true, if_false]

variable (counted : crossingKind i c = some 0) (open_ : (s.crossing i c).open_ = true)

include counted in
theorem countedPulse_opens (sides : s.sideInReset i = false) (closed : (s.crossing i c).open_ = false) :
    countedPulse s i c =
      s.setCrossing i c { s.crossing i c with open_ := true, received := (s.crossing i c).received + 1 } := by
  simp only [countedPulse, counted, sides, closed, ne_eq, not_true_eq_false, decide_false, Bool.or_self, Bool.false_eq_true,
    if_false, Bool.not_false, if_true]

include counted open_ in
theorem countedPulse_counts (sides : s.sideInReset i = false) (room : (s.crossing i c).pending < 65535) :
    countedPulse s i c = s.setCrossing i c { s.crossing i c with pending := (s.crossing i c).pending + 1 } := by
  simp only [countedPulse, counted, sides, open_, room, ne_eq, not_true_eq_false, decide_false, Bool.or_self,
    Bool.false_eq_true, if_false, Bool.not_true, if_true]

include counted open_ in
theorem countedPulse_saturates (sides : s.sideInReset i = false) (full : 65535 ≤ (s.crossing i c).pending) :
    countedPulse s i c = (s.setCrossing i c { s.crossing i c with sat := true }).eventSup
      Reg.XNG_INT_STATUS_SAT Reg.XNG_INT_EN_SAT := by
  simp only [countedPulse, counted, sides, open_, Nat.not_lt.mpr full, ne_eq, not_true_eq_false, decide_false, Bool.or_self,
    Bool.false_eq_true, if_false, Bool.not_true]

theorem coalescedPulse_of_open (coalesced : crossingKind i c = some 1) (sides : s.sideInReset i = false) :
    coalescedPulse s i c = s.setCrossing i c { s.crossing i c with pending := 1, open_ := true } := by
  simp only [coalescedPulse, coalesced, sides, ne_eq, not_true_eq_false, decide_false, Bool.or_self, Bool.false_eq_true,
    if_false]

include counted open_ in
theorem crossingAck_of_counted : crossingAck s i c = s.setCrossing i c
    (if (s.crossing i c).pending = 0 then { s.crossing i c with open_ := false }
      else { s.crossing i c with pending := 0, received := (s.crossing i c).received + (s.crossing i c).pending }) := by
  simp only [crossingAck, counted, open_, Bool.not_true, Bool.false_eq_true, if_false]
  split <;> rfl

include open_ in
theorem crossingAck_of_coalesced (coalesced : crossingKind i c = some 1) : crossingAck s i c = s.setCrossing i c
    { s.crossing i c with pending := 0, open_ := false, received := (s.crossing i c).received + 1 } := by
  simp only [crossingAck, coalesced, open_, Bool.not_true, Bool.false_eq_true, if_false]

end Islands

/-- Settles O26: each clause is the branch of its operation on the island's or the crossing's state. -/
theorem clocksAndCrossingsOfTheIslands : Obligations.ClocksAndCrossingsOfTheIslands := by
  unfold Obligations.ClocksAndCrossingsOfTheIslands
  intro s p isl i j ch v c
  refine ⟨fun sup => served_of_hostCmd rfl fun may => ?isl, fun released inReset selected => ?leave, fun runs => ?stop,
    fun stopped noLink => ?back, fun counted sides closed => ?opens, fun counted sides open_ room => ?counts,
    fun counted sides open_ full => ?saturates, fun coalesced sides => ?coalesced, fun counted open_ => ?ack,
    fun coalesced open_ => ?ackCoalesced⟩
  case isl => exact xngIslReset_of_sup may.pageAt sup
  case leave => exact runs_of_row rfl (islandLeaveReset_of_selected released inReset selected)
  case stop => exact runs_of_row rfl (clockStop_of_running j.isLt runs)
  case back => exact runs_of_row rfl (clockReturn_of_no_link j.isLt stopped noLink)
  case opens => exact runs_of_row rfl (countedPulse_opens counted sides closed)
  case counts => exact runs_of_row rfl (countedPulse_counts counted open_ sides room)
  case saturates => exact runs_of_row rfl (countedPulse_saturates counted open_ sides full)
  case coalesced => exact runs_of_row rfl (coalescedPulse_of_open coalesced sides)
  case ack => exact runs_of_row rfl (crossingAck_of_counted counted open_)
  case ackCoalesced => exact runs_of_row rfl (crossingAck_of_coalesced open_ coalesced)

end Sys2Proof
end

section
/-! The commands of the ports, the lanes and the slices (Chapters 3, 14 and 18). -/

namespace Sys2Proof

open Machine

/-! ### Links -/

section Links

variable {s u : State} {now src speed fec : Nat}

/-- Port src of state u with its lanes trained and its speed set: the state in which a link that comes up is seen. -/
def portSped (u : State) (src speed fec : Nat) : State :=
  let w := (u.setPhy src true).setLanes src 2
  let x := if w.bridgeRuns then
      w.setAll [(Reg.EDG_PORT_MODE, src, 0, (bridgeMode speed fec).1), (Reg.EDG_PORT_FEC, src, 0, (bridgeMode speed fec).2)]
    else if w.imageRuns then w else w.setFld Reg.EDG_PORT_FEC src 0 fec
  x.setFld Reg.SLU_PORT_SPEED src 0 speed

theorem linkUp_of_down (released : (s.upTo now).boot.held = false) (down : (s.upTo now).edg.phy.contains src = false)
    (island : src < 32 → (s.upTo now).islandInReset (src / 8) = false)
    (tries : src < 32 → (s.upTo now).bridgeRuns = true → ((s.upTo now).bridgeSpeeds src).contains speed = true) :
    linkUp s now src speed fec = (s.upTo now).linkComesUp src speed fec := by
  have reset : (decide (src < 32) && (s.upTo now).islandInReset (src / 8)) = false := by
    by_cases port : src < 32
    · rw [island port, Bool.and_false]
    · rw [decide_eq_false port, Bool.false_and]
  have speed_ : (decide (src < 32) && (s.upTo now).bridgeRuns && !((s.upTo now).bridgeSpeeds src).contains speed) = false := by
    by_cases port : src < 32
    · cases bridge : (s.upTo now).bridgeRuns
      · rw [Bool.and_false, Bool.false_and]
      · rw [tries port bridge, Bool.not_true, Bool.and_false]
    · rw [decide_eq_false port, Bool.false_and, Bool.false_and]
  simp only [linkUp, released, down, reset, speed_, Bool.or_self, Bool.false_eq_true, if_false]

/-- Under the fallback bridge a link at a speed that its port does not try stays down. -/
theorem linkUp_of_other_speed (port : src < 32) (bridge : (s.upTo now).bridgeRuns = true)
    (other : ((s.upTo now).bridgeSpeeds src).contains speed = false) : linkUp s now src speed fec = s.upTo now := by
  simp only [linkUp, port, bridge, other, decide_true, Bool.not_false, Bool.and_self, Bool.or_true, if_true]

/-- What follows the speed of a port that comes up. -/
theorem linkComesUp_of_port (port : src < 32) : u.linkComesUp src speed fec =
    (let v := portSped u src speed fec
     let y := v.startVerify src
     let r := if y.isPlug src then y.plugBack src else (true, y)
     let z : State := { r.2 with hst := { r.2.hst with eoeDown := r.2.hst.eoeDown.filter fun e => r.2.bindOf e.1 != 16 + src } }
     if v.bridgeRuns then ((v.setLink src true).bridgeLinkChange src).linkChange
     else if !v.imageRuns || !v.portExists src then v
     else (if r.1 && !(z.macsec src).exhausted then z.setLink src true else z).linkChange) := by
  simp only [State.linkComesUp, port, if_true]
  rfl

theorem linkComesUp_of_bridge (port : src < 32) (bridge : (portSped u src speed fec).bridgeRuns = true) :
    u.linkComesUp src speed fec = (((portSped u src speed fec).setLink src true).bridgeLinkChange src).linkChange := by
  simp only [linkComesUp_of_port port, bridge, if_true]

theorem linkComesUp_of_image {y z : State} (port : src < 32) (sped : y = (portSped u src speed fec).startVerify src)
    (bridge : (portSped u src speed fec).bridgeRuns = false) (image : (portSped u src speed fec).imageRuns = true)
    (exists_ : (portSped u src speed fec).portExists src = true) (fixed : y.isPlug src = false)
    (hosts : z = { y with hst := { y.hst with eoeDown := y.hst.eoeDown.filter fun e => y.bindOf e.1 != 16 + src } }) :
    u.linkComesUp src speed fec = (if (z.macsec src).exhausted then z else z.setLink src true).linkChange := by
  subst sped
  simp only [linkComesUp_of_port port, bridge, image, exists_, fixed, Bool.not_true, Bool.or_self, Bool.false_eq_true,
    if_false, Bool.true_and, ← hosts]
  cases (z.macsec src).exhausted <;> rfl

theorem linkComesUp_of_segment {g : Nat} : u.linkComesUp (32 + g) speed fec =
    (let w := (u.setPhy (32 + g) true).setFld Reg.EDG_T1S_LINK g 0 1
     let x := if w.bridgeRuns then w.bridgeLinkChange (32 + g) else w
     (if x.isPlug (32 + g) then (x.plugBack (32 + g)).2 else x).linkChange) := by
  simp only [State.linkComesUp, Nat.not_lt.mpr (Nat.le_add_right 32 g), if_false, Nat.add_sub_cancel_left]

theorem portLinkDown_of_bridge {v : State} (cause : Nat) (port : src < 32) (up : (s.upTo now).edg.phy.contains src = true)
    (down : v = (((s.upTo now).setPhy src false).setLanes src 0).setFld Reg.EDG_PORT_CAUSE src 0 cause)
    (bridge : v.bridgeRuns = true) :
    portLinkDown s now src cause = ((v.setLink src false).bridgeLinkChange src).linkChange := by
  subst down
  simp only [portLinkDown, up, port, bridge, Bool.not_true, Bool.false_eq_true, if_false, if_true]

theorem portLinkDown_of_image {v : State} (cause : Nat) (port : src < 32) (up : (s.upTo now).edg.phy.contains src = true)
    (down : v = (((s.upTo now).setPhy src false).setLanes src 0).setFld Reg.EDG_PORT_CAUSE src 0 cause)
    (bridge : v.bridgeRuns = false) (image : v.imageRuns = true) :
    portLinkDown s now src cause = if (v.eoePortDown src).isPlug src then ((v.eoePortDown src).plugLost src 4).linkChange
      else (((v.eoePortDown src).setLink src false).portLinkLost src).linkChange := by
  subst down
  simp only [portLinkDown, up, port, bridge, image, Bool.not_true, Bool.false_eq_true, if_false, if_true]

theorem portLinkDown_of_segment {g : Nat} (cause : Nat) (up : (s.upTo now).edg.phy.contains (32 + g) = true) :
    portLinkDown s now (32 + g) cause =
    (let v := ((s.upTo now).setPhy (32 + g) false).setFld Reg.EDG_T1S_LINK g 0 0
     let x := if v.bridgeRuns then v.bridgeLinkChange (32 + g) else v
     (if x.isPlug (32 + g) then x.plugLost (32 + g) 4 else x).linkChange) := by
  simp only [portLinkDown, up, Nat.not_lt.mpr (Nat.le_add_right 32 g), Bool.not_true, Bool.false_eq_true, if_false,
    Nat.add_sub_cancel_left]

end Links

/-! ### Ports -/

section Ports

variable {s : State} {p pn : Nat}

theorem autoNegTimeout_of_bridge_port (bridge : s.bridgeRuns = true) (port : s.isBridgePort p = true)
    (down : s.edg.phy.contains p = false) :
    autoNegTimeout s p = { s with edg := { s.edg with parallel := insertRising p s.edg.parallel } } := by
  simp only [autoNegTimeout, bridge, port, down, Bool.not_false, Bool.and_self, if_true]

theorem preemptVerifyTimeout_of_verifying (verifies : s.fld Reg.EDG_PORT_VERIFY p 0 = 1) : preemptVerifyTimeout s p =
    (let n := SMap.get s.edg.verifyTries p 0 + 1
     let v : State := { s with edg := { s.edg with verifyTries := SMap.set s.edg.verifyTries p n } }
     if n < 3 then v
     else (v.setFld Reg.EDG_PORT_VERIFY p 0 3).eventSup Reg.EDG_INT_STATUS_VERIFY_FAIL Reg.EDG_INT_EN_VERIFY_FAIL) := by
  simp only [preemptVerifyTimeout, verifies, ne_eq, not_true_eq_false, if_false]

theorem macsecSaInstall_of_receive (xpn : Bool) (image : s.imageRuns = true) : macsecSaInstall s p true xpn pn =
    { s with edg := { s.edg with macsec := SMap.set s.edg.macsec p { s.macsec p with rxNext := pn } } } := by
  simp only [macsecSaInstall, image, Bool.not_true, Bool.false_eq_true, if_false, if_true]

/-- State s with a new transmit association of port p. -/
def withTxSa (s : State) (p : Nat) (xpn : Bool) (pn : Nat) : State :=
  { s with edg := { s.edg with
    macsec := SMap.set s.edg.macsec p { s.macsec p with installed := true, xpn := xpn, pn := pn, exhausted := false } } }

theorem macsecSaInstall_of_transmit {xpn : Bool} (image : s.imageRuns = true)
    (same : ((s.macsec p).exhausted && (withTxSa s p xpn pn).edg.phy.contains p) = false) :
    macsecSaInstall s p false xpn pn = withTxSa s p xpn pn := by
  simp only [withTxSa] at same ⊢
  simp only [macsecSaInstall, image, same, Bool.not_true, Bool.false_eq_true, if_false]

/-- New numbers let a port that had none left, and whose link is up, send again. -/
theorem macsecSaInstall_of_exhausted {xpn : Bool} (image : s.imageRuns = true)
    (resumes : ((s.macsec p).exhausted && (withTxSa s p xpn pn).edg.phy.contains p) = true)
    (fixed : ((withTxSa s p xpn pn).isPlug p && ((withTxSa s p xpn pn).unplugOf p).isSome) = false) :
    macsecSaInstall s p false xpn pn = ((withTxSa s p xpn pn).setLink p true).linkChange := by
  simp only [withTxSa] at resumes fixed ⊢
  simp only [macsecSaInstall, image, resumes, fixed, Bool.not_true, Bool.false_eq_true, if_false, if_true]

end Ports

/-! ### Lanes and slices -/

section Lanes

variable {s : State} {l : Nat}

theorem laneTrainingFail_of_used (released : s.boot.held = false) (used : s.fld Reg.EDG_LANE_USE l 0 ≠ 0) :
    laneTrainingFail s l =
    (let n := SMap.get s.edg.trainTries l 0
     let v : State := { s with edg := { s.edg with trainTries := SMap.erase s.edg.trainTries l } }
     if n < 3 then
       { s.setFld Reg.EDG_LANE_STATE l 0 1 with edg := { s.edg with trainTries := SMap.set s.edg.trainTries l (n + 1) } }
     else if v.spareFree (quadOf l) then v.sparing l else v.laneFails l) := by
  simp only [laneTrainingFail, released, used, decide_false, Bool.or_self, Bool.false_eq_true, if_false]

theorem laneTrainingRetry_of_training (trains : s.fld Reg.EDG_LANE_STATE l 0 = 1 ∨ s.fld Reg.EDG_LANE_STATE l 0 = 4) :
    laneTrainingRetry s l true = (({ s with edg := { s.edg with trainTries := SMap.erase s.edg.trainTries l } } : State).setFld
      Reg.EDG_LANE_STATE l 0 2).wr Reg.EDG_LANE_CMD_PENDING 0 := by
  have waits : (decide (s.fld Reg.EDG_LANE_STATE l 0 ≠ 1) && decide (s.fld Reg.EDG_LANE_STATE l 0 ≠ 4)) = false := by
    rcases trains with one | four
    · simp [one]
    · simp [four]
  simp only [laneTrainingRetry, waits, Bool.not_true, Bool.false_eq_true, if_false]

theorem laneMarginLow_of_used {margin : Nat} (released : s.boot.held = false) (used : s.fld Reg.EDG_LANE_USE l 0 ≠ 0) :
    laneMarginLow s l margin =
    (let v := s.setFld Reg.EDG_LANE_MARGIN l 0 margin
     if margin < 20 ∧ v.fld Reg.EDG_LANE_STATE l 0 = 2 ∧ v.spareFree (quadOf l) = true then v.sparing l else v) := by
  simp only [laneMarginLow, released, used, decide_false, Bool.or_self, Bool.false_eq_true, if_false, Bool.and_eq_true,
    decide_eq_true_eq, and_assoc]

variable (adapts : s.fld Reg.EDG_LANE_STATE l 0 = 3)

include adapts in
theorem sliceAdaptDone_of_port {r : Nat} (port : s.portOfLane l = some r) :
    sliceAdaptDone s l true = { s with slu := { s.slu with held := insertRising r s.slu.held } } := by
  simp only [sliceAdaptDone, adapts, port, ne_eq, not_true_eq_false, if_false, if_true]

include adapts in
theorem sliceAdaptDone_of_no_port (none_ : s.portOfLane l = none) : sliceAdaptDone s l true = s := by
  simp only [sliceAdaptDone, adapts, none_, ne_eq, not_true_eq_false, if_false, if_true]

include adapts in
/-- A lane of no port, with no command that waits for it, moves to the spare slice. -/
theorem sliceSwitchover_of_no_port {v w : State} (rx : Bool) (none_ : s.portOfLane l = none)
    (moved : v = s.setAll [(Reg.EDG_LANE_SLICE, l, 0, 9 * quadOf l + 8), (Reg.EDG_LANE_STATE, l, 0, 2),
      (Reg.EDG_QUAD_SPARE_USED, quadOf l, 0, 1), (Reg.EDG_QUAD_LANE, quadOf l, 0, l),
      (Reg.EDG_STATUS_SPARES, 0, 0, setBits (s.rd Reg.EDG_STATUS_SPARES) (quadOf l) 1 0)])
    (noted : w = v.noteRsv 3 (if v.on Reg.EDG_LANE_CMD_PENDING 0 0 then 5 else 3) l (s.fld Reg.EDG_LANE_SLICE l 0)
      (9 * quadOf l + 8)) (idle : w.on Reg.EDG_LANE_CMD_PENDING 0 0 = false) :
    sliceSwitchover s l rx = w.eventSup Reg.EDG_INT_STATUS_SPARE_USED Reg.EDG_INT_EN_SPARE_USED := by
  subst moved noted
  simp only [sliceSwitchover, adapts, none_, idle, ne_eq, not_true_eq_false, Bool.false_eq_true, if_false]

end Lanes

theorem laneCommand_runs {s : State} {part lane : Nat} {f : State → State} (page : s.pageOk part 10 = true)
    (sup : s.isSup part = true) (idle : (s.wr Reg.EDG_LANE_CMD_LANE lane).on Reg.EDG_LANE_CMD_PENDING 0 0 = false)
    (used : (s.wr Reg.EDG_LANE_CMD_LANE lane).fld Reg.EDG_LANE_USE lane 0 ≠ 0) :
    s.laneCommand part lane f = f (s.wr Reg.EDG_LANE_CMD_LANE lane) := by
  simp only [State.laneCommand, page, sup, idle, used, Bool.not_true, Bool.or_self, Bool.false_eq_true, if_false]

/-- What a command that moves a lane does once it runs. -/
theorem laneSpare_eq (s : State) (lane : Nat) :
    (if !s.spareFree (quadOf lane) then s.wr Reg.EDG_LANE_CMD_RESULT stEmpty
     else (s.setAll [(Reg.EDG_LANE_CMD_PENDING, 0, 0, 1), (Reg.EDG_LANE_CMD_RESULT, 0, 0, stOk)]).sparing lane) =
    if s.spareFree (quadOf lane)
      then (s.setAll [(Reg.EDG_LANE_CMD_PENDING, 0, 0, 1), (Reg.EDG_LANE_CMD_RESULT, 0, 0, stOk)]).sparing lane
      else s.wr Reg.EDG_LANE_CMD_RESULT stEmpty := by
  cases s.spareFree (quadOf lane) <;> rfl

/-- Settles O27: each clause is the branch of its operation on the port's, the lane's or the slice's state. -/
theorem portsLanesAndSlicesComeUpAndGoDown : Obligations.PortsLanesAndSlicesComeUpAndGoDown := by
  unfold Obligations.PortsLanesAndSlicesComeUpAndGoDown
  intro s now p g speed fec cause xpn rx pn margin part u w x y wg dn m mc
  have segment : ¬ 32 + g.val < 32 := Nat.not_lt.mpr (Nat.le_add_right 32 g.val)
  refine ⟨fun released down island tries bridge => ?upBridge, fun released down bridge other => ?upOther,
    fun released down island tries bridge image exists_ fixed => ?upImage, fun released down => ?upSegment,
    fun up bridge => ?downBridge, fun up => ?downSegment, fun up bridge image => ?downImage,
    fun bridge port down => ?parallel, fun verifies => ?verify, fun image => ?receive,
    fun image => ⟨fun same => ?transmit, fun resumes fixed => ?resumes⟩, fun released used => ?trains,
    fun trains => ?retry, fun released used => ?margin, fun r adapts port => ?adapts, fun adapts none_ => ?adaptsNone,
    fun adapts none_ idle => ?switch, fun sup idle used => served_of_hostCmd rfl fun may => ?retrain,
    fun sup idle used => served_of_hostCmd rfl fun may => ?spare⟩
  case upBridge =>
    exact runs_of_row rfl ((linkUp_of_down released down (fun _ => island) (fun _ => tries)).trans
      (linkComesUp_of_bridge p.isLt bridge))
  case upOther => exact runs_of_row rfl (linkUp_of_other_speed p.isLt bridge other)
  case upImage =>
    exact runs_of_row rfl ((linkUp_of_down released down (fun _ => island) (fun _ => tries)).trans
      (linkComesUp_of_image p.isLt rfl bridge image exists_ fixed rfl))
  case upSegment =>
    exact runs_of_row rfl ((linkUp_of_down released down (fun port => absurd port segment) (fun port => absurd port segment)).trans
      linkComesUp_of_segment)
  case downBridge => exact runs_of_row rfl (portLinkDown_of_bridge cause.val p.isLt up rfl bridge)
  case downSegment => exact runs_of_row rfl (portLinkDown_of_segment cause.val up)
  case downImage => exact runs_of_row rfl (portLinkDown_of_image cause.val p.isLt up rfl bridge image)
  case parallel => exact runs_of_row rfl (autoNegTimeout_of_bridge_port bridge port down)
  case verify => exact runs_of_row rfl (preemptVerifyTimeout_of_verifying verifies)
  case receive => exact runs_of_row rfl (macsecSaInstall_of_receive xpn image)
  case transmit => exact runs_of_row rfl (macsecSaInstall_of_transmit image same)
  case resumes => exact runs_of_row rfl (macsecSaInstall_of_exhausted image resumes fixed)
  case trains => exact runs_of_row rfl (laneTrainingFail_of_used released used)
  case retry => exact runs_of_row rfl (laneTrainingRetry_of_training trains)
  case margin => exact runs_of_row rfl (laneMarginLow_of_used released used)
  case adapts => exact runs_of_row rfl (sliceAdaptDone_of_port adapts port)
  case adaptsNone => exact runs_of_row rfl (sliceAdaptDone_of_no_port adapts none_)
  case switch =>
    intro v w idle
    exact runs_of_row rfl (sliceSwitchover_of_no_port adapts rx none_ rfl rfl idle)
  case retrain => exact laneCommand_runs may.pageAt sup idle used
  case spare => exact (laneCommand_runs may.pageAt sup idle used).trans (laneSpare_eq mc p.val)

end Sys2Proof
end

section
/-! The commands of the edge: received frames, T1S segments, CAN channels, presence inputs and plug sources
(Chapters 3 and 18). -/

namespace Sys2Proof

open Machine

/-! ### Frames of the Ethernet ports -/

section Frames

variable {s u v : State} {now p stamp macsec pn : Nat} {bytes : List Byte} {fcsOk cut express ok : Bool}

/-- A frame that is no transmit message of a host over Ethernet takes the checks of step 1. -/
theorem frameIn_of_other (other : ((s.upTo now).running && (s.upTo now).isEoe p bytes &&
    ((s.upTo now).checkFrame p bytes.length fcsOk cut).isNone) = false) :
    frameIn s now p stamp bytes fcsOk cut express macsec pn = frameReceive s now p stamp bytes fcsOk cut express macsec pn := by
  simp only [frameIn, other, Bool.false_eq_true, if_false]

section Received

variable (released : (s.upTo now).boot.held = false) (up : (s.upTo now).edg.phy.contains p = true)

include released up

theorem frameReceive_of_bad {f : Fld} (bad : (s.upTo now).checkFrame p bytes.length fcsOk cut = some f) :
    frameReceive s now p stamp bytes fcsOk cut express macsec pn = (s.upTo now).discard f p := by
  simp only [frameReceive, released, up, bad, Bool.true_or, Bool.not_true, Bool.or_self, Bool.false_eq_true, if_false]

variable (good : (s.upTo now).checkFrame p bytes.length fcsOk cut = none)
  (plain : (s.upTo now).isVerifyResponse p bytes express = false)

include good plain

theorem frameReceive_of_bridge (bridge : (s.upTo now).bridgeRuns = true) :
    frameReceive s now p stamp bytes fcsOk cut express macsec pn =
      if (s.upTo now).isBridgePort p then (s.upTo now).intakeEthernet p stamp bytes express false else s.upTo now := by
  simp only [frameReceive, released, up, good, plain, bridge, Bool.true_or, Bool.not_true, Bool.or_self, Bool.false_eq_true,
    if_false, if_true]

theorem frameReceive_of_macsec_discard (image : (s.upTo now).bridgeRuns = false)
    (discards : (s.upTo now).macsecIn p macsec pn bytes = (true, ok, v)) :
    frameReceive s now p stamp bytes fcsOk cut express macsec pn = v.discard Reg.EDG_MACSEC_CNT p := by
  simp only [frameReceive, released, up, good, plain, image, discards, Bool.true_or, Bool.not_true, Bool.or_self,
    Bool.false_eq_true, if_false]

theorem frameReceive_of_macsec_pass (image : (s.upTo now).bridgeRuns = false)
    (passes : (s.upTo now).macsecIn p macsec pn bytes = (false, ok, v)) :
    frameReceive s now p stamp bytes fcsOk cut express macsec pn = v.intakeEthernet p stamp bytes express ok := by
  simp only [frameReceive, released, up, good, plain, image, passes, Bool.true_or, Bool.not_true, Bool.or_self,
    Bool.false_eq_true, if_false]

end Received

section Hosts

variable (good : (s.upTo now).checkFrame p bytes.length fcsOk cut = none)
  (host : ((s.upTo now).running && (s.upTo now).isEoe p bytes) = true)

include good host

theorem frameIn_of_host_discard (discards : (s.upTo now).macsecIn p macsec pn bytes = (true, ok, v)) :
    frameIn s now p stamp bytes fcsOk cut express macsec pn = v.discard Reg.EDG_MACSEC_CNT p := by
  simp only [frameIn, good, host, discards, Option.isNone_none, Bool.and_self, if_true]

theorem frameIn_of_host_pass (passes : (s.upTo now).macsecIn p macsec pn bytes = (false, ok, v)) :
    frameIn s now p stamp bytes fcsOk cut express macsec pn = eoeFrameReceive v now p bytes := by
  simp only [frameIn, good, host, passes, Option.isNone_none, Bool.and_self, if_true]

end Hosts

/-- A frame that MACsec protects, at or above the replay window, raises the next number expected. -/
theorem macsecIn_of_valid (protects : u.fld Reg.EDG_PORT_MACSEC p 0 ≠ 0) (valid : macsec = 1)
    (window : (u.macsec p).rxNext - u.replayWindow p ≤ pn) :
    u.macsecIn p macsec pn bytes = (false, true, { u with edg := { u.edg with
      macsec := SMap.set u.edg.macsec p { u.macsec p with rxNext := max (u.macsec p).rxNext (pn + 1) } } }) := by
  subst valid
  simp only [State.macsecIn, protects, window, BEq.rfl, decide_true, Bool.and_self, if_false, if_true]

theorem macsecIn_of_invalid (protects : u.fld Reg.EDG_PORT_MACSEC p 0 ≠ 0)
    (invalid : macsec ≠ 1 ∨ pn < (u.macsec p).rxNext - u.replayWindow p) :
    u.macsecIn p macsec pn bytes = (u.fld Reg.EDG_PORT_MACSEC p 0 == 2 && !(macsec == 0 && isEapol bytes), false, u) := by
  have fails : (macsec == 1 && decide ((u.macsec p).rxNext - u.replayWindow p ≤ pn)) = false := by
    rcases invalid with other | below
    · rw [beq_eq_false_iff_ne.mpr other, Bool.false_and]
    · rw [decide_eq_false (Nat.not_le.mpr below), Bool.and_false]
  simp only [State.macsecIn, protects, fails, Bool.false_eq_true, if_false]

end Frames

/-! ### Segments -/

section Segments

variable {s : State} {now g stamp node : Nat} {bytes : List Byte} {fcsOk cut : Bool}

section Received

variable (released : (s.upTo now).boot.held = false) (up : (s.upTo now).edg.phy.contains (32 + g) = true)

include released up

theorem t1sFrameReceive_of_bad {f : Fld} (bad : (s.upTo now).checkFrame (32 + g) bytes.length fcsOk cut = some f) :
    t1sFrameReceive s now g stamp node bytes fcsOk cut = (s.upTo now).discard f (32 + g) := by
  simp only [t1sFrameReceive, released, up, bad, Bool.true_or, Bool.not_true, Bool.or_self, Bool.false_eq_true, if_false]

/-- A node that does not coordinate its segment notes no node. -/
theorem t1sFrameReceive_of_follower (good : (s.upTo now).checkFrame (32 + g) bytes.length fcsOk cut = none)
    (follows : ((s.upTo now).on Reg.EDG_T1S_PLCA_EN g 0 && !(s.upTo now).on Reg.EDG_T1S_ROLE g 0) = false) :
    t1sFrameReceive s now g stamp node bytes fcsOk cut = (s.upTo now).intakeEthernet (32 + g) stamp bytes false false := by
  simp only [t1sFrameReceive, released, up, good, follows, Bool.true_or, Bool.not_true, Bool.or_self, Bool.and_false,
    Bool.false_and, Bool.false_eq_true, if_false]

end Received

theorem nodeQuietExpire_of_quiet (seen : bitOf ((s.upTo now).fld Reg.EDG_T1S_SEEN g 0) node = true)
    (quiet : SMap.get (s.upTo now).edg.nodeAt (g * 32 + node) 0 + (s.upTo now).nodeQuiet g ≤ (s.upTo now).now) :
    nodeQuietExpire s now g node = (s.upTo now).setFld Reg.EDG_T1S_SEEN g 0
      (setBits ((s.upTo now).fld Reg.EDG_T1S_SEEN g 0) node 1 0) := by
  simp only [nodeQuietExpire, seen, quiet, decide_true, Bool.and_self, if_true]

end Segments

/-! ### CAN channels and the queues of the buses -/

section Can

variable {s : State} {now g id format sdt vcid af : Nat} {data : List Byte}

section Received

variable (released : (s.upTo now).boot.held = false) (runs : (s.upTo now).running = true)
  (active : (s.upTo now).fld Reg.EDG_CAN_STATE g 0 < 2)

include released runs active

theorem canFrameReceive_of_bad_crc :
    canFrameReceive s now g id format sdt vcid af data false = (s.upTo now).discard Reg.EDG_FCS_CNT (48 + g) := by
  simp only [canFrameReceive, released, runs, Nat.not_le.mpr active, Bool.not_true, Bool.not_false, Bool.false_eq_true, if_false,
    if_true]

theorem canFrameReceive_of_other_format (other : (s.upTo now).canTakes g format = false) :
    canFrameReceive s now g id format sdt vcid af data true = (s.upTo now).discard Reg.EDG_PROTO_CNT (48 + g) := by
  simp only [canFrameReceive, released, runs, Nat.not_le.mpr active, other, Bool.not_true, Bool.not_false, Bool.false_eq_true,
    if_false, if_true]

theorem canFrameReceive_of_taken (takes : (s.upTo now).canTakes g format = true) (fits : data.length ≤ canMax format)
    (short : (canRecord g id format sdt vcid af data).length ≤ (s.upTo now).maxFrame (48 + g)) :
    canFrameReceive s now g id format sdt vcid af data true =
      if (s.upTo now).bridgeRuns && format % 4 = 2 then (s.upTo now).discard Reg.EDG_PROTO_CNT (48 + g)
      else (s.upTo now).intake { inPort := 48 + g, arrival := (s.upTo now).net ((s.upTo now).tsdomOf (48 + g)) }
        (canRecord g id format sdt vcid af data) (canFlk (id % 2 ^ 31) g) := by
  simp only [canFrameReceive, released, runs, Nat.not_le.mpr active, takes, Nat.not_lt.mpr fits, Nat.not_lt.mpr short,
    decide_false, Bool.or_self, Bool.not_true, Bool.false_eq_true, if_false]

end Received

section Active

variable (active : s.fld Reg.EDG_CAN_STATE g 0 < 2)

include active

theorem canBusOff_of_recovery (auto : s.on Reg.EDG_CAN_AUTO_RECOVER g 0 = true) : canBusOff s g =
    (s.setAll [(Reg.EDG_CAN_STATE, g, 0, 2), (Reg.EDG_CAN_TEC, g, 0, 255)]).eventSup
      Reg.EDG_INT_STATUS_CAN_BUSOFF Reg.EDG_INT_EN_CAN_BUSOFF := by
  simp only [canBusOff, Nat.not_le.mpr active, auto, if_false, if_true]

/-- A channel that does not recover by itself loses the frames of its queue. -/
theorem canBusOff_of_no_recovery {v : State} (manual : s.on Reg.EDG_CAN_AUTO_RECOVER g 0 = false)
    (off : v = s.setAll [(Reg.EDG_CAN_STATE, g, 0, 3), (Reg.EDG_CAN_TEC, g, 0, 255)]) : canBusOff s g =
    (((v.txQueue (48 + g)).foldl (fun s f => s.dropTx (48 + g) f) (v.setTxQueue (48 + g) [])).bumpFld Reg.EDG_TX_DROP (48 + g) 0
      (v.txQueue (48 + g)).length).eventSup Reg.EDG_INT_STATUS_CAN_BUSOFF Reg.EDG_INT_EN_CAN_BUSOFF := by
  subst off
  simp only [canBusOff, Nat.not_le.mpr active, manual, Bool.false_eq_true, if_false]

theorem canBusError_of_active {tec rec_ : Nat} : canBusError s g tec rec_ =
    s.setAll [(Reg.EDG_CAN_TEC, g, 0, tec), (Reg.EDG_CAN_REC, g, 0, rec_),
      (Reg.EDG_CAN_STATE, g, 0, if 128 ≤ tec || 128 ≤ rec_ then 1 else 0)] := by
  simp only [canBusError, Nat.not_le.mpr active, if_false]

end Active

theorem canBusOffRecover_of_off (off : s.fld Reg.EDG_CAN_STATE g 0 = 2) (auto : s.on Reg.EDG_CAN_AUTO_RECOVER g 0 = true) :
    canBusOffRecover s g = s.canActive g := by
  simp only [canBusOffRecover, off, auto, decide_true, Bool.and_self, if_true]

theorem canChannelRestart_of_stopped (stopped : s.fld Reg.EDG_CAN_STATE g 0 = 3) (runs : s.running = true) :
    canChannelRestart s g = s.canActive g := by
  simp only [canChannelRestart, stopped, runs, decide_true, Bool.and_self, if_true]

theorem edgeTransmitDone_of_frame {tg : Nat} {f : EdgeTx} {v : State}
    (next : nextTx (48 ≤ 32 + tg) ((s.upTo now).txQueue (32 + tg)) = some f)
    (up : (if 32 + tg < 48 then !(s.upTo now).edg.phy.contains (32 + tg)
      else 2 ≤ (s.upTo now).fld Reg.EDG_CAN_STATE (32 + tg - 48) 0 : Bool) = false)
    (leaves : v = (s.upTo now).setTxQueue (32 + tg) (((s.upTo now).txQueue (32 + tg)).erase f)) :
    edgeTransmitDone s now tg = ((v.emit (.bus tg f.bytes)).bumpFld Reg.EDG_TX_CNT (32 + tg) 0 1).dropTx (32 + tg) f := by
  subst leaves
  simp only [edgeTransmitDone, next, up, Bool.false_eq_true, if_false]

end Can

/-! ### Presence inputs -/

section Inputs

variable {s v : State} {now i : Nat} {level : Bool}

theorem presRawChange_of_new (supplied : (s.upTo now).boot.brownout = false) (new : ((s.upTo now).presIn i).raw ≠ level)
    (raw : v = (s.upTo now).setPresIn i { (s.upTo now).presIn i with raw := level }) :
    presRawChange s now i level = v.setPresIn i { v.presIn i with
      since := if v.rawLevel i = ((s.upTo now).presIn i).level then none else some v.wall } := by
  subst raw
  simp only [presRawChange, supplied, new, decide_false, Bool.or_self, Bool.false_eq_true, if_false]

section Debounced

variable {t : Nat} (since : ((s.upTo now).presIn i).since = some t) (past : t + 5000000 ≤ (s.upTo now).wall)
  (changes : v = (s.upTo now).setPresIn i { (s.upTo now).presIn i with
    level := !((s.upTo now).presIn i).level, since := none, count := (((s.upTo now).presIn i).count + 1) % 2 ^ 32 })

include since past changes

theorem presDebounceEnd_of_bridge (bridge : v.bridgeRuns = true) : presDebounceEnd s now i = v := by
  subst changes
  simp only [presDebounceEnd, since, Nat.not_lt.mpr past, bridge, if_false, if_true]

theorem presDebounceEnd_of_image (image : v.bridgeRuns = false) : presDebounceEnd s now i =
    if (v.latchChange i (!((s.upTo now).presIn i).level)).takesInputs
      then (v.latchChange i (!((s.upTo now).presIn i).level)).presPlug i (!((s.upTo now).presIn i).level)
      else v.latchChange i (!((s.upTo now).presIn i).level) := by
  subst changes
  simp only [presDebounceEnd, since, Nat.not_lt.mpr past, image, Bool.false_eq_true, if_false]

end Debounced

/-- The change of input i to a level, as its latch keeps it. -/
def changeOf (v : State) (i : Nat) (lv : Bool) : Change :=
  { edge := if lv then 1 else 2, level := lv, at_ := v.wall, arrival := v.net (v.tsdomOf (0x40 + i)), late := !v.takesInputs,
    lost := decide (4 ≤ (v.presIn i).latch.length), count := (v.presIn i).count }

theorem latchChange_of_room (room : (v.presIn i).latch.length < 4) : v.latchChange i level =
    (v.setPresIn i { v.presIn i with latch := (v.presIn i).latch ++ [changeOf v i level] }).setFld Reg.EDG_PRESCFG_LATCHED i 0
      ((v.presIn i).latch ++ [changeOf v i level]).length := by
  simp only [State.latchChange, changeOf, Nat.not_le.mpr room, decide_false, if_false]

/-- A full latch takes a change in place of its newest. -/
theorem latchChange_of_full {w : State} (full : 4 ≤ (v.presIn i).latch.length)
    (takes : w = (v.setPresIn i { v.presIn i with latch := (v.presIn i).latch.take 3 ++ [changeOf v i level] }).setFld
      Reg.EDG_PRESCFG_LATCHED i 0 ((v.presIn i).latch.take 3 ++ [changeOf v i level]).length) :
    v.latchChange i level = (w.setFld Reg.EDG_PRESCFG_LOST i 0 (min 255 (w.fld Reg.EDG_PRESCFG_LOST i 0 + 1))).eventSup
      Reg.EDG_INT_STATUS_PRES_LOST Reg.EDG_INT_EN_PRES_LOST := by
  subst takes
  simp only [State.latchChange, changeOf, full, decide_true, if_true]

theorem presLatchTake_of_change {w : State} {ch : Change} {rest : List Change} {arr : Nat}
    (oldest : ((s.upTo now).presIn i).latch = ch :: rest) (takes : (s.upTo now).takesInputs = true)
    (touch : ((s.upTo now).touchInput && !(s.upTo now).on Reg.EDG_PRESCFG_TOUCH i 0) = false)
    (leaves : v = ((s.upTo now).setPresIn i { (s.upTo now).presIn i with latch := rest }).setFld
      Reg.EDG_PRESCFG_LATCHED i 0 rest.length)
    (plugs : w = if ch.late then v.presPlug i ch.level else v)
    (arrives : arr = if ch.late then (w.net (w.tsdomOf (0x40 + i)) + 2 ^ 64 - (w.wall - ch.at_) % 2 ^ 64) % 2 ^ 64
      else ch.arrival) :
    presLatchTake s now i =
      if w.fld Reg.EDG_PRESCFG_MODE i 0 % 2 = 1 && bitOf (w.fld Reg.EDG_PRESCFG_EDGES i 0) (ch.edge - 1) then
        w.intake { inPort := 0x40 + i, arrival := arr } (w.eventFrame i ch) (eventFlk (0x40 + i))
      else w := by
  subst leaves plugs arrives
  simp only [presLatchTake, oldest, takes, touch, Bool.not_true, Bool.or_self, Bool.false_eq_true, if_false]

end Inputs

/-! ### Plug sources -/

section Plugs

variable {s : State} {now src : Nat} {w : Unplug}

section Hold

variable (plug : (s.upTo now).unplugOf src = some w) (stage : w.stage = 1)
  (expires : w.since + (s.upTo now).linkHold src ≤ (s.upTo now).now)

include plug stage expires

theorem linkHoldExpire_of_other (other : 32 ≤ src) :
    linkHoldExpire s now src = (s.upTo now).setUnplug src (some { w with stage := 2 }) := by
  simp only [linkHoldExpire, plug, stage, Nat.not_lt.mpr expires, other, ne_eq, not_true_eq_false, decide_false, Bool.or_self,
    Bool.false_eq_true, if_false, if_true]

theorem linkHoldExpire_of_port {n : Nat} (port : src < 32)
    (dries : n = (List.range 8).foldl (fun n c => n + ((s.upTo now).queueOf (8 * src + c)).length) 0) :
    linkHoldExpire s now src = ((((s.upTo now).setUnplug src (some { w with stage := 2, dried := n })).setLink
      src false).setFld Reg.EDG_PORT_UNPLUG_BUSY src 0 1).portLinkLost src := by
  subst dries
  simp only [linkHoldExpire, plug, stage, Nat.not_lt.mpr expires, Nat.not_le.mpr port, ne_eq, not_true_eq_false, decide_false,
    Bool.or_self, Bool.false_eq_true, if_false]

end Hold

theorem unplugDrained_of_other {v : State} (plug : (s.upTo now).unplugOf src = some w) (stage : w.stage = 2)
    (drained : (s.upTo now).srcDrained src = true) (other : 32 ≤ src) (departs : v = (s.upTo now).departTables src) :
    unplugDrained s now src = (v.plugMessage src (v.plugRecord 2 src
      (((s.upTo now).epFind (plugKind src) src 0).getD 0xFFFF) w.cause 0 w.dried)).setUnplug src none := by
  subst departs
  simp only [unplugDrained, plug, stage, drained, Nat.not_lt.mpr other, Nat.lt_irrefl, decide_false, Bool.not_true, Bool.or_self,
    Bool.false_eq_true, if_false]
  rfl

end Plugs

/-- Settles O28: each clause is the branch of its operation on the frame, the channel, the input or the source. -/
theorem framesSegmentsChannelsAndInputsOfTheEdge : Obligations.FramesSegmentsChannelsAndInputsOfTheEdge := by
  unfold Obligations.FramesSegmentsChannelsAndInputsOfTheEdge
  intro s now p g stamp node bytes data tg fcsOk cut express level macsec pn id af format sdt vcid tec rec_ i src u
  refine ⟨fun released up => ⟨fun f bad => ?bad, fun good other plain => ⟨fun bridge => ?bridge, fun image ok v =>
      ⟨fun discards => ?discards, fun passes => ?passes⟩⟩, fun good host ok v => ⟨fun discards => ?hostDiscards,
      fun passes => ?hostPasses⟩⟩, fun protects => ⟨fun valid window => ?valid, fun invalid => ?invalid⟩,
    fun f released up bad => ?segmentBad, fun released up good follows => ?segment, fun follows => ⟨?loss, ?resume⟩,
    fun n seen quiet => ?quiet, ?can, fun active auto => ?busOff, fun active manual => ?busOffDrops,
    fun off auto => ?recovers, fun stopped runs => ?restarts, fun active => ?busError, fun f next up => ?sent,
    fun supplied new => ?raw, fun t since past => ⟨fun bridge => ?settlesBridge, fun image => ?settles⟩,
    fun v lv => ⟨fun room => ?latches, fun full => ?latchesFull⟩, fun ch rest oldest takes touch => ?take,
    fun w plug stage expires other => ?expires, fun w plug stage expires port => ?expiresPort,
    fun w plug stage drained other => ?drained⟩
  case bad =>
    refine runs_of_row rfl ((frameIn_of_other ?_).trans (frameReceive_of_bad released up bad))
    rw [bad, Option.isNone_some, Bool.and_false]
  case bridge =>
    refine runs_of_row rfl ((frameIn_of_other ?_).trans (frameReceive_of_bridge released up good plain bridge))
    rw [other, Bool.false_and]
  case discards =>
    refine runs_of_row rfl ((frameIn_of_other ?_).trans (frameReceive_of_macsec_discard released up good plain image discards))
    rw [other, Bool.false_and]
  case passes =>
    refine runs_of_row rfl ((frameIn_of_other ?_).trans (frameReceive_of_macsec_pass released up good plain image passes))
    rw [other, Bool.false_and]
  case hostDiscards => exact runs_of_row rfl (frameIn_of_host_discard good host discards)
  case hostPasses => exact runs_of_row rfl (frameIn_of_host_pass good host passes)
  case valid => exact macsecIn_of_valid protects valid window
  case invalid => exact macsecIn_of_invalid protects invalid
  case segmentBad => exact runs_of_row rfl (t1sFrameReceive_of_bad released up bad)
  case segment => exact runs_of_row rfl (t1sFrameReceive_of_follower released up good follows)
  case loss => exact runs_of_row rfl (if_pos follows)
  case resume => exact runs_of_row rfl (if_pos follows)
  case quiet => exact runs_of_row rfl (nodeQuietExpire_of_quiet seen quiet)
  case can =>
    intro released runs active r
    exact ⟨runs_of_row rfl (canFrameReceive_of_bad_crc released runs active),
      fun other => runs_of_row rfl (canFrameReceive_of_other_format released runs active other),
      fun takes fits short => runs_of_row rfl (canFrameReceive_of_taken released runs active takes fits short)⟩
  case busOff => exact runs_of_row rfl (canBusOff_of_recovery active auto)
  case busOffDrops => exact runs_of_row rfl (canBusOff_of_no_recovery active manual rfl)
  case recovers => exact runs_of_row rfl (canBusOffRecover_of_off off auto)
  case restarts => exact runs_of_row rfl (canChannelRestart_of_stopped stopped runs)
  case busError => exact runs_of_row rfl (canBusError_of_active active)
  case sent => exact runs_of_row rfl (edgeTransmitDone_of_frame next up rfl)
  case raw => exact runs_of_row rfl (presRawChange_of_new supplied new rfl)
  case settlesBridge => exact runs_of_row rfl (presDebounceEnd_of_bridge since past rfl bridge)
  case settles => exact runs_of_row rfl (presDebounceEnd_of_image since past rfl image)
  case latches => exact latchChange_of_room room
  case latchesFull => exact latchChange_of_full full rfl
  case take => exact runs_of_row rfl (presLatchTake_of_change oldest takes touch rfl rfl rfl)
  case expires => exact runs_of_row rfl (linkHoldExpire_of_other plug stage expires other)
  case expiresPort => exact runs_of_row rfl (linkHoldExpire_of_port plug stage expires port rfl)
  case drained => exact runs_of_row rfl (unplugDrained_of_other plug stage drained other rfl)

end Sys2Proof
end

section
/-! The commands of the Sluice (Chapter 14): pauses, selection, refills, gates, and the commands on its objects. -/

namespace Sys2Proof

open Machine

/-! ### Pauses, refills and gates -/

section Clocked

variable {s : State} {now p i : Nat}

/-- Time that passes leaves the Sluice. -/
theorem upTo_slu : (s.upTo now).slu = s.slu := by
  unfold State.upTo
  split <;> rfl

theorem pauseFrameReceive_of_port {pfc : Bool} {classes : Nat} {quanta : List (BitVec 16)}
    (image : (s.upTo now).imageRuns = true) (port : (s.upTo now).on Reg.SLU_PORT_RX_PAUSE p 0 = true) :
    pauseFrameReceive s now p pfc classes quanta = (List.range 8).foldl (fun v c =>
      let n := (quanta.getD (if pfc then c else 0) 0).toNat
      if pfc && !bitOf classes c then v
      else if n = 0 then { v with slu := { v.slu with pause := SMap.erase v.slu.pause (8 * p + c) } }
      else
        let till := v.now + n * 512000 / max 1 ((s.upTo now).fld Reg.SLU_PORT_SPEED p 0)
        { v with slu := { v.slu with pause := SMap.set v.slu.pause (8 * p + c) till } }) (s.upTo now) := by
  simp only [pauseFrameReceive, image, port, Bool.not_true, Bool.or_self, Bool.false_eq_true, if_false]

theorem pauseQuantaExpire_of_due {c t : Nat} (paused : SMap.find (s.upTo now).slu.pause (8 * p + c) = some t)
    (due : t ≤ (s.upTo now).now) : pauseQuantaExpire s now p c =
      { s.upTo now with slu := { (s.upTo now).slu with pause := SMap.erase (s.upTo now).slu.pause (8 * p + c) } } := by
  simp only [pauseQuantaExpire, paused, Nat.not_lt.mpr due, if_false]

theorem gclConfigSwap_of_due {sg : Bool} {cct ct : Nat} (image : (s.upTo now).imageRuns = true) (gate : sg = true ∨ i < 32)
    (pending : (s.upTo now).gateChange sg i = some (cct, ct)) (due : cct ≤ (s.upTo now).net ((s.upTo now).gateDom sg i)) :
    gclConfigSwap s now sg i = ((s.upTo now).installList sg i cct).eventSup
      Reg.SLU_INT_STATUS_CONFIG_DONE Reg.SLU_INT_EN_CONFIG_DONE := by
  have exists_ : (!sg && decide (32 ≤ i)) = false := by
    rcases gate with stream | port
    · rw [stream, Bool.not_true, Bool.false_and]
    · rw [decide_eq_false (Nat.not_le.mpr port), Bool.and_false]
  simp only [gclConfigSwap, image, exists_, pending, Nat.not_lt.mpr due, Bool.not_true, Bool.or_self, Bool.false_eq_true, if_false]

theorem srfResetTimeout_of_due {f t : Nat} (timer : ((s.upTo now).srfRun f).timer = some t) (due : t ≤ (s.upTo now).now) :
    srfResetTimeout s now f =
    (let v := ((s.upTo now).setSrfRun f { (s.upTo now).srfRun f with timer := none }).setFld Reg.SLU_SRF_TAKE_ANY f 0 1
     (v.satBump Reg.SLU_SRF_RESETS f 1).eventSup Reg.SLU_INT_STATUS_SRF_RESET Reg.SLU_INT_EN_SRF_RESET) := by
  simp only [srfResetTimeout, timer, Nat.not_lt.mpr due, if_false]

theorem queueShutdownDone_of_drained {kind : Nat} (shuts : s.fld (shutFields kind).2.1 i 0 = 2)
    (drained : s.drained kind i = true) : queueShutdownDone s kind i =
      s.setAll [((shutFields kind).2.1, i, 0, s.fld (shutFields kind).2.2 i 0), ((shutFields kind).2.2, i, 0, 0)] := by
  simp only [queueShutdownDone, shuts, drained, ne_eq, not_true_eq_false, decide_false, Bool.not_true, Bool.or_self,
    Bool.false_eq_true, if_false]

theorem shaperRefill_of_image (image : (s.upTo now).imageRuns = true) : shaperRefill s now =
    (List.range 256).foldl (fun v q => v.classRefill q) ((List.range 32).foldl (fun v p => v.setCredit p
      (min (v.credit p + v.fld Reg.SLU_PORT_TB_RATE p 0) (v.fld Reg.SLU_PORT_TB_BURST p 0 * 8000))) (s.upTo now)) := by
  simp only [shaperRefill, image, Bool.not_true, Bool.false_eq_true, if_false]

theorem meterRefill_of_image (image : (s.upTo now).imageRuns = true) :
    meterRefill s now = (s.upTo now).metersInUse.foldl (fun v m => v.meterRefillOne m) (s.upTo now) := by
  simp only [meterRefill, image, Bool.not_true, Bool.false_eq_true, if_false]

theorem gateEvent_of_stream (image : (s.upTo now).imageRuns = true) : gateEvent s now true i = (s.upTo now).streamGate i true := by
  simp only [gateEvent, image, Bool.not_true, Bool.false_eq_true, if_false, if_true]

theorem gateEvent_of_port (image : (s.upTo now).imageRuns = true) (port : i < 32) :
    gateEvent s now false i = (s.upTo now).portGates i := by
  simp only [gateEvent, image, port, Bool.not_true, Bool.false_eq_true, if_false, if_true]

end Clocked

/-! ### Selection and the end of a frame -/

section Frames

variable {s dry : State} {now p n : Nat}

section Select

variable (runs : ((s.upTo now).imageRuns || (s.upTo now).bridgeRuns) = true) (linked : (s.upTo now).linkDown p = false)
  (up : (s.upTo now).edg.phy.contains p = true) (free : (s.upTo now).slu.held.contains p = false)
  (waits : n = (List.range 8).foldl (fun n c => n + ((s.upTo now).queueOf (8 * p + c)).length) 0)
  (dries : dry = (List.range 8).foldl (fun v c => v.dryHeads p c n) (s.upTo now))
  (idle : SMap.find dry.slu.sending (2 * p + 1) = none)

include runs linked up free waits dries idle

theorem transmissionSelect_of_one_mac (single : dry.preempts p = false) (idlePre : SMap.find dry.slu.sending (2 * p) = none) :
    transmissionSelect s now p = (dry.selectMac p (2 * p + 1) (fun _ => true) (n + 1)).2 := by
  subst waits dries
  simp only [transmissionSelect, runs, linked, up, free, single, idle, idlePre, Option.isSome_none, Bool.not_true, Bool.not_false,
    Bool.or_self, Bool.false_eq_true, if_false, if_true]

theorem transmissionSelect_of_express (preempts : dry.preempts p = true)
    (go : (dry.selectMac p (2 * p + 1) (fun c => dry.on Reg.SLU_CLASS_EXPRESS (8 * p + c) 0) (n + 1)).1 = true) :
    transmissionSelect s now p =
      (dry.selectMac p (2 * p + 1) (fun c => dry.on Reg.SLU_CLASS_EXPRESS (8 * p + c) 0) (n + 1)).2 := by
  subst waits dries
  simp only [transmissionSelect, runs, linked, up, free, preempts, idle, Option.isSome_none, Bool.not_true, Bool.or_self,
    Bool.false_eq_true, if_false]
  split
  · rename_i chosen
    rw [chosen]
  · rename_i chosen
    rw [chosen] at go
    cases go

end Select

/-- A port whose numbers are not used up passes the check that follows its frame. -/
theorem macsecCheck_of_numbers {v : State} (left : (v.macsec p).exhausted = false) : v.macsecCheck p = v := by
  simp only [State.macsecCheck, left, Bool.not_false, Bool.true_or, if_true]

/-- The end of a frame, where the port keeps numbers for the next. -/
theorem frameTransmitEnd_of_frame {v0 v1 v2 : State} {c : Copy} {bs : List Byte} {mac : Nat} {express : Bool}
    (mac_ : mac = 2 * p + flagBit express) (sending : SMap.find (s.upTo now).slu.sending mac = some c)
    (bytes : bs = (s.upTo now).wireBytes c)
    (leaves : v0 = { s.upTo now with slu := { (s.upTo now).slu with sending := SMap.erase (s.upTo now).slu.sending mac } })
    (counted : v1 = (((v0.emit (.frame p express bs)).bump Reg.SLU_TX_CNT).satBump Reg.SLU_CLASS_TX_FRAMES c.q 1).bumpFld
      Reg.EDG_TX_CNT p 0 1)
    (ends : v2 = ((if v1.isGptpEvent bs then v1.stamp p else v1).takePn p).copyEnds c 0)
    (left : (v2.macsec p).exhausted = false) : frameTransmitEnd s now p express = v2 := by
  subst mac_ bytes leaves counted ends
  simp only [frameTransmitEnd, sending, left, Bool.false_eq_true, if_false]

theorem frameSent_eq {v : State} {c : Copy} {express : Bool}
    (sending : SMap.find (s.upTo now).slu.sending (2 * p + flagBit express) = some c)
    (ends : frameTransmitEnd s now p express = v) :
    frameSent s now p express = if v.bridgeRuns then v.ptpSent p (s.wireBytes c) else v := by
  rw [upTo_slu] at sending
  simp only [frameSent, sending, ends]

end Frames

/-! ### Commands on the objects -/

section Objects

variable {m : State} {p kind bank i : Nat}

/-- A host's write that may issue, or the control plane's under an image, reaches the Sluice. -/
theorem sluReach_of_mayWrite {s : State} {p : Nat} (may : MayWrite s p 6) (control : 4 ≤ p → (s.woken p).imageRuns = true) :
    (s.woken p).sluReach p = true :=
  reach_of_mayWrite may control

section Reached

variable (reach : m.sluReach p = true) (sel : m.sluSel p = (kind, bank, i))

include reach sel

theorem sluRead_of_ok (ok : m.sluCheck p 1 = stOk) :
    sluRead m p = (m.setAll ((List.range 16).map fun n =>
      (Reg.SLU_DATA, n, p, bits (m.objNat kind bank i) (32 * n) 32))).sluDone p stOk := by
  simp only [sluRead, reach, sel, ok, ne_eq, not_true_eq_false, Bool.not_true, Bool.false_eq_true, if_false]

section Write

variable (ok : m.sluCheck p 2 = stOk) (idle : m.sluBusy p kind bank i = false) (bank_ : bank ≠ 1 ∨ kind < 6)

include ok idle bank_

/-- Past its checks a write takes its fields, and starts the change of lists that they ask for. -/
theorem sluWrite_of_ok : sluWrite m p =
    if m.asksChange p kind then
      if (m.sluTake p kind i).adminOk (kind == 5) i then ((m.sluTake p kind i).configChange (kind == 5) i).sluDone p stOk
      else m.sluDone p stInvalid
    else (m.sluTake p kind i).sluDone p stOk := by
  have entry : (decide (bank = 1) && (decide (kind = 6) || decide (kind = 7))) = false := by
    rcases bank_ with admin | other
    · rw [decide_eq_false admin, Bool.false_and]
    · have six : kind ≠ 6 := by omega
      have seven : kind ≠ 7 := by omega
      rw [decide_eq_false six, decide_eq_false seven, Bool.or_self, Bool.and_false]
  simp only [sluWrite, reach, sel, ok, idle, entry, ne_eq, not_true_eq_false, Bool.not_true, Bool.false_eq_true, if_false]

theorem sluConfigChange_of_ok (asks : m.asksChange p kind = true) (admin : (m.sluTake p kind i).adminOk (kind == 5) i = true) :
    sluConfigChange m p = ((m.sluTake p kind i).configChange (kind == 5) i).sluDone p stOk := by
  have write := sluWrite_of_ok reach sel ok idle bank_
  rw [if_pos asks, if_pos admin] at write
  unfold sluConfigChange
  rw [sel, if_pos asks, write]

end Write

theorem sluFlush_of_class {t : State} (ok : m.sluCheck p 3 = stOk) (class_ : kind = 1) (dries : t = m.dryQueue i dryFiltered) :
    sluFlush m p = (t.bumpFld Reg.SLU_FLUSH_CNT 0 0 ((m.copiesQueued + (m.hostCopies (hostSpill i)).length) -
      (t.copiesQueued + (t.hostCopies (hostSpill i)).length))).sluDone p stOk := by
  subst class_ dries
  simp only [sluFlush, reach, sel, ok, ne_eq, not_true_eq_false, Bool.not_true, Bool.false_eq_true, if_false]

theorem sluClear_of_other (ok : m.sluCheck p 4 = stOk) (other : kind ≠ 5) :
    sluClear m p = ((clearFields kind).foldl (fun v f => v.setFld f i 0 0) m).sluDone p stOk := by
  simp only [sluClear, reach, sel, ok, other, ne_eq, not_true_eq_false, Bool.not_true, Bool.false_eq_true, if_false]

end Reached

end Objects

/-- Settles O29: each clause is the branch of its operation; a command on an object is reached by a host's write that may
issue, and by the control plane under an image. -/
theorem sluicePausesShapesGatesAndServesItsObjects : Obligations.SluicePausesShapesGatesAndServesItsObjects := by
  unfold Obligations.SluicePausesShapesGatesAndServesItsObjects
  intro s now p pfc level express sg cls quanta k ix f kind qi part u waiting dry mac m tk
  have sel : m.sluSel part.val = ((m.sluSel part.val).1, (m.sluSel part.val).2.1, (m.sluSel part.val).2.2) := rfl
  refine ⟨fun image port => ?pause, fun t paused due => ?quanta, fun runs linked up free single idle idlePre => ?select,
    fun runs linked up free preempts idle => ?selectExpress, fun c sending => ?sent, fun image => ?shaper, fun image => ?meter,
    fun image => ⟨?streamGate, fun port => ?portGate⟩, fun cct ct image gate pending due => ?swap, fun t timer due => ?srf, rfl,
    fun shuts drained => ?shutdown, fun control ok => served_of_hostCmd rfl fun may => ?read,
    fun control ok idle bank same => served_of_hostCmd rfl fun may => ?write, fun control ok class_ => ?flush,
    fun control ok other => served_of_hostCmd rfl fun may => ?clear,
    fun control ok idle bank asks admin => served_of_hostCmd rfl fun may => ?change⟩
  case pause => exact runs_of_row rfl (pauseFrameReceive_of_port image port)
  case quanta => exact runs_of_row rfl (pauseQuantaExpire_of_due paused due)
  case select => exact runs_of_row rfl (transmissionSelect_of_one_mac runs linked up free rfl rfl idle single idlePre)
  case selectExpress =>
    intro go chosen
    exact runs_of_row rfl (transmissionSelect_of_express runs linked up free rfl rfl idle preempts chosen)
  case sent =>
    intro bs v0 v1 v2 left
    have ends : frameTransmitEnd s now p.val express = v2 := frameTransmitEnd_of_frame rfl sending rfl rfl rfl rfl left
    have row := frameSent_eq sending ends
    refine ⟨fun image => ?_, fun bridge => ?_⟩
    · rw [if_neg (by rw [image]; decide)] at row
      exact runs_of_row rfl ((congrArg (State.macsecCheck · p.val) row).trans (macsecCheck_of_numbers left))
    · rw [if_pos bridge] at row
      exact runs_of_row rfl (congrArg (State.macsecCheck · p.val) row)
  case shaper => exact runs_of_row rfl (shaperRefill_of_image image)
  case meter => exact runs_of_row rfl (meterRefill_of_image image)
  case streamGate => exact runs_of_row rfl (gateEvent_of_stream image)
  case portGate => exact runs_of_row rfl (gateEvent_of_port image port)
  case swap => exact runs_of_row rfl (gclConfigSwap_of_due image gate pending due)
  case srf => exact runs_of_row rfl (srfResetTimeout_of_due timer due)
  case shutdown => exact runs_of_row rfl (queueShutdownDone_of_drained shuts drained)
  case read => exact sluRead_of_ok (sluReach_of_mayWrite may control) sel ok
  case write =>
    refine (sluWrite_of_ok (sluReach_of_mayWrite may control) sel ok idle bank).trans ?_
    rw [if_neg (by rw [same]; decide)]
  case flush =>
    intro t n
    exact served_of_hostCmd rfl fun may => sluFlush_of_class (sluReach_of_mayWrite may control) sel ok class_ rfl
  case clear => exact sluClear_of_other (sluReach_of_mayWrite may control) sel ok other
  case change => exact sluConfigChange_of_ok (sluReach_of_mayWrite may control) sel ok idle bank asks admin

end Sys2Proof
end

section
/-! The commands of the Weir (Chapter 3), of the time unit (Chapter 14) and of the flow-control outputs. -/

namespace Sys2Proof

open Machine

/-! ### The Weir -/

section Weir

variable {s v : State} {now t i : Nat} {sl : Slot}

theorem dispatch_of_droplet (real : s.rpl.replay = none) (image : s.imageRuns = true) (takes : s.mayTake t = true)
    (next : s.nextFor t = some (i, sl))
    (hands : v = s.setSlot i { sl with st := 2, holder := some t, handed := s.weir.handCtr, fetched := false }) :
    dispatch s t = ({ v with weir := { v.weir with handCtr := v.weir.handCtr + 1 } } : State).setEvent t evDroplet := by
  subst hands
  simp only [dispatch, dropletDispatch, real, image, takes, next, Bool.not_true, Bool.or_self, Bool.false_eq_true, if_false]

theorem holdExpire_of_expired (slot : (s.upTo now).slot i = some sl) (expired : (s.upTo now).expired sl = true)
    (open_ : bitOf ((s.upTo now).rd Reg.WEIR_HOLD_SUSPEND_SUSP) sl.d.oclass = false)
    (held : (s.upTo now).completedNow i sl = false) : holdExpire s now i = (s.upTo now).drySlot i dryHoldExpired := by
  simp only [holdExpire, slot, expired, open_, held, Bool.not_false, Bool.and_self, if_true]

theorem recircClassify_of_droplet {c q : Nat} (image : s.imageRuns = true)
    (ready : ((List.range 4).find? fun c => s.chReady (spillKey (256 + c))) = some c) (queue : q = spillKey (256 + c))
    (drops : v = s.chDrop q (s.chFirst q)) (names : v.resolve ((s.chWords q).headD {}).w.toNat = some (i, sl))
    (circulates : sl.st = 3) :
    recircClassify s = if s.headAborted q then v.drySlot i dryMemLost else v.reclassify i sl := by
  subst queue drops
  simp only [recircClassify, image, ready, names, circulates, ne_eq, not_true_eq_false, Bool.not_true, Bool.false_eq_true,
    if_false]

theorem weirHoldSuspendWrite_of_right {part w : Nat} (page : s.pageOk part 1 = true) (sup : s.isSup part = true)
    (open_ : s.suspOpen = true) : weirHoldSuspendWrite s part w = s.setSuspend w := by
  simp only [weirHoldSuspendWrite, page, sup, open_, Bool.not_true, Bool.or_self, Bool.false_eq_true, if_false]

end Weir

/-! ### Flow control -/

section FlowControl

variable {s : State} {now k p : Nat}

theorem fcoMinHoldExpire_of_image (image : (s.upTo now).imageRuns = true) :
    fcoMinHoldExpire s now k = (s.upTo now).fcoUpdate k :=
  if_pos image

theorem pauseRefresh_of_due (pauses : (s.upTo now).pauseUnion p ≠ 0)
    (due : SMap.get (s.upTo now).edg.pauseAt p 0 + (s.upTo now).pauseInterval p ≤ (s.upTo now).now) :
    pauseRefresh s now p = (s.upTo now).sendPause p 0 ((s.upTo now).pauseUnion p) := by
  simp only [pauseRefresh, pauses, Nat.not_lt.mpr due, decide_false, Bool.or_self, Bool.false_eq_true, if_false]

end FlowControl

/-! ### Ticks, delays and the second pulse -/

section Ticks

variable {s v : State} {now d : Nat}

theorem tickBoth_of_due (runs : ((s.upTo now).imageRuns || (s.upTo now).bridgeRuns) = true)
    (due : (s.upTo now).time.tickAt < (s.upTo now).tickNow)
    (ticks : v = { s.upTo now with time := { (s.upTo now).time with
      ticks := ((s.upTo now).time.ticks + 1) % 2 ^ 32, tickAt := (s.upTo now).time.tickAt + 1 } }) :
    tickBoth s now = if v.bridgeRuns then v.stpTimers.ptpTimers else v := by
  subst ticks
  simp only [tickBoth, tick, runs, due, decide_true, Bool.and_self, if_true, State.fireTick]

section Delays

variable {at_ : Nat} {rest : List (Nat × Nat)} (head : s.pmp.delay = (at_, d) :: rest) (due : at_ ≤ s.time.ticks)

include head due

theorem delayExpire_of_delay (waits : (s.desc d).wait = 4) :
    delayExpire s d = (s.endDescWait d uPmp [(0x626, 0)] stOk).schedule := by
  simp only [delayExpire, head, waits, Nat.not_lt.mpr due, ne_eq, not_true_eq_false, decide_false, Bool.or_self,
    Bool.false_eq_true, if_false]

theorem delayExpire_of_flags (waits : (s.desc d).wait = 1) :
    delayExpire s d = ((s.bump Reg.PMP_TIMEOUT_CNT).endDescWait d uPmp [] stTimeout).schedule := by
  simp only [delayExpire, head, waits, Nat.not_lt.mpr due, ne_eq, not_true_eq_false, decide_false, Bool.or_self,
    Bool.false_eq_true, if_false]

end Delays

theorem ppsOutSecond_of_due (released : (s.upTo now).boot.held = false) (due : (s.upTo now).time.ppsAt < (s.upTo now).ppsNow)
    (second : v = { s.upTo now with time := { (s.upTo now).time with ppsAt := (s.upTo now).ppsNow } })
    (enabled : v.on Reg.TIM_PPS_OUT_EN 0 0 = true) : ppsOutSecond s now = ({ v with time := { v.time with
      ppsOut := some (v.now + v.rd Reg.TIM_PPS_WIDTH * 10 ^ 6) } } : State).emit (.pin 8 true) := by
  subst second
  simp only [ppsOutSecond, released, Nat.not_le.mpr due, enabled, decide_false, Bool.or_self, Bool.false_eq_true, if_false, if_true]

theorem ppsOutWidthEnd_of_due {e : Nat} (pulse : (s.upTo now).time.ppsOut = some e) (due : e ≤ (s.upTo now).now) :
    ppsOutWidthEnd s now =
      ({ s.upTo now with time := { (s.upTo now).time with ppsOut := none } } : State).emit (.pin 8 false) := by
  simp only [ppsOutWidthEnd, pulse, due, if_true]

theorem ppsInEdge_of_enabled (released : (s.upTo now).boot.held = false) (enabled : (s.upTo now).on Reg.TIM_PPS_IN_EN 0 0 = true) :
    ppsInEdge s now =
    (let n := (s.upTo now).net ((s.upTo now).rd Reg.TIM_CFG_PPS_DOM)
     ((s.upTo now).setAll [(Reg.TIM_PPSIN_LO_TIME, 0, 0, n), (Reg.TIM_PPSIN_HI_TIME, 0, 0, n / 2 ^ 32)]).timEvent
       Reg.TIM_INT_STATUS_PPS_IN 1) := by
  simp only [ppsInEdge, released, enabled, Bool.not_true, Bool.or_self, Bool.false_eq_true, if_false]

end Ticks

/-! ### Commands of the time unit -/

section Commands

variable {m : State} {p d : Nat} (reach : m.timReach p = true)

include reach

theorem timSnap_of_reach : timSnap m p = (List.range 4).foldl (fun v d =>
      let n := if bitOf (v.rd Reg.TIM_CFG_DOM_EN) d then v.net d else 0
      v.setAll [(Reg.TIM_NET_LO_TIME, d, p, n), (Reg.TIM_NET_HI_TIME, d, p, n / 2 ^ 32)])
    (m.setAll [(Reg.TIM_LOCAL_LO_TIME, 0, p, m.now), (Reg.TIM_LOCAL_HI_TIME, 0, p, m.now / 2 ^ 32)]) := by
  simp only [timSnap, reach, Bool.not_true, Bool.false_eq_true, if_false]

variable (right : (m.isSup p || p == 4) = true)

include right

theorem timStep_of_enabled {v w y : State} {off : Int} (names : v = m.wr Reg.TIM_CMD_STEP_DOM d)
    (enabled : bitOf (v.rd Reg.TIM_CFG_DOM_EN) d = true)
    (offset : off = signed 64 (v.rd Reg.TIM_OFFSET_LO_OFFSET + v.rd Reg.TIM_OFFSET_HI_OFFSET * 2 ^ 32))
    (steps : w = v.setNet d (unsigned 104 ((v.netFrac d : Int) + off * 2 ^ 40)))
    (second : y = if d = w.rd Reg.TIM_CFG_PPS_DOM then { w with time := { w.time with ppsAt := w.ppsNow } } else w) :
    timStep m p d =
      (((y.tickStepped d).gatesStepped d).timEvent Reg.TIM_INT_STATUS_STEPPED 0).wr Reg.TIM_CMD_RESULT stOk := by
  subst names offset steps second
  simp only [timStep, reach, right, enabled, Bool.not_true, Bool.or_self, Bool.false_eq_true, if_false]

theorem timRateWrite_of_right {w : Nat} : timRateWrite m p d w = m.setFld Reg.TIM_RATE_RATE d 0 w := by
  simp only [timRateWrite, reach, right, Bool.not_true, Bool.or_self, Bool.false_eq_true, if_false]

end Commands

/-- The supervisor partition and the control plane may set the time. -/
theorem mayTime_eq_true {m : State} {p : Nat} (right : m.isSup p = true ∨ p = 4) : (m.isSup p || p == 4) = true := by
  rcases right with sup | control
  · rw [sup, Bool.true_or]
  · rw [control, BEq.rfl, Bool.or_true]

/-- Settles O30: each clause is the branch of its operation; a command of the time unit is reached by a host's write that
may issue, and by the control plane under an image. -/
theorem theWeirAndTheTimeUnitAct : Obligations.TheWeirAndTheTimeUnitAct := by
  unfold Obligations.TheWeirAndTheTimeUnitAct
  intro s now te slot p k d part pc dom w u m m4
  refine ⟨fun real image takes i sl next => ?dispatch, fun sl found expired open_ held => ?expire,
    fun c image ready => ?recirculates, fun sup open_ => served_of_hostCmd rfl fun may => ?suspend, fun image => ?fco,
    fun pauses due => ?pause, fun runs due => ?tick, fun at_ rest head due waits => ?delay,
    fun at_ rest head due waits => ?flags, fun released due => ?second, fun e pulse due => ?width,
    fun released enabled => ?edge, served_of_hostCmd rfl fun may => ?snap, fun right control => ?step,
    fun right control => served_of_hostCmd rfl fun may => ?rate⟩
  case dispatch => exact runs_of_row rfl (dispatch_of_droplet real image takes next rfl)
  case expire => exact runs_of_row rfl (holdExpire_of_expired found expired open_ held)
  case recirculates =>
    intro q v i sl names circulates
    exact runs_of_row rfl (recircClassify_of_droplet image ready rfl rfl names circulates)
  case suspend => exact weirHoldSuspendWrite_of_right may.pageAt sup open_
  case fco => exact runs_of_row rfl (fcoMinHoldExpire_of_image image)
  case pause => exact runs_of_row rfl (pauseRefresh_of_due pauses due)
  case tick => exact runs_of_row rfl (tickBoth_of_due runs due rfl)
  case delay => exact runs_of_row rfl (delayExpire_of_delay head due waits)
  case flags => exact runs_of_row rfl (delayExpire_of_flags head due waits)
  case second =>
    intro v enabled
    exact runs_of_row rfl (ppsOutSecond_of_due released due rfl enabled)
  case width => exact runs_of_row rfl (ppsOutWidthEnd_of_due pulse due)
  case edge => exact runs_of_row rfl (ppsInEdge_of_enabled released enabled)
  case snap => exact timSnap_of_reach (reach_of_mayWrite may fun control => absurd part.isLt (Nat.not_lt.mpr control))
  case step =>
    intro v enabled off w y
    exact served_of_hostCmd rfl fun may =>
      timStep_of_enabled (reach_of_mayWrite may control) (mayTime_eq_true right) rfl enabled rfl rfl rfl
  case rate => exact timRateWrite_of_right (reach_of_mayWrite may control) (mayTime_eq_true right)

end Sys2Proof
end

section
/-! The commands of the engines, the helpers and the basins (Chapters 7, 8, 10, 11, 12, 15 and 16). -/

namespace Sys2Proof

open Machine

/-! ### The issue of bundles -/

section Issue

variable {s v w : State} {t : Nat} {hit : Option (Fin 4 × BitVec 27 × Bool)} {err : Option Bool} {moves : List Move}

theorem threadCe_of_packet (packet : t < 1536) : threadCe t = none :=
  if_pos packet

theorem bundleIssue_of_packet (packet : t < 1536) (image : (s.upset hit).imageRuns = true)
    (runs : (s.upset hit).fld Reg.BSN_ENG_ESTATE (t / 8) 0 = 0) :
    bundleIssue s t hit = (s.upset hit).peIssue t (fileUpset hit) := by
  simp only [bundleIssue, threadCe_of_packet packet, image, runs, decide_true, Bool.and_self, if_true]

/-- The state in which the engine of thread t chooses a thread. -/
def calmed (s : State) (t : Nat) : State := (cyclic (t / 8) 0).foldl (fun v x => v.settleFast x) s

theorem peIssue_of_idle (idle : (calmed s t).opportunity (t / 8) = none) :
    s.peIssue t err = (calmed s t).idleOpportunity (t / 8) := by
  unfold State.peIssue
  extract_lets e v
  rw [show v = calmed s t from rfl, idle]

theorem peIssue_of_other {o k : Nat} (chosen : (calmed s t).opportunity (t / 8) = some (o, k)) (other : k ≠ t) :
    s.peIssue t err = calmed s t := by
  unfold State.peIssue
  extract_lets e v
  rw [show v = calmed s t from rfl, chosen]
  exact if_pos other

theorem peIssue_of_chosen {o : Nat} (chosen : (calmed s t).opportunity (t / 8) = some (o, t))
    (turn : v = (calmed s t).setEngine (t / 8) { (calmed s t).engine (t / 8) with
      owner := (o + 1) % 8, lastIdle := if o = t then ((calmed s t).engine (t / 8)).lastIdle else t % 8 })
    (runs : v.atBreakpoint t = false) (plan : v.fileError t err (v.pePlan t) = (.go moves, w)) :
    s.peIssue t err = w.runBundle t moves := by
  unfold State.peIssue
  extract_lets e u
  rw [show u = calmed s t from rfl, chosen]
  refine (if_neg (not_not_intro rfl)).trans ?_
  extract_lets x
  rw [show x = v from turn.symm, if_neg (by rw [runs]; decide), plan]
  rfl

/-- Without an upset of the register file the plan stands. -/
theorem fileError_none (v : State) (t : Nat) (p : Plan) : v.fileError t none p = (p, v) := by
  unfold State.fileError
  split
  · rename_i hard
    cases hard
  · rfl

theorem bundleIssue_of_control {c : Nat} {ws : List W32} (control : threadCe t = some c)
    (issues : (s.upset hit).canIssue t = true) (fetched : ((s.upset hit).settleFast (1536 + c)).ceFetch c = (some (0, ws), v))
    (plan : v.plan (1536 + c) ws = .go moves) : bundleIssue s t hit = v.runBundle (1536 + c) moves := by
  have issue : (s.upset hit).ceIssue c = v.runBundle (1536 + c) moves := by
    unfold State.ceIssue
    extract_lets k u pc
    rw [show u = (s.upset hit).settleFast (1536 + c) from rfl, fetched]
    refine (if_pos rfl).trans ?_
    rw [plan]
    rfl
  simp only [bundleIssue, control, issues, if_true, issue]

theorem breakpointHit_of_issue (issues : s.canIssue t = true) (breaks : s.atBreakpoint t = true) :
    breakpointHit s t = (s.haltThread t).stillCheck (t / 8) := by
  simp only [breakpointHit, issues, breaks, Bool.and_self, if_true]

end Issue

/-! ### Waits and timers -/

section Waits

variable {s : State} {now t e : Nat}

theorem chWaitTimeout_of_due {o : UnitOp} (waiting : SMap.find ((s.upTo now).thread t).ops uCh = some o) (limit : o.limit = some e)
    (due : e ≤ (s.upTo now).now) (blocked : o.wait ≠ 0) :
    chWaitTimeout s now t = ((s.upTo now).endWait t uCh [] stTimeout).bump Reg.BSN_CH_TIMEOUT_CNT := by
  simp only [chWaitTimeout, waiting, limit, Nat.not_lt.mpr due, blocked, decide_false, Bool.or_self, Bool.false_eq_true, if_false]

theorem lockWaitTimeout_of_due {l r : Nat} {wt : LkWait} (waiting : (s.upTo now).queuedOn r = some l)
    (found : ((s.upTo now).lock l).waiters.find? (fun w => w.req == r) = some wt) (limit : wt.limit = some e)
    (due : e ≤ (s.upTo now).now) : lockWaitTimeout s now r =
      ((((s.upTo now).bump Reg.LKG_TIMEOUT_CNT).endLockWait l r stTimeout).leaveQueue l r).schedule := by
  simp only [lockWaitTimeout, waiting, found, limit, Nat.not_lt.mpr due, if_false]

theorem timerExpire_of_due (timer : ((s.upTo now).thread t).timer = some e) (due : e ≤ (s.upTo now).now) :
    timerExpire s now t = ((if t < 1536 then (s.upTo now).logFlagEvent t 7 stOk 0 0 else s.upTo now).updThread t
      fun th => { th with timer := none }).setEvent t evTimer := by
  simp only [timerExpire, timer, due, if_true]

end Waits

/-! ### Helpers -/

section Helpers

variable {s : State} {b h : Nat} {kat : Bool}

theorem helperOrphanEnd_of_none (none_ : (s.helper b h).orphan = none) : helperOrphanEnd s b h = s := by
  simp only [helperOrphanEnd, none_]

theorem helperOrphanEnd_of_kept {k : Nat} (orphan : (s.helper b h).orphan = some (k, false)) :
    helperOrphanEnd s b h = s.setHelper b h { s.helper b h with orphan := none } := by
  simp only [helperOrphanEnd, orphan]

theorem helperOrphanEnd_of_given {k : Nat} (orphan : (s.helper b h).orphan = some (k, true)) :
    helperOrphanEnd s b h = (s.setHelper b h { s.helper b h with orphan := none }).hlpGiveUp b h k := by
  simp only [helperOrphanEnd, orphan]

theorem helperDisable_of_sup {part : Nat} (sup : s.isSup part = true) : helperDisable s part b h =
    (let v := (s.setFld (hlpEn h) b 0 0).setFld (hlpPend h) b 0 0
     if v.fld (hlpState h) b 0 = 1 then v.setFld (hlpState h) b 0 2 else v) := by
  simp only [helperDisable, sup, Bool.not_true, Bool.false_eq_true, if_false]

section Enable

variable {v : State} {part : Nat} (sup : s.isSup part = true) (enabled : v = s.setFld (hlpEn h) b 0 1)

include sup enabled

theorem helperEnable_of_off (off : v.fld (hlpState h) b 0 = 0) (serves : v.inService b = true) :
    helperEnable s part b h kat = v.hlpPowerUp b h kat := by
  subst enabled
  simp only [helperEnable, sup, off, serves, Bool.not_true, Bool.false_eq_true, if_false, if_true]

/-- A helper that shuts down is powered up again once it has. -/
theorem helperEnable_of_shutting (shuts : v.fld (hlpState h) b 0 = 2) :
    helperEnable s part b h kat = v.setFld (hlpPend h) b 0 1 := by
  subst enabled
  simp only [helperEnable, sup, shuts, Bool.not_true, Bool.false_eq_true, if_false]

end Enable

theorem helperShutdownDone_of_idle (shuts : s.fld (hlpState h) b 0 = 2) (idle : s.hlpRuns b h = false) :
    helperShutdownDone s b h kat =
    (let saved := s.saveLive b h
     let v := (saved.setHelper b h { saved.helper b h with live := none, regs := [] }).setFld (hlpState h) b 0 0
     if v.on (hlpPend h) b 0 && v.inService b then (v.setFld (hlpPend h) b 0 0).hlpPowerUp b h kat else v) := by
  simp only [helperShutdownDone, shuts, idle, ne_eq, not_true_eq_false, decide_false, Bool.or_self, Bool.false_eq_true, if_false]

end Helpers

/-! ### Escalations and engines -/

section Engines

variable {s v : State} {now t e : Nat}

theorem faultAckTimeout_of_late (faulted : ((s.upTo now).thread t).state = 3) (open_ : ((s.upTo now).thread t).acked = false)
    (first : ((s.upTo now).thread t).late = false)
    (due : ((s.upTo now).thread t).faultAt + (s.upTo now).stillLimit (engOf t) ≤ (s.upTo now).now) :
    faultAckTimeout s now t = ((s.upTo now).updThread t fun th => { th with late := true }).escalate (engOf t)
      ((s.upTo now).thread t).cause := by
  simp only [faultAckTimeout, faulted, open_, first, due, decide_true, Bool.not_false, Bool.and_self, if_true]

theorem deadlockTimeout_of_late {at_ : Nat} (still : ((s.upTo now).engine e).stillAt = some at_)
    (due : at_ + (s.upTo now).stillLimit e ≤ (s.upTo now).now)
    (deadlock : bitOf ((s.upTo now).thread (8 * e)).events evDeadlock = true) :
    deadlockTimeout s now e =
      ((s.upTo now).setEngine e { (s.upTo now).engine e with stillAt := none }).escalate e 0xF := by
  simp only [deadlockTimeout, still, due, deadlock, decide_true, Bool.and_self, if_true]

theorem escalationPost_of_room {x : Nat} (waits : (s.engine e).escWait = some x) (room : s.fifoFull = false) :
    escalationPost s e =
    (let v := s.setEngine e { s.engine e with escWait := none }
     (v.post (v.engEntry e 10 % 4096) 1).bump Reg.BSN_ESC_CNT) := by
  simp only [escalationPost, waits, room, Bool.false_eq_true, if_false]

theorem engineReset_of_serving (image : s.imageRuns = true) (serves : s.inService (e / 16) = true)
    (works : s.fld Reg.BSN_ENG_ESTATE e 0 ≤ 1) : engineReset s e =
    (let v := (((s.engineHold e).engineDown e).engineStart e).bump Reg.BSN_RESET_CNT
     if (v.engine e).cmdPending then ((v.setEngine e { v.engine e with cmdPending := false }).wr Reg.BSN_ENG_CMD_PENDING 0).eventSup
       Reg.BSN_INT_STATUS_RESET_DONE Reg.BSN_INT_EN_RESET_DONE
     else v) := by
  simp only [engineReset, image, serves, Nat.not_lt.mpr works, decide_false, Bool.not_true, Bool.or_self, Bool.false_eq_true, if_false]

theorem engineSpareSubstitute_of_spare (image : s.imageRuns = true) (serves : s.inService (e / 16) = true)
    (spare : s.hasSpare (e / 16) = true) (works : s.fld Reg.BSN_ENG_ESTATE e 0 ≤ 1) : engineSpareSubstitute s e =
      ((((s.engineHold e).engineDown e).takeSpare e 2).bump Reg.BSN_RESET_CNT).engineStart e := by
  simp only [engineSpareSubstitute, image, serves, spare, Nat.not_lt.mpr works, decide_false, Bool.not_true, Bool.or_self,
    Bool.false_eq_true, if_false]

theorem engineFailNoSpare_of_working {w y : State} (image : s.imageRuns = true) (none_ : s.hasSpare (e / 16) = false)
    (works : s.fld Reg.BSN_ENG_ESTATE e 0 ≤ 1) (fails : v = ((s.engineHold e).engineDown e).setFld Reg.BSN_ENG_ESTATE e 0 2)
    (held : w = { v with fth := { v.fth with heldRegions := v.fth.heldRegions ++ [e / 16] } })
    (out_ : y = (((w.noteRsv 11 2 (e / 16) (e / 16) 0xFFFFFFFF).showDegraded).eventSup Reg.BSN_INT_STATUS_NO_SPARE
      Reg.BSN_INT_EN_NO_SPARE).takeFailedOut) : engineFailNoSpare s e = y := by
  subst fails held out_
  simp only [engineFailNoSpare, image, none_, Nat.not_lt.mpr works, decide_false, Bool.not_true, Bool.or_self,
    Bool.false_eq_true, if_false]

/-- A running test of the engine's own basin goes on. -/
theorem engineFails_of_region (fails : engineFailNoSpare s e = v) (region : v.rd Reg.FTH_ST_STATUS_REGION = e / 16) :
    engineFails s e = v := by
  simp only [engineFails, fails, region, ne_eq, not_true_eq_false, decide_false, Bool.and_false, Bool.false_eq_true, if_false]

theorem postFifoTake_of_desc {d f : Nat} {rest : List (Nat × Nat)} (head : s.pmp.fifo = (d, f) :: rest)
    (used : (s.desc d).state ≠ 0) (runs : (s.desc d).state ≠ 5)
    (takes : v = { s with pmp := { s.pmp with fifo := rest ++ s.pmp.held.take 1, held := s.pmp.held.drop 1 } }) :
    postFifoTake s = (((v.setDesc d { v.desc d with flags := (v.desc d).flags ||| f }).bump Reg.PMP_POST_CNT).endFlagWait d).schedule := by
  have state : (v.desc d).state = (s.desc d).state := by rw [takes]; rfl
  rw [← state] at used runs
  subst takes
  simp only [postFifoTake, head, used, runs, if_false]

theorem basinSwitchBegin_of_basin {map why : Nat} (image : s.imageRuns = true) (awake : s.rd Reg.PWR_STATUS_STATE < 3)
    (low : 1 ≤ map) (high : map ≤ 12) (allowed : s.switchAllowed = true) :
    basinSwitchBegin s map why = s.switchBegin map (map - 1) why := by
  simp only [basinSwitchBegin, image, Nat.not_le.mpr awake, low, high, allowed, decide_true, decide_false, Bool.not_true,
    Bool.or_self, Bool.and_self, Bool.false_eq_true, if_false, if_true]

theorem basinSwitchFinish_of_drained {map basin why : Nat} (switching : s.weir.switching = some (map, basin, why))
    (image : s.imageRuns = true) (drained : s.switchDrained map basin = true) :
    basinSwitchFinish s = if map = 13 then s.mistEntered else if basin < 12 then s.basinIsOut map basin why else s.allBack := by
  simp only [basinSwitchFinish, switching, image, drained, Bool.not_true, Bool.or_self, Bool.false_eq_true, if_false]

end Engines

/-- Settles O31: each clause is the branch of its operation on the thread, the helper, the engine or the switch. -/
theorem enginesHelpersAndBasinsIssueFaultAndRecover : Obligations.EnginesHelpersAndBasinsIssueFaultAndRecover := by
  unfold Obligations.EnginesHelpersAndBasinsIssueFaultAndRecover
  intro s now t te un rq b h kat part e mp why up u m ready calm hc
  refine ⟨fun packet image runs => ⟨fun idle => ?idle, fun o k chosen other => ?other, fun o moves w chosen => ?issue⟩,
    fun v p => fileError_none v t.val p, fun c ws v moves control issues fetched plan => ?control,
    fun issues breaks => ?breakpoint, fun active => ?completes, fun o limit waiting bound due blocked => ?channel,
    fun l wt limit waiting found bound due => ?lock, fun at_ timer due => ?timer,
    ⟨fun none_ => ?orphanNone, fun k orphan => ?orphanKept, fun k orphan => ?orphanGiven⟩,
    fun sup => served_of_hostCmd rfl fun may => ?disable, fun sup => ⟨fun off serves => ?enable, fun shuts => ?enableLater⟩,
    fun shuts idle => ?shutdown, fun faulted open_ first due => ?fault, fun at_ still due deadlock => ?deadlock,
    fun x waits room => ?post, fun image serves works => ?reset, fun image serves spare works => ?spare,
    fun image none_ works => ?fails, fun dd f rest head used runs => ?fifo, fun image awake low high allowed => ?switch,
    fun map basin y switching image drained => ?finish⟩
  case idle => exact runs_of_row rfl ((bundleIssue_of_packet packet image runs).trans (peIssue_of_idle idle))
  case other => exact runs_of_row rfl ((bundleIssue_of_packet packet image runs).trans (peIssue_of_other chosen other))
  case issue =>
    intro v passes plan
    exact runs_of_row rfl ((bundleIssue_of_packet packet image runs).trans (peIssue_of_chosen chosen rfl passes plan))
  case control => exact runs_of_row rfl (bundleIssue_of_control control issues fetched plan)
  case breakpoint => exact runs_of_row rfl (breakpointHit_of_issue issues breaks)
  case completes => exact runs_of_row rfl (if_neg active)
  case channel => exact runs_of_row rfl (chWaitTimeout_of_due waiting bound due blocked)
  case lock => exact runs_of_row rfl (lockWaitTimeout_of_due waiting found bound due)
  case timer => exact runs_of_row rfl (timerExpire_of_due timer due)
  case orphanNone => exact runs_of_row rfl (helperOrphanEnd_of_none none_)
  case orphanKept => exact runs_of_row rfl (helperOrphanEnd_of_kept orphan)
  case orphanGiven => exact runs_of_row rfl (helperOrphanEnd_of_given orphan)
  case disable => exact helperDisable_of_sup sup
  case enable => exact served_of_hostCmd rfl fun may => helperEnable_of_off sup rfl off serves
  case enableLater => exact served_of_hostCmd rfl fun may => helperEnable_of_shutting sup rfl shuts
  case shutdown => exact runs_of_row rfl (helperShutdownDone_of_idle shuts idle)
  case fault => exact runs_of_row rfl (faultAckTimeout_of_late faulted open_ first due)
  case deadlock => exact runs_of_row rfl (deadlockTimeout_of_late still due deadlock)
  case post => exact runs_of_row rfl (escalationPost_of_room waits room)
  case reset => exact runs_of_row rfl (engineReset_of_serving image serves works)
  case spare => exact runs_of_row rfl (engineSpareSubstitute_of_spare image serves spare works)
  case fails =>
    intro v w y region
    exact runs_of_row rfl (engineFails_of_region (engineFailNoSpare_of_working image none_ works rfl rfl rfl) region)
  case fifo => exact runs_of_row rfl (postFifoTake_of_desc head used runs rfl)
  case switch => exact runs_of_row rfl (basinSwitchBegin_of_basin image awake low high allowed)
  case finish => exact runs_of_row rfl (basinSwitchFinish_of_drained switching image drained)

end Sys2Proof
end

section
/-! The commands of the rules (Chapter 5) and of the tables (Chapter 6). -/

namespace Sys2Proof

open Machine

/-- A row of the rule page is served with what its operation makes of the woken state. -/
theorem served_of_ruleCmd {s t : State} {p : Nat} {c : Instr} {f : State → State} (row : exec c s = .next (s.ruleCmd p f))
    (op : f (s.woken p) = t) : Served s p 3 c t :=
  fun may => runs_of_row row ((ruleCmd_runs may).trans op)

/-! ### The learner and ageing -/

section Learner

variable {s : State} {k : Nat} {rest : List LearnReq}

theorem learnProcess_of_learn {fid mac port : Nat} (head : s.tbl.queue = .learn fid mac port :: rest) :
    learnProcess s = ({ s with tbl := { s.tbl with queue := rest } } : State).learn fid mac port := by
  simp only [learnProcess, head]

theorem epCreate_of_create {kind port addr at_ : Nat} (head : s.tbl.queue = .create kind port addr at_ :: rest) :
    epCreate s = (({ s with tbl := { s.tbl with queue := rest } } : State).epSeen kind port addr at_).2 := by
  simp only [epCreate, head]

/-- The visit of the L2 table removes what is old and not static, and makes the rest older. -/
theorem ageingVisit_of_l2 (ages : s.rd Reg.TBL_L2_AGE_AGE_TIME ≠ 0) : ageingVisit s 0 =
    ({ s with tbl := { s.tbl with l2 := (s.tbl.l2.filter fun e => e.2.static_ || decide (e.2.age < 6)).map fun e =>
      if e.2.static_ then e else (e.1, { e.2 with age := e.2.age + 1 }) } } : State).bumpFld Reg.TBL_AGE_CNT 0 0
        (s.tbl.l2.filter fun e => !e.2.static_ && decide (6 ≤ e.2.age)).length := by
  simp only [ageingVisit, ages, if_false, if_true]

theorem ageingVisit_of_space (space : k ≠ 0) (ages : s.fld Reg.TBL_SPACE_AGE_TIME (k - 1) 0 ≠ 0) : ageingVisit s k =
    (s.flowEntries.filter fun e => e.2.space == k - 1 && !e.2.pin).foldl (fun v e =>
      if 6 ≤ e.2.age then (v.flowRemove e.1).bump Reg.TBL_AGE_CNT
      else v.setFlow e.1 (some { e.2 with age := e.2.age + 1 })) s := by
  simp only [ageingVisit, space, ages, if_false]

end Learner

/-! ### Staging, commits and versions -/

section Rules

variable {s v : State} {p : Nat}

section Reached

variable (reach : s.rulReach p = true)

include reach

theorem commitRequest_of_reach (idle : (s.staging p).pending = false)
    (asks : v = (s.setStaging p { s.staging p with pending := true }).setFld Reg.RUL_COMMIT_PENDING 0 p 1) :
    commitRequest s p = { v with rul := { v.rul with queue := v.rul.queue ++ [p] } } := by
  subst asks
  simp only [commitRequest, reach, idle, Bool.not_true, Bool.false_eq_true, if_false]

theorem rulStgWrite_of_ok (ok : s.stageStatus p (s.stageSel p).1 (s.stageSel p).2 true = stOk)
    (answers : v = s.setFld Reg.RUL_STG_CMD_RESULT 0 p stOk) : rulStgWrite s p =
    (let e := (List.range (kindWords (s.stageSel p).1)).map fun n => BitVec.ofNat 32 (v.fld Reg.RUL_STG_DATA n p)
     v.setStaging p { v.staging p with
       entries := SMap.set (v.staging p).entries ((s.stageSel p).1 * 65536 + (s.stageSel p).2) e }) := by
  subst answers
  simp only [rulStgWrite, reach, ok, ne_eq, not_true_eq_false, Bool.not_true, Bool.false_eq_true, if_false]

theorem rulStgRead_of_staged {e : List W32} (ok : s.stageStatus p (s.stageSel p).1 (s.stageSel p).2 false = stOk)
    (answers : v = s.setFld Reg.RUL_STG_CMD_RESULT 0 p stOk)
    (staged : SMap.find (v.staging p).entries ((s.stageSel p).1 * 65536 + (s.stageSel p).2) = some e) : rulStgRead s p =
      v.setAll ((List.range (kindWords (s.stageSel p).1)).map fun n => (Reg.RUL_STG_DATA, n, p, entryWord e n)) := by
  subst answers
  simp only [rulStgRead, reach, ok, staged, ne_eq, not_true_eq_false, Bool.not_true, Bool.false_eq_true, if_false]

theorem rulStgClear_of_idle (image : s.bridgeRuns = false) (idle : (s.staging p).pending = false) : rulStgClear s p =
    (s.setFld Reg.RUL_STG_CMD_RESULT 0 p stOk).setStaging p { s.staging p with entries := [] } := by
  simp only [rulStgClear, reach, image, idle, ne_eq, not_true_eq_false, Bool.not_true, Bool.false_eq_true, if_false]

/-! Under the fallback bridge nothing is staged. -/

variable (bridge : s.bridgeRuns = true)

include bridge

theorem rulStgWrite_of_bridge : rulStgWrite s p = s.setFld Reg.RUL_STG_CMD_RESULT 0 p stInvalid := by
  simp only [rulStgWrite, reach, State.stageStatus, bridge, Bool.not_true, Bool.false_eq_true, if_false, if_true]
  exact if_pos (by decide)

theorem rulStgRead_of_bridge : rulStgRead s p = s.setFld Reg.RUL_STG_CMD_RESULT 0 p stInvalid := by
  simp only [rulStgRead, reach, State.stageStatus, bridge, Bool.not_true, Bool.false_eq_true, if_false, if_true]
  exact if_pos (by decide)

theorem rulStgClear_of_bridge : rulStgClear s p = s.setFld Reg.RUL_STG_CMD_RESULT 0 p stInvalid := by
  simp only [rulStgClear, reach, bridge, Bool.not_true, Bool.false_eq_true, if_false, if_true]
  exact if_pos (by decide)

end Reached

section Bridge

variable (bridge : s.bridgeRuns = true)

include bridge

theorem commitStatus_of_bridge : s.commitStatus p = stInvalid := by
  simp only [State.commitStatus, bridge, if_true]

section Linked

variable (host : p < 4) (linked : (s.linkOf p).isSome = true) (idle : s.on Reg.HST_STATUS_RESET_BUSY 0 p = false)

include host linked idle

theorem rulReach_of_bridge : s.rulReach p = true := by
  simp only [State.rulReach, host, linked, idle, bridge, Bool.not_false, Bool.or_true, Bool.and_self, if_true]

/-- Under the fallback bridge a linked partition's command reaches the rule page. -/
theorem ruleCmd_of_bridge (f : State → State) : s.ruleCmd p f = f s := by
  simp only [State.ruleCmd, bridge, host, linked, idle, decide_true, Bool.not_false, Bool.and_self, if_true]

end Linked

end Bridge

theorem commitExecute_of_ok {r : Nat} {rs : List Nat} (head : s.rul.queue = r :: rs)
    (takes : v = { s with rul := { s.rul with queue := rs } }) (ok : v.commitStatus r = stOk) :
    commitExecute s = v.commitOk r := by
  subst takes
  simp only [commitExecute, head, ok, if_true]

theorem commitExecute_of_refused {r : Nat} {rs : List Nat} (head : s.rul.queue = r :: rs)
    (takes : v = { s with rul := { s.rul with queue := rs } }) (refused : v.commitStatus r ≠ stOk)
    (room : v.commitStatus r ≠ stBusy) : commitExecute s =
      ((v.setStaging r { v.staging r with pending := false }).setAll [(Reg.RUL_COMMIT_RESULT, 0, r, v.commitStatus r),
        (Reg.RUL_COMMIT_PENDING, 0, r, 0)]).event Reg.RUL_INT_STATUS_COMMIT_FAIL Reg.RUL_INT_EN_COMMIT_FAIL r r := by
  subst takes
  simp only [commitExecute, head, refused, room, if_false]

theorem versionRetire_of_drained {n : Nat} (drains : (s.version n).state = 2) (refs : (s.version n).refs = 0)
    (pins : (s.version n).pins = 0) : versionRetire s n =
      (List.range 4).foldl (fun v p => v.event Reg.RUL_INT_STATUS_RETIRED Reg.RUL_INT_EN_RETIRED 0 p)
        ((s.setVersion n {}).logRetired (s.version n).number).showRules := by
  simp only [versionRetire, drains, refs, pins, ne_eq, not_true_eq_false, decide_false, Bool.or_self, Bool.false_eq_true, if_false]

theorem rulPin_of_sup {num : Nat} {f : State → Nat → Nat × State} (page : s.pageOk p 3 = true) (sup : s.isSup p = true) :
    rulPin s p num f =
    (let r := f (s.wr Reg.RUL_PIN_VERSION num) num
     r.2.wr Reg.RUL_PIN_RESULT r.1) := by
  simp only [rulPin, page, sup, Bool.not_true, Bool.or_self, Bool.false_eq_true, if_false]

end Rules

/-! ### Table commands -/

section Tables

variable {s : State} {p i : Nat} {b : Bool}

theorem tblDelete_of_entry (passes : TblPasses s p 2)
    (selected : s.tblSelected p (s.fld Reg.TBL_SEL_TABLE 0 p) = (some i, b)) : tblDelete s p =
    (if s.fld Reg.TBL_SEL_TABLE 0 p = 0 then { s with tbl := { s.tbl with l2 := SMap.erase s.tbl.l2 i } }
      else if s.fld Reg.TBL_SEL_TABLE 0 p = 1 then s.flowRemove i else s.epFree i).tblDone p stOk := by
  refine (passes _).trans ?_
  simp only [selected]

theorem tblRead_of_entry (passes : TblPasses s p 3)
    (selected : s.tblSelected p (s.fld Reg.TBL_SEL_TABLE 0 p) = (some i, b)) :
    tblRead s p = (s.tblShow p (s.fld Reg.TBL_SEL_TABLE 0 p) i).tblDone p stOk := by
  refine (passes _).trans ?_
  simp only [selected]

theorem tblUpdate_of_entry (passes : TblPasses s p 4)
    (selected : s.tblSelected p (s.fld Reg.TBL_SEL_TABLE 0 p) = (some i, b)) : tblUpdate s p =
    (let w := s.tblData p 2
     let seen := if (s.epRec i).state = bits w 0 3 then (s.epRec i).seen else s.net 0 % 2 ^ 64
     (s.setEp i { s.epRec i with state := bits w 0 3, zone := bits w 8 3, cls := bits w 16 8, seen := seen }).tblDone p stOk) := by
  refine (passes _).trans ?_
  simp only [selected]

theorem tblNext_of_entry (passes : TblPasses s p 6) (next : s.tblAfter p (s.fld Reg.TBL_SEL_TABLE 0 p) = some i) :
    tblNext s p = (s.tblShow p (s.fld Reg.TBL_SEL_TABLE 0 p) i).tblDone p stOk := by
  refine (passes _).trans ?_
  simp only [next]

theorem tblFlushDone_of_job {job : Nat × Nat × Option Nat × Option Nat} (runs : SMap.find s.tbl.flush p = some job) :
    tblFlushDone s p =
    (let v : State := { s with tbl := { s.tbl with flush := SMap.erase s.tbl.flush p } }
     (((v.setFld Reg.TBL_CMD_FLUSH_BUSY 0 p 0).setFld Reg.TBL_CMD_PENDING 0 p 0).event
       Reg.TBL_INT_STATUS_FLUSH_DONE Reg.TBL_INT_EN_FLUSH_DONE p p).tblRelease) := by
  simp only [tblFlushDone, runs]

end Tables

/-- Settles O32: each clause is the branch of its operation; a table command that passes its checks runs its function on
the selected table. -/
theorem rulesAndTablesAreStagedCommittedAndServed : Obligations.RulesAndTablesAreStagedCommittedAndServed := by
  unfold Obligations.RulesAndTablesAreStagedCommittedAndServed
  intro s pr p num m mp k table older
  refine ⟨fun fid mac port rest head => ?learn, fun kind port addr at_ rest head => ?create, fun ages => ?ages,
    fun k space ages => ?agesSpace, fun reach idle => ?request, fun r rs head => ⟨fun ok => ?commits, fun refused room => ?refuses⟩,
    fun n drains refs pins => ?retires, fun reach ok => ?stages, ?staged, fun reach image idle => ?clears,
    fun bridge linked idle => ?bridge, fun sup => ⟨served_of_hostCmd rfl fun may => ?pins, served_of_hostCmd rfl fun may => ?unpins⟩,
    fun passes => served_of_hostCmd rfl fun may => passes _, fun i b passes selected => served_of_hostCmd rfl fun may => ?delete,
    fun i b passes selected => served_of_hostCmd rfl fun may => ?read,
    fun i b passes selected => ?update, fun passes => served_of_hostCmd rfl fun may => passes _,
    fun v sp port fid => ⟨rfl, rfl⟩, fun job runs => ?flushed, fun i passes next => served_of_hostCmd rfl fun may => ?next⟩
  case learn => exact runs_of_row rfl (learnProcess_of_learn head)
  case create => exact runs_of_row rfl (epCreate_of_create head)
  case ages => exact runs_of_row rfl (ageingVisit_of_l2 ages)
  case agesSpace => exact runs_of_row rfl (ageingVisit_of_space space ages)
  case request => exact served_of_ruleCmd rfl (commitRequest_of_reach reach idle rfl)
  case commits => exact runs_of_row rfl (commitExecute_of_ok head rfl ok)
  case refuses => exact runs_of_row rfl (commitExecute_of_refused head rfl refused room)
  case retires => exact runs_of_row rfl (versionRetire_of_drained drains refs pins)
  case stages => exact served_of_ruleCmd rfl (rulStgWrite_of_ok reach ok rfl)
  case staged =>
    intro e reach ok v staged
    exact served_of_ruleCmd rfl (rulStgRead_of_staged reach ok rfl staged)
  case clears => exact served_of_ruleCmd rfl (rulStgClear_of_idle reach image idle)
  case bridge =>
    have reach := rulReach_of_bridge bridge p.isLt linked idle
    have row := ruleCmd_of_bridge bridge p.isLt linked idle
    exact ⟨runs_of_row rfl ((row _).trans (rulStgWrite_of_bridge reach bridge)),
      runs_of_row rfl ((row _).trans (rulStgRead_of_bridge reach bridge)),
      runs_of_row rfl ((row _).trans (rulStgClear_of_bridge reach bridge)), commitStatus_of_bridge bridge⟩
  case pins => exact rulPin_of_sup may.pageAt sup
  case unpins => exact rulPin_of_sup may.pageAt sup
  case delete => exact tblDelete_of_entry passes selected
  case read => exact tblRead_of_entry passes selected
  case update => exact served_of_hostCmd rfl fun may => tblUpdate_of_entry passes selected
  case flushed => exact runs_of_row rfl (tblFlushDone_of_job runs)
  case next => exact tblNext_of_entry passes next

end Sys2Proof
end

section
/-! The commands of the buffer pools (Chapter 12) and of the memory system (Chapter 13). -/

namespace Sys2Proof

open Machine

/-! ### Pools -/

section Pools

variable {s v : State} {p part : Nat}

theorem poolRefillDone_of_refilling (refills : (s.pool p).refilling = true) :
    poolRefillDone s p = (s.endRefill p).resumeIntake ((s.endRefill p).edg.granted.length + 1) := by
  simp only [poolRefillDone, refills, Bool.not_true, Bool.false_eq_true, if_false]

theorem poolSpillDone_of_spilling (spills : (s.pool p).spilling = true) :
    poolSpillDone s p = (s.endSpill p).resumeIntake ((s.endSpill p).edg.granted.length + 1) := by
  simp only [poolSpillDone, spills, Bool.not_true, Bool.false_eq_true, if_false]

/-- A scrubbed buffer holds zeros; one that is lost is only uncharged. -/
theorem bufferScrubDone_of_scrubbing {n h : Nat} {w : State} (scrubs : (s.pool p).scrubbing.contains h = true)
    (size : n = s.poolSize p * 256)
    (ends : v = s.setPool p { s.pool p with scrubbing := (s.pool p).scrubbing.erase h })
    (zeros : w = v.ipdWrite (v.poolBase p + h * n) (List.replicate n 0)) :
    bufferScrubDone s p h = if (s.pool p).lost.contains h then w.uncharge p h else w.returnHandle p h := by
  subst size ends zeros
  simp only [bufferScrubDone, scrubs, Bool.not_true, Bool.false_eq_true, if_false]

section Supervisor

variable (page : s.pageOk part 5 = true) (sup : s.isSup part = true)

include page sup

theorem cisQuotaWrite_of_sup {w : Nat} : cisQuotaWrite s part p w =
    (let k := s.fld Reg.CIS_SEL_POOL 0 part
     s.setPool k { s.pool k with quota := SMap.put (s.pool k).quota p (w % 2 ^ 24) 0 }) := by
  simp only [cisQuotaWrite, page, sup, Bool.not_true, Bool.or_self, Bool.false_eq_true, if_false]

theorem cisErrPop_of_entry {e : ErrEnt} {es : List ErrEnt} (oldest : s.cis.errs = e :: es) : cisErrPop s part =
    ({ s with cis := { s.cis with errs := es } } : State).setAll ((Reg.CIS_ERR_POP_RESULT, 0, 0, stOk) ::
      (Reg.CIS_STATUS_ERR_COUNT, 0, 0, es.length) :: (List.range 4).map fun n => (Reg.CIS_ERR_DATA_DATA, n, 0, e.word n)) := by
  simp only [cisErrPop, page, sup, oldest, Bool.not_true, Bool.or_self, Bool.false_eq_true, if_false]

theorem cisErrPop_of_empty (empty : s.cis.errs = []) : cisErrPop s part =
    s.setAll ((Reg.CIS_ERR_POP_RESULT, 0, 0, stEmpty) :: (List.range 4).map fun n => (Reg.CIS_ERR_DATA_DATA, n, 0, 0)) := by
  simp only [cisErrPop, page, sup, empty, Bool.not_true, Bool.or_self, Bool.false_eq_true, if_false]

end Supervisor

theorem cisPoolCountRead_of_page (page : s.pageReads part 5 = true) : cisPoolCountRead s part =
    (let k := s.fld Reg.CIS_SEL_POOL 0 part
     let count := if s.poolEn k then s.poolCount k else 0
     let own (n : Nat) : Nat := if k = 0 then 0 else n
     (s.setAll ([(Reg.CIS_POOL_COUNT_COUNT, 0, 0, count),
       (Reg.CIS_POOL_FREE_FREE, 0, 0, if s.poolEn k then s.free_ k else 0),
       (Reg.CIS_POOL_LOST_LOST, 0, 0, (s.pool k).lost.length), (Reg.CIS_POOL_CACHE_CACHED, 0, 0, own (s.pool k).cache.length),
       (Reg.CIS_POOL_CACHE_REFILLING, 0, 0, own (flagBit (s.pool k).refilling)),
       (Reg.CIS_POOL_CACHE_SPILLING, 0, 0, own (flagBit (s.pool k).spilling))] ++
         (List.range 5).map fun n => (Reg.CIS_USED_USED, n, 0, SMap.get (s.pool k).used n 0))).emit (.reg part count)) := by
  simp only [cisPoolCountRead, page, Bool.not_true, Bool.false_eq_true, if_false]

end Pools

/-! ### DRAM commands -/

section Dram

variable {s u v : State} {now pc : Nat} {aged : PChan} {r : DramReq}

/-- The queue of a channel with its old requests promoted, as the choice of a command sees it. -/
structure Chooses (s u : State) (now pc : Nat) (aged : PChan) (r : DramReq) : Prop where
  serves : (s.upTo now).pcServes pc = true
  ages : aged = { (s.upTo now).pchan pc with
    queue := ((s.upTo now).pchan pc).queue.map (fun q => if q.cls != 0 &&
      (s.upTo now).rd Reg.IPD_CFG_AGE_LIMIT * 100 ≤ (s.upTo now).now - q.at_ && !q.promoted
      then { q with promoted := true } else q)
    draining := ((s.upTo now).pchan pc).drain }
  counts : u = ((s.upTo now).setPchan pc aged).bumpFld Reg.IPD_PROMOTE_CNT 0 0
    (((s.upTo now).pchan pc).queue.filter fun q => q.cls != 0 &&
      decide ((s.upTo now).rd Reg.IPD_CFG_AGE_LIMIT * 100 ≤ (s.upTo now).now - q.at_) && !q.promoted).length
  chosen : chooseReq u.now ((s.upTo now).rd Reg.IPD_CFG_AGE_LIMIT * 100)
    (if aged.draining && !(aged.queued.filter fun q => q.write).isEmpty then aged.queued.filter fun q => q.write
      else aged.queued) = some r

theorem ipdCommandIssue_of_open {x : Nat} (chooses : Chooses s u now pc aged r)
    (row : SMap.find aged.openRow (u.place r.addr).2.1 = some x) :
    ipdCommandIssue s now pc = if x = (u.place r.addr).2.2 then u.issueColumn pc aged r
      else u.setPchan pc { aged with openRow := SMap.erase aged.openRow (u.place r.addr).2.1 } := by
  obtain ⟨serves, ages, counts, chosen⟩ := chooses
  subst ages counts
  simp only [ipdCommandIssue, serves, chosen, row, Bool.not_true, Bool.false_eq_true, if_false]

theorem ipdCommandIssue_of_closed {act : List (Nat × Nat) × Bool} (chooses : Chooses s u now pc aged r)
    (closed : SMap.find aged.openRow (u.place r.addr).2.1 = none)
    (activates : act = activate (u.rd Reg.IPD_NR_CFG_NR_THRESH) (u.place r.addr).2.2 (SMap.get aged.acts (u.place r.addr).2.1 []))
    (opens : v = u.setPchan pc { aged with
      openRow := SMap.set aged.openRow (u.place r.addr).2.1 (u.place r.addr).2.2
      acts := SMap.put aged.acts (u.place r.addr).2.1 act.1 [] }) :
    ipdCommandIssue s now pc = if act.2 then v.bump Reg.IPD_NREF_CNT else v := by
  obtain ⟨serves, ages, counts, chosen⟩ := chooses
  subst opens activates ages counts
  simp only [ipdCommandIssue, serves, chosen, closed, Bool.not_true, Bool.false_eq_true, if_false]

theorem ipdAccessComplete_of_oldest {ecc : Nat} {rs : List DramReq} (oldest : (s.pchan pc).issued = r :: rs)
    (ends : v = s.setPchan pc { s.pchan pc with issued := rs }) :
    ipdAccessComplete s pc ecc = if r.write || v.offlineAt r.addr then v else v.wordFound r.addr ecc := by
  subst ends
  simp only [ipdAccessComplete, oldest]

/-- A line without a word to correct is only read. -/
theorem patrolScrub_of_clean {line : Nat} {ecs : List Nat} (online : s.offlineAt (64 * line) = false)
    (clean : ((List.range 8).filter fun i => ecs.getD i 0 == 1) = [])
    (passes : v = { s with mem := { s.mem with
      scrubPass := if line ≤ s.mem.scrubLast then s.mem.scrubPass + 1 else s.mem.scrubPass, scrubLast := line } }) :
    patrolScrub s line ecs = (List.range 8).foldl (fun v i => v.wordFound (64 * line + 8 * i) (ecs.getD i 0))
      (v.ipdReq (64 * line) false clsBulk) := by
  subst passes
  simp only [patrolScrub, online, clean, List.isEmpty_nil, Bool.false_eq_true, if_false, if_true]

theorem trackingStep_of_online {ends : Bool} (online : bitOf (s.rd Reg.IPD_OFFLINE_PC) pc = false) : trackingStep s pc ends =
    if ends then (s.bump Reg.IPD_TRACK_CNT).askRetrain pc else s.bump Reg.IPD_TRACK_CNT := by
  simp only [trackingStep, online, Bool.false_eq_true, if_false]

end Dram

/-! ### Retraining and retirement -/

section Training

variable {s v w : State} {pc : Nat}

section Start

variable (idle : s.on Reg.IPD_STATUS_FULL_TRAIN 0 0 = false) (online : bitOf (s.rd Reg.IPD_OFFLINE_PC) pc = false)
  (trained : s.on Reg.IPD_STATUS_TRAINED 0 0 = true)

include idle online trained

theorem fullRetrainStart_of_empty (empty : s.mem.retrainQ = []) : fullRetrainStart s pc =
    s.setAll [(Reg.IPD_STATUS_FULL_TRAIN, 0, 0, 1), (Reg.IPD_STATUS_FT_PC, 0, 0, pc)] := by
  simp only [fullRetrainStart, idle, online, trained, empty, Bool.not_true, Bool.or_self, Bool.false_eq_true, if_false]

theorem fullRetrainStart_of_head {qs : List Nat} (head : s.mem.retrainQ = pc :: qs) : fullRetrainStart s pc =
    ({ s with mem := { s.mem with retrainQ := qs } } : State).setAll
      [(Reg.IPD_STATUS_FULL_TRAIN, 0, 0, 1), (Reg.IPD_STATUS_FT_PC, 0, 0, pc)] := by
  simp only [fullRetrainStart, idle, online, trained, head, Bool.not_true, Bool.or_self, Bool.false_eq_true, if_false, if_true]

end Start

section End

variable {calm : PChan} {tmp mrg : Nat}
  (trains : (s.on Reg.IPD_STATUS_FULL_TRAIN 0 0 && s.rd Reg.IPD_STATUS_FT_PC == pc) = true)
  (ends : v = (s.wr Reg.IPD_STATUS_FULL_TRAIN 0).bump Reg.IPD_RETRAIN_CNT)
  (calms : calm = { v.pchan pc with openRow := [], ceTimes := [] })

include trains ends calms

theorem fullRetrainEnd_of_working : fullRetrainEnd s pc true tmp mrg =
    (v.setPchan pc { calm with temp := tmp, margin := mrg }).eventSup
      Reg.IPD_INT_STATUS_RETRAIN_DONE Reg.IPD_INT_EN_RETRAIN_DONE := by
  subst calms ends
  simp only [fullRetrainEnd, trains, Bool.not_true, Bool.false_eq_true, if_false, if_true]

/-- A channel without a working setting waits for its retirement. -/
theorem fullRetrainEnd_of_failing (retires : w = v.setPchan pc calm) : fullRetrainEnd s pc false tmp mrg =
    if w.mem.retireQ.contains pc then w else { w with mem := { w.mem with retireQ := w.mem.retireQ ++ [pc] } } := by
  subst retires calms ends
  simp only [fullRetrainEnd, trains, Bool.not_true, Bool.false_eq_true, if_false]

end End

theorem pcRetireStart_of_spare {w16 w33 : Bool} {sp why : Nat} (released : s.boot.held = false)
    (trained : s.on Reg.IPD_STATUS_TRAINED 0 0 = true) (idle : s.on Reg.IPD_STATUS_COPYING 0 0 = false)
    (online : bitOf (s.rd Reg.IPD_OFFLINE_PC) pc = false) (trigger : why = if s.mem.retireQ.contains pc then 6 else 2)
    (spare : ({ s with mem := { s.mem with retireQ := s.mem.retireQ.filter (· != pc) } } : State).trySpares pc why
      (fun x => if x = 16 then w16 else w33) (spareOrder pc) = (some sp, v)) :
    pcRetireStart s pc w16 w33 = (v.setPchan pc { v.pchan pc with spare := some (sp, why) }).setAll
      [(Reg.IPD_STATUS_COPYING, 0, 0, 1), (Reg.IPD_STATUS_COPY_PC, 0, 0, pc)] := by
  subst trigger
  simp only [pcRetireStart, released, trained, idle, online, spare, Bool.not_true, Bool.or_self, Bool.false_eq_true, if_false]

/-- With no word lost in the copy, the spare stands in the channel's place. -/
theorem pcRetireComplete_of_clean {sp why : Nat} {bad : List Nat} (copies : (s.pchan pc).spare = some (sp, why))
    (clean : bad.filter (fun x => decide (x < 2 ^ 30) && s.pcOf (8 * x) == pc) = [])
    (calms : v = s.setPchan pc { s.pchan pc with spare := none, openRow := [], acts := [], ceTimes := [] })
    (stands : w = { v with mem := { v.mem with
      phys := SMap.set v.mem.phys pc sp, sparesGone := v.mem.sparesGone ++ [sp]
      spareRows := v.mem.spareRows.filter fun r => r / 2 ^ 18 != pc } }) :
    pcRetireComplete s pc bad = (((w.setAll [(Reg.IPD_STATUS_COPYING, 0, 0, 0),
      (Reg.IPD_STATUS_COPY_PC, 0, 0, 0)]).noteRsv 5 why pc (s.physOf pc) sp).showIpd.eventSup
        Reg.FTH_ST_INT_STATUS_SPARE_IN Reg.FTH_ST_INT_EN_EN).eventSup Reg.IPD_INT_STATUS_RETIRED Reg.IPD_INT_EN_RETIRED := by
  subst calms stands
  simp only [pcRetireComplete, copies, clean, List.foldl_nil]

end Training

/-! ### Caches -/

section Caches

variable {s v : State} {c line : Nat}

theorem cacheFillComplete_of_new {me : Miss}
    (miss : ((s.cache c).misses.take (cacheGeo c).entries).find? (fun x => x.addr == 64 * line) = some me)
    (last : nextCache c = none)
    (asks : v = (s.setCache c { s.cache c with misses := (s.cache c).misses.filter fun x => x.addr != 64 * line }).askWaiting c)
    (new : (v.cache c).whereIs c (64 * line) = 0) (online : v.offlineAt (64 * line) = false)
    (kept : (me.prefetch && me.waiters.isEmpty) = false) : cacheFillComplete s c line =
      (((v.fetchLine c (64 * line)).2.install c (v.fetchLine c (64 * line)).1).serveWaiters c me.waiters).serveMaint c (64 * line)
        me.maint := by
  subst asks
  simp only [cacheFillComplete, miss, last, new, online, kept, ne_eq, not_true_eq_false, Bool.false_eq_true, if_false]

theorem evictionWriteback_of_line {l : Line} {ls : List Line} (oldest : (s.cache c).evict = l :: ls) :
    evictionWriteback s c = (s.setCache c { s.cache c with evict := ls }).writeBack c l := by
  simp only [evictionWriteback, oldest]

end Caches

/-- Settles O33: each clause is the branch of its operation on the pool, the channel or the cache. -/
theorem theMemorySystemMovesLinesAndKeepsItsChannels : Obligations.TheMemorySystemMovesLinesAndKeepsItsChannels := by
  unfold Obligations.TheMemorySystemMovesLinesAndKeepsItsChannels
  intro s now pool hd part p5 w pc ecc bank ps w16 w33 line ecs tmp mrg bad ca u m limit old aged u1 writes dram
  refine ⟨fun refills => ?refill, fun spills => ?spill, fun scrubs => ?scrub, fun sup => served_of_hostCmd rfl fun may => ?quota,
    fun e es sup oldest => served_of_hostCmd rfl fun may => ?pop, fun sup empty => served_of_hostCmd rfl fun may => ?popEmpty,
    fun may => ?count, fun r serves chosen x row => ?opened, fun r serves chosen closed => ?closed,
    fun r rs oldest => ?completes, rfl, fun online clean => ?patrol, fun online => ?track,
    fun idle online trained => ⟨fun empty => ?startEmpty, fun qs head => ?startHead⟩, fun trains => ?ends, ?retires,
    fun sp why copies clean => ?replaced, fun me miss last => ?fills, fun l ls oldest => ?evicts⟩
  case refill => exact runs_of_row rfl (poolRefillDone_of_refilling refills)
  case spill => exact runs_of_row rfl (poolSpillDone_of_spilling spills)
  case scrub => exact runs_of_row rfl (bufferScrubDone_of_scrubbing scrubs rfl rfl rfl)
  case quota => exact cisQuotaWrite_of_sup may.pageAt sup
  case pop => exact cisErrPop_of_entry may.pageAt sup oldest
  case popEmpty => exact cisErrPop_of_empty may.pageAt sup empty
  case count => exact runs_of_row rfl ((hostGet_runs may).trans (cisPoolCountRead_of_page may.pageAt))
  case opened =>
    have chooses : Chooses s u1 now pc.val aged r := ⟨serves, rfl, rfl, chosen⟩
    exact runs_of_row rfl (ipdCommandIssue_of_open chooses row)
  case closed =>
    have chooses : Chooses s u1 now pc.val aged r := ⟨serves, rfl, rfl, chosen⟩
    exact runs_of_row rfl (ipdCommandIssue_of_closed chooses closed rfl rfl)
  case completes => exact runs_of_row rfl (ipdAccessComplete_of_oldest oldest rfl)
  case patrol => exact runs_of_row rfl (patrolScrub_of_clean online clean rfl)
  case track => exact runs_of_row rfl (trackingStep_of_online online)
  case startEmpty => exact runs_of_row rfl (fullRetrainStart_of_empty idle online trained empty)
  case startHead => exact runs_of_row rfl (fullRetrainStart_of_head idle online trained head)
  case ends => exact ⟨runs_of_row rfl (fullRetrainEnd_of_working trains rfl rfl),
      runs_of_row rfl (fullRetrainEnd_of_failing trains rfl rfl rfl)⟩
  case retires =>
    intro sp v released trained idle online why spare
    exact runs_of_row rfl (pcRetireStart_of_spare released trained idle online rfl spare)
  case replaced => exact runs_of_row rfl (pcRetireComplete_of_clean copies clean rfl rfl)
  case fills =>
    intro v new online kept
    exact runs_of_row rfl (cacheFillComplete_of_new miss last rfl new online kept)
  case evicts => exact runs_of_row rfl (evictionWriteback_of_line oldest)

end Sys2Proof
end

section
/-! The commands of the hosts to engines, descriptors and locks (Chapters 7, 15 and 16). -/

namespace Sys2Proof

open Machine

/-! ### Engines -/

section Engines

variable {s v : State} {p e : Nat}

section Commands

variable (sup : s.isSup p = true) (image : s.imageRuns = true) (idle : s.on Reg.BSN_ENG_CMD_PENDING 0 0 = false) (exists_ : e ≤ 191)

include sup image idle exists_

theorem engCmd_runs (f : State → State) : s.engCmd p e f = f (s.wr Reg.BSN_ENG_CMD_ENGINE e) := by
  simp only [State.engCmd, sup, image, idle, Nat.not_lt.mpr exists_, Bool.not_true, Bool.or_self, Bool.false_eq_true, if_false]

theorem bsnEngReset_of_running (runs : (s.wr Reg.BSN_ENG_CMD_ENGINE e).fld Reg.BSN_ENG_ESTATE e 0 = 0)
    (asks : v = ((s.wr Reg.BSN_ENG_CMD_ENGINE e).engResult stOk).wr Reg.BSN_ENG_CMD_PENDING 1) :
    bsnEngReset s p e = (v.setEngine e { v.engine e with cmdPending := true }).engineHold e := by
  subst asks
  refine (engCmd_runs sup image idle exists_ _).trans ?_
  simp only [runs, Nat.zero_ne_one, ne_eq, not_true_eq_false, if_false]

theorem bsnEngSwap_of_spare (spare : (s.wr Reg.BSN_ENG_CMD_ENGINE e).hasSpare (e / 16) = true)
    (allowed : (s.wr Reg.BSN_ENG_CMD_ENGINE e).switchAllowed = true)
    (asks : v = ((s.wr Reg.BSN_ENG_CMD_ENGINE e).engResult stOk).wr Reg.BSN_ENG_CMD_PENDING 1) :
    bsnEngSwap s p e = (v.setEngine e { v.engine e with swap := true }).switchBegin (1 + e / 16) (e / 16) 4 := by
  subst asks
  refine (engCmd_runs sup image idle exists_ _).trans ?_
  simp only [spare, allowed, Bool.not_true, Bool.false_eq_true, if_false]

theorem bsnEngAckEsc_of_pending (pending : (s.wr Reg.BSN_ENG_CMD_ENGINE e).on Reg.BSN_ENG_ESC_PENDING e 0 = true) :
    bsnEngAckEsc s p e = (((s.wr Reg.BSN_ENG_CMD_ENGINE e).engResult stOk).setFld Reg.BSN_ENG_ESC_PENDING e 0 0).setEngine e
      { (s.wr Reg.BSN_ENG_CMD_ENGINE e).engine e with escWait := none } := by
  refine (engCmd_runs sup image idle exists_ _).trans ?_
  simp only [pending, Bool.not_true, Bool.false_eq_true, if_false]

end Commands

end Engines

/-! ### Descriptors and control engines -/

section Pump

variable {s v : State} {p d f w c : Nat} (page : s.pageOk p 8 = true)

include page

theorem pmpPostWrite_of_flags (desc : d = w % 4096) (flags : f = bits w 16 16) (names : v = s.setFld Reg.PMP_POST_DESC 0 p d)
    (some_ : f ≠ 0) (host : f % 256 = 0) (used : (v.desc d).state ≠ 0) (right : (v.desc d).hostPart = p ∨ v.isSup p = true)
    (room : v.fifoFull = false) : pmpPostWrite s p w = (v.post d f).setFld Reg.PMP_POST_STAT_RESULT 0 p stOk := by
  have may : (decide ((v.desc d).hostPart ≠ p) && !v.isSup p) = false := by
    rcases right with own | sup
    · rw [decide_eq_false (not_not_intro own), Bool.false_and]
    · rw [sup, Bool.not_true, Bool.and_false]
  subst desc flags names
  simp only [pmpPostWrite, page, some_, host, used, may, room, ne_eq, not_true_eq_false, decide_false, Bool.not_true, Bool.or_self,
    Bool.false_eq_true, if_false]

theorem pmpCeRestart_of_stopped (sup : s.isSup p = true) (names : v = s.wr Reg.PMP_CE_CMD_CE c) (stopped : (v.ce c).state = 2)
    (free : v.fth.heldRegions.contains (16 + c) = false) :
    pmpCeRestart s p c = (((v.wr Reg.PMP_CE_CMD_RESULT stOk).setCe c { v.ce c with state := 0 }).select c).schedule := by
  subst names
  simp only [pmpCeRestart, page, sup, stopped, free, ne_eq, not_true_eq_false, decide_false, Bool.not_true, Bool.or_self,
    Bool.false_eq_true, if_false]

end Pump

/-! ### A host's requests to the Lockgate -/

section Requests

variable {s v w : State} {p st : Nat}

theorem lkgHostRequest_of_page {op lock n prio tmo : Nat} (page : s.pageOk p 7 = true)
    (answers : (s.hostReq p lock op n prio tmo).hostLockGo p = v) : lkgHostRequest s p op lock n prio tmo = v.schedule := by
  simp only [lkgHostRequest, page, answers, Bool.not_true, Bool.false_eq_true, if_false]

theorem hostLockGo_of_cancel {k : Nat} (op : v.fld Reg.LKG_HREQ0_OP 0 p = 4) (waits : v.queuedOn (reqHost p) = some k) :
    v.hostLockGo p =
      ((v.leaveQueue k (reqHost p)).endLockWait k (reqHost p) stLost).hostLockDone p stOk (v.hostValue k) := by
  simp only [State.hostLockGo, op, waits, if_true]

section Idle

variable (idle : v.on Reg.LKG_HRES_PENDING 0 p = false)

include idle

section Acquire

variable (op : v.fld Reg.LKG_HREQ0_OP 0 p = 1)

include op

theorem hostLockGo_of_acquire_waits (waits : v.acquire (v.fld Reg.LKG_HREQ0_LOCK 0 p) (reqHost p)
    (unitsOf (v.fld Reg.LKG_HREQ0_N 0 p)) (v.fld Reg.LKG_HREQ1_PRIO 0 p) false
    (if v.fld Reg.LKG_HREQ1_TO 0 p = 0 then none else some (v.now + 1000 * v.fld Reg.LKG_HREQ1_TO 0 p)) = (none, w)) :
    v.hostLockGo p = w.setFld Reg.LKG_HRES_PENDING 0 p 1 := by
  simp only [State.hostLockGo, op, idle, waits, Bool.false_eq_true, if_false, (by decide : ¬ (1 = 4))]

theorem hostLockGo_of_acquire_answers (answers : v.acquire (v.fld Reg.LKG_HREQ0_LOCK 0 p) (reqHost p)
    (unitsOf (v.fld Reg.LKG_HREQ0_N 0 p)) (v.fld Reg.LKG_HREQ1_PRIO 0 p) false
    (if v.fld Reg.LKG_HREQ1_TO 0 p = 0 then none else some (v.now + 1000 * v.fld Reg.LKG_HREQ1_TO 0 p)) = (some st, w)) :
    v.hostLockGo p = w.hostLockDone p st (w.hostValue (v.fld Reg.LKG_HREQ0_LOCK 0 p)) := by
  simp only [State.hostLockGo, op, idle, answers, Bool.false_eq_true, if_false, (by decide : ¬ (1 = 4))]

end Acquire

theorem hostLockGo_of_try (op : v.fld Reg.LKG_HREQ0_OP 0 p = 2) (answers : v.acquire (v.fld Reg.LKG_HREQ0_LOCK 0 p) (reqHost p)
    (unitsOf (v.fld Reg.LKG_HREQ0_N 0 p)) (v.fld Reg.LKG_HREQ1_PRIO 0 p) true none = (some st, w)) :
    v.hostLockGo p = w.hostLockDone p st (w.hostValue (v.fld Reg.LKG_HREQ0_LOCK 0 p)) := by
  simp only [State.hostLockGo, op, idle, answers, Bool.false_eq_true, if_false, (by decide : ¬ (2 = 4))]

theorem hostLockGo_of_release (op : v.fld Reg.LKG_HREQ0_OP 0 p = 3) : v.hostLockGo p =
    (let r := v.release (v.fld Reg.LKG_HREQ0_LOCK 0 p) (reqHost p) (unitsOf (v.fld Reg.LKG_HREQ0_N 0 p))
     r.2.hostLockDone p r.1 (r.2.hostValue (v.fld Reg.LKG_HREQ0_LOCK 0 p))) := by
  simp only [State.hostLockGo, op, idle, Bool.false_eq_true, if_false, (by decide : ¬ (3 = 4))]

theorem hostLockGo_of_query (op : v.fld Reg.LKG_HREQ0_OP 0 p = 5)
    (right : v.lockRight (v.fld Reg.LKG_HREQ0_LOCK 0 p) (reqHost p) = true) :
    v.hostLockGo p = v.hostLockDone p stOk (v.lockValue (v.fld Reg.LKG_HREQ0_LOCK 0 p)) := by
  simp only [State.hostLockGo, op, idle, right, Bool.false_eq_true, if_false, if_true, (by decide : ¬ (5 = 4))]

end Idle

section Supervisor

variable {lock : Nat} (page : s.pageOk p 7 = true) (sup : s.isSup p = true)

include page sup

theorem lkgForce_of_sup : lkgForce s p lock = (((s.wr Reg.LKG_CMD_LOCK lock).forceLock lock).2.wr Reg.LKG_CMD_RES_RESULT
    ((s.wr Reg.LKG_CMD_LOCK lock).forceLock lock).1).schedule := by
  simp only [lkgForce, page, sup, Bool.not_true, Bool.or_self, Bool.false_eq_true, if_false]

theorem lkgSetcount_of_sup {n : Nat} : lkgSetcount s p lock n =
    (let v := ((s.wr Reg.LKG_CMD_LOCK lock).wr Reg.LKG_CMD_VALUE n).setCount lock n
     (v.2.wr Reg.LKG_CMD_RES_RESULT v.1).schedule) := by
  simp only [lkgSetcount, page, sup, Bool.not_true, Bool.or_self, Bool.false_eq_true, if_false]

end Supervisor

end Requests

/-- Settles O34: each clause is the branch of its operation; a request to the Lockgate is the Lockgate's answer, and then
the Pumphouse schedules. -/
theorem hostCommandsToEnginesDescriptorsAndLocks : Obligations.HostCommandsToEnginesDescriptorsAndLocks := by
  unfold Obligations.HostCommandsToEnginesDescriptorsAndLocks
  intro s part e w ce lock n prio tmo m me
  refine ⟨fun sup image idle exists_ runs => served_of_hostCmd rfl fun may => ?reset,
    fun sup image idle exists_ spare allowed => served_of_hostCmd rfl fun may => ?swap,
    fun sup image idle exists_ pending => served_of_hostCmd rfl fun may => ?ack, ?post, fun sup => ?restart, ?acquire, ?tries,
    ?release, ?cancel, ?query, fun sup => served_of_hostCmd rfl fun may => ?force,
    fun sup => served_of_hostCmd rfl fun may => ?count⟩
  case reset => exact bsnEngReset_of_running sup image idle exists_ runs rfl
  case swap => exact bsnEngSwap_of_spare sup image idle exists_ spare allowed rfl
  case ack => exact bsnEngAckEsc_of_pending sup image idle exists_ pending
  case post =>
    intro d f v some_ host used right room
    exact served_of_hostCmd rfl fun may => pmpPostWrite_of_flags may.pageAt rfl rfl rfl some_ host used right room
  case restart =>
    intro v stopped free
    exact served_of_hostCmd rfl fun may => pmpCeRestart_of_stopped may.pageAt sup rfl stopped free
  case acquire =>
    intro v l op idle
    refine served_of_hostCmd rfl fun may => lkgHostRequest_of_page may.pageAt ?_
    split
    · next w waits => exact hostLockGo_of_acquire_waits idle op waits
    · next st w answers => exact hostLockGo_of_acquire_answers idle op answers
  case tries =>
    intro v l op idle st w answers
    exact served_of_hostCmd rfl fun may => lkgHostRequest_of_page may.pageAt (hostLockGo_of_try idle op answers)
  case release =>
    intro v l op idle
    exact served_of_hostCmd rfl fun may => lkgHostRequest_of_page may.pageAt (hostLockGo_of_release idle op)
  case cancel =>
    intro v op k waits
    exact served_of_hostCmd rfl fun may => lkgHostRequest_of_page may.pageAt (hostLockGo_of_cancel op waits)
  case query =>
    intro v l op idle right
    exact served_of_hostCmd rfl fun may => lkgHostRequest_of_page may.pageAt (hostLockGo_of_query idle op right)
  case force => exact lkgForce_of_sup may.pageAt sup
  case count => exact lkgSetcount_of_sup may.pageAt sup

end Sys2Proof
end

section
/-! The commands of debug and of the record (Chapter 23). -/

namespace Sys2Proof

open Machine

/-! ### Debug -/

section Debug

variable {s w : State} {p g : Nat}

/-- A debug command that reaches an open thread runs its function on it. -/
theorem dbgCommand_of_thread (debugs : DebugsThread s p g) (thread desc : State → Nat → State) :
    s.dbgCommand p thread desc = thread (s.wr Reg.RPL_DBG_CMD_CMD 0) g := by
  obtain ⟨reach, target, kind, opens, exists_⟩ := debugs
  simp only [State.dbgCommand, reach, target, kind, opens, Nat.not_le.mpr exists_, Bool.not_true, Bool.false_eq_true, if_false]

/-- A debug command that reaches an open descriptor runs its function on it. -/
theorem dbgCommand_of_desc (debugs : DebugsDesc s p g) (thread desc : State → Nat → State) :
    s.dbgCommand p thread desc = desc (s.wr Reg.RPL_DBG_CMD_CMD 0) g := by
  obtain ⟨reach, target, kind, opens⟩ := debugs
  simp only [State.dbgCommand, reach, target, kind, opens, Bool.not_true, Bool.false_eq_true, if_false, if_true]

variable (run : w = s.wr Reg.RPL_DBG_CMD_CMD 0)

include run

section Threads

variable (debugs : DebugsThread s p g)

include debugs

theorem dbgHalt_of_thread (runs : (w.thread g).state < 3) :
    dbgHalt s p = ((w.dbgResult stOk).haltThread g).stillCheck (g / 8) := by
  subst run
  exact (dbgCommand_of_thread debugs _ _).trans (if_neg (Nat.not_le.mpr runs))

theorem dbgResume_of_thread (halted : (w.thread g).state = 4) : dbgResume s p = (w.dbgResult stOk).resumeThread g false := by
  subst run
  exact (dbgCommand_of_thread debugs _ _).trans (if_neg (not_not_intro halted))

theorem dbgStep_of_thread (halted : (w.thread g).state = 4) : dbgStep s p = (w.dbgResult stOk).resumeThread g true := by
  subst run
  exact (dbgCommand_of_thread debugs _ _).trans (if_neg (not_not_intro halted))

theorem dbgKill_of_thread (live : (w.thread g).state < 5) : dbgKill s p = (w.dbgResult stOk).park g := by
  subst run
  exact (dbgCommand_of_thread debugs _ _).trans (if_neg (Nat.not_le.mpr live))

section Registers

variable {r : Nat} (reg : r = w.rd Reg.RPL_DBG_CMD_REG) (port : dbgPort r = true) (halted : (w.thread g).state = 4)

include reg port halted

theorem dbgRdreg_of_thread : dbgRdreg s p =
    (w.dbgResult stOk).wr Reg.RPL_DBG_DATA_DATA (if r = 0x048 then (w.thread g).pc else ((w.thread g).port r).toNat) := by
  subst reg run
  refine (dbgCommand_of_thread debugs _ _).trans ?_
  simp only [port, halted, ne_eq, not_true_eq_false, Bool.not_true, Bool.false_eq_true, if_false]

theorem dbgWrreg_of_thread {x : W32} (value : x = BitVec.ofNat 32 (w.rd Reg.RPL_DBG_DATA_DATA)) : dbgWrreg s p =
    (w.dbgResult stOk).updThread g fun th => if r = 0x048 then { th with pc := x.toNat % 2 ^ 15 } else th.setReg r x := by
  subst value reg run
  refine (dbgCommand_of_thread debugs _ _).trans ?_
  simp only [port, halted, ne_eq, not_true_eq_false, Bool.not_true, Bool.false_eq_true, if_false]

end Registers

theorem dbgBrkSet_of_thread {brk : Nat × Nat} (sets : brk = (w.fld Reg.RPL_DBG_BRK_ADDR (w.rd Reg.RPL_DBG_CMD_BRK) 0,
    w.fld Reg.RPL_DBG_BRK_THREADS (w.rd Reg.RPL_DBG_CMD_BRK) 0)) : dbgBrkSet s p =
      ({ w with rpl := { w.rpl with brk := SMap.set w.rpl.brk (w.brkKey g) brk } } : State).dbgResult stOk := by
  subst sets run
  exact dbgCommand_of_thread debugs _ _

theorem dbgBrkClr_of_thread : dbgBrkClr s p =
    ({ w with rpl := { w.rpl with brk := SMap.erase w.rpl.brk (w.brkKey g) } } : State).dbgResult stOk := by
  subst run
  exact dbgCommand_of_thread debugs _ _

end Threads

section Descriptors

variable (debugs : DebugsDesc s p g)

include debugs

theorem dbgHalt_of_desc (used : (w.desc g).state ≠ 0) (runs : (w.desc g).state < 4) :
    dbgHalt s p = ((w.dbgResult stOk).haltDesc g).schedule := by
  subst run
  refine (dbgCommand_of_desc debugs _ _).trans ?_
  simp only [used, Nat.not_le.mpr runs, decide_false, Bool.or_self, Bool.false_eq_true, if_false]

theorem dbgResume_of_desc (halted : (w.desc g).state = 5) : dbgResume s p = (w.dbgResult stOk).resumeDesc g false := by
  subst run
  exact (dbgCommand_of_desc debugs _ _).trans (if_neg (not_not_intro halted))

theorem dbgStep_of_desc (halted : (w.desc g).state = 5) : dbgStep s p = (w.dbgResult stOk).resumeDesc g true := by
  subst run
  exact (dbgCommand_of_desc debugs _ _).trans (if_neg (not_not_intro halted))

theorem dbgKill_of_desc (stopped : (w.desc g).state ≠ 2) : dbgKill s p = (w.freeDesc g).dbgResult stOk := by
  subst run
  exact (dbgCommand_of_desc debugs _ _).trans (if_neg stopped)

section Registers

variable {r : Nat} (reg : r = w.rd Reg.RPL_DBG_CMD_REG) (port : dbgPort r = true) (halted : (w.desc g).state = 5)

include reg port halted

theorem dbgRdreg_of_desc : dbgRdreg s p = ((w.descContext g).2.dbgResult stOk).wr Reg.RPL_DBG_DATA_DATA
    (if r = 0x048 then (w.descContext g).1.pc else ((w.descContext g).1.port r).toNat) := by
  subst reg run
  refine (dbgCommand_of_desc debugs _ _).trans ?_
  simp only [port, halted, ne_eq, not_true_eq_false, Bool.not_true, Bool.false_eq_true, if_false]

theorem dbgWrreg_of_desc {x : W32} (value : x = BitVec.ofNat 32 (w.rd Reg.RPL_DBG_DATA_DATA)) : dbgWrreg s p =
    ((w.descContext g).2.saveContext g ((w.descContext g).1.dbgWrite r x)).dbgResult stOk := by
  subst value reg run
  refine (dbgCommand_of_desc debugs _ _).trans ?_
  simp only [port, halted, ne_eq, not_true_eq_false, Bool.not_true, Bool.false_eq_true, if_false]

end Registers

end Descriptors

end Debug

/-- Settles O35: a debug command that reaches its open target runs its function on it, past the check of its state. -/
theorem debugCommandsHaltReadAndSetTheirTarget : Obligations.DebugCommandsHaltReadAndSetTheirTarget := by
  unfold Obligations.DebugCommandsHaltReadAndSetTheirTarget
  intro s part g m w r brk x
  refine ⟨fun debugs runs => ?halt, fun debugs used runs => ?haltDesc, fun debugs halted => ?resume,
    fun debugs halted => ?resumeDesc, fun debugs halted => ?step, fun debugs halted => ?stepDesc, fun debugs live => ?kill,
    fun debugs stopped => ?killDesc, fun debugs port halted => ?read, fun debugs port halted => ?readDesc,
    fun debugs port halted => ?write, fun debugs port halted => ?writeDesc, fun debugs => ?set, fun debugs => ?clear⟩
  case halt => exact served_of_hostCmd rfl fun _ => dbgHalt_of_thread rfl debugs runs
  case haltDesc => exact served_of_hostCmd rfl fun _ => dbgHalt_of_desc rfl debugs used runs
  case resume => exact served_of_hostCmd rfl fun _ => dbgResume_of_thread rfl debugs halted
  case resumeDesc => exact served_of_hostCmd rfl fun _ => dbgResume_of_desc rfl debugs halted
  case step => exact served_of_hostCmd rfl fun _ => dbgStep_of_thread rfl debugs halted
  case stepDesc => exact served_of_hostCmd rfl fun _ => dbgStep_of_desc rfl debugs halted
  case kill => exact served_of_hostCmd rfl fun _ => dbgKill_of_thread rfl debugs live
  case killDesc => exact served_of_hostCmd rfl fun _ => dbgKill_of_desc rfl debugs stopped
  case read => exact served_of_hostCmd rfl fun _ => dbgRdreg_of_thread rfl debugs rfl port halted
  case readDesc => exact served_of_hostCmd rfl fun _ => dbgRdreg_of_desc rfl debugs rfl port halted
  case write => exact served_of_hostCmd rfl fun _ => dbgWrreg_of_thread rfl debugs rfl port halted rfl
  case writeDesc => exact served_of_hostCmd rfl fun _ => dbgWrreg_of_desc rfl debugs rfl port halted rfl
  case set => exact served_of_hostCmd rfl fun _ => dbgBrkSet_of_thread rfl debugs rfl
  case clear => exact served_of_hostCmd rfl fun _ => dbgBrkClr_of_thread rfl debugs

/-! ### The record -/

section Record

variable {s v : State} {p : Nat}

/-- The supervisor partition's write that may issue reaches the record. -/
theorem rplReach_of_sup {m : State} {p : Nat} (page : m.pageOk p 15 = true) (sup : m.isSup p = true) : m.rplReach p = true := by
  rw [State.rplReach, page, sup, Bool.and_self]

section Reached

variable (reach : s.rplReach p = true)

include reach

theorem rplTrigger_of_reach : rplTrigger s p = (s.startPost 6).2.rplResult (if (s.startPost 6).1 then stOk else stDouble) := by
  simp only [rplTrigger, reach, Bool.not_true, Bool.false_eq_true, if_false]

theorem rplFreeze_of_reach : rplFreeze s p = (s.freeze 3).2.rplResult (if (s.freeze 3).1 then stOk else stDouble) := by
  simp only [rplFreeze, reach, Bool.not_true, Bool.false_eq_true, if_false]

section Frozen

variable (frozen : s.on Reg.RPL_STATUS_FROZEN 0 0 = true) (noExport : s.rpl.exp = none) (noReplay : s.rpl.replay = none)

include frozen noExport noReplay

theorem rplRelease_of_frozen (empties : v = { s with rpl := { s.rpl with
      ring := [], next := 0, held := 0, wpos := 0, dec := [], lost := 0, inexact := false, marked := 0, post := none } }) :
    rplRelease s p = (v.setAll [(Reg.RPL_STATUS_FROZEN, 0, 0, 0), (Reg.RPL_STATUS_FREEZE_CAUSE, 0, 0, 0),
      (Reg.RPL_STATUS_RECORDING, 0, 0, 1), (Reg.RPL_RING_FIRST_INDEX, 0, 0, 0),
      (Reg.RPL_RING_NEXT_INDEX, 0, 0, 0)]).rplResult stOk := by
  subst empties
  simp only [rplRelease, reach, frozen, noExport, noReplay, Option.isSome_none, Bool.not_true, Bool.or_self, Bool.false_eq_true,
    if_false]

theorem rplExport_of_room {rs : List RplRec} (selected : s.selected = some rs)
    (room : rs.foldl (fun n r => n + r.bytes.length) 0 + 3437 * (batchesOf rs 0 0 0).length ≤ s.rd Reg.RPL_CFG_EXP_MIB * 1048576)
    (open_ : s.fth.lc ≠ 0) (live : s.fth.lc ≠ 4) :
    rplExport s p = ((s.rplResult stOk).wr Reg.RPL_CMD_PENDING 1).writeBatch (batchesOf rs 0 0 0) 0 := by
  simp only [rplExport, reach, frozen, noExport, noReplay, selected, Nat.not_lt.mpr room, open_, live, Option.isSome_none,
    decide_false, Bool.not_true, Bool.or_self, Bool.false_eq_true, if_false]

/-- The versions of the selected droplets, each once. -/
def pinnedOf (sel : List RplRec) : List Nat :=
  ((sel.filter fun r => r.kind == 1).map fun r => (dropletOf ((r.bytes.drop 16).take 64)).version).eraseDups

theorem rplReplay_of_selected {sel : List RplRec} {b src : Nat} {ses : Session} {y : State}
    (basin : b = s.rd Reg.RPL_RPY_CFG_BASIN) (source : src = s.rd Reg.RPL_RPY_CFG_SRC) (selected : s.selected = some sel)
    (low : b < 12) (lowSrc : src < 12) (allowed : s.switchAllowed = true) (serves : s.inService b = true)
    (pins : s.pinAll (pinnedOf sel) = (stOk, v))
    (session : ses = { basin := b, src := src, versions := pinnedOf sel, feed := replayedOf v.rpl.ring sel b src,
                       log := logsOf sel b src })
    (begins : y = { v with rpl := { v.rpl with replay := some ses } }) :
    rplReplay s p = ((y.setAll [(Reg.RPL_STATUS_REPLAY, 0, 0, 1), (Reg.RPL_STATUS_DIVERGED, 0, 0, 0),
      (Reg.RPL_CMD_PENDING, 0, 0, 1), (Reg.RPL_RPY_STAT_DONE, 0, 0, 0), (Reg.RPL_RPY_STAT_INEXACT, 0, 0,
        flagBit (sel.any fun r => bitOf (recNum r.bytes 1 1) 0))]).rplResult stOk).switchBegin (1 + b) b 2 := by
  subst session begins basin source
  simp only [pinnedOf] at pins ⊢
  simp only [rplReplay, reach, frozen, noExport, noReplay, selected, Nat.not_le.mpr low, Nat.not_le.mpr lowSrc, allowed, serves,
    pins, Option.isSome_none, decide_false, Bool.not_true, Bool.or_self, Bool.false_eq_true, if_false, ne_eq, not_true_eq_false]

end Frozen

section Abort

variable {ses : Session} (session : s.rpl.replay = some ses)

include session

theorem rplAbort_of_begun (step : ses.step = 2) :
    rplAbort s p = (s.setSession { ses with step := 3 }).rplResult stOk := by
  simp only [rplAbort, reach, session, step, Bool.not_true, Bool.false_eq_true, if_false, if_true]

theorem rplAbort_of_feeding (step : ses.step = 4) :
    rplAbort s p = (s.setSession { ses with step := 6 }).rplResult stOk := by
  simp only [rplAbort, reach, session, step, (by decide : ¬ (4 = 2)), Bool.not_true, Bool.false_eq_true, if_false, if_true]

end Abort

end Reached

theorem postWindowEnd_of_full {now k : Nat} (full : (s.upTo now).rpl.post = some (0, k)) :
    postWindowEnd s now = ((s.upTo now).freeze k).2 := by
  simp only [postWindowEnd, full]

theorem replayEnd_of_done {ses : Session} (session : s.rpl.replay = some ses) (settled : s.weir.switching = none)
    (done : ses.step = 6 ∨ ses.step = 4 ∧ ses.feed = [] ∧ ses.slots = []) : replayEnd s = s.sessionReturn ses := by
  have ends : (decide (ses.step = 6) || (decide (ses.step = 4) && ses.feed.isEmpty && ses.slots.isEmpty)) = true := by
    rcases done with aborted | ⟨feeding, feed, slots⟩
    · rw [decide_eq_true aborted, Bool.true_or]
    · rw [decide_eq_true feeding, feed, slots, List.isEmpty_nil, List.isEmpty_nil, Bool.and_self, Bool.and_self, Bool.or_true]
  simp only [replayEnd, session, settled, ends, Option.isSome_none, Bool.false_eq_true, if_false, if_true]

end Record

/-- Settles O36: each clause is the branch of its operation on the ring and the session. -/
theorem theRecordFreezesExportsAndReplays : Obligations.TheRecordFreezesExportsAndReplays := by
  unfold Obligations.TheRecordFreezesExportsAndReplays
  intro s now part u m dt pinned
  have reach (may : MayWrite s part.val 15) (sup : m.isSup part.val = true) : m.rplReach part.val = true :=
    rplReach_of_sup may.pageAt sup
  refine ⟨⟨fun sup => served_of_hostCmd rfl fun may => rplTrigger_of_reach (reach may sup),
      fun sup => served_of_hostCmd rfl fun may => rplFreeze_of_reach (reach may sup)⟩, fun k full => ?window, rfl,
    fun sup frozen noExport noReplay => ?releases, fun rs sup frozen noExport noReplay selected room open_ live => ?exports,
    fun sel v sup frozen noExport noReplay selected low lowSrc allowed serves pins => ?replays,
    fun ses sup session => ⟨fun step => ?begun, fun step => ?feeding⟩, fun ses session settled done => ?returns, rfl⟩
  case window => exact runs_of_row rfl (postWindowEnd_of_full full)
  case releases => exact served_of_hostCmd rfl fun may => rplRelease_of_frozen (reach may sup) frozen noExport noReplay rfl
  case exports =>
    exact served_of_hostCmd rfl fun may => rplExport_of_room (reach may sup) frozen noExport noReplay selected room open_ live
  case replays =>
    exact served_of_hostCmd rfl fun may => rplReplay_of_selected (reach may sup) frozen noExport noReplay rfl rfl selected low
      lowSrc allowed serves pins rfl rfl
  case begun => exact served_of_hostCmd rfl fun may => rplAbort_of_begun (reach may sup) session step
  case feeding => exact served_of_hostCmd rfl fun may => rplAbort_of_feeding (reach may sup) session step
  case returns => exact runs_of_row rfl (replayEnd_of_done session settled done)

end Sys2Proof
end

section
/-! The commands of the PCIe links and windows and of the hosts' queues (Chapters 17 and 24). -/

namespace Sys2Proof

open Machine

/-! ### Links -/

section Links

variable {s v : State} {link p : Nat}

section Config

variable {reg data : Nat} (selected : s.islandSelected (4 + link) = true) (supplied : s.boot.brownout = false)

include selected supplied

/-- Before step 3 of the start sequence a configuration request is to be retried. -/
theorem pcieConfigRequest_of_early (write : Bool) (early : s.boot.held = true ∨ s.boot.stage < 2) :
    pcieConfigRequest s link write reg data = s.emit (.config link 2 0) := by
  have waits : (s.boot.held || decide (s.boot.stage < 2)) = true := by
    rcases early with held | before
    · rw [held, Bool.true_or]
    · rw [decide_eq_true before, Bool.or_true]
  simp only [pcieConfigRequest, selected, supplied, waits, Bool.not_true, Bool.or_self, Bool.false_eq_true, if_false, if_true]

section Started

variable (released : s.boot.held = false) (stage : 2 ≤ s.boot.stage)

include released stage

theorem pcieConfigRequest_of_write : pcieConfigRequest s link true reg data =
    ({ s with hst := { s.hst with config := SMap.put s.hst.config (link * 1024 + reg / 4) data 0 } } : State).emit
      (.config link 0 0) := by
  simp only [pcieConfigRequest, selected, supplied, released, Nat.not_lt.mpr stage, decide_false, Bool.not_true, Bool.or_self,
    Bool.false_eq_true, if_false, if_true]

theorem pcieConfigRequest_of_read :
    pcieConfigRequest s link false reg data = s.emit (.config link 0 (s.configRead link (reg / 4))) := by
  simp only [pcieConfigRequest, selected, supplied, released, Nat.not_lt.mpr stage, decide_false, Bool.not_true, Bool.or_self,
    Bool.false_eq_true, if_false]

end Started

end Config

theorem pcieFunctionLevelReset_of_link (linked : (s.linkOf p).isSome = true) (runs : (s.imageRuns || s.bridgeRuns) = true) :
    pcieFunctionLevelReset s p = s.partReset p := by
  simp only [pcieFunctionLevelReset, linked, runs, Bool.and_self, if_true]

theorem pcieLinkReset_of_part (runs : (s.imageRuns || s.bridgeRuns) = true)
    (down : v = { s with hst := { s.hst with linkUp := s.hst.linkUp.filter (· != link) } }) (part : v.partOf link = some p) :
    pcieLinkReset s link = v.partReset p := by
  have run : (v.imageRuns || v.bridgeRuns) = true := by rw [down]; exact runs
  subst down
  simp only [pcieLinkReset, run, part, Bool.not_true, Bool.false_eq_true, if_false]

theorem pcieLinkUp_of_part {width rate : Nat} (released : s.boot.held = false) (selected : s.islandSelected (4 + link) = true)
    (clocked : s.islandInReset (4 + link) = false)
    (up : v = { s with hst := { s.hst with
      linkUp := if s.hst.linkUp.contains link then s.hst.linkUp else link :: s.hst.linkUp } })
    (part : v.partOf link = some p) :
    pcieLinkUp s link width rate = v.setAll [(Reg.HST_PART_WIDTH, 0, p, width), (Reg.HST_PART_RATE, 0, p, rate)] := by
  subst up
  simp only [pcieLinkUp, released, selected, clocked, part, Bool.not_true, Bool.or_self, Bool.false_eq_true, if_false]

theorem hostWakes_of_still (still : s.rd Reg.PWR_STATUS_STATE = 3) : s.hostWakes = wakeEvent s s.wall 4 :=
  if_pos still

theorem hostWakes_of_awake (awake : s.rd Reg.PWR_STATUS_STATE ≠ 3) : s.hostWakes = s :=
  if_neg awake

theorem partReset_of_idle {w : State} (idle : s.on Reg.HST_STATUS_RESET_BUSY 0 p = false)
    (begins : v = (s.abandonTx p).setFld Reg.HST_STATUS_RESET_BUSY 0 p 1)
    (dries : w = (List.range 64).foldl (fun s q => s.dryHostQueue (64 * p + q) dryPartitionReset)
      (v.dryWaiting (inPortHost p) dryPartitionReset)) :
    s.partReset p = ((w.loseHostLocks p).loseStaging p).loseTblCommand p := by
  subst dries begins
  simp only [State.partReset, idle, Bool.false_eq_true, if_false]

/-- A reset that runs takes a further one in. -/
theorem partReset_of_busy (busy : s.on Reg.HST_STATUS_RESET_BUSY 0 p = true) : s.partReset p = s :=
  if_pos busy

end Links

/-! ### Windows -/

section Windows

variable {s v : State} {p off n a : Nat} (ready : s.bar4Ready p = true) (wakes : v = s.hostWakes) (base : a = v.winBase p + off)

include ready wakes base

theorem bar4Read_of_window (window : v.winOk p off n false = true) : bar4Read s p off n =
    (v.ipdReqs a n false clsBulk).complete_ p (if v.ipdLost a n then 3 else 0)
      ((List.range n).map fun i => if v.wordLost (a + i) then (0 : Byte) else (v.ipdRead (a + i) 1).headD 0) := by
  subst base wakes
  simp only [bar4Read, ready, window, Bool.not_true, Bool.false_eq_true, if_false]

theorem bar4Write_of_window {w : State} {bytes : List Byte} (window : v.winOk p off bytes.length true = true)
    (writes : w = (v.ipdWrite a bytes).ipdReqs a bytes.length true clsBulk) : bar4Write s p off bytes =
      if (List.range bytes.length).any fun i => v.offlineAt (a + i) then w.bumpFld Reg.HST_BAR4_LOST 0 p 1 else w := by
  subst writes base wakes
  simp only [bar4Write, ready, window, Bool.not_true, Bool.false_eq_true, if_false]

theorem pcieAtomicop_of_window {op width x y z old : Nat} {w : State} (small : width ≤ 1) (size : z = if width = 0 then 4 else 8)
    (aligned : off % z = 0) (window : v.winOk p off z true = true)
    (acts : v.ipdAtomic a z (if op = 0 then 0 else if op = 1 then 2 else 3) (x % 2 ^ (8 * z)) (y % 2 ^ (8 * z)) = (some old, w)) :
    pcieAtomicop s p off op width x y = w.complete_ p 0 (leBytes z old) := by
  subst size base wakes
  simp only [pcieAtomicop, ready, Nat.not_lt.mpr small, aligned, window, acts, ne_eq, not_true_eq_false, decide_false,
    Bool.not_true, Bool.or_self, Bool.false_eq_true, if_false]

end Windows

/-- The function of an AtomicOp, by its number. -/
theorem atomicCode_eq (op : Fin 3) : (if op = 0 then 0 else if op = 1 then 2 else 3 : Nat) =
    if op.val = 0 then 0 else if op.val = 1 then 2 else 3 := by
  simp only [Fin.ext_iff, Fin.val_zero, Fin.val_one]

/-! ### Queues -/

section Queues

variable {s v : State} {p q : Nat} {tx : Bool}

section Reached

variable (reach : s.hstReach p = true)

include reach

theorem hstLatWrite_of_reach {w : Nat} : hstLatWrite s p w = s.setFld Reg.HST_LAT_LAT 0 p w :=
  if_pos reach

theorem hostQueueEnable_of_reach : hostQueueEnable s p tx q =
    (let v := s.setFld (ringFld tx Reg.HST_RXQ_EN Reg.HST_TXQ_EN) q p 1
     if s.ringState tx q p = 0 then v.ringStart tx q p
     else if s.ringState tx q p = 2 then v.setFld (ringFld tx Reg.HST_RXQ_ENABLE_PENDING Reg.HST_TXQ_ENABLE_PENDING) q p 1
     else v) := by
  refine (if_pos reach).trans ?_
  unfold State.ringEnable
  split
  · next off => rw [if_pos off]
  · next shuts => rw [if_neg (by rw [shuts]; decide), if_pos shuts]
  · next off shuts => rw [if_neg off, if_neg shuts]

theorem hostQueueDisable_of_reach : hostQueueDisable s p tx q =
    (let v := s.setFld (ringFld tx Reg.HST_RXQ_EN Reg.HST_TXQ_EN) q p 0
     let r := if tx then v.fetchedNow q p else (0, v)
     if s.ringState tx q p = 1 then
       ({ r.2 with hst := { r.2.hst with fetched := SMap.put r.2.hst.fetched (p * 64 + q) r.1 0 } }).setFld
         (ringFld tx Reg.HST_RXQ_STATE Reg.HST_TXQ_STATE) q p 2
     else v.setFld (ringFld tx Reg.HST_RXQ_ENABLE_PENDING Reg.HST_TXQ_ENABLE_PENDING) q p 0) :=
  if_pos reach

theorem rxDoorbellWrite_of_enabled {w : Nat} (enabled : s.ringState false q p = 1) (sound : s.ringErr false q p = false) :
    rxDoorbellWrite s p q w =
    (let x := w % 2 ^ 17
     let c := s.ringCons false q p
     if idxDiff (s.ringProd false q p) c < idxDiff x c then s.ringFails false q p else s.setFld Reg.HST_RXQ_CONS q p x) := by
  simp only [rxDoorbellWrite, reach, enabled, sound, ne_eq, not_true_eq_false, decide_false, Bool.not_true, Bool.or_self,
    Bool.false_eq_true, if_false]

theorem txDoorbellWrite_of_enabled {w : Nat} (enabled : s.ringState true q p = 1) (sound : s.ringErr true q p = false) :
    txDoorbellWrite s p q w =
    (let x := w % 2 ^ 17
     let v := s.setFld Reg.HST_TXQ_PROD q p x
     if 2 ^ s.ringLog true q p < idxDiff x (s.ringCons true q p) then v.ringFails true q p else v) := by
  simp only [txDoorbellWrite, reach, enabled, sound, ne_eq, not_true_eq_false, decide_false, Bool.not_true, Bool.or_self,
    Bool.false_eq_true, if_false]

theorem hstPrstGo_of_idle {target : Nat} (sup : s.isSup p = true) (exists_ : target ≤ 3)
    (names : v = s.setFld Reg.HST_PRST_PART 0 p target) (idle : v.on Reg.HST_STATUS_RESET_BUSY 0 target = false) :
    hstPrstGo s p target = (v.setFld Reg.HST_PRST_RESULT 0 p stOk).partReset target := by
  subst names
  simp only [hstPrstGo, reach, sup, Nat.not_lt.mpr exists_, idle, Bool.not_true, Bool.or_self, Bool.false_eq_true, if_false]

end Reached

theorem hostQueueShutdownDone_of_drained (shuts : s.ringState tx q p = 2)
    (drained : tx = true → SMap.get s.hst.fetched (p * 64 + q) 0 = 0)
    (stops : v = s.setFld (ringFld tx Reg.HST_RXQ_STATE Reg.HST_TXQ_STATE) q p 0) : hostQueueShutdownDone s p tx q =
      (if s.on (ringFld tx Reg.HST_RXQ_ENABLE_PENDING Reg.HST_TXQ_ENABLE_PENDING) q p then v.ringStart tx q p else v).signalVec p
        (queueVec tx q) := by
  have empty : (tx && SMap.get s.hst.fetched (p * 64 + q) 0 != 0) = false := by
    cases tx with
    | false => rfl
    | true => rw [drained rfl]; rfl
  subst stops
  simp only [hostQueueShutdownDone, shuts, empty, ne_eq, not_true_eq_false, decide_false, Bool.or_self, Bool.false_eq_true,
    if_false]

theorem itrHoldExpire_of_due {now vec e k : Nat} (key : k = p * 128 + vec) (holds : SMap.find (s.upTo now).hst.itr k = some e)
    (due : e ≤ (s.upTo now).now) (ends : v = { s.upTo now with hst := { (s.upTo now).hst with
      itr := SMap.erase (s.upTo now).hst.itr k, itrPend := (s.upTo now).hst.itrPend.filter (· != k) } }) :
    itrHoldExpire s now p vec = if (s.upTo now).hst.itrPend.contains k then v.signalVec p vec else v := by
  subst ends key
  simp only [itrHoldExpire, holds, Nat.not_lt.mpr due, if_false]

theorem partitionResetDrained_of_drained {w : State} {keys : List Nat} (busy : s.on Reg.HST_STATUS_RESET_BUSY 0 p = true)
    (drained : s.partDrained p = true) (banked : keys = bankedFields.map fun f => f.key 0 0 / 2 ^ 24)
    (clears : v = { s with
      regs := s.regs.filter fun e => (e.1 == Reg.RUL_COMMIT_RESULT.key 0 p && e.2 == stLost) ||
        !(e.1 % 8 == p && keys.contains (e.1 / 2 ^ 24))
      hst := { s.hst with
        msix := s.hst.msix.filter fun e => e.1 / 8192 != p
        pba := s.hst.pba.filter fun v => v / 2048 != p
        itr := s.hst.itr.filter fun e => e.1 / 128 != p
        itrPend := s.hst.itrPend.filter fun v => v / 128 != p
        rxNext := SMap.erase (SMap.erase s.hst.rxNext p) (4 + p)
        eoeSeq := s.hst.eoeSeq.filter fun e => e.1 / 128 != p } })
    (counts : w = v.bumpFld Reg.HST_RESET_CNT 0 p 1) : partitionResetDrained s p =
      w.eventBit Reg.HST_INT_STATUS_PART_RESET Reg.HST_INT_EN_PART_RESET p w.supervisor w.supervisor := by
  subst counts clears banked
  simp only [partitionResetDrained, busy, drained, Bool.not_true, Bool.or_self, Bool.false_eq_true, if_false]

theorem eoeLinkDownTimeout_of_due {now e : Nat} (down : SMap.find (s.upTo now).hst.eoeDown p = some e)
    (image : (s.upTo now).imageRuns = true) (due : e + 10 ^ 8 ≤ (s.upTo now).now) : eoeLinkDownTimeout s now p =
      ({ s.upTo now with hst := { (s.upTo now).hst with
        eoeDown := SMap.erase (s.upTo now).hst.eoeDown p } } : State).partReset p := by
  simp only [eoeLinkDownTimeout, down, image, Nat.not_lt.mpr due, decide_false, Bool.not_true, Bool.or_self, Bool.false_eq_true,
    if_false]

end Queues

/-- Settles O37: each clause is the branch of its operation; a window's access is served by the state that the access wakes. -/
theorem linksAndWindowsServeTheirHosts : Obligations.LinksAndWindowsServeTheirHosts := by
  unfold Obligations.LinksAndWindowsServeTheirHosts
  intro s part link reg data off n bytes op x y width rate
  refine ⟨?config, fun ready window => ?reads, fun ready window => ?writes, ?atomic, hostWakes_of_still, hostWakes_of_awake,
    fun linked runs => ?function, fun runs => ?linkReset, fun released selected clocked => ?linkUp, fun idle => ?partition,
    partReset_of_busy⟩
  case config =>
    intro r selected supplied
    exact ⟨fun early write => runs_of_row rfl (pcieConfigRequest_of_early selected supplied write early),
      fun released stage => ⟨runs_of_row rfl (pcieConfigRequest_of_write selected supplied released stage),
        runs_of_row rfl (pcieConfigRequest_of_read selected supplied released stage)⟩⟩
  case reads => exact runs_of_row rfl (bar4Read_of_window ready rfl rfl window)
  case writes => exact runs_of_row rfl (bar4Write_of_window ready rfl rfl window rfl)
  case atomic =>
    intro k old w z ready aligned window acts
    refine runs_of_row rfl (pcieAtomicop_of_window ready rfl rfl (Nat.le_of_lt_succ k.isLt) rfl aligned window ?_)
    rw [← atomicCode_eq op]
    exact acts
  case function => exact runs_of_row rfl (pcieFunctionLevelReset_of_link linked runs)
  case linkReset =>
    intro v p part
    exact runs_of_row rfl (pcieLinkReset_of_part runs rfl part)
  case linkUp =>
    intro v p part
    exact runs_of_row rfl (pcieLinkUp_of_part released selected clocked rfl part)
  case partition => exact partReset_of_idle idle rfl rfl

/-- Settles O38: each clause is the branch of its operation on the queue, the vector or the partition. -/
theorem hostQueuesAreEnabledShutDownAndReset : Obligations.HostQueuesAreEnabledShutDownAndReset := by
  unfold Obligations.HostQueuesAreEnabledShutDownAndReset
  intro s part lat tx q w now vec target m u
  refine ⟨served_of_hostCmd rfl fun may => hstLatWrite_of_reach may.pageAt,
    served_of_hostCmd rfl fun may => hostQueueEnable_of_reach may.pageAt,
    served_of_hostCmd rfl fun may => hostQueueDisable_of_reach may.pageAt,
    fun enabled sound => served_of_hostCmd rfl fun may => ?rx, fun enabled sound => served_of_hostCmd rfl fun may => ?tx,
    fun shuts drained => ?shutdown, fun e holds due => ?hold, fun sup exists_ => ?resets, fun busy drained => ?drained,
    fun e down image due => ?port⟩
  case rx => exact rxDoorbellWrite_of_enabled may.pageAt enabled sound
  case tx => exact txDoorbellWrite_of_enabled may.pageAt enabled sound
  case shutdown => exact runs_of_row rfl (hostQueueShutdownDone_of_drained shuts drained rfl)
  case hold => exact runs_of_row rfl (itrHoldExpire_of_due rfl holds due rfl)
  case resets =>
    intro v idle
    exact served_of_hostCmd rfl fun may => hstPrstGo_of_idle may.pageAt sup exists_ rfl idle
  case drained => exact runs_of_row rfl (partitionResetDrained_of_drained busy drained rfl rfl rfl)
  case port => exact runs_of_row rfl (eoeLinkDownTimeout_of_due down image due)

end Sys2Proof
end

section
/-! The messages of the hosts, over PCIe and over Ethernet (Chapters 17 and 18). -/

namespace Sys2Proof

open Machine

/-! ### A receive message -/

section Receive

variable {s : State} {now p q : Nat}

/-- The queue in turn gives its head message to the host: its bytes, its header, its producer index and the write-back. -/
theorem rxMessageDeliver_of_room {c : Copy} {slots k prod slot base offset size : Nat} {v v1 v2 v3 v4 : State}
    (image : (s.upTo now).imageRuns = true) (link : (s.upTo now).linkRuns p = true)
    (idle : (s.upTo now).on Reg.HST_STATUS_RESET_BUSY 0 p = false)
    (turn : (s.upTo now).inTurn p ((s.upTo now).rxReady p) = some q) (head : (s.upTo now).rxHead p q = some c)
    (slots_ : slots = (s.upTo now).msgSlots p q c.len) (k_ : k = (s.upTo now).ringLog false q p)
    (prod_ : prod = (s.upTo now).ringProd false q p) (slot_ : slot = 2 ^ (s.upTo now).fld Reg.HST_RXQ_SLOT q p)
    (takes : v = ((s.upTo now).rxTake p q).setTurn p q) (whole : (s.upTo now).copyLost p q c = false) (room : slots ≤ 2 ^ k)
    (base_ : base = v.queueBase false q p) (offset_ : offset = prod % 2 ^ k * slot) (size_ : size = 2 ^ k * slot)
    (bytes : v1 = v.ringBytes p base size (offset + 32) ((v.packet c.d).take c.len))
    (header : v2 = v1.ringBytes p base size offset (c.header (1 - prod / 2 ^ k % 2)))
    (index : v3 = v2.setFld Reg.HST_RXQ_PROD q p (prod + slots))
    (writes : v4 = v3.writeBackIdx false q p (v3.ringProd false q p)) :
    rxMessageDeliver s now p q = ((v4.copyEnds c 0).bumpFld Reg.HST_RX_MSG_CNT 0 p 1).signalVec p q := by
  subst writes index header bytes base_ offset_ size_ takes slots_ k_ prod_ slot_
  simp only [rxMessageDeliver, image, link, idle, turn, head, whole, Nat.not_lt.mpr room, bne_self_eq_false, Bool.not_true,
    Bool.or_self, Bool.false_eq_true, if_false]

end Receive

/-! ### A transmit message -/

section Transmit

variable {s : State} {now p q : Nat} {bytes desc : List Byte} {ok : Bool}

/-- Word n of a transmit descriptor. -/
def descWordOf (desc : List Byte) (n : Nat) : Nat := leNat ((takeBytes 32 desc).drop (4 * n) |>.take 4)

variable (image : (s.upTo now).imageRuns = true) (link : (s.upTo now).linkRuns p = true)
  (idle : (s.upTo now).on Reg.HST_STATUS_RESET_BUSY 0 p = false)
  (turn : (s.upTo now).inTurn (4 + p) ((s.upTo now).txReady p) = some q)

include image link idle turn

/-- The frames of Touch sources go before those of a Touch host's other queues. -/
theorem txDescriptorProcess_of_touch (touch : ((s.upTo now).touchHost p && !(s.upTo now).touchSource (inPortHost p)) = true) :
    txDescriptorProcess s now p q desc bytes ok = s.upTo now := by
  simp only [txDescriptorProcess, image, link, idle, turn, touch, bne_self_eq_false, Bool.not_true, Bool.or_self,
    Bool.false_eq_true, if_false, if_true]

variable (first : ((s.upTo now).touchHost p && !(s.upTo now).touchSource (inPortHost p)) = false)

include first

theorem txDescriptorProcess_of_no_buffer
    (waits : (decide (256 < descWordOf desc 2 % 2 ^ 14) && (s.upTo now).allocWaits ((s.upTo now).txPool p) p) = true) :
    txDescriptorProcess s now p q desc bytes ok = (s.upTo now).startRefill ((s.upTo now).txPool p) true := by
  unfold descWordOf at waits
  simp only [txDescriptorProcess, image, link, idle, turn, first, waits, bne_self_eq_false, Bool.not_true, Bool.or_self,
    Bool.false_eq_true, if_false, if_true]

theorem txDescriptorProcess_of_legal {st k cons : Nat} {v v1 v2 v3 v4 v5 : State} (len : descWordOf desc 2 < 2 ^ 14)
    (flags : descWordOf desc 3 < 2)
    (buffer : (decide (256 < descWordOf desc 2) && (s.upTo now).allocWaits ((s.upTo now).txPool p) p) = false)
    (frame : (s.upTo now).hostFrame p q (descWordOf desc 2) bytes ok (BitVec.ofNat 32 (descWordOf desc 6))
      (BitVec.ofNat 32 (descWordOf desc 7)) = (st, v)) (counts : v1 = (v.txCount p st).setTurn (4 + p) q)
    (k_ : k = p * 64 + q)
    (fetched : v2 = { v1 with hst := { v1.hst with fetched := SMap.put v1.hst.fetched k (SMap.get v1.hst.fetched k 0 - 1) 0 } })
    (cons_ : cons = v2.ringCons true q p)
    (status : v3 = v2.hostWrite p (v2.queueBase true q p + cons % 2 ^ v2.ringLog true q p * 32 + 0x10) (leBytes 4 (st + 2 ^ 31)))
    (index : v4 = v3.setFld Reg.HST_TXQ_CONS q p (cons + 1))
    (writes : v5 = v4.writeBackIdx true q p (v4.ringCons true q p)) :
    txDescriptorProcess s now p q desc bytes ok = if bitOf (descWordOf desc 3) 0 then v5.signalVec p (64 + q) else v5 := by
  have short : descWordOf desc 2 % 2 ^ 14 = descWordOf desc 2 := Nat.mod_eq_of_lt len
  have legal : (decide (descWordOf desc 2 / 2 ^ 14 ≠ 0) || decide (descWordOf desc 3 / 2 ≠ 0)) = false := by
    rw [Nat.div_eq_of_lt len, Nat.div_eq_of_lt flags]
    rfl
  subst writes index status cons_ fetched k_ counts
  unfold descWordOf at short legal buffer frame ⊢
  simp only [txDescriptorProcess, image, link, idle, turn, first, short, buffer, legal, frame, bne_self_eq_false, Bool.not_true,
    Bool.or_self, Bool.false_eq_true, if_false]

end Transmit

/-! ### A host over Ethernet -/

section Ethernet

variable {s : State} {now p q : Nat}

/-- The state after the sequence number n of key k: a number out of order is counted as a gap. -/
def seqNoted (u : State) (p k n : Nat) : State :=
  let g := match SMap.find u.hst.eoeSeq k with
    | some last => if n = (last + 1) % 2 ^ 32 then u else u.bumpFld Reg.HST_EOE_GAP 0 p 1
    | none => u
  { g with hst := { g.hst with eoeSeq := SMap.set g.hst.eoeSeq k n } }

/-- Byte n of the header that a host's frame carries behind its addresses. -/
def eoeByte (bytes : List Byte) (n : Nat) : Nat := ((bytes.drop (14 + n)).headD 0).toNat

theorem eoeFrameReceive_of_message {port : Nat} {bytes : List Byte} {g : State} {r : Nat × State}
    (host : (s.upTo now).isEoe port bytes = true) (part : (s.upTo now).eoePart port = some p)
    (idle : (s.upTo now).on Reg.HST_STATUS_RESET_BUSY 0 p = false) (version : eoeByte bytes 0 = 1) (own : eoeByte bytes 1 = p)
    (queue : eoeByte bytes 2 ≤ 63) (kind : eoeByte bytes 3 = 2)
    (notes : g = seqNoted (s.upTo now) p (2 * (p * 64 + eoeByte bytes 2) + 1) (beNat ((bytes.drop 18).take 4)))
    (frame : r = g.hostFrame p (eoeByte bytes 2) (bytes.drop 30).length (bytes.drop 30) true
      (BitVec.ofNat 32 (beNat ((bytes.drop 26).take 4))) (BitVec.ofNat 32 (beNat ((bytes.drop 22).take 4)))) :
    eoeFrameReceive s now port bytes = (if g.free_ 0 = 0 ∧ r.1 = stEmpty
      then (r.2.bumpFld Reg.EDG_NOBUF_CNT port 0 1).countDry dryNoBuffer 1 else r.2).txCount p r.1 := by
  subst frame notes
  unfold eoeByte at version own queue kind ⊢
  simp only [eoeFrameReceive, host, part, idle, version, own, kind, Nat.not_lt.mpr queue, ne_eq, not_true_eq_false, decide_false,
    Bool.not_true, Bool.or_self, Bool.false_eq_true, if_false, Bool.and_eq_true, decide_eq_true_eq, seqNoted] <;>
  rfl

theorem eoeMessageSend_of_buffers {c : Copy} {head body k n : Nat} {bs : List Byte} {w w' v v1 z : State} {d : Droplet}
    (image : (s.upTo now).imageRuns = true) (ethernet : 16 ≤ (s.upTo now).bindOf p)
    (idle : (s.upTo now).on Reg.HST_STATUS_RESET_BUSY 0 p = false) (first : (s.upTo now).rxHead p q = some c)
    (whole : (s.upTo now).copyLost p q c = false) (k_ : k = 2 * (p * 64 + q))
    (frame : bs = (s.upTo now).eoeFrame p q (SMap.get (s.upTo now).hst.eoeSeq k 0) c)
    (given : (s.upTo now).allocHead p = ((stOk, head), w))
    (rest : (if bs.length ≤ 256 then ((stOk, 0), w) else w.allocNow (w.txPool p) p) = ((stOk, body), w'))
    (droplet : d = { inPort := inPortHost p, host := true, len := bs.length, head := head, body := body
                     bodyPool := if bs.length ≤ 256 then 0 else w'.txPool p })
    (stores : v = (w'.storeFrame d bs).rxTake p q)
    (numbers : v1 = { v with hst := { v.hst with
      eoeSeq := SMap.put v.hst.eoeSeq k ((SMap.get (s.upTo now).hst.eoeSeq k 0 + 1) % 2 ^ 32) 0 } })
    (counts : z = (v1.copyEnds c 0).bumpFld Reg.HST_RX_MSG_CNT 0 p 1)
    (queue : n = 8 * ((s.upTo now).bindOf p - 16) + z.setting 54 (p * 64 + q) % 8) :
    eoeMessageSend s now p q = z.admitCopy { d := d, len := bs.length, jid := 2 ^ 64, q := n } := by
  subst queue counts numbers stores droplet frame k_
  simp only [eoeMessageSend, image, Nat.not_lt.mpr ethernet, idle, first, whole, given, rest, ne_eq, not_true_eq_false,
    decide_false, Bool.not_true, Bool.or_self, Bool.false_eq_true, if_false]

end Ethernet

/-- Settles O39: each clause is the path of its operation on which the message crosses, step by step. -/
theorem hostMessagesCrossTheLinks : Obligations.HostMessagesCrossTheLinks := by
  unfold Obligations.HostMessagesCrossTheLinks
  intro s now part q port bytes desc ok u word
  refine ⟨?receive, ?transmit, fun image link idle turn => ⟨fun touch => ?touch, fun first waits => ?waits⟩, ?ethernet, ?sends⟩
  case receive =>
    intro c image link idle turn head slots k prod slot v whole room base offset size v1 v2 v3 v4
    exact runs_of_row rfl (rxMessageDeliver_of_room (c := c) (slots := slots) (k := k) (prod := prod) (slot := slot) (base := base)
      (offset := offset) (size := size) (v := v) (v1 := v1) (v2 := v2) (v3 := v3) (v4 := v4) image link idle turn head rfl rfl
      rfl rfl rfl whole room rfl rfl rfl rfl rfl rfl rfl)
  case transmit =>
    intro st v image link idle turn len flags first buffer frame v1 k v2 cons v3 v4 v5
    exact runs_of_row rfl (txDescriptorProcess_of_legal (k := k) (cons := cons) (v := v) (v1 := v1) (v2 := v2) (v3 := v3)
      (v4 := v4) (v5 := v5) image link idle turn first len flags buffer frame rfl rfl rfl rfl rfl rfl rfl)
  case touch => exact runs_of_row rfl (txDescriptorProcess_of_touch image link idle turn touch)
  case waits => exact runs_of_row rfl (txDescriptorProcess_of_no_buffer image link idle turn first waits)
  case ethernet =>
    intro p host part_ idle h version own queue kind k n g g' r
    exact runs_of_row rfl (eoeFrameReceive_of_message (g := g') (r := r) host part_ idle version own queue kind rfl rfl)
  case sends =>
    intro c head body w w' image ethernet idle first whole k bs given rest d v z n
    exact runs_of_row rfl (eoeMessageSend_of_buffers (k := k) (n := n) (bs := bs) (v := v) (z := z) (d := d) image ethernet idle
      first whole rfl rfl given rest rfl rfl rfl rfl rfl)

end Sys2Proof
end

section
/-! The frames of the management port (Chapter 19), and power and the gauges (Chapters 20 and 25). -/

namespace Sys2Proof

open Machine

/-! ### Management frames -/

section Frames

variable {s t : State} {now op : Nat} {frame : List Byte} (supplied : (s.upTo now).boot.brownout = false)

include supplied

section Good

variable (good : spiGood frame = true)

include good

/-- A good frame of an operation runs its function; the result, what is shifted out and the wake follow. -/
theorem spiFrame_runs {f : State → Nat × List Byte × State} {r : Nat} {more : List Byte} (opcode : frameByte frame 0 = op)
    (runs : f (s.upTo now) = (r, more, t)) :
    s.spiFrame now op frame f = ((t.spiDone r).miso (s.upTo now) more).spiWakes (s.upTo now) := by
  simp only [State.spiFrame, supplied, good, opcode, runs, ne_eq, not_true_eq_false, Bool.not_true, Bool.false_eq_true, if_false]

theorem spiAction_runs {f : State → Nat × State} (opcode : frameByte frame 0 = op) (idle : (s.upTo now).spiBusy = false)
    (runs : f (s.upTo now) = (stOk, t)) :
    s.spiAction now op frame f = ((t.spiDone stOk).miso (s.upTo now) []).spiWakes (s.upTo now) := by
  refine spiFrame_runs supplied good opcode ?_
  simp only [idle, runs, Bool.false_eq_true, if_false]

theorem spiRead_of_page {a v : Nat} (opcode : frameByte frame 0 = 1) (addr : a = spiAddr frame) (aligned : a % 4 = 0)
    (page : spiReadPage (a / 65536) = true) (word : (s.upTo now).spiWord (a / 65536) (a % 65536) = (v, t)) :
    spiRead s now frame = ((t.spiDone stOk).miso (s.upTo now)
      (beBytes 4 v ++ [BitVec.ofNat 8 (crc8 (beBytes 4 v))])).spiWakes (s.upTo now) := by
  subst addr
  refine spiFrame_runs supplied good opcode ?_
  simp only [aligned, page, word, ne_eq, not_true_eq_false, decide_false, Bool.not_true, Bool.or_self, Bool.false_eq_true,
    if_false]

section Writes

variable {a x : Nat} (opcode : frameByte frame 0 = 2) (addr : a = spiAddr frame) (value : x = beNat ((frame.drop 4).take 4))
  (page : a / 65536 = 16) (writable : spiWritable (a % 65536) = true)

include opcode addr value page writable

theorem spiWrite_of_fields (notIsland : a % 65536 ≠ 0x8) (notStatus : a % 65536 ≠ 0x14) : spiWrite s now frame =
    ((((s.upTo now).fieldsWrite 4 16 (a % 65536) x).spiDone stOk).miso (s.upTo now) []).spiWakes (s.upTo now) := by
  subst addr value
  refine spiFrame_runs supplied good opcode ?_
  simp only [page, writable, notIsland, notStatus, ne_eq, not_true_eq_false, decide_false, Bool.not_true, Bool.or_self,
    Bool.false_eq_true, if_false]

theorem spiWrite_of_status (status : a % 65536 = 0x14) : spiWrite s now frame =
    ((((s.upTo now).xstatWrite 4 x).spiDone stOk).miso (s.upTo now) []).spiWakes (s.upTo now) := by
  subst addr value
  rw [status] at writable
  refine spiFrame_runs supplied good opcode ?_
  simp only [page, writable, status, (by decide : ¬ (0x14 = 0x8)), ne_eq, not_true_eq_false, decide_false, Bool.not_true,
    Bool.or_self, Bool.false_eq_true, if_false, if_true]

theorem spiWrite_of_island (island : a % 65536 = 0x8) (go : bitOf x 4 = true) : spiWrite s now frame =
    ((((s.upTo now).islCmd (bits x 0 4)).spiDone stOk).miso (s.upTo now) []).spiWakes (s.upTo now) := by
  subst addr value
  rw [island] at writable
  refine spiFrame_runs supplied good opcode ?_
  simp only [page, writable, island, go, ne_eq, not_true_eq_false, decide_false, Bool.not_true, Bool.or_self, Bool.false_eq_true,
    if_false, if_true]

end Writes

section Actions

variable (idle : (s.upTo now).spiBusy = false)

include idle

theorem spiReset_of_running (opcode : frameByte frame 0 = 0x20)
    (runs : ((s.upTo now).boot.held && (s.upTo now).boot.stage != 4 && !(s.upTo now).boot.dry) = false) : spiReset s now frame =
      ((((s.upTo now).deviceReset 2 0 (s.upTo now).inflight).spiDone stOk).miso (s.upTo now) []).spiWakes (s.upTo now) :=
  spiAction_runs supplied good opcode idle (if_neg (by rw [runs]; decide))

theorem spiFreeze_of_ring (opcode : frameByte frame 0 = 0x21) (freezes : ((s.upTo now).freeze 2).1 = true) :
    spiFreeze s now frame =
      ((((s.upTo now).freeze 2).2.spiDone stOk).miso (s.upTo now) []).spiWakes (s.upTo now) :=
  spiAction_runs supplied good opcode idle (Prod.ext (if_pos freezes) rfl)

theorem spiDry_of_wet (opcode : frameByte frame 0 = 0x22) (wet : (s.upTo now).boot.dry = false) : spiDry s now frame =
    (((s.upTo now).enterDry.spiDone stOk).miso (s.upTo now) []).spiWakes (s.upTo now) :=
  spiAction_runs supplied good opcode idle (if_neg (by rw [wet]; decide))

theorem spiLockdown_of_open (opcode : frameByte frame 0 = 0x23) (open_ : (s.upTo now).on Reg.FTH_STATUS_LOCKDOWN 0 0 = false) :
    spiLockdown s now frame =
      (((s.upTo now).lockdown.spiDone stOk).miso (s.upTo now) []).spiWakes (s.upTo now) :=
  spiAction_runs supplied good opcode idle (Prod.ext (if_neg (by rw [open_]; decide)) rfl)

end Actions

end Good

theorem spiFrameError_of_bad (bad : spiGood frame = false) (known : (spiLength (frameByte frame 0)).isNone = false) :
    spiFrameError s now frame =
      ({ s.upTo now with fth := { (s.upTo now).fth with spiErr := true } } : State).miso (s.upTo now) [] := by
  simp only [spiFrameError, supplied, bad, known, Bool.or_self, Bool.false_eq_true, if_false]

end Frames

/-- Settles O40: a good frame runs its function, and the status byte and the wake follow. -/
theorem managementFramesAreServed : Obligations.ManagementFramesAreServed := by
  unfold Obligations.ManagementFramesAreServed
  intro s now frame u a x
  refine ⟨fun supplied opcode good aligned page v t word => ?read, fun supplied opcode good page writable =>
      ⟨fun notIsland notStatus => ?fields, fun status => ?status, fun island go => ?island⟩,
    fun supplied opcode good idle runs => ?reset, fun supplied opcode good idle freezes => ?freeze,
    fun supplied opcode good idle wet => ?dry, fun supplied opcode good idle open_ => ?lockdown,
    fun supplied bad known => ?error⟩
  case read => exact runs_of_row rfl (spiRead_of_page supplied good opcode rfl aligned page word)
  case fields => exact runs_of_row rfl (spiWrite_of_fields supplied good opcode rfl rfl page writable notIsland notStatus)
  case status => exact runs_of_row rfl (spiWrite_of_status supplied good opcode rfl rfl page writable status)
  case island => exact runs_of_row rfl (spiWrite_of_island supplied good opcode rfl rfl page writable island go)
  case reset => exact runs_of_row rfl (spiReset_of_running supplied good idle opcode runs)
  case freeze => exact runs_of_row rfl (spiFreeze_of_ring supplied good idle opcode freezes)
  case dry => exact runs_of_row rfl (spiDry_of_wet supplied good idle opcode wet)
  case lockdown => exact runs_of_row rfl (spiLockdown_of_open supplied good idle opcode open_)
  case error => exact runs_of_row rfl (spiFrameError_of_bad supplied bad known)

/-! ### Power states -/

section Power

variable {s : State} {now : Nat}

section Awake

variable (image : (s.upTo now).imageRuns = true) (awake : (s.upTo now).rd Reg.PWR_STATUS_STATE < 3)

include image awake

section Idle

variable (idle : (s.upTo now).on Reg.PWR_STATUS_BUSY 0 0 = false)

include idle

theorem powerTargetEval_of_same (same : (s.upTo now).powerTarget = (s.upTo now).rd Reg.PWR_STATUS_TARGET) :
    powerTargetEval s now =
      if (s.upTo now).powerTarget < (s.upTo now).rd Reg.PWR_STATUS_STATE then (s.upTo now).leaveToFlow else s.upTo now := by
  simp only [powerTargetEval, image, Nat.not_le.mpr awake, idle, if_pos same, decide_false, Bool.not_true, Bool.or_self,
    Bool.false_eq_true, if_false]

theorem powerTargetEval_of_changed {w : State} (changed : (s.upTo now).powerTarget ≠ (s.upTo now).rd Reg.PWR_STATUS_TARGET)
    (notes : w = { (s.upTo now).wr Reg.PWR_STATUS_TARGET (s.upTo now).powerTarget with
      pwr := { (s.upTo now).pwr with since := (s.upTo now).wall } }) :
    powerTargetEval s now = if (s.upTo now).powerTarget < w.rd Reg.PWR_STATUS_STATE then w.leaveToFlow else w := by
  subst notes
  simp only [powerTargetEval, image, Nat.not_le.mpr awake, idle, if_neg changed, decide_false, Bool.not_true, Bool.or_self,
    Bool.false_eq_true, if_false]

theorem dwellExpire_of_held {t : Nat} (target : t = (s.upTo now).rd Reg.PWR_STATUS_TARGET) (same : (s.upTo now).powerTarget = t)
    (deeper : (s.upTo now).rd Reg.PWR_STATUS_STATE < t)
    (held : (s.upTo now).pwr.since + (s.upTo now).rd Reg.PWR_CFG_DWELL * 1000000 ≤ (s.upTo now).wall) :
    dwellExpire s now = (s.upTo now).enterDeeper t := by
  subst target
  simp only [dwellExpire, image, Nat.not_le.mpr awake, idle, same, deeper, held, decide_true, decide_false, Bool.not_true,
    Bool.or_self, Bool.and_self, Bool.false_eq_true, if_false, if_true]

end Idle

/-- One step of the floor loop: the voltage, and the start of the shedding ladder below the floor. -/
theorem floorLoop_of_awake {ack : Bool} {speed margin top : Nat} {since : Option Nat} {v w z : State}
    (speed_ : speed = (s.upTo now).rd Reg.GAU_SUMMARY_SMIN) (margin_ : margin = (s.upTo now).rd Reg.PWR_FLOOR_MARGIN)
    (top_ : top = (s.upTo now).rd Reg.PWR_VCORE_VMAX)
    (since_ : since = if (s.upTo now).floorOf + 2 * margin < speed
      then some ((s.upTo now).pwr.overSince.getD (s.upTo now).wall) else none)
    (notes : v = { s.upTo now with pwr := { (s.upTo now).pwr with overSince := since } })
    (moves : w = if speed < (s.upTo now).floorOf + margin ∧ (s.upTo now).vSeen < top
        then v.pmbusWrite (min ((s.upTo now).vSeen + 10) top) ack
      else if since.any (fun t => decide (t + 1000000 ≤ (s.upTo now).wall)) = true ∧ v.vMin < (s.upTo now).vSeen
        then v.pmbusWrite ((s.upTo now).vSeen - 5) ack else v)
    (breach : z = (w.setAll [(Reg.PWR_STATUS_FLOOR_BREACH, 0, 0, 1), (Reg.PWR_STATUS_SHED_STEP, 0, 0, 1)]).bump
      Reg.PWR_BREACH_CNT) :
    floorLoop s now ack = if speed < (s.upTo now).floorOf ∧ w.on Reg.PWR_STATUS_FLOOR_BREACH 0 0 = false then
        ({ z with pwr := { z.pwr with shedAt := w.wall } } : State).eventSup Reg.PWR_INT_STATUS_FLOOR_BREACH
          Reg.PWR_INT_EN_FLOOR_BREACH
      else w := by
  subst breach moves notes speed_ margin_ top_
  simp only [floorLoop, image, Nat.not_le.mpr awake, decide_false, Bool.not_true, Bool.or_self, Bool.false_eq_true, if_false,
    ← since_, Bool.and_eq_true, decide_eq_true_eq, Bool.not_eq_true']
  cases since <;> rfl

end Awake

theorem wakeEvent_of_enabled {cause : Nat} (source : 1 ≤ cause) (exists_ : cause ≤ 7)
    (enabled : (s.upTo now).wakeEnabled cause = true) : wakeEvent s now cause = (s.upTo now).wake cause := by
  simp only [wakeEvent, source, exists_, enabled, decide_true, Bool.and_self, if_true]

theorem wakeTimerExpire_of_due (sleeps : (s.upTo now).boot.dry = true ∨ (s.upTo now).rd Reg.PWR_STATUS_STATE = 3)
    (timer : (s.upTo now).rd Reg.PWR_WAKE_TIMER_MS ≠ 0)
    (due : (s.upTo now).pwr.sleptAt + (s.upTo now).rd Reg.PWR_WAKE_TIMER_MS * 1000000 ≤ (s.upTo now).wall) :
    wakeTimerExpire s now = (s.upTo now).wake 6 := by
  have asleep : ((s.upTo now).boot.dry || (s.upTo now).rd Reg.PWR_STATUS_STATE == 3) = true := by
    rcases sleeps with dry | still
    · rw [dry, Bool.true_or]
    · rw [still, BEq.rfl, Bool.or_true]
  simp only [wakeTimerExpire, asleep, bne_iff_ne.mpr timer, due, decide_true, Bool.and_self, Bool.true_or, if_true]

section Commands

variable {m : State} {p : Nat} (sup : (m.upTo now).isSup p = true) (linked : ((m.upTo now).linkOf p).isNone = false)
  (image : (m.upTo now).imageRuns = true)

include sup linked image

theorem pwrEnterDry_of_wet (wet : (m.upTo now).boot.dry = false) :
    pwrEnterDry m now p = ((m.upTo now).wr Reg.PWR_CMD_RESULT stOk).enterDry := by
  simp only [pwrEnterDry, sup, linked, image, wet, Bool.not_true, Bool.or_self, Bool.false_eq_true, if_false]

variable {v : State} (deep : (m.upTo now).rd Reg.PWR_STATUS_STATE ≠ 0) (answers : v = (m.upTo now).wr Reg.PWR_CMD_RESULT stOk)

include deep answers

theorem pwrWake_of_still (still : v.rd Reg.PWR_STATUS_STATE = 3) : pwrWake m now p = v.wake 7 := by
  subst answers
  simp only [pwrWake, sup, linked, image, deep, still, Bool.not_true, Bool.or_self, Bool.false_eq_true, if_false, if_true]

theorem pwrWake_of_shallower (other : v.rd Reg.PWR_STATUS_STATE ≠ 3) (idle : v.on Reg.PWR_STATUS_BUSY 0 0 = false) :
    pwrWake m now p = (v.wr Reg.PWR_STATUS_WAKE_CAUSE 7).leaveToFlow := by
  subst answers
  simp only [pwrWake, sup, linked, image, deep, other, idle, Bool.not_true, Bool.or_self, Bool.false_eq_true, if_false]

end Commands

theorem pmbAlert_of_enabled (enabled : (s.upTo now).boot.coreEn = true) : pmbAlert s now =
    ({ s.upTo now with pwr := { (s.upTo now).pwr with vUnknown := true } } : State).eventSup
      Reg.PWR_INT_STATUS_PMBUS_ERR Reg.PWR_INT_EN_PMBUS_ERR := by
  simp only [pmbAlert, enabled, Bool.not_true, Bool.false_eq_true, if_false]

theorem tripCooldownEnd_of_cool (tripped : (s.upTo now).boot.tripped = true)
    (cool : ∀ n < 24, signed 16 ((s.upTo now).fld Reg.GAU_TEMP_TEMP n 0) ≤
      16 * ((s.upTo now).rd Reg.GAU_THRESH_TRIP : Int) - 240) :
    tripCooldownEnd s now = ({ s.upTo now with boot := { (s.upTo now).boot with
      tripped := false, coreEn := true, coreAt := (s.upTo now).wall } } : State).emit (.pin 9 true) := by
  have all : ((List.range 24).all fun n => decide (signed 16 ((s.upTo now).fld Reg.GAU_TEMP_TEMP n 0) ≤
      16 * ((s.upTo now).rd Reg.GAU_THRESH_TRIP : Int) - 240)) = true :=
    List.all_eq_true.mpr fun n sensor => decide_eq_true (cool n (List.mem_range.mp sensor))
  simp only [tripCooldownEnd, tripped, all, Bool.and_self, if_true]

theorem shedIntervalStep_of_breach {lim speed k k' : Nat} {v : State}
    (breach : (s.upTo now).on Reg.PWR_STATUS_FLOOR_BREACH 0 0 = true) (speed_ : speed = (s.upTo now).rd Reg.GAU_SUMMARY_SMIN)
    (lim_ : lim = (s.upTo now).floorOf + (s.upTo now).rd Reg.PWR_FLOOR_MARGIN)
    (k_ : k = (s.upTo now).rd Reg.PWR_STATUS_SHED_STEP)
    (steps : k' = if speed < lim ∧ k < (s.upTo now).shedLen then k + 1 else if lim ≤ speed ∧ 0 < k then k - 1 else k)
    (writes : v = (s.upTo now).wr Reg.PWR_STATUS_SHED_STEP k') :
    shedIntervalStep s now = if k' = 0 ∧ lim ≤ speed then
        (v.wr Reg.PWR_STATUS_FLOOR_BREACH 0).eventSup Reg.PWR_INT_STATUS_BREACH_CLEAR Reg.PWR_INT_EN_BREACH_CLEAR
      else v := by
  subst writes speed_ lim_ k_
  simp only [shedIntervalStep, breach, Bool.not_true, Bool.false_eq_true, if_false, Bool.and_eq_true, decide_eq_true_eq, ← steps]

end Power

/-! ### The gauges -/

/-- State u with the gauges of a sample filled, for the basins that are on. -/
def gaugesFilled (u : State) (temps volts speeds : List Nat) (on : Nat → Bool) : State :=
  (((((u.setAll ((List.range 24).map fun n => (Reg.GAU_TEMP_TEMP, n, 0, temps.getD n 0))).setAll
    ((List.range 24).map fun n => (Reg.GAU_TEMP_VALID, n, 0, 1))).setAll
    ((List.range 16).map fun n => (Reg.GAU_VOLT_MV, n, 0, volts.getD n 0))).setAll
    ((List.range 16).map fun n => (Reg.GAU_VOLT_VALID, n, 0, 1))).setAll
    ((List.range 12).map fun b => (Reg.GAU_SPEED_SPEED, b, 0, speeds.getD b 0))).setAll
    ((List.range 12).map fun b => (Reg.GAU_SPEED_VALID, b, 0, flagBit (on b)))

theorem gaugeSample_of_supplied {s : State} {now : Nat} {temps volts speeds : List Nat} {on : Nat → Bool} {tmax : Int}
    {ss : List Nat} {smin lim : Nat} {v v' w w' z : State} (supplied : (s.upTo now).boot.brownout = false)
    (on_ : on = fun b => (s.upTo now).boot.coreEn && (s.upTo now).boot.railsOk && !(s.upTo now).pwr.basinsOff.contains b)
    (tmax_ : tmax = ((List.range 24).map fun n => signed 16 (temps.getD n 0)).foldl max
      (((List.range 24).map fun n => signed 16 (temps.getD n 0)).headD 0))
    (ss_ : ss = ((List.range 12).filter on).map fun b => speeds.getD b 0 % 65536) (smin_ : smin = ss.foldl min (ss.headD 0))
    (fills : v = (gaugesFilled (s.upTo now) temps volts speeds on).setAll
      [(Reg.GAU_SUMMARY_TMAX, 0, 0, unsigned 16 tmax), (Reg.GAU_SUMMARY_SMIN, 0, 0, smin)])
    (lim_ : lim = v.rd Reg.PWR_FLOOR_FLOOR + v.rd Reg.PWR_FLOOR_MARGIN)
    (warns : v' = if 16 * (v.rd Reg.GAU_THRESH_WARN : Int) ≤ tmax ∧
        signed 16 ((s.upTo now).rd Reg.GAU_SUMMARY_TMAX) < 16 * (v.rd Reg.GAU_THRESH_WARN : Int)
      then v.eventSup Reg.GAU_INT_STATUS_TEMP_WARN Reg.GAU_INT_EN_EN else v)
    (slows : w = if smin < lim ∧ lim ≤ (s.upTo now).rd Reg.GAU_SUMMARY_SMIN ∧ ss.isEmpty = false
      then v'.eventSup Reg.GAU_INT_STATUS_SPEED_LOW Reg.GAU_INT_EN_EN else v')
    (ranges : w' = { w with boot := { w.boot with voltBad := w.boot.voltBad.filter fun n =>
      !(decide ((w.voltRange n).1 ≤ volts.getD n 0 * 1000) && decide (volts.getD n 0 * 1000 ≤ (w.voltRange n).2)) } })
    (ages : z = (w'.ageing speeds).wearCheck) :
    gaugeSample s now temps volts speeds =
      if 16 * (v.rd Reg.GAU_THRESH_TRIP : Int) ≤ tmax ∧ z.boot.tripped = false then z.thermalTrip else z := by
  subst ages ranges slows warns lim_ fills smin_ ss_ tmax_ on_
  simp only [gaugeSample, supplied, Bool.false_eq_true, if_false, Bool.and_eq_true, decide_eq_true_eq, Bool.not_eq_true',
    and_assoc, gaugesFilled]
  rfl

/-- Settles O41: each clause is the branch of its operation on the power state and the gauges. -/
theorem powerStatesAndGaugesFollowTheirRules : Obligations.PowerStatesAndGaugesFollowTheirRules := by
  unfold Obligations.PowerStatesAndGaugesFollowTheirRules
  intro s now part cause ack temps volts speeds u m speed margin
  refine ⟨fun image awake idle => ⟨fun same => ?same, fun changed => ?changed⟩, fun image awake idle => ?dwell,
    fun source enabled => ?wake, fun sleeps timer due => ?timer, fun sup linked image wet => ?dry,
    fun sup linked image deep => ⟨fun still => ?still, fun other idle => ?shallower⟩, fun enabled => ?alert,
    fun tripped cool => ?cool, fun breach => ?shed, fun image awake => ?floor, fun supplied => ?gauges⟩
  case same => exact runs_of_row rfl (powerTargetEval_of_same image awake idle same)
  case changed => exact runs_of_row rfl (powerTargetEval_of_changed image awake idle changed rfl)
  case dwell =>
    intro t same deeper held
    exact runs_of_row rfl (dwellExpire_of_held image awake idle rfl same deeper held)
  case wake => exact runs_of_row rfl (wakeEvent_of_enabled source (Nat.le_of_lt_succ cause.isLt) enabled)
  case timer => exact runs_of_row rfl (wakeTimerExpire_of_due sleeps timer due)
  case dry => exact served_of_hostCmd rfl fun _ => pwrEnterDry_of_wet sup linked image wet
  case still => exact served_of_hostCmd rfl fun _ => pwrWake_of_still sup linked image deep rfl still
  case shallower => exact served_of_hostCmd rfl fun _ => pwrWake_of_shallower sup linked image deep rfl other idle
  case alert => exact runs_of_row rfl (pmbAlert_of_enabled enabled)
  case cool => exact runs_of_row rfl (tripCooldownEnd_of_cool tripped cool)
  case shed =>
    intro lim k k' v
    exact runs_of_row rfl (shedIntervalStep_of_breach (lim := lim) (k := k) (k' := k') (v := v) breach rfl rfl rfl rfl rfl)
  case floor =>
    intro top since v w z
    exact runs_of_row rfl (floorLoop_of_awake (speed := speed) (margin := margin) (top := top) (since := since) (v := v) (w := w)
      (z := z) image awake rfl rfl rfl rfl rfl rfl rfl)
  case gauges =>
    intro on v0 ts tmax ss smin v lim v' w w' z
    exact runs_of_row rfl (gaugeSample_of_supplied (on := on) (tmax := tmax) (ss := ss) (smin := smin) (v := v) (lim := lim)
      (v' := v') (w := w) (w' := w') (z := z) supplied rfl rfl rfl rfl rfl rfl rfl rfl rfl rfl)

end Sys2Proof
end

section
/-! The commands of the Fountainhead (Chapter 21). -/

namespace Sys2Proof

open Machine

section Fountainhead

variable {s u v : State} {now p : Nat} {entropy : List Byte}

/-- Time passes without a change of what a host's page answers. -/
theorem pageOk_upTo (s : State) (now p page : Nat) : (s.upTo now).pageOk p page = s.pageOk p page := by
  simp only [State.upTo]
  split <;> rfl

/-! ### The nonce, tokens and the press of the button -/

theorem fthNonce_of_sup (passed : u = s.upTo now) (page : s.pageOk p 14 = true) (sup : u.isSup p = true) :
    fthNonce s now p entropy = (({ u with fth := { u.fth with
      nonce := some (takeBytes 32 entropy, u.wall + 300000000000) } } : State).showNonce).fthDone p stOk := by
  subst passed
  simp only [fthNonce, fthCommand_of_sup ((pageOk_upTo s now p 14).trans page) sup]

theorem nonceExpire_of_passed {b : List Byte} {e : Nat} (passed : u = s.upTo now) (shown : u.fth.nonce = some (b, e))
    (old : e ≤ u.wall) : nonceExpire s now = ({ u with fth := { u.fth with nonce := none } } : State).showNonce := by
  subst passed
  simp only [nonceExpire, shown, old, if_true]

section Token

variable {t : List Byte} (passed : u = s.upTo now) (page : u.pageOk p 14 = true) (token : t = u.window p 0 3437)
  (consumed : v = ({ u with fth := { u.fth with nonce := none } } : State).showNonce) (sup : v.isSup p = true)

include passed page token consumed sup

theorem fthToken_of_press (waits : u.tokenStatus t = none) : fthToken s now p =
    (({ v with fth := { v.fth with press := some (t, p, v.wall) } } : State).setFld Reg.FTH_CMD_PENDING 0 p 1).wr
      Reg.FTH_STATUS_PRESS_WAIT 1 := by
  simp only [fthToken, ← passed, page, ← token, ← consumed, sup, waits, Bool.not_true, Bool.false_eq_true, if_false]

theorem fthToken_of_ok (ok : u.tokenStatus t = some stOk) : fthToken s now p =
    ((({ v with fth := { v.fth with counter1 := leNat ((t.drop 0x3C).take 4) } } : State).wr Reg.FTH_COUNTER1_VALUE
      (leNat ((t.drop 0x3C).take 4))).tokenApplied 3).fthDone p stOk := by
  simp only [fthToken, ← passed, page, ← token, ← consumed, sup, ok, Bool.not_true, Bool.false_eq_true, if_false, if_true]

theorem fthToken_of_refused {r : Nat} (refused : u.tokenStatus t = some r) (bad : r ≠ stOk) :
    fthToken s now p = v.fthDone p r := by
  simp only [fthToken, ← passed, page, ← token, ← consumed, sup, refused, bad, Bool.not_true, Bool.false_eq_true, if_false]

end Token

section Press

variable {t : List Byte} {q at_ : Nat} (passed : u = s.upTo now) (waits : u.fth.press = some (t, q, at_))

include passed waits

theorem svcBtnPress_of_waiting (later : at_ < u.wall) (inTime : u.wall ≤ at_ + 10000000000) :
    svcBtnPress s now = (u.applyToken t).2.endPress q (u.applyToken t).1 := by
  simp only [svcBtnPress, ← passed, waits, Nat.not_le.mpr later, Nat.not_lt.mpr inTime, decide_false, Bool.or_self,
    Bool.false_eq_true, if_false]

theorem pressWaitTimeout_of_late (late : at_ + 10000000000 ≤ u.wall) :
    pressWaitTimeout s now = u.endPress q stTimeout := by
  simp only [pressWaitTimeout, ← passed, waits, late, if_true]

end Press

/-! ### Attestation, the life cycle and provisioning -/

theorem fthAttest_of_seed {k r : List Byte} (page : s.pageOk p 14 = true) (notRaw : s.fth.lc ≠ 0)
    (notLast : s.fth.lc ≠ 4) (seed : s.fth.seed = some k) (report : r = s.report p (s.window p 0 32)) :
    fthAttest s p = (s.setWindow p 0 (r ++ takeBytes 3309 (Config.mlDsaSign k r (ascii "CLR192-ATT")))).fthDone p stOk := by
  simp only [fthAttest, ← report, page, notRaw, notLast, seed, decide_false, Bool.or_self, Bool.not_true, Bool.false_eq_true, if_false]

theorem fthProvision_of_keys {k : SMap (List Byte)} (page : s.pageOk p 14 = true) (sup : s.isSup p = true)
    (cycle : s.fth.lc = 1 ∨ s.fth.lc = 3)
    (keys : addKeys s.fth.keys (Config.provKeys (cellRead s.fth.well 0x10000 0x4000)) = some k) : fthProvision s p =
    ({ s with fth := { s.fth with provPending := true, keys := k } } : State).showKeys.fthDone p stOk := by
  have notField : s.fth.lc ≠ 2 := by omega
  have open_ : (decide (s.fth.lc = 1) || decide (s.fth.lc = 3)) = true := by simpa using cycle
  simp only [fthProvision, fthCommand_of_sup page sup, notField, open_, keys, if_false, if_true]

section Argument

variable {arg : Nat} (page : s.pageOk p 14 = true) (shows : v = s.setFld Reg.FTH_CMD_ARG 0 p arg)
  (pageArg : v.pageOk p 14 = true) (sup : v.isSup p = true)

include page shows pageArg sup

/-- A command with an argument runs on the state that shows its argument. -/
theorem fthCommandArg_of_sup (f : State → Nat × State) : s.fthCommandArg p arg f = (f v).2.fthDone p (f v).1 := by
  subst shows
  simp only [State.fthCommandArg, page, fthCommand_of_sup pageArg sup, Bool.not_true, Bool.false_eq_true, if_false]

theorem fthLcAdvance_of_ok (none_ : v.fth.lcPending.isSome = false) (legal : lcAdvanceOk v.fth.lc arg = true)
    (field : arg = 2 → v.liveKeys.isEmpty = false ∧ v.fth.prov.isNone = false) :
    fthLcAdvance s p arg entropy = (v.acceptTransition arg entropy).fthDone p stOk := by
  have ready : (decide (arg = 2) && (v.liveKeys.isEmpty || v.fth.prov.isNone)) = false := by
    by_cases two : arg = 2
    · obtain ⟨live, prov⟩ := field two
      simp only [live, prov, Bool.or_self, Bool.and_false]
    · simp only [two, decide_false, Bool.false_and]
  simp only [fthLcAdvance, fthCommandArg_of_sup page shows pageArg sup, none_, legal, ready, Bool.not_true,
    Bool.false_eq_true, if_false]

section Slot

variable (slot : arg ≤ 1) (stands : v.slotRuns arg = false)

include slot stands

theorem fthImgErase_of_slot : fthImgErase s p arg = ({ v with fth := { v.fth with
    well := cellClear v.fth.well (slotBase arg) 4096 } } : State).fthDone p stOk := by
  simp only [fthImgErase, fthCommandArg_of_sup page shows pageArg sup, Nat.not_lt.mpr slot, stands, Bool.false_eq_true,
    if_false]

theorem fthImgVerify_of_slot : fthImgVerify s p arg =
    (v.wr (if arg = 0 then Reg.FTH_STATUS_SLOT0_CAUSE else Reg.FTH_STATUS_SLOT1_CAUSE) (v.slotCause arg)).fthDone p
      (if v.slotCause arg = 0 then stOk else stInvalid) := by
  simp only [fthImgVerify, fthCommandArg_of_sup page shows pageArg sup, Nat.not_lt.mpr slot, stands, Bool.false_eq_true,
    if_false]

end Slot

end Argument

/-! ### Transfers of the window -/

section Window

variable {target off : Nat} (page : s.pageOk p 14 = true)

include page

theorem fthWinWrite_of_slot (shows : v = s.winFields p target 1 off) (sup : v.isSup p = true) (slot : target < 2)
    (stands : v.slotRuns target = false) (inside : off < 1920) : fthWinWrite s p target off =
    ({ v with fth := { v.fth with
      well := cellWrite v.fth.well (slotBase target + 4096 * off) (v.window p 0 4096) } } : State).winDone p stOk := by
  subst shows
  simp only [fthWinWrite, page, sup, slot, stands, Nat.not_le.mpr inside, Bool.not_true, Bool.false_eq_true, if_false,
    if_true]

theorem fthWinWrite_of_provision (shows : v = s.winFields p 2 1 off) (sup : v.isSup p = true) (inside : off < 4) :
    fthWinWrite s p 2 off = ({ v with fth := { v.fth with
      well := cellWrite v.fth.well (0x10000 + 4096 * off) (v.window p 0 4096) } } : State).winDone p stOk := by
  subst shows
  simp only [fthWinWrite, page, sup, Nat.lt_irrefl, Nat.not_le.mpr inside, Bool.not_true, Bool.false_eq_true, if_false,
    if_true]

theorem fthWinRead_of_source {bs : List Byte} (shows : v = s.winFields p target 0 off)
    (right : v.isSup p = true ∨ target = 3 ∨ target = 5 ∨ target = 6) (source : v.windowSource target off = some bs) :
    fthWinRead s p target off = (v.setWindow p 0 bs).winDone p stOk := by
  subst shows
  have allowed : (!(s.winFields p target 0 off).isSup p && !(target == 3 || target == 5 || target == 6)) = false := by
    simpa [or_assoc, imp_iff_not_or] using right
  simp only [fthWinRead, page, allowed, source, Bool.not_true, Bool.false_eq_true, if_false]

end Window

end Fountainhead

/-- Settles O42: each command of the Fountainhead completes with the status and the effect of its rule. -/
theorem fountainheadCommandsCompleteByTheirRules : Obligations.FountainheadCommandsCompleteByTheirRules := by
  unfold Obligations.FountainheadCommandsCompleteByTheirRules
  intro s now part entropy arg slot target offset u w m
  have pageLater : MayWrite s part.val 14 → m.pageOk part.val 14 = true :=
    fun may => (pageOk_upTo w now part.val 14).trans may.pageAt
  refine ⟨fun sup => served_of_hostCmd rfl fun may => fthNonce_of_sup rfl may.pageAt sup,
    fun b e shown old => runs_of_row rfl (nonceExpire_of_passed rfl shown old), ?token,
    fun t p e waits later inTime => runs_of_row rfl (svcBtnPress_of_waiting rfl waits later inTime),
    fun t p e waits late => runs_of_row rfl (pressWaitTimeout_of_late rfl waits late), ?attest,
    fun sup image below => served_of_hostCmd rfl fun may => fthConfirm_of_below may.pageAt sup image below, ?advance,
    fun sup cycle k keys => served_of_hostCmd rfl fun may => fthProvision_of_keys may.pageAt sup cycle keys,
    ?erase, ?verify, ?winWrite, ?winRead⟩
  case token =>
    intro t v sup
    refine ⟨fun waits => served_of_hostCmd rfl fun may => fthToken_of_press rfl (pageLater may) rfl rfl sup waits, ?applied,
      fun r refused bad => served_of_hostCmd rfl fun may => fthToken_of_refused rfl (pageLater may) rfl rfl sup refused bad⟩
    case applied =>
      intro ok a
      exact served_of_hostCmd rfl fun may => fthToken_of_ok rfl (pageLater may) rfl rfl sup ok
  case attest =>
    intro k notRaw notLast seed r
    exact served_of_hostCmd rfl fun may => fthAttest_of_seed may.pageAt notRaw notLast seed rfl
  case advance =>
    intro v pageArg sup idle legal field
    exact served_of_hostCmd rfl fun may => fthLcAdvance_of_ok may.pageAt rfl pageArg sup idle legal field
  case erase =>
    intro v pageArg sup small stands
    exact served_of_hostCmd rfl fun may => fthImgErase_of_slot may.pageAt rfl pageArg sup small stands
  case verify =>
    intro v pageArg sup small stands
    exact served_of_hostCmd rfl fun may => fthImgVerify_of_slot may.pageAt rfl pageArg sup small stands
  case winWrite =>
    intro v sup
    refine ⟨fun small stands inside => served_of_hostCmd rfl fun may =>
      fthWinWrite_of_slot may.pageAt rfl sup small stands inside, fun staged inside => served_of_hostCmd rfl fun may => ?_⟩
    exact staged ▸ fthWinWrite_of_provision may.pageAt (by rw [← staged]) sup inside
  case winRead =>
    intro v right bs source
    exact served_of_hostCmd rfl fun may => fthWinRead_of_source may.pageAt rfl right source

end Sys2Proof
end

section
/-! Self-tests, the reservoir map and the fault log (Chapters 21 to 23). -/

namespace Sys2Proof

open Machine

section SelfTests

variable {s u v z : State} {now p region : Nat}

/-! ### The commands of the tests -/

section Command

variable (page : s.pageOk p 14 = true) (sup : s.isSup p = true)

include page sup

theorem stCommand_of_sup (f : State → Nat × State) :
    s.stCommand p f = (f s).2.wr Reg.FTH_ST_CMD_RESULT (f s).1 := by
  simp only [State.stCommand, page, sup, Bool.not_true, Bool.false_eq_true, if_false]

section Region

variable (shows : v = s.wr Reg.FTH_ST_CMD_REGION region) (cycle : v.testLc = stOk)
  (idle : v.on Reg.FTH_ST_STATUS_RUNNING 0 0 = false)

include shows cycle idle

theorem fthStRegion_of_image (basin : region < 12) (image : v.imageRuns = true) (allowed : v.testAllowed region = true) :
    fthStRegion s p region = (v.testBegin region).wr Reg.FTH_ST_CMD_RESULT stOk := by
  simp only [fthStRegion, stCommand_of_sup page sup, ← shows, cycle, idle, image, allowed, Nat.not_le.mpr basin, ne_eq,
    not_true_eq_false, Bool.false_eq_true, if_false, if_true]

theorem fthStRegion_of_bridge (small : region < 13) (bridge : v.imageRuns = false) : fthStRegion s p region =
    ((v.scanBegin region).setAll [(Reg.FTH_ST_STATUS_RUNNING, 0, 0, 1), (Reg.FTH_ST_STATUS_REGION, 0, 0, region),
      (Reg.FTH_ST_STATUS_STEP, 0, 0, 4)]).wr Reg.FTH_ST_CMD_RESULT stOk := by
  simp only [fthStRegion, stCommand_of_sup page sup, ← shows, cycle, idle, bridge, Nat.not_le.mpr small, ne_eq,
    not_true_eq_false, Bool.false_eq_true, if_false]

end Region

theorem fthStFull_of_idle (cycle : s.testLc = stOk) (idle : s.on Reg.FTH_ST_STATUS_RUNNING 0 0 = false)
    (resets : z = s.free.2.deviceReset (s.free.1.toNat % 16) (flagBit s.free.2.boot.railsOk) s.free.2.inflight) :
    fthStFull s p = ({ z with boot := { z.boot with fullTest := true } } : State).wr Reg.FTH_ST_CMD_RESULT stOk := by
  simp only [fthStFull, stCommand_of_sup page sup, ← resets, cycle, idle, ne_eq, not_true_eq_false, Bool.false_eq_true,
    if_false]

theorem fthStAbort_of_running (runs : s.on Reg.FTH_ST_STATUS_RUNNING 0 0 = true) :
    fthStAbort s p = s.testAbort.wr Reg.FTH_ST_CMD_RESULT stOk := by
  simp only [fthStAbort, stCommand_of_sup page sup, runs, Bool.not_true, Bool.false_eq_true, if_false]

end Command

/-! ### The schedule -/

section Schedule

variable (passed : u = s.upTo now)

include passed

theorem scheduledTestStart_of_due (image : u.imageRuns = true) (scheduled : u.testPeriod ≠ 0)
    (due : u.fth.testAt + u.testPeriod / 12 ≤ u.now)
    (turn : z = { u with fth := { u.fth with testAt := u.fth.testAt + u.testPeriod / 12 } })
    (none_ : z.on Reg.FTH_ST_STATUS_DEFERRED 0 0 = false) : scheduledTestStart s now =
      if z.testAllowed z.nextTest then z.takeTurn.testBegin z.nextTest else z.wr Reg.FTH_ST_STATUS_DEFERRED 1 := by
  simp only [scheduledTestStart, ← passed, image, scheduled, Nat.not_lt.mpr due, ← turn, none_, decide_false,
    Bool.not_true, Bool.or_self, Bool.false_eq_true, if_false]

theorem deferredTestStart_of_allowed (deferred : u.on Reg.FTH_ST_STATUS_DEFERRED 0 0 = true)
    (allowed : u.testAllowed u.nextTest = true) : deferredTestStart s now =
      (u.wr Reg.FTH_ST_STATUS_DEFERRED 0).takeTurn.testBegin u.nextTest := by
  simp only [deferredTestStart, ← passed, deferred, allowed, Bool.and_self, if_true]

end Schedule

/-! ### The end of a test -/

theorem ceTestEnds_of_outcome {fail o : Nat} {mem safe : Bool} (outcome : s.ceOutcome fail = (o, safe, z)) :
    s.ceTestEnds fail mem = if safe then ((z.testResult 12 o fail mem false).testEnds).safeState
      else (z.testResult 12 o fail mem false).testEnds := by
  simp only [State.ceTestEnds, outcome]

section BasinEnds

variable {b fail o : Nat} {mem shared : Bool} {helper : BitVec 2} {speeds : List Nat} {x : State}
  (outcome : s.basinOutcome b fail shared = (o, z))
  (recorded : x = (z.testResult b o fail mem (helper != 0)).restoreBasin b)

include outcome recorded

/-- A basin that is lost stays out; where too little is left the device enters the safe state. -/
theorem basinTestEnds_of_lost (lost : o = 3) : s.basinTestEnds b fail mem shared helper speeds =
    if s.fth.heldRegions.any fun y => y < 12 && y != b then x.safeState else x.testEnds := by
  subst recorded lost
  simp only [State.basinTestEnds, outcome, decide_true, Bool.true_and, Bool.true_or, if_true]

section Returns

variable {a : State} (kept : o ≠ 3) (swapped : a = (x.wearSwap b speeds).helpersFailed b helper)

include kept swapped

theorem basinTestEnds_of_image (image : a.imageRuns = true) : s.basinTestEnds b fail mem shared helper speeds =
    (a.wr Reg.FTH_ST_STATUS_STEP 7).switchBegin a.returnMap 16 0 := by
  simp only [State.basinTestEnds, outcome, ← recorded, kept, ← swapped, image, decide_false, Bool.false_and, Bool.not_true,
    Bool.or_self, Bool.false_eq_true, if_false]

theorem basinTestEnds_of_bridge (bridge : a.imageRuns = false) : s.basinTestEnds b fail mem shared helper speeds =
    a.testEnds := by
  simp only [State.basinTestEnds, outcome, ← recorded, kept, ← swapped, bridge, decide_false, Bool.false_and, Bool.not_false,
    Bool.or_true, Bool.false_eq_true, if_false, if_true]

end Returns

end BasinEnds

section Bist

variable {fail : Nat} {mem loadOk pass : Bool} {helper : BitVec 2} {repairs : List (Nat × BitVec 16 × W32 × W32)}
  {scan : Option (List (BitVec 64))} {speeds : List Nat}
  (passed : u = s.upTo now) (runs : u.on Reg.FTH_ST_STATUS_RUNNING 0 0 = true)
  (scans : u.rd Reg.FTH_ST_STATUS_STEP = 4) (tested : region = u.rd Reg.FTH_ST_STATUS_REGION)
  (ends : (u.repaired repairs).scanEnd region scan = (pass, z))

include passed runs scans tested ends

theorem bistComplete_of_control (control : region = 12) : bistComplete s now fail mem loadOk helper repairs scan speeds =
    z.ceTestEnds (if !pass && fail % 256 = 0 then 255 else fail % 256) mem := by
  simp only [bistComplete, ← passed, runs, scans, ← tested, ends, ne_eq, not_true_eq_false, decide_false, Bool.not_true,
    Bool.or_self, Bool.false_eq_true, if_false]
  simp only [control, if_true]

theorem bistComplete_of_basin (basin : region ≠ 12) : bistComplete s now fail mem loadOk helper repairs scan speeds =
    z.basinTestEnds region fail mem (mem || !loadOk || (!pass && fail = 0)) helper speeds := by
  simp only [bistComplete, ← passed, runs, scans, ← tested, ends, basin, ne_eq, not_true_eq_false, decide_false, Bool.not_true,
    Bool.or_self, Bool.false_eq_true, if_false]

end Bist

/-! ### Sectors and the reservoir map -/

theorem sectorFails_of_spare {n k : Nat} (spare : s.spareSector = some k) : s.sectorFails n =
    ((s.noteRsv 10 2 n (s.sectorPhys n) (4096 + k)).setRemap n (4096 + k)).eventSup Reg.FTH_ST_INT_STATUS_SPARE_IN
      Reg.FTH_ST_INT_EN_EN := by
  simp only [State.sectorFails, spare]

theorem repaired_sector (x : State) (n : BitVec 16) (o y : W32) (l : List (Nat × BitVec 16 × W32 × W32)) :
    x.repaired ((10, n, o, y) :: l) = (x.sectorFails (n.toNat % 4096)).repaired l := rfl

section Reservoir

variable {e : RsvEnt} {es : List RsvEnt} (waits : s.fth.rsvPending = e :: es)

include waits

theorem writeRsv_of_stands
    (stands : (s.fth.rsv.any fun x => x.kind == e.kind && x.unit == e.unit && x.old == e.old) = true) :
    s.writeRsv = { s with fth := { s.fth with rsvPending := es } } := by
  simp only [State.writeRsv, waits, stands, if_true]

theorem writeRsv_of_new
    (new : (s.fth.rsv.any fun x => x.kind == e.kind && x.unit == e.unit && x.old == e.old) = false) :
    s.writeRsv = { s with fth := { s.fth with
      rsvPending := es
      rsv := s.fth.rsv ++ [e]
      offline := if e.kind = 7 then setBits s.fth.offline e.unit 1 1 else s.fth.offline } } := by
  simp only [State.writeRsv, waits, new, Bool.false_eq_true, if_false]

end Reservoir

theorem exportTrailerSigned_of_batch {first n off a : Nat} {rest : List (Nat × Nat)} {seed t : List Byte}
    (batch : s.rpl.exp = some ((first, n) :: rest, off)) (key : s.fth.seed = some seed)
    (signed : t = s.trailer seed n (s.batchBytes first n)) (place : a = s.rd Reg.RPL_BASES_EXP * 1048576 + off)
    (written : z = (s.ipdWrite a t).ipdReqs a t.length true clsBulk) : exportTrailerSigned s =
      ({ z with fth := { z.fth with exportSeq := z.fth.exportSeq + 1 } } : State).writeBatch rest (off + t.length) := by
  simp only [exportTrailerSigned, batch, key, ← signed, ← place, ← written]

/-- A row that reads is run on the state that the access woke. -/
theorem runs_of_hostGet {t : State} {c : Instr} {page : Nat} {f : State → State}
    (row : exec c s = .next (s.hostGet p page f)) (may : MayRead s p page) (op : f (s.woken p) = t) : Runs s c t :=
  runs_of_row row ((hostGet_runs may).trans op)

end SelfTests

/-- Settles O43: the commands, the schedule and the completion of the self-tests, and the reads and writes of the logs. -/
theorem selfTestsAndLogsCompleteByTheirRules : Obligations.SelfTestsAndLogsCompleteByTheirRules := by
  unfold Obligations.SelfTestsAndLogsCompleteByTheirRules
  intro s now part bank region fail mem loadOk helper repairs scan speeds u w r v
  refine ⟨fun sup cycle idle basin image allowed => served_of_hostCmd rfl fun may =>
      fthStRegion_of_image may.pageAt sup rfl cycle idle basin image allowed,
    fun sup cycle idle small bridge => served_of_hostCmd rfl fun may =>
      fthStRegion_of_bridge may.pageAt sup rfl cycle idle small bridge, ?full,
    fun sup runs => served_of_hostCmd rfl fun may => fthStAbort_of_running may.pageAt sup runs, ?scheduled,
    fun deferred allowed => runs_of_row rfl (deferredTestStart_of_allowed rfl deferred allowed), ?bist, fun _ _ _ => rfl,
    fun n k spare => sectorFails_of_spare spare, repaired_sector, ?reservoir, ?trailer,
    fun may => runs_of_hostGet rfl may (flogCountRead_of_reads may.notTurnedAway), fun may => ⟨?flogEntry, ?flogBehind⟩,
    fun may => runs_of_hostGet rfl may (rsvCountRead_of_reads may.notTurnedAway), fun may => ⟨?rsvEntry, ?rsvBehind⟩⟩
  case full =>
    intro sup cycle idle z
    exact served_of_hostCmd rfl fun may => fthStFull_of_idle may.pageAt sup cycle idle rfl
  case scheduled =>
    intro image period due z none_
    exact runs_of_row rfl (scheduledTestStart_of_due rfl image period due rfl none_)
  case bist =>
    intro runs scans region pass z ends ces
    refine ⟨fun control o safe y outcome => ?control, fun basin o y outcome => ?basin⟩
    case control =>
      exact runs_of_row rfl ((bistComplete_of_control rfl runs scans rfl ends control).trans (ceTestEnds_of_outcome outcome))
    case basin =>
      intro held x a
      have completes := bistComplete_of_basin (fail := fail.toNat) (mem := mem) (loadOk := loadOk) (helper := helper)
        (speeds := speeds.map BitVec.toNat) rfl runs scans rfl ends basin
      exact ⟨fun lost => runs_of_row rfl (completes.trans (basinTestEnds_of_lost outcome rfl lost)),
        fun kept image => runs_of_row rfl (completes.trans (basinTestEnds_of_image outcome rfl kept rfl image)),
        fun kept bridge => runs_of_row rfl (completes.trans (basinTestEnds_of_bridge outcome rfl kept rfl bridge))⟩
  case reservoir =>
    intro e es waits f
    exact ⟨fun stands => runs_of_row rfl (writeRsv_of_stands waits stands),
      fun new => runs_of_row rfl (writeRsv_of_new waits new)⟩
  case trailer =>
    intro first n rest offset seed batch key t a z
    exact runs_of_row rfl (exportTrailerSigned_of_batch batch key rfl rfl rfl)
  case flogEntry =>
    intro e entry z
    exact runs_of_hostGet rfl may (flogDataRead_of_entry may.notTurnedAway entry)
  case flogBehind =>
    exact fun behind => runs_of_hostGet rfl may (flogDataRead_behind_last may.notTurnedAway behind)
  case rsvEntry =>
    intro e entry z
    exact runs_of_hostGet rfl may (rsvDataRead_of_entry may.notTurnedAway entry)
  case rsvBehind =>
    exact fun behind => runs_of_hostGet rfl may (rsvDataRead_behind_last may.notTurnedAway behind)

end Sys2Proof
end

section
/-! The accesses of a host to the register map and to BAR2 (Chapter 24). -/

namespace Sys2Proof

open Machine

section Accesses

variable {s : State} {p : Fin 4} {page addr v be : Nat}

/-- A write of a partition runs on the state that the access woke. -/
theorem hostWr_runs {f : State → State} (may : MayWrite s p.val page) : s.hostWr p.val page f = f (s.woken p.val) :=
  (if_pos p.isLt).symm.trans (hostCmd_runs may)

/-- A read of a partition runs on the state that the access woke. -/
theorem hostRd_runs {f : State → State} (may : MayRead s p.val page) : s.hostRd p.val page f = f (s.woken p.val) :=
  (if_pos p.isLt).symm.trans (hostGet_runs may)

/-! ### Writes -/

section Aligned

variable (aligned : addr % 4 = 0)

include aligned

theorem registerWrite_of_bar0 (may : MayWrite s p.val (addr / 65536)) : registerWrite s p.val false addr v =
    (s.woken p.val).wordWrite p.val (addr / 65536) (addr % 65536) v := by
  simp only [registerWrite, aligned, p.isLt, hostWr_runs may, ne_eq, not_true_eq_false, Bool.false_eq_true, if_false, if_true]

theorem registerWrite_of_controlPlane (image : s.imageRuns = true) (own : addr / 65536 = 3 ∨ addr / 65536 = 11) :
    registerWrite s 4 false addr v = s.wordWrite 4 (addr / 65536) (addr % 65536) v := by
  have reached : (s.imageRuns && (decide (addr / 65536 = 3) || decide (addr / 65536 = 11))) = true := by
    simpa [image] using own
  simp only [registerWrite, aligned, reached, Nat.lt_irrefl, ne_eq, not_true_eq_false, Bool.false_eq_true, if_false, if_true]

theorem registerWrite_of_doorbell (may : MayWrite s p.val 17) (doorbell : addr < 0x80000) :
    registerWrite s p.val true addr v = (s.woken p.val).bar2Write p.val addr v := by
  simp only [registerWrite, aligned, doorbell, hostWr_runs may, ne_eq, not_true_eq_false, if_false, if_true]

/-- The vector table is written as long as the page answers, a reset of the partition or not. -/
theorem registerWrite_of_vector (may : MayRead s p.val 17) (vector : 0x80000 ≤ addr) :
    registerWrite s p.val true addr v = (s.woken p.val).bar2Write p.val addr v := by
  simp only [registerWrite, aligned, Nat.not_lt.mpr vector, hostRd_runs may, ne_eq, not_true_eq_false, if_false, if_true]

end Aligned

theorem bar2Write_of_txDoorbell (p : Nat) (tx : addr < 0x40000) (whole : addr % 4096 = 0) :
    s.bar2Write p addr v = txDoorbellWrite s p (addr / 4096) v := by
  simp only [State.bar2Write, tx, whole, if_true]

theorem bar2Write_of_rxDoorbell (p : Nat) (above : 0x40000 ≤ addr) (rx : addr < 0x80000) (whole : addr % 4096 = 0) :
    s.bar2Write p addr v = rxDoorbellWrite s p (addr / 4096 - 64) v := by
  simp only [State.bar2Write, Nat.not_lt.mpr above, rx, whole, if_true, if_false]

theorem bar2Write_of_vector (p : Nat) (above : 0x80000 ≤ addr) (vector : addr < 0x88000) :
    s.bar2Write p addr v = s.msixWrite p ((addr - 0x80000) / 4) v := by
  have notTx : ¬ addr < 0x40000 := by omega
  simp only [State.bar2Write, notTx, Nat.not_lt.mpr above, vector, if_true, if_false]

/-! ### Reads -/

theorem counterLowWordRead_of_mayRead (aligned : addr % 4 = 0) (counter : counterWord (addr / 65536) (addr % 65536) = true)
    (may : MayRead s p.val (addr / 65536)) : counterLowWordRead s p.val addr be =
      (s.woken p.val).readMasked be fun v => (v.wordTake p.val (addr / 65536) (addr % 65536)).2.emit
        (.reg p.val (v.wordRead p.val (addr / 65536) (addr % 65536))) := by
  simp only [counterLowWordRead, aligned, counter, hostRd_runs may, ne_eq, not_true_eq_false, decide_false, Bool.not_true,
    Bool.or_self, Bool.false_eq_true, if_false]
  rfl

theorem readMasked_of_all {f : State → State} (all : be % 16 = 15) : s.readMasked be f = f s := if_pos all

theorem readMasked_of_some {f : State → State} (some_ : be % 16 ≠ 15) :
    s.readMasked be f = { s with out := (f s).out, fresh := (f s).fresh } := if_neg some_

section Snapshots

variable {q : Nat}

/-- The read of a domain's state: hseq and hst are the order number and state of its head, next and 0 without one. -/
theorem weirDomStat0Read_of_reads {dom next hseq hst : Nat} (reads : s.pageReads q 1 = true)
    (selected : dom = s.rd Reg.WEIR_DOM_SEL_DOMAIN) (nextSeq : next = SMap.get s.weir.nextSeq dom 0)
    (empty : s.domLine dom = [] → hseq = next ∧ hst = 0)
    (head : ∀ i l, s.domLine dom = i :: l →
      (s.slot i = none → hseq = next ∧ hst = 0) ∧ (∀ x, s.slot i = some x → hseq = x.d.seq ∧ hst = x.st)) :
    weirDomStat0Read s q = (s.setAll [(Reg.WEIR_DOM_STAT0_NEXT_SEQ, 0, 0, next), (Reg.WEIR_DOM_STAT1_HEAD_SEQ, 0, 0, hseq),
      (Reg.WEIR_DOM_STAT2_INFLIGHT, 0, 0, (s.domLine dom).length),
      (Reg.WEIR_DOM_STAT2_CLASS, 0, 0, s.classOfDomain dom),
      (Reg.WEIR_DOM_STAT2_HEAD_STATE, 0, 0, hst)]).emit (.reg q next) := by
  simp only [weirDomStat0Read, reads, ← selected, ← nextSeq, Bool.not_true, Bool.false_eq_true, if_false]
  cases line : s.domLine dom with
  | nil =>
    obtain ⟨rfl, rfl⟩ := empty line
    rfl
  | cons i l =>
    obtain ⟨gone, stands⟩ := head i l line
    cases slot : s.slot i with
    | none =>
      obtain ⟨rfl, rfl⟩ := gone slot
      simp only [slot]
    | some x =>
      obtain ⟨rfl, rfl⟩ := stands x slot
      simp only [slot]

theorem bsnChStat0Read_of_reads {id k : Nat} {t : State} (reads : s.pageReads q 9 = true)
    (selected : id = s.rd Reg.BSN_CH_SEL_INDEX)
    (channel : k = if 0x200 ≤ id then 12 * 1024 + id else s.rd Reg.BSN_CH_SEL_BASIN * 1024 + id)
    (shows : t = s.setAll [(Reg.BSN_CH_STAT0_FILL, 0, 0, s.chFill k), (Reg.BSN_CH_STAT0_ABOVE, 0, 0, flagBit (s.chan_ k).above),
      (Reg.BSN_CH_STAT0_OPEN, 0, 0, flagBit (!(s.chOpen k).isEmpty)),
      (Reg.BSN_CH_STAT0_HEAD_ABORTED, 0, 0, flagBit (s.headAborted k)), (Reg.BSN_CH_STAT1_PKTS, 0, 0, s.chWhole k)]) :
    bsnChStat0Read s q = t.emit (.reg q (s.chFill k + 2 ^ 24 * flagBit (s.chan_ k).above +
      2 ^ 25 * flagBit (!(s.chOpen k).isEmpty) + 2 ^ 26 * flagBit (s.headAborted k))) := by
  simp only [bsnChStat0Read, reads, ← selected, ← channel, ← shows, Bool.not_true, Bool.false_eq_true, if_false]

theorem pmpDescRead_of_reads {d : Nat} {t : State} (reads : s.pageReads q 8 = true)
    (selected : d = s.fld Reg.PMP_DESC_SEL_DESC 0 q)
    (shows : t = s.setAll ((List.range 4).map fun n => (Reg.PMP_DESC_W, n, q, s.descWord d n))) :
    pmpDescRead s q = t.emit (.reg q (t.descWord d 0)) := by
  simp only [pmpDescRead, reads, ← selected, ← shows, Bool.not_true, Bool.false_eq_true, if_false]

end Snapshots

end Accesses

/-- Settles O44: writes reach their command or their fields, reads apply their effects and take their snapshots. -/
theorem registerAccessesReachTheirFields : Obligations.RegisterAccessesReachTheirFields := by
  unfold Obligations.RegisterAccessesReachTheirFields
  intro s part addr be w m a page off
  refine ⟨fun aligned may => runs_of_row rfl (registerWrite_of_bar0 aligned may),
    fun aligned image own => runs_of_row rfl (registerWrite_of_controlPlane aligned image own), fun aligned => ?bar2,
    fun may => runs_of_row rfl (hostWr_runs may),
    fun aligned counter may => runs_of_row rfl (counterLowWordRead_of_mayRead aligned counter may),
    fun aligned may => runs_of_row rfl (rcFieldRead_of_mayRead be.toNat aligned may), fun v f => ?masked, rfl, fun may => ?domain,
    fun may => ?channel, fun may => ?descriptor⟩
  case bar2 =>
    refine ⟨fun tx whole may => ?tx, fun above rx whole may => ?rx, fun above vector may => ?vector⟩
    case tx =>
      have doorbell : a < 0x80000 := by omega
      exact runs_of_row rfl ((registerWrite_of_doorbell aligned may doorbell).trans (bar2Write_of_txDoorbell _ tx whole))
    case rx =>
      exact runs_of_row rfl ((registerWrite_of_doorbell aligned may rx).trans (bar2Write_of_rxDoorbell _ above rx whole))
    case vector =>
      exact runs_of_row rfl ((registerWrite_of_vector aligned may above).trans (bar2Write_of_vector _ above vector))
  case masked =>
    refine ⟨fun all => readMasked_of_all (by rw [all]; rfl), fun some_ => readMasked_of_some fun all => some_ ?_⟩
    bv_omega
  case domain =>
    intro dom next hseq hst empty head
    exact runs_of_row rfl ((hostGet_runs may).trans (weirDomStat0Read_of_reads may.pageAt rfl rfl empty head))
  case channel =>
    intro id k v
    exact runs_of_row rfl ((hostGet_runs may).trans (bsnChStat0Read_of_reads may.pageAt rfl rfl rfl))
  case descriptor =>
    intro d v
    exact runs_of_row rfl ((hostGet_runs may).trans (pmpDescRead_of_reads may.pageAt rfl rfl))

end Sys2Proof
end
